-- ==== Sys2Proof/Word.lean ====
section
/-! DEFINITION. The word types of the CSD-192: registers are 32 bits wide (R4), memories hold bytes (R373). -/

namespace Sys2Proof

/-- A 32-bit register word (R4). -/
abbrev Word := BitVec 32

/-- One byte of a memory (R373). -/
abbrev Byte := BitVec 8

/-- A 64-bit quantity: a register pair (R7), a stamp64, pos64, vel64, acc64 or jrk64 (R2). -/
abbrev Word64 := BitVec 64

end Sys2Proof
end

