-- ==== Sys2Proof/Syntax.lean ====
section
/-! DEFINITION. The commands of the block: one constructor per row of the specification's table of operations and events,
with the operands that the row's rule gives it.  A command is what comes to the device from outside (a register access, a
frame, a pin edge, a measured value) or an event of its own clocks whose rule fixes when it is due. -/

namespace Sys2Proof

/-- A command: a row of the table of operations and events. -/
inductive Instr where
  | regWrite (path : Fin 36) (a v : BitVec 32)
  | powerOnRelease (above : BitVec 9)
  | supplyLow
  | resetN
  | xsReset (path : Fin 36) (v : BitVec 32)
  | loaderStart (errs : BitVec 2)
  | copyChecked (err : Bool) (at_ : BitVec 32)
  | recoveryFillDone
  | assignApply
  | loaderTgApply (stuck failed : BitVec 16)
  | beatBoundary
  | latchPhase
  | dispatchDeadline
  | beatCommit
  | clearOvr
  | tbTrimWrite (v : BitVec 32)
  | slackIntervalEnd
  | go (k : Fin 192)
  | jog (k : Fin 192)
  | limits (k : Fin 192)
  | hold (k : Fin 192)
  | resume (k : Fin 192)
  | stop (k : Fin 192)
  | qstop (k : Fin 192)
  | shift (k : Fin 192)
  | plDepthWrite (k : Fin 192) (v : BitVec 32)
  | offDelayElapsed (k : Fin 192)
  | formConvoy (c : Fin 32)
  | dissolve (c : Fin 32)
  | cyHold (c : Fin 32)
  | cyResume (c : Fin 32)
  | cyStop (c : Fin 32)
  | cyQstop (c : Fin 32)
  | cyLimits (c : Fin 32)
  | engage (c : Fin 32) (j : Fin 8)
  | disengage (c : Fin 32) (j : Fin 8)
  | cyFlush (c : Fin 32)
  | gpCtrlWrite (g : Fin 16) (v : BitVec 32)
  | stModeWrite (g : Fin 16) (v : BitVec 32)
  | stepEmit (g : Fin 16)
  | enableRequest (k : Fin 192) (rest : BitVec 31)
  | disableRequest (k : Fin 192) (rest : BitVec 31)
  | brakeRelElapsed (k : Fin 192)
  | alignmentEnd (k : Fin 192)
  | paramCommit (k : Fin 192)
  | clearInt (k : Fin 192)
  | mnop (e : Fin 28) (a : Fin 4) (x y : Fin 32) (clr neg : Bool) (alu : BitVec 20) (mv : BitVec 24)
  | mac (e : Fin 28) (a : Fin 4) (x y : Fin 32) (clr neg : Bool) (alu : BitVec 20) (mv : BitVec 24)
  | macu (e : Fin 28) (a : Fin 4) (x y : Fin 32) (clr neg : Bool) (alu : BitVec 20) (mv : BitVec 24)
  | mac2 (e : Fin 28) (a : Fin 4) (x y : Fin 32) (clr neg : Bool) (alu : BitVec 20) (mv : BitVec 24)
  | mdot4 (e : Fin 28) (a : Fin 4) (x y : Fin 32) (clr neg : Bool) (alu : BitVec 20) (mv : BitVec 24)
  | mbc4 (e : Fin 28) (a : Fin 4) (x y : Fin 32) (clr neg : Bool) (alu : BitVec 20) (mv : BitVec 24)
  | mrot (e : Fin 28) (a : Fin 4) (x y : Fin 32) (clr neg : Bool) (alu : BitVec 20) (mv : BitVec 24)
  | mroti (e : Fin 28) (a : Fin 4) (x y : Fin 32) (clr neg : Bool) (alu : BitVec 20) (mv : BitVec 24)
  | madds (e : Fin 28) (a : Fin 4) (x y : Fin 32) (clr neg : Bool) (alu : BitVec 20) (mv : BitVec 24)
  | nop (e : Fin 28) (mac : BitVec 20) (mv : BitVec 24)
  | add (e : Fin 28) (rd rs rt : Fin 32) (mac : BitVec 20) (mv : BitVec 24)
  | sub (e : Fin 28) (rd rs rt : Fin 32) (mac : BitVec 20) (mv : BitVec 24)
  | sadd (e : Fin 28) (rd rs rt : Fin 32) (mac : BitVec 20) (mv : BitVec 24)
  | ssub (e : Fin 28) (rd rs rt : Fin 32) (mac : BitVec 20) (mv : BitVec 24)
  | and32 (e : Fin 28) (rd rs rt : Fin 32) (mac : BitVec 20) (mv : BitVec 24)
  | or32 (e : Fin 28) (rd rs rt : Fin 32) (mac : BitVec 20) (mv : BitVec 24)
  | xor (e : Fin 28) (rd rs rt : Fin 32) (mac : BitVec 20) (mv : BitVec 24)
  | shl (e : Fin 28) (rd rs rt : Fin 32) (mac : BitVec 20) (mv : BitVec 24)
  | shr (e : Fin 28) (rd rs rt : Fin 32) (mac : BitVec 20) (mv : BitVec 24)
  | sar (e : Fin 28) (rd rs rt : Fin 32) (mac : BitVec 20) (mv : BitVec 24)
  | min (e : Fin 28) (rd rs rt : Fin 32) (mac : BitVec 20) (mv : BitVec 24)
  | max (e : Fin 28) (rd rs rt : Fin 32) (mac : BitVec 20) (mv : BitVec 24)
  | clamp (e : Fin 28) (rd rs rt : Fin 32) (mac : BitVec 20) (mv : BitVec 24)
  | abs (e : Fin 28) (rd rs : Fin 32) (mac : BitVec 20) (mv : BitVec 24)
  | cmp (e : Fin 28) (rs rt : Fin 32) (mac : BitVec 20) (mv : BitVec 24)
  | addi (e : Fin 28) (rd : Fin 32) (imm : BitVec 10) (mac : BitVec 20) (mv : BitVec 24)
  | nrw (e : Fin 28) (rd : Fin 32) (a : Fin 4) (sh : Fin 64) (mac : BitVec 20) (mv : BitVec 24)
  | nrwr (e : Fin 28) (rd : Fin 32) (a : Fin 4) (rs : Fin 32) (mac : BitVec 20) (mv : BitVec 24)
  | bra (e : Fin 28) (target : BitVec 14) (mac : BitVec 20) (mv : BitVec 24)
  | beq (e : Fin 28) (target : BitVec 14) (mac : BitVec 20) (mv : BitVec 24)
  | bne (e : Fin 28) (target : BitVec 14) (mac : BitVec 20) (mv : BitVec 24)
  | blt (e : Fin 28) (target : BitVec 14) (mac : BitVec 20) (mv : BitVec 24)
  | bge (e : Fin 28) (target : BitVec 14) (mac : BitVec 20) (mv : BitVec 24)
  | call (e : Fin 28) (target : BitVec 14) (mac : BitVec 20) (mv : BitVec 24)
  | ret (e : Fin 28) (mac : BitVec 20) (mv : BitVec 24)
  | waits (e : Fin 28) (rd : Fin 32) (mac : BitVec 20) (mv : BitVec 24)
  | endProgram (e : Fin 28) (mac : BitVec 20) (mv : BitVec 24)
  | rete (e : Fin 28) (mac : BitVec 20) (mv : BitVec 24)
  | emask (e : Fin 28) (m : Bool) (mac : BitVec 20) (mv : BitVec 24)
  | clrf (e : Fin 28) (mask : BitVec 4) (mac : BitVec 20) (mv : BitVec 24)
  | moveNop (e : Fin 28) (mac alu : BitVec 20)
  | ld (e : Fin 28) (g : Fin 32) (p : Fin 8) (inc : BitVec 8) (mac alu : BitVec 20)
  | ldp (e : Fin 28) (g : Fin 32) (p : Fin 8) (inc : BitVec 8) (mac alu : BitVec 20)
  | ldq (e : Fin 28) (g : Fin 32) (p : Fin 8) (inc : BitVec 8) (mac alu : BitVec 20)
  | st (e : Fin 28) (g : Fin 32) (p : Fin 8) (inc : BitVec 8) (mac alu : BitVec 20)
  | stp (e : Fin 28) (g : Fin 32) (p : Fin 8) (inc : BitVec 8) (mac alu : BitVec 20)
  | stq (e : Fin 28) (g : Fin 32) (p : Fin 8) (inc : BitVec 8) (mac alu : BitVec 20)
  | ldxy (e : Fin 28) (qx a qy b ia ib : Fin 8) (mac alu : BitVec 20)
  | ldi (e : Fin 28) (rd : Fin 32) (imm : BitVec 14) (mac alu : BitVec 20)
  | mva (e : Fin 28) (cl : Fin 3) (k : Fin 8) (rs : Fin 32) (mac alu : BitVec 20)
  | mvg (e : Fin 28) (rd : Fin 32) (cl : Fin 3) (k : Fin 8) (mac alu : BitVec 20)
  | stage (e : Fin 28) (rs : Fin 32) (mac alu : BitVec 20)
  | ckpt (e : Fin 28) (rs : Fin 32) (mac alu : BitVec 20)
  | hbeat (e : Fin 28) (rs : Fin 32) (mac alu : BitVec 20)
  | bld (e : Fin 28) (p : Fin 8) (rs rl : Fin 32) (mac alu : BitVec 20)
  | bst (e : Fin 28) (p : Fin 8) (rs rl : Fin 32) (mac alu : BitVec 20)
  | bsync (e : Fin 28) (mac alu : BitVec 20)
  | ledg (e : Fin 28) (rs : Fin 32) (mac alu : BitVec 20)
  | mbxs (e : Fin 28) (mac alu : BitVec 20)
  | eventAccept (e : Fin 28) (w : BitVec 64)
  | bulkDone (e : Fin 28)
  | ckptDone (e : Fin 28)
  | feedbackComplete (k : Fin 192)
  | dvClearCnt (e : Fin 28)
  | quadEdge (p : Fin 16) (ab : Fin 4)
  | hallEdge (p : Fin 16) (uvw : Fin 8)
  | zEdge (p : Fin 16) (rising : Bool)
  | ssiTransferDone (p : Fin 16) (w : BitVec 64)
  | bissTransferDone (p : Fin 16) (w : BitVec 128) (dly : BitVec 16)
  | frameFormatDone (p : Fin 16) (resp : BitVec 1024)
  | serialTimeout (p : Fin 16)
  | fbCtrlWrite (p : Fin 16) (v : BitVec 32)
  | fbSerWrite (p : Fin 16) (v : BitVec 32)
  | fbTimingWrite (p : Fin 16) (v : BitVec 32)
  | fbClearCnt (p : Fin 16)
  | axFbSrcWrite (k : Fin 192) (v : BitVec 32)
  | setpos (k : Fin 192)
  | rideEnd (k : Fin 192)
  | refillRecord
  | msFlush (m : Fin 16)
  | force (m : Fin 16)
  | skip (m : Fin 16)
  | msCtrlWrite (m : Fin 16) (v : BitVec 32)
  | pulseFire (m : Fin 16)
  | pulseEnd (m : Fin 16)
  | latchEdge (u : Fin 16) (falling : Bool)
  | captureComplete (u : Fin 16)
  | rearm (u : Fin 16)
  | ltClearCnt (u : Fin 16)
  | ltCtrlWrite (u : Fin 16) (v : BitVec 32)
  | slotComplete (c n : Fin 16) (ws : List (BitVec 16))
  | frameComplete (c : Fin 16) (marker : BitVec 16) (rstb : Bool) (loop : BitVec 16)
  | census (c : Fin 16)
  | censusResetWaitEnd (c : Fin 16)
  | identityFrame (c : Fin 16) (rx : BitVec 1120) (loop : BitVec 16)
  | configFrame (c : Fin 16)
  | echoFrame (c : Fin 16) (ws : List (BitVec 64)) (marker : BitVec 32)
  | censusRetry (c : Fin 16)
  | tkStart (c : Fin 16)
  | tkStop (c : Fin 16)
  | tkClearCnt (c : Fin 16)
  | tkCtrlWrite (c : Fin 16) (v : BitVec 32)
  | tkTimingWrite (c : Fin 16) (v : BitVec 32)
  | periodStart (k : Fin 12)
  | periodMiddle (k : Fin 12)
  | chop (k : Fin 12)
  | tripInput (m : Fin 8)
  | softTrip (v : BitVec 32)
  | tripClear (v : BitVec 32)
  | pairCommit (p : Fin 12) (outHi : Bool)
  | mbCommit (k : Fin 192)
  | mbBindingWrite (k : Fin 192) (reg : Fin 3) (v : BitVec 32)
  | round
  | itStart (k : Fin 64) (atState : Bool) (state : BitVec 8)
  | pause (k : Fin 64)
  | continueRun (k : Fin 64)
  | abortRun (k : Fin 64)
  | heartbeatVerdict
  | loadComplete (e : Fin 28)
  | selfTestDone (e : Fin 28) (result : Fin 4) (step_ : BitVec 16)
  | outriderPeriod
  | swap (e : Fin 32)
  | retire (e : Fin 32)
  | update (image : Fin 8)
  | updateSwapPeriod
  | abortUpdate
  | cvClearCnt
  | imgBaseWrite (n : Fin 8) (v : BitVec 32)
  | ledgerMessage
  | recover (c n : BitVec 8)
  | lgClearCnt
  | release (k : BitVec 8)
  | releaseAll
  | clearSafe
  | lgClose
  | keyNonceRead (path : Fin 36)
  | lgKeyWrite (path : Fin 36) (v : BitVec 32)
  | testSpaceTimeout
  | injFire (c n : BitVec 8) (k : BitVec 6) (count : BitVec 8)
  | scrubRead
  | scrubNow
  | memRetire
  | pageCopyDone
  | memClearCnt
  | evaluationCycle (samples : BitVec 256) (high low : BitVec 4) (pins : BitVec 16) (sound : Bool)
  | discrepancy (n : Fin 8)
  | testPulse (k : Fin 4) (low cross : BitVec 16)
  | offTest (o : Fin 4) (phase : Fin 3)
  | ss1TimeElapsed (z : Fin 8)
  | slsRampElapsed (z : Fin 8)
  | speedRecord (k : Fin 192) (good : Bool)
  | limpEnd (z : Fin 8)
  | stoStale (k : Fin 16)
  | keepaliveLoss (k : Fin 16)
  | zoneDecisionAccept (z : Fin 8)
  | tgAck (zones : BitVec 8)
  | service (path : Fin 36)
  | leave
  | apply
  | tgClearCnt
  | fieldLevelAccept (c : Fin 40) (level raw : Bool) (count : BitVec 16)
  | fioOutSet (upper : Bool) (mask : BitVec 32)
  | fioOutClr (upper : Bool) (mask : BitVec 32)
  | fioChCtrlWrite (c : Fin 40) (v : BitVec 32)
  | fioClearCnt
  | wiringFault (c : Fin 40) (cause : Fin 8) (raw : Bool)
  | wiringFaultClear (c : Fin 40)
  | overload (c : Fin 40) (raw : Bool)
  | retry (c : Fin 40)
  | sumLimit (cur : List (BitVec 16))
  | vfieldMeasure (mv : BitVec 17)
  | refreshFrame (g : Fin 5)
  | fieldWatchdog (g : Fin 5)
  | couplerFail (c : Fin 45)
  | arm
  | rcForce
  | rcStop
  | rcRelease
  | recorderFrame
  | recordSend
  | mdioPoll (p : Fin 2) (link : Bool) (speed : Fin 4) (half : Bool)
  | frameReceive (p : Fin 2) (fcs : Bool) (frame : List (BitVec 8))
  | sync (p : Fin 2) (twoStep : Bool) (src : BitVec 80) (seq : BitVec 16) (domain : BitVec 8) (t1 corr : Int) (log : BitVec 8) (sub : Fin 64)
  | followUp (p : Fin 2) (src : BitVec 80) (seq : BitVec 16) (t1 corr : Int)
  | delayResp (p : Fin 2) (src : BitVec 80) (seq : BitVec 16) (t4 corr : Int)
  | announce (p : Fin 2) (src : BitVec 80) (domain prio1 : BitVec 8) (quality : BitVec 32) (prio2 : BitVec 8) (gm : BitVec 64) (steps : BitVec 16) (log : BitVec 8)
  | delayReq (p : Fin 2) (sub : Fin 64)
  | syncTransmit (p : Fin 2) (sub : Fin 64)
  | announceTransmit (p : Fin 2)
  | holdover
  | holdQualTimeout
  | wholeSecond (refA refB : BitVec 16)
  | timeSet
  | timeReset
  | ppsIn (sub : Fin 64)
  | syncIn (sub : Fin 64)
  | syncMatch
  | refFail (ref : Fin 2) (err : BitVec 32)
  | hello (port : Fin 2) (src : BitVec 48) (seq : BitVec 32) (keyId : BitVec 8) (nh : List (BitVec 8))
  | openSession (port : Fin 2) (src : BitVec 48) (k : Fin 5) (seq : BitVec 32) (proof : List (BitVec 8))
  | close (port : Fin 2) (k : Fin 5) (seq : BitVec 32)
  | handshakeTimeout (k : Fin 5)
  | sessionTimeout (k : Fin 5)
  | read (port : Fin 2) (k : Fin 5) (seq a : BitVec 32)
  | write (port : Fin 2) (k : Fin 5) (seq a v : BitVec 32)
  | readBlock (port : Fin 2) (k : Fin 5) (seq a : BitVec 32) (count : BitVec 16)
  | writeBlock (port : Fin 2) (k : Fin 5) (seq a : BitVec 32) (vs : List (BitVec 32))
  | tableLoad (port : Fin 2) (k : Fin 5) (seq : BitVec 32) (table : BitVec 16) (off : BitVec 32) (bs : List (BitVec 8))
  | tableCommit (port : Fin 2) (k : Fin 5) (seq : BitVec 32) (table : BitVec 16)
  | moveGo (port : Fin 2) (k : Fin 5) (seq : BitVec 32) (axis : BitVec 8) (relative : Bool) (value : BitVec 64) (limits : Bool) (mask : BitVec 16) (lims : BitVec 512)
  | moveJog (port : Fin 2) (k : Fin 5) (seq : BitVec 32) (axis : BitVec 8) (value : BitVec 64) (limits : Bool) (mask : BitVec 16) (lims : BitVec 512)
  | moveSegments (port : Fin 2) (k : Fin 5) (seq : BitVec 32) (convoy : BitVec 8) (segs : List (BitVec 8)) (limits : Bool) (mask : BitVec 16) (lims : BitVec 512)
  | moveShift (port : Fin 2) (k : Fin 5) (seq : BitVec 32) (axis : BitVec 8) (value : BitVec 64) (limits : Bool) (mask : BitVec 16) (lims : BitVec 512)
  | moveResume (port : Fin 2) (k : Fin 5) (seq : BitVec 32) (convoy : Bool) (id : BitVec 8) (limits : Bool) (mask : BitVec 16) (lims : BitVec 512)
  | stopCmdHold (port : Fin 2) (k : Fin 5) (seq : BitVec 32) (tgt id : BitVec 8)
  | stopCmdStop (port : Fin 2) (k : Fin 5) (seq : BitVec 32) (tgt id : BitVec 8)
  | stopCmdQstop (port : Fin 2) (k : Fin 5) (seq : BitVec 32) (tgt id : BitVec 8)
  | itinFlags (port : Fin 2) (k : Fin 5) (seq : BitVec 32) (inst : BitVec 8) (set clr : BitVec 32)
  | itinStart (port : Fin 2) (k : Fin 5) (seq : BitVec 32) (inst state : BitVec 8) (atState : Bool) (set clr : BitVec 32)
  | itinPause (port : Fin 2) (k : Fin 5) (seq : BitVec 32) (inst : BitVec 8) (set clr : BitVec 32)
  | itinContinue (port : Fin 2) (k : Fin 5) (seq : BitVec 32) (inst : BitVec 8) (set clr : BitVec 32)
  | itinAbort (port : Fin 2) (k : Fin 5) (seq : BitVec 32) (inst : BitVec 8) (set clr : BitVec 32)
  | pull (port : Fin 2) (k : Fin 5) (seq : BitVec 32) (queue : BitVec 8) (claim : Bool) (most : BitVec 16) (first : BitVec 32)
  | ack (port : Fin 2) (k : Fin 5) (seq : BitVec 32) (queue : BitVec 8) (upto : BitVec 32)
  | push (port : Fin 2) (k : Fin 5) (seq : BitVec 32) (queue : BitVec 8) (target : BitVec 32) (payload : List (BitVec 8))
  | flashWrite (port : Fin 2) (k : Fin 5) (seq : BitVec 32) (flash : BitVec 8) (a : BitVec 32) (bs : List (BitVec 8))
  | flashErase (port : Fin 2) (k : Fin 5) (seq : BitVec 32) (flash : BitVec 8) (a sectors : BitVec 32)
  | flashOpDone (p : Fin 2) (result : Fin 5) (at_ : BitVec 32)
  | closeSession (k : BitVec 4)
  | lnClearCnt
  | canEnable (b : Fin 2) (rest : BitVec 31)
  | canDisable (b : Fin 2) (rest : BitVec 31)
  | integrationDone (b : Fin 2)
  | canRecover (b : Fin 2)
  | busOffRecovered (b : Fin 2)
  | cfClearCnt (b : Fin 2)
  | txCopy (b : Fin 2)
  | canFrameSent (b : Fin 2) (ref ok : Bool) (sof : BitVec 32) (tdcv : BitVec 8)
  | canFrameReceived (b : Fin 2) (id : BitVec 32) (dlc : Fin 16) (esi rtr : Bool) (data : List (BitVec 8)) (sof : BitVec 32)
  | cycleStart (b : Fin 2) (started : BitVec 32)
  | mappedRead (p : Fin 2) (a : BitVec 26)
  | lineFill (p : Fin 2) (a : BitVec 26) (err : Bool)
  | xsStage (p : Fin 2)
  | verify (p : Fin 2)
  | program (slot : Fin 4)
  | revoke (slot : Fin 4)
  | vmonMeasure (vcore vddpll : BitVec 16) (low : BitVec 9)
  | tempMeasure (tj : BitVec 16)
  | tapReset
  | extest (pins scan : BitVec 317)
  | samplePreload (pins scan : BitVec 317)
  | idcode
  | jtagClamp
  | highz
  | deviceReset
  | regAccess (word : BitVec 66)
  | bypass
  | illegalWord (e : Fin 28) (w : BitVec 64)
  | passThroughEdge (p : Fin 16) (levels : Fin 8)
  | emuEdge (p : Fin 16)
  | compareMatch (k : Fin 12)
  | deadTimeEnd (k : Fin 12)
  | tripInactive (m : Fin 8)
  | ppsOutEnd
  | syncOutEnd
  | xsStageDone (p : Fin 2)
  | verifyDone (p : Fin 2) (err : Bool) (at_ : BitVec 32)
  | protocolException (b : Fin 2)
  | canRxError (b : Fin 2) (eight : Bool)
  deriving DecidableEq, Repr

end Sys2Proof
end

