-- ==== Sys2Proof/Decode.lean ====
section
/-! DEFINITION. The commands that a word spells by the bits of the table of operations and events. -/

namespace Sys2Proof

/-- No row of the table gives its command bits: commands arrive as register accesses, frames, edges and events, not as
words, so no word spells one. -/
def decodeTableWord (_nbits _w : Nat) : Option Instr := none

end Sys2Proof
end

