-- ==== Sys2Proof/Config.lean ====
section
/-! DEFINITION. What one part or one installation fixes and the spec leaves open, and the FREE VALUES: constants with
no body, so that nothing can be proved of the value they give (notes/assumptions/1, 2). -/

namespace Sys2Proof.Config

/-- The free value number `n`: wherever the spec leaves a value open and the machine goes on, the step takes the next
number of `Device.free` (notes/assumptions/1). -/
opaque free64 : Nat → BitVec 64

/-- GL_SERIAL, "per part" (the register table of spec/21_package_and_electrical.md; notes/assumptions/2). -/
opaque serial : BitVec 64

/-- R106: the error of the sine table at a table position, in units of 2⁻³⁰; the spec only bounds it
(notes/assumptions/3). -/
opaque sineError : Nat → BitVec 10

/-- The bytes of the stock loop image in the on-die ROM (R156, R348), which the spec does not give
(notes/assumptions/6). -/
opaque stockRom : Nat → BitVec 8

/-- RC_BW for a RATE code without a sample period, and the rounding of a bandwidth that is no whole number, by the word of
RC_CTRL, FRAME_BYTES and LEN: R443 states neither (notes/assumptions/40). -/
opaque recorderRate : Nat → Nat → Nat → BitVec 32

end Sys2Proof.Config
end

