-- ==== Sys2Proof/Machine/Bits.lean ====
section
/-! DEFINITION. Bit fields, sign extension, byte order, saturation and exact roots: the small arithmetic that every
unit uses. -/

namespace Sys2Proof.Machine

/-- Bits `lo` up to `lo + w - 1` of a number. -/
def bits (n lo w : Nat) : Nat := n / 2 ^ lo % 2 ^ w

/-- Bit `i` of a number, as a Bool. -/
def bit (n i : Nat) : Bool := n / 2 ^ i % 2 == 1

/-- A word with the field of width `w` at `lo` replaced. -/
def insBits (x : BitVec 32) (lo w v : Nat) : BitVec 32 :=
  let m : BitVec 32 := BitVec.ofNat 32 ((2 ^ w - 1) * 2 ^ lo)
  (x &&& ~~~m) ||| (BitVec.ofNat 32 (v % 2 ^ w * 2 ^ lo) &&& m)

/-- The low `w` bits of a number read as two's complement. -/
def toS (w n : Nat) : Int :=
  let m := n % 2 ^ w
  if 2 * m < 2 ^ w then (m : Int) else (m : Int) - (2 ^ w : Nat)

/-- An integer's two's complement in `w` bits. -/
def ofS (w : Nat) (i : Int) : Nat := (i % ((2 ^ w : Nat) : Int)).toNat

/-- An integer clamped to the range of a signed number of `w` bits. -/
def satS (w : Nat) (i : Int) : Int :=
  let h : Int := ((2 ^ (w - 1) : Nat) : Int)
  if i < -h then -h else if i > h - 1 then h - 1 else i

/-- A number clamped to `w` bits: a count that saturates. -/
def satU (w n : Nat) : Nat := if n < 2 ^ w then n else 2 ^ w - 1

/-- An integer clamped to `lo .. hi`. -/
def clampI (lo hi x : Int) : Int := if x < lo then lo else if x > hi then hi else x

/-- The little-endian bytes of a number, `k` of them. -/
def leBytes : Nat → Nat → List (BitVec 8)
  | _, 0 => []
  | n, k + 1 => BitVec.ofNat 8 n :: leBytes (n / 256) k

/-- The number little-endian bytes spell. -/
def ofLe : List (BitVec 8) → Nat
  | [] => 0
  | b :: bs => b.toNat + 256 * ofLe bs

/-- The number big-endian bytes spell. -/
def ofBe (bs : List (BitVec 8)) : Nat := bs.foldl (fun a b => a * 256 + b.toNat) 0

/-- `n` bytes of a list from an offset, zeros beyond its end. -/
def slice (bs : List (BitVec 8)) (off n : Nat) : List (BitVec 8) :=
  let s := (bs.drop off).take n
  s ++ List.replicate (n - s.length) 0

/-- The little-endian number of `n` bytes at an offset. -/
def leAt (bs : List (BitVec 8)) (off n : Nat) : Nat := ofLe (slice bs off n)

/-- Floor division by a positive number, for fixed-point shifts. -/
def fdiv (a : Int) (b : Nat) : Int := a / (b : Int)

/-- Division truncated toward zero. -/
def tdiv (a b : Int) : Int := a.tdiv b

/-- Division rounded to nearest, halves away from zero. -/
def rdiv (a : Int) (b : Nat) : Int :=
  if a < 0 then -((-a + (b / 2 : Nat)) / (b : Int)) else (a + (b / 2 : Nat)) / (b : Int)

/-- Ceiling division of naturals. -/
def cdiv (a b : Nat) : Nat := (a + b - 1) / b

/-- The largest `r` below `2 ^ fuel` with `r * r ≤ n`, found bit by bit. -/
def isqrtAux (n : Nat) : Nat → Nat → Nat
  | 0, r => r
  | f + 1, r =>
    let c := r + 2 ^ f
    isqrtAux n f (if c * c ≤ n then c else r)

/-- The integer square root of a number below `2 ^ 512`. -/
def isqrt (n : Nat) : Nat := isqrtAux n 256 0

/-- The number of ones among the low `w` bits. -/
def popCount : Nat → Nat → Nat
  | 0, _ => 0
  | w + 1, n => n % 2 + popCount w (n / 2)

/-- The parity of the low `w` bits. -/
def parity (w n : Nat) : Bool := popCount w n % 2 == 1

/-- The positions of the ones among the low `w` bits, rising. -/
def onesOf (w n : Nat) : List Nat := (List.range w).filter (fun i => bit n i)

/-- A number with bit `i` set or cleared. -/
def setBit (n i : Nat) (v : Bool) : Nat :=
  if bit n i then (if v then n else n - 2 ^ i) else (if v then n + 2 ^ i else n)

/-- Bitwise AND, OR, XOR and AND-NOT of numbers. -/
def andN (a b : Nat) : Nat := a &&& b
/-- Bitwise difference: the bits of `a` that `b` does not hold. -/
def diffN (a b : Nat) : Nat := a - (a &&& b)

/-- 1 for true, 0 for false. -/
def b2n (b : Bool) : Nat := if b then 1 else 0

/-- The maximum of a list of numbers, 0 for none. -/
def maxL (l : List Nat) : Nat := l.foldl max 0

/-- A CRC of `w` bits over bytes, most significant bit first, not reflected (R184, R247). -/
def crcMsb (w poly init : Nat) (bs : List (BitVec 8)) : Nat :=
  let top := 2 ^ (w - 1)
  let stepBit := fun (c : Nat) (b : Bool) =>
    let t := decide (top ≤ c) != b
    let s := c * 2 % 2 ^ w
    if t then s ^^^ poly else s
  bs.foldl (fun c x => ([7, 6, 5, 4, 3, 2, 1, 0].foldl (fun c i => stepBit c (bit x.toNat i)) c)) init

/-- A CRC of `w` bits over single bits in the order given. -/
def crcBits (w poly init : Nat) (bs : List Bool) : Nat :=
  let top := 2 ^ (w - 1)
  bs.foldl (fun c b =>
    let t := decide (top ≤ c) != b
    let s := c * 2 % 2 ^ w
    if t then s ^^^ poly else s) init

/-- The CRC-32 of IEEE 802.3 (R167): reflected polynomial 0xEDB8_8320, initial and final value all ones. -/
def crc32 (bs : List (BitVec 8)) : Nat :=
  let r := bs.foldl (fun (c : Nat) b =>
    let c0 := c ^^^ b.toNat
    [0, 1, 2, 3, 4, 5, 6, 7].foldl (fun c _ => if c % 2 = 1 then c / 2 ^^^ 0xEDB88320 else c / 2) c0) 0xFFFFFFFF
  r ^^^ 0xFFFFFFFF

end Sys2Proof.Machine
end

