-- ==== Sys2Proof/Machine/Regs.lean ====
section
/-! DEFINITION. The register map of the CSD-192: the address of every register (R9, R11 and the register tables of
each chapter), every field's place, the reset word of every register and the write masks of its access types (R4–R6).
The names are the spec's own. -/

namespace Sys2Proof.Machine

/-- A field of a 32-bit register: the register's address, the field's lowest bit and its width. -/
structure Fld where
  addr : Nat
  lo : Nat
  width : Nat
  deriving DecidableEq, Repr

/-- One row of the register tables: the address of instance 0, two instance strides with their counts, whether the
register is a 64-bit pair (R7), its reset value, and the masks of its RW (and RWS), W1C and WO bits (R6).  `flag` is
1 for a register marked "service" (R420), 2 for one marked "idle" (R446), 3 for a shadow register (RWS). -/
structure RegRow where
  base : Nat
  s1 : Nat
  n1 : Nat
  s2 : Nat
  n2 : Nat
  pair : Bool
  reset : Nat
  rw : Nat
  w1c : Nat
  wo : Nat
  flag : Nat
  deriving DecidableEq, Repr

/-- spec/01_beat.md, register TB_BEAT_LEN. -/
def TB_BEAT_LEN : Nat := 0x10000
def TB_BEAT_LEN_LEN : Fld := ⟨TB_BEAT_LEN, 0, 13⟩
/-- spec/01_beat.md, register TB_PHASE. -/
def TB_PHASE : Nat := 0x10004
def TB_PHASE_DEADLINE : Fld := ⟨TB_PHASE, 16, 13⟩
def TB_PHASE_LATCH : Fld := ⟨TB_PHASE, 0, 13⟩
/-- spec/01_beat.md, register TB_TRIM. -/
def TB_TRIM : Nat := 0x10008
def TB_TRIM_ALIGN_EN : Fld := ⟨TB_TRIM, 8, 1⟩
def TB_TRIM_TRIM_MAX : Fld := ⟨TB_TRIM, 0, 4⟩
/-- spec/01_beat.md, register TB_COMMIT. -/
def TB_COMMIT : Nat := 0x1000C
def TB_COMMIT_CLEAR_OVR : Fld := ⟨TB_COMMIT, 1, 1⟩
def TB_COMMIT_COMMIT : Fld := ⟨TB_COMMIT, 0, 1⟩
/-- spec/01_beat.md, register TB_STATUS. -/
def TB_STATUS : Nat := 0x10010
def TB_STATUS_COMMIT_RESULT : Fld := ⟨TB_STATUS, 4, 3⟩
def TB_STATUS_COMMIT_PEND : Fld := ⟨TB_STATUS, 3, 1⟩
def TB_STATUS_TRIMMING : Fld := ⟨TB_STATUS, 2, 1⟩
def TB_STATUS_ALIGNED : Fld := ⟨TB_STATUS, 1, 1⟩
def TB_STATUS_RUNNING : Fld := ⟨TB_STATUS, 0, 1⟩
/-- spec/01_beat.md, register TB_EVENT. -/
def TB_EVENT : Nat := 0x10014
def TB_EVENT_ALIGN_DONE : Fld := ⟨TB_EVENT, 2, 1⟩
def TB_EVENT_COMMIT_REFUSED : Fld := ⟨TB_EVENT, 1, 1⟩
def TB_EVENT_OVERRUN : Fld := ⟨TB_EVENT, 0, 1⟩
/-- spec/01_beat.md, register TB_STAMP. -/
def TB_STAMP : Nat := 0x10018
/-- spec/01_beat.md, register TB_SEC_BEAT. -/
def TB_SEC_BEAT : Nat := 0x10020
/-- spec/01_beat.md, register TB_PHASE_ERR. -/
def TB_PHASE_ERR : Nat := 0x10028
def TB_PHASE_ERR_ERR : Fld := ⟨TB_PHASE_ERR, 0, 13⟩
/-- spec/01_beat.md, register TB_OVR_COUNT. -/
def TB_OVR_COUNT : Nat := 0x1002C
def TB_OVR_COUNT_COUNT : Fld := ⟨TB_OVR_COUNT, 0, 32⟩
/-- spec/01_beat.md, register TB_OVR_LAST. -/
def TB_OVR_LAST : Nat := 0x10030
def TB_OVR_LAST_CONSEC : Fld := ⟨TB_OVR_LAST, 16, 16⟩
def TB_OVR_LAST_ENGINE : Fld := ⟨TB_OVR_LAST, 8, 5⟩
def TB_OVR_LAST_AXIS : Fld := ⟨TB_OVR_LAST, 0, 8⟩
/-- spec/01_beat.md, register TB_SLACK. -/
def TB_SLACK : Nat := 0x10034
def TB_SLACK_ENGINE : Fld := ⟨TB_SLACK, 16, 5⟩
def TB_SLACK_MIN_SLACK : Fld := ⟨TB_SLACK, 0, 16⟩
/-- spec/01_beat.md, register TB_ACTIVE_LEN. -/
def TB_ACTIVE_LEN : Nat := 0x10038
def TB_ACTIVE_LEN_LEN : Fld := ⟨TB_ACTIVE_LEN, 0, 13⟩
/-- spec/01_beat.md, register TB_ACTIVE_PHASE. -/
def TB_ACTIVE_PHASE : Nat := 0x1003C
def TB_ACTIVE_PHASE_DEADLINE : Fld := ⟨TB_ACTIVE_PHASE, 16, 13⟩
def TB_ACTIVE_PHASE_LATCH : Fld := ⟨TB_ACTIVE_PHASE, 0, 13⟩
/-- spec/02_route_planner.md, register AX_PL_CTRL. -/
def AX_PL_CTRL (k : Nat) : Nat := 0x100100 + 0x400 * k
def AX_PL_CTRL_ARRIVE_EVT (k : Nat) : Fld := ⟨AX_PL_CTRL k, 3, 1⟩
def AX_PL_CTRL_DIS_REACT (k : Nat) : Fld := ⟨AX_PL_CTRL k, 2, 1⟩
def AX_PL_CTRL_NO_OVERSHOOT (k : Nat) : Fld := ⟨AX_PL_CTRL k, 1, 1⟩
def AX_PL_CTRL_SOFT_EN (k : Nat) : Fld := ⟨AX_PL_CTRL k, 0, 1⟩
/-- spec/02_route_planner.md, register AX_PL_CMD. -/
def AX_PL_CMD (k : Nat) : Nat := 0x100104 + 0x400 * k
def AX_PL_CMD_CODE (k : Nat) : Fld := ⟨AX_PL_CMD k, 0, 4⟩
/-- spec/02_route_planner.md, register AX_PL_STATUS. -/
def AX_PL_STATUS (k : Nat) : Nat := 0x100108 + 0x400 * k
def AX_PL_STATUS_DEPTH_VALID (k : Nat) : Fld := ⟨AX_PL_STATUS k, 16, 8⟩
def AX_PL_STATUS_REFUSE_LAST (k : Nat) : Fld := ⟨AX_PL_STATUS k, 8, 8⟩
def AX_PL_STATUS_SLS_CAP (k : Nat) : Fld := ⟨AX_PL_STATUS k, 6, 1⟩
def AX_PL_STATUS_CLAMPED (k : Nat) : Fld := ⟨AX_PL_STATUS k, 5, 1⟩
def AX_PL_STATUS_LIMIT_DEFERRED (k : Nat) : Fld := ⟨AX_PL_STATUS k, 4, 1⟩
def AX_PL_STATUS_STATE (k : Nat) : Fld := ⟨AX_PL_STATUS k, 0, 4⟩
/-- spec/02_route_planner.md, register AX_PL_EVENT. -/
def AX_PL_EVENT (k : Nat) : Nat := 0x10010C + 0x400 * k
def AX_PL_EVENT_HELD (k : Nat) : Fld := ⟨AX_PL_EVENT k, 6, 1⟩
def AX_PL_EVENT_STANDSTILL (k : Nat) : Fld := ⟨AX_PL_EVENT k, 5, 1⟩
def AX_PL_EVENT_LIMIT_STOP (k : Nat) : Fld := ⟨AX_PL_EVENT k, 4, 1⟩
def AX_PL_EVENT_OVERSHOOT (k : Nat) : Fld := ⟨AX_PL_EVENT k, 3, 1⟩
def AX_PL_EVENT_SQUASHED (k : Nat) : Fld := ⟨AX_PL_EVENT k, 2, 1⟩
def AX_PL_EVENT_REFUSED (k : Nat) : Fld := ⟨AX_PL_EVENT k, 1, 1⟩
def AX_PL_EVENT_ARRIVED (k : Nat) : Fld := ⟨AX_PL_EVENT k, 0, 1⟩
/-- spec/02_route_planner.md, register AX_PL_TARGET. -/
def AX_PL_TARGET (k : Nat) : Nat := 0x100110 + 0x400 * k
/-- spec/02_route_planner.md, register AX_PL_JOG_VEL. -/
def AX_PL_JOG_VEL (k : Nat) : Nat := 0x100118 + 0x400 * k
/-- spec/02_route_planner.md, register AX_PL_VMAX. -/
def AX_PL_VMAX (k : Nat) : Nat := 0x100120 + 0x400 * k
/-- spec/02_route_planner.md, register AX_PL_AMAX. -/
def AX_PL_AMAX (k : Nat) : Nat := 0x100128 + 0x400 * k
/-- spec/02_route_planner.md, register AX_PL_DMAX. -/
def AX_PL_DMAX (k : Nat) : Nat := 0x100130 + 0x400 * k
/-- spec/02_route_planner.md, register AX_PL_JMAX. -/
def AX_PL_JMAX (k : Nat) : Nat := 0x100138 + 0x400 * k
/-- spec/02_route_planner.md, register AX_PL_QDEC. -/
def AX_PL_QDEC (k : Nat) : Nat := 0x100140 + 0x400 * k
/-- spec/02_route_planner.md, register AX_PL_QJRK. -/
def AX_PL_QJRK (k : Nat) : Nat := 0x100148 + 0x400 * k
/-- spec/02_route_planner.md, register AX_PL_SOFT_MIN. -/
def AX_PL_SOFT_MIN (k : Nat) : Nat := 0x100150 + 0x400 * k
/-- spec/02_route_planner.md, register AX_PL_SOFT_MAX. -/
def AX_PL_SOFT_MAX (k : Nat) : Nat := 0x100158 + 0x400 * k
/-- spec/02_route_planner.md, register AX_PL_DEPTH. -/
def AX_PL_DEPTH (k : Nat) : Nat := 0x100160 + 0x400 * k
def AX_PL_DEPTH_DEPTH (k : Nat) : Fld := ⟨AX_PL_DEPTH k, 0, 7⟩
/-- spec/02_route_planner.md, register AX_PL_OFF_DELAY. -/
def AX_PL_OFF_DELAY (k : Nat) : Nat := 0x100164 + 0x400 * k
def AX_PL_OFF_DELAY_BEATS (k : Nat) : Fld := ⟨AX_PL_OFF_DELAY k, 0, 16⟩
/-- spec/02_route_planner.md, register AX_PL_SP_POS. -/
def AX_PL_SP_POS (k : Nat) : Nat := 0x100168 + 0x400 * k
/-- spec/02_route_planner.md, register AX_PL_SP_VEL. -/
def AX_PL_SP_VEL (k : Nat) : Nat := 0x100170 + 0x400 * k
/-- spec/02_route_planner.md, register AX_PL_SP_ACC. -/
def AX_PL_SP_ACC (k : Nat) : Nat := 0x100178 + 0x400 * k
/-- spec/02_route_planner.md, register AX_PL_VCAP. -/
def AX_PL_VCAP (k : Nat) : Nat := 0x100180 + 0x400 * k
/-- spec/02_route_planner.md, register AX_PL_ARRIVE. -/
def AX_PL_ARRIVE (k : Nat) : Nat := 0x100188 + 0x400 * k
/-- spec/02_route_planner.md, register AX_PL_SQUASHES. -/
def AX_PL_SQUASHES (k : Nat) : Nat := 0x100190 + 0x400 * k
def AX_PL_SQUASHES_COUNT (k : Nat) : Fld := ⟨AX_PL_SQUASHES k, 0, 32⟩
/-- spec/02_route_planner.md, register AX_PL_RA_SEL. -/
def AX_PL_RA_SEL (k : Nat) : Nat := 0x100194 + 0x400 * k
def AX_PL_RA_SEL_INDEX (k : Nat) : Fld := ⟨AX_PL_RA_SEL k, 0, 6⟩
/-- spec/02_route_planner.md, register AX_PL_RA_POS. -/
def AX_PL_RA_POS (k : Nat) : Nat := 0x100198 + 0x400 * k
/-- spec/02_route_planner.md, register AX_PL_RA_VEL. -/
def AX_PL_RA_VEL (k : Nat) : Nat := 0x1001A0 + 0x400 * k
/-- spec/02_route_planner.md, register AX_PL_RA_META. -/
def AX_PL_RA_META (k : Nat) : Nat := 0x1001A8 + 0x400 * k
def AX_PL_RA_META_GEN (k : Nat) : Fld := ⟨AX_PL_RA_META k, 16, 16⟩
def AX_PL_RA_META_VALID (k : Nat) : Fld := ⟨AX_PL_RA_META k, 0, 1⟩
/-- spec/03_convoys_and_steps.md, register GL_CY_CTRL. -/
def GL_CY_CTRL (k : Nat) : Nat := 0x1000 + 0x100 * k
def GL_CY_CTRL_MASTER_ID (k : Nat) : Fld := ⟨GL_CY_CTRL k, 16, 8⟩
def GL_CY_CTRL_MASTER_KIND (k : Nat) : Fld := ⟨GL_CY_CTRL k, 8, 4⟩
def GL_CY_CTRL_CYCLE_SWAP (k : Nat) : Fld := ⟨GL_CY_CTRL k, 4, 1⟩
def GL_CY_CTRL_EXTRAP (k : Nat) : Fld := ⟨GL_CY_CTRL k, 3, 1⟩
def GL_CY_CTRL_KIND (k : Nat) : Fld := ⟨GL_CY_CTRL k, 0, 2⟩
/-- spec/03_convoys_and_steps.md, register GL_CY_CMD. -/
def GL_CY_CMD (k : Nat) : Nat := 0x1004 + 0x100 * k
def GL_CY_CMD_SLOT (k : Nat) : Fld := ⟨GL_CY_CMD k, 8, 3⟩
def GL_CY_CMD_CODE (k : Nat) : Fld := ⟨GL_CY_CMD k, 0, 4⟩
/-- spec/03_convoys_and_steps.md, register GL_CY_STATUS. -/
def GL_CY_STATUS (k : Nat) : Nat := 0x1008 + 0x100 * k
def GL_CY_STATUS_FLAGS (k : Nat) : Fld := ⟨GL_CY_STATUS k, 24, 2⟩
def GL_CY_STATUS_REFUSE_LAST (k : Nat) : Fld := ⟨GL_CY_STATUS k, 16, 8⟩
def GL_CY_STATUS_QUEUE_FILL (k : Nat) : Fld := ⟨GL_CY_STATUS k, 8, 6⟩
def GL_CY_STATUS_ENGAGED (k : Nat) : Fld := ⟨GL_CY_STATUS k, 4, 4⟩
def GL_CY_STATUS_STATE (k : Nat) : Fld := ⟨GL_CY_STATUS k, 0, 4⟩
/-- spec/03_convoys_and_steps.md, register GL_CY_EVENT. -/
def GL_CY_EVENT (k : Nat) : Nat := 0x100C + 0x100 * k
def GL_CY_EVENT_CAM_DEFERRED (k : Nat) : Fld := ⟨GL_CY_EVENT k, 6, 1⟩
def GL_CY_EVENT_CAM_END (k : Nat) : Fld := ⟨GL_CY_EVENT k, 5, 1⟩
def GL_CY_EVENT_GEAR_LIMIT (k : Nat) : Fld := ⟨GL_CY_EVENT k, 4, 1⟩
def GL_CY_EVENT_STARVING (k : Nat) : Fld := ⟨GL_CY_EVENT k, 3, 1⟩
def GL_CY_EVENT_SEG_DONE (k : Nat) : Fld := ⟨GL_CY_EVENT k, 2, 1⟩
def GL_CY_EVENT_REFUSED (k : Nat) : Fld := ⟨GL_CY_EVENT k, 1, 1⟩
def GL_CY_EVENT_ARRIVED (k : Nat) : Fld := ⟨GL_CY_EVENT k, 0, 1⟩
/-- spec/03_convoys_and_steps.md, register GL_CY_FEED. -/
def GL_CY_FEED (k : Nat) : Nat := 0x1010 + 0x100 * k
def GL_CY_FEED_FEED (k : Nat) : Fld := ⟨GL_CY_FEED k, 0, 12⟩
/-- spec/03_convoys_and_steps.md, register GL_CY_BLEND. -/
def GL_CY_BLEND (k : Nat) : Nat := 0x1018 + 0x100 * k
/-- spec/03_convoys_and_steps.md, register GL_CY_ENGAGE_LEN. -/
def GL_CY_ENGAGE_LEN (k : Nat) : Nat := 0x1020 + 0x100 * k
/-- spec/03_convoys_and_steps.md, register GL_CY_S. -/
def GL_CY_S (k : Nat) : Nat := 0x1028 + 0x100 * k
/-- spec/03_convoys_and_steps.md, register GL_CY_VMAX. -/
def GL_CY_VMAX (k : Nat) : Nat := 0x10C0 + 0x100 * k
/-- spec/03_convoys_and_steps.md, register GL_CY_AMAX. -/
def GL_CY_AMAX (k : Nat) : Nat := 0x10C8 + 0x100 * k
/-- spec/03_convoys_and_steps.md, register GL_CY_DMAX. -/
def GL_CY_DMAX (k : Nat) : Nat := 0x10D0 + 0x100 * k
/-- spec/03_convoys_and_steps.md, register GL_CY_JMAX. -/
def GL_CY_JMAX (k : Nat) : Nat := 0x10D8 + 0x100 * k
/-- spec/03_convoys_and_steps.md, register GL_CY_QDEC. -/
def GL_CY_QDEC (k : Nat) : Nat := 0x10E0 + 0x100 * k
/-- spec/03_convoys_and_steps.md, register GL_CY_QJRK. -/
def GL_CY_QJRK (k : Nat) : Nat := 0x10E8 + 0x100 * k
/-- spec/03_convoys_and_steps.md, register GL_CY_MSEL. -/
def GL_CY_MSEL (k j : Nat) : Nat := 0x1040 + 0x100 * k + 0x10 * j
def GL_CY_MSEL_USED (k j : Nat) : Fld := ⟨GL_CY_MSEL k j, 8, 1⟩
def GL_CY_MSEL_AXIS (k j : Nat) : Fld := ⟨GL_CY_MSEL k j, 0, 8⟩
/-- spec/03_convoys_and_steps.md, register GL_CY_NUM. -/
def GL_CY_NUM (k j : Nat) : Nat := 0x1044 + 0x100 * k + 0x10 * j
def GL_CY_NUM_NUM (k j : Nat) : Fld := ⟨GL_CY_NUM k j, 0, 32⟩
/-- spec/03_convoys_and_steps.md, register GL_CY_DEN. -/
def GL_CY_DEN (k j : Nat) : Nat := 0x1048 + 0x100 * k + 0x10 * j
def GL_CY_DEN_DEN (k j : Nat) : Fld := ⟨GL_CY_DEN k j, 0, 32⟩
/-- spec/03_convoys_and_steps.md, register GL_CY_CAM. -/
def GL_CY_CAM (k j : Nat) : Nat := 0x104C + 0x100 * k + 0x10 * j
def GL_CY_CAM_TABLE (k j : Nat) : Fld := ⟨GL_CY_CAM k j, 0, 6⟩
/-- spec/03_convoys_and_steps.md, register GL_GP_CTRL. -/
def GL_GP_CTRL (k : Nat) : Nat := 0x3000 + 0x20 * k
def GL_GP_CTRL_EN (k : Nat) : Fld := ⟨GL_GP_CTRL k, 16, 1⟩
def GL_GP_CTRL_TWIN (k : Nat) : Fld := ⟨GL_GP_CTRL k, 8, 8⟩
def GL_GP_CTRL_PRIMARY (k : Nat) : Fld := ⟨GL_GP_CTRL k, 0, 8⟩
/-- spec/03_convoys_and_steps.md, register GL_GP_OFFSET. -/
def GL_GP_OFFSET (k : Nat) : Nat := 0x3004 + 0x20 * k
/-- spec/03_convoys_and_steps.md, register GL_GP_SKEW_WARN. -/
def GL_GP_SKEW_WARN (k : Nat) : Nat := 0x300C + 0x20 * k
def GL_GP_SKEW_WARN_WARN (k : Nat) : Fld := ⟨GL_GP_SKEW_WARN k, 0, 32⟩
/-- spec/03_convoys_and_steps.md, register GL_GP_SKEW_MAX. -/
def GL_GP_SKEW_MAX (k : Nat) : Nat := 0x3010 + 0x20 * k
def GL_GP_SKEW_MAX_MAX (k : Nat) : Fld := ⟨GL_GP_SKEW_MAX k, 0, 32⟩
/-- spec/03_convoys_and_steps.md, register GL_GP_GAIN. -/
def GL_GP_GAIN (k : Nat) : Nat := 0x3014 + 0x20 * k
def GL_GP_GAIN_CORR_MAX (k : Nat) : Fld := ⟨GL_GP_GAIN k, 16, 16⟩
def GL_GP_GAIN_SKEW_GAIN (k : Nat) : Fld := ⟨GL_GP_GAIN k, 0, 16⟩
/-- spec/03_convoys_and_steps.md, register GL_GP_SKEW. -/
def GL_GP_SKEW (k : Nat) : Nat := 0x3018 + 0x20 * k
def GL_GP_SKEW_SKEW (k : Nat) : Fld := ⟨GL_GP_SKEW k, 0, 32⟩
/-- spec/03_convoys_and_steps.md, register GL_GP_EVENT. -/
def GL_GP_EVENT (k : Nat) : Nat := 0x301C + 0x20 * k
def GL_GP_EVENT_ZONE_SPLIT (k : Nat) : Fld := ⟨GL_GP_EVENT k, 2, 1⟩
def GL_GP_EVENT_SKEW_FAULT (k : Nat) : Fld := ⟨GL_GP_EVENT k, 1, 1⟩
def GL_GP_EVENT_SKEW_WARN (k : Nat) : Fld := ⟨GL_GP_EVENT k, 0, 1⟩
/-- spec/03_convoys_and_steps.md, register ST_CTRL. -/
def ST_CTRL (k : Nat) : Nat := 0xC4000 + 0x40 * k
def ST_CTRL_DIR_HOLD (k : Nat) : Fld := ⟨ST_CTRL k, 24, 8⟩
def ST_CTRL_DIR_SETUP (k : Nat) : Fld := ⟨ST_CTRL k, 16, 8⟩
def ST_CTRL_AXIS (k : Nat) : Fld := ⟨ST_CTRL k, 8, 8⟩
def ST_CTRL_STEP_W (k : Nat) : Fld := ⟨ST_CTRL k, 0, 8⟩
/-- spec/03_convoys_and_steps.md, register ST_MODE. -/
def ST_MODE (k : Nat) : Nat := 0xC4004 + 0x40 * k
def ST_MODE_EN (k : Nat) : Fld := ⟨ST_MODE k, 3, 1⟩
def ST_MODE_DIR_POL (k : Nat) : Fld := ⟨ST_MODE k, 2, 1⟩
def ST_MODE_STEP_POL (k : Nat) : Fld := ⟨ST_MODE k, 1, 1⟩
def ST_MODE_MODE (k : Nat) : Fld := ⟨ST_MODE k, 0, 1⟩
/-- spec/03_convoys_and_steps.md, register ST_STATUS. -/
def ST_STATUS (k : Nat) : Nat := 0xC4008 + 0x40 * k
def ST_STATUS_DIR_WAIT (k : Nat) : Fld := ⟨ST_STATUS k, 2, 1⟩
def ST_STATUS_RATE_CLAMP (k : Nat) : Fld := ⟨ST_STATUS k, 1, 1⟩
def ST_STATUS_RUNNING (k : Nat) : Fld := ⟨ST_STATUS k, 0, 1⟩
/-- spec/03_convoys_and_steps.md, register ST_COUNT. -/
def ST_COUNT (k : Nat) : Nat := 0xC4010 + 0x40 * k
/-- spec/03_convoys_and_steps.md, register ST_VEL. -/
def ST_VEL (k : Nat) : Nat := 0xC4018 + 0x40 * k
/-- spec/04_stock_loop.md, register AX_CTRL. -/
def AX_CTRL (k : Nat) : Nat := 0x100000 + 0x400 * k
def AX_CTRL_VARIANT (k : Nat) : Fld := ⟨AX_CTRL k, 5, 3⟩
def AX_CTRL_STEP_CL (k : Nat) : Fld := ⟨AX_CTRL k, 4, 1⟩
def AX_CTRL_COMM_MODE (k : Nat) : Fld := ⟨AX_CTRL k, 2, 2⟩
def AX_CTRL_EN (k : Nat) : Fld := ⟨AX_CTRL k, 0, 1⟩
/-- spec/04_stock_loop.md, register AX_STATUS. -/
def AX_STATUS (k : Nat) : Nat := 0x100004 + 0x400 * k
def AX_STATUS_COMM_VALID (k : Nat) : Fld := ⟨AX_STATUS k, 17, 1⟩
def AX_STATUS_BRAKE (k : Nat) : Fld := ⟨AX_STATUS k, 16, 1⟩
def AX_STATUS_REFUSE_LAST (k : Nat) : Fld := ⟨AX_STATUS k, 8, 8⟩
def AX_STATUS_OFF_CAUSE (k : Nat) : Fld := ⟨AX_STATUS k, 4, 4⟩
def AX_STATUS_STATE (k : Nat) : Fld := ⟨AX_STATUS k, 0, 3⟩
/-- spec/04_stock_loop.md, register AX_EVENT. -/
def AX_EVENT (k : Nat) : Nat := 0x100008 + 0x400 * k
def AX_EVENT_PARAM_REFUSED (k : Nat) : Fld := ⟨AX_EVENT k, 5, 1⟩
def AX_EVENT_PARAM_APPLIED (k : Nat) : Fld := ⟨AX_EVENT k, 4, 1⟩
def AX_EVENT_ALIGN_DONE (k : Nat) : Fld := ⟨AX_EVENT k, 3, 1⟩
def AX_EVENT_REFUSED (k : Nat) : Fld := ⟨AX_EVENT k, 2, 1⟩
def AX_EVENT_OFF (k : Nat) : Fld := ⟨AX_EVENT k, 1, 1⟩
def AX_EVENT_ENABLED (k : Nat) : Fld := ⟨AX_EVENT k, 0, 1⟩
/-- spec/04_stock_loop.md, register AX_LP_CTRL. -/
def AX_LP_CTRL (k : Nat) : Nat := 0x100200 + 0x400 * k
def AX_LP_CTRL_VEL_CT (k : Nat) : Fld := ⟨AX_LP_CTRL k, 24, 8⟩
def AX_LP_CTRL_POS_CT (k : Nat) : Fld := ⟨AX_LP_CTRL k, 16, 8⟩
def AX_LP_CTRL_FF_LEAD (k : Nat) : Fld := ⟨AX_LP_CTRL k, 12, 2⟩
def AX_LP_CTRL_I3 (k : Nat) : Fld := ⟨AX_LP_CTRL k, 10, 1⟩
def AX_LP_CTRL_EMF_FF (k : Nat) : Fld := ⟨AX_LP_CTRL k, 9, 1⟩
def AX_LP_CTRL_DECOUPLE (k : Nat) : Fld := ⟨AX_LP_CTRL k, 8, 1⟩
def AX_LP_CTRL_DIV_PHASE (k : Nat) : Fld := ⟨AX_LP_CTRL k, 4, 3⟩
def AX_LP_CTRL_VEL_DIV (k : Nat) : Fld := ⟨AX_LP_CTRL k, 2, 2⟩
def AX_LP_CTRL_POS_DIV (k : Nat) : Fld := ⟨AX_LP_CTRL k, 0, 2⟩
/-- spec/04_stock_loop.md, register AX_LP_COMMIT. -/
def AX_LP_COMMIT (k : Nat) : Nat := 0x100204 + 0x400 * k
def AX_LP_COMMIT_CLEAR_INT (k : Nat) : Fld := ⟨AX_LP_COMMIT k, 1, 1⟩
def AX_LP_COMMIT_COMMIT (k : Nat) : Fld := ⟨AX_LP_COMMIT k, 0, 1⟩
/-- spec/04_stock_loop.md, register AX_LP_STATUS. -/
def AX_LP_STATUS (k : Nat) : Nat := 0x100208 + 0x400 * k
def AX_LP_STATUS_REFUSE_LAST (k : Nat) : Fld := ⟨AX_LP_STATUS k, 8, 8⟩
def AX_LP_STATUS_IINT_HELD (k : Nat) : Fld := ⟨AX_LP_STATUS k, 3, 1⟩
def AX_LP_STATUS_ILIM_ACTIVE (k : Nat) : Fld := ⟨AX_LP_STATUS k, 2, 1⟩
def AX_LP_STATUS_VLIM_ACTIVE (k : Nat) : Fld := ⟨AX_LP_STATUS k, 1, 1⟩
def AX_LP_STATUS_COMMIT_PEND (k : Nat) : Fld := ⟨AX_LP_STATUS k, 0, 1⟩
/-- spec/04_stock_loop.md, register AX_LP_SAT. -/
def AX_LP_SAT (k : Nat) : Nat := 0x10020C + 0x400 * k
def AX_LP_SAT_STEP (k : Nat) : Fld := ⟨AX_LP_SAT k, 9, 1⟩
def AX_LP_SAT_DUTY (k : Nat) : Fld := ⟨AX_LP_SAT k, 8, 1⟩
def AX_LP_SAT_CUR_Q (k : Nat) : Fld := ⟨AX_LP_SAT k, 7, 1⟩
def AX_LP_SAT_CUR_D (k : Nat) : Fld := ⟨AX_LP_SAT k, 6, 1⟩
def AX_LP_SAT_BQ2 (k : Nat) : Fld := ⟨AX_LP_SAT k, 5, 1⟩
def AX_LP_SAT_BQ1 (k : Nat) : Fld := ⟨AX_LP_SAT k, 4, 1⟩
def AX_LP_SAT_I_REF (k : Nat) : Fld := ⟨AX_LP_SAT k, 3, 1⟩
def AX_LP_SAT_VEL_INT (k : Nat) : Fld := ⟨AX_LP_SAT k, 2, 1⟩
def AX_LP_SAT_V_REF (k : Nat) : Fld := ⟨AX_LP_SAT k, 1, 1⟩
def AX_LP_SAT_POS_ERR (k : Nat) : Fld := ⟨AX_LP_SAT k, 0, 1⟩
/-- spec/04_stock_loop.md, register AX_LP_SH0. -/
def AX_LP_SH0 (k : Nat) : Nat := 0x100210 + 0x400 * k
def AX_LP_SH0_SH_KP (k : Nat) : Fld := ⟨AX_LP_SH0 k, 0, 6⟩
def AX_LP_SH0_SH_KV (k : Nat) : Fld := ⟨AX_LP_SH0 k, 8, 6⟩
def AX_LP_SH0_SH_KI (k : Nat) : Fld := ⟨AX_LP_SH0 k, 16, 6⟩
def AX_LP_SH0_SH_KVFF (k : Nat) : Fld := ⟨AX_LP_SH0 k, 24, 6⟩
/-- spec/04_stock_loop.md, register AX_LP_SH1. -/
def AX_LP_SH1 (k : Nat) : Nat := 0x100214 + 0x400 * k
def AX_LP_SH1_SH_KAFF (k : Nat) : Fld := ⟨AX_LP_SH1 k, 0, 6⟩
def AX_LP_SH1_SH_FV (k : Nat) : Fld := ⟨AX_LP_SH1 k, 8, 6⟩
def AX_LP_SH1_SH_BQ1 (k : Nat) : Fld := ⟨AX_LP_SH1 k, 16, 6⟩
def AX_LP_SH1_SH_BQ2 (k : Nat) : Fld := ⟨AX_LP_SH1 k, 24, 6⟩
/-- spec/04_stock_loop.md, register AX_LP_SH2. -/
def AX_LP_SH2 (k : Nat) : Nat := 0x100218 + 0x400 * k
def AX_LP_SH2_SH_KPD (k : Nat) : Fld := ⟨AX_LP_SH2 k, 0, 6⟩
def AX_LP_SH2_SH_KID (k : Nat) : Fld := ⟨AX_LP_SH2 k, 8, 6⟩
def AX_LP_SH2_SH_KPQ (k : Nat) : Fld := ⟨AX_LP_SH2 k, 16, 6⟩
def AX_LP_SH2_SH_KIQ (k : Nat) : Fld := ⟨AX_LP_SH2 k, 24, 6⟩
/-- spec/04_stock_loop.md, register AX_LP_SH3. -/
def AX_LP_SH3 (k : Nat) : Nat := 0x10021C + 0x400 * k
def AX_LP_SH3_SH_KDEC (k : Nat) : Fld := ⟨AX_LP_SH3 k, 0, 6⟩
def AX_LP_SH3_SH_KEMF (k : Nat) : Fld := ⟨AX_LP_SH3 k, 8, 6⟩
def AX_LP_SH3_SH_ESCALE (k : Nat) : Fld := ⟨AX_LP_SH3 k, 16, 6⟩
def AX_LP_SH3_SH_STEP (k : Nat) : Fld := ⟨AX_LP_SH3 k, 24, 6⟩
/-- spec/04_stock_loop.md, register AX_LP_KP. -/
def AX_LP_KP (k : Nat) : Nat := 0x100220 + 0x400 * k
def AX_LP_KP_VALUE (k : Nat) : Fld := ⟨AX_LP_KP k, 0, 32⟩
/-- spec/04_stock_loop.md, register AX_LP_KV. -/
def AX_LP_KV (k : Nat) : Nat := 0x100224 + 0x400 * k
def AX_LP_KV_VALUE (k : Nat) : Fld := ⟨AX_LP_KV k, 0, 32⟩
/-- spec/04_stock_loop.md, register AX_LP_KI. -/
def AX_LP_KI (k : Nat) : Nat := 0x100228 + 0x400 * k
def AX_LP_KI_VALUE (k : Nat) : Fld := ⟨AX_LP_KI k, 0, 32⟩
/-- spec/04_stock_loop.md, register AX_LP_ILIM. -/
def AX_LP_ILIM (k : Nat) : Nat := 0x10022C + 0x400 * k
def AX_LP_ILIM_VALUE (k : Nat) : Fld := ⟨AX_LP_ILIM k, 0, 32⟩
/-- spec/04_stock_loop.md, register AX_LP_IMAX. -/
def AX_LP_IMAX (k : Nat) : Nat := 0x100230 + 0x400 * k
def AX_LP_IMAX_VALUE (k : Nat) : Fld := ⟨AX_LP_IMAX k, 0, 32⟩
/-- spec/04_stock_loop.md, register AX_LP_KVFF. -/
def AX_LP_KVFF (k : Nat) : Nat := 0x100234 + 0x400 * k
def AX_LP_KVFF_VALUE (k : Nat) : Fld := ⟨AX_LP_KVFF k, 0, 32⟩
/-- spec/04_stock_loop.md, register AX_LP_KAFF. -/
def AX_LP_KAFF (k : Nat) : Nat := 0x100238 + 0x400 * k
def AX_LP_KAFF_VALUE (k : Nat) : Fld := ⟨AX_LP_KAFF k, 0, 32⟩
/-- spec/04_stock_loop.md, register AX_LP_FC. -/
def AX_LP_FC (k : Nat) : Nat := 0x10023C + 0x400 * k
def AX_LP_FC_VALUE (k : Nat) : Fld := ⟨AX_LP_FC k, 0, 32⟩
/-- spec/04_stock_loop.md, register AX_LP_FC_BAND. -/
def AX_LP_FC_BAND (k : Nat) : Nat := 0x100240 + 0x400 * k
def AX_LP_FC_BAND_VALUE (k : Nat) : Fld := ⟨AX_LP_FC_BAND k, 0, 32⟩
/-- spec/04_stock_loop.md, register AX_LP_FV. -/
def AX_LP_FV (k : Nat) : Nat := 0x100244 + 0x400 * k
def AX_LP_FV_VALUE (k : Nat) : Fld := ⟨AX_LP_FV k, 0, 32⟩
/-- spec/04_stock_loop.md, register AX_LP_FOFF. -/
def AX_LP_FOFF (k : Nat) : Nat := 0x100248 + 0x400 * k
def AX_LP_FOFF_VALUE (k : Nat) : Fld := ⟨AX_LP_FOFF k, 0, 32⟩
/-- spec/04_stock_loop.md, register AX_LP_BQ1_B0. -/
def AX_LP_BQ1_B0 (k : Nat) : Nat := 0x10024C + 0x400 * k
def AX_LP_BQ1_B0_VALUE (k : Nat) : Fld := ⟨AX_LP_BQ1_B0 k, 0, 32⟩
/-- spec/04_stock_loop.md, register AX_LP_BQ1_B1. -/
def AX_LP_BQ1_B1 (k : Nat) : Nat := 0x100250 + 0x400 * k
def AX_LP_BQ1_B1_VALUE (k : Nat) : Fld := ⟨AX_LP_BQ1_B1 k, 0, 32⟩
/-- spec/04_stock_loop.md, register AX_LP_BQ1_B2. -/
def AX_LP_BQ1_B2 (k : Nat) : Nat := 0x100254 + 0x400 * k
def AX_LP_BQ1_B2_VALUE (k : Nat) : Fld := ⟨AX_LP_BQ1_B2 k, 0, 32⟩
/-- spec/04_stock_loop.md, register AX_LP_BQ1_A1. -/
def AX_LP_BQ1_A1 (k : Nat) : Nat := 0x100258 + 0x400 * k
def AX_LP_BQ1_A1_VALUE (k : Nat) : Fld := ⟨AX_LP_BQ1_A1 k, 0, 32⟩
/-- spec/04_stock_loop.md, register AX_LP_BQ1_A2. -/
def AX_LP_BQ1_A2 (k : Nat) : Nat := 0x10025C + 0x400 * k
def AX_LP_BQ1_A2_VALUE (k : Nat) : Fld := ⟨AX_LP_BQ1_A2 k, 0, 32⟩
/-- spec/04_stock_loop.md, register AX_LP_BQ2_B0. -/
def AX_LP_BQ2_B0 (k : Nat) : Nat := 0x100260 + 0x400 * k
def AX_LP_BQ2_B0_VALUE (k : Nat) : Fld := ⟨AX_LP_BQ2_B0 k, 0, 32⟩
/-- spec/04_stock_loop.md, register AX_LP_BQ2_B1. -/
def AX_LP_BQ2_B1 (k : Nat) : Nat := 0x100264 + 0x400 * k
def AX_LP_BQ2_B1_VALUE (k : Nat) : Fld := ⟨AX_LP_BQ2_B1 k, 0, 32⟩
/-- spec/04_stock_loop.md, register AX_LP_BQ2_B2. -/
def AX_LP_BQ2_B2 (k : Nat) : Nat := 0x100268 + 0x400 * k
def AX_LP_BQ2_B2_VALUE (k : Nat) : Fld := ⟨AX_LP_BQ2_B2 k, 0, 32⟩
/-- spec/04_stock_loop.md, register AX_LP_BQ2_A1. -/
def AX_LP_BQ2_A1 (k : Nat) : Nat := 0x10026C + 0x400 * k
def AX_LP_BQ2_A1_VALUE (k : Nat) : Fld := ⟨AX_LP_BQ2_A1 k, 0, 32⟩
/-- spec/04_stock_loop.md, register AX_LP_BQ2_A2. -/
def AX_LP_BQ2_A2 (k : Nat) : Nat := 0x100270 + 0x400 * k
def AX_LP_BQ2_A2_VALUE (k : Nat) : Fld := ⟨AX_LP_BQ2_A2 k, 0, 32⟩
/-- spec/04_stock_loop.md, register AX_LP_KPD. -/
def AX_LP_KPD (k : Nat) : Nat := 0x100274 + 0x400 * k
def AX_LP_KPD_VALUE (k : Nat) : Fld := ⟨AX_LP_KPD k, 0, 32⟩
/-- spec/04_stock_loop.md, register AX_LP_KID. -/
def AX_LP_KID (k : Nat) : Nat := 0x100278 + 0x400 * k
def AX_LP_KID_VALUE (k : Nat) : Fld := ⟨AX_LP_KID k, 0, 32⟩
/-- spec/04_stock_loop.md, register AX_LP_KPQ. -/
def AX_LP_KPQ (k : Nat) : Nat := 0x10027C + 0x400 * k
def AX_LP_KPQ_VALUE (k : Nat) : Fld := ⟨AX_LP_KPQ k, 0, 32⟩
/-- spec/04_stock_loop.md, register AX_LP_KIQ. -/
def AX_LP_KIQ (k : Nat) : Nat := 0x100280 + 0x400 * k
def AX_LP_KIQ_VALUE (k : Nat) : Fld := ⟨AX_LP_KIQ k, 0, 32⟩
/-- spec/04_stock_loop.md, register AX_LP_KDEC_LD. -/
def AX_LP_KDEC_LD (k : Nat) : Nat := 0x100284 + 0x400 * k
def AX_LP_KDEC_LD_VALUE (k : Nat) : Fld := ⟨AX_LP_KDEC_LD k, 0, 32⟩
/-- spec/04_stock_loop.md, register AX_LP_KDEC_LQ. -/
def AX_LP_KDEC_LQ (k : Nat) : Nat := 0x100288 + 0x400 * k
def AX_LP_KDEC_LQ_VALUE (k : Nat) : Fld := ⟨AX_LP_KDEC_LQ k, 0, 32⟩
/-- spec/04_stock_loop.md, register AX_LP_KEMF. -/
def AX_LP_KEMF (k : Nat) : Nat := 0x10028C + 0x400 * k
def AX_LP_KEMF_VALUE (k : Nat) : Fld := ⟨AX_LP_KEMF k, 0, 32⟩
/-- spec/04_stock_loop.md, register AX_LP_VLIM. -/
def AX_LP_VLIM (k : Nat) : Nat := 0x100290 + 0x400 * k
def AX_LP_VLIM_VALUE (k : Nat) : Fld := ⟨AX_LP_VLIM k, 0, 32⟩
/-- spec/04_stock_loop.md, register AX_LP_ESCALE. -/
def AX_LP_ESCALE (k : Nat) : Nat := 0x100294 + 0x400 * k
def AX_LP_ESCALE_VALUE (k : Nat) : Fld := ⟨AX_LP_ESCALE k, 0, 32⟩
/-- spec/04_stock_loop.md, register AX_LP_COMM_OFF. -/
def AX_LP_COMM_OFF (k : Nat) : Nat := 0x100298 + 0x400 * k
def AX_LP_COMM_OFF_VALUE (k : Nat) : Fld := ⟨AX_LP_COMM_OFF k, 0, 32⟩
/-- spec/04_stock_loop.md, register AX_LP_ANGLE_ADV. -/
def AX_LP_ANGLE_ADV (k : Nat) : Nat := 0x10029C + 0x400 * k
def AX_LP_ANGLE_ADV_VALUE (k : Nat) : Fld := ⟨AX_LP_ANGLE_ADV k, 0, 32⟩
/-- spec/04_stock_loop.md, register AX_LP_ID_REF. -/
def AX_LP_ID_REF (k : Nat) : Nat := 0x1002A0 + 0x400 * k
def AX_LP_ID_REF_VALUE (k : Nat) : Fld := ⟨AX_LP_ID_REF k, 0, 32⟩
/-- spec/04_stock_loop.md, register AX_LP_I_RUN. -/
def AX_LP_I_RUN (k : Nat) : Nat := 0x1002A4 + 0x400 * k
def AX_LP_I_RUN_VALUE (k : Nat) : Fld := ⟨AX_LP_I_RUN k, 0, 32⟩
/-- spec/04_stock_loop.md, register AX_LP_I_HOLD. -/
def AX_LP_I_HOLD (k : Nat) : Nat := 0x1002A8 + 0x400 * k
def AX_LP_I_HOLD_VALUE (k : Nat) : Fld := ⟨AX_LP_I_HOLD k, 0, 32⟩
/-- spec/04_stock_loop.md, register AX_LP_HOLD_DELAY. -/
def AX_LP_HOLD_DELAY (k : Nat) : Nat := 0x1002AC + 0x400 * k
def AX_LP_HOLD_DELAY_BEATS (k : Nat) : Fld := ⟨AX_LP_HOLD_DELAY k, 0, 16⟩
/-- spec/04_stock_loop.md, register AX_LP_STEP_SCALE. -/
def AX_LP_STEP_SCALE (k : Nat) : Nat := 0x1002B0 + 0x400 * k
def AX_LP_STEP_SCALE_VALUE (k : Nat) : Fld := ⟨AX_LP_STEP_SCALE k, 0, 32⟩
/-- spec/04_stock_loop.md, register AX_LP_ALIGN. -/
def AX_LP_ALIGN (k : Nat) : Nat := 0x1002B4 + 0x400 * k
def AX_LP_ALIGN_ALIGN_BEATS (k : Nat) : Fld := ⟨AX_LP_ALIGN k, 16, 16⟩
def AX_LP_ALIGN_I_ALIGN (k : Nat) : Fld := ⟨AX_LP_ALIGN k, 0, 16⟩
/-- spec/04_stock_loop.md, register AX_LP_BRAKE. -/
def AX_LP_BRAKE (k : Nat) : Nat := 0x1002B8 + 0x400 * k
def AX_LP_BRAKE_BRAKE_REL (k : Nat) : Fld := ⟨AX_LP_BRAKE k, 16, 16⟩
def AX_LP_BRAKE_CHANNEL (k : Nat) : Fld := ⟨AX_LP_BRAKE k, 0, 8⟩
/-- spec/05_drover_engines.md, register DV_STATUS. -/
def DV_STATUS (k : Nat) : Nat := 0x200000 + 0x1000 * k
def DV_STATUS_FAULT (k : Nat) : Fld := ⟨DV_STATUS k, 16, 8⟩
def DV_STATUS_ROLE (k : Nat) : Fld := ⟨DV_STATUS k, 8, 4⟩
def DV_STATUS_BANK (k : Nat) : Fld := ⟨DV_STATUS k, 5, 1⟩
def DV_STATUS_EMASK (k : Nat) : Fld := ⟨DV_STATUS k, 4, 1⟩
def DV_STATUS_EXEC (k : Nat) : Fld := ⟨DV_STATUS k, 0, 3⟩
/-- spec/05_drover_engines.md, register DV_SLOT_A. -/
def DV_SLOT_A (k : Nat) : Nat := 0x200004 + 0x1000 * k
def DV_SLOT_A_AXIS0 (k : Nat) : Fld := ⟨DV_SLOT_A k, 0, 8⟩
def DV_SLOT_A_AXIS1 (k : Nat) : Fld := ⟨DV_SLOT_A k, 8, 8⟩
def DV_SLOT_A_AXIS2 (k : Nat) : Fld := ⟨DV_SLOT_A k, 16, 8⟩
def DV_SLOT_A_AXIS3 (k : Nat) : Fld := ⟨DV_SLOT_A k, 24, 8⟩
/-- spec/05_drover_engines.md, register DV_SLOT_B. -/
def DV_SLOT_B (k : Nat) : Nat := 0x200008 + 0x1000 * k
def DV_SLOT_B_AXIS4 (k : Nat) : Fld := ⟨DV_SLOT_B k, 0, 8⟩
def DV_SLOT_B_AXIS5 (k : Nat) : Fld := ⟨DV_SLOT_B k, 8, 8⟩
def DV_SLOT_B_AXIS6 (k : Nat) : Fld := ⟨DV_SLOT_B k, 16, 8⟩
def DV_SLOT_B_AXIS7 (k : Nat) : Fld := ⟨DV_SLOT_B k, 24, 8⟩
/-- spec/05_drover_engines.md, register DV_SIG. -/
def DV_SIG (k : Nat) : Nat := 0x20000C + 0x1000 * k
def DV_SIG_SIG (k : Nat) : Fld := ⟨DV_SIG k, 0, 32⟩
/-- spec/05_drover_engines.md, register DV_HB. -/
def DV_HB (k : Nat) : Nat := 0x200010 + 0x1000 * k
/-- spec/05_drover_engines.md, register DV_SLACK. -/
def DV_SLACK (k : Nat) : Nat := 0x200018 + 0x1000 * k
def DV_SLACK_CONSEC (k : Nat) : Fld := ⟨DV_SLACK k, 16, 16⟩
def DV_SLACK_MIN_SLACK (k : Nat) : Fld := ⟨DV_SLACK k, 0, 16⟩
/-- spec/05_drover_engines.md, register DV_OVR. -/
def DV_OVR (k : Nat) : Nat := 0x20001C + 0x1000 * k
def DV_OVR_COUNT (k : Nat) : Fld := ⟨DV_OVR k, 0, 32⟩
/-- spec/05_drover_engines.md, register DV_STEPS. -/
def DV_STEPS (k : Nat) : Nat := 0x200020 + 0x1000 * k
def DV_STEPS_ADMITTED (k : Nat) : Fld := ⟨DV_STEPS k, 16, 16⟩
def DV_STEPS_PEAK (k : Nat) : Fld := ⟨DV_STEPS k, 0, 16⟩
/-- spec/05_drover_engines.md, register DV_PACE. -/
def DV_PACE (k : Nat) : Nat := 0x200024 + 0x1000 * k
def DV_PACE_PEAK (k : Nat) : Fld := ⟨DV_PACE k, 16, 16⟩
def DV_PACE_STEP (k : Nat) : Fld := ⟨DV_PACE k, 0, 16⟩
/-- spec/05_drover_engines.md, register DV_MARGIN. -/
def DV_MARGIN (k : Nat) : Nat := 0x200028 + 0x1000 * k
def DV_MARGIN_MARGIN (k : Nat) : Fld := ⟨DV_MARGIN k, 0, 16⟩
/-- spec/05_drover_engines.md, register DV_EV. -/
def DV_EV (k : Nat) : Nat := 0x20002C + 0x1000 * k
def DV_EV_EV_EN (k : Nat) : Fld := ⟨DV_EV k, 8, 3⟩
def DV_EV_PEND (k : Nat) : Fld := ⟨DV_EV k, 0, 3⟩
/-- spec/05_drover_engines.md, register DV_TIMER. -/
def DV_TIMER (k : Nat) : Nat := 0x200030 + 0x1000 * k
def DV_TIMER_PERIOD (k : Nat) : Fld := ⟨DV_TIMER k, 0, 16⟩
/-- spec/05_drover_engines.md, register DV_STICKY. -/
def DV_STICKY (k : Nat) : Nat := 0x200034 + 0x1000 * k
def DV_STICKY_BANK1 (k : Nat) : Fld := ⟨DV_STICKY k, 4, 4⟩
def DV_STICKY_BANK0 (k : Nat) : Fld := ⟨DV_STICKY k, 0, 4⟩
/-- spec/05_drover_engines.md, register DV_CLEAR. -/
def DV_CLEAR (k : Nat) : Nat := 0x200038 + 0x1000 * k
def DV_CLEAR_CLEAR_CNT (k : Nat) : Fld := ⟨DV_CLEAR k, 0, 1⟩
/-- spec/05_drover_engines.md, register DV_FAULT_PC. -/
def DV_FAULT_PC (k : Nat) : Nat := 0x20003C + 0x1000 * k
def DV_FAULT_PC_BANK (k : Nat) : Fld := ⟨DV_FAULT_PC k, 15, 1⟩
def DV_FAULT_PC_PC (k : Nat) : Fld := ⟨DV_FAULT_PC k, 0, 14⟩
/-- spec/06_feedback.md, register FB_CTRL. -/
def FB_CTRL (k : Nat) : Nat := 0xC0000 + 0x100 * k
def FB_CTRL_TABLE (k : Nat) : Fld := ⟨FB_CTRL k, 20, 4⟩
def FB_CTRL_PT_SRC (k : Nat) : Fld := ⟨FB_CTRL k, 16, 4⟩
def FB_CTRL_FILT (k : Nat) : Fld := ⟨FB_CTRL k, 12, 4⟩
def FB_CTRL_HALL_REV (k : Nat) : Fld := ⟨FB_CTRL k, 11, 1⟩
def FB_CTRL_ZMODE (k : Nat) : Fld := ⟨FB_CTRL k, 10, 1⟩
def FB_CTRL_MODE (k : Nat) : Fld := ⟨FB_CTRL k, 0, 3⟩
/-- spec/06_feedback.md, register FB_SER. -/
def FB_SER (k : Nat) : Nat := 0xC0004 + 0x100 * k
def FB_SER_SIGNED (k : Nat) : Fld := ⟨FB_SER k, 28, 1⟩
def FB_SER_TRAIL (k : Nat) : Fld := ⟨FB_SER k, 25, 3⟩
def FB_SER_LEAD (k : Nat) : Fld := ⟨FB_SER k, 22, 3⟩
def FB_SER_BITS (k : Nat) : Fld := ⟨FB_SER k, 16, 6⟩
def FB_SER_PARITY (k : Nat) : Fld := ⟨FB_SER k, 14, 2⟩
def FB_SER_GRAY (k : Nat) : Fld := ⟨FB_SER k, 12, 1⟩
def FB_SER_DIV (k : Nat) : Fld := ⟨FB_SER k, 0, 9⟩
/-- spec/06_feedback.md, register FB_TIMING. -/
def FB_TIMING (k : Nat) : Nat := 0xC0008 + 0x100 * k
def FB_TIMING_TMO (k : Nat) : Fld := ⟨FB_TIMING k, 16, 16⟩
def FB_TIMING_ACK_MAX (k : Nat) : Fld := ⟨FB_TIMING k, 8, 8⟩
def FB_TIMING_DELAY (k : Nat) : Fld := ⟨FB_TIMING k, 0, 8⟩
/-- spec/06_feedback.md, register FB_EMU. -/
def FB_EMU (k : Nat) : Nat := 0xC000C + 0x100 * k
def FB_EMU_MINSP (k : Nat) : Fld := ⟨FB_EMU k, 8, 8⟩
def FB_EMU_EMU_AXIS (k : Nat) : Fld := ⟨FB_EMU k, 0, 8⟩
/-- spec/06_feedback.md, register FB_EMU_SCALE. -/
def FB_EMU_SCALE (k : Nat) : Nat := 0xC0010 + 0x100 * k
def FB_EMU_SCALE_SCALE (k : Nat) : Fld := ⟨FB_EMU_SCALE k, 0, 32⟩
/-- spec/06_feedback.md, register FB_EMU_ZPER. -/
def FB_EMU_ZPER (k : Nat) : Nat := 0xC0014 + 0x100 * k
def FB_EMU_ZPER_ZPER (k : Nat) : Fld := ⟨FB_EMU_ZPER k, 0, 32⟩
/-- spec/06_feedback.md, register FB_STATUS. -/
def FB_STATUS (k : Nat) : Nat := 0xC0018 + 0x100 * k
def FB_STATUS_MEAS_DLY (k : Nat) : Fld := ⟨FB_STATUS k, 8, 8⟩
def FB_STATUS_EMU_LAG (k : Nat) : Fld := ⟨FB_STATUS k, 4, 1⟩
def FB_STATUS_DIR (k : Nat) : Fld := ⟨FB_STATUS k, 3, 1⟩
def FB_STATUS_LAST_OK (k : Nat) : Fld := ⟨FB_STATUS k, 2, 1⟩
def FB_STATUS_BUSY (k : Nat) : Fld := ⟨FB_STATUS k, 1, 1⟩
def FB_STATUS_ACTIVE (k : Nat) : Fld := ⟨FB_STATUS k, 0, 1⟩
/-- spec/06_feedback.md, register FB_EVENT. -/
def FB_EVENT (k : Nat) : Nat := 0xC001C + 0x100 * k
def FB_EVENT_LIFE (k : Nat) : Fld := ⟨FB_EVENT k, 8, 1⟩
def FB_EVENT_ABORTED (k : Nat) : Fld := ⟨FB_EVENT k, 7, 1⟩
def FB_EVENT_Z_SEEN (k : Nat) : Fld := ⟨FB_EVENT k, 6, 1⟩
def FB_EVENT_REFUSED (k : Nat) : Fld := ⟨FB_EVENT k, 5, 1⟩
def FB_EVENT_ENC_WARN (k : Nat) : Fld := ⟨FB_EVENT k, 4, 1⟩
def FB_EVENT_ENC_ERR (k : Nat) : Fld := ⟨FB_EVENT k, 3, 1⟩
def FB_EVENT_ILLEGAL (k : Nat) : Fld := ⟨FB_EVENT k, 2, 1⟩
def FB_EVENT_TIMEOUT (k : Nat) : Fld := ⟨FB_EVENT k, 1, 1⟩
def FB_EVENT_CRC (k : Nat) : Fld := ⟨FB_EVENT k, 0, 1⟩
/-- spec/06_feedback.md, register FB_ERRCNT. -/
def FB_ERRCNT (k : Nat) : Nat := 0xC0020 + 0x100 * k
def FB_ERRCNT_CRC (k : Nat) : Fld := ⟨FB_ERRCNT k, 0, 8⟩
def FB_ERRCNT_TMO (k : Nat) : Fld := ⟨FB_ERRCNT k, 8, 8⟩
def FB_ERRCNT_ILL (k : Nat) : Fld := ⟨FB_ERRCNT k, 16, 8⟩
def FB_ERRCNT_ENC (k : Nat) : Fld := ⟨FB_ERRCNT k, 24, 8⟩
/-- spec/06_feedback.md, register FB_CMD. -/
def FB_CMD (k : Nat) : Nat := 0xC0024 + 0x100 * k
def FB_CMD_CLEAR_CNT (k : Nat) : Fld := ⟨FB_CMD k, 0, 1⟩
/-- spec/06_feedback.md, register FB_RAW. -/
def FB_RAW (k : Nat) : Nat := 0xC0028 + 0x100 * k
/-- spec/06_feedback.md, register FB_EDGE. -/
def FB_EDGE (k : Nat) : Nat := 0xC0030 + 0x100 * k
/-- spec/06_feedback.md, register FB_Z. -/
def FB_Z (k : Nat) : Nat := 0xC0038 + 0x100 * k
/-- spec/06_feedback.md, register AX_FB_SRC. -/
def AX_FB_SRC (k : Nat) : Nat := 0x100300 + 0x400 * k
def AX_FB_SRC_DUAL (k : Nat) : Fld := ⟨AX_FB_SRC k, 31, 1⟩
def AX_FB_SRC_SEC_KIND (k : Nat) : Fld := ⟨AX_FB_SRC k, 28, 3⟩
def AX_FB_SRC_SEC_ID (k : Nat) : Fld := ⟨AX_FB_SRC k, 16, 10⟩
def AX_FB_SRC_PRI_KIND (k : Nat) : Fld := ⟨AX_FB_SRC k, 12, 3⟩
def AX_FB_SRC_PRI_ID (k : Nat) : Fld := ⟨AX_FB_SRC k, 0, 10⟩
/-- spec/06_feedback.md, register AX_FB_CTRL. -/
def AX_FB_CTRL (k : Nat) : Nat := 0x100304 + 0x400 * k
def AX_FB_CTRL_CO_HI (k : Nat) : Fld := ⟨AX_FB_CTRL k, 16, 8⟩
def AX_FB_CTRL_CO_LO (k : Nat) : Fld := ⟨AX_FB_CTRL k, 8, 8⟩
def AX_FB_CTRL_LA_EN (k : Nat) : Fld := ⟨AX_FB_CTRL k, 5, 1⟩
def AX_FB_CTRL_DUAL_FALLBACK (k : Nat) : Fld := ⟨AX_FB_CTRL k, 4, 1⟩
def AX_FB_CTRL_EP_SPAN (k : Nat) : Fld := ⟨AX_FB_CTRL k, 2, 2⟩
def AX_FB_CTRL_CD_AVG (k : Nat) : Fld := ⟨AX_FB_CTRL k, 0, 2⟩
/-- spec/06_feedback.md, register AX_FB_STATUS. -/
def AX_FB_STATUS (k : Nat) : Nat := 0x100308 + 0x400 * k
def AX_FB_STATUS_MISS_RUN (k : Nat) : Fld := ⟨AX_FB_STATUS k, 16, 4⟩
def AX_FB_STATUS_STALL (k : Nat) : Fld := ⟨AX_FB_STATUS k, 13, 1⟩
def AX_FB_STATUS_LA_VALID (k : Nat) : Fld := ⟨AX_FB_STATUS k, 12, 1⟩
def AX_FB_STATUS_FROZEN (k : Nat) : Fld := ⟨AX_FB_STATUS k, 11, 1⟩
def AX_FB_STATUS_SEC_LOST (k : Nat) : Fld := ⟨AX_FB_STATUS k, 10, 1⟩
def AX_FB_STATUS_LOST (k : Nat) : Fld := ⟨AX_FB_STATUS k, 9, 1⟩
def AX_FB_STATUS_STILL (k : Nat) : Fld := ⟨AX_FB_STATUS k, 8, 1⟩
def AX_FB_STATUS_SPEED_METHOD (k : Nat) : Fld := ⟨AX_FB_STATUS k, 7, 1⟩
def AX_FB_STATUS_REF_DOUBT (k : Nat) : Fld := ⟨AX_FB_STATUS k, 6, 1⟩
def AX_FB_STATUS_REF_VALID (k : Nat) : Fld := ⟨AX_FB_STATUS k, 5, 1⟩
def AX_FB_STATUS_OBSERVER (k : Nat) : Fld := ⟨AX_FB_STATUS k, 4, 1⟩
def AX_FB_STATUS_SEC_EXTRAP (k : Nat) : Fld := ⟨AX_FB_STATUS k, 3, 1⟩
def AX_FB_STATUS_PRI_EXTRAP (k : Nat) : Fld := ⟨AX_FB_STATUS k, 2, 1⟩
def AX_FB_STATUS_SEC_VALID (k : Nat) : Fld := ⟨AX_FB_STATUS k, 1, 1⟩
def AX_FB_STATUS_PRI_VALID (k : Nat) : Fld := ⟨AX_FB_STATUS k, 0, 1⟩
/-- spec/06_feedback.md, register AX_FB_EVENT. -/
def AX_FB_EVENT (k : Nat) : Nat := 0x10030C + 0x400 * k
def AX_FB_EVENT_REFUSED (k : Nat) : Fld := ⟨AX_FB_EVENT k, 10, 1⟩
def AX_FB_EVENT_RIDE_END (k : Nat) : Fld := ⟨AX_FB_EVENT k, 9, 1⟩
def AX_FB_EVENT_LA_STALL (k : Nat) : Fld := ⟨AX_FB_EVENT k, 8, 1⟩
def AX_FB_EVENT_FOLLOW_DEV (k : Nat) : Fld := ⟨AX_FB_EVENT k, 7, 1⟩
def AX_FB_EVENT_FOLLOW_WARN (k : Nat) : Fld := ⟨AX_FB_EVENT k, 6, 1⟩
def AX_FB_EVENT_DUAL_DEV (k : Nat) : Fld := ⟨AX_FB_EVENT k, 5, 1⟩
def AX_FB_EVENT_MISS (k : Nat) : Fld := ⟨AX_FB_EVENT k, 4, 1⟩
def AX_FB_EVENT_RECOVERED (k : Nat) : Fld := ⟨AX_FB_EVENT k, 3, 1⟩
def AX_FB_EVENT_SEC_LOST (k : Nat) : Fld := ⟨AX_FB_EVENT k, 2, 1⟩
def AX_FB_EVENT_FROZEN (k : Nat) : Fld := ⟨AX_FB_EVENT k, 1, 1⟩
def AX_FB_EVENT_LOST (k : Nat) : Fld := ⟨AX_FB_EVENT k, 0, 1⟩
/-- spec/06_feedback.md, register AX_FB_CMD. -/
def AX_FB_CMD (k : Nat) : Nat := 0x100368 + 0x400 * k
def AX_FB_CMD_SETPOS (k : Nat) : Fld := ⟨AX_FB_CMD k, 0, 1⟩
/-- spec/06_feedback.md, register AX_FB_SCALE. -/
def AX_FB_SCALE (k : Nat) : Nat := 0x100310 + 0x400 * k
/-- spec/06_feedback.md, register AX_FB_SCALE2. -/
def AX_FB_SCALE2 (k : Nat) : Nat := 0x100318 + 0x400 * k
/-- spec/06_feedback.md, register AX_FB_OFFSET. -/
def AX_FB_OFFSET (k : Nat) : Nat := 0x100320 + 0x400 * k
/-- spec/06_feedback.md, register AX_FB_OFFSET2. -/
def AX_FB_OFFSET2 (k : Nat) : Nat := 0x100328 + 0x400 * k
/-- spec/06_feedback.md, register AX_FB_POS. -/
def AX_FB_POS (k : Nat) : Nat := 0x100330 + 0x400 * k
/-- spec/06_feedback.md, register AX_FB_POS2. -/
def AX_FB_POS2 (k : Nat) : Nat := 0x100338 + 0x400 * k
/-- spec/06_feedback.md, register AX_FB_VEL. -/
def AX_FB_VEL (k : Nat) : Nat := 0x100340 + 0x400 * k
def AX_FB_VEL_VALUE (k : Nat) : Fld := ⟨AX_FB_VEL k, 0, 32⟩
/-- spec/06_feedback.md, register AX_FB_TSTILL. -/
def AX_FB_TSTILL (k : Nat) : Nat := 0x100344 + 0x400 * k
def AX_FB_TSTILL_VALUE (k : Nat) : Fld := ⟨AX_FB_TSTILL k, 0, 32⟩
/-- spec/06_feedback.md, register AX_FB_LOSS. -/
def AX_FB_LOSS (k : Nat) : Nat := 0x100348 + 0x400 * k
def AX_FB_LOSS_MISS_LIMIT (k : Nat) : Fld := ⟨AX_FB_LOSS k, 0, 4⟩
def AX_FB_LOSS_FREEZE_BEATS (k : Nat) : Fld := ⟨AX_FB_LOSS k, 8, 8⟩
def AX_FB_LOSS_RIDE_TIME (k : Nat) : Fld := ⟨AX_FB_LOSS k, 16, 10⟩
/-- spec/06_feedback.md, register AX_FB_FREEZE_VMIN. -/
def AX_FB_FREEZE_VMIN (k : Nat) : Nat := 0x10034C + 0x400 * k
def AX_FB_FREEZE_VMIN_VALUE (k : Nat) : Fld := ⟨AX_FB_FREEZE_VMIN k, 0, 32⟩
/-- spec/06_feedback.md, register AX_FB_OBS. -/
def AX_FB_OBS (k : Nat) : Nat := 0x100350 + 0x400 * k
def AX_FB_OBS_L1 (k : Nat) : Fld := ⟨AX_FB_OBS k, 0, 16⟩
def AX_FB_OBS_L2 (k : Nat) : Fld := ⟨AX_FB_OBS k, 16, 16⟩
/-- spec/06_feedback.md, register AX_FB_OBS_KA. -/
def AX_FB_OBS_KA (k : Nat) : Nat := 0x100354 + 0x400 * k
def AX_FB_OBS_KA_VALUE (k : Nat) : Fld := ⟨AX_FB_OBS_KA k, 0, 32⟩
/-- spec/06_feedback.md, register AX_FB_OBS_SH. -/
def AX_FB_OBS_SH (k : Nat) : Nat := 0x100358 + 0x400 * k
def AX_FB_OBS_SH_SH_OBS (k : Nat) : Fld := ⟨AX_FB_OBS_SH k, 0, 6⟩
/-- spec/06_feedback.md, register AX_FB_DUAL_DEV. -/
def AX_FB_DUAL_DEV (k : Nat) : Nat := 0x10035C + 0x400 * k
def AX_FB_DUAL_DEV_VALUE (k : Nat) : Fld := ⟨AX_FB_DUAL_DEV k, 0, 32⟩
/-- spec/06_feedback.md, register AX_FB_SETPOS. -/
def AX_FB_SETPOS (k : Nat) : Nat := 0x100360 + 0x400 * k
/-- spec/06_feedback.md, register AX_SD_DEV_WARN. -/
def AX_SD_DEV_WARN (k : Nat) : Nat := 0x100380 + 0x400 * k
def AX_SD_DEV_WARN_VALUE (k : Nat) : Fld := ⟨AX_SD_DEV_WARN k, 0, 32⟩
/-- spec/06_feedback.md, register AX_SD_DEV_MAX. -/
def AX_SD_DEV_MAX (k : Nat) : Nat := 0x100384 + 0x400 * k
def AX_SD_DEV_MAX_VALUE (k : Nat) : Fld := ⟨AX_SD_DEV_MAX k, 0, 32⟩
/-- spec/06_feedback.md, register AX_SD_CTRL. -/
def AX_SD_CTRL (k : Nat) : Nat := 0x100388 + 0x400 * k
def AX_SD_CTRL_DEV_BEATS (k : Nat) : Fld := ⟨AX_SD_CTRL k, 0, 8⟩
def AX_SD_CTRL_LA_BEATS (k : Nat) : Fld := ⟨AX_SD_CTRL k, 8, 8⟩
/-- spec/06_feedback.md, register AX_SD_LA_R. -/
def AX_SD_LA_R (k : Nat) : Nat := 0x10038C + 0x400 * k
def AX_SD_LA_R_VALUE (k : Nat) : Fld := ⟨AX_SD_LA_R k, 0, 32⟩
/-- spec/06_feedback.md, register AX_SD_LA_L. -/
def AX_SD_LA_L (k : Nat) : Nat := 0x100390 + 0x400 * k
def AX_SD_LA_L_VALUE (k : Nat) : Fld := ⟨AX_SD_LA_L k, 0, 32⟩
/-- spec/06_feedback.md, register AX_SD_LA_EMIN. -/
def AX_SD_LA_EMIN (k : Nat) : Nat := 0x100394 + 0x400 * k
def AX_SD_LA_EMIN_VALUE (k : Nat) : Fld := ⟨AX_SD_LA_EMIN k, 0, 32⟩
/-- spec/06_feedback.md, register AX_SD_LA_STALL. -/
def AX_SD_LA_STALL (k : Nat) : Nat := 0x100398 + 0x400 * k
def AX_SD_LA_STALL_VALUE (k : Nat) : Fld := ⟨AX_SD_LA_STALL k, 0, 32⟩
/-- spec/06_feedback.md, register AX_SD_LA. -/
def AX_SD_LA (k : Nat) : Nat := 0x10039C + 0x400 * k
def AX_SD_LA_VALUE (k : Nat) : Fld := ⟨AX_SD_LA k, 0, 32⟩
/-- spec/07_milestones_and_latches.md, register MS_CTRL. -/
def MS_CTRL (k : Nat) : Nat := 0xC5000 + 0x40 * k
def MS_CTRL_SRC_ID (k : Nat) : Fld := ⟨MS_CTRL k, 8, 8⟩
def MS_CTRL_SRC_KIND (k : Nat) : Fld := ⟨MS_CTRL k, 4, 3⟩
def MS_CTRL_POL (k : Nat) : Fld := ⟨MS_CTRL k, 2, 1⟩
def MS_CTRL_LATE_EN (k : Nat) : Fld := ⟨MS_CTRL k, 1, 1⟩
def MS_CTRL_EN (k : Nat) : Fld := ⟨MS_CTRL k, 0, 1⟩
/-- spec/07_milestones_and_latches.md, register MS_WIDTH. -/
def MS_WIDTH (k : Nat) : Nat := 0xC5004 + 0x40 * k
def MS_WIDTH_WIDTH (k : Nat) : Fld := ⟨MS_WIDTH k, 0, 17⟩
/-- spec/07_milestones_and_latches.md, register MS_COMP. -/
def MS_COMP (k : Nat) : Nat := 0xC5008 + 0x40 * k
def MS_COMP_COMP (k : Nat) : Fld := ⟨MS_COMP k, 0, 24⟩
/-- spec/07_milestones_and_latches.md, register MS_MINV. -/
def MS_MINV (k : Nat) : Nat := 0xC500C + 0x40 * k
def MS_MINV_MINV (k : Nat) : Fld := ⟨MS_MINV k, 0, 32⟩
/-- spec/07_milestones_and_latches.md, register MS_STATUS. -/
def MS_STATUS (k : Nat) : Nat := 0xC5010 + 0x40 * k
def MS_STATUS_REFUSE_LAST (k : Nat) : Fld := ⟨MS_STATUS k, 24, 8⟩
def MS_STATUS_EXACT (k : Nat) : Fld := ⟨MS_STATUS k, 19, 1⟩
def MS_STATUS_SCHED (k : Nat) : Fld := ⟨MS_STATUS k, 18, 1⟩
def MS_STATUS_PULSE (k : Nat) : Fld := ⟨MS_STATUS k, 17, 1⟩
def MS_STATUS_ARMED (k : Nat) : Fld := ⟨MS_STATUS k, 16, 1⟩
def MS_STATUS_FILL (k : Nat) : Fld := ⟨MS_STATUS k, 0, 11⟩
/-- spec/07_milestones_and_latches.md, register MS_EVENT. -/
def MS_EVENT (k : Nat) : Nat := 0xC5014 + 0x40 * k
def MS_EVENT_REFILL_REFUSED (k : Nat) : Fld := ⟨MS_EVENT k, 7, 1⟩
def MS_EVENT_EMPTY (k : Nat) : Fld := ⟨MS_EVENT k, 6, 1⟩
def MS_EVENT_LOW (k : Nat) : Fld := ⟨MS_EVENT k, 5, 1⟩
def MS_EVENT_UNCONFIRMED (k : Nat) : Fld := ⟨MS_EVENT k, 4, 1⟩
def MS_EVENT_WITHDRAWN (k : Nat) : Fld := ⟨MS_EVENT k, 3, 1⟩
def MS_EVENT_MISSED (k : Nat) : Fld := ⟨MS_EVENT k, 2, 1⟩
def MS_EVENT_LATE (k : Nat) : Fld := ⟨MS_EVENT k, 1, 1⟩
def MS_EVENT_FIRED (k : Nat) : Fld := ⟨MS_EVENT k, 0, 1⟩
/-- spec/07_milestones_and_latches.md, register MS_CMD. -/
def MS_CMD (k : Nat) : Nat := 0xC5018 + 0x40 * k
def MS_CMD_SKIP (k : Nat) : Fld := ⟨MS_CMD k, 2, 1⟩
def MS_CMD_FORCE (k : Nat) : Fld := ⟨MS_CMD k, 1, 1⟩
def MS_CMD_FLUSH (k : Nat) : Fld := ⟨MS_CMD k, 0, 1⟩
/-- spec/07_milestones_and_latches.md, register MS_FIRED. -/
def MS_FIRED (k : Nat) : Nat := 0xC501C + 0x40 * k
def MS_FIRED_COUNT (k : Nat) : Fld := ⟨MS_FIRED k, 0, 32⟩
/-- spec/07_milestones_and_latches.md, register MS_NEXT. -/
def MS_NEXT (k : Nat) : Nat := 0xC5020 + 0x40 * k
/-- spec/07_milestones_and_latches.md, register MS_SCHED. -/
def MS_SCHED (k : Nat) : Nat := 0xC5028 + 0x40 * k
/-- spec/07_milestones_and_latches.md, register MS_LAST. -/
def MS_LAST (k : Nat) : Nat := 0xC5030 + 0x40 * k
/-- spec/07_milestones_and_latches.md, register LT_CTRL. -/
def LT_CTRL (k : Nat) : Nat := 0xC6000 + 0x40 * k
def LT_CTRL_SRC_ID (k : Nat) : Fld := ⟨LT_CTRL k, 16, 10⟩
def LT_CTRL_SRC_KIND (k : Nat) : Fld := ⟨LT_CTRL k, 8, 3⟩
def LT_CTRL_FILT (k : Nat) : Fld := ⟨LT_CTRL k, 4, 4⟩
def LT_CTRL_EDGE (k : Nat) : Fld := ⟨LT_CTRL k, 2, 2⟩
def LT_CTRL_SINGLE (k : Nat) : Fld := ⟨LT_CTRL k, 1, 1⟩
def LT_CTRL_EN (k : Nat) : Fld := ⟨LT_CTRL k, 0, 1⟩
/-- spec/07_milestones_and_latches.md, register LT_AXES_A. -/
def LT_AXES_A (k : Nat) : Nat := 0xC6004 + 0x40 * k
def LT_AXES_A_AXIS0_AXIS3 (k : Nat) : Fld := ⟨LT_AXES_A k, 0, 32⟩
/-- spec/07_milestones_and_latches.md, register LT_AXES_B. -/
def LT_AXES_B (k : Nat) : Nat := 0xC6008 + 0x40 * k
def LT_AXES_B_AXIS4_AXIS7 (k : Nat) : Fld := ⟨LT_AXES_B k, 0, 32⟩
/-- spec/07_milestones_and_latches.md, register LT_STATUS. -/
def LT_STATUS (k : Nat) : Nat := 0xC600C + 0x40 * k
def LT_STATUS_REFUSE_LAST (k : Nat) : Fld := ⟨LT_STATUS k, 8, 8⟩
def LT_STATUS_PENDING (k : Nat) : Fld := ⟨LT_STATUS k, 1, 3⟩
def LT_STATUS_ARMED (k : Nat) : Fld := ⟨LT_STATUS k, 0, 1⟩
/-- spec/07_milestones_and_latches.md, register LT_EVENT. -/
def LT_EVENT (k : Nat) : Nat := 0xC6010 + 0x40 * k
def LT_EVENT_LOST (k : Nat) : Fld := ⟨LT_EVENT k, 2, 1⟩
def LT_EVENT_DROPPED (k : Nat) : Fld := ⟨LT_EVENT k, 1, 1⟩
def LT_EVENT_CAPTURED (k : Nat) : Fld := ⟨LT_EVENT k, 0, 1⟩
/-- spec/07_milestones_and_latches.md, register LT_COUNT. -/
def LT_COUNT (k : Nat) : Nat := 0xC6014 + 0x40 * k
def LT_COUNT_COUNT (k : Nat) : Fld := ⟨LT_COUNT k, 0, 32⟩
/-- spec/07_milestones_and_latches.md, register LT_DROP. -/
def LT_DROP (k : Nat) : Nat := 0xC6018 + 0x40 * k
def LT_DROP_LOST (k : Nat) : Fld := ⟨LT_DROP k, 16, 16⟩
def LT_DROP_DROPPED (k : Nat) : Fld := ⟨LT_DROP k, 0, 16⟩
/-- spec/07_milestones_and_latches.md, register LT_LAST. -/
def LT_LAST (k : Nat) : Nat := 0xC601C + 0x40 * k
/-- spec/07_milestones_and_latches.md, register LT_CMD. -/
def LT_CMD (k : Nat) : Nat := 0xC6024 + 0x40 * k
def LT_CMD_CLEAR_CNT (k : Nat) : Fld := ⟨LT_CMD k, 1, 1⟩
def LT_CMD_REARM (k : Nat) : Fld := ⟨LT_CMD k, 0, 1⟩
/-- spec/08_troko_chains.md, register TK_CTRL. -/
def TK_CTRL (k : Nat) : Nat := 0x80000 + 0x400 * k
def TK_CTRL_DIV (k : Nat) : Fld := ⟨TK_CTRL k, 16, 7⟩
def TK_CTRL_AUTO_START (k : Nat) : Fld := ⟨TK_CTRL k, 10, 1⟩
def TK_CTRL_AUTO_CENSUS (k : Nat) : Fld := ⟨TK_CTRL k, 9, 1⟩
def TK_CTRL_RSTB_EN (k : Nat) : Fld := ⟨TK_CTRL k, 8, 1⟩
def TK_CTRL_MODE (k : Nat) : Fld := ⟨TK_CTRL k, 0, 3⟩
/-- spec/08_troko_chains.md, register TK_TIMING. -/
def TK_TIMING (k : Nat) : Nat := 0x80004 + 0x400 * k
def TK_TIMING_RETRIES (k : Nat) : Fld := ⟨TK_TIMING k, 16, 8⟩
def TK_TIMING_LOOP_MAX (k : Nat) : Fld := ⟨TK_TIMING k, 8, 5⟩
def TK_TIMING_LOAD_WAIT (k : Nat) : Fld := ⟨TK_TIMING k, 0, 8⟩
/-- spec/08_troko_chains.md, register TK_CMD. -/
def TK_CMD (k : Nat) : Nat := 0x80008 + 0x400 * k
def TK_CMD_CLEAR_CNT (k : Nat) : Fld := ⟨TK_CMD k, 3, 1⟩
def TK_CMD_STOP (k : Nat) : Fld := ⟨TK_CMD k, 2, 1⟩
def TK_CMD_START (k : Nat) : Fld := ⟨TK_CMD k, 1, 1⟩
def TK_CMD_CENSUS (k : Nat) : Fld := ⟨TK_CMD k, 0, 1⟩
/-- spec/08_troko_chains.md, register TK_STATUS. -/
def TK_STATUS (k : Nat) : Nat := 0x8000C + 0x400 * k
def TK_STATUS_REFUSE_LAST (k : Nat) : Fld := ⟨TK_STATUS k, 24, 4⟩
def TK_STATUS_CENSUS_RESULT (k : Nat) : Fld := ⟨TK_STATUS k, 20, 4⟩
def TK_STATUS_FAIL_NODE (k : Nat) : Fld := ⟨TK_STATUS k, 16, 4⟩
def TK_STATUS_NODES (k : Nat) : Fld := ⟨TK_STATUS k, 8, 5⟩
def TK_STATUS_REVERSED (k : Nat) : Fld := ⟨TK_STATUS k, 4, 1⟩
def TK_STATUS_LAYOUT_PEND (k : Nat) : Fld := ⟨TK_STATUS k, 3, 1⟩
def TK_STATUS_STATE (k : Nat) : Fld := ⟨TK_STATUS k, 0, 3⟩
/-- spec/08_troko_chains.md, register TK_EVENT. -/
def TK_EVENT (k : Nat) : Nat := 0x80010 + 0x400 * k
def TK_EVENT_STOPPED (k : Nat) : Fld := ⟨TK_EVENT k, 13, 1⟩
def TK_EVENT_STARTED (k : Nat) : Fld := ⟨TK_EVENT k, 12, 1⟩
def TK_EVENT_REFUSED (k : Nat) : Fld := ⟨TK_EVENT k, 11, 1⟩
def TK_EVENT_NODE_FAULT (k : Nat) : Fld := ⟨TK_EVENT k, 10, 1⟩
def TK_EVENT_STO_MISMATCH (k : Nat) : Fld := ⟨TK_EVENT k, 9, 1⟩
def TK_EVENT_LOOP (k : Nat) : Fld := ⟨TK_EVENT k, 8, 1⟩
def TK_EVENT_CMD_CRC (k : Nat) : Fld := ⟨TK_EVENT k, 7, 1⟩
def TK_EVENT_EDGE_ERR (k : Nat) : Fld := ⟨TK_EVENT k, 6, 1⟩
def TK_EVENT_STALE (k : Nat) : Fld := ⟨TK_EVENT k, 5, 1⟩
def TK_EVENT_SLOT_CRC (k : Nat) : Fld := ⟨TK_EVENT k, 4, 1⟩
def TK_EVENT_LENGTH (k : Nat) : Fld := ⟨TK_EVENT k, 3, 1⟩
def TK_EVENT_OPEN (k : Nat) : Fld := ⟨TK_EVENT k, 2, 1⟩
def TK_EVENT_CENSUS_FAIL (k : Nat) : Fld := ⟨TK_EVENT k, 1, 1⟩
def TK_EVENT_CENSUS_DONE (k : Nat) : Fld := ⟨TK_EVENT k, 0, 1⟩
/-- spec/08_troko_chains.md, register TK_FRAME. -/
def TK_FRAME (k : Nat) : Nat := 0x80014 + 0x400 * k
def TK_FRAME_F (k : Nat) : Fld := ⟨TK_FRAME k, 16, 13⟩
def TK_FRAME_FRAME_BITS (k : Nat) : Fld := ⟨TK_FRAME k, 0, 16⟩
/-- spec/08_troko_chains.md, register TK_LOOP. -/
def TK_LOOP (k : Nat) : Nat := 0x80018 + 0x400 * k
def TK_LOOP_PEAK (k : Nat) : Fld := ⟨TK_LOOP k, 8, 8⟩
def TK_LOOP_LOOP_DLY (k : Nat) : Fld := ⟨TK_LOOP k, 0, 8⟩
/-- spec/08_troko_chains.md, register TK_INV. -/
def TK_INV (k : Nat) : Nat := 0x8001C + 0x400 * k
def TK_INV_REV (k : Nat) : Fld := ⟨TK_INV k, 0, 17⟩
/-- spec/08_troko_chains.md, register TK_ERRCNT. -/
def TK_ERRCNT (k : Nat) : Nat := 0x80020 + 0x400 * k
def TK_ERRCNT_OPEN (k : Nat) : Fld := ⟨TK_ERRCNT k, 16, 16⟩
def TK_ERRCNT_LENGTH (k : Nat) : Fld := ⟨TK_ERRCNT k, 0, 16⟩
/-- spec/08_troko_chains.md, register TK_STO. -/
def TK_STO (k : Nat) : Nat := 0x80024 + 0x400 * k
def TK_STO_PIN (k : Nat) : Fld := ⟨TK_STO k, 1, 1⟩
def TK_STO_DRIVEN (k : Nat) : Fld := ⟨TK_STO k, 0, 1⟩
/-- spec/08_troko_chains.md, register TK_NODE_ID. -/
def TK_NODE_ID (k j : Nat) : Nat := 0x80100 + 0x400 * k + 0x10 * j
/-- spec/08_troko_chains.md, register TK_NODE_CNT. -/
def TK_NODE_CNT (k j : Nat) : Nat := 0x80108 + 0x400 * k + 0x10 * j
def TK_NODE_CNT_SLOT_CRC (k j : Nat) : Fld := ⟨TK_NODE_CNT k j, 24, 8⟩
def TK_NODE_CNT_CMD_CRC (k j : Nat) : Fld := ⟨TK_NODE_CNT k j, 16, 8⟩
def TK_NODE_CNT_EDGE_ERR (k j : Nat) : Fld := ⟨TK_NODE_CNT k j, 8, 8⟩
def TK_NODE_CNT_STALE (k j : Nat) : Fld := ⟨TK_NODE_CNT k j, 0, 8⟩
/-- spec/08_troko_chains.md, register TK_NODE_STAT. -/
def TK_NODE_STAT (k j : Nat) : Nat := 0x8010C + 0x400 * k + 0x10 * j
def TK_NODE_STAT_VALID (k j : Nat) : Fld := ⟨TK_NODE_STAT k j, 31, 1⟩
def TK_NODE_STAT_LATE (k j : Nat) : Fld := ⟨TK_NODE_STAT k j, 30, 1⟩
def TK_NODE_STAT_READY (k j : Nat) : Fld := ⟨TK_NODE_STAT k j, 16, 13⟩
def TK_NODE_STAT_HEADER (k j : Nat) : Fld := ⟨TK_NODE_STAT k j, 0, 16⟩
/-- spec/09_modulator.md, register MD_PAIR_CTRL. -/
def MD_PAIR_CTRL (k : Nat) : Nat := 0xB0000 + 0x20 * k
def MD_PAIR_CTRL_BLANK (k : Nat) : Fld := ⟨MD_PAIR_CTRL k, 24, 8⟩
def MD_PAIR_CTRL_DT (k : Nat) : Fld := ⟨MD_PAIR_CTRL k, 16, 8⟩
def MD_PAIR_CTRL_CHOP_SRC (k : Nat) : Fld := ⟨MD_PAIR_CTRL k, 8, 3⟩
def MD_PAIR_CTRL_PAIRED (k : Nat) : Fld := ⟨MD_PAIR_CTRL k, 7, 1⟩
def MD_PAIR_CTRL_UPD_HALF (k : Nat) : Fld := ⟨MD_PAIR_CTRL k, 6, 1⟩
def MD_PAIR_CTRL_SYNC (k : Nat) : Fld := ⟨MD_PAIR_CTRL k, 5, 1⟩
def MD_PAIR_CTRL_POL_L (k : Nat) : Fld := ⟨MD_PAIR_CTRL k, 4, 1⟩
def MD_PAIR_CTRL_POL_H (k : Nat) : Fld := ⟨MD_PAIR_CTRL k, 3, 1⟩
def MD_PAIR_CTRL_CARRIER_HI (k : Nat) : Fld := ⟨MD_PAIR_CTRL k, 2, 1⟩
def MD_PAIR_CTRL_OUT_CAR (k : Nat) : Fld := ⟨MD_PAIR_CTRL k, 0, 2⟩
/-- spec/09_modulator.md, register MD_PAIR_PER. -/
def MD_PAIR_PER (k : Nat) : Nat := 0xB0004 + 0x20 * k
def MD_PAIR_PER_TIME (k : Nat) : Fld := ⟨MD_PAIR_PER k, 16, 16⟩
def MD_PAIR_PER_PER (k : Nat) : Fld := ⟨MD_PAIR_PER k, 0, 16⟩
/-- spec/09_modulator.md, register MD_PAIR_CMP. -/
def MD_PAIR_CMP (k : Nat) : Nat := 0xB0008 + 0x20 * k
def MD_PAIR_CMP_CMP (k : Nat) : Fld := ⟨MD_PAIR_CMP k, 0, 32⟩
/-- spec/09_modulator.md, register MD_PAIR_CMD. -/
def MD_PAIR_CMD (k : Nat) : Nat := 0xB000C + 0x20 * k
def MD_PAIR_CMD_OUT_MODE_HI (k : Nat) : Fld := ⟨MD_PAIR_CMD k, 1, 1⟩
def MD_PAIR_CMD_COMMIT (k : Nat) : Fld := ⟨MD_PAIR_CMD k, 0, 1⟩
/-- spec/09_modulator.md, register MD_PAIR_STATUS. -/
def MD_PAIR_STATUS (k : Nat) : Nat := 0xB0010 + 0x20 * k
def MD_PAIR_STATUS_REFUSE_LAST (k : Nat) : Fld := ⟨MD_PAIR_STATUS k, 24, 8⟩
def MD_PAIR_STATUS_SYNC_LOST (k : Nat) : Fld := ⟨MD_PAIR_STATUS k, 23, 1⟩
def MD_PAIR_STATUS_BOUND (k : Nat) : Fld := ⟨MD_PAIR_STATUS k, 22, 1⟩
def MD_PAIR_STATUS_COMMIT_PEND (k : Nat) : Fld := ⟨MD_PAIR_STATUS k, 21, 1⟩
def MD_PAIR_STATUS_TRIPPED (k : Nat) : Fld := ⟨MD_PAIR_STATUS k, 20, 1⟩
def MD_PAIR_STATUS_ACTIVE (k : Nat) : Fld := ⟨MD_PAIR_STATUS k, 0, 20⟩
/-- spec/09_modulator.md, register MD_PAIR_EVENT. -/
def MD_PAIR_EVENT (k : Nat) : Nat := 0xB0014 + 0x20 * k
def MD_PAIR_EVENT_REFUSED (k : Nat) : Fld := ⟨MD_PAIR_EVENT k, 2, 1⟩
def MD_PAIR_EVENT_TRIPPED (k : Nat) : Fld := ⟨MD_PAIR_EVENT k, 1, 1⟩
def MD_PAIR_EVENT_CLAMP (k : Nat) : Fld := ⟨MD_PAIR_EVENT k, 0, 1⟩
/-- spec/09_modulator.md, register MD_PAIR_ACT_PER. -/
def MD_PAIR_ACT_PER (k : Nat) : Nat := 0xB0018 + 0x20 * k
def MD_PAIR_ACT_PER_LAST_PER (k : Nat) : Fld := ⟨MD_PAIR_ACT_PER k, 16, 16⟩
def MD_PAIR_ACT_PER_PER (k : Nat) : Fld := ⟨MD_PAIR_ACT_PER k, 0, 16⟩
/-- spec/09_modulator.md, register MD_TRIP_CTRL. -/
def MD_TRIP_CTRL (k : Nat) : Nat := 0xB0200 + 0x10 * k
def MD_TRIP_CTRL_EN (k : Nat) : Fld := ⟨MD_TRIP_CTRL k, 9, 1⟩
def MD_TRIP_CTRL_POL (k : Nat) : Fld := ⟨MD_TRIP_CTRL k, 8, 1⟩
def MD_TRIP_CTRL_FILT (k : Nat) : Fld := ⟨MD_TRIP_CTRL k, 0, 8⟩
/-- spec/09_modulator.md, register MD_TRIP_STATUS. -/
def MD_TRIP_STATUS (k : Nat) : Nat := 0xB0204 + 0x10 * k
def MD_TRIP_STATUS_CHOP (k : Nat) : Fld := ⟨MD_TRIP_STATUS k, 2, 1⟩
def MD_TRIP_STATUS_PIN (k : Nat) : Fld := ⟨MD_TRIP_STATUS k, 1, 1⟩
def MD_TRIP_STATUS_LEVEL (k : Nat) : Fld := ⟨MD_TRIP_STATUS k, 0, 1⟩
/-- spec/09_modulator.md, register MD_TRIP_LATCH. -/
def MD_TRIP_LATCH : Nat := 0xB0300
def MD_TRIP_LATCH_LATCHED : Fld := ⟨MD_TRIP_LATCH, 0, 16⟩
/-- spec/09_modulator.md, register MD_TRIP_CLEAR. -/
def MD_TRIP_CLEAR : Nat := 0xB0304
def MD_TRIP_CLEAR_CLEAR : Fld := ⟨MD_TRIP_CLEAR, 0, 16⟩
/-- spec/09_modulator.md, register MD_SOFT_TRIP. -/
def MD_SOFT_TRIP : Nat := 0xB0308
def MD_SOFT_TRIP_SET : Fld := ⟨MD_SOFT_TRIP, 8, 8⟩
/-- spec/09_modulator.md, register MD_TRIP_CNT. -/
def MD_TRIP_CNT (k : Nat) : Nat := 0xB0340 + 0x4 * k
def MD_TRIP_CNT_REFUSED_CLR (k : Nat) : Fld := ⟨MD_TRIP_CNT k, 16, 16⟩
def MD_TRIP_CNT_TRIPS (k : Nat) : Fld := ⟨MD_TRIP_CNT k, 0, 16⟩
/-- spec/09_modulator.md, register AX_MB_CTRL. -/
def AX_MB_CTRL (k : Nat) : Nat := 0x1003C0 + 0x400 * k
def AX_MB_CTRL_KIND (k : Nat) : Fld := ⟨AX_MB_CTRL k, 0, 2⟩
/-- spec/09_modulator.md, register AX_MB_PAIRS. -/
def AX_MB_PAIRS (k : Nat) : Nat := 0x1003C4 + 0x400 * k
def AX_MB_PAIRS_PAIRS (k : Nat) : Fld := ⟨AX_MB_PAIRS k, 0, 16⟩
/-- spec/09_modulator.md, register AX_MB_CHAN. -/
def AX_MB_CHAN (k : Nat) : Nat := 0x1003C8 + 0x400 * k
def AX_MB_CHAN_CHAN (k : Nat) : Fld := ⟨AX_MB_CHAN k, 0, 10⟩
/-- spec/09_modulator.md, register AX_MB_CARRIER. -/
def AX_MB_CARRIER (k : Nat) : Nat := 0x1003CC + 0x400 * k
def AX_MB_CARRIER_CARRIER (k : Nat) : Fld := ⟨AX_MB_CARRIER k, 0, 32⟩
/-- spec/09_modulator.md, register AX_MB_CMD. -/
def AX_MB_CMD (k : Nat) : Nat := 0x1003D0 + 0x400 * k
def AX_MB_CMD_COMMIT (k : Nat) : Fld := ⟨AX_MB_CMD k, 0, 1⟩
/-- spec/10_itineraries.md, register IT_CTRL. -/
def IT_CTRL (k : Nat) : Nat := 0xD0000 + 0x100 * k
def IT_CTRL_ABORT_REACT (k : Nat) : Fld := ⟨IT_CTRL k, 8, 2⟩
def IT_CTRL_TABLE (k : Nat) : Fld := ⟨IT_CTRL k, 0, 7⟩
/-- spec/10_itineraries.md, register IT_CMD. -/
def IT_CMD (k : Nat) : Nat := 0xD0004 + 0x100 * k
def IT_CMD_STATE (k : Nat) : Fld := ⟨IT_CMD k, 8, 8⟩
def IT_CMD_AT_STATE (k : Nat) : Fld := ⟨IT_CMD k, 4, 1⟩
def IT_CMD_CODE (k : Nat) : Fld := ⟨IT_CMD k, 0, 4⟩
/-- spec/10_itineraries.md, register IT_STATUS. -/
def IT_STATUS (k : Nat) : Nat := 0xD0008 + 0x100 * k
def IT_STATUS_REFUSE_LAST (k : Nat) : Fld := ⟨IT_STATUS k, 24, 8⟩
def IT_STATUS_PHASE (k : Nat) : Fld := ⟨IT_STATUS k, 16, 4⟩
def IT_STATUS_STATE (k : Nat) : Fld := ⟨IT_STATUS k, 8, 8⟩
def IT_STATUS_TABLE_PEND (k : Nat) : Fld := ⟨IT_STATUS k, 3, 1⟩
def IT_STATUS_RUN (k : Nat) : Fld := ⟨IT_STATUS k, 0, 3⟩
/-- spec/10_itineraries.md, register IT_EVENT. -/
def IT_EVENT (k : Nat) : Nat := 0xD000C + 0x100 * k
def IT_EVENT_REFUSED (k : Nat) : Fld := ⟨IT_EVENT k, 3, 1⟩
def IT_EVENT_ABORTED (k : Nat) : Fld := ⟨IT_EVENT k, 2, 1⟩
def IT_EVENT_FAULT (k : Nat) : Fld := ⟨IT_EVENT k, 1, 1⟩
def IT_EVENT_DONE (k : Nat) : Fld := ⟨IT_EVENT k, 0, 1⟩
/-- spec/10_itineraries.md, register IT_FLAGS. -/
def IT_FLAGS (k : Nat) : Nat := 0xD0010 + 0x100 * k
def IT_FLAGS_FLAGS (k : Nat) : Fld := ⟨IT_FLAGS k, 0, 32⟩
/-- spec/10_itineraries.md, register IT_OUT. -/
def IT_OUT (k : Nat) : Nat := 0xD0014 + 0x100 * k
def IT_OUT_OUT (k : Nat) : Fld := ⟨IT_OUT k, 0, 32⟩
/-- spec/10_itineraries.md, register IT_FAULT. -/
def IT_FAULT (k : Nat) : Nat := 0xD0018 + 0x100 * k
def IT_FAULT_DETAIL (k : Nat) : Fld := ⟨IT_FAULT k, 24, 8⟩
def IT_FAULT_ACTION (k : Nat) : Fld := ⟨IT_FAULT k, 16, 4⟩
def IT_FAULT_STATE (k : Nat) : Fld := ⟨IT_FAULT k, 8, 8⟩
def IT_FAULT_CODE (k : Nat) : Fld := ⟨IT_FAULT k, 0, 8⟩
/-- spec/10_itineraries.md, register IT_STIMER. -/
def IT_STIMER (k : Nat) : Nat := 0xD001C + 0x100 * k
def IT_STIMER_ROUNDS (k : Nat) : Fld := ⟨IT_STIMER k, 0, 32⟩
/-- spec/10_itineraries.md, register IT_TIMER. -/
def IT_TIMER (k : Nat) : Nat := 0xD0020 + 0x100 * k
def IT_TIMER_T1 (k : Nat) : Fld := ⟨IT_TIMER k, 16, 16⟩
def IT_TIMER_T0 (k : Nat) : Fld := ⟨IT_TIMER k, 0, 16⟩
/-- spec/10_itineraries.md, register IT_TRANS. -/
def IT_TRANS (k : Nat) : Nat := 0xD0024 + 0x100 * k
def IT_TRANS_COUNT (k : Nat) : Fld := ⟨IT_TRANS k, 0, 32⟩
/-- spec/10_itineraries.md, register IT_ROUNDS. -/
def IT_ROUNDS (k : Nat) : Nat := 0xD0028 + 0x100 * k
def IT_ROUNDS_COUNT (k : Nat) : Fld := ⟨IT_ROUNDS k, 0, 32⟩
/-- spec/10_itineraries.md, register IT_HM_SEL. -/
def IT_HM_SEL (k : Nat) : Nat := 0xD0040 + 0x100 * k
def IT_HM_SEL_HOME_IN (k : Nat) : Fld := ⟨IT_HM_SEL k, 24, 8⟩
def IT_HM_SEL_POS_LIM (k : Nat) : Fld := ⟨IT_HM_SEL k, 16, 8⟩
def IT_HM_SEL_NEG_LIM (k : Nat) : Fld := ⟨IT_HM_SEL k, 8, 8⟩
def IT_HM_SEL_AXIS (k : Nat) : Fld := ⟨IT_HM_SEL k, 0, 8⟩
/-- spec/10_itineraries.md, register IT_HM_OPT. -/
def IT_HM_OPT (k : Nat) : Nat := 0xD0044 + 0x100 * k
def IT_HM_OPT_STABLE (k : Nat) : Fld := ⟨IT_HM_OPT k, 8, 8⟩
def IT_HM_OPT_ZPORT (k : Nat) : Fld := ⟨IT_HM_OPT k, 4, 4⟩
def IT_HM_OPT_FINAL_EN (k : Nat) : Fld := ⟨IT_HM_OPT k, 3, 1⟩
def IT_HM_OPT_HOME_POL (k : Nat) : Fld := ⟨IT_HM_OPT k, 2, 1⟩
def IT_HM_OPT_POS_POL (k : Nat) : Fld := ⟨IT_HM_OPT k, 1, 1⟩
def IT_HM_OPT_NEG_POL (k : Nat) : Fld := ⟨IT_HM_OPT k, 0, 1⟩
/-- spec/10_itineraries.md, register IT_HM_VS. -/
def IT_HM_VS (k : Nat) : Nat := 0xD0048 + 0x100 * k
/-- spec/10_itineraries.md, register IT_HM_VSLOW. -/
def IT_HM_VSLOW (k : Nat) : Nat := 0xD0050 + 0x100 * k
/-- spec/10_itineraries.md, register IT_HM_BACKOFF. -/
def IT_HM_BACKOFF (k : Nat) : Nat := 0xD0058 + 0x100 * k
/-- spec/10_itineraries.md, register IT_HM_POS. -/
def IT_HM_POS (k : Nat) : Nat := 0xD0060 + 0x100 * k
/-- spec/10_itineraries.md, register IT_HM_FINAL. -/
def IT_HM_FINAL (k : Nat) : Nat := 0xD0068 + 0x100 * k
/-- spec/10_itineraries.md, register IT_HM_TMO. -/
def IT_HM_TMO (k : Nat) : Nat := 0xD0070 + 0x100 * k
def IT_HM_TMO_TMO (k : Nat) : Fld := ⟨IT_HM_TMO k, 0, 32⟩
/-- spec/10_itineraries.md, register IT_HM_CAP. -/
def IT_HM_CAP (k : Nat) : Nat := 0xD0078 + 0x100 * k
/-- spec/11_caravanserai.md, register CV_CTRL. -/
def CV_CTRL : Nat := 0x30000
def CV_CTRL_OUTRIDER_EN : Fld := ⟨CV_CTRL, 31, 1⟩
def CV_CTRL_HB_LATE : Fld := ⟨CV_CTRL, 0, 13⟩
/-- spec/11_caravanserai.md, register CV_SWAP. -/
def CV_SWAP : Nat := 0x30004
def CV_SWAP_UPD_PERIOD : Fld := ⟨CV_SWAP, 16, 16⟩
def CV_SWAP_SWAP_PERIOD : Fld := ⟨CV_SWAP, 0, 16⟩
/-- spec/11_caravanserai.md, register CV_PACE. -/
def CV_PACE : Nat := 0x30008
def CV_PACE_MARGIN_WARN : Fld := ⟨CV_PACE, 16, 16⟩
def CV_PACE_MARGIN_RETIRE : Fld := ⟨CV_PACE, 0, 16⟩
/-- spec/11_caravanserai.md, register CV_CKPT_BASE. -/
def CV_CKPT_BASE : Nat := 0x3000C
def CV_CKPT_BASE_BASE : Fld := ⟨CV_CKPT_BASE, 8, 24⟩
/-- spec/11_caravanserai.md, register CV_CMD. -/
def CV_CMD : Nat := 0x30010
def CV_CMD_IMAGE : Fld := ⟨CV_CMD, 16, 3⟩
def CV_CMD_ENGINE : Fld := ⟨CV_CMD, 8, 5⟩
def CV_CMD_CODE : Fld := ⟨CV_CMD, 0, 4⟩
/-- spec/11_caravanserai.md, register CV_UPD_MASK. -/
def CV_UPD_MASK : Nat := 0x30014
def CV_UPD_MASK_MASK : Fld := ⟨CV_UPD_MASK, 0, 28⟩
/-- spec/11_caravanserai.md, register CV_STATUS. -/
def CV_STATUS : Nat := 0x30018
def CV_STATUS_REFUSE_LAST : Fld := ⟨CV_STATUS, 24, 8⟩
def CV_STATUS_REPLICAS : Fld := ⟨CV_STATUS, 18, 3⟩
def CV_STATUS_UPDATE : Fld := ⟨CV_STATUS, 16, 2⟩
def CV_STATUS_ACTIVE : Fld := ⟨CV_STATUS, 8, 5⟩
def CV_STATUS_RELAY : Fld := ⟨CV_STATUS, 0, 5⟩
/-- spec/11_caravanserai.md, register CV_EVENT. -/
def CV_EVENT : Nat := 0x3001C
def CV_EVENT_SELFTEST_FAIL : Fld := ⟨CV_EVENT, 10, 1⟩
def CV_EVENT_NO_SPARE : Fld := ⟨CV_EVENT, 9, 1⟩
def CV_EVENT_REFUSED : Fld := ⟨CV_EVENT, 8, 1⟩
def CV_EVENT_UPDATE_ABORTED : Fld := ⟨CV_EVENT, 7, 1⟩
def CV_EVENT_UPDATE_DONE : Fld := ⟨CV_EVENT, 6, 1⟩
def CV_EVENT_VOTE : Fld := ⟨CV_EVENT, 5, 1⟩
def CV_EVENT_HB_PATH : Fld := ⟨CV_EVENT, 4, 1⟩
def CV_EVENT_RELAY_LOW : Fld := ⟨CV_EVENT, 3, 1⟩
def CV_EVENT_RETIRED : Fld := ⟨CV_EVENT, 2, 1⟩
def CV_EVENT_SWAP : Fld := ⟨CV_EVENT, 1, 1⟩
def CV_EVENT_FAILOVER : Fld := ⟨CV_EVENT, 0, 1⟩
/-- spec/11_caravanserai.md, register CV_FO_LAST. -/
def CV_FO_LAST : Nat := 0x30020
def CV_FO_LAST_HELD : Fld := ⟨CV_FO_LAST, 24, 3⟩
def CV_FO_LAST_LOAD : Fld := ⟨CV_FO_LAST, 16, 8⟩
def CV_FO_LAST_CAUSE : Fld := ⟨CV_FO_LAST, 13, 3⟩
def CV_FO_LAST_SPARE : Fld := ⟨CV_FO_LAST, 8, 5⟩
def CV_FO_LAST_FAILED : Fld := ⟨CV_FO_LAST, 0, 5⟩
/-- spec/11_caravanserai.md, register CV_SWAP_LAST. -/
def CV_SWAP_LAST : Nat := 0x30024
def CV_SWAP_LAST_POSTPONED : Fld := ⟨CV_SWAP_LAST, 16, 8⟩
def CV_SWAP_LAST_CAUSE : Fld := ⟨CV_SWAP_LAST, 13, 3⟩
def CV_SWAP_LAST_RELIEVING : Fld := ⟨CV_SWAP_LAST, 8, 5⟩
def CV_SWAP_LAST_RELIEVED : Fld := ⟨CV_SWAP_LAST, 0, 5⟩
/-- spec/11_caravanserai.md, register CV_COUNT. -/
def CV_COUNT : Nat := 0x30028
def CV_COUNT_FAILOVERS : Fld := ⟨CV_COUNT, 16, 16⟩
def CV_COUNT_SWAPS : Fld := ⟨CV_COUNT, 0, 16⟩
/-- spec/11_caravanserai.md, register CV_HB_MISS. -/
def CV_HB_MISS : Nat := 0x3002C
def CV_HB_MISS_WIRE : Fld := ⟨CV_HB_MISS, 16, 16⟩
def CV_HB_MISS_WORD : Fld := ⟨CV_HB_MISS, 0, 16⟩
/-- spec/11_caravanserai.md, register CV_VOTE. -/
def CV_VOTE : Nat := 0x30030
def CV_VOTE_C : Fld := ⟨CV_VOTE, 16, 8⟩
def CV_VOTE_B : Fld := ⟨CV_VOTE, 8, 8⟩
def CV_VOTE_A : Fld := ⟨CV_VOTE, 0, 8⟩
/-- spec/11_caravanserai.md, register CV_ENG_STATE. -/
def CV_ENG_STATE (k : Nat) : Nat := 0x30100 + 0x8 * k
def CV_ENG_STATE_SECS (k : Nat) : Fld := ⟨CV_ENG_STATE k, 16, 16⟩
def CV_ENG_STATE_LAST_TEST (k : Nat) : Fld := ⟨CV_ENG_STATE k, 8, 8⟩
def CV_ENG_STATE_IMAGE (k : Nat) : Fld := ⟨CV_ENG_STATE k, 0, 3⟩
/-- spec/11_caravanserai.md, register CV_ENG_HB. -/
def CV_ENG_HB (k : Nat) : Nat := 0x30104 + 0x8 * k
def CV_ENG_HB_WIRE (k : Nat) : Fld := ⟨CV_ENG_HB k, 16, 16⟩
def CV_ENG_HB_WORD (k : Nat) : Fld := ⟨CV_ENG_HB k, 0, 16⟩
/-- spec/11_caravanserai.md, register CV_IMG_BASE. -/
def CV_IMG_BASE (k : Nat) : Nat := 0x30200 + 0x8 * k
def CV_IMG_BASE_BASE (k : Nat) : Fld := ⟨CV_IMG_BASE k, 6, 26⟩
/-- spec/11_caravanserai.md, register CV_IMG_STATE. -/
def CV_IMG_STATE (k : Nat) : Nat := 0x30204 + 0x8 * k
def CV_IMG_STATE_SFMT (k : Nat) : Fld := ⟨CV_IMG_STATE k, 8, 8⟩
def CV_IMG_STATE_IN_USE (k : Nat) : Fld := ⟨CV_IMG_STATE k, 1, 1⟩
def CV_IMG_STATE_VALID (k : Nat) : Fld := ⟨CV_IMG_STATE k, 0, 1⟩
/-- spec/11_caravanserai.md, register CV_AXIS_MAP. -/
def CV_AXIS_MAP (k : Nat) : Nat := 0x30400 + 0x4 * k
def CV_AXIS_MAP_HOLDS (k : Nat) : Fld := ⟨CV_AXIS_MAP k, 24, 8⟩
def CV_AXIS_MAP_HELD (k : Nat) : Fld := ⟨CV_AXIS_MAP k, 16, 1⟩
def CV_AXIS_MAP_IMAGE (k : Nat) : Fld := ⟨CV_AXIS_MAP k, 12, 3⟩
def CV_AXIS_MAP_SLOT (k : Nat) : Fld := ⟨CV_AXIS_MAP k, 8, 3⟩
def CV_AXIS_MAP_ENGINE (k : Nat) : Fld := ⟨CV_AXIS_MAP k, 0, 5⟩
/-- spec/12_ledger.md, register INJ_DETAIL. -/
def INJ_DETAIL (k j i : Nat) : Nat := 0xF000000 + 0x100000 * k + 0x1000 * j + 0x10 * i
def INJ_DETAIL_DETAIL (k j i : Nat) : Fld := ⟨INJ_DETAIL k j i, 0, 32⟩
/-- spec/12_ledger.md, register INJ_FIRE. -/
def INJ_FIRE (k j i : Nat) : Nat := 0xF000004 + 0x100000 * k + 0x1000 * j + 0x10 * i
def INJ_FIRE_COUNT (k j i : Nat) : Fld := ⟨INJ_FIRE k j i, 0, 8⟩
/-- spec/12_ledger.md, register INJ_STATUS. -/
def INJ_STATUS (k j i : Nat) : Nat := 0xF000008 + 0x100000 * k + 0x1000 * j + 0x10 * i
def INJ_STATUS_REFUSE_LAST (k j i : Nat) : Fld := ⟨INJ_STATUS k j i, 8, 8⟩
def INJ_STATUS_REMAINING (k j i : Nat) : Fld := ⟨INJ_STATUS k j i, 0, 8⟩
/-- spec/12_ledger.md, register LG_CTRL. -/
def LG_CTRL : Nat := 0x20000
def LG_CTRL_TEST_TMO : Fld := ⟨LG_CTRL, 24, 8⟩
def LG_CTRL_RECOV_WIN : Fld := ⟨LG_CTRL, 0, 16⟩
/-- spec/12_ledger.md, register LG_STATUS. -/
def LG_STATUS : Nat := 0x20004
def LG_STATUS_REFUSE_LAST : Fld := ⟨LG_STATUS, 24, 8⟩
def LG_STATUS_TEST_OPEN : Fld := ⟨LG_STATUS, 2, 1⟩
def LG_STATUS_SAFE : Fld := ⟨LG_STATUS, 1, 1⟩
def LG_STATUS_DEGRADED : Fld := ⟨LG_STATUS, 0, 1⟩
/-- spec/12_ledger.md, register LG_EVENT. -/
def LG_EVENT : Nat := 0x20008
def LG_EVENT_REFUSED : Fld := ⟨LG_EVENT, 7, 1⟩
def LG_EVENT_Q7_LOST : Fld := ⟨LG_EVENT, 6, 1⟩
def LG_EVENT_SAFE : Fld := ⟨LG_EVENT, 5, 1⟩
def LG_EVENT_RETIRE : Fld := ⟨LG_EVENT, 4, 1⟩
def LG_EVENT_RECOVER : Fld := ⟨LG_EVENT, 3, 1⟩
def LG_EVENT_FENCE : Fld := ⟨LG_EVENT, 2, 1⟩
def LG_EVENT_WARN : Fld := ⟨LG_EVENT, 1, 1⟩
def LG_EVENT_RECORD : Fld := ⟨LG_EVENT, 0, 1⟩
/-- spec/12_ledger.md, register LG_CMD. -/
def LG_CMD : Nat := 0x2000C
def LG_CMD_AXIS : Fld := ⟨LG_CMD, 8, 8⟩
def LG_CMD_CODE : Fld := ⟨LG_CMD, 0, 4⟩
/-- spec/12_ledger.md, register LG_RING_BASE. -/
def LG_RING_BASE : Nat := 0x20010
def LG_RING_BASE_BASE : Fld := ⟨LG_RING_BASE, 17, 15⟩
/-- spec/12_ledger.md, register LG_RING_HEAD. -/
def LG_RING_HEAD : Nat := 0x20014
def LG_RING_HEAD_HEAD : Fld := ⟨LG_RING_HEAD, 0, 12⟩
/-- spec/12_ledger.md, register LG_SEQ. -/
def LG_SEQ : Nat := 0x20018
def LG_SEQ_SEQ : Fld := ⟨LG_SEQ, 0, 32⟩
/-- spec/12_ledger.md, register LG_WRAPS. -/
def LG_WRAPS : Nat := 0x2001C
def LG_WRAPS_WRAPS : Fld := ⟨LG_WRAPS, 0, 32⟩
/-- spec/12_ledger.md, register LG_Q7_LOST. -/
def LG_Q7_LOST : Nat := 0x20020
def LG_Q7_LOST_COUNT : Fld := ⟨LG_Q7_LOST, 0, 32⟩
/-- spec/12_ledger.md, register LG_CNT_BASE. -/
def LG_CNT_BASE : Nat := 0x20024
def LG_CNT_BASE_BASE : Fld := ⟨LG_CNT_BASE, 16, 16⟩
/-- spec/12_ledger.md, register LG_SRC_SEL. -/
def LG_SRC_SEL : Nat := 0x20028
def LG_SRC_SEL_CLASS : Fld := ⟨LG_SRC_SEL, 8, 4⟩
def LG_SRC_SEL_INSTANCE : Fld := ⟨LG_SRC_SEL, 0, 8⟩
/-- spec/12_ledger.md, register LG_SRC_COUNT. -/
def LG_SRC_COUNT : Nat := 0x2002C
def LG_SRC_COUNT_COUNT : Fld := ⟨LG_SRC_COUNT, 0, 32⟩
/-- spec/12_ledger.md, register LG_SRC_STATE. -/
def LG_SRC_STATE : Nat := 0x20030
def LG_SRC_STATE_LAST_KIND : Fld := ⟨LG_SRC_STATE, 24, 8⟩
def LG_SRC_STATE_INJ_RECOV : Fld := ⟨LG_SRC_STATE, 16, 8⟩
def LG_SRC_STATE_RECOV : Fld := ⟨LG_SRC_STATE, 8, 8⟩
def LG_SRC_STATE_STATE : Fld := ⟨LG_SRC_STATE, 0, 2⟩
/-- spec/12_ledger.md, register LG_SRC_QUIET. -/
def LG_SRC_QUIET : Nat := 0x20034
def LG_SRC_QUIET_LEFT : Fld := ⟨LG_SRC_QUIET, 0, 22⟩
/-- spec/12_ledger.md, register LG_KEY_NONCE. -/
def LG_KEY_NONCE : Nat := 0x20038
def LG_KEY_NONCE_NONCE : Fld := ⟨LG_KEY_NONCE, 0, 16⟩
/-- spec/12_ledger.md, register LG_KEY. -/
def LG_KEY : Nat := 0x2003C
def LG_KEY_KEY : Fld := ⟨LG_KEY, 0, 32⟩
/-- spec/12_ledger.md, register LG_HOLDOFF. -/
def LG_HOLDOFF (k : Nat) : Nat := 0x20040 + 0x4 * k
def LG_HOLDOFF_HOLDOFF (k : Nat) : Fld := ⟨LG_HOLDOFF k, 0, 32⟩
/-- spec/12_ledger.md, register LG_MSG. -/
def LG_MSG : Nat := 0x20060
/-- spec/12_ledger.md, register LG_INJ. -/
def LG_INJ : Nat := 0x20068
def LG_INJ_COUNT : Fld := ⟨LG_INJ, 0, 32⟩
/-- spec/13_memory.md, register GL_MEM_CTRL. -/
def GL_MEM_CTRL : Nat := 0x5000
def GL_MEM_CTRL_SCRUB_EN : Fld := ⟨GL_MEM_CTRL, 16, 1⟩
def GL_MEM_CTRL_SUSPECT_CNT : Fld := ⟨GL_MEM_CTRL, 8, 8⟩
def GL_MEM_CTRL_SCRUB_H : Fld := ⟨GL_MEM_CTRL, 0, 8⟩
/-- spec/13_memory.md, register GL_MEM_STATUS. -/
def GL_MEM_STATUS : Nat := 0x5004
def GL_MEM_STATUS_REFUSE_LAST : Fld := ⟨GL_MEM_STATUS, 24, 8⟩
def GL_MEM_STATUS_SCRUBBING : Fld := ⟨GL_MEM_STATUS, 1, 1⟩
def GL_MEM_STATUS_RETIRING : Fld := ⟨GL_MEM_STATUS, 0, 1⟩
/-- spec/13_memory.md, register GL_MEM_EVENT. -/
def GL_MEM_EVENT : Nat := 0x5008
def GL_MEM_EVENT_REFUSED : Fld := ⟨GL_MEM_EVENT, 6, 1⟩
def GL_MEM_EVENT_SCRUB_DONE : Fld := ⟨GL_MEM_EVENT, 5, 1⟩
def GL_MEM_EVENT_RETIRED : Fld := ⟨GL_MEM_EVENT, 4, 1⟩
def GL_MEM_EVENT_SUSPECT : Fld := ⟨GL_MEM_EVENT, 3, 1⟩
def GL_MEM_EVENT_REMAP : Fld := ⟨GL_MEM_EVENT, 2, 1⟩
def GL_MEM_EVENT_UNCORR : Fld := ⟨GL_MEM_EVENT, 1, 1⟩
def GL_MEM_EVENT_CORR : Fld := ⟨GL_MEM_EVENT, 0, 1⟩
/-- spec/13_memory.md, register GL_MEM_CMD. -/
def GL_MEM_CMD : Nat := 0x500C
def GL_MEM_CMD_CODE : Fld := ⟨GL_MEM_CMD, 0, 4⟩
/-- spec/13_memory.md, register GL_MEM_PAGE. -/
def GL_MEM_PAGE : Nat := 0x5010
def GL_MEM_PAGE_PAGE : Fld := ⟨GL_MEM_PAGE, 12, 20⟩
/-- spec/13_memory.md, register GL_MEM_CNT. -/
def GL_MEM_CNT : Nat := 0x5014
def GL_MEM_CNT_UNCORR : Fld := ⟨GL_MEM_CNT, 16, 16⟩
def GL_MEM_CNT_CORR : Fld := ⟨GL_MEM_CNT, 0, 16⟩
/-- spec/13_memory.md, register GL_MEM_SCRUB. -/
def GL_MEM_SCRUB : Nat := 0x5018
def GL_MEM_SCRUB_PASSES : Fld := ⟨GL_MEM_SCRUB, 16, 16⟩
def GL_MEM_SCRUB_PROGRESS : Fld := ⟨GL_MEM_SCRUB, 0, 16⟩
/-- spec/13_memory.md, register GL_MEM_LAST. -/
def GL_MEM_LAST : Nat := 0x5020
def GL_MEM_LAST_ADDR : Fld := ⟨GL_MEM_LAST, 0, 32⟩
/-- spec/13_memory.md, register GL_MEM_LAST_INFO. -/
def GL_MEM_LAST_INFO : Nat := 0x5024
def GL_MEM_LAST_INFO_UNCORR : Fld := ⟨GL_MEM_LAST_INFO, 31, 1⟩
def GL_MEM_LAST_INFO_BULK : Fld := ⟨GL_MEM_LAST_INFO, 30, 1⟩
def GL_MEM_LAST_INFO_PROG : Fld := ⟨GL_MEM_LAST_INFO, 29, 1⟩
def GL_MEM_LAST_INFO_UNIT : Fld := ⟨GL_MEM_LAST_INFO, 24, 5⟩
def GL_MEM_LAST_INFO_LANE : Fld := ⟨GL_MEM_LAST_INFO, 8, 4⟩
def GL_MEM_LAST_INFO_SYND : Fld := ⟨GL_MEM_LAST_INFO, 0, 5⟩
/-- spec/13_memory.md, register GL_MEM_BANK. -/
def GL_MEM_BANK (k : Nat) : Nat := 0x5040 + 0x4 * k
def GL_MEM_BANK_RETIRED (k : Nat) : Fld := ⟨GL_MEM_BANK k, 8, 8⟩
def GL_MEM_BANK_LEFT (k : Nat) : Fld := ⟨GL_MEM_BANK k, 0, 5⟩
/-- spec/13_memory.md, register GL_MEM_REMAP. -/
def GL_MEM_REMAP (k : Nat) : Nat := 0x5080 + 0x4 * k
def GL_MEM_REMAP_DATA (k : Nat) : Fld := ⟨GL_MEM_REMAP k, 8, 4⟩
def GL_MEM_REMAP_PROG (k : Nat) : Fld := ⟨GL_MEM_REMAP k, 0, 4⟩
/-- spec/14_tollgate.md, register TG_STATUS. -/
def TG_STATUS : Nat := 0x90000
def TG_STATUS_REFUSE_LAST : Fld := ⟨TG_STATUS, 24, 8⟩
def TG_STATUS_FAULT : Fld := ⟨TG_STATUS, 16, 8⟩
def TG_STATUS_LIMP : Fld := ⟨TG_STATUS, 8, 8⟩
def TG_STATUS_CONFIG_OK : Fld := ⟨TG_STATUS, 1, 1⟩
def TG_STATUS_SERVICE : Fld := ⟨TG_STATUS, 0, 1⟩
/-- spec/14_tollgate.md, register TG_EVENT. -/
def TG_EVENT : Nat := 0x90004
def TG_EVENT_REFUSED : Fld := ⟨TG_EVENT, 5, 1⟩
def TG_EVENT_CONFIG_APPLIED : Fld := ⟨TG_EVENT, 4, 1⟩
def TG_EVENT_LIMP : Fld := ⟨TG_EVENT, 3, 1⟩
def TG_EVENT_FAULT : Fld := ⟨TG_EVENT, 2, 1⟩
def TG_EVENT_RESTART : Fld := ⟨TG_EVENT, 1, 1⟩
def TG_EVENT_DEMAND : Fld := ⟨TG_EVENT, 0, 1⟩
/-- spec/14_tollgate.md, register TG_CMD. -/
def TG_CMD : Nat := 0x90008
def TG_CMD_ZONES : Fld := ⟨TG_CMD, 8, 8⟩
def TG_CMD_CODE : Fld := ⟨TG_CMD, 0, 4⟩
/-- spec/14_tollgate.md, register TG_CFG_CRC. -/
def TG_CFG_CRC : Nat := 0x9000C
def TG_CFG_CRC_CRC : Fld := ⟨TG_CFG_CRC, 0, 32⟩
/-- spec/14_tollgate.md, register TG_APPLY_CRC. -/
def TG_APPLY_CRC : Nat := 0x90010
def TG_APPLY_CRC_CRC : Fld := ⟨TG_APPLY_CRC, 0, 32⟩
/-- spec/14_tollgate.md, register TG_TEST. -/
def TG_TEST : Nat := 0x90014
def TG_TEST_TP_PERIOD : Fld := ⟨TG_TEST, 24, 8⟩
def TG_TEST_TP_WIDTH : Fld := ⟨TG_TEST, 16, 8⟩
def TG_TEST_OT_PERIOD : Fld := ⟨TG_TEST, 8, 8⟩
def TG_TEST_OT_WIDTH : Fld := ⟨TG_TEST, 0, 8⟩
/-- spec/14_tollgate.md, register TG_STO_TEST. -/
def TG_STO_TEST : Nat := 0x90018
def TG_STO_TEST_STO_TEST_H : Fld := ⟨TG_STO_TEST, 0, 16⟩
/-- spec/14_tollgate.md, register TG_SI_CTRL. -/
def TG_SI_CTRL (k : Nat) : Nat := 0x90100 + 0x10 * k
def TG_SI_CTRL_EN (k : Nat) : Fld := ⟨TG_SI_CTRL k, 31, 1⟩
def TG_SI_CTRL_DISC (k : Nat) : Fld := ⟨TG_SI_CTRL k, 16, 9⟩
def TG_SI_CTRL_FILT (k : Nat) : Fld := ⟨TG_SI_CTRL k, 8, 8⟩
def TG_SI_CTRL_SRC_B (k : Nat) : Fld := ⟨TG_SI_CTRL k, 4, 4⟩
def TG_SI_CTRL_SRC_A (k : Nat) : Fld := ⟨TG_SI_CTRL k, 0, 4⟩
/-- spec/14_tollgate.md, register TG_SI_STATUS. -/
def TG_SI_STATUS (k : Nat) : Nat := 0x90104 + 0x10 * k
def TG_SI_STATUS_CAUSE (k : Nat) : Fld := ⟨TG_SI_STATUS k, 24, 8⟩
def TG_SI_STATUS_TESTING (k : Nat) : Fld := ⟨TG_SI_STATUS k, 7, 1⟩
def TG_SI_STATUS_FAULT_B (k : Nat) : Fld := ⟨TG_SI_STATUS k, 6, 1⟩
def TG_SI_STATUS_FAULT_A (k : Nat) : Fld := ⟨TG_SI_STATUS k, 5, 1⟩
def TG_SI_STATUS_DEMAND (k : Nat) : Fld := ⟨TG_SI_STATUS k, 4, 1⟩
def TG_SI_STATUS_OPEN_B (k : Nat) : Fld := ⟨TG_SI_STATUS k, 3, 1⟩
def TG_SI_STATUS_OPEN_A (k : Nat) : Fld := ⟨TG_SI_STATUS k, 2, 1⟩
def TG_SI_STATUS_RAW_B (k : Nat) : Fld := ⟨TG_SI_STATUS k, 1, 1⟩
def TG_SI_STATUS_RAW_A (k : Nat) : Fld := ⟨TG_SI_STATUS k, 0, 1⟩
/-- spec/14_tollgate.md, register TG_SI_CNT. -/
def TG_SI_CNT (k : Nat) : Nat := 0x90108 + 0x10 * k
def TG_SI_CNT_DEMANDS (k : Nat) : Fld := ⟨TG_SI_CNT k, 16, 16⟩
def TG_SI_CNT_FAULTS (k : Nat) : Fld := ⟨TG_SI_CNT k, 0, 16⟩
/-- spec/14_tollgate.md, register TG_SO_CTRL. -/
def TG_SO_CTRL (k : Nat) : Nat := 0x90200 + 0x10 * k
def TG_SO_CTRL_OT_EN (k : Nat) : Fld := ⟨TG_SO_CTRL k, 1, 1⟩
def TG_SO_CTRL_EN (k : Nat) : Fld := ⟨TG_SO_CTRL k, 0, 1⟩
/-- spec/14_tollgate.md, register TG_SO_STATUS. -/
def TG_SO_STATUS (k : Nat) : Nat := 0x90204 + 0x10 * k
def TG_SO_STATUS_CAUSE (k : Nat) : Fld := ⟨TG_SO_STATUS k, 24, 8⟩
def TG_SO_STATUS_TESTING (k : Nat) : Fld := ⟨TG_SO_STATUS k, 3, 1⟩
def TG_SO_STATUS_FAULT (k : Nat) : Fld := ⟨TG_SO_STATUS k, 2, 1⟩
def TG_SO_STATUS_READBACK (k : Nat) : Fld := ⟨TG_SO_STATUS k, 1, 1⟩
def TG_SO_STATUS_ON (k : Nat) : Fld := ⟨TG_SO_STATUS k, 0, 1⟩
/-- spec/14_tollgate.md, register TG_SO_CNT. -/
def TG_SO_CNT (k : Nat) : Nat := 0x90208 + 0x10 * k
def TG_SO_CNT_TESTS (k : Nat) : Fld := ⟨TG_SO_CNT k, 16, 16⟩
def TG_SO_CNT_ABANDONED (k : Nat) : Fld := ⟨TG_SO_CNT k, 0, 16⟩
/-- spec/14_tollgate.md, register TG_STO_STATUS. -/
def TG_STO_STATUS : Nat := 0x90300
def TG_STO_STATUS_FAULT : Fld := ⟨TG_STO_STATUS, 16, 16⟩
def TG_STO_STATUS_LOW : Fld := ⟨TG_STO_STATUS, 0, 16⟩
/-- spec/14_tollgate.md, register TG_STO_STALE. -/
def TG_STO_STALE : Nat := 0x90304
def TG_STO_STALE_STALE : Fld := ⟨TG_STO_STALE, 0, 16⟩
/-- spec/14_tollgate.md, register TG_STO_AGE. -/
def TG_STO_AGE (k : Nat) : Nat := 0x90340 + 0x4 * k
def TG_STO_AGE_HOURS (k : Nat) : Fld := ⟨TG_STO_AGE k, 0, 16⟩
/-- spec/14_tollgate.md, register TG_Z_IN. -/
def TG_Z_IN (k : Nat) : Nat := 0x90400 + 0x40 * k
def TG_Z_IN_SLS_IN (k : Nat) : Fld := ⟨TG_Z_IN k, 16, 8⟩
def TG_Z_IN_SS1_IN (k : Nat) : Fld := ⟨TG_Z_IN k, 8, 8⟩
def TG_Z_IN_STO_IN (k : Nat) : Fld := ⟨TG_Z_IN k, 0, 8⟩
/-- spec/14_tollgate.md, register TG_Z_PATH. -/
def TG_Z_PATH (k : Nat) : Nat := 0x90404 + 0x40 * k
def TG_Z_PATH_OUTPUTS (k : Nat) : Fld := ⟨TG_Z_PATH k, 16, 4⟩
def TG_Z_PATH_CHAINS (k : Nat) : Fld := ⟨TG_Z_PATH k, 0, 16⟩
/-- spec/14_tollgate.md, register TG_Z_CTRL. -/
def TG_Z_CTRL (k : Nat) : Nat := 0x90408 + 0x40 * k
def TG_Z_CTRL_ACK_IN (k : Nat) : Fld := ⟨TG_Z_CTRL k, 24, 8⟩
def TG_Z_CTRL_LIMP_MIN (k : Nat) : Fld := ⟨TG_Z_CTRL k, 16, 8⟩
def TG_Z_CTRL_LIMP_EN (k : Nat) : Fld := ⟨TG_Z_CTRL k, 15, 1⟩
def TG_Z_CTRL_RESTART (k : Nat) : Fld := ⟨TG_Z_CTRL k, 14, 1⟩
def TG_Z_CTRL_SLS_BEATS (k : Nat) : Fld := ⟨TG_Z_CTRL k, 8, 4⟩
def TG_Z_CTRL_SLS_TOL (k : Nat) : Fld := ⟨TG_Z_CTRL k, 0, 8⟩
/-- spec/14_tollgate.md, register TG_Z_TIME. -/
def TG_Z_TIME (k : Nat) : Nat := 0x9040C + 0x40 * k
def TG_Z_TIME_SLS_RAMP (k : Nat) : Fld := ⟨TG_Z_TIME k, 16, 16⟩
def TG_Z_TIME_SS1_TIME (k : Nat) : Fld := ⟨TG_Z_TIME k, 0, 16⟩
/-- spec/14_tollgate.md, register TG_Z_AXES. -/
def TG_Z_AXES (k j : Nat) : Nat := 0x90410 + 0x40 * k + 0x4 * j
def TG_Z_AXES_AXES (k j : Nat) : Fld := ⟨TG_Z_AXES k j, 0, 32⟩
/-- spec/14_tollgate.md, register TG_Z_STATUS. -/
def TG_Z_STATUS (k : Nat) : Nat := 0x90428 + 0x40 * k
def TG_Z_STATUS_LIMP_LEFT (k : Nat) : Fld := ⟨TG_Z_STATUS k, 24, 8⟩
def TG_Z_STATUS_CAUSE (k : Nat) : Fld := ⟨TG_Z_STATUS k, 16, 8⟩
def TG_Z_STATUS_DEMAND (k : Nat) : Fld := ⟨TG_Z_STATUS k, 8, 8⟩
def TG_Z_STATUS_WAIT_ACK (k : Nat) : Fld := ⟨TG_Z_STATUS k, 6, 1⟩
def TG_Z_STATUS_LIMP (k : Nat) : Fld := ⟨TG_Z_STATUS k, 5, 1⟩
def TG_Z_STATUS_FAULT (k : Nat) : Fld := ⟨TG_Z_STATUS k, 4, 1⟩
def TG_Z_STATUS_STATE (k : Nat) : Fld := ⟨TG_Z_STATUS k, 0, 3⟩
/-- spec/14_tollgate.md, register TG_Z_CNT. -/
def TG_Z_CNT (k : Nat) : Nat := 0x9042C + 0x40 * k
def TG_Z_CNT_DEMANDS (k : Nat) : Fld := ⟨TG_Z_CNT k, 16, 16⟩
def TG_Z_CNT_FAULTS (k : Nat) : Fld := ⟨TG_Z_CNT k, 0, 16⟩
/-- spec/14_tollgate.md, register TG_AX_SLS. -/
def TG_AX_SLS (k : Nat) : Nat := 0x90800 + 0x4 * k
def TG_AX_SLS_LIMIT (k : Nat) : Fld := ⟨TG_AX_SLS k, 0, 32⟩
/-- spec/15_field_io.md, register FIO_CTRL. -/
def FIO_CTRL : Nat := 0x91000
def FIO_CTRL_WDOG_T : Fld := ⟨FIO_CTRL, 0, 14⟩
/-- spec/15_field_io.md, register FIO_STATUS. -/
def FIO_STATUS : Nat := 0x91004
def FIO_STATUS_REFUSE_LAST : Fld := ⟨FIO_STATUS, 24, 8⟩
def FIO_STATUS_SUM_LIMIT : Fld := ⟨FIO_STATUS, 4, 1⟩
def FIO_STATUS_REVERSED : Fld := ⟨FIO_STATUS, 3, 1⟩
def FIO_STATUS_VFIELD_LOW : Fld := ⟨FIO_STATUS, 2, 1⟩
def FIO_STATUS_VFIELD_WARN : Fld := ⟨FIO_STATUS, 1, 1⟩
def FIO_STATUS_LINK : Fld := ⟨FIO_STATUS, 0, 1⟩
/-- spec/15_field_io.md, register FIO_EVENT. -/
def FIO_EVENT : Nat := 0x91008
def FIO_EVENT_REFUSED : Fld := ⟨FIO_EVENT, 6, 1⟩
def FIO_EVENT_SUM_LIMIT : Fld := ⟨FIO_EVENT, 5, 1⟩
def FIO_EVENT_VFIELD : Fld := ⟨FIO_EVENT, 4, 1⟩
def FIO_EVENT_WDOG : Fld := ⟨FIO_EVENT, 3, 1⟩
def FIO_EVENT_COUPLER : Fld := ⟨FIO_EVENT, 2, 1⟩
def FIO_EVENT_OVERLOAD : Fld := ⟨FIO_EVENT, 1, 1⟩
def FIO_EVENT_WIRING : Fld := ⟨FIO_EVENT, 0, 1⟩
/-- spec/15_field_io.md, register FIO_CMD. -/
def FIO_CMD : Nat := 0x9100C
def FIO_CMD_CODE : Fld := ⟨FIO_CMD, 0, 4⟩
/-- spec/15_field_io.md, register FIO_VFIELD. -/
def FIO_VFIELD : Nat := 0x91010
def FIO_VFIELD_MV : Fld := ⟨FIO_VFIELD, 0, 16⟩
/-- spec/15_field_io.md, register FIO_ISUM. -/
def FIO_ISUM : Nat := 0x91014
def FIO_ISUM_MA : Fld := ⟨FIO_ISUM, 0, 16⟩
/-- spec/15_field_io.md, register FIO_IN. -/
def FIO_IN : Nat := 0x91018
def FIO_IN_LEVEL : Fld := ⟨FIO_IN, 0, 32⟩
/-- spec/15_field_io.md, register FIO_IN_HI. -/
def FIO_IN_HI : Nat := 0x9101C
def FIO_IN_HI_LEVEL : Fld := ⟨FIO_IN_HI, 0, 8⟩
/-- spec/15_field_io.md, register FIO_OUT. -/
def FIO_OUT : Nat := 0x91020
def FIO_OUT_LEVEL : Fld := ⟨FIO_OUT, 0, 32⟩
/-- spec/15_field_io.md, register FIO_OUT_HI. -/
def FIO_OUT_HI : Nat := 0x91024
def FIO_OUT_HI_LEVEL : Fld := ⟨FIO_OUT_HI, 0, 8⟩
/-- spec/15_field_io.md, register FIO_OUT_SET. -/
def FIO_OUT_SET : Nat := 0x91028
def FIO_OUT_SET_SET : Fld := ⟨FIO_OUT_SET, 0, 32⟩
/-- spec/15_field_io.md, register FIO_OUT_SET_HI. -/
def FIO_OUT_SET_HI : Nat := 0x9102C
def FIO_OUT_SET_HI_SET : Fld := ⟨FIO_OUT_SET_HI, 0, 8⟩
/-- spec/15_field_io.md, register FIO_OUT_CLR. -/
def FIO_OUT_CLR : Nat := 0x91030
def FIO_OUT_CLR_CLR : Fld := ⟨FIO_OUT_CLR, 0, 32⟩
/-- spec/15_field_io.md, register FIO_OUT_CLR_HI. -/
def FIO_OUT_CLR_HI : Nat := 0x91034
def FIO_OUT_CLR_HI_CLR : Fld := ⟨FIO_OUT_CLR_HI, 0, 8⟩
/-- spec/15_field_io.md, register FIO_GRP. -/
def FIO_GRP (k : Nat) : Nat := 0x91040 + 0x4 * k
def FIO_GRP_SPARE_USED (k : Nat) : Fld := ⟨FIO_GRP k, 15, 1⟩
def FIO_GRP_SPARE_BAD (k : Nat) : Fld := ⟨FIO_GRP k, 14, 1⟩
def FIO_GRP_SPARE_CH (k : Nat) : Fld := ⟨FIO_GRP k, 8, 3⟩
def FIO_GRP_NO_COUPLER (k : Nat) : Fld := ⟨FIO_GRP k, 0, 8⟩
/-- spec/15_field_io.md, register FIO_CH_CTRL. -/
def FIO_CH_CTRL (k : Nat) : Nat := 0x91100 + 0x10 * k
def FIO_CH_CTRL_THRESH (k : Nat) : Fld := ⟨FIO_CH_CTRL k, 16, 12⟩
def FIO_CH_CTRL_SAFE (k : Nat) : Fld := ⟨FIO_CH_CTRL k, 8, 2⟩
def FIO_CH_CTRL_OPEN_DET (k : Nat) : Fld := ⟨FIO_CH_CTRL k, 4, 1⟩
def FIO_CH_CTRL_TYPE (k : Nat) : Fld := ⟨FIO_CH_CTRL k, 3, 1⟩
def FIO_CH_CTRL_MODE (k : Nat) : Fld := ⟨FIO_CH_CTRL k, 0, 2⟩
/-- spec/15_field_io.md, register FIO_CH_STATUS. -/
def FIO_CH_STATUS (k : Nat) : Nat := 0x91104 + 0x10 * k
def FIO_CH_STATUS_CAUSE (k : Nat) : Fld := ⟨FIO_CH_STATUS k, 24, 8⟩
def FIO_CH_STATUS_COUNT (k : Nat) : Fld := ⟨FIO_CH_STATUS k, 12, 12⟩
def FIO_CH_STATUS_INVALID (k : Nat) : Fld := ⟨FIO_CH_STATUS k, 7, 1⟩
def FIO_CH_STATUS_ON_SPARE (k : Nat) : Fld := ⟨FIO_CH_STATUS k, 6, 1⟩
def FIO_CH_STATUS_HELD (k : Nat) : Fld := ⟨FIO_CH_STATUS k, 5, 1⟩
def FIO_CH_STATUS_RETRY (k : Nat) : Fld := ⟨FIO_CH_STATUS k, 4, 1⟩
def FIO_CH_STATUS_FAULT (k : Nat) : Fld := ⟨FIO_CH_STATUS k, 3, 1⟩
def FIO_CH_STATUS_OUT (k : Nat) : Fld := ⟨FIO_CH_STATUS k, 2, 1⟩
def FIO_CH_STATUS_RAW (k : Nat) : Fld := ⟨FIO_CH_STATUS k, 1, 1⟩
def FIO_CH_STATUS_LEVEL (k : Nat) : Fld := ⟨FIO_CH_STATUS k, 0, 1⟩
/-- spec/15_field_io.md, register FIO_CH_CNT. -/
def FIO_CH_CNT (k : Nat) : Nat := 0x91108 + 0x10 * k
def FIO_CH_CNT_FAULTS (k : Nat) : Fld := ⟨FIO_CH_CNT k, 16, 16⟩
def FIO_CH_CNT_RETRIES (k : Nat) : Fld := ⟨FIO_CH_CNT k, 0, 16⟩
/-- spec/15_field_io.md, register FIO_CH_CUR. -/
def FIO_CH_CUR (k : Nat) : Nat := 0x9110C + 0x10 * k
def FIO_CH_CUR_MA (k : Nat) : Fld := ⟨FIO_CH_CUR k, 0, 16⟩
/-- spec/16_recorder.md, register RC_CTRL. -/
def RC_CTRL : Nat := 0xA0000
def RC_CTRL_REPEAT : Fld := ⟨RC_CTRL, 4, 1⟩
def RC_CTRL_RATE : Fld := ⟨RC_CTRL, 0, 4⟩
/-- spec/16_recorder.md, register RC_STATUS. -/
def RC_STATUS : Nat := 0xA0004
def RC_STATUS_REFUSE_LAST : Fld := ⟨RC_STATUS, 24, 8⟩
def RC_STATUS_STATE : Fld := ⟨RC_STATUS, 0, 3⟩
/-- spec/16_recorder.md, register RC_EVENT. -/
def RC_EVENT : Nat := 0xA0008
def RC_EVENT_REFUSED : Fld := ⟨RC_EVENT, 2, 1⟩
def RC_EVENT_RECORD : Fld := ⟨RC_EVENT, 1, 1⟩
def RC_EVENT_TRIGGER : Fld := ⟨RC_EVENT, 0, 1⟩
/-- spec/16_recorder.md, register RC_CMD. -/
def RC_CMD : Nat := 0xA000C
def RC_CMD_CODE : Fld := ⟨RC_CMD, 0, 3⟩
/-- spec/16_recorder.md, register RC_BUF_BASE. -/
def RC_BUF_BASE : Nat := 0xA0010
def RC_BUF_BASE_BASE : Fld := ⟨RC_BUF_BASE, 12, 20⟩
/-- spec/16_recorder.md, register RC_BUF_SIZE. -/
def RC_BUF_SIZE : Nat := 0xA0014
def RC_BUF_SIZE_SIZE : Fld := ⟨RC_BUF_SIZE, 0, 32⟩
/-- spec/16_recorder.md, register RC_FRAMES. -/
def RC_FRAMES : Nat := 0xA0018
def RC_FRAMES_FRAMES : Fld := ⟨RC_FRAMES, 0, 32⟩
/-- spec/16_recorder.md, register RC_PRE. -/
def RC_PRE : Nat := 0xA001C
def RC_PRE_PRE : Fld := ⟨RC_PRE, 0, 32⟩
/-- spec/16_recorder.md, register RC_BW. -/
def RC_BW : Nat := 0xA0020
def RC_BW_BW : Fld := ⟨RC_BW, 0, 32⟩
/-- spec/16_recorder.md, register RC_SEQ. -/
def RC_SEQ : Nat := 0xA0024
def RC_SEQ_SEQ : Fld := ⟨RC_SEQ, 0, 32⟩
/-- spec/16_recorder.md, register RC_WRITTEN. -/
def RC_WRITTEN : Nat := 0xA0028
def RC_WRITTEN_COUNT : Fld := ⟨RC_WRITTEN, 0, 32⟩
/-- spec/16_recorder.md, register RC_CH_SRC. -/
def RC_CH_SRC (k : Nat) : Nat := 0xA0100 + 0x8 * k
def RC_CH_SRC_ID (k : Nat) : Fld := ⟨RC_CH_SRC k, 16, 8⟩
def RC_CH_SRC_SEL (k : Nat) : Fld := ⟨RC_CH_SRC k, 12, 4⟩
def RC_CH_SRC_SHIFT_HI (k : Nat) : Fld := ⟨RC_CH_SRC k, 8, 4⟩
def RC_CH_SRC_SHIFT_LO (k : Nat) : Fld := ⟨RC_CH_SRC k, 7, 1⟩
def RC_CH_SRC_WIDTH (k : Nat) : Fld := ⟨RC_CH_SRC k, 6, 1⟩
def RC_CH_SRC_KIND_BIT (k : Nat) : Fld := ⟨RC_CH_SRC k, 0, 5⟩
/-- spec/16_recorder.md, register RC_CH_ADDR. -/
def RC_CH_ADDR (k : Nat) : Nat := 0xA0104 + 0x8 * k
def RC_CH_ADDR_ADDR (k : Nat) : Fld := ⟨RC_CH_ADDR k, 0, 32⟩
/-- spec/16_recorder.md, register RC_TRG_CTRL. -/
def RC_TRG_CTRL (k : Nat) : Nat := 0xA0400 + 0x40 * k
def RC_TRG_CTRL_CHANNEL (k : Nat) : Fld := ⟨RC_TRG_CTRL k, 8, 8⟩
def RC_TRG_CTRL_EDGE (k : Nat) : Fld := ⟨RC_TRG_CTRL k, 5, 1⟩
def RC_TRG_CTRL_POL (k : Nat) : Fld := ⟨RC_TRG_CTRL k, 4, 1⟩
def RC_TRG_CTRL_KIND (k : Nat) : Fld := ⟨RC_TRG_CTRL k, 0, 3⟩
/-- spec/16_recorder.md, register RC_TRG_HI. -/
def RC_TRG_HI (k : Nat) : Nat := 0xA0404 + 0x40 * k
def RC_TRG_HI_LEVEL (k : Nat) : Fld := ⟨RC_TRG_HI k, 0, 32⟩
/-- spec/16_recorder.md, register RC_TRG_LO. -/
def RC_TRG_LO (k : Nat) : Nat := 0xA0408 + 0x40 * k
def RC_TRG_LO_LEVEL (k : Nat) : Fld := ⟨RC_TRG_LO k, 0, 32⟩
/-- spec/16_recorder.md, register RC_TRG_T1. -/
def RC_TRG_T1 (k : Nat) : Nat := 0xA040C + 0x40 * k
def RC_TRG_T1_COUNT (k : Nat) : Fld := ⟨RC_TRG_T1 k, 0, 32⟩
/-- spec/16_recorder.md, register RC_TRG_T2. -/
def RC_TRG_T2 (k : Nat) : Nat := 0xA0410 + 0x40 * k
def RC_TRG_T2_COUNT (k : Nat) : Fld := ⟨RC_TRG_T2 k, 0, 32⟩
/-- spec/16_recorder.md, register RC_TRG_CARE. -/
def RC_TRG_CARE (k : Nat) : Nat := 0xA0414 + 0x40 * k
/-- spec/16_recorder.md, register RC_TRG_VALUE. -/
def RC_TRG_VALUE (k : Nat) : Nat := 0xA041C + 0x40 * k
/-- spec/16_recorder.md, register RC_COMB. -/
def RC_COMB : Nat := 0xA0500
def RC_COMB_T : Fld := ⟨RC_COMB, 8, 24⟩
def RC_COMB_B : Fld := ⟨RC_COMB, 6, 2⟩
def RC_COMB_A : Fld := ⟨RC_COMB, 4, 2⟩
def RC_COMB_MODE : Fld := ⟨RC_COMB, 0, 3⟩
/-- spec/16_recorder.md, register RC_MS_CTRL. -/
def RC_MS_CTRL (k : Nat) : Nat := 0xA0600 + 0x10 * k
def RC_MS_CTRL_BAND_MODE (k : Nat) : Fld := ⟨RC_MS_CTRL k, 8, 1⟩
def RC_MS_CTRL_CHANNEL (k : Nat) : Fld := ⟨RC_MS_CTRL k, 0, 8⟩
/-- spec/16_recorder.md, register RC_MS_REF. -/
def RC_MS_REF (k : Nat) : Nat := 0xA0604 + 0x10 * k
def RC_MS_REF_BAND_REF (k : Nat) : Fld := ⟨RC_MS_REF k, 0, 32⟩
/-- spec/16_recorder.md, register RC_MS_HALF. -/
def RC_MS_HALF (k : Nat) : Nat := 0xA0608 + 0x10 * k
def RC_MS_HALF_HALF (k : Nat) : Fld := ⟨RC_MS_HALF k, 0, 32⟩
/-- spec/16_recorder.md, register RC_MS_FROM. -/
def RC_MS_FROM (k : Nat) : Nat := 0xA060C + 0x10 * k
def RC_MS_FROM_MEAS_FROM (k : Nat) : Fld := ⟨RC_MS_FROM k, 0, 32⟩
/-- spec/17_time_and_ethernet.md, register TB_TM_CTRL. -/
def TB_TM_CTRL : Nat := 0x10100
def TB_TM_CTRL_QUAL_CNT : Fld := ⟨TB_TM_CTRL, 16, 8⟩
def TB_TM_CTRL_REVERT : Fld := ⟨TB_TM_CTRL, 10, 1⟩
def TB_TM_CTRL_REF_SEL : Fld := ⟨TB_TM_CTRL, 8, 2⟩
def TB_TM_CTRL_PPS_ALWAYS : Fld := ⟨TB_TM_CTRL, 5, 1⟩
def TB_TM_CTRL_PPS_EN : Fld := ⟨TB_TM_CTRL, 4, 1⟩
def TB_TM_CTRL_TEST : Fld := ⟨TB_TM_CTRL, 2, 1⟩
def TB_TM_CTRL_SOURCE : Fld := ⟨TB_TM_CTRL, 0, 2⟩
/-- spec/17_time_and_ethernet.md, register TB_TM_STATUS. -/
def TB_TM_STATUS : Nat := 0x10104
def TB_TM_STATUS_REFUSE_LAST : Fld := ⟨TB_TM_STATUS, 24, 8⟩
def TB_TM_STATUS_NO_REF : Fld := ⟨TB_TM_STATUS, 9, 1⟩
def TB_TM_STATUS_REF : Fld := ⟨TB_TM_STATUS, 8, 1⟩
def TB_TM_STATUS_OFFSET_BIG : Fld := ⟨TB_TM_STATUS, 7, 1⟩
def TB_TM_STATUS_TRANSPARENT : Fld := ⟨TB_TM_STATUS, 6, 1⟩
def TB_TM_STATUS_STEPPED : Fld := ⟨TB_TM_STATUS, 5, 1⟩
def TB_TM_STATUS_QUALIFIED : Fld := ⟨TB_TM_STATUS, 4, 1⟩
def TB_TM_STATUS_STATE : Fld := ⟨TB_TM_STATUS, 0, 2⟩
/-- spec/17_time_and_ethernet.md, register TB_TM_EVENT. -/
def TB_TM_EVENT : Nat := 0x10108
def TB_TM_EVENT_REFUSED : Fld := ⟨TB_TM_EVENT, 8, 1⟩
def TB_TM_EVENT_SYNC_MATCH : Fld := ⟨TB_TM_EVENT, 7, 1⟩
def TB_TM_EVENT_SYNC_IN : Fld := ⟨TB_TM_EVENT, 6, 1⟩
def TB_TM_EVENT_PPS_IN : Fld := ⟨TB_TM_EVENT, 5, 1⟩
def TB_TM_EVENT_REF_SWITCH : Fld := ⟨TB_TM_EVENT, 4, 1⟩
def TB_TM_EVENT_STEPPED : Fld := ⟨TB_TM_EVENT, 3, 1⟩
def TB_TM_EVENT_HOLDOVER : Fld := ⟨TB_TM_EVENT, 2, 1⟩
def TB_TM_EVENT_QUAL_LOST : Fld := ⟨TB_TM_EVENT, 1, 1⟩
def TB_TM_EVENT_LOCKED : Fld := ⟨TB_TM_EVENT, 0, 1⟩
/-- spec/17_time_and_ethernet.md, register TB_TM_CMD. -/
def TB_TM_CMD : Nat := 0x1010C
def TB_TM_CMD_CODE : Fld := ⟨TB_TM_CMD, 0, 2⟩
/-- spec/17_time_and_ethernet.md, register TB_TIME_SEC_LO. -/
def TB_TIME_SEC_LO : Nat := 0x10110
def TB_TIME_SEC_LO_SEC_LO : Fld := ⟨TB_TIME_SEC_LO, 0, 32⟩
/-- spec/17_time_and_ethernet.md, register TB_TIME_SEC_HI. -/
def TB_TIME_SEC_HI : Nat := 0x10114
def TB_TIME_SEC_HI_SEC_HI : Fld := ⟨TB_TIME_SEC_HI, 0, 32⟩
/-- spec/17_time_and_ethernet.md, register TB_TIME_NS. -/
def TB_TIME_NS : Nat := 0x10118
def TB_TIME_NS_NS : Fld := ⟨TB_TIME_NS, 0, 32⟩
/-- spec/17_time_and_ethernet.md, register TB_TIME_FRAC. -/
def TB_TIME_FRAC : Nat := 0x1011C
def TB_TIME_FRAC_FRAC : Fld := ⟨TB_TIME_FRAC, 0, 32⟩
/-- spec/17_time_and_ethernet.md, register TB_TM_SET_SEC_LO. -/
def TB_TM_SET_SEC_LO : Nat := 0x10120
def TB_TM_SET_SEC_LO_SEC_LO : Fld := ⟨TB_TM_SET_SEC_LO, 0, 32⟩
/-- spec/17_time_and_ethernet.md, register TB_TM_SET_SEC_HI. -/
def TB_TM_SET_SEC_HI : Nat := 0x10124
def TB_TM_SET_SEC_HI_SEC_HI : Fld := ⟨TB_TM_SET_SEC_HI, 0, 32⟩
/-- spec/17_time_and_ethernet.md, register TB_TM_SET_NS. -/
def TB_TM_SET_NS : Nat := 0x10128
def TB_TM_SET_NS_NS : Fld := ⟨TB_TM_SET_NS, 0, 32⟩
/-- spec/17_time_and_ethernet.md, register TB_TM_OFFSET. -/
def TB_TM_OFFSET : Nat := 0x10130
def TB_TM_OFFSET_O : Fld := ⟨TB_TM_OFFSET, 0, 32⟩
/-- spec/17_time_and_ethernet.md, register TB_TM_RATE. -/
def TB_TM_RATE : Nat := 0x10134
def TB_TM_RATE_RATE : Fld := ⟨TB_TM_RATE, 0, 32⟩
/-- spec/17_time_and_ethernet.md, register TB_TM_FREQ. -/
def TB_TM_FREQ : Nat := 0x10138
def TB_TM_FREQ_F : Fld := ⟨TB_TM_FREQ, 0, 32⟩
/-- spec/17_time_and_ethernet.md, register TB_TM_SERVO. -/
def TB_TM_SERVO : Nat := 0x1013C
def TB_TM_SERVO_KP : Fld := ⟨TB_TM_SERVO, 16, 16⟩
def TB_TM_SERVO_KI : Fld := ⟨TB_TM_SERVO, 0, 16⟩
/-- spec/17_time_and_ethernet.md, register TB_TM_QUAL. -/
def TB_TM_QUAL : Nat := 0x10140
def TB_TM_QUAL_HOLD_QUAL : Fld := ⟨TB_TM_QUAL, 16, 16⟩
def TB_TM_QUAL_QUAL_NS : Fld := ⟨TB_TM_QUAL, 0, 16⟩
/-- spec/17_time_and_ethernet.md, register TB_TM_HOLD. -/
def TB_TM_HOLD : Nat := 0x10144
def TB_TM_HOLD_SECS : Fld := ⟨TB_TM_HOLD, 0, 32⟩
/-- spec/17_time_and_ethernet.md, register TB_PPS. -/
def TB_PPS : Nat := 0x10148
def TB_PPS_WIDTH : Fld := ⟨TB_PPS, 0, 16⟩
/-- spec/17_time_and_ethernet.md, register TB_PPS_IN_SEC_LO. -/
def TB_PPS_IN_SEC_LO : Nat := 0x10150
def TB_PPS_IN_SEC_LO_SEC_LO : Fld := ⟨TB_PPS_IN_SEC_LO, 0, 32⟩
/-- spec/17_time_and_ethernet.md, register TB_PPS_IN_SEC_HI. -/
def TB_PPS_IN_SEC_HI : Nat := 0x10154
def TB_PPS_IN_SEC_HI_SEC_HI : Fld := ⟨TB_PPS_IN_SEC_HI, 0, 32⟩
/-- spec/17_time_and_ethernet.md, register TB_PPS_IN_NS. -/
def TB_PPS_IN_NS : Nat := 0x10158
def TB_PPS_IN_NS_NS : Fld := ⟨TB_PPS_IN_NS, 0, 32⟩
/-- spec/17_time_and_ethernet.md, register TB_PPS_IN_FRAC. -/
def TB_PPS_IN_FRAC : Nat := 0x1015C
def TB_PPS_IN_FRAC_FRAC : Fld := ⟨TB_PPS_IN_FRAC, 0, 32⟩
/-- spec/17_time_and_ethernet.md, register TB_SYNC_CTRL. -/
def TB_SYNC_CTRL : Nat := 0x10160
def TB_SYNC_CTRL_SYNC_DIV : Fld := ⟨TB_SYNC_CTRL, 16, 16⟩
def TB_SYNC_CTRL_SYNC_W : Fld := ⟨TB_SYNC_CTRL, 8, 8⟩
def TB_SYNC_CTRL_OUT_MODE : Fld := ⟨TB_SYNC_CTRL, 1, 2⟩
def TB_SYNC_CTRL_IN_EN : Fld := ⟨TB_SYNC_CTRL, 0, 1⟩
/-- spec/17_time_and_ethernet.md, register TB_SYNC_AT_SEC_LO. -/
def TB_SYNC_AT_SEC_LO : Nat := 0x10164
def TB_SYNC_AT_SEC_LO_SEC_LO : Fld := ⟨TB_SYNC_AT_SEC_LO, 0, 32⟩
/-- spec/17_time_and_ethernet.md, register TB_SYNC_AT_SEC_HI. -/
def TB_SYNC_AT_SEC_HI : Nat := 0x10168
def TB_SYNC_AT_SEC_HI_SEC_HI : Fld := ⟨TB_SYNC_AT_SEC_HI, 0, 32⟩
/-- spec/17_time_and_ethernet.md, register TB_SYNC_AT_NS. -/
def TB_SYNC_AT_NS : Nat := 0x1016C
def TB_SYNC_AT_NS_NS : Fld := ⟨TB_SYNC_AT_NS, 0, 32⟩
/-- spec/17_time_and_ethernet.md, register TB_SYNC_IN_SEC_LO. -/
def TB_SYNC_IN_SEC_LO : Nat := 0x10170
def TB_SYNC_IN_SEC_LO_SEC_LO : Fld := ⟨TB_SYNC_IN_SEC_LO, 0, 32⟩
/-- spec/17_time_and_ethernet.md, register TB_SYNC_IN_SEC_HI. -/
def TB_SYNC_IN_SEC_HI : Nat := 0x10174
def TB_SYNC_IN_SEC_HI_SEC_HI : Fld := ⟨TB_SYNC_IN_SEC_HI, 0, 32⟩
/-- spec/17_time_and_ethernet.md, register TB_SYNC_IN_NS. -/
def TB_SYNC_IN_NS : Nat := 0x10178
def TB_SYNC_IN_NS_NS : Fld := ⟨TB_SYNC_IN_NS, 0, 32⟩
/-- spec/17_time_and_ethernet.md, register TB_SYNC_IN_FRAC. -/
def TB_SYNC_IN_FRAC : Nat := 0x1017C
def TB_SYNC_IN_FRAC_FRAC : Fld := ⟨TB_SYNC_IN_FRAC, 0, 32⟩
/-- spec/17_time_and_ethernet.md, register TB_SYNC_CNT. -/
def TB_SYNC_CNT : Nat := 0x10180
def TB_SYNC_CNT_COUNT : Fld := ⟨TB_SYNC_CNT, 0, 32⟩
/-- spec/17_time_and_ethernet.md, register TB_REF_ERR. -/
def TB_REF_ERR : Nat := 0x10188
def TB_REF_ERR_REFB : Fld := ⟨TB_REF_ERR, 16, 16⟩
def TB_REF_ERR_REFA : Fld := ⟨TB_REF_ERR, 0, 16⟩
/-- spec/17_time_and_ethernet.md, register EN_P_CTRL. -/
def EN_P_CTRL (k : Nat) : Nat := 0x50000 + 0x40 * k
def EN_P_CTRL_PHY_ADDR (k : Nat) : Fld := ⟨EN_P_CTRL k, 8, 5⟩
def EN_P_CTRL_EN (k : Nat) : Fld := ⟨EN_P_CTRL k, 0, 1⟩
/-- spec/17_time_and_ethernet.md, register EN_P_STATUS. -/
def EN_P_STATUS (k : Nat) : Nat := 0x50004 + 0x40 * k
def EN_P_STATUS_PTP_STATE (k : Nat) : Fld := ⟨EN_P_STATUS k, 5, 3⟩
def EN_P_STATUS_FENCED (k : Nat) : Fld := ⟨EN_P_STATUS k, 4, 1⟩
def EN_P_STATUS_DUPLEX_BAD (k : Nat) : Fld := ⟨EN_P_STATUS k, 3, 1⟩
def EN_P_STATUS_SPEED (k : Nat) : Fld := ⟨EN_P_STATUS k, 1, 2⟩
def EN_P_STATUS_LINK (k : Nat) : Fld := ⟨EN_P_STATUS k, 0, 1⟩
/-- spec/17_time_and_ethernet.md, register EN_P_LAT. -/
def EN_P_LAT (k : Nat) : Nat := 0x50008 + 0x40 * k
def EN_P_LAT_TX_LAT (k : Nat) : Fld := ⟨EN_P_LAT k, 16, 16⟩
def EN_P_LAT_RX_LAT (k : Nat) : Fld := ⟨EN_P_LAT k, 0, 16⟩
/-- spec/17_time_and_ethernet.md, register EN_P_MPD. -/
def EN_P_MPD (k : Nat) : Nat := 0x5000C + 0x40 * k
def EN_P_MPD_D (k : Nat) : Fld := ⟨EN_P_MPD k, 0, 32⟩
/-- spec/17_time_and_ethernet.md, register EN_P_RXF. -/
def EN_P_RXF (k : Nat) : Nat := 0x50010 + 0x40 * k
def EN_P_RXF_COUNT (k : Nat) : Fld := ⟨EN_P_RXF k, 0, 32⟩
/-- spec/17_time_and_ethernet.md, register EN_P_TXF. -/
def EN_P_TXF (k : Nat) : Nat := 0x50014 + 0x40 * k
def EN_P_TXF_COUNT (k : Nat) : Fld := ⟨EN_P_TXF k, 0, 32⟩
/-- spec/17_time_and_ethernet.md, register EN_P_ERR. -/
def EN_P_ERR (k : Nat) : Nat := 0x50018 + 0x40 * k
def EN_P_ERR_CRC (k : Nat) : Fld := ⟨EN_P_ERR k, 16, 16⟩
def EN_P_ERR_DROP (k : Nat) : Fld := ⟨EN_P_ERR k, 0, 16⟩
/-- spec/17_time_and_ethernet.md, register EN_CTRL. -/
def EN_CTRL : Nat := 0x50100
def EN_CTRL_ETYPE : Fld := ⟨EN_CTRL, 16, 16⟩
def EN_CTRL_DOMAIN : Fld := ⟨EN_CTRL, 8, 7⟩
def EN_CTRL_ROLE : Fld := ⟨EN_CTRL, 0, 1⟩
/-- spec/17_time_and_ethernet.md, register EN_MAC_LO. -/
def EN_MAC_LO : Nat := 0x50104
def EN_MAC_LO_MAC_LO : Fld := ⟨EN_MAC_LO, 0, 32⟩
/-- spec/17_time_and_ethernet.md, register EN_MAC_HI. -/
def EN_MAC_HI : Nat := 0x50108
def EN_MAC_HI_MAC_HI : Fld := ⟨EN_MAC_HI, 0, 16⟩
/-- spec/17_time_and_ethernet.md, register EN_PTP. -/
def EN_PTP : Nat := 0x5010C
def EN_PTP_LOG_ANN : Fld := ⟨EN_PTP, 24, 8⟩
def EN_PTP_LOG_SYNC : Fld := ⟨EN_PTP, 16, 8⟩
def EN_PTP_PRIO1 : Fld := ⟨EN_PTP, 8, 8⟩
def EN_PTP_PRIO2 : Fld := ⟨EN_PTP, 0, 8⟩
/-- spec/17_time_and_ethernet.md, register EN_GM_ID. -/
def EN_GM_ID : Nat := 0x50110
/-- spec/17_time_and_ethernet.md, register EN_Q8. -/
def EN_Q8 : Nat := 0x50118
def EN_Q8_OVF : Fld := ⟨EN_Q8, 8, 1⟩
def EN_Q8_LOST : Fld := ⟨EN_Q8, 0, 8⟩
/-- spec/17_time_and_ethernet.md, register EN_SW. -/
def EN_SW : Nat := 0x5011C
def EN_SW_AGE : Fld := ⟨EN_SW, 0, 16⟩
/-- spec/18_lanifer_and_queues.md, register QU_BASE. -/
def QU_BASE (k : Nat) : Nat := 0x40000 + 0x40 * k
def QU_BASE_BASE (k : Nat) : Fld := ⟨QU_BASE k, 12, 20⟩
/-- spec/18_lanifer_and_queues.md, register QU_CFG. -/
def QU_CFG (k : Nat) : Nat := 0x40004 + 0x40 * k
def QU_CFG_SLOT (k : Nat) : Fld := ⟨QU_CFG k, 16, 16⟩
def QU_CFG_LOG2 (k : Nat) : Fld := ⟨QU_CFG k, 0, 4⟩
/-- spec/18_lanifer_and_queues.md, register QU_PROD. -/
def QU_PROD (k : Nat) : Nat := 0x40008 + 0x40 * k
def QU_PROD_INDEX (k : Nat) : Fld := ⟨QU_PROD k, 0, 12⟩
/-- spec/18_lanifer_and_queues.md, register QU_CONS. -/
def QU_CONS (k : Nat) : Nat := 0x4000C + 0x40 * k
def QU_CONS_INDEX (k : Nat) : Fld := ⟨QU_CONS k, 0, 12⟩
/-- spec/18_lanifer_and_queues.md, register QU_STATUS. -/
def QU_STATUS (k : Nat) : Nat := 0x40010 + 0x40 * k
def QU_STATUS_CLAIM (k : Nat) : Fld := ⟨QU_STATUS k, 16, 3⟩
def QU_STATUS_FILL (k : Nat) : Fld := ⟨QU_STATUS k, 0, 13⟩
/-- spec/18_lanifer_and_queues.md, register QU_LOST. -/
def QU_LOST (k : Nat) : Nat := 0x40014 + 0x40 * k
def QU_LOST_COUNT (k : Nat) : Fld := ⟨QU_LOST k, 0, 32⟩
/-- spec/18_lanifer_and_queues.md, register QU_SEQ. -/
def QU_SEQ (k : Nat) : Nat := 0x40018 + 0x40 * k
def QU_SEQ_SEQ (k : Nat) : Fld := ⟨QU_SEQ k, 0, 32⟩
/-- spec/18_lanifer_and_queues.md, register QU_EVENT. -/
def QU_EVENT (k : Nat) : Nat := 0x4001C + 0x40 * k
def QU_EVENT_FULL (k : Nat) : Fld := ⟨QU_EVENT k, 1, 1⟩
def QU_EVENT_LOST (k : Nat) : Fld := ⟨QU_EVENT k, 0, 1⟩
/-- spec/18_lanifer_and_queues.md, register QU_LN_CTRL. -/
def QU_LN_CTRL : Nat := 0x40800
def QU_LN_CTRL_SESSION_TMO : Fld := ⟨QU_LN_CTRL, 16, 16⟩
def QU_LN_CTRL_OPEN_READ : Fld := ⟨QU_LN_CTRL, 1, 1⟩
def QU_LN_CTRL_EN : Fld := ⟨QU_LN_CTRL, 0, 1⟩
/-- spec/18_lanifer_and_queues.md, register QU_LN_STATUS. -/
def QU_LN_STATUS : Nat := 0x40804
def QU_LN_STATUS_REFUSE_LAST : Fld := ⟨QU_LN_STATUS, 24, 8⟩
def QU_LN_STATUS_PENDING : Fld := ⟨QU_LN_STATUS, 4, 3⟩
def QU_LN_STATUS_SESSIONS : Fld := ⟨QU_LN_STATUS, 0, 3⟩
/-- spec/18_lanifer_and_queues.md, register QU_LN_EVENT. -/
def QU_LN_EVENT : Nat := 0x40808
def QU_LN_EVENT_AUTH_FAIL : Fld := ⟨QU_LN_EVENT, 2, 1⟩
def QU_LN_EVENT_CLOSED : Fld := ⟨QU_LN_EVENT, 1, 1⟩
def QU_LN_EVENT_OPENED : Fld := ⟨QU_LN_EVENT, 0, 1⟩
/-- spec/18_lanifer_and_queues.md, register QU_LN_CMD. -/
def QU_LN_CMD : Nat := 0x4080C
def QU_LN_CMD_SESSION : Fld := ⟨QU_LN_CMD, 4, 4⟩
def QU_LN_CMD_CODE : Fld := ⟨QU_LN_CMD, 0, 4⟩
/-- spec/18_lanifer_and_queues.md, register QU_LN_CNT. -/
def QU_LN_CNT : Nat := 0x40810
def QU_LN_CNT_KEY_FAIL : Fld := ⟨QU_LN_CNT, 16, 16⟩
def QU_LN_CNT_BAD_MAC : Fld := ⟨QU_LN_CNT, 0, 16⟩
/-- spec/18_lanifer_and_queues.md, register QU_SESS_ID. -/
def QU_SESS_ID (k : Nat) : Nat := 0x40820 + 0x8 * k
def QU_SESS_ID_SID (k : Nat) : Fld := ⟨QU_SESS_ID k, 0, 32⟩
/-- spec/18_lanifer_and_queues.md, register QU_SESS_INFO. -/
def QU_SESS_INFO (k : Nat) : Nat := 0x40824 + 0x8 * k
def QU_SESS_INFO_IDLE (k : Nat) : Fld := ⟨QU_SESS_INFO k, 16, 16⟩
def QU_SESS_INFO_KEY_ID (k : Nat) : Fld := ⟨QU_SESS_INFO k, 8, 2⟩
def QU_SESS_INFO_OPEN (k : Nat) : Fld := ⟨QU_SESS_INFO k, 0, 1⟩
/-- spec/19_message_bus.md, register CF_CTRL. -/
def CF_CTRL (k : Nat) : Nat := 0x60000 + 0x800 * k
def CF_CTRL_REF_FD (k : Nat) : Fld := ⟨CF_CTRL k, 6, 1⟩
def CF_CTRL_REF_EN (k : Nat) : Fld := ⟨CF_CTRL k, 5, 1⟩
def CF_CTRL_AUTO_RECOVER (k : Nat) : Fld := ⟨CF_CTRL k, 4, 1⟩
def CF_CTRL_LISTEN (k : Nat) : Fld := ⟨CF_CTRL k, 3, 1⟩
def CF_CTRL_FD_EN (k : Nat) : Fld := ⟨CF_CTRL k, 1, 1⟩
def CF_CTRL_EN (k : Nat) : Fld := ⟨CF_CTRL k, 0, 1⟩
/-- spec/19_message_bus.md, register CF_NBT. -/
def CF_NBT (k : Nat) : Nat := 0x60004 + 0x800 * k
def CF_NBT_NSJW (k : Nat) : Fld := ⟨CF_NBT k, 25, 7⟩
def CF_NBT_NTSEG2 (k : Nat) : Fld := ⟨CF_NBT k, 18, 7⟩
def CF_NBT_NTSEG1 (k : Nat) : Fld := ⟨CF_NBT k, 10, 8⟩
def CF_NBT_NBRP (k : Nat) : Fld := ⟨CF_NBT k, 0, 5⟩
/-- spec/19_message_bus.md, register CF_DBT. -/
def CF_DBT (k : Nat) : Nat := 0x60008 + 0x800 * k
def CF_DBT_DSJW (k : Nat) : Fld := ⟨CF_DBT k, 28, 4⟩
def CF_DBT_DTSEG2 (k : Nat) : Fld := ⟨CF_DBT k, 24, 4⟩
def CF_DBT_DTSEG1 (k : Nat) : Fld := ⟨CF_DBT k, 16, 5⟩
def CF_DBT_DBRP (k : Nat) : Fld := ⟨CF_DBT k, 0, 5⟩
/-- spec/19_message_bus.md, register CF_TDC. -/
def CF_TDC (k : Nat) : Nat := 0x6000C + 0x800 * k
def CF_TDC_TDC_EN (k : Nat) : Fld := ⟨CF_TDC k, 16, 1⟩
def CF_TDC_TDCO (k : Nat) : Fld := ⟨CF_TDC k, 8, 7⟩
/-- spec/19_message_bus.md, register CF_REF. -/
def CF_REF (k : Nat) : Nat := 0x60010 + 0x800 * k
def CF_REF_BRS (k : Nat) : Fld := ⟨CF_REF k, 31, 1⟩
def CF_REF_IDE (k : Nat) : Fld := ⟨CF_REF k, 29, 1⟩
def CF_REF_REF_ID (k : Nat) : Fld := ⟨CF_REF k, 0, 29⟩
/-- spec/19_message_bus.md, register CF_CYCLE. -/
def CF_CYCLE (k : Nat) : Nat := 0x60014 + 0x800 * k
def CF_CYCLE_CYCLE_US (k : Nat) : Fld := ⟨CF_CYCLE k, 0, 20⟩
/-- spec/19_message_bus.md, register CF_CMD. -/
def CF_CMD (k : Nat) : Nat := 0x60018 + 0x800 * k
def CF_CMD_CODE (k : Nat) : Fld := ⟨CF_CMD k, 0, 4⟩
/-- spec/19_message_bus.md, register CF_STATUS. -/
def CF_STATUS (k : Nat) : Nat := 0x6001C + 0x800 * k
def CF_STATUS_REFUSE_LAST (k : Nat) : Fld := ⟨CF_STATUS k, 24, 8⟩
def CF_STATUS_TDCV (k : Nat) : Fld := ⟨CF_STATUS k, 16, 7⟩
def CF_STATUS_FIFO (k : Nat) : Fld := ⟨CF_STATUS k, 8, 6⟩
def CF_STATUS_REF_PEND (k : Nat) : Fld := ⟨CF_STATUS k, 3, 1⟩
def CF_STATUS_STATE (k : Nat) : Fld := ⟨CF_STATUS k, 0, 3⟩
/-- spec/19_message_bus.md, register CF_EVENT. -/
def CF_EVENT (k : Nat) : Nat := 0x60020 + 0x800 * k
def CF_EVENT_PROTOCOL_EXC (k : Nat) : Fld := ⟨CF_EVENT k, 7, 1⟩
def CF_EVENT_REFUSED (k : Nat) : Fld := ⟨CF_EVENT k, 6, 1⟩
def CF_EVENT_FLUSHED (k : Nat) : Fld := ⟨CF_EVENT k, 5, 1⟩
def CF_EVENT_REF_LATE (k : Nat) : Fld := ⟨CF_EVENT k, 4, 1⟩
def CF_EVENT_RX_OVF (k : Nat) : Fld := ⟨CF_EVENT k, 3, 1⟩
def CF_EVENT_RECOVERED (k : Nat) : Fld := ⟨CF_EVENT k, 2, 1⟩
def CF_EVENT_BUS_OFF (k : Nat) : Fld := ⟨CF_EVENT k, 1, 1⟩
def CF_EVENT_ERR_PASSIVE (k : Nat) : Fld := ⟨CF_EVENT k, 0, 1⟩
/-- spec/19_message_bus.md, register CF_ERRC. -/
def CF_ERRC (k : Nat) : Nat := 0x60024 + 0x800 * k
def CF_ERRC_REC (k : Nat) : Fld := ⟨CF_ERRC k, 16, 16⟩
def CF_ERRC_TEC (k : Nat) : Fld := ⟨CF_ERRC k, 0, 16⟩
/-- spec/19_message_bus.md, register CF_TX_CNT. -/
def CF_TX_CNT (k : Nat) : Nat := 0x60028 + 0x800 * k
def CF_TX_CNT_COUNT (k : Nat) : Fld := ⟨CF_TX_CNT k, 0, 32⟩
/-- spec/19_message_bus.md, register CF_RX_CNT. -/
def CF_RX_CNT (k : Nat) : Nat := 0x6002C + 0x800 * k
def CF_RX_CNT_COUNT (k : Nat) : Fld := ⟨CF_RX_CNT k, 0, 32⟩
/-- spec/19_message_bus.md, register CF_RX_DROP. -/
def CF_RX_DROP (k : Nat) : Nat := 0x60030 + 0x800 * k
def CF_RX_DROP_OVF (k : Nat) : Fld := ⟨CF_RX_DROP k, 16, 16⟩
def CF_RX_DROP_NO_MATCH (k : Nat) : Fld := ⟨CF_RX_DROP k, 0, 16⟩
/-- spec/19_message_bus.md, register CF_TX_DROP. -/
def CF_TX_DROP (k : Nat) : Nat := 0x60034 + 0x800 * k
def CF_TX_DROP_FLUSHED (k : Nat) : Fld := ⟨CF_TX_DROP k, 16, 16⟩
def CF_TX_DROP_BAD (k : Nat) : Fld := ⟨CF_TX_DROP k, 0, 16⟩
/-- spec/19_message_bus.md, register CF_TX_WAIT. -/
def CF_TX_WAIT (k : Nat) : Nat := 0x60038 + 0x800 * k
def CF_TX_WAIT_MAX_US (k : Nat) : Fld := ⟨CF_TX_WAIT k, 0, 16⟩
/-- spec/19_message_bus.md, register CF_REF_CNT. -/
def CF_REF_CNT (k : Nat) : Nat := 0x6003C + 0x800 * k
def CF_REF_CNT_LATE (k : Nat) : Fld := ⟨CF_REF_CNT k, 16, 16⟩
def CF_REF_CNT_SENT (k : Nat) : Fld := ⟨CF_REF_CNT k, 0, 16⟩
/-- spec/19_message_bus.md, register CF_REF_LAST. -/
def CF_REF_LAST (k : Nat) : Nat := 0x60040 + 0x800 * k
/-- spec/19_message_bus.md, register CF_FLT_ID. -/
def CF_FLT_ID (k j : Nat) : Nat := 0x60400 + 0x800 * k + 0x10 * j
def CF_FLT_ID_EN (k j : Nat) : Fld := ⟨CF_FLT_ID k j, 31, 1⟩
def CF_FLT_ID_IDE (k j : Nat) : Fld := ⟨CF_FLT_ID k j, 29, 1⟩
def CF_FLT_ID_ID (k j : Nat) : Fld := ⟨CF_FLT_ID k j, 0, 29⟩
/-- spec/19_message_bus.md, register CF_FLT_MASK. -/
def CF_FLT_MASK (k j : Nat) : Nat := 0x60404 + 0x800 * k + 0x10 * j
def CF_FLT_MASK_MASK (k j : Nat) : Fld := ⟨CF_FLT_MASK k j, 0, 29⟩
/-- spec/19_message_bus.md, register CF_FLT_DEST. -/
def CF_FLT_DEST (k j : Nat) : Nat := 0x60408 + 0x800 * k + 0x10 * j
def CF_FLT_DEST_INSTANCE (k j : Nat) : Fld := ⟨CF_FLT_DEST k j, 8, 6⟩
def CF_FLT_DEST_KIND (k j : Nat) : Fld := ⟨CF_FLT_DEST k j, 0, 2⟩
/-- spec/19_message_bus.md, register CF_FLT_CNT. -/
def CF_FLT_CNT (k j : Nat) : Nat := 0x6040C + 0x800 * k + 0x10 * j
def CF_FLT_CNT_HITS (k j : Nat) : Fld := ⟨CF_FLT_CNT k j, 0, 32⟩
/-- spec/20_manifest_and_boot.md, register GL_TD_BUF0. -/
def GL_TD_BUF0 (k : Nat) : Nat := 0x4000000 + 0x10 * k
def GL_TD_BUF0_ADDR (k : Nat) : Fld := ⟨GL_TD_BUF0 k, 0, 32⟩
/-- spec/20_manifest_and_boot.md, register GL_TD_BUF1. -/
def GL_TD_BUF1 (k : Nat) : Nat := 0x4000004 + 0x10 * k
def GL_TD_BUF1_ADDR (k : Nat) : Fld := ⟨GL_TD_BUF1 k, 0, 32⟩
/-- spec/20_manifest_and_boot.md, register GL_TD_SIZE. -/
def GL_TD_SIZE (k : Nat) : Nat := 0x4000008 + 0x10 * k
def GL_TD_SIZE_SIZE (k : Nat) : Fld := ⟨GL_TD_SIZE k, 0, 32⟩
/-- spec/20_manifest_and_boot.md, register GL_TD_STATE. -/
def GL_TD_STATE (k : Nat) : Nat := 0x400000C + 0x10 * k
def GL_TD_STATE_LAST (k : Nat) : Fld := ⟨GL_TD_STATE k, 8, 8⟩
def GL_TD_STATE_REBUILD (k : Nat) : Fld := ⟨GL_TD_STATE k, 4, 1⟩
def GL_TD_STATE_DEFERRED (k : Nat) : Fld := ⟨GL_TD_STATE k, 3, 1⟩
def GL_TD_STATE_PENDING (k : Nat) : Fld := ⟨GL_TD_STATE k, 2, 1⟩
def GL_TD_STATE_DEFINED (k : Nat) : Fld := ⟨GL_TD_STATE k, 1, 1⟩
def GL_TD_STATE_ACTIVE (k : Nat) : Fld := ⟨GL_TD_STATE k, 0, 1⟩
/-- spec/20_manifest_and_boot.md, register XS_CTRL. -/
def XS_CTRL (k : Nat) : Nat := 0x70000 + 0x100 * k
def XS_CTRL_DUMMY (k : Nat) : Fld := ⟨XS_CTRL k, 16, 5⟩
def XS_CTRL_DIV (k : Nat) : Fld := ⟨XS_CTRL k, 8, 8⟩
def XS_CTRL_SUSPEND (k : Nat) : Fld := ⟨XS_CTRL k, 5, 1⟩
def XS_CTRL_CONT (k : Nat) : Fld := ⟨XS_CTRL k, 4, 1⟩
def XS_CTRL_ADDR4 (k : Nat) : Fld := ⟨XS_CTRL k, 3, 1⟩
def XS_CTRL_MODE (k : Nat) : Fld := ⟨XS_CTRL k, 1, 2⟩
def XS_CTRL_EN (k : Nat) : Fld := ⟨XS_CTRL k, 0, 1⟩
/-- spec/20_manifest_and_boot.md, register XS_OPC. -/
def XS_OPC (k : Nat) : Nat := 0x70004 + 0x100 * k
def XS_OPC_MODE_BITS (k : Nat) : Fld := ⟨XS_OPC k, 8, 8⟩
def XS_OPC_READ_OPC (k : Nat) : Fld := ⟨XS_OPC k, 0, 8⟩
/-- spec/20_manifest_and_boot.md, register XS_PGM. -/
def XS_PGM (k : Nat) : Nat := 0x70008 + 0x100 * k
def XS_PGM_RDSR (k : Nat) : Fld := ⟨XS_PGM k, 24, 8⟩
def XS_PGM_WREN (k : Nat) : Fld := ⟨XS_PGM k, 16, 8⟩
def XS_PGM_SE_OPC (k : Nat) : Fld := ⟨XS_PGM k, 8, 8⟩
def XS_PGM_PP_OPC (k : Nat) : Fld := ⟨XS_PGM k, 0, 8⟩
/-- spec/20_manifest_and_boot.md, register XS_PGM2. -/
def XS_PGM2 (k : Nat) : Nat := 0x7000C + 0x100 * k
def XS_PGM2_PAGE (k : Nat) : Fld := ⟨XS_PGM2 k, 20, 4⟩
def XS_PGM2_SECT (k : Nat) : Fld := ⟨XS_PGM2 k, 16, 4⟩
def XS_PGM2_RES_OPC (k : Nat) : Fld := ⟨XS_PGM2 k, 8, 8⟩
def XS_PGM2_SUSP_OPC (k : Nat) : Fld := ⟨XS_PGM2 k, 0, 8⟩
/-- spec/20_manifest_and_boot.md, register XS_STATUS. -/
def XS_STATUS (k : Nat) : Nat := 0x70010 + 0x100 * k
def XS_STATUS_REFUSE_LAST (k : Nat) : Fld := ⟨XS_STATUS k, 24, 8⟩
def XS_STATUS_OP (k : Nat) : Fld := ⟨XS_STATUS k, 2, 2⟩
def XS_STATUS_CONT_ACTIVE (k : Nat) : Fld := ⟨XS_STATUS k, 1, 1⟩
def XS_STATUS_FENCED (k : Nat) : Fld := ⟨XS_STATUS k, 0, 1⟩
/-- spec/20_manifest_and_boot.md, register XS_EVENT. -/
def XS_EVENT (k : Nat) : Nat := 0x70014 + 0x100 * k
def XS_EVENT_SUSPENDED (k : Nat) : Fld := ⟨XS_EVENT k, 4, 1⟩
def XS_EVENT_READ_ERR (k : Nat) : Fld := ⟨XS_EVENT k, 3, 1⟩
def XS_EVENT_REFUSED (k : Nat) : Fld := ⟨XS_EVENT k, 2, 1⟩
def XS_EVENT_FAILED (k : Nat) : Fld := ⟨XS_EVENT k, 1, 1⟩
def XS_EVENT_DONE (k : Nat) : Fld := ⟨XS_EVENT k, 0, 1⟩
/-- spec/20_manifest_and_boot.md, register XS_OP. -/
def XS_OP (k : Nat) : Nat := 0x70018 + 0x100 * k
def XS_OP_RESULT (k : Nat) : Fld := ⟨XS_OP k, 24, 8⟩
def XS_OP_REMAIN (k : Nat) : Fld := ⟨XS_OP k, 0, 24⟩
/-- spec/20_manifest_and_boot.md, register XS_OP_ADDR. -/
def XS_OP_ADDR (k : Nat) : Nat := 0x7001C + 0x100 * k
def XS_OP_ADDR_ADDR (k : Nat) : Fld := ⟨XS_OP_ADDR k, 0, 32⟩
/-- spec/20_manifest_and_boot.md, register XS_BOOT. -/
def XS_BOOT : Nat := 0x70200
def XS_BOOT_CHECK_B : Fld := ⟨XS_BOOT, 16, 8⟩
def XS_BOOT_CHECK_A : Fld := ⟨XS_BOOT, 8, 8⟩
def XS_BOOT_COPY : Fld := ⟨XS_BOOT, 6, 2⟩
def XS_BOOT_WARN : Fld := ⟨XS_BOOT, 5, 1⟩
def XS_BOOT_RECOVERY : Fld := ⟨XS_BOOT, 4, 1⟩
def XS_BOOT_READY : Fld := ⟨XS_BOOT, 3, 1⟩
def XS_BOOT_STEP : Fld := ⟨XS_BOOT, 0, 3⟩
/-- spec/20_manifest_and_boot.md, register XS_BOOT_GEN. -/
def XS_BOOT_GEN : Nat := 0x70204
def XS_BOOT_GEN_GEN : Fld := ⟨XS_BOOT_GEN, 0, 32⟩
/-- spec/20_manifest_and_boot.md, register XS_BOOT_TIME. -/
def XS_BOOT_TIME : Nat := 0x70208
def XS_BOOT_TIME_SCHED : Fld := ⟨XS_BOOT_TIME, 16, 16⟩
def XS_BOOT_TIME_READY : Fld := ⟨XS_BOOT_TIME, 0, 16⟩
/-- spec/20_manifest_and_boot.md, register XS_BOOT_REC. -/
def XS_BOOT_REC : Nat := 0x7020C
def XS_BOOT_REC_INDEX : Fld := ⟨XS_BOOT_REC, 0, 32⟩
/-- spec/20_manifest_and_boot.md, register XS_RESET_CAUSE. -/
def XS_RESET_CAUSE : Nat := 0x70210
def XS_RESET_CAUSE_CAUSE : Fld := ⟨XS_RESET_CAUSE, 0, 4⟩
/-- spec/20_manifest_and_boot.md, register XS_RESET. -/
def XS_RESET : Nat := 0x70214
def XS_RESET_KEY : Fld := ⟨XS_RESET, 16, 16⟩
def XS_RESET_RESET : Fld := ⟨XS_RESET, 0, 1⟩
/-- spec/20_manifest_and_boot.md, register XS_CMD. -/
def XS_CMD : Nat := 0x70218
def XS_CMD_PORT : Fld := ⟨XS_CMD, 8, 1⟩
def XS_CMD_CODE : Fld := ⟨XS_CMD, 0, 4⟩
/-- spec/20_manifest_and_boot.md, register XS_VERIFY. -/
def XS_VERIFY : Nat := 0x7021C
def XS_VERIFY_GEN : Fld := ⟨XS_VERIFY, 16, 16⟩
def XS_VERIFY_RESULT : Fld := ⟨XS_VERIFY, 0, 8⟩
/-- spec/20_manifest_and_boot.md, register XS_STAGE_SRC. -/
def XS_STAGE_SRC : Nat := 0x70220
def XS_STAGE_SRC_ADDR : Fld := ⟨XS_STAGE_SRC, 0, 32⟩
/-- spec/20_manifest_and_boot.md, register XS_STAGE_TBL. -/
def XS_STAGE_TBL : Nat := 0x70224
def XS_STAGE_TBL_INDEX : Fld := ⟨XS_STAGE_TBL, 0, 9⟩
/-- spec/20_manifest_and_boot.md, register XS_STAGE_LEN. -/
def XS_STAGE_LEN : Nat := 0x70228
def XS_STAGE_LEN_LEN : Fld := ⟨XS_STAGE_LEN, 0, 32⟩
/-- spec/20_manifest_and_boot.md, register XS_STAGE_CRC. -/
def XS_STAGE_CRC : Nat := 0x7022C
def XS_STAGE_CRC_CRC : Fld := ⟨XS_STAGE_CRC, 0, 32⟩
/-- spec/20_manifest_and_boot.md, register XS_OTP_STATE. -/
def XS_OTP_STATE : Nat := 0x70300
def XS_OTP_STATE_BOOT_SLOT : Fld := ⟨XS_OTP_STATE, 8, 2⟩
def XS_OTP_STATE_REVOKED : Fld := ⟨XS_OTP_STATE, 4, 4⟩
def XS_OTP_STATE_PROGRAMMED : Fld := ⟨XS_OTP_STATE, 0, 4⟩
/-- spec/20_manifest_and_boot.md, register XS_OTP_CMD. -/
def XS_OTP_CMD : Nat := 0x70304
def XS_OTP_CMD_SLOT : Fld := ⟨XS_OTP_CMD, 4, 2⟩
def XS_OTP_CMD_CODE : Fld := ⟨XS_OTP_CMD, 0, 4⟩
/-- spec/20_manifest_and_boot.md, register XS_OTP_DATA. -/
def XS_OTP_DATA (k : Nat) : Nat := 0x70320 + 0x4 * k
def XS_OTP_DATA_HASH (k : Nat) : Fld := ⟨XS_OTP_DATA k, 0, 32⟩
/-- spec/21_package_and_electrical.md, register GL_ID. -/
def GL_ID : Nat := 0x0
def GL_ID_PART : Fld := ⟨GL_ID, 16, 16⟩
def GL_ID_STEPPING : Fld := ⟨GL_ID, 8, 8⟩
def GL_ID_PKG : Fld := ⟨GL_ID, 0, 8⟩
/-- spec/21_package_and_electrical.md, register GL_SERIAL. -/
def GL_SERIAL : Nat := 0x4
/-- spec/21_package_and_electrical.md, register GL_IO_BANK. -/
def GL_IO_BANK : Nat := 0xC
def GL_IO_BANK_LOW : Fld := ⟨GL_IO_BANK, 16, 9⟩
def GL_IO_BANK_V18 : Fld := ⟨GL_IO_BANK, 0, 9⟩
/-- spec/21_package_and_electrical.md, register GL_IO_CTRL. -/
def GL_IO_CTRL : Nat := 0x10
def GL_IO_CTRL_RX_DLY_B : Fld := ⟨GL_IO_CTRL, 3, 1⟩
def GL_IO_CTRL_TX_DLY_B : Fld := ⟨GL_IO_CTRL, 2, 1⟩
def GL_IO_CTRL_RX_DLY_A : Fld := ⟨GL_IO_CTRL, 1, 1⟩
def GL_IO_CTRL_TX_DLY_A : Fld := ⟨GL_IO_CTRL, 0, 1⟩
/-- spec/21_package_and_electrical.md, register GL_VMON. -/
def GL_VMON : Nat := 0x14
def GL_VMON_VDDPLL : Fld := ⟨GL_VMON, 16, 16⟩
def GL_VMON_VCORE : Fld := ⟨GL_VMON, 0, 16⟩
/-- spec/21_package_and_electrical.md, register GL_TEMP. -/
def GL_TEMP : Nat := 0x18
def GL_TEMP_PEAK : Fld := ⟨GL_TEMP, 16, 16⟩
def GL_TEMP_TJ : Fld := ⟨GL_TEMP, 0, 16⟩
/-- spec/21_package_and_electrical.md, register GL_HEALTH_EVENT. -/
def GL_HEALTH_EVENT : Nat := 0x1C
def GL_HEALTH_EVENT_TEMP_CRIT : Fld := ⟨GL_HEALTH_EVENT, 3, 1⟩
def GL_HEALTH_EVENT_TEMP_HIGH : Fld := ⟨GL_HEALTH_EVENT, 2, 1⟩
def GL_HEALTH_EVENT_VDDIO : Fld := ⟨GL_HEALTH_EVENT, 1, 1⟩
def GL_HEALTH_EVENT_VCORE : Fld := ⟨GL_HEALTH_EVENT, 0, 1⟩
/-- spec/10_itineraries.md, register IT_ROUND. -/
def IT_ROUND : Nat := 0xD4000
def IT_ROUND_LATEST : Fld := ⟨IT_ROUND, 0, 16⟩
def IT_ROUND_MAX : Fld := ⟨IT_ROUND, 16, 16⟩
/-- spec/09_modulator.md, register AX_MB_STATUS. -/
def AX_MB_STATUS (k : Nat) : Nat := 0x1003D4 + 0x400 * k
def AX_MB_STATUS_VALID (k : Nat) : Fld := ⟨AX_MB_STATUS k, 8, 1⟩
def AX_MB_STATUS_REFUSE_LAST (k : Nat) : Fld := ⟨AX_MB_STATUS k, 0, 8⟩
/-- spec/09_modulator.md, register MD_TRIP_CLEAR_EV. -/
def MD_TRIP_CLEAR_EV : Nat := 0xB030C
def MD_TRIP_CLEAR_EV_TRIP_CLEAR_REFUSED : Fld := ⟨MD_TRIP_CLEAR_EV, 0, 1⟩

/-- The register rows of the group Tb. -/
def rowsTb : List RegRow := [
  ⟨0x10000, 0x0, 1, 0x0, 1, false, 0x640, 0x1FFF, 0x0, 0x0, 3⟩,
  ⟨0x10004, 0x0, 1, 0x0, 1, false, 0x60E0320, 0x1FFF1FFF, 0x0, 0x0, 3⟩,
  ⟨0x10008, 0x0, 1, 0x0, 1, false, 0x102, 0x10F, 0x0, 0x0, 0⟩,
  ⟨0x1000C, 0x0, 1, 0x0, 1, false, 0x0, 0x0, 0x0, 0x3, 0⟩,
  ⟨0x10010, 0x0, 1, 0x0, 1, false, 0x0, 0x0, 0x0, 0x0, 0⟩,
  ⟨0x10014, 0x0, 1, 0x0, 1, false, 0x0, 0x0, 0x7, 0x0, 0⟩,
  ⟨0x10018, 0x0, 1, 0x0, 1, true, 0x0, 0x0, 0x0, 0x0, 0⟩,
  ⟨0x10020, 0x0, 1, 0x0, 1, true, 0x0, 0x0, 0x0, 0x0, 0⟩,
  ⟨0x10028, 0x0, 1, 0x0, 1, false, 0x0, 0x0, 0x0, 0x0, 0⟩,
  ⟨0x1002C, 0x0, 1, 0x0, 1, false, 0x0, 0x0, 0x0, 0x0, 0⟩,
  ⟨0x10030, 0x0, 1, 0x0, 1, false, 0x0, 0x0, 0x0, 0x0, 0⟩,
  ⟨0x10034, 0x0, 1, 0x0, 1, false, 0xFFFF, 0x0, 0x0, 0x0, 0⟩,
  ⟨0x10038, 0x0, 1, 0x0, 1, false, 0x640, 0x0, 0x0, 0x0, 0⟩,
  ⟨0x1003C, 0x0, 1, 0x0, 1, false, 0x60E0320, 0x0, 0x0, 0x0, 0⟩,
  ⟨0x10100, 0x0, 1, 0x0, 1, false, 0x100011, 0xFF0737, 0x0, 0x0, 0⟩,
  ⟨0x10104, 0x0, 1, 0x0, 1, false, 0x40, 0x0, 0x0, 0x0, 0⟩,
  ⟨0x10108, 0x0, 1, 0x0, 1, false, 0x0, 0x0, 0x1FF, 0x0, 0⟩,
  ⟨0x1010C, 0x0, 1, 0x0, 1, false, 0x0, 0x0, 0x0, 0x3, 0⟩,
  ⟨0x10110, 0x0, 1, 0x0, 1, false, 0x0, 0x0, 0x0, 0x0, 0⟩,
  ⟨0x10114, 0x0, 1, 0x0, 1, false, 0x0, 0x0, 0x0, 0x0, 0⟩,
  ⟨0x10118, 0x0, 1, 0x0, 1, false, 0x0, 0x0, 0x0, 0x0, 0⟩,
  ⟨0x1011C, 0x0, 1, 0x0, 1, false, 0x0, 0x0, 0x0, 0x0, 0⟩,
  ⟨0x10120, 0x0, 1, 0x0, 1, true, 0x0, 0xFFFFFFFFFFFFFFFF, 0x0, 0x0, 0⟩,
  ⟨0x10128, 0x0, 1, 0x0, 1, false, 0x0, 0xFFFFFFFF, 0x0, 0x0, 0⟩,
  ⟨0x10130, 0x0, 1, 0x0, 1, false, 0x0, 0x0, 0x0, 0x0, 0⟩,
  ⟨0x10134, 0x0, 1, 0x0, 1, false, 0x0, 0x0, 0x0, 0x0, 0⟩,
  ⟨0x10138, 0x0, 1, 0x0, 1, false, 0x0, 0x0, 0x0, 0x0, 0⟩,
  ⟨0x1013C, 0x0, 1, 0x0, 1, false, 0x40000400, 0xFFFFFFFF, 0x0, 0x0, 0⟩,
  ⟨0x10140, 0x0, 1, 0x0, 1, false, 0x12C03E8, 0xFFFFFFFF, 0x0, 0x0, 0⟩,
  ⟨0x10144, 0x0, 1, 0x0, 1, false, 0x0, 0x0, 0x0, 0x0, 0⟩,
  ⟨0x10148, 0x0, 1, 0x0, 1, false, 0x3E8, 0xFFFF, 0x0, 0x0, 0⟩,
  ⟨0x10150, 0x0, 1, 0x0, 1, false, 0x0, 0x0, 0x0, 0x0, 0⟩,
  ⟨0x10154, 0x0, 1, 0x0, 1, false, 0x0, 0x0, 0x0, 0x0, 0⟩,
  ⟨0x10158, 0x0, 1, 0x0, 1, false, 0x0, 0x0, 0x0, 0x0, 0⟩,
  ⟨0x1015C, 0x0, 1, 0x0, 1, false, 0x0, 0x0, 0x0, 0x0, 0⟩,
  ⟨0x10160, 0x0, 1, 0x0, 1, false, 0x16400, 0xFFFFFF07, 0x0, 0x0, 0⟩,
  ⟨0x10164, 0x0, 1, 0x0, 1, true, 0x0, 0xFFFFFFFFFFFFFFFF, 0x0, 0x0, 0⟩,
  ⟨0x1016C, 0x0, 1, 0x0, 1, false, 0x0, 0xFFFFFFFF, 0x0, 0x0, 0⟩,
  ⟨0x10170, 0x0, 1, 0x0, 1, false, 0x0, 0x0, 0x0, 0x0, 0⟩,
  ⟨0x10174, 0x0, 1, 0x0, 1, false, 0x0, 0x0, 0x0, 0x0, 0⟩,
  ⟨0x10178, 0x0, 1, 0x0, 1, false, 0x0, 0x0, 0x0, 0x0, 0⟩,
  ⟨0x1017C, 0x0, 1, 0x0, 1, false, 0x0, 0x0, 0x0, 0x0, 0⟩,
  ⟨0x10180, 0x0, 1, 0x0, 1, false, 0x0, 0x0, 0x0, 0x0, 0⟩,
  ⟨0x10188, 0x0, 1, 0x0, 1, false, 0x0, 0x0, 0x0, 0x0, 0⟩]
/-- The register rows of the group Ax1. -/
def rowsAx1 : List RegRow := [
  ⟨0x100100, 0x400, 192, 0x0, 1, false, 0x8, 0xF, 0x0, 0x0, 0⟩,
  ⟨0x100104, 0x400, 192, 0x0, 1, false, 0x0, 0x0, 0x0, 0xF, 0⟩,
  ⟨0x100108, 0x400, 192, 0x0, 1, false, 0x8, 0x0, 0x0, 0x0, 0⟩,
  ⟨0x10010C, 0x400, 192, 0x0, 1, false, 0x0, 0x0, 0x7F, 0x0, 0⟩,
  ⟨0x100110, 0x400, 192, 0x0, 1, true, 0x0, 0xFFFFFFFFFFFFFFFF, 0x0, 0x0, 0⟩,
  ⟨0x100118, 0x400, 192, 0x0, 1, true, 0x0, 0xFFFFFFFFFFFFFFFF, 0x0, 0x0, 0⟩,
  ⟨0x100120, 0x400, 192, 0x0, 1, true, 0x0, 0xFFFFFFFFFFFFFFFF, 0x0, 0x0, 3⟩,
  ⟨0x100128, 0x400, 192, 0x0, 1, true, 0x0, 0xFFFFFFFFFFFFFFFF, 0x0, 0x0, 3⟩,
  ⟨0x100130, 0x400, 192, 0x0, 1, true, 0x0, 0xFFFFFFFFFFFFFFFF, 0x0, 0x0, 3⟩,
  ⟨0x100138, 0x400, 192, 0x0, 1, true, 0x0, 0xFFFFFFFFFFFFFFFF, 0x0, 0x0, 3⟩,
  ⟨0x100140, 0x400, 192, 0x0, 1, true, 0x0, 0xFFFFFFFFFFFFFFFF, 0x0, 0x0, 3⟩,
  ⟨0x100148, 0x400, 192, 0x0, 1, true, 0x0, 0xFFFFFFFFFFFFFFFF, 0x0, 0x0, 3⟩,
  ⟨0x100150, 0x400, 192, 0x0, 1, true, 0x0, 0xFFFFFFFFFFFFFFFF, 0x0, 0x0, 3⟩,
  ⟨0x100158, 0x400, 192, 0x0, 1, true, 0x0, 0xFFFFFFFFFFFFFFFF, 0x0, 0x0, 3⟩,
  ⟨0x100160, 0x400, 192, 0x0, 1, false, 0x40, 0x7F, 0x0, 0x0, 0⟩,
  ⟨0x100164, 0x400, 192, 0x0, 1, false, 0x271, 0xFFFF, 0x0, 0x0, 0⟩,
  ⟨0x100168, 0x400, 192, 0x0, 1, true, 0x0, 0x0, 0x0, 0x0, 0⟩,
  ⟨0x100170, 0x400, 192, 0x0, 1, true, 0x0, 0x0, 0x0, 0x0, 0⟩,
  ⟨0x100178, 0x400, 192, 0x0, 1, true, 0x0, 0x0, 0x0, 0x0, 0⟩,
  ⟨0x100180, 0x400, 192, 0x0, 1, true, 0x0, 0x0, 0x0, 0x0, 0⟩,
  ⟨0x100188, 0x400, 192, 0x0, 1, true, 0x0, 0x0, 0x0, 0x0, 0⟩,
  ⟨0x100190, 0x400, 192, 0x0, 1, false, 0x0, 0x0, 0x0, 0x0, 0⟩,
  ⟨0x100194, 0x400, 192, 0x0, 1, false, 0x0, 0x3F, 0x0, 0x0, 0⟩,
  ⟨0x100198, 0x400, 192, 0x0, 1, true, 0x0, 0x0, 0x0, 0x0, 0⟩,
  ⟨0x1001A0, 0x400, 192, 0x0, 1, true, 0x0, 0x0, 0x0, 0x0, 0⟩,
  ⟨0x1001A8, 0x400, 192, 0x0, 1, false, 0x0, 0x0, 0x0, 0x0, 0⟩]
/-- The register rows of the group Cy. -/
def rowsCy : List RegRow := [
  ⟨0x1000, 0x100, 32, 0x0, 1, false, 0x0, 0xFF0F1B, 0x0, 0x0, 0⟩,
  ⟨0x1004, 0x100, 32, 0x0, 1, false, 0x0, 0x0, 0x0, 0x70F, 0⟩,
  ⟨0x1008, 0x100, 32, 0x0, 1, false, 0x0, 0x0, 0x0, 0x0, 0⟩,
  ⟨0x100C, 0x100, 32, 0x0, 1, false, 0x0, 0x0, 0x7F, 0x0, 0⟩,
  ⟨0x1010, 0x100, 32, 0x0, 1, false, 0x400, 0xFFF, 0x0, 0x0, 3⟩,
  ⟨0x1018, 0x100, 32, 0x0, 1, true, 0x0, 0xFFFFFFFFFFFFFFFF, 0x0, 0x0, 3⟩,
  ⟨0x1020, 0x100, 32, 0x0, 1, true, 0x0, 0xFFFFFFFFFFFFFFFF, 0x0, 0x0, 3⟩,
  ⟨0x1028, 0x100, 32, 0x0, 1, true, 0x0, 0x0, 0x0, 0x0, 0⟩,
  ⟨0x10C0, 0x100, 32, 0x0, 1, true, 0x0, 0xFFFFFFFFFFFFFFFF, 0x0, 0x0, 3⟩,
  ⟨0x10C8, 0x100, 32, 0x0, 1, true, 0x0, 0xFFFFFFFFFFFFFFFF, 0x0, 0x0, 3⟩,
  ⟨0x10D0, 0x100, 32, 0x0, 1, true, 0x0, 0xFFFFFFFFFFFFFFFF, 0x0, 0x0, 3⟩,
  ⟨0x10D8, 0x100, 32, 0x0, 1, true, 0x0, 0xFFFFFFFFFFFFFFFF, 0x0, 0x0, 3⟩,
  ⟨0x10E0, 0x100, 32, 0x0, 1, true, 0x0, 0xFFFFFFFFFFFFFFFF, 0x0, 0x0, 3⟩,
  ⟨0x10E8, 0x100, 32, 0x0, 1, true, 0x0, 0xFFFFFFFFFFFFFFFF, 0x0, 0x0, 3⟩,
  ⟨0x1040, 0x100, 32, 0x10, 8, false, 0x0, 0x1FF, 0x0, 0x0, 0⟩,
  ⟨0x1044, 0x100, 32, 0x10, 8, false, 0x0, 0xFFFFFFFF, 0x0, 0x0, 0⟩,
  ⟨0x1048, 0x100, 32, 0x10, 8, false, 0x1, 0xFFFFFFFF, 0x0, 0x0, 0⟩,
  ⟨0x104C, 0x100, 32, 0x10, 8, false, 0x0, 0x3F, 0x0, 0x0, 0⟩]
/-- The register rows of the group Gp. -/
def rowsGp : List RegRow := [
  ⟨0x3000, 0x20, 16, 0x0, 1, false, 0x0, 0x1FFFF, 0x0, 0x0, 0⟩,
  ⟨0x3004, 0x20, 16, 0x0, 1, true, 0x0, 0xFFFFFFFFFFFFFFFF, 0x0, 0x0, 0⟩,
  ⟨0x300C, 0x20, 16, 0x0, 1, false, 0xFFFFFFFF, 0xFFFFFFFF, 0x0, 0x0, 0⟩,
  ⟨0x3010, 0x20, 16, 0x0, 1, false, 0xFFFFFFFF, 0xFFFFFFFF, 0x0, 0x0, 0⟩,
  ⟨0x3014, 0x20, 16, 0x0, 1, false, 0x0, 0xFFFFFFFF, 0x0, 0x0, 0⟩,
  ⟨0x3018, 0x20, 16, 0x0, 1, false, 0x0, 0x0, 0x0, 0x0, 0⟩,
  ⟨0x301C, 0x20, 16, 0x0, 1, false, 0x0, 0x0, 0x7, 0x0, 0⟩]
/-- The register rows of the group St. -/
def rowsSt : List RegRow := [
  ⟨0xC4000, 0x40, 16, 0x0, 1, false, 0x141402, 0xFFFFFFFF, 0x0, 0x0, 0⟩,
  ⟨0xC4004, 0x40, 16, 0x0, 1, false, 0x0, 0xF, 0x0, 0x0, 0⟩,
  ⟨0xC4008, 0x40, 16, 0x0, 1, false, 0x0, 0x0, 0x0, 0x0, 0⟩,
  ⟨0xC4010, 0x40, 16, 0x0, 1, true, 0x0, 0x0, 0x0, 0x0, 0⟩,
  ⟨0xC4018, 0x40, 16, 0x0, 1, true, 0x0, 0x0, 0x0, 0x0, 0⟩]
/-- The register rows of the group Ax0. -/
def rowsAx0 : List RegRow := [
  ⟨0x100000, 0x400, 192, 0x0, 1, false, 0x0, 0xFD, 0x0, 0x0, 0⟩,
  ⟨0x100004, 0x400, 192, 0x0, 1, false, 0x0, 0x0, 0x0, 0x0, 0⟩,
  ⟨0x100008, 0x400, 192, 0x0, 1, false, 0x0, 0x0, 0x3F, 0x0, 0⟩]
/-- The register rows of the group Ax2. -/
def rowsAx2 : List RegRow := [
  ⟨0x100200, 0x400, 192, 0x0, 1, false, 0xFFFF2300, 0xFFFF377F, 0x0, 0x0, 3⟩,
  ⟨0x100204, 0x400, 192, 0x0, 1, false, 0x0, 0x0, 0x0, 0x3, 0⟩,
  ⟨0x100208, 0x400, 192, 0x0, 1, false, 0x0, 0x0, 0x0, 0x0, 0⟩,
  ⟨0x10020C, 0x400, 192, 0x0, 1, false, 0x0, 0x0, 0x3FF, 0x0, 0⟩,
  ⟨0x100210, 0x400, 192, 0x0, 1, false, 0x0, 0x3F3F3F3F, 0x0, 0x0, 3⟩,
  ⟨0x100214, 0x400, 192, 0x0, 1, false, 0x1E1E0000, 0x3F3F3F3F, 0x0, 0x0, 3⟩,
  ⟨0x100218, 0x400, 192, 0x0, 1, false, 0x0, 0x3F3F3F3F, 0x0, 0x0, 3⟩,
  ⟨0x10021C, 0x400, 192, 0x0, 1, false, 0x0, 0x3F3F3F3F, 0x0, 0x0, 3⟩,
  ⟨0x100220, 0x400, 192, 0x0, 1, false, 0x0, 0xFFFFFFFF, 0x0, 0x0, 3⟩,
  ⟨0x100224, 0x400, 192, 0x0, 1, false, 0x0, 0xFFFFFFFF, 0x0, 0x0, 3⟩,
  ⟨0x100228, 0x400, 192, 0x0, 1, false, 0x0, 0xFFFFFFFF, 0x0, 0x0, 3⟩,
  ⟨0x10022C, 0x400, 192, 0x0, 1, false, 0x0, 0xFFFFFFFF, 0x0, 0x0, 3⟩,
  ⟨0x100230, 0x400, 192, 0x0, 1, false, 0x0, 0xFFFFFFFF, 0x0, 0x0, 3⟩,
  ⟨0x100234, 0x400, 192, 0x0, 1, false, 0x0, 0xFFFFFFFF, 0x0, 0x0, 3⟩,
  ⟨0x100238, 0x400, 192, 0x0, 1, false, 0x0, 0xFFFFFFFF, 0x0, 0x0, 3⟩,
  ⟨0x10023C, 0x400, 192, 0x0, 1, false, 0x0, 0xFFFFFFFF, 0x0, 0x0, 3⟩,
  ⟨0x100240, 0x400, 192, 0x0, 1, false, 0x0, 0xFFFFFFFF, 0x0, 0x0, 3⟩,
  ⟨0x100244, 0x400, 192, 0x0, 1, false, 0x0, 0xFFFFFFFF, 0x0, 0x0, 3⟩,
  ⟨0x100248, 0x400, 192, 0x0, 1, false, 0x0, 0xFFFFFFFF, 0x0, 0x0, 3⟩,
  ⟨0x10024C, 0x400, 192, 0x0, 1, false, 0x40000000, 0xFFFFFFFF, 0x0, 0x0, 3⟩,
  ⟨0x100250, 0x400, 192, 0x0, 1, false, 0x0, 0xFFFFFFFF, 0x0, 0x0, 3⟩,
  ⟨0x100254, 0x400, 192, 0x0, 1, false, 0x0, 0xFFFFFFFF, 0x0, 0x0, 3⟩,
  ⟨0x100258, 0x400, 192, 0x0, 1, false, 0x0, 0xFFFFFFFF, 0x0, 0x0, 3⟩,
  ⟨0x10025C, 0x400, 192, 0x0, 1, false, 0x0, 0xFFFFFFFF, 0x0, 0x0, 3⟩,
  ⟨0x100260, 0x400, 192, 0x0, 1, false, 0x40000000, 0xFFFFFFFF, 0x0, 0x0, 3⟩,
  ⟨0x100264, 0x400, 192, 0x0, 1, false, 0x0, 0xFFFFFFFF, 0x0, 0x0, 3⟩,
  ⟨0x100268, 0x400, 192, 0x0, 1, false, 0x0, 0xFFFFFFFF, 0x0, 0x0, 3⟩,
  ⟨0x10026C, 0x400, 192, 0x0, 1, false, 0x0, 0xFFFFFFFF, 0x0, 0x0, 3⟩,
  ⟨0x100270, 0x400, 192, 0x0, 1, false, 0x0, 0xFFFFFFFF, 0x0, 0x0, 3⟩,
  ⟨0x100274, 0x400, 192, 0x0, 1, false, 0x0, 0xFFFFFFFF, 0x0, 0x0, 3⟩,
  ⟨0x100278, 0x400, 192, 0x0, 1, false, 0x0, 0xFFFFFFFF, 0x0, 0x0, 3⟩,
  ⟨0x10027C, 0x400, 192, 0x0, 1, false, 0x0, 0xFFFFFFFF, 0x0, 0x0, 3⟩,
  ⟨0x100280, 0x400, 192, 0x0, 1, false, 0x0, 0xFFFFFFFF, 0x0, 0x0, 3⟩,
  ⟨0x100284, 0x400, 192, 0x0, 1, false, 0x0, 0xFFFFFFFF, 0x0, 0x0, 3⟩,
  ⟨0x100288, 0x400, 192, 0x0, 1, false, 0x0, 0xFFFFFFFF, 0x0, 0x0, 3⟩,
  ⟨0x10028C, 0x400, 192, 0x0, 1, false, 0x0, 0xFFFFFFFF, 0x0, 0x0, 3⟩,
  ⟨0x100290, 0x400, 192, 0x0, 1, false, 0x24F34E8B, 0xFFFFFFFF, 0x0, 0x0, 3⟩,
  ⟨0x100294, 0x400, 192, 0x0, 1, false, 0x0, 0xFFFFFFFF, 0x0, 0x0, 3⟩,
  ⟨0x100298, 0x400, 192, 0x0, 1, false, 0x0, 0xFFFFFFFF, 0x0, 0x0, 3⟩,
  ⟨0x10029C, 0x400, 192, 0x0, 1, false, 0x960, 0xFFFFFFFF, 0x0, 0x0, 3⟩,
  ⟨0x1002A0, 0x400, 192, 0x0, 1, false, 0x0, 0xFFFFFFFF, 0x0, 0x0, 3⟩,
  ⟨0x1002A4, 0x400, 192, 0x0, 1, false, 0x0, 0xFFFFFFFF, 0x0, 0x0, 3⟩,
  ⟨0x1002A8, 0x400, 192, 0x0, 1, false, 0x0, 0xFFFFFFFF, 0x0, 0x0, 3⟩,
  ⟨0x1002AC, 0x400, 192, 0x0, 1, false, 0x0, 0xFFFF, 0x0, 0x0, 3⟩,
  ⟨0x1002B0, 0x400, 192, 0x0, 1, false, 0x0, 0xFFFFFFFF, 0x0, 0x0, 3⟩,
  ⟨0x1002B4, 0x400, 192, 0x0, 1, false, 0x0, 0xFFFFFFFF, 0x0, 0x0, 3⟩,
  ⟨0x1002B8, 0x400, 192, 0x0, 1, false, 0xFF, 0xFFFF00FF, 0x0, 0x0, 3⟩]
/-- The register rows of the group Dv. -/
def rowsDv : List RegRow := [
  ⟨0x200000, 0x1000, 28, 0x0, 1, false, 0x0, 0x0, 0x0, 0x0, 0⟩,
  ⟨0x200004, 0x1000, 28, 0x0, 1, false, 0xFFFFFFFF, 0x0, 0x0, 0x0, 0⟩,
  ⟨0x200008, 0x1000, 28, 0x0, 1, false, 0xFFFFFFFF, 0x0, 0x0, 0x0, 0⟩,
  ⟨0x20000C, 0x1000, 28, 0x0, 1, false, 0x0, 0x0, 0x0, 0x0, 0⟩,
  ⟨0x200010, 0x1000, 28, 0x0, 1, true, 0x0, 0x0, 0x0, 0x0, 0⟩,
  ⟨0x200018, 0x1000, 28, 0x0, 1, false, 0xFFFF, 0x0, 0x0, 0x0, 0⟩,
  ⟨0x20001C, 0x1000, 28, 0x0, 1, false, 0x0, 0x0, 0x0, 0x0, 0⟩,
  ⟨0x200020, 0x1000, 28, 0x0, 1, false, 0x0, 0x0, 0x0, 0x0, 0⟩,
  ⟨0x200024, 0x1000, 28, 0x0, 1, false, 0x0, 0x0, 0x0, 0x0, 0⟩,
  ⟨0x200028, 0x1000, 28, 0x0, 1, false, 0x0, 0x0, 0x0, 0x0, 0⟩,
  ⟨0x20002C, 0x1000, 28, 0x0, 1, false, 0x0, 0x0, 0x0, 0x0, 0⟩,
  ⟨0x200030, 0x1000, 28, 0x0, 1, false, 0x0, 0xFFFF, 0x0, 0x0, 0⟩,
  ⟨0x200034, 0x1000, 28, 0x0, 1, false, 0x0, 0x0, 0x0, 0x0, 0⟩,
  ⟨0x200038, 0x1000, 28, 0x0, 1, false, 0x0, 0x0, 0x0, 0x1, 0⟩,
  ⟨0x20003C, 0x1000, 28, 0x0, 1, false, 0x0, 0x0, 0x0, 0x0, 0⟩]
/-- The register rows of the group Fb. -/
def rowsFb : List RegRow := [
  ⟨0xC0000, 0x100, 16, 0x0, 1, false, 0x0, 0xFFFC07, 0x0, 0x0, 0⟩,
  ⟨0xC0004, 0x100, 16, 0x0, 1, false, 0x80004, 0x1FFFD1FF, 0x0, 0x0, 0⟩,
  ⟨0xC0008, 0x100, 16, 0x0, 1, false, 0x1901400, 0xFFFFFFFF, 0x0, 0x0, 0⟩,
  ⟨0xC000C, 0x100, 16, 0x0, 1, false, 0x400, 0xFFFF, 0x0, 0x0, 0⟩,
  ⟨0xC0010, 0x100, 16, 0x0, 1, false, 0x10000, 0xFFFFFFFF, 0x0, 0x0, 0⟩,
  ⟨0xC0014, 0x100, 16, 0x0, 1, false, 0x0, 0xFFFFFFFF, 0x0, 0x0, 0⟩,
  ⟨0xC0018, 0x100, 16, 0x0, 1, false, 0x0, 0x0, 0x0, 0x0, 0⟩,
  ⟨0xC001C, 0x100, 16, 0x0, 1, false, 0x0, 0x0, 0x1FF, 0x0, 0⟩,
  ⟨0xC0020, 0x100, 16, 0x0, 1, false, 0x0, 0x0, 0x0, 0x0, 0⟩,
  ⟨0xC0024, 0x100, 16, 0x0, 1, false, 0x0, 0x0, 0x0, 0x1, 0⟩,
  ⟨0xC0028, 0x100, 16, 0x0, 1, true, 0x0, 0x0, 0x0, 0x0, 0⟩,
  ⟨0xC0030, 0x100, 16, 0x0, 1, true, 0x0, 0x0, 0x0, 0x0, 0⟩,
  ⟨0xC0038, 0x100, 16, 0x0, 1, true, 0x0, 0x0, 0x0, 0x0, 0⟩]
/-- The register rows of the group Ax3. -/
def rowsAx3 : List RegRow := [
  ⟨0x100300, 0x400, 192, 0x0, 1, false, 0x0, 0xF3FF73FF, 0x0, 0x0, 0⟩,
  ⟨0x100304, 0x400, 192, 0x0, 1, false, 0x100808, 0xFFFF3F, 0x0, 0x0, 0⟩,
  ⟨0x100308, 0x400, 192, 0x0, 1, false, 0x0, 0x0, 0x0, 0x0, 0⟩,
  ⟨0x10030C, 0x400, 192, 0x0, 1, false, 0x0, 0x0, 0x7FF, 0x0, 0⟩,
  ⟨0x100368, 0x400, 192, 0x0, 1, false, 0x0, 0x0, 0x0, 0x1, 0⟩,
  ⟨0x100310, 0x400, 192, 0x0, 1, true, 0x100000000, 0xFFFFFFFFFFFFFFFF, 0x0, 0x0, 0⟩,
  ⟨0x100318, 0x400, 192, 0x0, 1, true, 0x100000000, 0xFFFFFFFFFFFFFFFF, 0x0, 0x0, 0⟩,
  ⟨0x100320, 0x400, 192, 0x0, 1, true, 0x0, 0xFFFFFFFFFFFFFFFF, 0x0, 0x0, 0⟩,
  ⟨0x100328, 0x400, 192, 0x0, 1, true, 0x0, 0xFFFFFFFFFFFFFFFF, 0x0, 0x0, 0⟩,
  ⟨0x100330, 0x400, 192, 0x0, 1, true, 0x0, 0x0, 0x0, 0x0, 0⟩,
  ⟨0x100338, 0x400, 192, 0x0, 1, true, 0x0, 0x0, 0x0, 0x0, 0⟩,
  ⟨0x100340, 0x400, 192, 0x0, 1, false, 0x0, 0x0, 0x0, 0x0, 0⟩,
  ⟨0x100344, 0x400, 192, 0x0, 1, false, 0xF4240, 0xFFFFFFFF, 0x0, 0x0, 0⟩,
  ⟨0x100348, 0x400, 192, 0x0, 1, false, 0xC82002, 0x3FFFF0F, 0x0, 0x0, 0⟩,
  ⟨0x10034C, 0x400, 192, 0x0, 1, false, 0x0, 0xFFFFFFFF, 0x0, 0x0, 0⟩,
  ⟨0x100350, 0x400, 192, 0x0, 1, false, 0x10008000, 0xFFFFFFFF, 0x0, 0x0, 0⟩,
  ⟨0x100354, 0x400, 192, 0x0, 1, false, 0x0, 0xFFFFFFFF, 0x0, 0x0, 0⟩,
  ⟨0x100358, 0x400, 192, 0x0, 1, false, 0x0, 0x3F, 0x0, 0x0, 0⟩,
  ⟨0x10035C, 0x400, 192, 0x0, 1, false, 0xFFFFFFFF, 0xFFFFFFFF, 0x0, 0x0, 0⟩,
  ⟨0x100360, 0x400, 192, 0x0, 1, true, 0x0, 0xFFFFFFFFFFFFFFFF, 0x0, 0x0, 0⟩,
  ⟨0x100380, 0x400, 192, 0x0, 1, false, 0xFFFFFFFF, 0xFFFFFFFF, 0x0, 0x0, 0⟩,
  ⟨0x100384, 0x400, 192, 0x0, 1, false, 0xFFFFFFFF, 0xFFFFFFFF, 0x0, 0x0, 0⟩,
  ⟨0x100388, 0x400, 192, 0x0, 1, false, 0x804, 0xFFFF, 0x0, 0x0, 0⟩,
  ⟨0x10038C, 0x400, 192, 0x0, 1, false, 0x0, 0xFFFFFFFF, 0x0, 0x0, 0⟩,
  ⟨0x100390, 0x400, 192, 0x0, 1, false, 0x0, 0xFFFFFFFF, 0x0, 0x0, 0⟩,
  ⟨0x100394, 0x400, 192, 0x0, 1, false, 0x0, 0xFFFFFFFF, 0x0, 0x0, 0⟩,
  ⟨0x100398, 0x400, 192, 0x0, 1, false, 0x38E38E39, 0xFFFFFFFF, 0x0, 0x0, 0⟩,
  ⟨0x10039C, 0x400, 192, 0x0, 1, false, 0x0, 0x0, 0x0, 0x0, 0⟩,
  ⟨0x1003C0, 0x400, 192, 0x0, 1, false, 0x0, 0x3, 0x0, 0x0, 0⟩,
  ⟨0x1003C4, 0x400, 192, 0x0, 1, false, 0xFFFF, 0xFFFF, 0x0, 0x0, 0⟩,
  ⟨0x1003C8, 0x400, 192, 0x0, 1, false, 0x0, 0x3FF, 0x0, 0x0, 0⟩,
  ⟨0x1003CC, 0x400, 192, 0x0, 1, false, 0xC80, 0xFFFFFFFF, 0x0, 0x0, 3⟩,
  ⟨0x1003D0, 0x400, 192, 0x0, 1, false, 0x0, 0x0, 0x0, 0x1, 0⟩,
  ⟨0x1003D4, 0x400, 192, 0x0, 1, false, 0x0, 0x0, 0x0, 0x0, 0⟩]
/-- The register rows of the group Ms. -/
def rowsMs : List RegRow := [
  ⟨0xC5000, 0x40, 16, 0x0, 1, false, 0x0, 0xFF77, 0x0, 0x0, 0⟩,
  ⟨0xC5004, 0x40, 16, 0x0, 1, false, 0x64, 0x1FFFF, 0x0, 0x0, 0⟩,
  ⟨0xC5008, 0x40, 16, 0x0, 1, false, 0x0, 0xFFFFFF, 0x0, 0x0, 0⟩,
  ⟨0xC500C, 0x40, 16, 0x0, 1, false, 0x4000, 0xFFFFFFFF, 0x0, 0x0, 0⟩,
  ⟨0xC5010, 0x40, 16, 0x0, 1, false, 0x0, 0x0, 0x0, 0x0, 0⟩,
  ⟨0xC5014, 0x40, 16, 0x0, 1, false, 0x0, 0x0, 0xFF, 0x0, 0⟩,
  ⟨0xC5018, 0x40, 16, 0x0, 1, false, 0x0, 0x0, 0x0, 0x7, 0⟩,
  ⟨0xC501C, 0x40, 16, 0x0, 1, false, 0x0, 0x0, 0x0, 0x0, 0⟩,
  ⟨0xC5020, 0x40, 16, 0x0, 1, true, 0x0, 0x0, 0x0, 0x0, 0⟩,
  ⟨0xC5028, 0x40, 16, 0x0, 1, true, 0x0, 0x0, 0x0, 0x0, 0⟩,
  ⟨0xC5030, 0x40, 16, 0x0, 1, true, 0x0, 0x0, 0x0, 0x0, 0⟩]
/-- The register rows of the group Lt. -/
def rowsLt : List RegRow := [
  ⟨0xC6000, 0x40, 16, 0x0, 1, false, 0x0, 0x3FF07FF, 0x0, 0x0, 0⟩,
  ⟨0xC6004, 0x40, 16, 0x0, 1, false, 0xFFFFFFFF, 0xFFFFFFFF, 0x0, 0x0, 0⟩,
  ⟨0xC6008, 0x40, 16, 0x0, 1, false, 0xFFFFFFFF, 0xFFFFFFFF, 0x0, 0x0, 0⟩,
  ⟨0xC600C, 0x40, 16, 0x0, 1, false, 0x0, 0x0, 0x0, 0x0, 0⟩,
  ⟨0xC6010, 0x40, 16, 0x0, 1, false, 0x0, 0x0, 0x7, 0x0, 0⟩,
  ⟨0xC6014, 0x40, 16, 0x0, 1, false, 0x0, 0x0, 0x0, 0x0, 0⟩,
  ⟨0xC6018, 0x40, 16, 0x0, 1, false, 0x0, 0x0, 0x0, 0x0, 0⟩,
  ⟨0xC601C, 0x40, 16, 0x0, 1, true, 0x0, 0x0, 0x0, 0x0, 0⟩,
  ⟨0xC6024, 0x40, 16, 0x0, 1, false, 0x0, 0x0, 0x0, 0x3, 0⟩]
/-- The register rows of the group Tk. -/
def rowsTk : List RegRow := [
  ⟨0x80000, 0x400, 16, 0x0, 1, false, 0x10704, 0x7F0707, 0x0, 0x0, 0⟩,
  ⟨0x80004, 0x400, 16, 0x0, 1, false, 0x141E64, 0xFF1FFF, 0x0, 0x0, 0⟩,
  ⟨0x80008, 0x400, 16, 0x0, 1, false, 0x0, 0x0, 0x0, 0xF, 0⟩,
  ⟨0x8000C, 0x400, 16, 0x0, 1, false, 0x0, 0x0, 0x0, 0x0, 0⟩,
  ⟨0x80010, 0x400, 16, 0x0, 1, false, 0x0, 0x0, 0x3FFF, 0x0, 0⟩,
  ⟨0x80014, 0x400, 16, 0x0, 1, false, 0x0, 0x0, 0x0, 0x0, 0⟩,
  ⟨0x80018, 0x400, 16, 0x0, 1, false, 0x0, 0x0, 0x0, 0x0, 0⟩,
  ⟨0x8001C, 0x400, 16, 0x0, 1, false, 0x0, 0x0, 0x0, 0x0, 0⟩,
  ⟨0x80020, 0x400, 16, 0x0, 1, false, 0x0, 0x0, 0x0, 0x0, 0⟩,
  ⟨0x80024, 0x400, 16, 0x0, 1, false, 0x3, 0x0, 0x0, 0x0, 0⟩,
  ⟨0x80100, 0x400, 16, 0x10, 16, true, 0x0, 0x0, 0x0, 0x0, 0⟩,
  ⟨0x80108, 0x400, 16, 0x10, 16, false, 0x0, 0x0, 0x0, 0x0, 0⟩,
  ⟨0x8010C, 0x400, 16, 0x10, 16, false, 0x0, 0x0, 0x0, 0x0, 0⟩]
/-- The register rows of the group Md. -/
def rowsMd : List RegRow := [
  ⟨0xB0000, 0x20, 12, 0x0, 1, false, 0x0, 0xFFFF07FF, 0x0, 0x0, 3⟩,
  ⟨0xB0004, 0x20, 12, 0x0, 1, false, 0xC80, 0xFFFFFFFF, 0x0, 0x0, 3⟩,
  ⟨0xB0008, 0x20, 12, 0x0, 1, false, 0x0, 0xFFFFFFFF, 0x0, 0x0, 3⟩,
  ⟨0xB000C, 0x20, 12, 0x0, 1, false, 0x0, 0x0, 0x0, 0x3, 0⟩,
  ⟨0xB0010, 0x20, 12, 0x0, 1, false, 0x0, 0x0, 0x0, 0x0, 0⟩,
  ⟨0xB0014, 0x20, 12, 0x0, 1, false, 0x0, 0x0, 0x7, 0x0, 0⟩,
  ⟨0xB0018, 0x20, 12, 0x0, 1, false, 0xC80, 0x0, 0x0, 0x0, 0⟩,
  ⟨0xB0200, 0x10, 8, 0x0, 1, false, 0x0, 0x3FF, 0x0, 0x0, 0⟩,
  ⟨0xB0204, 0x10, 8, 0x0, 1, false, 0x0, 0x0, 0x0, 0x0, 0⟩,
  ⟨0xB0300, 0x0, 1, 0x0, 1, false, 0x0, 0x0, 0x0, 0x0, 0⟩,
  ⟨0xB0304, 0x0, 1, 0x0, 1, false, 0x0, 0x0, 0x0, 0xFFFF, 0⟩,
  ⟨0xB0308, 0x0, 1, 0x0, 1, false, 0x0, 0x0, 0x0, 0xFF00, 0⟩,
  ⟨0xB0340, 0x4, 16, 0x0, 1, false, 0x0, 0x0, 0x0, 0x0, 0⟩,
  ⟨0xB030C, 0x0, 1, 0x0, 1, false, 0x0, 0x0, 0x1, 0x0, 0⟩]
/-- The register rows of the group It. -/
def rowsIt : List RegRow := [
  ⟨0xD0000, 0x100, 64, 0x0, 1, false, 0x0, 0x37F, 0x0, 0x0, 0⟩,
  ⟨0xD0004, 0x100, 64, 0x0, 1, false, 0x0, 0x0, 0x0, 0xFF1F, 0⟩,
  ⟨0xD0008, 0x100, 64, 0x0, 1, false, 0x0, 0x0, 0x0, 0x0, 0⟩,
  ⟨0xD000C, 0x100, 64, 0x0, 1, false, 0x0, 0x0, 0xF, 0x0, 0⟩,
  ⟨0xD0010, 0x100, 64, 0x0, 1, false, 0x0, 0xFFFFFFFF, 0x0, 0x0, 0⟩,
  ⟨0xD0014, 0x100, 64, 0x0, 1, false, 0x0, 0x0, 0x0, 0x0, 0⟩,
  ⟨0xD0018, 0x100, 64, 0x0, 1, false, 0x0, 0x0, 0x0, 0x0, 0⟩,
  ⟨0xD001C, 0x100, 64, 0x0, 1, false, 0x0, 0x0, 0x0, 0x0, 0⟩,
  ⟨0xD0020, 0x100, 64, 0x0, 1, false, 0x0, 0x0, 0x0, 0x0, 0⟩,
  ⟨0xD0024, 0x100, 64, 0x0, 1, false, 0x0, 0x0, 0x0, 0x0, 0⟩,
  ⟨0xD0028, 0x100, 64, 0x0, 1, false, 0x0, 0x0, 0x0, 0x0, 0⟩,
  ⟨0xD0040, 0x100, 64, 0x0, 1, false, 0xFFFFFFFF, 0xFFFFFFFF, 0x0, 0x0, 0⟩,
  ⟨0xD0044, 0x100, 64, 0x0, 1, false, 0x300, 0xFFFF, 0x0, 0x0, 0⟩,
  ⟨0xD0048, 0x100, 64, 0x0, 1, true, 0x0, 0xFFFFFFFFFFFFFFFF, 0x0, 0x0, 0⟩,
  ⟨0xD0050, 0x100, 64, 0x0, 1, true, 0x0, 0xFFFFFFFFFFFFFFFF, 0x0, 0x0, 0⟩,
  ⟨0xD0058, 0x100, 64, 0x0, 1, true, 0x0, 0xFFFFFFFFFFFFFFFF, 0x0, 0x0, 0⟩,
  ⟨0xD0060, 0x100, 64, 0x0, 1, true, 0x0, 0xFFFFFFFFFFFFFFFF, 0x0, 0x0, 0⟩,
  ⟨0xD0068, 0x100, 64, 0x0, 1, true, 0x0, 0xFFFFFFFFFFFFFFFF, 0x0, 0x0, 0⟩,
  ⟨0xD0070, 0x100, 64, 0x0, 1, false, 0x0, 0xFFFFFFFF, 0x0, 0x0, 0⟩,
  ⟨0xD0078, 0x100, 64, 0x0, 1, true, 0x0, 0x0, 0x0, 0x0, 0⟩,
  ⟨0xD4000, 0x0, 1, 0x0, 1, false, 0x0, 0x0, 0x0, 0x0, 0⟩]
/-- The register rows of the group Cv. -/
def rowsCv : List RegRow := [
  ⟨0x30000, 0x0, 1, 0x0, 1, false, 0x80000190, 0x80001FFF, 0x0, 0x0, 0⟩,
  ⟨0x30004, 0x0, 1, 0x0, 1, false, 0x27103E8, 0xFFFFFFFF, 0x0, 0x0, 0⟩,
  ⟨0x30008, 0x0, 1, 0x0, 1, false, 0x199A0CCD, 0xFFFFFFFF, 0x0, 0x0, 0⟩,
  ⟨0x3000C, 0x0, 1, 0x0, 1, false, 0x2FF0000, 0xFFFFFF00, 0x0, 0x0, 0⟩,
  ⟨0x30010, 0x0, 1, 0x0, 1, false, 0x0, 0x0, 0x0, 0x71F0F, 0⟩,
  ⟨0x30014, 0x0, 1, 0x0, 1, false, 0x0, 0xFFFFFFF, 0x0, 0x0, 0⟩,
  ⟨0x30018, 0x0, 1, 0x0, 1, false, 0x1C0000, 0x0, 0x0, 0x0, 0⟩,
  ⟨0x3001C, 0x0, 1, 0x0, 1, false, 0x0, 0x0, 0x7FF, 0x0, 0⟩,
  ⟨0x30020, 0x0, 1, 0x0, 1, false, 0x0, 0x0, 0x0, 0x0, 0⟩,
  ⟨0x30024, 0x0, 1, 0x0, 1, false, 0x0, 0x0, 0x0, 0x0, 0⟩,
  ⟨0x30028, 0x0, 1, 0x0, 1, false, 0x0, 0x0, 0x0, 0x0, 0⟩,
  ⟨0x3002C, 0x0, 1, 0x0, 1, false, 0x0, 0x0, 0x0, 0x0, 0⟩,
  ⟨0x30030, 0x0, 1, 0x0, 1, false, 0x0, 0x0, 0x0, 0x0, 0⟩,
  ⟨0x30100, 0x8, 28, 0x0, 1, false, 0x0, 0x0, 0x0, 0x0, 0⟩,
  ⟨0x30104, 0x8, 28, 0x0, 1, false, 0x0, 0x0, 0x0, 0x0, 0⟩,
  ⟨0x30200, 0x8, 8, 0x0, 1, false, 0x0, 0xFFFFFFC0, 0x0, 0x0, 0⟩,
  ⟨0x30204, 0x8, 8, 0x0, 1, false, 0x0, 0x0, 0x0, 0x0, 0⟩,
  ⟨0x30400, 0x4, 192, 0x0, 1, false, 0x1F, 0x0, 0x0, 0x0, 0⟩]
/-- The register rows of the group Inj. -/
def rowsInj : List RegRow := [
  ⟨0xF000000, 0x100000, 16, 0x1000, 256, false, 0x0, 0xFFFFFFFF, 0x0, 0x0, 0⟩,
  ⟨0xF000004, 0x100000, 16, 0x1000, 256, false, 0x0, 0x0, 0x0, 0xFF, 0⟩,
  ⟨0xF000008, 0x100000, 16, 0x1000, 256, false, 0x0, 0x0, 0x0, 0x0, 0⟩]
/-- The register rows of the group Lg. -/
def rowsLg : List RegRow := [
  ⟨0x20000, 0x0, 1, 0x0, 1, false, 0x3C000E10, 0xFF00FFFF, 0x0, 0x0, 0⟩,
  ⟨0x20004, 0x0, 1, 0x0, 1, false, 0x0, 0x0, 0x0, 0x0, 0⟩,
  ⟨0x20008, 0x0, 1, 0x0, 1, false, 0x0, 0x0, 0xFF, 0x0, 0⟩,
  ⟨0x2000C, 0x0, 1, 0x0, 1, false, 0x0, 0x0, 0x0, 0xFF0F, 0⟩,
  ⟨0x20010, 0x0, 1, 0x0, 1, false, 0x2FA0000, 0xFFFE0000, 0x0, 0x0, 0⟩,
  ⟨0x20014, 0x0, 1, 0x0, 1, false, 0x0, 0x0, 0x0, 0x0, 0⟩,
  ⟨0x20018, 0x0, 1, 0x0, 1, false, 0x0, 0x0, 0x0, 0x0, 0⟩,
  ⟨0x2001C, 0x0, 1, 0x0, 1, false, 0x0, 0x0, 0x0, 0x0, 0⟩,
  ⟨0x20020, 0x0, 1, 0x0, 1, false, 0x0, 0x0, 0x0, 0x0, 0⟩,
  ⟨0x20024, 0x0, 1, 0x0, 1, false, 0x2FC0000, 0xFFFF0000, 0x0, 0x0, 0⟩,
  ⟨0x20028, 0x0, 1, 0x0, 1, false, 0x0, 0xFFF, 0x0, 0x0, 0⟩,
  ⟨0x2002C, 0x0, 1, 0x0, 1, false, 0x0, 0x0, 0x0, 0x0, 0⟩,
  ⟨0x20030, 0x0, 1, 0x0, 1, false, 0x0, 0x0, 0x0, 0x0, 0⟩,
  ⟨0x20034, 0x0, 1, 0x0, 1, false, 0x0, 0x0, 0x0, 0x0, 0⟩,
  ⟨0x20038, 0x0, 1, 0x0, 1, false, 0x0, 0x0, 0x0, 0x0, 0⟩,
  ⟨0x2003C, 0x0, 1, 0x0, 1, false, 0x0, 0x0, 0x0, 0xFFFFFFFF, 0⟩,
  ⟨0x20040, 0x4, 6, 0x0, 1, false, 0x0, 0x0, 0x0, 0x0, 0⟩,
  ⟨0x20060, 0x0, 1, 0x0, 1, true, 0x0, 0x0, 0x0, 0x0, 0⟩,
  ⟨0x20068, 0x0, 1, 0x0, 1, false, 0x0, 0x0, 0x0, 0x0, 0⟩]
/-- The register rows of the group Mem. -/
def rowsMem : List RegRow := [
  ⟨0x5000, 0x0, 1, 0x0, 1, false, 0x10418, 0x1FFFF, 0x0, 0x0, 0⟩,
  ⟨0x5004, 0x0, 1, 0x0, 1, false, 0x0, 0x0, 0x0, 0x0, 0⟩,
  ⟨0x5008, 0x0, 1, 0x0, 1, false, 0x0, 0x0, 0x7F, 0x0, 0⟩,
  ⟨0x500C, 0x0, 1, 0x0, 1, false, 0x0, 0x0, 0x0, 0xF, 0⟩,
  ⟨0x5010, 0x0, 1, 0x0, 1, false, 0x0, 0xFFFFF000, 0x0, 0x0, 0⟩,
  ⟨0x5014, 0x0, 1, 0x0, 1, false, 0x0, 0x0, 0x0, 0x0, 0⟩,
  ⟨0x5018, 0x0, 1, 0x0, 1, false, 0x0, 0x0, 0x0, 0x0, 0⟩,
  ⟨0x5020, 0x0, 1, 0x0, 1, false, 0x0, 0x0, 0x0, 0x0, 0⟩,
  ⟨0x5024, 0x0, 1, 0x0, 1, false, 0x0, 0x0, 0x0, 0x0, 0⟩,
  ⟨0x5040, 0x4, 16, 0x0, 1, false, 0x10, 0x0, 0x0, 0x0, 0⟩,
  ⟨0x5080, 0x4, 28, 0x0, 1, false, 0x0, 0x0, 0x0, 0x0, 0⟩]
/-- The register rows of the group Tg. -/
def rowsTg : List RegRow := [
  ⟨0x90000, 0x0, 1, 0x0, 1, false, 0x0, 0x0, 0x0, 0x0, 0⟩,
  ⟨0x90004, 0x0, 1, 0x0, 1, false, 0x0, 0x0, 0x3F, 0x0, 0⟩,
  ⟨0x90008, 0x0, 1, 0x0, 1, false, 0x0, 0x0, 0x0, 0xFF0F, 0⟩,
  ⟨0x9000C, 0x0, 1, 0x0, 1, false, 0x0, 0x0, 0x0, 0x0, 0⟩,
  ⟨0x90010, 0x0, 1, 0x0, 1, false, 0x0, 0xFFFFFFFF, 0x0, 0x0, 0⟩,
  ⟨0x90014, 0x0, 1, 0x0, 1, false, 0xA146414, 0xFFFFFFFF, 0x0, 0x0, 1⟩,
  ⟨0x90018, 0x0, 1, 0x0, 1, false, 0xA8, 0xFFFF, 0x0, 0x0, 1⟩,
  ⟨0x90100, 0x10, 8, 0x0, 1, false, 0x321EFF, 0x81FFFFFF, 0x0, 0x0, 1⟩,
  ⟨0x90104, 0x10, 8, 0x0, 1, false, 0x0, 0x0, 0x0, 0x0, 0⟩,
  ⟨0x90108, 0x10, 8, 0x0, 1, false, 0x0, 0x0, 0x0, 0x0, 0⟩,
  ⟨0x90200, 0x10, 4, 0x0, 1, false, 0x2, 0x3, 0x0, 0x0, 1⟩,
  ⟨0x90204, 0x10, 4, 0x0, 1, false, 0x0, 0x0, 0x0, 0x0, 0⟩,
  ⟨0x90208, 0x10, 4, 0x0, 1, false, 0x0, 0x0, 0x0, 0x0, 0⟩,
  ⟨0x90300, 0x0, 1, 0x0, 1, false, 0xFFFF, 0x0, 0x0, 0x0, 0⟩,
  ⟨0x90304, 0x0, 1, 0x0, 1, false, 0x0, 0x0, 0x0, 0x0, 0⟩,
  ⟨0x90340, 0x4, 16, 0x0, 1, false, 0x0, 0x0, 0x0, 0x0, 0⟩,
  ⟨0x90400, 0x40, 8, 0x0, 1, false, 0x0, 0xFFFFFF, 0x0, 0x0, 1⟩,
  ⟨0x90404, 0x40, 8, 0x0, 1, false, 0x0, 0xFFFFF, 0x0, 0x0, 1⟩,
  ⟨0x90408, 0x40, 8, 0x0, 1, false, 0xFF3C421A, 0xFFFFCFFF, 0x0, 0x0, 1⟩,
  ⟨0x9040C, 0x40, 8, 0x0, 1, false, 0x1F40064, 0xFFFFFFFF, 0x0, 0x0, 1⟩,
  ⟨0x90410, 0x40, 8, 0x4, 6, false, 0x0, 0xFFFFFFFF, 0x0, 0x0, 1⟩,
  ⟨0x90428, 0x40, 8, 0x0, 1, false, 0x0, 0x0, 0x0, 0x0, 0⟩,
  ⟨0x9042C, 0x40, 8, 0x0, 1, false, 0x0, 0x0, 0x0, 0x0, 0⟩,
  ⟨0x90800, 0x4, 192, 0x0, 1, false, 0x0, 0xFFFFFFFF, 0x0, 0x0, 1⟩]
/-- The register rows of the group Fio. -/
def rowsFio : List RegRow := [
  ⟨0x91000, 0x0, 1, 0x0, 1, false, 0x64, 0x3FFF, 0x0, 0x0, 0⟩,
  ⟨0x91004, 0x0, 1, 0x0, 1, false, 0x0, 0x0, 0x0, 0x0, 0⟩,
  ⟨0x91008, 0x0, 1, 0x0, 1, false, 0x0, 0x0, 0x7F, 0x0, 0⟩,
  ⟨0x9100C, 0x0, 1, 0x0, 1, false, 0x0, 0x0, 0x0, 0xF, 0⟩,
  ⟨0x91010, 0x0, 1, 0x0, 1, false, 0x0, 0x0, 0x0, 0x0, 0⟩,
  ⟨0x91014, 0x0, 1, 0x0, 1, false, 0x0, 0x0, 0x0, 0x0, 0⟩,
  ⟨0x91018, 0x0, 1, 0x0, 1, false, 0x0, 0x0, 0x0, 0x0, 0⟩,
  ⟨0x9101C, 0x0, 1, 0x0, 1, false, 0x0, 0x0, 0x0, 0x0, 0⟩,
  ⟨0x91020, 0x0, 1, 0x0, 1, false, 0x0, 0x0, 0x0, 0x0, 0⟩,
  ⟨0x91024, 0x0, 1, 0x0, 1, false, 0x0, 0x0, 0x0, 0x0, 0⟩,
  ⟨0x91028, 0x0, 1, 0x0, 1, false, 0x0, 0x0, 0x0, 0xFFFFFFFF, 0⟩,
  ⟨0x9102C, 0x0, 1, 0x0, 1, false, 0x0, 0x0, 0x0, 0xFF, 0⟩,
  ⟨0x91030, 0x0, 1, 0x0, 1, false, 0x0, 0x0, 0x0, 0xFFFFFFFF, 0⟩,
  ⟨0x91034, 0x0, 1, 0x0, 1, false, 0x0, 0x0, 0x0, 0xFF, 0⟩,
  ⟨0x91040, 0x4, 5, 0x0, 1, false, 0x0, 0x0, 0x0, 0x0, 0⟩,
  ⟨0x91100, 0x10, 40, 0x0, 1, false, 0x640000, 0xFFF031B, 0x0, 0x0, 0⟩,
  ⟨0x91104, 0x10, 40, 0x0, 1, false, 0x0, 0x0, 0x0, 0x0, 0⟩,
  ⟨0x91108, 0x10, 40, 0x0, 1, false, 0x0, 0x0, 0x0, 0x0, 0⟩,
  ⟨0x9110C, 0x10, 40, 0x0, 1, false, 0x0, 0x0, 0x0, 0x0, 0⟩]
/-- The register rows of the group Rc. -/
def rowsRc : List RegRow := [
  ⟨0xA0000, 0x0, 1, 0x0, 1, false, 0x0, 0x1F, 0x0, 0x0, 2⟩,
  ⟨0xA0004, 0x0, 1, 0x0, 1, false, 0x0, 0x0, 0x0, 0x0, 0⟩,
  ⟨0xA0008, 0x0, 1, 0x0, 1, false, 0x0, 0x0, 0x7, 0x0, 0⟩,
  ⟨0xA000C, 0x0, 1, 0x0, 1, false, 0x0, 0x0, 0x0, 0x7, 0⟩,
  ⟨0xA0010, 0x0, 1, 0x0, 1, false, 0x1000000, 0xFFFFF000, 0x0, 0x0, 2⟩,
  ⟨0xA0014, 0x0, 1, 0x0, 1, false, 0x0, 0xFFFFFFFF, 0x0, 0x0, 2⟩,
  ⟨0xA0018, 0x0, 1, 0x0, 1, false, 0x0, 0xFFFFFFFF, 0x0, 0x0, 2⟩,
  ⟨0xA001C, 0x0, 1, 0x0, 1, false, 0x0, 0xFFFFFFFF, 0x0, 0x0, 2⟩,
  ⟨0xA0020, 0x0, 1, 0x0, 1, false, 0x0, 0x0, 0x0, 0x0, 0⟩,
  ⟨0xA0024, 0x0, 1, 0x0, 1, false, 0x0, 0x0, 0x0, 0x0, 0⟩,
  ⟨0xA0028, 0x0, 1, 0x0, 1, false, 0x0, 0x0, 0x0, 0x0, 0⟩,
  ⟨0xA0100, 0x8, 64, 0x0, 1, false, 0x0, 0xFFFFDF, 0x0, 0x0, 2⟩,
  ⟨0xA0104, 0x8, 64, 0x0, 1, false, 0x0, 0xFFFFFFFF, 0x0, 0x0, 2⟩,
  ⟨0xA0400, 0x40, 4, 0x0, 1, false, 0x20, 0xFF37, 0x0, 0x0, 2⟩,
  ⟨0xA0404, 0x40, 4, 0x0, 1, false, 0x0, 0xFFFFFFFF, 0x0, 0x0, 2⟩,
  ⟨0xA0408, 0x40, 4, 0x0, 1, false, 0x0, 0xFFFFFFFF, 0x0, 0x0, 2⟩,
  ⟨0xA040C, 0x40, 4, 0x0, 1, false, 0x0, 0xFFFFFFFF, 0x0, 0x0, 2⟩,
  ⟨0xA0410, 0x40, 4, 0x0, 1, false, 0xFFFFFFFF, 0xFFFFFFFF, 0x0, 0x0, 2⟩,
  ⟨0xA0414, 0x40, 4, 0x0, 1, true, 0x0, 0xFFFFFFFFFFFFFFFF, 0x0, 0x0, 2⟩,
  ⟨0xA041C, 0x40, 4, 0x0, 1, true, 0x0, 0xFFFFFFFFFFFFFFFF, 0x0, 0x0, 2⟩,
  ⟨0xA0500, 0x0, 1, 0x0, 1, false, 0x44, 0xFFFFFFF7, 0x0, 0x0, 2⟩,
  ⟨0xA0600, 0x10, 8, 0x0, 1, false, 0xFF, 0x1FF, 0x0, 0x0, 2⟩,
  ⟨0xA0604, 0x10, 8, 0x0, 1, false, 0x0, 0xFFFFFFFF, 0x0, 0x0, 2⟩,
  ⟨0xA0608, 0x10, 8, 0x0, 1, false, 0x0, 0xFFFFFFFF, 0x0, 0x0, 2⟩,
  ⟨0xA060C, 0x10, 8, 0x0, 1, false, 0x0, 0xFFFFFFFF, 0x0, 0x0, 2⟩]
/-- The register rows of the group En. -/
def rowsEn : List RegRow := [
  ⟨0x50000, 0x40, 2, 0x0, 1, false, 0x1, 0x1F01, 0x0, 0x0, 0⟩,
  ⟨0x50004, 0x40, 2, 0x0, 1, false, 0x0, 0x0, 0x0, 0x0, 0⟩,
  ⟨0x50008, 0x40, 2, 0x0, 1, false, 0x0, 0xFFFFFFFF, 0x0, 0x0, 0⟩,
  ⟨0x5000C, 0x40, 2, 0x0, 1, false, 0x0, 0x0, 0x0, 0x0, 0⟩,
  ⟨0x50010, 0x40, 2, 0x0, 1, false, 0x0, 0x0, 0x0, 0x0, 0⟩,
  ⟨0x50014, 0x40, 2, 0x0, 1, false, 0x0, 0x0, 0x0, 0x0, 0⟩,
  ⟨0x50018, 0x40, 2, 0x0, 1, false, 0x0, 0x0, 0x0, 0x0, 0⟩,
  ⟨0x50100, 0x0, 1, 0x0, 1, false, 0x88B50000, 0xFFFF7F01, 0x0, 0x0, 0⟩,
  ⟨0x50104, 0x0, 1, 0x0, 1, false, 0x0, 0xFFFFFFFF, 0x0, 0x0, 0⟩,
  ⟨0x50108, 0x0, 1, 0x0, 1, false, 0x0, 0xFFFF, 0x0, 0x0, 0⟩,
  ⟨0x5010C, 0x0, 1, 0x0, 1, false, 0x1FDFFFF, 0xFFFFFFFF, 0x0, 0x0, 0⟩,
  ⟨0x50110, 0x0, 1, 0x0, 1, true, 0x0, 0x0, 0x0, 0x0, 0⟩,
  ⟨0x50118, 0x0, 1, 0x0, 1, false, 0x0, 0x0, 0x0, 0x0, 0⟩,
  ⟨0x5011C, 0x0, 1, 0x0, 1, false, 0x12C, 0xFFFF, 0x0, 0x0, 0⟩]
/-- The register rows of the group Qu. -/
def rowsQu : List RegRow := [
  ⟨0x40000, 0x40, 16, 0x0, 1, false, 0x0, 0xFFFFF000, 0x0, 0x0, 0⟩,
  ⟨0x40004, 0x40, 16, 0x0, 1, false, 0x0, 0xFFFF000F, 0x0, 0x0, 0⟩,
  ⟨0x40008, 0x40, 16, 0x0, 1, false, 0x0, 0x0, 0x0, 0x0, 0⟩,
  ⟨0x4000C, 0x40, 16, 0x0, 1, false, 0x0, 0x0, 0x0, 0x0, 0⟩,
  ⟨0x40010, 0x40, 16, 0x0, 1, false, 0x0, 0x0, 0x0, 0x0, 0⟩,
  ⟨0x40014, 0x40, 16, 0x0, 1, false, 0x0, 0x0, 0x0, 0x0, 0⟩,
  ⟨0x40018, 0x40, 16, 0x0, 1, false, 0x0, 0x0, 0x0, 0x0, 0⟩,
  ⟨0x4001C, 0x40, 16, 0x0, 1, false, 0x0, 0x0, 0x3, 0x0, 0⟩,
  ⟨0x40800, 0x0, 1, 0x0, 1, false, 0xA0003, 0xFFFF0003, 0x0, 0x0, 0⟩,
  ⟨0x40804, 0x0, 1, 0x0, 1, false, 0x0, 0x0, 0x0, 0x0, 0⟩,
  ⟨0x40808, 0x0, 1, 0x0, 1, false, 0x0, 0x0, 0x7, 0x0, 0⟩,
  ⟨0x4080C, 0x0, 1, 0x0, 1, false, 0x0, 0x0, 0x0, 0xFF, 0⟩,
  ⟨0x40810, 0x0, 1, 0x0, 1, false, 0x0, 0x0, 0x0, 0x0, 0⟩,
  ⟨0x40820, 0x8, 4, 0x0, 1, false, 0x0, 0x0, 0x0, 0x0, 0⟩,
  ⟨0x40824, 0x8, 4, 0x0, 1, false, 0x0, 0x0, 0x0, 0x0, 0⟩]
/-- The register rows of the group Cf. -/
def rowsCf : List RegRow := [
  ⟨0x60000, 0x800, 2, 0x0, 1, false, 0x72, 0x7B, 0x0, 0x0, 0⟩,
  ⟨0x60004, 0x800, 2, 0x0, 1, false, 0x1E3CF800, 0xFFFFFC1F, 0x0, 0x0, 0⟩,
  ⟨0x60008, 0x800, 2, 0x0, 1, false, 0x440D0000, 0xFF1F001F, 0x0, 0x0, 0⟩,
  ⟨0x6000C, 0x800, 2, 0x0, 1, false, 0x10F00, 0x17F00, 0x0, 0x0, 0⟩,
  ⟨0x60010, 0x800, 2, 0x0, 1, false, 0x80, 0xBFFFFFFF, 0x0, 0x0, 0⟩,
  ⟨0x60014, 0x800, 2, 0x0, 1, false, 0x3E8, 0xFFFFF, 0x0, 0x0, 0⟩,
  ⟨0x60018, 0x800, 2, 0x0, 1, false, 0x0, 0x0, 0x0, 0xF, 0⟩,
  ⟨0x6001C, 0x800, 2, 0x0, 1, false, 0x0, 0x0, 0x0, 0x0, 0⟩,
  ⟨0x60020, 0x800, 2, 0x0, 1, false, 0x0, 0x0, 0xFF, 0x0, 0⟩,
  ⟨0x60024, 0x800, 2, 0x0, 1, false, 0x0, 0x0, 0x0, 0x0, 0⟩,
  ⟨0x60028, 0x800, 2, 0x0, 1, false, 0x0, 0x0, 0x0, 0x0, 0⟩,
  ⟨0x6002C, 0x800, 2, 0x0, 1, false, 0x0, 0x0, 0x0, 0x0, 0⟩,
  ⟨0x60030, 0x800, 2, 0x0, 1, false, 0x0, 0x0, 0x0, 0x0, 0⟩,
  ⟨0x60034, 0x800, 2, 0x0, 1, false, 0x0, 0x0, 0x0, 0x0, 0⟩,
  ⟨0x60038, 0x800, 2, 0x0, 1, false, 0x0, 0x0, 0x0, 0x0, 0⟩,
  ⟨0x6003C, 0x800, 2, 0x0, 1, false, 0x0, 0x0, 0x0, 0x0, 0⟩,
  ⟨0x60040, 0x800, 2, 0x0, 1, true, 0x0, 0x0, 0x0, 0x0, 0⟩,
  ⟨0x60400, 0x800, 2, 0x10, 32, false, 0x0, 0xBFFFFFFF, 0x0, 0x0, 0⟩,
  ⟨0x60404, 0x800, 2, 0x10, 32, false, 0x0, 0x1FFFFFFF, 0x0, 0x0, 0⟩,
  ⟨0x60408, 0x800, 2, 0x10, 32, false, 0x0, 0x3F03, 0x0, 0x0, 0⟩,
  ⟨0x6040C, 0x800, 2, 0x10, 32, false, 0x0, 0x0, 0x0, 0x0, 0⟩]
/-- The register rows of the group Td. -/
def rowsTd : List RegRow := [
  ⟨0x4000000, 0x10, 290, 0x0, 1, false, 0x0, 0x0, 0x0, 0x0, 0⟩,
  ⟨0x4000004, 0x10, 290, 0x0, 1, false, 0x0, 0x0, 0x0, 0x0, 0⟩,
  ⟨0x4000008, 0x10, 290, 0x0, 1, false, 0x0, 0x0, 0x0, 0x0, 0⟩,
  ⟨0x400000C, 0x10, 290, 0x0, 1, false, 0x0, 0x0, 0x0, 0x0, 0⟩]
/-- The register rows of the group Xs. -/
def rowsXs : List RegRow := [
  ⟨0x70000, 0x100, 2, 0x0, 1, false, 0x80829, 0x1FFF3F, 0x0, 0x0, 0⟩,
  ⟨0x70004, 0x100, 2, 0x0, 1, false, 0xC, 0xFFFF, 0x0, 0x0, 0⟩,
  ⟨0x70008, 0x100, 2, 0x0, 1, false, 0x506DC12, 0xFFFFFFFF, 0x0, 0x0, 0⟩,
  ⟨0x7000C, 0x100, 2, 0x0, 1, false, 0x47A75, 0xFFFFFF, 0x0, 0x0, 0⟩,
  ⟨0x70010, 0x100, 2, 0x0, 1, false, 0x0, 0x0, 0x0, 0x0, 0⟩,
  ⟨0x70014, 0x100, 2, 0x0, 1, false, 0x0, 0x0, 0x1F, 0x0, 0⟩,
  ⟨0x70018, 0x100, 2, 0x0, 1, false, 0x0, 0x0, 0x0, 0x0, 0⟩,
  ⟨0x7001C, 0x100, 2, 0x0, 1, false, 0x0, 0x0, 0x0, 0x0, 0⟩,
  ⟨0x70200, 0x0, 1, 0x0, 1, false, 0x0, 0x0, 0x0, 0x0, 0⟩,
  ⟨0x70204, 0x0, 1, 0x0, 1, false, 0x0, 0x0, 0x0, 0x0, 0⟩,
  ⟨0x70208, 0x0, 1, 0x0, 1, false, 0x0, 0x0, 0x0, 0x0, 0⟩,
  ⟨0x7020C, 0x0, 1, 0x0, 1, false, 0xFFFFFFFF, 0x0, 0x0, 0x0, 0⟩,
  ⟨0x70210, 0x0, 1, 0x0, 1, false, 0x1, 0x0, 0x0, 0x0, 0⟩,
  ⟨0x70214, 0x0, 1, 0x0, 1, false, 0x0, 0x0, 0x0, 0xFFFF0001, 0⟩,
  ⟨0x70218, 0x0, 1, 0x0, 1, false, 0x0, 0x0, 0x0, 0x10F, 0⟩,
  ⟨0x7021C, 0x0, 1, 0x0, 1, false, 0x0, 0x0, 0x0, 0x0, 0⟩,
  ⟨0x70220, 0x0, 1, 0x0, 1, false, 0x0, 0xFFFFFFFF, 0x0, 0x0, 0⟩,
  ⟨0x70224, 0x0, 1, 0x0, 1, false, 0x0, 0x1FF, 0x0, 0x0, 0⟩,
  ⟨0x70228, 0x0, 1, 0x0, 1, false, 0x0, 0xFFFFFFFF, 0x0, 0x0, 0⟩,
  ⟨0x7022C, 0x0, 1, 0x0, 1, false, 0x0, 0xFFFFFFFF, 0x0, 0x0, 0⟩,
  ⟨0x70300, 0x0, 1, 0x0, 1, false, 0x0, 0x0, 0x0, 0x0, 0⟩,
  ⟨0x70304, 0x0, 1, 0x0, 1, false, 0x0, 0x0, 0x0, 0x3F, 0⟩,
  ⟨0x70320, 0x4, 8, 0x0, 1, false, 0x0, 0x0, 0x0, 0xFFFFFFFF, 0⟩]
/-- The register rows of the group Gl. -/
def rowsGl : List RegRow := [
  ⟨0x0, 0x0, 1, 0x0, 1, false, 0xC1920101, 0x0, 0x0, 0x0, 0⟩,
  ⟨0x4, 0x0, 1, 0x0, 1, true, 0x0, 0x0, 0x0, 0x0, 0⟩,
  ⟨0xC, 0x0, 1, 0x0, 1, false, 0x0, 0x0, 0x0, 0x0, 0⟩,
  ⟨0x10, 0x0, 1, 0x0, 1, false, 0x0, 0xF, 0x0, 0x0, 0⟩,
  ⟨0x14, 0x0, 1, 0x0, 1, false, 0x0, 0x0, 0x0, 0x0, 0⟩,
  ⟨0x18, 0x0, 1, 0x0, 1, false, 0x0, 0x0, 0x0, 0x0, 0⟩,
  ⟨0x1C, 0x0, 1, 0x0, 1, false, 0x0, 0x0, 0xF, 0x0, 0⟩]

/-- The rows among which the register at address `a` is found (the blocks of R9, the axis ranges of R11). -/
def regRows (a : Nat) : List RegRow :=
  if a < 0x10000 then
    if a < 0x1000 then rowsGl else if a < 0x3000 then rowsCy else if a < 0x5000 then rowsGp else rowsMem
  else if a < 0x20000 then rowsTb
  else if a < 0x30000 then rowsLg
  else if a < 0x40000 then rowsCv
  else if a < 0x50000 then rowsQu
  else if a < 0x60000 then rowsEn
  else if a < 0x70000 then rowsCf
  else if a < 0x80000 then rowsXs
  else if a < 0x90000 then rowsTk
  else if a < 0x91000 then rowsTg
  else if a < 0xA0000 then rowsFio
  else if a < 0xB0000 then rowsRc
  else if a < 0xC0000 then rowsMd
  else if a < 0xC4000 then rowsFb
  else if a < 0xC5000 then rowsSt
  else if a < 0xC6000 then rowsMs
  else if a < 0xD0000 then rowsLt
  else if a < 0x100000 then rowsIt
  else if a < 0x200000 then
    match (a - 0x100000) % 0x400 / 0x100 with
    | 0 => rowsAx0
    | 1 => rowsAx1
    | 2 => rowsAx2
    | _ => rowsAx3
  else if a < 0x1000000 then rowsDv
  else if a < 0x8000000 then rowsTd
  else []

/-- Does the row hold the word at address `a`? -/
def RegRow.covers (r : RegRow) (a : Nat) : Bool :=
  if a < r.base then false
  else
    let o := a - r.base
    let i := if r.s1 = 0 then 0 else o / r.s1
    let o1 := if r.s1 = 0 then o else o % r.s1
    let j := if r.s2 = 0 then 0 else o1 / r.s2
    let o2 := if r.s2 = 0 then o1 else o1 % r.s2
    decide (i < r.n1) && decide (j < r.n2) && (decide (o2 = 0) || (r.pair && decide (o2 = 4)))

/-- Is the word at `a` the upper half of the row's pair? -/
def RegRow.isHi (r : RegRow) (a : Nat) : Bool :=
  let o := a - r.base
  let o1 := if r.s1 = 0 then o else o % r.s1
  let o2 := if r.s2 = 0 then o1 else o1 % r.s2
  decide (o2 = 4)

/-- The row of the register at `a`, if `a` is assigned. -/
def regRow (a : Nat) : Option RegRow := (regRows a).find? (fun r => r.covers a)

/-- The half of a 64-bit mask or value that belongs to the word at `a`. -/
def RegRow.half (r : RegRow) (a : Nat) (m : Nat) : BitVec 32 :=
  if r.isHi a then BitVec.ofNat 32 (m / 2 ^ 32) else BitVec.ofNat 32 m

/-- R492: the reset layout of queue `q`: ring address, LOG2 of the entries, slot bytes. -/
def queueReset (q : Nat) : Nat × Nat × Nat :=
  match q with
  | 0 => (0x02E00000, 6, 32)
  | 1 => (0x02E01000, 8, 1344)
  | 2 => (0x02E57000, 8, 1472)
  | 3 => (0x02EB5000, 6, 1472)
  | 4 => (0x02ECD000, 7, 1472)
  | 5 => (0x02EFC000, 10, 0)
  | 6 => (0x02F04000, 4, 448)
  | 7 => (0x02F06000, 8, 32)
  | 8 => (0x02F0A000, 4, 24)
  | 9 => (0x02F0B000, 6, 72)
  | 10 => (0x02F0D000, 6, 72)
  | 11 => (0x02F0F000, 8, 80)
  | 12 => (0x02F16000, 8, 80)
  | 13 => (0x02F1D000, 6, 1032)
  | 14 => (0x02F2E000, 8, 80)
  | _ => (0x02F35000, 8, 0)

/-- The word a register holds after reset, by its address: the reset column of the register tables; QU_BASE and QU_CFG
by R492; PHY_ADDR of EN_P_CTRL is the port's number (R476); image
entry 0 stands at 0x02F4_0000 (R348). -/
def resetWord (a : Nat) : BitVec 32 :=
  if 0x40000 ≤ a ∧ a < 0x40400 ∧ a % 0x40 = 0 then BitVec.ofNat 32 (queueReset ((a - 0x40000) / 0x40)).1
  else if 0x40000 ≤ a ∧ a < 0x40400 ∧ a % 0x40 = 4 then
    let r := queueReset ((a - 0x40000) / 0x40)
    BitVec.ofNat 32 (r.2.2 * 0x10000 + r.2.1)
  else if a = 0x50040 then 0x101
  else if a = 0x30200 then 0x02F40000
  else
    match regRow a with
    | some r => r.half a r.reset
    | none => 0

end Sys2Proof.Machine
end

