-- ==== Sys2Proof/Machine/State.lean ====
section
/-! DEFINITION. The machine's state as plain data.  Registers that software reads stand in `Device.regs` by their
address (R9), each with the reset value of its table (`resetWord`); everything else the spec gives a unit stands in a
structure of its own.  Waiting commands stand in `State.pending`. -/

namespace Sys2Proof.Machine

/-- Why a step stops with a fault.  Nobody raises one: the spec lets every command end in an effect, a refusal by the
unit's own refusal code, or no effect (R5).  Safe: the constructor only makes the type closed and inhabited. -/
inductive Fault where
  /-- Raised by nobody. -/
  | unused
  deriving DecidableEq, Repr

/-- Why a step refuses a command. -/
inductive Refusal where
  /-- Raised by an arm of `exec` whose command has no meaning yet; safe (the model stops where the hardware goes on). -/
  | notModelled (mnemonic : String)
  deriving DecidableEq, Repr

/-- A sparse map in canonical form: keys strictly rising, no entry equal to what an unlisted key reads as. -/
abbrev Store (α : Type) := List (Nat × α)

/-- The beat scheduler's time (R3, R14–R16): the beat count, the tick within the beat, the settings in force and the
length of the present beat, which alignment may shorten (R28), whether its latch phase and its dispatch deadline have
been, and the lengths of the beats that have ended as runs (length, number of beats), the latest first.  `now` counts
ticks of the time base since reset. -/
structure Clock where
  running : Bool := false
  beat : Nat := 0
  tick : Nat := 0
  len : Nat := 1600
  latch : Nat := 800
  deadline : Nat := 1550
  curLen : Nat := 1600
  latched : Bool := false
  closed : Bool := false
  past : List (Nat × Nat) := []
  now : Nat := 0
  deriving DecidableEq, Repr

/-- The holding registers of one access path (R7) and, for a Time112 group (R475), the captured nanoseconds and fraction
by their offset in the group; the upper half of its seconds stands in `rd`, as for every pair. -/
structure Hold where
  rd : BitVec 32 := 0
  wr : BitVec 32 := 0
  group : List (Nat × BitVec 32) := []
  deriving DecidableEq, Repr

/-- A ledger message that waits to be taken (R351, R352).  `repeats` counts the merged repeats, `at_` is when it was sent. -/
structure LMsg where
  cls : Nat
  inst : Nat
  kind : Nat
  detail : BitVec 32
  injected : Bool
  runcnt : Bool
  merged : Bool := false
  repeats : Nat := 0
  at_ : Nat := 0
  deriving DecidableEq, Repr

/-- What the ledger keeps of one source (R362–R365, R368): its messages, in service (0), fenced (1) or retired (2), its
recoveries and the injected ones, the KIND of its latest message, the end of its quiet period, whether its fence was
injected, and when the recovery window began. -/
structure LSource where
  count : BitVec 32 := 0
  state : Nat := 0
  recov : Nat := 0
  injRecov : Nat := 0
  lastKind : Nat := 0
  quietEnd : Nat := 0
  fenceInj : Bool := false
  winStart : Nat := 0
  deriving DecidableEq, Repr

/-- The ledger's run of one source and kind (R361): the run count, the occurrence count of the previous message and
when that message was taken. -/
structure LRun where
  run : Nat := 0
  prev : Nat := 0
  last : Nat := 0
  deriving DecidableEq, Repr

/-- The ledger's hidden state: waiting messages, its sources and runs, and the Q7 gap (R367). -/
structure Ledger where
  waiting : List LMsg := []
  sources : Store LSource := []
  runs : Store LRun := []
  q7gap : Bool := false
  deriving DecidableEq, Repr

/-- The keyed test space (R369, R370): the number of the free value that LG_KEY_NONCE reads as, the path and beat of its
latest read, TEST_LOCK of the manifest, and the time of the latest injection write. -/
structure TestSpace where
  nonce : Nat := 0
  readPath : Option Nat := none
  readBeat : Nat := 0
  lock : Bool := false
  lastWrite : Nat := 0
  deriving DecidableEq, Repr

/-- What the memory manager keeps of a bulk page (R379): the ticks of its correctable reads within 24 h, and whether and
when the page was last reported. -/
structure PageNote where
  reads : List Nat := []
  reported : Bool := false
  reportedAt : Nat := 0
  deriving DecidableEq, Repr

/-- Memory management (R373–R391): the page map (page number to spare + 1), spares lost to the scrubber, the page copy
in progress and when it began, the scrub position and the page notes, the remap entries taken (the key of a tile word and
the remap word that serves it, the latest first) and the remap words lost to the scrubber.  `hard` marks stuck code bits
of a byte by its key. -/
structure MemMgr where
  pageMap : Store Nat := []
  badSpares : List Nat := []
  copying : Option (Nat × Nat) := none
  copyAt : Nat := 0
  remaps : List (Nat × Nat) := []
  badRemaps : List Nat := []
  scrubPos : Nat := 0
  notes : Store PageNote := []
  hard : Store Nat := []
  deriving DecidableEq, Repr

/-- A table of the table directory (R533, R534, R559): the working copy its consumers read (R382), the one rebuilt for a
commit, whether a commit waits for its swap, and whether a superseded copy is still held. -/
structure Table where
  work : List (BitVec 8) := []
  built : Option (List (BitVec 8)) := none
  waiting : Bool := false
  held : Bool := false
  deriving DecidableEq, Repr

/-- A kinematic state in the planner's exact unit of 2⁻⁹⁶ count per power of a tick: three times the position, the
velocity and the acceleration (R36, R38; the factor 3 keeps j·τ³/6 whole). -/
structure Kin where
  p3 : Int := 0
  v : Int := 0
  a : Int := 0
  deriving DecidableEq, Repr

/-- One profile segment (R38): its duration in ticks, its jerk in 2⁻⁹⁶ count/tick³ and the state it starts in. -/
structure Seg where
  dur : Nat
  j : Int
  s : Kin
  deriving DecidableEq, Repr

/-- A profile: its segments and the state it ends in, which goes on at constant velocity. -/
structure Profile where
  segs : List Seg := []
  fin : Kin := {}
  deriving DecidableEq, Repr

/-- The motion limits in force in internal form (R36, R42), in 2⁻⁹⁶ units; `qjrk = none` is "no jerk limit" (R52).
Soft limits are positions in the unit of `Kin.p3`. -/
structure Limits where
  vmax : Nat := 0
  amax : Nat := 0
  dmax : Nat := 0
  jmax : Nat := 0
  qdec : Nat := 0
  qjrk : Option Nat := some 0
  smin : Int := 0
  smax : Int := 0
  deriving DecidableEq, Repr

/-- The planner of one axis (R35–R64).  `mode`: 0 none, 1 target, 2 jog.  `stop`: 0 none, 1 controlled, 2 quick, 3
feed-hold.  `origin` is the beat of the profile's
start; `prev`, `cur` and `next` are the previous, the committed and the commit-point states; `gen` counts squashes, `cpGen` is the
generation of the commit-point entry; `age` counts boundaries since the latest squash.  `defer` holds the
new DECEL and JERK that wait for rest (R45); `cap` and `mcap` are the velocity caps of an SLS demand (R43) and of its followers (R85).  `shifts` are the
SHIFT offsets on their way with the boundaries at which they take effect (R58); `target` counts with them already.
`moveId` counts accepted GO and JOG; `resGen`, `arrGen`, `limGen` are the generations of the latest RESUME, ARRIVED and
LIMIT_STOP (R303). -/
structure Planner where
  mode : Nat := 0
  target : Int := 0
  jogVel : Int := 0
  stop : Nat := 0
  prof : Profile := {}
  origin : Nat := 0
  prev : Kin := {}
  cur : Kin := {}
  next : Kin := {}
  lim : Limits := {}
  defer : Option (Nat × Nat) := none
  cap : Option Nat := none
  mcap : Option Nat := none
  gen : Nat := 0
  cpGen : Nat := 0
  age : Nat := 3
  shifts : List (Nat × Int) := []
  rested : Option Nat := none
  moveId : Nat := 0
  resGen : Nat := 0
  arrGen : Option Nat := none
  limGen : Option Nat := none
  deriving DecidableEq, Repr

/-- A change of one planner to which R48 gives a place in its tick: a quick stop of the tollgate (rank 1) or of the ledger or a
ride-through (rank 3) and a stop of the ledger, which are never refused (R57), the disable reaction, and the commands; a
LIMITS takes the rank of the MOVE that carries it. -/
inductive PlReq where
  | quick (rank : Nat)
  | slow
  | disable
  | qstop
  | stop
  | hold
  | resume
  | limits (l : Option Limits) (rank : Nat)
  | shift (off : Int)
  | go (target : Int)
  | jog (vel : Int)
  deriving DecidableEq, Repr

/-- The changes that one planner has taken in the tick `at_ - 1` (R48), in the order in which they are applied, the planner
and AX_PL_STATUS before the first of them, and what the last one left. -/
structure PlTick where
  at_ : Nat := 0
  reqs : List PlReq := []
  base : Planner := {}
  baseSt : BitVec 32 := 0
  after : Planner := {}
  afterSt : Nat := 0
  deriving DecidableEq, Repr

/-- An entry of a milestone's list (R211): position s48.16, direction (0 rising, 1 falling, 2 either), REPORT, TAG and
the entry's sequence number (R226). -/
structure MsEntry where
  pos : Int
  dir : Nat
  report : Bool
  tag : Nat
  seq : Nat
  deriving DecidableEq, Repr

/-- A scheduled pulse: the sequence number of its entry, the stamp64 of its start, the direction its entry is armed in, and the
tick (of `Clock.now`) of the crossing it rests on. -/
structure MsPulse where
  seq : Nat
  at_ : Nat
  falling : Bool
  cross : Nat
  deriving DecidableEq, Repr

/-- A fired entry that waits for verification (R218), with the direction it was armed in. -/
structure MsFired where
  entry : MsEntry
  falling : Bool
  at_ : Nat
  late : Bool
  merged : Bool
  deriving DecidableEq, Repr

/-- One milestone (R208–R226): its list, the head's armed direction, the exact-compare threshold of R with its direction
(whether R falls to it), scheduled pulses,
fired entries that wait for verification, and the tick (of `Clock.now`) at which the pulse in progress ends. -/
structure Milestone where
  list : List MsEntry := []
  nextSeq : Nat := 0
  armed : Bool := false
  falling : Bool := false
  thr : Option (Int × Bool) := none
  sched : List MsPulse := []
  fired : List MsFired := []
  active : Bool := false
  endAt : Nat := 0
  deriving DecidableEq, Repr

/-- A capture in progress (R228–R230): the edge's stamp, its sense, the unit's source kind and the axes of its used slots at
the edge, and per slot its value once it has one, and whether the value was extrapolated or is invalid. -/
structure Capture where
  stamp : Nat
  falling : Bool
  kind : Nat
  axes : List (Nat × Nat)
  vals : List (Nat × Option Int × Bool × Bool)
  deriving DecidableEq, Repr

/-- One latch unit (R227–R232): whether it is armed, the captures in progress, its capture number and the flags the
next record carries. -/
structure Latch where
  armed : Bool := false
  caps : List Capture := []
  seq : Nat := 0
  droppedFlag : Bool := false
  lostFlag : Bool := false
  deriving DecidableEq, Repr

/-- A path segment of a convoy (R69, R70): its record's fields, the start point, the path length and the value of s at
its start (both in 2⁻⁴⁸ count), and a spline's table of arc lengths. -/
structure CySeg where
  kind : Nat := 1
  planeA : Nat := 0
  planeB : Nat := 0
  turns : Nat := 0
  exact : Bool := false
  segId : Nat := 0
  vcap : Nat := 0
  p0 : List Int := []
  pe : List Int := []
  c1 : List Int := []
  c2 : List Int := []
  len : Nat := 0
  s0 : Nat := 0
  table : List Nat := []
  deriving DecidableEq, Repr

/-- The engagement ramp of a follower (R82): master travel since ENGAGE, its length, the ratio it starts from, and the
follower travel so far as a numerator over the ramp's denominator. -/
structure Ramp where
  x : Nat := 0
  len : Nat := 1
  num0 : Int := 0
  den0 : Nat := 1
  acc : Int := 0
  f0 : Int := 0
  cam0 : Option Nat := none
  deriving DecidableEq, Repr

/-- A follower slot of a gear or cam convoy (R81–R87).  `mode`: 0 idle, 1 engaged, 2 stopping under its own limits.
`num`, `den` are the ratio in force, `rem` the carried remainder, `m0`, `f0` the cam's origins. -/
structure CySlot where
  mode : Nat := 0
  num : Int := 0
  den : Nat := 1
  cam : Nat := 0
  rem : Nat := 0
  m0 : Int := 0
  f0 : Int := 0
  ramp : Option Ramp := none
  beyond : Bool := false
  elen : Nat := 0
  fresh : Bool := false
  crossed : Bool := false
  deriving DecidableEq, Repr

/-- One convoy (R65–R88): its segments not yet completed and the one before them (for the blend), the plan of s, the
limits, blend and feed in force, the master's entry of the previous boundary and the follower slots. -/
structure Convoy where
  segs : List CySeg := []
  prev : Option CySeg := none
  sEnd : Nat := 0
  prof : Profile := {}
  origin : Nat := 0
  cur : Kin := {}
  next : Kin := {}
  lim : Limits := {}
  blend : Nat := 0
  feed : Nat := 1024
  stop : Nat := 0
  mprev : Int := 0
  slots : Store CySlot := []
  camWait : List Nat := []
  await : Bool := false
  deriving DecidableEq, Repr

/-- One gantry pair (R89–R91): the correction c in raw pos64 units. -/
structure Gantry where
  corr : Int := 0
  deriving DecidableEq, Repr

/-- One step generator (R92–R96): velocity and phase fraction in 2⁻⁴⁴ steps, the staged command, the whole steps that
the phase has passed and STEPk has not yet emitted (runs of one direction, oldest first), the level of DIRk and the one
wanted, the ticks of the latest step and change, whether the velocity is held at its limit, and the emitted steps newest
first (tick of `Clock.now` and direction). -/
structure StepGen where
  v : Int := 0
  dv : Int := 0
  frac : Nat := 0
  due : List Int := []
  stagedV : Int := 0
  stagedDv : Int := 0
  staged : Bool := false
  stopNext : Bool := false
  dirFwd : Bool := true
  wantFwd : Bool := true
  clamped : Bool := false
  lastStep : Nat := 0
  lastDir : Nat := 0
  pulseEnd : Nat := 0
  stepped : Bool := false
  emitted : List (Nat × Int) := []
  deriving DecidableEq, Repr

/-- One direct feedback port (R178–R189): the settings in force (writes apply from the next boundary), the accepted line
levels, the extended raw count and its capture at tick 0, the latest raw value of a serial port, same-direction edges
newest first (tick of `Clock.now` and direction), whether this beat brought a counted edge and an illegal transition, the
serial transfer in progress with the frame table it uses, the life counter, the emulation's emitted count, target, next
target and latest edge, the Z level, and the levels on the pins L0 to L2 before the filter (R188). -/
structure FbPort where
  ctrl : BitVec 32 := 0
  ser : BitVec 32 := 0x00080004
  lines : Nat := 0
  r : Int := 0
  cap : Int := 0
  capPrev : Int := 0
  raw : Option Nat := none
  edges : List (Nat × Int) := []
  lastEdge : Nat := 0
  moved : Bool := false
  illegal : Bool := false
  busy : Bool := false
  table : List (BitVec 8) := []
  life : Option Nat := none
  emuE : Int := 0
  emuTarget : Int := 0
  emuLast : Nat := 0
  emuNext : Int := 0
  z : Bool := false
  pins : Nat := 0
  deriving DecidableEq, Repr

/-- One source of an axis (R173–R176, R193–R201): the extended raw count, the latest raw value (chain sources), validity,
the run of misses and of valid samples, loss and freeze, the measured position, R at the latest boundaries newest first
(none where no valid sample), beats since the latest reversal or standstill, the sign of the latest change, when R last
changed, whether this beat's sample has been evaluated, the latest edges newest first (tick, R after it and direction),
the edge up to which a standstill ended the measurement, the speed method, STILL and the speed estimate. -/
structure FbSrc where
  r : Int := 0
  raw : Option Nat := none
  rLoss : Int := 0
  valid : Bool := false
  miss : Nat := 0
  good : Nat := 0
  lost : Bool := false
  absent : Bool := false
  froze : Nat := 0
  p : Int := 0
  hist : List (Option Int) := []
  since : Nat := 0
  dir : Int := 0
  changeAt : Nat := 0
  evaluated : Bool := false
  edges : List (Nat × Int × Int) := []
  cut : Option Nat := none
  ep : Bool := false
  still : Bool := false
  vel : Int := 0
  deriving DecidableEq, Repr

/-- The feedback unit of an axis beside its sources (R177, R191–R207): the SETPOS commands that wait (boundary, whether as a
SHIFT, position), the dual-loop capture and fallback, the latest boundaries' position, speed and EXTRAP, the observer,
ride-through, the excursion counters, the phase values of the load angle (the currents of this and the previous beat, in
I_FS/2³⁰), AX_FB_CTRL in force, whether this beat's checks are done, the losses that wait for their reactions
(the source, and whether the position loop used it), and the committed set-point velocity of this boundary. -/
structure FbUnit where
  pri : FbSrc := {}
  sec : FbSrc := {}
  setposs : List (Nat × Bool × Int) := []
  d0 : Option Int := none
  dualOver : Bool := false
  fallback : Bool := false
  fbDiff : Int := 0
  pv : List (Nat × Int × Int × Bool) := []
  obs : Bool := false
  obsX : Int := 0
  obsV : Int := 0
  rideStart : Nat := 0
  warned : Bool := false
  devCnt : Nat := 0
  laCnt : Nat := 0
  iA : Int := 0
  iB : Int := 0
  iAPrev : Int := 0
  iBPrev : Int := 0
  ctrl : Nat := 0x00100808
  done : Bool := true
  rideDue : Bool := false
  lostNow : List (Nat × Bool) := []
  spv : Int := 0
  deriving DecidableEq, Repr


/-- What a boundary gives the stock loop of an axis beside its slot window (R103, R113, R122–R129): the beat, the
feed-forward entry and the entries for the next two boundaries in the planner's exact form, whether the second is valid,
the mode (0 bridge-off, 1 closed loop, 2 frozen reference, 3 alignment), the frozen reference, the loop set-point's
correction (R90), ride-through, and the position that gives the commutation angle. -/
structure LoopIn where
  beat : Nat := 0
  ff : Kin := {}
  e1 : Kin := {}
  e2 : Kin := {}
  two : Bool := false
  mode : Nat := 0
  refPos : Int := 0
  corr : Int := 0
  ride : Bool := false
  commX : Int := 0
  deriving DecidableEq, Repr

/-- The stock loop's control of one axis (R121–R129): the beat in which a pending enable was accepted, the boundary at
which the brake is energised, at which BRAKE_REL ends, at which alignment began and at which the stop reached rest, the
frozen position reference, the OFF_DELAY and OFF_CAUSE of the stop in progress, the ledger's hold-off (R357), the loss of
the commutation source (R123), a pending parameter commit and CLEAR_INT, the staged outbox, the outbox handed off and
whether it was staged since the axis last left OFF, the outbox applied at the latest L (R207), the caravanserai's hold,
the boundary's inputs (`inNow`) and those of the slot window (`inWin`), the recorder signals of the latest run (R130), the
step reference at enable (R113), and the node words of the latest slot with whether this beat brought one (R255). -/
structure AxisCtl where
  enPend : Option Nat := none
  brakeAt : Option Nat := none
  relAt : Option Nat := none
  alignAt : Option Nat := none
  rest : Option Nat := none
  refPos : Int := 0
  offDelay : Nat := 0
  cause : Nat := 1
  commLost : Bool := false
  commit : Bool := false
  clearInt : Bool := false
  staged : Option (List Nat) := none
  out : List Nat := []
  applied : List Nat := []
  fresh : Bool := false
  stagedSince : Bool := false
  held : Nat := 0
  sto : Bool := false
  ss1 : Bool := false
  iref : Int := 0
  inNow : LoopIn := {}
  inWin : LoopIn := {}
  sig : List Int := []
  stepRef : Int := 0
  stepPhase : Int := 0
  inWords : List Nat := []
  slotOk : Bool := true
  deriving DecidableEq, Repr


/-- A result on its way to where it is read (R145): the step from which it is read, the bank, the destination (0–31 a
general register, 32 the flags Z and N, 64–67 an accumulator as NRW sees it) and the value. -/
structure Flight where
  due : Nat
  bank : Nat
  dst : Nat
  val : Int
  deriving DecidableEq, Repr

/-- A bulk transfer in progress (R150): its data memory words, for a store the values they held when it was issued, and the
tick of its issue. -/
structure Bulk where
  load : Bool
  mem : List Nat
  dev : Nat
  data : List (BitVec 32)
  at_ : Nat := 0
  deriving DecidableEq, Repr

/-- A checkpoint on its way to bulk memory (R163); `bad` where the copy met an uncorrectable word (R381); the tick and the
step of its issue. -/
structure CkptOut where
  slot : Nat
  axis : Nat
  beat : Nat
  words : List (BitVec 32)
  bad : Bool
  at_ : Nat := 0
  step : Nat := 0
  deriving DecidableEq, Repr

/-- One drover engine (R131–R171): program and data memory with the check-bit errors of their bytes, the registers of
both banks (key bank · 32 + register for `g`, bank · 4 + i for the accumulators, bank · 8 + i for pointers), the results
in flight, the branch in its delay slots, the program counters of both banks, a word that waits to issue, the slots'
masks of the beat, the bulk transfer and the checkpoints in progress, the measures of the beat and interval, and the beats of
the latest ENDs and heartbeat words (1 where SEQ and SIG were right). -/
structure Engine where
  prog : Store (BitVec 64) := []
  dmem : Store (BitVec 32) := []
  perr : Store Nat := []
  derr : Store Nat := []
  g : Store (BitVec 32) := []
  acc : Store Int := []
  accN : Store Int := []
  p : Store Nat := []
  b : Store Nat := []
  n : Store Nat := []
  sf : Store Nat := []
  flight : List Flight := []
  issued : Nat := 0
  branch : Option (Nat × Nat) := none
  pc : Nat := 0
  retPc : Nat := 0
  idleBelow : Bool := false
  bank : Nat := 0
  waiting : Option (BitVec 64) := none
  running : Bool := false
  beatOf : Nat := 0
  startDue : Bool := false
  ready : Nat := 0
  returned : Nat := 0
  staged : Nat := 0
  carry : Nat := 0
  carried : Nat := 0
  late : Nat := 0
  overran : Bool := false
  bulk : Option Bulk := none
  ckpts : List CkptOut := []
  stepCnt : Nat := 0
  peakSteps : Nat := 0
  minSlack : Nat := 0xFFFF
  pacePeak : Nat := 0
  timer : Nat := 0
  slots : List Nat := []
  wire : Bool := false
  ends : List Nat := []
  hbs : List (Nat × Nat) := []
  deriving DecidableEq, Repr


/-- One chain (R233–R267): the copy of the layout in force (R252), the level of STO_N driven at tick 0 of the frame, the
frame in progress, per node the runs of failures (bit per check) and STO disagreements, chain-level runs, the census in
progress (step: 1 reset wait, 2 identity frame, 3 config frame, 4 retry wait, 5 echo frame; tries made, the tick at which the
try began, the config words by node, and the config frame's words behind the marker, as they are shifted out) and the command
items and slots of each node's latest frame. -/
structure Chain where
  layout : List (BitVec 8) := []
  stoTick0 : Bool := true
  inFrame : Bool := false
  frameDone : Bool := false
  latched : Bool := false
  runs : Store Nat := []
  stoDis : Store Nat := []
  startRun : Bool := false
  stopping : Bool := false
  censusAfter : Bool := false
  step : Nat := 0
  tries : Nat := 0
  waitFrom : Nat := 0
  cfg : List (BitVec 64) := []
  cfgSent : List (BitVec 64) := []
  items : Store (List Nat) := []
  sent : Store (List Nat) := []
  seen : Nat := 0
  deriving DecidableEq, Repr


/-- A local pair's set (R282): control and period words, and the compare value C in sixteenths of a tick (in CARRIER 2 the
duty), OUT_MODE, the OFF bit of the compare word, whether a staged result brought it, and whether its compare was kept by
a commit without a new one (R284). -/
structure PairSet where
  ctrl : BitVec 32 := 0
  per : BitVec 32 := 3200
  cmp : Nat := 0
  mode : Nat := 0
  off : Bool := false
  fromStage : Bool := false
  keep : Bool := false
  deriving DecidableEq, Repr

/-- One local pair (R270–R297): the committed settings, the active set, the set that waits for its transfer, the bound
pair's commit that waits for a staged result, OUT_MODE bit 1 as written, the dither count, the period in progress (its
start, its length and its compare in ticks), the signal W with the tick of its latest change, the two outputs, the trip,
STO and BRIDGE_OFF holds, and the set of the hand-off (`fromStage` false where it carries BRIDGE_OFF). -/
structure Pair where
  active : PairSet := {}
  pending : Option PairSet := none
  waitCommit : Bool := false
  cmpWritten : Bool := false
  k : Nat := 0
  started : Bool := false
  start : Nat := 0
  perLen : Nat := 3200
  act : Nat := 0
  act2 : Nat := 0
  w : Bool := false
  wAt : Nat := 0
  hi : Bool := false
  lo : Bool := false
  forcedBy : Nat := 0
  tripped : Bool := false
  stoOff : Bool := false
  bridgeOff : Bool := false
  handOff : Option PairSet := none
  waitSet : PairSet := {}
  outHi : Bool := false
  deriving DecidableEq, Repr

/-- The modulator as a whole: the trip sources that force each node channel and their state at the latest D (R293), the
axes' carriers in force and the pending binding commits, and the trip inputs (bit `m`) of which a level has been
accepted. -/
structure ModUnit where
  tripSeen : Nat := 0
  chForce : Store Nat := []
  chOff : Store Nat := []
  carrier : Store (BitVec 32) := []
  carrierPend : List Nat := []
  carrierNext : Store (BitVec 32) := []
  deriving DecidableEq, Repr


/-- One field channel (R423–R437): the commanded level, the state of its switch, when it was switched on and last tried,
when its filter was reset, whether the spare serves it, the wiring faults that are present (bit = CAUSE), and since when
it has had no coupler while its output waits for its safe state (R436). -/
structure FioCh where
  cmd : Bool := false
  on : Bool := false
  onAt : Nat := 0
  tryAt : Nat := 0
  resetAt : Nat := 0
  spare : Bool := false
  fault : Nat := 0
  cutAt : Option Nat := none
  deriving DecidableEq, Repr

/-- One field group: whether its refresh frames run, the watchdog's time in force in 0.1 ms, its expiry and the latest
refresh frame, and whether the spare coupler failed or is fenced. -/
structure FioGrp where
  live : Bool := false
  wdog : Nat := 100
  expired : Bool := false
  lastFrame : Nat := 0
  spareBad : Bool := false
  deriving DecidableEq, Repr

/-- The field supply's hold times (R432): since when VFIELD has stayed above 18 V, whether it was below 17 V at the latest
measurement; and whether the tollgate has yet to see an expired field watchdog (R434). -/
structure FieldUnit where
  goodSince : Option Nat := none
  warned : Bool := false
  low : Bool := false
  wdogSeen : Bool := false
  deriving DecidableEq, Repr


/-- An event that itinerary conditions may see (R308): its beat, its kind (4 edge of an input, 6 CAN frame, 7 milestone
event, 10 latch record, 20 Z capture, 21 FOLLOW_WARN), the source, and what came with it. -/
structure ItEv where
  beat : Nat
  kind : Nat
  id : Nat
  arg : Int
  deriving DecidableEq, Repr

/-- The latest GO or JOG of an instance for an axis (R303): the planner's move number, the generation of its profile
(none while it waits for a RESUME), the generation of the latest RESUME at its acceptance, and the flags MOVE_DONE and
MOVE_LOST of the latest boundary. -/
structure ItMove where
  axis : Nat
  id : Nat
  gen : Option Nat
  base : Nat
  arrived : Bool := false
  done : Bool := false
  lost : Bool := false
  deriving DecidableEq, Repr

/-- The latest ARM of an instance for a milestone (R302, R306): the entry's sequence number and the kinds of its events. -/
structure ItArm where
  ms : Nat
  seq : Nat
  kinds : List Nat := []
  deriving DecidableEq, Repr

/-- A homing run (R318): the step within its phase, the direction, whether the search reversed, whether the limit met
before the reversal is still held, the capture, and the Z captures and FOLLOW_WARN since the phase or jog began. -/
structure HomeRun where
  step : Nat := 0
  dir : Int := 0
  reversed : Bool := false
  limHeld : Bool := false
  capture : Option Int := none
  z : Option Int := none
  warn : Bool := false
  deriving DecidableEq, Repr

/-- One itinerary instance (R298–R316): the state that a START enters in the next round, whether the state was entered
in the previous round, the events since entry, its moves and arms, the axes it has moved since START, the host flags at the latest
boundary, and its homing run. -/
structure ItInst where
  starting : Option Nat := none
  entered : Bool := false
  evs : List ItEv := []
  moves : List ItMove := []
  arms : List ItArm := []
  moved : List Nat := []
  flags : BitVec 32 := 0
  home : HomeRun := {}
  deriving DecidableEq, Repr

/-- The itineraries as a whole: events no round has seen, per input the level and the number of boundaries it has had it
(key class · 4096 + number; level · 256 + run), the accepted levels of the latch pins, the beat of the latest round,
whether a round is running and the commands written meanwhile (R312), and the peak of IT_ROUND's interval. -/
structure ItUnit where
  evs : List ItEv := []
  inputs : Store Nat := []
  ltPins : Nat := 0
  lastRound : Option Nat := none
  inRound : Bool := false
  later : List (Nat × Nat) := []
  deriving DecidableEq, Repr


/-- A load into an engine (R335): its image, the tick of `Clock.now` at which it began, and whether it is complete. -/
structure CvLoad where
  image : Nat := 0
  start : Nat := 0
  done : Bool := false
  deriving DecidableEq, Repr

/-- A fail-over (R334–R338): the fenced engine, its image and the latest beat whose computation it began, its axes with
their slots, the spare with the number of spares taken, whether the image is taken as damaged, whether CV_NO_SPARE was
sent, the takeover boundary, and per axis the consecutive held L phases. -/
structure CvJob where
  failed : Nat
  image : Nat
  begun : Nat
  axes : List (Nat × Nat)
  spare : Option Nat := none
  tries : Nat := 0
  dead : Bool := false
  sent : Bool := false
  takeover : Option Nat := none
  streaks : List (Nat × Nat) := []
  deriving DecidableEq, Repr

/-- The planned swap in progress (R339–R342): relieved engine, replacement, cause, image, postponed beats and spares
taken. -/
structure CvSwap where
  e : Nat
  s : Nat
  cause : Nat
  image : Nat
  post : Nat := 0
  tries : Nat := 1
  deriving DecidableEq, Repr

/-- The caravanserai (R323–R350): fail-overs and the planned swap, loads by engine, swaps that wait (cause and engine),
the outrider's due flag and latest period, per engine the tick since which it has its role, the beat since which it is
active, its pace figure and the tick of the latest self-test, the runs of missed paths (masks), of margin warnings (mask)
and low margins (counts), the beat judged last, the latest MIGRATE swap, and the live update with the image that it has
replaced, by engine. -/
structure Caravan where
  jobs : List CvJob := []
  swap : Option CvSwap := none
  loads : Store CvLoad := []
  queue : List (Nat × Nat) := []
  outDue : Bool := false
  outAt : Nat := 0
  since : Store Nat := []
  active : Store Nat := []
  pace : Store Nat := []
  testAt : Store Nat := []
  runWord : Nat := 0
  runWire : Nat := 0
  warn : Nat := 0
  low : Store Nat := []
  judged : Nat := 0
  mig : Option (Nat × Nat) := none
  updImage : Nat := 0
  updLeft : List Nat := []
  updAt : Nat := 0
  updDue : Bool := false
  updOld : Store Nat := []
  deriving DecidableEq, Repr


/-- One contact of a safety input (R398): its latest sample, for how many µs of counted samples it has stood, the
accepted level (true: closed) and when it was accepted. -/
structure TgContact where
  raw : Bool := false
  run : Nat := 0
  closed : Bool := false
  at_ : Nat := 0
  deriving DecidableEq, Repr

/-- One safety input (R399–R403): whether it demands and since when, its fault (cause and contact), the contact whose
change made the two differ and when, and the progress of the clearing of a fault: both open, both closed again, the
contacts that have passed a test pulse since. -/
structure TgInput where
  demand : Bool := false
  demandAt : Nat := 0
  fault : Nat := 0
  faultB : Bool := false
  differ : Option (Nat × Nat) := none
  opened : Bool := false
  reclosed : Bool := false
  passed : Nat := 0
  deriving DecidableEq, Repr

/-- A latched fault of a zone (R416): the channel (0x10 + i an input, 0x20 + o an output, 0x30 + k a line, 0 the zone),
the cause, and whether it holds the zone in STO (false where limp followed). -/
structure TgLatch where
  chan : Nat
  cause : Nat
  force : Bool
  deriving DecidableEq, Repr

/-- One zone (R404–R409, R417): its latched faults, when its SS1 or SLS began, whether its SS1 has run, whether speed is
monitored, limp and its start, whether limp was used since the zone left STO, the level of ACK_IN and the state that the
logic side has accepted. -/
structure TgZone where
  latched : List TgLatch := []
  start : Nat := 0
  ss1Done : Bool := false
  monitor : Bool := false
  limp : Bool := false
  limpFrom : Nat := 0
  limpUsed : Bool := false
  ackPrev : Bool := false
  accepted : Nat := 0
  deriving DecidableEq, Repr

/-- The speed records of an axis (R407): consecutive violations, consecutive missing ones, and the beat count of the
latest (plus 1). -/
structure TgSpeed where
  viol : Nat := 0
  miss : Nat := 0
  beat : Nat := 0
  deriving DecidableEq, Repr

/-- The tollgate (R394–R421): the field side's time in µs, whether a configuration has been applied and checked, the
configuration in force by register address, contacts (key 2 · input + contact), inputs, zones and speed records, per
output the cycles of bad readback and the start of its OFF test (plus 1), per line the cycles of bad readback and the
time of its latest low readback, the lines whose keep-alive is lost, and whether the field watchdog has expired. -/
structure Tollgate where
  time : Nat := 0
  up : Bool := false
  cfg : Store (BitVec 32) := []
  contacts : Store TgContact := []
  inputs : Store TgInput := []
  zones : Store TgZone := []
  speeds : Store TgSpeed := []
  outBad : Store Nat := []
  lineBad : Store Nat := []
  lineLow : Store Nat := []
  kaLost : Nat := 0
  logicLost : Bool := false
  deriving DecidableEq, Repr



/-- A two-step Sync that waits for its Follow_Up (R457): port, source, sequenceId, receive stamp and correction in
2⁻¹⁶ ns, the Sync interval in ns and the tick of its arrival. -/
structure TmSync where
  port : Nat
  src : Nat
  seq : Nat
  t2 : Int
  corr : Int
  interval : Nat
  at_ : Nat
  deriving DecidableEq, Repr

/-- Device time and its servo (R454–R474): device time in ns at tick 0 of `Clock.now`, F and S in 2⁻¹⁶ ppm, the step and
the TIME_SET that wait for the boundary, an armed TIME_SET, the stamps (t₁, t₂) of the Syncs or edges before the first
lock, twice the latest delays d_k, the Delay_Req that waits, the latest Sync's t₁, t₂ and c_s, the two-step Sync that
waits, the runs of R462, the time of the latest Sync and the Sync interval, the
start of holdover, recovery (R465), the whole second handled last, the levels and ends of PPS_OUT and SYNC_OUT, whether
TB_SYNC_AT has fired, the failed references and those the ledger fenced or retired, the start of the
interval of TB_SLACK (R27) and the tick at which device time was last qualified. -/
structure Tm where
  off : Int := 0
  f : Int := 0
  s : Int := 0
  step : Option Int := none
  set : Option Nat := none
  armed : Bool := false
  firsts : List (Int × Int) := []
  delays : List Int := []
  req : Option (Nat × Nat × Int) := none
  sync : Option (Int × Int × Int) := none
  two : Option TmSync := none
  good : Nat := 0
  bad : Nat := 0
  syncAt : Nat := 0
  interval : Nat := 0
  holdAt : Nat := 0
  recovering : Bool := false
  secDone : Nat := 0
  ppsOut : Bool := false
  ppsEnd : Nat := 0
  syncOut : Bool := false
  syncEnd : Nat := 0
  matched : Bool := false
  refFailed : Nat := 0
  refFenced : Nat := 0
  slackAt : Nat := 0
  qualAt : Nat := 0
  deriving DecidableEq, Repr



/-- A foreign master (R457): the port, the sender (clockIdentity · 2¹⁶ + port number), its Announce dataset
(grandmaster priorities, quality, identity and steps removed), the interval in ns and the ticks of its Announces, newest
first. -/
structure Foreign where
  port : Nat
  src : Nat
  prio1 : Nat
  quality : Nat
  prio2 : Nat
  gm : Nat
  steps : Nat
  interval : Nat
  seen : List Nat
  deriving DecidableEq, Repr

/-- A two-step PTP message forwarded transparently (R466): its port, messageType, sourcePortIdentity and sequenceId, and
its residence time in 2⁻¹⁶ ns. -/
structure Transit where
  port : Nat
  type : Nat
  src : Nat
  seq : Nat
  res : Nat
  deriving DecidableEq, Repr

/-- Ports, switch and the PTP engine (R450–R453, R457, R466–R468): foreign masters, the parent (port and sender), the
settings read at the latest whole second (R476), the learning table (address, port, tick), the two-step messages forwarded
transparently, the frame that each port forwarded last, the sequenceIds of each port's own messages, the ports the ledger
fenced, and the run of lost Q8 stamps. -/
structure Net where
  foreign : List Foreign := []
  parent : Option (Nat × Nat) := none
  ctrl : BitVec 32 := 0x88B50000
  mac : Nat := 0
  ptp : BitVec 32 := 0x01FDFFFF
  table : List (Nat × Nat × Nat) := []
  fwd : List Transit := []
  out : Store (List (BitVec 8)) := []
  seqs : Store Nat := []
  fenced : Nat := 0
  q8run : Nat := 0
  deriving DecidableEq, Repr



/-- A frame of a transmit FIFO (R305, R506): its two header words, its data and the tick since which it is the head. -/
structure CanTx where
  id : Nat
  info : Nat
  data : List (BitVec 8)
  headAt : Nat := 0
  deriving DecidableEq, Repr

/-- One CAN controller (R501–R513): the FIFO, the pending reference message (its payload), the device time in ns of the
latest cycle start handled, the delay in ns of that cycle's reference message (none: not sent), whether device time was
stepped since the latest one, a run of receive losses, whether the ledger fenced it, whether bus-off recovery runs, the start
of the cycle whose reference message was still on the wire at the next one, what a stopped controller still sends (1 the
FIFO head, 2 the reference message), the tick at which it stopped while it took part in the bus (a frame that it was
receiving then is still delivered), and the device time in ns of the latest step. -/
structure Can where
  fifo : List CanTx := []
  ref : Option (List (BitVec 8)) := none
  cycleAt : Nat := 0
  delay : Option Nat := none
  stepped : Bool := false
  lossRun : Bool := false
  fenced : Bool := false
  recovering : Bool := false
  flying : Option Nat := none
  wire : Nat := 0
  stoppedAt : Option Nat := none
  stepNs : Nat := 0
  deriving DecidableEq, Repr



/-- A line of the prefetch buffer (R518): its port and flash address, whether it holds data yet, its bytes, when it was
used last, and whether a read missed it. -/
structure FlLine where
  port : Nat
  addr : Nat
  valid : Bool
  data : List (BitVec 8)
  used : Nat
  miss : Bool
  deriving DecidableEq, Repr

/-- One flash port (R515–R522, R538): the operation in progress (1 program, 2 erase, 3 staging, 4 verifying), its flash
address, its data, its sectors or bytes, the table it stages into with the expected CRC, the tick at which it started, and
whether the port is fenced by the ledger. -/
structure FlPort where
  op : Nat := 0
  startAt : Nat := 0
  addr : Nat := 0
  data : List (BitVec 8) := []
  count : Nat := 0
  table : Nat := 0
  crc : Nat := 0
  fenced : Bool := false
  deriving DecidableEq, Repr

/-- A manifest copy's record as the loader reads it (R526): index, TYPE and body. -/
structure MfRec where
  idx : Nat
  type : Nat
  body : List (BitVec 8)
  deriving DecidableEq, Repr

/-- The loader and the flash store (R515–R539): the flash contents by port · 2³² + address (unlisted bytes read 0xFF), the
ports, the prefetch buffer, the order in which the copies are checked, the copy whose check runs, the copy that booted,
the records of the booted copy, the one-time programmable key hashes, the hash words written to
XS_OTP_DATA, whether RECOVERY still fills bulk memory, and whether the loader has begun. -/
structure Boot where
  flash : Store (BitVec 8) := []
  ports : Store FlPort := []
  lines : List FlLine := []
  todo : List Nat := []
  checking : Option Nat := none
  booted : Option Nat := none
  records : List MfRec := []
  otp : Store (BitVec 8) := []
  otpData : Store (BitVec 32) := []
  filling : Bool := false
  started : Bool := false
  deriving DecidableEq, Repr



/-- A reply (R477, R478): the port it leaves on, its destination address and VLAN tag, the identifier of its session, the
command, its SEQ, its status, OUTQ, its payload and its MAC. -/
structure Reply where
  port : Nat
  dst : Nat
  tag : Option Nat
  sid : Nat
  cmd : Nat
  seq : Nat
  status : Nat
  outq : Nat
  payload : List (BitVec 8)
  mac : List (BitVec 8)
  deriving DecidableEq, Repr

/-- A write session (R479–R482): its identifier, its key, whether it is open (else pending), the session key KS, the
nonces of the handshake, the greatest accepted SEQ, the accepted SEQ values with the replies cached for them (newest
first), the number of replies placed in Q4, the tick of the latest valid frame, and the source address. -/
structure Session where
  sid : Nat := 0
  key : Nat := 0
  isOpen : Bool := false
  ks : List (BitVec 8) := []
  nh : List (BitVec 8) := []
  nd : List (BitVec 8) := []
  top : Option Nat := none
  cache : List (Nat × Option Reply) := []
  placed : Nat := 0
  at_ : Nat := 0
  deriving DecidableEq, Repr

/-- Where a request came from (R478): its source address, its VLAN tag, and the identifier of its session then (R482). -/
structure Asked where
  src : Nat := 0
  tag : Option Nat := none
  sid : Nat := 0
  deriving DecidableEq, Repr

/-- The Lanifer protocol engine (R477–R491): the sessions 1 to 4, the manifest's keys by KEY_ID, the KEY replies of each
source address with their ticks, the sources whose frames fail their MAC in a run, the latest reply sent, the request that
replies answer now, and that of each entry of an inbound queue (4096 times the queue plus the index). -/
structure Lanifer where
  sessions : Store Session := []
  keys : Store (List (BitVec 8)) := []
  fails : List (Nat × Nat) := []
  blocked : List (Nat × Nat) := []
  badMac : List Nat := []
  mailIn : List Nat := []
  reply : Option Reply := none
  asked : Asked := {}
  waits : Store Asked := []
  deriving DecidableEq, Repr



/-- A trigger unit (R444): the two-level state and how many frames it has lasted (0 before the first frame), a runt in
progress, the frames from the latest one beyond the near threshold to now (none: there was none), and whether the pattern
held in the latest frame. -/
structure RcUnit where
  high : Bool := false
  run : Nat := 0
  runt : Bool := false
  since : Option Nat := none
  held : Bool := false
  deriving DecidableEq, Repr

/-- A captured frame (R439, R447): its stamp and the full values of the enabled channels. -/
structure RcFrame where
  stamp : Nat
  vals : List (Nat × BitVec 32)
  deriving DecidableEq, Repr

/-- The recorder (R438–R449): PERIOD in ticks, the frames' size and the buffer's capacity in frames as fixed at arming,
the stamp of arming, the frames written, the captured frames newest first, the frames whose beat is not computed yet, the
trigger units, the frame of the combiner's latest event of A, FORCE waiting, the trigger frame, whether the record was
forced, cut short or is to stop after the frame in progress, whether it waits to be sent, the index of its Q6 entry once
sent, the records sent since reset, the latest instant (beat and number within it), the
tick of its last frame, per axis the arrival and squash flags of the boundary, and the axes
that overran in the beat. -/
structure Rec where
  period : Nat := 1600
  len : Nat := 1600
  bytes : Nat := 0
  cap : Nat := 0
  armedAt : Nat := 0
  written : Nat := 0
  frames : List RcFrame := []
  opened : List RcFrame := []
  units : Store RcUnit := []
  evA : Option Nat := none
  force : Bool := false
  forced : Bool := false
  partialRec : Bool := false
  stopDue : Bool := false
  trig : Option Nat := none
  sendDue : Bool := false
  entry : Option Nat := none
  seq : Nat := 0
  lastInst : Option (Nat × Nat) := none
  doneAt : Nat := 0
  arrive : Store Nat := []
  ovr : Store Nat := []
  deriving DecidableEq, Repr



/-- Package monitors, pins and the TAP (R536–R544, R554, R557, R558): whether the power-on reset, JTAG or a high TEST_EN
holds the device in reset (the board ties TEST_EN to a level that no command changes), the excursions in progress with the run of measurements that end them, the banks whose VDDIO
exceeds 2.5 V, the TAP's instruction in effect, the boundary-scan cells' update latches and whether they drive the pins or
leave them in high impedance, the result of the latest REG_ACCESS, and what the selected data register captured last. -/
structure Package where
  porHold : Bool := false
  jtagHold : Bool := false
  testEn : Bool := false
  vcoreOut : Bool := false
  vcoreRun : Nat := 0
  bankLow : Nat := 0
  bankRun : Store Nat := []
  above : BitVec 9 := 0x1FF
  tempHigh : Bool := false
  tempCrit : Bool := false
  tempSeen : Bool := false
  ir : Nat := 2
  bsr : BitVec 317 := 0
  driven : Bool := false
  highz : Bool := false
  acc : BitVec 66 := 0
  dr : BitVec 317 := 0
  deriving DecidableEq, Repr


/-- Everything the block holds but the queue of waiting commands. -/
structure Device where
  clk : Clock := {}
  regs : Store (BitVec 32) := []
  hold : Store Hold := []
  bulk : List Host.Cell := []
  bulkErr : Store Nat := []
  mem : MemMgr := {}
  ledger : Ledger := {}
  test : TestSpace := {}
  tables : Store Table := []
  qOcc : Store Nat := []
  qGap : Store Nat := []
  free : Nat := 1
  planners : Store Planner := []
  plTicks : Store PlTick := []
  live : Store (BitVec 32) := []
  miles : Store Milestone := []
  latches : Store Latch := []
  convoys : Store Convoy := []
  gantries : Store Gantry := []
  gens : Store StepGen := []
  ports : Store FbPort := []
  fbs : Store FbUnit := []
  axes : Store AxisCtl := []
  lp : Store (BitVec 32) := []
  lpPend : Store (BitVec 32) := []
  engines : Store Engine := []
  chains : Store Chain := []
  pairs : Store Pair := []
  md : ModUnit := {}
  fioCh : Store FioCh := []
  fioGrp : Store FioGrp := []
  field : FieldUnit := {}
  itins : Store ItInst := []
  it : ItUnit := {}
  cv : Caravan := {}
  tg : Tollgate := {}
  tm : Tm := {}
  net : Net := {}
  cans : Store Can := []
  boot : Boot := {}
  ln : Lanifer := {}
  rc : Rec := {}
  pkg : Package := {}
  deriving DecidableEq, Repr

/-- The machine: the block and the commands that wait for it, first in, first out. -/
structure State where
  dev : Device
  pending : List Instr
  deriving DecidableEq, Repr

/-- The machine right after the power-on reset: every register at its table's reset value (nothing listed in `regs`),
memories with nothing listed, every hidden field at the value its structure names (notes/assumptions/4), no command
waiting. -/
def State.reset : State := { dev := {}, pending := [] }

end Sys2Proof.Machine
end

