-- ==== Sys2Proof/Machine/Ops.lean ====
section
/-! DEFINITION. The shared operations of every unit: sparse maps, registers and their fields, events and refusals,
ledger messages and injections (R351, R352, R371), free values, stamps, bulk memory with its byte code (R374–R381),
queues (R492–R495), the table directory (R533, R534) and holding registers (R7). -/

namespace Sys2Proof.Machine

/-! ### Sparse maps -/

/-- What a sparse map reads at a key. -/
def Store.get {α : Type} (dflt : Nat → α) : Store α → Nat → α
  | [], a => dflt a
  | (b, v) :: m, a => if a = b then v else Store.get dflt m a

/-- An entry put in its place. -/
def Store.ins {α : Type} : Store α → Nat → α → Store α
  | [], a, v => [(a, v)]
  | (b, w) :: m, a, v => if a < b then (a, v) :: (b, w) :: m else if a = b then (a, v) :: m else (b, w) :: Store.ins m a v

/-- A sparse map with one key changed, in canonical form. -/
def Store.set {α : Type} [DecidableEq α] (dflt : Nat → α) (m : Store α) (a : Nat) (v : α) : Store α :=
  if v = dflt a then m.filter (fun e => e.1 != a) else m.ins a v

/-- The canonical form: keys strictly rising from `lo`, no entry equal to what an unlisted key reads as. -/
def Store.wfFrom {α : Type} [DecidableEq α] (dflt : Nat → α) : Nat → Store α → Bool
  | _, [] => true
  | lo, (b, v) :: m => decide (lo ≤ b) && decide (v ≠ dflt b) && Store.wfFrom dflt (b + 1) m

/-- The canonical form of a sparse map. -/
def Store.wf {α : Type} [DecidableEq α] (dflt : Nat → α) (m : Store α) : Bool := Store.wfFrom dflt 0 m

/-- A sparse map of structures read at a key, every unlisted entry being `dflt`. -/
def Store.pick {α : Type} (m : Store α) (dflt : α) (k : Nat) : α := Store.get (fun _ => dflt) m k

/-- One structure of a sparse map changed. -/
def Store.upd {α : Type} [DecidableEq α] (m : Store α) (dflt : α) (k : Nat) (f : α → α) : Store α :=
  Store.set (fun _ => dflt) m k (f (m.pick dflt k))

/-! ### Registers -/

/-- The word a register holds. -/
def Device.rd (d : Device) (a : Nat) : BitVec 32 := Store.get resetWord d.regs a

/-- A register set to a word. -/
def Device.wr (d : Device) (a : Nat) (v : BitVec 32) : Device := { d with regs := Store.set resetWord d.regs a v }

/-- The value of a register field. -/
def Device.get (d : Device) (f : Fld) : Nat := bits (d.rd f.addr).toNat f.lo f.width

/-- A register field set to a value. -/
def Device.put (d : Device) (f : Fld) (v : Nat) : Device := d.wr f.addr (insBits (d.rd f.addr) f.lo f.width v)

/-- A one-bit field as a Bool. -/
def Device.has (d : Device) (f : Fld) : Bool := d.get f == 1

/-- A field read as two's complement. -/
def Device.getS (d : Device) (f : Fld) : Int := toS f.width (d.get f)

/-- A register read as a number. -/
def Device.rdN (d : Device) (a : Nat) : Nat := (d.rd a).toNat

/-- A register read as two's complement. -/
def Device.rdS (d : Device) (a : Nat) : Int := toS 32 (d.rd a).toNat

/-- A register set to a number modulo 2³². -/
def Device.wrN (d : Device) (a : Nat) (n : Nat) : Device := d.wr a (BitVec.ofNat 32 n)

/-- The 64-bit value of a register pair (R7). -/
def Device.rd64 (d : Device) (a : Nat) : Nat := (d.rd a).toNat + 2 ^ 32 * (d.rd (a + 4)).toNat

/-- A register pair read as two's complement. -/
def Device.rdS64 (d : Device) (a : Nat) : Int := toS 64 (d.rd64 a)

/-- A register pair set to a 64-bit value. -/
def Device.wr64 (d : Device) (a : Nat) (n : Nat) : Device := (d.wrN a n).wrN (a + 4) (n / 2 ^ 32)

/-- A register pair set to an integer's two's complement. -/
def Device.wrS64 (d : Device) (a : Nat) (i : Int) : Device := d.wr64 a (ofS 64 i)

/-- An event bit raised. -/
def Device.raise (d : Device) (f : Fld) : Device := d.put f 1

/-- A field counted up by `n`, saturating at its width. -/
def Device.incSat (d : Device) (f : Fld) (n : Nat := 1) : Device := d.put f (satU f.width (d.get f + n))

/-- A field counted up by one, wrapping at its width. -/
def Device.inc (d : Device) (f : Fld) : Device := d.put f (d.get f + 1)

/-- A request refused: the code in REFUSE_LAST and the REFUSED event. -/
def Device.refuse (d : Device) (last ev : Fld) (code : Nat) : Device := (d.put last code).raise ev

/-! ### Status registers that software reads as a snapshot of the latest boundary (R8): `live` holds what the unit keeps -/

/-- The present value of a snapshot register's field. -/
def Device.liveGet (d : Device) (f : Fld) : Nat := bits (Store.get resetWord d.live f.addr).toNat f.lo f.width

/-- The present value of a snapshot register's field changed; software sees it from the next boundary on (R8). -/
def Device.livePut (d : Device) (f : Fld) (v : Nat) : Device :=
  { d with live := Store.set resetWord d.live f.addr (insBits (Store.get resetWord d.live f.addr) f.lo f.width v) }

/-- The present value of a snapshot register set to a number modulo 2³². -/
def Device.liveWr (d : Device) (a n : Nat) : Device :=
  { d with live := Store.set resetWord d.live a (BitVec.ofNat 32 n) }

/-- The present value of a snapshot pair set to an integer's two's complement. -/
def Device.liveWrS64 (d : Device) (a : Nat) (i : Int) : Device := (d.liveWr a (ofS 64 i)).liveWr (a + 4) (ofS 64 i / 2 ^ 32)

/-- A one-bit snapshot field as a Bool. -/
def Device.liveHas (d : Device) (f : Fld) : Bool := d.liveGet f == 1

/-- Is the register at `a` a snapshot under R8? -/
def isSnap (a : Nat) : Bool :=
  if 0x100000 ≤ a ∧ a < 0x130000 then
    let o := a % 0x400
    o == 0x004 || o == 0x108 || o == 0x208 || o == 0x308 || (0x330 ≤ o && o ≤ 0x340) || o == 0x39C || o == 0x3D4
  else if 0x1000 ≤ a ∧ a < 0x3000 then a % 0x100 == 0x08
  else false

/-- The snapshot registers take the units' present values (R8). -/
def Device.snapshot (d : Device) : Device :=
  let kept := d.regs.filter (fun e => !isSnap e.1)
  { d with regs := d.live.foldl (fun m e => Store.set resetWord m e.1 e.2) kept }

/-! ### Time, free values, the state around the block -/

/-- A stamp64 of a beat count and a tick (R2). -/
def mkStamp (beat tick : Nat) : Nat := beat % 2 ^ 48 * 2 ^ 16 + tick % 2 ^ 16

/-- The present stamp64. -/
def Device.stamp (d : Device) : Nat := mkStamp d.clk.beat d.clk.tick

/-- The beat and tick that lie `x` ticks (at least one) before the start of beat `b`, from the lengths of the beats that
ended (R3, R28); before the first of them, a beat has the length `len`, and nothing lies before beat 0. -/
def backBeat (len : Nat) : List (Nat × Nat) → Nat → Nat → Nat × Nat
  | [], b, x => if b < cdiv x len then (0, 0) else (b - cdiv x len, cdiv x len * len - x)
  | (m, c) :: r, b, x => if x ≤ m * c then (b - cdiv x m, cdiv x m * m - x) else backBeat len r (b - c) (x - m * c)

/-- The beat and tick that lie `age` ticks back (R3). -/
def Device.ago (d : Device) (age : Nat) : Nat × Nat :=
  if age ≤ d.clk.tick then (d.clk.beat, d.clk.tick - age) else backBeat d.clk.len d.clk.past d.clk.beat (age - d.clk.tick)

/-- The stamp64 of an instant `age` ticks back. -/
def Device.stampAgo (d : Device) (age : Nat) : Nat := mkStamp (d.ago age).1 (d.ago age).2

/-- The lengths of ended beats with one more of length `l`. -/
def pushBeat (l : Nat) : List (Nat × Nat) → List (Nat × Nat)
  | [] => [(l, 1)]
  | (m, c) :: r => if m = l then (m, c + 1) :: r else ((l, 1) :: (m, c) :: r).take 64

/-- The stamp64 of the present beat's boundary. -/
def Device.stamp0 (d : Device) : Nat := mkStamp d.clk.beat 0

/-- The next free value and the block with its counter advanced. -/
def Device.fresh (d : Device) : BitVec 64 × Device := (Config.free64 d.free, { d with free := d.free + 1 })

/-- An event noted for the itinerary conditions (R308). -/
def Device.note (d : Device) (kind id : Nat) (arg : Int) : Device :=
  { d with it := { d.it with evs := d.it.evs ++ [⟨d.clk.beat, kind, id, arg⟩] } }

/-- Is the device held in reset, by the power-on reset (R543), by the JTAG reset instruction (R557) or by TEST_EN
(R541)? -/
def Device.inReset (d : Device) : Bool := d.pkg.porHold || d.pkg.jtagHold || d.pkg.testEn

/-- Work that takes no time: the clock stays as it is. -/
def Device.still (d : Device) (f : Device → Device) : Device := { f d with clk := d.clk }

/-- Work that takes no time unless it resets the device (R536), which starts the clock anew. -/
def Device.orReset (d : Device) (f : Device → Device) : Device :=
  let e := f d
  { e with clk := if e.clk = d.clk then d.clk else {} }

/-- A command's effect on the block that moves no time: the clock and the waiting commands stay as they are.  While reset
holds the device, no command reaches it (R536, R543). -/
def State.onDev (s : State) (f : Device → Device) : State :=
  if s.dev.inReset then s else { s with dev := s.dev.still f }

/-- The effect of a write by an access path, which may reset the device; none while reset holds it. -/
def State.onWrite (s : State) (f : Device → Device) : State :=
  if s.dev.inReset then s else { s with dev := s.dev.orReset f }

/-- The effect of the supplies, RESET_N and the TAP, which act while reset holds the device too. -/
def State.onPins (s : State) (f : Device → Device) : State := { s with dev := s.dev.orReset f }

/-- A command's effect on the block that may move its time; none while reset holds the device. -/
def State.onTime (s : State) (f : Device → Device) : State :=
  if s.dev.inReset then s else { s with dev := f s.dev }

/-! ### Ledger messages (R351, R352) and injections (R371) -/

/-- The kinds that R354 lists for a class are 1 up to this. -/
def lgKinds (c : Nat) : Nat :=
  match c with
  | 0 => 5 | 1 => 2 | 2 => 2 | 3 => 14 | 4 => 11 | 5 => 2 | 6 => 10 | 7 => 1
  | 8 => 4 | 9 => 1 | 10 => 6 | 11 => 8 | 12 => 9 | 13 => 6 | 14 => 5 | 15 => 3
  | _ => 0

/-- Adds a message to those that wait, merging it into a waiting one of the same CLASS, INSTANCE and KIND (R352). -/
def addMsg (m : LMsg) : List LMsg → List LMsg
  | [] => [m]
  | w :: ws =>
    if w.cls = m.cls ∧ w.inst = m.inst ∧ w.kind = m.kind then
      { w with detail := m.detail, injected := w.injected && m.injected, merged := true, repeats := w.repeats + 1 } :: ws
    else w :: addMsg m ws

/-- A detector sends a message to the ledger. -/
def Device.msg (d : Device) (cls inst kind detail : Nat) (injected : Bool := false) (runcnt : Bool := false) : Device :=
  let m : LMsg := { cls := cls, inst := inst, kind := kind, detail := BitVec.ofNat 32 detail, injected := injected,
                    runcnt := runcnt, at_ := d.clk.now }
  { d with ledger := { d.ledger with waiting := addMsg m d.ledger.waiting } }

/-- Is an injection pending at a point? -/
def Device.injPending (d : Device) (cls inst kind : Nat) : Bool := d.get (INJ_STATUS_REMAINING cls inst kind) != 0

/-- Takes one pending injection: its DETAIL, and the block with REMAINING one less. -/
def Device.injTake (d : Device) (cls inst kind : Nat) : Option (Nat × Device) :=
  let r := d.get (INJ_STATUS_REMAINING cls inst kind)
  if r = 0 then none
  else some (d.rdN (INJ_DETAIL cls inst kind), d.put (INJ_STATUS_REMAINING cls inst kind) (r - 1))

/-- One opportunity of a detector: on a real detection, or else on a pending injection, the local effects follow and
the message is sent, with INJECTED set for an injection (R371). -/
def Device.detect (d : Device) (cls inst kind : Nat) (real : Bool) (detail : Nat) (eff : Device → Device)
    (runcnt : Bool := false) : Device :=
  if real then (eff d).msg cls inst kind detail false runcnt
  else
    match d.injTake cls inst kind with
    | some (dt, d1) => (eff d1).msg cls inst kind dt true runcnt
    | none => d

/-! ### Bulk memory (R374–R381) -/

/-- The first and last address of the bulk memory window (R9). -/
def bulkBase : Nat := 0x01000000
/-- The address past the bulk memory window. -/
def bulkEnd : Nat := 0x03000000

/-- Does a range lie in the bulk memory window? -/
def inBulk (a n : Nat) : Bool := decide (bulkBase ≤ a) && decide (a + n ≤ bulkEnd)

/-- The key of a spare page's byte: spare pages have no address (R374). -/
def spareKey (bank spare off : Nat) : Nat := 0x100000000 + bank * 0x10000 + spare * 0x1000 + off

/-- The bank of a device address (R374). -/
def bankOf (a : Nat) : Nat := (a - bulkBase) / 0x200000

/-- Where a byte of bulk memory is kept: its own address, or its page's spare by the page map (R390). -/
def Device.bulkKey (d : Device) (a : Nat) : Nat :=
  match Store.get (fun _ => 0) d.mem.pageMap (a / 4096) with
  | 0 => a
  | s + 1 => spareKey (bankOf a) s (a % 4096)

/-- The stock loop area of bulk memory (R348, R392). -/
def stockBase : Nat := 0x02F40000

/-- What a byte of bulk memory that nothing has written reads as: the ROM image in the stock loop area, elsewhere 0
(notes/assumptions/5, 6). -/
def bulkDefault (k : Nat) : BitVec 8 :=
  if stockBase ≤ k ∧ k < stockBase + 0x20000 then Config.stockRom (k - stockBase) else 0

/-- A byte as it is kept. -/
def Device.cell (d : Device) (key : Nat) : BitVec 8 := Store.get bulkDefault d.bulk key

/-- The stored check bits of a kept byte XOR those its data would have (R375): 0 for a good byte. -/
def Device.cellErr (d : Device) (key : Nat) : Nat := Store.get (fun _ => 0) d.bulkErr key

/-- A kept byte written with its check bits (R376), `e` being the check bits' error; a stuck bit shows again (R379). -/
def Device.setCell (d : Device) (key : Nat) (v : BitVec 8) (e : Nat := 0) : Device :=
  let e1 := e ^^^ Store.get (fun _ => 0) d.mem.hard key
  { d with bulk := Store.set bulkDefault d.bulk key v, bulkErr := Store.set (fun _ => 0) d.bulkErr key e1 }

/-- The parity flag p of R377: the XOR of the 13 stored bits, which is the parity of the check bits' error. -/
def codeP (e : Nat) : Bool := parity 5 e

/-- R377: 0 no error, 1 correctable, 2 uncorrectable, from the check bits' error (its low four bits are s). -/
def codeStatus (e : Nat) : Nat :=
  let s := e % 16
  let p := codeP e
  if s = 0 && !p then 0
  else if s = 0 then 1
  else if p && decide (s ≤ 12) then 1
  else 2

/-- The data bit at a code position (R375), if the position holds one. -/
def codeDataBit (s : Nat) : Option Nat :=
  match s with
  | 3 => some 0
  | 5 => some 1
  | 6 => some 2
  | 7 => some 3
  | 9 => some 4
  | 10 => some 5
  | 11 => some 6
  | 12 => some 7
  | _ => none

/-- The corrected data of a correctable byte (R377). -/
def codeCorrect (v : BitVec 8) (e : Nat) : BitVec 8 :=
  match codeDataBit (e % 16) with
  | some i => v ^^^ BitVec.ofNat 8 (2 ^ i)
  | none => v

/-- The check bits of one byte (R375), c1 in bit 0 up to P in bit 4. -/
def checkBits (v : Nat) : Nat :=
  let d := fun i => bit v i
  let c1 := d 0 != (d 1 != (d 3 != (d 4 != d 6)))
  let c2 := d 0 != (d 2 != (d 3 != (d 5 != d 6)))
  let c4 := d 1 != (d 2 != (d 3 != d 7))
  let c8 := d 4 != (d 5 != (d 6 != d 7))
  let p := parity 8 v != (c1 != (c2 != (c4 != c8)))
  b2n c1 + 2 * b2n c2 + 4 * b2n c4 + 8 * b2n c8 + 16 * b2n p

/-- The byte a read delivers (an uncorrectable one as 0, R381) and its status. -/
def Device.peek1 (d : Device) (a : Nat) : BitVec 8 × Nat :=
  let k := d.bulkKey a
  let e := d.cellErr k
  match codeStatus e with
  | 0 => (d.cell k, 0)
  | 1 => (codeCorrect (d.cell k) e, 1)
  | _ => (0, 2)

/-- The bytes a read of a range delivers, without the effects of the read. -/
def Device.peek (d : Device) (a n : Nat) : List (BitVec 8) := (List.range n).map (fun i => (d.peek1 (a + i)).1)

/-- A little-endian number read from bulk memory, without the effects of the read. -/
def Device.peekN (d : Device) (a n : Nat) : Nat := ofLe (d.peek a n)

/-- One byte of bulk memory written (R376). -/
def Device.poke1 (d : Device) (a : Nat) (v : BitVec 8) : Device := d.setCell (d.bulkKey a) v

/-- Bytes written to bulk memory from an address. -/
def Device.poke (d : Device) (a : Nat) : List (BitVec 8) → Device
  | [] => d
  | b :: bs => (d.poke1 a b).poke (a + 1) bs

/-- Ticks of 24 h (R379). -/
def day : Nat := 24 * 3600 * 100000000

/-- MM_PAGE_SUSPECT for a page, at most once in any 24 h (R379). -/
def Device.pageSuspect (d : Device) (page : Nat) : Device :=
  let n := d.mem.notes.pick {} page
  if n.reported && decide (d.clk.now < n.reportedAt + day) then d
  else
    let d1 := { d with mem := { d.mem with notes := d.mem.notes.upd {} page fun n =>
      { n with reported := true, reportedAt := d.clk.now } } }
    (d1.raise GL_MEM_EVENT_SUSPECT).msg 10 (0x40 + bankOf (page * 4096)) 5 (page * 4096)

/-- One correctable read of a page counted, and the page reported at SUSPECT_CNT within 24 h (R379). -/
def Device.pageRead (d : Device) (page : Nat) : Device :=
  let n := d.mem.notes.pick {} page
  let reads := d.clk.now :: (n.reads.filter (fun t => decide (d.clk.now < t + day))).take 255
  let d1 := { d with mem := { d.mem with notes := d.mem.notes.upd {} page fun n => { n with reads := reads } } }
  if max 1 (d.get GL_MEM_CTRL_SUSPECT_CNT) ≤ reads.length then d1.pageSuspect page else d1

/-- R378: the corrected byte written back. -/
def Device.fix1 (d : Device) (a : Nat) : Device :=
  let k := d.bulkKey a
  d.setCell k (codeCorrect (d.cell k) (d.cellErr k))

/-- Is a bit of a byte hard (R379)? -/
def Device.isHard (d : Device) (a : Nat) : Bool := Store.get (fun _ => 0) d.mem.hard (d.bulkKey a) != 0

/-- The record of the latest memory error (R380, GL_MEM_LAST, GL_MEM_LAST_INFO), its counts and events. -/
def Device.memError (d : Device) (unc bulk prog : Bool) (unit lane synd detail : Nat) : Device :=
  let d1 := d.wrN GL_MEM_LAST detail
  let d2 := d1.wrN GL_MEM_LAST_INFO
    (b2n unc * 2 ^ 31 + b2n bulk * 2 ^ 30 + b2n prog * 2 ^ 29 + unit * 2 ^ 24 + lane * 2 ^ 8 + synd)
  if unc then (d2.incSat GL_MEM_CNT_UNCORR).raise GL_MEM_EVENT_UNCORR
  else (d2.incSat GL_MEM_CNT_CORR).raise GL_MEM_EVENT_CORR

/-- The effects of one access that finds errors (R378–R381): correctable bytes are written back and counted as one read of
their page, a hard bit reports it at once, and one message is sent. -/
def Device.accessErrors (d : Device) (a n : Nat) : Device :=
  let bad := (List.range n).filter (fun i => (d.peek1 (a + i)).2 != 0)
  let unc := bad.filter (fun i => (d.peek1 (a + i)).2 == 2)
  let corr := bad.filter (fun i => (d.peek1 (a + i)).2 == 1)
  match bad with
  | [] => d
  | b :: _ =>
    let isU := !unc.isEmpty
    let at' := match unc with
      | u :: _ => a + u
      | [] => a + b
    let synd := let e := d.cellErr (d.bulkKey at'); b2n (codeP e) * 16 + e % 16
    let d1 := corr.foldl (fun d i => d.fix1 (a + i)) d
    let d2 := if corr.isEmpty then d1 else d1.pageRead (a / 4096)
    let d3 := if corr.any (fun i => d.isHard (a + i)) then d2.pageSuspect (a / 4096) else d2
    (d3.memError isU true false (bankOf at') (at' % 8) synd at').msg 10 (0x40 + bankOf at') (if isU then 2 else 1) at'

/-- The effects of a read of a range, in accesses of up to 64 bits (R373). -/
def Device.readErrors (d : Device) (a n : Nat) : Device :=
  if (List.range n).all (fun i => (d.peek1 (a + i)).2 == 0) then d
  else
    (List.range ((a + n + 7) / 8 - a / 8)).foldl (fun d w =>
      let lo := max a (8 * (a / 8 + w))
      d.accessErrors lo (min (a + n) (8 * (a / 8 + w) + 8) - lo)) d

/-- A read of bulk memory: the bytes delivered, the first uncorrectable address, and the block after the read. -/
def Device.bulkRead (d : Device) (a n : Nat) : List (BitVec 8) × Option Nat × Device :=
  let unc := (List.range n).find? (fun i => (d.peek1 (a + i)).2 == 2)
  let d1 := (d.readErrors a n).detect 10 (0x40 + bankOf a) 5 false 0 (fun d => d.raise GL_MEM_EVENT_SUSPECT)
  match d1.injTake 10 (0x40 + bankOf a) 2 with
  | some (dt, d2) =>
    let k := 8 - a % 8
    (List.replicate (min n k) 0 ++ (d.peek a n).drop k, some a, (d2.memError true true false (bankOf a) (a % 8) 0 dt).msg 10 (0x40 + bankOf a) 2 dt true)
  | none =>
    let d3 := match d1.injTake 10 (0x40 + bankOf a) 1 with
      | some (dt, d2) =>
        ((d2.pageRead (a / 4096)).memError false true false (bankOf a) (a % 8) 0 dt).msg 10 (0x40 + bankOf a) 1 dt true
      | none => d1
    (d.peek a n, unc.map (a + ·), d3)

/-! ### Queues (R492–R495) -/

/-- The ring address of queue `q`. -/
def Device.qBase (d : Device) (q : Nat) : Nat := d.rdN (QU_BASE q)
/-- The number of entries of queue `q`; Q8 always has 16 (R492). -/
def Device.qSize (d : Device) (q : Nat) : Nat := if q = 8 then 16 else 2 ^ d.get (QU_CFG_LOG2 q)
/-- The payload slot of entry `i`. -/
def Device.qSlot (d : Device) (q i : Nat) : Nat := d.qBase q + 32 * d.qSize q + i * d.get (QU_CFG_SLOT q)
/-- Is the queue full: its next entry still in the ring (R494). -/
def Device.qFull (d : Device) (q : Nat) : Bool := decide (d.qSize q ≤ Store.get (fun _ => 0) d.qOcc q)

/-- The 16 DATA bytes and the CTRL word of a descriptor (R493). -/
def mkDesc (q kind src ref seq : Nat) (gap : Bool) (payload : List (BitVec 8)) : List (BitVec 8) :=
  let inl := decide (payload.length ≤ 16)
  let ctrl := q + 16 + b2n inl * 32 + b2n gap * 128 + kind % 256 * 256 + payload.length % 65536 * 65536
  leBytes ctrl 4 ++ leBytes seq 4 ++ leBytes src 4 ++ leBytes ref 4 ++
    (if inl then slice payload 0 16 else List.replicate 16 0)

/-- An entry placed on a queue that has room: descriptor and payload written, PROD, FILL and SEQ advanced, FULL raised
when the ring became full (R493, R494). -/
def Device.qAdd (d : Device) (q kind src ref : Nat) (payload : List (BitVec 8)) : Device :=
  let i := d.get (QU_PROD_INDEX q)
  let gap := Store.get (fun _ => 0) d.qGap q == 1
  let desc := mkDesc q kind src ref (d.rdN (QU_SEQ q)) gap payload
  let d1 := if payload.length ≤ 16 then d else d.poke (d.qSlot q i) payload
  let d2 := d1.poke (d.qBase q + 32 * i) desc
  let occ := Store.get (fun _ => 0) d2.qOcc q + 1
  let d3 := { d2 with qOcc := Store.set (fun _ => 0) d2.qOcc q occ, qGap := Store.set (fun _ => 0) d2.qGap q 0 }
  let d4 := ((d3.put (QU_PROD_INDEX q) ((i + 1) % d.qSize q)).put (QU_STATUS_FILL q) (d.get (QU_STATUS_FILL q) + 1)).wrN
    (QU_SEQ q) (d.rdN (QU_SEQ q) + 1)
  if d.qSize q ≤ occ then d4.raise (QU_EVENT_FULL q) else d4

/-- An entry of a queue whose KIND the spec does not give (R493): the KIND is a free value. -/
def Device.qAddAny (d : Device) (q src ref : Nat) (payload : List (BitVec 8)) : Device :=
  let (v, d1) := d.fresh
  d1.qAdd q v.toNat src ref payload

/-- An entry lost on a full queue: counted, LOST raised, and the next entry carries GAP (R495). -/
def Device.qLose (d : Device) (q : Nat) : Device :=
  let d1 := (d.incSat (QU_LOST_COUNT q)).raise (QU_EVENT_LOST q)
  { d1 with qGap := Store.set (fun _ => 0) d1.qGap q 1 }

/-- An entry placed, or lost when the queue is full (Q5, Q15 out). -/
def Device.qPut (d : Device) (q kind src ref : Nat) (payload : List (BitVec 8)) : Device :=
  if d.qFull q then d.qLose q else d.qAdd q kind src ref payload

/-- An event on Q5 with its 16-byte payload (R496). -/
def Device.q5 (d : Device) (kind : Nat) (payload : List (BitVec 8)) (ref : Nat := 0) : Device :=
  d.qPut 5 kind 0 ref (slice payload 0 16)

/-- An entry as it is read from its ring: CTRL, SEQ, SRC, REF, the payload, and whether it could be read. -/
structure QEntry where
  ctrl : Nat
  seq : Nat
  src : Nat
  ref : Nat
  payload : List (BitVec 8)
  ok : Bool
  deriving DecidableEq, Repr

/-- The KIND of an entry. -/
def QEntry.kind (e : QEntry) : Nat := bits e.ctrl 8 8
/-- OWN of an entry. -/
def QEntry.own (e : QEntry) : Bool := bit e.ctrl 4
/-- LEN of an entry. -/
def QEntry.len (e : QEntry) : Nat := bits e.ctrl 16 16

/-- The device's read of entry `i` of a queue (R494): the entry and the block after the read. -/
def Device.qRead (d : Device) (q i : Nat) : QEntry × Device :=
  let (ds, u1, d1) := d.bulkRead (d.qBase q + 32 * i) 32
  let ctrl := leAt ds 0 4
  let len := bits ctrl 16 16
  let (pl, u2, d2) := if len ≤ 16 then (slice ds 16 len, none, d1) else d1.bulkRead (d.qSlot q i) len
  ({ ctrl, seq := leAt ds 4 4, src := leAt ds 8 4, ref := leAt ds 12 4, payload := pl, ok := u1.isNone && u2.isNone }, d2)

/-- The OWN bit of entry `i`. -/
def Device.qOwn (d : Device) (q i : Nat) : Bool := bit (d.peekN (d.qBase q + 32 * i) 1) 4

/-- The oldest entries that are freed leave the ring. -/
def Device.qShrink (d : Device) (q : Nat) : Nat → Device
  | 0 => d
  | f + 1 =>
    let occ := Store.get (fun _ => 0) d.qOcc q
    let c := d.get (QU_CONS_INDEX q)
    if occ = 0 then d
    else if d.qOwn q c then d
    else
      let d1 := { d with qOcc := Store.set (fun _ => 0) d.qOcc q (occ - 1) }
      (d1.put (QU_CONS_INDEX q) ((c + 1) % d.qSize q)).qShrink q f

/-- Entry `i` freed: OWN returns to 0, and every freed oldest entry leaves the ring (R494). -/
def Device.qFree (d : Device) (q i : Nat) : Device :=
  let a := d.qBase q + 32 * i
  let b := (d.peek1 a).1
  let d1 := d.poke1 a (b &&& 0xEF)
  (d1.put (QU_STATUS_FILL q) (d.get (QU_STATUS_FILL q) - 1)).qShrink q (d.qSize q)

/-- The indices of the entries in a ring, oldest first. -/
def Device.qIndices (d : Device) (q : Nat) : List Nat :=
  (List.range (Store.get (fun _ => 0) d.qOcc q)).map (fun j => (d.get (QU_CONS_INDEX q) + j) % d.qSize q)

/-- The entries of a ring that are still owned by the consumer, oldest first. -/
def Device.qLive (d : Device) (q : Nat) : List Nat := (d.qIndices q).filter (fun i => d.qOwn q i)

/-! ### The table directory (R533, R534) -/

/-- The number of defined table indices (R533). -/
def tableCount : Nat := 0x122

/-- R533: the largest SIZE of a table index. -/
def tableMax (i : Nat) : Nat :=
  if i < 0x40 then 65568 else if i < 0xC0 then 140 else if i < 0xD0 then 96 else if i < 0xE0 then 1168
  else if i < 0x120 then 20752 else if i = 0x120 then 2304 else if i = 0x121 then 32768 else 0

/-- The bulk address of a table's active copy. -/
def Device.tblActive (d : Device) (i : Nat) : Nat :=
  if d.has (GL_TD_STATE_ACTIVE i) then d.rdN (GL_TD_BUF1 i) else d.rdN (GL_TD_BUF0 i)

/-- The bulk address of a table's shadow copy. -/
def Device.tblShadow (d : Device) (i : Nat) : Nat :=
  if d.has (GL_TD_STATE_ACTIVE i) then d.rdN (GL_TD_BUF0 i) else d.rdN (GL_TD_BUF1 i)

/-- The working copy of a table's active copy (R382). -/
def Device.tblWork (d : Device) (i : Nat) : List (BitVec 8) := (d.tables.pick {} i).work

/-- A table event on Q5 (R496, R559.6). -/
def Device.tblEvent (d : Device) (i code bad : Nat) : Device :=
  d.q5 5 (leBytes (i + code * 2 ^ 16 + bad * 2 ^ 24) 4 ++ leBytes 0 4 ++ leBytes d.stamp0 8)

/-! ### Holding registers (R7) -/

/-- The access paths of R7 by number: 0 session 0, 1 to 4 the write sessions, 5 JTAG, 6 + k engine k's bus port, 34 the
itinerary rounds, 35 the loader. -/
def pathJtag : Nat := 5
/-- The access path of engine `k`'s bus port. -/
def pathEngine (k : Nat) : Nat := 6 + k
/-- The access path of the itinerary rounds. -/
def pathRounds : Nat := 34
/-- The loader's writes. -/
def pathLoader : Nat := 35

/-- One path's holding registers changed. -/
def Device.setHold (d : Device) (p : Nat) (f : Hold → Hold) : Device := { d with hold := d.hold.upd {} p f }

end Sys2Proof.Machine
end

