-- ==== Sys2Proof/Machine/FbBase.lean ====
section
/-! DEFINITION. What the other units read of the feedback units: the position and speed that an axis's position loop
uses and a direct port's count (R173, R191, R201). -/

namespace Sys2Proof.Machine

/-- The feedback unit of axis `k`. -/
def Device.fb (d : Device) (k : Nat) : FbUnit := d.fbs.pick {} k
/-- The feedback unit of axis `k` changed. -/
def Device.setFb (d : Device) (k : Nat) (f : FbUnit → FbUnit) : Device := { d with fbs := d.fbs.upd {} k f }
/-- Direct port `p`. -/
def Device.port (d : Device) (p : Nat) : FbPort := d.ports.pick {} p
/-- Direct port `p` changed. -/
def Device.setPort (d : Device) (p : Nat) (f : FbPort → FbPort) : Device := { d with ports := d.ports.upd {} p f }

/-- The source that gives the position loop of axis `k` its sample: the secondary with DUAL, the primary otherwise and in
fallback (R191, R201). -/
def Device.posSrc (d : Device) (k : Nat) : Nat := if d.has (AX_FB_SRC_DUAL k) && !(d.fb k).fallback then 1 else 0

/-- The measured position that the position loop of axis `k` uses, pos64 (R191, R201). -/
def Device.fbPos (d : Device) (k : Nat) : Int :=
  let u := d.fb k
  if d.has (AX_FB_SRC_DUAL k) then (if u.fallback then u.pri.p + u.fbDiff else u.sec.p) else u.pri.p

/-- The speed estimate of axis `k` in 2⁻²⁴ count/tick. -/
def Device.fbVel (d : Device) (k : Nat) : Int := (d.fb k).pri.vel

/-- Is a port in a serial mode, SSI, BiSS-C or a frame-format table (R178)? -/
def Device.portSerial (d : Device) (p : Nat) : Bool :=
  decide (3 ≤ bits (d.port p).ctrl.toNat 0 3) && decide (bits (d.port p).ctrl.toNat 0 3 ≤ 5)

/-- The extended raw count of port `p` at the latest boundary that it sampled: captured at tick 0, or brought by the
beat's serial transfer (R175). -/
def Device.portR (d : Device) (p : Nat) : Int := if d.portSerial p then (d.port p).r else (d.port p).cap

/-- The speed estimate of a direct-port master, in 2⁻²⁴ raw unit/tick: the count difference over the latest beat.  R84
names the master's speed estimate and the feedback chapter gives a port none (DESIGN CHOICE, notes/assumptions/26). -/
def Device.portVel (d : Device) (p : Nat) : Int :=
  fdiv ((if d.portSerial p then (d.port p).r - (d.port p).cap else (d.port p).cap - (d.port p).capPrev) * 2 ^ 24) d.clk.len

/-- A loop parameter in force: the value of the latest applied commit (R119). -/
def Device.lpRd (d : Device) (a : Nat) : BitVec 32 := Store.get resetWord d.lp a
/-- A field of a loop parameter in force. -/
def Device.lpGet (d : Device) (f : Fld) : Nat := bits (d.lpRd f.addr).toNat f.lo f.width
/-- A loop parameter in force as a signed number. -/
def Device.lpS (d : Device) (a : Nat) : Int := toS 32 (d.lpRd a).toNat

end Sys2Proof.Machine
end

