-- ==== Sys2Proof/Machine/MsBase.lean ====
section
/-! DEFINITION. Milestone lists, their events and the withdrawal of scheduled pulses (R210, R220, R226): what the
planner and the convoys need of the milestones. -/

namespace Sys2Proof.Machine

/-- Milestone `m`. -/
def Device.ms (d : Device) (m : Nat) : Milestone := d.miles.pick {} m

/-- Milestone `m` changed, and its status fields with it (MS_STATUS, MS_NEXT, MS_SCHED). -/
def Device.setMs (d : Device) (m : Nat) (f : Milestone → Milestone) : Device :=
  let d1 := { d with miles := d.miles.upd {} m f }
  let s := d1.ms m
  let d2 := (((d1.put (MS_STATUS_FILL m) s.list.length).put (MS_STATUS_ARMED m) (b2n s.armed)).put
    (MS_STATUS_SCHED m) (b2n (!s.sched.isEmpty))).put (MS_STATUS_PULSE m) (b2n s.active)
  let d3 := match s.list with
    | e :: _ => d2.wrS64 (MS_NEXT m) e.pos
    | [] => d2.wr64 (MS_NEXT m) 0
  match s.sched with
  | p :: _ => d3.wr64 (MS_SCHED m) p.at_
  | [] => d3

/-- A milestone event on Q5 (R226), with its bit in MS_EVENT where the register has one. -/
def Device.msEvent (d : Device) (m kind : Nat) (e : MsEntry) (stamp : Nat) (late sampled merged : Bool := false) : Device :=
  let ctrl := m + kind * 2 ^ 8 + b2n late * 2 ^ 12 + b2n sampled * 2 ^ 13 + b2n merged * 2 ^ 14 + e.tag * 2 ^ 16
  let d0 := if kind = 5 then d else d.note 7 m (e.seq * 8 + kind : Nat)
  let d1 := d0.q5 3 (leBytes ctrl 4 ++ leBytes e.seq 4 ++ leBytes stamp 8)
  let d2 := if late then d1.raise (MS_EVENT_LATE m) else d1
  match kind with
  | 1 => d2.raise (MS_EVENT_FIRED m)
  | 2 => d2.raise (MS_EVENT_MISSED m)
  | 3 => d2.raise (MS_EVENT_WITHDRAWN m)
  | 4 => d2.raise (MS_EVENT_UNCONFIRMED m)
  | _ => d2

/-- The scheduled pulses of milestone `m` that start at or after `from_` are withdrawn (R220). -/
def Device.msWithdraw (d : Device) (m from_ : Nat) : Device :=
  let s := d.ms m
  let gone := s.sched.filter (fun p => decide (from_ ≤ p.at_))
  if gone.isEmpty then d
  else
    let d1 := d.setMs m fun s => { s with sched := s.sched.filter (fun p => decide (p.at_ < from_)) }
    gone.foldl (fun d p =>
      match s.list.find? (fun e => e.seq == p.seq) with
      | some e => d.msEvent m 3 e d.stamp
      | none => d) d1

/-- The milestones whose source rests on the plan of axis `k` (R220): its measured position or its set-point. -/
def Device.msOfAxis (d : Device) (k : Nat) : List Nat :=
  (List.range 16).filter (fun m => decide (d.get (MS_CTRL_SRC_KIND m) ≤ 1) && d.get (MS_CTRL_SRC_ID m) == k)

/-- The milestones on the path parameter of convoy `c`. -/
def Device.msOfConvoy (d : Device) (c : Nat) : List Nat :=
  (List.range 16).filter (fun m => d.get (MS_CTRL_SRC_KIND m) == 2 && d.get (MS_CTRL_SRC_ID m) == c)

/-- A squash accepted in this beat withdraws the pulses at or after the next boundary (R63, R220). -/
def Device.msSquash (d : Device) (ms : List Nat) : Device :=
  ms.foldl (fun d m => d.msWithdraw m (mkStamp (d.clk.beat + 1) 0)) d

end Sys2Proof.Machine
end

