-- ==== Sys2Proof/Machine/CyBase.lean ====
section
/-! DEFINITION. Convoys and gantry pairs as the route planner sees them (R61, R65, R84, R89): which axes are members, twins
and followers, and so which road-ahead rings one squash discards. -/

namespace Sys2Proof.Machine

/-- Convoy `c`. -/
def Device.cy (d : Device) (c : Nat) : Convoy := d.convoys.pick {} c
/-- Convoy `c` changed. -/
def Device.setCy (d : Device) (c : Nat) (f : Convoy → Convoy) : Device := { d with convoys := d.convoys.upd {} c f }

/-- The convoy states of GL_CY_STATUS. -/
def cyFREE : Nat := 0
/-- IDLE. -/
def cyIDLE : Nat := 1
/-- RUNNING. -/
def cyRUNNING : Nat := 2
/-- HOLDING. -/
def cyHOLDING : Nat := 3
/-- HELD. -/
def cyHELD : Nat := 4
/-- STOPPING. -/
def cySTOPPING : Nat := 5
/-- ENGAGED. -/
def cyENGAGED : Nat := 6

/-- The state of convoy `c` at this moment. -/
def Device.cyState (d : Device) (c : Nat) : Nat := d.liveGet (GL_CY_STATUS_STATE c)
/-- The state of convoy `c` changed. -/
def Device.setCyState (d : Device) (c st : Nat) : Device := d.livePut (GL_CY_STATUS_STATE c) st

/-- The used member slots of convoy `c` with their axes (GL_CY_MSEL). -/
def Device.cyMembers (d : Device) (c : Nat) : List (Nat × Nat) :=
  (List.range 8).filterMap (fun j =>
    if d.has (GL_CY_MSEL_USED c j) then some (j, d.get (GL_CY_MSEL_AXIS c j)) else none)

/-- The convoy and slot of a member axis, if it has one. -/
def Device.cyOf (d : Device) (k : Nat) : Option (Nat × Nat) :=
  (List.range 32).findSome? (fun c =>
    if d.cyState c = cyFREE then none
    else ((d.cyMembers c).find? (fun m => m.2 == k)).map (fun m => (c, m.1)))

/-- Is axis `k` a member of a path convoy? -/
def Device.cyInPath (d : Device) (k : Nat) : Bool :=
  match d.cyOf k with
  | some (c, _) => d.get (GL_CY_CTRL_KIND c) == 0
  | none => false

/-- The gantry pair of which an axis is the twin. -/
def Device.gpTwin (d : Device) (k : Nat) : Option Nat :=
  (List.range 16).find? (fun g => d.has (GL_GP_CTRL_EN g) && d.get (GL_GP_CTRL_TWIN g) == k)

/-- The gantry pair of which an axis is the primary. -/
def Device.gpPrimary (d : Device) (k : Nat) : Option Nat :=
  (List.range 16).find? (fun g => d.has (GL_GP_CTRL_EN g) && d.get (GL_GP_CTRL_PRIMARY g) == k)

/-- The engaged followers of the gear and cam convoys whose master is `id` of kind `mk` (R80, R82). -/
def Device.cyFollowersOf (d : Device) (mk id : Nat) : List Nat :=
  (List.range 32).flatMap (fun c =>
    if d.cyState c ≠ cyFREE ∧ d.get (GL_CY_CTRL_KIND c) ≠ 0 ∧ d.get (GL_CY_CTRL_MASTER_KIND c) = mk ∧
        d.get (GL_CY_CTRL_MASTER_ID c) = id then
      (d.cyMembers c).filterMap (fun m => if ((d.cy c).slots.pick {} m.1).mode = 1 then some m.2 else none)
    else [])

/-- The axes whose set-points rest directly on those of axis `k`: the twin of a gantry primary (R89) and the engaged
followers of a master axis (R84). -/
def Device.drivenBy (d : Device) (k : Nat) : List Nat :=
  ((List.range 16).filterMap (fun g =>
    if d.has (GL_GP_CTRL_EN g) = true ∧ d.get (GL_GP_CTRL_PRIMARY g) = k then some (d.get (GL_GP_CTRL_TWIN g)) else none)) ++
  d.cyFollowersOf 0 k

/-- The axes reached from `todo` through drivenBy, each once, in `n` steps at most. -/
def Device.reach (d : Device) : Nat → List Nat → List Nat → List Nat
  | 0, _, seen => seen
  | _, [], seen => seen
  | n + 1, k :: todo, seen => if seen.contains k then d.reach n todo seen else d.reach n (d.drivenBy k ++ todo) (seen ++ [k])

/-- The axes that axis `k` moves with it: itself and every axis whose set-points rest on its own.  512 steps reach them
all: 32 convoys of 8 followers and 16 twins are at most 272. -/
def Device.drawn (d : Device) (ks : List Nat) : List Nat := d.reach 512 ks []

end Sys2Proof.Machine
end

