-- ==== Sys2Proof/Machine/Profile.lean ====
section
/-! DEFINITION. Jerk-limited profiles (R36–R41, R48–R52): the internal forms, the evaluation of a profile, the
least-duration profile with its durations rounded up, and the exact solve for the jerks (notes/assumptions/10). -/

namespace Sys2Proof.Machine

/-! ### Internal forms (R36, R37): everything in units of 2⁻⁹⁶ count per power of a tick -/

/-- pos64 to three times the position. -/
def posIn (p : Int) : Int := 3 * p * 2 ^ 80

/-- A non-negative vel64 limit: × 10⁻⁸ to 8.56 counts/tick, toward zero. -/
def velIn (v : Nat) : Nat := v * 2 ^ 24 / 10 ^ 8 * 2 ^ 40

/-- A jog velocity: to nearest, ties away from zero. -/
def jogIn (v : Int) : Int := rdiv (v * 2 ^ 24) (10 ^ 8) * 2 ^ 40

/-- A non-negative acc64 limit: × 10⁻¹⁶, scaled by 2⁷⁶, toward zero. -/
def accIn (a : Nat) : Nat := a * 2 ^ 52 / 10 ^ 16 * 2 ^ 20

/-- A jrk64 limit: × 10⁻²⁴, scaled by 2⁹⁴, toward zero. -/
def jrkIn (j : Nat) : Nat := j * 2 ^ 78 / 10 ^ 24 * 4

/-- Division rounded to nearest, ties toward plus infinity (R37). -/
def rnd (a : Int) (b : Nat) : Int := (2 * a + b) / (2 * b : Nat)

/-- The position of a state as pos64 (R37). -/
def Kin.posOut (k : Kin) : Int := rnd k.p3 (3 * 2 ^ 80)
/-- The velocity of a state as vel64 (R37). -/
def Kin.velOut (k : Kin) : Int := rnd (k.v * 10 ^ 8) (2 ^ 64)
/-- The acceleration of a state as acc64 (R37). -/
def Kin.accOut (k : Kin) : Int := rnd (k.a * 10 ^ 16) (2 ^ 72)
/-- A velocity magnitude as vel64, toward zero. -/
def velOut (v : Nat) : Nat := v * 10 ^ 8 / 2 ^ 64

/-! ### Evaluation (R38) -/

/-- The state after `t` ticks of jerk `j` (R38). -/
def Kin.run (k : Kin) (j : Int) (t : Nat) : Kin :=
  let τ : Int := t
  { p3 := k.p3 + 3 * k.v * τ + 3 * k.a * τ * τ / 2 + j * τ * τ * τ / 2
    v := k.v + k.a * τ + j * τ * τ / 2
    a := k.a + j * τ }

/-- The state of a list of segments after `t` ticks, and of the final state beyond them. -/
def evalSegs (fin : Kin) : List Seg → Nat → Kin
  | [], t => { fin with p3 := fin.p3 + 3 * fin.v * (t : Int) }
  | g :: gs, t => if t < g.dur then g.s.run g.j t else evalSegs fin gs (t - g.dur)

/-- The state of a profile after `t` ticks. -/
def Profile.eval (p : Profile) (t : Nat) : Kin := evalSegs p.fin p.segs t

/-- A profile's total duration. -/
def Profile.dur (p : Profile) : Nat := (p.segs.map Seg.dur).sum

/-- Rest at a position. -/
def restAt (p3 : Int) : Profile := { segs := [], fin := { p3 := p3, v := 0, a := 0 } }

/-- Segments of given durations and jerks laid end to end from a state. -/
def chainSegs (s : Kin) : List (Nat × Int) → List Seg × Kin
  | [] => ([], s)
  | (d, j) :: r =>
    let (gs, e) := chainSegs (s.run j d) r
    ({ dur := d, j := j, s := s } :: gs, e)

/-! ### Least durations in continuous time, in 2⁻³² tick -/

/-- A duration of 2⁻³² tick rounded up to a whole tick; a value within 2⁻¹⁶ tick of a whole one is that one (R39). -/
def ceilT (q : Nat) : Nat :=
  let n := (q + 2 ^ 15) / 2 ^ 32
  let lo := n * 2 ^ 32
  if q < lo + 2 ^ 16 ∧ lo < q + 2 ^ 16 then n else cdiv q (2 ^ 32)

/-- A phase that changes velocity: durations of its three segments (2⁻³² tick), the sign of its acceleration and the
acceleration of its middle segment. -/
structure Phase where
  t1 : Nat
  t2 : Nat
  t3 : Nat
  acc : Int
  deriving DecidableEq, Repr

/-- The velocity that a state reaches when its acceleration is brought to 0 at the jerk `J`: no plan of less speed change
exists. -/
def easedVel (v0 a0 : Int) (J : Nat) : Int := if J = 0 then v0 else v0 + a0 * (a0.natAbs : Int) / (2 * J : Nat)

/-- The least-duration phase from (v0, a0) to (vt, 0) with |j| ≤ J and the acceleration bounds `up` and `dn` for a
rising and a falling velocity. -/
def phaseOf (v0 a0 vt : Int) (up dn J : Nat) : Phase :=
  if J = 0 then ⟨0, 0, 0, 0⟩
  else
    let vz := easedVel v0 a0 J
    let σ : Int := if vt < vz then -1 else 1
    let A : Nat := if vt < vz then dn else up
    let a := σ * a0
    let dv := σ * (vt - v0)
    let q := (J : Int) * dv + a * a / 2
    let ap := isqrt q.toNat
    if ap ≤ A ∨ A = 0 then
      ⟨((ap : Int) - a).natAbs * 2 ^ 32 / J, 0, ap * 2 ^ 32 / J, σ * ap⟩
    else if a ≤ (A : Int) then
      let rem := dv - ((A : Int) * A - a * a / 2) / (J : Int)
      ⟨((A : Int) - a).natAbs * 2 ^ 32 / J, rem.toNat * 2 ^ 32 / A, A * 2 ^ 32 / J, σ * A⟩
    else
      let rem := dv - a * a / (2 * J : Nat)
      ⟨(a - (A : Int)).natAbs * 2 ^ 32 / J, rem.toNat * 2 ^ 32 / A, A * 2 ^ 32 / J, σ * A⟩

/-- The displacement of a state over a jerk segment of `q` 2⁻³² ticks: position, in 2⁻⁹⁶ count, and the state's new
velocity, for an acceleration that runs from `a` to `b`. -/
def segMove (v a b : Int) (q : Nat) : Int × Int :=
  let t : Int := q
  -- p = v t + (2 a + b) t² / 6, v' = v + (a + b) t / 2
  (v * t / 2 ^ 32 + (2 * a + b) * t * t / (6 * 2 ^ 64), v + (a + b) * t / 2 ^ 33)

/-- The displacement of a phase. -/
def Phase.dist (p : Phase) (v0 a0 : Int) : Int :=
  let (d1, v1) := segMove v0 a0 p.acc p.t1
  let (d2, v2) := segMove v1 p.acc p.acc p.t2
  let (d3, _) := segMove v2 p.acc 0 p.t3
  d1 + d2 + d3

/-- The bounds of a plan: peak velocity, acceleration while the speed rises and falls in phase 1, deceleration of
phase 3, jerk. -/
structure Bounds where
  v : Nat
  up : Nat
  dn : Nat
  d : Nat
  j : Nat
  deriving DecidableEq, Repr

/-- The displacement of the plan with peak velocity `vp` and no cruise. -/
def planDist (b : Bounds) (v0 a0 : Int) (vp : Nat) : Int :=
  (phaseOf v0 a0 vp b.up b.dn b.j).dist v0 a0 + (phaseOf vp 0 0 b.d b.d b.j).dist vp 0

/-- The greatest peak velocity up to `hi` that covers at most `dist`, found bit by bit from `r` on. -/
def peakAux (total : Nat → Int) (dist : Int) (hi : Nat) : Nat → Nat → Nat
  | 0, r => r
  | f + 1, r => peakAux total dist hi f (if r + 2 ^ f ≤ hi ∧ total (r + 2 ^ f) ≤ dist then r + 2 ^ f else r)

/-- The peak velocity of the plan of least duration that covers `dist` without cruise, below the bound `hi`.  From the eased
velocity on, the distance grows with the peak, and a greater peak takes less time; where even the eased velocity covers too
much, the peak lies below it, above the lowest peak `lo`. -/
def peakOf (total : Nat → Int) (dist v0 a0 : Int) (J lo hi : Nat) : Nat :=
  let e := min hi (easedVel v0 a0 J).toNat
  if total e ≤ dist then peakAux total dist hi 112 e else peakAux total dist e 112 (min lo e)

/-! ### The exact solve (R39) -/

/-- The seven durations of a plan. -/
structure Durs where
  t1 : Nat
  t2 : Nat
  t3 : Nat
  t4 : Nat
  t5 : Nat
  t6 : Nat
  t7 : Nat
  deriving DecidableEq, Repr

/-- 2 × the velocity at the end of phase 1, as `k0 + k1 · A` in the acceleration A of segment 2. -/
def vel1 (v0 a0 : Int) (d : Durs) : Int × Int :=
  (2 * v0 + a0 * d.t1, (d.t1 : Int) + 2 * d.t2 + d.t3)

/-- 6 × the displacement of phase 1, as `k0 + k1 · A`. -/
def dist1 (v0 a0 : Int) (d : Durs) : Int × Int :=
  let t1 : Int := d.t1
  let t2 : Int := d.t2
  let t3 : Int := d.t3
  -- v1 = v0 + (a0 + A) t1/2 ; v2 = v1 + A t2 ; p = v0 t1 + (2 a0 + A) t1²/6 + v1 t2 + A t2²/2 + v2 t3 + A t3²/3
  (6 * v0 * t1 + 2 * a0 * t1 * t1 + (6 * v0 + 3 * a0 * t1) * (t2 + t3),
   t1 * t1 + 3 * t1 * (t2 + t3) + 3 * t2 * t2 + 6 * t2 * t3 + 2 * t3 * t3)

/-- Phase 3 from `vp` to `ve`: s × 6 × its displacement is `6 (vp · g + ve · h)`, with s = 3 (T5 + 2 T6 + T7), or 1 for
an empty phase. -/
def dist3 (d : Durs) : Int × Int × Int :=
  let t5 : Int := d.t5
  let t6 : Int := d.t6
  let t7 : Int := d.t7
  let s := t5 + 2 * t6 + t7
  let g6 := t5 * t5 + 3 * t5 * t6 + 3 * t6 * t6 + 3 * t5 * t7 + 6 * t6 * t7 + 2 * t7 * t7
  if s = 0 then (0, 0, 1) else (3 * s * (t5 + t6 + t7) - g6, g6, 3 * s)

/-- Solved phases: the segments with their jerks, or none if the conditions cannot be met with these durations. -/
structure Solved where
  j1 : Int
  j3 : Int
  j5 : Int
  j7 : Int
  vp : Int
  acc : Int
  dec : Int
  deriving DecidableEq, Repr

/-- A jerk solved as a fraction, rounded toward zero to 2⁻⁹⁴ (R36, R39). -/
def jerkRound (num den : Int) : Int := if den = 0 then 0 else 4 * tdiv num (4 * den)

/-- The solve of R39.  `total`: the displacement to the target, or none where the plan has no target and ends phase 1
at the velocity `vEnd`; with a target, phase 3 ends at `vEnd` (0, or a junction's cap, R75). -/
def solve (v0 a0 : Int) (d : Durs) (total : Option Int) (vEnd : Int) : Option Solved :=
  let (k0, k1) := vel1 v0 a0 d
  let (c0, c1) := dist1 v0 a0 d
  let (g, h, s3) := dist3 d
  -- the condition on A, as num = den · A, and the difference that rounding may leave: below 2⁻⁵⁶ count/tick of velocity
  -- (R36), and below 2⁻²⁴ count of position, which the end of segment 7 removes (R40)
  let cond : Int × Int × Nat :=
    match total with
    | none => (2 * vEnd - k0, k1, 2 ^ 41)
    | some dist =>
      -- 6 dist = c0 + c1 A + 3 (k0 + k1 A) (t4 + g / s3) + 6 vEnd h / s3
      (6 * dist * s3 - c0 * s3 - 3 * k0 * (d.t4 * s3 + g) - 6 * vEnd * h, c1 * s3 + 3 * k1 * (d.t4 * s3 + g),
       6 * s3.natAbs * 2 ^ 72)
  -- an empty segment 1 leaves A at a0, an empty segment 3 leaves it at 0
  let given : Int := if d.t3 = 0 then 0 else a0
  let frac : Option (Int × Int) :=
    if d.t1 = 0 ∨ d.t3 = 0 then
      (if (cond.1 - cond.2.1 * given).natAbs < cond.2.2 ∧ (d.t1 = 0 → a0 = given) then some (given, 1) else none)
    else if cond.2.1 = 0 then none else some (cond.1, cond.2.1)
  match frac with
  | none => none
  | some (num, den) =>
    let j1 := jerkRound (num - a0 * den) (den * d.t1)
    let j3 := jerkRound (-num) (den * d.t3)
    let vp2 := k0 * den + k1 * num      -- 2 vp den
    let s : Int := d.t5 + 2 * d.t6 + d.t7
    -- B = 2 (ve - vp) / s
    let bn := if total.isSome then 2 * vEnd * den - vp2 else 0
    let j5 := jerkRound bn (den * s * d.t5)
    let j7 := jerkRound (-bn) (den * s * d.t7)
    some ⟨j1, j3, j5, j7, vp2 / (2 * den), num / den, if s = 0 then 0 else bn / (den * s)⟩

/-- A magnitude rounded toward zero to a multiple of the internal resolution (R36). -/
def down (u : Nat) (x : Int) : Nat := x.natAbs / u * u

/-- One more tick for every segment of non-zero duration. -/
def bump (t : Nat) : Nat := if t = 0 then 0 else t + 1
/-- One tick for a segment of zero duration. -/
def give (t : Nat) : Nat := if t = 0 then 1 else t

/-- The adjusted solve (R39): durations grow until the conditions are met and no bound is exceeded. -/
def solveFit (b : Bounds) (v0 a0 : Int) (total : Option Int) (vEnd : Int) : Nat → Durs → Durs × Option Solved
  | 0, d => (d, solve v0 a0 d total vEnd)
  | f + 1, d =>
    match solve v0 a0 d total vEnd with
    | none => solveFit b v0 a0 total vEnd f { d with t1 := give d.t1, t3 := give d.t3 }
    | some s =>
      if total.isSome && decide (down 4 (s.vp - vEnd) ≠ 0) && (decide (d.t5 = 0) || decide (d.t7 = 0)) then
        solveFit b v0 a0 total vEnd f { d with t5 := give d.t5, t7 := give d.t7 }
      else
        let accLim := max (if 0 ≤ s.acc then b.up else b.dn) (if 0 ≤ s.acc * a0 then a0.natAbs else 0)
        let ex1 := decide (b.j < s.j1.natAbs) || decide (b.j < s.j3.natAbs) || decide (accLim < down (2 ^ 20) s.acc)
          || (total.isSome && decide (b.v < down (2 ^ 40) s.vp))
        let ex3 := decide (b.j < s.j5.natAbs) || decide (b.j < s.j7.natAbs) || decide (b.d < down (2 ^ 20) s.dec)
        if ex1 || (ex3 && total.isSome) then
          let d1 := if ex1 then { d with t1 := bump d.t1, t2 := bump d.t2, t3 := bump d.t3 } else d
          let d3 := if ex3 && total.isSome then { d1 with t5 := bump d.t5, t6 := bump d.t6, t7 := bump d.t7 } else d1
          solveFit b v0 a0 total vEnd f d3
        else (d, some s)

/-- The steps of `solveFit`: more than a plan of 2⁴⁰ ticks (R41) can take; few where a bound of 0, or `stuck`, leaves no
plan to find. -/
def Bounds.fuel (b : Bounds) (stuck : Bool) : Nat :=
  if stuck || decide (b.up = 0) || decide (b.dn = 0) || decide (b.d = 0) || decide (b.j = 0) then 64 else 2 ^ 40

/-- A phase to the velocity `vEnd` at zero acceleration and no target: a jog's phase 1, or a stop (R48, R52). -/
def planVel (s0 : Kin) (b : Bounds) (vEnd : Int) : Profile :=
  let ph := phaseOf s0.v s0.a vEnd b.up b.dn b.j
  let d0 : Durs := ⟨ceilT ph.t1, ceilT ph.t2, ceilT ph.t3, 0, 0, 0, 0⟩
  let (d, s) := solveFit b s0.v s0.a none vEnd (b.fuel false) d0
  match s with
  | none => { segs := [], fin := { s0 with v := vEnd, a := 0 } }
  | some s =>
    let (gs, e) := chainSegs s0 [(d.t1, s.j1), (d.t2, 0), (d.t3, s.j3)]
    { segs := gs, fin := { e with v := vEnd, a := 0 } }

/-- A quick stop without a jerk limit (R52): the acceleration steps to the deceleration and to 0 at rest.  Where the
velocity over QDEC is no whole number of ticks, its duration is the next whole one and the deceleration gives way, as R39
rounds every segment (DEDUCED, notes/assumptions/10). -/
def planHard (s0 : Kin) (dec : Nat) : Profile :=
  if s0.v = 0 ∨ dec = 0 then restAt s0.p3
  else
    let t := cdiv s0.v.natAbs dec
    let a := tdiv (-s0.v) (4 * t) * 4
    let s1 : Kin := { s0 with a := a }
    let e := s1.run 0 t
    { segs := [{ dur := t, j := 0, s := s1 }], fin := { p3 := e.p3, v := 0, a := 0 } }

/-- The direction of motion (R48): the sign of the velocity, or of the acceleration at zero velocity. -/
def Kin.dir (s : Kin) : Int := if s.v ≠ 0 then s.v.sign else s.a.sign

/-- The plan that covers `dist` (2⁻⁹⁶ count, forward) and ends at the velocity `ve` at most, at zero acceleration (R75):
where `ve` cannot be reached, phase 1 ends at the distance at the velocity it has reached. -/
def planTo (s0 : Kin) (dist : Int) (b : Bounds) (ve : Nat) : Profile :=
  let v0 := s0.v
  let a0 := s0.a
  let total := fun (vp : Nat) => (phaseOf v0 a0 vp b.up b.dn b.j).dist v0 a0 +
    (if ve < vp then (phaseOf vp 0 ve b.d b.d b.j).dist vp 0 else 0)
  let full := total b.v
  let vp := if full ≤ dist then b.v else peakOf total dist v0 a0 b.j ve b.v
  let p1 := phaseOf v0 a0 vp b.up b.dn b.j
  let p3 : Phase := if ve < vp then phaseOf vp 0 ve b.d b.d b.j else ⟨0, 0, 0, 0⟩
  let t4 := if full ≤ dist ∧ b.v ≠ 0 then (dist - full).toNat * 2 ^ 32 / b.v else 0
  let d0 : Durs := ⟨ceilT p1.t1, ceilT p1.t2, ceilT p1.t3, ceilT t4, ceilT p3.t1, ceilT p3.t2, ceilT p3.t3⟩
  -- a distance too short to slow down to `ve` within the bounds has no plan that keeps them
  let stuck := decide (b.v = 0) || decide (dist < total (min ve (easedVel v0 a0 b.j).toNat))
  let (d, s) := solveFit b v0 a0 (some dist) (min ve vp) (b.fuel stuck) d0
  match s with
  | none => planVel s0 ⟨0, b.d, b.d, b.d, b.j⟩ 0
  | some s =>
    let (gs, e) := chainSegs s0 [(d.t1, s.j1), (d.t2, 0), (d.t3, s.j3), (d.t4, 0), (d.t5, s.j5), (d.t6, 0), (d.t7, s.j7)]
    { segs := gs, fin := { p3 := s0.p3 + 3 * dist, v := e.v, a := 0 } }

/-- Where a state comes to rest under a deceleration and a jerk, in 2⁻⁹⁶ count from its own position. -/
def stopDist (s0 : Kin) (d j : Nat) : Int := (phaseOf s0.v s0.a 0 d d j).dist s0.v s0.a

/-- The plan to a target `p3` (R48): the mirrored least-duration profile, its durations rounded up and solved. -/
def planPos (s0 : Kin) (target : Int) (vmax amax dmax jmax : Nat) : Profile :=
  let dist := (target - s0.p3) / 3
  let d := dist - stopDist s0 dmax jmax
  if d = 0 then planVel s0 ⟨0, dmax, dmax, dmax, jmax⟩ 0
  else
    let σ := d.sign
    let v0 := σ * s0.v
    let a0 := σ * s0.a
    let same := decide (σ = s0.dir) || (decide (s0.v = 0) && decide (s0.a = 0))
    let lo := min amax dmax
    let b : Bounds := if same then ⟨vmax, amax, dmax, dmax, jmax⟩ else ⟨vmax, lo, lo, dmax, jmax⟩
    let D := σ * dist
    let full := planDist b v0 a0 vmax
    let vp := if full ≤ D then vmax else peakOf (planDist b v0 a0) D v0 a0 jmax 0 vmax
    let p1 := phaseOf v0 a0 vp b.up b.dn b.j
    let p3 := phaseOf vp 0 0 b.d b.d b.j
    let t4 := if full ≤ D ∧ vmax ≠ 0 then (D - full).toNat * 2 ^ 32 / vmax else 0
    let d0 : Durs := ⟨ceilT p1.t1, ceilT p1.t2, ceilT p1.t3, ceilT t4, ceilT p3.t1, ceilT p3.t2, ceilT p3.t3⟩
    let (d, s) := solveFit b v0 a0 (some D) 0 (b.fuel (decide (vmax = 0))) d0
    match s with
    | none => planVel s0 ⟨0, dmax, dmax, dmax, jmax⟩ 0
    | some s =>
      let (gs, _) := chainSegs s0 [(d.t1, σ * s.j1), (d.t2, 0), (d.t3, σ * s.j3), (d.t4, 0), (d.t5, σ * s.j5), (d.t6, 0),
        (d.t7, σ * s.j7)]
      { segs := gs, fin := { p3 := target, v := 0, a := 0 } }

end Sys2Proof.Machine
end

