-- ==== Sys2Proof/Machine/Planner.lean ====
section
/-! DEFINITION. The route planner of one axis (R35–R64): accepting and refusing changes, re-planning from the commit
point, squashes, the disable reaction and the commit at a beat boundary. -/

namespace Sys2Proof.Machine

/-- The planner states of AX_PL_STATUS. -/
def plIDLE : Nat := 0
/-- MOVING. -/
def plMOVING : Nat := 1
/-- JOGGING. -/
def plJOGGING : Nat := 2
/-- HOLDING. -/
def plHOLDING : Nat := 3
/-- HELD. -/
def plHELD : Nat := 4
/-- STOPPING. -/
def plSTOPPING : Nat := 5
/-- DISABLING. -/
def plDISABLING : Nat := 6
/-- FOLLOWING, a convoy member. -/
def plFOLLOWING : Nat := 7
/-- OFF. -/
def plOFF : Nat := 8

/-- The planner of axis `k`. -/
def Device.pl (d : Device) (k : Nat) : Planner := d.planners.pick {} k

/-- The planner of axis `k` changed. -/
def Device.setPl (d : Device) (k : Nat) (f : Planner → Planner) : Device := { d with planners := d.planners.upd {} k f }

/-- The planner state of axis `k` at this moment. -/
def Device.plState (d : Device) (k : Nat) : Nat := d.liveGet (AX_PL_STATUS_STATE k)

/-- The planner state changed. -/
def Device.setPlState (d : Device) (k st : Nat) : Device := d.livePut (AX_PL_STATUS_STATE k) st

/-- A planner refusal: REFUSE_LAST and the REFUSED event (AX_PL_STATUS, AX_PL_EVENT). -/
def Device.plRefuse (d : Device) (k code : Nat) : Device :=
  (d.livePut (AX_PL_STATUS_REFUSE_LAST k) code).raise (AX_PL_EVENT_REFUSED k)

/-- A planner event on Q5 (R496): 1 ARRIVED, 2 LIMIT_STOP, 3 STANDSTILL, 4 HELD; only while ARRIVE_EVT is 1. -/
def Device.plEvent (d : Device) (k code : Nat) : Device :=
  if d.has (AX_PL_CTRL_ARRIVE_EVT k) then
    d.q5 1 (leBytes (k + code * 2 ^ 8 + (d.pl k).gen % 2 ^ 16 * 2 ^ 16) 4 ++ leBytes 0 4 ++ leBytes d.stamp0 8)
  else d

/-- The lesser of two caps. -/
def minCap : Option Nat → Option Nat → Option Nat
  | some a, some b => some (min a b)
  | some a, none => some a
  | none, c => c

/-- The velocity cap in force: the axis's own SLS cap (R43) and what its followers' caps put on it (R85). -/
def Planner.topCap (p : Planner) : Option Nat := minCap p.cap p.mcap

/-- The velocity bound of R43 in internal form. -/
def Planner.bound (p : Planner) : Nat :=
  let b := match p.topCap with
    | some c => min p.lim.vmax c
    | none => p.lim.vmax
  if p.mode = 2 then min b p.jogVel.natAbs else b

/-- Does the cap or VMAX clip the jog velocity (R43)? -/
def Planner.clamped (p : Planner) : Bool := decide (p.mode = 2) && decide (p.bound < p.jogVel.natAbs)

/-- The deceleration and jerk in force for a controlled stop, with the deferral of R45. -/
def Planner.dj (p : Planner) : Nat × Nat := (p.lim.dmax, p.lim.jmax)

/-- The deceleration of a quick stop: QDEC, or DMAX if QDEC is 0 (R52). -/
def Planner.qd (p : Planner) : Nat := if p.lim.qdec = 0 then p.lim.dmax else p.lim.qdec

/-- The plan of a stop from a state: 2 quick, otherwise controlled (R52). -/
def Planner.planStop (p : Planner) (s0 : Kin) (kind : Nat) : Profile :=
  if s0.v = 0 ∧ s0.a = 0 then restAt s0.p3
  else if kind = 2 then
    match p.lim.qjrk with
    | none => planHard s0 p.qd
    | some q =>
      let j := if q = 0 then p.lim.jmax else q
      planVel s0 ⟨0, p.qd, p.qd, p.qd, j⟩ 0
  else planVel s0 ⟨0, p.lim.dmax, p.lim.dmax, p.lim.dmax, p.lim.jmax⟩ 0

/-- The soft limit in the direction of the jog velocity. -/
def Planner.softEnd (p : Planner) : Int := if p.jogVel < 0 then p.lim.smin else p.lim.smax

/-- The re-plan of R48 from the commit-point state `s0`. -/
def Planner.replan (p : Planner) (softEn : Bool) (s0 : Kin) : Profile :=
  if p.stop ≠ 0 then p.planStop s0 p.stop
  else if p.bound = 0 then p.planStop s0 1
  else if p.mode = 2 ∧ softEn = false then
    let σ := p.jogVel.sign
    let same := decide (σ = s0.dir) || (decide (s0.v = 0) && decide (s0.a = 0))
    let lo := min p.lim.amax p.lim.dmax
    -- in the frame of σ the speed rises toward +vp
    let up := if same then p.lim.amax else lo
    let dn := if same then p.lim.dmax else lo
    let b : Bounds := if σ < 0 then ⟨p.bound, dn, up, p.lim.dmax, p.lim.jmax⟩ else ⟨p.bound, up, dn, p.lim.dmax, p.lim.jmax⟩
    planVel s0 b (σ * p.bound)
  else if p.mode = 2 then planPos s0 p.softEnd p.bound p.lim.amax p.lim.dmax p.lim.jmax
  else if p.mode = 1 then planPos s0 p.target p.bound p.lim.amax p.lim.dmax p.lim.jmax
  else p.planStop s0 1

/-- The squash of one axis (R61): the generation and the count rise, SQUASHED is raised, predicted pulses are
withdrawn. -/
def Device.plSquash1 (d : Device) (k : Nat) : Device :=
  let d1 := d.setPl k fun p => { p with gen := p.gen + 1, age := 0 }
  (((d1.inc (AX_PL_SQUASHES_COUNT k)).raise (AX_PL_EVENT_SQUASHED k)).livePut (AX_PL_STATUS_DEPTH_VALID k) 0).msSquash
    (d1.msOfAxis k)

/-- A squash of several axes with every axis whose set-points rest on theirs (R61, R84). -/
def Device.plSquashes (d : Device) (ks : List Nat) : Device := (d.drawn ks).foldl Device.plSquash1 d

/-- A squash of axis `k`, of its gantry twin and of the followers of which it is the master (R61, R84). -/
def Device.plSquash (d : Device) (k : Nat) : Device := d.plSquashes [k]

/-- The beat in which a profile that starts at boundary `origin` ends (R40). -/
def Planner.endBeat (p : Planner) (len : Nat) : Nat := p.origin + cdiv p.prof.dur len

/-- AX_PL_ARRIVE, AX_PL_VCAP and CLAMPED after a plan. -/
def Device.plReport (d : Device) (k : Nat) : Device :=
  let p := d.pl k
  let arrive := if p.mode = 1 ∧ p.stop = 0 ∧ p.bound ≠ 0 ∧ d.plState k = plMOVING then p.endBeat d.clk.len else 0
  ((d.wr64 (AX_PL_ARRIVE k) (arrive % 2 ^ 48)).wr64 (AX_PL_VCAP k) (velOut p.bound)).livePut
    (AX_PL_STATUS_CLAMPED k) (b2n p.clamped)

/-- The offset of the SHIFTs that take effect at boundaries after `b`, in the unit of `Kin.p3`. -/
def Planner.ahead (p : Planner) (b : Nat) : Int := ((p.shifts.filter (fun x => decide (b < x.1))).map (fun x => posIn x.2)).sum

/-- The state that a change accepted in beat `b` is planned from (R46): the commit point, counted with the SHIFTs that take
effect after it (R58). -/
def Planner.start (p : Planner) (b : Nat) : Kin := { p.next with p3 := p.next.p3 + p.ahead (b + 1) }

/-- The plan of axis `k` put in force from the commit point of this beat (R46). -/
def Device.plInstall (d : Device) (k : Nat) : Device :=
  let p := d.pl k
  let prof := p.replan (d.has (AX_PL_CTRL_SOFT_EN k)) (p.start d.clk.beat)
  ((d.setPl k fun p => { p with prof := prof, origin := d.clk.beat + 1 }).plSquash k).plReport k

/-- R41: is the plan longer than 2⁴⁰ ticks? -/
def Device.plTooLong (d : Device) (k : Nat) : Bool :=
  let p := d.pl k
  decide (2 ^ 40 < (p.replan (d.has (AX_PL_CTRL_SOFT_EN k)) (p.start d.clk.beat)).dur)

/-- Any of VMAX, AMAX, DMAX, JMAX at 0. -/
def Limits.zero (l : Limits) : Bool :=
  decide (l.vmax = 0) || decide (l.amax = 0) || decide (l.dmax = 0) || decide (l.jmax = 0)

/-- A command that starts or replaces a move is refused in these states: AXIS_OFF, CONVOY, BUSY_STOP; 0 otherwise. -/
def plMoveCode (st : Nat) : Nat :=
  if st = plOFF ∨ st = plDISABLING then 4
  else if st = plFOLLOWING then 5
  else if st = plSTOPPING then 3
  else 0

/-- The outcome of a planner change: the refusal code (0: accepted) and the block after it. -/
abbrev Res := Nat × Device

/-- A refused planner change. -/
def Device.plNo (d : Device) (k code : Nat) : Res := (code, d.plRefuse k code)

/-- Takes a new target (mode 1) or jog velocity (mode 2): R48, R51, R53, R54, R41. -/
def Device.plStart (d : Device) (k mode : Nat) (target jog : Int) : Res :=
  let st := d.plState k
  let p := d.pl k
  let code := plMoveCode st
  let soft := d.has (AX_PL_CTRL_SOFT_EN k)
  if code ≠ 0 then d.plNo k code
  else if p.lim.zero then d.plNo k 2
  else if mode = 1 ∧ soft = true ∧ (target < p.lim.smin ∨ p.lim.smax < target) then d.plNo k 1
  else
    let d1 := d.setPl k fun p => { p with mode := mode, target := target, jogVel := jog, moveId := p.moveId + 1 }
    if st = plHOLDING ∨ st = plHELD then (0, d1.plReport k)
    else if d1.plTooLong k then d.plNo k 10
    else (0, (d1.setPlState k (if mode = 1 then plMOVING else plJOGGING)).plInstall k)

/-- The limits of the shadow registers in internal form, or none if one of them is negative (R42, BAD_LIMIT). -/
def Device.plShadow (d : Device) (k : Nat) : Option Limits :=
  let v := d.rdS64 (AX_PL_VMAX k)
  let a := d.rdS64 (AX_PL_AMAX k)
  let dm := d.rdS64 (AX_PL_DMAX k)
  let q := d.rdS64 (AX_PL_QDEC k)
  let qj := d.rd64 (AX_PL_QJRK k)
  if v < 0 ∨ a < 0 ∨ dm < 0 ∨ q < 0 then none
  else some
    { vmax := velIn v.toNat, amax := accIn a.toNat, dmax := accIn dm.toNat, jmax := jrkIn (d.rd64 (AX_PL_JMAX k))
      qdec := accIn q.toNat, qjrk := if qj = 2 ^ 64 - 1 then none else some (jrkIn qj)
      smin := posIn (d.rdS64 (AX_PL_SOFT_MIN k)), smax := posIn (d.rdS64 (AX_PL_SOFT_MAX k)) }

/-- Would the axis, moving from `s0` toward its target, pass it under the limits `l` (R45)? -/
def Planner.passes (p : Planner) (s0 : Kin) (l : Limits) : Bool :=
  decide (p.mode = 1) && decide (p.stop = 0) && decide (s0.dir ≠ 0) && decide (0 ≤ (p.target - s0.p3) * s0.dir) &&
    decide (((p.target - s0.p3) / 3 - stopDist s0 l.dmax l.jmax).sign = -s0.dir)

/-- Can the axis no longer reach its target without passing it, once the limits `l` replace those in force (R45)? -/
def Planner.overshoots (p : Planner) (s0 : Kin) (l : Limits) : Bool :=
  (decide (l.dmax < p.lim.dmax) || decide (l.jmax < p.lim.jmax)) && p.passes s0 l && !p.passes s0 p.lim

/-- LIMITS (R42, R44, R45): the limits `new` (none: one of them is negative) are taken into use and the axis is re-planned
from the commit point. -/
def Device.plDoLimits (d : Device) (k : Nat) (new : Option Limits) : Res :=
  let st := d.plState k
  let p := d.pl k
  if st = plDISABLING then d.plNo k 4
  else if st = plFOLLOWING then d.plNo k 5
  else
    match new with
    | none => d.plNo k 7
    | some l =>
      if l.zero && decide (st ≠ plIDLE) && decide (st ≠ plOFF) then d.plNo k 2
      else
        let beyond := decide (st = plMOVING) && p.overshoots (p.start d.clk.beat) l
        let noOver := d.has (AX_PL_CTRL_NO_OVERSHOOT k)
        let l2 := if beyond && noOver then { l with dmax := max l.dmax p.lim.dmax, jmax := max l.jmax p.lim.jmax } else l
        let defer := if beyond && noOver then some (l.dmax, l.jmax) else none
        let d1 := d.setPl k fun p => { p with lim := l2, defer := defer }
        let d2 := d1.livePut (AX_PL_STATUS_LIMIT_DEFERRED k) (b2n (beyond && noOver))
        if st = plOFF ∨ st = plIDLE ∨ st = plHELD then (0, d2.plReport k)
        else if d2.plTooLong k then d.plNo k 10
        else
          let d3 := if beyond && !noOver then d2.raise (AX_PL_EVENT_OVERSHOOT k) else d2
          (0, d3.plInstall k)

/-- HOLD (R54). -/
def Device.plDoHold (d : Device) (k : Nat) : Res :=
  let st := d.plState k
  let code := plMoveCode st
  if code ≠ 0 then d.plNo k code
  else if st = plIDLE ∨ st = plHELD ∨ st = plHOLDING then (0, d)
  else
    let d1 := d.setPl k fun p => { p with stop := 3 }
    if d1.plTooLong k then d.plNo k 10 else (0, (d1.setPlState k plHOLDING).plInstall k)

/-- RESUME (R54): re-plans toward the kept target or velocity. -/
def Device.plDoResume (d : Device) (k : Nat) : Res :=
  let st := d.plState k
  let code := plMoveCode st
  if code ≠ 0 then d.plNo k code
  else if st ≠ plHOLDING ∧ st ≠ plHELD then d.plNo k 6
  else
    let d1 := d.setPl k fun p => { p with stop := 0 }
    if d1.plTooLong k then d.plNo k 10
    else
      let d2 := (d1.setPlState k (if (d.pl k).mode = 2 then plJOGGING else plMOVING)).plInstall k
      (0, d2.setPl k fun p => { p with resGen := p.gen })

/-- A stop of a kind begun on an axis that moves or holds; it discards the target (R52, R53). -/
def Device.plBeginStop (d : Device) (k kind st : Nat) : Device :=
  ((d.setPl k fun p => { p with stop := kind, mode := 0 }).setPlState k st).plInstall k

/-- A STOP (kind 1) or QSTOP (kind 2) that a command asks for: refused with DURATION where its plan is too long (R41). -/
def Device.plAskStop (d : Device) (k kind : Nat) : Res :=
  if (d.setPl k fun p => { p with stop := kind, mode := 0 }).plTooLong k then d.plNo k 10
  else (0, d.plBeginStop k kind plSTOPPING)

/-- STOP (R52, R53): no effect in IDLE, during a stop of its own kind or a quick stop. -/
def Device.plDoStop (d : Device) (k : Nat) : Res :=
  let st := d.plState k
  if st = plOFF ∨ st = plDISABLING then d.plNo k 4
  else if st = plFOLLOWING then d.plNo k 5
  else if st = plIDLE ∨ st = plSTOPPING then (0, d)
  else d.plAskStop k 1

/-- QSTOP (R52, R53): re-plans a controlled stop under the quick-stop bounds. -/
def Device.plDoQstop (d : Device) (k : Nat) : Res :=
  let st := d.plState k
  if st = plOFF ∨ st = plDISABLING then d.plNo k 4
  else if st = plFOLLOWING then d.plNo k 5
  else if st = plIDLE ∨ (st = plSTOPPING ∧ (d.pl k).stop = 2) then (0, d)
  else d.plAskStop k 2

/-- SHIFT by a pos64 offset (R58): accepted in IDLE and HELD; it takes effect at boundary n + 2. -/
def Device.plDoShift (d : Device) (k : Nat) (off : Int) : Res :=
  let st := d.plState k
  if st = plOFF ∨ st = plDISABLING then d.plNo k 4
  else if st = plFOLLOWING then d.plNo k 5
  else if st = plSTOPPING then d.plNo k 3
  else if st ≠ plIDLE ∧ st ≠ plHELD then d.plNo k 9
  else if off % 2 ^ 16 ≠ 0 then d.plNo k 8
  else
    let d1 := d.setPl k fun p =>
      { p with prof := restAt ((p.start d.clk.beat).p3 + posIn off), origin := d.clk.beat + 1, target := p.target + posIn off,
               shifts := p.shifts ++ [(d.clk.beat + 2, off)] }
    (0, d1.plSquash k)

/-- A QSTOP from the tollgate, a ride-through or the ledger's HOLD: never refused, and none in OFF or IDLE (R55, R57). -/
def Device.plDoQuick (d : Device) (k : Nat) : Device :=
  let st := d.plState k
  if st = plOFF ∨ st = plIDLE ∨ st = plFOLLOWING then d
  else if (st = plSTOPPING ∨ st = plDISABLING) ∧ (d.pl k).stop = 2 then d
  else d.plBeginStop k 2 (if st = plDISABLING then plDISABLING else plSTOPPING)

/-- A STOP from the ledger: never refused; none in OFF, IDLE, during a quick stop or a disable reaction (R55, R57). -/
def Device.plDoSlow (d : Device) (k : Nat) : Device :=
  let st := d.plState k
  if st = plOFF ∨ st = plIDLE ∨ st = plFOLLOWING ∨ st = plSTOPPING ∨ st = plDISABLING then d
  else d.plBeginStop k 1 plSTOPPING

/-- The disable reaction (R55): a quick stop or a controlled stop by DIS_REACT; an axis in IDLE or HELD goes straight
to the OFF_DELAY wait, from the first boundary after the acceptance. -/
def Device.plDoDisable (d : Device) (k : Nat) : Device :=
  let st := d.plState k
  let p := d.pl k
  if st = plOFF ∨ st = plDISABLING then d
  else
    let d1 := d.setPl k fun p => { p with rested := none }
    let ctl := d.has (AX_PL_CTRL_DIS_REACT k)
    if st = plIDLE then (d1.setPl k fun p => { p with mode := 0 }).setPlState k plDISABLING
    else if st = plSTOPPING ∧ (p.stop = 2 ∨ ctl = true) then d1.setPlState k plDISABLING
    else if st = plHOLDING ∧ ctl = true then
      (d1.setPl k fun p => { p with mode := 0, stop := 1 }).setPlState k plDISABLING
    else d1.plBeginStop k (if ctl then 1 else 2) plDISABLING

/-! ### The changes of one tick (R48) -/

/-- The place of a change in its tick (R48). -/
def PlReq.rank : PlReq → Nat
  | .quick r => r
  | .disable => 2
  | .qstop => 3
  | .slow => 4
  | .stop => 4
  | .hold => 5
  | .resume => 5
  | .limits _ r => r
  | .shift _ => 7
  | .go _ => 8
  | .jog _ => 8

/-- A change taken as the planner stands. -/
def Device.plDo (d : Device) (k : Nat) : PlReq → Res
  | .quick _ => (0, d.plDoQuick k)
  | .slow => (0, d.plDoSlow k)
  | .disable => (0, d.plDoDisable k)
  | .qstop => d.plDoQstop k
  | .stop => d.plDoStop k
  | .hold => d.plDoHold k
  | .resume => d.plDoResume k
  | .limits l _ => d.plDoLimits k l
  | .shift off => d.plDoShift k off
  | .go target => d.plStart k 1 (posIn target) 0
  | .jog vel => d.plStart k 2 0 (jogIn vel)

/-- A change put behind those of its own rank and of the ranks before it. -/
def insReq (r : PlReq) : List PlReq → List PlReq
  | [] => [r]
  | q :: qs => if r.rank < q.rank then r :: q :: qs else q :: insReq r qs

/-- A planner without what a change leaves to the plan: its profile, its generation and the caps of others. -/
def Planner.asked (p : Planner) : Planner :=
  { p with prof := {}, origin := 0, gen := 0, cpGen := 0, age := 0, resGen := 0, cap := none, mcap := none }

/-- The changes that axis `k` has taken in this tick, as long as nothing else has changed its planner since. -/
def Device.plHist (d : Device) (k : Nat) : List PlReq :=
  let t := d.plTicks.pick {} k
  if t.at_ = d.clk.now + 1 ∧ t.after = (d.pl k).asked ∧ t.afterSt = d.plState k then t.reqs else []

/-- The planner of axis `k` as it stood before the changes of this tick; squashes and velocity caps stay. -/
def Device.plBack (d : Device) (k : Nat) : Device :=
  let t := d.plTicks.pick {} k
  let d1 := { d with live := Store.set resetWord d.live (AX_PL_STATUS k) t.baseSt }
  let d2 := (d1.livePut (AX_PL_STATUS_DEPTH_VALID k) (d.liveGet (AX_PL_STATUS_DEPTH_VALID k))).livePut (AX_PL_STATUS_SLS_CAP k)
    (d.liveGet (AX_PL_STATUS_SLS_CAP k))
  (d2.setPl k fun p => { t.base with gen := p.gen, cpGen := p.cpGen, age := p.age, cap := p.cap, mcap := p.mcap }).plReport k

/-- The changes `rs` taken one after the other, with the code of the latest one that is `r`. -/
def Device.plRun (d : Device) (k : Nat) (r : PlReq) (rs : List PlReq) : Res :=
  rs.foldl (fun (a : Res) q =>
    let (c, e) := a.2.plDo k q
    (if q = r then c else a.1, e)) (0, d)

/-- A change that reaches the planner at this tick (R48): taken after the earlier ones of the tick, or, where R48 puts it
before one of them, from the state before them and the others again after it. -/
def Device.plAsk (d : Device) (k : Nat) (r : PlReq) : Res :=
  let hist := d.plHist k
  let reqs := insReq r hist
  let t := d.plTicks.pick {} k
  let base := if hist.isEmpty then (d.pl k, Store.get resetWord d.live (AX_PL_STATUS k)) else (t.base, t.baseSt)
  let (c, e) := if hist.any (fun q => decide (r.rank < q.rank)) then (d.plBack k).plRun k r reqs else d.plDo k r
  (c, { e with plTicks := e.plTicks.upd {} k fun _ =>
    { at_ := d.clk.now + 1, reqs := reqs, base := base.1, baseSt := base.2, after := (e.pl k).asked, afterSt := e.plState k } })

/-- GO toward a pos64 target. -/
def Device.plGo (d : Device) (k : Nat) (target : Int) : Res := d.plAsk k (.go target)

/-- JOG at a vel64 velocity. -/
def Device.plJog (d : Device) (k : Nat) (vel : Int) : Res := d.plAsk k (.jog vel)

/-- LIMITS with the shadow limits (R42), at the rank of its own command or of the MOVE that carries it. -/
def Device.plLimits (d : Device) (k : Nat) (rank : Nat := 6) : Res := d.plAsk k (.limits (d.plShadow k) rank)

/-- HOLD. -/
def Device.plHold (d : Device) (k : Nat) : Res := d.plAsk k .hold

/-- RESUME. -/
def Device.plResume (d : Device) (k : Nat) : Res := d.plAsk k .resume

/-- STOP. -/
def Device.plStop (d : Device) (k : Nat) : Res := d.plAsk k .stop

/-- QSTOP. -/
def Device.plQstop (d : Device) (k : Nat) : Res := d.plAsk k .qstop

/-- SHIFT by a pos64 offset. -/
def Device.plShift (d : Device) (k : Nat) (off : Int) : Res := d.plAsk k (.shift off)

/-- A quick stop that is never refused, at the rank of the demand it comes from. -/
def Device.plForceQstop (d : Device) (k rank : Nat) : Device := (d.plAsk k (.quick rank)).2

/-- A stop of the ledger. -/
def Device.plForceStop (d : Device) (k : Nat) : Device := (d.plAsk k .slow).2

/-- The disable reaction. -/
def Device.plDisable (d : Device) (k : Nat) : Device := (d.plAsk k .disable).2

/-- A write of AX_PL_DEPTH (R60): 1 to 64 takes effect at the next boundary and squashes; other values are ignored. -/
def Device.plDepth (d : Device) (k v : Nat) : Device :=
  let n := v % 128
  if n = 0 ∨ 64 < n then d
  else (d.put (AX_PL_DEPTH_DEPTH k) n).plSquash k

/-- The states a deferred limit change waits for: rest (R45). -/
def Device.plRest (d : Device) (k : Nat) : Device :=
  match (d.pl k).defer with
  | none => d
  | some (dm, jm) =>
    (d.setPl k fun p => { p with defer := none, lim := { p.lim with dmax := dm, jmax := jm } }).livePut
      (AX_PL_STATUS_LIMIT_DEFERRED k) 0

/-- The planner is switched OFF: torque removed, the committed position follows the measured one (R56), and a deferred
limit change waits no longer (R45).  DEPTH_VALID keeps its last value, though no entry of the road ahead is valid (DESIGN
CHOICE, notes/assumptions/28). -/
def Device.plOff (d : Device) (k : Nat) : Device :=
  (((d.plRest k).setPl k fun p => { p with mode := 0, stop := 0, rested := none }).setPlState k plOFF).plReport k

/-- On enable the planner starts in IDLE from the measured position (R56). -/
def Device.plEnable (d : Device) (k : Nat) (pos : Int) : Device :=
  let s : Kin := { p3 := posIn pos }
  (d.setPl k fun p => { p with mode := 0, stop := 0, prof := restAt s.p3, origin := d.clk.beat, cur := s, next := s, age := 1,
                               rested := none }).setPlState k plIDLE

/-- What the end of a profile does at the boundary that commits it: ARRIVED (R40), LIMIT_STOP (R51), STANDSTILL (R53),
HELD (R54), the rest of a disable reaction (R55), the rest under a velocity bound of 0 (R43).  A GO accepted in the beat
whose commit-point entry is the old target at rest replaces the profile, and the old move raises no ARRIVED (DESIGN CHOICE,
notes/assumptions/28). -/
def Device.plEnded (d : Device) (k : Nat) : Device :=
  let st := d.plState k
  let p := d.pl k
  let rest := fun (d : Device) => (d.setPl k fun p => { p with mode := 0, stop := 0 }).plRest k
  let mark := fun (f : Planner → Planner) => d.setPl k f
  if st = plMOVING ∧ p.bound ≠ 0 then
    ((((rest (mark fun p => { p with arrGen := some p.gen })).setPlState k plIDLE).raise (AX_PL_EVENT_ARRIVED k)).plEvent k 1).plReport k
  else if st = plJOGGING ∧ p.bound ≠ 0 ∧ d.has (AX_PL_CTRL_SOFT_EN k) = true ∧ p.prof.fin.v = 0 then
    (((rest (mark fun p => { p with limGen := some p.gen })).setPlState k plIDLE).raise (AX_PL_EVENT_LIMIT_STOP k)).plEvent k 2
  else if st = plSTOPPING then
    (((rest d).setPlState k plIDLE).raise (AX_PL_EVENT_STANDSTILL k)).plEvent k 3
  else if st = plHOLDING then
    (((d.plRest k).setPlState k plHELD).raise (AX_PL_EVENT_HELD k)).plEvent k 4
  else if st = plDISABLING ∧ p.rested = none then
    let d1 := (d.setPl k fun p => { p with rested := some d.clk.beat, mode := 0 }).plRest k
    if p.stop ≠ 0 then (d1.raise (AX_PL_EVENT_STANDSTILL k)).plEvent k 3 else d1
  else if (st = plMOVING ∨ st = plJOGGING) ∧ p.bound = 0 then d.plRest k
  else d

/-- The committed set-point as software reads it (R35, R37). -/
def Device.plShow (d : Device) (k : Nat) : Device :=
  let s := (d.pl k).cur
  ((d.wrS64 (AX_PL_SP_POS k) s.posOut).wrS64 (AX_PL_SP_VEL k) s.velOut).wrS64 (AX_PL_SP_ACC k) s.accOut

/-- DEPTH_VALID in the snapshot of this boundary (R62): 0, then a free value from 1 to DEPTH, then DEPTH. -/
def Device.plAge (d : Device) (k : Nat) : Device :=
  let p := d.pl k
  let depth := d.get (AX_PL_DEPTH_DEPTH k)
  let a := p.age + 1
  let d1 := d.setPl k fun p => { p with age := min a 3, cpGen := p.gen }
  if a = 1 then d1.livePut (AX_PL_STATUS_DEPTH_VALID k) 0
  else if a = 2 then
    let (x, d2) := d1.fresh
    d2.livePut (AX_PL_STATUS_DEPTH_VALID k) (1 + x.toNat % depth)
  else d1.livePut (AX_PL_STATUS_DEPTH_VALID k) depth

/-- The planner's commit at the boundary of beat `clk.beat` for an axis under its own planner (R35, R60); `measured` is
the axis's measured position as pos64, which an axis in OFF commits (R56). -/
def Device.plCommit (d : Device) (k : Nat) (measured : Int) : Device :=
  let p := d.pl k
  let b := d.clk.beat
  if d.plState k = plOFF then
    let s : Kin := { p3 := posIn measured }
    (d.setPl k fun p => { p with cur := s, next := s, prof := restAt s.p3, origin := b }).plShow k
  else
    let nx := p.prof.eval ((b + 1 - p.origin) * d.clk.len)
    let d1 := (d.setPl k fun p => { p with cur := p.next, next := nx }).plAge k
    let d2 := if p.origin ≤ b ∧ p.prof.dur ≤ (b - p.origin) * d.clk.len then d1.plEnded k else d1
    d2.plShow k

/-- Entry `i` of the road ahead (R60, R64): 0 is the commit-point entry. -/
def Device.roadAhead (d : Device) (k i : Nat) : Kin :=
  let p := d.pl k
  if i = 0 then p.next else p.prof.eval ((d.clk.beat + 1 + i - p.origin) * d.clk.len)

/-- AX_PL_RA_META of entry `i`: the entry's generation and whether it is valid (R62, R64). -/
def Device.raMeta (d : Device) (k i : Nat) : Nat :=
  let p := d.pl k
  let valid := decide (d.plState k ≠ plOFF) && (decide (i = 0) || decide (i ≤ d.liveGet (AX_PL_STATUS_DEPTH_VALID k)))
  (if i = 0 then p.cpGen else p.gen) % 2 ^ 16 * 2 ^ 16 + b2n valid

end Sys2Proof.Machine
end

