-- ==== Sys2Proof/Machine/Trig.lean ====
section
/-! DEFINITION. Sines, cosines and angles in fixed point, by exact integer arithmetic (arcs of R70, the angle of R107
and the load angle of R207).  Angles are in units of 2⁻⁶⁴ turn, values in units of 2⁻⁶⁰. -/

namespace Sys2Proof.Machine

/-- 2π in units of 2⁻⁶⁰. -/
def twoPi60 : Int := 7244019458077122842

/-- The Taylor terms of a sine or cosine: `t` the present term, `k` its index, `x2` the squared angle. -/
def taylor (x2 : Int) : Nat → Nat → Int → Int
  | 0, _, t => t
  | f + 1, k, t => t + taylor x2 f (k + 2) (-(t * x2 / 2 ^ 60) / (k * (k + 1) : Nat))

/-- Cosine and sine of an angle of at most an eighth of a turn, in radians of 2⁻⁶⁰. -/
def cosSinSmall (r : Int) : Int × Int :=
  let x2 := r * r / 2 ^ 60
  (taylor x2 12 1 (2 ^ 60), taylor x2 12 2 r)

/-- Cosine and sine, in 2⁻⁶⁰, of an angle in 2⁻⁶⁴ turn. -/
def cosSin (θ : Int) : Int × Int :=
  let t := θ % 2 ^ 64
  -- the nearest quarter turn
  let q := (t + 2 ^ 61) / 2 ^ 62
  let r := (t - q * 2 ^ 62) * twoPi60 / 2 ^ 64
  let (c, s) := cosSinSmall r
  match q % 4 with
  | 0 => (c, s)
  | 1 => (-s, c)
  | 2 => (-c, -s)
  | _ => (s, -c)

/-- The angle within a quarter turn, bit by bit: the largest θ with y·cos θ ≥ x·sin θ, for x, y ≥ 0. -/
def atanAux (x y : Int) : Nat → Int → Int
  | 0, t => t
  | f + 1, t =>
    let c := t + 2 ^ f
    let (cs, sn) := cosSin c
    atanAux x y f (if x * sn ≤ y * cs then c else t)

/-- atan2 in 2⁻⁶⁴ turn, from −2⁶³ up to 2⁶³. -/
def atan2T (y x : Int) : Int :=
  if x = 0 ∧ y = 0 then 0
  else
    let a := atanAux x.natAbs y.natAbs 62 0
    let a1 := if x.natAbs = 0 then 2 ^ 62 else a
    if 0 ≤ x then (if 0 ≤ y then a1 else -a1)
    else (if 0 ≤ y then 2 ^ 63 - a1 else a1 - 2 ^ 63)

end Sys2Proof.Machine
end

