-- ==== Sys2Proof/Machine/Convoys.lean ====
section
/-! DEFINITION. Convoys, gearing, cams and gantry pairs (R65–R91): membership, path segments and their geometry, the
plan of the path parameter, the exact gear step, cams, and skew.  Path lengths and positions are in 2⁻⁴⁸ count. -/

namespace Sys2Proof.Machine

/-- The SEG_ID of the segment in execution. -/
def Convoy.segId (v : Convoy) : Nat :=
  match v.segs with
  | g :: _ => g.segId
  | [] => match v.prev with
    | some g => g.segId
    | none => 0

/-- A convoy event: its bit in GL_CY_EVENT and an entry on Q5 (R496). -/
def Device.cyEvent (d : Device) (c bitNo : Nat) (code : Nat := 0) : Device :=
  (d.raise ⟨GL_CY_EVENT c, bitNo, 1⟩).q5 2
    (leBytes (c + bitNo * 2 ^ 8 + code * 2 ^ 16) 4 ++ leBytes (d.cy c).segId 4 ++ leBytes d.stamp0 8)

/-- A convoy refusal: REFUSE_LAST and the REFUSED event. -/
def Device.cyRefuse (d : Device) (c code : Nat) : Device :=
  (d.livePut (GL_CY_STATUS_REFUSE_LAST c) code).cyEvent c 1 code

/-- A refused convoy command. -/
def Device.cyNo (d : Device) (c code : Nat) : Res := (code, d.cyRefuse c code)

/-- The state of a planner's axis as a position in 2⁻⁴⁸ count. -/
def Kin.q48 (k : Kin) : Int := k.p3 / (3 * 2 ^ 48)

/-- A pos64 in 2⁻⁴⁸ count. -/
def q48Of (p : Int) : Int := p * 2 ^ 32

/-! ### The geometry of a segment (R70) -/

/-- The i-th value of a list, 0 beyond it. -/
def nth (l : List Int) (i : Nat) : Int := l.getD i 0

/-- The Euclidean length of a vector. -/
def norm (v : List Int) : Nat := isqrt ((v.map (fun x => x.natAbs * x.natAbs)).sum)

/-- The difference of two vectors. -/
def vsub (a b : List Int) : List Int := (List.zip a b).map (fun x => x.1 - x.2)

/-- The arc's start radius, end radius, start angle and signed swept angle (2⁻⁶⁴ turn). -/
def CySeg.arc (g : CySeg) : Nat × Nat × Int × Int :=
  let ax := nth g.p0 g.planeA - nth g.c1 g.planeA
  let ay := nth g.p0 g.planeB - nth g.c1 g.planeB
  let bx := nth g.pe g.planeA - nth g.c1 g.planeA
  let bY := nth g.pe g.planeB - nth g.c1 g.planeB
  let φ0 := atan2T ay ax
  let φ1 := atan2T bY bx
  let raw : Int := if g.kind = 3 then (φ1 - φ0) % 2 ^ 64 else (φ0 - φ1) % 2 ^ 64
  let same := decide (nth g.p0 g.planeA = nth g.pe g.planeA) && decide (nth g.p0 g.planeB = nth g.pe g.planeB)
  let swept : Int := (if same || decide (raw = 0) then 2 ^ 64 else raw) + g.turns * 2 ^ 64
  (norm [ax, ay], norm [bx, bY], φ0, if g.kind = 3 then swept else -swept)

/-- The displacement of the members outside the arc's plane. -/
def CySeg.offPlane (g : CySeg) : List Int :=
  (List.range 8).map (fun i => if i = g.planeA ∨ i = g.planeB then 0 else nth g.pe i - nth g.p0 i)

/-- A Bézier coordinate, its first and second derivative in u, with u in 2⁻³². -/
def bezier (p0 c1 c2 p3 : Int) (u : Int) : Int × Int × Int :=
  let w := 2 ^ 32 - u
  ((w * w * w * p0 + 3 * u * w * w * c1 + 3 * u * u * w * c2 + u * u * u * p3) / 2 ^ 96,
   3 * (w * w * (c1 - p0) + 2 * u * w * (c2 - c1) + u * u * (p3 - c2)) / 2 ^ 64,
   6 * (w * (c2 - 2 * c1 + p0) + u * (p3 - 2 * c2 + c1)) / 2 ^ 32)

/-- All members of a spline at u. -/
def CySeg.bez (g : CySeg) (u : Int) : List (Int × Int × Int) :=
  (List.range 8).map (fun i => bezier (nth g.p0 i) (nth g.c1 i) (nth g.c2 i) (nth g.pe i) u)

/-- The speed of a spline in its parameter. -/
def CySeg.bezSpeed (g : CySeg) (u : Int) : Nat := norm ((g.bez u).map (fun x => x.2.1))

/-- The five Gauss–Legendre nodes and weights on [0, 1], in 2⁻³². -/
def gauss5 : List (Int × Int) :=
  [(201477247, 508796611), (991129610, 1027847243), (2147483648, 1221679586), (3303837686, 1027847243),
   (4093490049, 508796611)]

/-- The table of arc lengths of a spline: entry i is the length up to u = i / 64 (R70). -/
def CySeg.arcTable (g : CySeg) : List Nat :=
  ((List.range 64).foldl (fun (acc : List Nat × Nat) (i : Nat) =>
    let piece := (gauss5.map (fun nw =>
      let u := ((i : Int) * 2 ^ 32 + nw.1) / 64
      (g.bezSpeed u : Int) * nw.2)).sum / (64 * 2 ^ 32)
    let t := acc.2 + piece.toNat
    (acc.1 ++ [t], t)) ([0], 0)).1

/-- The inner product of two vectors. -/
def dotI (a b : List Int) : Int := ((List.zip a b).map (fun (x : Int × Int) => x.1 * x.2)).sum

/-- The first vector that is not zero, or zeros. -/
def firstDir : List (List Int) → List Int
  | [] => List.replicate 8 0
  | v :: vs => if v.all (fun x => x == 0) then firstDir vs else v

/-- The direction in which a spline leaves its start: toward the first control point that lies apart from it. -/
def CySeg.bezStart (g : CySeg) : List Int := firstDir [vsub g.c1 g.p0, vsub g.c2 g.p0, vsub g.pe g.p0]

/-- The direction in which a spline comes to its end. -/
def CySeg.bezEnd (g : CySeg) : List Int := firstDir [vsub g.pe g.c2, vsub g.pe g.c1, vsub g.pe g.p0]

/-- A spline's tangent turns by less than 90° from its start (R70, SPLINE_TURN): the tangent's part along the direction of
the start, the quadratic a(1−u)² + 2b·u(1−u) + c·u², stays positive up to the direction at the end.  A spline whose points
are all one does not turn. -/
def CySeg.turnOk (g : CySeg) : Bool :=
  let t := g.bezStart
  let a := dotI t (vsub g.c1 g.p0)
  let b := dotI t (vsub g.c2 g.c1)
  let c := dotI t (vsub g.pe g.c2)
  t.all (fun x => x == 0) ||
    (decide (0 ≤ a) && decide (0 ≤ c) && decide (0 < dotI t g.bezEnd) && (decide (0 ≤ b) || decide (b * b < a * c)))

/-- The path length of a segment. -/
def CySeg.length (g : CySeg) : Nat :=
  if g.kind = 1 then norm (vsub g.pe g.p0)
  else if g.kind = 4 then (g.arcTable).getLastD 0
  else
    let (rs, re, _, dφ) := g.arc
    let a : Nat := dφ.natAbs * twoPi60.toNat / 2 ^ 64 * ((rs + re) / 2) / 2 ^ 60
    norm [(a : Int), (norm g.offPlane : Int)]

/-- u of a path length within a spline: linear interpolation in the table; and du/ds in 2⁻⁸⁰ per 2⁻⁴⁸ count. -/
def splineU (t : List Nat) (σ : Nat) : Int × Int :=
  let i := ((List.range 64).filter (fun i => decide (t.getD i 0 ≤ σ))).getLastD 0
  let a := t.getD i 0
  let b := t.getD (i + 1) a
  if b ≤ a then ((i : Int) * 2 ^ 26, 0)
  else ((i : Int) * 2 ^ 26 + ((σ - a) * 2 ^ 26 / (b - a) : Nat), (2 ^ 26 * 2 ^ 96 / (b - a) : Nat))

/-- The curve of a segment at path length σ within it: per member the position and the first (2⁻⁴⁸) and second
(2⁻⁴⁸ per count) derivative in path length. -/
def CySeg.curve (g : CySeg) (σ : Int) : List (Int × Int × Int) :=
  let L : Int := g.len
  if g.len = 0 then g.pe.map (fun x => (x, 0, 0))
  else if g.kind = 1 then
    (List.range 8).map (fun i =>
      let dp := nth g.pe i - nth g.p0 i
      (nth g.p0 i + σ * dp / L, dp * 2 ^ 48 / L, 0))
  else if g.kind = 4 then
    let (u, du) := splineU g.table σ.toNat
    (g.bez u).map (fun x =>
      -- du: u per 2⁻⁴⁸ count, scaled 2⁻⁹⁶·2³² ; P' per u
      let d1 := x.2.1 * du / 2 ^ 80
      (x.1, d1, x.2.2 * du / 2 ^ 80 * du / 2 ^ 80))
  else
    let (rs, re, φ0, dφ) := g.arc
    let φ := φ0 + dφ * σ / L
    let (c, s) := cosSin φ
    let r : Int := rs + ((re : Int) - rs) * σ / L
    let r' : Int := ((re : Int) - rs) * 2 ^ 48 / L
    let w : Int := dφ * twoPi60 / 2 ^ 64 * 2 ^ 48 / L   -- radians (2⁻⁶⁰) per count
    (List.range 8).map (fun i =>
      if i = g.planeA then
        (nth g.c1 i + r * c / 2 ^ 60, (r' * c - r * w / 2 ^ 60 * s) / 2 ^ 60,
          (-(2 * r' * w / 2 ^ 60 * s) - r * w / 2 ^ 60 * w / 2 ^ 60 * c) / 2 ^ 60)
      else if i = g.planeB then
        (nth g.c1 i + r * s / 2 ^ 60, (r' * s + r * w / 2 ^ 60 * c) / 2 ^ 60,
          (2 * r' * w / 2 ^ 60 * c - r * w / 2 ^ 60 * w / 2 ^ 60 * s) / 2 ^ 60)
      else
        let dp := nth g.pe i - nth g.p0 i
        (nth g.p0 i + σ * dp / L, dp * 2 ^ 48 / L, 0))

/-- A vector made a unit vector, in 2⁻⁴⁸; zeros stay zeros. -/
def unitOf (v : List Int) : List Int :=
  let n := norm v
  if n = 0 then v else v.map (fun x => x * 2 ^ 48 / n)

/-- The unit tangent at the start of a segment. -/
def CySeg.startTan (g : CySeg) : List Int :=
  unitOf (if g.kind = 1 then vsub g.pe g.p0 else if g.kind = 4 then g.bezStart else (g.curve 0).map (fun x => x.2.1))

/-- The unit tangent at the end of a segment. -/
def CySeg.endTan (g : CySeg) : List Int :=
  unitOf (if g.kind = 1 then vsub g.pe g.p0 else if g.kind = 4 then g.bezEnd else (g.curve g.len).map (fun x => x.2.1))

/-- A point and its unit tangent carried on by the path length `σ` (R72). -/
def alongTan (ps : List (Int × Int × Int)) (ts : List Int) (σ : Int) : List (Int × Int × Int) :=
  (List.zip ps ts).map (fun x => (x.1.1 + σ * x.2 / 2 ^ 48, x.2, 0))

/-- The curve continued along its end tangents, in path length (R72). -/
def CySeg.curveExt (g : CySeg) (σ : Int) : List (Int × Int × Int) :=
  if σ < 0 then alongTan (g.curve 0) g.startTan σ
  else if (g.len : Int) < σ then alongTan (g.curve g.len) g.endTan (σ - g.len)
  else g.curve σ

/-- The blend length at the junction of two segments (R72); 0 after an EXACT segment. -/
def blendLen (blend : Nat) (g h : CySeg) : Nat := if g.exact then 0 else min blend (min (g.len / 2) (h.len / 2))

/-- The blend of two curves with the weight of R72 at `t` (2⁻⁴⁸) in a zone of half-width `b`. -/
def blendMix (a b : List (Int × Int × Int)) (t : Int) (bw : Nat) : List (Int × Int × Int) :=
  let q : Int := 2 ^ 48
  let t2 := t * t / q
  let t3 := t2 * t / q
  let t4 := t3 * t / q
  let t5 := t4 * t / q
  let w := 10 * t3 - 15 * t4 + 6 * t5
  let w1 := (30 * t2 - 60 * t3 + 30 * t4) * q / (2 * bw : Nat)
  let w2 := (60 * t - 180 * t2 + 120 * t3) * q / (2 * bw : Nat) * q / (2 * bw : Nat)
  (List.zip a b).map (fun (x, y) =>
    (((q - w) * x.1 + w * y.1) / q,
     ((q - w) * x.2.1 + w * y.2.1 + w1 * (y.1 - x.1)) / q,
     ((q - w) * x.2.2 + w * y.2.2 + 2 * w1 * (y.2.1 - x.2.1) + w2 * (y.1 - x.1)) / q))

/-- The members' curve at the path parameter s among the segments, with blends (R71, R72). -/
def pathAt (blend : Nat) (prev : Option CySeg) : List CySeg → Int → List (Int × Int × Int)
  | [], s =>
    match prev with
    | some g => g.curveExt (min (s - g.s0) g.len)
    | none => []
  | g :: gs, s =>
    let σ := s - g.s0
    if (g.len : Int) < σ ∧ gs ≠ [] then pathAt blend (some g) gs s
    else
      let bIn : Nat := match prev with
        | some p => blendLen blend p g
        | none => 0
      let bOut : Nat := match gs with
        | h :: _ => blendLen blend g h
        | [] => 0
      if σ < bIn then
        match prev with
        | some p => blendMix (p.curveExt (p.len + σ)) (g.curveExt σ) ((σ + bIn) * 2 ^ 48 / (2 * bIn : Nat)) bIn
        | none => g.curveExt σ
      else if (g.len : Int) - σ < bOut then
        match gs with
        | h :: _ => blendMix (g.curveExt σ) (h.curveExt (σ - g.len)) ((σ - g.len + bOut) * 2 ^ 48 / (2 * bOut : Nat)) bOut
        | [] => g.curveExt σ
      else g.curveExt (min σ g.len)

/-- The kinematic state of each member from the state of s by the chain rule (R71). -/
def Convoy.memberAt (v : Convoy) (k : Kin) : List Kin :=
  (pathAt v.blend v.prev v.segs k.q48).map (fun (p, d1, d2) =>
    { p3 := p * (3 * 2 ^ 48), v := d1 * k.v / 2 ^ 48, a := d2 * k.v / 2 ^ 96 * k.v / 2 ^ 48 + d1 * k.a / 2 ^ 48 })

/-! ### The plan of the path parameter (R73–R77) -/

/-- The least AMAX among the members. -/
def Device.cyAmin (d : Device) (c : Nat) : Nat := (((d.cyMembers c).map (fun m => (d.pl m.2).lim.amax)).min?).getD 0

/-- R73: the cap at a junction; sin(θ/2) is half the distance of the two unit tangents, and an angle that their rounding
hides counts as 0. -/
def Device.cyJunction (d : Device) (c : Nat) (g h : CySeg) : Option Nat :=
  let v := d.cy c
  let b := blendLen v.blend g h
  let sn := norm (vsub g.endTan h.startTan) / 2
  if sn < 16 then none
  else some (isqrt (d.cyAmin c * b * 2 ^ 96 * 4 / (15 * sn)))

/-- The cap that the SLS caps of the engaged followers put on a master `id` of kind `mk`: v · DEN / |NUM| (R85). -/
def Device.cyFollowerCap (d : Device) (mk id : Nat) : Option Nat :=
  (List.range 32).foldl (fun a c =>
    if d.cyState c ≠ cyFREE ∧ d.get (GL_CY_CTRL_KIND c) ≠ 0 ∧ d.get (GL_CY_CTRL_MASTER_KIND c) = mk ∧
        d.get (GL_CY_CTRL_MASTER_ID c) = id then
      (d.cyMembers c).foldl (fun a m =>
        let s := (d.cy c).slots.pick {} m.1
        if s.mode = 1 ∧ s.num ≠ 0 then minCap a ((d.pl m.2).topCap.map (fun v => v * s.den / s.num.natAbs)) else a) a
    else a) none

/-- R74, R77, R79, R85: the bounds of s within a segment. -/
def Device.cyBounds (d : Device) (c : Nat) (g : CySeg) : Bounds :=
  let v := d.cy c
  let vf := v.lim.vmax * v.feed / 1024
  let v0 := if g.vcap = 0 then vf else min vf g.vcap
  let v1 := match d.cyFollowerCap 3 c with
    | some x => min v0 x
    | none => v0
  let ms := d.cyMembers c
  let caps := ms.filterMap (fun m => ((d.pl m.2).topCap).map (fun x => (m.1, x)))
  if g.kind = 1 then
    let u := g.startTan
    let low := fun (f : Limits → Nat) (x : Nat) =>
      ms.foldl (fun a m =>
        let uk := (nth u m.1).natAbs
        if uk = 0 then a else min a (f (d.pl m.2).lim * 2 ^ 48 / uk)) x
    let vc := caps.foldl (fun a m => let uk := (nth u m.1).natAbs; if uk = 0 then a else min a (m.2 * 2 ^ 48 / uk))
      (low Limits.vmax v1)
    let dm := low Limits.dmax v.lim.dmax
    ⟨vc, low Limits.amax v.lim.amax, dm, dm, low Limits.jmax v.lim.jmax⟩
  else
    let vc := caps.foldl (fun a m => min a m.2) v1
    if g.kind = 4 then ⟨vc, v.lim.amax, v.lim.dmax, v.lim.dmax, v.lim.jmax⟩
    else
      let (rs, re, _, _) := g.arc
      let am := d.cyAmin c
      let lim := isqrt (am * min rs re * 2 ^ 48 / 2)
      ⟨min vc lim, min v.lim.amax (am / 2), min v.lim.dmax (am / 2), min v.lim.dmax (am / 2), v.lim.jmax⟩

/-- The greatest velocity from which `ve` can be reached within a distance. -/
def reachBack (b : Bounds) (ve dist : Nat) : Nat :=
  let rec go : Nat → Nat → Nat
    | 0, r => r
    | f + 1, r =>
      let c := r + 2 ^ f
      go f (if c ≤ b.v ∧ (c ≤ ve ∨ (phaseOf c 0 ve b.d b.d b.j).dist c 0 ≤ dist) then c else r)
  go 112 0

/-- Segments ahead with their bounds and end velocities, the last ending at rest (R75). -/
def Device.cyAhead (d : Device) (c : Nat) : List CySeg → List (CySeg × Bounds × Nat)
  | [] => []
  | g :: gs =>
    let r := d.cyAhead c gs
    let b := d.cyBounds c g
    let ve := match r with
      | [] => 0
      | (h, bh, vh) :: _ =>
        let back := reachBack bh vh (h.len * 2 ^ 48)
        let m := min b.v (min bh.v back)
        match d.cyJunction c g h with
        | some x => min m x
        | none => m
    (g, b, ve) :: r

/-- The plan of s over the segments ahead, laid end to end. -/
def planPath (s0 : Kin) : List (CySeg × Bounds × Nat) → List Seg × Kin
  | [] => ([], s0)
  | (g, b, ve) :: r =>
    let endP := 3 * ((g.s0 + g.len : Nat) : Int) * 2 ^ 48
    let p := planTo s0 ((endP - s0.p3) / 3) b ve
    let (gs, e) := planPath p.fin r
    (p.segs ++ gs, e)

/-- The kinematic limits of s for a stop, by the segment in execution. -/
def Device.cyPlanner (d : Device) (c : Nat) : Planner :=
  let v := d.cy c
  let b := match v.segs with
    | g :: _ => d.cyBounds c g
    | [] => ⟨0, v.lim.amax, v.lim.dmax, v.lim.dmax, v.lim.jmax⟩
  { lim := { v.lim with dmax := b.d, jmax := b.j } }

/-- The re-plan of s from its commit-point state. -/
def Device.cyReplan (d : Device) (c : Nat) : Profile :=
  let v := d.cy c
  if v.stop ≠ 0 then (d.cyPlanner c).planStop v.next v.stop
  else if v.feed = 0 then (d.cyPlanner c).planStop v.next 1
  else
    match d.cyAhead c (v.segs.take 16) with
    | [] => restAt v.next.p3
    | ahead =>
      if ahead.any (fun x => x.2.1.v == 0) then (d.cyPlanner c).planStop v.next 1
      else
      let (gs, e) := planPath v.next ahead
      { segs := gs, fin := { e with v := 0, a := 0 } }

/-- One generation number for all members of convoy `c` (R76). -/
def Device.cyGen (d : Device) (c : Nat) : Device :=
  let g := ((d.cyMembers c).map (fun m => (d.pl m.2).gen)).foldl max 0
  (d.cyMembers c).foldl (fun d m => d.setPl m.2 fun p => { p with gen := g }) d

/-- The plan of s from the commit point on. -/
def Device.cyPlan (d : Device) (c : Nat) : Device :=
  let prof := d.cyReplan c
  d.setCy c fun v => { v with prof := prof, origin := d.clk.beat + 1 }

/-- The plan of s put in force: the road ahead of the members, of the followers of s and of what moves with them is
squashed, and the members' entries carry one generation (R76, R84). -/
def Device.cyInstall (d : Device) (c : Nat) : Device :=
  let d1 := d.cyPlan c
  let d2 := (d1.plSquashes ((d1.cyMembers c).map (·.2) ++ d1.cyFollowersOf 3 c)).cyGen c
  d2.msSquash (d2.msOfConvoy c)

/-- STARVING: the plan ends at rest for lack of segments (R75; notes/assumptions/14). -/
def Device.cyStarve (d : Device) (c : Nat) : Device :=
  let v := d.cy c
  let lack := decide (v.segs.length < 16) && (match v.segs.getLast? with
    | some g => !g.exact
    | none => false)
  let was := bit (d.liveGet (GL_CY_STATUS_FLAGS c)) 0
  let d1 := d.livePut ⟨GL_CY_STATUS c, 24, 1⟩ (b2n lack)
  if lack && !was then d1.cyEvent c 3 else d1

/-- Is a member disabled, so that the convoy refuses to move (R78)?  AX_STATUS.STATE 2 is RUN. -/
def Device.cyBlocked (d : Device) (c : Nat) : Bool :=
  (d.cyMembers c).any (fun m => decide (d.plState m.2 ≠ plFOLLOWING) || decide (d.liveGet (AX_STATUS_STATE m.2) ≠ 2))

/-! ### Commands on a convoy -/

/-- A convoy without segments, plan and couplings.  The limits, blend and feed that LIMITS took into use stay in force. -/
def Convoy.cleared (v : Convoy) : Convoy := { lim := v.lim, blend := v.blend, feed := v.feed }

/-- FORM (R65, R66).  FORM with no used slot, or with an axis above 191, is refused BUSY (DESIGN CHOICE,
notes/assumptions/26). -/
def Device.cyForm (d : Device) (c : Nat) : Res :=
  let ms := d.cyMembers c
  if d.cyState c ≠ cyFREE then d.cyNo c 1
  else if d.get (GL_CY_CTRL_KIND c) = 3 ∨ 3 < d.get (GL_CY_CTRL_MASTER_KIND c) then d.cyNo c 9
  else if ms.any (fun m => (d.cyOf m.2).isSome || (d.gpTwin m.2).isSome) || !(ms.map (·.2)).Nodup then d.cyNo c 2
  else if ms.isEmpty || ms.any (fun m => decide (191 < m.2) || decide (d.plState m.2 ≠ plIDLE)) then d.cyNo c 1
  else
    let d1 := ms.foldl (fun d m => d.setPlState m.2 plFOLLOWING) d
    (0, (((d1.setCy c fun v => v.cleared).wr64 (GL_CY_S c) 0).cyGen c).setCyState c cyIDLE)

/-- Are every member's committed and commit-point velocities zero? -/
def Device.cyAtRest (d : Device) (c : Nat) : Bool :=
  (d.cyMembers c).all (fun m =>
    let p := d.pl m.2
    decide (p.cur.v = 0) && decide (p.next.v = 0) && decide (p.cur.a = 0))

/-- HOLD on a path convoy (R54, R76).  On a FREE or an ENGAGED convoy HOLD, STOP and QSTOP are refused BUSY (DESIGN CHOICE,
notes/assumptions/26). -/
def Device.cyHold (d : Device) (c : Nat) : Res :=
  let st := d.cyState c
  if st = cyFREE ∨ st = cySTOPPING ∨ st = cyENGAGED then d.cyNo c 1
  else if st = cyRUNNING then (0, ((d.setCy c fun v => { v with stop := 3 }).setCyState c cyHOLDING).cyInstall c)
  else (0, d)

/-- RESUME on a path convoy (R54, R76, R78).  A FEED of 0 is a HOLD that goes on (R77). -/
def Device.cyResume (d : Device) (c : Nat) : Res :=
  let st := d.cyState c
  if st ≠ cyHOLDING ∧ st ≠ cyHELD then d.cyNo c 1
  else if d.cyBlocked c then d.cyNo c 1
  else if (d.cy c).feed = 0 then (0, d)
  else (0, ((d.setCy c fun v => { v with stop := 0 }).setCyState c cyRUNNING).cyInstall c)

/-- A stop of s of a kind: 1 controlled, 2 quick. -/
def Device.cyStopAs (d : Device) (c kind : Nat) : Device :=
  ((d.setCy c fun v => { v with stop := kind }).setCyState c cySTOPPING).cyInstall c

/-- STOP on a path convoy (R52, R76). -/
def Device.cyStop (d : Device) (c : Nat) : Res :=
  let st := d.cyState c
  if st = cyFREE ∨ st = cyENGAGED then d.cyNo c 1
  else if st = cyIDLE ∨ st = cySTOPPING then (0, d)
  else (0, d.cyStopAs c 1)

/-- QSTOP on a path convoy (R52, R53, R76). -/
def Device.cyQstop (d : Device) (c : Nat) : Res :=
  let st := d.cyState c
  if st = cyFREE ∨ st = cyENGAGED then d.cyNo c 1
  else if st = cyIDLE ∨ (st = cySTOPPING ∧ (d.cy c).stop = 2) then (0, d)
  else (0, d.cyStopAs c 2)

/-- LIMITS on a convoy (R76, R77): the shadow limits, blend and FEED are taken into use; FEED 0 is taken as HOLD.  Limits
that would leave a path limit at 0 while the convoy is neither FREE nor IDLE are refused BAD_CODE, as negative ones are
(DESIGN CHOICE, notes/assumptions/26). -/
def Device.cyLimits (d : Device) (c : Nat) : Res :=
  let st := d.cyState c
  let v := d.rdS64 (GL_CY_VMAX c)
  let a := d.rdS64 (GL_CY_AMAX c)
  let dm := d.rdS64 (GL_CY_DMAX c)
  let q := d.rdS64 (GL_CY_QDEC c)
  let qj := d.rd64 (GL_CY_QJRK c)
  if v < 0 ∨ a < 0 ∨ dm < 0 ∨ q < 0 then d.cyNo c 9
  else
    let l : Limits :=
      { vmax := velIn v.toNat, amax := accIn a.toNat, dmax := accIn dm.toNat, jmax := jrkIn (d.rd64 (GL_CY_JMAX c))
        qdec := accIn q.toNat, qjrk := if qj = 2 ^ 64 - 1 then none else some (jrkIn qj) }
    if l.zero ∧ st ≠ cyFREE ∧ st ≠ cyIDLE then d.cyNo c 9
    else
      let feed := min 2048 (d.get (GL_CY_FEED_FEED c))
      let d1 := d.setCy c fun v => { v with lim := l, feed := feed, blend := (q48Of (d.rdS64 (GL_CY_BLEND c))).toNat }
      if st = cyRUNNING ∧ feed = 0 then
        (0, ((d1.setCy c fun v => { v with stop := 3 }).setCyState c cyHOLDING).cyInstall c)
      else if st = cyRUNNING ∨ st = cyHOLDING ∨ st = cySTOPPING then (0, d1.cyInstall c)
      else (0, d1)

/-- FLUSH: the segment queue is emptied, at rest only. -/
def Device.cyFlush (d : Device) (c : Nat) : Res :=
  let st := d.cyState c
  if st = cyIDLE ∨ st = cyHELD then
    let d1 := d.setCy c fun v => { v with segs := [], prev := none, stop := 0, sEnd := v.next.q48.toNat, prof := restAt v.next.p3 }
    (0, (d1.livePut (GL_CY_STATUS_QUEUE_FILL c) 0).setCyState c cyIDLE)
  else d.cyNo c 6

/-- A segment record decoded (R69). -/
def segOf (bs : List (BitVec 8)) : CySeg :=
  let ctrl := leAt bs 0 4
  let vec := fun off => (List.range 8).map (fun i => q48Of (toS 64 (leAt bs (off + 8 * i) 8)))
  { kind := bits ctrl 0 4, planeA := bits ctrl 8 3, planeB := bits ctrl 12 3, turns := bits ctrl 16 8, exact := bit ctrl 24,
    segId := leAt bs 4 4, vcap := velIn (leAt bs 8 8), pe := vec 0x10, c1 := vec 0x50, c2 := vec 0x90 }

/-- The members' end point after the queued segments: per slot. -/
def Device.cyEndPoint (d : Device) (c : Nat) : List Int :=
  let v := d.cy c
  match v.segs.getLast? with
  | some g => g.pe
  | none => (List.range 8).map (fun j =>
      if d.has (GL_CY_MSEL_USED c j) then (d.pl (d.get (GL_CY_MSEL_AXIS c j))).next.q48 else 0)

/-- Does the end radius of an arc differ from its start radius by more than 1 count (R70)?  |√A − √B| > 1 for the squared
radii A and B, without rounding. -/
def CySeg.radiiApart (g : CySeg) : Bool :=
  let sq := fun (p : List Int) =>
    (nth p g.planeA - nth g.c1 g.planeA).natAbs ^ 2 + (nth p g.planeB - nth g.c1 g.planeB).natAbs ^ 2
  let a := sq g.p0
  let b := sq g.pe
  decide (2 ^ 96 < a + b) && decide (4 * a * b < (a + b - 2 ^ 96) ^ 2)

/-- The checks of one segment (R68–R70, R78): its refusal code, or the segment with its geometry.  An arc whose PLANE_A
equals PLANE_B or names an unused slot is refused BAD_SEGMENT (DESIGN CHOICE, notes/assumptions/26). -/
def Device.cyCheck (d : Device) (c : Nat) (p0 : List Int) (fill s0 : Nat) (g : CySeg) : Nat × CySeg :=
  let used := (d.cyMembers c).map (·.1)
  let mask := fun (l : List Int) => (List.range 8).map (fun j => if used.contains j then nth l j else nth p0 j)
  let g1 := { g with p0 := p0, pe := mask g.pe, c1 := mask g.c1, c2 := mask g.c2, s0 := s0 }
  let g2 := { g1 with len := g1.length, table := if g1.kind = 4 then g1.arcTable else [] }
  if 32 ≤ fill then (3, g2)
  else if g.kind < 1 ∨ 4 < g.kind then (4, g2)
  else if g2.len < 2 ^ 48 ∧ g.kind = 1 then (4, g2)
  else if (g.kind = 2 ∨ g.kind = 3) ∧
      (g.planeA = g.planeB ∨ used.contains g.planeA = false ∨ used.contains g.planeB = false ∨ g2.radiiApart = true) then (4, g2)
  else if g.kind = 4 ∧ g2.turnOk = false then (5, g2)
  else (0, g2)

/-- Segments checked in order, all or none (R486): the code of the first refusal, or the segments. -/
def Device.cyCheckAll (d : Device) (c : Nat) : List Int → Nat → Nat → List CySeg → Nat × List CySeg
  | _, _, _, [] => (0, [])
  | p0, fill, s0, g :: gs =>
    let (code, g2) := d.cyCheck c p0 fill s0 g
    if code ≠ 0 then (code, [])
    else
      let (code2, r) := d.cyCheckAll c g2.pe (fill + 1) (s0 + g2.len) gs
      (code2, g2 :: r)

/-- SEGMENTS appended to a path convoy (R68–R70, R76, R78, R486).  A convoy that is STOPPING, or whose path limits hold a
zero, refuses them BUSY, and a gear or cam convoy BAD_SEGMENT (DESIGN CHOICE, notes/assumptions/26).  Under a FEED of 0 the
move starts as a HOLD (R77). -/
def Device.cySegments (d : Device) (c : Nat) (gs : List CySeg) : Res :=
  let st := d.cyState c
  let v := d.cy c
  if st = cyFREE ∨ st = cySTOPPING ∨ st = cyENGAGED then d.cyNo c 1
  else if d.get (GL_CY_CTRL_KIND c) ≠ 0 then d.cyNo c 4
  else if d.cyBlocked c then d.cyNo c 1
  else if v.lim.zero then d.cyNo c 1
  else
    let s0 := if v.segs.isEmpty then v.next.q48.toNat else v.sEnd
    let (code, r) := d.cyCheckAll c (d.cyEndPoint c) v.segs.length s0 gs
    if code ≠ 0 then d.cyNo c code
    else
      let sE := match r.getLast? with
        | some g => g.s0 + g.len
        | none => s0
      let d1 := d.setCy c fun v => { v with segs := v.segs ++ r, sEnd := sE, prev := if v.segs.isEmpty then none else v.prev }
      let d2 := d1.livePut (GL_CY_STATUS_QUEUE_FILL c) (v.segs.length + r.length)
      if st = cyIDLE ∧ v.feed = 0 then
        (0, ((d2.setCy c fun v => { v with stop := 3 }).setCyState c cyHOLDING).cyInstall c)
      else if st = cyIDLE then (0, ((d2.setCyState c cyRUNNING).cyInstall c).cyStarve c)
      else if st = cyRUNNING then (0, (d2.cyInstall c).cyStarve c)
      else (0, d2)

/-! ### Cams (R86–R88, R383) -/

/-- A cam table as read from bulk memory: its points' count, mode, CYCLIC and MSPAN. -/
structure Cam where
  base : Nat
  points : Nat
  mode : Nat
  cyclic : Bool
  span : Int
  deriving DecidableEq, Repr

/-- The cam table at a bulk address. -/
def Device.camAt (d : Device) (base : Nat) : Cam :=
  let ctrl := d.peekN base 4
  ⟨base, bits ctrl 0 13, bits ctrl 16 2, bit ctrl 20, toS 64 (d.peekN (base + 8) 8)⟩

/-- The content rules of a cam table at commit (R86). -/
def camOk (bs : List (BitVec 8)) : Bool :=
  let ctrl := leAt bs 0 4
  let n := bits ctrl 0 13
  decide (2 ≤ n) && decide (n ≤ 4096) && decide (bits ctrl 16 2 ≤ 1) && decide (leAt bs 8 8 ≠ 0) &&
    decide (leAt bs 8 8 < 2 ^ 63) && decide (leAt bs 0x20 8 = 0) && decide (0x20 + 16 * n ≤ bs.length)

/-- R87: the cycle and the master position within it, and whether the master lies outside a non-cyclic table. -/
def Cam.place (t : Cam) (x : Int) : Int × Int × Bool :=
  if t.cyclic then (x / t.span, x % t.span, false)
  else (0, clampI 0 t.span x, decide (x < 0) || decide (t.span < x))

/-- R87: the follower's position relative to its origin, in raw units, with the slopes dy/dm and d²y/dm² per count (2⁻⁴⁸) of
the piece that the master is on, and whether the master is outside. -/
def Device.camPiece (d : Device) (t : Cam) (x0 : Int) : Int × Int × Int × Bool :=
  if t.span ≤ 0 ∨ t.points < 2 then (0, 0, 0, false)
  else
    let (c, x, out) := t.place x0
    let n : Nat := t.points - 1
    let q := x * n
    let i := min (q / t.span).toNat (t.points - 2)
    let tau := (q - i * t.span) * 2 ^ 32 / t.span
    let Y := fun (i : Nat) => toS 64 (d.peekN (t.base + 0x20 + 16 * i) 8)
    let M := fun (i : Nat) => toS 64 (d.peekN (t.base + 0x28 + 16 * i) 8)
    let yEnd := if t.cyclic then Y n else 0
    let y0 := Y i
    let y1 := Y (i + 1)
    if t.mode = 0 then
      (c * yEnd + y0 + tau * (y1 - y0) / 2 ^ 32, (y1 - y0) * n * 2 ^ 48 / t.span, 0, out)
    else
      -- exact in τ: y, dy/dτ and d²y/dτ² as numerators over n · 2¹²⁸, n · 2⁹⁶ and n · 2⁶⁴
      let one : Int := 2 ^ 32
      let a0 := y0 * n * one
      let a1 := y1 * n * one
      let b0 := t.span * M i
      let b1 := t.span * M (i + 1)
      let t2 := tau * tau
      let t3 := t2 * tau
      let y := (2 * t3 - 3 * t2 * one + one ^ 3) * a0 + (t3 - 2 * t2 * one + tau * one ^ 2) * b0 +
        (3 * t2 * one - 2 * t3) * a1 + (t3 - t2 * one) * b1
      let dy := (6 * t2 - 6 * tau * one) * a0 + (3 * t2 - 4 * tau * one + one ^ 2) * b0 + (6 * tau * one - 6 * t2) * a1 +
        (3 * t2 - 2 * tau * one) * b1
      let ddy := (12 * tau - 6 * one) * a0 + (6 * tau - 4 * one) * b0 + (6 * one - 12 * tau) * a1 + (6 * tau - 2 * one) * b1
      (c * yEnd + y / (n * 2 ^ 128), dy / (2 ^ 48 * t.span), ddy * n / (t.span * t.span), out)

/-- R87 with the slopes at 0 where a master outside a non-cyclic table holds the follower. -/
def Device.camEval (d : Device) (t : Cam) (x0 : Int) : Int × Int × Int × Bool :=
  let e := d.camPiece t x0
  if e.2.2.2 then (e.1, 0, 0, true) else e

/-- The read of the cam points that a boundary needs: could they be read (R383), and the block after the read. -/
def Device.camRead (d : Device) (base : Nat) (x0 : Int) : Bool × Device :=
  let t := d.camAt base
  let (_, u1, d1) := d.bulkRead base 0x20
  if t.span ≤ 0 ∨ t.points < 2 then (u1.isNone, d1)
  else
    let (_, x, _) := t.place x0
    let n : Nat := t.points - 1
    let i := min (x * n / t.span).toNat (t.points - 2)
    let (_, u2, d2) := d1.bulkRead (base + 0x20 + 16 * i) 32
    (u1.isNone && u2.isNone, d2)

/-! ### Masters and followers (R80–R85) -/

/-- The axis whose plan gives the position of a master axis: a gantry twin's is its primary's, with the pair's OFFSET
(R89). -/
def Device.cyMasterAxis (d : Device) (id : Nat) : Nat × Int :=
  if d.plState id = plFOLLOWING ∧ (d.cyOf id).isNone then
    match d.gpTwin id with
    | some g => (d.get (GL_GP_CTRL_PRIMARY g), d.rdS64 (GL_GP_OFFSET g))
    | none => (id, 0)
  else (id, 0)

/-- The master's entry that the followers' next set-point takes (R84): the commit-point entry for kinds 0 and 3, the
sample of this boundary for kinds 1 and 2, extrapolated by one beat if EXTRAP is 1. -/
def Device.cyMaster (d : Device) (c : Nat) : Kin :=
  let id := d.get (GL_CY_CTRL_MASTER_ID c)
  let ext := fun (pos : Int) (vel : Int) =>
    let p := if d.has (GL_CY_CTRL_EXTRAP c) then pos + vel * d.clk.len / 2 ^ 8 else pos
    ({ p3 := posIn p, v := vel * 2 ^ 72, a := 0 } : Kin)
  match d.get (GL_CY_CTRL_MASTER_KIND c) with
  | 0 =>
    let m := d.cyMasterAxis id
    let k := (d.pl m.1).next
    { k with p3 := k.p3 + posIn m.2 }
  | 1 => ext (d.fbPos id) (d.fbVel id)
  | 2 => ext (d.portR id * 2 ^ 16) (d.portVel id)
  | _ => (d.cy id).next

/-- The follower's ratio travel over a master change `dm` within a ramp, as a numerator over 2 · LEN · den · den0. -/
def Ramp.gain (r : Ramp) (num : Int) (den : Nat) (dm : Int) : Int :=
  let ad : Int := dm.natAbs
  let x : Int := r.x
  let l : Int := r.len
  dm * ((2 * l - 2 * x - ad) * r.num0 * den + (2 * x + ad) * num * r.den0)

/-- One boundary of an engaged gear follower (R81, R82): the follower's new raw position and its slot. -/
def CySlot.gear (s : CySlot) (f : Int) (dm : Int) : Int × CySlot :=
  let plain := fun (s : CySlot) (f dm : Int) =>
    let q := s.num * dm + s.rem
    let df := q / (s.den : Int)
    (f + df, { s with rem := (q - df * s.den).toNat })
  match s.ramp with
  | none => plain s f dm
  | some r =>
    let left := r.len - r.x
    let dn : Int := (2 * r.len * s.den * r.den0 : Nat)
    if dm.natAbs < left then
      let acc := r.acc + r.gain s.num s.den dm
      (r.f0 + acc / dn, { s with ramp := some { r with x := r.x + dm.natAbs, acc := acc } })
    else
      let d1 := dm.sign * left
      let acc := r.acc + r.gain s.num s.den d1
      plain { s with ramp := none, rem := 0 } (r.f0 + acc / dn) (dm - d1)

/-- One boundary of an engaged cam follower (R82, R87): the new raw position and the slot. -/
def Device.camStep (d : Device) (s : CySlot) (_f m dm : Int) : Int × CySlot :=
  let t := d.camAt (d.tblActive s.cam)
  let y := fun (m : Int) => (d.camEval t (m - s.m0)).1
  match s.ramp with
  | none => (s.f0 + y m, s)
  | some r =>
    let y0 := fun (m : Int) => match r.cam0 with
      | some c0 => (d.camEval (d.camAt (d.tblActive c0)) (m - s.m0)).1
      | none => 0
    let gain := fun (a b : Int) (w : Nat) => (y b - y a) * (w : Int) + (y0 b - y0 a) * ((2 * r.len : Int) - w)
    let left := r.len - r.x
    let dn : Int := (2 * r.len : Nat)
    if dm.natAbs < left then
      let acc := r.acc + gain (m - dm) m (2 * r.x + dm.natAbs)
      (r.f0 + acc / dn, { s with ramp := some { r with x := r.x + dm.natAbs, acc := acc } })
    else
      let me := m - dm + dm.sign * left
      let acc := r.acc + gain (m - dm) me (2 * r.x + left)
      let fe := r.f0 + acc / dn
      let f0 := fe - y me
      (f0 + y m, { s with ramp := none, f0 := f0 })

/-- The slope of a follower against its master, the slope's change per count of master travel, and its change per count of
the master's absolute travel on a ramp, all 2⁻⁴⁸ (R81, R82, R87); and whether a cam's master lies outside its table. -/
def Device.followSlope (d : Device) (kind : Nat) (s : CySlot) (m : Int) : Int × Int × Int × Bool :=
  let law := fun (num : Int) (den cam : Nat) =>
    if kind = 1 then (0, num * 2 ^ 48 / (den : Int), 0, false) else d.camEval (d.camAt (d.tblActive cam)) (m - s.m0)
  let n := law s.num s.den s.cam
  match s.ramp with
  | none => (n.2.1, n.2.2.1, 0, n.2.2.2)
  | some r =>
    let o : Int × Int × Int × Bool := if kind = 1 then law r.num0 r.den0 0 else match r.cam0 with
      | some c0 => law 0 1 c0
      | none => (0, 0, 0, false)
    let w : Int := (r.x * 2 ^ 48 / r.len : Nat)
    (o.2.1 + (n.2.1 - o.2.1) * w / 2 ^ 48, o.2.2.1 + (n.2.2.1 - o.2.2.1) * w / 2 ^ 48,
      (n.2.1 - o.2.1) * 2 ^ 16 / r.len, n.2.2.2)

/-- The next set-point of an engaged follower at raw position `f` whose master moved from `mprev` to `mk` (R81–R84, R87):
the slot after it, the set-point, and whether a cam's master lies outside its table. -/
def Device.followAt (d : Device) (kind : Nat) (s : CySlot) (f : Int) (mk : Kin) (mprev : Int) : CySlot × Kin × Bool :=
  let m := mk.posOut
  let r := if kind = 1 then s.gear f (m - mprev) else d.camStep s f m (m - mprev)
  let (e, cv, ka, out) := d.followSlope kind r.2 m
  let v := if kind = 1 ∧ r.2.ramp = none then mk.v * r.2.num / (r.2.den : Int) else mk.v * e / 2 ^ 48
  let a0 := if kind = 1 ∧ r.2.ramp = none then mk.a * r.2.num / (r.2.den : Int) else mk.a * e / 2 ^ 48
  let a := a0 + cv * mk.v / 2 ^ 96 * mk.v / 2 ^ 48 + ka * (mk.v.natAbs : Int) / 2 ^ 96 * mk.v / 2 ^ 48
  (r.2, { p3 := posIn r.1, v := v, a := a }, out)

/-- Followers engaged or stopping in convoy `c`. -/
def Device.cyEngaged (d : Device) (c : Nat) : Nat :=
  ((d.cyMembers c).filter (fun m => ((d.cy c).slots.pick {} m.1).mode == 1)).length

/-- ENGAGED and the state of a gear or cam convoy after a change of its slots. -/
def Device.cyCount (d : Device) (c : Nat) : Device :=
  let n := d.cyEngaged c
  (d.livePut (GL_CY_STATUS_ENGAGED c) n).setCyState c (if n = 0 then cyIDLE else cyENGAGED)

/-- A follower brought to rest under its own limits and disengaged: kind 1 controlled, 2 quick (R82, R85). -/
def Device.cyDrop (d : Device) (c j kind : Nat) : Device :=
  let k := d.get (GL_CY_MSEL_AXIS c j)
  let d1 := d.setPl k fun p => { p with prof := p.planStop p.next kind, origin := d.clk.beat + 1, stop := kind }
  let d2 := d1.setCy c fun v => { v with slots := v.slots.upd {} j fun s => { s with mode := 2, ramp := none } }
  (d2.plSquash k).cyCount c

/-- The velocity cap in force on axis `k` changed (R43, R79, R85): its own plan or its path convoy's is made anew; a
follower caps its master, or is disengaged with a quick stop and a message where the master cannot be slowed. -/
def Device.capChanged (d : Device) : Nat → Nat → Device
  | 0, _ => d
  | n + 1, k =>
    match d.cyOf k with
    | none => if d.plState k = plMOVING ∨ d.plState k = plJOGGING then d.plInstall k else d.plReport k
    | some (c, j) =>
      let id := d.get (GL_CY_CTRL_MASTER_ID c)
      if d.get (GL_CY_CTRL_KIND c) = 0 then (if d.cyState c = cyRUNNING then d.cyInstall c else d)
      else if ((d.cy c).slots.pick {} j).mode ≠ 1 then d
      else
        match d.get (GL_CY_CTRL_MASTER_KIND c) with
        | 0 =>
          let x := d.cyFollowerCap 0 id
          if x = (d.pl id).mcap then d else (d.setPl id fun p => { p with mcap := x }).capChanged n id
        | 3 => if d.cyState id = cyRUNNING then d.cyInstall id else d
        | _ => if (d.pl k).topCap.isSome then (d.cyDrop c j 2).msg 8 c 2 j else d

/-- The engaged followers of convoy `c` changed: the cap on its master is formed anew (R85). -/
def Device.cyRecap (d : Device) (c : Nat) : Device :=
  let id := d.get (GL_CY_CTRL_MASTER_ID c)
  if d.get (GL_CY_CTRL_MASTER_KIND c) = 0 then
    let x := d.cyFollowerCap 0 id
    if x = (d.pl id).mcap then d else (d.setPl id fun p => { p with mcap := x }).capChanged 64 id
  else if d.get (GL_CY_CTRL_MASTER_KIND c) = 3 ∧ d.cyState id = cyRUNNING ∧
      (d.cyMembers c).any (fun m => (d.pl m.2).topCap.isSome) = true then d.cyInstall id
  else d

/-- DISSOLVE (R67). -/
def Device.cyDissolve (d : Device) (c : Nat) : Res :=
  let st := d.cyState c
  if st = cyIDLE ∨ (st = cyENGAGED ∧ d.cyAtRest c = true) then
    let d1 := (d.cyMembers c).foldl (fun d m =>
      if d.plState m.2 = plFOLLOWING then
        (d.setPl m.2 fun p => { p with mode := 0, stop := 0, prof := restAt p.cur.p3, origin := d.clk.beat + 1,
                                       next := { p3 := p.cur.p3 }, cur := { p3 := p.cur.p3 } }).setPlState m.2 plIDLE
      else d) d
    let d2 := (d1.livePut (GL_CY_STATUS_ENGAGED c) 0).livePut (GL_CY_STATUS_QUEUE_FILL c) 0
    let d3 := (d2.setCy c fun v => v.cleared).setCyState c cyFREE
    (0, d3.cyRecap c)
  else d.cyNo c 6

/-- ENGAGE_LEN as it reads; a negative one counts by its magnitude (DESIGN CHOICE, notes/assumptions/26). -/
def Device.engageLen (d : Device) (c : Nat) : Nat := (d.rdS64 (GL_CY_ENGAGE_LEN c)).natAbs

/-- ENGAGE of slot `j` (R80, R82, R86).  ENGAGE in a path convoy or on an unused slot, and DISENGAGE of a slot that is not
engaged, are refused BUSY (DESIGN CHOICE, notes/assumptions/26). -/
def Device.cyEngage (d : Device) (c j : Nat) : Res :=
  let st := d.cyState c
  let kind := d.get (GL_CY_CTRL_KIND c)
  let k := d.get (GL_CY_MSEL_AXIS c j)
  let s := (d.cy c).slots.pick {} j
  let len := d.engageLen c
  let m := d.cyMaster c
  let num := toS 32 (d.rdN (GL_CY_NUM c j))
  let den := d.rdN (GL_CY_DEN c j)
  let cam := d.get (GL_CY_CAM_TABLE c j)
  if st = cyFREE ∨ kind = 0 then d.cyNo c 1
  else if d.has (GL_CY_MSEL_USED c j) = false ∨ d.plState k ≠ plFOLLOWING then d.cyNo c 1
  else if kind = 1 ∧ den = 0 then d.cyNo c 7
  else if kind = 2 ∧ d.has (GL_TD_STATE_DEFINED cam) = false then d.cyNo c 8
  else if s.mode ≠ 0 ∨ (d.pl k).next.v ≠ 0 then d.cyNo c 6
  else if len = 0 ∧ m.v ≠ 0 then d.cyNo c 6
  else
    let f := (d.pl k).next.posOut
    let ramp : Option Ramp := if len = 0 then none else some { len := len, f0 := f }
    let s2 : CySlot := { mode := 1, num := num, den := den, cam := cam, m0 := m.posOut, f0 := f, ramp := ramp,
                          elen := len, fresh := (d.cy c).await }
    let d1 := d.setCy c fun v => { v with slots := v.slots.upd {} j fun _ => s2,
                                          mprev := if d.cyEngaged c = 0 then m.posOut else v.mprev }
    let d2 := (d1.plSquash k).cyCount c
    (0, if (d.pl k).topCap.isSome then d2.capChanged 64 k else d2)

/-- DISENGAGE of slot `j` (R82). -/
def Device.cyDisengage (d : Device) (c j : Nat) : Res :=
  if d.cyState c = cyFREE ∨ ((d.cy c).slots.pick {} j).mode ≠ 1 then d.cyNo c 1
  else (0, (d.cyDrop c j 1).cyRecap c)

/-- The ratio in effect on a slot (R82): on a ramp, between the old ratio and the new one by the master travel. -/
def CySlot.ratio (s : CySlot) : Int × Nat :=
  match s.ramp with
  | none => (s.num, s.den)
  | some r => (s.num * (r.den0 * r.x : Nat) + r.num0 * (s.den * (r.len - r.x) : Nat), s.den * r.den0 * r.len)

/-- NUM, DEN or CAM written for an engaged follower: applied through the ramp of its ENGAGE, from the old law (R82).  The
cam's cycle keeps its place on the master. -/
def Device.cyRatioWrite (d : Device) (c j : Nat) : Device :=
  let s := (d.cy c).slots.pick {} j
  let kind := d.get (GL_CY_CTRL_KIND c)
  let num := toS 32 (d.rdN (GL_CY_NUM c j))
  let den := d.rdN (GL_CY_DEN c j)
  let cam := d.get (GL_CY_CAM_TABLE c j)
  let same := if kind = 1 then decide (num = s.num) && decide (den = s.den) else decide (cam = s.cam)
  if s.mode ≠ 1 ∨ same = true then d
  else if kind = 1 ∧ den = 0 then d.cyRefuse c 7
  else if kind = 2 ∧ d.has (GL_TD_STATE_DEFINED cam) = false then d.cyRefuse c 8
  else
    let len := s.elen
    let m := d.cyMaster c
    let f := (d.pl (d.get (GL_CY_MSEL_AXIS c j))).next.posOut
    if len = 0 ∧ m.v ≠ 0 then d.cyRefuse c 6
    else
      let old := s.ratio
      let r : Option Ramp := if len = 0 then none
        else if kind = 1 then some { len := len, num0 := old.1, den0 := old.2, f0 := f }
        else some { len := len, f0 := f, cam0 := some s.cam }
      let f0 := if kind = 1 ∨ len ≠ 0 then s.f0 else f - (d.camEval (d.camAt (d.tblActive cam)) (m.posOut - s.m0)).1
      let s2 : CySlot :=
        if kind = 1 then { s with num := num, den := den, ramp := r, rem := 0 } else { s with cam := cam, ramp := r, f0 := f0 }
      let d1 := d.setCy c fun v => { v with slots := v.slots.upd {} j fun _ => s2 }
      if (d.pl (d.get (GL_CY_MSEL_AXIS c j))).topCap.isSome then d1.cyRecap c else d1

/-- Is table `tbl` in use by a follower: its cam, or the cam that its ramp leads away from (R82, R88)? -/
def CySlot.uses (s : CySlot) (tbl : Nat) : Bool :=
  decide (s.mode = 1) && (decide (s.cam = tbl) || (match s.ramp with | some r => r.cam0 == some tbl | none => false))

/-- Does a master that moves from `mprev` to `m` cross a cycle start of a follower's cam, x passing through 0 (R88)? -/
def Device.camCrossed (d : Device) (s : CySlot) (m mprev : Int) : Bool :=
  let t := d.camAt (d.tblActive s.cam)
  decide ((t.place (m - s.m0)).1 ≠ (t.place (mprev - s.m0)).1) || decide ((mprev - s.m0).sign ≠ (m - s.m0).sign)

/-- One follower at a boundary (R81–R85, R383): its next set-point, or its part of a stop.  A follower engaged before the
boundary's sample was there starts from it.  A follower whose torque is off
is coupled no more.  Injections of CY_GEAR_LIMIT and CY_DISENGAGE act on the slot that their DETAIL names (R371). -/
def Device.followStep (d : Device) (c : Nat) (mk : Kin) (mprev : Int) (mem : Nat × Nat) : Device :=
  let (j, k) := mem
  let s := (d.cy c).slots.pick {} j
  let p := d.pl k
  let kind := d.get (GL_CY_CTRL_KIND c)
  let setSlot := fun (d : Device) (f : CySlot → CySlot) => d.setCy c fun v => { v with slots := v.slots.upd {} j f }
  if d.plState k ≠ plFOLLOWING then
    (if s.mode = 0 then d else setSlot d fun s => { s with mode := 0, ramp := none })
  else if s.mode = 1 ∧ s.fresh = true then setSlot d fun s => { s with fresh := false, m0 := mk.posOut }
  else if s.mode = 1 ∧ d.injPending 8 c 2 = true ∧ d.rdN (INJ_DETAIL 8 c 2) = j then
    ((d.injTake 8 c 2).map (fun x => (x.2.cyDrop c j 2).msg 8 c 2 x.1 true)).getD d
  else if s.mode = 1 ∧ kind = 2 ∧ (d.camRead (d.tblActive s.cam) (mk.posOut - s.m0)).1 = false then
    -- R383: the set-point repeats, and the follower is disengaged with a quick stop
    let d0 := (d.camRead (d.tblActive s.cam) (mk.posOut - s.m0)).2
    let d2 := d0.setPl k fun p => { p with next := { p3 := p.next.p3 } }
    (d2.cyDrop c j 2).msg 8 c 2 j
  else if s.mode = 1 then
    let d1 := if kind = 2 then (d.camRead (d.tblActive s.cam) (mk.posOut - s.m0)).2 else d
    let (s2, nk, out) := d1.followAt kind s p.next.posOut mk mprev
    let wasOut := (d1.followSlope kind s mprev).2.2.2
    let beyond := decide (p.lim.vmax < nk.v.natAbs) || decide (p.lim.amax < nk.a.natAbs)
    let crossed := decide (kind = 2) && (d1.tables.pick {} s.cam).waiting && (s.crossed || d1.camCrossed s mk.posOut mprev)
    let d2 := setSlot (d1.setPl k fun p => { p with next := nk }) fun _ => { s2 with beyond := beyond, crossed := crossed }
    let d3 := if out && !wasOut then d2.cyEvent c 5 else d2
    if beyond && !s.beyond then (d3.cyEvent c 4).msg 8 c 1 j
    else if d3.injPending 8 c 1 && decide (d3.rdN (INJ_DETAIL 8 c 1) = j) then
      ((d3.injTake 8 c 1).map (fun x => (x.2.cyEvent c 4).msg 8 c 1 x.1 true)).getD d3
    else d3
  else
    let nx := p.prof.eval ((d.clk.beat + 1 - p.origin) * d.clk.len)
    let d2 := d.setPl k fun p => { p with next := nx }
    if s.mode = 2 ∧ nx.v = 0 then setSlot d2 fun s => { s with mode := 0 } else d2

/-- The followers of a gear or cam convoy take their commit-point entries as their committed set-points. -/
def Device.cyAdvance (d : Device) (c : Nat) : Device :=
  (d.cyMembers c).foldl (fun (d : Device) m =>
    if d.plState m.2 = plFOLLOWING then d.setPl m.2 fun p => { p with cur := p.next } else d)
    (d.setCy c fun v => { v with await := true })

/-- The next set-points of a gear or cam convoy (R81–R88): every follower, then ENGAGED and GEAR_LIMIT. -/
def Device.cyFollow (d : Device) (c : Nat) : Device :=
  let mk := d.cyMaster c
  let v := d.cy c
  let d1 := (d.cyMembers c).foldl (fun (d : Device) mem => d.followStep c mk v.mprev mem) d
  let d2 := d1.setCy c fun v => { v with mprev := mk.posOut, await := false }
  let anyOver := (d2.cyMembers c).any (fun m =>
    let s := (d2.cy c).slots.pick {} m.1
    s.mode == 1 && s.beyond)
  (d2.livePut ⟨GL_CY_STATUS c, 25, 1⟩ (b2n anyOver)).cyCount c

/-- R88: may a deferred cam commit swap at this boundary for every follower that uses the table?  Each one's master has
crossed a cycle start since the commit, at this boundary or earlier. -/
def Device.camMaySwap (d : Device) (tbl : Nat) : Bool :=
  (List.range 32).all (fun c =>
    decide (d.cyState c = cyFREE) || decide (d.get (GL_CY_CTRL_KIND c) ≠ 2) ||
    (d.cyMembers c).all (fun mem =>
      let s := (d.cy c).slots.pick {} mem.1
      if s.uses tbl = false then true
      else
        let m := (d.cyMaster c).posOut
        let old := d.camAt (d.tblActive tbl)
        let new := d.camAt (d.tblShadow tbl)
        let crossed := s.crossed || d.camCrossed { s with cam := tbl } m (d.cy c).mprev
        let close := decide (((d.camEval old (m - s.m0)).1 - (d.camEval new (m - s.m0)).1).natAbs ≤ 1)
        crossed || (!d.has (GL_CY_CTRL_CYCLE_SWAP c) && close && !(d.cy c).camWait.contains tbl)))

/-- CAM_DEFERRED raised for the convoys whose followers hold a cam commit back (R88). -/
def Device.camDeferred (d : Device) (tbl : Nat) : Device :=
  (List.range 32).foldl (fun d c =>
    if d.cyState c ≠ cyFREE ∧ d.get (GL_CY_CTRL_KIND c) = 2 ∧ d.has (GL_CY_CTRL_CYCLE_SWAP c) = false ∧
        (d.cyMembers c).any (fun m => ((d.cy c).slots.pick {} m.1).uses tbl) ∧
        (d.cy c).camWait.contains tbl = false then
      (d.setCy c fun v => { v with camWait := tbl :: v.camWait }).cyEvent c 6
    else d) d

/-- A cam table that swapped waits for no convoy any more, and its followers' crossings are spent. -/
def Device.camSwapped (d : Device) (tbl : Nat) : Device :=
  (d.convoys.map (·.1)).foldl (fun d c => d.setCy c fun v =>
    { v with camWait := v.camWait.erase tbl,
             slots := v.slots.map (fun x => (x.1, if x.2.cam = tbl then { x.2 with crossed := false } else x.2)) }) d

/-- The boundary step of a path convoy (R71, R75): s is committed, completed segments leave the queue, and the members
take their set-points. -/
def Device.cyPath (d : Device) (c : Nat) : Device :=
  let v := d.cy c
  let b := d.clk.beat
  let st := d.cyState c
  let nx := v.prof.eval ((b + 1 - v.origin) * d.clk.len)
  let d1 := d.setCy c fun v => { v with cur := v.next, next := nx }
  let s := (d1.cy c).cur.q48
  -- completed: the committed s has passed the segment's end; the one before the head stays for its blend
  let done := v.segs.filter (fun g => decide (((g.s0 + g.len : Nat) : Int) ≤ s))
  let d2 := done.foldl (fun d g =>
    (d.cyEvent c 2).setCy c fun v => { v with segs := v.segs.drop 1, prev := some g }) d1
  let v2 := d2.cy c
  let ks := v2.memberAt v2.next
  let d3 := (d.cyMembers c).foldl (fun d mem =>
    if d.plState mem.2 = plFOLLOWING ∧ ks ≠ [] then
      d.setPl mem.2 fun p => { p with cur := p.next, next := ks.getD mem.1 {} }
    else d) d2
  let d4 := (d3.livePut (GL_CY_STATUS_QUEUE_FILL c) v2.segs.length).wrS64 (GL_CY_S c) v2.cur.posOut
  let ended := decide (v.origin ≤ b) && decide (v.prof.dur ≤ (b - v.origin) * d.clk.len)
  if !ended then
    (if done ≠ [] ∧ st = cyRUNNING ∧ v2.segs ≠ [] then (if 16 ≤ v2.segs.length then d4.cyPlan c else d4).cyStarve c else d4)
  else if st = cyRUNNING ∧ v.feed ≠ 0 then
    if v2.segs = [] then ((d4.setCyState c cyIDLE).livePut ⟨GL_CY_STATUS c, 24, 1⟩ 0).cyEvent c 0 else d4
  else if st = cyHOLDING then d4.setCyState c cyHELD
  else if st = cySTOPPING then
    let d5 := d4.setCy c fun v => { v with segs := [], prev := none, stop := 0, sEnd := v.next.q48.toNat, prof := restAt v.next.p3 }
    (d5.livePut (GL_CY_STATUS_QUEUE_FILL c) 0).setCyState c cyIDLE
  else d4

/-- The convoy that moves the master axis of convoy `c`, if it is one of `todo`. -/
def Device.cyUpstream (d : Device) (todo : List Nat) (c : Nat) : Option Nat :=
  if d.get (GL_CY_CTRL_MASTER_KIND c) = 0 then
    match d.cyOf (d.cyMasterAxis (d.get (GL_CY_CTRL_MASTER_ID c))).1 with
    | some (m, _) => if todo.contains m then some m else none
    | none => none
  else none

/-- Does convoy `c` wait for none of the convoys `todo`: its master axis has its set-point of this boundary? -/
def Device.cyReady (d : Device) (todo : List Nat) (c : Nat) : Bool := (d.cyUpstream todo c).isNone

/-- Has a measured master's sample of this boundary been evaluated (R84): the axis's unit, or the port's transfer? -/
def Device.cySampled (d : Device) (c : Nat) : Bool :=
  let id := d.get (GL_CY_CTRL_MASTER_ID c)
  match d.get (GL_CY_CTRL_MASTER_KIND c) with
  | 1 => decide (191 < id) || (d.fb id).done
  | 2 => !(d.portSerial id && (d.port id).busy)
  | _ => true

/-- Does convoy `c` of `todo` wait, itself or through the convoys that move its master, for a sample of this boundary? -/
def Device.cyWaits (d : Device) (todo : List Nat) : Nat → Nat → Bool
  | 0, _ => false
  | n + 1, c => !d.cySampled c || (match d.cyUpstream todo c with
    | some m => Device.cyWaits d todo n m
    | none => false)

/-- The gear and cam convoys `todo`, each after the convoy that moves its master, so that none lags (R84); convoys that
drive each other in a ring go by number. -/
def Device.cyFollowAll : Nat → List Nat → Device → Device
  | 0, todo, d => todo.foldl Device.cyFollow d
  | n + 1, todo, d =>
    let ready := todo.filter (d.cyReady todo)
    if ready = [] then todo.foldl Device.cyFollow d
    else Device.cyFollowAll n (todo.filter (fun c => !ready.contains c)) (ready.foldl Device.cyFollow d)

/-- The twin of each pair whose primary is a member of one of the convoys `cs` follows its commit-point entry (R89). -/
def Device.gpFollow (d : Device) (cs : List Nat) : Device :=
  (List.range 16).foldl (fun (d : Device) g =>
    let kp := d.get (GL_GP_CTRL_PRIMARY g)
    let kt := d.get (GL_GP_CTRL_TWIN g)
    if d.has (GL_GP_CTRL_EN g) = true ∧ d.plState kt = plFOLLOWING ∧ ((d.cyOf kp).any (fun x => cs.contains x.1)) = true then
      let e := (d.pl kp).next
      d.setPl kt fun p => { p with next := { e with p3 := e.p3 + posIn (d.rdS64 (GL_GP_OFFSET g)) } }
    else d) d

/-- The gear and cam convoys that still wait for this boundary's master sample, as far as it has come (R84). -/
def Device.cyCatchUp (d : Device) : Device :=
  let todo := (List.range 32).filter (fun c => (d.cy c).await)
  if todo = [] then d
  else
    let ready := todo.filter (fun c => !d.cyWaits todo 32 c)
    (Device.cyFollowAll 32 ready d).gpFollow ready

/-- DEPTH_VALID and the committed set-point of a member as software reads them (R35, R62); a follower of a measured master
knows no entry beyond the commit point (R84). -/
def Device.cyShow (d : Device) (c : Nat) (m : Nat × Nat) : Device :=
  if d.plState m.2 ≠ plFOLLOWING then d
  else
    let mk := d.get (GL_CY_CTRL_MASTER_KIND c)
    let d1 := d.plAge m.2
    let d2 := if d.get (GL_CY_CTRL_KIND c) ≠ 0 ∧ (mk = 1 ∨ mk = 2) ∧ ((d.cy c).slots.pick {} m.1).mode = 1 then
        d1.livePut (AX_PL_STATUS_DEPTH_VALID m.2) 0
      else d1
    d2.plShow m.2

/-- The convoys in use of the path kind, or of the gear and cam kinds. -/
def Device.cyInUse (d : Device) (path : Bool) : List Nat :=
  (List.range 32).filter (fun c => decide (d.cyState c ≠ cyFREE) && (decide (d.get (GL_CY_CTRL_KIND c) = 0) == path))

/-- The boundary step of the path convoys. -/
def Device.cyPaths (d : Device) : Device := (d.cyInUse true).foldl Device.cyPath d

/-- The boundary step of the gear and cam convoys, as far as their masters are known (R84), and what software reads of
every member. -/
def Device.cyBoundary (d : Device) : Device :=
  let d2 := ((d.cyInUse false).foldl Device.cyAdvance d).cyCatchUp
  (List.range 32).foldl (fun (d : Device) c =>
    if d.cyState c ≠ cyFREE then (d.cyMembers c).foldl (fun (d : Device) m => d.cyShow c m) d else d) d2

/-- A member's disable, SS1 demand or STOP reaction (R78, R79, R85): on a path convoy the stop acts on s; a follower is
stopped alone and disengaged.  With `react` it is a disable reaction: one that asks for a controlled stop lets a feed-hold
go on, and at rest nothing is left to do (R55). -/
def Device.cyMemberStop (d : Device) (k kind : Nat) (report : Bool := false) (react : Bool := false) : Device :=
  match d.cyOf k with
  | none => d
  | some (c, j) =>
    let s := (d.cy c).slots.pick {} j
    if d.get (GL_CY_CTRL_KIND c) = 0 then
      let st := d.cyState c
      if st = cyRUNNING ∨ (st = cyHOLDING ∧ ¬(react = true ∧ kind = 1)) ∨ (st = cyHELD ∧ react = false) ∨
          (st = cySTOPPING ∧ kind = 2 ∧ (d.cy c).stop ≠ 2) then d.cyStopAs c kind
      else d
    else if s.mode = 1 ∨ (s.mode = 2 ∧ kind = 2 ∧ (d.pl k).stop ≠ 2) then
      let d1 := (d.cyDrop c j kind).cyRecap c
      if report && decide (s.mode = 1) then d1.msg 8 c 2 j else d1
    else d

/-- The tollgate's velocity cap on an axis changed (R43, R57, R79, R85): it is recorded in every state and taken into the
plans. -/
def Device.axCap (d : Device) (k : Nat) (cap : Option Nat) : Device :=
  ((d.setPl k fun p => { p with cap := cap }).livePut (AX_PL_STATUS_SLS_CAP k) (b2n cap.isSome)).capChanged 64 k

/-! ### Gantry pairs (R89–R91) -/

/-- The twin of a gantry pair takes the primary's set-points plus OFFSET (R89). -/
def Device.gpTwinStep (d : Device) (g : Nat) : Device :=
  let kt := d.get (GL_GP_CTRL_TWIN g)
  let off := posIn (d.rdS64 (GL_GP_OFFSET g))
  let pp := d.pl (d.get (GL_GP_CTRL_PRIMARY g))
  if d.plState kt ≠ plFOLLOWING then d
  else ((d.setPl kt fun p => { p with cur := { pp.cur with p3 := pp.cur.p3 + off },
                                      next := { pp.next with p3 := pp.next.p3 + off } }).plAge kt).plShow kt

/-- The skew of a pair at a boundary (R90), once the samples of both axes are evaluated. -/
def Device.gpSkew (d : Device) (g : Nat) : Device :=
  let skew := d.fbPos (d.get (GL_GP_CTRL_PRIMARY g)) - d.fbPos (d.get (GL_GP_CTRL_TWIN g)) - d.rdS64 (GL_GP_OFFSET g)
  let gain : Int := d.get (GL_GP_GAIN_SKEW_GAIN g)
  let cmax : Int := d.get (GL_GP_GAIN_CORR_MAX g) * 65536
  let corr := if gain = 0 then 0 else clampI (-cmax) cmax (gain * skew / 65536)
  let dt := ofS 32 (satS 32 skew)
  let d1 := d.wrN (GL_GP_SKEW g) dt
  let d2 := { d1 with gantries := d1.gantries.upd {} g fun _ => { corr := corr } }
  let d3 := d2.detect 8 (0x20 + g) 3 (decide (d.rdN (GL_GP_SKEW_WARN g) < skew.natAbs)) dt (fun d => d.raise (GL_GP_EVENT_SKEW_WARN g))
  d3.detect 8 (0x20 + g) 4 (decide (d.rdN (GL_GP_SKEW_MAX g) < skew.natAbs)) dt (fun d => d.raise (GL_GP_EVENT_SKEW_FAULT g))

/-- The twins of every bound pair at a boundary. -/
def Device.gpBoundary (d : Device) : Device :=
  (List.range 16).foldl (fun (d : Device) g => if d.has (GL_GP_CTRL_EN g) then d.gpTwinStep g else d) d

/-- The samples of axis `k` are evaluated: the skew of its pairs is judged once those of the other axis are (R90). -/
def Device.gpMeasured (d : Device) (k : Nat) : Device :=
  (List.range 16).foldl (fun (d : Device) g =>
    let kp := d.get (GL_GP_CTRL_PRIMARY g)
    let kt := d.get (GL_GP_CTRL_TWIN g)
    if d.has (GL_GP_CTRL_EN g) = true ∧ (k = kp ∨ k = kt) ∧ (d.fb kp).done = true ∧ (d.fb kt).done = true then d.gpSkew g else d) d

/-- The correction of an axis's loop set-point by its pair, in raw pos64 units (R90). -/
def Device.gpCorr (d : Device) (k : Nat) : Int :=
  match d.gpTwin k with
  | some g => (d.gantries.pick {} g).corr / 2
  | none => match d.gpPrimary k with
    | some g => -((d.gantries.pick {} g).corr / 2)
    | none => 0

/-- The twin of a pair that is bound no more returns to IDLE at its committed position. -/
def Device.gpRelease (d : Device) (k : Nat) : Device :=
  if d.plState k = plFOLLOWING ∧ (d.cyOf k).isNone = true ∧ (d.gpTwin k).isNone = true then
    (d.setPl k fun p => { p with prof := restAt p.next.p3, origin := d.clk.beat + 1, mode := 0 }).setPlState k plIDLE
  else d

/-- A write of GL_GP_CTRL (R89, R91): only while both axes are OFF or IDLE; refused with ZONE_SPLIT across zones, where it
leaves the register and a pair that it bound as they were (DESIGN CHOICE, notes/assumptions/26).
`zoneOf` is the tollgate zone of an axis in the configuration in force. -/
def Device.gpWrite (d : Device) (g v : Nat) (zoneOf : Nat → Option Nat) : Device :=
  let kp := bits v 0 8
  let kt := bits v 8 8
  let oldT := d.get (GL_GP_CTRL_TWIN g)
  let bound := d.has (GL_GP_CTRL_EN g)
  let free := fun k => decide (191 < k) || decide (d.plState k = plOFF) || decide (d.plState k = plIDLE) ||
    (bound && decide (k = oldT))
  if d.has (GL_GP_CTRL_EN g) ∧ ¬(free (d.get (GL_GP_CTRL_PRIMARY g)) = true ∧ free oldT = true) then d
  else if bit v 16 then
    if ¬(free kp = true ∧ free kt = true) ∨ 191 < kp ∨ 191 < kt ∨ kp = kt then d
    else if zoneOf kp ≠ zoneOf kt then d.raise (GL_GP_EVENT_ZONE_SPLIT g)
    else
      let d1 := d.wrN (GL_GP_CTRL g) (v % 2 ^ 17)
      let d2 := if bound then d1.gpRelease oldT else d1
      if d2.plState kt = plOFF then d2 else d2.setPlState kt plFOLLOWING
  else
    let d1 := d.wrN (GL_GP_CTRL g) (v % 2 ^ 17)
    if bound then d1.gpRelease oldT else d1

/-! ### The road ahead of any axis (R60, R62, R84) -/

/-- Entry `i` of the road ahead of a member of a convoy whose master's entry `i` is `m` (R84). -/
def Device.memberAhead (d : Device) (c j k i : Nat) (m : Kin) : Kin :=
  let v := d.cy c
  let s := v.slots.pick {} j
  let nx := (d.pl k).next
  let mk := d.get (GL_CY_CTRL_MASTER_KIND c)
  if d.get (GL_CY_CTRL_KIND c) = 0 then
    (v.memberAt (v.prof.eval ((d.clk.beat + 1 + i - v.origin) * d.clk.len))).getD j nx
  else if s.mode ≠ 1 then (d.pl k).prof.eval ((d.clk.beat + 1 + i - (d.pl k).origin) * d.clk.len)
  else if mk = 1 ∨ mk = 2 then nx
  else (d.followAt (d.get (GL_CY_CTRL_KIND c)) s nx.posOut m v.mprev).2.1

/-- Entry `i` of the road ahead of axis `k`, through at most `n` masters and pairs. -/
def Device.aheadFrom (d : Device) : Nat → Nat → Nat → Kin
  | 0, k, i => d.roadAhead k i
  | n + 1, k, i =>
    if i = 0 ∨ d.plState k ≠ plFOLLOWING then d.roadAhead k i
    else
      match d.cyOf k with
      | some (c, j) =>
        let id := d.get (GL_CY_CTRL_MASTER_ID c)
        let m : Kin := if d.get (GL_CY_CTRL_KIND c) = 0 then {}
          else if d.get (GL_CY_CTRL_MASTER_KIND c) = 0 then d.aheadFrom n id i
          else (d.cy id).prof.eval ((d.clk.beat + 1 + i - (d.cy id).origin) * d.clk.len)
        d.memberAhead c j k i m
      | none =>
        match d.gpTwin k with
        | some g =>
          let e := d.aheadFrom n (d.get (GL_GP_CTRL_PRIMARY g)) i
          { e with p3 := e.p3 + posIn (d.rdS64 (GL_GP_OFFSET g)) }
        | none => (d.pl k).next

/-- How many entries beyond the commit point are valid (R62, R84). -/
def Device.aheadValid (d : Device) (k : Nat) : Nat := d.liveGet (AX_PL_STATUS_DEPTH_VALID k)

/-- Entry `i` of the road ahead of axis `k`: 0 is the commit-point entry (R60, R64, R84, R89). -/
def Device.axisAhead (d : Device) (k i : Nat) : Kin := d.aheadFrom 64 k i

end Sys2Proof.Machine
end

