-- ==== Sys2Proof/Machine/StepGens.lean ====
section
/-! DEFINITION. Step generators (R92–R96): the velocity and phase of every tick, the take-over at L, the direction waits
and the emission of one step. -/

namespace Sys2Proof.Machine

/-- The edges or steps that a counter keeps: the newest, and those young enough for a latch to go back behind them. -/
def keepEdges (now : Nat) (es : List (Nat × Int)) : List (Nat × Int) :=
  es.take 9 ++ (es.drop 9).takeWhile (fun e => decide (now < e.1 + 500000))

/-- Generator `g`. -/
def Device.gen (d : Device) (g : Nat) : StepGen := d.gens.pick {} g
/-- Generator `g` changed. -/
def Device.setGen (d : Device) (g : Nat) (f : StepGen → StepGen) : Device := { d with gens := d.gens.upd {} g f }

/-- The pulse width in force. -/
def Device.genWidth (d : Device) (g : Nat) : Nat := max 2 (d.get (ST_CTRL_STEP_W g))

/-- R93: the greatest velocity, in 2⁻⁴⁴ step/tick. -/
def Device.genMax (d : Device) (g : Nat) : Int := ((2 ^ 44 / (2 * d.genWidth g) : Nat) : Int)

/-- DIR_HOLD and DIR_SETUP, which bind DIRk as a direction signal: with MODE 1 it carries the reverse pulses (R94). -/
def Device.genHold (d : Device) (g : Nat) : Nat := if d.has (ST_MODE_MODE g) then 0 else d.get (ST_CTRL_DIR_HOLD g)
/-- DIR_SETUP. -/
def Device.genSetup (d : Device) (g : Nat) : Nat := if d.has (ST_MODE_MODE g) then 0 else d.get (ST_CTRL_DIR_SETUP g)

/-- Steps that fall due behind those that wait: every one is emitted, in its own direction (R92). -/
def pushDue (n : Int) : List Int → List Int
  | [] => if n = 0 then [] else [n]
  | [x] => if n = 0 then [x] else if x.sign = n.sign then [x + n] else [x, n]
  | x :: y :: l => x :: pushDue n (y :: l)

/-- The steps due without the oldest one. -/
def popDue : List Int → List Int
  | [] => []
  | x :: l => if x.natAbs ≤ 1 then l else (x - x.sign) :: l

/-- The direction that DIRk has to show: that of the oldest step due, else the sign of the latest velocity other than 0. -/
def StepGen.dirNext (s : StepGen) : Bool :=
  match s.due with
  | [] => s.wantFwd
  | x :: _ => decide (0 < x)

/-- One tick of a generator (R92–R94): DV is added to the velocity, which its limit holds, the velocity to the phase, whole
steps fall due, and DIRk follows the sign of the velocity as soon as DIR_HOLD allows and no older step of the other
direction waits. -/
def StepGen.tick (s : StepGen) (vmax : Int) (hold now : Nat) : StepGen :=
  let s1 := if s.stopNext then { s with v := 0, dv := 0, stopNext := false } else s
  let v := clampI (-vmax) vmax (s1.v + s1.dv)
  let x : Int := s1.frac + v
  let s2 := { s1 with v := v, frac := (x % 2 ^ 44).toNat, due := pushDue (x / 2 ^ 44) s1.due,
                      clamped := decide (vmax < (s1.v + s1.dv).natAbs) || (s1.clamped && decide (vmax = v.natAbs)),
                      wantFwd := if v = 0 then s1.wantFwd else decide (0 < v) }
  if s2.dirNext ≠ s2.dirFwd ∧ (s2.stepped = false ∨ s2.lastStep + hold ≤ now) then
    { s2 with dirFwd := s2.dirNext, lastDir := now }
  else s2

/-- `n` ticks of a generator from tick `now` on. -/
def StepGen.ticks (vmax : Int) (hold : Nat) : Nat → Nat → StepGen → StepGen
  | 0, _, s => s
  | n + 1, now, s => StepGen.ticks vmax hold n (now + 1) (s.tick vmax hold (now + 1))

/-- Does a due step wait for DIRk: for its change, or for DIR_SETUP after one (R94)? -/
def Device.genWaits (d : Device) (g : Nat) : Bool :=
  let s := d.gen g
  !d.has (ST_MODE_MODE g) && (decide (s.dirNext ≠ s.dirFwd) ||
    (decide (s.lastDir ≠ 0) && decide (d.clk.now < s.lastDir + d.genSetup g)))

/-- ST_VEL, RATE_CLAMP and DIR_WAIT after a change of a generator. -/
def Device.genShow (d : Device) (g : Nat) : Device :=
  let s := d.gen g
  let d1 := d.wrS64 (ST_VEL g) s.v
  let waits := !s.due.isEmpty && d.genWaits g
  (d1.put (ST_STATUS_RATE_CLAMP g) (b2n s.clamped)).put (ST_STATUS_DIR_WAIT g) (b2n waits)

/-- Every running generator advanced by `n` ticks. -/
def Device.genAdvance (d : Device) (n : Nat) : Device :=
  (List.range 16).foldl (fun d g =>
    if d.gen g = {} then d
    else (d.setGen g fun s => s.ticks (d.genMax g) (d.genHold g) n d.clk.now).genShow g) d

/-- The staged command of a generator (R92): V and DV for the next L. -/
def Device.genStage (d : Device) (g : Nat) (v dv : Int) : Device :=
  d.setGen g fun s => { s with stagedV := v, stagedDv := dv, staged := true }

/-- L (R92, R96): the staged command is taken up; without one the velocity reached is kept and DV is 0. -/
def Device.genLatch (d : Device) (g : Nat) : Device :=
  if d.has (ST_MODE_EN g) then
    if (d.gen g).staged then
      ((d.setGen g fun s => { s with v := s.stagedV, dv := s.stagedDv, staged := false, clamped := false }).put (ST_STATUS_RUNNING g) 1).genShow g
    else d.setGen g fun s => { s with dv := 0 }
  else d.setGen g fun s => { s with staged := false }

/-- STEP_EMIT (R94, R95): one due step is emitted, unless it still waits for DIRk or for the pulse before it. -/
def Device.genEmit (d : Device) (g : Nat) : Device :=
  let s := d.gen g
  let w := d.genWidth g
  if s.due.isEmpty then d
  else if d.genWaits g then d.put (ST_STATUS_DIR_WAIT g) 1
  else if s.stepped = true ∧ d.clk.now < s.pulseEnd + w then d
  else
    let c : Int := if s.dirNext then 1 else -1
    let d1 := d.setGen g fun s => { s with due := popDue s.due, lastStep := d.clk.now, pulseEnd := d.clk.now + w, stepped := true,
                                           emitted := keepEdges d.clk.now ((d.clk.now, c) :: s.emitted) }
    (d1.wrS64 (ST_COUNT g) (d.rdS64 (ST_COUNT g) + c)).genShow g

/-- A write of ST_MODE (R96): MODE changes only while EN is 0; clearing EN zeroes the velocity at the next tick. -/
def Device.stModeWrite (d : Device) (g v : Nat) : Device :=
  let on := d.has (ST_MODE_EN g)
  let v1 := if on then setBit (v % 16) 0 (d.has (ST_MODE_MODE g)) else v % 16
  let d1 := d.wrN (ST_MODE g) v1
  if on && !bit v1 3 then
    (d1.setGen g fun s => { s with stopNext := true, staged := false }).put (ST_STATUS_RUNNING g) 0
  else d1

/-- A write of ST_CTRL (R96): STEP_W, DIR_SETUP and DIR_HOLD change only while EN is 0. -/
def Device.stCtrlWrite (d : Device) (g v : Nat) : Device :=
  if d.has (ST_MODE_EN g) then d.put (ST_CTRL_AXIS g) (bits v 8 8) else d.wrN (ST_CTRL g) v

end Sys2Proof.Machine
end

