-- ==== Sys2Proof/Machine/Latches.lean ====
section
/-! DEFINITION. Latch units (R227–R232): accepted edges, captures and the latch record; and the trajectory interpolation
that latches and milestones share (R215). -/

namespace Sys2Proof.Machine

/-- The cubic Hermite interpolation between two entries at `u` half ticks of a beat of `h` ticks, in the unit of `p3`
(R215). -/
def hermite (e0 e1 : Kin) (h u : Nat) : Int :=
  let H : Int := 2 * h
  let t : Int := u
  let c0 := 2 * t ^ 3 - 3 * t ^ 2 * H + H ^ 3
  let c1 := t ^ 3 - 2 * t ^ 2 * H + t * H ^ 2
  let c2 := 3 * t ^ 2 * H - 2 * t ^ 3
  let c3 := t ^ 3 - t ^ 2 * H
  (c0 * e0.p3 + c1 * h * 3 * e0.v + c2 * e1.p3 + c3 * h * 3 * e1.v) / H ^ 3

/-- Latch unit `u`. -/
def Device.lt (d : Device) (u : Nat) : Latch := d.latches.pick {} u

/-- Latch unit `u` changed, with ARMED and PENDING. -/
def Device.setLt (d : Device) (u : Nat) (f : Latch → Latch) : Device :=
  let d1 := { d with latches := d.latches.upd {} u f }
  (d1.put (LT_STATUS_ARMED u) (b2n (d1.lt u).armed)).put (LT_STATUS_PENDING u) (d1.lt u).caps.length

/-- The axes of a unit's capture slots (R228). -/
def Device.ltAxes (d : Device) (u : Nat) : List (Nat × Nat) :=
  (List.range 8).filterMap (fun j =>
    let w := if j < 4 then d.rdN (LT_AXES_A u) else d.rdN (LT_AXES_B u)
    let a := bits w (8 * (j % 4)) 8
    if a < 192 then some (j, a) else none)

/-- The source kind and ID that an axis's position loop uses (R191, R201). -/
def Device.posSource (d : Device) (k : Nat) : Nat × Nat :=
  if d.posSrc k = 1 then (d.get (AX_FB_SRC_SEC_KIND k), d.get (AX_FB_SRC_SEC_ID k))
  else (d.get (AX_FB_SRC_PRI_KIND k), d.get (AX_FB_SRC_PRI_ID k))

/-- SCALE and OFFSET of R173 for the source that the position loop uses; in fallback the OFFSET takes the difference of R201
with it. -/
def Device.posScale (d : Device) (k : Nat) : Int × Int :=
  if d.posSrc k = 1 then (d.rdS64 (AX_FB_SCALE2 k), d.rdS64 (AX_FB_OFFSET2 k))
  else (d.rdS64 (AX_FB_SCALE k), d.rdS64 (AX_FB_OFFSET k) + (if d.has (AX_FB_SRC_DUAL k) then (d.fb k).fbDiff else 0))

/-- R173 for the source that the position loop uses. -/
def Device.posOfR (d : Device) (k : Nat) (r : Int) : Int := fdiv (r * (d.posScale k).1) (2 ^ 16) + (d.posScale k).2

/-- The mode in force of a direct port. -/
def Device.portMode (d : Device) (p : Nat) : Nat := bits (d.port p).ctrl.toNat 0 3

/-- How the position of an axis is known at an instant: 0 exactly (quadrature, Hall, step count), 1 by its set-point
(feedback kind 4), 2 by samples (serial port, chain slot), 3 not at all. -/
def Device.posMethod (d : Device) (k : Nat) : Nat :=
  let (kind, id) := d.posSource k
  if kind = 1 then 2
  else if kind = 2 then (let m := d.portMode (id % 16); if m = 1 ∨ m = 2 then 0 else if 3 ≤ m ∧ m ≤ 5 then 2 else 3)
  else if kind = 3 then 0
  else if kind = 4 then 1
  else 3

/-- The count R, or the step count, of an exact source at this tick. -/
def Device.exactR (d : Device) (k : Nat) : Int :=
  let (kind, id) := d.posSource k
  if kind = 2 then (d.port (id % 16)).r else d.rdS64 (ST_COUNT (id % 16))

/-- The edges or steps of an exact source, newest first. -/
def Device.exactEdges (d : Device) (k : Nat) : List (Nat × Int) :=
  let (kind, id) := d.posSource k
  if kind = 2 then (d.port (id % 16)).edges else (d.gen (id % 16)).emitted

/-- The counts of an exact source that came after the instant `age` ticks back, to be taken back. -/
def Device.edgesAfter (d : Device) (k age : Nat) : Int :=
  (((d.exactEdges k).filter (fun e => decide (d.clk.now < e.1 + age))).map (·.2)).sum

/-- The value of one slot at the acceptance of an edge `age` ticks back (R228): known at once, to come, or invalid.  Neither
the samples nor the entries of a set-point source that the model keeps go back behind the previous boundary (R229; for
set-points DESIGN CHOICE, notes/assumptions/19). -/
def Device.ltValue (d : Device) (k age : Nat) : Option Int × Bool × Bool :=
  let (b, t) := d.ago age
  match d.posMethod k with
  | 0 => (some (d.posOfR k (d.exactR k - d.edgesAfter k age)), false, false)
  | 1 =>
    let p := d.pl k
    if b = d.clk.beat then (some (rnd (hermite p.cur p.next d.clk.len (2 * t)) (3 * 2 ^ 80)), false, false)
    else if b + 1 = d.clk.beat then (some (rnd (hermite p.prev p.cur d.clk.len (2 * t)) (3 * 2 ^ 80)), false, false)
    else (some 0, false, true)
  | 2 => if b + 1 < d.clk.beat then (some 0, false, true) else (none, false, false)
  | _ => (some 0, false, true)

/-- An edge of unit `u` that came `age` ticks ago (R228, R231, R232). -/
def Device.ltEdge (d : Device) (u : Nat) (falling : Bool) (age : Nat) : Device :=
  let s := d.lt u
  let e := d.get (LT_CTRL_EDGE u)
  if !s.armed || (e == 0 && falling) || (e == 1 && !falling) then d
  else
    let st := d.stampAgo age
    let d0 := (d.wr64 (LT_LAST u) st).setLt u fun s => { s with armed := !d.has (LT_CTRL_SINGLE u) }
    if 4 ≤ s.caps.length then
      ((d0.incSat (LT_DROP_DROPPED u)).raise (LT_EVENT_DROPPED u)).setLt u fun s => { s with droppedFlag := true }
    else
      let vals := (d.ltAxes u).map (fun (j, k) => (j, d.ltValue k age))
      d0.setLt u fun s => { s with caps := s.caps ++ [⟨st, falling, d.get (LT_CTRL_SRC_KIND u), d.ltAxes u, vals⟩] }

/-- LATCH_EDGE on LTk_IN (R227): the stamp is the acceptance tick less FILT. -/
def Device.ltPin (d : Device) (u : Nat) (falling : Bool) : Device :=
  let d0 := { d with it := { d.it with ltPins := setBit d.it.ltPins u (!falling) } }
  let d1 := d0.note 4 (4096 + u) (b2n (!falling) : Nat)
  if d1.get (LT_CTRL_SRC_KIND u) = 0 then d1.ltEdge u falling (d1.get (LT_CTRL_FILT u)) else d1

/-- The units whose source is of a kind with an ID. -/
def Device.ltOf (d : Device) (kind id : Nat) : List Nat :=
  (List.range 16).filter (fun u => (d.lt u).armed && d.get (LT_CTRL_SRC_KIND u) == kind && d.get (LT_CTRL_SRC_ID u) == id)

/-- An edge of another source that came `age` ticks ago reaches its latch units (R227); the Z line of a port passes the
unit's own filter. -/
def Device.ltSource (d : Device) (kind id : Nat) (falling : Bool) (age : Nat) : Device :=
  (d.ltOf kind id).foldl (fun d u => d.ltEdge u falling (if kind = 4 then age + d.get (LT_CTRL_FILT u) else age)) d

/-- R229: the interpolation between two boundaries' samples, in raw pos64, at tick `t` of a beat of `h`. -/
def serialAt (p0 v0 p1 v1 : Int) (h t : Nat) : Int :=
  let H : Int := h
  let τ : Int := t
  let c0 := 2 * τ ^ 3 - 3 * τ ^ 2 * H + H ^ 3
  let c1 := τ ^ 3 - 2 * τ ^ 2 * H + τ * H ^ 2
  let c2 := 3 * τ ^ 2 * H - 2 * τ ^ 3
  let c3 := τ ^ 3 - τ ^ 2 * H
  -- speeds in 2⁻²⁴ count/tick against positions in 2⁻¹⁶ count
  ((c0 * p0 + c2 * p1) * 2 ^ 8 + (c1 * v0 + c3 * v1) * H) / (H ^ 3 * 2 ^ 8)

/-- The value of a slot that waited for samples (R229): none while the sample of the next boundary is still to come. -/
def Device.ltSample (d : Device) (k stamp : Nat) : Option (Int × Bool × Bool) :=
  let b := stamp / 2 ^ 16
  let t := stamp % 2 ^ 16
  let pv := (d.fb k).pv
  match pv.find? (fun e => e.1 == b), pv.find? (fun e => e.1 == b + 1) with
  | some (_, p0, v0, _), some (_, p1, v1, x) => some (serialAt p0 v0 p1 v1 d.clk.len t, x, false)
  | some _, none => if b + 1 < d.clk.beat then some (0, false, true) else none
  | none, _ => if b < d.clk.beat then some (0, false, true) else none

/-- A capture with every value that is known by now. -/
def Device.ltFill (d : Device) (c : Capture) : Capture :=
  { c with vals := c.vals.map (fun (j, v, x, bad) =>
      match v with
      | some _ => (j, v, x, bad)
      | none =>
        let k := (c.axes.find? (fun e => e.1 == j)).map (·.2) |>.getD 0
        match d.ltSample k c.stamp with
        | some (p, x, bad) => (j, some p, x, bad)
        | none => (j, none, x, bad)) }

/-- CAPTURE_COMPLETE (R230, R231): the record of the oldest capture is sent to Q14 once every used slot has its value;
on a full Q14 it is lost. -/
def Device.ltComplete (d : Device) (u : Nat) : Device :=
  match (d.lt u).caps with
  | [] => d
  | c0 :: cs =>
    let c := d.ltFill c0
    if c.vals.any (fun v => v.2.1.isNone) then d
    else
      let s := d.lt u
      let mask := fun (f : Nat × Option Int × Bool × Bool → Bool) =>
        (c.vals.map (fun v => if f v then 2 ^ v.1 else 0)).sum
      let valid := mask (fun v => !v.2.2.2)
      let ext := mask (fun v => v.2.2.1)
      let ctrl := u + c.kind * 16 + b2n c.falling * 128 + b2n s.droppedFlag * 256 + b2n s.lostFlag * 512 +
        valid * 2 ^ 16 + ext * 2 ^ 24
      let pos := fun j => match c.vals.find? (fun v => v.1 == j) with
        | some (_, some p, _, bad) => if bad then 0 else ofS 64 p
        | _ => 0
      let rec_ := leBytes ctrl 4 ++ leBytes s.seq 4 ++ leBytes c.stamp 8 ++
        ((List.range 8).map (fun j => leBytes (pos j) 8)).flatten
      let d1 := d.put ⟨LT_COUNT u, 0, 32⟩ (d.rdN (LT_COUNT u) + 1)
      if d.qFull 14 then
        let d2 := (((d1.qLose 14).incSat (LT_DROP_LOST u)).raise (LT_EVENT_LOST u)).setLt u fun s =>
          { s with caps := cs, seq := s.seq + 1, lostFlag := true }
        d2.detect 5 (0x10 + u) 2 true (d2.get (LT_DROP_LOST u)) id
      else
        let d2 := ((d1.qAddAny 14 0 0 rec_).raise (LT_EVENT_CAPTURED u)).setLt u fun s =>
          { s with caps := cs, seq := s.seq + 1, lostFlag := false, droppedFlag := false }
        (d2.note 10 u 0).detect 5 (0x10 + u) 2 false 0 id

/-- REARM (R232): arms an enabled SINGLE unit again. -/
def Device.ltRearm (d : Device) (u : Nat) : Device :=
  if d.has (LT_CTRL_EN u) then d.setLt u fun s => { s with armed := true } else d

/-- CLEAR_CNT in LT_CMD (R231). -/
def Device.ltClear (d : Device) (u : Nat) : Device := (d.wrN (LT_COUNT u) 0).wrN (LT_DROP u) 0

/-- A refused write of a latch unit. -/
def Device.ltRefuse (d : Device) (u code : Nat) : Device := d.put (LT_STATUS_REFUSE_LAST u) code

/-- A write of LT_CTRL (R227, R232): while EN is 1, SRC_KIND keeps its value; an enable with a bad source is refused. -/
def Device.ltCtrlWrite (d : Device) (u v : Nat) : Device :=
  let on := d.has (LT_CTRL_EN u)
  let cur := d.rdN (LT_CTRL u)
  let lockedDiffers := decide (bits v 8 3 ≠ bits cur 8 3)
  if on then
    let v1 := setBit v 0 (bit v 0)
    let w := v1 - bits v1 8 3 * 2 ^ 8 + bits cur 8 3 * 2 ^ 8
    let d1 := d.wrN (LT_CTRL u) (andN w 0x03FF07FF)
    let d2 := if lockedDiffers then d1.ltRefuse u 4 else d1
    if bit v 0 then d2 else d2.setLt u fun s => { s with armed := false }
  else if bit v 0 && (decide (5 ≤ bits v 8 3) || decide (bits v 2 2 = 3)) then
    (d.wrN (LT_CTRL u) (andN (setBit v 0 false) 0x03FF07FF)).ltRefuse u 5
  else
    let d1 := d.wrN (LT_CTRL u) (andN v 0x03FF07FF)
    if bit v 0 then d1.setLt u fun s => { s with armed := true } else d1

/-- A write of LT_AXES_A or LT_AXES_B (R232): ignored with code BUSY while EN is 1. -/
def Device.ltAxesWrite (d : Device) (u a v : Nat) : Device :=
  if d.has (LT_CTRL_EN u) then d.ltRefuse u 4 else d.wrN a v

end Sys2Proof.Machine
end

