-- ==== Sys2Proof/Machine/FieldIO.lean ====
section
/-! DEFINITION. Field I/O (R423–R437): accepted levels, commanded outputs, wiring faults, overload and retries, the sum
limit, VFIELD, the watchdog, and couplers with their spares.  What the field die measures on its pins comes with the
command that reports it. -/

namespace Sys2Proof.Machine

/-- Field channel `c`. -/
def Device.fio (d : Device) (c : Nat) : FioCh := d.fioCh.pick {} c
/-- Field channel `c` changed. -/
def Device.setFio (d : Device) (c : Nat) (f : FioCh → FioCh) : Device := { d with fioCh := d.fioCh.upd {} c f }
/-- The FIO_IN bit of channel `c`. -/
def fioIn (c : Nat) : Fld := if c < 32 then ⟨FIO_IN, c, 1⟩ else ⟨FIO_IN_HI, c - 32, 1⟩
/-- The FIO_OUT bit of channel `c`. -/
def fioOut (c : Nat) : Fld := if c < 32 then ⟨FIO_OUT, c, 1⟩ else ⟨FIO_OUT_HI, c - 32, 1⟩
/-- The refusal of a field request. -/
def Device.fioRefuse (d : Device) (code : Nat) : Device := d.refuse FIO_STATUS_REFUSE_LAST FIO_EVENT_REFUSED code
/-- The mode of channel `c`. -/
def Device.fioMode (d : Device) (c : Nat) : Nat := d.get (FIO_CH_CTRL_MODE c)
/-- The accepted level of channel `c` (FIO_IN). -/
def Device.fioLevel (d : Device) (c : Nat) : Bool := d.has (fioIn c)

/-- The accepted level shown in FIO_IN and FIO_CH_STATUS. -/
def Device.fioShow (d : Device) (c : Nat) (level : Bool) : Device :=
  (d.put (fioIn c) (b2n level)).put (FIO_CH_STATUS_LEVEL c) (b2n level)

/-- FIELD_LEVEL_ACCEPT (R425, R426): a level of channel `c` with its raw sample and count arrives; a level accepted under
old settings, and any level of a channel without a coupler or under reversed VFIELD, is discarded.  A latch on the
channel takes the edge THRESH samples and 200 ticks earlier. -/
def Device.fioAccept (d : Device) (c : Nat) (level raw : Bool) (count : Nat) : Device :=
  if d.clk.now < (d.fio c).resetAt ∨ d.has (FIO_CH_STATUS_INVALID c) = true ∨ d.has FIO_STATUS_REVERSED = true then d
  else
    let was := d.fioLevel c
    let d1 := ((d.fioShow c level).put (FIO_CH_STATUS_RAW c) (b2n raw)).put (FIO_CH_STATUS_COUNT c)
      (min count (d.get (FIO_CH_CTRL_THRESH c)))
    if was = level then d1
    else (d1.note 4 c (b2n level : Nat)).ltSource 1 c (!level) (d.get (FIO_CH_CTRL_THRESH c) * 100 + 200)

/-- Is every output off because VFIELD is below 17 V or reversed (R432)? -/
def Device.fioDead (d : Device) : Bool :=
  (d.has FIO_STATUS_VFIELD_LOW || d.has FIO_STATUS_REVERSED) && d.field.low

/-- Does a commanded level reach the switch of channel `c`: it has a coupler and its group receives frames (R434, R436)? -/
def Device.fioReach (d : Device) (c : Nat) : Bool :=
  !d.has (FIO_CH_STATUS_INVALID c) && !(d.fioGrp.pick {} (c / 8)).expired

/-- The switch of an output follows its commanded level, unless the output is held, retries, cannot be reached or has no
VFIELD (R427, R430, R432–R434, R436). -/
def Device.fioDrive (d : Device) (c : Nat) : Device :=
  if d.fioMode c ≠ 2 ∨ d.has (FIO_CH_STATUS_HELD c) = true ∨ d.has (FIO_CH_STATUS_RETRY c) = true ∨ d.fioReach c = false then d
  else d.setFio c fun s =>
    let on := s.cmd && !d.fioDead
    { s with on := on, onAt := if on && !s.on then d.clk.now else s.onAt }

/-- The commanded level of an output channel changed (R427, R433): a new write clears HELD, a level 0 ends retries, and the
switch follows. -/
def Device.fioCommand (d : Device) (c : Nat) (level : Bool) : Device :=
  if d.fioMode c ≠ 2 then d.fioRefuse 1
  else
    let d1 := ((d.put (fioOut c) (b2n level)).put (FIO_CH_STATUS_OUT c) (b2n level)).put (FIO_CH_STATUS_HELD c) 0
    let d2 := if level then d1 else d1.put (FIO_CH_STATUS_RETRY c) 0
    (d2.setFio c fun s => { s with cmd := level }).fioDrive c

/-- FIO_OUT_SET and FIO_OUT_CLR (R427): the channels of a mask from `base` on are commanded. -/
def Device.fioWrite (d : Device) (base mask : Nat) (level : Bool) : Device :=
  (onesOf 32 mask).foldl (fun d i => if base + i < 40 then d.fioCommand (base + i) level else d) d

/-- FIO_CH_CTRL written (R423, R425, R437). -/
def Device.fioCtrlWrite (d : Device) (c v : Nat) : Device :=
  if bits v 0 2 = 3 then d.fioRefuse 3
  else
    let old := d.rdN (FIO_CH_CTRL c)
    let w := andN v 0x0FFF031B
    let filt := decide (bits old 0 2 ≠ bits w 0 2) || decide (bits old 3 1 ≠ bits w 3 1) || decide (bits old 16 12 ≠ bits w 16 12)
    let d1 := d.wrN (FIO_CH_CTRL c) w
    let d2 := if bits old 0 2 ≠ bits w 0 2 then
        ((((d1.put (fioOut c) 0).put (FIO_CH_STATUS_OUT c) 0).put (FIO_CH_STATUS_RETRY c) 0).put (FIO_CH_STATUS_HELD c) 0).setFio c
          fun s => { s with cmd := false, on := false }
      else d1
    if filt then
      ((d2.fioShow c false).put (FIO_CH_STATUS_COUNT c) 0).setFio c fun s => { s with resetAt := d.clk.now + 200 }
    else d2

/-- CLEAR_CNT in FIO_CMD. -/
def Device.fioClear (d : Device) : Device := (List.range 40).foldl (fun d c => d.wrN (FIO_CH_CNT c) 0) d

/-- The ledger kind of a CAUSE of R429: OPEN, SHORT_GND, SHORT_24V, OVERLOAD, READBACK. -/
def fioKind (cause : Nat) : Nat := cause

/-- A wiring fault decided (R428–R430): counted, shown, and sent at the first decision of a run. -/
def Device.fioFault (d : Device) (c cause : Nat) (raw : Bool) (inj : Option Nat := none) : Device :=
  let first := !bit (d.fio c).fault cause || inj.isSome
  let d1 := (((d.put (FIO_CH_STATUS_CAUSE c) cause).put (FIO_CH_STATUS_FAULT c) 1).put (FIO_CH_STATUS_RAW c) (b2n raw)).incSat
    (FIO_CH_CNT_FAULTS c)
  let d2 := d1.setFio c fun s => { s with fault := setBit s.fault cause true }
  if first then d2.msg 12 c (fioKind cause) (inj.getD (b2n raw)) inj.isSome else d2

/-- Does R429 check a fault of this CAUSE in the channel's mode? -/
def Device.fioChecked (d : Device) (c cause : Nat) : Bool :=
  let m := d.fioMode c
  let on := (d.fio c).on
  match cause with
  | 1 => d.has (FIO_CH_CTRL_OPEN_DET c) && (m == 1 || m == 2)
  | 2 => m == 2 && on
  | 3 => m == 2 && !on
  | 5 => m == 2
  | _ => false

/-- A switch that its limit or its temperature turns off retries (R430). -/
def Device.fioTrip (d : Device) (c : Nat) : Device :=
  ((d.put (FIO_CH_STATUS_RETRY c) 1).raise FIO_EVENT_OVERLOAD).setFio c fun s => { s with on := false, tryAt := d.clk.now }

/-- Is a READBACK fault due (R428): the raw level disagrees with the commanded one and no cause of R429 or R430 explains
it? -/
def Device.fioDisagrees (d : Device) (c : Nat) (raw : Bool) : Bool :=
  raw != (d.fio c).cmd && setBit (d.fio c).fault 5 false == 0 && !d.has (FIO_CH_STATUS_RETRY c)

/-- WIRING_FAULT (R428, R429); a short to ground holds the switch in its current limit for 1 ms, which turns it off
(R430). -/
def Device.fioWiring (d : Device) (c cause : Nat) (raw : Bool) (inj : Option Nat := none) : Device :=
  if !d.fioChecked c cause || (inj.isNone && cause == 5 && !d.fioDisagrees c raw) then d
  else
    let d1 := (d.fioFault c cause raw inj).raise FIO_EVENT_WIRING
    if cause = 2 then d1.fioTrip c else d1

/-- WIRING_FAULT_CLEAR (R429): the condition has been absent for 100 ms. -/
def Device.fioWiringClear (d : Device) (c : Nat) : Device :=
  (d.put (FIO_CH_STATUS_FAULT c) 0).setFio c fun s => { s with fault := 0 }

/-- OVERLOAD (R430): the switch turns off and retries. -/
def Device.fioOverload (d : Device) (c : Nat) (raw : Bool) (inj : Option Nat := none) : Device :=
  if d.fioMode c = 2 ∧ (d.fio c).on = true then (d.fioFault c 4 raw inj).fioTrip c else d

/-- RETRY (R430): 100 ms after a turn-off the switch tries again, while its commanded level stays 1; on for 100 ms after
a try it clears RETRY and FAULT. -/
def Device.fioRetry (d : Device) (c : Nat) : Device :=
  let s := d.fio c
  if d.has (FIO_CH_STATUS_RETRY c) = false ∨ s.cmd = false ∨ d.clk.now < s.tryAt + 10000000 then d
  else if s.on then
    ((d.put (FIO_CH_STATUS_RETRY c) 0).put (FIO_CH_STATUS_FAULT c) 0).setFio c fun s => { s with fault := 0 }
  else (d.incSat (FIO_CH_CNT_RETRIES c)).setFio c fun s => { s with on := true, tryAt := d.clk.now, onAt := d.clk.now }

/-- An output forced off or into its safe state with HELD (R433); it retries no more. -/
def Device.fioHold (d : Device) (c : Nat) (level : Bool) : Device :=
  if d.fioMode c = 2 then
    ((d.put (FIO_CH_STATUS_HELD c) 1).put (FIO_CH_STATUS_RETRY c) 0).setFio c fun s => { s with on := level }
  else d

/-- SUM_LIMIT (R431): the outputs are switched off, the most recent first, until the sum of the measured currents is 8 A
or less.  `cur` gives the current of each channel in mA. -/
def Device.fioSum (d0 : Device) (cur : List Nat) : Device :=
  let ma := (cur.take 40).sum
  let d := (List.range 40).foldl (fun (d : Device) c => d.put (FIO_CH_CUR_MA c) (cur.getD c 0)) d0
  let on := (List.range 40).filter (fun c => d.fioMode c == 2 && (d.fio c).on)
  -- the most recently switched first, then descending channel number
  let newest := on.foldl (fun (b : Option Nat) c => match b with
    | none => some c
    | some x => if (d.fio x).onAt ≤ (d.fio c).onAt then some c else b) none
  let order := match newest with
    | some n => n :: (on.filter (fun c => c != n)).reverse
    | none => []
  let r := order.foldl (fun (acc : Device × Nat) c =>
    if acc.2 ≤ 8000 then acc
    else
      let d1 := (acc.1.fioHold c false).put (FIO_CH_STATUS_CAUSE c) 6
      (d1, acc.2 - cur.getD c 0)) (d, ma)
  let d1 := r.1.put FIO_ISUM_MA (min 65535 ma)
  if ma ≤ 8000 then d1.put FIO_STATUS_SUM_LIMIT 0
  else ((d1.put FIO_STATUS_SUM_LIMIT 1).raise FIO_EVENT_SUM_LIMIT).msg 12 0 9 ma

/-- FIO_VFIELD shows VFIELD in mV.  The rules state no value outside what its signed field holds: there the field
is a free value (notes/assumptions/42). -/
def Device.fioMv (d : Device) (mv : Int) : Device :=
  if -32768 ≤ mv ∧ mv ≤ 32767 then d.put FIO_VFIELD_MV (ofS 16 mv)
  else (d.fresh).2.put FIO_VFIELD_MV ((d.fresh).1.toNat % 2 ^ 16)

/-- VFIELD_MEASURE (R432): `mv` is VFIELD in mV. -/
def Device.fioVfield (d : Device) (mv : Int) : Device :=
  let d1 := d.fioMv mv
  let warn := decide (mv < 19200) || decide (30000 < mv)
  let low := decide (mv < 17000)
  let rev := decide (mv < 0)
  let d2 := d1.put FIO_STATUS_VFIELD_WARN (b2n warn)
  let d3 := d2.detect 12 0 8 (warn && !d.field.warned) (ofS 32 mv) (fun d => d.raise FIO_EVENT_VFIELD)
  let d4 := { d3 with field := { d3.field with warned := warn, low := low } }
  let d5 := if low then
      let f := (List.range 40).foldl (fun d c => d.fioHold c false) d4
      (if d4.has FIO_STATUS_VFIELD_LOW then f else f.raise FIO_EVENT_VFIELD).put FIO_STATUS_VFIELD_LOW 1
    else d4
  let d6 := if rev then
      let f := (List.range 40).foldl (fun (d : Device) c => (d.fioShow c false).put (FIO_CH_STATUS_RAW c) 0) d5
      (if d5.has FIO_STATUS_REVERSED then f else f.raise FIO_EVENT_VFIELD).put FIO_STATUS_REVERSED 1
    else if low then d5
    else (List.range 40).foldl (fun d c => d.fioDrive c) d5
  -- both clear when VFIELD has stayed above 18 V for 10 ms
  if 18000 < mv then
    match d6.field.goodSince with
    | none => { d6 with field := { d6.field with goodSince := some d.clk.now } }
    | some t =>
      if t + 1000000 ≤ d.clk.now then (d6.put FIO_STATUS_VFIELD_LOW 0).put FIO_STATUS_REVERSED 0 else d6
  else { d6 with field := { d6.field with goodSince := none } }

/-- The watchdog time of a group in force, in ticks (R434): FIO_CTRL as it stood at the group's latest refresh frame
(R437). -/
def Device.fioWdogT (d : Device) (g : Nat) : Nat := min 10000 (max 1 (d.fioGrp.pick {} g).wdog) * 10000

/-- Is channel `c` the brake output of an axis (R434)? -/
def Device.isBrake (d : Device) (c : Nat) : Bool :=
  d.lp.any (fun e => e.1 % 0x400 == 0x2B8 && bits e.2.toNat 0 8 == c)

/-- An output takes its programmed safe state and sets HELD (R434, R436). -/
def Device.fioSafe (d : Device) (c : Nat) : Device :=
  let s := d.get (FIO_CH_CTRL_SAFE c)
  if d.isBrake c then d.fioHold c false
  else if s = 1 then d.fioHold c true
  else if s = 2 then d.fioHold c (d.fio c).on
  else d.fioHold c false

/-- The channels of a group. -/
def groupCh (g : Nat) : List Nat := (List.range 8).map (fun j => 8 * g + j)

/-- Three consecutive failed frames on a channel's coupler (R435); a channel without a coupler carries none. -/
def Device.fioCouplerFail (d : Device) (c : Nat) (inj : Option Nat := none) : Device :=
  if d.has (FIO_CH_STATUS_INVALID c) then d else (d.raise FIO_EVENT_COUPLER).msg 12 c 6 (inj.getD c) inj.isSome

/-- The test pattern of a group's spare fails (R435): the spare is not available. -/
def Device.fioSpareFail (d : Device) (g : Nat) (inj : Option Nat := none) : Device :=
  if d.has (FIO_GRP_SPARE_USED g) || (d.fioGrp.pick {} g).spareBad then d
  else
    let d1 := { d with fioGrp := d.fioGrp.upd {} g fun s => { s with spareBad := true } }
    ((d1.put (FIO_GRP_SPARE_BAD g) 1).raise FIO_EVENT_COUPLER).msg 12 (0x40 + g) 6 (inj.getD g) inj.isSome

/-- COUPLER_FAIL (R435) on coupler `c`: 0 to 39 the channels', 40 to 44 the groups' spares. -/
def Device.fioCoupler (d : Device) (c : Nat) : Device := if c < 40 then d.fioCouplerFail c else d.fioSpareFail (c - 40)

/-- The injection points of a group's channels, carried out at its refresh frames (R371): the wiring checks that are on,
the overload of a switch that is on and a channel's coupler. -/
def Device.fioInject (d : Device) (g : Nat) : Device :=
  (groupCh g).foldl (fun (d : Device) c =>
    let raw := d.has (FIO_CH_STATUS_RAW c)
    let one := fun (d : Device) (kind : Nat) (may : Bool) (eff : Device → Nat → Device) =>
      if may then
        match d.injTake 12 c kind with
        | some (dt, d1) => eff d1 dt
        | none => d
      else d
    let d1 := [1, 2, 3, 5].foldl (fun (d : Device) x => one d x (d.fioChecked c x) (fun d dt => d.fioWiring c x raw (some dt))) d
    let d2 := one d1 4 (d1.fioMode c == 2 && (d1.fio c).on) (fun d dt => d.fioOverload c raw (some dt))
    one d2 6 (!d2.has (FIO_CH_STATUS_INVALID c)) (fun d dt => d.fioCouplerFail c (some dt))) d

/-- The injection point of a group's spare coupler (R371), while its test pattern runs. -/
def Device.fioInjectSpare (d : Device) (g : Nat) : Device :=
  if d.has (FIO_GRP_SPARE_USED g) || (d.fioGrp.pick {} g).spareBad then d
  else match d.injTake 12 (0x40 + g) 6 with
    | some (dt, d1) => d1.fioSpareFail g (some dt)
    | none => d

/-- The watchdog of a group expires (R434): its outputs take their safe states. -/
def Device.fioExpire (d : Device) (g : Nat) : Device :=
  let d1 := (groupCh g).foldl (fun d c => d.fioSafe c) d
  let d2 := { d1 with fioGrp := d1.fioGrp.upd {} g fun s => { s with expired := true }, field := { d1.field with wdogSeen := true } }
  (d2.raise FIO_EVENT_WDOG).put FIO_STATUS_LINK 0

/-- The outputs of a group's channels that have had no coupler for WDOG_T take their safe states (R436). -/
def Device.fioCut (d : Device) (g : Nat) : Device :=
  (groupCh g).foldl (fun (d : Device) c => match (d.fio c).cutAt with
    | some t => if d.clk.now < t + d.fioWdogT g then d else (d.fioSafe c).setFio c fun s => { s with cutAt := none }
    | none => d) d

/-- FIELD_WATCHDOG (R434, R436): no valid frame for WDOG_T, of a group whose frames run, or of a channel without a
coupler. -/
def Device.fioWatchdog (d : Device) (g : Nat) : Device :=
  let s := d.fioGrp.pick {} g
  let d1 := d.fioCut g
  if s.live = false ∨ s.expired = true ∨ d.clk.now < s.lastFrame + d.fioWdogT g then d1 else d1.fioExpire g

/-- Refresh frames run to every group (LINK). -/
def Device.fioLink (d : Device) : Device :=
  d.put FIO_STATUS_LINK (b2n ((List.range 5).all (fun g => (d.fioGrp.pick {} g).live && !(d.fioGrp.pick {} g).expired)))

/-- A valid frame restarts the group's watchdog and carries its commanded levels and WDOG_T (R434, R437); after an outage
FIO_WDOG is sent with its length. -/
def Device.fioRefresh0 (d : Device) (g : Nat) : Device :=
  let s := d.fioGrp.pick {} g
  let d1 := { d with fioGrp := d.fioGrp.upd {} g fun s =>
    { s with live := true, expired := false, lastFrame := d.clk.now, wdog := d.get FIO_CTRL_WDOG_T } }
  let d2 := if s.expired then d1.msg 12 (0x40 + g) 7 ((d.clk.now - s.lastFrame) / 100000) else d1
  ((groupCh g).foldl (fun d c => d.fioDrive c) d2).fioLink

/-- REFRESH_FRAME (R434) with the injections of the group: a gap of WDOG_T before it has expired the watchdog, and an
injected FIO_WDOG acts as an outage that this frame ends (R371). -/
def Device.fioRefresh (d : Device) (g : Nat) : Device :=
  let d1 := (((d.fioWatchdog g).fioRefresh0 g).fioInject g).fioInjectSpare g
  let d2 := if g = 0 then d1.detect 12 0 9 false 0 (fun d => d.raise FIO_EVENT_SUM_LIMIT) else d1
  d2.detect 12 (0x40 + g) 7 false 0 (fun d => ((groupCh g).foldl (fun d c => d.fioSafe c) d).raise FIO_EVENT_WDOG)

/-- The loader applies the field configuration: from then on the refresh frames run to every group (R434). -/
def Device.fioStart (d : Device) : Device := (List.range 5).foldl (fun d g => d.fioRefresh0 g) d

/-- A channel without a coupler (R436): its output keeps its level until WDOG_T has passed. -/
def Device.fioNoCoupler (d : Device) (c : Nat) : Device :=
  let g := c / 8
  let d1 := ((d.put (FIO_CH_STATUS_INVALID c) 1).fioShow c false).put ⟨FIO_GRP g, c % 8, 1⟩ 1
  d1.setFio c fun s => { s with cutAt := some d.clk.now }

/-- A channel served by its group's spare (R435). -/
def Device.fioOnSpare (d : Device) (c : Nat) : Device :=
  let g := c / 8
  let d1 := d.setFio c fun s => { s with spare := true, cutAt := none }
  ((((((d1.put (FIO_CH_STATUS_ON_SPARE c) 1).put (FIO_CH_STATUS_INVALID c) 0).put ⟨FIO_GRP g, c % 8, 1⟩ 0).put
    (FIO_GRP_SPARE_USED g) 1).put (FIO_GRP_SPARE_CH g) (c % 8)).put (FIO_GRP_SPARE_BAD g) 1).raise FIO_EVENT_COUPLER

/-- A coupler fenced or retired by the ledger (R362, R435, R436): the spare takes over if it is available. -/
def Device.fioFence (d : Device) (c : Nat) : Device :=
  let g := c / 8
  if d.has (FIO_GRP_SPARE_USED g) || (d.fioGrp.pick {} g).spareBad then d.fioNoCoupler c else d.fioOnSpare c

/-- A fenced coupler recovers (R363, R435): it becomes the group's spare and the spare that served a channel stays with
it, or it serves a channel that has none. -/
def Device.fioRecover (d : Device) (c : Nat) : Device :=
  let g := c / 8
  let d1 := (groupCh g).foldl (fun (d : Device) j =>
    (d.put (FIO_CH_STATUS_ON_SPARE j) 0).setFio j fun s => { s with spare := false }) d
  let d2 := { d1 with fioGrp := d1.fioGrp.upd {} g fun s => { s with spareBad := false } }
  let d3 := ((d2.put (FIO_GRP_SPARE_BAD g) 0).put (FIO_GRP_SPARE_USED g) 0).put (FIO_GRP_SPARE_CH g) 0
  match (groupCh g).find? (fun j => d.has (FIO_CH_STATUS_INVALID j)) with
  | some j => (d3.fioOnSpare j).fioDrive j
  | none => d3

/-- DEVICE_SAFE (R358): every output takes its safe state with HELD. -/
def Device.fioAllSafe (d : Device) : Device := (List.range 40).foldl (fun d c => d.fioSafe c) d

end Sys2Proof.Machine
end

