-- ==== Sys2Proof/Machine/AxBase.lean ====
section
/-! DEFINITION. An axis's state, its engine slot and state vector, its outbox and its brake: what the modulator, the stock
loop and the feedback unit share (R121–R128, R158). -/

namespace Sys2Proof.Machine

/-- The axis states of AX_STATUS. -/
def axOFF : Nat := 0
/-- ENABLING. -/
def axENABLING : Nat := 1
/-- RUN. -/
def axRUN : Nat := 2
/-- DISABLING. -/
def axDISABLING : Nat := 3
/-- RIDE. -/
def axRIDE : Nat := 4

/-- The control of axis `k`. -/
def Device.ax (d : Device) (k : Nat) : AxisCtl := d.axes.pick {} k
/-- The control of axis `k` changed. -/
def Device.setAx (d : Device) (k : Nat) (f : AxisCtl → AxisCtl) : Device := { d with axes := d.axes.upd {} k f }
/-- The STATE of axis `k` at this moment. -/
def Device.axState (d : Device) (k : Nat) : Nat := d.liveGet (AX_STATUS_STATE k)
/-- The STATE of axis `k` changed. -/
def Device.setAxState (d : Device) (k st : Nat) : Device := d.livePut (AX_STATUS_STATE k) st
/-- The hold-off bit of an axis. -/
def holdOff (k : Nat) : Fld := ⟨LG_HOLDOFF (k / 32), k % 32, 1⟩

/-- The VARIANT of axis `k`. -/
def Device.variant (d : Device) (k : Nat) : Nat := d.get (AX_CTRL_VARIANT k)

/-- Engine `e`. -/
def Device.eng (d : Device) (e : Nat) : Engine := d.engines.pick {} e
/-- Engine `e` changed. -/
def Device.setEng (d : Device) (e : Nat) (f : Engine → Engine) : Device := { d with engines := d.engines.upd {} e f }

/-- The axis of a slot of engine `e` (DV_SLOT_A, DV_SLOT_B); 0xFF for none. -/
def Device.slotAxis (d : Device) (e j : Nat) : Nat :=
  let w := if j < 4 then d.rdN (DV_SLOT_A e) else d.rdN (DV_SLOT_B e)
  bits w (8 * (j % 4)) 8

/-- The assigned slots of engine `e`, as a mask. -/
def Device.slotMask (d : Device) (e : Nat) : Nat :=
  ((List.range 8).map (fun j => if d.slotAxis e j = 0xFF then 0 else 2 ^ j)).sum

/-- The slots whose computation still runs at a boundary, so that they are refreshed only when it stages (R159). -/
def Device.carryMask (d : Device) (e : Nat) : Nat :=
  if (d.eng e).running then diffN (d.slotMask e) (d.eng e).staged else 0

/-- The engine and slot that serve axis `k`. -/
def Device.slotOf (d : Device) (k : Nat) : Option (Nat × Nat) :=
  (List.range 28).findSome? (fun e =>
    ((List.range 8).find? (fun j => d.slotAxis e j == k)).map (fun j => (e, j)))

/-- The data memory word of an offset in a slot window. -/
def winAddr (slot off : Nat) : Nat := 0x400 * slot + off

/-- A data memory word of engine `e`. -/
def Device.dm (d : Device) (e a : Nat) : BitVec 32 := Store.get (fun _ => 0) (d.eng e).dmem a
/-- A written data memory word has sound check bits (R376). -/
def clearErr (m : Store Nat) (a : Nat) : Store Nat := m.filter (fun x => x.1 / 4 != a)
/-- The key of a hard bit of a tile memory's byte. -/
def tileHardKey (e prog a lane : Nat) : Nat := 0x200000000 + e * 2 ^ 20 + prog * 2 ^ 19 + a * 8 + lane
/-- A remap word of a tile memory. -/
def remapId (e prog s : Nat) : Nat := (e * 2 + prog) * 8 + s
/-- The key of a hard bit of a remap word's byte. -/
def remapKey (id lane : Nat) : Nat := 0x300000000 + id * 8 + lane

/-- The stuck bits of a byte of a tile memory, in the word itself or in the remap word that serves it (R379, R386). -/
def Device.tileHardAt (d : Device) (e prog a lane : Nat) : Nat :=
  d.mem.hard.pick 0 (match d.mem.remaps.find? (fun x => x.1 == tileHardKey e prog a 0) with
    | some x => remapKey x.2 lane
    | none => tileHardKey e prog a lane)

/-- The check bits' errors of data memory once a word has been written: none but those of its stuck bits. -/
def Device.dmErr (d : Device) (e a : Nat) (m : Store Nat) : Store Nat :=
  let m1 := clearErr m a
  if d.mem.hard.isEmpty then m1 else (List.range 4).foldl (fun (m : Store Nat) i => m.upd 0 (4 * a + i) fun _ => d.tileHardAt e 0 a i) m1

/-- A data memory word of engine `e` written. -/
def Device.setDm (d : Device) (e a : Nat) (v : BitVec 32) : Device :=
  d.setEng e fun s => { s with dmem := Store.set (fun _ => 0) s.dmem a v, derr := d.dmErr e a s.derr }
/-- Data memory words written from an address on. -/
def Device.setDms (d : Device) (e a : Nat) (ws : List Nat) : Device :=
  let pairs := ws.zip (List.range ws.length)
  let put := fun (m : Store (BitVec 32)) (x : Nat × Nat) => Store.set (fun _ => 0) m ((a + x.2) % 16384) (BitVec.ofNat 32 x.1)
  d.setEng e fun s =>
    let m := pairs.foldl put s.dmem
    let er := pairs.foldl (fun (m : Store Nat) (x : Nat × Nat) => d.dmErr e ((a + x.2) % 16384) m) s.derr
    { s with dmem := m, derr := er }

/-- The state vector cleared (R122, R125, R126), except the internal angle offset at 0x2C. -/
def Device.vecClear (d : Device) (k : Nat) : Device :=
  match d.slotOf k with
  | none => d
  | some (e, j) =>
    (List.range 30).foldl (fun d i => if i = 11 then d else d.setDm e (winAddr j (0x1C0 + i)) 0) d

/-- The internal angle offset moved at a SHIFT by a whole number of counts (R106). -/
def Device.vecShift (d : Device) (k : Nat) (counts : Int) : Device :=
  match d.slotOf k with
  | none => d
  | some (e, j) =>
    let a := winAddr j (0x1C0 + 11)
    let es : Int := (d.lpRd (AX_LP_ESCALE k)).toNat
    let q := fdiv (counts * es) (2 ^ d.lpGet (AX_LP_SH3_SH_ESCALE k))
    d.setDm e a (BitVec.ofNat 32 (ofS 32 ((d.dm e a).toNat - q)))

/-- Word `i` of an outbox (0 to 63 for words 0x180 to 0x1BF). -/
def obWord (o : List Nat) (i : Nat) : Nat := o.getD i 0
/-- BRIDGE_OFF of an outbox (R158). -/
def obOff (o : List Nat) : Bool := bit (obWord o 3) 0
/-- The outbox that stages bridge-off. -/
def offOutbox : List Nat := [0, 0, 0, 1]

/-- The brake output energised or de-energised (R122, R125, R427). -/
def Device.brake (d : Device) (k : Nat) (on : Bool) : Device :=
  let c := d.lpGet (AX_LP_BRAKE_CHANNEL k)
  if c < 40 then (d.livePut (AX_STATUS_BRAKE k) (b2n on)).fioCommand c on else d

/-- The planner goes to OFF, and a gantry twin with its pair's state is left to the pair. -/
def Device.axOffNow (d : Device) (k cause : Nat) : Device :=
  let d1 := (((d.brake k false).vecClear k).setAxState k axOFF).livePut (AX_STATUS_OFF_CAUSE k) cause
  let d2 := d1.setAx k fun s => { s with enPend := none, brakeAt := none, relAt := none, alignAt := none, rest := none, staged := none,
                                         out := offOutbox, applied := offOutbox, stagedSince := false }
  let d3 := d2.setFb k fun u => { u with obs := false }
  ((d3.livePut (AX_FB_STATUS_OBSERVER k) 0).plOff k).raise (AX_EVENT_OFF k)

/-- A pending enable withdrawn (R122). -/
def Device.axWithdraw (d : Device) (k : Nat) (cause : Option Nat) : Device :=
  let d1 := d.setAx k fun s => { s with enPend := none }
  match cause with
  | some c => d1.livePut (AX_STATUS_OFF_CAUSE k) c
  | none => d1

/-- A quick stop or controlled stop that is never refused, on the axis, its convoy (R79, R85) or its gantry primary; `rank`
is the place of the demand in its tick (R48). -/
def Device.axForceStop (d : Device) (k kind : Nat) (report : Bool := false) (rank : Nat := 3) : Device :=
  if (d.cyOf k).isSome then d.cyMemberStop k kind report
  else
    let kk := match d.gpTwin k with
      | some g => d.get (GL_GP_CTRL_PRIMARY g)
      | none => k
    if kind = 2 then d.plForceQstop kk rank else d.plForceStop kk

end Sys2Proof.Machine
end

