-- ==== Sys2Proof/Machine/Modulator.lean ====
section
/-! DEFINITION. The modulator (R270–R297): pairs with their carriers, dither, shadow transfer and dead time, trips, the
bindings of axes and the hand-off of duties. -/

namespace Sys2Proof.Machine

/-- Pair `k`. -/
def Device.pair (d : Device) (k : Nat) : Pair := d.pairs.pick {} k
/-- Pair `k` changed. -/
def Device.setPair (d : Device) (k : Nat) (f : Pair → Pair) : Device := { d with pairs := d.pairs.upd {} k f }

/-- PER of a set. -/
def PairSet.PER (s : PairSet) : Nat := s.per.toNat % 65536
/-- TIME of a set. -/
def PairSet.TIME (s : PairSet) : Nat := s.per.toNat / 65536
/-- CARRIER of a set. -/
def PairSet.carrier (s : PairSet) : Nat := bits s.ctrl.toNat 2 1 * 2 + bits s.ctrl.toNat 1 1
/-- DT of a set. -/
def PairSet.dt (s : PairSet) : Nat := bits s.ctrl.toNat 16 8
/-- UPD_HALF of a set (CARRIER 0 only). -/
def PairSet.half (s : PairSet) : Bool := bit s.ctrl.toNat 6 && s.carrier == 0
/-- SYNC of a set. -/
def PairSet.sync (s : PairSet) : Bool := bit s.ctrl.toNat 5

/-- R278: may a carrier of period `per` be locked to beats of `len` ticks? -/
def syncFits (len per : Nat) : Bool :=
  decide (per ≠ 0) && (decide (len % per = 0) || [1, 2, 3, 4, 5].any (fun j => per == len * 2 ^ j))

/-- Does a SYNC carrier of this set start a period at the boundary of a beat (R278)? -/
def Device.syncStarts (d : Device) (s : PairSet) : Bool :=
  s.sync && syncFits d.clk.len s.PER &&
    (decide (d.clk.len % s.PER = 0) || decide (d.clk.beat % max 1 (s.PER / max 1 d.clk.len) = 0))

/-- The ticks left to the next start that SYNC forces (R278); the present beat may be shortened (R28). -/
def Device.syncLeft (d : Device) (s : PairSet) : Option Nat :=
  if s.sync && syncFits d.clk.len s.PER then
    let m := if d.clk.len % s.PER = 0 then 1 else s.PER / max 1 d.clk.len
    some (d.clk.curLen - d.clk.tick + (m - 1 - d.clk.beat % m) * d.clk.len)
  else none

/-- The period in progress, as short as SYNC and alignment make it (R278). -/
def Device.periodLen (d : Device) (k : Nat) : Nat :=
  let p := d.pair k
  match d.syncLeft p.active with
  | some left => min p.perLen (d.clk.now - p.start + left)
  | none => p.perLen

/-- bitrev4 (R276). -/
def bitrev4 (k : Nat) : Nat := bits k 0 1 * 8 + bits k 1 1 * 4 + bits k 2 1 * 2 + bits k 3 1

/-- R276: the active time of period `k` for a compare in sixteenths of a tick. -/
def dithered (cmp k per : Nat) : Nat := min (cmp / 16 + (if bitrev4 (k % 16) < cmp % 16 then 1 else 0)) per

/-- R277: is W active `t` ticks into the period? -/
def Device.wTarget (d : Device) (k t : Nat) : Bool :=
  let p := d.pair k
  let s := p.active
  let len := d.periodLen k
  let a1 := min p.act len
  let a2 := min p.act2 len
  match s.carrier with
  | 0 =>
    let lo := (p.perLen - a1) / 2
    let hi := (p.perLen - a2) / 2 + a2
    decide (lo ≤ t) && decide (t < hi)
  | _ => decide (t < a1)

/-- Are both outputs of a pair held inactive: a trip, STO, BRIDGE_OFF, OUT_MODE 0, the OFF bit (R270, R274, R287, R292,
R297)? -/
def Pair.blocked (p : Pair) : Bool :=
  p.tripped || p.stoOff || p.bridgeOff || p.active.mode == 0 || p.active.off

/-- The outputs follow W, the dead time and what holds the pair off (R281, R294); they stay inactive until the beat
scheduler runs (R270). -/
def Device.drive (d : Device) (k : Nat) : Device :=
  d.setPair k fun p =>
    if p.blocked || !d.clk.running then { p with hi := false, lo := false }
    else if p.active.mode = 2 then { p with hi := p.w, lo := false }
    else
      let due := decide (p.wAt + p.active.dt ≤ d.clk.now)
      { p with hi := p.w && (p.hi || due), lo := !p.w && (p.lo || due) }

/-- R281: the levels of the pins LBk_H and LBk_L; POL_H and POL_L of the active set select the active level of each. -/
def Pair.pins (p : Pair) : Bool × Bool :=
  (p.hi != bit p.active.ctrl.toNat 3, p.lo != bit p.active.ctrl.toNat 4)

/-- W brought to a level, with the tick of a change. -/
def Device.setW (d : Device) (k : Nat) (w : Bool) : Device :=
  if (d.pair k).w = w then d.drive k
  else (d.setPair k fun p => { p with w := w, wAt := d.clk.now }).drive k

/-- COMPARE_MATCH (R277): W takes the level that the carrier gives it at this tick. -/
def Device.compareMatch (d : Device) (k : Nat) : Device :=
  let p := d.pair k
  if p.started then d.setW k (d.wTarget k (d.clk.now - p.start)) else d

/-- DEAD_TIME_END (R281): the output of W's state becomes active once DT ticks have passed. -/
def Device.deadTimeEnd (d : Device) (k : Nat) : Device := d.drive k

/-- What software reads of a pair's active set and of its pending one. -/
def Device.pairShow (d : Device) (k : Nat) : Device :=
  let p := d.pair k
  ((d.put (MD_PAIR_STATUS_ACTIVE k) p.active.cmp).put (MD_PAIR_ACT_PER_PER k) p.active.PER).put (MD_PAIR_STATUS_COMMIT_PEND k)
    (b2n (p.pending.isSome || p.waitCommit))

/-- R284: a compare that a commit of a new period keeps is clamped to that period. -/
def PairSet.clamped (s : PairSet) : Bool := s.keep && decide (s.carrier ≠ 2) && decide (16 * s.PER < s.cmp)

/-- Is trip input `m` a chop comparator of a pair in CARRIER 3 (R280)? -/
def Device.isChop (d : Device) (m : Nat) : Bool :=
  (List.range 12).any (fun k => (d.pair k).active.carrier == 3 && bits (d.pair k).active.ctrl.toNat 8 3 == m)

/-- CHOP of MD_TRIP_STATUS for every input. -/
def Device.chopShow (d : Device) : Device :=
  (List.range 8).foldl (fun d m => d.put (MD_TRIP_STATUS_CHOP m) (b2n (d.isChop m))) d

/-- The transfer (R282–R284): the committed set becomes the active one; a staged set without BRIDGE_OFF ends the hold. -/
def Device.pairTransfer (d : Device) (k : Nat) : Device :=
  match (d.pair k).pending with
  | none => d
  | some s =>
    let s1 := if s.clamped then { s with cmp := 16 * s.PER } else s
    let d1 := d.setPair k fun p =>
      { p with active := s1, pending := none, k := if p.active.mode = 0 then 15 else p.k,
               bridgeOff := p.bridgeOff && !s.fromStage }
    let d2 := if s.clamped then d1.raise (MD_PAIR_EVENT_CLAMP k) else d1
    let lost := s.sync && !syncFits d.clk.len s.PER
    ((d2.put (MD_PAIR_STATUS_SYNC_LOST k) (b2n lost)).pairShow k).chopShow

/-- The pair's trip state as software reads it. -/
def Device.pairTripped (d : Device) (k : Nat) (on : Bool) : Device :=
  (d.setPair k fun p => { p with tripped := on }).put (MD_PAIR_STATUS_TRIPPED k) (b2n on)

/-- The length and the active time of a period that starts (R276, R277, R279, R280), and whether it was clamped. -/
def periodOf (s : PairSet) (k : Nat) : Nat × Nat × Bool :=
  match s.carrier with
  | 2 =>
    if s.cmp = 0 then (s.PER, 0, false)
    else
      let lo := s.TIME + 2 * s.dt + 2
      let x := s.TIME * 2 ^ 20 / s.cmp
      (min (max x lo) s.PER, s.TIME, decide (x < lo))
  | 3 => (s.cmp / 16 + max 1 s.TIME, s.cmp / 16, false)
  | _ => (s.PER, dithered s.cmp k s.PER, false)

/-- May a period start now: none is in progress, the one in progress is over, or SYNC starts one (R277, R278)? -/
def Device.periodDue (d : Device) (k : Nat) : Bool :=
  let p := d.pair k
  !p.started || decide (p.start + p.perLen ≤ d.clk.now) ||
    (d.clk.tick == 0 && d.syncStarts p.active && decide (p.start < d.clk.now))

/-- PERIOD_START (R276, R277, R282, R295): the transfer, the dither count, and the end of a trip no source holds. -/
def Device.periodStart (d : Device) (k : Nat) : Device :=
  if !d.periodDue k then d
  else
    let p := d.pair k
    let d1 := if p.started then d.put (MD_PAIR_ACT_PER_LAST_PER k) (d.clk.now - p.start) else d
    let d2 := d1.pairTransfer k
    let d3 := if p.forcedBy = 0 ∧ p.tripped = true then d2.pairTripped k false else d2
    let q := d3.pair k
    let kk := if p.started then (q.k + 1) % 16 else 0
    let (len, act, cl) := periodOf q.active kk
    let d4 := d3.setPair k fun p =>
      { p with started := true, start := d.clk.now, k := kk, perLen := len, act := act, act2 := act }
    let d5 := if cl then d4.raise (MD_PAIR_EVENT_CLAMP k) else d4
    d5.setW k (d5.wTarget k 0)

/-- PERIOD_MIDDLE (R277, R282): with UPD_HALF a committed set transfers at the middle and ends the active interval.  A pair
that this transfer enables counts the period in progress as its first, k = 0 (R276). -/
def Device.periodMiddle (d : Device) (k : Nat) : Device :=
  let p := d.pair k
  if p.started && p.active.half && decide (p.start + p.perLen / 2 ≤ d.clk.now) && p.pending.isSome then
    let d1 := d.pairTransfer k
    let kk := if p.active.mode = 0 then 0 else p.k
    let d2 := d1.setPair k fun q => { q with k := kk, act2 := dithered q.active.cmp kk q.perLen }
    d2.setW k (d2.wTarget k (d.clk.now - p.start))
  else d

/-- CHOP (R280): the chop input accepted active at least BLANK ticks after the period start ends the on-time. -/
def Device.chop (d : Device) (k : Nat) : Device :=
  let p := d.pair k
  let t := d.clk.now - p.start
  if p.started && p.active.carrier == 3 && decide (bits p.active.ctrl.toNat 24 8 ≤ t) && decide (t < p.act) &&
      d.has (MD_TRIP_CTRL_EN (bits p.active.ctrl.toNat 8 3)) then
    (d.setPair k fun p => { p with act := t, act2 := t, perLen := t + max 1 p.active.TIME }).setW k false
  else d

/-! ### Trips -/

/-- The pairs in a source's row of the trip map (R291). -/
def Device.rowPairs (d : Device) (s : Nat) : Nat := leAt (d.tblWork 0x120) (0x90 * s) 4 % 4096

/-- The node channels in a source's row: 64 · chain + 4 · node + channel (R291). -/
def Device.rowChans (d : Device) (s : Nat) : List Nat :=
  let bs := ((d.tblWork 0x120).drop (0x90 * s + 16)).take 128
  (bs.zip (List.range bs.length)).flatMap (fun x =>
    if x.1 = 0 then [] else (onesOf 8 x.1.toNat).map (fun i => 8 * x.2 + i))

/-- The outputs of a latched source's row forced inactive (R292, R296); the row of a chop input is ignored (R280). -/
def Device.tripForce (d : Device) (s : Nat) : Device :=
  if d.isChop s then d else
  let d1 := (onesOf 12 (d.rowPairs s)).foldl (fun (d : Device) k =>
    if bit (d.pair k).forcedBy s then d
    else (((d.setPair k fun p => { p with forcedBy := p.forcedBy + 2 ^ s }).pairTripped k true).raise
      (MD_PAIR_EVENT_TRIPPED k)).drive k) d
  let force := fun (m : Store Nat) (c : Nat) => m.upd 0 c (fun x => setBit x s true)
  { d1 with md := { d1.md with chForce := (d1.rowChans s).foldl force d1.md.chForce } }

/-- The local effects of a source that latches (R292). -/
def Device.tripLatch (d : Device) (s : Nat) : Device :=
  ((d.put MD_TRIP_LATCH_LATCHED (setBit (d.get MD_TRIP_LATCH_LATCHED) s true)).incSat (MD_TRIP_CNT_TRIPS s)).tripForce s

/-- A source latches and sends MD_TRIP (R292); one that is latched already stays as it is. -/
def Device.tripSource (d : Device) (s : Nat) : Device :=
  if bit (d.get MD_TRIP_LATCH_LATCHED) s then d else (d.tripLatch s).msg 7 s 1 s

/-- The chop that an accepted level of input `m` gives every pair that names it (R280). -/
def Device.chopAll (d : Device) (m : Nat) : Device :=
  (List.range 12).foldl (fun (d : Device) k =>
    if bits (d.pair k).active.ctrl.toNat 8 3 = m then d.chop k else d) d

/-- Injections of MD_TRIP are carried out at the next tick, at which every source is sampled (R371).  An input that is a
chop comparator only chops: it never latches (R280), so nothing is sent. -/
def Device.tripInject (d : Device) : Device :=
  (List.range 16).foldl (fun d s =>
    match d.injTake 7 s 1 with
    | some (dt, d1) =>
      if d1.isChop s then d1.chopAll s
      else ((if bit (d1.get MD_TRIP_LATCH_LATCHED) s then d1 else d1.tripLatch s).msg 7 s 1 dt true)
    | none => d) d

/-- The filtered level of input `m` becomes active (R290, R292): a chop comparator chops (R280), any other input latches
its source. -/
def Device.tripActive (d : Device) (m : Nat) : Device :=
  let d0 := if d.has (MD_TRIP_STATUS_LEVEL m) then d else d.note 4 (2 * 4096 + m) 1
  let d1 := d0.put (MD_TRIP_STATUS_LEVEL m) 1
  if d1.isChop m then d1.chopAll m else d1.tripSource m

/-- The filtered level of input `m` becomes inactive (R290). -/
def Device.tripQuiet (d : Device) (m : Nat) : Device :=
  (if d.has (MD_TRIP_STATUS_LEVEL m) then d.note 4 (2 * 4096 + m) 0 else d).put (MD_TRIP_STATUS_LEVEL m) 0

/-- The level of pin TRIPm once it has been the same on FILT + 1 samples (R290). -/
def Device.tripPin (d : Device) (m lvl : Nat) : Device :=
  { d.put (MD_TRIP_STATUS_PIN m) lvl with md := { d.md with tripSeen := setBit d.md.tripSeen m true } }

/-- TRIP_INPUT (R290, R292): input `m` is accepted active; a disabled one never is. -/
def Device.tripInput (d : Device) (m : Nat) : Device :=
  let d1 := d.tripPin m (d.get (MD_TRIP_CTRL_POL m))
  if d.has (MD_TRIP_CTRL_EN m) then d1.tripActive m else d1

/-- TRIP_INACTIVE (R290). -/
def Device.tripInactive (d : Device) (m : Nat) : Device := (d.tripPin m (1 - d.get (MD_TRIP_CTRL_POL m))).tripQuiet m

/-- A write of MD_TRIP_CTRL (R290): POL and EN are applied to the level that the pin was last accepted at; a disabled input
is never active. -/
def Device.tripCtrlWrite (d : Device) (m v : Nat) : Device :=
  let d1 := d.wrN (MD_TRIP_CTRL m) (v % 1024)
  if bit v 9 && bit d.md.tripSeen m && d.get (MD_TRIP_STATUS_PIN m) == b2n (bit v 8) then
    if d.has (MD_TRIP_STATUS_LEVEL m) then d1 else d1.tripActive m
  else d1.tripQuiet m

/-- SOFT_TRIP (R292): a write of MD_SOFT_TRIP. -/
def Device.softTrip (d : Device) (v : Nat) : Device :=
  (onesOf 16 v).foldl (fun d s => if 8 ≤ s then d.tripSource s else d) d

/-- One source cleared, or refused while its input is active (R295). -/
def Device.tripClear1 (d : Device) (s : Nat) : Device :=
  if !bit (d.get MD_TRIP_LATCH_LATCHED) s then d
  else if s < 8 ∧ d.has (MD_TRIP_STATUS_LEVEL s) = true then
    (d.incSat (MD_TRIP_CNT_REFUSED_CLR s)).raise MD_TRIP_CLEAR_EV_TRIP_CLEAR_REFUSED
  else
    let d1 := d.put MD_TRIP_LATCH_LATCHED (setBit (d.get MD_TRIP_LATCH_LATCHED) s false)
    let d2 := (List.range 12).foldl (fun (d : Device) k =>
      if bit (d.pair k).forcedBy s then d.setPair k fun p => { p with forcedBy := setBit p.forcedBy s false } else d) d1
    let drop := fun (m : Store Nat) (x : Nat × Nat) => m.upd 0 x.1 (fun v => setBit v s false)
    { d2 with md := { d2.md with chForce := d2.md.chForce.foldl drop d2.md.chForce } }

/-- TRIP_CLEAR (R295): a write of MD_TRIP_CLEAR. -/
def Device.tripClear (d : Device) (v : Nat) : Device := (onesOf 16 v).foldl (fun d s => d.tripClear1 s) d

/-- A trip map that swapped: the rows of the latched sources are forced under the new map (R296). -/
def Device.tripMapSwapped (d : Device) : Device :=
  (onesOf 16 (d.get MD_TRIP_LATCH_LATCHED)).foldl (fun d s => d.tripForce s) d

/-- The node channels whose compare words carry OFF in the next frame, settled at D (R293, R295). -/
def Device.tripHandOff (d : Device) : Device := { d with md := { d.md with chOff := d.md.chForce } }

/-! ### Bindings -/

/-- R271: the number of local pairs that a variant needs. -/
def feedCount (variant : Nat) : Nat :=
  match variant with
  | 0 => 3
  | 1 => 2
  | 2 => 4
  | _ => 0

/-- The pairs that an axis's binding claims (R272): those its variant's feeds name. -/
def Device.claims (d : Device) (k : Nat) : List Nat :=
  if d.get (AX_MB_CTRL_KIND k) = 1 then
    (List.range (feedCount (d.variant k))).map (fun i => bits (d.get (AX_MB_PAIRS_PAIRS k)) (4 * i) 4)
  else []

/-- The axes that have a modulator binding of a kind. -/
def Device.boundAxes (d : Device) (kind : Nat) : List Nat :=
  (List.range 192).filter (fun k => d.get (AX_MB_CTRL_KIND k) == kind)

/-- R272: is the binding of an axis valid?  Variants 3 and 7 need no pairs and no channel. -/
def Device.mbValid (d : Device) (k : Nat) : Bool :=
  let v := d.variant k
  if feedCount v = 0 then true
  else
    match d.get (AX_MB_CTRL_KIND k) with
    | 1 => (d.claims k).all (fun p => decide (p < 12) &&
        (d.boundAxes 1).all (fun j => j == k || !(d.claims j).contains p))
    | 2 => (d.boundAxes 2).all (fun j => j == k || d.get (AX_MB_CHAN_CHAN j) != d.get (AX_MB_CHAN_CHAN k))
    | _ => false

/-- The axis whose valid binding names pair `p` in a feed that its variant needs (R272). -/
def Device.pairAxis (d : Device) (p : Nat) : Option Nat :=
  (d.boundAxes 1).find? (fun k => (d.claims k).contains p && d.mbValid k)

/-- Is pair `p` bound (R272)? -/
def Device.pairBound (d : Device) (p : Nat) : Bool := (d.pairAxis p).isSome

/-- VALID and BOUND as software reads them, and the STO hold of bound pairs, after a binding changed. -/
def Device.bindShow (d : Device) : Device :=
  let d1 := ((d.boundAxes 1) ++ (d.boundAxes 2)).foldl (fun d k => d.livePut (AX_MB_STATUS_VALID k) (b2n (d.mbValid k))) d
  (List.range 12).foldl (fun d p =>
    let a := d.pairAxis p
    let sto := match a with
      | some k => (d.ax k).sto
      | none => false
    ((d.put (MD_PAIR_STATUS_BOUND p) (b2n a.isSome)).setPair p fun q => { q with stoOff := sto }).drive p) d1

/-- The refusal of a binding request. -/
def Device.mbRefuse (d : Device) (k code : Nat) : Device := d.livePut (AX_MB_STATUS_REFUSE_LAST k) code

/-- MB_BINDING_WRITE (R272): register 0 AX_MB_CTRL, 1 AX_MB_PAIRS, 2 AX_MB_CHAN. -/
def Device.mbWrite (d : Device) (k reg v : Nat) : Device :=
  if d.axState k ≠ axOFF then d.mbRefuse k 1
  else if reg = 0 then
    if v % 4 = 3 then d.mbRefuse k 2
    else
      let d1 := d.put (AX_MB_CTRL_KIND k) (v % 4)
      (d1.livePut (AX_MB_STATUS_VALID k) (b2n (d1.mbValid k))).bindShow
  else if reg = 1 then (d.put (AX_MB_PAIRS_PAIRS k) (v % 65536)).bindShow
  else (d.put (AX_MB_CHAN_CHAN k) (v % 1024)).bindShow

/-- The carrier word of axis `k` in force (R273, R275). -/
def Device.carrierOf (d : Device) (k : Nat) : Nat :=
  (Store.get (fun _ => 0x00000C80) d.md.carrier k).toNat

/-- MB_COMMIT (R275, R278, R285): the carrier takes effect at the next boundary. -/
def Device.mbCommit (d : Device) (k : Nat) : Device :=
  let w := d.rdN (AX_MB_CARRIER k)
  let car := bits w 26 2
  if 2 ≤ car ∧ d.get (AX_MB_CTRL_KIND k) = 2 then d.mbRefuse k 3
  else if bit w 31 && (decide (2 ≤ car) || !syncFits d.clk.len (w % 65536)) then d.mbRefuse k 4
  else { d with md := { d.md with carrierPend := if d.md.carrierPend.contains k then d.md.carrierPend else d.md.carrierPend ++ [k]
                                  carrierNext := Store.set (fun _ => 0x00000C80) d.md.carrierNext k (d.rd (AX_MB_CARRIER k)) } }

/-- The boundary (R285): committed carriers take effect. -/
def Device.carrierApply (d : Device) : Device :=
  let take := fun (m : Store (BitVec 32)) (k : Nat) =>
    Store.set (fun _ => 0x00000C80) m k (Store.get (fun _ => 0x00000C80) d.md.carrierNext k)
  { d with md := { d.md with carrier := d.md.carrierPend.foldl take d.md.carrier, carrierPend := [] } }

/-! ### Commits and the hand-off -/

/-- The refusal of a pair's commit or write. -/
def Device.pairRefuse (d : Device) (p code : Nat) : Device := d.refuse (MD_PAIR_STATUS_REFUSE_LAST p) (MD_PAIR_EVENT_REFUSED p) code

/-- A write of MD_PAIR_CMP (R288): ignored on a bound pair. -/
def Device.pairCmpWrite (d : Device) (p v : Nat) : Device :=
  if d.pairBound p then d.pairRefuse p 1
  else (d.wrN (MD_PAIR_CMP p) v).setPair p fun q => { q with cmpWritten := true }

/-- The set that a hand-off or a later commit builds on: the latest committed one (R283). -/
def Pair.latest (q : Pair) : PairSet := if q.waitCommit then q.waitSet else q.pending.getD q.active

/-- A commit of pair `p` with bit 1 of OUT_MODE (R278, R284, R285, R288). -/
def Device.pairTake (d : Device) (p : Nat) (outHi : Bool) : Device :=
  let q := d.pair p
  let ctrl := d.rd (MD_PAIR_CTRL p)
  let per := d.rd (MD_PAIR_PER p)
  let mode := b2n outHi * 2 + bits ctrl.toNat 0 1
  let base := q.latest
  let cw := (d.rd (MD_PAIR_CMP p)).toNat
  let s : PairSet := { ctrl := ctrl, per := per, mode := mode
                       cmp := if q.cmpWritten then cw % 2 ^ 20 else base.cmp
                       off := if q.cmpWritten then bit cw 31 else base.off
                       keep := !q.cmpWritten }
  if mode = 3 ∨ s.PER < 2 then d.pairRefuse p 4
  else if s.sync && (decide (2 ≤ s.carrier) || !syncFits d.clk.len s.PER) then d.pairRefuse p 3
  else if d.pairBound p then
    (d.setPair p fun q => { q with waitCommit := true, waitSet := { s with cmp := base.cmp, off := false } }).pairShow p
  else if bit ctrl.toNat 7 && !q.cmpWritten &&
      (decide (s.PER ≠ base.PER) || decide (s.TIME ≠ base.TIME) || decide (s.carrier ≠ base.carrier)) then d.pairRefuse p 2
  else
    let d1 := d.setPair p fun q => { q with pending := some { s with fromStage := true }, cmpWritten := false }
    d1.pairShow p

/-- PAIR_COMMIT (R288): OUT_MODE bit 1 as this write gives it, or as a write without COMMIT left it for the next commit. -/
def Device.pairCommit (d : Device) (p : Nat) (outHi : Bool) : Device :=
  let d1 := d.setPair p fun q => { q with outHi := false }
  d1.pairTake p (outHi || (d.pair p).outHi)

/-- A write of MD_PAIR_CMD: OUT_MODE_HI without COMMIT is kept for the next commit. -/
def Device.pairCmdWrite (d : Device) (p v : Nat) : Device :=
  if bit v 0 then d.pairCommit p (bit v 1) else d.setPair p fun q => { q with outHi := bit v 1 }

/-- R273: the compare of a duty for a period. -/
def convertDuty (duty per : Nat) : Nat := duty % 2 ^ 20 * per / 2 ^ 16

/-- R271: the pairs of axis `k` with the duties that its staged outbox feeds them. -/
def Device.pairFeeds (d : Device) (k : Nat) (out : List Nat) : List (Nat × Nat) :=
  let w := fun i => obWord out i % 2 ^ 20
  let inv := fun i => 2 ^ 20 - 1 - w i
  let duties := match d.variant k with
    | 0 => [w 0, w 1, w 2]
    | 1 => [w 0, w 1]
    | _ => [w 0, inv 0, w 1, inv 1]
  (d.claims k).zip duties

/-- The hand-off of one pair (R273, R282, R285): the converted compare goes to the shadow MD_PAIR_CMP, and the next L
commits the set. -/
def Device.pairHandOff (d : Device) (p duty : Nat) (bridgeOff : Bool) : Device :=
  let q := d.pair p
  let s := q.latest
  let cmp := if s.carrier = 2 then duty else convertDuty duty s.PER
  let s1 : PairSet := { s with cmp := cmp, off := false, fromStage := !bridgeOff, keep := false }
  (d.wrN (MD_PAIR_CMP p) cmp).setPair p fun q => { q with handOff := some s1, waitCommit := false }

/-- The hand-off of a staged outbox to the local pairs of axis `k`. -/
def Device.mdHandOff (d : Device) (k : Nat) (out : List Nat) : Device :=
  if d.get (AX_MB_CTRL_KIND k) = 1 ∧ d.mbValid k = true then
    (d.pairFeeds k out).foldl (fun d x => d.pairHandOff x.1 x.2 (obOff out)) d
  else d

/-- L for the local pairs (R282, R283, R286, R287). -/
def Device.mdLatch (d : Device) : Device :=
  (List.range 12).foldl (fun (d : Device) p =>
    match (d.pair p).handOff with
    | none => d
    | some s =>
      let d1 := d.setPair p fun q =>
        { q with pending := some s, handOff := none, bridgeOff := q.bridgeOff || !s.fromStage }
      (d1.drive p).pairShow p) d

/-- SYNC_LOST after a beat-length change (R278). -/
def Device.mdSyncCheck (d : Device) : Device :=
  (List.range 12).foldl (fun (d : Device) p =>
    let s := (d.pair p).active
    d.put (MD_PAIR_STATUS_SYNC_LOST p) (b2n (s.sync && !syncFits d.clk.len s.PER))) d

/-- The pairs of an axis under an STO demand (R297). -/
def Device.mdSto (d : Device) (k : Nat) (on : Bool) : Device :=
  (List.range 12).foldl (fun (d : Device) p =>
    if d.pairAxis p = some k then (d.setPair p fun q => { q with stoOff := on }).drive p else d) d

end Sys2Proof.Machine
end

