-- ==== Sys2Proof/Machine/ChainLayout.lean ====
section
/-! DEFINITION. Chain layouts (R252–R255) as their tables spell them: nodes, items, the words an axis's inbox and outbox
give them, and the node channel an axis uses. -/

namespace Sys2Proof.Machine

/-- Chain `c`. -/
def Device.chain (d : Device) (c : Nat) : Chain := d.chains.pick {} c
/-- Chain `c` changed. -/
def Device.setChain (d : Device) (c : Nat) (f : Chain → Chain) : Device := { d with chains := d.chains.upd {} c f }

/-- An item of a chain layout (R252). -/
structure Item where
  fb : Bool
  ch : Nat
  shared : Bool
  kind : Nat
  len : Nat
  param : Nat
  deriving DecidableEq, Repr

/-- The number of nodes of a layout. -/
def layNodes (l : List (BitVec 8)) : Nat := leAt l 0 4 % 32
/-- NODE[k] word 0. -/
def layNode0 (l : List (BitVec 8)) (k : Nat) : Nat := leAt l (0x10 + 8 * k) 4
/-- NODE[k] word 1. -/
def layNode1 (l : List (BitVec 8)) (k : Nat) : Nat := leAt l (0x14 + 8 * k) 4
/-- TYPE expected of a node. -/
def layType (l : List (BitVec 8)) (k : Nat) : Nat := bits (layNode0 l k) 0 16
/-- FORMAT sent to a node. -/
def layFormat (l : List (BitVec 8)) (k : Nat) : Nat := bits (layNode0 l k) 16 4
/-- The number of channels of a node. -/
def layChannels (l : List (BitVec 8)) (k : Nat) : Nat := bits (layNode0 l k) 20 2 + 1
/-- SLOT_WORDS of a node. -/
def laySlotWords (l : List (BitVec 8)) (k : Nat) : Nat := bits (layNode0 l k) 24 7

/-- ITEM[i]. -/
def layItem (l : List (BitVec 8)) (i : Nat) : Item :=
  let w := leAt l (0x90 + 4 * i) 4
  { fb := bit w 0, ch := bits w 1 2, shared := bit w 3, kind := bits w 4 4, len := bits w 8 2 + 1, param := w / 65536 }

/-- The items of a node, in layout order. -/
def layItems (l : List (BitVec 8)) (k : Nat) : List Item :=
  let w := layNode1 l k
  (List.range (bits w 8 8)).map (fun i => layItem l (bits w 0 8 + i))

/-- The feedback items of a node. -/
def layFeedback (l : List (BitVec 8)) (k : Nat) : List Item := (layItems l k).filter (fun i => i.fb)
/-- The command items of a node. -/
def layCommands (l : List (BitVec 8)) (k : Nat) : List Item := (layItems l k).filter (fun i => !i.fb)

/-- The items that the axis of channel `c` receives (R255). -/
def inboxItems (l : List (BitVec 8)) (k c : Nat) : List Item :=
  (layFeedback l k).filter (fun i => i.shared || i.ch == c)

/-- The window words an item fills (R255). -/
def Item.words (i : Item) : Nat := if i.len ≤ 2 then 1 else 2

/-- The word of the inbox, from 0x020 on, of the first item that meets a condition; word 0 is the feedback header. -/
def itemWord (cond : Item → Bool) : List Item → Nat → Option Nat
  | [], _ => none
  | i :: is, n => if cond i then some n else itemWord cond is (n + i.words)

/-- The node channel whose feedback an axis's inbox takes (R255), as an ID of R172. -/
def Device.axisChannel (d : Device) (k : Nat) : Option Nat :=
  if d.get (AX_MB_CTRL_KIND k) = 2 then some (d.get (AX_MB_CHAN_CHAN k))
  else if d.get (AX_FB_SRC_PRI_KIND k) = 1 then some (d.get (AX_FB_SRC_PRI_ID k))
  else if d.get (AX_FB_SRC_SEC_KIND k) = 1 then some (d.get (AX_FB_SRC_SEC_ID k))
  else none

/-- The chain of a node channel's ID. -/
def idChain (id : Nat) : Nat := bits id 6 4
/-- The node of a node channel's ID. -/
def idNode (id : Nat) : Nat := bits id 2 4
/-- The channel of a node channel's ID. -/
def idChan (id : Nat) : Nat := bits id 0 2

/-- The window word, from the slot's base, that holds the phase current `ph` of axis `k` (R253, R255). -/
def Device.currentWord (d : Device) (k ph : Nat) : Option Nat :=
  (d.axisChannel k).bind (fun id =>
    let l := (d.chain (idChain id)).layout
    (itemWord (fun i => i.kind == 4 && i.param % 4 == ph) (inboxItems l (idNode id) (idChan id)) 1).map (0x20 + ·))

/-- The axes bound to a node channel (R271). -/
def Device.chanAxis (d : Device) (id : Nat) : Option Nat :=
  (List.range 192).find? (fun k => d.get (AX_MB_CTRL_KIND k) == 2 && d.get (AX_MB_CHAN_CHAN k) == id)

end Sys2Proof.Machine
end

