-- ==== Sys2Proof/Machine/Admission.lean ====
section
/-! DEFINITION. Completion ticks (R241) and the admission check of R26 with the step figures of R97 and of image headers
(R348), and the beat-settings checks R14, R17, R18. -/

namespace Sys2Proof.Machine

/-- The ticks that `n` slot words of a chain take on the wire (R235). -/
def Device.wireTicks (d : Device) (c words : Nat) : Nat :=
  let div := d.get (TK_CTRL_DIV c)
  if d.get (TK_CTRL_MODE c) = 4 then 8 * words * div else 16 * words * div

/-- The sum of SLOT_WORDS of nodes `k` up to the last. -/
def slotSum (l : List (BitVec 8)) (k : Nat) : Nat :=
  (((List.range (layNodes l)).drop k).map (fun i => laySlotWords l i)).sum

/-- C_k: the budget completion tick of node `k` (R241). -/
def Device.nodeBudget (d : Device) (c : Nat) (l : List (BitVec 8)) (k : Nat) : Nat :=
  d.get (TK_TIMING_LOAD_WAIT c) + d.wireTicks c (slotSum l k) + d.get (TK_TIMING_LOOP_MAX c) + 8

/-- F of a chain (R241). -/
def Device.chainF (d : Device) (c : Nat) (l : List (BitVec 8)) : Nat :=
  d.get (TK_TIMING_LOAD_WAIT c) + d.wireTicks c (1 + slotSum l 0) + d.get (TK_TIMING_LOOP_MAX c) + 8

/-- The timeout of a serial port in a mode (R187), with the frame-format table it selects. -/
def serialTimeout (mode timing : Nat) (table : List (BitVec 8)) : Nat :=
  if mode = 3 ∨ mode = 4 then timing / 65536 else if mode = 5 then leAt table 0x0A 2 else 0

/-- The completion bound of a direct port (R241): its timeout, or tick 0. -/
def Device.portBound (d : Device) (p : Nat) : Nat :=
  let ctrl := d.rdN (FB_CTRL p)
  serialTimeout (bits ctrl 0 3) (d.rdN (FB_TIMING p)) (d.tblWork (0xC0 + bits ctrl 20 4))

/-- The completion bound of a source (kind and ID of R172) under a set of layouts. -/
def Device.sourceBound (d : Device) (lay : Nat → List (BitVec 8)) (kind id : Nat) : Nat :=
  if kind = 1 then d.nodeBudget (idChain id) (lay (idChain id)) (idNode id)
  else if kind = 2 then d.portBound (id % 16)
  else 0

/-- The completion tick of an axis (R19, R241). -/
def Device.axisBound (d : Device) (lay : Nat → List (BitVec 8)) (k : Nat) : Nat :=
  let a := d.sourceBound lay (d.get (AX_FB_SRC_PRI_KIND k)) (d.get (AX_FB_SRC_PRI_ID k))
  let b := d.sourceBound lay (d.get (AX_FB_SRC_SEC_KIND k)) (d.get (AX_FB_SRC_SEC_ID k))
  let c := if d.get (AX_MB_CTRL_KIND k) = 2 then d.sourceBound lay 1 (d.get (AX_MB_CHAN_CHAN k)) else 0
  max a (max b c)

/-- R97: the stages of a stock-loop axis: fixed, position, velocity and current steps. -/
def stageSteps (variant : Nat) (closed : Bool) : Nat × Nat × Nat × Nat :=
  match variant with
  | 0 => (25, 25, 60, 110)
  | 1 => (25, 25, 60, 60)
  | 2 => if closed then (25, 25, 60, 90) else (25, 0, 0, 90)
  | 3 => (25, 0, 0, 40)
  | _ => (0, 0, 0, 0)

/-- The steps of a stock-loop axis in beat `n` of the divider cycle (R97, R118). -/
def stockSteps (variant : Nat) (closed : Bool) (ctrl n : Nat) : Nat :=
  let (f, p, v, c) := stageSteps variant closed
  let runs := fun (code : Nat) => decide ((n + 8 - bits ctrl 4 3) % 2 ^ code = 0)
  f + (if runs (bits ctrl 0 2) then p else 0) + (if runs (bits ctrl 2 2) then v else 0) + c

/-- The header of an image entry in bulk memory (R348). -/
def Device.imgHeader (d : Device) (i : Nat) : List (BitVec 8) := d.peek (d.rdN (CV_IMG_BASE i)) 64

/-- STEPS of an image header for an axis (R348). -/
def imgSteps (h : List (BitVec 8)) (variant : Nat) (closed : Bool) : Nat :=
  leAt h (0x10 + 2 * (if variant = 2 ∧ closed = true then 4 else variant)) 2

/-- The axes of an engine. -/
def Device.engAxes (d : Device) (e : Nat) : List Nat :=
  ((List.range 8).map (fun j => d.slotAxis e j)).filter (fun k => decide (k < 192))

/-- The worst-case steps per beat of an engine running an image (R26, R118, R169): `ctrl` gives an axis's dividers. -/
def Device.engSteps (d : Device) (ctrl : Nat → Nat) (e image : Nat) : Nat :=
  let axes := d.engAxes e
  if image = 0 then
    100 + maxL ((List.range 8).map (fun n =>
      (axes.map (fun k => stockSteps (d.variant k) (d.has (AX_CTRL_STEP_CL k)) (ctrl k) n)).sum))
  else
    let h := d.imgHeader image
    leAt h 0x0E 2 + (axes.map (fun k => imgSteps h (d.variant k) (d.has (AX_CTRL_STEP_CL k)))).sum

/-- The completion tick of an engine's last-arriving axis. -/
def Device.engBound (d : Device) (lay : Nat → List (BitVec 8)) (e : Nat) : Nat :=
  maxL ((d.engAxes e).map (fun k => d.axisBound lay k))

/-- R26 for one engine: its steps at 4.0 ns fit between the completion of its last axis and D. -/
def Device.engFits (d : Device) (ctrl : Nat → Nat) (lay : Nat → List (BitVec 8)) (dl e image : Nat) : Bool :=
  decide (4 * d.engSteps ctrl e image + 10 * d.engBound lay e ≤ 10 * dl)

/-- The dividers in force of an axis. -/
def Device.divsInForce (d : Device) (k : Nat) : Nat := (d.lpRd (AX_LP_CTRL k)).toNat

/-- The layouts in force. -/
def Device.laysInForce (d : Device) (c : Nat) : List (BitVec 8) := (d.chain c).layout

/-- The image an engine runs. -/
def Device.engImage (d : Device) (e : Nat) : Nat := d.get (CV_ENG_STATE_IMAGE e)

/-- The engines in a role. -/
def Device.enginesIn (d : Device) (role : Nat) : List Nat := (List.range 28).filter (fun e => d.get (DV_STATUS_ROLE e) == role)

/-- R26 for every active engine under a deadline and a set of layouts. -/
def Device.allFit (d : Device) (lay : Nat → List (BitVec 8)) (dl : Nat) : Bool :=
  (d.enginesIn 1).all (fun e => d.engFits d.divsInForce lay dl e (d.engImage e))

/-- During a live update an active engine must fit with the image that the update has replaced there too (R349). -/
def Device.updFits (d : Device) (lay : Nat → List (BitVec 8)) (dl : Nat) : Bool :=
  d.get CV_STATUS_UPDATE != 1 || (d.enginesIn 1).all (fun e =>
    d.engFits d.divsInForce lay dl e (d.cv.updOld.pick (d.engImage e) e))

/-- The chains that carry or may carry frames: READY or RUNNING. -/
def Device.liveChains (d : Device) : List Nat :=
  (List.range 16).filter (fun c => let s := d.get (TK_STATUS_STATE c); s == 2 || s == 3)

/-- F of R17 and R18: the settings and the layout of a chain stand from its census on (R33), and the 13 bits of TK_FRAME may
hold less than all of F. -/
def Device.longestF (d : Device) : Nat := maxL (d.liveChains.map (fun c => d.chainF c (d.chain c).layout))

/-- R14: the permitted beat lengths. -/
def permittedLens : List Nat := [800, 1000, 1250, 1280, 1600, 2000, 2500, 3125, 3200, 4000, 5000, 6250, 6400]

/-- R17. -/
def latchOk (f len l trim : Nat) : Bool := decide (f + 40 ≤ l) && decide (l + 40 + trim ≤ len)
/-- R18. -/
def deadlineOk (f len dl trim : Nat) : Bool := decide (f + 40 < dl) && decide (dl + 48 + trim ≤ len)

/-- DV_STEPS.ADMITTED of an engine (R169). -/
def Device.showAdmitted (d : Device) (e : Nat) : Device :=
  d.put (DV_STEPS_ADMITTED e) (min 65535 (d.engSteps d.divsInForce e (d.engImage e)))

end Sys2Proof.Machine
end

