-- ==== Sys2Proof/Machine/Milestones.lean ====
section
/-! DEFINITION. Milestones (R208–R226): sources, arming, exact compare, the set-point method, prediction and
verification, pulses, refill records and the milestone commands. -/

namespace Sys2Proof.Machine

/-- The method of a milestone (R209): 0 exact, 1 set-point, 2 predicted, 3 none. -/
def Device.msMethod (d : Device) (m : Nat) : Nat :=
  match d.get (MS_CTRL_SRC_KIND m) with
  | 0 => d.posMethod (d.get (MS_CTRL_SRC_ID m))
  | 1 => 1
  | 2 => 1
  | 3 => 0
  | _ => 3

/-- A tick of `Clock.now` as a stamp64: an earlier one by the beats that were, a later one by the present beat and nominal
beats after it. -/
def Device.stampAt (d : Device) (t : Int) : Nat :=
  if t ≤ d.clk.now then d.stampAgo ((d.clk.now : Int) - t).toNat
  else
    let off := d.clk.tick + (t - d.clk.now).toNat
    if off < d.clk.curLen then mkStamp d.clk.beat off
    else mkStamp (d.clk.beat + 1 + (off - d.clk.curLen) / d.clk.len) ((off - d.clk.curLen) % d.clk.len)

/-- The present COMP, signed. -/
def Device.msComp (d : Device) (m : Nat) : Int := toS 24 (d.get (MS_COMP_COMP m))

/-- The pulse width in force (R222). -/
def Device.msWidth (d : Device) (m : Nat) : Nat := min 100000 (max 2 (d.get (MS_WIDTH_WIDTH m)))

/-- The entry of a sequence number leaves the list: LOW at 64 entries, EMPTY at none (R210). -/
def Device.msDrop (d : Device) (m seq : Nat) : Device :=
  let s := d.ms m
  let l := s.list.filter (fun e => e.seq != seq)
  let d1 := d.setMs m fun s => { s with list := l, sched := s.sched.filter (fun p => p.seq != seq), armed := false }
  let d2 := if l.length = 64 ∧ s.list.length ≠ 64 then d1.raise (MS_EVENT_LOW m) else d1
  if l.isEmpty && !s.list.isEmpty then d2.raise (MS_EVENT_EMPTY m) else d2

/-- The level of MSk_OUT (R222): POL 1 makes a pulse active low. -/
def Device.msLevel (d : Device) (m : Nat) : Bool := (d.ms m).active != d.has (MS_CTRL_POL m)

/-- A pulse starts on MSk_OUT (R222); latch units of the milestone take its edge (R227). -/
def Device.msPulse (d : Device) (m : Nat) : Device :=
  let d1 := d.setMs m fun s => { s with active := true, endAt := d.clk.now + d.msWidth m }
  ((d1.wr64 (MS_LAST m) d1.stamp).put (MS_FIRED_COUNT m) (d1.get (MS_FIRED_COUNT m) + 1)).ltSource 3 m false 0

/-- An entry armed in a direction fires now (R210, R222, R226).  A predicted one waits for its verification with `verify`
(R218); otherwise its event is sent at once. -/
def Device.msFire (d : Device) (m : Nat) (e : MsEntry) (falling late sampled verify : Bool) : Device :=
  let merged := (d.ms m).active
  let d1 := (d.msPulse m).raise (MS_EVENT_FIRED m)
  let d2 := if late then d1.raise (MS_EVENT_LATE m) else d1
  let d3 := if verify then d2.setMs m fun s => { s with fired := s.fired ++ [⟨e, falling, d.stamp, late, merged⟩] }
    else if e.report then d2.msEvent m 1 e d.stamp late sampled merged else d2
  d3.msDrop m e.seq

/-- Is a position on the crossed side of an entry armed in a direction (R214)? -/
def crossed (falling : Bool) (x pos : Int) : Bool := if falling then decide (x ≤ pos) else decide (pos ≤ x)

/-! ### Trajectories and predictions (R215, R216) -/

/-- The trajectory of a milestone's plan at `u` half ticks from the present boundary (R215), in the unit of `p3`. -/
def Device.msTraj (d : Device) (m u : Nat) : Int :=
  let h := d.clk.len
  let id := d.get (MS_CTRL_SRC_ID m)
  let (e0, e1, e2) : Kin × Kin × Kin :=
    if d.get (MS_CTRL_SRC_KIND m) = 2 then
      let v := d.cy id
      (v.cur, v.next, v.prof.eval ((d.clk.beat + 2 - v.origin) * h))
    else ((d.pl id).cur, (d.pl id).next, d.axisAhead id 1)
  if u ≤ 2 * h then hermite e0 e1 h u else hermite e1 e2 h (u - 2 * h)

/-- The position that the schedule rests on at `u` half ticks from the present boundary: the trajectory, or the
prediction of R216. -/
def Device.msAt (d : Device) (m u : Nat) : Int :=
  if d.msMethod m = 2 then
    let id := d.get (MS_CTRL_SRC_ID m)
    let c := (d.pl id).cur
    -- t in half ticks; positions in 3 · 2⁻⁹⁶, the speed in 2⁻²⁴ count/tick
    posIn (d.fbPos id) + 3 * 2 ^ 71 * d.fbVel id * u + (d.msTraj m u - c.p3) - 3 * c.v * u / 2
  else d.msTraj m u

/-- Is a predicted source too slow to be predicted (R219)? -/
def Device.msSlow (d : Device) (m : Nat) : Bool := decide ((d.fbVel (d.get (MS_CTRL_SRC_ID m))).natAbs < d.rdN (MS_MINV m))

/-- Where a milestone's source is at this tick, in the unit of `p3` (R213): its count, its trajectory, or what the latest
sample predicts; a source too slow to be predicted is where its sample was. -/
def Device.msPos (d : Device) (m : Nat) : Int :=
  let id := d.get (MS_CTRL_SRC_ID m)
  if d.get (MS_CTRL_SRC_KIND m) = 3 then posIn ((d.port (id % 16)).r * 2 ^ 16)
  else match d.msMethod m with
    | 0 => posIn (d.posOfR id (d.exactR id))
    | 1 => d.msTraj m (2 * d.clk.tick)
    | 2 => if d.msSlow m then posIn (d.fbPos id) else d.msAt m (2 * d.clk.tick)
    | _ => posIn (d.fbPos id)

/-! ### Arming and exact compare (R213, R214) -/

/-- Is an entry behind a source position (in the unit of `p3`) at arming, and its direction (falling?), by R213. -/
def MsEntry.behind (e : MsEntry) (x : Int) : Bool × Bool :=
  let pos := posIn e.pos
  match e.dir with
  | 0 => (decide (pos ≤ x), false)
  | 1 => (decide (x ≤ pos), true)
  | _ => if x < pos then (false, false) else if pos < x then (false, true) else (true, false)

/-- The first value of R, in the armed direction, at which floor(R·scale / 2¹⁶) + off has crossed pos, and whether R falls to
it (R214); none where SCALE is 0 and no count ever crosses. -/
def rawThreshold (scale off pos : Int) (falling : Bool) : Option (Int × Bool) :=
  -- the position reaches pos or more from R·scale = up on, and pos or less up to R·scale = down
  let up := (pos - off) * 2 ^ 16
  let down := (pos - off + 1) * 2 ^ 16 - 1
  if scale = 0 then none
  else if falling then (if 0 < scale then some (fdiv down scale.natAbs, true) else some (-fdiv down scale.natAbs, false))
  else (if 0 < scale then some (-fdiv (-up) scale.natAbs, false) else some (fdiv (-up) scale.natAbs, true))

/-- The threshold of a milestone's exact source for a position and an armed direction. -/
def Device.msThreshold (d : Device) (m : Nat) (pos : Int) (falling : Bool) : Option (Int × Bool) :=
  if d.msMethod m ≠ 0 then none
  else if d.get (MS_CTRL_SRC_KIND m) = 3 then rawThreshold (2 ^ 32) 0 pos falling
  else
    let s := d.posScale (d.get (MS_CTRL_SRC_ID m))
    rawThreshold s.1 s.2 pos falling

/-- R213: the head is armed; entries behind the source are reported MISSED or fired late, in turn. -/
def Device.msArm (d : Device) (m : Nat) : Nat → Device
  | 0 => d
  | f + 1 =>
    let s := d.ms m
    if !d.has (MS_CTRL_EN m) || s.armed then d
    else
      match s.list with
      | [] => d
      | e :: _ =>
        let (b, fall) := e.behind (d.msPos m)
        if b then
          if d.has (MS_CTRL_LATE_EN m) then (d.msFire m e fall true false (d.msMethod m == 2)).msArm m f
          else ((d.msEvent m 2 e d.stamp).msDrop m e.seq).msArm m f
        else d.setMs m fun s => { s with armed := true, falling := fall, thr := d.msThreshold m e.pos fall }

/-- Arms the head, whatever the list holds. -/
def Device.msArmAll (d : Device) (m : Nat) : Device := d.msArm m 1025

/-- The threshold of the armed head formed anew: its position, or the source under it, has moved (R221, R201). -/
def Device.msRethresh (d : Device) (m : Nat) : Device :=
  let d1 := d.put (MS_STATUS_EXACT m) (b2n (d.has (MS_CTRL_EN m) && d.msMethod m == 0))
  match (d1.ms m).list with
  | e :: _ => if (d1.ms m).armed then d1.setMs m fun s => { s with thr := d1.msThreshold m e.pos s.falling } else d1
  | [] => d1

/-- The count R of a milestone's exact source at this tick. -/
def Device.msCount (d : Device) (m : Nat) : Int :=
  let id := d.get (MS_CTRL_SRC_ID m)
  if d.get (MS_CTRL_SRC_KIND m) = 3 then (d.port (id % 16)).r else d.exactR id

/-- A pulse scheduled for an entry at a tick of `Clock.now`, for its crossing at `cross`; one that is due fires at once, with
LATE where `late` says so. -/
def Device.msSchedule (d : Device) (m : Nat) (e : MsEntry) (falling : Bool) (t : Int) (cross : Nat) (late : Bool) : Device :=
  if t ≤ d.clk.now then d.msFire m e falling late false (d.msMethod m == 2)
  else
    let p : MsPulse := ⟨e.seq, d.stampAt t, falling, cross⟩
    d.setMs m fun s => { s with sched := s.sched.filter (fun p => p.seq != e.seq) ++ [p] }

/-- Exact compare after an edge (R214): the head fires COMP ticks after the edge that reaches its threshold. -/
def Device.msExact (d : Device) (m : Nat) : Device :=
  if !d.has (MS_CTRL_EN m) || decide (d.msMethod m ≠ 0) then d
  else
    let s := d.ms m
    match s.list, s.thr with
    | e :: _, some (r, down) =>
      if s.armed && crossed down (d.msCount m) r && !s.sched.any (fun p => p.seq == e.seq) then
        (d.msSchedule m e s.falling (d.clk.now + max 0 (d.msComp m)) d.clk.now false).msArmAll m
      else d
    | _, _ => d

/-- Every exact milestone that watches a source looks at it after an edge. -/
def Device.msEdge (d : Device) : Device :=
  (List.range 16).foldl (fun d m => if d.ms m = {} then d else d.msExact m) d

/-! ### The set-point method and prediction (R215–R219) -/

/-- The first half tick from `u` on at which an entry armed in a direction is crossed, if it comes within `n`. -/
def Device.msFind (d : Device) (m : Nat) (falling : Bool) (pos : Int) : Nat → Nat → Option Nat
  | 0, _ => none
  | n + 1, u => if crossed falling (d.msAt m u) (posIn pos) then some u else d.msFind m falling pos n (u + 1)

/-- The half ticks from the present boundary among which a crossing is sought: before boundary n + 2 by the set-point method
(R215), up to 2·LEN by prediction (R216). -/
def Device.msHorizon (d : Device) (m : Nat) : Nat := 4 * d.clk.len + (if d.msMethod m = 2 then 1 else 0)

/-- The new schedule of at most `f` entries in list order (R215, R216): each entry with its half tick and direction.  The
armed head has its direction; a later entry takes it where the one before is crossed, and one that is behind there will be
MISSED. -/
def Device.msPlan (d : Device) (m : Nat) : Nat → List MsEntry → Nat → Option Bool → List (MsEntry × Nat × Bool)
  | 0, _, _, _ => []
  | _, [], _, _ => []
  | f + 1, e :: es, u, dir =>
    let b := e.behind (d.msAt m u)
    match dir.or (if b.1 then none else some b.2) with
    | none => d.msPlan m f es u none
    | some fl =>
      match d.msFind m fl e.pos (d.msHorizon m - u) u with
      | some v => (e, v, fl) :: d.msPlan m f es v none
      | none => []

/-- A new schedule replaces the old one (R215, R217): pulses that it no longer holds are withdrawn, and those already due
fire at once.  By the set-point method a pulse whose crossing lies before the boundary stands. -/
def Device.msReplace (d : Device) (m : Nat) (plan : List (MsEntry × Nat × Bool)) (keep : MsPulse → Bool) : Device :=
  let s := d.ms m
  let boundary := d.clk.now - d.clk.tick
  let gone := s.sched.filter (fun p => !keep p && !plan.any (fun e => e.1.seq == p.seq))
  let d1 := gone.foldl (fun d p =>
    match s.list.find? (fun e => e.seq == p.seq) with
    | some e => d.msEvent m 3 e d.stamp
    | none => d) d
  let d2 := d1.setMs m fun s => { s with sched := s.sched.filter keep }
  plan.foldl (fun d (e, u, fl) =>
    let t : Int := boundary + ((u : Int) / 2) + d.msComp m
    d.msSchedule m e fl t (boundary + u / 2) (decide (t < d.clk.now) || d.msMethod m == 2)) d2

/-- The set-point method at a boundary (R215): every crossing before boundary n + 2 that is not known from the boundary
before. -/
def Device.msBoundary (d : Device) (m : Nat) : Device :=
  if !d.has (MS_CTRL_EN m) || decide (d.msMethod m ≠ 1) then d
  else
    let d1 := d.msArmAll m
    let s := d1.ms m
    let keep := fun (p : MsPulse) => decide (p.cross < d1.clk.now - d1.clk.tick)
    let open_ := s.list.filter (fun e => !s.sched.any (fun p => p.seq == e.seq && keep p))
    let dir := if open_.length = s.list.length && s.armed then some s.falling else none
    (d1.msReplace m (d1.msPlan m open_.length open_ 0 dir) keep).msArmAll m

/-- Verification of fired predictions by a valid sample (R218). -/
def Device.msVerify (d : Device) (m : Nat) : Device :=
  let x := d.fbPos (d.get (MS_CTRL_SRC_ID m))
  let s := d.ms m
  s.fired.foldl (fun d f =>
    let lost := fun (d : Device) => d.msEvent m 4 f.entry f.at_ f.late false f.merged
    if !crossed f.falling x f.entry.pos then (lost d).msg 5 m 1 f.entry.seq
    else
      match d.injTake 5 m 1 with
      | some (dt, d1) => (lost d1).msg 5 m 1 dt true
      | none => if f.entry.report then d.msEvent m 1 f.entry f.at_ f.late false f.merged else d)
    (d.setMs m fun s => { s with fired := [] })

/-- The head that a sample shows crossed, without a pulse that fired, fires at the sample's arrival: with LATE, or SAMPLED
where the source is not predicted (R218, R219). -/
def Device.msShown (d : Device) (m : Nat) : Device :=
  let s := d.ms m
  match s.list with
  | e :: _ =>
    if s.armed && crossed s.falling (d.fbPos (d.get (MS_CTRL_SRC_ID m))) e.pos then
      (d.msFire m e s.falling (!d.msSlow m) (d.msSlow m) false).msArmAll m
    else d
  | [] => d

/-- A valid sample of a predicted source (R216–R219): fired pulses are verified, a crossing that it shows fires, and it
predicts the head and up to seven further entries anew. -/
def Device.msSample (d : Device) (m : Nat) : Device :=
  if d.msMethod m ≠ 2 then d
  else
    let d0 := d.msVerify m
    if !d0.has (MS_CTRL_EN m) then d0
    else
      let d1 := (d0.msArmAll m).msShown m
      let s := d1.ms m
      let plan := if d1.msSlow m then [] else d1.msPlan m 8 s.list 0 (if s.armed then some s.falling else none)
      (d1.msReplace m plan (fun _ => false)).msArmAll m

/-- The milestones on the measured position of an axis. -/
def Device.msOn (d : Device) (k : Nat) : List Nat :=
  (List.range 16).filter (fun m => decide (d.ms m ≠ {}) && d.get (MS_CTRL_SRC_KIND m) == 0 && d.get (MS_CTRL_SRC_ID m) == k)

/-- Every milestone on the measured position of an axis takes its sample. -/
def Device.msSamples (d : Device) (k : Nat) : Device := (d.msOn k).foldl Device.msSample d

/-- A source lost: every scheduled pulse on its measured position is withdrawn (R220). -/
def Device.msLost (d : Device) (k : Nat) : Device := (d.msOn k).foldl (fun d m => d.msWithdraw m 0) d

/-- The position loop of an axis takes another source (R201): exact thresholds follow it. -/
def Device.msSourceMoved (d : Device) (k : Nat) : Device := (d.msOn k).foldl Device.msRethresh d

/-- R221: a shift of an axis moves the entries of the milestones on it. -/
def Device.msShift (d : Device) (k : Nat) (off : Int) : Device :=
  (d.msOfAxis k).foldl (fun d m =>
    if d.ms m = {} then d
    else (d.setMs m fun s => { s with list := s.list.map (fun e => { e with pos := e.pos + off }) }).msRethresh m) d

/-- PULSE_FIRE (R222): the earliest scheduled pulse starts once its tick is reached. -/
def Device.msPulseFire (d : Device) (m : Nat) : Device :=
  let s := d.ms m
  let due := s.sched.filter (fun p => decide (p.at_ ≤ d.stamp))
  match due with
  | [] => d
  | p0 :: ps =>
    let p := ps.foldl (fun a b => if b.at_ < a.at_ then b else a) p0
    match s.list.find? (fun e => e.seq == p.seq) with
    | some e => (d.msFire m e p.falling false false (d.msMethod m == 2)).msArmAll m
    | none => d.setMs m fun s => { s with sched := s.sched.filter (fun q => q.seq != p.seq) }

/-- PULSE_END (R222): the output goes inactive WIDTH ticks after the latest fire. -/
def Device.msPulseEnd (d : Device) (m : Nat) : Device :=
  let s := d.ms m
  if s.active ∧ s.endAt ≤ d.clk.now then d.setMs m fun s => { s with active := false } else d

/-- The list emptied (R210). -/
def Device.msClear (d : Device) (m : Nat) : Device :=
  let d1 := d.setMs m fun s => { s with list := [], armed := false }
  if (d.ms m).list.isEmpty then d1 else d1.raise (MS_EVENT_EMPTY m)

/-- FLUSH in MS_CMD (R210, R220). -/
def Device.msFlush (d : Device) (m : Nat) : Device := (d.msWithdraw m 0).msClear m

/-- FORCE in MS_CMD (R223): one pulse, and an event of kind FORCED. -/
def Device.msForce (d : Device) (m : Nat) : Device :=
  let merged := (d.ms m).active
  let d1 := d.setMs m fun s => { s with active := true, endAt := d.clk.now + d.msWidth m }
  ((d1.wr64 (MS_LAST m) d.stamp).ltSource 3 m false 0).msEvent m 5 ⟨0, 0, true, 0, 0⟩ d.stamp false false merged

/-- SKIP in MS_CMD (R220): the head leaves the list without an event and its pulses are withdrawn. -/
def Device.msSkip (d : Device) (m : Nat) : Device :=
  match (d.ms m).list with
  | [] => d
  | e :: _ => ((d.msWithdraw m 0).msDrop m e.seq).msArmAll m

/-- A refused milestone request. -/
def Device.msRefuse (d : Device) (m code : Nat) : Device := d.put (MS_STATUS_REFUSE_LAST m) code

/-- Is a milestone's source acceptable for an enable (R209)? -/
def Device.msSourceOk (d : Device) (kind id : Nat) : Bool :=
  match kind with
  | 0 => decide (id < 192)
  | 1 => decide (id < 192)
  | 2 => decide (id < 32)
  | 3 => decide (id < 16) && (d.portMode id == 1 || d.portMode id == 2)
  | _ => false

/-- A write of MS_CTRL (R209, R213, R220, R223): while EN is 1 only EN, LATE_EN and POL change. -/
def Device.msCtrlWrite (d : Device) (m v : Nat) : Device :=
  let cur := d.rdN (MS_CTRL m)
  let on := d.has (MS_CTRL_EN m)
  let w := andN v 0xFF77
  if on then
    let w1 := andN cur 0xFF70 + andN w 7
    let d0 := if andN w 0xFF70 = andN cur 0xFF70 then d else d.msRefuse m 4
    let d1 := d0.wrN (MS_CTRL m) w1
    if bit v 0 then d1
    else
      let d2 := d1.msWithdraw m 0
      (d2.setMs m fun s => { s with armed := false }).put (MS_STATUS_EXACT m) 0
  else if bit v 0 && !d.msSourceOk (bits w 4 3) (bits w 8 8) then
    (d.wrN (MS_CTRL m) (setBit w 0 false)).msRefuse m 5
  else
    let d1 := d.wrN (MS_CTRL m) w
    if bit v 0 then
      let d2 := d1.put (MS_STATUS_EXACT m) (b2n (decide (d1.msMethod m = 0)))
      d2.msArmAll m
    else d1

/-- A refill record's entries. -/
def msEntries (bs : List (BitVec 8)) (seq0 n : Nat) : List MsEntry :=
  (List.range n).map (fun i =>
    let c := leAt bs (0x10 + 16 * i) 4
    { pos := toS 64 (leAt bs (8 + 16 * i) 8), dir := bits c 0 2, report := bit c 2, tag := bits c 16 16, seq := (seq0 + i) % 2 ^ 32 })

/-- Entries appended to a list that has room; an enabled milestone arms its head (R212, R213). -/
def Device.msAppend (d : Device) (m : Nat) (es : List MsEntry) : Device :=
  (d.setMs m fun s => { s with list := s.list ++ es, nextSeq := (s.nextSeq + es.length) % 2 ^ 32 }).msArmAll m

/-- REFILL_RECORD: a record of Q13 is taken whole or refused whole (R211, R212). -/
def Device.msRefill (d : Device) (bs : List (BitVec 8)) : Device :=
  let c := leAt bs 0 4
  let m := bits c 0 4
  let n := bits c 8 8
  let flush := bit c 16
  let s := d.ms m
  let es := msEntries bs s.nextSeq n
  let room := 1024 - (if flush then 0 else s.list.length)
  let code := if n = 0 ∨ 64 < n then 2 else if room < n then 1 else if es.any (fun e => e.dir == 3) then 3 else 0
  if code ≠ 0 then (d.msRefuse m code).raise (MS_EVENT_REFILL_REFUSED m)
  else
    let d1 := if flush then d.msWithdraw m 0 else d
    let d2 := if flush then d1.msClear m else d1
    d2.msAppend m es

/-- The device takes the oldest entry of Q13 (R212, R494); an unreadable entry is discarded. -/
def Device.msTake (d : Device) : Device :=
  match d.qLive 13 with
  | [] => d
  | i :: _ =>
    let (e, d1) := d.qRead 13 i
    let d2 := if e.ok then d1.msRefill e.payload else d1
    d2.qFree 13 i

end Sys2Proof.Machine
end

