-- ==== Sys2Proof/Machine/StockLoop.lean ====
section
/-! DEFINITION. The stock loop (R97–R119, R127–R130): the slot window that a boundary refreshes (R158, R159), the stages
of every variant with their saturation flags (R100), and the staged outbox.  The flags of a run are threaded as a number
whose bits are those of AX_LP_SAT. -/

namespace Sys2Proof.Machine

/-! ### Saturating arithmetic (R100) -/

/-- A computation that may set flags of AX_LP_SAT. -/
abbrev SL (α : Type) := StateM Nat α

/-- A value saturated to 32 bits, setting flag `f` where it saturates. -/
def sat32 (f : Nat) (x : Int) : SL Int := fun fl => (satS 32 x, if satS 32 x = x then fl else setBit fl f true)

/-- narrow(x, s) (R100, R136). -/
def nar (f : Nat) (x : Int) (s : Nat) : SL Int := sat32 f (fdiv x (2 ^ min s 47))

/-- A value clamped, setting flag `f` where it is clamped (duties). -/
def clampF (f : Nat) (lo hi x : Int) : SL Int := fun fl => (clampI lo hi x, if clampI lo hi x = x then fl else setBit fl f true)

/-- Flag POS_ERR of AX_LP_SAT. -/
def fPOS : Nat := 0
/-- Flag V_REF. -/
def fVREF : Nat := 1
/-- Flag VEL_INT. -/
def fVINT : Nat := 2
/-- Flag I_REF. -/
def fIREF : Nat := 3
/-- Flag CUR_D. -/
def fCURD : Nat := 6
/-- Flag CUR_Q. -/
def fCURQ : Nat := 7
/-- Flag DUTY. -/
def fDUTY : Nat := 8
/-- Flag STEP. -/
def fSTEP : Nat := 9

/-! ### The sine table (R107) -/

/-- The error of the table at an angle of the first quarter wave, in units of 2⁻³⁰ (notes/assumptions/3): with half a unit
of rounding it stays below 3·10⁻⁷, that is 322.1 units. -/
def sineErr (q : Nat) : Int := clampI (-321) 321 (toS 10 (Config.sineError q).toNat)

/-- The quarter-wave table with its interpolation. -/
def sineQ (q : Nat) : Int := fdiv ((cosSin ((q : Int) * 2 ^ 32)).2 + 2 ^ 29) (2 ^ 30) + sineErr q

/-- The sine of an angle of 2⁻³² turn, in 2⁻³⁰. -/
def sinRom (θ : Nat) : Int :=
  let t := θ % 2 ^ 32
  if t < 2 ^ 30 then sineQ t
  else if t < 2 ^ 31 then sineQ (2 ^ 31 - t)
  else if t < 3 * 2 ^ 30 then -sineQ (t - 2 ^ 31)
  else -sineQ (2 ^ 32 - t)

/-- The cosine of an angle of 2⁻³² turn, in 2⁻³⁰. -/
def cosRom (θ : Nat) : Int := sinRom (θ + 2 ^ 30)

/-! ### The slot window (R158, R159) -/

/-- A parameter's word of the slot window. -/
def prmWord (a : Nat) : Nat := 0x80 + (a % 0x400 - 0x200) / 4

/-- The words of a contour copy: CTRL, FULL_SCALE and the points two per word (R158). -/
def contourWords (t : List (BitVec 8)) : List Nat :=
  let pts := fun off => (List.range 17).map (fun i =>
    leAt t (off + 4 * i) 2 + (if i = 16 then 0 else leAt t (off + 4 * i + 2) 2 * 65536))
  [leAt t 0 4, leAt t 4 4] ++ pts 8 ++ (if bit (leAt t 0 4) 0 then pts 0x4A else List.replicate 17 0)

/-- The parameter and contour copies written into a slot window (R159). -/
def Device.winParams (d : Device) (e j k : Nat) : Device :=
  let d1 := d.setDms e (winAddr j 0x80) ((List.range 64).map (fun i => (d.lpRd (AX_LP_CTRL k + 4 * i)).toNat))
  let put := fun (d : Device) (off ct : Nat) =>
    d.setDms e (winAddr j off) (if ct < 128 then contourWords (d.tblWork (0x40 + ct)) else List.replicate 36 0)
  put (put d1 0xC0 (d1.lpGet (AX_LP_CTRL_POS_CT k))) 0xE4 (d1.lpGet (AX_LP_CTRL_VEL_CT k))

/-- Low and high words of a 64-bit value. -/
def loHi (i : Int) : List Nat := let n := ofS 64 i; [n % 2 ^ 32, n / 2 ^ 32]

/-- The inputs of this boundary in a slot window: the committed set-point and the feed-forward entry (R103, R158). -/
def Device.winInputs (d : Device) (e j k : Nat) : Device :=
  let i := (d.ax k).inNow
  let sp := [AX_PL_SP_POS k, AX_PL_SP_VEL k, AX_PL_SP_ACC k].flatMap (fun a => [d.rdN a, d.rdN (a + 4)])
  let ff := loHi i.ff.posOut ++ loHi i.ff.velOut ++ loHi i.ff.accOut
  (d.setDms e (winAddr j 2) (sp ++ ff)).setAx k fun s => { s with inWin := s.inNow }

/-- The inbox of a boundary: STATUS and the inputs (R158). -/
def Device.winBoundary (d : Device) (e j k : Nat) (carry : Bool) : Device :=
  let status := (d.ax k).inNow.beat % 65536 * 65536 + (if carry then 4 else 0)
  (d.setDm e (winAddr j 0) (BitVec.ofNat 32 status)).winInputs e j k

/-- The feedback words of an inbox: position, speed and flags, and R of a direct port (R158); in RIDE the observer's
estimate, or a stepper's (R203, R204). -/
def Device.winFeedback (d : Device) (e j k : Nat) : Device :=
  let u := d.fb k
  let ride := d.axState k = axRIDE ∧ (u.obs = true ∨ (d.variant k = 2 ∧ d.has (AX_CTRL_STEP_CL k) = true))
  let p := if ride then u.obsX else d.fbPos k
  let v := if ride then u.obsV else d.fbVel k
  let d1 := d.setDms e (winAddr j 0xE) (loHi p ++ [ofS 32 v, (Store.get resetWord d.live (AX_FB_STATUS k)).toNat % 65536])
  let d2 := d1.setAx k fun s => { s with inWin := { s.inWin with commX := if ride then u.obsX else u.pri.p } }
  if (d2.axisChannel k).isNone then
    let r := if d.get (AX_FB_SRC_PRI_KIND k) = 2 then loHi u.pri.r else [0, 0]
    d2.setDms e (winAddr j 0x20) (r ++ List.replicate 94 0)
  else d2.setDms e (winAddr j 0x20) ((d.ax k).inWords.take 96)

/-! ### The stages -/

/-- What a run reads: the window's words, the boundary's inputs, and the phase currents. -/
structure Run where
  w : Nat → Nat
  i : LoopIn
  k : Nat
  len : Nat
  cur : Nat → Int
  flags : Nat

/-- A parameter of the window's copy. -/
def Run.u (r : Run) (a : Nat) : Nat := r.w (prmWord a)
/-- A signed parameter. -/
def Run.s (r : Run) (a : Nat) : Int := toS 32 (r.u a)
/-- A field of a parameter word. -/
def Run.f (r : Run) (f : Fld) : Nat := bits (r.u f.addr) f.lo f.width
/-- A word of the state vector, by its byte offset. -/
def Run.v (r : Run) (off : Nat) : Int := toS 32 (r.w (0x1C0 + off / 4))
/-- A 64-bit value of the window. -/
def Run.w64 (r : Run) (off : Nat) : Int := toS 64 (r.w off + 2 ^ 32 * r.w (off + 1))

/-- A planner's velocity as a signal: 32 bits in 2⁻²⁴ count/tick, saturated beyond them without a flag (R99;
notes/assumptions/20). -/
def sigVel (v : Int) : Int := satS 32 (fdiv v (2 ^ 72))
/-- v_ff: the feed-forward entry's velocity (R99). -/
def Run.vff (r : Run) : Int := sigVel r.i.ff.v
/-- a_ff: its acceleration, 32 bits in 2⁻⁴⁸ count/tick² (R99). -/
def Run.aff (r : Run) : Int := satS 32 (fdiv r.i.ff.a (2 ^ 48))
/-- The measured speed. -/
def Run.vm (r : Run) : Int := toS 32 (r.w 0x10)

/-- R115: the gain of the contour copy at `base` for an error. -/
def Run.gain (r : Run) (base ct : Nat) (e : Int) : Int :=
  if ct = 0xFF then 16384
  else
    let neg := bit (r.w base) 0 && decide (e < 0)
    let fs := r.w (base + 1)
    let pt := fun k => let w := r.w (base + (if neg then 19 else 2) + k / 2); (bits w (16 * (k % 2)) 16 : Nat)
    let u := min e.natAbs fs
    let k := 32 * u / fs
    if 32 ≤ k then (pt 32 : Int)
    else
      let f : Int := ((32 * u - k * fs : Nat) : Int)
      pt k + fdiv (((pt (k + 1) : Int) - pt k) * f) fs

/-- The position set-point of the run (R101, R122, R90). -/
def Run.psp (r : Run) : Int := if r.i.mode = 2 then r.i.refPos else r.w64 2 + r.i.corr
/-- e_p (R101). -/
def Run.ep (r : Run) : SL Int := sat32 fPOS (fdiv (r.psp - r.w64 0xE) (2 ^ 8))

/-- Does a stage with divider `n` run in this beat (R118)? -/
def Run.due (r : Run) (n : Nat) : Bool := (r.i.beat + n - r.f (AX_LP_CTRL_DIV_PHASE r.k) % n) % n == 0

/-- The position stage (R102). -/
def Run.position (r : Run) : SL Int := do
  let e ← r.ep
  let ec ← nar fVREF (r.gain 0xC0 (r.f (AX_LP_CTRL_POS_CT r.k)) e * e) 14
  let a ← nar fVREF (r.s (AX_LP_KP r.k) * ec) (r.f (AX_LP_SH0_SH_KP r.k))
  let b ← nar fVREF (r.s (AX_LP_KVFF r.k) * r.vff) (r.f (AX_LP_SH0_SH_KVFF r.k))
  sat32 fVREF (a + b)

/-- The sign of an integer. -/
def sgn (x : Int) : Int := if 0 < x then 1 else if x < 0 then -1 else 0

/-- The Coulomb term (R104). -/
def Run.coulomb (r : Run) : SL Int :=
  let fc := r.s (AX_LP_FC r.k)
  let band := r.u (AX_LP_FC_BAND r.k)
  if band ≤ r.vff.natAbs then sat32 fIREF (fc * sgn r.vff) else sat32 fIREF (fdiv (fc * r.vff) band)

/-- A biquad (R105) with its coefficients from address `a` on and its history at offset `off`. -/
def Run.biquad (r : Run) (f a sh off : Nat) (x : Int) : SL Int :=
  nar f (r.s a * x + r.s (a + 4) * r.v off + r.s (a + 8) * r.v (off + 4) - r.s (a + 12) * r.v (off + 8)
    - r.s (a + 16) * r.v (off + 12)) sh

/-- What the velocity stage leaves: i_ref, I_v, the biquads' new histories, and its two status bits. -/
structure VelOut where
  iref : Int
  iv : Int
  hist : List Int
  limited : Bool
  held : Bool

/-- The velocity stage (R104, R105). -/
def Run.velocity (r : Run) (vref : Int) : SL VelOut := do
  let k := r.k
  let ev ← sat32 fIREF (vref - r.vm)
  let ec ← nar fIREF (r.gain 0xE4 (r.f (AX_LP_CTRL_VEL_CT k)) ev * ev) 14
  let p ← nar fIREF (r.s (AX_LP_KV k) * ec) (r.f (AX_LP_SH0_SH_KV k))
  let u0 ← sat32 fIREF (p + r.v 0)
  let u1 ← r.biquad 4 (AX_LP_BQ1_B0 k) (r.f (AX_LP_SH1_SH_BQ1 k)) 0x0C u0
  let u2 ← r.biquad 5 (AX_LP_BQ2_B0 k) (r.f (AX_LP_SH1_SH_BQ2 k)) 0x1C u1
  let a ← nar fIREF (r.s (AX_LP_KAFF k) * r.aff) (r.f (AX_LP_SH1_SH_KAFF k))
  let b ← nar fIREF (r.s (AX_LP_FV k) * r.vff) (r.f (AX_LP_SH1_SH_FV k))
  let c ← r.coulomb
  let ff ← sat32 fIREF (a + b + c + r.s (AX_LP_FOFF k))
  let x ← sat32 fIREF (u2 + ff)
  let im : Int := r.u (AX_LP_IMAX k)
  let iref := clampI (-im) im x
  let lim := decide (iref ≠ x)
  let held := lim && decide (sgn ec = sgn x)
  let hist := [u0, r.v 0x0C, u1, r.v 0x14, u1, r.v 0x1C, u2, r.v 0x24]
  if held then pure { iref, iv := r.v 0, hist, limited := lim, held }
  else
    let t ← nar fVINT (r.s (AX_LP_KI k) * ec) (r.f (AX_LP_SH0_SH_KI k))
    let s ← sat32 fVINT (r.v 0 + t)
    let il : Int := r.u (AX_LP_ILIM k)
    pure { iref, iv := clampI (-il) il s, hist, limited := lim, held }

/-- θe of a whole-count position (R106), with the state vector's offset at 0x2C. -/
def Run.theta (r : Run) (x : Int) : Nat :=
  ofS 32 ((r.u (AX_LP_COMM_OFF r.k) : Int) + fdiv (x * (r.u (AX_LP_ESCALE r.k) : Int)) (2 ^ r.f (AX_LP_SH3_SH_ESCALE r.k)) +
    (r.w 0x1CB : Int))

/-- round(2³² / √3). -/
def k3 : Int := 2479700525
/-- round(2³² / 3). -/
def kT : Int := 1431655765
/-- round(2³¹ · √3). -/
def kS : Int := 3719550787

/-- iα and iβ of three phases (R107). -/
def Run.clarke (r : Run) : SL (Int × Int) :=
  let a := r.cur 0
  let b := r.cur 1
  if r.f (AX_LP_CTRL_I3 r.k) = 1 then do
    let c := r.cur 2
    let α ← nar fCURD ((2 * a - b - c) * kT) 32
    let β ← nar fCURQ ((b - c) * k3) 32
    pure (α, β)
  else do
    let β ← nar fCURQ ((a + 2 * b) * k3) 32
    pure (a, β)

/-- What the current stage leaves: the recorder's two currents, vd, vq, I_d, I_q, the duties and whether it clipped. -/
structure CurOut where
  i0 : Int
  i1 : Int
  vd : Int
  vq : Int
  id' : Int
  iq' : Int
  duties : List Nat
  clip : Bool

/-- A clip to ±`m`. -/
def clipTo (m x : Int) : Int := clampI (-m) m x

/-- An integrator's update where its component was not clipped (R109, R111). -/
def Run.integ (r : Run) (f : Nat) (clip : Bool) (i ki : Int) (sh : Nat) (e : Int) : SL Int :=
  if clip then pure i
  else do
    let t ← nar f (ki * e) sh
    let s ← sat32 f (i + t)
    pure (clipTo (r.u (AX_LP_VLIM r.k) : Int) s)

/-- A half-bridge duty (R111). -/
def halfDuty (v : Int) : SL Nat := do
  let d ← clampF fDUTY 0 (2 ^ 20 - 1) (2 ^ 19 + fdiv v (2 ^ 11))
  pure d.toNat

/-- The d/q controllers and the inverse rotation of R107–R110: `align` applies I_ALIGN at angle 0 (R123). -/
def Run.dq (r : Run) (iα iβ iref : Int) (align : Bool) : SL (Int × Int × CurOut) := do
  let k := r.k
  let th := if align then 0 else r.theta (fdiv r.i.commX (2 ^ 16))
  let cs := cosRom th
  let sn := sinRom th
  let id ← nar fCURD (iα * cs + iβ * sn) 30
  let iq ← nar fCURQ (-(iα * sn) + iβ * cs) 30
  let idRef : Int := if align then (r.f (AX_LP_ALIGN_I_ALIGN k) : Int) * 2 ^ 16 else r.s (AX_LP_ID_REF k)
  let ed ← sat32 fCURD (idRef - id)
  let eq ← sat32 fCURQ ((if align then 0 else iref) - iq)
  let pd ← nar fCURD (r.s (AX_LP_KPD k) * ed) (r.f (AX_LP_SH2_SH_KPD k))
  let pq ← nar fCURQ (r.s (AX_LP_KPQ k) * eq) (r.f (AX_LP_SH2_SH_KPQ k))
  let vd0 ← sat32 fCURD (pd + r.v 4)
  let vq0 ← sat32 fCURQ (pq + r.v 8)
  let dec := r.f (AX_LP_CTRL_DECOUPLE k) = 1
  let xq ← nar fCURD (if dec then r.vm * iq else 0) 30
  let tq ← nar fCURD (r.s (AX_LP_KDEC_LQ k) * xq) (r.f (AX_LP_SH3_SH_KDEC k))
  let xd ← nar fCURQ (if dec then r.vm * id else 0) 30
  let td ← nar fCURQ (r.s (AX_LP_KDEC_LD k) * xd) (r.f (AX_LP_SH3_SH_KDEC k))
  let vd1 ← sat32 fCURD (vd0 - tq)
  let vq1 ← sat32 fCURQ (vq0 + td)
  let emf ← nar fCURQ (if r.f (AX_LP_CTRL_EMF_FF k) = 1 then r.s (AX_LP_KEMF k) * r.vm else 0) (r.f (AX_LP_SH3_SH_KEMF k))
  let vq2 ← sat32 fCURQ (vq1 + emf)
  let vl := r.u (AX_LP_VLIM k)
  let vd := clipTo vl vd1
  let vq := clipTo (isqrt (vl * vl - vd.natAbs * vd.natAbs) : Nat) vq2
  let nd ← r.integ fCURD (decide (vd ≠ vd1)) (r.v 4) (r.s (AX_LP_KID k)) (r.f (AX_LP_SH2_SH_KID k)) ed
  let nq ← r.integ fCURQ (decide (vq ≠ vq2)) (r.v 8) (r.s (AX_LP_KIQ k)) (r.f (AX_LP_SH2_SH_KIQ k)) eq
  let adv := fdiv ((r.u (AX_LP_ESCALE k) : Int) * r.vm * (r.u (AX_LP_ANGLE_ADV k) : Int)) (2 ^ (r.f (AX_LP_SH3_SH_ESCALE k) + 24))
  let ta := if align then 0 else ofS 32 ((th : Int) + adv)
  let ca := cosRom ta
  let sa := sinRom ta
  let va ← nar fDUTY (vd * ca - vq * sa) 30
  let vb ← nar fDUTY (vd * sa + vq * ca) 30
  pure (va, vb, { i0 := id, i1 := iq, vd, vq, id' := nd, iq' := nq, duties := [], clip := decide (vd ≠ vd1) || decide (vq ≠ vq2) })

/-- The three-phase current stage (R106–R110). -/
def Run.threePhase (r : Run) (iref : Int) (align : Bool) : SL CurOut := do
  let (iα, iβ) ← r.clarke
  let (vα, vβ, o) ← r.dq iα iβ iref align
  let h := fdiv vα 2
  let s ← nar fDUTY (kS * vβ) 32
  let vb ← sat32 fDUTY (-h + s)
  let vc ← sat32 fDUTY (-h - s)
  let sum ← sat32 fDUTY (max vα (max vb vc) + min vα (min vb vc))
  let v0 := fdiv sum 2
  let duty := fun (v : Int) => do
    let x ← sat32 fDUTY (v - v0)
    let d ← clampF fDUTY 0 (2 ^ 20 - 1) (2 ^ 19 + fdiv x (2 ^ 10))
    pure d.toNat
  let da ← duty vα
  let db ← duty vb
  let dc ← duty vc
  pure { o with duties := [da, db, dc] }

/-- One PI controller of a phase current: e, v clipped to ±VLIM, and the integrator (R111, R112). -/
def Run.phasePi (r : Run) (f : Nat) (e int extra : Int) : SL (Int × Int × Bool) := do
  let k := r.k
  let p ← nar f (r.s (AX_LP_KPQ k) * e) (r.f (AX_LP_SH2_SH_KPQ k))
  let v0 ← sat32 f (p + int + extra)
  let v := clipTo (r.u (AX_LP_VLIM k)) v0
  let n ← r.integ f (decide (v ≠ v0)) int (r.s (AX_LP_KIQ k)) (r.f (AX_LP_SH2_SH_KIQ k)) e
  pure (v, n, decide (v ≠ v0))

/-- The voice-coil current stage (R111). -/
def Run.voiceCoil (r : Run) (iref : Int) : SL CurOut := do
  let i := r.cur 0
  let e ← sat32 fCURD (iref - i)
  let emf ← nar fCURD (r.s (AX_LP_KEMF r.k) * r.vm) (r.f (AX_LP_SH3_SH_KEMF r.k))
  let (v, n, clip) ← r.phasePi fCURD e (r.v 8) emf
  let a ← halfDuty v
  let b ← clampF fDUTY 0 (2 ^ 20 - 1) (2 ^ 19 - fdiv v (2 ^ 11))
  pure { i0 := i, i1 := 0, vd := v, vq := 0, id' := r.v 4, iq' := n, duties := [a, b.toNat, 0], clip }

/-- The open-loop stepper stage (R112): `rest` is the count of beats since the velocity became 0. -/
def Run.openStep (r : Run) (rest : Nat) (run : Bool) : SL CurOut := do
  let th := r.theta (fdiv r.i.ff.posOut (2 ^ 16))
  let amp : Int := if run || decide (rest ≤ r.f (AX_LP_HOLD_DELAY_BEATS r.k)) then r.u (AX_LP_I_RUN r.k) else r.u (AX_LP_I_HOLD r.k)
  let ra ← nar fCURD (amp * cosRom th) 30
  let rb ← nar fCURQ (amp * sinRom th) 30
  let ea ← sat32 fCURD (ra - r.cur 0)
  let eb ← sat32 fCURQ (rb - r.cur 1)
  let (va, na, ca) ← r.phasePi fCURD ea (r.v 4) 0
  let (vb, nb, cb) ← r.phasePi fCURQ eb (r.v 8) 0
  let da ← halfDuty va
  let db ← halfDuty vb
  pure { i0 := r.cur 0, i1 := r.cur 1, vd := va, vq := vb, id' := na, iq' := nb, duties := [da, db, 0], clip := ca || cb }

/-- The closed-loop stepper stage (R112). -/
def Run.closedStep (r : Run) (iref : Int) (align : Bool) : SL CurOut := do
  let (vα, vβ, o) ← r.dq (r.cur 0) (r.cur 1) iref align
  let da ← halfDuty vα
  let db ← halfDuty vβ
  pure { o with i0 := r.cur 0, i1 := r.cur 1, duties := [da, db, 0] }

/-- A narrowing of the step stage: 64 bits wide, as V and DV are staged (R113; notes/assumptions/20). -/
def nar64 (x : Int) (s : Nat) : SL Int := fun fl =>
  let y := fdiv x (2 ^ s)
  (satS 64 y, if satS 64 y = y then fl else setBit fl fSTEP true)

/-- The step stage (R113): V and DV, from the phase expected at L of the next beat. -/
def Run.stepStage (r : Run) (ref expected : Int) : SL (Int × Int) := do
  let sc : Int := r.u (AX_LP_STEP_SCALE r.k)
  let sh := r.f (AX_LP_SH3_SH_STEP r.k)
  let v1 ← nar64 (sc * sigVel r.i.e1.v) sh
  let v2 ← nar64 (sc * sigVel (if r.i.two then r.i.e2.v else r.i.e1.v)) sh
  let e2 := if r.i.two then r.i.e2 else r.i.e1
  let pos ← nar64 (sc * fdiv (e2.posOut - ref) (2 ^ 8)) (sh - 16)
  let len : Int := r.len
  let dv := fdiv (v2 - v1) r.len
  let t := pos - expected
  pure (fdiv (t - dv * len * (len + 1) / 2) r.len, dv)

/-! ### A run (R98) -/

/-- The generators bound to axis `k` (ST_CTRL). -/
def Device.gensOf (d : Device) (k : Nat) : List Nat := (List.range 16).filter (fun g => d.get (ST_CTRL_AXIS g) == k)

/-- The whole phase of a generator in 2⁻⁴⁴ step. -/
def Device.genPhase (d : Device) (g : Nat) : Int := (d.rdS64 (ST_COUNT g) + (d.gen g).due.sum) * 2 ^ 44 + (d.gen g).frac

/-- The phase expected at L of the next beat (R113): the ticks to this beat's L, where it lies ahead, at the present
command, and a beat of the command applied at that L. -/
def Device.genExpected (d : Device) (g : Nat) : Int :=
  let s := d.gen g
  let travel := fun (v dv : Int) (n : Nat) => v * n + dv * n * (n + 1) / 2
  let len := d.clk.len
  if d.clk.tick < d.clk.latch then
    let n := d.clk.latch - d.clk.tick
    let (v, dv) := if s.staged then (s.stagedV, s.stagedDv) else (s.v + s.dv * n, 0)
    d.genPhase g + travel s.v s.dv n + travel v dv len
  else
    d.genPhase g + travel s.v s.dv (d.clk.latch + len - d.clk.tick)

/-- The inputs of a run of axis `k` in slot `j` of engine `e`; an unreported phase current is a free value. -/
def Device.runOf (d : Device) (e j k : Nat) : Run × Device :=
  let w := fun i => (d.dm e (winAddr j i)).toNat
  let one := fun (d : Device) (ph : Nat) => match d.currentWord k ph with
    | some i => (toS 16 (w i) * 2 ^ 15, d)
    | none => let (x, d1) := d.fresh; (toS 32 x.toNat, d1)
  -- I3 as the parameters of the window have it (R117)
  let i3 := (AX_LP_CTRL_I3 k)
  let needed := if d.variant k = 3 then 0 else if d.variant k = 1 then 1 else if bit (w (prmWord i3.addr)) i3.lo then 3 else 2
  let (a, d1) := if 0 < needed then one d 0 else (0, d)
  let (b, d2) := if 1 < needed then one d1 1 else (0, d1)
  let (c, d3) := if 2 < needed then one d2 2 else (0, d2)
  ({ w, i := (d.ax k).inWin, k, len := d.clk.len, cur := fun ph => if ph = 0 then a else if ph = 1 then b else c, flags := 0 }, d3)

/-- The divider of a code (R118). -/
def divOf (code : Nat) : Nat := 2 ^ code

/-- Commit of a state vector word, by its byte offset. -/
def Device.vecPut (d : Device) (e j off : Nat) (v : Int) : Device := d.setDm e (winAddr j (0x1C0 + off / 4)) (BitVec.ofNat 32 (ofS 32 v))

/-- The outer stages of an axis (R98): v_ref, the velocity stage's result or the held i_ref, and e_p for the recorder. -/
def Run.outer (r : Run) (align : Bool) : SL (Int × Option VelOut × Int) := do
  if align then pure (r.v 0x30, none, 0)
  else
    let e := satS 32 (fdiv (r.psp - r.w64 0xE) (2 ^ 8))
    let vref ← if r.due (divOf (r.f (AX_LP_CTRL_POS_DIV r.k))) then r.position else pure (r.v 0x30)
    if r.due (divOf (r.f (AX_LP_CTRL_VEL_DIV r.k))) then
      let o ← r.velocity vref
      pure (vref, some o, e)
    else pure (vref, none, e)

/-- The saturation flags of a run recorded (R100). -/
def Device.satFlags (d : Device) (k fl : Nat) : Device :=
  d.wrN (AX_LP_SAT k) (d.rdN (AX_LP_SAT k) ||| fl)

/-- A servo run: VARIANT 0, 1 and 2 (R98, R101–R112). -/
def Device.servoRun (d : Device) (e j k : Nat) : Device :=
  let (r, d0) := d.runOf e j k
  let v := d.variant k
  let cl := d.has (AX_CTRL_STEP_CL k)
  let align := decide (r.i.mode = 3)
  let openLoop := v == 2 && (!cl || r.i.ride)
  let rest0 := bits (r.w 0x1D6) 0 16
  let rest := if r.vff = 0 then min 65535 (rest0 + 1) else 0
  let act : SL (Int × Option VelOut × Int × CurOut) := do
    let (vref, vo, ep) ← if openLoop then pure (r.v 0x30, none, 0) else r.outer align
    let iref := match vo with
      | some o => o.iref
      | none => r.v 0x34
    let c ← match v with
      | 0 => r.threePhase iref align
      | 1 => r.voiceCoil iref
      | _ => if openLoop then r.openStep rest r.i.ride else r.closedStep iref align
    pure (vref, vo, ep, c)
  let ((vref, vo, ep, c), fl) := act.run 0
  let iref := match vo with
    | some o => o.iref
    | none => r.v 0x34
  let put := fun (d : Device) (x : Nat × Int) => d.vecPut e j x.1 x.2
  let d1 := [(0x04, c.id'), (0x08, c.iq'), (0x30, vref), (0x34, iref), (0x38, c.vd), (0x3C, c.vq)].foldl put d0
  let d2 := match vo with
    | some o => ((0, o.iv) :: ((List.range 8).zip o.hist).map (fun (x : Nat × Int) => (0x0C + 4 * x.1, x.2))).foldl put d1
    | none => d1
  let held := match vo with
    | some o => o.held
    | none => bit (r.w 0x1D5) 16
  let al := bits (r.w 0x1D6) 16 16
  let cnt := (if v = 2 then rest else rest0) + (if align then min 65535 (al + 1) else al) * 65536
  let d3 := ((d2.setDms e (winAddr j 0x1D0) c.duties).setDm e (winAddr j 0x1D5) (BitVec.ofNat 32 (b2n held * 65536))).setDm e
    (winAddr j 0x1D6) (BitVec.ofNat 32 cnt)
  let d4 := (d3.setDms e (winAddr j 0x180) (c.duties ++ [0, 0, 0, 0, 0])).satFlags k fl
  let d5 := ((d4.livePut (AX_LP_STATUS_IINT_HELD k) (b2n held)).livePut (AX_LP_STATUS_VLIM_ACTIVE k) (b2n c.clip)).livePut
    (AX_LP_STATUS_ILIM_ACTIVE k) (match vo with | some o => b2n o.limited | none => d4.liveGet (AX_LP_STATUS_ILIM_ACTIVE k))
  let th : Int := if align then 0 else r.theta (fdiv (if openLoop then r.i.ff.posOut else r.i.commX) (2 ^ 16))
  d5.setAx k fun s => { s with sig := [ep, vref, r.vm, iref, c.i0, c.i1, c.vd, c.vq, th, ((d5.rdN (AX_LP_SAT k) % 65536 : Nat) : Int)] }

/-- The step-generator run: VARIANT 3 (R113). -/
def Device.stepRun (d : Device) (e j k : Nat) : Device :=
  let (r, d0) := d.runOf e j k
  match d.gensOf k with
  | [] => d0.setDms e (winAddr j 0x180) [0, 0, 0, 0, 0, 0, 0, 0]
  | g :: _ =>
    let s := d.ax k
    let expected := d.genExpected g - s.stepPhase
    let ((v, dv), fl) := (r.stepStage s.stepRef expected).run 0
    let d1 := (d0.setDms e (winAddr j 0x180) ([0, 0, 0, 0] ++ loHi v ++ loHi dv)).satFlags k fl
    (d1.setDms e (winAddr j 0x1D3) (loHi expected)).setAx k fun s =>
      { s with sig := [0, 0, r.vm, 0, 0, 0, 0, 0, 0, ((d1.rdN (AX_LP_SAT k) % 65536 : Nat) : Int)] }

/-- The stock loop's computation of a slot, before its outbox is staged (R98, R125); a custom axis is left to its
program. -/
def Device.stockRun (d : Device) (e j : Nat) : Device :=
  let k := d.slotAxis e j
  if 191 < k then d
  else
    let v := d.variant k
    if 3 < v then d
    else if (d.ax k).inWin.mode = 0 then d.setDms e (winAddr j 0x180) [0, 0, 0, 1, 0, 0, 0, 0]
    else if v = 3 then d.stepRun e j k
    else d.servoRun e j k

end Sys2Proof.Machine
end

