-- ==== Sys2Proof/Machine/Axis.lean ====
section
/-! DEFINITION. Enable, disable and torque removal (R119–R126, R202, R205): the requests, the timed steps of the enable
sequence and of the way to OFF, and an axis's part of the beat boundary. -/

namespace Sys2Proof.Machine

/-- The refusal of an enable request (R121). -/
def Device.axRefuse (d : Device) (k code : Nat) : Device :=
  (d.livePut (AX_STATUS_REFUSE_LAST k) code).raise (AX_EVENT_REFUSED k)

/-- Does the axis commutate: VARIANT 0, or 2 with STEP_CL = 1 (R123)? -/
def Device.commutates (d : Device) (k : Nat) : Bool :=
  d.variant k == 0 || (d.variant k == 2 && d.has (AX_CTRL_STEP_CL k))

/-- Is a source a direct port in a mode that delivers no sample (R561)? -/
def Device.portMute (d : Device) (kind id : Nat) : Bool :=
  let mode := bits (d.port (id % 16)).ctrl.toNat 0 3
  kind == 2 && (mode == 0 || mode == 6 || mode == 7)

/-- Does the feedback that an enable needs report valid (R121, R191)?  Variants 0 and 1 cannot run on a step count or a
set-point (R172), and no axis runs while either of its sources is a port without samples (R561). -/
def Device.fbReady (d : Device) (k : Nat) : Bool :=
  let kind := d.get (AX_FB_SRC_PRI_KIND k)
  let v := d.variant k
  d.liveHas (AX_FB_STATUS_PRI_VALID k) && (!d.has (AX_FB_SRC_DUAL k) || d.liveHas (AX_FB_STATUS_SEC_VALID k)) &&
    !d.portMute kind (d.get (AX_FB_SRC_PRI_ID k)) && !d.portMute (d.get (AX_FB_SRC_SEC_KIND k)) (d.get (AX_FB_SRC_SEC_ID k)) &&
    !(decide (v < 2) && (kind == 0 || kind == 3 || kind == 4))

/-- The first enable condition that fails, by its code (R121); 0 for none. -/
def Device.enableCode (d : Device) (k : Nat) : Nat :=
  let v := d.variant k
  let s := d.ax k
  if d.axState k ≠ axOFF then 7
  else if ¬(v ≤ 3 ∨ v = 7) then 8
  else if d.fbReady k = false then 1
  else if s.sto = true ∨ s.ss1 = true then 2
  else if (!d.mbValid k && (d.gensOf k).isEmpty) = true then 3
  else if (d.slotOf k).isNone = true then 4
  else if d.commutates k = true ∧ d.liveHas (AX_STATUS_COMM_VALID k) = false ∧ d.get (AX_CTRL_COMM_MODE k) ≠ 1 then 5
  else if d.has (holdOff k) = true then 6
  else 0

/-- ENABLE_REQUEST (R121, R122). -/
def Device.enableReq (d : Device) (k : Nat) : Device :=
  let st := d.axState k
  if st = axENABLING ∨ st = axRUN then d
  else
    let c := d.enableCode k
    if c ≠ 0 then d.axRefuse k c
    else if (d.ax k).enPend.isSome then d
    else d.setAx k fun s => { s with enPend := some d.clk.beat }

/-- The planner's part of a disable (R55, R78, R85): a path convoy stops by its member's DIS_REACT, a follower with a quick
stop of its own; a twin waits for its primary (R91). -/
def Device.axReact (d : Device) (k : Nat) : Device :=
  if (d.cyOf k).isSome then d.cyMemberStop k (if d.cyInPath k && d.has (AX_PL_CTRL_DIS_REACT k) then 1 else 2) false true
  else if (d.gpTwin k).isSome then d
  else d.plDisable k

/-- The torque of a path convoy's member went off without a disable reaction of its own: the other members stop along the
path by its DIS_REACT (R78). -/
def Device.axReactPath (d : Device) (k : Nat) : Device :=
  if d.cyInPath k then d.cyMemberStop k (if d.has (AX_PL_CTRL_DIS_REACT k) then 1 else 2) false true else d

/-- One axis disabled (R124) with the cause that OFF_CAUSE will give; `delay` is its OFF_DELAY.  A pending enable is
withdrawn. -/
def Device.disable1 (d : Device) (k cause delay : Nat) : Device :=
  let st := d.axState k
  if (d.ax k).enPend.isSome then d.axWithdraw k (if cause = 1 then none else some cause)
  else if st = axRUN then
    ((d.setAx k fun s => { s with rest := none, offDelay := delay, cause := cause }).setAxState k axDISABLING).axReact k
  else if st = axENABLING then
    (d.setAx k fun s => { s with rest := none, offDelay := delay, cause := cause, brakeAt := none, relAt := none, alignAt := none }).setAxState
      k axDISABLING
  else d

/-- The axes that a disable of `k` concerns: both axes of a gantry pair (R91). -/
def Device.pairOf (d : Device) (k : Nat) : List Nat :=
  match d.gpTwin k with
  | some g => [d.get (GL_GP_CTRL_PRIMARY g), k]
  | none => match d.gpPrimary k with
    | some g => [k, d.get (GL_GP_CTRL_TWIN g)]
    | none => [k]

/-- DISABLE_REQUEST (R124), and TORQUE_OFF with its cause (R126).  On a gantry pair the primary's disable reaction, its
OFF_DELAY included, runs on both axes (R91). -/
def Device.disableReq (d : Device) (k : Nat) (cause : Nat := 1) : Device :=
  let ks := d.pairOf k
  let delay := d.get (AX_PL_OFF_DELAY_BEATS (ks.headD k))
  ks.foldl (fun d a => d.disable1 a cause delay) d

/-- A write of AX_CTRL (R120, R121, R123, R124). -/
def Device.axCtrlWrite (d : Device) (k v : Nat) : Device :=
  let off := decide (d.axState k = axOFF)
  let comm := off && decide (bits v 2 2 ≠ d.get (AX_CTRL_COMM_MODE k))
  let d1 := if off then
      ((d.put (AX_CTRL_VARIANT k) (bits v 5 3)).put (AX_CTRL_STEP_CL k) (bits v 4 1)).put (AX_CTRL_COMM_MODE k) (bits v 2 2)
    else d
  let d2 := if comm then d1.livePut (AX_STATUS_COMM_VALID k) 0 else d1
  let d3 := ((d2.put (AX_CTRL_EN k) (v % 2)).livePut (AX_MB_STATUS_VALID k) (b2n (d2.mbValid k))).bindShow
  if bit v 0 then d3.enableReq k else d3.disableReq k

/-! ### Inputs of the loops -/

/-- The feed-forward entry (R103): the furthest valid one, up to FF_LEAD. -/
def Device.ffEntry (d : Device) (k : Nat) : Kin :=
  let lead := min 2 (d.lpGet (AX_LP_CTRL_FF_LEAD k))
  if lead = 0 then (d.pl k).cur
  else if lead = 2 ∧ 1 ≤ d.aheadValid k then d.axisAhead k 1
  else d.axisAhead k 0

/-- The mode of the loops in this beat: 0 bridge-off, 1 closed on the set-point, 2 on the frozen reference (an enable in
progress, or the way to OFF from one: R122, R124, R125), 3 alignment. -/
def Device.loopMode (d : Device) (k : Nat) : Nat :=
  let s := d.ax k
  let st := d.axState k
  let off := match s.rest with
    | some m => decide (m + s.offDelay ≤ d.clk.beat)
    | none => false
  if st = axOFF ∨ off = true then 0
  else if s.alignAt.isSome then 3
  else if st = axENABLING ∨ d.plState k = plOFF then 2
  else 1

/-- What this boundary gives the stock loop of axis `k`; the engine's boundary refreshes the slot window with it (R159). -/
def Device.axInput (d : Device) (k : Nat) : Device :=
  let i : LoopIn := { beat := d.clk.beat, ff := d.ffEntry k, e1 := d.axisAhead k 0, e2 := d.axisAhead k 1,
                      two := decide (1 ≤ d.aheadValid k), mode := d.loopMode k, refPos := (d.ax k).refPos, corr := d.gpCorr k,
                      ride := decide (d.axState k = axRIDE), commX := (d.fb k).pri.p }
  d.setAx k fun s => { s with inNow := i }

/-- The inputs of this boundary formed anew, by a change of STATE at the boundary or a loss decided in the beat: where the
slot window holds this boundary's inputs, it takes them too (R122, R123, R129). -/
def Device.axRefresh (d : Device) (k : Nat) : Device :=
  let d1 := d.axInput k
  match d1.slotOf k with
  | some (e, j) =>
    let x := (d1.ax k).inWin.commX
    if (d1.ax k).inWin.beat = d.clk.beat then (d1.winInputs e j k).setAx k fun s => { s with inWin := { s.inWin with commX := x } }
    else d1
  | none => d1

/-! ### The timed steps -/

/-- What the feedback unit does at the RUN transition (R192, R201, R203). -/
def Device.fbRun (d : Device) (k : Nat) : Device :=
  let v := d.variant k
  let obs := decide (v = 0) || decide (v = 1)
  let dF := d.setFb k fun u => { u with fallback := false }
  let d0 := if (d.fb k).fallback then dF.msSourceMoved k else dF
  let p := d0.fbPos k
  let d1 := d0.setFb k fun u => { u with d0 := some (u.sec.p - u.pri.p), dualOver := false, warned := false,
                                         devCnt := 0, laCnt := 0, obs := obs, obsX := p, obsV := u.pri.vel }
  (d1.livePut (AX_FB_STATUS_SEC_LOST k) 0).livePut (AX_FB_STATUS_STALL k) 0

/-- STATE becomes RUN (R122): ENABLED is raised and the planner enters IDLE from the measured position (R56); a gantry
twin follows its primary (R89). -/
def Device.axRun (d : Device) (k : Nat) : Device :=
  let d1 := (d.setAx k fun s => { s with relAt := none, alignAt := none, brakeAt := none }).setAxState k axRUN
  let dR := (d1.raise (AX_EVENT_ENABLED k)).fbRun k
  let d2 := dR.plEnable k (dR.fbPos k)
  let d3 := if (d2.gpTwin k).isSome || (d2.cyOf k).isSome then d2.setPlState k plFOLLOWING else d2
  d3.axRefresh k

/-- BRAKE_REL_ELAPSED (R122, R123): alignment starts, or STATE becomes RUN. -/
def Device.brakeRel (d : Device) (k : Nat) : Device :=
  match (d.ax k).relAt with
  | none => d
  | some r =>
    if d.axState k ≠ axENABLING ∨ d.clk.beat < r then d
    else if d.commutates k && d.get (AX_CTRL_COMM_MODE k) == 1 && !d.liveHas (AX_STATUS_COMM_VALID k) then
      (d.setAx k fun s => { s with relAt := none, alignAt := some d.clk.beat }).axRefresh k
    else d.axRun k

/-- The whole-count angle of the commutation source at the present position (R106, R191). -/
def Device.commAngle (d : Device) (k : Nat) : Int :=
  let x := fdiv (d.fb k).pri.p (2 ^ 16)
  let off : Int := match d.slotOf k with
    | some (e, j) => ((d.dm e (winAddr j (0x1C0 + 11))).toNat : Int)
    | none => 0
  fdiv (x * ((d.lpRd (AX_LP_ESCALE k)).toNat : Int)) (2 ^ d.lpGet (AX_LP_SH3_SH_ESCALE k)) + off

/-- ALIGNMENT_END (R123): COMM_OFF is set, in force and in its shadow, so that θe is 0 here. -/
def Device.alignEnd (d : Device) (k : Nat) : Device :=
  match (d.ax k).alignAt with
  | none => d
  | some a =>
    if d.axState k ≠ axENABLING ∨ d.clk.beat < a + d.lpGet (AX_LP_ALIGN_ALIGN_BEATS k) then d
    else
      let c := BitVec.ofNat 32 (ofS 32 (-(d.commAngle k)))
      let d1 := (d.wr (AX_LP_COMM_OFF k) c)
      let lp1 := Store.set resetWord d1.lp (AX_LP_COMM_OFF k) c
      let d2 := { d1 with lp := lp1 }
      let d3 := match d2.slotOf k with
        | some (e, j) => d2.setDm e (winAddr j (prmWord (AX_LP_COMM_OFF k))) c
        | none => d2
      ((d3.livePut (AX_STATUS_COMM_VALID k) 1).raise (AX_EVENT_ALIGN_DONE k)).axRun k

/-- OFF_DELAY_ELAPSED (R125): at L of the beat after bridge-off was computed, STATE becomes OFF. -/
def Device.offDelay (d : Device) (k : Nat) : Device :=
  let s := d.ax k
  match s.rest with
  | none => d
  | some m =>
    if m + s.offDelay + 1 < d.clk.beat ∨ (m + s.offDelay + 1 = d.clk.beat ∧ d.clk.latch ≤ d.clk.tick) then d.axOffNow k s.cause
    else d

/-- Has the committed set-point of a disabled axis reached rest (R55, R78, R91, R124)? -/
def Device.axRest (d : Device) (k : Nat) : Bool :=
  let st := d.plState k
  let p := d.pl k
  if st = plDISABLING then p.rested.isSome
  else if st = plFOLLOWING then decide (p.cur.v = 0) && decide (p.cur.a = 0) && decide (p.next.v = 0)
  else true

/-- The rest boundary of the way to OFF: the brake is de-energised (R125). -/
def Device.axRestAt (d : Device) (k : Nat) : Device :=
  (d.setAx k fun s => { s with rest := some d.clk.beat }).brake k false

/-- Ride-through starts (R202, R205); an enable in progress is abandoned. -/
def Device.axRide (d : Device) (k : Nat) : Device :=
  let st := d.axState k
  if st = axENABLING then
    ((d.setAx k fun s => { s with offDelay := 0, cause := 4, brakeAt := none, relAt := none, alignAt := none }).setAxState k
      axDISABLING).axRestAt k
  else if st = axRUN ∨ st = axDISABLING then
    let d1 := (d.setAx k fun s => { s with rest := none, offDelay := 0, cause := 4 }).setAxState k axRIDE
    let d2 := d1.setFb k fun u => { u with rideStart := d.clk.beat }
    let d3 := if (d2.fb k).obs then d2.livePut (AX_FB_STATUS_OBSERVER k) 1 else d2
    d3.axForceStop k 2
  else d

/-- RIDE_END (R202, R205): the first boundary at which the set-point is at rest or RIDE_TIME has elapsed. -/
def Device.rideEnd (d : Device) (k : Nat) : Device :=
  let p := d.pl k
  let rt := min 1000 (max 1 (d.get (AX_FB_LOSS_RIDE_TIME k)))
  let still := decide (p.cur.v = 0) && decide (p.cur.a = 0) && decide (p.next.v = 0)
  let beyond := decide (rt * 10000 ≤ (d.clk.beat - (d.fb k).rideStart) * d.clk.len)
  if d.axState k = axRIDE ∧ (d.ax k).rest = none ∧ (still || beyond) = true then
    let d1 := (d.raise (AX_FB_EVENT_RIDE_END k)).axRestAt k
    let ks := d1.pairOf k
    let delay := d1.get (AX_PL_OFF_DELAY_BEATS (ks.headD k))
    (ks.foldl (fun d a => if a = k then d else d.disable1 a 4 delay) d1).axRefresh k
  else d

/-! ### Parameter commits (R119, R120) -/

/-- The refusal of a parameter commit. -/
def Device.lpRefuse (d : Device) (k code : Nat) : Device :=
  (d.livePut (AX_LP_STATUS_REFUSE_LAST k) code).raise (AX_EVENT_PARAM_REFUSED k)

/-- The shift fields of the four shift registers. -/
def Device.lpShifts (d : Device) (k : Nat) : List Nat :=
  [AX_LP_SH0 k, AX_LP_SH1 k, AX_LP_SH2 k, AX_LP_SH3 k].flatMap (fun a => (List.range 4).map (fun i => bits (d.rdN a) (8 * i) 6))

/-- Is a contour selection acceptable (R116)? -/
def Device.contourOk (d : Device) (ct : Nat) : Bool :=
  ct == 0xFF || (decide (ct < 128) && !(d.tblWork (0x40 + ct)).isEmpty)

/-- The addresses of an axis's loop parameters. -/
def lpAddrs (k : Nat) : List Nat := AX_LP_CTRL k :: (List.range 43).map (fun i => AX_LP_SH0 k + 4 * i)

/-- PARAM_COMMIT (R119): the shadow parameters are checked and apply at the next boundary. -/
def Device.paramCommit (d : Device) (k : Nat) : Device :=
  let ctrl := d.rdN (AX_LP_CTRL k)
  let fits := match d.slotOf k with
    | none => true
    | some (e, _) => d.engFits (fun a => if a = k then ctrl else d.divsInForce a) d.laysInForce d.clk.deadline e (d.engImage e)
  if (d.lpShifts k).any (fun s => decide (47 < s)) ∨ (d.variant k = 3 ∧ d.get (AX_LP_SH3_SH_STEP k) < 16) then d.lpRefuse k 1
  else if bits ctrl 2 2 = 3 ∨ bits ctrl 0 2 < bits ctrl 2 2 then d.lpRefuse k 2
  else if ¬(d.contourOk (bits ctrl 16 8) = true ∧ d.contourOk (bits ctrl 24 8) = true) then d.lpRefuse k 3
  else if fits = false then d.lpRefuse k 4
  else
    let pend := (lpAddrs k).foldl (fun m a => Store.set resetWord m a (d.rd a)) d.lpPend
    ({ d with lpPend := pend }.setAx k fun s => { s with commit := true }).livePut (AX_LP_STATUS_COMMIT_PEND k) 1

/-- CLEAR_INT (R119). -/
def Device.clearInt (d : Device) (k : Nat) : Device := d.setAx k fun s => { s with clearInt := true }

/-- The boundary's part of a parameter commit and of CLEAR_INT. -/
def Device.lpBoundary (d : Device) (k : Nat) : Device :=
  let s := d.ax k
  let d1 := if s.commit then
      let lp := (lpAddrs k).foldl (fun m a => Store.set resetWord m a (Store.get resetWord d.lpPend a)) d.lp
      let pend := (lpAddrs k).foldl (fun m a => Store.set resetWord m a (resetWord a)) d.lpPend
      (({ d with lp := lp, lpPend := pend }.setAx k fun s => { s with commit := false }).livePut (AX_LP_STATUS_COMMIT_PEND k) 0).raise
        (AX_EVENT_PARAM_APPLIED k)
    else d
  let d2 := if s.clearInt then
      match d1.slotOf k with
      | some (e, j) => (d1.setAx k fun s => { s with clearInt := false }).setDms e (winAddr j 0x1C0) [0, 0, 0]
      | none => d1.setAx k fun s => { s with clearInt := false }
    else d1
  if s.commit then
    match d2.slotOf k with
    | some (e, j) => if bit (d2.carryMask e) j then d2 else d2.winParams e j k
    | none => d2
  else d2

/-! ### The boundary -/

/-- ENABLING at boundary n + 1 (R122): the state vector is cleared, the reference frozen, and for VARIANT 3 the step
count's reference taken (R113). -/
def Device.axEnabling (d : Device) (k : Nat) : Device :=
  let p := d.fbPos k
  let ph := match d.gensOf k with
    | g :: _ => d.genPhase g
    | [] => 0
  let d1 := d.setAx k fun s => { s with enPend := none, brakeAt := some (d.clk.beat + 1), relAt := none, alignAt := none, rest := none,
                                        refPos := p, cause := 1, stepRef := p, stepPhase := ph, stagedSince := false }
  (d1.vecClear k).setAxState k axENABLING

/-- COMM_VALID by a valid commutation source with COMM_MODE 0 (R123). -/
def Device.commCheck (d : Device) (k : Nat) : Device :=
  if !(d.ax k).commLost && d.liveHas (AX_FB_STATUS_PRI_VALID k) && d.get (AX_CTRL_COMM_MODE k) == 0 then
    d.livePut (AX_STATUS_COMM_VALID k) 1
  else d

/-- An axis's part of the beat boundary (R122, R124–R126). -/
def Device.axBoundary (d : Device) (k : Nat) : Device :=
  let s := d.ax k
  let n := d.clk.beat
  let st := d.axState k
  let d1 := if s.sto = true ∧ st ≠ axOFF then (d.axOffNow k 2).axReactPath k else d
  let d2 := d1.commCheck k
  let d3 := match (d2.ax k).enPend with
    | some b => if b < n then d2.axEnabling k else d2
    | none => d2
  let d4 := match (d3.ax k).brakeAt with
    | some b =>
      if b ≤ n then
        (d3.setAx k fun s => { s with brakeAt := none, relAt := some (n + d3.lpGet (AX_LP_BRAKE_BRAKE_REL k)) }).brake k true
      else d3
    | none => d3
  let d5 := if d4.axState k = axDISABLING ∧ (d4.ax k).rest = none ∧ d4.axRest k = true then d4.axRestAt k else d4
  d5.axInput k

end Sys2Proof.Machine
end

