-- ==== Sys2Proof/Machine/Feedback.lean ====
section
/-! DEFINITION. The feedback units (R172–R177, R191–R207, R561): the evaluation of a source once per beat, the speed
estimate, misses, freeze and loss, SETPOS, the dual loop, the observer, and the stall checks. -/

namespace Sys2Proof.Machine

/-- What a beat brings from a source: a count with whether it moved and its edges (none for a source without edge times,
R172), a serial or chain word (raw value, width, absolute, signed, edge age), a miss by its cause, or no delivery at all
(R561).  Causes: 1 CRC, 2 TIMEOUT, 3 ILLEGAL, 4 ENC_ERR, 5 LIFE, 6 chain slot, 7 aborted, 8 none reported (R197). -/
inductive SrcIn where
  | count (r : Int) (moved : Bool) (edges : Option (List (Nat × Int × Int)))
  | word (raw w : Nat) (abs sgnd : Bool) (age : Option Nat)
  | miss (cause : Nat) (r : Option Int)
  | absent

/-- One source of a unit: 0 the primary, 1 the secondary. -/
def FbUnit.src (u : FbUnit) (w : Nat) : FbSrc := if w = 0 then u.pri else u.sec
/-- One source of a unit changed. -/
def Device.setSrc (d : Device) (k w : Nat) (f : FbSrc → FbSrc) : Device :=
  d.setFb k fun u => if w = 0 then { u with pri := f u.pri } else { u with sec := f u.sec }

/-- The kind of a source (R172). -/
def Device.srcKind (d : Device) (k w : Nat) : Nat := if w = 0 then d.get (AX_FB_SRC_PRI_KIND k) else d.get (AX_FB_SRC_SEC_KIND k)
/-- The ID of a source. -/
def Device.srcId (d : Device) (k w : Nat) : Nat := if w = 0 then d.get (AX_FB_SRC_PRI_ID k) else d.get (AX_FB_SRC_SEC_ID k)
/-- SCALE of a source, signed 32.32 (R173). -/
def Device.srcScale (d : Device) (k w : Nat) : Int := if w = 0 then d.rdS64 (AX_FB_SCALE k) else d.rdS64 (AX_FB_SCALE2 k)
/-- The register of a source's OFFSET. -/
def srcOffset (k w : Nat) : Nat := if w = 0 then AX_FB_OFFSET k else AX_FB_OFFSET2 k

/-- R173: the position of an extended raw count. -/
def Device.srcPos (d : Device) (k w : Nat) (r : Int) : Int := fdiv (r * d.srcScale k w) (2 ^ 16) + d.rdS64 (srcOffset k w)

/-- A field of AX_FB_CTRL in force: a write takes effect at the next boundary. -/
def Device.fbCtl (d : Device) (k : Nat) (f : Fld) : Nat := bits (d.fb k).ctrl f.lo f.width

/-- Does a direct port mode give absolute positions (R172)? -/
def portAbs (mode : Nat) : Bool := decide (3 ≤ mode) && decide (mode ≤ 5)

/-- Is a source absolute: serial ports, and chain channels that their layout declares so (R172, R253)? -/
def Device.srcAbs (d : Device) (k w : Nat) : Bool :=
  let id := d.srcId k w
  if d.srcKind k w = 2 then portAbs (d.portMode (id % 16))
  else if d.srcKind k w = 1 then
    (inboxItems (d.chain (idChain id)).layout (idNode id) (idChan id)).any (fun i => i.kind == 1 && bit i.param 6)
  else false

/-- A census of chain `c` begins: the next valid sample of an incremental channel only sets the raw value against which
the one after it is differenced (R174). -/
def Device.censusRaw (d : Device) (c : Nat) : Device :=
  (List.range 192).foldl (fun (d : Device) k =>
    [0, 1].foldl (fun (d : Device) w =>
      if d.srcKind k w = 1 ∧ idChain (d.srcId k w) = c ∧ d.srcAbs k w = false then
        d.setFb k fun u => if w = 0 then { u with pri := { u.pri with raw := none } } else { u with sec := { u.sec with raw := none } }
      else d) d) d

/-- VALID and EXTRAP of a source as software reads them. -/
def Device.srcShow (d : Device) (k w : Nat) (valid extrap : Bool) : Device :=
  if w = 0 then (d.livePut (AX_FB_STATUS_PRI_VALID k) (b2n valid)).livePut (AX_FB_STATUS_PRI_EXTRAP k) (b2n extrap)
  else (d.livePut (AX_FB_STATUS_SEC_VALID k) (b2n valid)).livePut (AX_FB_STATUS_SEC_EXTRAP k) (b2n extrap)

/-! ### Loss and recovery (R199–R201) -/

/-- Does an axis use a source: the primary always, the secondary with DUAL (R191)? -/
def Device.srcUsed (d : Device) (k w : Nat) : Bool := w == 0 || d.has (AX_FB_SRC_DUAL k)

/-- The commutation source of an axis is lost: COMM_VALID waits for its recovery or an alignment (R123, R200). -/
def Device.commDrop (d : Device) (k : Nat) : Device :=
  (d.livePut (AX_STATUS_COMM_VALID k) 0).setAx k fun s => { s with commLost := true }

/-- REF_VALID and COMM_VALID after a loss: an incremental source is no longer tied to the machine (R200). -/
def Device.srcUnref (d : Device) (k w : Nat) : Device :=
  let d1 := if d.srcAbs k w then d else d.livePut (AX_FB_STATUS_REF_VALID k) 0
  if w = 0 then d1.commDrop k else d1

/-- REF_VALID and COMM_VALID while a source delivers nothing (R561): a port's COMM_VALID is cleared as on a loss, where it
was set.  A chain without frames leaves it as it is (DESIGN CHOICE, notes/assumptions/16). -/
def Device.srcMute (d : Device) (k w : Nat) : Device :=
  let d1 := d.livePut (AX_FB_STATUS_REF_VALID k) 0
  if w = 0 ∧ d.srcKind k w = 2 ∧ d.liveHas (AX_STATUS_COMM_VALID k) = true then d1.commDrop k else d1

/-- LOST of AX_FB_STATUS: a source in use is lost. -/
def Device.lostShow (d : Device) (k : Nat) : Device :=
  let u := d.fb k
  d.livePut (AX_FB_STATUS_LOST k) (b2n (u.pri.lost || (u.sec.lost && d.has (AX_FB_SRC_DUAL k))))

/-- The decision that a source is lost (R199–R201): `froz` for a freeze. -/
def Device.srcLost (d : Device) (k w : Nat) (froz : Bool) (inj : Option Nat := none) : Device :=
  let s := (d.fb k).src w
  let used := decide (d.posSrc k = w)
  let d1 := d.setSrc k w fun s => { s with lost := true, valid := false, good := 0, rLoss := s.r, froze := 0 }
  let d2 := (d1.srcUnref k w).lostShow k
  let d3 := if froz then (d2.raise (AX_FB_EVENT_FROZEN k)).livePut (AX_FB_STATUS_FROZEN k) 1 else d2.raise (AX_FB_EVENT_LOST k)
  let d4 := d3.srcShow k w false (d3.liveHas (if w = 0 then AX_FB_STATUS_PRI_EXTRAP k else AX_FB_STATUS_SEC_EXTRAP k))
  if s.lost then d
  else if w = 1 ∧ d.has (AX_FB_SRC_DUAL k) = true ∧ d.fbCtl k (AX_FB_CTRL_DUAL_FALLBACK k) = 1 then
    let d5 := d4.setFb k fun u => { u with fallback := true, lostNow := u.lostNow ++ [(w, used)] }
    ((d5.livePut (AX_FB_STATUS_SEC_LOST k) 1).raise (AX_FB_EVENT_SEC_LOST k)).msg 4 k 7 (inj.getD 0) inj.isSome
  else
    let d5 := if w = 1 then d4.raise (AX_FB_EVENT_SEC_LOST k) else d4
    d5.setFb k fun u => { u with lostNow := u.lostNow ++ [(w, used)], rideDue := u.rideDue || d.srcUsed k w }

/-- A source that has recovered: 16 consecutive valid samples (R200); silently where it was only absent (R561). -/
def Device.srcRecover (d : Device) (k w : Nat) : Device :=
  let s := (d.fb k).src w
  let abs := d.srcAbs k w
  let d1 := (d.setSrc k w fun s => { s with lost := false, absent := false, valid := true }).lostShow k
  let d2 := if s.lost then d1.raise (AX_FB_EVENT_RECOVERED k) else d1
  let d3 := if s.lost then d2.livePut (AX_FB_STATUS_FROZEN k) 0 else d2
  if abs then
    let d4 := d3.livePut (AX_FB_STATUS_REF_VALID k) 1
    if w = 0 then
      let d5 := d4.setAx k fun s => { s with commLost := false }
      if d.get (AX_CTRL_COMM_MODE k) = 0 then d5.livePut (AX_STATUS_COMM_VALID k) 1 else d5
    else d4
  else d3

/-! ### The speed estimate (R193–R196) -/

/-- R193: the count difference over `k` beats of a history whose head is this boundary; none where the estimate is kept. -/
def cdSpeed (hist : List (Option Int)) (k len : Nat) (scale : Int) : Option Int :=
  match hist with
  | some r :: past =>
    let at_ := fun j => (past[j - 1]?).bind id
    let js := (if (at_ k).isSome then [k] else []) ++ (List.range k).map (· + 1)
    match js.find? (fun j => decide (0 < j) && (at_ j).isSome) with
    | some j => (at_ j).map (fun q => fdiv ((r - q) * scale) (2 ^ 8 * j * len))
    | none => none
  | _ => none

/-- The edges of the present measurement, newest first (R194, R195): of the direction of the latest, back to a reversal or to
the edge `cut` after which the source stood still. -/
def runOf (edges : List (Nat × Int × Int)) (cut : Option Nat) : List (Nat × Int × Int) :=
  match edges with
  | (_, _, dir) :: _ => edges.takeWhile (fun x => dir != 0 && x.2.2 == dir && cut.all (fun c => decide (c < x.1)))
  | [] => []

/-- R194: the edge-period speed at `e` ticks after the latest edge.  A chain source that has no edge within the span counts
to the nearest one (DESIGN CHOICE, notes/assumptions/16). -/
def epSpeed (edges : List (Nat × Int × Int)) (cut : Option Nat) (span e : Nat) (scale : Int) : Int :=
  match runOf edges cut with
  | (t, r, dir) :: rest =>
    let back := rest.filter (fun x => decide (x.1 < t))
    match ((back.filter (fun x => decide ((r - x.2.1).natAbs ≤ span))).getLast?).or back.head? with
    | some (t1, r1, _) =>
      let s := dir * sgn scale
      let ve := (fdiv (s * (r - r1).natAbs * scale.natAbs) (2 ^ 8 * (t - t1))).natAbs
      s * ((if e = 0 then ve else min ve (scale.natAbs / (2 ^ 8 * e)) : Nat) : Int)
    | none => 0
  | [] => 0

/-- The span of EP_SPAN. -/
def spanOf (code : Nat) : Nat := if code = 0 then 1 else if code = 1 then 2 else 4

/-- The speed estimate of a valid boundary (R193–R196), with `hasEdges` for a source that has edge times. -/
def Device.speed (d : Device) (k w : Nat) (hasEdges : Bool) : Device :=
  let s := (d.fb k).src w
  let scale := d.srcScale k w
  let now := d.clk.now - d.clk.tick
  let tstill := d.rdN (AX_FB_TSTILL k)
  let prev := (s.hist.drop 1).findSome? id
  let r := s.r
  let dr := match prev with
    | some q => r - q
    | none => 0
  let reversal := decide (dr ≠ 0) && decide (s.dir ≠ 0) && decide (sgn dr ≠ s.dir)
  let changeAt := if dr ≠ 0 ∨ prev.isNone = true then now else s.changeAt
  let lastEdge := match s.edges with
    | (t, _) :: _ => t
    | [] => changeAt
  let e := now - (if hasEdges then lastEdge else changeAt)
  let still := if hasEdges then decide (tstill < e) else decide (tstill ≤ e) && decide (0 < e)
  let since := if still then 0 else if reversal then 1 else min 8 (s.since + 1)
  let kk := min (2 ^ d.fbCtl k (AX_FB_CTRL_CD_AVG k)) since
  let cd := if kk = 0 then some 0 else cdSpeed s.hist kk d.clk.len scale
  let hi := d.fbCtl k (AX_FB_CTRL_CO_HI k)
  let lo := min hi (d.fbCtl k (AX_FB_CTRL_CO_LO k))
  let ep := hasEdges && (still || (if hi ≤ dr.natAbs then false else if dr.natAbs ≤ lo then true else s.ep))
  let dir := if dr ≠ 0 then sgn dr else s.dir
  let cut := if still then (s.edges.head?).map (·.1) else s.cut
  let v := if still then 0
    else if ep then epSpeed s.edges s.cut (spanOf (d.fbCtl k (AX_FB_CTRL_EP_SPAN k))) e scale
    else cd.getD s.vel
  let d1 := d.setSrc k w fun s =>
    { s with vel := satS 32 v, since := since, dir := dir, changeAt := changeAt, cut := cut, ep := ep, still := still }
  if w = 0 then
    ((d1.livePut (AX_FB_STATUS_STILL k) (b2n still)).livePut (AX_FB_STATUS_SPEED_METHOD k) (b2n ep)).liveWr (AX_FB_VEL k)
      (ofS 32 (satS 32 v))
  else d1

/-! ### One source's beat -/

/-- The position of a source and its register. -/
def Device.srcSetPos (d : Device) (k w : Nat) (p : Int) : Device :=
  (d.setSrc k w fun s => { s with p := p }).liveWrS64 (if w = 0 then AX_FB_POS k else AX_FB_POS2 k) p

/-- Pushes R, or no sample, on a source's history; the beats of R193's window count on without a sample. -/
def Device.srcHist (d : Device) (k w : Nat) (x : Option Int) : Device :=
  d.setSrc k w fun s => { s with hist := (x :: s.hist).take 9, evaluated := true,
                                 since := if x.isNone then min 8 (s.since + 1) else s.since }

/-- The ledger kind of a miss (R197); 0 for none. -/
def missKind (cause : Nat) : Nat := if 1 ≤ cause ∧ cause ≤ 4 then cause else if cause = 5 then 4 else 0

/-- A missing sample (R197–R199). -/
def Device.srcMiss (d : Device) (k w cause : Nat) (r : Option Int) (inj : Option Nat := none) : Device :=
  let s := (d.fb k).src w
  let first := decide (s.miss = 0)
  let d1 := d.setSrc k w fun s => { s with miss := s.miss + 1, good := 0, froze := 0 }
  let d2 := if first then d1.raise (AX_FB_EVENT_MISS k) else d1
  let kind := missKind cause
  let d3 := match inj with
    | some dt => d2.msg 4 k kind dt true
    | none => if first ∧ kind ≠ 0 then d2.msg 4 k kind w else d2
  let d4 := if w = 0 then d3.livePut (AX_FB_STATUS_MISS_RUN k) (min 15 (s.miss + 1)) else d3
  -- R198: a quadrature or Hall port keeps counting; every other source is extrapolated
  let d5 := match r with
    | some r => ((d4.setSrc k w fun s => { s with r := r }).srcSetPos k w (d4.srcPos k w r)).srcShow k w s.valid false
    | none => (d4.srcSetPos k w (s.p + fdiv ((d4.fb k).pri.vel * d4.clk.len) (2 ^ 8))).srcShow k w s.valid true
  let d6 := d5.srcHist k w none
  if !s.lost && !s.absent && decide (max 1 (d.get (AX_FB_LOSS_MISS_LIMIT k)) ≤ s.miss + 1) then (d6.srcLost k w false).msg 4 k 5 w
  else d6

/-- A port in MODE 0, 6 or 7, or a chain that carries no frames: no sample and no miss (R561); P follows R173 as at every
boundary (R176). -/
def Device.srcAbsent (d : Device) (k w : Nat) : Device :=
  let d1 := (d.setSrc k w fun s => { s with absent := true, valid := false, good := 0 }).srcMute k w
  ((d1.srcSetPos k w (d1.srcPos k w ((d1.fb k).src w).r)).srcShow k w false false).srcHist k w none

/-- R174: R after a serial or chain word. -/
def FbSrc.take (s : FbSrc) (raw w : Nat) (abs sgnd : Bool) : Int :=
  match s.raw with
  | none => if abs then (if sgnd then toS w raw else ((raw % 2 ^ w : Nat) : Int)) else s.r
  | some old => s.r + toS w (raw + 2 ^ w - old % 2 ^ w)

/-- R200: R of an absolute source that recovers: the raw value plus the multiple of 2ʷ nearest to R before the loss. -/
def nearestR (raw : Int) (w : Nat) (before : Int) : Int :=
  let m : Nat := 2 ^ w
  raw + fdiv (before - raw + (m / 2 : Nat)) m * (m : Int)

/-- The committed set-point velocity of axis `k`, in 2⁻²⁴ count/tick. -/
def Device.spVel (d : Device) (k : Nat) : Int := fdiv (d.pl k).cur.v (2 ^ 72)

/-- A valid sample: R is set, the position and the speed follow, freeze is watched (R199) and a recovery counted (R200). -/
def Device.srcValid (d : Device) (k w : Nat) (r : Int) (moved hasEdges canFreeze : Bool) : Device :=
  let s := (d.fb k).src w
  let good := s.good + 1
  let down := s.lost || s.absent
  let d1 := (d.setSrc k w fun s => { s with r := r, miss := 0, good := good, valid := if down then false else true }).srcHist k w (some r)
  let d2 := if w = 0 then d1.livePut (AX_FB_STATUS_MISS_RUN k) 0 else d1
  let d3 := (d2.speed k w hasEdges).srcSetPos k w (d2.srcPos k w r)
  let d4 := d3.srcShow k w (!down) false
  let d5 := if down ∧ 16 ≤ good then (d4.srcRecover k w).srcShow k w true false else d4
  let vmin := d.rdN (AX_FB_FREEZE_VMIN k)
  let froz := canFreeze && decide (vmin ≠ 0) && decide (vmin ≤ (d.fb k).spv.natAbs) && !moved && !down
  let n := if froz then s.froze + 1 else 0
  let d6 := d5.setSrc k w fun s => { s with froze := n }
  if froz && decide (max 1 (d.get (AX_FB_LOSS_FREEZE_BEATS k)) ≤ n) then (d6.srcLost k w true).msg 4 k 6 w else d6

/-- The edges of a chain source after a word with an edge age (R190): the latest edge lies `age` ticks before tick 0.  Where
R moved, it is a new edge; where R stands and the edge is younger than the beat, edges that cancel came in it, and the
latest has no direction (DESIGN CHOICE, notes/assumptions/16); an older one is the edge known already, stamped anew. -/
def FbSrc.ageEdges (s : FbSrc) (t0 len age : Nat) (r : Int) : List (Nat × Int × Int) :=
  let at_ := t0 - age
  if s.edges.isEmpty || decide (r ≠ s.r) then
    ((at_, r, if s.raw.isNone then 0 else sgn (r - s.r)) :: s.edges).take 9
  else if 65535 ≤ age then s.edges
  else if age < len then ((at_, r, 0) :: s.edges).take 9
  else match s.edges with
    | (_, q, dir) :: es => (at_, q, dir) :: es
    | [] => []

/-- One source's beat from a serial or chain word. -/
def Device.srcWord (d : Device) (k w raw width : Nat) (abs sgnd : Bool) (age : Option Nat) : Device :=
  let s := (d.fb k).src w
  let down := s.lost || s.absent
  let rv : Int := if sgnd then toS width raw else ((raw % 2 ^ width : Nat) : Int)
  let r := if down && abs && decide (16 ≤ s.good + 1) && s.lost then nearestR rv width s.rLoss else s.take raw width abs sgnd
  let moved := s.raw != some (raw % 2 ^ width)
  let t0 := d.clk.now - d.clk.tick
  let edges := match age with
    | some a => s.ageEdges t0 (match d.clk.past with | (l, _) :: _ => l | [] => d.clk.len) a r
    | none => []
  let firstAbs := abs && s.raw.isNone
  let d1 := d.setSrc k w fun s => { s with raw := some (raw % 2 ^ width), edges := edges }
  let d2 := d1.srcValid k w r moved age.isSome true
  if firstAbs && !down then d2.livePut (AX_FB_STATUS_REF_VALID k) 1 else d2

/-- One source evaluated for this beat's boundary. -/
def Device.srcEval (d : Device) (k w : Nat) (x : SrcIn) : Device :=
  if ((d.fb k).src w).evaluated then d
  else
    -- injected misses, loss and freeze of this source (R371)
    let inj := [1, 2, 3, 4].find? (fun kind => d.injPending 4 k kind && d.rdN (INJ_DETAIL 4 k kind) % 2 == w)
    match inj.bind (fun kind => (d.injTake 4 k kind).map (fun r => (kind, r))) with
    | some (kind, dt, d1) => d1.srcMiss k w kind none (some dt)
    | none =>
      let d1 := match x with
        | .count r moved edges =>
          (d.setSrc k w fun s => { s with edges := edges.getD [] }).srcValid k w r moved edges.isSome edges.isSome
        | .word raw width abs sgnd age => d.srcWord k w raw width abs sgnd age
        | .miss cause r => d.srcMiss k w cause r
        | .absent => d.srcAbsent k w
      let lose := fun (d : Device) (kind : Nat) =>
        if d.injPending 4 k kind && d.rdN (INJ_DETAIL 4 k kind) % 2 == w then
          match d.injTake 4 k kind with
          | some (dt, d2) => (d2.srcLost k w (kind == 6)).msg 4 k kind dt true
          | none => d
        else d
      let d2 := lose (lose d1 5) 6
      if w = 1 ∧ d2.has (AX_FB_SRC_DUAL k) = true ∧ d2.fbCtl k (AX_FB_CTRL_DUAL_FALLBACK k) = 1 ∧ ((d2.fb k).src 1).lost = false then
        match d2.injTake 4 k 7 with
        | some (dt, d3) => d3.srcLost k 1 false (some dt)
        | none => d2
      else d2

/-! ### Reactions and checks of an axis -/

/-- R205: the loss of the measured master of a gear or cam convoy quick-stops and disengages every follower: of an axis that
rides, or of a direct port among the sources `ws` of axis `k` that were lost. -/
def Device.masterLost (d : Device) (k : Nat) (ws : List Nat) (rides : Bool) : Device :=
  (List.range 32).foldl (fun d c =>
    let mk := d.get (GL_CY_CTRL_MASTER_KIND c)
    let id := d.get (GL_CY_CTRL_MASTER_ID c)
    let hit := (mk == 1 && id == k && rides) || (mk == 2 && ws.any (fun w => d.srcKind k w == 2 && d.srcId k w % 16 == id % 16))
    if d.cyState c ≠ cyFREE ∧ d.get (GL_CY_CTRL_KIND c) ≠ 0 ∧ hit = true then
      (d.cyMembers c).foldl (fun d m => d.cyMemberStop m.2 2 true) d
    else d) d

/-- What a loss decided in this beat brings about (R201, R202, R205, R220): only the source that the position loop used
takes the milestones' pulses with it. -/
def Device.fbReact (d : Device) (k : Nat) : Device :=
  let u := d.fb k
  if u.lostNow.isEmpty then d
  else
    let d1 := d.setFb k fun u => { u with lostNow := [], rideDue := false }
    let d2 := (if u.lostNow.any (·.2) then (d1.msLost k).msSourceMoved k else d1).masterLost k (u.lostNow.map (·.1)) u.rideDue
    if u.rideDue then (d2.axRide k).axRefresh k else d2

/-- The dual-loop check (R192), at every boundary from the capture of d₀ on. -/
def Device.dualCheck (d : Device) (k : Nat) : Device :=
  let u := d.fb k
  match u.d0 with
  | some d0 =>
    if d.has (AX_FB_SRC_DUAL k) then
      let dev := (u.sec.p - u.pri.p - d0).natAbs
      let beyond := decide (d.rdN (AX_FB_DUAL_DEV k) < dev)
      let up := fun (d : Device) => d.raise (AX_FB_EVENT_DUAL_DEV k)
      let d1 := (if beyond then up d else d).detect 4 k 8 (beyond && !u.dualOver) (satU 32 dev) up
      d1.setFb k fun u => { u with dualOver := beyond }
    else d
  | none => d

/-- The observer's boundary step (R203). -/
def Device.observe (d : Device) (k : Nat) : Device :=
  let u := d.fb k
  if !u.obs then d
  else
    let T : Int := d.clk.len
    let a := satS 32 (fdiv (d.rdS (AX_FB_OBS_KA k) * (d.ax k).iref) (2 ^ d.get (AX_FB_OBS_SH_SH_OBS k)))
    let xp := fdiv (u.obsX * 2 ^ 33 + u.obsV * T * 2 ^ 25 + a * T ^ 2) (2 ^ 33)
    let vp := fdiv (u.obsV * 2 ^ 24 + a * T) (2 ^ 24)
    let s := u.src (d.posSrc k)
    let ok := match s.hist with
      | some _ :: _ => s.valid
      | _ => false
    if ok then
      let e := d.fbPos k - xp
      d.setFb k fun u => { u with obsX := xp + fdiv ((d.get (AX_FB_OBS_L1 k) : Int) * e) 65536,
                                  obsV := vp + fdiv ((d.get (AX_FB_OBS_L2 k) : Int) * e * 2 ^ 8) (65536 * d.clk.len) }
    else d.setFb k fun u => { u with obsX := xp, obsV := vp }

/-- The following-error check (R206). -/
def Device.followCheck (d : Device) (k : Nat) : Device :=
  if d.axState k ≠ axRUN then d
  else
    let u := d.fb k
    let dev := (d.rdS64 (AX_PL_SP_POS k) - d.fbPos k).natAbs
    let dt := satU 32 dev
    let warn := decide (d.rdN (AX_SD_DEV_WARN k) < dev)
    let beyond := decide (d.rdN (AX_SD_DEV_MAX k) < dev)
    let n := if beyond then u.devCnt + 1 else 0
    let lim := max 1 (d.get (AX_SD_CTRL_DEV_BEATS k))
    let d1 := d.setFb k fun u => { u with warned := warn, devCnt := min n (lim + 1) }
    let d2 := d1.detect 4 k 9 (warn && !u.warned) dt (fun d => (d.raise (AX_FB_EVENT_FOLLOW_WARN k)).note 21 k 0)
    d2.detect 4 k 10 (decide (n = lim) && beyond && decide (u.devCnt < lim)) dt
      (fun d => (d.raise (AX_FB_EVENT_FOLLOW_DEV k)).livePut (AX_FB_STATUS_STALL k) 1)

/-- The phase currents of this boundary for the load angle (R207): those the node reports, and free values where its layout
reports none. -/
def Device.phaseNow (d : Device) (k : Nat) : Device :=
  let one := fun (d : Device) (ph : Nat) (put : FbUnit → Int → FbUnit) =>
    if (d.currentWord k ph).isSome then d
    else let (x, d1) := d.fresh; d1.setFb k fun u => put u (toS 32 x.toNat)
  one (one d 0 fun u x => { u with iA := x }) 1 fun u x => { u with iB := x }

/-- The voltage of phase bridge `i` as an outbox applies it (R111, R207); open switches apply none. -/
def bridgeVolt (o : List Nat) (i : Nat) : Int :=
  let duty : Int := obWord o i % 2 ^ 20
  if obOff o || o.isEmpty then 0 else (duty - (2 ^ 20 - 1 - duty)) * 2 ^ 10

/-- δ of R207 from a back-EMF and a current vector, signed in 2⁻³² turn. -/
def loadDelta (eA eB iA iB σ : Int) : Int := toS 32 (ofS 32 (fdiv (atan2T eB eA - atan2T iB iA - σ * 2 ^ 62) (2 ^ 32)))

/-- The load angle of a two-phase stepper (R207), from the voltages applied at L of the beat before and the currents of this
boundary: δ and whether it is valid.  Without LA_EN there is none, and AX_SD_LA reads 0. -/
def Device.loadShow (d : Device) (k : Nat) : Device × Int × Bool :=
  if d.fbCtl k (AX_FB_CTRL_LA_EN k) = 0 then
    ((d.liveWr (AX_SD_LA k) 0).livePut (AX_FB_STATUS_LA_VALID k) 0, 0, false)
  else
    let d0 := d.phaseNow k
    let u := d0.fb k
    let out := (d0.ax k).applied
    let ex := fun (v i ip : Int) =>
      v - fdiv ((d0.rdN (AX_SD_LA_R k) : Int) * i) (2 ^ 24) - fdiv ((d0.rdN (AX_SD_LA_L k) : Int) * (i - ip)) (2 ^ 16)
    let eA := ex (bridgeVolt out 0) u.iA u.iAPrev
    let eB := ex (bridgeVolt out 1) u.iB u.iBPrev
    let σ := sgn (fdiv (d0.ffEntry k).v (2 ^ 72))
    let δ := loadDelta eA eB u.iA u.iB σ
    let emin := d0.rdN (AX_SD_LA_EMIN k)
    let valid := decide (σ ≠ 0) && decide (emin * emin ≤ (eA * eA + eB * eB).natAbs)
    let d1 := d0.setFb k fun u => { u with iAPrev := u.iA, iBPrev := u.iB }
    ((d1.liveWr (AX_SD_LA k) (ofS 32 δ)).livePut (AX_FB_STATUS_LA_VALID k) (b2n valid), δ, valid)

/-- The position that a stepper rides on (R204): X_ff less the load angle, or X_ff where none is valid. -/
def Device.rideEstimate (d : Device) (k : Nat) (δ : Int) (valid : Bool) : Int :=
  let xf := (d.ffEntry k).posOut
  let es := (d.lpRd (AX_LP_ESCALE k)).toNat
  if valid ∧ es ≠ 0 then xf - fdiv (δ * 2 ^ d.lpGet (AX_LP_SH3_SH_ESCALE k) * 2 ^ 16) es else xf

/-- A two-phase stepper's part of a boundary: the load angle, its stall check and the estimate that a ride would use
(R204, R207). -/
def Device.loadAngle (d : Device) (k : Nat) : Device :=
  if d.variant k ≠ 2 then d
  else
    let (d1, δ, valid) := d.loadShow k
    let u := d1.fb k
    let beyond := valid && decide (d1.rdN (AX_SD_LA_STALL k) < δ.natAbs)
    let n := if beyond then u.laCnt + 1 else 0
    let lim := max 1 (d1.get (AX_SD_CTRL_LA_BEATS k))
    let d2 := d1.setFb k fun u => { u with laCnt := min n (lim + 1), obsX := d1.rideEstimate k δ valid, obsV := u.pri.vel }
    d2.detect 4 k 11 (decide (n = lim) && beyond && decide (u.laCnt < lim)) (ofS 32 δ)
      (fun d => (d.raise (AX_FB_EVENT_LA_STALL k)).livePut (AX_FB_STATUS_STALL k) 1)

/-! ### Shifts and SETPOS (R58, R177) -/

/-- Both OFFSETs and measured positions of an axis moved; a source of kind 0 has no position. -/
def Device.srcMove (d : Device) (k : Nat) (off : Int) : Device :=
  [0, 1].foldl (fun (d : Device) w =>
    let d1 := d.wrS64 (srcOffset k w) (d.rdS64 (srcOffset k w) + off)
    if d.srcKind k w = 0 then d1 else d1.srcSetPos k w (((d.fb k).src w).p + off)) d

/-- A shift of an axis's positions that takes effect at this boundary (R58, R177, R221). -/
def Device.fbShift (d : Device) (k : Nat) (off : Int) : Device :=
  let d2 := (d.srcMove k off).setFb k fun u => { u with obsX := u.obsX + off, pv := u.pv.map (fun e => (e.1, e.2.1 + off, e.2.2)) }
  (d2.vecShift k (fdiv off (2 ^ 16))).msShift k off

/-- A planner's whole profile moved, for a SETPOS whose offset is fixed at its boundary (R177). -/
def Device.plMove (d : Device) (k : Nat) (off : Int) : Device :=
  let m := fun (s : Kin) => { s with p3 := s.p3 + posIn off }
  (d.setPl k fun p =>
    let prof : Profile := { segs := p.prof.segs.map (fun g => { g with s := m g.s }), fin := m p.prof.fin }
    { p with prof := prof, cur := m p.cur, next := m p.next, target := p.target + posIn off }).plShow k

/-- A SETPOS that takes effect (R177): in OFF, the source that gives the position is set to it; otherwise the axis is shifted
by the whole counts between. -/
def Device.setposNow (d : Device) (k : Nat) (x : Nat × Bool × Int) : Device :=
  let d1 := if x.2.1 then
      let off := fdiv (x.2.2 - d.fbPos k) (2 ^ 16) * 2 ^ 16
      (d.fbShift k off).plMove k off
    else d.srcMove k (x.2.2 - ((d.fb k).src (if d.has (AX_FB_SRC_DUAL k) then 1 else 0)).p)
  (d1.livePut (AX_FB_STATUS_REF_VALID k) 1).livePut (AX_FB_STATUS_REF_DOUBT k) 0

/-- The SETPOS commands due at this boundary (R177), once its sample of the position is evaluated. -/
def Device.setposDue (d : Device) (k : Nat) : Device :=
  let u := d.fb k
  let due := u.setposs.filter (fun x => decide (x.1 ≤ d.clk.beat))
  if due.isEmpty || !(u.src (if d.has (AX_FB_SRC_DUAL k) then 1 else 0)).evaluated then d
  else due.foldl (fun (d : Device) x => d.setposNow k x)
    (d.setFb k fun u => { u with setposs := u.setposs.filter (fun x => decide (d.clk.beat < x.1)) })

/-- The shifts due at this boundary: a SHIFT of the planner, and a SETPOS on a source sampled at tick 0 (R58, R177). -/
def Device.shiftDue (d : Device) (k : Nat) : Device :=
  let due := (d.pl k).shifts.filter (fun x => decide (x.1 ≤ d.clk.beat))
  let d1 := if due.isEmpty then d else (due.foldl (fun (d : Device) x => d.fbShift k x.2) d).setPl k fun p =>
    { p with shifts := p.shifts.filter (fun x => decide (d.clk.beat < x.1)) }
  d1.setposDue k

/-! ### The axis once its sources are evaluated -/

/-- The set-points of an axis as a sample decides them after the boundary: a SETPOS that waited for it, and in OFF the measured
position, which the planner commits (R56, R177). -/
def Device.fbCommit (d : Device) (k : Nat) : Device :=
  let d1 := d.setposDue k
  let d2 := if d1.plState k = plOFF then d1.plCommit k (d1.fbPos k) else d1
  if (d.fb k).setposs.length = (d1.fb k).setposs.length then d2 else d2.axRefresh k

/-- The pair correction of the axes of a gantry pair as this beat's loops take it (R90). -/
def Device.corrShow (d : Device) (k : Nat) : Device :=
  (d.pairOf k).foldl (fun (d : Device) a =>
    let c := d.gpCorr a
    d.setAx a fun s => { s with inNow := { s.inNow with corr := c },
                                inWin := if s.inWin.beat = d.clk.beat then { s.inWin with corr := c } else s.inWin }) d

/-- Did the latest boundary bring a sample of a source? -/
def FbSrc.sampled (s : FbSrc) : Bool :=
  match s.hist with
  | some _ :: _ => true
  | _ => false

/-- The checks of an axis once every source it names is evaluated, at most once a beat; then its pair, the milestones and
the followers that wait for its sample go on. -/
def Device.fbFinish (d : Device) (k : Nat) : Device :=
  let u := d.fb k
  if u.done || !u.pri.evaluated || !u.sec.evaluated then d.fbReact k
  else
    let d1 := (d.setFb k fun u => { u with done := true }).fbCommit k
    let u1 := d1.fb k
    let ok := (u1.src (d1.posSrc k)).sampled
    -- the difference of R201 at the latest valid secondary sample
    let d2 := d1.setFb k fun u =>
      { u with fbDiff := if u1.sec.sampled && u1.sec.valid && !u.fallback then u.sec.p - u.pri.p else u.fbDiff,
               pv := ((d1.clk.beat, d1.fbPos k, u.pri.vel, !ok) :: u.pv).take 4 }
    let d3 := ((d2.dualCheck k).observe k).loadAngle k
    let d4 := (((d3.followCheck k).gpMeasured k).corrShow k).fbReact k
    (if ok then d4.msSamples k else d4).cyCatchUp

/-! ### The boundary -/

/-- The edges of a direct port with R after each and their direction, newest first. -/
def portEdges : List (Nat × Int) → Int → List (Nat × Int × Int)
  | [], _ => []
  | (t, dir) :: es, r => (t, r, dir) :: portEdges es (r - dir)

/-- What a source that is sampled at tick 0 gives (R175); none for a serial port or a chain channel, which bring their words
later in the beat.  A channel of a chain without a frame in this beat brings none. -/
def Device.tick0 (d : Device) (k w : Nat) : Option SrcIn :=
  let id := d.srcId k w % 16
  match d.srcKind k w with
  | 1 => if (d.chain (idChain (d.srcId k w))).inFrame then none else some .absent
  | 2 =>
    let p := d.port id
    let mode := d.portMode id
    if mode = 1 ∨ mode = 2 then
      if p.illegal then some (.miss 3 (some p.cap))
      else some (.count p.cap p.moved (some ((portEdges p.edges p.r).take 9)))
    else if mode = 0 ∨ mode = 6 ∨ mode = 7 then some .absent
    else none
  | 3 => some (.count (d.rdS64 (ST_COUNT id)) true none)
  | _ => none

/-- A source that a beat left without a delivery has a silent miss; the axis's checks follow. -/
def Device.fbLeftover (d : Device) (k : Nat) : Device :=
  let one := fun (d : Device) (w : Nat) =>
    if ((d.fb k).src w).evaluated then d
    else if d.srcKind k w = 1 ∨ d.srcKind k w = 2 then d.srcEval k w (.miss 8 none)
    else d.setSrc k w fun s => { s with evaluated := true }
  if (d.fb k).done then d else (one (one d 0) 1).fbFinish k

/-- The first part of an axis's boundary: the sources sampled at tick 0. -/
def Device.fbTick0 (d : Device) (k : Nat) : Device :=
  let sp := if d.plState k = plOFF then 0 else fdiv (d.pl k).next.v (2 ^ 72)
  let d1 := d.setFb k fun u =>
    { u with ctrl := d.rdN (AX_FB_CTRL k), done := false, spv := sp, pri := { u.pri with evaluated := false },
             sec := { u.sec with evaluated := false } }
  [0, 1].foldl (fun d w =>
    if d.srcKind k w = 0 then d.setSrc k w fun s => { s with evaluated := true }
    else match d.tick0 k w with
      | some x => d.srcEval k w x
      | none => d) d1

/-- The second part, after the planners' commits: set-point sources (R172) and the checks of axes that are complete. -/
def Device.fbSetpoint (d : Device) (k : Nat) : Device :=
  let d1 := [0, 1].foldl (fun d w =>
    if d.srcKind k w = 4 then
      let p := d.rdS64 (AX_PL_SP_POS k)
      let v := d.spVel k
      let d1 := ((d.setSrc k w fun s => { s with valid := true, evaluated := true, vel := satS 32 v, hist := [some 0] }).srcSetPos k w p).srcShow
        k w true false
      if w = 0 then d1.liveWr (AX_FB_VEL k) (ofS 32 (satS 32 v)) else d1
    else d) d
  d1.fbFinish k

/-! ### Commands -/

/-- A source that AX_FB_SRC_WRITE changed starts anew: it is not valid before it is evaluated, and d₀ is to be captured
again; a source of kind 0 has the position 0. -/
def Device.srcFresh (d : Device) (k w : Nat) : Device :=
  let d1 := (d.setSrc k w fun s => { ({} : FbSrc) with p := s.p, evaluated := s.evaluated }).setFb k fun u => { u with d0 := none }
  let d2 := if d.srcKind k w = 0 then d1.srcSetPos k w 0 else d1
  let d3 := (d2.srcShow k w false false).lostShow k
  if w = 0 then
    (((d3.livePut (AX_FB_STATUS_STILL k) 0).livePut (AX_FB_STATUS_SPEED_METHOD k) 0).livePut (AX_FB_STATUS_MISS_RUN k) 0).liveWr
      (AX_FB_VEL k) 0
  else d3

/-- AX_FB_SRC_WRITE (R172). -/
def Device.fbSrcWrite (d : Device) (k v : Nat) : Device :=
  if d.axState k ≠ axOFF ∨ 5 ≤ bits v 12 3 ∨ 5 ≤ bits v 28 3 then d.raise (AX_FB_EVENT_REFUSED k)
  else
    let old := d.rdN (AX_FB_SRC k)
    let new := andN v 0xF3FF73FF
    let d1 := d.wrN (AX_FB_SRC k) new
    let d2 := if bits old 0 16 = bits new 0 16 then d1 else d1.srcFresh k 0
    if bits old 16 15 = bits new 16 15 then d2 else d2.srcFresh k 1

/-- SETPOS (R177). -/
def Device.setpos (d : Device) (k : Nat) : Device :=
  let to_ := d.rdS64 (AX_FB_SETPOS k)
  let st := d.plState k
  let wait := fun (n : Nat) (shift : Bool) => d.setFb k fun u => { u with setposs := u.setposs ++ [(d.clk.beat + n, shift, to_)] }
  if d.axState k = axOFF then wait 1 false
  else if st = plIDLE ∨ st = plHELD then (wait 2 true).plSquash k
  else d.raise (AX_FB_EVENT_REFUSED k)

/-- FEEDBACK_COMPLETE (R19): is every feedback of an axis complete in this beat?  A chain that sends no frame in the beat has
nothing to bring: the binding channel counts as complete at once, and so does a source on it, which is decided at tick 0
(DESIGN CHOICE, notes/assumptions/16). -/
def Device.fbComplete (d : Device) (k : Nat) : Bool :=
  let u := d.fb k
  let slot := match d.axisChannel k with
    | some id =>
      let c := d.chain (idChain id)
      !c.inFrame || bit c.seen (idNode id)
    | none => true
  u.pri.evaluated && u.sec.evaluated && slot

end Sys2Proof.Machine
end

