-- ==== Sys2Proof/Machine/Ports.lean ====
section
/-! DEFINITION. Direct feedback ports (R178–R189): quadrature and Hall edges, SSI, BiSS-C and frame-format transfers,
port settings, pass-through and quadrature emulation. -/

namespace Sys2Proof.Machine

/-- The axes and sources that a port feeds. -/
def Device.portUsers (d : Device) (p : Nat) : List (Nat × Nat) :=
  (List.range 192).flatMap (fun k =>
    [0, 1].filterMap (fun w => if d.srcKind k w = 2 ∧ d.srcId k w % 16 = p then some (k, w) else none))

/-- A port's sample or miss reaches every axis that uses it, and the convoys that follow the port. -/
def Device.portDeliver (d : Device) (p : Nat) (x : SrcIn) : Device :=
  ((d.portUsers p).foldl (fun d u => (d.srcEval u.1 u.2 x).fbFinish u.1) d).cyCatchUp

/-! ### Pin levels and pass-through (R188) -/

/-- The levels on the pins L0 to L2 of a port: those it drives in MODE 6 and 7, those that reach it otherwise. -/
def Device.pinLevels (d : Device) (p : Nat) : Nat :=
  if 6 ≤ d.portMode p then (d.port p).lines % 8 else (d.port p).pins

/-- Every port in MODE 6 takes the levels of its source once; `n` times for ports that copy each other. -/
def Device.passCopy (d : Device) : Nat → Device
  | 0 => d
  | n + 1 => Device.passCopy ((List.range 16).foldl (fun (d : Device) j =>
      let s := d.port j
      let src := bits s.ctrl.toNat 16 4
      if bits s.ctrl.toNat 0 3 = 6 ∧ src ≠ j ∧ s.lines ≠ d.pinLevels src then
        d.setPort j fun s => { s with lines := d.pinLevels src }
      else d) d) n

/-- The ports in MODE 6 after a change of a pin: before the filter, whatever the mode of the source. -/
def Device.passAll (d : Device) : Device :=
  if (List.range 16).any (fun j => d.portMode j == 6) then d.passCopy 16 else d

/-- The levels on the input pins of a port change where `mask` has a bit. -/
def Device.pinsSet (d : Device) (p mask levels : Nat) : Device :=
  (d.setPort p fun s => { s with pins := andN s.pins (7 - mask) + andN levels mask }).passAll

/-- BUSY of a port. -/
def Device.portBusy (d : Device) (p : Nat) (b : Bool) : Device :=
  (d.setPort p fun s => { s with busy := b }).put (FB_STATUS_BUSY p) (b2n b)

/-- A serial transfer that failed: 1 CRC, 2 TIMEOUT, 4 ENC_ERR, 5 LIFE, 7 aborted (R197). -/
def Device.portMiss (d : Device) (p cause : Nat) : Device :=
  let d1 := (d.portBusy p false).put (FB_STATUS_LAST_OK p) 0
  let d2 := match cause with
    | 1 => (d1.raise (FB_EVENT_CRC p)).incSat (FB_ERRCNT_CRC p)
    | 2 => (d1.raise (FB_EVENT_TIMEOUT p)).incSat (FB_ERRCNT_TMO p)
    | 4 => (d1.raise (FB_EVENT_ENC_ERR p)).incSat (FB_ERRCNT_ENC p)
    | 5 => d1.raise (FB_EVENT_LIFE p)
    | _ => d1.raise (FB_EVENT_ABORTED p)
  d2.portDeliver p (.miss cause none)

/-- A serial transfer that gave a position (R174, R175): the port's own extended count follows as an absolute source's. -/
def Device.portSample (d : Device) (p raw width : Nat) (sgnd : Bool) : Device :=
  let s := d.port p
  let r : Int := match s.raw with
    | none => if sgnd then toS width raw else ((raw % 2 ^ width : Nat) : Int)
    | some old => s.r + toS width (raw + 2 ^ width - old % 2 ^ width)
  let d1 := ((d.portBusy p false).setPort p fun s => { s with raw := some (raw % 2 ^ width), r := r }).put (FB_STATUS_LAST_OK p) 1
  (d1.wrS64 (FB_RAW p) r).portDeliver p (.word raw width true sgnd none)

/-! ### Quadrature and Hall (R180–R182) -/

/-- A counted edge of a port, in direction `dir`, stamped FILT ticks back (R180). -/
def Device.portEdge (d : Device) (p : Nat) (dir : Int) : Device :=
  let filt := bits (d.port p).ctrl.toNat 12 4
  let at_ := d.clk.now - filt
  let d1 := d.setPort p fun s =>
    { s with r := s.r + dir, edges := keepEdges d.clk.now ((at_, dir) :: s.edges), lastEdge := at_, moved := true }
  ((d1.wr64 (FB_EDGE p) (d.stampAgo filt)).put (FB_STATUS_DIR p) (b2n (decide (dir < 0)))).msEdge

/-- An illegal transition (R180, R182): R stays, ILLEGAL and REF_DOUBT are set, and the beat has no sample (R197). -/
def Device.portIllegal (d : Device) (p : Nat) : Device :=
  let d1 := ((d.setPort p fun s => { s with illegal := true }).raise (FB_EVENT_ILLEGAL p)).incSat (FB_ERRCNT_ILL p)
  (d1.portUsers p).foldl (fun d u => d.livePut (AX_FB_STATUS_REF_DOUBT u.1) 1) d1

/-- The direction of a step of (A, B), A leading B forward (R180); 0 for none, and none for a change of both. -/
def quadStep (old new : Nat) : Option Int :=
  let a := bit new 0
  let b := bit new 1
  let ca := a != bit old 0
  let cb := b != bit old 1
  if ca && cb then none
  else if ca then some (if a != b then 1 else -1)
  else if cb then some (if a == b then 1 else -1)
  else some 0

/-- QUAD_EDGE: the accepted levels of A and B change. -/
def Device.quadEdge (d : Device) (p new : Nat) : Device :=
  if d.portMode p ≠ 1 then d
  else
    let old := (d.port p).lines
    let d1 := (d.setPort p fun s => { s with lines := new }).pinsSet p 3 new
    match quadStep old new with
    | none => d1.portIllegal p
    | some 0 => d1
    | some x => d1.portEdge p x

/-- The place of a Hall state (U in bit 2, V in bit 1, W in bit 0) in the forward sequence of R182. -/
def hallPlace (uvw : Nat) : Option Nat :=
  match uvw with
  | 4 => some 0
  | 6 => some 1
  | 2 => some 2
  | 3 => some 3
  | 1 => some 4
  | 5 => some 5
  | _ => none

/-- The levels of L0 to L2 of a Hall state: U, V and W (R178). -/
def hallPins (uvw : Nat) : Nat := b2n (bit uvw 2) + 2 * b2n (bit uvw 1) + 4 * b2n (bit uvw 0)

/-- HALL_EDGE: the accepted Hall state changes (R182).  From an illegal state R goes on from the next valid one. -/
def Device.hallEdge (d : Device) (p new : Nat) : Device :=
  if d.portMode p ≠ 2 then d
  else
    let old := (d.port p).lines
    let d1 := (d.setPort p fun s => { s with lines := new }).pinsSet p 7 (hallPins new)
    let rev := bit (d.port p).ctrl.toNat 11
    match hallPlace old, hallPlace new with
    | _, none => if old = new then d1 else d1.portIllegal p
    | none, some _ => d1
    | some a, some b =>
      let x := (b + 6 - a) % 6
      if x = 0 then d1
      else if x = 1 then d1.portEdge p (if rev then -1 else 1)
      else if x = 5 then d1.portEdge p (if rev then 1 else -1)
      else d1.portIllegal p

/-- Z_EDGE (R181): with ZMODE 1 a rising edge captures R; the latch units that watch this Z line take either edge. -/
def Device.zEdge (d : Device) (p : Nat) (rising : Bool) : Device :=
  let c := (d.port p).ctrl.toNat
  if d.portMode p ≠ 1 then d
  else
    let d1 := (d.setPort p fun s => { s with z := rising }).pinsSet p 4 (4 * b2n rising)
    if !bit c 10 then d1
    else
      let d2 := if rising then ((d1.wrS64 (FB_Z p) (d.port p).r).raise (FB_EVENT_Z_SEEN p)).note 20 p (d.port p).r else d1
      d2.ltSource 4 p (!rising) 0

/-! ### SSI and BiSS-C (R183, R184) -/

/-- Gray code to binary, over `w` bits. -/
def unGray : Nat → Nat → Nat
  | 0, n => n
  | w + 1, n => n ^^^ unGray w (n / 2)

/-- The timeout of a serial port's frame, in ticks from tick 0 (R187). -/
def Device.portTimeout (d : Device) (p : Nat) : Nat := serialTimeout (d.portMode p) (d.rdN (FB_TIMING p)) (d.port p).table

/-- Is a frame that ends now late: not complete at its timeout (R186, R187)? -/
def Device.frameLate (d : Device) (p : Nat) : Bool := decide (d.portTimeout p < d.clk.tick)

/-- SSI_TRANSFER_DONE: the bits received, first received in the most significant place of LEAD + BITS + TRAIL bits. -/
def Device.ssiDone (d : Device) (p w : Nat) : Device :=
  let s := (d.port p).ser.toNat
  if d.portMode p ≠ 3 ∨ (d.port p).busy = false then d
  else if d.frameLate p then d.portMiss p 2
  else
    let trail := bits s 25 3
    let n := bits s 16 6
    let pos := bits w trail n
    let par := bits s 14 2
    let odd := parity n pos != bit w 0
    let ok := par == 0 || trail == 0 || (odd == (par == 2))
    if ok then d.portSample p (if bit s 12 then unGray n pos else pos) n (bit s 28) else d.portMiss p 1

/-- The bits of a number from the most significant of `w` down. -/
def msbBits (w n : Nat) : List Bool := (List.range w).reverse.map (fun i => bit n i)

/-- The ticks that ACK_MAX allows the acknowledge of a BiSS-C slave, from the second MA rising edge on (R184; DESIGN CHOICE,
notes/assumptions/19). -/
def Device.ackTicks (d : Device) (p : Nat) : Nat :=
  bits (d.rdN (FB_TIMING p)) 8 8 * (2 * (bits (d.port p).ser.toNat 0 9 + 1))

/-- BISS_TRANSFER_DONE: position, nE, nW and the inverted CRC, first received most significant, and the measured line
delay (R184). -/
def Device.bissDone (d : Device) (p w dly : Nat) : Device :=
  let s := (d.port p).ser.toNat
  if d.portMode p ≠ 4 ∨ (d.port p).busy = false then d
  else if d.frameLate p || decide (d.ackTicks p < dly) then d.portMiss p 2
  else
    let n := bits s 16 6
    let crc := bits w 0 6
    let body := bits w 6 (n + 2)
    let d1 := d.put (FB_STATUS_MEAS_DLY p) dly
    if crcBits 6 3 0 (msbBits (n + 2) body) ≠ 63 - crc then d1.portMiss p 1
    else
      let d2 := if bit body 0 then d1 else d1.raise (FB_EVENT_ENC_WARN p)
      if !bit body 1 then d2.portMiss p 4 else
        let pos := bits body 2 n
        d2.portSample p pos n (bit s 28)

/-! ### Frame-format tables (R185–R187) -/

/-- FIELD[i] of a frame-format table. -/
structure FrameField where
  start : Nat
  len : Nat
  msb : Bool
  gray : Bool
  kind : Nat
  value : Nat
  deriving DecidableEq, Repr

/-- FIELDS of a frame-format table, 1 to 16 in four bits: 0 stands for 16 (R185; DESIGN CHOICE, notes/assumptions/19). -/
def fieldCount (t : List (BitVec 8)) : Nat := if bits (leAt t 0 4) 8 4 = 0 then 16 else bits (leAt t 0 4) 8 4

/-- The fields of a frame-format table (R185). -/
def frameFields (t : List (BitVec 8)) : List FrameField :=
  (List.range (fieldCount t)).map (fun i =>
    let w := leAt t (0x20 + 4 * i) 4
    { start := bits w 0 8, len := bits w 8 6, msb := bit w 14, gray := bit w 15, kind := bits w 16 4, value := bits w 24 8 })

/-- The value of a field of a response whose bit `i` is the `i`-th received. -/
def FrameField.read (f : FrameField) (resp : Nat) : Nat :=
  let raw := if f.msb then (List.range f.len).foldl (fun a i => 2 * a + b2n (bit resp (f.start + i))) 0
    else bits resp f.start f.len
  if f.gray then unGray f.len raw else raw

/-- The reversal of the low `w` bits. -/
def revBits (w n : Nat) : Nat := (List.range w).foldl (fun a i => 2 * a + b2n (bit n i)) 0

/-- The first field of a kind. -/
def fieldOf (fs : List FrameField) (kind : Nat) : Option FrameField := fs.find? (fun f => f.kind == kind)

/-- The CRC check of a response (R186); a table without a CRC field has none. -/
def frameCrcOk (t : List (BitVec 8)) (resp : Nat) : Bool :=
  let fs := frameFields t
  match fieldOf fs 7 with
  | none => true
  | some f =>
    let c := leAt t 0x10 4
    let w := bits c 16 4 + 1
    let from_ := bits (leAt t 0 4) 16 8
    let covered := (List.range (f.start - from_)).map (fun i => bit resp (from_ + i))
    let rem := crcBits w (bits c 0 16 % 2 ^ w) (leAt t 0x14 2 % 2 ^ w) covered
    let rem1 := if bit c 21 then revBits w rem else rem
    let got := f.read resp
    rem1 == (if bit c 20 then 2 ^ w - 1 - got else got)

/-- The width of the position of a frame-format table, and the position of a response. -/
def framePos (t : List (BitVec 8)) (resp : Nat) : Nat × Nat :=
  let fs := frameFields t
  let lo := fieldOf fs 1
  let hi := fieldOf fs 2
  let ln := (lo.map (·.len)).getD 0
  let hn := (hi.map (·.len)).getD 0
  (ln + hn, (lo.map (·.read resp)).getD 0 + 2 ^ ln * (hi.map (·.read resp)).getD 0)

/-- FRAME_FORMAT_DONE: the response bits, bit 0 the first received (R186). -/
def Device.frameDone (d : Device) (p resp : Nat) : Device :=
  let s := d.port p
  if d.portMode p ≠ 5 ∨ s.busy = false then d
  else if d.frameLate p then d.portMiss p 2
  else
    let t := s.table
    let fs := frameFields t
    let constOk := fs.all (fun f => f.kind != 8 || f.read resp == f.value)
    if !(frameCrcOk t resp && constOk) then d.portMiss p 1
    else
      let life := (fieldOf fs 9).map (·.read resp)
      let d1 := d.setPort p fun s => { s with life := life }
      let warn := fs.any (fun f => (f.kind == 5 && f.read resp != 0) || (f.kind == 6 && f.read resp != 2 ^ f.len - 1))
      let err := fs.any (fun f => (f.kind == 3 && f.read resp != 0) || (f.kind == 4 && f.read resp != 2 ^ f.len - 1))
      let d2 := if warn then d1.raise (FB_EVENT_ENC_WARN p) else d1
      if err then d2.portMiss p 4
      else if life.isSome && life == s.life then d2.portMiss p 5
      else
        let (w, pos) := framePos t resp
        d2.portSample p pos w (bit (leAt t 0 4) 4)

/-- The least time a frame of a table takes, in ticks (R183, R186, R187). -/
def frameTime (t : List (BitVec 8)) : Nat :=
  let mode := leAt t 0 4 % 4
  let rate := leAt t 4 4 % 1024
  let total := leAt t 0x18 4 % 256
  if mode = 0 then (total + 1) * rate + bits (leAt t 8 4) 8 8
  else
    let req := bits (leAt t 8 4) 0 6
    let resp := if bit (leAt t 0 4) 2 then total + 2 * cdiv total 8 else total + 1
    1 + (req + 2 + resp) * rate

/-- The least time a frame takes in a port mode (R187). -/
def serialTime (mode ser timing : Nat) (t : List (BitVec 8)) : Nat :=
  let period := 2 * (bits ser 0 9 + 1)
  if mode = 3 then (bits ser 22 3 + bits ser 16 6 + bits ser 25 3 + 1) * period + timing % 256
  else if mode = 4 then (bits ser 16 6 + 12) * period
  else if mode = 5 then frameTime t
  else 0

/-- R187: does a frame complete by its timeout, and is the timeout below D? -/
def Device.serialOk (d : Device) (ctrl ser timing : Nat) (t : List (BitVec 8)) : Bool :=
  let mode := bits ctrl 0 3
  if 3 ≤ mode ∧ mode ≤ 5 then
    let tmo := serialTimeout mode timing t
    (mode != 5 || !t.isEmpty) && decide (serialTime mode ser timing t ≤ tmo) && decide (tmo < d.clk.deadline)
  else true

/-- The static checks of a frame-format table (R185). -/
def frameTableValid (t : List (BitVec 8)) : Bool :=
  let c := leAt t 0 4
  let rate := leAt t 4 4
  let tim := leAt t 8 4
  let crc := leAt t 0x10 4
  let total := leAt t 0x18 4 % 256
  let n := fieldCount t
  let fs := frameFields t
  let cnt := fun kind => (fs.filter (fun f => f.kind == kind)).length
  let lens : Nat := ((fs.filter (fun f => f.kind == 1 || f.kind == 2)).map (·.len)).sum
  decide (0x20 + 4 * n ≤ t.length) && decide (c % 4 ≠ 3) && decide (bits c 5 3 = 0) && decide (bits c 12 4 = 0)
    && decide (bits c 24 8 = 0) && decide (rate ≤ 1000) && decide ((if c % 4 = 0 then 20 else 10) ≤ rate)
    && decide (tim % 256 ≤ 32) && decide (bits crc 22 10 = 0)
    && decide (8 ≤ total) && decide (total ≤ 192) && decide (leAt t 0x1C 4 = 0)
    && fs.all (fun f => decide (1 ≤ f.len) && decide (f.len ≤ 48) && decide (f.start + f.len ≤ total) && decide (f.kind < 10)
      && (f.kind != 7 || f.len == bits crc 16 4 + 1) && (f.kind != 8 || decide (f.len ≤ 8)))
    && (List.range n).all (fun i => decide (bits (leAt t (0x20 + 4 * i) 4) 20 4 = 0))
    && decide (cnt 1 = 1) && decide (cnt 2 ≤ 1) && decide (cnt 7 ≤ 1) && decide (cnt 9 ≤ 1) && decide (lens ≤ 48)

/-- The commit check of frame-format table `i` (0 to 15), with the ports that select it (R185, R187). -/
def Device.frameTableOk (d : Device) (i : Nat) (t : List (BitVec 8)) : Bool :=
  frameTableValid t &&
    (List.range 16).all (fun p =>
      let c := d.rdN (FB_CTRL p)
      bits c 0 3 != 5 || bits c 20 4 != i || d.serialOk c (d.rdN (FB_SER p)) (d.rdN (FB_TIMING p)) t)

/-- Can a transfer fail for want of an idle line, at tick 0: SSI and BiSS-C, and a frame-format table with IDLE_CHECK (R183,
R184, R185)? -/
def Device.idleChecked (d : Device) (p : Nat) : Bool := d.portMode p != 5 || bit (leAt (d.port p).table 0 4) 3

/-- SERIAL_TIMEOUT: the frame is not complete at its timeout, a BiSS-C acknowledge has not begun in its time, or the line was
not idle at tick 0 (R183, R184, R186).  At any other tick none of these can be. -/
def Device.serialTimedOut (d : Device) (p : Nat) : Device :=
  let m := d.portMode p
  -- the second MA rising edge comes one and a half periods after tick 1
  let ack := decide (m = 4) && decide (3 * (bits (d.port p).ser.toNat 0 9 + 1) + 1 + d.ackTicks p < d.clk.tick)
  let now := decide (d.portTimeout p ≤ d.clk.tick) || ack || (decide (d.clk.tick = 0) && d.idleChecked p)
  if 3 ≤ m ∧ m ≤ 5 ∧ (d.port p).busy = true ∧ now = true then d.portMiss p 2 else d

/-! ### Settings (R179, R187) -/

/-- R179: is a port the source of an axis that is not OFF, or the master of an engaged convoy? -/
def Device.portInUse (d : Device) (p : Nat) : Bool :=
  (d.portUsers p).any (fun u => d.axState u.1 != axOFF) ||
    (List.range 32).any (fun c =>
      d.get (GL_CY_CTRL_MASTER_KIND c) == 2 && d.get (GL_CY_CTRL_MASTER_ID c) % 16 == p && d.get (GL_CY_CTRL_KIND c) != 0 &&
        (d.convoys.pick {} c).slots.any (fun s => s.2.mode != 0))

/-- A setting that is accepted: a transfer in progress is aborted; the register applies from the next boundary. -/
def Device.portSet (d : Device) (p a v : Nat) : Device :=
  let d1 := d.wrN a v
  if (d.port p).busy then d1.portMiss p 7 else d1

/-- A setting that is refused. -/
def Device.portRefuse (d : Device) (p : Nat) : Device := d.raise (FB_EVENT_REFUSED p)

/-- FB_CTRL_WRITE. -/
def Device.fbCtrlWrite (d : Device) (p v : Nat) : Device :=
  let t := d.tblWork (0xC0 + bits v 20 4)
  if d.portInUse p ∨ (bits v 0 3 = 6 ∧ bits v 16 4 = p) ∨ d.serialOk v (d.rdN (FB_SER p)) (d.rdN (FB_TIMING p)) t = false then
    d.portRefuse p
  else d.portSet p (FB_CTRL p) (andN v 0x00FFFC07)

/-- FB_SER_WRITE. -/
def Device.fbSerWrite (d : Device) (p v : Nat) : Device :=
  let c := d.rdN (FB_CTRL p)
  let n := bits v 16 6
  let div := bits v 0 9
  if d.portInUse p ∨ n < 8 ∨ 48 < n ∨ bits v 14 2 = 3 ∨ div < 4 ∨ 499 < div ∨
      d.serialOk c v (d.rdN (FB_TIMING p)) (d.tblWork (0xC0 + bits c 20 4)) = false then d.portRefuse p
  else d.portSet p (FB_SER p) (andN v 0x1FFFD1FF)

/-- FB_TIMING_WRITE. -/
def Device.fbTimingWrite (d : Device) (p v : Nat) : Device :=
  let c := d.rdN (FB_CTRL p)
  if d.portInUse p ∨ d.serialOk c (d.rdN (FB_SER p)) v (d.tblWork (0xC0 + bits c 20 4)) = false then d.portRefuse p
  else d.portSet p (FB_TIMING p) v

/-! ### Pass-through and emulation (R188, R189) -/

/-- PASS_THROUGH_EDGE: the levels on the pins L0 to L2 of port `p` change, and reach every port in MODE 6 that copies it.  A
port that drives its lines itself is not driven from outside. -/
def Device.passEdge (d : Device) (p levels : Nat) : Device := d.pinsSet p 7 levels

/-- The edge count that the emulation of port `p` aims at (R189). -/
def Device.emuCount (d : Device) (p : Nat) : Int :=
  fdiv ((d.fb (d.get (FB_EMU_EMU_AXIS p))).pri.p * (d.rdN (FB_EMU_SCALE p) : Int)) (2 ^ 32)

/-- The levels of A, B and Z for an emulated count: A leads B forward; Z is high at the multiples of EMU_ZPER. -/
def emuLines (e : Int) (zper : Nat) : Nat :=
  let q := (e % 4).toNat
  b2n (q == 1 || q == 2) + 2 * b2n (q == 2 || q == 3) + 4 * b2n (zper != 0 && e % (zper : Int) == 0)

/-- EMU_EDGE: the next emulated edge, at the earliest at its place in the beat and MINSP after the previous one. -/
def Device.emuEdge (d : Device) (p : Nat) : Device :=
  let s := d.port p
  let n := (s.emuTarget - s.emuNext).natAbs
  let i := (s.emuE - s.emuNext).natAbs
  let due := i * d.clk.len / max 1 n
  let sp := max 2 (d.get (FB_EMU_MINSP p))
  if d.portMode p ≠ 7 ∨ s.emuE = s.emuTarget ∨ d.clk.tick < due ∨ (s.emuLast ≠ 0 ∧ d.clk.now < s.emuLast + sp) then d
  else
    let e := s.emuE + sgn (s.emuTarget - s.emuE)
    (d.setPort p fun s => { s with emuE := e, emuLast := d.clk.now, lines := emuLines e (d.rdN (FB_EMU_ZPER p)) }).passAll

/-- The emulation at a boundary, before the new positions are taken: the edges up to the previous boundary's count are
spread from here; what is left over lags. -/
def Device.emuBoundary (d : Device) (p : Nat) : Device :=
  let s := d.port p
  if d.portMode p ≠ 7 then d
  else
    let d1 := d.put (FB_STATUS_EMU_LAG p) (b2n (s.emuE != s.emuTarget))
    d1.setPort p fun s => { s with emuTarget := d.emuCount p, emuNext := s.emuE }

/-! ### The boundary -/

/-- A port whose mode changed: emulation starts at the present count, a quadrature or Hall port takes the levels on its pins
as accepted (DESIGN CHOICE, notes/assumptions/19). -/
def Device.portModeSet (d : Device) (p mode : Nat) : Device :=
  let s := d.port p
  if mode = 7 then
    let e := d.emuCount p
    d.setPort p fun s => { s with emuE := e, emuTarget := e, emuNext := e, lines := emuLines e (d.rdN (FB_EMU_ZPER p)) }
  else if mode = 1 then d.setPort p fun s => { s with lines := andN s.pins 3, z := bit s.pins 2 }
  else if mode = 2 then d.setPort p fun _ => { s with lines := hallPins s.pins }
  else d

/-- Settings, captures and transfer starts of a port at tick 0 (R175, R179, R183). -/
def Device.portBoundary (d : Device) (p : Nat) : Device :=
  let old := d.portMode p
  let d1 := d.setPort p fun s => { s with ctrl := d.rd (FB_CTRL p), ser := d.rd (FB_SER p) }
  let mode := d1.portMode p
  let d2 := d1.put (FB_STATUS_ACTIVE p) (b2n (mode != 0))
  let d3 := (if mode = old then d2.emuBoundary p else d2.portModeSet p mode).passAll
  let d4 := d3.setPort p fun s => { s with capPrev := s.cap, cap := s.r }
  if mode = 1 ∨ mode = 2 then
    (d4.wrS64 (FB_RAW p) (d4.port p).r).put (FB_STATUS_LAST_OK p) (b2n (!(d4.port p).illegal))
  else if 3 ≤ mode ∧ mode ≤ 5 then
    (d4.setPort p fun s => { s with table := d.tblWork (0xC0 + bits s.ctrl.toNat 20 4) }).portBusy p true
  else d4.put (FB_STATUS_LAST_OK p) 0

/-- A transfer that the beat which ends left open is a TIMEOUT: its timeout lies before D (R187). -/
def Device.portLeftover (d : Device) (p : Nat) : Device := d.serialTimedOut p

/-- The beat's edges and illegal transitions have been judged. -/
def Device.portSettle (d : Device) (p : Nat) : Device :=
  if (d.port p).illegal || (d.port p).moved then d.setPort p fun s => { s with illegal := false, moved := false } else d

/-- FB_CLEAR_CNT. -/
def Device.fbClearCnt (d : Device) (p : Nat) : Device := d.wrN (FB_ERRCNT p) 0

end Sys2Proof.Machine
end

