-- ==== Sys2Proof/Machine/Chains.lean ====
section
/-! DEFINITION. Troko chains (R233–R269, R560, R562): feedback slots, frames and their checks, the command slots that the
device sends, census, starting and stopping, and the chain settings. -/

namespace Sys2Proof.Machine

/-- The states of TK_STATUS. -/
def tkOFF : Nat := 0
/-- CENSUS. -/
def tkCENSUS : Nat := 1
/-- READY. -/
def tkREADY : Nat := 2
/-- RUNNING. -/
def tkRUNNING : Nat := 3
/-- FAILED. -/
def tkFAILED : Nat := 4

/-- The state of chain `c`. -/
def Device.tkState (d : Device) (c : Nat) : Nat := d.get (TK_STATUS_STATE c)
/-- The state of chain `c` changed. -/
def Device.tkSet (d : Device) (c st : Nat) : Device := d.put (TK_STATUS_STATE c) st
/-- The refusal of a chain write or command. -/
def Device.tkRefuse (d : Device) (c code : Nat) : Device := d.refuse (TK_STATUS_REFUSE_LAST c) (TK_EVENT_REFUSED c) code

/-- The chain node channels of an axis: its modulator binding and its chain sources (R19, R26). -/
def Device.axisChannels (d : Device) (k : Nat) : List Nat :=
  (if d.get (AX_MB_CTRL_KIND k) = 2 then [d.get (AX_MB_CHAN_CHAN k)] else []) ++
    [0, 1].filterMap (fun w => if d.srcKind k w = 1 then some (d.srcId k w) else none)

/-- The axes bound to a chain. -/
def Device.chainAxes (d : Device) (c : Nat) : List Nat :=
  (List.range 192).filter (fun k => (d.axisChannels k).any (fun id => idChain id == c))

/-- The axes bound to a node of a chain. -/
def Device.nodeAxes (d : Device) (c n : Nat) : List Nat :=
  (List.range 192).filter (fun k => (d.axisChannels k).any (fun id => idChain id == c && idNode id == n))

/-- Is an axis bound to chain `c` not OFF? -/
def Device.chainBusy (d : Device) (c : Nat) : Bool := (d.chainAxes c).any (fun k => d.axState k != axOFF)

/-- Motion-ready (R535): READY of XS_BOOT and its time, once. -/
def Device.motionReady (d : Device) : Device :=
  let ok := (List.range 16).all (fun c =>
    !d.has (TK_CTRL_AUTO_CENSUS c) || d.tkState c == tkREADY || (d.has (TK_CTRL_AUTO_START c) && d.tkState c == tkRUNNING))
  if d.clk.running ∧ d.get XS_BOOT_STEP = 7 ∧ d.has XS_BOOT_READY = false ∧ ok = true then
    (d.put XS_BOOT_READY 1).put XS_BOOT_TIME_READY (d.clk.now / 100000)
  else d

/-! ### Checks that report at the first frame or slot of a run (R242, R243, R251) -/

/-- A check of a slot (`node` below 16) or a frame (`node` 16): its effects at every failure, its message at the first of
a run; a pending injection counts as a failure.  Answers whether it failed. -/
def Device.runCheck (d : Device) (c node kind : Nat) (real : Bool) (detail : Nat) (eff : Device → Device) : Bool × Device :=
  let inst := 16 * c + node % 16
  let runs := (d.chain c).runs.pick 0 node
  let mark := fun (d : Device) (b : Bool) => d.setChain c fun s => { s with runs := s.runs.upd 0 node fun r => setBit r kind b }
  if real then
    let d1 := eff d
    (true, mark (if bit runs kind then d1 else d1.msg 6 inst kind detail) true)
  else
    match d.injTake 6 inst kind with
    | some (dt, d1) => (true, mark ((eff d1).msg 6 inst kind dt true) true)
    | none => (false, if bit runs kind then mark d false else d)

/-! ### Feedback slots (R244–R251, R253, R255) -/

/-- The 16-bit words as bytes in wire order. -/
def wireBytes (ws : List (BitVec 16)) : List (BitVec 8) :=
  ws.flatMap (fun w => [BitVec.ofNat 8 (w.toNat / 256), BitVec.ofNat 8 w.toNat])

/-- The CRC word of a slot (R247). -/
def slotCrc (ws : List (BitVec 16)) : Nat := crcMsb 16 0x1021 0xFFFF (wireBytes ws)

/-- A number of several wire words, the most significant first (R253). -/
def wireNum (ws : List (BitVec 16)) : Nat := ws.foldl (fun a w => a * 65536 + w.toNat) 0

/-- The values of a node's feedback items, in layout order. -/
def itemValues : List Item → List (BitVec 16) → List (Item × Nat)
  | [], _ => []
  | i :: is, ws => (i, wireNum (ws.take i.len)) :: itemValues is (ws.drop i.len)

/-- The value of the first item of a kind that reaches channel `ch`. -/
def itemOf (vs : List (Item × Nat)) (ch kind : Nat) : Option (Item × Nat) :=
  vs.find? (fun v => v.1.kind == kind && (v.1.shared || v.1.ch == ch))

/-- The inbox words of channel `ch` (R255): header, then items of LEN 1 or 2 in one word, longer ones in two. -/
def inboxWords (hdr : Nat) (vs : List (Item × Nat)) (ch : Nat) : List Nat :=
  hdr :: (vs.filter (fun v => v.1.shared || v.1.ch == ch)).flatMap (fun v =>
    if v.1.len ≤ 2 then [v.2] else [v.2 % 2 ^ 32, v.2 / 2 ^ 32])

/-- What a valid slot gives a chain source (R190, R253). -/
def slotSource (vs : List (Item × Nat)) (ch : Nat) : SrcIn :=
  let err := vs.any (fun v => v.1.kind == 2 && (v.1.shared || v.1.ch == ch) && bit v.1.param 4 && bit v.2 (v.1.param % 16))
  if err then .miss 4 none
  else
    match itemOf vs ch 1 with
    | none => .miss 8 none
    | some (i, v) =>
      .word v (max 1 (i.param % 64)) (bit i.param 6) (bit i.param 7) ((itemOf vs ch 3).map (fun x => x.2 % 65536))

/-- The sources of axes at a node, each given its part of the beat. -/
def Device.slotDeliver (d : Device) (c n : Nat) (x : Nat → SrcIn) : Device :=
  (d.nodeAxes c n).foldl (fun d k =>
    ([0, 1].foldl (fun (d : Device) w =>
      let id := d.srcId k w
      if d.srcKind k w = 1 ∧ idChain id = c ∧ idNode id = n then d.srcEval k w (x (idChan id)) else d) d).fbFinish k) d

/-- The phase currents and inbox words of an axis whose inbox takes a channel of this node (R207, R255). -/
def Device.slotInbox (d : Device) (c n hdr : Nat) (vs : List (Item × Nat)) : Device :=
  (List.range 192).foldl (fun d k =>
    match d.axisChannel k with
    | some id =>
      if idChain id = c ∧ idNode id = n then
        let ch := idChan id
        let cur := fun ph =>
          (vs.find? (fun v => v.1.kind == 4 && v.1.param % 4 == ph && (v.1.shared || v.1.ch == ch))).map (fun v => toS 16 v.2 * 2 ^ 15)
        let d1 := d.setAx k fun s => { s with inWords := inboxWords hdr vs ch, slotOk := true }
        d1.setFb k fun u => { u with iA := (cur 0).getD 0, iB := (cur 1).getD 0 }
      else d
    | none => d) d

/-- The event items of a slot reach the latch units (R227): the stamp is tick 0 less the event age. -/
def Device.slotEvents (d : Device) (c n : Nat) (vs : List (Item × Nat)) : Device :=
  (List.range 4).foldl (fun d ch =>
    match itemOf vs ch 6 with
    | some (_, v) =>
      if bit v 15 then
        let age := ((itemOf vs ch 7).map (fun x => x.2 % 65536)).getD 0
        d.ltSource 2 (64 * c + 4 * n + ch) (!bit v 14) (d.clk.tick + age)
      else d
    | none => d) d

/-- A node whose slot delivers no sample in this beat, decided once (R19). -/
def Device.slotMissing (d : Device) (c n : Nat) : Device :=
  if bit (d.chain c).seen n then d
  else (d.setChain c fun s => { s with seen := setBit s.seen n true }).slotDeliver c n (fun _ => .miss 6 none)

/-- Is a frame of chain `c` on its way? -/
def Device.frameOn (d : Device) (c : Nat) : Bool := d.tkState c == tkRUNNING && (d.chain c).inFrame && !(d.chain c).frameDone

/-- The comparison of STO_SEEN with the level driven at tick 0 (R259). -/
def Device.stoCompare (d : Device) (c n : Nat) (seen : Bool) : Device :=
  let driven := (d.chain c).stoTick0
  let run := if seen = driven then 0 else min 3 ((d.chain c).stoDis.pick 0 n + 1)
  let d1 := d.setChain c fun s => { s with stoDis := s.stoDis.upd 0 n fun _ => run }
  d1.detect 6 (16 * c) 6 (decide (run = 2)) (2 * b2n driven + b2n seen) (fun d => d.raise (TK_EVENT_STO_MISMATCH c))

/-- SLOT_COMPLETE: the words of node `n`'s feedback slot, header first and CRC last (R241, R243, R251). -/
def Device.slotComplete (d : Device) (c n : Nat) (ws : List (BitVec 16)) : Device :=
  let l := (d.chain c).layout
  if d.frameOn c = false ∨ layNodes l ≤ n then d
  else
    let hdr := (ws.headD 0).toNat
    let sound := decide (ws.length = laySlotWords l n) && decide (slotCrc ws.dropLast = (ws.getLastD 0).toNat) && decide (hdr / 4096 = n)
    let late := decide (d.nodeBudget c l n < d.clk.tick)
    let fail := fun (r : Bool × Device) (kind : Nat) (real : Bool) (ev cnt : Fld) =>
      let x := r.2.runCheck c n kind real hdr (fun d => (d.raise ev).incSat cnt)
      (r.1 || x.1, x.2)
    let r1 := fail (false, d) 1 (!sound) (TK_EVENT_SLOT_CRC c) (TK_NODE_CNT_SLOT_CRC c n)
    let r2 := fail r1 2 (sound && bit hdr 11) (TK_EVENT_STALE c) (TK_NODE_CNT_STALE c n)
    let r3 := fail r2 3 (sound && bit hdr 10) (TK_EVENT_EDGE_ERR c) (TK_NODE_CNT_EDGE_ERR c n)
    let r4 := fail r3 4 (sound && bit hdr 9) (TK_EVENT_CMD_CRC c) (TK_NODE_CNT_CMD_CRC c n)
    let x := r4.2.runCheck c n 5 (sound && bit hdr 7) hdr (fun d => d.raise (TK_EVENT_NODE_FAULT c))
    -- no slot of a frame that will be found OPEN is valid (R242)
    let accepted := !r4.1 && !(d.has (TK_CTRL_RSTB_EN c) && d.injPending 6 (16 * c) 8)
    let valid := accepted && !late && !bit (d.chain c).seen n
    let d1 := (((x.2.put (TK_NODE_STAT_VALID c n) (b2n valid)).put (TK_NODE_STAT_LATE c n) (b2n late)).put (TK_NODE_STAT_READY c n)
      d.clk.tick).put (TK_NODE_STAT_HEADER c n) hdr
    let d2 := if accepted then d1.stoCompare c n (bit hdr 8)
      else d1.setChain c fun s => { s with stoDis := s.stoDis.upd 0 n fun _ => 0 }
    if valid then
      let vs := itemValues (layFeedback l n) (ws.drop 1)
      let d3 := d2.setChain c fun s => { s with seen := setBit s.seen n true }
      ((d3.slotInbox c n hdr vs).slotDeliver c n (slotSource vs)).slotEvents c n vs
    else d2.slotMissing c n

/-- FRAME_COMPLETE: the last 16 bits received, whether RSTB moved, and LOOP_DLY in 1.25 ns (R242, R243). -/
def Device.frameComplete (d : Device) (c marker : Nat) (rstb : Bool) (loop : Nat) : Device :=
  if d.frameOn c = false then d
  else
    let en := d.has (TK_CTRL_RSTB_EN c)
    let open_ := en && !rstb
    let r1 := d.runCheck c 16 8 open_ 0 (fun d =>
      (List.range (layNodes (d.chain c).layout)).foldl (fun (d : Device) n => d.put (TK_NODE_STAT_VALID c n) 0)
        ((d.raise (TK_EVENT_OPEN c)).incSat (TK_ERRCNT_OPEN c)))
    let r2 := r1.2.runCheck c 16 7 (!r1.1 && decide (marker ≠ 0x1D2B)) marker
      (fun d => (d.raise (TK_EVENT_LENGTH c)).incSat (TK_ERRCNT_LENGTH c))
    let d1 := if en && rstb then
        (r2.2.put (TK_LOOP_LOOP_DLY c) loop).put (TK_LOOP_PEAK c) (max loop (d.get (TK_LOOP_PEAK c)))
      else r2.2
    let r3 := d1.runCheck c 16 9 (en && rstb && decide (8 * d.get (TK_TIMING_LOOP_MAX c) < loop)) loop (fun d => d.raise (TK_EVENT_LOOP c))
    let d2 := r3.2.setChain c fun s => { s with frameDone := true }
    (List.range (layNodes (d.chain c).layout)).foldl (fun d n => d.slotMissing c n) d2

/-! ### The command slots (R244, R245, R253, R255, R273–R275, R293, R560) -/

/-- A value in `len` wire words, the most significant first. -/
def toWire (len v : Nat) : List Nat := (List.range len).map (fun i => v / 2 ^ (16 * (len - 1 - i)) % 65536)

/-- The axis that gives a command item its value: the channel's, or for a shared item that of the lowest bound channel. -/
def Device.itemAxis (d : Device) (c n chans : Nat) (i : Item) : Option Nat :=
  if i.shared then (List.range chans).findSome? (fun ch => d.chanAxis (64 * c + 4 * n + ch)) else d.chanAxis (64 * c + 4 * n + i.ch)

/-- The channels whose compare word an item is: its own, or all of the node's for a shared item. -/
def itemChans (c n chans : Nat) (i : Item) : List Nat :=
  if i.shared then (List.range chans).map (fun ch => 64 * c + 4 * n + ch) else [64 * c + 4 * n + i.ch]

/-- A compare word with its OFF bit as R293 sets it for this frame: one of its channels lies in the row of a latched source. -/
def Device.withOff (d : Device) (ids : List Nat) (ws : List Nat) : List Nat :=
  let off := ids.any (fun id => d.md.chOff.pick 0 id != 0)
  match ws with
  | h :: t => (h % 32768 + b2n off * 32768) :: t
  | [] => []

/-- The wire words of one command item; `ob` is the axis's next outbox word for the node. -/
def Device.cmdItem (d : Device) (c n chans : Nat) (i : Item) (ob : Nat) : List Nat :=
  match d.itemAxis c n chans i with
  | none =>
    if i.kind = 4 then toWire i.len i.param
    else if i.kind = 1 then d.withOff (itemChans c n chans i) (toWire i.len 0)
    else toWire i.len 0
  | some a =>
    let out := (d.ax a).out
    if i.kind = 1 then
      let duty := obWord out (i.param % 4) % 2 ^ 20
      d.withOff (itemChans c n chans i) (toWire i.len (convertDuty duty (d.carrierOf a % 65536)))
    else if i.kind = 2 then toWire i.len (d.carrierOf a)
    else if i.kind = 3 then
      let v := if i.len ≤ 2 then obWord out ob else obWord out ob + 2 ^ 32 * obWord out (ob + 1)
      toWire i.len v
    else if i.kind = 4 then toWire i.len i.param
    else toWire i.len 0

/-- The item words of a node's slot: taken afresh where the axis's result was handed off, sent again otherwise (R560).
`ob` counts the outbox words that each axis has given (R255). -/
def Device.cmdItems (d : Device) (c n chans : Nat) (prev : Store (List Nat)) :
    List Item → Nat → Store Nat → List (Nat × List Nat)
  | [], _, _ => []
  | i :: is, x, ob =>
    let ax := d.itemAxis c n chans i
    let a := ax.getD 192
    let at_ := ob.pick 8 a
    let old := prev.pick [] (256 * n + x)
    let again := match ax with
      | some k => !(d.ax k).fresh && !old.isEmpty
      | none => false
    let ws := if again then (if i.kind = 1 then d.withOff (itemChans c n chans i) old else old) else d.cmdItem c n chans i at_
    let ob1 := if i.kind = 3 ∧ ax.isSome = true then ob.upd 8 a fun v => v + i.words else ob
    (256 * n + x, ws) :: d.cmdItems c n chans prev is (x + 1) ob1

/-- EN of a command header (R245). -/
def Device.slotEn (d : Device) (c n chans : Nat) : Nat :=
  ((List.range chans).map (fun ch =>
    match d.chanAxis (64 * c + 4 * n + ch) with
    | some a => if d.axState a ≠ axOFF ∧ (d.ax a).stagedSince = true ∧ obOff (d.ax a).out = false then 2 ^ ch else 0
    | none => 0)).sum

/-- The command slot of a node from its items' words (R244, R245, R247). -/
def Device.cmdSlot (d : Device) (c n words : Nat) (en : Nat) (items : List Nat) : List Nat :=
  let hdr := n * 4096 + b2n (d.chain c).stoTick0 * 2048 + en * 16 + d.clk.beat % 16
  let body := (hdr :: items ++ List.replicate words 0).take (words - 1)
  body ++ [slotCrc (body.map (BitVec.ofNat 16))]

/-- A frame starts at tick 0 (R240, R258): the level of STO_N is taken and the command slots are formed. -/
def Device.frameStart (d : Device) (c : Nat) : Device :=
  let d0 := d.setChain c fun s =>
    { s with stoTick0 := d.has (TK_STO_DRIVEN c), inFrame := true, frameDone := false, latched := false, seen := 0 }
  let l := (d.chain c).layout
  (List.range (layNodes l)).foldl (fun (d : Device) n =>
    let chans := layChannels l n
    let items := d.cmdItems c n chans (d.chain c).items (layCommands l n) 0 []
    let slot := d.cmdSlot c n (laySlotWords l n) (d.slotEn c n chans) (items.flatMap (·.2))
    let keep := fun (m : Store (List Nat)) (x : Nat × List Nat) => m.upd [] x.1 fun _ => x.2
    d.setChain c fun s => { s with items := items.foldl keep s.items, sent := s.sent.upd [] n fun _ => slot }) d0

/-! ### Starting and stopping (R266, R267) -/

/-- The checks of a START: its code, 0 for none. -/
def Device.startCode (d : Device) (c : Nat) : Nat :=
  let f := d.chainF c (d.chain c).layout
  let trim := d.get TB_TRIM_TRIM_MAX
  if d.tkState c ≠ tkREADY then 3
  else if latchOk f d.clk.len d.clk.latch trim && deadlineOk f d.clk.len d.clk.deadline trim && d.allFit d.laysInForce d.clk.deadline then 0
  else 2

/-- An accepted START: the first frame follows at the next boundary. -/
def Device.chainStart (d : Device) (c : Nat) : Device :=
  let d1 := d.setChain c fun s => { s with startRun := false, stopping := false, runs := [], stoDis := [], items := [], inFrame := false }
  ((d1.tkSet c tkRUNNING).raise (TK_EVENT_STARTED c)).motionReady

/-- START in TK_CMD. -/
def Device.tkStart (d : Device) (c : Nat) : Device :=
  match d.startCode c with
  | 0 => d.chainStart c
  | code => d.tkRefuse c code

/-- AUTO_START at a boundary: REFUSED only at the first refusal of a run. -/
def Device.autoStart (d : Device) (c : Nat) : Device :=
  if d.tkState c ≠ tkREADY ∨ d.has (TK_CTRL_AUTO_START c) = false then d
  else
    match d.startCode c with
    | 0 => d.chainStart c
    | code =>
      let d1 := d.put (TK_STATUS_REFUSE_LAST c) code
      if (d.chain c).startRun then d1
      else (d1.setChain c fun s => { s with startRun := true }).raise (TK_EVENT_REFUSED c)

/-- The chain has stopped: READY and STOPPED. -/
def Device.chainStopped (d : Device) (c : Nat) : Device :=
  ((d.setChain c fun s => { s with stopping := false, startRun := false }).tkSet c tkREADY).raise (TK_EVENT_STOPPED c)

/-- Is a frame of this beat in progress, up to its latch at L? -/
def Device.frameHeld (d : Device) (c : Nat) : Bool := (d.chain c).inFrame && !(d.chain c).latched

/-- STOP in TK_CMD (R267): the frame in progress completes first. -/
def Device.tkStop (d : Device) (c : Nat) : Device :=
  if d.tkState c ≠ tkRUNNING then d.tkRefuse c 5
  else if d.chainBusy c then d.tkRefuse c 1
  else if d.frameHeld c then d.setChain c fun s => { s with stopping := true }
  else d.chainStopped c

/-! ### Census (R260–R265, R562) -/

/-- The census marker. -/
def censusMarker : Nat := 0x7E813CC3

/-- The CRC of a census word (R263). -/
def censusCrc (w : Nat) : Nat :=
  slotCrc [BitVec.ofNat 16 (w / 2 ^ 48), BitVec.ofNat 16 (w / 2 ^ 32), BitVec.ofNat 16 (w / 2 ^ 16)]

/-- The ticks of the reset pattern, 64 edges at DIV 64, and the wait of 100 µs after it. -/
def censusWait : Nat := 32 * 64 + 10000

/-- A try of the census begins at tick `at_` with the reset pattern; without a layout it fails before any frame (R265). -/
def Device.censusTry (d : Device) (c at_ : Nat) : Device :=
  d.setChain c fun s => { s with step := 1, waitFrom := at_ }

/-- The end of a failed try (R265): a retry where the result allows one and tries are left; FAILED otherwise, with
FAIL_NODE. -/
def Device.censusFail (d : Device) (c code node : Nat) (retried : Bool) (inj : Option Nat := none) : Device :=
  let d1 := d.put (TK_STATUS_CENSUS_RESULT c) code
  if retried ∧ (d.chain c).tries < d.get (TK_TIMING_RETRIES c) then d1.setChain c fun s => { s with step := 4 }
  else
    let d2 := (((d1.put (TK_STATUS_FAIL_NODE c) node).setChain c fun s => { s with step := 0 }).tkSet c tkFAILED).raise (TK_EVENT_CENSUS_FAIL c)
    match inj with
    | some dt => d2.msg 6 (16 * c) 10 dt true
    | none => d2.msg 6 (16 * c) 10 code

/-- A census begins. -/
def Device.censusStart (d : Device) (c : Nat) : Device :=
  let d1 := (d.setChain c fun s => { s with tries := 0, censusAfter := false, stopping := false, startRun := false, inFrame := false }).tkSet
    c tkCENSUS
  if (d.chain c).layout.isEmpty then (d1.put (TK_STATUS_NODES c) 0).censusFail c 10 0 false else (d1.censusRaw c).censusTry c d.clk.now

/-- CENSUS in TK_CMD (R562). -/
def Device.tkCensus (d : Device) (c : Nat) : Device :=
  if d.chainBusy c ∨ d.tkState c = tkCENSUS then d.tkRefuse c 1
  else if d.tkState c = tkRUNNING ∧ d.frameHeld c = true then d.setChain c fun s => { s with censusAfter := true }
  else d.censusStart c

/-- CENSUS_RESET_WAIT_END: 100 µs after the reset pattern the identity frame is sent. -/
def Device.censusWaitEnd (d : Device) (c : Nat) : Device :=
  let s := d.chain c
  if d.tkState c = tkCENSUS ∧ s.step = 1 ∧ s.waitFrom + censusWait ≤ d.clk.now then d.setChain c fun s => { s with step := 2 } else d

/-- CENSUS_RETRY: the tries that follow a failure begin every 5 ms (R265). -/
def Device.censusRetry (d : Device) (c : Nat) : Device :=
  let s := d.chain c
  if d.tkState c = tkCENSUS ∧ s.step = 4 ∧ s.waitFrom + 500000 ≤ d.clk.now then
    (d.setChain c fun s => { s with tries := s.tries + 1 }).censusTry c (s.waitFrom + 500000)
  else d

/-- Word `j` of a received identity frame of 1 120 bits, the first received bit most significant. -/
def idWord (rx : BitVec 1120) (j : Nat) : Nat := rx.toNat / 2 ^ (1120 - 64 * (j + 1)) % 2 ^ 64

/-- Is an identity word sound (SIG and CRC)? -/
def idSound (w : Nat) : Bool := w / 2 ^ 56 == 0x5C && w % 65536 == censusCrc w

/-- The complement of a 64-bit word. -/
def not64 (w : Nat) : Nat := 2 ^ 64 - 1 - w

/-- The place of the census marker: the first word whose upper half is the marker in either polarity, and its polarity. -/
def markerAt (rx : BitVec 1120) : Option (Nat × Bool) :=
  (List.range 17).findSome? (fun j =>
    let h := idWord rx j / 2 ^ 32
    if h = censusMarker then some (j, false) else if h = 2 ^ 32 - 1 - censusMarker then some (j, true) else none)

/-- The hop reversals r_0 to r_N of R264 from the polarities of node 0 to N − 1 and of the marker. -/
def hopsOf (inv : List Bool) (m : Bool) : List Bool :=
  let n := inv.length
  (m != inv.getD 0 false) :: (List.range (n - 1)).map (fun k => inv.getD k false != inv.getD (k + 1) false) ++ [inv.getD (n - 1) false]

/-- The config word of node `k` (R263). -/
def Device.configWord (d : Device) (c k : Nat) (inv : Bool) : Nat :=
  let l := (d.chain c).layout
  let w := 0xC3 * 2 ^ 56 + k * 2 ^ 52 + b2n inv * 2 ^ 51 + d.get (TK_CTRL_MODE c) * 2 ^ 48 + (d.get (TK_CTRL_DIV c) - 1) % 64 * 2 ^ 42
    + (laySlotWords l k - 1) % 64 * 2 ^ 36 + layFormat l k * 2 ^ 32 + 16 * (1 + slotSum l 0) % 65536 * 2 ^ 16
  w + censusCrc w

/-- R265, CAPS: a node's fitness for the chain's mode and the layout. -/
def Device.capsOk (d : Device) (c k n w : Nat) : Bool :=
  let caps := bits w 32 4
  let ddr := d.get (TK_CTRL_MODE c) == 4
  bit caps (if ddr then 1 else 0) && decide (bits w 26 6 + 1 ≤ d.get (TK_CTRL_DIV c)) && decide (layChannels (d.chain c).layout k ≤ bits w 36 4)
    && !(decide (k + 1 = n) && !ddr && d.has (TK_CTRL_RSTB_EN c) && !bit caps 2)

/-- IDENTITY_FRAME: the 1 120 bits received and the measured loop delay are judged in the order of R265. -/
def Device.identityFrame (d : Device) (c : Nat) (rx : BitVec 1120) (loop : Nat) : Device :=
  let s := d.chain c
  let dN := d.put (TK_STATUS_NODES c) (((markerAt rx).map (·.1)).getD 0)
  if d.tkState c ≠ tkCENSUS ∨ s.step ≠ 2 then d
  else if rx = 0 ∨ rx = BitVec.allOnes 1120 then dN.censusFail c 2 0 true
  else
    let d1 := (dN.put (TK_LOOP_LOOP_DLY c) loop).put (TK_LOOP_PEAK c) (max loop (d.get (TK_LOOP_PEAK c)))
    let l := s.layout
    let sound := fun j => idSound (idWord rx j) || idSound (not64 (idWord rx j))
    if 8 * d.get (TK_TIMING_LOOP_MAX c) < loop then d1.censusFail c 9 0 false
    else
      match markerAt rx with
      | none =>
        if (List.range 16).all sound then d1.censusFail c 3 0 true
        else
          -- without a marker N is not known: addresses are counted from the layout's nodes
          let bad := (List.range 16).filter (fun j => !sound j && decide (j < layNodes l))
          d1.censusFail c 7 (layNodes l - 1 - bad.getLastD (layNodes l - 1)) true
      | some (n, m) =>
        -- node k is word n − 1 − k
        match (List.range n).find? (fun k => !sound (n - 1 - k)) with
        | some k => d1.censusFail c 7 k true
        | none =>
          if n ≠ layNodes l then d1.censusFail c 4 0 true
          else
            let inv := (List.range n).map (fun k => !idSound (idWord rx (n - 1 - k)))
            let ids := (List.range n).map (fun k => let w := idWord rx (n - 1 - k); if idSound w then w else not64 w)
            let bad := (List.range n).findSome? (fun k =>
              let w := ids.getD k 0
              if bits w 40 16 ≠ layType l k then some (k, 5) else if d.capsOk c k n w then none else some (k, 6))
            let d2 := (List.range n).foldl (fun d k => d.wr64 (TK_NODE_ID c k) (ids.getD k 0)) d1
            match bad with
            | some (k, code) => d2.censusFail c code k false
            | none =>
              let r := hopsOf inv m
              let rev := ((List.range n).map (fun k => b2n (r.getD k false) * 2 ^ k)).sum + b2n (r.getD n false) * 65536
              let cfg := (List.range n).map (fun k => BitVec.ofNat 64 (d.configWord c k (decide (1 ≤ k) && r.getD k false)))
              ((d2.put (TK_INV_REV c) rev).put (TK_STATUS_REVERSED c) (b2n (decide (rev ≠ 0)))).setChain c fun s =>
                { s with step := 3, cfg := cfg }

/-- Is the data that reaches node `k` of a census frame reversed an odd number of times on its way from node 0 (R264)? -/
def hopParity (r : Nat) (k : Nat) : Bool := (List.range k).foldl (fun a i => a != bit r (i + 1)) false

/-- The words of the config frame behind the marker, in the order sent, nodes N − 1 to 0, each inverted where the hops on its
way reverse it (R262, R264). -/
def configWords (cfg : List (BitVec 64)) (rev : Nat) : List (BitVec 64) :=
  ((List.range cfg.length).map (fun k => let w := cfg.getD k 0; if hopParity rev k then ~~~w else w)).reverse

/-- CONFIG_FRAME: the config words go out behind the marker, and the nodes latch them. -/
def Device.configFrame (d : Device) (c : Nat) : Device :=
  if d.tkState c = tkCENSUS ∧ (d.chain c).step = 3 then
    d.setChain c fun s => { s with step := 5, cfgSent := configWords s.cfg (d.get (TK_INV_REV c)) }
  else d

/-- The echo of a config word (R263). -/
def echoOf (w : Nat) : Nat :=
  let b := 0xE7 * 2 ^ 56 + bits w 16 40 * 2 ^ 16
  b + censusCrc b

/-- ECHO_FRAME: the echo words in the order received, nodes N − 1 to 0, and the marker that follows them. -/
def Device.echoFrame (d : Device) (c : Nat) (ws : List (BitVec 64)) (marker : Nat) : Device :=
  let s := d.chain c
  if d.tkState c ≠ tkCENSUS ∨ s.step ≠ 5 then d
  else
    let n := s.cfg.length
    if marker ≠ censusMarker ∨ ws.length ≠ n then d.censusFail c 4 0 true
    else
      match (List.range n).find? (fun k => (ws.getD (n - 1 - k) 0).toNat != echoOf (s.cfg.getD k 0).toNat) with
      | some k => d.censusFail c 8 k true
      | none =>
        match d.injTake 6 (16 * c) 10 with
        | some (dt, d1) => d1.censusFail c (dt % 16) 0 false (some dt)
        | none =>
          let l := s.layout
          let d1 := ((d.put (TK_FRAME_F c) (d.chainF c l)).put (TK_FRAME_FRAME_BITS c) (16 * (1 + slotSum l 0))).put (TK_STATUS_NODES c) n
          let d2 := ((d1.put (TK_STATUS_CENSUS_RESULT c) 1).put (TK_STATUS_FAIL_NODE c) 0).setChain c fun s => { s with step := 0 }
          ((d2.tkSet c tkREADY).raise (TK_EVENT_CENSUS_DONE c)).motionReady

/-! ### Settings, counts, the boundary and L -/

/-- CLEAR_CNT in TK_CMD. -/
def Device.tkClearCnt (d : Device) (c : Nat) : Device :=
  (List.range 16).foldl (fun (d : Device) n => d.wrN (TK_NODE_CNT c n) 0) ((d.wrN (TK_ERRCNT c) 0).put (TK_LOOP_PEAK c) 0)

/-- TK_CTRL_WRITE (R235, R236): DDR needs a port of a 1.8 V bank and RSTB_EN. -/
def Device.tkCtrlWrite (d : Device) (c v : Nat) : Device :=
  let mode := bits v 0 3
  let div := bits v 16 7
  let v18 := bit (d.get GL_IO_BANK_V18) (c / 8)
  let st := d.tkState c
  if st ≠ tkOFF ∧ st ≠ tkFAILED then d.tkRefuse c 1
  else if 4 < mode ∨ 64 < div ∨ div < (if mode = 4 then 1 else 2) ∨ (mode = 4 ∧ (v18 = false ∨ bit v 8 = false)) then d.tkRefuse c 4
  else d.wrN (TK_CTRL c) (andN v 0x007F0707)

/-- TK_TIMING_WRITE. -/
def Device.tkTimingWrite (d : Device) (c v : Nat) : Device :=
  let st := d.tkState c
  if st ≠ tkOFF ∧ st ≠ tkFAILED then d.tkRefuse c 1
  else if bits v 8 5 < 4 ∨ 30 < bits v 8 5 ∨ bits v 0 8 < 20 then d.tkRefuse c 4
  else d.wrN (TK_TIMING c) (andN v 0x00FF1FFF)

/-- The swap of a chain layout (R256): the chain takes it up, and a READY chain returns to OFF. -/
def Device.layoutSwap (d : Device) (c : Nat) (l : List (BitVec 8)) : Device :=
  let d1 := (d.setChain c fun s => { s with layout := l, startRun := false }).put (TK_STATUS_LAYOUT_PEND c) 0
  if d.tkState c = tkREADY then d1.tkSet c tkOFF else d1

/-- Is a layout commit deferred (R256)? -/
def Device.layoutDefers (d : Device) (c : Nat) : Bool := d.tkState c == tkCENSUS || d.tkState c == tkRUNNING

/-- The boundary: slots that never came are missing, and every RUNNING chain starts its frame. -/
def Device.chainLeftover (d : Device) (c : Nat) : Device :=
  if d.frameOn c then (List.range (layNodes (d.chain c).layout)).foldl (fun d n => d.slotMissing c n) d else d

/-- The frame of a boundary, and AUTO_START after it. -/
def Device.chainBoundary (d : Device) (c : Nat) : Device :=
  let d1 := if d.tkState c = tkRUNNING then d.frameStart c
    else if (d.chain c).inFrame then d.setChain c fun s => { s with inFrame := false } else d
  d1.autoStart c

/-- L: the frame's latch; a STOP or a CENSUS that waited for it follows (R267, R562). -/
def Device.chainLatch (d : Device) (c : Nat) : Device :=
  if d.frameHeld c then
    let d1 := d.setChain c fun s => { s with latched := true }
    let s := d1.chain c
    if s.censusAfter then d1.censusStart c else if s.stopping then d1.chainStopped c else d1
  else d

/-! ### The static check of a chain layout (R254) -/

/-- The lengths that R253 allows an item. -/
def itemLenOk (i : Item) : Bool :=
  if i.fb then
    if i.kind = 1 then decide (i.len ≤ 3)
    else if i.kind = 0 ∨ i.kind = 9 then true
    else decide (i.kind ≤ 9) && decide (i.len = 1)
  else if i.kind = 0 ∨ i.kind = 3 then true
  else if i.kind = 1 ∨ i.kind = 2 then decide (i.len = 2)
  else decide (i.kind = 4) && decide (i.len = 1)

/-- One node of a layout. -/
def nodeOk (l : List (BitVec 8)) (k : Nat) : Bool :=
  let w0 := layNode0 l k
  let its := layItems l k
  let sw := laySlotWords l k
  let chans := layChannels l k
  let sumLen := fun (fb : Bool) => ((its.filter (fun i => i.fb == fb)).map (·.len)).sum
  let used := fun (ch kind : Nat) (fb : Bool) =>
    ((its.filter (fun i => i.fb == fb && (fb || i.kind == kind) && (i.shared || i.ch == ch))).map Item.words).sum
  decide (3 ≤ sw) && decide (sw ≤ 64) && decide (bits w0 22 2 = 0) && !bit w0 31 && decide (layNode1 l k < 65536)
    && its.all (fun i => itemLenOk i && decide (i.ch < chans)
      && (!(i.fb && i.kind == 1) || (decide (8 ≤ i.param % 64) && decide (i.param % 64 ≤ 48) && decide (i.param % 64 ≤ 16 * i.len))))
    && decide (sumLen true ≤ sw - 2) && decide (sumLen false ≤ sw - 2)
    && (List.range chans).all (fun ch => decide (1 + used ch 0 true ≤ 96) && decide (used ch 3 false ≤ 56))

/-- The commit check of a chain layout (R254). -/
def layoutOk (l : List (BitVec 8)) : Bool :=
  let n := leAt l 0 4 % 32
  let span := fun k => (bits (layNode1 l k) 0 8, bits (layNode1 l k) 0 8 + bits (layNode1 l k) 8 8)
  decide (1 ≤ n) && decide (n ≤ 16) && decide (leAt l 0 4 < 32) && (List.range 12).all (fun i => decide (leAt l (4 + i) 1 = 0))
    && (List.range n).all (fun k => nodeOk l k && decide ((span k).2 ≤ 256)
      && (List.range k).all (fun j => decide ((span j).2 ≤ (span k).1) || decide ((span k).2 ≤ (span j).1)
        || decide ((span j).1 = (span j).2) || decide ((span k).1 = (span k).2)))

end Sys2Proof.Machine
end

