-- ==== Sys2Proof/Machine/Operands.lean ====
section
/-! DEFINITION. The operand forms of Feluri instruction words (R138–R144) and of data memory accesses (R137): field
layouts, the word that a slot operation stands in, and what makes a slot illegal. -/

namespace Sys2Proof.Machine

/-! ### Slot layouts -/

/-- The MAC slot (R139). -/
def macSlot (op a x y clr neg : Nat) : Nat := op * 2 ^ 16 + a * 2 ^ 14 + x * 2 ^ 9 + y * 2 ^ 4 + clr * 8 + neg * 4

/-- An ALU slot of three registers (R141). -/
def aluSlot (op dd s t : Nat) : Nat := op * 2 ^ 15 + dd * 2 ^ 10 + s * 2 ^ 5 + t
/-- The ALU slot of ADDI. -/
def addiSlot (dd imm : Nat) : Nat := 16 * 2 ^ 15 + dd * 2 ^ 10 + imm
/-- The ALU slot of NRW and NRWR. -/
def nrwSlot (op dd a x low : Nat) : Nat := op * 2 ^ 15 + dd * 2 ^ 10 + a * 2 ^ 8 + x * 2 ^ low
/-- The ALU slot of a branch or CALL. -/
def tgtSlot (op tgt : Nat) : Nat := op * 2 ^ 15 + tgt
/-- The ALU slot of an operation with one low field. -/
def lowSlot (op v : Nat) : Nat := op * 2 ^ 15 + v

/-- The move slot of a load or store (R142). -/
def ldSlot (op r a inc : Nat) : Nat := op * 2 ^ 19 + r * 2 ^ 14 + a * 2 ^ 11 + inc * 2 ^ 3
/-- The move slot of LDXY. -/
def ldxySlot (qx a qy b ia ib : Nat) : Nat := 7 * 2 ^ 19 + qx * 2 ^ 16 + a * 2 ^ 13 + qy * 2 ^ 10 + b * 2 ^ 7 + ia * 2 ^ 4 + ib * 2
/-- The move slot of LDI. -/
def ldiSlot (r imm : Nat) : Nat := 8 * 2 ^ 19 + r * 2 ^ 14 + imm
/-- The move slot of MVA. -/
def mvaSlot (cl k s : Nat) : Nat := 9 * 2 ^ 19 + cl * 2 ^ 17 + k * 2 ^ 14 + s * 2 ^ 9
/-- The move slot of MVG. -/
def mvgSlot (r cl k : Nat) : Nat := 10 * 2 ^ 19 + r * 2 ^ 14 + cl * 2 ^ 12 + k * 2 ^ 9
/-- The move slot of an operation with one register field S [18:14]. -/
def srcSlot (op s : Nat) : Nat := op * 2 ^ 19 + s * 2 ^ 14
/-- The move slot of BLD and BST. -/
def bulkSlot (op a s l : Nat) : Nat := op * 2 ^ 19 + a * 2 ^ 16 + s * 2 ^ 11 + l * 2 ^ 6

/-- The instruction word of three slots (R138). -/
def wordOf (mac alu mv : Nat) : BitVec 64 := BitVec.ofNat 64 (mac * 2 ^ 44 + alu * 2 ^ 24 + mv)

/-- The MAC slot of a word. -/
def macOf (w : BitVec 64) : Nat := bits w.toNat 44 20
/-- The ALU slot of a word. -/
def aluOf (w : BitVec 64) : Nat := bits w.toNat 24 20
/-- The move slot of a word. -/
def mvOf (w : BitVec 64) : Nat := bits w.toNat 0 24

/-- OP of a MAC slot. -/
def macOp (m : Nat) : Nat := bits m 16 4
/-- OP of an ALU slot. -/
def aluOp (a : Nat) : Nat := bits a 15 5
/-- OP of a move slot. -/
def mvOp (v : Nat) : Nat := bits v 19 5

/-! ### Legality (R144): reserved codes, reserved fields that are not 0, reserved classes -/

/-- Is a MAC slot free of reserved values? -/
def macLegal (m : Nat) : Bool := decide (macOp m ≤ 8) && decide (bits m 0 2 = 0)

/-- Is an ALU slot free of reserved values? -/
def aluLegal (a : Nat) : Bool :=
  match aluOp a with
  | 0 => bits a 0 15 == 0
  | 14 => bits a 0 5 == 0
  | 15 => bits a 10 5 == 0
  | 17 => bits a 0 2 == 0
  | 18 => bits a 0 3 == 0
  | 19 => bits a 14 1 == 0
  | 20 => bits a 14 1 == 0
  | 21 => bits a 14 1 == 0
  | 22 => bits a 14 1 == 0
  | 23 => bits a 14 1 == 0
  | 24 => bits a 14 1 == 0
  | 25 => bits a 0 15 == 0
  | 26 => bits a 0 10 == 0
  | 27 => bits a 0 15 == 0
  | 28 => bits a 0 15 == 0
  | 29 => bits a 1 14 == 0
  | 30 => bits a 4 11 == 0
  | 31 => false
  | _ => true

/-- Is a move slot free of reserved values? -/
def mvLegal (v : Nat) : Bool :=
  match mvOp v with
  | 0 => bits v 0 19 == 0
  | 1 => bits v 0 3 == 0
  | 2 => bits v 0 3 == 0
  | 3 => bits v 0 3 == 0
  | 4 => bits v 0 3 == 0
  | 5 => bits v 0 3 == 0
  | 6 => bits v 0 3 == 0
  | 7 => bits v 0 1 == 0
  | 8 => true
  | 9 => bits v 0 9 == 0 && bits v 17 2 != 3
  | 10 => bits v 0 9 == 0 && bits v 12 2 != 3
  | 11 => bits v 0 14 == 0
  | 12 => bits v 0 14 == 0
  | 13 => bits v 0 14 == 0
  | 14 => bits v 0 6 == 0
  | 15 => bits v 0 6 == 0
  | 16 => bits v 0 19 == 0
  | 17 => bits v 0 14 == 0
  | 18 => bits v 0 19 == 0
  | _ => false

/-- Is a word legal? -/
def wordLegal (w : BitVec 64) : Bool := macLegal (macOf w) && aluLegal (aluOf w) && mvLegal (mvOf w)

/-- The control operations that a delay slot refuses (R148): branches, CALL, RET, RETE, WAITS and END. -/
def isControl (aluop : Nat) : Bool := decide (19 ≤ aluop) && decide (aluop ≤ 28)

/-! ### Data memory addresses (R137, R143) -/

/-- The address of word `i` of an access through a pointer with its base and length. -/
def wordAddr (p b n i : Nat) : Nat :=
  if n = 0 then (p + i) % 16384 else (b + (((p : Int) - b + i) % (n : Int)).toNat) % 16384

/-- A pointer after a post-increment. -/
def stepPtr (p b n : Nat) (inc : Int) : Nat :=
  if n = 0 then (((p : Int) + inc) % 16384).toNat else (b + (((p : Int) - b + inc) % (n : Int)).toNat) % 16384

/-- The increment codes of LDXY. -/
def incCode (c : Nat) : Int :=
  match c with
  | 0 => 0
  | 1 => 1
  | 2 => 2
  | 3 => 3
  | 4 => 4
  | 5 => -1
  | 6 => -2
  | _ => -4

/-- The first register of a pair or quad: the low bits are ignored. -/
def align (n r : Nat) : Nat := r - r % n

end Sys2Proof.Machine
end

