-- ==== Sys2Proof/Machine/Flags.lean ====
section
/-! DEFINITION. The flag computations and the arithmetic of a drover engine (R134–R136, R139–R141): result flags, the
saturations, narrowing and the sums of the MAC slot. -/

namespace Sys2Proof.Machine

/-- What an ALU operation gives: its result, the flags it writes (`zn` always with a result, `cv` where the operation
names C and V) and whether it saturated. -/
structure AluOut where
  val : BitVec 32
  cv : Option (Bool × Bool) := none
  sat : Bool := false
  deriving DecidableEq, Repr

/-- Z of a result. -/
def flagZ (v : BitVec 32) : Bool := v == 0
/-- N of a result. -/
def flagN (v : BitVec 32) : Bool := v.msb
/-- C of an addition: carry out of bit 31. -/
def addC (a b : BitVec 32) : Bool := decide (2 ^ 32 ≤ a.toNat + b.toNat)
/-- V of an addition: signed overflow before any saturation. -/
def addV (a b : BitVec 32) : Bool := let s := a.toInt + b.toInt; decide (s < -2 ^ 31) || decide (2 ^ 31 ≤ s)
/-- C of a subtraction: no borrow. -/
def subC (a b : BitVec 32) : Bool := decide (b.toNat ≤ a.toNat)
/-- V of a subtraction. -/
def subV (a b : BitVec 32) : Bool := let s := a.toInt - b.toInt; decide (s < -2 ^ 31) || decide (2 ^ 31 ≤ s)
/-- An integer saturated to 32 bits. -/
def satW (i : Int) : BitVec 32 := BitVec.ofInt 32 (satS 32 i)

/-- ADD, ADDI. -/
def aluAdd (a b : BitVec 32) : AluOut := { val := a + b, cv := some (addC a b, addV a b) }
/-- SUB, CMP. -/
def aluSub (a b : BitVec 32) : AluOut := { val := a - b, cv := some (subC a b, subV a b) }
/-- SADD. -/
def aluSadd (a b : BitVec 32) : AluOut :=
  { val := satW (a.toInt + b.toInt), cv := some (addC a b, addV a b), sat := addV a b }
/-- SSUB. -/
def aluSsub (a b : BitVec 32) : AluOut :=
  { val := satW (a.toInt - b.toInt), cv := some (subC a b, subV a b), sat := subV a b }
/-- CLAMP: m is T, or 0 where T is negative. -/
def aluClamp (a t : BitVec 32) : AluOut :=
  let m := max t.toInt 0
  { val := BitVec.ofInt 32 (min (max a.toInt (-m)) m) }
/-- ABS: saturates on −2³¹. -/
def aluAbs (a : BitVec 32) : AluOut := { val := satW a.toInt.natAbs, sat := decide (a = 0x80000000) }

/-- The operations ADD to CMP on two operands (R141). -/
def aluTwo (op : Nat) (a b : BitVec 32) : AluOut :=
  match op with
  | 1 => aluAdd a b
  | 2 => aluSub a b
  | 3 => aluSadd a b
  | 4 => aluSsub a b
  | 5 => { val := a &&& b }
  | 6 => { val := a ||| b }
  | 7 => { val := a ^^^ b }
  | 8 => { val := a <<< (b.toNat % 32) }
  | 9 => { val := a >>> (b.toNat % 32) }
  | 10 => { val := a.sshiftRight (b.toNat % 32) }
  | 11 => { val := if a.toInt ≤ b.toInt then a else b }
  | 12 => { val := if a.toInt ≤ b.toInt then b else a }
  | 13 => aluClamp a b
  | 14 => aluAbs a
  | _ => aluSub a b

/-- A narrowing (R136): the result, whether it saturated, and whether its shift was taken as 47. -/
def narrow (acc : Int) (sh : Nat) : BitVec 32 × Bool × Bool :=
  let s := min 47 sh
  let q := fdiv acc (2 ^ s)
  (satW q, decide (satS 32 q ≠ q), decide (47 < sh))

/-- An accumulator after a sum (R135): saturated to 72 bits, with AOV. -/
def accSum (acc sum : Int) (clr neg : Bool) : Int × Bool :=
  let s := (if clr then 0 else acc) + (if neg then -sum else sum)
  (satS 72 s, decide (satS 72 s ≠ s))

/-- The sums of a MAC-slot operation with their accumulators (R139, R140); `g` gives a general register. -/
def macSums (op a x y : Nat) (g : Nat → BitVec 32) : List (Nat × Int) :=
  let s := fun r => (g r).toInt
  let x2 := align 2 x
  let y2 := align 2 y
  let x4 := align 4 x
  let y4 := align 4 y
  let a2 := align 2 a
  match op with
  | 1 => [(a, s x * s y)]
  | 2 => [(a, ((g x).toNat : Int) * s y)]
  | 3 => [(a, s x2 * s y2 + s (x2 + 1) * s (y2 + 1))]
  | 4 => [(a, s x4 * s y4 + s (x4 + 1) * s (y4 + 1) + s (x4 + 2) * s (y4 + 2) + s (x4 + 3) * s (y4 + 3))]
  | 5 => (List.range 4).map (fun i => (i, s x * s (y4 + i)))
  | 6 => [(a2, s x2 * s y2 + s (x2 + 1) * s (y2 + 1)), (a2 + 1, s (x2 + 1) * s y2 - s x2 * s (y2 + 1))]
  | 7 => [(a2, s x2 * s y2 - s (x2 + 1) * s (y2 + 1)), (a2 + 1, s x2 * s (y2 + 1) + s (x2 + 1) * s y2)]
  | 8 => [(a, s x * 2 ^ y)]
  | _ => []

end Sys2Proof.Machine
end

