-- ==== Sys2Proof/Machine/Engine.lean ====
section
/-! DEFINITION. The drover engines (R131–R171): issuing an instruction word, landing results at their latencies, waits,
branches, events, halts, staging, checkpoints and heartbeats, and the engines' part of the boundary. -/

namespace Sys2Proof.Machine

/-- The values of EXEC. -/
def exIDLE : Nat := 0
/-- RUN. -/
def exRUN : Nat := 1
/-- WAIT_SLOT. -/
def exWSLOT : Nat := 2
/-- WAIT_BULK. -/
def exWBULK : Nat := 3
/-- EVENT. -/
def exEVENT : Nat := 4
/-- HALTED. -/
def exHALTED : Nat := 5

/-- The role of engine `e`. -/
def Device.role (d : Device) (e : Nat) : Nat := d.get (DV_STATUS_ROLE e)
/-- The roles of DV_STATUS. -/
def rlACTIVE : Nat := 1
/-- RELAY. -/
def rlRELAY : Nat := 2
/-- LOADING. -/
def rlLOADING : Nat := 3
/-- SELF_TEST. -/
def rlSELFTEST : Nat := 4
/-- FENCED. -/
def rlFENCED : Nat := 5
/-- RETIRED. -/
def rlRETIRED : Nat := 6

/-- EXEC and BANK as software reads them. -/
def Device.engShow (d : Device) (e : Nat) : Device :=
  let s := d.eng e
  let x := if d.get (DV_STATUS_EXEC e) = exHALTED then exHALTED
    else match s.waiting with
      | some w => if aluOp (aluOf w) = 26 then exWSLOT else if mvOp (mvOf w) < 14 then exRUN else exWBULK
      | none => if s.bank = 1 then exEVENT else if s.running then exRUN else exIDLE
  (d.put (DV_STATUS_EXEC e) x).put (DV_STATUS_BANK e) s.bank

/-! ### Registers and results in flight (R133, R145, R146) -/

/-- A general register of a bank. -/
def Engine.reg (s : Engine) (bank r : Nat) : BitVec 32 := s.g.pick 0 (bank * 32 + r % 32)
/-- The word sf of a bank (R134): what its operations left, with BBUSY while a bulk transfer is in progress and BANK. -/
def Engine.status (s : Engine) (bank : Nat) : Nat := setBit (setBit (s.sf.pick 0 bank) 8 s.bulk.isSome) 10 (decide (bank = 1))
/-- A flag of a bank. -/
def Engine.flag (s : Engine) (bank i : Nat) : Bool := bit (s.status bank) i
/-- A flag of a bank changed. -/
def Engine.setFlag (s : Engine) (bank i : Nat) (v : Bool) : Engine := { s with sf := s.sf.upd 0 bank fun w => setBit w i v }

/-- One result where it is read: 0–31 a general register, 32 the flags Z and N, 33 the flags C and V, 64–67 an
accumulator as NRW reads it. -/
def Engine.put (s : Engine) (f : Flight) : Engine :=
  if f.dst < 32 then { s with g := s.g.upd 0 (f.bank * 32 + f.dst) fun _ => BitVec.ofInt 32 f.val }
  else if f.dst = 32 then (s.setFlag f.bank 0 (bit f.val.toNat 0)).setFlag f.bank 1 (bit f.val.toNat 1)
  else if f.dst = 33 then (s.setFlag f.bank 2 (bit f.val.toNat 0)).setFlag f.bank 3 (bit f.val.toNat 1)
  else { s with accN := s.accN.upd 0 (f.bank * 4 + (f.dst - 64)) fun _ => f.val }

/-- The banks in which two of the landing results meet in one register. -/
def collisions : List Flight → List Nat
  | [] => []
  | f :: fs => (if fs.any (fun x => x.bank == f.bank && x.dst == f.dst) then [f.bank] else []) ++ collisions fs

/-- A sticky flag set in a bank: 4 SAT, 5 AOV, 6 SHF, 7 COLL; DV_STICKY records it (R134). -/
def Device.sticky (d : Device) (e bank i : Nat) : Device :=
  let f := if bank = 0 then DV_STICKY_BANK0 e else DV_STICKY_BANK1 e
  (d.setEng e fun s => s.setFlag bank i true).put f (setBit (d.get f) (i - 4) true)

/-- The results due at this step land, in the order in which they were issued. -/
def Device.engLand (d : Device) (e : Nat) : Device :=
  let s := d.eng e
  let due := s.flight.filter (fun f => decide (f.due ≤ s.issued))
  let rest := s.flight.filter (fun f => decide (s.issued < f.due))
  let d1 := d.setEng e fun s => { due.foldl Engine.put s with flight := rest }
  (collisions due).foldl (fun d b => d.sticky e b 7) d1

/-- A result sent on its way. -/
def Device.fly (d : Device) (e lat bank dst : Nat) (v : Int) : Device :=
  d.setEng e fun s => { s with flight := s.flight ++ [⟨s.issued + lat, bank, dst, v⟩] }

/-! ### Tile memory reads (R375–R381, R386, R387) -/

/-- The bytes of a word in a tile memory, with their check-bit errors. -/
def Device.tileBytes (d : Device) (e prog a : Nat) : List (BitVec 8 × Nat) :=
  let s := d.eng e
  if prog = 1 then (leBytes (s.prog.pick 0 a).toNat 8).zip ((List.range 8).map (fun i => s.perr.pick 0 (8 * a + i)))
  else (leBytes (s.dmem.pick 0 a).toNat 4).zip ((List.range 4).map (fun i => s.derr.pick 0 (4 * a + i)))

/-- DETAIL of a tile memory message (R380). -/
def tileDetail (prog a : Nat) : Nat := prog * 2 ^ 31 + a

/-- The word of a tile memory with its correctable bytes corrected. -/
def tileWord (bs : List (BitVec 8 × Nat)) : Nat := ofLe (bs.map (fun b => if codeStatus b.2 = 1 then codeCorrect b.1 b.2 else b.1))

/-- The count of remap entries taken in a tile memory. -/
def remapFld (e prog : Nat) : Fld := if prog = 1 then GL_MEM_REMAP_PROG e else GL_MEM_REMAP_DATA e

/-- The remap word that a tile memory takes next: the lowest that serves no word and is not lost (R385, R386). -/
def Device.freeRemap (d : Device) (e prog : Nat) : Option Nat :=
  ((List.range 8).map (fun s => remapId e prog s)).find? (fun x =>
    !d.mem.badRemaps.contains x && !d.mem.remaps.any (fun y => y.2 == x))

/-- A remap entry taken for a word, with MM_REMAP, if one is free (R386). -/
def Device.takeRemap (d : Device) (e prog a : Nat) : Option Device :=
  (d.freeRemap e prog).map fun x =>
    let d1 := { d with mem := { d.mem with remaps := (tileHardKey e prog a 0, x) :: d.mem.remaps } }
    ((d1.put (remapFld e prog) (d1.get (remapFld e prog) + 1)).raise GL_MEM_EVENT_REMAP).msg 10 e 3 (tileDetail prog a)

/-- A word of a tile memory written with its check bits; bytes of `keep` keep their errors, a stuck bit shows in the others. -/
def Device.tilePut (d : Device) (e prog a w : Nat) (keep : List Nat) : Device :=
  let errs := fun (m : Store Nat) (width : Nat) => (List.range width).foldl (fun (m : Store Nat) i =>
    if keep.contains i then m else m.upd 0 (width * a + i) fun _ => d.tileHardAt e prog a i) m
  d.setEng e fun s =>
    if prog = 1 then { s with prog := s.prog.upd 0 a fun _ => BitVec.ofNat 64 w, perr := errs s.perr 8 }
    else { s with dmem := s.dmem.upd 0 a fun _ => BitVec.ofNat 32 w, derr := errs s.derr 4 }

/-- R378, R379, R386, R387: correctable bytes are written back; a hard bit takes a remap entry while one is free, and the
corrected word goes into its remap word. -/
def Device.tileFix (d : Device) (e prog a : Nat) : Device :=
  let bs := d.tileBytes e prog a
  let w := tileWord bs
  let keep := (List.range bs.length).filter (fun i => codeStatus (bs.getD i (0, 0)).2 == 2)
  let hard := (List.range bs.length).any (fun i => codeStatus (bs.getD i (0, 0)).2 == 1 && d.tileHardAt e prog a i != 0)
  if !hard then d.tilePut e prog a w keep
  else
    match d.takeRemap e prog a with
    | some d1 => d1.tilePut e prog a w keep
    | none => (d.tilePut e prog a w keep).msg 10 e 4 (tileDetail prog a)

/-- An injected MM_REMAP takes a remap entry while one is free, for the word of its DETAIL; an injected MM_REMAP_FULL is
only reported (R371). -/
def Device.tileRemapInj (d : Device) (e prog kind : Nat) : Device :=
  if d.injPending 10 e kind && d.rdN (INJ_DETAIL 10 e kind) / 2 ^ 31 == prog && (kind == 4 || (d.freeRemap e prog).isSome) then
    match d.injTake 10 e kind, d.freeRemap e prog with
    | some (dt, d1), some x =>
      if kind = 3 then
        let d2 := { d1 with mem := { d1.mem with remaps := (tileHardKey e prog (dt % 16384) 0, x) :: d1.mem.remaps } }
        ((d2.put (remapFld e prog) (d2.get (remapFld e prog) + 1)).raise GL_MEM_EVENT_REMAP).msg 10 e 3 dt true
      else d1.msg 10 e kind dt true
    | some (dt, d1), none => d1.msg 10 e kind dt true
    | none, _ => d
  else d

/-- One access to a word of a tile memory: whether it met an uncorrectable byte, and the block after it (R378–R381). -/
def Device.tileAccess (d : Device) (e prog a : Nat) : Bool × Device :=
  let bs := d.tileBytes e prog a
  let worst := maxL (bs.map (fun b => codeStatus b.2))
  if worst = 0 then (false, d)
  else
    let lane := ((List.range 8).find? (fun i => codeStatus (bs.getD i (0, 0)).2 == worst)).getD 0
    let er := (bs.getD lane (0, 0)).2
    let synd := b2n (codeP er) * 16 + er % 16
    let d1 := if bs.any (fun b => codeStatus b.2 == 1) then d.tileFix e prog a else d
    (worst == 2, (d1.memError (worst == 2) false (prog == 1) e lane synd (tileDetail prog a)).msg 10 e (if worst = 2 then 2 else 1)
      (tileDetail prog a))

/-- Accesses to words of a tile memory: whether one met an uncorrectable byte, and the block after them.  An injected
MM_CORR or MM_UNCORR acts on the memory that bit 31 of its DETAIL names (R371). -/
def Device.tileRead (d : Device) (e prog : Nat) (as : List Nat) : Bool × Device :=
  let r := as.foldl (fun (x : Bool × Device) a => let y := x.2.tileAccess e prog a; (x.1 || y.1, y.2)) (false, d)
  let inj := fun (d : Device) (kind : Nat) =>
    if d.injPending 10 e kind && d.rdN (INJ_DETAIL 10 e kind) / 2 ^ 31 == prog then
      match d.injTake 10 e kind with
      | some (dt, d3) => (true, (d3.memError (kind == 2) false (prog == 1) e 0 0 dt).msg 10 e kind dt true)
      | none => (false, d)
    else (false, d)
  let r1 := inj r.2 1
  let r2 := inj r1.2 2
  (r.1 || r2.1, (r2.2.tileRemapInj e prog 3).tileRemapInj e prog 4)

/-- A data memory word as a program reads it. -/
def Device.dmVal (d : Device) (e a : Nat) : BitVec 32 := BitVec.ofNat 32 (tileWord (d.tileBytes e 0 a))

/-! ### Halts (R168) -/

/-- An engine halts at the word it would issue. -/
def Device.engHalt (d : Device) (e code : Nat) (inj : Bool := false) : Device :=
  let s := d.eng e
  let d1 := ((d.put (DV_STATUS_EXEC e) exHALTED).put (DV_STATUS_FAULT e) code).wrN (DV_FAULT_PC e) (s.bank * 2 ^ 15 + s.pc)
  (d1.setEng e fun s => { s with waiting := none }).msg 2 e 1 (code * 2 ^ 24 + s.pc) inj

/-! ### Slots, staging and checkpoints (R158–R163) -/

/-- The slots that WAITS may return: ready ones not yet returned; all of them for a program whose beat has passed. -/
def Device.waitable (d : Device) (e : Nat) : Nat :=
  let s := d.eng e
  let m := d.slotMask e
  diffN (if s.beatOf < d.clk.beat then m else andN s.ready m) s.returned

/-- Has every assigned slot been returned? -/
def Device.allReturned (d : Device) (e : Nat) : Bool := diffN (d.slotMask e) (d.eng e).returned == 0

/-- The words of a load or store: its data memory addresses. -/
def Engine.addrs (s : Engine) (bank pk n : Nat) : List Nat :=
  (List.range n).map (fun i => wordAddr (s.p.pick 0 (bank * 8 + pk)) (s.b.pick 0 pk) (s.n.pick 0 pk) i)

/-- The data memory addresses that the move slot of a word writes. -/
def Engine.stores (s : Engine) (bank v : Nat) : List Nat :=
  let op := mvOp v
  if op = 4 then s.addrs bank (bits v 11 3) 1
  else if op = 5 then s.addrs bank (bits v 11 3) 2
  else if op = 6 then s.addrs bank (bits v 11 3) 4
  else []

/-- Is the CKPT copy of a slot's state vector still in progress: for 8 steps from its issue, of 4 ns at most (R132, R163)? -/
def Device.copying (d : Device) (e j : Nat) : Bool :=
  (d.eng e).ckpts.any (fun c => c.slot == j && decide (d.clk.now < c.at_ + 4) && decide ((d.eng e).issued < c.step + 8))

/-- Is a data memory address a word of a state vector whose copy is in progress (R147)? -/
def Device.vecBusy (d : Device) (e a : Nat) : Bool :=
  decide (a < 0x2000) && decide (0x1C0 ≤ a % 0x400) && decide (a % 0x400 < 0x1E0) && d.copying e (a / 0x400)

/-- May a word issue, or does it wait (R147)? -/
def Device.engCan (d : Device) (e : Nat) (w : BitVec 64) : Bool :=
  let v := mvOp (mvOf w)
  !((d.eng e).stores (d.eng e).bank (mvOf w)).any (fun a => d.vecBusy e a) &&
  (aluOp (aluOf w) != 26 || decide (d.waitable e ≠ 0) || d.allReturned e) &&
    (!(v == 14 || v == 15 || v == 16) || (d.eng e).bulk.isNone)

/-- The inbox of a slot written for the present boundary's beat, with VALID and LATE of its STATUS (R158, R159). -/
def Device.slotStatus (d : Device) (e j : Nat) (valid late carry : Bool) : Device :=
  d.setDm e (winAddr j 0) (BitVec.ofNat 32 (d.clk.beat % 65536 * 65536 + b2n valid + 2 * b2n late + 4 * b2n carry))

/-- Did every feedback of axis `k` deliver in this beat? -/
def Device.feedbackGood (d : Device) (k : Nat) : Bool :=
  let u := d.fb k
  let ok := fun (w : Nat) => d.srcKind k w == 0 || (match (u.src w).hist with
    | some _ :: _ => (u.src w).evaluated
    | _ => false)
  ok 0 && ok 1 && ((d.axisChannel k).isNone || (d.ax k).slotOk)

/-- The feedback words and the STATUS of a ready slot's inbox: LATE where D released it, CARRY where it was refreshed
after the boundary (R158, R159, R161). -/
def Device.slotFill (d : Device) (e j k : Nat) : Device :=
  let late := bit (d.eng e).late j
  (d.winFeedback e j k).slotStatus e j (!late && d.feedbackGood k) late (bit (d.eng e).carried j)

/-- A slot becomes ready (R161): complete feedback or, at D, LATE. -/
def Device.slotReady (d : Device) (e j k : Nat) (late : Bool) : Device :=
  let s := d.eng e
  if bit s.ready j then d
  else
    let d1 := d.setEng e fun s => { s with ready := setBit s.ready j true, late := setBit s.late j late }
    if bit s.carry j then d1 else d1.slotFill e j k

/-- A slot whose late computation has staged takes this beat's inbox and parameters with CARRY (R159). -/
def Device.slotCarry (d : Device) (e j k : Nat) : Device :=
  let d1 := ((d.winBoundary e j k true).winParams e j k).setEng e fun s =>
    { s with carry := setBit s.carry j false, carried := setBit s.carried j true }
  if bit (d1.eng e).ready j then d1.slotFill e j k else d1

/-- STAGE of a slot (R162, R20–R22): the stock loop's result where the image is the stock loop, else the program's outbox.
A result of a past beat, or staged at or after D, is never taken (R23). -/
def Device.stageSlot (d : Device) (e j : Nat) : Device :=
  let k := d.slotAxis e j
  let s := d.eng e
  if k = 0xFF ∨ bit s.staged j = true then d
  else
    let stock := d.engImage e = 0 ∧ d.variant k ≤ 3
    let d1 := if stock then d.stockRun e j else d
    let d2 := d1.setEng e fun s => { s with staged := setBit s.staged j true }
    let d3 := if s.beatOf = d.clk.beat ∧ d.clk.tick < d.clk.deadline then
        let out := (List.range 64).map (fun i => (d2.dm e (winAddr j (0x180 + i))).toNat)
        (d2.setAx k fun a => { a with staged := some out }).setEng e fun s =>
          { s with minSlack := min s.minSlack (d.clk.deadline - d.clk.tick) }
      else d2
    if bit s.carry j then d3.slotCarry e j k else d3

/-- CKPT of a slot (R163): the copy of the state vector; words of the state vector that cannot be read spoil it. -/
def Device.ckptSlot (d : Device) (e j : Nat) : Device :=
  let k := d.slotAxis e j
  if k = 0xFF then d
  else
    let as := (List.range 30).map (fun i => winAddr j (0x1C0 + i))
    let (bad, d1) := d.tileRead e 0 as
    let c : CkptOut := { slot := j, axis := k, beat := (d.eng e).beatOf, words := as.map (fun a => d.dmVal e a), bad := bad,
                         at_ := d.clk.now, step := (d.eng e).issued }
    d1.setEng e fun s => { s with ckpts := s.ckpts ++ [c] }

/-- The bulk address of a checkpoint buffer (R327). -/
def Device.ckptAddr (d : Device) (k beat : Nat) : Nat := d.get CV_CKPT_BASE_BASE * 256 + k * 256 + beat % 2 * 128

/-- CKPT_DONE: the oldest checkpoint in progress is complete in bulk memory with its framing (R327). -/
def Device.ckptDone (d : Device) (e : Nat) : Device :=
  match (d.eng e).ckpts with
  | [] => d
  | c :: cs =>
    let body := c.words.flatMap (fun w => leBytes w.toNat 4) ++ leBytes c.beat 4
    let crc := crcMsb 16 0x1021 0xFFFF body
    let crc1 := if c.bad then 65535 - crc else crc
    let frame := crc1 + e * 2 ^ 16 + c.slot * 2 ^ 21 + d.engImage e * 2 ^ 24
    let d1 := (d.setEng e fun s => { s with ckpts := cs }).poke (d.ckptAddr c.axis c.beat) (body ++ leBytes frame 4)
    if c.bad then d1 else d1.setAx c.axis fun a => { a with iref := (c.words.getD 13 0).toInt }

/-! ### Issuing a word -/

/-- The MAC slot: sums into the accumulators, seen by NRW three steps later (R139, R145). -/
def Device.doMac (d : Device) (e bank m : Nat) (g : Nat → BitVec 32) : Device :=
  (macSums (macOp m) (bits m 14 2) (bits m 9 5) (bits m 4 5) g).foldl (fun d x =>
    let key := bank * 4 + x.1
    let (v, aov) := accSum ((d.eng e).acc.pick 0 key) x.2 (bit m 3) (bit m 2)
    let d1 := (d.setEng e fun s => { s with acc := s.acc.upd 0 key fun _ => v }).fly e 3 bank (64 + x.1) v
    if aov then d1.sticky e bank 5 else d1) d

/-- The flags and the register of an ALU result. -/
def Device.aluPut (d : Device) (e bank dst lat : Nat) (o : AluOut) (write : Bool) : Device :=
  let d1 := if write then d.fly e lat bank dst o.val.toInt else d
  let d2 := d1.fly e lat bank 32 (b2n (flagZ o.val) + 2 * b2n (flagN o.val) : Nat)
  let d3 := match o.cv with
    | some (c, v) => d2.fly e lat bank 33 (b2n c + 2 * b2n v : Nat)
    | none => d2
  if o.sat then d3.sticky e bank 4 else d3

/-- A control transfer after two delay slots; target 0x4000 is the return from an event. -/
def Device.branchTo (d : Device) (e tgt : Nat) : Device := d.setEng e fun s => { s with branch := some (2, tgt) }

/-- The ALU slot (R141, R148). -/
def Device.doAlu (d : Device) (e bank a : Nat) (s : Engine) : Device :=
  let g := fun r => s.reg bank r
  let op := aluOp a
  let dd := bits a 10 5
  let fl := fun i => s.flag bank i
  let tgt := bits a 0 14
  if op = 0 then d
  else if op ≤ 14 then d.aluPut e bank dd 1 (aluTwo op (g (bits a 5 5)) (g (bits a 0 5))) true
  else if op = 15 then d.aluPut e bank 0 1 (aluSub (g (bits a 5 5)) (g (bits a 0 5))) false
  else if op = 16 then d.aluPut e bank dd 1 (aluAdd (g dd) (BitVec.ofInt 32 (toS 10 (bits a 0 10)))) true
  else if op = 17 ∨ op = 18 then
    let sh := if op = 17 then bits a 2 6 else (g (bits a 3 5)).toNat % 64
    let (v, sat, shf) := narrow (s.accN.pick 0 (bank * 4 + bits a 8 2)) sh
    let d1 := d.aluPut e bank dd 2 { val := v, sat := sat } true
    if shf then d1.sticky e bank 6 else d1
  else if op = 19 then d.branchTo e tgt
  else if op = 20 then (if fl 0 then d.branchTo e tgt else d)
  else if op = 21 then (if fl 0 then d else d.branchTo e tgt)
  else if op = 22 then (if fl 1 != fl 3 then d.branchTo e tgt else d)
  else if op = 23 then (if fl 1 == fl 3 then d.branchTo e tgt else d)
  else if op = 24 then (d.fly e 1 bank 31 (((s.pc + 3) % 16384 : Nat) : Int)).branchTo e tgt
  else if op = 25 then d.branchTo e ((g 31).toNat % 16384)
  else if op = 26 then
    let w := d.waitable e
    match (List.range 8).find? (fun j => bit w j) with
    | some j => (d.setEng e fun s => { s with returned := setBit s.returned j true }).fly e 1 bank dd (j : Int)
    | none => d.fly e 1 bank dd 8
  else if op = 28 then d.branchTo e 0x4000
  else if op = 29 then
    let d1 := d.setEng e fun s => s.setFlag bank 9 (bit a 0)
    if bank = 0 then d1.put (DV_STATUS_EMASK e) (b2n (bit a 0)) else d1
  else d

/-- CLRF: its clears come before what the same word sets. -/
def Device.doClrf (d : Device) (e bank a : Nat) : Device :=
  if aluOp a = 30 then d.setEng e fun s => (onesOf 4 a).foldl (fun s i => s.setFlag bank (4 + i) false) s else d

/-- A pointer moved after an access. -/
def Engine.bump (s : Engine) (bank pk : Nat) (inc : Int) : Engine :=
  { s with p := s.p.upd 0 (bank * 8 + pk) fun p => stepPtr p (s.b.pick 0 pk) (s.n.pick 0 pk) inc }

/-- The data memory addresses that the move slot of a word reads. -/
def Engine.loads (s : Engine) (bank v : Nat) : List Nat :=
  let op := mvOp v
  if op = 1 then s.addrs bank (bits v 11 3) 1
  else if op = 2 then s.addrs bank (bits v 11 3) 2
  else if op = 3 then s.addrs bank (bits v 11 3) 4
  else if op = 7 then s.addrs bank (bits v 13 3) 4 ++ s.addrs bank (bits v 7 3) 4
  else []

/-- Loaded words on their way to registers from `r` on. -/
def Device.loadTo (d : Device) (e bank r : Nat) (as : List Nat) : Device :=
  (as.zip (List.range as.length)).foldl (fun d x => d.fly e 2 bank ((r + x.2) % 32) (d.dmVal e x.1).toInt) d

/-- MBXS (R497): the descriptor in MBX_OUT goes on Q15, naming the engine. -/
def Device.mbxSend (d : Device) (e : Nat) : Device :=
  let w := fun i => (d.dmVal e (0x3F10 + i)).toNat
  let len := min 16 (bits (w 0) 16 16)
  let data := ((List.range 4).flatMap (fun i => leBytes (w (4 + i)) 4)).take len
  d.qPut 15 (bits (w 0) 8 8) (e + 256) (w 3) data

/-- LEDG (R351): a message as the engine spells it.  A KIND that R354 does not list for its class is never sent. -/
def Device.ledgSend (d : Device) (lo hi : BitVec 32) : Device :=
  let h := hi.toNat
  let m : LMsg := { cls := bits h 28 4, inst := bits h 20 8, kind := bits h 12 8, detail := lo, injected := bit h 0
                    runcnt := bit h 1, merged := bit h 2, at_ := d.clk.now }
  if m.kind = 0 ∨ lgKinds m.cls < m.kind then d else
  { d with ledger := { d.ledger with waiting := addMsg m d.ledger.waiting } }

/-- The verdict tick in force (R330). -/
def Device.hbLate (d : Device) : Nat := min (max 100 (d.get CV_CTRL_HB_LATE)) (d.clk.curLen - 1)

/-- Does a heartbeat of beat `n` come before tick HB_LATE of beat `n` + 1 (R330)? -/
def Device.hbInTime (d : Device) (n : Nat) : Bool :=
  decide (d.clk.beat ≤ n) || (decide (d.clk.beat = n + 1) && decide (d.clk.tick < d.hbLate))

/-- HBEAT (R164, R330): the heartbeat word; a wrong SEQ or SIG is reported. -/
def Device.hbeat (d : Device) (e : Nat) (seq sig : BitVec 32) : Device :=
  let n := (d.eng e).beatOf
  let good := decide (seq.toNat = n % 2 ^ 32) && decide (sig = d.rd (DV_SIG e))
  let d1 := ((d.wr (DV_HB e) seq).wr (DV_HB e + 4) sig).setEng e fun s =>
    { s with hbs := ((n, b2n (good && d.hbInTime n)) :: s.hbs).take 2 }
  d1.detect 3 e 4 (!good) (seq.toNat % 65536) (fun d => d.setEng e fun s => { s with hbs := ((n, 0) :: s.hbs.drop 1).take 2 })

/-- The range of a bulk transfer is a permitted one (R150). -/
def bulkOk (dev len : Nat) : Bool :=
  decide (1 ≤ len) && decide (len ≤ 256) && decide (dev % 4 = 0) && (inBulk dev (4 * len) || decide (dev + 4 * len ≤ 0x01000000))

/-- BLD and BST (R150): the transfer starts; BULK_DONE completes it. -/
def Device.bulkStart (d : Device) (e bank v : Nat) (s : Engine) : Device :=
  let g := fun r => s.reg bank r
  let len := (g (bits v 6 5)).toNat % 512
  let mem := s.addrs bank (bits v 16 3) len
  let data := if mvOp v = 15 then mem.map (fun a => d.dmVal e a) else []
  d.setEng e fun s => { s with bulk := some { load := mvOp v == 14, mem := mem, dev := (g (bits v 11 5)).toNat, data := data, at_ := d.clk.now } }

/-- The move slot (R142). -/
def Device.doMove (d : Device) (e bank v : Nat) (s : Engine) : Device :=
  let g := fun r => s.reg bank r
  let op := mvOp v
  let r := bits v 14 5
  let pk := bits v 11 3
  let inc := toS 8 (bits v 3 8)
  let n := if op = 1 ∨ op = 4 then 1 else if op = 2 ∨ op = 5 then 2 else 4
  if op = 0 then d
  else if op ≤ 3 then (d.loadTo e bank (align n r) (s.addrs bank pk n)).setEng e fun s => s.bump bank pk inc
  else if op ≤ 6 then
    let as := s.addrs bank pk n
    let d1 := (as.zip (List.range n)).foldl (fun d x => d.setDm e x.1 (g (align n r + x.2))) d
    d1.setEng e fun s => s.bump bank pk inc
  else if op = 7 then
    let a := bits v 13 3
    let b := bits v 7 3
    let d1 := (d.loadTo e bank (4 * bits v 16 3) (s.addrs bank a 4)).loadTo e bank (4 * bits v 10 3) (s.addrs bank b 4)
    d1.setEng e fun s =>
      let s1 := s.bump bank a (incCode (bits v 4 3))
      if a = b then s1 else s1.bump bank b (incCode (bits v 1 3))
  else if op = 8 then d.fly e 1 bank r (toS 14 (bits v 0 14))
  else if op = 9 then
    let k := bits v 14 3
    let x := (g (bits v 9 5)).toNat % 16384
    d.setEng e fun s =>
      if bits v 17 2 = 0 then { s with p := s.p.upd 0 (bank * 8 + k) fun _ => x }
      else if bits v 17 2 = 1 then { s with b := s.b.upd 0 k fun _ => x }
      else { s with n := s.n.upd 0 k fun _ => x }
  else if op = 10 then
    let k := bits v 9 3
    let x := if bits v 12 2 = 0 then s.p.pick 0 (bank * 8 + k) else if bits v 12 2 = 1 then s.b.pick 0 k else s.n.pick 0 k
    d.fly e 1 bank r (x : Int)
  else if op = 11 then d.stageSlot e ((g r).toNat % 8)
  else if op = 12 then d.ckptSlot e ((g r).toNat % 8)
  else if op = 13 then d.hbeat e (g (align 2 r)) (g (align 2 r + 1))
  else if op = 14 ∨ op = 15 then d.bulkStart e bank v s
  else if op = 17 then d.ledgSend (g (align 2 r)) (g (align 2 r + 1))
  else if op = 18 then d.mbxSend e
  else d

/-- A beat program starts (R160). -/
def Device.progStart (d : Device) (e : Nat) : Device :=
  let n := d.clk.beat
  let d1 := d.setEng e fun s =>
    { s with running := true, startDue := false, beatOf := n, pc := 0, returned := 0, staged := 0, stepCnt := 0 }
  (d1.setDms e 0x3F00 [n % 2 ^ 32, n / 2 ^ 32]).engShow e

/-- END (R164, R170, R24): the wire toggles, the beat's steps are judged, and a program that is due starts at once. -/
def Device.progEnd (d : Device) (e : Nat) : Device :=
  let s := d.eng e
  let d1 := d.setEng e fun s => { s with running := false, wire := !s.wire, ends := if d.hbInTime s.beatOf then (s.beatOf :: s.ends).take 2 else s.ends, peakSteps := max s.peakSteps s.stepCnt }
  let d2 := d1.detect 2 e 2 (decide (d.get (DV_STEPS_ADMITTED e) < s.stepCnt)) s.stepCnt id
  if s.startDue then d2.progStart e else d2

/-- The program counter after a word, and the end of a delay slot (R148, R154). -/
def Device.engAdvance (d : Device) (e : Nat) (delayed : Option (Nat × Nat)) : Device :=
  let step := fun (s : Engine) => { s with issued := s.issued + 1, stepCnt := if s.running then s.stepCnt + 1 else s.stepCnt }
  match delayed with
  | some (1, tgt) =>
    if tgt < 16384 then d.setEng e fun s => { step s with pc := tgt, branch := none }
    else
      -- the return from an event
      let d1 := d.setEng e fun s => { step s with bank := 0, pc := s.retPc, branch := none, idleBelow := false }
      if (d.eng e).startDue && (d.eng e).idleBelow then d1.progStart e else d1
  | some (r, tgt) => d.setEng e fun s => { step s with pc := (s.pc + 1) % 16384, branch := some (r - 1, tgt) }
  | none => d.setEng e fun s => { step s with pc := (s.pc + 1) % 16384 }

/-- A legal word issues (R145): every operand is read before any result lands. -/
def Device.engIssue (d : Device) (e : Nat) (w : BitVec 64) : Device :=
  let s := d.eng e
  let bank := s.bank
  let d1 := (d.doClrf e bank (aluOf w)).doMac e bank (macOf w) (fun r => s.reg bank r)
  let d2 := d1.doAlu e bank (aluOf w) s
  let d3 := d2.doMove e bank (mvOf w) s
  let d4 := d3.engAdvance e s.branch
  (if aluOp (aluOf w) = 27 then d4.progEnd e else d4).engShow e

/-- Does an unmasked event stand before the next word (R152)?  A WAITS in progress is interrupted, other waits are not. -/
def Device.eventDue (d : Device) (e : Nat) : Bool :=
  let s := d.eng e
  s.bank == 0 && !s.flag 0 9 && s.branch.isNone && decide (d.get (DV_EV_PEND e) ≠ 0) &&
    (match s.waiting with
      | some w => aluOp (aluOf w) == 26
      | none => true)

/-- The code with which a word halts the engine at issue (R144, R148, R150, R154), 0 for none. -/
def Device.haltCode (d : Device) (e : Nat) (w : BitVec 64) : Nat :=
  let s := d.eng e
  let op := aluOp (aluOf w)
  let mv := mvOf w
  if !wordLegal w then 1
  else if s.branch.isSome && isControl op then 2
  else if (op = 28 ∧ s.bank = 0) ∨ (op = 27 ∧ s.bank = 1) then 3
  else if (mvOp mv = 14 ∨ mvOp mv = 15) ∧
      bulkOk (s.reg s.bank (bits mv 11 5)).toNat ((s.reg s.bank (bits mv 6 5)).toNat % 512) = false then 6
  else 0

/-- May engine `e` issue a word at all: ACTIVE, not halted, not waiting, in a program or a handler? -/
def Device.engLive (d : Device) (e : Nat) : Bool :=
  let s := d.eng e
  d.role e == rlACTIVE && d.get (DV_STATUS_EXEC e) != exHALTED && (s.running || s.bank == 1) && s.waiting.isNone

/-- Is this the word that the engine fetches from its program memory (R156)? -/
def Device.fetches (d : Device) (e : Nat) (w : BitVec 64) : Bool := (d.eng e).prog.pick 0 (d.eng e).pc == w

/-- A word that may issue reads its data memory words; one that cannot be read halts the engine (R168). -/
def Device.engGo (d : Device) (e : Nat) (w : BitVec 64) : Device :=
  let as := (d.eng e).loads (d.eng e).bank (mvOf w)
  let (bad, d1) := if as.isEmpty then (false, d) else d.tileRead e 0 as
  if bad then d1.engHalt e 5 else d1.engIssue e w

/-- The next word of engine `e`: fetched, checked, and issued or kept waiting (R144–R148, R168). -/
def Device.engWord (d : Device) (e : Nat) (w : BitVec 64) : Device :=
  let (unc, d1) := d.tileRead e 1 [(d.eng e).pc]
  let d2 := d1.engLand e
  match d2.injTake 2 e 1 with
  | some (dt, d3) => let c := dt / 2 ^ 24; d3.engHalt e (if 1 ≤ c ∧ c ≤ 6 then c else 1) true
  | none =>
    if unc then d2.engHalt e 4
    else
      match d2.haltCode e w with
      | 0 =>
        if !d2.engCan e w then (d2.setEng e fun s => { s with waiting := some w }).engShow e
        else d2.engGo e w
      | c => d2.engHalt e c

/-- One instruction command: the engine issues its next word, if it is `w` and nothing stands before it. -/
def Device.issue (d : Device) (e : Nat) (w : BitVec 64) : Device :=
  if d.engLive e && !d.eventDue e && d.fetches e w then d.engWord e w else d

/-- ILLEGAL_WORD (R144): the next word is one that R144 calls illegal. -/
def Device.illegalWord (d : Device) (e : Nat) (w : BitVec 64) : Device := if wordLegal w then d else d.issue e w

/-- A wait that is over: the word that waited issues. -/
def Device.engWake (d : Device) (e : Nat) : Device :=
  match (d.eng e).waiting with
  | none => d
  | some w =>
    if d.role e = rlACTIVE ∧ d.eventDue e = false ∧ d.engCan e w = true then
      (d.setEng e fun s => { s with waiting := none }).engGo e w
    else d

/-! ### Events (R151–R154) -/

/-- An event raised, if the loaded image enables its source. -/
def Device.engEvent (d : Device) (e i : Nat) : Device :=
  if bit (d.get (DV_EV_EV_EN e)) i then d.put (DV_EV_PEND e) (setBit (d.get (DV_EV_PEND e)) i true) else d

/-- The vector of an event source. -/
def eventVector (i : Nat) : Nat := 8 + 4 * i

/-- EVENT_ACCEPT: the lowest pending source is accepted and its vector's word issues in bank 1 (R152, R153). -/
def Device.eventAccept (d : Device) (e : Nat) (w : BitVec 64) : Device :=
  let s := d.eng e
  match (List.range 3).find? (fun i => bit (d.get (DV_EV_PEND e)) i) with
  | none => d
  | some i =>
    if d.role e ≠ rlACTIVE ∨ d.get (DV_STATUS_EXEC e) = exHALTED ∨ d.eventDue e = false then d
    else
      let d1 := (d.put (DV_EV_PEND e) (setBit (d.get (DV_EV_PEND e)) i false)).setEng e fun s =>
        { s with bank := 1, retPc := s.pc, pc := eventVector i, idleBelow := !s.running, waiting := none }
      let d2 := (d1.setDm e 0x3F04 (BitVec.ofNat 32 i)).engShow e
      if s.prog.pick 0 (eventVector i) = w then d2.engWord e w else d

/-! ### The boundary, feedback and D -/

/-- FEEDBACK_COMPLETE (R19, R161): a slot whose budget tick has passed without one is decided missing first. -/
def Device.feedbackComplete (d : Device) (k : Nat) : Device :=
  let d1 := (d.axisChannels k).foldl (fun (d : Device) id =>
    let c := idChain id
    if d.frameOn c ∧ d.nodeBudget c (d.chain c).layout (idNode id) ≤ d.clk.tick then d.slotMissing c (idNode id) else d) d
  if d1.fbComplete k then
    match d1.slotOf k with
    | some (e, j) => if d1.role e = rlACTIVE then (d1.slotReady e j k false).engWake e else d1
    | none => d1
  else d1

/-- At D every assigned slot that is not ready becomes ready with LATE (R161). -/
def Device.engDeadline (d : Device) (e : Nat) : Device :=
  ((List.range 8).foldl (fun d j => let k := d.slotAxis e j; if k = 0xFF then d else d.slotReady e j k true) d).engWake e

/-- The slots of an engine whose axis differs from the previous boundary's. -/
def Device.slotsChanged (d : Device) (e : Nat) : Nat :=
  let old := (d.eng e).slots
  ((List.range 8).map (fun j => if old.getD j 0xFF = d.slotAxis e j then 0 else 2 ^ j)).sum

/-- TIMER events (R151): every PERIOD beats. -/
def Device.engTimer (d : Device) (e : Nat) : Device :=
  let p := d.get (DV_TIMER_PERIOD e)
  if p = 0 then d.setEng e fun s => { s with timer := 0 }
  else if p ≤ (d.eng e).timer + 1 then (d.setEng e fun s => { s with timer := 0 }).engEvent e 2
  else d.setEng e fun s => { s with timer := s.timer + 1 }

/-- The boundary of an ACTIVE engine (R159, R160): inboxes refreshed or carried, the system area, events, and the start of
the beat program. -/
def Device.engBoundary (d : Device) (e : Nat) : Device :=
  if d.role e ≠ rlACTIVE then d
  else
    let s := d.eng e
    let changed := d.slotsChanged e
    let carry := d.carryMask e
    let d1 := d.setEng e fun s => { s with ready := 0, late := 0, carried := 0, carry := carry, slots := (List.range 8).map (fun j => d.slotAxis e j) }
    let d2 := (List.range 8).foldl (fun (d : Device) j =>
      let k := d.slotAxis e j
      if k = 0xFF ∨ bit carry j = true then d else (d.winBoundary e j k false).slotStatus e j false false false) d1
    let d3 := d2.setDm e 0x3F02 (BitVec.ofNat 32 (d.slotMask e + 256 * changed))
    let d4 := if changed ≠ 0 then d3.engEvent e 0 else d3
    let d5 := d4.engTimer e
    if d5.get (DV_STATUS_EXEC e) = exHALTED then d5
    else if s.running ∨ s.bank = 1 then d5.setEng e fun s => { s with startDue := true }
    else d5.progStart e

/-- The pace monitor (R171): the step time of the beat is a measurement the spec leaves free. -/
def Device.engPace (d : Device) (e : Nat) : Device :=
  let (x, d1) := d.fresh
  let st := x.toNat % 65536
  (d1.put (DV_PACE_STEP e) st).setEng e fun s => { s with pacePeak := max s.pacePeak st }

/-- CLEAR_CNT in DV_CLEAR. -/
def Device.dvClear (d : Device) (e : Nat) : Device :=
  let d1 := (((d.wrN (DV_OVR e) 0).put (DV_STEPS_PEAK e) 0).put (DV_PACE_PEAK e) 0).wrN (DV_STICKY e) 0
  d1.setEng e fun s => { s with peakSteps := 0, pacePeak := 0 }

end Sys2Proof.Machine
end

