-- ==== Sys2Proof/Machine/RowsAlu.lean ====
section
/-! DEFINITION. The meanings of the commands of the ALU slot of an instruction word (R136, R141, R148), one per row of the table. -/

namespace Sys2Proof.Machine

/-- NOP (R141): The ALU-slot no-operation. `mac` and `mv` are the two companion slots of the word. -/
def execNop (e : Fin 28) (mac : BitVec 20) (mv : BitVec 24) (s : State) : Host.Outcome State Fault Refusal :=
  .next (s.onDev fun d => d.issue e (wordOf mac.toNat (lowSlot 0 0) mv.toNat))

/-- ADD (R141): Wrapping addition of two general registers. `mac` and `mv` are the two companion slots of the word. -/
def execAdd (e : Fin 28) (rd rs rt : Fin 32) (mac : BitVec 20) (mv : BitVec 24) (s : State) : Host.Outcome State Fault
    Refusal :=
  .next (s.onDev fun d => d.issue e (wordOf mac.toNat (aluSlot 1 rd rs rt) mv.toNat))

/-- SUB (R141): Wrapping subtraction of two general registers. `mac` and `mv` are the two companion slots of the word.
-/
def execSub (e : Fin 28) (rd rs rt : Fin 32) (mac : BitVec 20) (mv : BitVec 24) (s : State) : Host.Outcome State Fault
    Refusal :=
  .next (s.onDev fun d => d.issue e (wordOf mac.toNat (aluSlot 2 rd rs rt) mv.toNat))

/-- SADD (R141): Saturating addition of two general registers. `mac` and `mv` are the two companion slots of the word.
-/
def execSadd (e : Fin 28) (rd rs rt : Fin 32) (mac : BitVec 20) (mv : BitVec 24) (s : State) : Host.Outcome State
    Fault Refusal :=
  .next (s.onDev fun d => d.issue e (wordOf mac.toNat (aluSlot 3 rd rs rt) mv.toNat))

/-- SSUB (R141): Saturating subtraction of two general registers. `mac` and `mv` are the two companion slots of the
word. -/
def execSsub (e : Fin 28) (rd rs rt : Fin 32) (mac : BitVec 20) (mv : BitVec 24) (s : State) : Host.Outcome State
    Fault Refusal :=
  .next (s.onDev fun d => d.issue e (wordOf mac.toNat (aluSlot 4 rd rs rt) mv.toNat))

/-- AND (R141): Bitwise AND of two general registers. `mac` and `mv` are the two companion slots of the word. -/
def execAnd32 (e : Fin 28) (rd rs rt : Fin 32) (mac : BitVec 20) (mv : BitVec 24) (s : State) : Host.Outcome State
    Fault Refusal :=
  .next (s.onDev fun d => d.issue e (wordOf mac.toNat (aluSlot 5 rd rs rt) mv.toNat))

/-- OR (R141): Bitwise OR of two general registers. `mac` and `mv` are the two companion slots of the word. -/
def execOr32 (e : Fin 28) (rd rs rt : Fin 32) (mac : BitVec 20) (mv : BitVec 24) (s : State) : Host.Outcome State
    Fault Refusal :=
  .next (s.onDev fun d => d.issue e (wordOf mac.toNat (aluSlot 6 rd rs rt) mv.toNat))

/-- XOR (R141): Bitwise XOR of two general registers. `mac` and `mv` are the two companion slots of the word. -/
def execXor (e : Fin 28) (rd rs rt : Fin 32) (mac : BitVec 20) (mv : BitVec 24) (s : State) : Host.Outcome State Fault
    Refusal :=
  .next (s.onDev fun d => d.issue e (wordOf mac.toNat (aluSlot 7 rd rs rt) mv.toNat))

/-- SHL (R141): Left shift of a general register. `mac` and `mv` are the two companion slots of the word. -/
def execShl (e : Fin 28) (rd rs rt : Fin 32) (mac : BitVec 20) (mv : BitVec 24) (s : State) : Host.Outcome State Fault
    Refusal :=
  .next (s.onDev fun d => d.issue e (wordOf mac.toNat (aluSlot 8 rd rs rt) mv.toNat))

/-- SHR (R141): Logical right shift of a general register. `mac` and `mv` are the two companion slots of the word. -/
def execShr (e : Fin 28) (rd rs rt : Fin 32) (mac : BitVec 20) (mv : BitVec 24) (s : State) : Host.Outcome State Fault
    Refusal :=
  .next (s.onDev fun d => d.issue e (wordOf mac.toNat (aluSlot 9 rd rs rt) mv.toNat))

/-- SAR (R141): Arithmetic right shift of a general register. `mac` and `mv` are the two companion slots of the word.
-/
def execSar (e : Fin 28) (rd rs rt : Fin 32) (mac : BitVec 20) (mv : BitVec 24) (s : State) : Host.Outcome State Fault
    Refusal :=
  .next (s.onDev fun d => d.issue e (wordOf mac.toNat (aluSlot 10 rd rs rt) mv.toNat))

/-- MIN (R141): Signed minimum of two general registers. `mac` and `mv` are the two companion slots of the word. -/
def execMin (e : Fin 28) (rd rs rt : Fin 32) (mac : BitVec 20) (mv : BitVec 24) (s : State) : Host.Outcome State Fault
    Refusal :=
  .next (s.onDev fun d => d.issue e (wordOf mac.toNat (aluSlot 11 rd rs rt) mv.toNat))

/-- MAX (R141): Signed maximum of two general registers. `mac` and `mv` are the two companion slots of the word. -/
def execMax (e : Fin 28) (rd rs rt : Fin 32) (mac : BitVec 20) (mv : BitVec 24) (s : State) : Host.Outcome State Fault
    Refusal :=
  .next (s.onDev fun d => d.issue e (wordOf mac.toNat (aluSlot 12 rd rs rt) mv.toNat))

/-- CLAMP (R141): Clamps a register to plus or minus a non-negative limit. `mac` and `mv` are the two companion slots
of the word. -/
def execClamp (e : Fin 28) (rd rs rt : Fin 32) (mac : BitVec 20) (mv : BitVec 24) (s : State) : Host.Outcome State
    Fault Refusal :=
  .next (s.onDev fun d => d.issue e (wordOf mac.toNat (aluSlot 13 rd rs rt) mv.toNat))

/-- ABS (R141): Saturating absolute value of a register. `mac` and `mv` are the two companion slots of the word. -/
def execAbs (e : Fin 28) (rd rs : Fin 32) (mac : BitVec 20) (mv : BitVec 24) (s : State) : Host.Outcome State Fault
    Refusal :=
  .next (s.onDev fun d => d.issue e (wordOf mac.toNat (aluSlot 14 rd rs 0) mv.toNat))

/-- CMP (R141): Sets the flags from a subtraction without writing a register. `mac` and `mv` are the two companion
slots of the word. -/
def execCmp (e : Fin 28) (rs rt : Fin 32) (mac : BitVec 20) (mv : BitVec 24) (s : State) : Host.Outcome State Fault
    Refusal :=
  .next (s.onDev fun d => d.issue e (wordOf mac.toNat (aluSlot 15 0 rs rt) mv.toNat))

/-- ADDI (R141): Adds a sign-extended immediate to a register. `mac` and `mv` are the two companion slots of the word.
-/
def execAddi (e : Fin 28) (rd : Fin 32) (imm : BitVec 10) (mac : BitVec 20) (mv : BitVec 24) (s : State) :
    Host.Outcome State Fault Refusal :=
  .next (s.onDev fun d => d.issue e (wordOf mac.toNat (addiSlot rd imm.toNat) mv.toNat))

/-- NRW (R136): Narrows an accumulator by an immediate shift into a register. `mac` and `mv` are the two companion
slots of the word. -/
def execNrw (e : Fin 28) (rd : Fin 32) (a : Fin 4) (sh : Fin 64) (mac : BitVec 20) (mv : BitVec 24) (s : State) :
    Host.Outcome State Fault Refusal :=
  .next (s.onDev fun d => d.issue e (wordOf mac.toNat (nrwSlot 17 rd a sh 2) mv.toNat))

/-- NRWR (R136): Narrows an accumulator by a register-held shift into a register. `mac` and `mv` are the two companion
slots of the word. -/
def execNrwr (e : Fin 28) (rd : Fin 32) (a : Fin 4) (rs : Fin 32) (mac : BitVec 20) (mv : BitVec 24) (s : State) :
    Host.Outcome State Fault Refusal :=
  .next (s.onDev fun d => d.issue e (wordOf mac.toNat (nrwSlot 18 rd a rs 3) mv.toNat))

/-- BRA (R148): Branches always after two delay slots. `mac` and `mv` are the two companion slots of the word. -/
def execBra (e : Fin 28) (target : BitVec 14) (mac : BitVec 20) (mv : BitVec 24) (s : State) : Host.Outcome State
    Fault Refusal :=
  .next (s.onDev fun d => d.issue e (wordOf mac.toNat (tgtSlot 19 target.toNat) mv.toNat))

/-- BEQ (R148): Branches if Z is set. `mac` and `mv` are the two companion slots of the word. -/
def execBeq (e : Fin 28) (target : BitVec 14) (mac : BitVec 20) (mv : BitVec 24) (s : State) : Host.Outcome State
    Fault Refusal :=
  .next (s.onDev fun d => d.issue e (wordOf mac.toNat (tgtSlot 20 target.toNat) mv.toNat))

/-- BNE (R148): Branches if Z is clear. `mac` and `mv` are the two companion slots of the word. -/
def execBne (e : Fin 28) (target : BitVec 14) (mac : BitVec 20) (mv : BitVec 24) (s : State) : Host.Outcome State
    Fault Refusal :=
  .next (s.onDev fun d => d.issue e (wordOf mac.toNat (tgtSlot 21 target.toNat) mv.toNat))

/-- BLT (R148): Branches if N differs from V. `mac` and `mv` are the two companion slots of the word. -/
def execBlt (e : Fin 28) (target : BitVec 14) (mac : BitVec 20) (mv : BitVec 24) (s : State) : Host.Outcome State
    Fault Refusal :=
  .next (s.onDev fun d => d.issue e (wordOf mac.toNat (tgtSlot 22 target.toNat) mv.toNat))

/-- BGE (R148): Branches if N equals V. `mac` and `mv` are the two companion slots of the word. -/
def execBge (e : Fin 28) (target : BitVec 14) (mac : BitVec 20) (mv : BitVec 24) (s : State) : Host.Outcome State
    Fault Refusal :=
  .next (s.onDev fun d => d.issue e (wordOf mac.toNat (tgtSlot 23 target.toNat) mv.toNat))

/-- CALL (R148): Stores the return address in g31 and branches. `mac` and `mv` are the two companion slots of the
word. -/
def execCall (e : Fin 28) (target : BitVec 14) (mac : BitVec 20) (mv : BitVec 24) (s : State) : Host.Outcome State
    Fault Refusal :=
  .next (s.onDev fun d => d.issue e (wordOf mac.toNat (tgtSlot 24 target.toNat) mv.toNat))

/-- RET (R148): Branches to the address in g31. `mac` and `mv` are the two companion slots of the word. -/
def execRet (e : Fin 28) (mac : BitVec 20) (mv : BitVec 24) (s : State) : Host.Outcome State Fault Refusal :=
  .next (s.onDev fun d => d.issue e (wordOf mac.toNat (lowSlot 25 0) mv.toNat))

/-- WAITS (R161): Waits for a ready unreturned slot and returns its number, or 8 when all are returned. `mac` and `mv`
are the two companion slots of the word. -/
def execWaits (e : Fin 28) (rd : Fin 32) (mac : BitVec 20) (mv : BitVec 24) (s : State) : Host.Outcome State Fault
    Refusal :=
  .next (s.onDev fun d => d.issue e (wordOf mac.toNat (aluSlot 26 rd 0 0) mv.toNat))

/-- END (R164): Ends the beat program, toggles the heartbeat wire and leaves the engine idle. `mac` and `mv` are the
two companion slots of the word. -/
def execEndProgram (e : Fin 28) (mac : BitVec 20) (mv : BitVec 24) (s : State) : Host.Outcome State Fault Refusal :=
  .next (s.onDev fun d => d.issue e (wordOf mac.toNat (lowSlot 27 0) mv.toNat))

/-- RETE (R154): Returns from an event handler to bank 0. `mac` and `mv` are the two companion slots of the word. -/
def execRete (e : Fin 28) (mac : BitVec 20) (mv : BitVec 24) (s : State) : Host.Outcome State Fault Refusal :=
  .next (s.onDev fun d => d.issue e (wordOf mac.toNat (lowSlot 28 0) mv.toNat))

/-- EMASK (R152): Masks or unmasks events. `mac` and `mv` are the two companion slots of the word. -/
def execEmask (e : Fin 28) (m : Bool) (mac : BitVec 20) (mv : BitVec 24) (s : State) : Host.Outcome State Fault
    Refusal :=
  .next (s.onDev fun d => d.issue e (wordOf mac.toNat (lowSlot 29 (b2n m)) mv.toNat))

/-- CLRF (R141): Clears selected sticky flags. `mac` and `mv` are the two companion slots of the word. -/
def execClrf (e : Fin 28) (mask : BitVec 4) (mac : BitVec 20) (mv : BitVec 24) (s : State) : Host.Outcome State Fault
    Refusal :=
  .next (s.onDev fun d => d.issue e (wordOf mac.toNat (lowSlot 30 mask.toNat) mv.toNat))

end Sys2Proof.Machine
end

