-- ==== Sys2Proof/Machine/RowsAxis.lean ====
section
/-! DEFINITION. The meanings of the commands of enabling, disabling and the loop parameters of an axis (R119–R125), one per row of the table. -/

namespace Sys2Proof.Machine

/-- OFF_DELAY_ELAPSED (R125): OFF_DELAY beats after rest, bridge-off is staged and applied, and STATE becomes OFF. -/
def execOffDelayElapsed (k : Fin 192) (s : State) : Host.Outcome State Fault Refusal :=
  .next (s.onDev fun d => d.offDelay k)

/-- ENABLE_REQUEST (R121): A write of EN = 1 checks the enable conditions and starts the enable sequence or refuses
it. `rest` is bits 31 to 1 of the word written to AX_CTRL. -/
def execEnableRequest (k : Fin 192) (rest : BitVec 31) (s : State) : Host.Outcome State Fault Refusal :=
  .next (s.onDev fun d => d.axCtrlWrite k (1 + 2 * rest.toNat))

/-- DISABLE_REQUEST (R124): A write of EN = 0 starts the disable reaction, ends an enabling, or withdraws a pending
enable. `rest` is bits 31 to 1 of the word written to AX_CTRL. -/
def execDisableRequest (k : Fin 192) (rest : BitVec 31) (s : State) : Host.Outcome State Fault Refusal :=
  .next (s.onDev fun d => d.axCtrlWrite k (2 * rest.toNat))

/-- BRAKE_REL_ELAPSED (R122): BRAKE_REL beats after the brake is energised, alignment starts or STATE becomes RUN and
ENABLED is raised. -/
def execBrakeRelElapsed (k : Fin 192) (s : State) : Host.Outcome State Fault Refusal :=
  .next (s.onDev fun d => d.brakeRel k)

/-- ALIGNMENT_END (R123): After ALIGN_BEATS the stock loop sets COMM_OFF, sets COMM_VALID, raises ALIGN_DONE and the
axis enters RUN. -/
def execAlignmentEnd (k : Fin 192) (s : State) : Host.Outcome State Fault Refusal :=
  .next (s.onDev fun d => d.alignEnd k)

/-- PARAM_COMMIT (R119): COMMIT in AX_LP_COMMIT checks the shadow loop parameters and applies them at the next
boundary, or refuses them. -/
def execParamCommit (k : Fin 192) (s : State) : Host.Outcome State Fault Refusal :=
  .next (s.onDev fun d => d.paramCommit k)

/-- CLEAR_INT (R119): CLEAR_INT in AX_LP_COMMIT clears I_v, I_d and I_q at the next boundary. -/
def execClearInt (k : Fin 192) (s : State) : Host.Outcome State Fault Refusal :=
  .next (s.onDev fun d => d.clearInt k)

end Sys2Proof.Machine
end

