-- ==== Sys2Proof/Machine/Time.lean ====
section
/-! DEFINITION. Device time, its servo and its references (R454–R474).  Times are in ns, PTP stamps in 2⁻¹⁶ ns, rates in
2⁻¹⁶ ppm and offsets in 1/1680 of 2⁻¹⁶ ns, so that the mean of R458 stays whole. -/

namespace Sys2Proof.Machine

/-- Device time in ns at this tick (R454). -/
def Device.timeNs (d : Device) : Nat := (d.tm.off + 10 * (d.clk.now : Int)).toNat

/-- Device time at `sub`/64 of a tick after this one, in 2⁻¹⁶ ns. -/
def Device.time16 (d : Device) (sub : Nat) : Int := (d.tm.off + 10 * (d.clk.now : Int)) * 65536 + ((sub * 10240 : Nat) : Int)

/-- One second in ns. -/
def oneSec : Nat := 1000000000

/-- A Time112 as its words SEC_LO, SEC_HI, NS, FRAC (R2). -/
def time112 (t16 : Nat) : List Nat :=
  let ns := t16 / 65536
  [ns / oneSec % 2 ^ 32, ns / oneSec / 2 ^ 32 % 2 ^ 32, ns % oneSec, t16 % 65536]

/-- A stamp stored in the four registers of a Time112 group. -/
def Device.wrTime (d : Device) (a : Nat) (t16 : Int) : Device :=
  (((time112 t16.toNat).zip [0, 4, 8, 12]).foldl (fun (d : Device) x => d.wrN (a + x.2) x.1) d)

/-- A quotient whose rounding the spec leaves open: a free bit picks the integer below or the one above. -/
def Device.freeDiv (d : Device) (num : Int) (den : Nat) : Int × Device :=
  let q := num / (den : Int)
  if num % (den : Int) = 0 then (q, d)
  else
    let (v, d1) := d.fresh
    (q + ((v.toNat % 2 : Nat) : Int), d1)

/-- The time unit's hidden state changed. -/
def Device.setTm (d : Device) (f : Tm → Tm) : Device := { d with tm := f d.tm }

/-- The clock state: 0 FREE, 1 LOCKING, 2 LOCKED, 3 HOLDOVER (R459). -/
def Device.tmState (d : Device) : Nat := d.get TB_TM_STATUS_STATE

/-- SOURCE of TB_TM_CTRL; 3 is taken as 0. -/
def Device.tmSource (d : Device) : Nat := d.get TB_TM_CTRL_SOURCE % 3

/-- F and S set, and shown in TB_TM_RATE and TB_TM_FREQ (R455). -/
def Device.tmRates (d : Device) (f s : Int) : Device :=
  ((d.setTm fun t => { t with f := f, s := s }).wrN TB_TM_RATE (ofS 32 (f + s))).wrN TB_TM_FREQ (ofS 32 f)

/-- A rate clamped to a number of ppm. -/
def ppm (n : Int) (x : Int) : Int := clampI (-(n * 65536)) (n * 65536) x

/-! ### References (R469–R471) -/

/-- May a reference be used: permitted by REF_SEL, neither failed nor fenced? -/
def Device.refUsable (d : Device) (r : Nat) : Bool :=
  let sel := d.get TB_TM_CTRL_REF_SEL % 3
  !bit d.tm.refFailed r && !bit d.tm.refFenced r && (sel == 0 || sel == r + 1)

/-- The error of a reference against the clock, in 0.01 ppm. -/
def Device.refErr (d : Device) (r : Nat) : Int := if r = 0 then d.getS TB_REF_ERR_REFA else d.getS TB_REF_ERR_REFB

/-- The time base continues from reference `r`, with F corrected by the measured difference (R470). -/
def Device.refSwitch (d : Device) (r : Nat) : Device :=
  let old := d.get TB_TM_STATUS_REF
  if old = r then d.put TB_TM_STATUS_NO_REF 0
  else
    let (df, d1) := d.freeDiv ((d.refErr old - d.refErr r) * 65536) 100
    (((d1.put TB_TM_STATUS_REF r).put TB_TM_STATUS_NO_REF 0).raise TB_TM_EVENT_REF_SWITCH).tmRates (ppm 200 (d1.tm.f + df)) d1.tm.s

/-- The reference in use chosen again: it stays while it is usable, else the other takes over, else there is none. -/
def Device.refChoose (d : Device) : Device :=
  let r := d.get TB_TM_STATUS_REF
  if d.refUsable r then d.put TB_TM_STATUS_NO_REF 0
  else if d.refUsable (1 - r) then d.refSwitch (1 - r)
  else d.put TB_TM_STATUS_NO_REF 1

/-- REF_FAIL (R470): reference `r` fails with a frequency error in ppm. -/
def Device.refFail (d : Device) (r : Nat) (err : Int) (injected : Bool := false) : Device :=
  if bit d.tm.refFailed r then d
  else ((d.setTm fun t => { t with refFailed := setBit t.refFailed r true }).msg 13 r 1 (ofS 32 err) injected).refChoose

/-- A reference fenced or retired by the ledger (R362). -/
def Device.refFence (d : Device) (r : Nat) : Device :=
  (d.setTm fun t => { t with refFenced := setBit t.refFenced r true }).refChoose

/-- A reference recovers (R363, R471): it becomes the spare. -/
def Device.refRecover (d : Device) (r : Nat) : Device :=
  (d.setTm fun t => { t with refFenced := setBit t.refFenced r false, refFailed := setBit t.refFailed r false }).refChoose

/-- Injections of NET_REF_FAIL (R371): the references are watched all the time. -/
def Device.refInject (d : Device) : Device :=
  [0, 1].foldl (fun (d : Device) r =>
    match d.injTake 13 r 1 with
    | some (dt, d1) => d1.refFail r (toS 32 dt) true
    | none => d) d

/-! ### Qualification (R462) -/

/-- The latest offset in ns as NET_LOCK_LOST reports it. -/
def Device.tmOffsetNs (d : Device) : Nat := d.rdN TB_TM_OFFSET

/-- Device time becomes qualified. -/
def Device.tmQualify (d : Device) : Device :=
  (((d.put TB_TM_STATUS_STATE 2).put TB_TM_STATUS_QUALIFIED 1).raise TB_TM_EVENT_LOCKED).setTm fun t =>
    { t with recovering := false, bad := 0, qualAt := if d.has TB_TM_STATUS_QUALIFIED then t.qualAt else d.clk.now }

/-- Qualification is lost: alignment ends with it (R28), and recovery begins (R465). -/
def Device.tmLose (d : Device) (injected : Bool := false) (detail : Option Nat := none) : Device :=
  let d1 := (d.put TB_TM_STATUS_QUALIFIED 0).raise TB_TM_EVENT_QUAL_LOST
  let d2 := if d.tmState = 3 then d1 else d1.put TB_TM_STATUS_STATE 1
  let d3 := (d2.put TB_PHASE_ERR_ERR 0).put TB_STATUS_TRIMMING 0
  (d3.msg 13 0x20 3 (detail.getD d.tmOffsetNs) injected).setTm fun t => { t with recovering := true, good := 0, bad := 0 }

/-! ### Offsets, the first lock and the servo (R458–R463) -/

/-- The unit of offsets in 1 ns. -/
def offUnit : Nat := 1680 * 65536

/-- The offset of R458 from a Sync's t₁, t₂ and c_s with the mean of the latest delays. -/
def Device.tmOffset (d : Device) (t1 t2 c : Int) : Int :=
  let n := d.tm.delays.length
  (t2 - t1 - c) * 1680 - d.tm.delays.foldl (· + ·) 0 * ((840 / n : Nat) : Int)

/-- −o rounded to the nearest 10 ns, in ns; a free bit decides between two that are equally near. -/
def Device.stepOf (d : Device) (o : Int) : Int × Device :=
  let u := 10 * offUnit
  let q := (2 * -o + (u : Int)) / ((2 * u : Nat) : Int)
  if (2 * -o + (u : Int)) % ((2 * u : Nat) : Int) = 0 then
    let (v, d1) := d.fresh
    (10 * (q - ((v.toNat % 2 : Nat) : Int)), d1)
  else (10 * q, d)

/-- The frequency estimate of R460 in 2⁻¹⁶ ppm from the first and last of its stamps; a free value where t₁ stood still. -/
def Device.freqOf (d : Device) (dt1 dt2 : Int) : Int × Device :=
  let num := -(dt2 - dt1) * (1000000 * 65536)
  if dt1 = 0 then
    let (v, d1) := d.fresh
    (toS 32 v.toNat, d1)
  else d.freeDiv (if dt1 < 0 then -num else num) dt1.natAbs

/-- R460: the estimate of F taken, or the reference in use failed where it exceeds 200 ppm (`false`). -/
def Device.tmFirstF (d : Device) (dt1 dt2 : Int) : Bool × Device :=
  let (est, d1) := d.freqOf dt1 dt2
  if 200 * 65536 < est.natAbs then
    let (p, d2) := d1.freeDiv est 65536
    (false, (d2.setTm fun t => { t with firsts := [] }).refFail (d.get TB_TM_STATUS_REF) p)
  else (true, d1.tmRates (ppm 200 est) d1.tm.s)

/-- The first lock taken (R460): STATE LOCKING, and the step waits for the boundary. -/
def Device.tmLocked (d : Device) (step : Int) : Device :=
  (((d.put TB_TM_STATUS_STEPPED 1).raise TB_TM_EVENT_STEPPED).put TB_TM_STATUS_STATE 1).setTm fun t =>
    { t with step := some step, good := 0, bad := 0 }

/-- An offset after the first lock (R461–R463): F and S, OFFSET_BIG, the runs of R462 and the end of a holdover. -/
def Device.tmServo (d : Device) (o : Int) (interval : Nat) : Device :=
  let den := max 1 interval * offUnit
  let (s, d1) := d.freeDiv (-((d.get TB_TM_SERVO_KP : Nat) : Int) * o * 1000000) den
  let (f, d2) := d1.freeDiv (-((d.get TB_TM_SERVO_KI : Nat) : Int) * o * 1000000) den
  let d3 := (d2.tmRates (ppm 200 (d.tm.f + f)) (ppm 500 s)).put TB_TM_STATUS_OFFSET_BIG (b2n (decide (1000000 * offUnit < o.natAbs)))
  let q := d.get TB_TM_QUAL_QUAL_NS * offUnit
  let good := if o.natAbs ≤ q then d.tm.good + 1 else 0
  let bad := if 4 * q < o.natAbs then d.tm.bad + 1 else 0
  let d4 := d3.setTm fun t => { t with good := good, bad := bad }
  let qual := d.has TB_TM_STATUS_QUALIFIED
  let d5 := if d.tmState = 3 then d4.put TB_TM_STATUS_STATE (if qual then 2 else 1) else d4
  let cnt := max 1 (d.get TB_TM_CTRL_QUAL_CNT)
  if !qual && decide (cnt ≤ good) then d5.tmQualify
  else if qual then
    if cnt ≤ bad then d5.tmLose
    else
      match d5.injTake 13 0x20 3 with
      | some (dt, d6) => d6.tmLose true (some dt)
      | none => d5
  else d5

/-- A valid offset from a time source (R460, R461), with t₁ and t₂ of its Sync. -/
def Device.tmValid (d : Device) (o t1 t2 : Int) (interval : Nat) : Device :=
  if d.tm.step.isSome then d
  else
    let (ns, d1) := d.freeDiv o offUnit
    let d2 := (d1.wrN TB_TM_OFFSET (ofS 32 (satS 32 ns)))
    if d.tmState = 0 then
      let firsts := d.tm.firsts ++ [(t1, t2)]
      match firsts with
      | [a, _, _, z] =>
        let (ok, d3) := d2.tmFirstF (z.1 - a.1) (z.2 - a.2)
        if ok then
          let (st, d4) := d3.stepOf o
          (d4.setTm fun t => { t with firsts := [] }).tmLocked st
        else d3
      | _ => d2.setTm fun t => { t with firsts := firsts }
    else d2.tmServo o interval

/-! ### Steps and TIME_SET (R454, R460, R464, R510) -/

/-- TB_SYNC_AT in ns. -/
def Device.syncAtNs (d : Device) : Nat := (d.rdN TB_SYNC_AT_SEC_LO + 2 ^ 32 * d.rdN TB_SYNC_AT_SEC_HI) * oneSec + d.rdN TB_SYNC_AT_NS

/-- SYNC_OUT goes active for SYNC_W ticks (R474). -/
def Device.syncPulse (d : Device) : Device :=
  d.setTm fun t => { t with syncOut := true, syncEnd := d.clk.now + max 2 (d.get TB_SYNC_CTRL_SYNC_W) }

/-- SYNC_MATCH (R474): device time has reached TB_SYNC_AT. -/
def Device.syncMatch (d : Device) : Device :=
  if d.get TB_SYNC_CTRL_OUT_MODE = 2 ∧ d.tm.matched = false ∧ d.syncAtNs ≤ d.timeNs then
    (d.syncPulse.raise TB_TM_EVENT_SYNC_MATCH).setTm fun t => { t with matched := true }
  else d

/-- A pending reference message that is sent after a step of device time: STEPPED is set and PREV_DELAY is all ones (R509,
R510).  Its last four bytes are PREV_DELAY in both formats. -/
def refStepped (bs : List (BitVec 8)) : List (BitVec 8) :=
  let n := bs.length - 4
  ((bs.take n).mapIdx fun i b => if i = 1 then b ||| 0x40 else b) ++ List.replicate (bs.length - n) 0xFF

/-- Device time moved by a step at a boundary; exchanges in progress are discarded, the grid of the CAN cycles moves with
it, and a step past TB_SYNC_AT fires its pulse. -/
def Device.timeStep (d : Device) (delta : Int) : Device :=
  let d1 := d.setTm fun t => { t with off := t.off + delta, step := none, set := none, req := none, two := none, sync := none }
  let cans := [0, 1].foldl (fun (m : Store Can) b => m.upd {} b fun c =>
    { c with stepped := true, cycleAt := (((c.cycleAt : Nat) : Int) + delta).toNat, ref := c.ref.map refStepped,
             stepNs := d1.timeNs }) d1.cans
  let d2 := { d1 with cans := cans }
  (d2.setTm fun t => { t with secDone := d2.timeNs / oneSec }).syncMatch

/-- TIME_STEP: a step or a TIME_SET that waits takes effect at the boundary. -/
def Device.timeBoundary (d : Device) : Device :=
  match d.tm.set, d.tm.step with
  | some ns, _ => d.timeStep (((ns / 10 * 10 : Nat) : Int) - (d.tm.off + 10 * (d.clk.now : Int)))
  | none, some x => d.timeStep x
  | none, none => d

/-- TB_TM_SET in whole seconds. -/
def Device.tmSetSec (d : Device) : Nat := d.rdN TB_TM_SET_SEC_LO + 2 ^ 32 * d.rdN TB_TM_SET_SEC_HI

/-- TIME_SET in TB_TM_CMD (R464). -/
def Device.timeSet (d : Device) : Device :=
  if d.tmState ≠ 0 then d.refuse TB_TM_STATUS_REFUSE_LAST TB_TM_EVENT_REFUSED 1
  else if d.tmSource = 2 then d.setTm fun t => { t with armed := true }
  else d.setTm fun t => { t with set := some (d.tmSetSec * oneSec + d.rdN TB_TM_SET_NS) }

/-- TIME_RESET in TB_TM_CMD (R464). -/
def Device.timeReset (d : Device) : Device :=
  let d1 := (((d.put TB_TM_STATUS_STATE 0).put TB_TM_STATUS_QUALIFIED 0).put TB_TM_STATUS_STEPPED 0).put TB_TM_STATUS_OFFSET_BIG 0
  let d2 := ((d1.put TB_PHASE_ERR_ERR 0).put TB_STATUS_TRIMMING 0).tmRates 0 0
  (d2.msg 13 0x20 3 d.tmOffsetNs).setTm fun t =>
    { t with firsts := [], step := none, armed := false, good := 0, bad := 0, recovering := t.recovering || d.has TB_TM_STATUS_QUALIFIED }

/-- TB_TM_CMD written. -/
def Device.tmCmdWrite (d : Device) (v : Nat) : Device :=
  match bits v 0 2 with
  | 0 => d
  | 1 => d.timeSet
  | 2 => d.timeReset
  | _ => d.refuse TB_TM_STATUS_REFUSE_LAST TB_TM_EVENT_REFUSED 2

/-- TB_TM_CTRL written: REF_SEL may change the reference in use (R469). -/
def Device.tmCtrlWrite (d : Device) (v : Nat) : Device := (d.wrN TB_TM_CTRL (andN v 0x00FF0737)).refChoose

/-- SYNC_OUT's settings written: a new TB_SYNC_AT or OUT_MODE arms the pulse again (R474); a TB_SYNC_AT that device time
has passed is not reached any more. -/
def Device.syncArm (d : Device) (f : Device → Device) : Device :=
  let d1 := f d
  d1.setTm fun t => { t with matched := decide (d1.syncAtNs ≤ d1.timeNs) }

/-! ### Holdover (R462, R463) -/

/-- Holdover begins. -/
def Device.holdover (d : Device) : Device :=
  (((d.put TB_TM_STATUS_STATE 3).raise TB_TM_EVENT_HOLDOVER).tmRates d.tm.f 0).setTm fun t => { t with holdAt := d.clk.now, two := none }

/-- Has the time source been silent for three Sync intervals, or 2.5 s with SOURCE 2? -/
def Device.sourceSilent (d : Device) : Bool :=
  if d.tmSource = 2 then decide (d.tm.syncAt + 250000000 ≤ d.clk.now)
  else decide (3 * d.tm.interval ≤ 10 * (d.clk.now - d.tm.syncAt))

/-- HOLD_QUAL_TIMEOUT (R462): holdover has lasted HOLD_QUAL seconds. -/
def Device.holdQualTimeout (d : Device) : Device :=
  if d.tmState = 3 ∧ d.has TB_TM_STATUS_QUALIFIED = true ∧ d.tm.holdAt + d.get TB_TM_QUAL_HOLD_QUAL * 100000000 ≤ d.clk.now then
    d.tmLose
  else d

/-- TB_TM_HOLD as it reads: whole seconds of the present holdover. -/
def Device.holdSecs (d : Device) : Nat := if d.tmState = 3 then min (2 ^ 32 - 1) ((d.clk.now - d.tm.holdAt) / 100000000) else 0

/-! ### PPS and SYNC inputs (R472–R474) -/

/-- PPS_IN: a rising edge `sub`/64 of a tick after this one (R473). -/
def Device.ppsIn (d : Device) (sub : Nat) : Device :=
  let t2 := d.time16 sub
  let raw : Int := 10 * (d.clk.now : Int) * 65536 + ((sub * 10240 : Nat) : Int)
  let d1 := ((d.wrTime TB_PPS_IN_SEC_LO t2).raise TB_TM_EVENT_PPS_IN)
  if d.tmSource ≠ 2 then d1
  else
    let sec16 : Nat := oneSec * 65536
    let near := (2 * t2 + (sec16 : Int)) / ((2 * sec16 : Nat) : Int) * (sec16 : Int)
    let d2 := d1.setTm fun t => { t with syncAt := d.clk.now, interval := oneSec }
    if d.tmState = 0 then
      if d.tm.armed then
        let (st, d3) := d2.stepOf ((t2 - ((d.tmSetSec * sec16 : Nat) : Int)) * 1680)
        (d3.setTm fun t => { t with armed := false, firsts := [(0, raw)] }).tmLocked st
      else d2
    else
      match d.tm.firsts with
      | [] => d2.tmValid ((t2 - near) * 1680) near t2 oneSec
      | [a, b, c] => ((d2.setTm fun t => { t with firsts := [a, b, c] }).tmFirstF ((3 * sec16 : Nat) : Int) (raw - a.2)).2.setTm fun t =>
          { t with firsts := [] }
      | l => d2.setTm fun t => { t with firsts := l ++ [(0, raw)] }

/-- SYNC_IN: a rising edge `sub`/64 of a tick after this one (R474). -/
def Device.syncIn (d : Device) (sub : Nat) : Device :=
  if d.has TB_SYNC_CTRL_IN_EN then
    ((d.wrTime TB_SYNC_IN_SEC_LO (d.time16 sub)).raise TB_TM_EVENT_SYNC_IN).wrN TB_SYNC_CNT (d.rdN TB_SYNC_CNT + 1)
  else d

/-- PPS_OUT_END (R472). -/
def Device.ppsOutEnd (d : Device) : Device :=
  if d.tm.ppsOut = true ∧ d.tm.ppsEnd ≤ d.clk.now then d.setTm fun t => { t with ppsOut := false } else d

/-- SYNC_OUT_END (R474). -/
def Device.syncOutEnd (d : Device) : Device :=
  if d.tm.syncOut = true ∧ d.tm.syncEnd ≤ d.clk.now then d.setTm fun t => { t with syncOut := false } else d

/-- SYNC_OUT at tick 0 with OUT_MODE 1 (R474). -/
def Device.syncBeat (d : Device) : Device :=
  if d.get TB_SYNC_CTRL_OUT_MODE = 1 ∧ d.clk.beat % max 1 (d.get TB_SYNC_CTRL_SYNC_DIV) = 0 then d.syncPulse else d

/-! ### Whole seconds (R28, R467, R471, R472) -/

/-- How many ticks ago the latest whole second of device time was. -/
def Device.secondAge (d : Device) : Nat := d.timeNs % oneSec / 10

/-- The alignment error in ticks that a whole second finds (R28): how far the boundaries lie behind it, counted without
the ticks that are still to be cut from the present beat, which the error includes. -/
def Device.phaseErr (d : Device) : Nat :=
  if (d.ago d.secondAge).2 = 0 then 0
  else if d.secondAge ≤ d.clk.tick then (d.clk.len - (d.clk.tick - d.secondAge)) % d.clk.len
  else (d.secondAge - d.clk.tick) % d.clk.len

/-- Alignment reached (R28). -/
def Device.aligned (d : Device) : Device :=
  let d1 := (d.put TB_STATUS_TRIMMING 0).put TB_PHASE_ERR_ERR 0
  if d.has TB_STATUS_ALIGNED then d1 else (d1.put TB_STATUS_ALIGNED 1).raise TB_EVENT_ALIGN_DONE

/-- The comparison of a whole second with the beat boundaries (R28). -/
def Device.alignCheck (d : Device) : Device :=
  let d1 := if (d.ago d.secondAge).2 = 0 then d.wr64 TB_SEC_BEAT (d.ago d.secondAge).1 else d
  if d.has TB_TRIM_ALIGN_EN = true ∧ d.has TB_TM_STATUS_QUALIFIED = true ∧ d.clk.running = true then
    if d.phaseErr = 0 then d1.aligned
    else ((d1.put TB_PHASE_ERR_ERR d.phaseErr).put TB_STATUS_TRIMMING 1).put TB_STATUS_ALIGNED 0
  else d1

/-- Is the switch to run transparent (R465)? -/
def Device.transparent (d : Device) : Bool :=
  !d.has TB_TM_STATUS_QUALIFIED || d.has TB_TM_CTRL_TEST || d.tm.recovering

/-- The spare is compared with the reference in use while STATE is LOCKED (R470): a difference above 200 ppm is its
failure. -/
def Device.spareCheck (d : Device) : Device :=
  let r := d.get TB_TM_STATUS_REF
  if d.tmState = 2 ∧ d.refUsable (1 - r) = true ∧ 20000 < (d.refErr (1 - r) - d.refErr r).natAbs then
    let (e, d1) := d.freeDiv (d.refErr (1 - r)) 100
    d1.refFail (1 - r) e
  else d

/-- The time unit's share of WHOLE_SECOND: PPS_OUT, transparent mode, the return to REFA, the measured reference errors,
and alignment.  It acts once for each whole second of device time. -/
def Device.tmSecond (d : Device) (refA refB : Nat) : Device :=
  let d1 := d.setTm fun t => { t with secDone := d.timeNs / oneSec }
  let d2 := ((d1.put TB_REF_ERR_REFA refA).put TB_REF_ERR_REFB refB).spareCheck
  let pps := d.has TB_TM_CTRL_PPS_EN && (d.has TB_TM_STATUS_QUALIFIED || d.tmState == 3 || d.has TB_TM_CTRL_PPS_ALWAYS)
  let d3 := if pps then d2.setTm fun t =>
      { t with ppsOut := true, ppsEnd := d.clk.now - d.secondAge + min 9999 (max 1 (d.get TB_PPS_WIDTH)) * 10000 } else d2
  let d4 := d3.put TB_TM_STATUS_TRANSPARENT (b2n d.transparent)
  let d5 := if d.has TB_TM_CTRL_REVERT = true ∧ d4.get TB_TM_STATUS_REF = 1 ∧ d4.refUsable 0 = true then d4.refSwitch 0 else d4
  d5.alignCheck

end Sys2Proof.Machine
end

