-- ==== Sys2Proof/Machine/Net.lean ====
section
/-! DEFINITION. Ethernet ports, the switch, the best master clock algorithm and the PTP messages (R450–R453, R456–R458,
R463, R465–R468).  What a message carries comes with its command; a frame that the device sends is counted in EN_P_TXF. -/

namespace Sys2Proof.Machine

/-- The network's hidden state changed. -/
def Device.setNet (d : Device) (f : Net → Net) : Device := { d with net := f d.net }

/-- May port `p` send and receive (R453)? -/
def Device.portUp (d : Device) (p : Nat) : Bool := d.has (EN_P_CTRL_EN p) && !bit d.net.fenced p

/-- May frames pass through port `p`: it is in use, and its link is not half duplex (R450)? -/
def Device.portUsed (d : Device) (p : Nat) : Bool := d.portUp p && !d.has (EN_P_STATUS_DUPLEX_BAD p)

/-- Port `p` sends `n` frames. -/
def Device.netSent (d : Device) (p : Nat) (n : Nat := 1) : Device := d.wrN (EN_P_TXF p) (d.rdN (EN_P_TXF p) + n)

/-- The device's MAC address as a number of six bytes, byte 0 first. -/
def Device.macAddr (d : Device) : Nat :=
  let hi := d.get EN_MAC_HI_MAC_HI
  hi * 2 ^ 32 + d.rdN EN_MAC_LO

/-! ### Links (R450) -/

/-- MDIO_POLL: the PHY of port `p` resolved to a link, its speed code and half duplex. -/
def Device.mdioPoll (d : Device) (p : Nat) (link : Bool) (speed : Nat) (half : Bool) : Device :=
  let up := link && !half
  let was := d.has (EN_P_STATUS_LINK p)
  let d1 := (((d.put (EN_P_STATUS_LINK p) (b2n up)).put (EN_P_STATUS_SPEED p) speed).put (EN_P_STATUS_DUPLEX_BAD p)
    (b2n (link && half)))
  d1.detect 13 (0x10 + p) 2 (was != up) (b2n up) id

/-! ### The best master clock algorithm (R457): clause 9.3 of IEEE 1588-2019 (notes/assumptions/30) -/

/-- The clockIdentity of a MAC address, by EUI-48 to EUI-64 mapping. -/
def clockId (mac : Nat) : Nat := mac / 2 ^ 24 * 2 ^ 40 + 0xFFFE * 2 ^ 24 + mac % 2 ^ 24

/-- Is the dataset of `a` better than that of `b`? -/
def Foreign.better (a b : Foreign) : Bool :=
  if a.gm = b.gm then
    if a.steps ≠ b.steps then decide (a.steps < b.steps)
    else if a.src ≠ b.src then decide (a.src < b.src) else decide (a.port < b.port)
  else if a.prio1 ≠ b.prio1 then decide (a.prio1 < b.prio1)
  else if a.quality ≠ b.quality then decide (a.quality < b.quality)
  else if a.prio2 ≠ b.prio2 then decide (a.prio2 < b.prio2)
  else decide (a.gm < b.gm)

/-- The best of a list of foreign masters. -/
def bestOf (l : List Foreign) : Option Foreign :=
  l.foldl (fun b x => match b with
    | none => some x
    | some y => if x.better y then some x else some y) none

/-- The device's own dataset: clockClass 248, clockAccuracy 0xFE, offsetScaledLogVariance 0xFFFF. -/
def Device.ownSet (d : Device) : Foreign :=
  ⟨0, clockId d.net.mac * 65536, bits d.net.ptp.toNat 8 8, 248 * 2 ^ 24 + 0xFE * 2 ^ 16 + 0xFFFF, bits d.net.ptp.toNat 0 8,
    clockId d.net.mac, 0, oneSec, []⟩

/-- Is a foreign master qualified: two Announces within four intervals, the latest within three, and fewer than 255 steps
removed? -/
def Device.foreignOk (d : Device) (x : Foreign) : Bool :=
  decide (x.steps < 255) && match x.seen with
  | a :: b :: _ => decide (10 * (d.clk.now - b) ≤ 4 * x.interval) && decide (10 * (d.clk.now - a) ≤ 3 * x.interval)
  | _ => false

/-- The interval in ns of a signed log₂ of seconds. -/
def logInterval (l : Int) : Nat := if l < 0 then max 1 (oneSec / 2 ^ l.natAbs) else oneSec * 2 ^ l.natAbs

/-- The Announce interval in ns that the device uses as a master; outside −3 to 4 taken as 1. -/
def Device.annInterval (d : Device) : Nat :=
  let l := toS 8 (bits d.net.ptp.toNat 24 8)
  logInterval (if l < -3 ∨ 4 < l then 1 else l)

/-- Is the device a boundary clock now: ROLE 1, and not in transparent mode (R466)? -/
def Device.boundaryClock (d : Device) : Bool := bit d.net.ctrl.toNat 0 && !d.has TB_TM_STATUS_TRANSPARENT

/-- The PTP state of port `p`: 0 DISABLED, 1 LISTENING, 2 SLAVE, 3 MASTER, 4 PASSIVE. -/
def Device.ptpDecide (d : Device) (ok : List Foreign) (p : Nat) : Nat :=
  if !d.portUp p then 0
  else
    match bestOf ok with
    | none => if d.boundaryClock && decide (3 * d.annInterval ≤ 10 * d.clk.now) then 3 else 1
    | some e =>
      if !d.boundaryClock then (if e.port = p then 2 else 1)
      else if d.ownSet.better e then 3
      else if e.port = p then 2
      else
        match bestOf (ok.filter (fun x => x.port == p)) with
        | some r => if r.gm = e.gm then 4 else 3
        | none => 3

/-- The BMCA run: port states, the parent, the grandmaster, and the mean path delay of a port that is no slave. -/
def Device.bmca (d : Device) : Device :=
  let ok := d.net.foreign.filter (fun x => d.foreignOk x && d.portUsed x.port)
  let st := fun p => d.ptpDecide ok p
  let slave := [0, 1].any (fun p => st p == 2)
  let parent := if slave then (bestOf ok).map (fun e => (e.port, e.src)) else none
  let gm := match parent, bestOf ok with
    | some _, some e => e.gm
    | _, _ => if [0, 1].any (fun p => st p == 3) then clockId d.net.mac else 0
  let d1 := [0, 1].foldl (fun (d : Device) p =>
    let d1 := d.put (EN_P_STATUS_PTP_STATE p) (st p)
    if st p = 2 then d1 else d1.wrN (EN_P_MPD p) 0) d
  (d1.setNet fun n => { n with parent := parent }).wr64 EN_GM_ID gm

/-- ANNOUNCE (R457): a dataset taken into the BMCA, unless it is the device's own or of another domain. -/
def Device.ptpAnnounce (d : Device) (p src domain prio1 quality prio2 gm steps : Nat) (log : Int) : Device :=
  if !d.portUsed p || d.net.mac == 0 || domain != bits d.net.ctrl.toNat 8 7 || src / 65536 == clockId d.net.mac then d
  else
    let same := fun (x : Foreign) => x.port == p && x.src == src
    let seen := match d.net.foreign.find? same with
      | some x => (d.clk.now :: x.seen).take 2
      | none => [d.clk.now]
    let x : Foreign := ⟨p, src, prio1, quality, prio2, gm, steps, logInterval log, seen⟩
    (d.setNet fun n => { n with foreign := x :: n.foreign.filter (fun y => !same y) }).bmca

/-! ### PTP event messages and their stamps (R456, R458, R468) -/

/-- A transmit stamp written to Q8 (R468). -/
def Device.q8Stamp (d : Device) (p type seq : Nat) (t16 : Int) : Device :=
  if d.qFull 8 then
    ((d.put EN_Q8_LOST (min 255 (d.get EN_Q8_LOST + 1))).put EN_Q8_OVF 1).setNet fun n => { n with q8run := n.q8run + 1 }
  else
    let run := d.net.q8run
    let ctrl := seq % 65536 + type * 2 ^ 16 + p * 2 ^ 20 + b2n (decide (0 < run)) * 2 ^ 23 + bits d.net.ctrl.toNat 8 7 * 2 ^ 24
    let d1 := (d.qAddAny 8 0 0 ([ctrl, run % 2 ^ 32] ++ time112 t16.toNat |>.flatMap (fun w => leBytes w 4))).put EN_Q8_OVF 0
    (d1.setNet fun n => { n with q8run := 0 }).detect 13 0x20 4 (decide (0 < run)) run id

/-- The next sequenceId of a kind of message of port `p` (0 Sync, 1 Delay_Req, 2 Announce), and its count advanced. -/
def Device.ptpSeq (d : Device) (p kind : Nat) : Nat × Device :=
  let k := 4 * p + kind
  let n := d.net.seqs.pick 0 k
  (n, d.setNet fun x => { x with seqs := x.seqs.upd 0 k (fun v => (v + 1) % 65536) })

/-- Is port `p` the device's slave port, and is `src` the parent on it? -/
def Device.fromParent (d : Device) (p src : Nat) : Bool := d.net.parent == some (p, src) && d.portUsed p

/-- A valid Sync (R458): its stamps are kept, and with a completed Delay exchange it yields an offset. -/
def Device.syncValid (d : Device) (t1 t2 c : Int) (interval : Nat) : Device :=
  let d1 := d.setTm fun t => { t with sync := some (t1, t2, c), syncAt := d.clk.now, interval := interval, two := none }
  if d.tmSource ≠ 1 ∨ d.tm.delays = [] then d1 else d1.tmValid (d1.tmOffset t1 t2 c) t1 t2 interval

/-- A two-step Sync without its Follow_Up is discarded (R457), which ends a run of consecutive valid offsets. -/
def Device.syncDiscard (d : Device) : Device :=
  if d.tm.two.isSome then d.setTm fun t => { t with two := none, firsts := [] } else d

/-- SYNC (R458). -/
def Device.ptpSync (d : Device) (p : Nat) (twoStep : Bool) (src seq domain : Nat) (t1 corr : Int) (log : Int) (sub : Nat) : Device :=
  if !d.fromParent p src || domain != bits d.net.ctrl.toNat 8 7 then d
  else
    let d1 := d.syncDiscard
    let t2 := d.time16 sub - ((d.get (EN_P_LAT_RX_LAT p) * 65536 : Nat) : Int)
    if twoStep then d1.setTm fun t => { t with two := some ⟨p, src, seq, t2, corr, logInterval log, d.clk.now⟩ }
    else d1.syncValid t1 t2 corr (logInterval log)

/-- FOLLOW_UP (R457): it completes its Sync within one Sync interval. -/
def Device.ptpFollowUp (d : Device) (p src seq : Nat) (t1 corr : Int) : Device :=
  match d.tm.two with
  | none => d
  | some w =>
    if w.port ≠ p ∨ w.src ≠ src ∨ w.seq ≠ seq then d
    else if w.interval < 10 * (d.clk.now - w.at_) then d.syncDiscard
    else d.syncValid t1 w.t2 (w.corr + corr) w.interval

/-- DELAY_REQ (R457): the slave port sends a Delay_Req and stamps it. -/
def Device.ptpDelayReq (d : Device) (p sub : Nat) : Device :=
  if d.get (EN_P_STATUS_PTP_STATE p) ≠ 2 ∨ d.net.mac = 0 ∨ d.portUsed p = false then d
  else
    let (seq, d1) := d.ptpSeq p 1
    let t3 := d.time16 sub + ((d.get (EN_P_LAT_TX_LAT p) * 65536 : Nat) : Int)
    ((d1.netSent p).setTm fun t => { t with req := some (p, seq, t3) }).q8Stamp p 1 seq t3

/-- DELAY_RESP (R458): it completes the exchange of the Delay_Req that waits. -/
def Device.ptpDelayResp (d : Device) (p src seq : Nat) (t4 corr : Int) : Device :=
  match d.tm.req, d.tm.sync with
  | some (rp, rs, t3), some (t1, t2, c) =>
    if rp ≠ p ∨ rs ≠ seq ∨ d.fromParent p src = false then d
    else
      let dk := (t2 - t1 - c) + (t4 - t3 - corr)
      let l := (dk :: d.tm.delays).take 8
      let d1 := d.setTm fun t => { t with req := none, delays := l }
      let (ns, d2) := d1.freeDiv (l.foldl (· + ·) 0) (2 * l.length * 65536)
      d2.wrN (EN_P_MPD p) (ofS 32 ns)
  | _, _ => d

/-- SYNC_TRANSMIT (R457): a master port sends Sync and Follow_Up. -/
def Device.syncTransmit (d : Device) (p sub : Nat) : Device :=
  if d.get (EN_P_STATUS_PTP_STATE p) ≠ 3 ∨ d.net.mac = 0 ∨ d.portUsed p = false then d
  else
    let (seq, d1) := d.ptpSeq p 0
    (d1.netSent p 2).q8Stamp p 0 seq (d.time16 sub + ((d.get (EN_P_LAT_TX_LAT p) * 65536 : Nat) : Int))

/-- ANNOUNCE_TRANSMIT (R457). -/
def Device.annTransmit (d : Device) (p : Nat) : Device :=
  if d.get (EN_P_STATUS_PTP_STATE p) ≠ 3 ∨ d.net.mac = 0 ∨ d.portUsed p = false then d else (d.ptpSeq p 2).2.netSent p

/-- HOLDOVER (R463): no valid Sync for three intervals, or the parent's Announces timed out. -/
def Device.ptpHoldover (d : Device) : Device :=
  let gone := decide (d.tmSource = 1) && (match d.net.parent with
    | some (p, src) => !(d.net.foreign.any (fun x => x.port == p && x.src == src && d.foreignOk x))
    | none => true)
  if d.tmState ≠ 1 ∧ d.tmState ≠ 2 then d
  else if gone || d.sourceSilent then
    let h := d.holdover
    if gone then h.bmca else h
  else d

/-- WHOLE_SECOND (R28, R467, R471, R472, R476): device time is at a whole second that has not been handled yet. -/
def Device.wholeSecond (d : Device) (refA refB : Nat) : Device :=
  if d.timeNs / oneSec = d.tm.secDone then d
  else
    let d1 := d.tmSecond refA refB
    let d2 := d1.setNet fun n => { n with ctrl := d1.rd EN_CTRL, mac := d1.macAddr, ptp := d1.rd EN_PTP }
    d2.bmca

/-! ### The switch (R451, R452, R466, R467) -/

/-- The EtherType of a frame and where its payload begins, behind one 802.1Q tag. -/
def etherType (fr : List (BitVec 8)) : Nat × Nat :=
  let t := ofBe (slice fr 12 2)
  if t = 0x8100 then (ofBe (slice fr 16 2), 18) else (t, 14)

/-- The tag control information of a frame's 802.1Q tag, if it has one. -/
def vlanTag (fr : List (BitVec 8)) : Option Nat := if ofBe (slice fr 12 2) = 0x8100 then some (ofBe (slice fr 14 2)) else none

/-- Is an address one of 01-80-C2-00-00-00 to 01-80-C2-00-00-0F? -/
def linkLocal (a : Nat) : Bool := a / 16 == 0x0180C200000

/-- Is an address a group address? -/
def groupAddr (a : Nat) : Bool := bit a 40

/-- Does a frame go to D, whatever its EtherType? -/
def Device.toD (d : Device) (dst : Nat) : Bool :=
  (d.macAddr != 0 && dst == d.macAddr) || dst == 0xFFFFFFFFFFFF || dst == 0x011B19000000

/-- Source addresses learned, aged and bounded to 256 entries (R452). -/
def Device.learn (d : Device) (src p : Nat) : Device :=
  let age := max 1 (d.get EN_SW_AGE) * 100000000
  let live := d.net.table.filter (fun x => decide (d.clk.now < x.2.2 + age) && x.1 != src)
  if groupAddr src || decide (256 ≤ live.length) then d.setNet fun n => { n with table := live }
  else d.setNet fun n => { n with table := (src, p, d.clk.now) :: live }

/-- The messageType of a PTP message whose payload begins at `off` (clause 13.3 of IEEE 1588-2019). -/
def ptpType (fr : List (BitVec 8)) (off : Nat) : Nat := ofBe (slice fr off 1) % 16
/-- Its sequenceId. -/
def ptpSeqId (fr : List (BitVec 8)) (off : Nat) : Nat := ofBe (slice fr (off + 30) 2)
/-- Its sourcePortIdentity. -/
def ptpSource (fr : List (BitVec 8)) (off : Nat) : Nat := ofBe (slice fr (off + 20) 10)
/-- The requestingPortIdentity of a Delay_Resp. -/
def ptpRequester (fr : List (BitVec 8)) (off : Nat) : Nat := ofBe (slice fr (off + 44) 10)
/-- Its twoStepFlag. -/
def ptpTwoStep (fr : List (BitVec 8)) (off : Nat) : Bool := bit (ofBe (slice fr (off + 6) 1)) 1

/-- A residence time added to the correctionField of a PTP message (R466). -/
def addCorrection (fr : List (BitVec 8)) (off res : Nat) : List (BitVec 8) :=
  let c := ofBe (slice fr (off + 8) 8) + res
  fr.take (off + 8) ++ (leBytes c 8).reverse ++ fr.drop (off + 16)

/-- The earlier message whose residence a Follow_Up, a Delay_Resp or a Pdelay_Resp_Follow_Up received by port `p` carries
(R466). -/
def Device.transitOf (d : Device) (p : Nat) (fr : List (BitVec 8)) : Option Transit :=
  let off := (etherType fr).2
  let find := fun (port type src : Nat) =>
    d.net.fwd.find? (fun x => x.port == port && x.type == type && x.src == src && x.seq == ptpSeqId fr off)
  match ptpType fr off with
  | 8 => find p 0 (ptpSource fr off)
  | 9 => find (1 - p) 1 (ptpRequester fr off)
  | 10 => find p 3 (ptpSource fr off)
  | _ => none

/-- Is a frame received by port `p` to be forwarded to the other port (R452, R466, R467)? -/
def Device.forwards (d : Device) (p : Nat) (fr : List (BitVec 8)) : Bool :=
  let dst := ofBe (slice fr 0 6)
  let (t, off) := etherType fr
  let away := match d.net.table.find? (fun x => x.1 == dst) with
    | some x => groupAddr dst || x.2.1 != p
    | none => true
  let plain := !linkLocal dst && (d.macAddr == 0 || dst != d.macAddr) && decide (fr.length ≤ 1518) && away
  if t ≠ 0x88F7 then plain
  else plain && (d.has TB_TM_STATUS_TRANSPARENT || (ptpType fr off == 8 && (d.transitOf p fr).isSome))

/-- A frame leaves through the port other than `p`.  A PTP event message's residence time, which is a free value, is added
to its correctionField, or kept for the message that carries it (R466). -/
def Device.forward (d : Device) (p : Nat) (fr : List (BitVec 8)) : Device :=
  let send := fun (d : Device) (bs : List (BitVec 8)) =>
    (d.setNet fun n => { n with out := Store.set (fun _ => []) n.out (1 - p) bs }).netSent (1 - p)
  let (t, off) := etherType fr
  if t ≠ 0x88F7 then send d fr
  else if ptpType fr off < 4 then
    let (v, d1) := d.fresh
    if ptpTwoStep fr off then
      let x : Transit := ⟨p, ptpType fr off, ptpSource fr off, ptpSeqId fr off, v.toNat⟩
      let old := d.net.fwd.filter (fun y => y.port != p || y.type != x.type || y.src != x.src)
      send (d1.setNet fun n => { n with fwd := x :: old }) fr
    else send d1 (addCorrection fr off v.toNat)
  else match d.transitOf p fr with
    | some x => send (d.setNet fun n => { n with fwd := n.fwd.filter (· != x) }) (addCorrection fr off x.res)
    | none => send d fr

/-- The switch's share of FRAME_RECEIVE: counts, learning, the drop of other frames to D, and forwarding. -/
def Device.switchFrame (d : Device) (p : Nat) (fcs : Bool) (fr : List (BitVec 8)) : Device :=
  if !d.portUsed p then d
  else if !fcs then d.incSat (EN_P_ERR_CRC p)
  else
    let dst := ofBe (slice fr 0 6)
    let d1 := (d.wrN (EN_P_RXF p) (d.rdN (EN_P_RXF p) + 1)).learn (ofBe (slice fr 6 6)) p
    let t := (etherType fr).1
    let d2 := if d.toD dst && t != d.get EN_CTRL_ETYPE && t != 0x88F7 then d1.incSat (EN_P_ERR_DROP p) else d1
    if d2.forwards p fr && d2.portUsed (1 - p) && d2.has (EN_P_STATUS_LINK (1 - p)) then d2.forward p fr else d2

/-- The Lanifer payload that a frame brings to D, with its source address (R451, R477). -/
def Device.laniferFrame (d : Device) (p : Nat) (fcs : Bool) (fr : List (BitVec 8)) : Option (Nat × List (BitVec 8)) :=
  if d.portUsed p && fcs && d.macAddr != 0 && d.toD (ofBe (slice fr 0 6)) && (etherType fr).1 == d.get EN_CTRL_ETYPE then
    some (ofBe (slice fr 6 6), fr.drop (etherType fr).2)
  else none

/-! ### Fencing (R362, R453) -/

/-- A port fenced or retired. -/
def Device.portFence (d : Device) (p : Nat) : Device :=
  ((d.setNet fun n => { n with fenced := setBit n.fenced p true }).put (EN_P_STATUS_FENCED p) 1).bmca

/-- A port recovers. -/
def Device.portRecover (d : Device) (p : Nat) : Device :=
  ((d.setNet fun n => { n with fenced := setBit n.fenced p false }).put (EN_P_STATUS_FENCED p) 0).bmca

/-- EN_P_CTRL written: the BMCA runs, in which a port out of use is DISABLED (R453). -/
def Device.enCtrlWrite (d : Device) (p v : Nat) : Device :=
  let d1 := d.wrN (EN_P_CTRL p) (andN v 0x1F01)
  d1.bmca

end Sys2Proof.Machine
end

