-- ==== Sys2Proof/Machine/Can.lean ====
section
/-! DEFINITION. The CAN FD controllers (R501–R514): enable and disable, the transmit FIFO, the reference message, filters and
reception, error counters and bus-off.  What the bus shows comes with the command that reports it. -/

namespace Sys2Proof.Machine

/-- Controller `b`. -/
def Device.can (d : Device) (b : Nat) : Can := d.cans.pick {} b
/-- Controller `b` changed. -/
def Device.setCan (d : Device) (b : Nat) (f : Can → Can) : Device := { d with cans := d.cans.upd {} b f }
/-- STATE of controller `b`: 0 OFF, 1 INTEGRATING, 2 ERROR_ACTIVE, 3 ERROR_PASSIVE, 4 BUS_OFF, 5 FENCED. -/
def Device.canState (d : Device) (b : Nat) : Nat := d.get (CF_STATUS_STATE b)
/-- Does the controller take part in the bus: ERROR_ACTIVE or ERROR_PASSIVE? -/
def Device.canOn (d : Device) (b : Nat) : Bool := d.canState b == 2 || d.canState b == 3
/-- May the controller send? -/
def Device.canSends (d : Device) (b : Nat) : Bool := d.canOn b && !d.has (CF_CTRL_LISTEN b)
/-- A refusal of controller `b`. -/
def Device.canRefuse (d : Device) (b code : Nat) : Device := d.refuse (CF_STATUS_REFUSE_LAST b) (CF_EVENT_REFUSED b) code
/-- The FIFO count and REF_PEND shown. -/
def Device.canShow (d : Device) (b : Nat) : Device :=
  (d.put (CF_STATUS_FIFO b) (d.can b).fifo.length).put (CF_STATUS_REF_PEND b) (b2n (d.can b).ref.isSome)

/-! ### Error counters (R513; ISO 11898-1, notes/assumptions/31) -/

/-- Both error counters as CF_ERR_PASSIVE and CF_BUS_OFF report them. -/
def Device.canErrs (d : Device) (b : Nat) : Nat := d.rdN (CF_ERRC b)

/-- ERROR_PASSIVE entered. -/
def Device.canPassive (d : Device) (b : Nat) : Device := (d.put (CF_STATUS_STATE b) 3).raise (CF_EVENT_ERR_PASSIVE b)

/-- BUS_OFF entered: with AUTO_RECOVER the recovery starts at once. -/
def Device.canBusOff (d : Device) (b : Nat) : Device :=
  ((d.put (CF_STATUS_STATE b) 4).raise (CF_EVENT_BUS_OFF b)).setCan b fun c => { c with recovering := d.has (CF_CTRL_AUTO_RECOVER b) }

/-- STATE after the error counters changed. -/
def Device.canCount (d : Device) (b : Nat) : Device :=
  if !d.canOn b then d
  else
    let tec := d.get (CF_ERRC_TEC b)
    let rec' := d.get (CF_ERRC_REC b)
    let passive := decide (127 < tec) || decide (127 < rec')
    if 255 < tec then d.detect 14 b 2 true (d.canErrs b) (fun d => d.canBusOff b)
    else
      let d1 := d.detect 14 b 2 false 0 (fun d => d.canBusOff b)
      if !d1.canOn b then d1
      else
        let d2 := d1.detect 14 b 1 (passive && d1.canState b == 2) (d1.canErrs b) (fun d => d.canPassive b)
        if passive || d1.canState b == 2 then d2 else d2.put (CF_STATUS_STATE b) 2

/-! ### Enable and disable (R502, R504, R505) -/

/-- The checks of R502. -/
def Device.canTimingOk (d : Device) (b : Nat) : Bool :=
  let n := d.rdN (CF_NBT b)
  let x := d.rdN (CF_DBT b)
  let nsjw := bits n 25 7 + 1
  let nseg2 := bits n 18 7 + 1
  let nseg1 := bits n 10 8 + 1
  let nbrp := bits n 0 5 + 1
  let dsjw := bits x 28 4 + 1
  let dseg2 := bits x 24 4 + 1
  let dseg1 := bits x 16 5 + 1
  let dbrp := bits x 0 5 + 1
  let cyc := d.get (CF_CYCLE_CYCLE_US b)
  decide (2 ≤ nseg1) && decide (2 ≤ nseg2) && decide (nsjw ≤ nseg2) && decide (1 ≤ dseg2) && decide (dsjw ≤ dseg2) &&
  decide (80 ≤ nbrp * (1 + nseg1 + nseg2)) && decide (10 ≤ dbrp * (1 + dseg1 + dseg2)) &&
  (!d.has (CF_TDC_TDC_EN b) || decide (dbrp ≤ 2)) && decide (100 ≤ cyc) && decide (cyc ≤ 1000000) && decide (1000000 % cyc = 0)

/-- An enable (R502, R505). -/
def Device.canEnable (d : Device) (b : Nat) : Device :=
  if d.canTimingOk b then
    let d1 := (d.put (CF_CTRL_EN b) 1).wrN (CF_ERRC b) 0
    let d2 := d1.setCan b fun c => { c with fifo := if c.wire = 1 then [] else c.fifo, wire := 0, stoppedAt := none }
    if (d.can b).fenced then d2.canShow b else (d2.put (CF_STATUS_STATE b) 1).canShow b
  else d.canRefuse b 2

/-- A controller stops (R505): a frame on the wire completes, the other FIFO frames and the pending reference message are
discarded.  Whether a frame is on the wire is the bus's doing, so a free value says. -/
def Device.canStop (d : Device) (b : Nat) (state : Nat) : Device :=
  let c := d.can b
  let (v, d1) := d.fresh
  let wire := if !d.canSends b then 0
    else if v.toNat % 3 = 1 ∧ c.fifo ≠ [] then 1 else if v.toNat % 3 = 2 ∧ c.ref.isSome = true then 2 else 0
  let keep := if wire = 1 then c.fifo.take 1 else []
  let n := c.fifo.length - keep.length
  let d2 := (d1.setCan b fun c =>
    { c with fifo := keep, ref := if wire = 2 then c.ref else none, flying := none, wire := wire, recovering := false,
             stoppedAt := if d.canOn b then some d.clk.now else c.stoppedAt }).put (CF_STATUS_STATE b) state
  let d3 := d2.canShow b
  if n = 0 then d3 else (d3.incSat (CF_TX_DROP_FLUSHED b) n).raise (CF_EVENT_FLUSHED b)

/-- A disable (R505). -/
def Device.canDisable (d : Device) (b : Nat) : Device :=
  let d1 := d.put (CF_CTRL_EN b) 0
  if (d.can b).fenced then d1 else d1.canStop b 0

/-- CF_CTRL written (R502, R504, R505). -/
def Device.canCtrlWrite (d : Device) (b v : Nat) : Device :=
  let w := andN v 0x7B
  let old := d.rdN (CF_CTRL b)
  if bit old 0 then
    let d1 := if w / 2 = old / 2 then d else d.canRefuse b 1
    if bit w 0 then d1 else d1.canDisable b
  else
    let d1 := d.wrN (CF_CTRL b) (w / 2 * 2)
    if bit w 0 then d1.canEnable b else d1

/-- A register that is written only while the controller is disabled (R504). -/
def Device.canCfgWrite (d : Device) (b a v : Nat) : Device := if d.has (CF_CTRL_EN b) then d.canRefuse b 1 else d.wrN a v

/-- CF_FLT_ID written: ID and IDE only while the filter's EN is 0 (R504). -/
def Device.canFltIdWrite (d : Device) (b f v : Nat) : Device :=
  let w := andN v 0xBFFFFFFF
  if d.has (CF_FLT_ID_EN b f) then
    let d1 := if w % 2 ^ 31 = d.rdN (CF_FLT_ID b f) % 2 ^ 31 then d else d.canRefuse b 1
    d1.put (CF_FLT_ID_EN b f) (bits w 31 1)
  else d.wrN (CF_FLT_ID b f) w

/-- CF_FLT_MASK or CF_FLT_DEST written (R504). -/
def Device.canFltWrite (d : Device) (b f a v : Nat) : Device := if d.has (CF_FLT_ID_EN b f) then d.canRefuse b 1 else d.wrN a v

/-- INTEGRATION_DONE (R505): 11 recessive bits have passed. -/
def Device.canIntegrated (d : Device) (b : Nat) : Device :=
  if d.canState b = 1 then (d.put (CF_STATUS_STATE b) 2).canCount b else d

/-- PROTOCOL_EXCEPTION (R501): a recessive res bit makes the controller integrate again. -/
def Device.canProtocolExc (d : Device) (b : Nat) : Device :=
  if d.canOn b && d.has (CF_CTRL_FD_EN b) then (d.put (CF_STATUS_STATE b) 1).raise (CF_EVENT_PROTOCOL_EXC b) else d

/-- RECOVER in CF_CMD (R513). -/
def Device.canRecover (d : Device) (b : Nat) : Device :=
  if d.canState b = 4 then d.setCan b fun c => { c with recovering := true } else d.canRefuse b 4

/-- BUS_OFF_RECOVERED (R513): 128 occurrences of 11 recessive bits since the recovery started. -/
def Device.canRecovered (d : Device) (b : Nat) : Device :=
  if d.canState b = 4 ∧ (d.can b).recovering = true then
    (((d.put (CF_STATUS_STATE b) 2).raise (CF_EVENT_RECOVERED b)).wrN (CF_ERRC b) 0).setCan b fun c => { c with recovering := false }
  else d

/-- CLEAR_CNT in CF_CMD. -/
def Device.canClear (d : Device) (b : Nat) : Device :=
  let d1 := (((d.wrN (CF_RX_DROP b) 0).wrN (CF_TX_DROP b) 0).wrN (CF_TX_WAIT b) 0).put (CF_REF_CNT_LATE b) 0
  (List.range 64).foldl (fun (d : Device) f => d.wrN (CF_FLT_CNT b f) 0) d1

/-- CF_CMD written. -/
def Device.canCmdWrite (d : Device) (b v : Nat) : Device :=
  match bits v 0 4 with
  | 0 => d
  | 1 => d.canRecover b
  | 2 => d.canClear b
  | _ => d.canRefuse b 3

/-- A controller fenced or retired by the ledger (R513). -/
def Device.canFence (d : Device) (b : Nat) : Device := (d.canStop b 5).setCan b fun c => { c with fenced := true }

/-- A fenced controller recovers: it returns to its EN setting, through integration. -/
def Device.canUnfence (d : Device) (b : Nat) : Device :=
  (d.setCan b fun c => { c with fenced := false }).put (CF_STATUS_STATE b) (if d.has (CF_CTRL_EN b) then 1 else 0)

/-! ### Transmission (R506–R510) -/

/-- The time of the head's arrival noted where a frame has become the head. -/
def headNow (now : Nat) : List CanTx → List CanTx
  | [] => []
  | x :: l => { x with headAt := now } :: l

/-- TX_COPY (R506): the oldest entry of the controller's queue copied into its FIFO and freed. -/
def Device.canTxCopy (d : Device) (b : Nat) : Device :=
  let c := d.can b
  if !d.canSends b || decide (32 ≤ c.fifo.length) then d
  else
    match d.qLive (9 + b) with
    | [] => d
    | i :: _ =>
      let (e, d1) := d.qRead (9 + b) i
      let id := leAt e.payload 0 4
      let info := leAt e.payload 4 4
      let d2 := d1.qFree (9 + b) i
      if !e.ok then d2
      else if info / 16 ≠ 0 ∨ (bit id 30 = true ∧ d.has (CF_CTRL_FD_EN b) = false) then
        (d2.incSat (CF_TX_DROP_BAD b)).raise (CF_EVENT_REFUSED b)
      else
        let x : CanTx := ⟨id, info, slice e.payload 8 64, d.clk.now⟩
        (d2.setCan b fun c => { c with fifo := c.fifo ++ [x] }).canShow b

/-- The transmit error counter after a success or an error. -/
def Device.canTec (d : Device) (b : Nat) (ok : Bool) : Device :=
  let t := d.get (CF_ERRC_TEC b)
  (d.put (CF_ERRC_TEC b) (if ok then t - 1 else min 65535 (t + 8))).canCount b

/-- TDCV of an FD frame sent with BRS (R503). -/
def Device.canTdcv (d : Device) (b id tdcv : Nat) : Device :=
  if bit id 30 && bit id 31 && d.has (CF_TDC_TDC_EN b) then d.put (CF_STATUS_TDCV b) tdcv else d

/-- The head of the FIFO sent (R507): counted, its wait measured, the next frame the head from now on. -/
def Device.canHeadSent (d : Device) (b sof tdcv : Nat) : Device :=
  match (d.can b).fifo with
  | [] => d
  | x :: rest =>
    let us := (d.clk.now - sof - x.headAt) / 100
    let d1 := (d.setCan b fun c => { c with fifo := headNow d.clk.now rest, wire := 0 }).canShow b
    ((d1.wrN (CF_TX_CNT b) (d1.rdN (CF_TX_CNT b) + 1)).put (CF_TX_WAIT_MAX_US b)
      (min 65535 (max us (d1.get (CF_TX_WAIT_MAX_US b))))).canTdcv b x.id tdcv

/-- The reference message sent (R508): `sof` ticks ago its start of frame.  Only one that started after the step of device
time carried STEPPED (R510). -/
def Device.canRefSent (d : Device) (b sof tdcv : Nat) : Device :=
  let c := d.can b
  let d1 := match c.flying with
    | some _ => d.setCan b fun c => { c with flying := none }
    | none => d.setCan b fun c =>
      { c with ref := none, stepped := c.stepped && decide (d.timeNs - 10 * sof < c.stepNs), delay := some (d.timeNs - 10 * sof - c.cycleAt), wire := 0 }
  let d2 := ((d1.wr64 (CF_REF_LAST b) (d.stampAt ((d.clk.now : Int) - (sof : Nat)))).inc (CF_REF_CNT_SENT b)).canShow b
  let id := if d.has (CF_CTRL_REF_FD b) then 2 ^ 30 + bits (d.rdN (CF_REF b)) 31 1 * 2 ^ 31 else 0
  (d2.wrN (CF_TX_CNT b) (d2.rdN (CF_TX_CNT b) + 1)).canTdcv b id tdcv

/-- CAN_FRAME_SENT (R507): the transmission of the FIFO head or of the reference message ended; a failed one is sent
again, unless the controller has been disabled. -/
def Device.canFrameSent (d : Device) (b : Nat) (ref ok : Bool) (sof tdcv : Nat) : Device :=
  let c := d.can b
  let here := if ref then c.ref.isSome || c.flying.isSome else c.fifo != []
  let offWire := if ref then c.wire == 2 else c.wire == 1
  if !here || !(d.canSends b || offWire) then d
  else if ok then (if ref then d.canRefSent b sof tdcv else d.canHeadSent b sof tdcv).canTec b true
  else
    let d1 := d.canTec b false
    if offWire then
      (if ref then d1.setCan b fun c => { c with ref := none, wire := 0 }
       else ((d1.setCan b fun c => { c with fifo := [], wire := 0 }).incSat (CF_TX_DROP_FLUSHED b)).raise (CF_EVENT_FLUSHED b)).canShow b
    else if ref then d1.setCan b fun c => { c with flying := none } else d1

/-- The payload of a reference message (R509). -/
def Device.refPayload (d : Device) (b start : Nat) (stepped : Bool) (prev : Option Nat) : List (BitVec 8) :=
  let us := d.get (CF_CYCLE_CYCLE_US b)
  let cyc := start % oneSec / (us * 1000) + b2n stepped * 2 ^ 14 + b2n (d.has TB_TM_STATUS_QUALIFIED) * 2 ^ 15
  let pd := if stepped then 0xFFFFFFFF else prev.getD 0xFFFFFFFF
  if d.has (CF_CTRL_REF_FD b) then leBytes cyc 2 ++ leBytes 0 2 ++ leBytes (start / oneSec) 4 ++ leBytes pd 4
  else leBytes cyc 2 ++ leBytes (start / oneSec) 2 ++ leBytes pd 4

/-- CYCLE_START (R508, R510): a cycle of device time has started that has not been handled.  `started` is 0 where the
reference message of the cycle before has not started, else 1 more than the ticks since its start of frame. -/
def Device.canCycle (d : Device) (b started : Nat) : Device :=
  let len := d.get (CF_CYCLE_CYCLE_US b) * 1000
  let c := d.can b
  let start := d.timeNs / max 1 len * len
  if len = 0 ∨ start ≤ c.cycleAt ∨ start < c.stepNs ∨ d.has (CF_CTRL_REF_EN b) = false ∨ d.has (CF_CTRL_LISTEN b) = true ∨ d.canState b = 0 ∨ 5 ≤ d.canState b then d
  else
    let fly := c.ref.isSome && decide (0 < started)
    let late := c.ref.isSome && !fly && d.canOn b
    let prev := if fly then some (d.timeNs - 10 * (started - 1) - c.cycleAt) else c.delay
    let d1 := if late then (d.incSat (CF_REF_CNT_LATE b)).raise (CF_EVENT_REF_LATE b) else d
    let still := c.stepped && !(fly && decide (c.stepNs ≤ d.timeNs - 10 * (started - 1)))
    let d2 := d1.setCan b fun x =>
      { x with ref := some (d.refPayload b start still prev), stepped := still, cycleAt := start, delay := none, flying := if fly then some c.cycleAt else none }
    d2.canShow b

/-! ### Reception (R511–R513) -/

/-- The lowest-numbered filter that a frame matches (R511). -/
def Device.canFilter (d : Device) (b : Nat) (ide : Bool) (id : Nat) : Option Nat :=
  (List.range 64).find? (fun f =>
    d.has (CF_FLT_ID_EN b f) && d.has (CF_FLT_ID_IDE b f) == ide &&
    andN (id ^^^ d.get (CF_FLT_ID_ID b f)) (d.get (CF_FLT_MASK_MASK b f)) == 0)

/-- The receive error counter after a frame received without error. -/
def Device.canRecDown (d : Device) (b : Nat) : Device :=
  let r := d.get (CF_ERRC_REC b)
  if r = 0 then d
  else if r ≤ 127 then (d.put (CF_ERRC_REC b) (r - 1)).canCount b
  else
    let (v, d1) := d.fresh
    (d1.put (CF_ERRC_REC b) (119 + v.toNat % 9)).canCount b

/-- A frame lost on a full queue (R512). -/
def Device.canLoss (d : Device) (b : Nat) (injected : Option Nat) : Device :=
  let d1 := ((d.incSat (CF_RX_DROP_OVF b)).raise (CF_EVENT_RX_OVF b)).setCan b fun c => { c with lossRun := true }
  match injected with
  | some dt => d1.msg 14 b 3 dt true
  | none => if (d.can b).lossRun then d1 else d1.msg 14 b 3 (d.canErrs b)

/-- A frame that filter `f` takes, delivered to its consumer (R512). -/
def Device.canDeliver (d : Device) (b f id info : Nat) (data : List (BitVec 8)) (sof : Nat) : Device :=
  let kind := d.get (CF_FLT_DEST_KIND b f)
  let inst := d.get (CF_FLT_DEST_INSTANCE b f)
  if 2 ≤ kind then d
  else
    match d.injTake 14 b 3 with
    | some (dt, d1) => d1.canLoss b (some dt)
    | none =>
      if d.qFull (11 + b) then d.canLoss b none
      else
        let pl := leBytes id 4 ++ leBytes (info + f * 256) 4 ++ data ++ leBytes (d.stampAt ((d.clk.now : Int) - (sof : Nat))) 8
        let d1 := (d.qAdd (11 + b) 1 (kind + inst * 256) 0 pl).setCan b fun c => { c with lossRun := false }
        if kind = 1 then d1.note 6 (b + 2 * f) (((data.headD 0).toNat + 256 * inst : Nat) : Int) else d1

/-- The number of data bytes of a DLC. -/
def dlcBytes (fd : Bool) (dlc : Nat) : Nat :=
  if dlc ≤ 8 then dlc
  else if !fd then 8
  else ([12, 16, 20, 24, 32, 48, 64] : List Nat).getD (dlc - 9) 64

/-- The receive error counter after an error while receiving (R513), by 8 for a dominant bit after an error flag. -/
def Device.canRxError (d : Device) (b : Nat) (eight : Bool) : Device :=
  if d.canOn b then
    (d.put (CF_ERRC_REC b) (min 65535 (d.get (CF_ERRC_REC b) + if eight then 8 else 1))).canCount b
  else d

/-- CAN_FRAME_RECEIVED (R511): identifier word (IDE, FDF, BRS as in R305), DLC, ESI, remote, data and the ticks since the
start of frame. -/
def Device.canReceive (d : Device) (b id dlc : Nat) (esi rtr : Bool) (data : List (BitVec 8)) (sof : Nat) : Device :=
  let last := match (d.can b).stoppedAt with
    | some t => decide (d.clk.now - sof ≤ t) && !d.canOn b
    | none => false
  if !d.canOn b && !last then d
  else if bit id 30 && !d.has (CF_CTRL_FD_EN b) then d.canRxError b false
  else
    let d0 := if last then d.setCan b fun c => { c with stoppedAt := none } else d
    let d1 := (d0.wrN (CF_RX_CNT b) (d.rdN (CF_RX_CNT b) + 1)).canRecDown b
    let ide := bit id 29
    let ident := if ide then bits id 0 29 else bits id 0 11
    if rtr then d1.incSat (CF_RX_DROP_NO_MATCH b)
    else
      match d1.canFilter b ide ident with
      | none => d1.incSat (CF_RX_DROP_NO_MATCH b)
      | some f =>
        let n := dlcBytes (bit id 30) dlc
        let d2 := d1.inc (CF_FLT_CNT_HITS b f)
        d2.canDeliver b f id (dlc + b2n esi * 16) (slice (slice data 0 n) 0 64) sof

end Sys2Proof.Machine
end

