-- ==== Sys2Proof/Machine/LnBase.lean ====
section
/-! DEFINITION. The sessions of the Lanifer protocol as far as registers reach them (R479, R482, R495, R500). -/

namespace Sys2Proof.Machine

/-- Session `k`, 1 to 4. -/
def Device.ses (d : Device) (k : Nat) : Session := d.ln.sessions.pick {} k

/-- The protocol engine's state changed. -/
def Device.setLn (d : Device) (f : Lanifer → Lanifer) : Device := { d with ln := f d.ln }

/-- The session registers show the sessions. -/
def Device.sesShow (d : Device) : Device :=
  let live := [1, 2, 3, 4].filter (fun k => (d.ses k).sid != 0)
  let nOpen := (live.filter (fun k => (d.ses k).isOpen)).length
  (d.put QU_LN_STATUS_SESSIONS nOpen).put QU_LN_STATUS_PENDING (live.length - nOpen)

/-- Session `k` changed, its registers following (R500). -/
def Device.setSes (d : Device) (k : Nat) (f : Session → Session) : Device :=
  let d1 := d.setLn fun l => { l with sessions := l.sessions.upd {} k f }
  let s := d1.ses k
  let d2 := (d1.wrN (QU_SESS_ID (k - 1)) s.sid).put (QU_SESS_INFO_KEY_ID (k - 1)) s.key
  (d2.put (QU_SESS_INFO_OPEN (k - 1)) (b2n s.isOpen)).sesShow

/-- The holding registers of a session's path read 0 again (R7), and a nonce that it read opens nothing (R369). -/
def Device.pathClear (d : Device) (k : Nat) : Device :=
  let d1 := d.setHold k fun _ => {}
  if d1.test.readPath = some k then { d1 with test := { d1.test with readPath := none } } else d1

/-- A write session closes (R482): its claims and its holding registers end. -/
def Device.sesClose (d : Device) (k : Nat) : Device :=
  if (d.ses k).isOpen then
    let d1 := (List.range 16).foldl (fun d q => if d.get (QU_STATUS_CLAIM q) = k then d.put (QU_STATUS_CLAIM q) 0 else d) d
    ((d1.pathClear k).setSes k fun _ => {}).raise QU_LN_EVENT_CLOSED
  else d

/-- CLEAR_CNT: QU_LN_CNT and every QU_LOST. -/
def Device.lnClear (d : Device) : Device := (List.range 16).foldl (fun d q => d.wrN (QU_LOST q) 0) (d.wrN QU_LN_CNT 0)

/-- A write of QU_LN_CMD. -/
def Device.lnCmdWrite (d : Device) (v : Nat) : Device :=
  match bits v 0 4 with
  | 0 => d
  | 1 => if 1 ≤ bits v 4 4 ∧ bits v 4 4 ≤ 4 then d.sesClose (bits v 4 4) else d
  | 2 => d.lnClear
  | _ => d.put QU_LN_STATUS_REFUSE_LAST 2

/-- QU_BASE and QU_CFG are written only before the beat scheduler starts; Q8 always has 16 entries (R492). -/
def Device.quWrite (d : Device) (a v : Nat) : Device :=
  if d.clk.running then d.put QU_LN_STATUS_REFUSE_LAST 1
  else if a = QU_CFG 8 then d.wrN a (v / 16 * 16 + 4)
  else d.wrN a v

end Sys2Proof.Machine
end

