-- ==== Sys2Proof/Machine/Memory.lean ====
section
/-! DEFINITION. Memory management (R384–R391): the scrubber, page retirement and the memory commands.  The byte code and
the handling of errors at a read stand in Ops.lean and Engine.lean. -/

namespace Sys2Proof.Machine

/-- A refused command of GL_MEM_CMD. -/
def Device.memRefuse (d : Device) (code : Nat) : Device := d.refuse GL_MEM_STATUS_REFUSE_LAST GL_MEM_EVENT_REFUSED code

/-! ### The scrubber (R384, R385) -/

/-- Bytes of the tile memories of one engine: program, data, and the remap words of both. -/
def scrubTile : Nat := 0x20000 + 0x10000 + 64 + 32
/-- Bytes of a bank with its spare pages. -/
def scrubBank : Nat := 0x200000 + 0x10000
/-- Bytes of one scrub pass: the engines' memories, then the banks. -/
def scrubTotal : Nat := 28 * scrubTile + 16 * scrubBank

/-- The pages of a bank that their spares serve, or the page being copied: is this page skipped? -/
def Device.scrubSkips (d : Device) (page : Nat) : Bool :=
  match d.mem.copying with
  | some (p, _) => p == page
  | none => false

/-- A read of eight bytes of an unused spare page: errors count and are reported, though a spare page has no device address,
so that the DETAIL is a free value, and a hard bit takes the page out of the spare pool (R384, R385).  A spare in service is
read at the address it serves. -/
def Device.scrubSpare (d : Device) (bank spare off : Nat) : Device :=
  let keys := (List.range 8).map (fun i => spareKey bank spare (off + i))
  let hard := keys.any (fun k => d.mem.hard.pick 0 k != 0)
  let id_ := bank * 16 + spare
  if d.mem.pageMap.any (fun e => e.2 == spare + 1 && (e.1 - 4096) / 512 == bank) then d
  else
    let st := maxL (keys.map (fun k => codeStatus (d.cellErr k)))
    let lane := ((List.range 8).find? (fun i => codeStatus (d.cellErr (spareKey bank spare (off + i))) == st)).getD 0
    let er := d.cellErr (spareKey bank spare (off + lane))
    let d1 := keys.foldl (fun d k =>
      let e := d.cellErr k
      if codeStatus e = 1 then d.setCell k (codeCorrect (d.cell k) e) else d) d
    let d2 := if st = 0 then d1
      else
        let (v, d2) := d1.fresh
        (d2.memError (st == 2) true false bank lane (b2n (codeP er) * 16 + er % 16) (v.toNat % 2 ^ 32)).msg 10 (0x40 + bank)
          (if st = 2 then 2 else 1) (v.toNat % 2 ^ 32)
    if hard ∧ d.mem.badSpares.contains id_ = false then
      ({ d2 with mem := { d2.mem with badSpares := id_ :: d2.mem.badSpares } }).put (GL_MEM_BANK_LEFT bank)
        (d2.get (GL_MEM_BANK_LEFT bank) - 1)
    else d2

/-- A read of an unused remap word: a hard bit takes it out of use (R385). -/
def Device.scrubRemap (d : Device) (id : Nat) : Device :=
  if (List.range 8).any (fun i => d.mem.hard.pick 0 (remapKey id i) != 0) && !d.mem.badRemaps.contains id &&
      !d.mem.remaps.any (fun x => x.2 == id) then
    { d with mem := { d.mem with badRemaps := id :: d.mem.badRemaps } }
  else d

/-- The scrubber's access at a position of its pass: the block after it, and the bytes it read. -/
def Device.scrubAt (d : Device) (pos : Nat) : Device × Nat :=
  if pos < 28 * scrubTile then
    let e := pos / scrubTile
    let o := pos % scrubTile
    if o < 0x20000 then ((d.tileRead e 1 [o / 8]).2, 8)
    else if o < 0x30000 then ((d.tileRead e 0 [(o - 0x20000) / 4]).2, 4)
    else if o < 0x30040 then (d.scrubRemap (remapId e 1 ((o - 0x30000) / 8)), 8)
    else (d.scrubRemap (remapId e 0 ((o - 0x30040) / 4)), 4)
  else
    let o := (pos - 28 * scrubTile) % scrubBank
    let bank := (pos - 28 * scrubTile) / scrubBank
    if o < 0x200000 then
      let a := bulkBase + bank * 0x200000 + o
      (if d.scrubSkips (a / 4096) then d else (d.bulkRead a 8).2.2, 8)
    else (d.scrubSpare bank ((o - 0x200000) / 4096) (o % 4096), 8)

/-- The position of the pass and PROGRESS. -/
def Device.scrubSet (d : Device) (pos : Nat) : Device :=
  ({ d with mem := { d.mem with scrubPos := pos } }).put GL_MEM_SCRUB_PROGRESS (pos * 65536 / scrubTotal)

/-- SCRUB_READ: the next access of a pass in progress; the last one completes the pass. -/
def Device.scrubRead (d : Device) : Device :=
  if !d.has GL_MEM_STATUS_SCRUBBING then d
  else
    let (d1, n) := d.scrubAt d.mem.scrubPos
    let p := d.mem.scrubPos + n
    if p < scrubTotal then d1.scrubSet p
    else
      let d2 := ((d1.scrubSet 0).raise GL_MEM_EVENT_SCRUB_DONE).incSat GL_MEM_SCRUB_PASSES
      d2.put GL_MEM_STATUS_SCRUBBING (d2.get GL_MEM_CTRL_SCRUB_EN)

/-- A pass begins at its first byte. -/
def Device.scrubStart (d : Device) : Device := (d.scrubSet 0).put GL_MEM_STATUS_SCRUBBING 1

/-- A write of GL_MEM_CTRL: SCRUB_EN = 0 ends the pass, SCRUB_EN = 1 starts one once the scheduler runs (R385, R393). -/
def Device.memCtrlWrite (d : Device) (v : Nat) : Device :=
  let was := d.has GL_MEM_CTRL_SCRUB_EN
  let d1 := d.wrN GL_MEM_CTRL (andN v 0x1FFFF)
  if bit v 16 then (if !was && d.clk.running then d1.scrubStart else d1)
  else (d1.scrubSet 0).put GL_MEM_STATUS_SCRUBBING 0

/-! ### Page retirement (R389, R390) -/

/-- The lowest spare page of a bank that is free. -/
def Device.freeSpare (d : Device) (bank : Nat) : Option Nat :=
  let first := (bulkBase + bank * 0x200000) / 4096
  (List.range 16).find? (fun s =>
    !d.mem.badSpares.contains (bank * 16 + s) &&
    !d.mem.pageMap.any (fun e => e.2 == s + 1 && decide (first ≤ e.1) && decide (e.1 < first + 512)))

/-- MEM_RETIRE: RETIRE in GL_MEM_CMD. -/
def Device.memRetire (d : Device) : Device :=
  let a := d.get GL_MEM_PAGE_PAGE * 4096
  if d.mem.copying.isSome then d.memRefuse 1
  else if inBulk a 4096 = false then d.memRefuse 2
  else
    let bank := bankOf a
    if d.get (GL_MEM_BANK_LEFT bank) = 0 then d.memRefuse 3
    else
      match d.freeSpare bank with
      | none => d.memRefuse 3
      | some s =>
        let d1 := { d with mem := { d.mem with copying := some (a / 4096, s), copyAt := d.clk.now } }
        (d1.put GL_MEM_STATUS_RETIRING 1).put (GL_MEM_BANK_LEFT bank) (d.get (GL_MEM_BANK_LEFT bank) - 1)

/-- One byte copied to the spare; an uncorrectable one becomes the poison pattern (R390). -/
def Device.copyByte (d : Device) (a key : Nat) : Device :=
  match d.peek1 a with
  | (_, 2) => d.setCell key 0 3
  | (v, _) => d.setCell key v

/-- PAGE_COPY_DONE: the spare holds the page, with the writes made meanwhile, and the page map switches. -/
def Device.pageCopied (d : Device) : Device :=
  match d.mem.copying with
  | none => d
  | some (page, s) =>
    let a := page * 4096
    let bank := bankOf a
    let d1 := (List.range 512).foldl (fun d i => d.readErrors (a + 8 * i) 8) d
    let d2 := (List.range 4096).foldl (fun d i => d.copyByte (a + i) (spareKey bank s i)) d1
    let old := d2.mem.pageMap.pick 0 page
    let bad := if old = 0 then d2.mem.badSpares else (bank * 16 + (old - 1)) :: d2.mem.badSpares
    let d3 := { d2 with mem := { d2.mem with pageMap := d2.mem.pageMap.upd 0 page (fun _ => s + 1), copying := none, badSpares := bad } }
    let d4 := ((d3.put GL_MEM_STATUS_RETIRING 0).raise GL_MEM_EVENT_RETIRED).put (GL_MEM_BANK_RETIRED bank)
      (d3.get (GL_MEM_BANK_RETIRED bank) + 1)
    let left := d4.get (GL_MEM_BANK_LEFT bank)
    d4.detect 10 (0x40 + bank) 6 (decide (left ≤ 4)) left id

/-- A page copy is complete within 2 048 ticks (R390). -/
def Device.copyTick (d : Device) : Device :=
  if d.mem.copying.isSome && decide (d.mem.copyAt + 2048 ≤ d.clk.now) then d.pageCopied else d

/-- CLEAR_CNT of GL_MEM_CMD. -/
def Device.memClear (d : Device) : Device := d.wrN GL_MEM_CNT 0

/-- A write of GL_MEM_CMD. -/
def Device.memCmdWrite (d : Device) (v : Nat) : Device :=
  match bits v 0 4 with
  | 0 => d
  | 1 => d.memRetire
  | 2 => d.scrubStart
  | 3 => d.memClear
  | _ => d.memRefuse 4

end Sys2Proof.Machine
end

