-- ==== Sys2Proof/Machine/Caravan.lean ====
section
/-! DEFINITION. The caravanserai (R323–R350): roles, votes, heartbeats, loads, fail-over, planned swaps, retirement, live
update and image entries. -/

namespace Sys2Proof.Machine

/-- The caravanserai changed. -/
def Device.setCv (d : Device) (f : Caravan → Caravan) : Device := { d with cv := f d.cv }

/-- A refused command of CV_CMD. -/
def Device.cvRefuse (d : Device) (code : Nat) : Device := d.refuse CV_STATUS_REFUSE_LAST CV_EVENT_REFUSED code

/-- The counts of ACTIVE and RELAY engines in CV_STATUS. -/
def Device.cvShow (d : Device) : Device :=
  (d.put CV_STATUS_ACTIVE (d.enginesIn rlACTIVE).length).put CV_STATUS_RELAY (d.enginesIn rlRELAY).length

/-- IN_USE of every image entry: an engine runs or loads it. -/
def Device.imgShow (d : Device) : Device :=
  let used := (d.enginesIn rlACTIVE ++ d.enginesIn rlLOADING).map (fun e => d.engImage e)
  (List.range 8).foldl (fun d i => d.put (CV_IMG_STATE_IN_USE i) (b2n (used.contains i))) d

/-- An engine takes a role; a RELAY count that falls below 2 is reported (R345). -/
def Device.setRole (d : Device) (e r : Nat) : Device :=
  let before := (d.enginesIn rlRELAY).length
  let d1 := (d.put (DV_STATUS_ROLE e) r).setCv fun c =>
    { c with since := c.since.upd 0 e (fun _ => d.clk.now), active := if r = rlACTIVE then c.active.upd 0 e (fun _ => d.clk.beat) else c.active }
  let d2 := d1.cvShow.imgShow
  let n := (d2.enginesIn rlRELAY).length
  d2.detect 3 0xFF 8 (decide (n < 2) && decide (2 ≤ before)) n (fun d => d.raise CV_EVENT_RELAY_LOW)

/-- Is replica `r` in the vote: neither fenced nor retired by the ledger (R362)? -/
def Device.replicaIn (d : Device) (r : Nat) : Bool := (d.ledger.sources.pick {} (0x300 + 0x40 + r)).state == 0

/-- A decision of the replicas in the vote (R323, R324): is it carried out?  A replica is outvoted, or none agree, only
where an injection says so; with a replica excluded, any disagreement leaves no quorum (R362). -/
def Device.cvDecide (d : Device) : Bool × Device :=
  let voters := [0, 1, 2].filter (fun r => d.replicaIn r)
  let one := fun (d : Device) (r : Nat) =>
    match d.injTake 3 (0x40 + r) 13 with
    | some (dt, d1) =>
      let f : Fld := ⟨CV_VOTE, 8 * r, 8⟩
      let d2 := ((d1.incSat f).raise CV_EVENT_VOTE).put CV_STATUS_REPLICAS (setBit (d1.get CV_STATUS_REPLICAS) r false)
      d2.msg 3 (0x40 + r) 13 dt true
    | none => d
  let out := voters.filter (fun r => d.injPending 3 (0x40 + r) 13)
  let d1 := voters.foldl one d
  if voters.length < out.length + 2 then
    match out with
    | r :: _ => (false, d1.msg 3 0xFF 14 (d.rdN (INJ_DETAIL 3 (0x40 + r) 13)) true)
    | [] =>
      let (v, d2) := d1.fresh
      (false, d2.msg 3 0xFF 14 v.toNat)
  else
    match d1.injTake 3 0xFF 14 with
    | some (dt, d2) => (false, (d2.put CV_STATUS_REPLICAS 0).msg 3 0xFF 14 dt true)
    | none => (true, d1)

/-! ### Images (R348) -/

/-- PWORDS and DWORDS of a header. -/
def hdrSizes (h : List (BitVec 8)) : Nat × Nat := (bits (leAt h 8 4) 0 15, bits (leAt h 8 4) 16 15)

/-- The program bytes and the initial data bytes of an image whose header stands at `base`, whether all could be read,
and the block after the reads. -/
def Device.imgBytes (d : Device) (base : Nat) (h : List (BitVec 8)) : List (BitVec 8) × List (BitVec 8) × Bool × Device :=
  let (p, n) := hdrSizes h
  let (pb, u1, d1) := d.bulkRead (base + leAt h 0x20 4) (8 * p)
  let (db, u2, d2) := d1.bulkRead (base + leAt h 0x24 4) (4 * n)
  (pb, db, u1.isNone && u2.isNone, d2)

/-- MAGIC, the sizes and the place of an image in bulk memory (R348). -/
def hdrOk (base : Nat) (h : List (BitVec 8)) : Bool :=
  let (p, n) := hdrSizes h
  decide (leAt h 0 4 = 0x46434D49) && decide (1 ≤ p) && decide (p ≤ 16384) && decide (n ≤ 0x1F00) &&
  inBulk (base + leAt h 0x20 4) (8 * p) && inBulk (base + leAt h 0x24 4) (4 * n)

/-- IMG_BASE_WRITE (R348): the header is read, and VALID set if MAGIC, the sizes and the signature check out. -/
def Device.imgWrite (d : Device) (i v : Nat) : Device :=
  if i = 0 then d
  else if d.has (CV_IMG_STATE_IN_USE i) then d.cvRefuse 1
  else
    let base := v / 64 * 64
    let d1 := d.wrN (CV_IMG_BASE i) base
    if inBulk base 64 = false then d1.wrN (CV_IMG_STATE i) 0
    else
      let (h, u, d2) := d1.bulkRead base 64
      if u.isSome || !hdrOk base h then d2.wrN (CV_IMG_STATE i) 0
      else
        let (pb, db, ok, d3) := d2.imgBytes base h
        let valid := ok && decide (crc32 (pb ++ db) = leAt h 4 4)
        (d3.wrN (CV_IMG_STATE i) 0 |>.put (CV_IMG_STATE_SFMT i) (leAt h 0x0C 1)).put (CV_IMG_STATE_VALID i) (b2n valid)

/-! ### Loads (R335) -/

/-- The words of a tile memory that have a stuck bit (R379), remap words in service among them. -/
def Device.hardWords (d : Device) (e prog : Nat) : List Nat :=
  let base := tileHardKey e prog 0 0
  let mine := ((d.mem.hard.map (fun x => x.1)) ++ d.mem.remaps.map (fun x => x.1)).filter (fun k => decide (base ≤ k) && decide (k < base + 2 ^ 19))
  (mine.map (fun k => (k - base) / 8)).eraseDups.filter (fun a => (List.range 8).any (fun i => d.tileHardAt e prog a i != 0))

/-- The check bits' errors that hard bits of a tile memory show once its words are rewritten. -/
def Device.tileHard (d : Device) (e prog : Nat) : Store Nat :=
  let width := if prog = 1 then 8 else 4
  (d.hardWords e prog).foldl (fun (m : Store Nat) a => (List.range width).foldl (fun (m : Store Nat) i =>
    m.upd 0 (width * a + i) fun _ => d.tileHardAt e prog a i) m) []

/-- The march test of a tile memory (R386–R388): remap words with a stuck bit are never used, a failing word takes a remap
entry, and one that cannot fails the test. -/
def Device.marchTest (d : Device) (e prog : Nat) : Bool × Device :=
  let bad := ((List.range 8).map (fun s => remapId e prog s)).filter (fun x =>
    (List.range 8).any (fun i => d.mem.hard.pick 0 (remapKey x i) != 0) && !d.mem.badRemaps.contains x)
  let d0 := { d with mem := { d.mem with badRemaps := bad ++ d.mem.badRemaps } }
  (d0.hardWords e prog).foldl (fun (x : Bool × Device) a =>
    match x.2.takeRemap e prog a with
    | some d1 => (x.1, d1)
    | none => (false, x.2)) (true, d0)

/-- Little-endian words of `n` bytes, as entries of a sparse map from an address on. -/
def wordsAt (n : Nat) (bs : List (BitVec 8)) : Nat → Nat → Store Nat
  | _, 0 => []
  | a, f + 1 =>
    if bs.length < n then []
    else
      let v := ofLe (bs.take n)
      let rest := wordsAt n (bs.drop n) (a + 1) f
      if v = 0 then rest else (a, v) :: rest

/-- What a load or a self-test leaves of an engine: the level of its heartbeat wire, the measures of the interval in
progress (R27, R171) and the checkpoints already copied, which complete (R333). -/
def Engine.kept (s : Engine) : Engine :=
  { wire := s.wire, minSlack := s.minSlack, pacePeak := s.pacePeak, peakSteps := s.peakSteps, ckpts := s.ckpts }

/-- The memories of an engine written by a load: program words, initial data, zeros elsewhere and the signature (R157,
R335). -/
def Device.engFill (d : Device) (e : Nat) (pb db : List (BitVec 8)) (sig events : Nat) : Device :=
  let prog := (wordsAt 8 pb 0 pb.length).map (fun x => (x.1, BitVec.ofNat 64 x.2))
  let dmem := (wordsAt 4 db 0x2000 db.length).map (fun x => (x.1, BitVec.ofNat 32 x.2))
  let pe := d.tileHard e 1
  let de := d.tileHard e 0
  let d1 := d.setEng e fun s => { s.kept with prog := prog, dmem := dmem, perr := pe, derr := de }
  let d2 := (d1.setDm e 0x3F03 (BitVec.ofNat 32 sig)).wrN (DV_SIG e) sig
  ((d2.put (DV_STATUS_FAULT e) 0).put (DV_STATUS_EXEC e) 0).put (DV_EV_EV_EN e) events |>.put (DV_EV_PEND e) 0

/-- A load of an image into an engine begins (R335). -/
def Device.cvLoad (d : Device) (s image : Nat) : Device :=
  let d1 := (d.put (CV_ENG_STATE_IMAGE s) image).setRole s rlLOADING
  d1.setCv fun c => { c with loads := c.loads.upd {} s (fun _ => { image := image, start := d.clk.now, done := false }) }

/-- A load abandoned. -/
def Device.cvUnload (d : Device) (s : Nat) : Device :=
  d.setCv fun c => { c with loads := c.loads.upd {} s (fun _ => {}) }

/-- Is the load of an engine complete? -/
def Device.cvLoaded (d : Device) (s : Nat) : Bool := d.role s == rlLOADING && (d.cv.loads.pick {} s).done

/-! ### Spares and fail-over (R333–R338) -/

/-- The engine of a list with the least of a measure, then the lowest number. -/
def least (f : Nat → Nat) (l : List Nat) : Option Nat :=
  l.foldl (fun (b : Option Nat) e => match b with
    | none => some e
    | some x => if f e < f x then some e else b) none

/-- The pace figure of an engine's latest self-test. -/
def Device.cvPaceOf (d : Device) (e : Nat) : Nat := d.cv.pace.pick 0 e

/-- The spare for a fenced engine, by the order of R334. -/
def Device.cvSpare (d : Device) (failed image : Nat) : Option Nat :=
  let sw := match d.cv.swap with
    | some w => if d.role w.s = rlLOADING then some w else none
    | none => none
  let first := match sw with
    | some w => if w.e = failed ∨ (d.cvLoaded w.s = true ∧ (d.cv.loads.pick {} w.s).image = image) then some w.s else none
    | none => none
  match first with
  | some s => some s
  | none =>
    match least d.cvPaceOf (d.enginesIn rlRELAY) with
    | some s => some s
    | none =>
      match least d.cvPaceOf (d.enginesIn rlSELFTEST) with
      | some s => some s
      | none => sw.map (·.s)

/-- A fail-over changed, by its fenced engine. -/
def Device.setJob (d : Device) (failed : Nat) (f : CvJob → CvJob) : Device :=
  d.setCv fun c => { c with jobs := c.jobs.map (fun j => if j.failed = failed ∧ j.takeover = none then f j else j) }

/-- No spare qualifies (R338); `inj` is the DETAIL of an injection (R371). -/
def Device.cvNoSpare (d : Device) (j : CvJob) (inj : Option Nat := none) : Device :=
  if j.sent && inj.isNone then d
  else ((d.raise CV_EVENT_NO_SPARE).setJob j.failed fun j => { j with sent := true, spare := none }).msg 3 0xFF 7
    (inj.getD j.failed) inj.isSome

/-- A spare taken for a fail-over, at most two of them (R334, R335). -/
def Device.cvPick (d : Device) (failed : Nat) : Device :=
  match d.cv.jobs.find? (fun j => j.failed == failed && j.takeover.isNone) with
  | none => d
  | some j =>
    if j.dead then d
    else if 2 ≤ j.tries then (d.setJob failed fun j => { j with dead := true, spare := none }).cvNoSpare j
    else
      match d.injTake 3 0xFF 7, d.cvSpare failed j.image with
      | some (dt, d1), _ => d1.cvNoSpare j (some dt)
      | none, none => d.cvNoSpare j
      | none, some s =>
        let d1 := d.setCv fun c => { c with swap := match c.swap with
          | some w => if w.s = s then none else some w
          | none => none }
        let keep := d.role s = rlLOADING ∧ (d.cv.loads.pick {} s).image = j.image
        let (ok, d1) := d1.cvDecide
        if !ok then d1 else
        let d2 := if keep then d1 else d1.cvLoad s j.image
        (d2.setJob failed fun j => { j with spare := some s, tries := j.tries + 1 }).put CV_FO_LAST_SPARE s

/-- An engine stops (R333): nothing of it takes effect any more; copies already begun complete. -/
def Device.engStop (d : Device) (e : Nat) : Device :=
  d.setEng e fun s => { s with running := false, startDue := false, waiting := none, bulk := none }

/-- A swap or fail-over whose spare is lost: the swap is abandoned, the fail-over takes its next spare. -/
def Device.cvDrop (d : Device) (s : Nat) : Device :=
  let d1 := (d.cvUnload s).setCv fun c => { c with swap := match c.swap with
    | some w => if w.s = s then none else some w
    | none => none }
  d1.cv.jobs.foldl (fun d j => if j.spare = some s ∧ j.takeover = none then d.cvPick j.failed else d) d1

/-- A fail-over begins for an engine just fenced (R334, R337). -/
def Device.cvFailover (d : Device) (e cause : Nat) : Device :=
  let axes := ((List.range 8).map (fun j => (j, d.slotAxis e j))).filter (fun x => decide (x.2 < 192))
  if axes.isEmpty then d
  else
    let late := decide (d.clk.latch < d.clk.tick)
    let held := axes.filter (fun x => late && !(d.ax x.2).fresh)
    let d1 := held.foldl (fun d x => (d.incSat (CV_AXIS_MAP_HOLDS x.2)).put (CV_AXIS_MAP_HELD x.2) 1) d
    let j : CvJob := { failed := e, image := d.engImage e, begun := (d.eng e).beatOf, axes := axes,
                       streaks := axes.map (fun x => (x.2, b2n (held.contains x))) }
    let d2 := d1.setCv fun c => { c with jobs := c.jobs ++ [j] }
    (((((d2.put CV_FO_LAST_FAILED e).put CV_FO_LAST_CAUSE cause).put CV_FO_LAST_HELD 0).raise CV_EVENT_FAILOVER).incSat
      CV_COUNT_FAILOVERS).cvPick e

/-- An engine is fenced (R331, R333, R362): cause 1 both heartbeat paths missed, 2 the ledger. -/
def Device.cvFence (d : Device) (e cause : Nat) : Device :=
  let r := d.role e
  if r = rlFENCED ∨ r = rlRETIRED then d
  else
    let (ok, d1) := d.cvDecide
    if !ok then d1
    else
      let d2 := ((d1.engStop e).setRole e rlFENCED).cvDrop e
      if r = rlACTIVE then d2.cvFailover e cause else d2

/-- The spare of a fail-over, or 0x1F. -/
def Device.cvSpareOf (d : Device) (e : Nat) : Nat :=
  match d.cv.jobs.find? (fun j => j.failed == e && j.takeover.isNone) with
  | some j => j.spare.getD 0x1F
  | none => 0x1F

/-! ### Heartbeats (R330–R332) -/

/-- One path missed (R331). -/
def Device.hbMiss (d : Device) (e n kind : Nat) (f g : Fld) (first : Bool) : Device :=
  let d1 := ((d.incSat f).incSat g).raise CV_EVENT_HB_PATH
  if first then d1.msg 3 e kind (n % 65536) else d1

/-- One path met: an injection of its miss acts as one (R371). -/
def Device.hbMet (d : Device) (e kind : Nat) (f g : Fld) : Device :=
  match d.injTake 3 e kind with
  | some (dt, d1) => (((d1.incSat f).incSat g).raise CV_EVENT_HB_PATH).msg 3 e kind dt true
  | none => d

/-- The verdict on one engine for beat `n`. -/
def Device.hbJudge (d : Device) (e n : Nat) : Device :=
  if d.role e ≠ rlACTIVE ∨ n < d.cv.active.pick 0 e then d
  else
    let s := d.eng e
    let still := s.running && decide (s.beatOf = n)
    let word := s.hbs.contains (n, 1) && !still
    let wire := s.ends.contains n && !still
    let inj := d.injTake 3 e 1
    if !word && !wire then
      let d1 := d.cvFence e 1
      if d1.role e = rlFENCED then d1.msg 3 e 1 (d1.cvSpareOf e) else d1
    else
      match inj with
      | some (dt, d1) => (d1.cvFence e 1).msg 3 e 1 dt true
      | none =>
        let c := d.cv
        let d1 := if word then d.hbMet e 2 CV_HB_MISS_WORD (CV_ENG_HB_WORD e) else d.hbMiss e n 2 CV_HB_MISS_WORD (CV_ENG_HB_WORD e) (!bit c.runWord e)
        let d2 := if wire then d1.hbMet e 3 CV_HB_MISS_WIRE (CV_ENG_HB_WIRE e) else d1.hbMiss e n 3 CV_HB_MISS_WIRE (CV_ENG_HB_WIRE e) (!bit c.runWire e)
        d2.setCv fun c => { c with runWord := setBit c.runWord e (!word), runWire := setBit c.runWire e (!wire) }

/-- HEARTBEAT_VERDICT: at HB_LATE of a beat, on the beat before it, once. -/
def Device.hbVerdict (d : Device) : Device :=
  if d.clk.running = false ∨ d.clk.beat = 0 ∨ d.clk.tick < d.hbLate ∨ d.cv.judged = d.clk.beat then d
  else
    let d1 := d.setCv fun c => { c with judged := d.clk.beat }
    (d.enginesIn rlACTIVE).foldl (fun d e => d.hbJudge e (d.clk.beat - 1)) d1

/-! ### Checkpoints (R327, R328) -/

/-- The state vector with its framing in a checkpoint buffer, if it is valid for a beat, and the block after the read. -/
def Device.ckptValid (d : Device) (k beat : Nat) : Option (List Nat) × Device :=
  let (bs, u, d1) := d.bulkRead (d.ckptAddr k beat) 128
  let ok := u.isNone && decide (leAt bs 0x78 4 = beat % 2 ^ 32) && decide (crcMsb 16 0x1021 0xFFFF (bs.take 0x7C) = leAt bs 0x7C 2)
  (if ok then some ((List.range 32).map (fun i => leAt bs (4 * i) 4)) else none, d1)

/-- The checkpoint of an axis for a takeover at boundary `m`, of the two latest beats whose computation has begun. -/
def Device.ckptTake (d : Device) (e k begun m : Nat) : List Nat × Device :=
  let try_ := fun (d : Device) (n : Nat) => if n < m then d.ckptValid k n else (none, d)
  let lost := fun (d : Device) => (List.replicate 32 0, d.msg 3 e 6 k)
  match d.injTake 3 e 6 with
  | some (dt, d1) => (List.replicate 32 0, d1.msg 3 e 6 dt true)
  | none =>
    match try_ d begun with
    | (some w, d1) => (w, d1)
    | (none, d1) =>
      if begun = 0 then lost d1
      else
        match try_ d1 (begun - 1) with
        | (some w, d2) => (w, d2)
        | (none, d2) => lost d2

/-! ### Taking over axes (R326, R336, R340) -/

/-- The slot field of DV_SLOT. -/
def slotFld (e j : Nat) : Fld := ⟨(if j < 4 then DV_SLOT_A e else DV_SLOT_B e), 8 * (j % 4), 8⟩

/-- An axis placed in a slot of an engine, with CV_AXIS_MAP. -/
def Device.cvPlace (d : Device) (e j k image : Nat) : Device :=
  (((d.put (slotFld e j) k).put (CV_AXIS_MAP_ENGINE k) e).put (CV_AXIS_MAP_SLOT k) j).put (CV_AXIS_MAP_IMAGE k) image

/-- The axes of engine `e` move to engine `s` at a boundary, with their checkpoints, parameters and contours; the image that
a live update replaces there stays known (R349). -/
def Device.cvMove (d : Device) (e s begun : Nat) (axes : List (Nat × Nat)) : Device :=
  let image := (d.cv.loads.pick {} s).image
  let old := if d.engImage e = image then d.cv.updOld.pick image e else d.engImage e
  let d := d.setCv fun c => { c with updOld := c.updOld.upd image s fun _ => old }
  let d1 := axes.foldl (fun d x => (d.put (slotFld e x.1) 0xFF).cvPlace s x.1 x.2 image) d
  let d2 := axes.foldl (fun d x =>
    let (w, d) := d.ckptTake s x.2 begun d.clk.beat
    (d.setDms s (winAddr x.1 0x1C0) w).winParams s x.1 x.2) d1
  (((d2.setRole s rlACTIVE).cvUnload s).showAdmitted s).showAdmitted e

/-! ### Planned swaps (R339–R344) -/

/-- An engine goes to its self-test (R340, R341). -/
def Device.cvTest (d : Device) (e : Nat) : Device := (d.engStop e).setRole e rlSELFTEST

/-- An engine is retired (R345, R365): `cause` is that of its swap, or 0.  An injection that brought the retirement about
gives the message its DETAIL. -/
def Device.cvRetired (d : Device) (e cause : Nat) : Device :=
  let d1 := ((d.engStop e).setRole e rlRETIRED).raise CV_EVENT_RETIRED
  match d1.injTake 3 e 10 with
  | some (dt, d2) => d2.msg 3 e 10 dt true
  | none => d1.msg 3 e 10 cause

/-- The replacement of a planned swap (R342). -/
def Device.cvReplacement (d : Device) (cause : Nat) : Option Nat :=
  if cause = 1 ∨ cause = 2 ∨ cause = 6 then least (fun e => d.cv.since.pick 0 e) (d.enginesIn rlRELAY)
  else least d.cvPaceOf (d.enginesIn rlRELAY)

/-- A planned swap begins with the preload of its replacement. -/
def Device.cvStart (d : Device) (cause e image : Nat) : Device :=
  let (ok, d1) := d.cvDecide
  match ok, d1.cvReplacement cause with
  | true, some s => (d1.setCv fun c => { c with swap := some { e := e, s := s, cause := cause, image := image } }).cvLoad s image
  | _, _ => d1

/-- The update begins its next swap, if it is due and may (R342, R343, R346), or ends once no masked engine is left
(R347). -/
def Device.updStart (d : Device) : Device :=
  let c := d.cv
  let left := c.updLeft.filter (fun e => d.role e == rlACTIVE)
  if d.get CV_STATUS_UPDATE ≠ 1 ∨ c.swap.isSome = true then d
  else
    match left with
    | [] => (d.put CV_STATUS_UPDATE 2).raise CV_EVENT_UPDATE_DONE
    | e :: _ =>
      if c.updDue = false ∨ (d.enginesIn rlRELAY).length < 2 then d
      else (d.setCv fun c => { c with updDue := false, updAt := d.clk.beat }).cvStart 6 e c.updImage

/-- Swaps that wait: queued ones first, then the outrider, then the update (R342, R343). -/
def Device.cvService (d : Device) : Device :=
  let c := d.cv
  if c.swap.isSome then d
  else
    let q := c.queue.filter (fun x => d.role x.2 == rlACTIVE)
    let d0 := d.setCv fun c => { c with queue := q }
    match q with
    | x :: rest =>
      if (d0.enginesIn rlRELAY).isEmpty then d0
      else (d0.setCv fun c => { c with queue := rest }).cvStart x.1 x.2 (d0.engImage x.2)
    | [] =>
      if c.outDue && d0.has CV_CTRL_OUTRIDER_EN && decide (d0.get CV_STATUS_UPDATE ≠ 1) then
        if (d0.enginesIn rlRELAY).length < 2 then d0
        else
          match least (fun e => c.since.pick 0 e) (d0.enginesIn rlACTIVE) with
          | some e => (d0.setCv fun c => { c with outDue := false }).cvStart 1 e (d0.engImage e)
          | none => d0
      else d0.updStart

/-- OUTRIDER_PERIOD (R342): SWAP_PERIOD has elapsed since the latest one. -/
def Device.cvOutrider (d : Device) : Device :=
  let per := min 60000 (max 1 (d.get CV_SWAP_SWAP_PERIOD)) * 100000
  if d.clk.running = false ∨ d.clk.now < d.cv.outAt + per then d
  else (d.setCv fun c => { c with outAt := d.clk.now, outDue := d.has CV_CTRL_OUTRIDER_EN }).cvService

/-- The swap of an engine is over for an update: every masked engine changed ends it (R347). -/
def Device.updDone (d : Device) (e : Nat) : Device :=
  let d1 := d.setCv fun c => { c with updLeft := c.updLeft.filter (fun x => x != e) }
  if d1.get CV_STATUS_UPDATE = 1 ∧ (d1.cv.updLeft.filter (fun e => d1.role e == rlACTIVE)).isEmpty = true then
    (d1.put CV_STATUS_UPDATE 2).raise CV_EVENT_UPDATE_DONE
  else d1

/-- An update aborted (R347). -/
def Device.updAbort (d : Device) : Device :=
  if d.get CV_STATUS_UPDATE ≠ 1 then d
  else ((d.setCv fun c => { c with updLeft := [] }).put CV_STATUS_UPDATE 3).raise CV_EVENT_UPDATE_ABORTED

/-- The swap in progress at a boundary (R339, R340). -/
def Device.cvSwapStep (d : Device) : Device :=
  match d.cv.swap with
  | none => d
  | some w =>
    if d.cvLoaded w.s = false then d
    else
      let m := d.clk.beat
      let s := d.eng w.e
      let axes := ((List.range 8).map (fun j => (j, d.slotAxis w.e j))).filter (fun x => decide (x.2 < 192))
      let r := axes.foldl (fun (acc : Bool × Device) x =>
        let (v, d) := acc.2.ckptValid x.2 (m - 1)
        (acc.1 && v.isSome, d)) (true, d)
      let ok := d.role w.e = rlACTIVE ∧ s.running = false ∧ s.ends.contains (m - 1) = true ∧ s.overran = false ∧ r.1 = true
      let d1 := r.2
      let post := if ok then w.post else w.post + 1
      let d2 := d1.put CV_SWAP_LAST_POSTPONED (min 255 post)
      if ok then
        let (go, d3) := d2.cvDecide
        if !go then d3
        else
          let d4 := ((d3.setCv fun c => { c with swap := none }).cvMove w.e w.s (m - 1) axes)
          let d5 := (((d4.put CV_SWAP_LAST_RELIEVED w.e).put CV_SWAP_LAST_RELIEVING w.s).put CV_SWAP_LAST_CAUSE w.cause).incSat CV_COUNT_SWAPS
          let d6 := d5.raise CV_EVENT_SWAP
          let d7 := if w.cause = 3 then
              (d6.put (DV_SLACK_CONSEC w.e) 0).setCv fun c => { c with mig := some (w.s, d.clk.now) }
            else d6
          let d8 := if w.cause = 4 ∨ w.cause = 5 then d7.cvRetired w.e w.cause else d7.cvTest w.e
          if w.cause = 6 then d8.updDone w.e else d8
      else if 64 ≤ post then ((d2.setCv fun c => { c with swap := none }).cvUnload w.s).setRole w.s rlRELAY
      else d2.setCv fun c => { c with swap := some { w with post := post } }

/-- The fail-overs at a boundary (R336, R338): takeovers of loaded spares; a job without a spare looks again. -/
def Device.cvJobs (d : Device) : Device :=
  d.cv.jobs.foldl (fun d j =>
    if j.takeover.isSome then d
    else
      match j.spare with
      | some s =>
        if d.cvLoaded s then
          let (go, d1) := d.cvDecide
          if !go then d1
          else (d1.setJob j.failed fun j => { j with takeover := some d.clk.beat }).cvMove j.failed s j.begun j.axes
        else d
      | none => d.cvPick j.failed) d

/-- The caravanserai's part of a boundary, before the engines' (R324, R336, R339): the replicas in the vote agree again. -/
def Device.cvBoundary (d : Device) : Device :=
  let in_ := ((List.range 3).map (fun r => b2n (d.replicaIn r) * 2 ^ r)).sum
  (((d.put CV_STATUS_REPLICAS in_).cvJobs).cvSwapStep).cvService

/-- The held axes at an L (R337): counted until the first fresh result; L of the beat after the takeover ends a
fail-over. -/
def Device.cvLatch (d : Device) : Device :=
  d.cv.jobs.foldl (fun d j =>
    let beyond := match j.takeover with
      | some m => decide (m < d.clk.beat)
      | none => false
    if beyond then
      let h := maxL (j.streaks.map (·.2))
      let d1 := j.axes.foldl (fun d x => d.put (CV_AXIS_MAP_HELD x.2) 0) d
      (d1.put CV_FO_LAST_HELD (min 7 h)).setCv fun c => { c with jobs := c.jobs.filter (fun x => x.failed != j.failed || x.takeover != j.takeover) }
    else
      let held := fun (d : Device) (k : Nat) => !(d.ax k).fresh
      let d1 := j.axes.foldl (fun d x =>
        if held d x.2 then (d.incSat (CV_AXIS_MAP_HOLDS x.2)).put (CV_AXIS_MAP_HELD x.2) 1 else d.put (CV_AXIS_MAP_HELD x.2) 0) d
      d1.setCv fun c => { c with jobs := c.jobs.map (fun x =>
        if x.failed = j.failed ∧ x.takeover = j.takeover then
          { x with streaks := x.streaks.map (fun t => if held d t.1 then (t.1, t.2 + 1) else t) }
        else x) }) d

/-- Does the stock loop area hold the ROM's own bytes, none written since and no page of it mapped away (R392)?  The ROM's
image bears its right signature (R167; notes/assumptions/6). -/
def Device.stockIntact (d : Device) : Bool :=
  !d.bulk.any (fun x => decide (stockBase ≤ x.1) && decide (x.1 < stockBase + 0x20000)) &&
  !d.mem.pageMap.any (fun x => decide (stockBase / 4096 ≤ x.1) && decide (x.1 < (stockBase + 0x20000) / 4096))

/-- LOAD_COMPLETE (R335): the memories are written and the signature is checked. -/
def Device.loadComplete (d : Device) (s : Nat) : Device :=
  let l := d.cv.loads.pick {} s
  if d.role s ≠ rlLOADING ∨ l.done = true then d
  else
    let base := d.rdN (CV_IMG_BASE l.image)
    let h := d.peek base 64
    let sig := leAt h 4 4
    let events := bits (leAt h 0x0C 4) 8 3
    let finish := fun (d : Device) =>
      (d.setCv fun c => { c with loads := c.loads.upd {} s (fun l => { l with done := true }) }).put CV_FO_LAST_LOAD
        (min 255 ((d.clk.now - l.start) / 10))
    let fail := fun (d : Device) (dt : Nat) (inj : Bool) =>
      let sw := d.cv.swap
      let d1 := ((d.engStop s).setRole s rlFENCED).msg 3 s 5 dt inj
      let d2 := (if l.image = d.cv.updImage then d1.updAbort else d1).cvDrop s
      match sw with
      | some w =>
        if w.s ≠ s then d2
        else if w.cause = 6 then d2
        else if w.tries < 2 ∧ d2.role w.e = rlACTIVE then
          match d2.cvReplacement w.cause with
          | some s2 =>
            (d2.setCv fun c => { c with swap := some { w with s := s2, tries := w.tries + 1 } }).cvLoad s2 w.image
          | none => d2
        else d2
      | none => d2
    match d.injTake 3 s 5 with
    | some (dt, d1) => fail d1 dt true
    | none =>
      let (pb, db, ok, d1) := d.imgBytes base h
      let c := crc32 (pb ++ db)
      if ok ∧ (c = sig ∨ (l.image = 0 ∧ d.stockIntact = true)) then finish (d1.engFill s pb db sig events) else fail d1 c false

/-- SELF_TEST_DONE (R341, R387, R388): `result` is 1 pass, 2 logic fail, 3 memory fail; `step` the step time under the
test load in units of 10 ps.  A start-up self-test ends an engine's OFF. -/
def Device.selfTestDone (d : Device) (e result step : Nat) : Device :=
  let r := d.role e
  if r ≠ rlSELFTEST ∧ r ≠ 0 then d
  else
    let mp := d.marchTest e 1
    let md := mp.2.marchTest e 0
    let code := if 400 < step then 4 else if result = 2 then 2 else if result = 3 || !(mp.1 && md.1) then 3 else 1
    let pe := md.2.tileHard e 1
    let de := md.2.tileHard e 0
    let d0 := (md.2.setCv fun c => { c with pace := c.pace.upd 0 e (fun _ => step), testAt := c.testAt.upd 0 e (fun _ => d.clk.now) }).setEng e
      fun s => { s.kept with perr := pe, derr := de }
    let out := fun (d : Device) (code : Nat) =>
      let (ok, d1) := ((d.put (CV_ENG_STATE_LAST_TEST e) code).raise CV_EVENT_SELFTEST_FAIL).cvDecide
      if !ok then d1 else if code = 4 then d1.cvRetired e 0 else d1.setRole e rlFENCED
    match d0.injTake 3 e 11 with
    | some (dt, d1) => (out d1 (if 2 ≤ dt ∧ dt ≤ 4 then dt else 2)).msg 3 e 11 dt true
    | none =>
      if code = 1 then ((d0.put (CV_ENG_STATE_LAST_TEST e) 1).setRole e rlRELAY).cvService
      else (out d0 code).msg 3 e 11 code

/-! ### Commands and reactions -/

/-- SWAP and RETIRE of CV_CMD (R342, R343). -/
def Device.cvSwapCmd (d : Device) (cause e : Nat) : Device :=
  if d.cv.swap.isSome then d.cvRefuse 1
  else if 28 ≤ e ∨ d.role e ≠ rlACTIVE then d.cvRefuse 3
  else if (d.enginesIn rlRELAY).isEmpty then d.cvRefuse 4
  else d.cvStart cause e (d.engImage e)

/-- The step figure of an axis's VARIANT under an image: of the stock loop by R97, else the header's. -/
def Device.stepFigure (d : Device) (image k : Nat) : Nat :=
  if image = 0 then stockSteps (d.variant k) (d.has (AX_CTRL_STEP_CL k)) 0 0
  else imgSteps (d.imgHeader image) (d.variant k) (d.has (AX_CTRL_STEP_CL k))

/-- OVERHEAD of an image; 100 for the stock loop (R97). -/
def Device.imgOverhead (d : Device) (image : Nat) : Nat := if image = 0 then 100 else leAt (d.imgHeader image) 0x0E 2

/-- UPDATE of CV_CMD (R346). -/
def Device.cvUpdate (d : Device) (image : Nat) : Device :=
  let es := (onesOf 28 (d.get CV_UPD_MASK_MASK)).filter (fun e => d.role e == rlACTIVE)
  let live := fun (e : Nat) => (d.engAxes e).any (fun k => decide (d.axState k ≠ axOFF))
  if d.get CV_STATUS_UPDATE = 1 then d.cvRefuse 1
  else if !d.has (CV_IMG_STATE_VALID image) then d.cvRefuse 5
  else if es.any (fun e => live e && d.get (CV_IMG_STATE_SFMT image) != d.get (CV_IMG_STATE_SFMT (d.engImage e))) then d.cvRefuse 6
  else if es.any (fun e => decide (d.imgOverhead (d.engImage e) < d.imgOverhead image) ||
      (d.engAxes e).any (fun k => decide (d.stepFigure (d.engImage e) k < d.stepFigure image k))) then d.cvRefuse 7
  else
    let (ok, d1) := d.cvDecide
    if !ok then d1
    else
      let d2 := (d1.setCv fun c => { c with updImage := image, updLeft := es, updDue := true, updOld := [] }).put CV_STATUS_UPDATE 1
      if es.isEmpty then (d2.put CV_STATUS_UPDATE 2).raise CV_EVENT_UPDATE_DONE else d2.cvService

/-- UPDATE_SWAP_PERIOD (R346). -/
def Device.updPeriod (d : Device) : Device :=
  if d.get CV_STATUS_UPDATE ≠ 1 ∨ d.clk.beat < d.cv.updAt + max 1 (d.get CV_SWAP_UPD_PERIOD) then d
  else (d.setCv fun c => { c with updDue := true }).cvService

/-- CLEAR_CNT of CV_CMD. -/
def Device.cvClear (d : Device) : Device :=
  (List.range 28).foldl (fun d e => d.wrN (CV_ENG_HB e) 0) (((d.wrN CV_COUNT 0).wrN CV_HB_MISS 0).wrN CV_VOTE 0)

/-- A write of CV_CMD. -/
def Device.cvCmdWrite (d : Device) (v : Nat) : Device :=
  match bits v 0 4 with
  | 0 => d
  | 1 => d.cvSwapCmd 2 (bits v 8 5)
  | 2 => d.cvSwapCmd 5 (bits v 8 5)
  | 3 => d.cvUpdate (bits v 16 3)
  | 4 => d.updAbort
  | 5 => d.cvClear
  | _ => d.cvRefuse 2

/-- A write of CV_CKPT_BASE (R329): only before the scheduler starts. -/
def Device.ckptBaseWrite (d : Device) (v : Nat) : Device :=
  if d.clk.running then d.cvRefuse 1 else d.wrN CV_CKPT_BASE (v / 256 * 256)

/-- The ledger's MIGRATE reaction (R342, R344, R356). -/
def Device.cvMigrate (d : Device) (e : Nat) : Device :=
  let persist := match d.cv.mig with
    | some (s, t) => decide (s = e) && decide (d.clk.now < t + 100000000)
    | none => false
  let inj := d.injTake 3 e 12
  if persist && decide (3 ≤ d.get (DV_SLACK_CONSEC e)) then d.msg 3 e 12 e
  else if inj.isSome then (inj.map (fun x => x.2.msg 3 e 12 x.1 true)).getD d
  else if d.role e ≠ rlACTIVE ∨ d.cv.queue.any (fun x => x.2 == e) = true then d
  else (d.setCv fun c => { c with queue := c.queue ++ [(3, e)] }).cvService

/-- A fenced engine recovers (R333, R363): it runs a self-test. -/
def Device.cvRecover (d : Device) (e : Nat) : Device := if d.role e = rlFENCED then d.cvTest e else d

/-- The ledger retires an engine (R365). -/
def Device.cvRetire (d : Device) (e : Nat) : Device :=
  if d.role e = rlRETIRED then d
  else
    let d1 := if d.role e = rlFENCED then d else d.cvFence e 2
    let (ok, d2) := d1.cvDecide
    if ok ∧ d2.role e = rlFENCED then d2.cvRetired e 0 else d2

/-- The pace check at the end of an interval (R345). -/
def Device.cvPaceCheck (d : Device) : Device :=
  let d1 := (d.enginesIn rlACTIVE).foldl (fun (d : Device) e =>
    let m := d.get (DV_MARGIN_MARGIN e)
    let warn := decide (m < d.get CV_PACE_MARGIN_WARN)
    let low := if m < d.get CV_PACE_MARGIN_RETIRE then d.cv.low.pick 0 e + 1 else 0
    let first := warn && !bit d.cv.warn e
    let d1 := d.setCv fun c => { c with warn := setBit c.warn e warn, low := c.low.upd 0 e (fun _ => min low 3) }
    let d2 := d1.detect 3 e 9 first m id
    let busy := d2.cv.queue.any (fun x => x.2 == e) || (match d2.cv.swap with
      | some w => w.e == e
      | none => false)
    if (3 ≤ low ∨ 400 < d.get (DV_PACE_PEAK e) ∨ d.injPending 3 e 10 = true) ∧ busy = false then d2.setCv fun c => { c with queue := c.queue ++ [(4, e)] } else d2) d
  d1.cvService

end Sys2Proof.Machine
end

