-- ==== Sys2Proof/Machine/FlashPort.lean ====
section
/-! DEFINITION. The two flash ports (R515–R522, R539): the mapped window with its prefetch buffer, programming and erasing,
staging, and the key-hash slots.  The flash chips' contents stand in the state; how an operation on them ends comes with
the command that reports it. -/

namespace Sys2Proof.Machine

/-- Flash port `p`. -/
def Device.fl (d : Device) (p : Nat) : FlPort := d.boot.ports.pick {} p
/-- Flash port `p` changed. -/
def Device.setFl (d : Device) (p : Nat) (f : FlPort → FlPort) : Device :=
  { d with boot := { d.boot with ports := d.boot.ports.upd {} p f } }
/-- The loader's and the flash store's state changed. -/
def Device.setBoot (d : Device) (f : Boot → Boot) : Device := { d with boot := f d.boot }
/-- A refusal of port `p`. -/
def Device.xsRefuse (d : Device) (p code : Nat) : Device := d.refuse (XS_STATUS_REFUSE_LAST p) (XS_EVENT_REFUSED p) code

/-- The key of a flash byte. -/
def flKey (p a : Nat) : Nat := p * 2 ^ 32 + a
/-- A byte of flash; an unlisted one reads as an erased byte. -/
def Device.flByte (d : Device) (p a : Nat) : BitVec 8 := Store.get (fun _ => 0xFF) d.boot.flash (flKey p a)
/-- Bytes of flash. -/
def Device.flBytes (d : Device) (p a n : Nat) : List (BitVec 8) := (List.range n).map (fun i => d.flByte p (a + i))
/-- A byte of flash changed. -/
def Device.setFlByte (d : Device) (p a : Nat) (v : BitVec 8) : Device :=
  d.setBoot fun b => { b with flash := Store.set (fun _ => 0xFF) b.flash (flKey p a) v }
/-- Bytes of flash programmed. -/
def Device.flProgram (d : Device) (p a : Nat) : List (BitVec 8) → Device
  | [] => d
  | v :: vs => (d.setFlByte p a v).flProgram p (a + 1) vs
/-- Bytes of flash erased. -/
def Device.flErase (d : Device) (p a n : Nat) : Device :=
  let keep := d.boot.flash.filter (fun x => decide (x.1 < flKey p a) || decide (flKey p (a + n) ≤ x.1))
  d.setBoot fun b => { b with flash := keep }
/-- Bytes of flash that an operation left in an unknown state take free values. -/
def Device.flUnknown (d : Device) (p a : Nat) : Nat → Device
  | 0 => d
  | n + 1 =>
    let (v, d1) := d.fresh
    (d1.setFlByte p a (BitVec.ofNat 8 v.toNat)).flUnknown p (a + 1) n

/-- 64 MiB (R517, R523). -/
def flWindow : Nat := 0x4000000

/-- Is the port in a 1.8 V bank (R542)? -/
def Device.fl18 (d : Device) (p : Nat) : Bool := bit (d.get GL_IO_BANK_V18) (7 + p)

/-! ### Registers -/

/-- May a port run at a MODE and DIV (R515, R516): a DIV of 2 to 64, 8D-8D-8D in a 1.8 V bank only, and a DIV of 4 or more
in a 3.3 V bank? -/
def Device.xsModeOk (d : Device) (p mode div : Nat) : Bool :=
  decide (mode ≠ 3) && decide (2 ≤ div) && decide (div ≤ 64) && (d.fl18 p || (decide (mode ≠ 2) && decide (4 ≤ div)))

/-- XS_CTRL written: not after the scheduler started; a MODE or DIV that the port may not have is refused. -/
def Device.xsCtrlWrite (d : Device) (p v : Nat) : Device :=
  if d.clk.running then d.xsRefuse p 1
  else if d.xsModeOk p (bits v 1 2) (bits v 8 8) = false then d.xsRefuse p 6
  else (d.wrN (XS_CTRL p) (andN v 0x1FFF3F)).put (XS_STATUS_CONT_ACTIVE p) 0

/-- XS_OPC written. -/
def Device.xsOpcWrite (d : Device) (p v : Nat) : Device :=
  if d.clk.running then d.xsRefuse p 1 else d.wrN (XS_OPC p) (andN v 0xFFFF)

/-! ### The mapped window (R517–R519, R521) -/

/-- The lines of a port invalidated (R518). -/
def Device.flInvalidate (d : Device) (p : Nat) : Device :=
  d.setBoot fun b => { b with lines := b.lines.filter (fun l => l.port != p) }

/-- The port that serves reads of port `p`: a fenced port's reads use the other copy (R362). -/
def Device.flServing (d : Device) (p : Nat) : Nat := if (d.fl p).fenced then 1 - p else p

/-- The least recently used line left out where the buffer is full. -/
def lineRoom (l : List FlLine) : List FlLine :=
  if l.length < 4 then l
  else
    let old := l.foldl (fun m x => min m x.used) (l.headD ⟨0, 0, false, [], 0, false⟩).used
    match l.span (fun x => x.used != old) with
    | (a, _ :: b) => a ++ b
    | (a, []) => a

/-- A line allocated for an address of a port, its fill in progress. -/
def Device.lineAlloc (d : Device) (p a : Nat) (miss : Bool) : Device :=
  if d.boot.lines.any (fun l => l.port == p && l.addr == a) then d
  else d.setBoot fun b => { b with lines := lineRoom b.lines ++ [⟨p, a, false, [], d.clk.now, miss⟩] }

/-- A read suspends an operation on the port, if it may (R521). -/
def Device.flSuspend (d : Device) (p : Nat) : Device :=
  if (d.fl p).op = 1 ∨ (d.fl p).op = 2 then d.raise (XS_EVENT_SUSPENDED p) else d

/-- The port is in continuous read after a read in a mode that has it (R519). -/
def Device.flCont (d : Device) (p : Nat) : Device :=
  if d.has (XS_CTRL_CONT p) && (d.get (XS_CTRL_MODE p) == 1 || d.get (XS_CTRL_MODE p) == 2) then d.put (XS_STATUS_CONT_ACTIVE p) 1 else d

/-- A read error of a port (R516). -/
def Device.flReadErr (d : Device) (p a : Nat) (injected : Bool := false) : Device :=
  (d.raise (XS_EVENT_READ_ERR p)).msg 14 (0x10 + p) 5 a injected

/-- LINE_FILL (R518): the fill of a line ends with its data or with a read error, as it does where the port is not in use
(R516); after a miss the next line follows if the port is idle. -/
def Device.lineFill (d : Device) (p a : Nat) (err0 : Bool) : Device :=
  let err := err0 || !d.has (XS_CTRL_EN p)
  match d.boot.lines.find? (fun l => l.port == p && l.addr == a && !l.valid) with
  | none => d
  | some l =>
    let (bad, d1) := match d.injTake 14 (0x10 + p) 5 with
      | some (dt, d1) => (true, d1.flReadErr p dt true)
      | none => (err, if err then d.flReadErr p a else d)
    let full : FlLine := { l with valid := true, data := d.flBytes p a 64 }
    let lines := if bad then d1.boot.lines.filter (fun x => x != l) else d1.boot.lines.map (fun x => if x == l then full else x)
    let d2 := (d1.setBoot fun b => { b with lines := lines }).flCont p
    if l.miss && (d.fl p).op == 0 && decide (a + 64 < flWindow) then d2.lineAlloc p (a + 64) false else d2

/-- MAPPED_READ (R518): a read at flash address `a` of a port hits a line or starts its fill. -/
def Device.mappedRead (d : Device) (p a : Nat) : Device :=
  let q := d.flServing p
  let base := a / 64 * 64
  if d.boot.lines.any (fun l => l.port == q && l.addr == base) then
    let touch : FlLine → FlLine := fun l => if l.port == q && l.addr == base then { l with used := d.clk.now } else l
    d.setBoot fun b => { b with lines := b.lines.map touch }
  else if ((d.fl q).op = 1 ∨ (d.fl q).op = 2) ∧ d.has (XS_CTRL_SUSPEND q) = false then d
  else (d.flSuspend q).lineAlloc q base true

/-- A whole read of a word of the mapped window: its value, and 0 done, 1 busy (R521) or 3 a read error; a port that is not
in use gives no data, which is a read error (R516). -/
def Device.flWord (d : Device) (p a : Nat) : BitVec 32 × Nat × Device :=
  let q := d.flServing p
  let base := a / 64 * 64
  let hit := d.boot.lines.any (fun l => l.port == q && l.addr == base && l.valid)
  if !hit && !d.has (XS_CTRL_EN q) then (0, 3, d.flReadErr q a)
  else if !hit && ((d.fl q).op == 1 || (d.fl q).op == 2) && !d.has (XS_CTRL_SUSPEND q) then (0, 1, d)
  else
    let d1 := d.mappedRead p a
    let d2 := if hit then d1 else d1.lineFill q base false
    match d2.boot.lines.find? (fun l => l.port == q && l.addr == base && l.valid) with
    | some l => (BitVec.ofNat 32 (leAt l.data (a % 64) 4), 0, d2)
    | none => (0, 3, d2)

/-! ### Programming and erasing (R520) -/

/-- Page and sector sizes of XS_PGM2. -/
def Device.flPage (d : Device) (p : Nat) : Nat := 2 ^ (min 4 (d.get (XS_PGM2_PAGE p)) + 8)
/-- The sector size. -/
def Device.flSector (d : Device) (p : Nat) : Nat := 2 ^ (min 8 (d.get (XS_PGM2_SECT p)) + 12)

/-- The refusal code of an operation on `n` bytes from `a`, 0 for none. -/
def Device.flCode (d : Device) (p a n : Nat) (aligned : Bool) : Nat :=
  if (d.fl p).op ≠ 0 then 1
  else if d.boot.booted = some p ∧ a < flWindow ∧ 0 < n then 2
  else if flWindow < a + n ∨ aligned = false then 3
  else if (d.fl p).fenced then 5
  else 0

/-- An operation starts on a port: RESULT running, its units of work, and, but for a VERIFY, the port's lines invalid. -/
def Device.flStart (d : Device) (p op units : Nat) (f : FlPort → FlPort) : Device :=
  let d1 := ((d.setFl p fun s => { f s with op := op, startAt := d.clk.now }).put (XS_STATUS_OP p) (min 3 op)).put (XS_STATUS_CONT_ACTIVE p) 0
  let d2 := (d1.put (XS_OP_RESULT p) 1).put (XS_OP_REMAIN p) units
  if op = 4 then d2 else d2.flInvalidate p

/-- FLASH_WRITE's operation: code 0 if it started. -/
def Device.flWrite (d : Device) (p a : Nat) (data : List (BitVec 8)) : Nat × Device :=
  let n := data.length
  let code := d.flCode p a n true
  if code ≠ 0 then (code, d.xsRefuse p code)
  else
    let pg := d.flPage p
    let pages := if n = 0 then 0 else (a + n - 1) / pg - a / pg + 1
    (0, d.flStart p 1 pages fun s => { s with addr := a, data := data, count := n })

/-- FLASH_ERASE's operation: code 0 if it started. -/
def Device.flEraseOp (d : Device) (p a sectors : Nat) : Nat × Device :=
  let sz := d.flSector p
  let code := d.flCode p a (sectors * sz) (decide (a % sz = 0))
  if code ≠ 0 then (code, d.xsRefuse p code)
  else (0, d.flStart p 2 sectors fun s => { s with addr := a, data := [], count := sectors * sz })

/-- An operation ends with a RESULT. -/
def Device.flEnd (d : Device) (p result : Nat) : Device :=
  let d1 := ((d.setFl p fun s => { s with op := 0, data := [] }).put (XS_STATUS_OP p) 0).put (XS_OP_RESULT p) result
  let d2 := d1.put (XS_OP_REMAIN p) 0
  let d3 := if (d.fl p).op = 4 then d2 else d2.flInvalidate p
  if result = 2 then d3.raise (XS_EVENT_DONE p) else d3.raise (XS_EVENT_FAILED p)

/-- The ticks for which the flash must have been busy before an operation times out (R520): 10 ms for a page, 2 s for a
sector. -/
def flLimit (op : Nat) : Nat := if op = 1 then 1000000 else 200000000

/-- FLASH_OP_DONE (R520): `result` 2 done, 3 mismatch first at `at_`, 4 timeout; what a failed operation left is unknown. -/
def Device.flDone (d : Device) (p result at_ : Nat) : Device :=
  let s := d.fl p
  if (s.op ≠ 1 ∧ s.op ≠ 2) ∨ (result ≠ 2 ∧ result ≠ 3 ∧ d.clk.now < s.startAt + flLimit s.op) then d
  else
    let good := if result = 2 then s.count else if result = 3 then min s.count (at_ - s.addr) else 0
    let d1 := if s.op = 1 then d.flProgram p s.addr (s.data.take good) else d.flErase p s.addr good
    let d2 := d1.flUnknown p (s.addr + good) (s.count - good)
    let d3 := if result = 3 then d2.wrN (XS_OP_ADDR p) (s.addr + good)
      else if result = 4 then d2.wrN (XS_OP_ADDR p) at_ else d2
    d3.flEnd p (if result = 2 then 2 else if result = 3 then 3 else 4)

/-! ### Staging (R522) -/

/-- STAGE in XS_CMD. -/
def Device.xsStage (d : Device) (p : Nat) : Device :=
  let i := d.get XS_STAGE_TBL_INDEX
  let len := d.rdN XS_STAGE_LEN
  let pend := decide (i < tableCount) && (d.has (GL_TD_STATE_PENDING i) || d.has (GL_TD_STATE_DEFERRED i))
  if (d.fl p).op ≠ 0 ∨ pend = true then d.xsRefuse p 1
  else if tableCount ≤ i ∨ d.rdN (GL_TD_SIZE i) < len then d.xsRefuse p 3
  else if (d.fl p).fenced then d.xsRefuse p 5
  else d.flStart p 3 0 fun s =>
    { s with addr := d.rdN XS_STAGE_SRC, count := len, table := i, crc := d.rdN XS_STAGE_CRC }

/-- XS_STAGE_DONE (R522): the bytes stand in the shadow copy and their CRC is compared. -/
def Device.xsStaged (d : Device) (p : Nat) : Device :=
  let s := d.fl p
  if s.op ≠ 3 then d
  else
    let bs := d.flBytes p s.addr s.count
    let d1 := d.poke (d.tblShadow s.table) bs
    if crc32 bs = s.crc then d1.flEnd p 2 else d1.flEnd p 5

/-- VERIFY in XS_CMD (R538): a check of a copy starts. -/
def Device.xsVerify (d : Device) (p : Nat) : Device :=
  if (d.fl p).op ≠ 0 then d.xsRefuse p 1 else d.flStart p 4 0 id

/-- XS_CMD written. -/
def Device.xsCmdWrite (d : Device) (v : Nat) : Device :=
  let p := bits v 8 1
  match bits v 0 4 with
  | 0 => d
  | 1 => d.xsVerify p
  | 2 => d.xsStage p
  | _ => d.xsRefuse p 4

/-! ### Key-hash slots (R539) -/

/-- PROGRAM or REVOKE of a slot, from JTAG only. -/
def Device.otpProgram (d : Device) (slot : Nat) : Device :=
  if bit (d.get XS_OTP_STATE_PROGRAMMED) slot then d.xsRefuse 0 1
  else
    let bs := (List.range 8).flatMap (fun j => leBytes (Store.get (fun _ => (0 : BitVec 32)) d.boot.otpData j).toNat 4)
    let otp := (bs.zip (List.range 32)).foldl (fun m x => Store.set (fun _ => (0 : BitVec 8)) m (32 * slot + x.2) x.1) d.boot.otp
    (d.setBoot fun b => { b with otp := otp }).put ⟨XS_OTP_STATE, slot, 1⟩ 1

/-- REVOKE of a slot. -/
def Device.otpRevoke (d : Device) (slot : Nat) : Device :=
  if !bit (d.get XS_OTP_STATE_PROGRAMMED) slot then d.xsRefuse 0 1 else d.put ⟨XS_OTP_STATE, 4 + slot, 1⟩ 1

/-- XS_OTP_CMD written: only JTAG reaches it (R539). -/
def Device.otpCmdWrite (d : Device) (path v : Nat) : Device :=
  if path ≠ pathJtag then d
  else
    match bits v 0 4 with
    | 0 => d
    | 1 => d.otpProgram (bits v 4 2)
    | 2 => d.otpRevoke (bits v 4 2)
    | _ => d.xsRefuse 0 4

/-- XS_OTP_DATA written. -/
def Device.otpDataWrite (d : Device) (j : Nat) (v : BitVec 32) : Device :=
  d.setBoot fun b => { b with otpData := Store.set (fun _ => 0) b.otpData j v }

/-! ### Fencing (R362, R520) -/

/-- A port fenced or retired by the ledger. -/
def Device.flFence (d : Device) (p : Nat) : Device := (d.setFl p fun s => { s with fenced := true }).put (XS_STATUS_FENCED p) 1

/-- A port recovers. -/
def Device.flRecover (d : Device) (p : Nat) : Device := (d.setFl p fun s => { s with fenced := false }).put (XS_STATUS_FENCED p) 0

end Sys2Proof.Machine
end

