-- ==== Sys2Proof/Machine/Itin.lean ====
section
/-! DEFINITION. Itineraries (R298–R322): tables and their check, the run of an instance, the tracking of its moves, the
commands of IT_CMD and the homing templates.  The round itself stands in Round.lean. -/

namespace Sys2Proof.Machine

/-! ### Tables (R300–R305) -/

/-- The number of states of an itinerary table. -/
def itStates (t : List (BitVec 8)) : Nat := leAt t 0 1 + 1
/-- INITIAL. -/
def itInitial (t : List (BitVec 8)) : Nat := leAt t 1 1
/-- The number of action records. -/
def itActions (t : List (BitVec 8)) : Nat := bits (leAt t 4 4) 0 10
/-- The number of frame records. -/
def itFrames (t : List (BitVec 8)) : Nat := bits (leAt t 8 4) 0 6
/-- The offset of state record `s`. -/
def itStateAt (s : Nat) : Nat := 0x10 + 40 * s
/-- The offset of action record `i`. -/
def itActionAt (t : List (BitVec 8)) (i : Nat) : Nat := 0x10 + 40 * itStates t + 16 * i
/-- The offset of frame record `f`. -/
def itFrameAt (t : List (BitVec 8)) (f : Nat) : Nat := itActionAt t (itActions t) + 72 * f
/-- CTRL of state record `s`. -/
def itStateCtrl (t : List (BitVec 8)) (s : Nat) : Nat := leAt t (itStateAt s) 4
/-- The two words of condition `c` of state `s`. -/
def itCond (t : List (BitVec 8)) (s c : Nat) : Nat × Nat :=
  (leAt t (itStateAt s + 8 + 8 * c) 4, leAt t (itStateAt s + 12 + 8 * c) 4)
/-- CTRL and VALUE of action record `i`. -/
def itAction (t : List (BitVec 8)) (i : Nat) : Nat × Nat := (leAt t (itActionAt t i) 4, leAt t (itActionAt t i + 8) 8)

/-- R302, R303: the content rules of one condition. -/
def condOk (states w0 : Nat) : Bool :=
  let kind := bits w0 0 6
  let op := bits w0 16 16
  decide (kind < 12) && !bit w0 7 && (decide (kind = 0) || decide (bits w0 8 8 < states)) &&
  (match kind with
   | 2 => decide (bits op 0 8 < 192) && decide (bits op 8 5 < 9)
   | 3 => decide (bits op 12 4 < 3)
   | 4 => decide (bits op 12 4 < 3)
   | 5 => decide (op < 3)
   | _ => true)

/-- R304: the content rules of one action. -/
def actionOk (frames c : Nat) : Bool :=
  let kind := bits c 0 5
  let obj := bits c 8 8
  let arg := bits c 16 16
  decide (kind < 13) && decide (bits c 6 2 = 0) &&
  (match kind with
   | 1 => decide (obj < 192)
   | 2 => decide (obj < 192)
   | 3 => decide (obj < 192) && decide (4 ≤ bits arg 0 4) && decide (bits arg 0 4 ≤ 7)
   | 4 => decide (obj < 40)
   | 6 => decide (obj < 2) && decide (arg < frames)
   | 7 => decide (obj < 16)
   | 10 => decide (obj < 2)
   | 12 => decide (obj < 192)
   | _ => true)

/-- The content rules of an itinerary table (R300–R305): the check of a commit. -/
def itTableOk (t : List (BitVec 8)) : Bool :=
  let n := itStates t
  let a := itActions t
  let f := itFrames t
  decide (leAt t 0 4 < 2 ^ 16) && decide (itInitial t < n) && decide (leAt t 4 4 ≤ 512) && decide (leAt t 8 4 ≤ 32) &&
  decide (leAt t 12 4 = 0) && decide (itFrameAt t f ≤ t.length) &&
  (List.range n).all (fun s =>
    let c := itStateCtrl t s
    decide (c < 2 ^ 19) && decide (bits c 9 4 = 0) && decide (leAt t (itStateAt s + 4) 4 = 0) &&
    decide (bits c 0 9 + bits c 13 4 ≤ a) &&
    (List.range 4).all (fun j => let w := itCond t s j; condOk n w.1)) &&
  (List.range a).all (fun i => actionOk f (itAction t i).1 && decide (leAt t (itActionAt t i + 4) 4 = 0)) &&
  (List.range f).all (fun i => decide (leAt t (itFrameAt t i + 4) 4 < 16))

/-! ### Instances -/

/-- Instance `k`. -/
def Device.itin (d : Device) (k : Nat) : ItInst := d.itins.pick {} k
/-- Instance `k` changed. -/
def Device.setItin (d : Device) (k : Nat) (f : ItInst → ItInst) : Device := { d with itins := d.itins.upd {} k f }
/-- The run state of instance `k`: 0 IDLE, 1 RUNNING, 2 PAUSED, 3 DONE, 4 FAULT, 5 ABORTED. -/
def Device.itRun (d : Device) (k : Nat) : Nat := d.get (IT_STATUS_RUN k)
/-- RUNNING or PAUSED. -/
def Device.itLive (d : Device) (k : Nat) : Bool := d.itRun k == 1 || d.itRun k == 2
/-- The table an instance runs, its working copy. -/
def Device.itTable (d : Device) (k : Nat) : List (BitVec 8) := d.tblWork (0xE0 + d.get (IT_CTRL_TABLE k))
/-- The homing template of an instance, if it runs one. -/
def Device.itTemplate (d : Device) (k : Nat) : Option Nat :=
  let t := d.get (IT_CTRL_TABLE k)
  if 64 ≤ t ∧ t < 76 then some (t - 64) else none
/-- A refused command or write of instance `k`. -/
def Device.itRefuse (d : Device) (k code : Nat) : Device := d.refuse (IT_STATUS_REFUSE_LAST k) (IT_EVENT_REFUSED k) code

/-- An itinerary event on Q5 (R316) for the round of a beat. -/
def Device.itEvent (d : Device) (k kind state code beat value ref : Nat) : Device :=
  d.q5 4 (leBytes (k + kind * 2 ^ 8 + state % 256 * 2 ^ 16 + code * 2 ^ 24) 4 ++ leBytes beat 4 ++ leBytes value 8) ref

/-- ABORT_REACT on every axis to which the instance has sent a GO or JOG since START (R313). -/
def Device.itReact (d : Device) (k : Nat) : Device :=
  match d.get (IT_CTRL_ABORT_REACT k) with
  | 0 => d
  | 1 => (d.itin k).moved.foldl (fun d a => (d.plStop a).2) d
  | _ => (d.itin k).moved.foldl (fun d a => (d.plQstop a).2) d

/-- A run ends: 3 DONE, 4 FAULT, 5 ABORTED (R312–R316), and no commit of its table waits for it any more (R299); `inj` is
the DETAIL of an injected IT_FAULT (R371). -/
def Device.itEnd (d : Device) (k run beat : Nat) (code detail action : Nat := 0) (inj : Option Nat := none) : Device :=
  let st := d.get (IT_STATUS_STATE k)
  let d1 := ((d.put (IT_STATUS_RUN k) run).put (IT_STATUS_TABLE_PEND k) 0).setItin k fun i =>
    { i with starting := none, entered := false }
  match run with
  | 3 => (d1.raise (IT_EVENT_DONE k)).itEvent k 1 st 0 beat 0 0
  | 4 =>
    let d2 := (d1.raise (IT_EVENT_FAULT k)).wrN (IT_FAULT k)
      (code + st * 2 ^ 8 + action % 16 * 2 ^ 16 + detail % 256 * 2 ^ 24)
    let dt := inj.getD (code * 2 ^ 24 + st * 2 ^ 16 + action % 16 * 2 ^ 8)
    ((d2.itReact k).msg 9 k 1 dt inj.isSome).itEvent k 2 st code beat 0 0
  | _ => ((d1.raise (IT_EVENT_ABORTED k)).itReact k).itEvent k 3 st 0 beat 0 0

/-- A run ends in FAULT. -/
def Device.itFail (d : Device) (k code : Nat) (detail action : Nat := 0) : Device :=
  d.itEnd k 4 (d.clk.beat - 1) code detail action

/-! ### Moves of an instance (R303) -/

/-- An accepted GO or JOG of instance `k` for axis `a`; `before` is the block before it. -/
def Device.itMoved (d before : Device) (k a : Nat) : Device :=
  let st := before.plState a
  let p := d.pl a
  let held := decide (st = plHOLDING) || decide (st = plHELD)
  let m : ItMove := { axis := a, id := p.moveId, gen := if held then none else some p.gen, base := p.resGen }
  d.setItin k fun i =>
    { i with moves := i.moves.filter (fun x => x.axis != a) ++ [m], moved := i.moved.filter (fun x => x != a) ++ [a] }

/-- GO or JOG as an action of instance `k`. -/
def Device.itMove (d : Device) (k a : Nat) (jog : Bool) (v : Int) : Res :=
  let (c, d1) := if jog then d.plJog a v else d.plGo a v
  if c = 0 then (0, d1.itMoved d k a) else (c, d1)

/-- HOLD, RESUME, STOP or QSTOP (AX_PL_CMD codes 4 to 7) as an action of instance `k`: the instance's own change goes on
with its move. -/
def Device.itPlan (d : Device) (k a code : Nat) : Res :=
  let g := (d.pl a).gen
  let (c, d1) := match code with
    | 4 => d.plHold a
    | 5 => d.plResume a
    | 6 => d.plStop a
    | _ => d.plQstop a
  if c ≠ 0 then (c, d1)
  else
    let g1 := (d1.pl a).gen
    (0, d1.setItin k fun i => { i with moves := i.moves.map (fun m =>
      if m.axis = a ∧ m.gen = some g ∧ m.arrived = false then { m with gen := some g1 } else m) })

/-- The flags MOVE_DONE and MOVE_LOST of a move at a boundary (R303). -/
def Device.itTrack (d : Device) (m : ItMove) : ItMove :=
  let p := d.pl m.axis
  let st := d.plState m.axis
  let gen := match m.gen with
    | some g => some g
    | none => if p.moveId = m.id ∧ m.base < p.resGen then some p.resGen else none
  match gen with
  | none =>
    { m with lost := m.lost || decide (p.moveId ≠ m.id) || (decide (st ≠ plHOLDING) && decide (st ≠ plHELD)) }
  | some g =>
    let arrived := m.arrived || decide (p.arrGen = some g)
    { m with gen := some g, arrived := arrived, done := arrived && decide (p.gen = g),
             lost := m.lost || (!arrived && decide (p.gen ≠ g)) }

/-- The move of instance `k` for axis `a`. -/
def Device.itMoveOf (d : Device) (k a : Nat) : Option ItMove := (d.itin k).moves.find? (fun m => m.axis == a)

/-! ### Inputs (R302) -/

/-- The level of an input: class 0 UIO, 1 LTk_IN, 2 TRIP (its filtered active level). -/
def Device.itLevel (d : Device) (cls n : Nat) : Bool :=
  match cls with
  | 0 => decide (n < 40) && d.fioLevel n
  | 1 => bit d.it.ltPins n
  | _ => decide (n < 8) && d.has (MD_TRIP_STATUS_LEVEL n)

/-- The inputs that conditions read, by key. -/
def itInputs : List (Nat × Nat) :=
  (List.range 40).map (fun n => (0, n)) ++ (List.range 16).map (fun n => (1, n)) ++ (List.range 8).map (fun n => (2, n))

/-- The level of an input at the latest boundary and the number of boundaries, up to 255, that it has had it. -/
def Device.itInput (d : Device) (cls n : Nat) : Bool × Nat :=
  let x := d.it.inputs.pick 0 (cls * 4096 + n)
  (bit x 8, x % 256)

/-- What a boundary records for the round that follows it: input levels, host flags and the flags of moves. -/
def Device.itBoundary (d : Device) : Device :=
  let inputs := itInputs.foldl (fun (m : Store Nat) (e : Nat × Nat) =>
    let key := e.1 * 4096 + e.2
    let lv := d.itLevel e.1 e.2
    let x := m.pick 0 key
    let run := if bit x 8 = lv then min 255 (x % 256 + 1) else 1
    Store.set (fun _ => 0) m key (b2n lv * 256 + run)) d.it.inputs
  let d1 := { d with it := { d.it with inputs := inputs } }
  (List.range 64).foldl (fun (d : Device) k =>
    if d.itLive k then
      let fl := d.rd (IT_FLAGS k)
      d.setItin k fun i => { i with flags := fl, moves := i.moves.map (fun m => d.itTrack m) }
    else d) d1

/-! ### Commands (R312, R313) -/

/-- IT_START: START in IT_CMD, with the state to enter.  A commit of the table that waits now waits for this run too
(R299); what a milestone's latest ARM has met stays known (R302). -/
def Device.itStart (d : Device) (k : Nat) (atState : Bool) (state : Nat) : Device :=
  let t := d.get (IT_CTRL_TABLE k)
  let tbl := d.itTable k
  if d.itLive k then d.itRefuse k 1
  else if 76 ≤ t ∨ (t < 64 ∧ d.has (GL_TD_STATE_DEFINED (0xE0 + t)) = false) then d.itRefuse k 2
  else
    let n := if t < 64 then itStates tbl else 1
    let s := if atState then state else if t < 64 then itInitial tbl else 0
    if n ≤ s then d.itRefuse k 3
    else
      let d1 := d.setItin k fun i => { ({} : ItInst) with starting := some s, flags := i.flags, arms := i.arms }
      let pend := decide (t < 64) && (d.tables.pick {} (0xE0 + t)).waiting
      let d2 := ((d1.put (IT_STATUS_RUN k) 1).put (IT_STATUS_PHASE k) 0).put (IT_STATUS_TABLE_PEND k) (b2n pend)
      ((d2.wrN (IT_STIMER k) 0).wrN (IT_TIMER k) 0).wrN (IT_ROUNDS k) 0

/-- PAUSE. -/
def Device.itPause (d : Device) (k : Nat) : Device :=
  if d.itRun k = 1 then d.put (IT_STATUS_RUN k) 2 else d.itRefuse k 4

/-- CONTINUE. -/
def Device.itContinue (d : Device) (k : Nat) : Device :=
  if d.itRun k = 2 then d.put (IT_STATUS_RUN k) 1 else d.itRefuse k 4

/-- ABORT (R313). -/
def Device.itAbort (d : Device) (k : Nat) : Device :=
  if d.itLive k then d.itEnd k 5 d.clk.beat else d.itRefuse k 4

/-- A write of IT_CMD; while a round runs it waits for its end (R312). -/
def Device.itCmdWrite (d : Device) (k v : Nat) : Device :=
  if d.it.inRound then { d with it := { d.it with later := d.it.later ++ [(k, v)] } }
  else
    match bits v 0 4 with
    | 0 => d
    | 1 => d.itStart k (bit v 4) (bits v 8 8)
    | 2 => d.itPause k
    | 4 => d.itContinue k
    | 8 => d.itAbort k
    | _ => d.itRefuse k 3

/-- Every RUNNING or PAUSED itinerary is aborted (R358). -/
def Device.itAbortAll (d : Device) : Device :=
  (List.range 64).foldl (fun d k => if d.itLive k then d.itAbort k else d) d

/-- A write of IT_CTRL: TABLE is written only while the instance does not run. -/
def Device.itCtrlWrite (d : Device) (k v : Nat) : Device :=
  if d.itLive k then
    let d1 := d.put (IT_CTRL_ABORT_REACT k) (bits v 8 2)
    if bits v 0 7 = d.get (IT_CTRL_TABLE k) then d1 else d1.itRefuse k 1
  else d.wrN (IT_CTRL k) (andN v 0x37F)

/-- A write of an IT_HM register (R322): ignored with BUSY while the instance runs. -/
def Device.itHmWrite (d : Device) (k : Nat) (f : Device → Device) : Device := if d.itLive k then d.itRefuse k 1 else f d

/-- Does an instance run the table of a directory index, so that its commit is deferred (R299)? -/
def Device.itDefers (d : Device) (i : Nat) : Bool :=
  (List.range 64).any (fun k => d.itLive k && d.get (IT_CTRL_TABLE k) + 0xE0 == i)

/-- TABLE_PEND of the instances that run a table whose commit waits or no longer waits (R299). -/
def Device.itTablePend (d : Device) (i : Nat) (on : Bool) : Device :=
  (List.range 64).foldl (fun d k =>
    if d.get (IT_CTRL_TABLE k) + 0xE0 = i then d.put (IT_STATUS_TABLE_PEND k) (b2n (on && d.itLive k)) else d) d

/-! ### Homing templates (R317–R322) -/

/-- The search direction d₀ of a template (R317). -/
def hmDir (t : Nat) : Int := if t = 2 ∨ t = 4 ∨ t = 6 ∨ t = 8 ∨ t = 11 then 1 else -1
/-- Does the search reverse at a limit? -/
def hmReverses (t : Nat) : Bool := (3 ≤ t && t ≤ 6) || t == 9
/-- A template that needs the Z capture. -/
def hmZ (t : Nat) : Bool := 5 ≤ t && t ≤ 9
/-- A hard-stop template. -/
def hmHard (t : Nat) : Bool := t == 10 || t == 11
/-- A template whose reference is a limit switch. -/
def hmLimitRef (t : Nat) : Bool := t == 1 || t == 2 || t == 7 || t == 8

/-- The input and the polarity of a switch: −1 the negative limit, 1 the positive limit, 0 the home switch. -/
def Device.hmSwitch (d : Device) (k : Nat) (w : Int) : Nat × Bool :=
  if w < 0 then (d.get (IT_HM_SEL_NEG_LIM k), d.has (IT_HM_OPT_NEG_POL k))
  else if 0 < w then (d.get (IT_HM_SEL_POS_LIM k), d.has (IT_HM_OPT_POS_POL k))
  else (d.get (IT_HM_SEL_HOME_IN k), d.has (IT_HM_OPT_HOME_POL k))

/-- Is a switch active at the latest boundary, and for how many boundaries it has had its level; no input is never
active. -/
def Device.hmLevel (d : Device) (k : Nat) (w : Int) : Bool × Nat :=
  let (n, pol) := d.hmSwitch k w
  if n < 40 then
    let (lv, run) := d.itInput 0 n
    (lv != pol, run)
  else (false, 255)

/-- STABLE, 0 taken as 1. -/
def Device.hmStable (d : Device) (k : Nat) : Nat := max 1 (d.get (IT_HM_OPT_STABLE k))
/-- A switch stably active. -/
def Device.hmActive (d : Device) (k : Nat) (w : Int) : Bool :=
  let (a, n) := d.hmLevel k w
  a && decide (d.hmStable k ≤ n)
/-- A switch stably inactive. -/
def Device.hmInactive (d : Device) (k : Nat) (w : Int) : Bool :=
  let (a, n) := d.hmLevel k w
  !a && decide (d.hmStable k ≤ n)

/-- The homing run changed. -/
def Device.setHome (d : Device) (k : Nat) (f : HomeRun → HomeRun) : Device :=
  d.setItin k fun i => { i with home := f i.home }

/-- A phase of R318 and the step within it. -/
def Device.hmAt (d : Device) (k phase step : Nat) : Device :=
  (d.put (IT_STATUS_PHASE k) phase).setHome k fun h => { h with step := step }

/-- A planner action of a template: its refusal ends the run (R307). -/
def Device.hmDo (k : Nat) (r : Res) (next : Device → Device) : Device :=
  if r.1 = 0 then next r.2 else r.2.itFail k 1 r.1

/-- A homing jog at a signed speed; the Z captures since it started begin anew. -/
def Device.hmJog (d : Device) (k a : Nat) (v : Int) (phase step : Nat) : Device :=
  Device.hmDo k (d.itMove k a true v) fun d => (d.hmAt k phase step).setHome k fun h => { h with z := none }

/-- A controlled stop of a template. -/
def Device.hmStop (d : Device) (k a phase step : Nat) : Device :=
  Device.hmDo k (d.itPlan k a 6) fun d => d.hmAt k phase step

/-- QSTOP and a FAULT end (R320, R322). -/
def Device.hmAbort (d : Device) (k a code : Nat) : Device := (d.itPlan k a 7).2.itFail k code

/-- SETPOS (R177) with a position: refused unless the axis is OFF, IDLE or HELD. -/
def Device.setposTo (d : Device) (a : Nat) (pos : Int) : Bool × Device :=
  let st := d.plState a
  let ok := decide (d.axState a = axOFF) || decide (st = plIDLE) || decide (st = plHELD)
  (ok, (d.wrS64 (AX_FB_SETPOS a) pos).setpos a)

/-- The measured position at a count of the primary source (R173). -/
def Device.posOfPrimary (d : Device) (a : Nat) (r : Int) : Int :=
  fdiv (r * d.rdS64 (AX_FB_SCALE a)) (2 ^ 16) + d.rdS64 (AX_FB_OFFSET a)

/-- Phase 6: the move to FINAL, or the end. -/
def Device.hmFinal (d : Device) (k a : Nat) : Device :=
  if d.has (IT_HM_OPT_FINAL_EN k) then
    Device.hmDo k (d.itMove k a false (d.rdS64 (IT_HM_FINAL k))) fun d => d.hmAt k 6 1
  else (d.hmAt k 6 0).itEnd k 3 (d.clk.beat - 1)

/-- SETPOS in phase 5, or in phase 1 of template 0; phase 6 follows once it has taken effect. -/
def Device.hmSet (d : Device) (k a : Nat) (pos : Int) (cap : Option Int) : Device :=
  let (ok, d1) := d.setposTo a pos
  let d2 := match cap with
    | some c => d1.wrS64 (IT_HM_CAP k) c
    | none => d1
  if ok then (d2.hmAt k 5 0).setItin k fun i => { i with moves := i.moves.filter (fun m => m.axis != a) }
  else d2.itFail k 1

/-- Phase 1: the check, and the start of the search. -/
def Device.hmCheck (d : Device) (k t : Nat) : Device :=
  let a := d.get (IT_HM_SEL_AXIS k)
  let zp := d.get (IT_HM_OPT_ZPORT k)
  let d1 := d.hmAt k 1 0
  if 192 ≤ a ∨ d.get (AX_STATUS_STATE a) ≠ axRUN then d1.itFail k 6
  else if hmZ t ∧ (d.get (AX_FB_SRC_PRI_KIND a) ≠ 2 ∨ d.get (AX_FB_SRC_PRI_ID a) ≠ zp ∨
      bit (d.port zp).ctrl.toNat 10 = false) then d1.itFail k 8
  else if t = 0 then
    let (ok, d2) := d1.setposTo a (d.rdS64 (IT_HM_POS k))
    if ok then d2.hmAt k 6 0 else d2.itFail k 1
  else
    let v := if hmHard t then d.rdS64 (IT_HM_VSLOW k) else d.rdS64 (IT_HM_VS k)
    (d1.setHome k fun _ => { dir := hmDir t }).hmJog k a (hmDir t * v) 2 0

/-- Phase 3 begins at rest: the jog off the switch, or the back-off of template 9. -/
def Device.hmClear (d : Device) (k a t : Nat) : Device :=
  if t = 9 then
    Device.hmDo k (d.itMove k a false ((d.pl a).cur.posOut - hmDir t * d.rdS64 (IT_HM_BACKOFF k))) fun d => d.hmAt k 3 2
  else d.hmJog k a (-(hmDir t) * d.rdS64 (IT_HM_VS k)) 3 0

/-- Has a planner come to rest in the latest snapshot? -/
def Device.hmRest (d : Device) (a : Nat) : Bool := d.get (AX_PL_STATUS_STATE a) == plIDLE

/-- The phases of R318 from the search on. -/
def Device.hmPhase (d : Device) (k a t : Nat) : Device :=
  let h := (d.itin k).home
  let ref : Int := if hmLimitRef t then hmDir t else 0
  let done := match d.itMoveOf k a with
    | some m => m.done
    | none => false
  match d.get (IT_STATUS_PHASE k), h.step with
  | 2, 0 =>
    if hmHard t then
      if h.warn then
        Device.hmDo k (d.itPlan k a 7) fun d => (d.hmAt k 2 3).setHome k fun h => { h with capture := some (d.fbPos a) }
      else d
    else if (if t = 9 then h.z.isSome else d.hmActive k ref) then d.hmStop k a 2 1
    else if hmReverses t ∧ h.reversed = false ∧ d.hmActive k h.dir = true then
      (d.setHome k fun h => { h with reversed := true, limHeld := true }).hmStop k a 2 2
    else d
  | 2, 1 => if d.hmRest a then d.hmClear k a t else d
  | 2, 2 =>
    if d.hmRest a then
      (d.setHome k fun h => { h with dir := -h.dir }).hmJog k a (-h.dir * d.rdS64 (IT_HM_VS k)) 2 0
    else d
  | 2, 3 =>
    if d.hmRest a then
      let c := h.capture.getD 0
      d.hmSet k a (d.rdS64 (IT_HM_POS k) + (d.fbPos a - c)) (some c)
    else d
  | 3, 0 => if d.hmInactive k ref then d.hmStop k a 3 1 else d
  | 3, 1 =>
    if d.hmRest a then
      Device.hmDo k (d.itMove k a false ((d.pl a).cur.posOut - hmDir t * d.rdS64 (IT_HM_BACKOFF k))) fun d => d.hmAt k 3 2
    else d
  | 3, 2 =>
    if done then
      (d.setHome k fun h => { h with capture := none }).hmJog k a (hmDir t * d.rdS64 (IT_HM_VSLOW k)) 4 0
    else d
  | 4, 0 =>
    if t = 9 then
      match h.z with
      | some r => (d.setHome k fun h => { h with capture := some (d.posOfPrimary a r) }).hmStop k a 4 1
      | none => d
    else
      let (act, n) := d.hmLevel k ref
      let cap := if act then some (h.capture.getD (d.fbPos a)) else none
      let d1 := d.setHome k fun h => { h with capture := cap }
      if act ∧ d.hmStable k ≤ n then
        if hmZ t then d1.hmAt k 4 2 |>.setHome k fun h => { h with z := none }
        else d1.hmStop k a 4 1
      else d1
  | 4, 2 =>
    match h.z with
    | some r => (d.setHome k fun h => { h with capture := some (d.posOfPrimary a r) }).hmStop k a 4 1
    | none => d
  | 4, 1 =>
    if d.hmRest a then
      let c := h.capture.getD 0
      d.hmSet k a (d.rdS64 (IT_HM_POS k) + (d.fbPos a - c)) (some c)
    else d
  | 5, _ => if (d.fb a).setposs.isEmpty then d.hmFinal k a else d
  | 6, 0 => if (d.fb a).setposs.isEmpty then d.hmFinal k a else d
  | 6, _ => if done then d.itEnd k 3 (d.clk.beat - 1) else d
  | _, _ => d

/-- Does a stable limit abort the run (R320)? -/
def Device.hmLimit (d : Device) (k t : Nat) : Bool :=
  let h := (d.itin k).home
  let ph := d.get (IT_STATUS_PHASE k)
  let opp := d.hmActive k (-(hmDir t))
  let same := d.hmActive k (hmDir t) && !hmLimitRef t && !h.limHeld
  if t = 0 then false
  else opp || (same &&
    (if ph = 2 then !(hmReverses t && !h.reversed && h.step == 0) else 3 ≤ ph && ph ≤ 5))

/-- One round of a template after its first (R318–R322). -/
def Device.hmStep (d : Device) (k t : Nat) : Device :=
  let a := d.get (IT_HM_SEL_AXIS k)
  let tmo := d.rdN (IT_HM_TMO k)
  let mv := d.itMoveOf k a
  let lost := match mv with
    | some m => m.lost
    | none => false
  let soft := match mv with
    | some m => m.gen.isSome && decide ((d.pl a).limGen = m.gen) && !m.done
    | none => false
  -- a limit met at the reversal counts again once it has let go
  let d1 := if (d.itin k).home.limHeld && !d.hmActive k (hmDir t) then d.setHome k fun h => { h with limHeld := false } else d
  if d1.get (AX_STATUS_STATE a) ≠ axRUN then d1.itFail k 6
  else if tmo ≠ 0 ∧ tmo ≤ d1.rdN (IT_ROUNDS k) then d1.hmAbort k a 4
  else if soft then d1.itFail k 5
  else if lost then d1.itFail k 7
  else if d1.hmLimit k t then d1.hmAbort k a 3
  else d1.hmPhase k a t

end Sys2Proof.Machine
end

