-- ==== Sys2Proof/Machine/Tollgate.lean ====
section
/-! DEFINITION. The tollgate (R394–R421): contacts and their filters, inputs, zones, outputs and STO lines, faults and
limp, service mode and configuration, and the logic side's acceptance of zone states.  What the field side measures comes
with the command that reports it. -/

namespace Sys2Proof.Machine

/-- The states of a zone. -/
def zSTO : Nat := 0
/-- SS1. -/
def zSS1 : Nat := 1
/-- SLS. -/
def zSLS : Nat := 2
/-- RUN. -/
def zRUN : Nat := 3

/-- The tollgate changed. -/
def Device.setTg (d : Device) (f : Tollgate → Tollgate) : Device := { d with tg := f d.tg }
/-- A field of the tollgate configuration in force (R421). -/
def Device.tgGet (d : Device) (f : Fld) : Nat := bits (Store.get resetWord d.tg.cfg f.addr).toNat f.lo f.width
/-- Zone `z`. -/
def Device.tgZone (d : Device) (z : Nat) : TgZone := d.tg.zones.pick {} z
/-- Zone `z` changed. -/
def Device.setZone (d : Device) (z : Nat) (f : TgZone → TgZone) : Device := d.setTg fun t => { t with zones := t.zones.upd {} z f }
/-- Input `i`. -/
def Device.tgIn (d : Device) (i : Nat) : TgInput := d.tg.inputs.pick {} i
/-- Input `i` changed. -/
def Device.setIn (d : Device) (i : Nat) (f : TgInput → TgInput) : Device := d.setTg fun t => { t with inputs := t.inputs.upd {} i f }
/-- Contact `c` (0 A, 1 B) of input `i`. -/
def Device.tgContact (d : Device) (i c : Nat) : TgContact := d.tg.contacts.pick {} (2 * i + c)
/-- A refused command or write. -/
def Device.tgRefuse (d : Device) (code : Nat) : Device := d.refuse TG_STATUS_REFUSE_LAST TG_EVENT_REFUSED code
/-- The state of zone `z`. -/
def Device.tgState (d : Device) (z : Nat) : Nat := d.get (TG_Z_STATUS_STATE z)
/-- Service mode. -/
def Device.tgService (d : Device) : Bool := d.has TG_STATUS_SERVICE
/-- The axes of zone `z` in the configuration in force. -/
def Device.tgAxes (d : Device) (z : Nat) : List Nat :=
  (List.range 192).filter (fun k => bit (d.tgGet (TG_Z_AXES_AXES z (k / 32))) (k % 32))
/-- The zone of an axis. -/
def Device.tgZoneOf (d : Device) (k : Nat) : Option Nat :=
  (List.range 8).find? (fun z => bit (d.tgGet (TG_Z_AXES_AXES z (k / 32))) (k % 32))

/-! ### The logic side (R408) -/

/-- The logic side takes a zone's state for one axis (R55, R57, R79, R85, R122, R126, R297). -/
def Device.tgAxis (d : Device) (k st : Nat) : Device :=
  let d1 := d.setAx k fun s => { s with sto := decide (st = zSTO), ss1 := decide (st ≤ zSS1) }
  let d2 := if st ≤ zSS1 ∧ (d1.ax k).enPend.isSome = true then d1.axWithdraw k (some 2) else d1
  let d3 := d2.mdSto k (decide (st = zSTO))
  if st = zSS1 then d3.axForceStop k 2 false 1
  else if st = zSLS then d3.axCap k (some (velIn (d.tgGet (TG_AX_SLS_LIMIT k) * 2 ^ 32)))
  else if st = zRUN then d3.axCap k none
  else d3

/-- The logic side takes the present state of a zone. -/
def Device.tgTake (d : Device) (z : Nat) : Device :=
  let st := d.tgState z
  (d.tgAxes z).foldl (fun d k => d.tgAxis k st) (d.setZone z fun s => { s with accepted := st })

/-- ZONE_DECISION_ACCEPT (R408): a change of a zone's state reaches the logic side. -/
def Device.zoneAccept (d : Device) (z : Nat) : Device := if (d.tgZone z).accepted = d.tgState z then d else d.tgTake z

/-! ### Removal paths (R396, R404, R409, R412) -/

/-- Is the line of chain `k` commanded or forced low? -/
def Device.tgLineLow (d : Device) (k : Nat) : Bool :=
  !d.tg.up || d.has FIO_STATUS_VFIELD_LOW || bit d.tg.kaLost k ||
  (List.range 8).any (fun z => decide (d.tgState z = zSTO) && bit (d.tgGet (TG_Z_PATH_CHAINS z)) k)

/-- Is safety output `o` commanded on? -/
def Device.tgOutOn (d : Device) (o : Nat) : Bool :=
  d.tg.up && !d.has FIO_STATUS_VFIELD_LOW && decide (d.tgGet (TG_SO_CTRL_EN o) = 1) &&
  !(List.range 8).any (fun z => decide (d.tgState z = zSTO) && bit (d.tgGet (TG_Z_PATH_OUTPUTS z)) o)

/-- The lines and outputs driven as the zones command; an output switched off under test abandons the test.  A line or an
output that is switched counts its cycles of bad readback anew (R410, R413). -/
def Device.tgPaths (d : Device) : Device :=
  let low := ((List.range 16).map (fun k => if d.tgLineLow k then 2 ^ k else 0)).sum
  let d1 := (List.range 16).foldl (fun d k => d.put (TK_STO_DRIVEN k) (b2n (bit low k))) (d.put TG_STO_STATUS_LOW low)
  let d2 := (onesOf 16 (low ^^^ d.get TG_STO_STATUS_LOW)).foldl (fun (d : Device) k =>
    d.setTg fun t => { t with lineBad := t.lineBad.upd 0 k (fun _ => 0) }) d1
  (List.range 4).foldl (fun d o =>
    let on := d1.tgOutOn o
    let d2 := if !on && d.has (TG_SO_STATUS_TESTING o) then (d.put (TG_SO_STATUS_TESTING o) 0).incSat (TG_SO_CNT_ABANDONED o) else d
    let d3 := if on = d.has (TG_SO_STATUS_ON o) then d2 else d2.setTg fun t => { t with outBad := t.outBad.upd 0 o (fun _ => 0) }
    d3.put (TG_SO_STATUS_ON o) (b2n on)) d2

/-! ### Zones (R404, R405, R409) -/

/-- The inputs that demand, as a mask. -/
def Device.tgDemands (d : Device) : Nat := ((List.range 8).map (fun i => if (d.tgIn i).demand then 2 ^ i else 0)).sum

/-- Does zone `z` have an STO, an SS1, an SLS demand of its inputs? -/
def Device.tgWants (d : Device) (z : Nat) : Bool × Bool × Bool :=
  let m := d.tgDemands
  (decide (andN m (d.tgGet (TG_Z_IN_STO_IN z)) ≠ 0), decide (andN m (d.tgGet (TG_Z_IN_SS1_IN z)) ≠ 0),
   decide (andN m (d.tgGet (TG_Z_IN_SLS_IN z)) ≠ 0))

/-- The first two conditions of R409: no STO or SS1 demand, any SS1 run to its STO, no latched fault. -/
def Device.tgClear (d : Device) (z : Nat) : Bool :=
  let (sto, ss1, _) := d.tgWants z
  !sto && !ss1 && decide (d.tgState z ≠ zSS1) && (d.tgZone z).latched.isEmpty

/-- The state of a zone by its most severe demand (R405, R409, R416, R420). -/
def Device.tgNext (d : Device) (z : Nat) : Nat :=
  let s := d.tgZone z
  let st := d.tgState z
  let (sto, ss1, sls) := d.tgWants z
  let easy := if sls || s.limp then zSLS else zRUN
  if !d.tg.up || d.tgService || sto || s.latched.any (·.force) then zSTO
  else if st = zSS1 then (if s.ss1Done then zSTO else zSS1)
  else if st = zSTO then (if d.tgClear z && !d.has (TG_Z_STATUS_WAIT_ACK z) then easy else zSTO)
  else if ss1 then zSS1
  else easy

/-- A zone takes a new state; the speed records of an SLS are counted from its entry (R407). -/
def Device.tgEnter (d : Device) (z st : Nat) : Device :=
  let old := d.tgState z
  let t := d.tg.time
  let d1 := d.put (TG_Z_STATUS_STATE z) st
  let d2 := d1.setZone z fun s =>
    { s with start := t, ss1Done := false, monitor := false, limp := s.limp && decide (st ≠ zSTO),
             limpUsed := if old = zSTO then s.limp else s.limpUsed }
  let d3 := d2.put (TG_Z_STATUS_LIMP z) (b2n (d2.tgZone z).limp)
  let d4 := d3.put TG_STATUS_LIMP (setBit (d3.get TG_STATUS_LIMP) z (d3.tgZone z).limp)
  let d5 := if st = zSTO then (d4.put (TG_Z_STATUS_WAIT_ACK z) (d.tgGet (TG_Z_CTRL_RESTART z))).put (TG_Z_STATUS_LIMP_LEFT z) 0 else d4
  let d5 := if st = zSLS then d5.setTg fun g => { g with speeds := g.speeds.filter (fun x => !(d.tgAxes z).contains x.1) } else d5
  let d6 := if st < old then d5.raise TG_EVENT_DEMAND else d5
  let d7 := if st < old ∧ st ≤ zSS1 then d6.incSat (TG_Z_CNT_DEMANDS z) else d6
  if old = zSTO then d7.raise TG_EVENT_RESTART else d7

/-- Every zone decided anew; entries into SS1 or STO send TG_DEMAND with the zones that enter (R404, R416).  While the
first two conditions of R409 do not hold, an acknowledgement is awaited where RESTART asks for one. -/
def Device.tgDecide (d : Device) (cause : Nat := 0) : Device :=
  let new := (List.range 8).map (fun z => (z, d.tgNext z))
  let worse := new.filter (fun x => decide (x.2 < d.tgState x.1) && decide (x.2 ≤ zSS1))
  let mask := (worse.map (fun x => 2 ^ x.1)).sum
  let d1 := new.foldl (fun d x => if x.2 = d.tgState x.1 then d else d.tgEnter x.1 x.2) d
  let d2 := worse.foldl (fun d x => d.msg 11 x.1 1 (mask * 65536 + cause)) d1
  let again := fun (d : Device) (z : Nat) =>
    if decide (d.tgState z = zSTO) && !d.tgClear z && decide (d.tgGet (TG_Z_CTRL_RESTART z) = 1) then d.put (TG_Z_STATUS_WAIT_ACK z) 1 else d
  ((List.range 8).foldl again d2).tgPaths

/-! ### Faults (R415–R417) -/

/-- FAULT and CAUSE of zone `z`. -/
def Device.tgShow (d : Device) (z : Nat) : Device :=
  let l := (d.tgZone z).latched
  let c := (l.getLast?.map (·.cause)).getD 0
  ((d.put (TG_Z_STATUS_FAULT z) (b2n (!l.isEmpty))).put (TG_Z_STATUS_CAUSE z) c).put TG_STATUS_FAULT
    (setBit (d.get TG_STATUS_FAULT) z (!l.isEmpty))

/-- The zones that use a channel. -/
def Device.tgUsers (d : Device) (chan : Nat) : List Nat :=
  (List.range 8).filter (fun z =>
    if chan / 16 = 1 then bit (d.tgGet (TG_Z_IN_STO_IN z)) (chan % 16) || bit (d.tgGet (TG_Z_IN_SS1_IN z)) (chan % 16) ||
      bit (d.tgGet (TG_Z_IN_SLS_IN z)) (chan % 16)
    else if chan / 16 = 2 then bit (d.tgGet (TG_Z_PATH_OUTPUTS z)) (chan % 16)
    else bit (d.tgGet (TG_Z_PATH_CHAINS z)) (chan % 16))

/-- Does zone `z` keep another removal path that reads back correctly (R415)? -/
def Device.tgOtherPath (d : Device) (z chan : Nat) : Bool :=
  (List.range 4).any (fun o => bit (d.tgGet (TG_Z_PATH_OUTPUTS z)) o && decide (0x20 + o ≠ chan) && !d.has (TG_SO_STATUS_FAULT o)) ||
  (List.range 16).any (fun k => bit (d.tgGet (TG_Z_PATH_CHAINS z)) k && !bit (d.get TG_STO_STATUS_FAULT) k)

/-- May limp follow a fault of this cause in zone `z` (R415, R417)? -/
def Device.tgLimpOk (d : Device) (z chan cause : Nat) : Bool :=
  let s := d.tgZone z
  decide (d.tgGet (TG_Z_CTRL_LIMP_EN z) = 1) && !s.limp && !s.limpUsed && decide (zSLS ≤ d.tgState z) &&
  (cause == 1 || cause == 2 || ((cause == 4 || cause == 5) && d.tgOtherPath z chan))

/-- A fault latches in zone `z`, in limp or in STO (R416, R417). -/
def Device.tgLatch (d : Device) (z chan cause : Nat) : Device :=
  let limp := d.tgLimpOk z chan cause
  let d1 := (d.setZone z fun s =>
    { s with latched := s.latched.filter (fun l => l.chan != chan || l.cause != cause) ++ [⟨chan, cause, !limp⟩],
             limp := s.limp || limp, limpUsed := s.limpUsed || limp, limpFrom := if limp then d.tg.time else s.limpFrom }).incSat
    (TG_Z_CNT_FAULTS z)
  let d2 := (d1.raise TG_EVENT_FAULT).tgShow z
  if limp then
    let m := min 60 (max 1 (d.tgGet (TG_Z_CTRL_LIMP_MIN z)))
    let d3 := (d2.put (TG_Z_STATUS_LIMP z) 1).put (TG_Z_STATUS_LIMP_LEFT z) m
    ((d3.put TG_STATUS_LIMP (setBit (d3.get TG_STATUS_LIMP) z true)).raise TG_EVENT_LIMP).msg 11 z 6 m
  else d2

/-- The ledger kind of a fault cause (R415). -/
def tgKind (cause : Nat) : Nat :=
  if cause = 1 then 2 else if cause ≤ 3 then 3 else if cause ≤ 5 then 4 else if cause ≤ 8 then 5 else 1

/-- A channel's fault decided (R415, R416): recorded at the channel, sent, latched in the zones that use it. -/
def Device.tgFault (d : Device) (chan cause : Nat) (b : Bool) (injected : Bool := false) : Device :=
  let n := chan % 16
  let dt := cause + 256 * b2n b
  let d1 :=
    if chan / 16 = 1 then
      ((((d.put (TG_SI_STATUS_CAUSE n) cause).put (TG_SI_STATUS_FAULT_A n) (b2n (!b))).put (TG_SI_STATUS_FAULT_B n) (b2n b)).incSat
        (TG_SI_CNT_FAULTS n)).setIn n fun s =>
          { s with fault := cause, faultB := b, demand := true, opened := false, reclosed := false, passed := 0 }
    else if chan / 16 = 2 then (d.put (TG_SO_STATUS_CAUSE n) cause).put (TG_SO_STATUS_FAULT n) 1
    else d.put TG_STO_STATUS_FAULT (setBit (d.get TG_STO_STATUS_FAULT) n true)
  let d2 := d1.msg 11 chan (tgKind cause) dt injected
  ((d2.tgUsers chan).foldl (fun d z => d.tgLatch z chan cause) d2).tgDecide dt

/-- A fault of a zone itself (causes 9, 10, 12), or of every zone (causes 11, 13). -/
def Device.tgZoneFault (d : Device) (zs : List Nat) (cause : Nat) (injected : Bool := false) : Device :=
  let d1 := zs.foldl (fun d z => d.tgLatch z 0 cause) d
  let mask := (zs.map (2 ^ ·)).sum
  let quiet := zs.filter (fun z => decide (d1.tgState z = zSTO))
  (quiet.foldl (fun d z => d.msg 11 z 1 (mask * 65536 + cause) injected) d1).tgDecide cause

/-- A channel's fault cleared: it leaves every zone. -/
def Device.tgUnlatch (d : Device) (chan : Nat) : Device :=
  (List.range 8).foldl (fun d z =>
    (d.setZone z fun s => { s with latched := s.latched.filter (fun l => l.chan != chan) }).tgShow z) d

/-! ### Safety inputs (R398–R403) -/

/-- The test-pulse source of a contact: 0–3, or 15 for a static feed. -/
def Device.tgSrc (d : Device) (i c : Nat) : Nat := d.tgGet (if c = 0 then TG_SI_CTRL_SRC_A i else TG_SI_CTRL_SRC_B i)

/-- The period of the test pulses in µs. -/
def Device.tgPeriod (d : Device) : Nat := max 1 (d.tgGet TG_TEST_TP_PERIOD) * 10000

/-- How long ago, in µs, the latest pulse of source `k` began at field time `t` (R401). -/
def Device.tgPulseAge (d : Device) (k t : Nat) : Nat :=
  let p := d.tgPeriod
  (t + 4 * p - k * p / 4) % p

/-- Is a contact masked by its source's pulse at field time `t` (R401)? -/
def Device.tgMasked (d : Device) (i c t : Nat) : Bool :=
  let k := d.tgSrc i c
  decide (k < 4) && decide (d.tgPulseAge k t < d.tgGet TG_TEST_TP_WIDTH * 10 + 20)

/-- The filter time of an input in µs. -/
def Device.tgFilt (d : Device) (i : Nat) : Nat := d.tgGet (TG_SI_CTRL_FILT i) * 100

/-- One sample of a contact at field time `t` (R398): the samples of the filter time and the one that begins it agree. -/
def TgContact.sample (x : TgContact) (filt t : Nat) (masked v : Bool) : TgContact :=
  let y := { x with raw := v }
  if masked then y
  else
    let run := if v = x.closed then 0 else x.run + 1
    if v ≠ x.closed ∧ filt < run then { y with closed := v, run := 0, at_ := t } else { y with run := run }

/-- The sixteen samples of a contact in one evaluation cycle, the first in the lowest bit. -/
def Device.tgSamples (d : Device) (i c : Nat) (w : Nat) : TgContact :=
  let filt := d.tgFilt i
  (List.range 16).foldl (fun (x : TgContact) j =>
    x.sample filt (d.tg.time + j) (d.tgMasked i c (d.tg.time + j)) (bit w j)) (d.tgContact i c)

/-- An input after its contacts' samples (R399, R400, R403). -/
def TgInput.step (s : TgInput) (a b : TgContact) (oldA oldB : Bool) (disc static t : Nat) (en : Bool) : TgInput :=
  let differ := if a.closed = b.closed then none
    else match s.differ with
      | some x => some x
      | none => if a.closed ≠ oldA then some (0, a.at_) else if b.closed ≠ oldB then some (1, b.at_) else some (0, t)
  let opened := s.opened || (!a.closed && !b.closed)
  let near := decide (a.at_ ≤ b.at_ + disc) && decide (b.at_ ≤ a.at_ + disc)
  let reclosed := s.reclosed || (s.opened && a.closed && b.closed && near)
  let passed := if a.closed && b.closed then s.passed else 0
  let clear := decide (s.fault ≠ 0) && reclosed && a.closed && b.closed && (bit passed 0 || bit static 0) && (bit passed 1 || bit static 1)
  let s1 := { s with differ := differ, opened := opened, reclosed := reclosed && a.closed && b.closed, passed := if reclosed then passed else 0 }
  let s2 := if clear then { s1 with fault := 0, faultB := false, opened := false, reclosed := false, passed := 0 } else s1
  let dem := en && (!(a.closed && b.closed) || decide (s2.fault ≠ 0))
  { s2 with demand := dem, demandAt := if dem && !s.demand then t else s.demandAt }

/-- One input in one evaluation cycle. -/
def Device.tgInput (d : Device) (i : Nat) (wa wb : Nat) : Device :=
  let a := d.tgSamples i 0 wa
  let b := d.tgSamples i 1 wb
  let oa := (d.tgContact i 0).closed
  let ob := (d.tgContact i 1).closed
  let s := d.tgIn i
  let static := b2n (decide (d.tgSrc i 0 = 15)) + 2 * b2n (decide (d.tgSrc i 1 = 15))
  let t := d.tg.time
  let s1 := s.step a b oa ob (d.tgGet (TG_SI_CTRL_DISC i) * 1000) static t (decide (d.tgGet (TG_SI_CTRL_EN i) = 1))
  let d1 := (d.setTg fun g => { g with contacts := (g.contacts.upd {} (2 * i) (fun _ => a)).upd {} (2 * i + 1) (fun _ => b) }).setIn i fun _ => s1
  let testing := d.tgMasked i 0 t || d.tgMasked i 1 t
  let w := b2n a.raw + 2 * b2n b.raw + 4 * b2n (!a.closed) + 8 * b2n (!b.closed) + 16 * b2n s1.demand +
    32 * b2n (decide (s1.fault ≠ 0) && !s1.faultB) + 64 * b2n (decide (s1.fault ≠ 0) && s1.faultB) + 128 * b2n testing
  let d2 := d1.wrN (TG_SI_STATUS i) (w + d.get (TG_SI_STATUS_CAUSE i) * 2 ^ 24)
  let d3 := if s1.demand && !s.demand then d2.incSat (TG_SI_CNT_DEMANDS i) else d2
  if s.fault ≠ 0 ∧ s1.fault = 0 then d3.tgUnlatch (0x10 + i) else d3

/-- DISCREPANCY (R400): the contacts of an input have differed for DISC; the fault names the one that did not follow. -/
def Device.tgDiscrepancy (d : Device) (i : Nat) : Device :=
  let s := d.tgIn i
  match s.differ with
  | none => d
  | some (c, t) =>
    if d.tgGet (TG_SI_CTRL_EN i) = 0 ∨ s.fault = 1 ∨ d.tg.time < t + d.tgGet (TG_SI_CTRL_DISC i) * 1000 then d
    else d.tgFault (0x10 + i) 1 (c == 0)

/-- TEST_PULSE (R401, R402): the pulse of a source is over; `low` names the contacts that read low on at least one of its
samples, `cross` those that read low in it and high just before and after (bit 2 · input + contact). -/
def Device.tgPulse (d : Device) (k low cross : Nat) : Device :=
  let began := d.tg.time - d.tgPulseAge k d.tg.time
  (List.range 16).foldl (fun (d : Device) x =>
    let i := x / 2
    let c := x % 2
    let s := d.tgIn i
    if d.tgGet (TG_SI_CTRL_EN i) = 0 ∨ (s.demand = true ∧ began ≤ s.demandAt ∧ s.fault = 0) then d
    else if d.tgSrc i c = k then
      if bit low x || !(d.tgContact i c).closed then d.setIn i fun s => { s with passed := setBit s.passed c true }
      else d.tgFault (0x10 + i) 2 (c == 1)
    else if bit cross x then d.tgFault (0x10 + i) 3 (c == 1)
    else d) d

/-! ### Outputs and lines (R410–R413) -/

/-- The readback of safety output `o` in one cycle (R410). -/
def Device.tgOut (d : Device) (o : Nat) (high low : Bool) : Device :=
  let on := d.has (TG_SO_STATUS_ON o)
  let bad := decide (d.tgGet (TG_SO_CTRL_EN o) = 1) && !d.has (TG_SO_STATUS_TESTING o) && (if on then !high else !low)
  let n := if bad then d.tg.outBad.pick 0 o + 1 else 0
  let d1 := (d.setTg fun t => { t with outBad := t.outBad.upd 0 o (fun _ => min n 3) }).put (TG_SO_STATUS_READBACK o) (b2n high)
  if n = 2 then d1.tgFault (0x20 + o) (if on then 5 else 4) false else d1

/-- The pin level of line `k` in one cycle (R413). -/
def Device.tgLine (d : Device) (k : Nat) (high : Bool) : Device :=
  let low := bit (d.get TG_STO_STATUS_LOW) k
  let bad := if low then high else !high
  let n := if bad then d.tg.lineBad.pick 0 k + 1 else 0
  let good := low && !high
  let last := if good then d.tg.time else d.tg.lineLow.pick 0 k
  let d1 := d.setTg fun t => { t with lineBad := t.lineBad.upd 0 k (fun _ => min n 3), lineLow := t.lineLow.upd 0 k (fun _ => last),
                                      kaLost := if high then setBit t.kaLost k false else t.kaLost }
  let d2 := (d1.put (TK_STO_PIN k) (b2n (!high))).put (TG_STO_AGE_HOURS k) (satU 16 ((d.tg.time - last) / 3600000000))
  let d3 := if good then d2.put TG_STO_STALE_STALE (setBit (d2.get TG_STO_STALE_STALE) k false) else d2
  if n = 2 then d3.tgFault (0x30 + k) (if low then 6 else 7) false else d3

/-- OFF_TEST (R411): 0 begins the OFF test of an output that is on, 1 ends it passed, else it ends with the readback
still high after OT_WIDTH. -/
def Device.tgOffTest (d : Device) (o phase : Nat) : Device :=
  if phase = 0 then
    if d.tgGet (TG_SO_CTRL_OT_EN o) = 1 ∧ d.has (TG_SO_STATUS_ON o) = true then d.put (TG_SO_STATUS_TESTING o) 1 else d
  else if !d.has (TG_SO_STATUS_TESTING o) then d
  else
    let d1 := d.put (TG_SO_STATUS_TESTING o) 0
    if phase = 1 then d1.incSat (TG_SO_CNT_TESTS o) else d1.tgFault (0x20 + o) 4 false

/-- A line reported as STO_STALE: a warning only (R413, R415). -/
def Device.tgStaleShow (d : Device) (k : Nat) (injected : Bool := false) : Device :=
  (d.put TG_STO_STALE_STALE (setBit (d.get TG_STO_STALE_STALE) k true)).msg 11 (0x30 + k) 5 8 injected

/-- STO_STALE (R413). -/
def Device.tgStale (d : Device) (k : Nat) : Device :=
  if d.get (TG_STO_AGE_HOURS k) < d.tgGet TG_STO_TEST_STO_TEST_H ∨ bit (d.get TG_STO_STALE_STALE) k = true then d
  else d.tgStaleShow k

/-- KEEPALIVE_LOSS (R396): the line's driver drives it low. -/
def Device.tgKeepAlive (d : Device) (k : Nat) : Device := (d.setTg fun t => { t with kaLost := setBit t.kaLost k true }).tgPaths

/-! ### Limp, timers and speed records (R404, R407, R417) -/

/-- SS1_TIME_ELAPSED (R405). -/
def Device.tgSs1 (d : Device) (z : Nat) : Device :=
  if d.tgState z ≠ zSS1 ∨ d.tg.time < (d.tgZone z).start + max 1 (d.tgGet (TG_Z_TIME_SS1_TIME z)) * 1000 then d
  else (d.setZone z fun s => { s with ss1Done := true }).tgDecide

/-- SLS_RAMP_ELAPSED (R407). -/
def Device.tgRamp (d : Device) (z : Nat) : Device :=
  if d.tgState z ≠ zSLS ∨ d.tg.time < (d.tgZone z).start + d.tgGet (TG_Z_TIME_SLS_RAMP z) * 1000 then d
  else d.setZone z fun s => { s with monitor := true }

/-- The minutes of limp counted down; every tenth one is reported (R417). -/
def Device.tgMinutes (d : Device) (z : Nat) : Device :=
  let s := d.tgZone z
  if !s.limp then d
  else
    let m := min 60 (max 1 (d.tgGet (TG_Z_CTRL_LIMP_MIN z)))
    let gone := (d.tg.time - s.limpFrom) / 60000000
    let left := m - gone
    if left = d.get (TG_Z_STATUS_LIMP_LEFT z) then d
    else
      let d1 := d.put (TG_Z_STATUS_LIMP_LEFT z) left
      if gone % 10 = 0 ∧ 0 < left then d1.msg 11 z 6 left else d1

/-- LIMP_END (R417): the count has run out; the latch takes cause 12 and SS1 runs. -/
def Device.tgLimpEnd (d : Device) (z : Nat) : Device :=
  let s := d.tgZone z
  if !s.limp ∨ d.tg.time < s.limpFrom + min 60 (max 1 (d.tgGet (TG_Z_CTRL_LIMP_MIN z))) * 60000000 then d
  else
    let d1 := (d.setZone z fun s => { s with limp := false, latched := s.latched ++ [⟨0, 12, false⟩] }).incSat (TG_Z_CNT_FAULTS z)
    let d2 := ((d1.tgShow z).raise TG_EVENT_FAULT).put (TG_Z_STATUS_LIMP_LEFT z) 0
    let d3 := if d2.tgState z = zSLS then d2.tgEnter z zSS1 else d2
    let d4 := (d3.put (TG_Z_STATUS_LIMP z) 0).put TG_STATUS_LIMP (setBit (d3.get TG_STATUS_LIMP) z false)
    ((d4.msg 11 z 7 0).msg 11 z 1 (2 ^ z * 65536 + 12)).tgPaths

/-- SPEED_RECORD (R407): the record of an axis of a zone in SLS; `good` is false where it is missing or fails its CRC. -/
def Device.tgSpeed (d : Device) (k : Nat) (good : Bool) : Device :=
  match d.tgZoneOf k with
  | none => d
  | some z =>
    if d.tgState z ≠ zSLS then d
    else
      let r := d.tg.speeds.pick {} k
      let fine := good && d.liveHas (AX_FB_STATUS_PRI_VALID k) && decide (r.beat ≠ d.clk.beat + 1) && d.clk.running
      let lim := d.tgGet (TG_AX_SLS_LIMIT k) * (256 + d.tgGet (TG_Z_CTRL_SLS_TOL z))
      -- AX_FB_VEL in 2⁻²⁴ count/tick, the set-point velocity as vel64, the limit in 1/256 count/s
      let beyond := decide (lim * 2 ^ 24 < (d.fbVel k).natAbs * 10 ^ 8 * 256) ||
        decide (lim * 2 ^ 32 < (d.rdS64 (AX_PL_SP_VEL k)).natAbs * 256)
      let viol := if fine && (d.tgZone z).monitor then (if beyond then r.viol + 1 else 0) else r.viol
      let miss := if fine then 0 else r.miss + 1
      let r1 : TgSpeed := { viol := min viol 16, miss := min miss 3, beat := if good then d.clk.beat + 1 else r.beat }
      let d1 := d.setTg fun t => { t with speeds := t.speeds.upd {} k (fun _ => r1) }
      if miss = 2 then d1.tgZoneFault [z] 9
      else if viol = max 1 (d.tgGet (TG_Z_CTRL_SLS_BEATS z)) ∧ viol ≠ r.viol then d1.tgZoneFault [z] 10
      else d1

/-! ### The evaluation cycle (R395) -/

/-- An acknowledgement of zone `z` (R409): it counts only once its conditions hold. -/
def Device.tgAck1 (d : Device) (z : Nat) : Device := if d.tgClear z then d.put (TG_Z_STATUS_WAIT_ACK z) 0 else d

/-- A rising edge on ACK_IN acknowledges (R409). -/
def Device.tgAckIn (d : Device) (z : Nat) : Device :=
  let c := d.tgGet (TG_Z_CTRL_ACK_IN z)
  let lv := decide (c < 40) && d.fioLevel c
  let d1 := d.setZone z fun s => { s with ackPrev := lv }
  if lv && !(d.tgZone z).ackPrev then d1.tgAck1 z else d1

/-- Injections into the tollgate, in service mode (R372). -/
def Device.tgInject (d : Device) : Device :=
  if !d.tgService then d
  else
    let chan := fun (d : Device) (inst kind lo hi : Nat) =>
      match d.injTake 11 inst kind with
      | some (dt, d1) =>
        let c := if lo ≤ dt % 256 ∧ dt % 256 ≤ hi then dt % 256 else lo
        if c = 8 then d1.tgStaleShow (inst % 16) true else d1.tgFault inst c (bit dt 8) true
      | none => d
    let d1 := (List.range 8).foldl (fun d i => chan (chan d (0x10 + i) 2 1 1) (0x10 + i) 3 2 3) d
    let d2 := (List.range 4).foldl (fun d o => chan d (0x20 + o) 4 4 5) d1
    let d3 := (List.range 16).foldl (fun d k => chan d (0x30 + k) 5 6 8) d2
    (List.range 8).foldl (fun d z =>
      let d4 := match d.injTake 11 z 1 with
        | some (dt, d1) =>
          let c := if 9 ≤ dt % 256 ∧ dt % 256 ≤ 13 then dt % 256 else 11
          d1.tgZoneFault (if c = 11 ∨ c = 13 then List.range 8 else [z]) c true
        | none => d
      ((d4.detect 11 z 6 false 0 id).detect 11 z 7 false 0 id).detect 11 z 8 false 0 id) d3

/-- Inputs demanding in each zone, as shown. -/
def Device.tgShowDemands (d : Device) : Device :=
  let m := d.tgDemands
  (List.range 8).foldl (fun d z =>
    let used := d.tgGet (TG_Z_IN_STO_IN z) ||| d.tgGet (TG_Z_IN_SS1_IN z) ||| d.tgGet (TG_Z_IN_SLS_IN z)
    d.put (TG_Z_STATUS_DEMAND z) (andN m used)) d

/-- EVALUATION_CYCLE (R395): 16 µs of contact samples (sixteen bits per contact, the earliest lowest), the outputs that
read within 3 V of VFIELD, those below 5 V, the lines that read high, and whether the evaluator's two results agree and
its couplers and configuration CRC hold.  What the cycle's time decides is decided in it: a zone state that the logic side
has not taken yet reaches it (R408), and DISC, STO_TEST_H, LIMP_MIN, SS1_TIME and SLS_RAMP run out (R400, R405, R407, R413,
R417). -/
def Device.tgCycle (d : Device) (samples : BitVec 256) (high low : BitVec 4) (pins : BitVec 16) (sound : Bool) : Device :=
  let w := fun (c : Nat) => bits samples.toNat (16 * c) 16
  let d0 := (List.range 8).foldl (fun d z => d.zoneAccept z) d
  let d1 := (List.range 8).foldl (fun d i => (d.tgInput i (w (2 * i)) (w (2 * i + 1))).tgDiscrepancy i) d0
  let d2 := (List.range 4).foldl (fun d o => d.tgOut o (bit high.toNat o) (bit low.toNat o)) d1
  let d3 := (List.range 16).foldl (fun d k => (d.tgLine k (bit pins.toNat k)).tgStale k) d2
  let lost := (List.range 5).any (fun g => (d3.fioGrp.pick {} g).expired)
  let d4 := if (lost || d3.field.wdogSeen) && !d3.tg.logicLost then d3.tgZoneFault (List.range 8) 13 else d3
  let d5 := { d4.setTg fun t => { t with logicLost := lost } with field := { d4.field with wdogSeen := false } }
  let d6 := if sound then d5 else d5.tgZoneFault (List.range 8) 11
  let d7 := (List.range 8).foldl (fun d z => ((((d.tgAckIn z).tgMinutes z).tgLimpEnd z).tgSs1 z).tgRamp z) d6.tgInject
  let d8 := d7.tgShowDemands.tgDecide
  d8.setTg fun t => { t with time := t.time + 16 }

/-! ### Commands (R409, R416, R420, R421) -/

/-- Does the readback of a channel agree with its commanded level? -/
def Device.tgAgrees (d : Device) (chan : Nat) : Bool :=
  if chan / 16 = 2 then d.tg.outBad.pick 0 (chan % 16) == 0 else d.tg.lineBad.pick 0 (chan % 16) == 0

/-- TG_ACK: ACK in TG_CMD with a zone mask; the acknowledgement counts before it clears faults. -/
def Device.tgAck (d : Device) (zones : Nat) : Device :=
  let d1 := (onesOf 8 zones).foldl (fun d z => d.tgAck1 z) d
  let d2 := (onesOf 8 zones).foldl (fun (d : Device) z =>
    (d.tgZone z).latched.foldl (fun (d : Device) l =>
      if l.chan = 0 then (d.setZone z fun s => { s with latched := s.latched.filter (fun x => x != l) }).tgShow z
      else if 2 ≤ l.chan / 16 ∧ d.tgAgrees l.chan = true then
        let n := l.chan % 16
        (if l.chan / 16 = 2 then d.put (TG_SO_STATUS_FAULT n) 0
          else d.put TG_STO_STATUS_FAULT (setBit (d.get TG_STO_STATUS_FAULT) n false)).tgUnlatch l.chan
      else d) d) d1
  d2

/-- SERVICE (R420): only from a write session (paths 1 to 4) or JTAG. -/
def Device.tgEnterService (d : Device) (path : Nat) : Device :=
  if path = 0 ∨ pathJtag < path then d.tgRefuse 5
  else if d.tgService then d
  else ((d.put TG_STATUS_SERVICE 1).msg 11 0 8 1).tgDecide

/-- LEAVE (R420). -/
def Device.tgLeave (d : Device) : Device :=
  if !d.tgService then d
  else (List.range 8).foldl (fun d z => d.put (TG_Z_STATUS_WAIT_ACK z) 1) ((d.put TG_STATUS_SERVICE 0).msg 11 0 8 0)

/-- The addresses of the configuration registers in rising order (R421). -/
def tgCfgAddrs : List Nat :=
  [TG_TEST, TG_STO_TEST] ++ (List.range 8).map TG_SI_CTRL ++ (List.range 4).map TG_SO_CTRL ++
  (List.range 8).flatMap (fun z => (List.range 10).map (fun j => TG_Z_IN z + 4 * j)) ++ (List.range 192).map TG_AX_SLS

/-- The CRC of the written configuration (R421). -/
def Device.tgCrc (d : Device) : Nat := crc32 (tgCfgAddrs.flatMap (fun a => leBytes (d.rdN a) 4))

/-- Is a source code one of those R401 gives? -/
def tgSrcOk (n : Nat) : Bool := decide (n < 4) || n == 15

/-- The ranges of the registers, R401 and R406 over the written values. -/
def Device.tgCfgOk (d : Device) : Bool :=
  let ranges := decide (1 ≤ d.get TG_TEST_TP_PERIOD) && decide (d.get TG_TEST_TP_PERIOD ≤ 100) && decide (10 ≤ d.get TG_TEST_TP_WIDTH) &&
    decide (d.get TG_TEST_TP_WIDTH ≤ 100) && decide (1 ≤ d.get TG_TEST_OT_PERIOD) && decide (5 ≤ d.get TG_TEST_OT_WIDTH) &&
    decide (d.get TG_TEST_OT_WIDTH ≤ 30) && decide (1 ≤ d.get TG_STO_TEST_STO_TEST_H) && decide (d.get TG_STO_TEST_STO_TEST_H ≤ 8760)
  let ins := (List.range 8).all (fun i =>
    let a := d.get (TG_SI_CTRL_SRC_A i)
    let b := d.get (TG_SI_CTRL_SRC_B i)
    decide (5 ≤ d.get (TG_SI_CTRL_DISC i)) && decide (d.get (TG_SI_CTRL_DISC i) ≤ 500) && tgSrcOk a && tgSrcOk b && (a != b || a == 15))
  let zones := (List.range 8).all (fun z =>
    let m := d.get (TG_Z_CTRL_LIMP_MIN z)
    let ack := d.get (TG_Z_CTRL_ACK_IN z)
    decide (1 ≤ m) && decide (m ≤ 60) && decide (1 ≤ d.get (TG_Z_CTRL_SLS_BEATS z)) && decide (1 ≤ d.get (TG_Z_TIME_SS1_TIME z)) &&
    (decide (ack < 40) || ack == 255))
  let zoneOf := fun (k : Nat) => (List.range 8).filter (fun z => bit (d.get (TG_Z_AXES_AXES z (k / 32))) (k % 32))
  let axes := (List.range 192).all (fun k =>
    match zoneOf k with
    | [] => true
    | [z] =>
      let chains := d.get (TG_Z_PATH_CHAINS z)
      let outs := d.get (TG_Z_PATH_OUTPUTS z)
      let kind := d.get (AX_MB_CTRL_KIND k)
      (kind != 2 || bit chains (idChain (d.get (AX_MB_CHAN_CHAN k)))) && (kind != 1 || outs != 0) && (chains != 0 || outs != 0)
    | _ => false)
  let pairs := (List.range 16).all (fun g =>
    !d.has (GL_GP_CTRL_EN g) || zoneOf (d.get (GL_GP_CTRL_PRIMARY g)) == zoneOf (d.get (GL_GP_CTRL_TWIN g)))
  ranges && ins && zones && axes && pairs

/-- The written configuration comes into force: every zone is in STO, and the logic side takes it. -/
def Device.tgInForce (d : Device) : Device :=
  let old := (List.range 8).flatMap (fun z => d.tgAxes z)
  let d1 := old.foldl (fun d k => d.tgAxis k zRUN) d
  let cfg := tgCfgAddrs.foldl (fun (m : Store (BitVec 32)) a => Store.set resetWord m a (d1.rd a)) d1.tg.cfg
  let d2 := (d1.setTg fun t => { t with cfg := cfg, up := true }).wrN TG_CFG_CRC d1.tgCrc
  let d3 := (d2.put TG_STATUS_CONFIG_OK 1).raise TG_EVENT_CONFIG_APPLIED
  let d4 := (List.range 8).foldl (fun d z =>
    (d.put (TG_Z_STATUS_STATE z) zSTO).put (TG_Z_STATUS_WAIT_ACK z) (d.tgGet (TG_Z_CTRL_RESTART z))) d3
  ((List.range 8).foldl (fun d z => d.tgTake z) d4).tgPaths

/-- APPLY (R421). -/
def Device.tgApply (d : Device) : Device :=
  if !d.tgService then d.tgRefuse 1
  else if d.rdN TG_APPLY_CRC ≠ d.tgCrc then d.tgRefuse 2
  else if !d.tgCfgOk then d.tgRefuse 4
  else d.tgInForce

/-- CLEAR_CNT of TG_CMD. -/
def Device.tgClearCnt (d : Device) : Device :=
  let d1 := (List.range 8).foldl (fun d i => (d.wrN (TG_SI_CNT i) 0).wrN (TG_Z_CNT i) 0) d
  (List.range 4).foldl (fun d o => d.wrN (TG_SO_CNT o) 0) d1

/-- A write of TG_CMD by an access path. -/
def Device.tgCmdWrite (d : Device) (path v : Nat) : Device :=
  match bits v 0 4 with
  | 0 => d
  | 1 => d.tgAck (bits v 8 8)
  | 2 => d.tgEnterService path
  | 3 => d.tgLeave
  | 4 => d.tgApply
  | 5 => d.tgClearCnt
  | _ => d.tgRefuse 3

/-- A write of a configuration register (R420): only in service mode; the loader writes before the start. -/
def Device.tgCfgWrite (d : Device) (path a v : Nat) : Device :=
  if d.tgService || path == pathLoader then d.wrN a v else d.tgRefuse 1

/-- The loader's application at start-up (R406, R419, R531): the written configuration is checked and put in force; then
the lines that read high while driven low and the contacts that failed their first pulse carry their faults. -/
def Device.tgStart (d : Device) (crc : Nat) (stuck failed : Nat) : Bool × Device :=
  if crc ≠ d.tgCrc then (false, d.tgRefuse 2)
  else if !d.tgCfgOk then (false, d.tgRefuse 4)
  else
    let d1 := d.tgInForce
    let d2 := (onesOf 16 stuck).foldl (fun d k => d.tgFault (0x30 + k) 6 false) d1
    (true, (onesOf 16 failed).foldl (fun (d : Device) x =>
      if d.tgGet (TG_SI_CTRL_EN (x / 2)) = 1 ∧ d.tgSrc (x / 2) (x % 2) < 4 then d.tgFault (0x10 + x / 2) 2 (x % 2 == 1) else d) d2)

end Sys2Proof.Machine
end

