-- ==== Sys2Proof/Machine/Ledger.lean ====
section
/-! DEFINITION. The ledger (R351–R372): messages, the reaction table, reactions, fencing, recovery and retirement, the ring
and Q7, and the keyed test space with its injections. -/

namespace Sys2Proof.Machine

/-- The ledger's hidden state changed. -/
def Device.setLg (d : Device) (f : Ledger → Ledger) : Device := { d with ledger := f d.ledger }
/-- A refusal of the ledger. -/
def Device.lgRefuse (d : Device) (code : Nat) : Device := d.refuse LG_STATUS_REFUSE_LAST LG_EVENT_REFUSED code

/-! ### The catalogue (R353, R354) -/

/-- The default reaction of a kind. -/
def lgDefaultReaction (c k : Nat) : Nat :=
  match c, k with
  | 0, 4 => 7 | 1, 1 => 3 | 1, 2 => 0
  | 3, 1 => 2 | 3, 5 => 2 | 3, 7 => 7 | 3, 10 => 0 | 3, 11 => 2 | 3, 12 => 5 | 3, 14 => 7
  | 4, 1 => 0 | 4, 2 => 0 | 4, 4 => 0 | 4, 10 => 5 | 4, 11 => 5
  | 5, 2 => 0 | 6, 1 => 0 | 6, 2 => 0 | 6, 5 => 6 | 6, 6 => 6 | 7, 1 => 6 | 8, 4 => 4 | 9, 1 => 0
  | 10, 1 => 0 | 10, 3 => 0 | 11, 1 => 0 | 11, 8 => 0 | 12, 6 => 2
  | 13, 1 => 2 | 13, 4 => 0 | 13, 6 => 0 | 15, _ => 0
  | _, _ => 1

/-- The default QUIET of a kind in ms. -/
def lgDefaultQuiet (c k : Nat) : Nat :=
  match c, k with
  | 3, 1 => 10000 | 3, 5 => 3600000 | 3, 11 => 10000 | 12, 6 => 60000 | 13, 1 => 60000
  | _, _ => 1000

/-- Word 0 and word 1 of the default entry of a kind (R354, R360). -/
def lgDefault (c k : Nat) : Nat × Nat :=
  (lgDefaultReaction c k + (if c = 1 ∧ k = 1 then 3 else 1) * 256 + 3 * 65536, lgDefaultQuiet c k)

/-- The entry in force for a CLASS and KIND (R360); the defaults that the loader commits stand where no table has been
committed over them. -/
def Device.lgEntry (d : Device) (c k : Nat) : Nat × Nat :=
  let t := d.tblWork 0x121
  if !t.isEmpty then
    (leAt t (0x800 * c + 8 * k) 4, leAt t (0x800 * c + 8 * k + 4) 4)
  else lgDefault c k

/-- The content rule of a reaction table (R360). -/
def lgTableOk (t : List (BitVec 8)) : Bool :=
  (List.range 16).all fun c => (List.range (lgKinds c)).all fun j =>
    let w0 := leAt t (0x800 * c + 8 * (j + 1)) 4
    let w1 := leAt t (0x800 * c + 8 * (j + 1) + 4) 4
    decide (bits w0 3 5 = 0) && decide (bits w0 24 8 = 0) && decide (1 ≤ w1) && decide (w1 ≤ 3600000)

/-- Is an instance one of the class (R353)? -/
def lgInst (c i : Nat) : Bool :=
  match c with
  | 0 => i == 0
  | 1 => decide (i < 192) || i == 0xFF
  | 2 => decide (i < 28)
  | 3 => decide (i < 28) || (decide (0x40 ≤ i) && decide (i ≤ 0x42)) || i == 0xFF
  | 4 => decide (i < 192)
  | 5 => decide (i < 0x20)
  | 6 => decide (i < 256)
  | 7 => decide (i < 16)
  | 8 => decide (i < 0x30)
  | 9 => decide (i < 64)
  | 10 => decide (i < 28) || (decide (0x40 ≤ i) && decide (i ≤ 0x4F))
  | 11 => decide (i < 8) || (decide (0x10 ≤ i) && decide (i ≤ 0x17)) || (decide (0x20 ≤ i) && decide (i ≤ 0x23)) ||
      (decide (0x30 ≤ i) && decide (i ≤ 0x3F))
  | 12 => decide (i < 40) || (decide (0x40 ≤ i) && decide (i ≤ 0x44))
  | 13 => decide (i < 2) || i == 0x10 || i == 0x11 || i == 0x20 || i == 0x30
  | 14 => decide (i < 2) || i == 0x10 || i == 0x11
  | 15 => i == 0 || i == 0x10
  | _ => false

/-- The axes of a source (R353). -/
def Device.lgAxes (d : Device) (c i k : Nat) : List Nat :=
  match c with
  | 0 => List.range 192
  | 1 => if i < 192 then [i] else []
  | 2 => d.engAxes i
  | 3 => if i < 28 then d.engAxes i else if i = 0xFF then List.range 192 else []
  | 4 => [i]
  | 6 => if 6 ≤ k then d.chainAxes (i / 16) else d.nodeAxes (i / 16) (i % 16)
  | 7 =>
    let pairs := onesOf 12 (d.rowPairs i)
    let chans := d.rowChans i
    (List.range 192).filter (fun a => (d.get (AX_MB_CTRL_KIND a) == 2 && chans.contains (d.get (AX_MB_CHAN_CHAN a))) ||
      pairs.any (fun p => d.pairAxis p == some a))
  | 8 =>
    if i < 32 then (d.cyMembers i).map (fun m => m.2)
    else [d.get (GL_GP_CTRL_PRIMARY (i - 32)), d.get (GL_GP_CTRL_TWIN (i - 32))]
  | 10 => if i < 28 then d.engAxes i else []
  | 11 => if i < 8 then d.tgAxes i else if 0x30 ≤ i then d.chainAxes (i - 0x30) else []
  | _ => []

/-- The engine of a source that MIGRATE relieves (R353). -/
def Device.lgEngine (d : Device) (c i : Nat) : Option Nat :=
  match c with
  | 1 => if i < 192 then (d.slotOf i).map (fun x => x.1) else none
  | 4 => (d.slotOf i).map (fun x => x.1)
  | 2 => some i
  | 3 => if i < 28 then some i else none
  | 10 => if i < 28 then some i else none
  | _ => none

/-- The key under which the ledger keeps the unit of a source (R353): an engine is one unit of three classes. -/
def lgUnit (c i : Nat) : Option Nat :=
  match c with
  | 2 => if i < 28 then some (0x200 + i) else none
  | 3 => if i < 28 then some (0x200 + i) else if 0x40 ≤ i ∧ i ≤ 0x42 then some (0x300 + i) else none
  | 10 => if i < 28 then some (0x200 + i) else none
  | 12 => if i < 40 then some (0xC00 + i) else none
  | 13 => if i < 2 ∨ i = 0x10 ∨ i = 0x11 then some (0xD00 + i) else none
  | 14 => if i < 2 ∨ i = 0x10 ∨ i = 0x11 then some (0xE00 + i) else none
  | _ => none

/-- The key of what the ledger keeps of a source. -/
def lgKey (c i : Nat) : Nat := 256 * c + i

/-- What the ledger keeps of a source or unit. -/
def Device.lgSrc (d : Device) (k : Nat) : LSource := d.ledger.sources.pick {} k
/-- What the ledger keeps of a source or unit, changed. -/
def Device.setLgSrc (d : Device) (k : Nat) (f : LSource → LSource) : Device :=
  d.setLg fun l => { l with sources := l.sources.upd {} k f }

/-! ### Units (R362–R365) -/

/-- A unit taken out of service (R362). -/
def Device.unitFence (d : Device) (u : Nat) (retired : Bool) : Device :=
  let i := u % 256
  match u / 256 with
  | 2 => if retired then d.cvRetire i else d.cvFence i 2
  | 3 => d.put CV_STATUS_REPLICAS (setBit (d.get CV_STATUS_REPLICAS) (i - 0x40) false)
  | 12 => d.fioFence i
  | 13 => if i < 2 then d.refFence i else d.portFence (i - 0x10)
  | 14 => if i < 2 then d.canFence i else d.flFence (i - 0x10)
  | _ => d

/-- A unit back in service (R362, R363). -/
def Device.unitRecover (d : Device) (u : Nat) : Device :=
  let i := u % 256
  match u / 256 with
  | 2 => d.cvRecover i
  | 3 => d.put CV_STATUS_REPLICAS (setBit (d.get CV_STATUS_REPLICAS) (i - 0x40) true)
  | 12 => d.fioRecover i
  | 13 => if i < 2 then d.refRecover i else d.portRecover (i - 0x10)
  | 14 => if i < 2 then d.canUnfence i else d.flRecover (i - 0x10)
  | _ => d

/-- DEGRADED shown (R362). -/
def Device.lgDegraded (d : Device) : Device :=
  d.put LG_STATUS_DEGRADED (b2n (d.ledger.sources.any (fun x => x.2.state != 0)))

/-- The recovery window in ticks (R363). -/
def Device.recovWin (d : Device) : Nat := max 1 (d.get LG_CTRL_RECOV_WIN) * 100000000

/-- A unit's recovery count now: it restarts at 0 when RECOV_WIN has passed since the first recovery it holds (R363). -/
def Device.recovNow (d : Device) (u : Nat) : Nat :=
  let s := d.lgSrc u
  if s.winStart + d.recovWin ≤ d.clk.now then 0 else s.recov

/-- A unit retired (R365). -/
def Device.lgRetire (d : Device) (u : Nat) : Device :=
  let d1 := (d.setLgSrc u fun s => { s with state := 2, quietEnd := 0 }).unitFence u true
  (d1.raise LG_EVENT_RETIRE).lgDegraded

/-- FENCE on a unit (R362, R364, R365): `true` where the unit was retired. -/
def Device.lgFence (d : Device) (u quiet recovMax : Nat) (injected : Bool) : Bool × Device :=
  let s := d.lgSrc u
  let until' := d.clk.now + quiet * 100000
  if s.state = 2 then (false, d)
  else if s.state = 1 then (false, d.setLgSrc u fun s => { s with quietEnd := until' })
  else if !injected && decide (recovMax ≤ d.recovNow u) then (true, d.lgRetire u)
  else
    let r := d.recovNow u
    let d1 := (d.setLgSrc u fun s => { s with state := 1, quietEnd := until', fenceInj := injected, recov := r }).unitFence u false
    (false, (d1.raise LG_EVENT_FENCE).lgDegraded)

/-- A message whose reaction is FENCE keeps its unit's quiet period from ending, below THRESHOLD too (R363). -/
def Device.lgStays (d : Device) (c i quiet : Nat) : Device :=
  match lgUnit c i with
  | none => d
  | some u =>
    if (d.lgSrc u).state = 1 then d.setLgSrc u fun s => { s with quietEnd := d.clk.now + quiet * 100000 } else d

/-- RECOVER (R363, R364): a fenced unit's quiet period has passed. -/
def Device.lgRecover (d : Device) (c i : Nat) : Device :=
  match lgUnit c i with
  | none => d
  | some u =>
    let s := d.lgSrc u
    if s.state ≠ 1 ∨ d.clk.now < s.quietEnd then d
    else
      let r := d.recovNow u
      let d1 := d.setLgSrc u fun s =>
        if s.fenceInj then { s with state := 0, injRecov := min 255 (s.injRecov + 1), recov := r }
        else { s with state := 0, recov := min 255 (r + 1), winStart := if r = 0 then d.clk.now else s.winStart }
      (d1.unitRecover u).raise LG_EVENT_RECOVER |>.lgDegraded

/-! ### Reactions (R355–R358) -/

/-- TORQUE_OFF on an axis (R126, R355): a disable request, and the hold-off is set. -/
def Device.torqueOff (d : Device) (k : Nat) : Device := (d.put (holdOff k) 1).disableReq k 3

/-- DEVICE_SAFE (R358). -/
def Device.deviceSafe (d : Device) : Device :=
  let d1 := (List.range 192).foldl (fun (d : Device) k => d.torqueOff k) d
  (d1.itAbortAll.fioAllSafe.put LG_STATUS_SAFE 1).raise LG_EVENT_SAFE

/-- HOLD and STOP on an axis (R355, R356): an axis in IDLE or OFF is not touched. -/
def Device.lgStop (d : Device) (k kind : Nat) : Device := d.axForceStop k kind true

/-- The RESULT codes of OUTCOME (R366). -/
def resAPPLIED : Nat := 0
/-- The count did not reach a multiple of THRESHOLD. -/
def resBELOW : Nat := 1
/-- The reaction has no target. -/
def resNOTARGET : Nat := 2
/-- SAFE suppresses the reaction. -/
def resSUPPRESSED : Nat := 3

/-- A reaction carried out on a message: RESULT, whether the record carries RETIRED, and the block after it. -/
def Device.lgReact (d : Device) (c i k reaction quiet recovMax : Nat) (injected : Bool) : Nat × Bool × Device :=
  let noTarget := (resNOTARGET, false, d.raise LG_EVENT_WARN)
  match reaction with
  | 0 => (resAPPLIED, false, d)
  | 1 => (resAPPLIED, false, d.raise LG_EVENT_WARN)
  | 2 => match lgUnit c i with
    | none => noTarget
    | some u =>
      let (ret, d1) := d.lgFence u quiet recovMax injected
      (resAPPLIED, ret, d1)
  | 3 => match d.lgEngine c i with
    | none => noTarget
    | some e => (resAPPLIED, false, d.cvMigrate e)
  | 7 => (resAPPLIED, false, d.deviceSafe)
  | r =>
    let axes := d.lgAxes c i k
    if axes = [] then noTarget
    else if d.has LG_STATUS_SAFE then (resSUPPRESSED, false, d)
    else (resAPPLIED, false, axes.foldl (fun (d : Device) a =>
      if r = 4 then d.lgStop a 2 else if r = 5 then d.lgStop a 1 else d.torqueOff a) d)

/-! ### Taking a message (R352, R361, R366, R367) -/

/-- The 64 bits of a message (R351). -/
def LMsg.word (m : LMsg) : Nat :=
  m.cls % 16 * 2 ^ 60 + m.inst % 256 * 2 ^ 52 + m.kind % 256 * 2 ^ 44 +
    (b2n m.injected + 2 * b2n m.runcnt + 4 * b2n m.merged) * 2 ^ 32 + m.detail.toNat

/-- A record of the ring (R366). -/
def lgRecord (msg stamp seq outcome timeS timeNs : Nat) : List (BitVec 8) :=
  leBytes msg 8 ++ leBytes stamp 8 ++ leBytes seq 4 ++ leBytes outcome 4 ++ leBytes timeS 4 ++ leBytes timeNs 4

/-- A record written to the ring and sent to Q7, or lost to Q7 (R366, R367). -/
def Device.lgWrite (d : Device) (m : LMsg) (outcome0 : Nat) : Device :=
  let head := d.get LG_RING_HEAD_HEAD
  let seq := d.rdN LG_WRAPS * 4096 + head
  let gap := d.ledger.q7gap
  let outcome := outcome0 + b2n gap * 2 ^ 25 + b2n (d.has TB_TM_STATUS_QUALIFIED) * 2 ^ 26
  let t := d.timeNs
  let r := lgRecord m.word d.stamp seq outcome (t / oneSec % 2 ^ 32) (t % oneSec)
  let d1 := d.poke (d.get LG_RING_BASE_BASE * 2 ^ 17 + 32 * head) r
  let d2 := ((d1.put LG_RING_HEAD_HEAD (head + 1)).wrN LG_SEQ seq).wr64 LG_MSG m.word
  let d3 := if head = 4095 then d2.incSat LG_WRAPS_WRAPS else d2
  let d4 := (if m.injected then d3.incSat LG_INJ_COUNT else d3).raise LG_EVENT_RECORD
  let lost := fun (d : Device) =>
    ((d.incSat LG_Q7_LOST_COUNT).raise LG_EVENT_Q7_LOST).setLg fun l => { l with q7gap := true }
  if d4.qFull 7 then (if gap then lost d4 else (lost d4).msg 15 0 2 1)
  else
    match d4.injTake 15 0 2 with
    | some (dt, d5) => (lost d5).msg 15 0 2 dt true
    | none => (d4.qAddAny 7 0 0 r).setLg fun l => { l with q7gap := false }

/-- LEDGER_MESSAGE (R352): the ledger takes the oldest waiting message. -/
def Device.lgTake (d : Device) : Device :=
  match d.ledger.waiting with
  | [] => d
  | m :: rest =>
    if d.boot.filling || d.boot.checking.isSome then d
    else
      let (w0, w1) := d.lgEntry m.cls m.kind
      let thr := max 1 (bits w0 8 8)
      let quiet := bits w1 0 22
      let rk := m.cls * 65536 + m.inst * 256 + m.kind
      let run := d.ledger.runs.pick {} rk
      let prev := if decide (0 < run.prev) && decide (d.clk.now < run.last + quiet * 100000) then run.prev else 0
      let occ := if m.runcnt then m.detail.toNat / 65536 else prev + 1 + m.repeats
      let start := if occ ≤ prev then 0 else prev
      let sk := lgKey m.cls m.inst
      let d1 := d.setLg fun l => { l with waiting := rest, runs := l.runs.upd {} rk fun _ => ⟨occ, occ, d.clk.now⟩ }
      let d2 := d1.setLgSrc sk fun s =>
        { s with count := BitVec.ofNat 32 (min (2 ^ 32 - 1) (s.count.toNat + 1 + m.repeats)), lastKind := m.kind }
      let (res, ret, d3) := if occ / thr ≤ start / thr then
          (resBELOW, false, if bits w0 0 3 = 2 then d2.lgStays m.cls m.inst quiet else d2)
        else d2.lgReact m.cls m.inst m.kind (bits w0 0 3) quiet (bits w0 16 8) m.injected
      let recov := match lgUnit m.cls m.inst with
        | some u => d3.recovNow u
        | none => 0
      d3.lgWrite m (bits w0 0 3 + res * 16 + min 255 occ * 256 + min 255 recov * 65536 + b2n ret * 2 ^ 24)

/-! ### Commands (R357, R358, R368, R370) -/

/-- CLEAR_CNT in LG_CMD. -/
def Device.lgClear (d : Device) : Device :=
  let z : List (Nat × LSource) := d.ledger.sources.map (fun x => (x.1, { x.2 with count := 0 }))
  let kept := z.filter (fun x => x.2 != {})
  ((d.setLg fun l => { l with sources := kept }).wrN LG_Q7_LOST 0).wrN LG_INJ 0

/-- RELEASE in LG_CMD (R357). -/
def Device.lgRelease (d : Device) (k : Nat) : Device :=
  if 192 ≤ k then d.lgRefuse 2
  else if d.axState k ≠ axOFF then d.lgRefuse 3
  else d.put (holdOff k) 0

/-- RELEASE_ALL in LG_CMD: every OFF axis. -/
def Device.lgReleaseAll (d : Device) : Device :=
  (List.range 192).foldl (fun (d : Device) k => if d.axState k = axOFF then d.put (holdOff k) 0 else d) d

/-- CLEAR_SAFE in LG_CMD (R358). -/
def Device.clearSafe (d : Device) : Device :=
  if (List.range 192).all (fun k => d.axState k == axOFF) then d.put LG_STATUS_SAFE 0 else d.lgRefuse 3

/-- The keyed test space closes (R370). -/
def Device.testClose (d : Device) : Device := d.put LG_STATUS_TEST_OPEN 0

/-- LG_CMD written. -/
def Device.lgCmdWrite (d : Device) (v : Nat) : Device :=
  match bits v 0 4 with
  | 0 => d
  | 1 => d.lgClear
  | 2 => d.lgRelease (bits v 8 8)
  | 3 => d.lgReleaseAll
  | 4 => d.clearSafe
  | 5 => d.testClose
  | _ => d.lgRefuse 2

/-- LG_RING_BASE and LG_CNT_BASE are written only before the scheduler starts (R366). -/
def Device.lgBaseWrite (d : Device) (a v mask : Nat) : Device := if d.clk.running then d.lgRefuse 1 else d.wrN a (andN v mask)

/-- LG_SRC_COUNT, LG_SRC_STATE and LG_SRC_QUIET as they read for the selected source (R368). -/
def Device.lgWindow (d : Device) (a : Nat) : BitVec 32 :=
  let c := d.get LG_SRC_SEL_CLASS
  let i := d.get LG_SRC_SEL_INSTANCE
  let s := d.lgSrc (lgKey c i)
  let u := (lgUnit c i).getD (lgKey c i)
  let x := d.lgSrc u
  if a = LG_SRC_COUNT then s.count
  else if a = LG_SRC_STATE then
    BitVec.ofNat 32 (s.lastKind % 256 * 2 ^ 24 + x.injRecov % 256 * 2 ^ 16 + d.recovNow u % 256 * 256 + x.state % 4)
  else BitVec.ofNat 32 (if x.state = 1 then cdiv (x.quietEnd - d.clk.now) 100000 else 0)

/-! ### The keyed test space (R369–R372) -/

/-- The nonce that LG_KEY_NONCE holds. -/
def Device.nonce (d : Device) : Nat := (Config.free64 d.test.nonce).toNat % 65536

/-- A new nonce drawn: the next free value. -/
def Device.drawNonce (d : Device) : Device := { d with test := { d.test with nonce := d.free }, free := d.free + 1 }

/-- A read of LG_KEY_NONCE by a path (R369): a new nonce is drawn, and it is what the read returns. -/
def Device.nonceRead (d : Device) (path : Nat) : Nat × Device :=
  let d1 := d.drawNonce
  (d1.nonce, { d1 with test := { d1.test with readPath := some path, readBeat := d.clk.beat } })

/-- LG_KEY written by a path (R369). -/
def Device.keyWrite (d : Device) (path v : Nat) : Device :=
  if d.test.lock then (d.lgRefuse 5).drawNonce
  else
    let ok := decide (1 ≤ path) && decide (path ≤ 5) && d.test.readPath == some path &&
      decide (d.clk.beat ≤ d.test.readBeat + 1000) && v / 65536 == 0x7E57 && v % 65536 == d.nonce ^^^ 0xA5A5
    if ok then
      let d1 := d.put LG_STATUS_TEST_OPEN 1
      { d1 with test := { d1.test with lastWrite := d.clk.now } }.msg 15 0 1 path
    else (d.lgRefuse 4).drawNonce

/-- TEST_SPACE_TIMEOUT (R370). -/
def Device.testTimeout (d : Device) : Device :=
  if d.has LG_STATUS_TEST_OPEN = true ∧ d.test.lastWrite + max 1 (d.get LG_CTRL_TEST_TMO) * 100000000 ≤ d.clk.now then d.testClose
  else d

/-- Does the injection point of a CLASS, INSTANCE and KIND exist (R371)? -/
def injPoint (c i k : Nat) : Bool := decide (1 ≤ k) && decide (k ≤ lgKinds c) && lgInst c i

/-- INJ_FIRE written (R371, R372). -/
def Device.injFire (d : Device) (c i k count : Nat) : Device :=
  if !d.has LG_STATUS_TEST_OPEN || !injPoint c i k then d
  else
    let d1 := { d with test := { d.test with lastWrite := d.clk.now } }
    if c = 11 ∧ d.has TG_STATUS_SERVICE = false then (d1.put (INJ_STATUS_REFUSE_LAST c i k) 6).lgRefuse 6
    else d1.put (INJ_STATUS_REMAINING c i k) (count % 256)

/-- INJ_DETAIL written (R371). -/
def Device.injDetail (d : Device) (c i k v : Nat) : Device :=
  if !d.has LG_STATUS_TEST_OPEN || !injPoint c i k then d
  else { d with test := { d.test with lastWrite := d.clk.now } }.wrN (INJ_DETAIL c i k) v

end Sys2Proof.Machine
end

