-- ==== Sys2Proof/Machine/RegRead.lean ====
section
/-! DEFINITION. The present 32-bit value of a register, as the recorder, REGBIT conditions and the first half of a bus
read see it (R4–R8, R64, R443, R475): the stored word, or the value that the unit forms at the read. -/

namespace Sys2Proof.Machine

/-! ### The recorder's bandwidth (R440, R443) -/

/-- The channels of the recorder that have a source. -/
def Device.rcChannels (d : Device) : List Nat := (List.range 64).filter (fun c => decide (d.get (RC_CH_SRC_KIND_BIT c) % 8 ≠ 0))

/-- FRAME_BYTES (R440). -/
def Device.rcFrameBytes (d : Device) : Nat :=
  cdiv ((d.rcChannels.map (fun c => if d.has (RC_CH_SRC_WIDTH c) then 4 else 2)).sum) 8 * 8

/-- The sample period of a RATE code (R439); `none` where the code has none. -/
def ratePeriod (rate len : Nat) : Option Nat :=
  if rate ≤ 7 then some (len * 2 ^ rate)
  else if rate ≤ 11 ∧ len % 2 ^ (rate - 7) = 0 then some (len / 2 ^ (rate - 7))
  else none

/-- RC_BW as it reads (R443). -/
def Device.rcBandwidth (d : Device) : BitVec 32 :=
  let fb := d.rcFrameBytes
  let other := Config.recorderRate (d.rdN RC_CTRL) fb d.clk.len
  match ratePeriod (d.get RC_CTRL_RATE) d.clk.len with
  | some p =>
    let n := fb * 100000000
    if n % p = 0 then BitVec.ofNat 32 (n / p) else BitVec.ofNat 32 (n / p) + (other &&& 1)
  | none => other

/-! ### Values formed at the read -/

/-- A word of a 64-bit value: its lower half where `hi` is 0, else its upper half. -/
def half64 (v : Int) (hi : Nat) : BitVec 32 :=
  let n := ofS 64 v
  BitVec.ofNat 32 (if hi = 0 then n else n / 2 ^ 32)

/-- The road-ahead window of axis `k` (R64): the word at offset `o` of the axis block. -/
def Device.raWord (d : Device) (k o : Nat) : BitVec 32 :=
  let e := d.axisAhead k (d.get (AX_PL_RA_SEL_INDEX k))
  if o = 0x198 ∨ o = 0x19C then half64 e.posOut (o - 0x198)
  else if o = 0x1A0 ∨ o = 0x1A4 then half64 e.velOut (o - 0x1A0)
  else BitVec.ofNat 32 (d.raMeta k (d.get (AX_PL_RA_SEL_INDEX k)))

/-- The word that a unit forms at the read of address `a`, if it forms one. -/
def Device.formed (d : Device) (a : Nat) : Option (BitVec 32) :=
  if a = GL_SERIAL ∨ a = GL_SERIAL + 4 then some (half64 Config.serial.toNat (a - GL_SERIAL))
  else if a = TB_STAMP ∨ a = TB_STAMP + 4 then some (half64 d.stamp (a - TB_STAMP))
  else if TB_TIME_SEC_LO ≤ a ∧ a ≤ TB_TIME_FRAC then
    some (BitVec.ofNat 32 ((time112 (d.timeNs * 65536)).getD ((a - TB_TIME_SEC_LO) / 4) 0))
  else if a = TB_TM_HOLD then some (BitVec.ofNat 32 d.holdSecs)
  else if LG_SRC_COUNT ≤ a ∧ a ≤ LG_SRC_QUIET then some (d.lgWindow a)
  else if a = LG_KEY_NONCE then some (BitVec.ofNat 32 d.nonce)
  else if a = RC_BW then some d.rcBandwidth
  else if 0x40824 ≤ a ∧ a < 0x40840 ∧ a % 8 = 4 then
    let k := (a - 0x40824) / 8
    let idle := if d.rd (QU_SESS_ID k) = 0 then 0
      else (d.clk.now - (d.ln.sessions.pick {} (k + 1)).at_) / 100000000
    some (insBits (d.rd a) 16 16 (satU 16 idle))
  else if 0x30100 ≤ a ∧ a < 0x301E0 ∧ a % 8 = 0 then
    let k := (a - 0x30100) / 8
    some (insBits (d.rd a) 16 16 (satU 16 ((d.clk.now - d.cv.testAt.pick 0 k) / 100000000)))
  else if 0x100000 ≤ a ∧ a < 0x130000 ∧ 0x198 ≤ (a - 0x100000) % 0x400 ∧ (a - 0x100000) % 0x400 ≤ 0x1A8 then
    some (d.raWord ((a - 0x100000) / 0x400) ((a - 0x100000) % 0x400))
  else none

/-- The present 32-bit value of the register at `a` (R4–R6): write-only bits and unassigned addresses read 0. -/
def Device.regNow (d : Device) (a : Nat) : BitVec 32 :=
  match regRow a with
  | none => 0
  | some r =>
    match d.formed a with
    | some v => v
    | none => d.rd a &&& ~~~(r.half a r.wo)

end Sys2Proof.Machine
end

