-- ==== Sys2Proof/Machine/Recorder.lean ====
section
/-! DEFINITION. The recorder (R438–R449): channel values, arming, frames, trigger units and their combiner, records and
measurements. -/

namespace Sys2Proof.Machine

/-- IDLE, ARMED, POST, HELD of RC_STATUS. -/
def rcIDLE : Nat := 0
/-- ARMED. -/
def rcARMED : Nat := 1
/-- POST, after the trigger. -/
def rcPOST : Nat := 2
/-- HELD. -/
def rcHELD : Nat := 3

/-- The recorder's structure changed. -/
def Device.setRc (d : Device) (f : Rec → Rec) : Device :=
  let r := f d.rc
  { d with rc := r }
/-- STATE of the recorder. -/
def Device.rcState (d : Device) : Nat := d.get RC_STATUS_STATE
/-- A refused command, arm or write. -/
def Device.rcRefuse (d : Device) (code : Nat) : Device := d.refuse RC_STATUS_REFUSE_LAST RC_EVENT_REFUSED code

/-! ### Channel values (R438, R439) -/

/-- KIND of channel `c`. -/
def Device.rcKind (d : Device) (c : Nat) : Nat := d.get (RC_CH_SRC_KIND_BIT c) % 8

/-- The flag word of axis `k` (channel kind 3). -/
def Device.rcFlags (d : Device) (k : Nat) : BitVec 32 :=
  BitVec.ofNat 32 (d.rc.arrive.pick 0 k % 4 + 4 * d.get (AX_FB_STATUS_STALL k) + 8 * d.get (AX_FB_STATUS_LOST k)
    + 16 * d.get (CV_AXIS_MAP_HELD k) + 32 * d.rc.ovr.pick 0 k + 256 * (d.get (AX_STATUS_STATE k) % 8)
    + 4096 * (d.get (AX_PL_STATUS_STATE k) % 16))

/-- The levels of the LTk_IN and MSk_OUT pins. -/
def Device.rcPulsePins (d : Device) : BitVec 32 :=
  BitVec.ofNat 32 (d.it.ltPins % 65536 + 65536 * ((List.range 16).map (fun m =>
    if d.msLevel m then 2 ^ m else 0)).sum)

/-- The levels of the TRIP pins and the STO_N lines driven low. -/
def Device.rcSafePins (d : Device) : BitVec 32 :=
  BitVec.ofNat 32 (((List.range 8).map (fun m => d.get (MD_TRIP_STATUS_PIN m) * 2 ^ m)).sum + 65536 * d.get TG_STO_STATUS_LOW)

/-- The value of channel `c` now (R438); `none` where the spec gives the selection no value. -/
def Device.rcValue (d : Device) (c : Nat) : Option (BitVec 32) :=
  let id := d.get (RC_CH_SRC_ID c)
  let sel := d.get (RC_CH_SRC_SEL c)
  let axis := decide (id < 192)
  match d.rcKind c with
  | 1 => if axis then ((d.ax id).sig[sel]?).map (fun v => BitVec.ofNat 32 (ofS 32 v)) else none
  | 2 =>
    if !axis then none
    else match sel with
      | 0 => some (BitVec.ofNat 32 (ofS 64 (d.rdS64 (AX_PL_SP_POS id)) / 256))
      | 1 => some (BitVec.ofNat 32 (ofS 64 (d.fbPos id) / 256))
      | 2 => some (BitVec.ofNat 32 (ofS 32 (d.fbVel id)))
      | 3 => some (BitVec.ofNat 32 (ofS 32 (fdiv (d.pl id).cur.v (2 ^ 72))))
      | _ => none
  | 3 => if axis then some (d.rcFlags id) else none
  | 4 =>
    match id with
    | 0 => some (d.regNow FIO_IN)
    | 1 => some (d.regNow FIO_IN_HI)
    | 2 => some d.rcPulsePins
    | 3 => some d.rcSafePins
    | _ => none
  | _ => let a := d.rdN (RC_CH_ADDR c); if a < 0x1000000 then some (d.regNow a) else none

/-- The value of channel `c` now, a free value where the spec gives none. -/
def Device.rcTake (d : Device) (c : Nat) : (Nat × BitVec 32) × Device :=
  match d.rcValue c with
  | some v => ((c, v), d)
  | none => let (v, d1) := d.fresh; ((c, v.setWidth 32), d1)

/-- The values of a list of channels now. -/
def Device.rcTakeAll (d : Device) : List Nat → List (Nat × BitVec 32) × Device
  | [] => ([], d)
  | c :: cs =>
    let (v, d1) := d.rcTake c
    let (vs, d2) := d1.rcTakeAll cs
    (v :: vs, d2)

/-- Is a channel's value that of the beat's computation, and so known at D (R439)? -/
def Device.rcLate (d : Device) (c : Nat) : Bool := decide (1 ≤ d.rcKind c) && decide (d.rcKind c ≤ 3)

/-- The value of a channel in a frame. -/
def valueOf (vals : List (Nat × BitVec 32)) (c : Nat) : BitVec 32 :=
  match vals.find? (fun v => v.1 == c) with
  | some v => v.2
  | none => 0

/-! ### Arming (R439–R446) -/

/-- Does a range overlap another? -/
def overlaps (a n b m : Nat) : Bool := decide (a < b + m) && decide (b < a + n)

/-- The bytes of image `i` in bulk memory: from its header to the end of its program and its data. -/
def Device.imgExtent (d : Device) (i : Nat) : Nat :=
  let h := d.imgHeader i
  max 64 (max (leAt h 0x20 4 + 8 * (hdrSizes h).1) (leAt h 0x24 4 + 4 * (hdrSizes h).2))

/-- R441: does the buffer overlap an area in use? -/
def Device.rcOverlap (d : Device) : Bool :=
  let b := d.rdN RC_BUF_BASE
  let n := d.rdN RC_BUF_SIZE
  overlaps b n (d.rdN CV_CKPT_BASE) (192 * 256) || overlaps b n (d.rdN LG_RING_BASE) 0x20000 ||
  overlaps b n (d.rdN LG_CNT_BASE) 0x10000 ||
  (List.range 8).any (fun i => d.has (CV_IMG_STATE_IN_USE i) && overlaps b n (d.rdN (CV_IMG_BASE i)) (d.imgExtent i))

/-- R444: are the settings of trigger unit `u` acceptable? -/
def Device.rcUnitOk (d : Device) (u : Nat) : Bool :=
  let on := fun (c : Nat) => decide (c < 64) && decide (d.rcKind c ≠ 0)
  match d.get (RC_TRG_CTRL_KIND u) with
  | 0 => true
  | 1 => (onesOf 64 (d.rd64 (RC_TRG_CARE u))).all on
  | k => decide (k ≤ 5) && on (d.get (RC_TRG_CTRL_CHANNEL u)) && decide (d.rdS (RC_TRG_LO u) < d.rdS (RC_TRG_HI u))

/-- The measurement slot `m` is unused or names an enabled channel (R447). -/
def Device.rcSlotOk (d : Device) (m : Nat) : Bool :=
  let c := d.get (RC_MS_CTRL_CHANNEL m)
  c == 0xFF || (decide (c < 64) && decide (d.rcKind c ≠ 0))

/-- The code with which an arm is refused, 0 for none: the checks of R439 to R446. -/
def Device.rcArmCode (d : Device) : Nat :=
  let fb := d.rcFrameBytes
  let pre := d.rdN RC_PRE
  let frames := d.rdN RC_FRAMES
  let size := d.rdN RC_BUF_SIZE
  if d.rcChannels.isEmpty then 5
  else match ratePeriod (d.get RC_CTRL_RATE) d.clk.len with
    | none => 4
    | some p =>
      if ¬(inBulk (d.rdN RC_BUF_BASE) size = true ∧ size ≤ 16777216 ∧ pre < frames ∧ frames ≤ size / fb) then 2
      else if d.rcOverlap then 3
      else if 64000000 * p < fb * 100000000 then 1
      else if ¬((List.range 4).all d.rcUnitOk = true ∧ (List.range 8).all d.rcSlotOk = true ∧ d.get RC_COMB_MODE ≤ 4 ∧
          d.rcChannels.all (fun c => decide (d.rcKind c ≤ 5)) = true) then 5
      else 0

/-- A refused arm (R446). -/
def Device.rcArmRefused (d : Device) (code : Nat) (inj : Bool) : Device := (d.rcRefuse code).msg 15 0x10 3 code inj

/-- ARM in RC_CMD. -/
def Device.rcArm (d : Device) : Device :=
  match d.injTake 15 0x10 3 with
  | some (dt, d1) => d1.rcArmRefused dt true
  | none =>
    if d.rcState ≠ rcIDLE then d.rcArmRefused 6 false
    else
      let c := d.rcArmCode
      if c ≠ 0 then d.rcArmRefused c false
      else
        let fb := d.rcFrameBytes
        let p := (ratePeriod (d.get RC_CTRL_RATE) d.clk.len).getD 1600
        let d1 := d.setRc fun r => { ({} : Rec) with
          period := p, len := d.clk.len, bytes := fb, cap := d.rdN RC_BUF_SIZE / fb, armedAt := d.stamp, seq := r.seq,
          arrive := r.arrive, ovr := r.ovr }
        (d1.put RC_STATUS_STATE rcARMED).wrN RC_WRITTEN 0

/-! ### Trigger units (R444) -/

/-- The two-level state after a value. -/
def twoLevel (first high : Bool) (lo hi x : Int) : Bool := if first then decide (hi ≤ x) else if hi ≤ x then true else if x < lo then false else high

/-- One frame of a unit of KIND 2 to 5: the unit after it and whether the frame has an event. -/
def RcUnit.level (s : RcUnit) (kind : Nat) (pol : Bool) (lo hi : Int) (t1 t2 : Nat) (x : Int) : RcUnit × Bool :=
  let first := decide (s.run = 0)
  let high := twoLevel first s.high lo hi x
  let same := !first && high == s.high
  let run := if same then s.run + 1 else 1
  let sense := high != pol
  let near := if pol then decide (hi ≤ x) else decide (x < lo)
  let between := !near && !sense
  let since := if near then some 1 else s.since.map (· + 1)
  let entered := !first && !same && sense
  let left := !first && !same && !sense
  let ev := match kind with
    | 2 => left && decide (t1 ≤ s.run) && decide (s.run ≤ t2)
    | 3 => s.runt && near
    | 4 => sense && decide (run = max 1 t1)
    | 5 => entered && (match since with
        | some n => decide (t1 ≤ n) && decide (n ≤ t2)
        | none => false)
    | _ => false
  ({ s with high := high, run := run, runt := between && (s.runt || (!first && s.since == some 1)), since := since }, ev)

/-- The bit that a pattern looks at in channel `c`; a register channel's ADDR leaves no place for it, so it is free. -/
def Device.rcBit (d : Device) (c : Nat) : Nat × Device :=
  if d.rcKind c = 5 then let (v, d1) := d.fresh; (v.toNat % 32, d1) else (d.rdN (RC_CH_ADDR c) % 32, d)

/-- Does the pattern of unit `u` hold for a frame's values? -/
def Device.rcPattern (d : Device) (u : Nat) (vals : List (Nat × BitVec 32)) : Bool × Device :=
  let want := d.rd64 (RC_TRG_VALUE u)
  (onesOf 64 (d.rd64 (RC_TRG_CARE u))).foldl (fun (x : Bool × Device) c =>
    let (b, d1) := x.2.rcBit c
    let v := valueOf vals c
    (x.1 && (bit v.toNat b == bit want c), d1)) (true, d)

/-- One frame of trigger unit `u`: whether the frame has an event of it. -/
def Device.rcUnit (d : Device) (u : Nat) (vals : List (Nat × BitVec 32)) : Bool × Device :=
  let s := d.rc.units.pick {} u
  let kind := d.get (RC_TRG_CTRL_KIND u)
  let keep := fun (d : Device) (s : RcUnit) => d.setRc fun r => { r with units := r.units.upd {} u (fun _ => s) }
  if kind = 1 then
    let (h, d1) := d.rcPattern u vals
    let ev := h && (!d.has (RC_TRG_CTRL_EDGE u) || (decide (s.run ≠ 0) && !s.held))
    (ev, keep d1 { s with held := h, run := 1 })
  else if 2 ≤ kind ∧ kind ≤ 5 then
    let c := d.get (RC_TRG_CTRL_CHANNEL u)
    let x := toS 32 (valueOf vals c).toNat
    let (s1, ev) := s.level kind (d.has (RC_TRG_CTRL_POL u)) (d.rdS (RC_TRG_LO u)) (d.rdS (RC_TRG_HI u))
      (d.rdN (RC_TRG_T1 u)) (d.rdN (RC_TRG_T2 u)) x
    (ev, keep d s1)
  else (false, d)

/-- The combiner at frame `j` (R445): whether it triggers, and the frame of the latest event of A. -/
def combine (mode t j : Nat) (a b : Bool) (evA : Option Nat) : Bool × Option Nat :=
  let next := if a then some j else evA
  match mode with
  | 0 => (a, none)
  | 1 => (a && b, none)
  | 2 =>
    match evA with
    | some s => (b && decide (j ≤ s + t), next)
    | none => (false, next)
  | 3 =>
    let kept := if b then none else evA
    let due := match kept with
      | some s => decide (j = s + t)
      | none => false
    let after := if a then some j else if due then none else kept
    if t = 0 then (a, none) else (due, after)
  | _ => (false, none)

/-! ### Frames (R439–R442) -/

/-- The stored bytes of a frame (R440). -/
def Device.rcFrameData (d : Device) (vals : List (Nat × BitVec 32)) : List (BitVec 8) :=
  let wide := vals.filter (fun v => d.has (RC_CH_SRC_WIDTH v.1))
  let thin := vals.filter (fun v => !d.has (RC_CH_SRC_WIDTH v.1))
  let sh := fun (c : Nat) => 2 * d.get (RC_CH_SRC_SHIFT_HI c) + d.get (RC_CH_SRC_SHIFT_LO c)
  let bs := wide.flatMap (fun v => leBytes v.2.toNat 4) ++
    thin.flatMap (fun v => leBytes (ofS 16 (satS 16 (fdiv (toS 32 v.2.toNat) (2 ^ sh v.1)))) 2)
  slice bs 0 d.rc.bytes

/-- Capture stops (R442, R446): the record waits to be sent. -/
def Device.rcEnd (d : Device) (cut : Bool) : Device :=
  d.setRc fun r => { r with partialRec := cut, stopDue := false, opened := [], sendDue := true, doneAt := d.clk.now }

/-- A complete frame: it is written, the trigger units and the combiner run, and the record ends with its last frame. -/
def Device.rcFrame (d : Device) (f : RcFrame) : Device :=
  if d.rc.sendDue ∨ ¬(d.rcState = rcARMED ∨ d.rcState = rcPOST) then d
  else
    let j := d.rc.written
    let frames := d.rdN RC_FRAMES
    let pre := d.rdN RC_PRE
    let d1 := d.poke (d.rdN RC_BUF_BASE + j % d.rc.cap * d.rc.bytes) (d.rcFrameData f.vals)
    let d2 := (d1.setRc fun r => { r with written := j + 1, frames := (f :: r.frames).take frames }).wrN RC_WRITTEN (satU 32 (j + 1))
    let (evs, d3) := (List.range 4).foldl (fun (x : List Bool × Device) u =>
      let (e, dd) := x.2.rcUnit u f.vals
      (x.1 ++ [e], dd)) ([], d2)
    let (fire, evA) := combine (d3.get RC_COMB_MODE) (d3.get RC_COMB_T) j (evs.getD (d3.get RC_COMB_A) false)
      (evs.getD (d3.get RC_COMB_B) false) d3.rc.evA
    let d4 := d3.setRc fun r => { r with evA := evA }
    let take := d4.rcState = rcARMED ∧ (d4.rc.force = true ∨ (fire = true ∧ pre ≤ j))
    let d5 := if take then
        ((d4.setRc fun r => { r with trig := some j, forced := r.force, force := false }).put RC_STATUS_STATE rcPOST).raise RC_EVENT_TRIGGER
      else d4
    match d5.rc.trig with
    | some t => if t + (frames - pre - 1) ≤ j then d5.rcEnd false else d5
    | none => d5

/-- The frames whose beat is now computed (R439): their late values are taken, and they are complete. -/
def Device.rcClose (d : Device) : Device :=
  let fs := d.rc.opened
  if fs.isEmpty then d
  else
    let d1 := d.setRc fun r => { r with opened := [] }
    let d2 := fs.reverse.foldl (fun (d : Device) f =>
      let late := d.rcChannels.filter d.rcLate
      let (vs, d1) := d.rcTakeAll late
      let all := d1.rcChannels.filterMap (fun c => (f.vals ++ vs).find? (fun v => v.1 == c))
      d1.rcFrame { f with vals := all }) d1
    if d2.rc.stopDue then d2.rcEnd true else d2

/-- The latest sample instant at or before now, and whether it is one of the recorder's (R439). -/
def Device.rcInstant (d : Device) : Option Nat :=
  let p := d.rc.period
  if p < d.rc.len then some (d.clk.tick / p)
  else if (d.clk.beat - (d.rc.armedAt / 65536 + 1)) % (p / d.rc.len) = 0 then some 0
  else none

/-- Are frames being captured? -/
def Device.rcRuns (d : Device) : Bool :=
  d.clk.running && !d.rc.sendDue && !d.rc.stopDue && (d.rcState == rcARMED || d.rcState == rcPOST)

/-- The number, within its beat, of the latest sample instant, if its frame is to be taken and has not been. -/
def Device.rcFresh (d : Device) : Option Nat :=
  match d.rcInstant with
  | none => none
  | some k =>
    if mkStamp d.clk.beat (k * d.rc.period) ≤ d.rc.armedAt ∨ d.rc.lastInst = some (d.clk.beat, k) then none else some k

/-- The frame of the latest sample instant (R439), if it has not been taken.  A frame with values of the beat's
computation is complete at D. -/
def Device.recorderFrame (d : Device) : Device :=
  if !d.rcRuns then d
  else
    match d.rcFresh with
    | none => d
    | some k =>
        let st := mkStamp d.clk.beat (k * d.rc.period)
        let now := d.rcChannels.filter (fun c => !d.rcLate c)
        let (vs, d1) := d.rcTakeAll now
        let d2 := d1.setRc fun r => { r with lastInst := some (d.clk.beat, k), opened := ⟨st, vs⟩ :: r.opened }
        if now.length = d.rcChannels.length ∨ d.clk.deadline ≤ d.clk.tick then d2.rcClose else d2

/-- The sample instants after the present tick and up to tick `t` of the beat (R439). -/
def Device.rcUpTo (d : Device) (t : Nat) : List Nat :=
  if !d.rcRuns || decide (d.rc.len ≤ d.rc.period) then []
  else ((List.range 17).map (· * d.rc.period)).filter (fun x => decide (d.clk.tick < x) && decide (x ≤ t) && decide (x < d.clk.curLen))

/-! ### Commands (R446, R449) -/

/-- FORCE in RC_CMD. -/
def Device.rcForce (d : Device) : Device :=
  if d.rcState = rcARMED then d.setRc fun r => { r with force := true } else d.rcRefuse 6

/-- Capture stops after the frame in progress (STOP, or a change of the beat settings). -/
def Device.rcStopNow (d : Device) : Device :=
  if d.rc.sendDue ∨ ¬(d.rcState = rcARMED ∨ d.rcState = rcPOST) then d
  else if d.rc.opened.isEmpty then d.rcEnd true
  else d.setRc fun r => { r with stopDue := true }

/-- STOP in RC_CMD. -/
def Device.rcStop (d : Device) : Device :=
  if d.rcState = rcARMED ∨ d.rcState = rcPOST then d.rcStopNow else d.rcRefuse 6

/-- The buffer is the recorder's again: IDLE, or ARMED again with REPEAT (R449). -/
def Device.rcFree (d : Device) : Device :=
  let d1 := (d.setRc fun r => { r with sendDue := false, entry := none, frames := [] }).put RC_STATUS_STATE rcIDLE
  if d1.has RC_CTRL_REPEAT then d1.rcArm else d1

/-- RELEASE in RC_CMD. -/
def Device.rcRelease (d : Device) : Device := if d.rcState = rcHELD then d.rcFree else d.rcRefuse 6

/-- The host acknowledged entry `i` of Q6 (R449). -/
def Device.rcAcked (d : Device) (i : Nat) : Device :=
  if d.rcState = rcHELD ∧ d.rc.entry = some i then d.rcFree else d

/-- RC_CMD written. -/
def Device.rcCmdWrite (d : Device) (v : Nat) : Device :=
  match v % 8 with
  | 0 => d
  | 1 => d.rcArm
  | 2 => d.rcForce
  | 3 => d.rcStop
  | 4 => d.rcRelease
  | _ => d.rcRefuse 7

/-- A configuration register written: only while IDLE (R446). -/
def Device.rcCfgWrite (d : Device) (f : Device → Device) : Device := if d.rcState = rcIDLE then f d else d.rcRefuse 6

/-! ### Measurements (R447) -/

/-- A result with the number of its bit in NA: `none` where it cannot be formed. -/
abbrev Meas := Option Int

/-- The interpolated place, in frames as a fraction, at which values pass a level between frames `i − 1` and `i`. -/
def crossAt (i : Nat) (lvl a b : Int) : Int × Nat :=
  let den := (b - a).natAbs
  (((i : Int) - 1) * den + (if b < a then a - lvl else lvl - a), den)

/-- The latest passage of `lvl` upward at or before frame `i`. -/
def upBefore (xs : List Int) (lvl : Int) (i : Nat) : Option (Int × Nat) :=
  ((List.range i).reverse.find? (fun j => decide (xs.getD j 0 < lvl) && decide (lvl ≤ xs.getD (j + 1) 0))).map (fun j =>
    crossAt (j + 1) lvl (xs.getD j 0) (xs.getD (j + 1) 0))

/-- The rising crossings of the middle, in frames (R447): values and levels are taken twenty times, so that the middle and
its tenths are whole. -/
def risingCrossings (xs : List Int) (mn mx : Int) : List (Int × Nat) :=
  let mid := 10 * (mn + mx)
  let tenth := 2 * (mx - mn)
  let ys := xs.map (· * 20)
  let r := (ys.zip (List.range ys.length)).foldl (fun (s : Bool × List (Int × Nat)) y =>
    let high := twoLevel (y.2 == 0) s.1 (mid - tenth) (mid + tenth) y.1
    if high && !s.1 && y.2 != 0 then
      match upBefore ys mid y.2 with
      | some c => (high, s.2 ++ [c])
      | none => (high, s.2)
    else (high, s.2)) (false, [])
  r.2

/-- The mean spacing of crossings in frames, as a fraction. -/
def meanSpacing (cs : List (Int × Nat)) : Option (Int × Nat) :=
  match cs, cs.getLast? with
  | a :: _ :: _, some b => some (b.1 * a.2 - a.1 * b.2, a.2 * b.2 * (cs.length - 1))
  | _, _ => none

/-- The first frame from `i` on at which `ys` reaches `lvl` from below it, with the place of the passage. -/
def firstUp (ys : List Int) (lvl : Int) (i : Nat) : Option (Nat × Int × Nat) :=
  ((List.range ys.length).find? (fun j => decide (i ≤ j) && decide (1 ≤ j) && decide (ys.getD (j - 1) 0 < lvl) && decide (lvl ≤ ys.getD j 0))).map
    (fun j => (j, crossAt j lvl (ys.getD (j - 1) 0) (ys.getD j 0)))

/-- RISE in frames as a fraction: values and levels are taken ten times. -/
def riseTime (xs : List Int) (f : Int) : Option (Int × Nat) :=
  let x0 := xs.getD 0 0
  let s := (f - x0).sign
  let ys := xs.map (fun x => 10 * (s * (x - x0)))
  let h := s * (f - x0)
  if s = 0 then none
  else
    match firstUp ys h 0 with
    | some (i, a) =>
      match firstUp ys (9 * h) i with
      | some (_, b) => some (b.1 * a.2 - a.1 * b.2, a.2 * b.2)
      | none => none
    | none => none

/-- The least frame from which every value stays within `half` of `c`. -/
def settleFrame (xs : List Int) (c : Int) (half : Nat) : Option Nat :=
  let bad := (List.range xs.length).filter (fun i => decide (half < ((xs.getD i 0) - c).natAbs))
  match bad.getLast? with
  | none => if xs.isEmpty then none else some 0
  | some i => if i + 1 < xs.length then some (i + 1) else none

/-- A result as its 32-bit word: all ones where it cannot be formed, a free value where it does not fit. -/
def Device.rcWord (d : Device) (signed : Bool) (m : Meas) : Nat × Device :=
  match m with
  | none => (0xFFFFFFFF, d)
  | some v =>
    if signed then (ofS 32 v, d)
    else if 0 ≤ v ∧ v < 2 ^ 32 then (v.toNat, d)
    else let (x, d1) := d.fresh; (x.toNat % 2 ^ 32, d1)

/-- A quotient in the last place, rounded by a free bit, as a result. -/
def Device.rcQuot (d : Device) (x : Option (Int × Nat)) (scale : Int) : Meas × Device :=
  match x with
  | none => (none, d)
  | some (n, den) => let (q, d1) := d.freeDiv (n * scale) den; (some q, d1)

/-- The ten results of a window of values, with `p` ticks between frames (R447). -/
def Device.rcResults (d : Device) (xs : List Int) (p : Nat) (mode : Bool) (ref : Int) (half : Nat) : List Meas × Device :=
  match xs with
  | [] => (List.replicate 10 none, d)
  | x0 :: _ =>
    let m := xs.length
    let mn := xs.foldl min x0
    let mx := xs.foldl max x0
    let mean := xs.sum / (m : Int)
    let rms : Int := ((isqrt ((xs.map (fun x => (x * x).toNat)).sum / m) : Nat) : Int)
    let tail := xs.drop (m - max 1 (m / 8))
    let f := tail.sum / (tail.length : Int)
    let (per, d1) := d.rcQuot (meanSpacing (risingCrossings xs mn mx)) (16 * p)
    let (freq, d2) := d1.rcQuot (per.bind (fun v => if v = 0 then none else some (1600000000000, v.natAbs))) 1
    let (rise, d3) := d2.rcQuot (riseTime xs f) (16 * p)
    let s := (f - x0).sign
    let beyond := (xs.map (fun x => s * (x - f))).foldl max 0
    let (os, d4) := d3.rcQuot (if s = 0 then none else some (beyond, (f - x0).natAbs)) 65536
    let settle : Meas := (settleFrame xs (if mode then f else ref) half).map (fun (i : Nat) => ((i * p : Nat) : Int))
    ([some mn, some mx, some (mx - mn), some mean, some rms, per, freq, rise, os, settle], d4)

/-- A list of free words. -/
def Device.freeWords (d : Device) : Nat → List Nat × Device
  | 0 => ([], d)
  | n + 1 =>
    let (v, d1) := d.fresh
    let (vs, d2) := d1.freeWords n
    (v.toNat % 2 ^ 32 :: vs, d2)

/-- The words of results, with the bits of NA. -/
def Device.rcWords (d : Device) (ms : List Meas) : List Nat × Device :=
  (ms.zip (List.range ms.length)).foldl (fun (x : List Nat × Device) y =>
    let (w, d1) := x.2.rcWord (y.2 == 0 || y.2 == 1 || y.2 == 3) y.1
    (x.1 ++ [w], d1)) ([], d)

/-- MEAS[m] of a record with trigger frame `trig` and the frames' values, oldest first. -/
def Device.rcMeas (d : Device) (m : Nat) (fs : List RcFrame) (trig : Option Nat) : List Nat × Device :=
  let c := d.get (RC_MS_CTRL_CHANNEL m)
  match trig with
  | none => let (ws, d1) := d.freeWords 11; (0xFF :: ws, d1)
  | some t =>
    if c = 0xFF then let (ws, d1) := d.freeWords 11; (0xFF :: ws, d1)
    else
      let start := ((t : Int) + d.rdS (RC_MS_FROM m)).toNat
      let xs := (fs.drop start).map (fun f => toS 32 (valueOf f.vals c).toNat)
      let (rs, d1) := d.rcResults xs d.rc.period (d.has (RC_MS_CTRL_BAND_MODE m)) (d.rdS (RC_MS_REF m)) (d.rdN (RC_MS_HALF m))
      let na := ((rs.zip (List.range 10)).map (fun x => if x.1.isNone then 2 ^ x.2 else 0)).sum
      let (ws, d2) := d1.rcWords rs
      (c :: na :: ws, d2)

/-! ### The record (R448) -/

/-- The record's bytes. -/
def Device.rcRecord (d : Device) : List (BitVec 8) × Device :=
  let r := d.rc
  let fs := r.frames.reverse
  let n := fs.length
  let first := r.written - n
  let ch := d.rcChannels
  let wide := ch.filter (fun c => d.has (RC_CH_SRC_WIDTH c))
  let mask := fun (l : List Nat) => (l.map (2 ^ ·)).sum
  let trig := r.trig.map (· - first)
  let slots := if trig.isNone then 0 else ((List.range 8).filter (fun m => decide (d.get (RC_MS_CTRL_CHANNEL m) ≠ 0xFF))).length
  let ctrl := ch.length % 128 + 256 * b2n r.forced + 512 * b2n r.partialRec + 1024 * b2n trig.isNone + 65536 * slots
  let (s0, d0) := match fs with
    | f :: _ => (f.stamp, d)
    | [] => let (v, d1) := d.fresh; (v.toNat, d1)
  let st := match trig with
    | some t => ((fs[t]?).map (·.stamp)).getD 0
    | none => 0
  let (ms, d1) := (List.range 8).foldl (fun (x : List Nat × Device) m =>
    let (ws, dd) := x.2.rcMeas m fs trig
    (x.1 ++ ws, dd)) ([], d0)
  let head := leBytes ctrl 4 ++ leBytes (d.rdN RC_SEQ) 4 ++ leBytes s0 8 ++ leBytes st 8 ++ leBytes r.period 4 ++
    leBytes r.bytes 4 ++ leBytes n 4 ++ leBytes (trig.getD 0xFFFFFFFF) 4 ++ leBytes (d.rdN RC_BUF_BASE) 4 ++
    leBytes (first % r.cap * r.bytes) 4 ++ leBytes (mask ch) 8 ++ leBytes (mask wide) 8
  (head ++ ms.flatMap (fun w => leBytes w 4), d1)

/-- RECORD_SEND (R448, R449): the record is sent to Q6, or waits in HELD while Q6 has no free descriptor. -/
def Device.recordSend (d : Device) : Device :=
  if !d.rc.sendDue then d
  else
    let d0 := d.put RC_STATUS_STATE rcHELD
    if d0.qFull 6 then d0
    else
      let i := d0.get (QU_PROD_INDEX 6)
      let d1 := d0.wrN RC_SEQ d0.rc.seq
      let (bs, d2) := d1.rcRecord
      ((d2.qAddAny 6 0 0 bs).setRc fun r => { r with sendDue := false, entry := some i, seq := r.seq + 1 }).raise RC_EVENT_RECORD

/-! ### The beat -/

/-- The recorder at a boundary: the frames of the beat before are closed, a change of LEN or of the latch phase stops the
capture (R446), the flags of the axes are taken, and a record that has waited for most of its millisecond is sent
(R448). -/
def Device.rcBoundary (d : Device) (changed : Bool) : Device :=
  let d1 := d.rcClose
  let d2 := if changed then d1.rcStopNow else d1
  let fl := (d2.planners.map (·.1)).foldl (fun m k =>
    let p := d2.pl k
    Store.set (fun _ => 0) m k (b2n (p.arrGen == some p.gen) + 2 * b2n (p.age == 1))) []
  let d3 := d2.setRc fun r => { r with arrive := fl, ovr := [] }
  if d3.rc.doneAt + 100000 ≤ d3.clk.now + d3.clk.len then d3.recordSend else d3

end Sys2Proof.Machine
end

