-- ==== Sys2Proof/Machine/Reset.lean ====
section
/-! DEFINITION. The device reset (R536, R537): every logic-side unit returns to its reset values. -/

namespace Sys2Proof.Machine

/-- What a flash operation interrupted by a reset leaves in its range is unknown (R537). -/
def Device.flInterrupt (d : Device) (p : Nat) : Device :=
  let s := d.fl p
  if s.op = 1 ∨ s.op = 2 then d.flUnknown p s.addr s.count else d

/-- XS_RESET_CAUSE after a reset of a cause: cleared by the power-on reset, which sets bit 0 (R537). -/
def causeAfter (old cause : Nat) : Nat := if cause = 1 then 1 else old ||| cause

/-- The device resets: only the key-hash slots and XS_RESET_CAUSE survive (R537), beside what is no state of the logic
side: the flash chips, stuck memory cells, the supplies' levels and the TAP.  Each bank takes its class from its supply
(R543), and a new nonce stands in LG_KEY_NONCE. -/
def Device.reset (d : Device) (cause : Nat) : Device :=
  let d1 := (d.flInterrupt 0).flInterrupt 1
  let b : Boot := { flash := d1.boot.flash, otp := d1.boot.otp }
  let pk : Package := { porHold := d.pkg.porHold, jtagHold := d.pkg.jtagHold, testEn := d.pkg.testEn, above := d.pkg.above, ir := d.pkg.ir,
                        bsr := d.pkg.bsr, driven := d.pkg.driven, highz := d.pkg.highz, acc := d.pkg.acc, dr := d.pkg.dr }
  let new : Device := { boot := b, pkg := pk, free := d1.free + 1, test := { nonce := d1.free }, mem := { hard := d1.mem.hard } }
  let d2 := new.wrN XS_RESET_CAUSE (causeAfter (d.get ⟨XS_RESET_CAUSE, 0, 4⟩) cause)
  (d2.wrN XS_OTP_STATE (d.rdN XS_OTP_STATE % 256)).put GL_IO_BANK_V18 (511 - d.pkg.above.toNat)

/-- XS_RESET written by an access path (R536): only a write session or JTAG resets; a wrong KEY is refused. -/
def Device.resetWrite (d : Device) (path v : Nat) : Device :=
  if path = 0 ∨ pathJtag < path then d
  else if bits v 16 16 ≠ 0xB007 then d.xsRefuse 0 4
  else if bit v 0 then d.reset 4
  else d

end Sys2Proof.Machine
end

