-- ==== Sys2Proof/Machine/Settings.lean ====
section
/-! DEFINITION. The beat settings (R14–R18, R26, R31–R34): their check, a commit and its effect at the boundary, the
loader's use of them (R15), and TB_TRIM. -/

namespace Sys2Proof.Machine

/-- TB_TRIM_WRITE (R17, R18): ignored if TRIM_MAX would break R17 for the active L or R18 for the active D. -/
def Device.trimWrite (d : Device) (v : Nat) : Device :=
  let t := v % 16
  let f := d.longestF
  if latchOk f d.clk.len d.clk.latch t && deadlineOk f d.clk.len d.clk.deadline t then d.wrN TB_TRIM (andN v 0x10F) else d

/-- BEAT_COMMIT (R31, R34): the request waits for the boundary, at which the shadow values are checked. -/
def Device.commitRequest (d : Device) : Device := d.put TB_STATUS_COMMIT_PEND 1

/-- CLEAR_OVR. -/
def Device.clearOvr (d : Device) : Device := (d.wrN TB_OVR_COUNT 0).wrN TB_OVR_LAST 0

/-- TB_COMMIT written. -/
def Device.tbCommitWrite (d : Device) (v : Nat) : Device :=
  let d1 := if bit v 1 then d.clearOvr else d
  if bit v 0 then d1.commitRequest else d1

/-- Is any axis enabled (R32)? -/
def Device.anyEnabled (d : Device) : Bool := (List.range 192).any (fun k => d.axState k != axOFF)

/-- COMMIT_RESULT of the settings `len`, `l`, `dl` (R31, R33): 1 where every check passes.  Which reason is given where
several checks fail is the model's choice (DESIGN CHOICE, notes/assumptions/54): the lowest code. -/
def Device.settingsCode (d : Device) (len l dl : Nat) : Nat :=
  let t := d.get TB_TRIM_TRIM_MAX
  if !permittedLens.contains len then 2
  else if len ≠ d.clk.len ∧ d.clk.running = true ∧ d.anyEnabled = true then 3
  else if latchOk d.longestF len l t = false then 4
  else if deadlineOk d.longestF len dl t = false then 5
  else if (d.allFit d.laysInForce dl && d.updFits d.laysInForce dl) = false then 6
  else 1

/-- Settings put in force. -/
def Device.settingsApply (d : Device) (len l dl : Nat) : Device :=
  let c : Clock := { d.clk with len := len, latch := l, deadline := dl, curLen := len }
  let d1 := { d with clk := c }
  ((d1.put TB_ACTIVE_LEN_LEN len).put TB_ACTIVE_PHASE_LATCH l).put TB_ACTIVE_PHASE_DEADLINE dl

/-- A refused commit (R31). -/
def Device.settingsRefuse (d : Device) (code : Nat) : Device :=
  ((d.put TB_STATUS_COMMIT_RESULT code).raise TB_EVENT_COMMIT_REFUSED).msg 1 0xFF 2 code

/-- The shadow settings: LEN, LATCH and DEADLINE. -/
def Device.shadowSettings (d : Device) : Nat × Nat × Nat :=
  (d.get TB_BEAT_LEN_LEN, d.get TB_PHASE_LATCH, d.get TB_PHASE_DEADLINE)

/-- BEAT_SETTINGS_APPLY: a pending commit at the boundary (R31, R33, R34), and whether LEN or L changed.  A new length ends
the alignment to whole seconds. -/
def Device.settingsBoundary (d : Device) : Device × Bool :=
  if !d.has TB_STATUS_COMMIT_PEND then (d, false)
  else
    let d0 := d.put TB_STATUS_COMMIT_PEND 0
    let (len, l, dl) := d0.shadowSettings
    let inj := d0.injTake 1 0xFF 2
    match inj with
    | some (dt, d1) =>
      (((d1.put TB_STATUS_COMMIT_RESULT (dt % 8)).raise TB_EVENT_COMMIT_REFUSED).msg 1 0xFF 2 dt true, false)
    | none =>
      let c := d0.settingsCode len l dl
      if c ≠ 1 then (d0.settingsRefuse c, false)
      else
        let d1 := (d0.settingsApply len l dl).put TB_STATUS_COMMIT_RESULT 1
        let d2 := if len = d.clk.len then d1 else (d1.put TB_STATUS_ALIGNED 0).put TB_STATUS_TRIMMING 0
        (d2, len != d.clk.len || l != d.clk.latch)

/-- Do the shadow settings pass under an assignment: every check of R31, with `fits` for R26? -/
def Device.loadCode (d : Device) (fits : Nat → Bool) : Nat :=
  let x := d.shadowSettings
  let c := d.settingsCode x.1 x.2.1 x.2.2
  if c = 6 ∨ c = 1 then (if fits x.2.2 then 1 else 6) else c

/-- Settings refused at start-up (R15): the reset values are in force. -/
def Device.settingsDefault (d : Device) (code : Nat) : Device :=
  let d2 := ((d.settingsRefuse code).wr TB_BEAT_LEN (resetWord TB_BEAT_LEN)).wr TB_PHASE (resetWord TB_PHASE)
  d2.settingsApply 1600 800 1550

/-- Settings accepted at start-up. -/
def Device.settingsTaken (d : Device) : Device :=
  let x := d.shadowSettings
  (d.settingsApply x.1 x.2.1 x.2.2).put TB_STATUS_COMMIT_RESULT 1

/-- Step 6 of the loader (R15): the shadow settings checked under an assignment, or the reset values put in force; whether
they passed. -/
def Device.settingsLoad (d : Device) (fits : Nat → Bool) : Bool × Device :=
  let d0 := d.put TB_STATUS_COMMIT_PEND 0
  if d0.loadCode fits = 1 then (true, d0.settingsTaken) else (false, d0.settingsDefault (d0.loadCode fits))

end Sys2Proof.Machine
end

