-- ==== Sys2Proof/Machine/Tables.lean ====
section
/-! DEFINITION. The shared table rules of the table directory (R533, R534, R559) with the checks and the deferrals of
every kind of table (R86, R88, R114, R117, R185, R187, R252–R256, R291, R296, R299–R305, R360, R382). -/

namespace Sys2Proof.Machine

/-- A table's directory structure changed. -/
def Device.setTable (d : Device) (i : Nat) (f : Table → Table) : Device := { d with tables := d.tables.upd {} i f }

/-- The commit check of a trip map (R291): the reserved bits of every row are 0. -/
def tripMapOk (t : List (BitVec 8)) : Bool :=
  (List.range 16).all (fun s => decide (leAt t (0x90 * s) 4 < 4096) && decide (leAt t (0x90 * s + 4) 12 = 0))

/-- The commit check of a gain contour (R114). -/
def contourTableOk (t : List (BitVec 8)) : Bool := decide (leAt t 4 4 ≠ 0)

/-- The content rules of table `i`'s kind (R559.2). -/
def Device.tblCheck (d : Device) (i : Nat) (t : List (BitVec 8)) : Bool :=
  if i < 0x40 then camOk t
  else if i < 0xC0 then contourTableOk t
  else if i < 0xD0 then d.frameTableOk (i - 0xC0) t
  else if i < 0xE0 then layoutOk t
  else if i < 0x120 then itTableOk t
  else if i = 0x120 then tripMapOk t
  else lgTableOk t

/-- Does a deferral of the table's kind apply now (R559.3)? -/
def Device.tblDefers (d : Device) (i : Nat) : Bool :=
  if i < 0x40 then !d.camMaySwap i
  else if i < 0xD0 then false
  else if i < 0xE0 then d.layoutDefers (i - 0xD0)
  else if i < 0x120 then d.itDefers i
  else false

/-- What a deferral shows at the units that cause it: LAYOUT_PEND (R256) and TABLE_PEND (R299). -/
def Device.tblWaits (d : Device) (i : Nat) : Device :=
  if 0xD0 ≤ i ∧ i < 0xE0 then d.put (TK_STATUS_LAYOUT_PEND (i - 0xD0)) 1
  else if 0xE0 ≤ i ∧ i < 0x120 then d.itTablePend i true
  else d

/-- A commit rejected with code BAD_TABLE (R559.2, R559.5). -/
def Device.tblReject (d : Device) (i : Nat) : Device :=
  let d1 := (((d.put (GL_TD_STATE_LAST i) 3).put (GL_TD_STATE_PENDING i) 0).put (GL_TD_STATE_DEFERRED i) 0).put (GL_TD_STATE_REBUILD i) 0
  let d2 := if 0xD0 ≤ i ∧ i < 0xE0 then d1.put (TK_STATUS_LAYOUT_PEND (i - 0xD0)) 0
    else if 0xE0 ≤ i ∧ i < 0x120 then d1.itTablePend i false else d1
  ((if i < 0x40 then d2.camSwapped i else d2).setTable i fun t => { t with waiting := false, built := none }).tblEvent i 3 1

/-- What a commit request answers: the swap falls at the next boundary, it is deferred, the table is rejected, or a
commit already waits. -/
inductive TblAnswer where
  | next
  | deferred
  | bad
  | busy
  deriving DecidableEq, Repr

/-- A commit request for table `i` (R559.1–R559.3). -/
def Device.tblRequest (d : Device) (i : Nat) : TblAnswer × Device :=
  if d.has (GL_TD_STATE_PENDING i) ∨ d.has (GL_TD_STATE_DEFERRED i) then (.busy, d)
  else
    let size := d.rdN (GL_TD_SIZE i)
    let (bs, unc, d1) := d.bulkRead (d.tblShadow i) size
    if size = 0 then (.bad, d.tblReject i)
    else if unc.isSome ∨ d1.tblCheck i bs = false then (.bad, d1.tblReject i)
    else
      let d2 := ((d1.put (GL_TD_STATE_PENDING i) 1).put (GL_TD_STATE_REBUILD i) 1).setTable i fun t => { t with waiting := true }
      if d2.tblDefers i then
        (.deferred, ((d2.put (GL_TD_STATE_DEFERRED i) 1).put (GL_TD_STATE_LAST i) 2).tblWaits i)
      else (.next, d2)

/-- The slots of the engines whose parameter copies select contour `ct`, with their axes. -/
def Device.contourSlots (d : Device) (ct : Nat) : List (Nat × Nat × Nat) :=
  (List.range 192).filterMap (fun k =>
    if d.lpGet (AX_LP_CTRL_POS_CT k) = ct ∨ d.lpGet (AX_LP_CTRL_VEL_CT k) = ct then
      (d.slotOf k).map (fun s => (s.1, s.2, k))
    else none)

/-- Does the copy of the parameters that slot `j`'s computation reads select contour `ct`? -/
def Device.windowSelects (d : Device) (e j ct : Nat) : Bool :=
  let c := (d.dm e (winAddr j 0x80)).toNat
  bits c 16 8 == ct || bits c 24 8 == ct

/-- Does a computation begun under the superseded copy of contour `ct` still run, the slots of `mask e` still computing? -/
def Device.contourHeld (d : Device) (ct : Nat) (mask : Nat → Nat) : Bool :=
  (List.range 28).any (fun e => (List.range 8).any (fun j => bit (mask e) j && d.windowSelects e j ct))

/-- The effects of a swap on the consumers of the table's kind. -/
def Device.tblEffect (d : Device) (i : Nat) (bs : List (BitVec 8)) : Device :=
  if i < 0x40 then d.camSwapped i
  else if i < 0xC0 then
    let ct := i - 0x40
    (d.contourSlots ct).foldl (fun d s => if bit (d.carryMask s.1) s.2.1 then d else d.winParams s.1 s.2.1 s.2.2) d
  else if i < 0xD0 then d
  else if i < 0xE0 then d.layoutSwap (i - 0xD0) bs
  else if i < 0x120 then d.itTablePend i false
  else if i = 0x120 then d.tripMapSwapped
  else d

/-- The swap of table `i` at a boundary (R559.4): the shadow copy becomes active. PENDING stays while a computation
begun under the superseded copy still runs (R534). -/
def Device.tblSwap (d : Device) (i : Nat) (bs : List (BitVec 8)) : Device :=
  let held := decide (0x40 ≤ i) && decide (i < 0xC0) && d.contourHeld (i - 0x40) d.carryMask
  let act := 1 - d.get (GL_TD_STATE_ACTIVE i)
  let d1 := ((((d.put (GL_TD_STATE_ACTIVE i) act).put (GL_TD_STATE_DEFINED i) 1).put (GL_TD_STATE_DEFERRED i) 0).put
    (GL_TD_STATE_REBUILD i) 0).put (GL_TD_STATE_LAST i) 1
  let d2 := (d1.put (GL_TD_STATE_PENDING i) (b2n held)).setTable i fun _ => { work := bs, waiting := false, held := held }
  (d2.tblEffect i bs).tblEvent i 1 0

/-- The working copy of table `i` as its commit rebuilds it, once, by the first boundary (R382, R559.3): none where a byte of
the shadow copy cannot be read. -/
def Device.tblRebuild (d : Device) (i : Nat) : Option (List (BitVec 8)) × Device :=
  match (d.tables.pick {} i).built with
  | some bs => (some bs, d)
  | none =>
    let (bs, unc, d1) := d.bulkRead (d.tblShadow i) (d.rdN (GL_TD_SIZE i))
    if unc.isSome then (none, d1)
    else (some bs, (d1.put (GL_TD_STATE_REBUILD i) 0).setTable i fun t => { t with built := some bs })

/-- One table at a boundary (R559.3–R559.5). -/
def Device.tblBoundary (d : Device) (i : Nat) : Device :=
  let t := d.tables.pick {} i
  if t.waiting then
    match d.tblRebuild i with
    | (none, d0) => d0.tblReject i
    | (some bs, d0) =>
      if d0.tblDefers i then
        let d1 := ((d0.put (GL_TD_STATE_DEFERRED i) 1).put (GL_TD_STATE_LAST i) 2).tblWaits i
        if i < 0x40 then d1.camDeferred i else d1
      else if 0xC0 ≤ i ∧ i < 0xD0 ∧ d0.frameTableOk (i - 0xC0) bs = false then d0.tblReject i
      else d0.tblSwap i bs
  else if t.held then
    if d.contourHeld (i - 0x40) (fun e => (d.eng e).carry) then d
    else (d.put (GL_TD_STATE_PENDING i) 0).setTable i fun t => { t with held := false }
  else d

/-- The cam tables at a boundary, once the masters have moved (R88). -/
def Device.camTables (d : Device) : Device := (List.range 0x40).foldl (fun d i => d.tblBoundary i) d

/-- The other tables at a boundary. -/
def Device.otherTables (d : Device) : Device :=
  (List.range (tableCount - 0x40)).foldl (fun d i => d.tblBoundary (0x40 + i)) d

/-- TABLE_LOAD into the shadow copy (R485): 0 written, 1 BUSY, 2 PARAM. -/
def Device.tblLoad (d : Device) (i off : Nat) (bs : List (BitVec 8)) : Nat × Device :=
  if tableCount ≤ i ∨ d.rdN (GL_TD_SIZE i) < off + bs.length then (2, d)
  else if d.has (GL_TD_STATE_PENDING i) ∨ d.has (GL_TD_STATE_DEFERRED i) then (1, d)
  else (0, d.poke (d.tblShadow i + off) bs)

/-- The loader's step 4 (R530): the table becomes active with BUF0 if it passes the checks of a commit; `none` where it is
rejected (R531). -/
def Device.tblInstall (d : Device) (i : Nat) : Option Device :=
  let (bs, unc, d1) := d.bulkRead (d.rdN (GL_TD_BUF0 i)) (d.rdN (GL_TD_SIZE i))
  if bs.isEmpty ∨ unc.isSome ∨ d1.tblCheck i bs = false then none
  else
    let d2 := (d1.put (GL_TD_STATE_DEFINED i) 1).setTable i fun _ => { work := bs }
    some (if 0xD0 ≤ i ∧ i < 0xE0 then d2.setChain (i - 0xD0) fun s => { s with layout := bs } else d2)

end Sys2Proof.Machine
end

