-- ==== Sys2Proof/Machine/Bus.lean ====
section
/-! DEFINITION. Access to the register and memory space by an access path (R4–R10): reads and writes of registers with
every write rule of the chapters' tables, the holding registers (R7, R475), bulk memory, the mapped window (R517) and the
keyed test space (R371).  Codes: 0 done, 1 busy, 2 address error (R5), 3 memory error (R381, R516). -/

namespace Sys2Proof.Machine

/-! ### Plain writes -/

/-- What a write of `v` leaves in a register that holds `old` (R6). -/
def storeWord (old v rw w1c : BitVec 32) : BitVec 32 := (old &&& ~~~(rw ||| w1c)) ||| (v &&& rw) ||| (old &&& w1c &&& ~~~v)

/-- A write by the access types of the register's fields (R6). -/
def Device.plainWrite (d : Device) (r : RegRow) (a : Nat) (v : BitVec 32) : Device :=
  d.wr a (storeWord (d.rd a) v (r.half a r.rw) (r.half a r.w1c))

/-- A pair written as one 64-bit value (R7); `a` is the address of _LO. -/
def Device.plainWrite64 (d : Device) (r : RegRow) (a : Nat) (lo hi : BitVec 32) : Device :=
  (d.plainWrite r a lo).plainWrite r (a + 4) hi

/-! ### Registers with a write rule of their own, by block -/

/-- AX_PL_CMD (R48): GO, JOG, LIMITS, HOLD, RESUME, STOP, QSTOP, SHIFT; other codes are refused BAD_CODE. -/
def Device.plCmdWrite (d : Device) (k v : Nat) : Device :=
  match bits v 0 4 with
  | 0 => d
  | 1 => (d.plGo k (d.rdS64 (AX_PL_TARGET k))).2
  | 2 => (d.plJog k (d.rdS64 (AX_PL_JOG_VEL k))).2
  | 3 => (d.plLimits k).2
  | 4 => (d.plHold k).2
  | 5 => (d.plResume k).2
  | 6 => (d.plStop k).2
  | 7 => (d.plQstop k).2
  | 8 => (d.plShift k (d.rdS64 (AX_PL_TARGET k))).2
  | _ => d.plRefuse k 8

/-- GL_CY_CMD (R66–R86). -/
def Device.cyCmdWrite (d : Device) (c v : Nat) : Device :=
  match bits v 0 4 with
  | 0 => d
  | 1 => (d.cyForm c).2
  | 2 => (d.cyDissolve c).2
  | 3 => (d.cyHold c).2
  | 4 => (d.cyResume c).2
  | 5 => (d.cyStop c).2
  | 6 => (d.cyQstop c).2
  | 7 => (d.cyLimits c).2
  | 8 => (d.cyEngage c (bits v 8 3)).2
  | 9 => (d.cyDisengage c (bits v 8 3)).2
  | 10 => (d.cyFlush c).2
  | _ => d.cyRefuse c 9

/-- Registers of the device global block: GL_IO_CTRL (R549), convoys, gantry pairs, memory management. -/
def Device.wrGl (d : Device) (r : RegRow) (a : Nat) (v : BitVec 32) : Device :=
  let n := v.toNat
  if a = GL_IO_CTRL then if d.clk.running then d else d.plainWrite r a v
  else if a < 0x1000 then d.plainWrite r a v
  else if a < 0x3000 then
    let c := (a - 0x1000) / 0x100
    let o := a % 0x100
    if o = 0x04 then d.cyCmdWrite c n
    else if o = 0x00 then if d.cyState c = cyFREE then d.plainWrite r a v else d
    else if 0x40 ≤ o ∧ o < 0xC0 then
      if o % 16 = 0 then if d.cyState c = cyFREE then d.plainWrite r a v else d
      else (d.plainWrite r a v).cyRatioWrite c ((o - 0x40) / 16)
    else d.plainWrite r a v
  else if a < 0x5000 then
    if a % 0x20 = 0 then d.gpWrite ((a - 0x3000) / 0x20) n d.tgZoneOf else d.plainWrite r a v
  else if a = GL_MEM_CTRL then d.memCtrlWrite n
  else if a = GL_MEM_CMD then d.memCmdWrite n
  else d.plainWrite r a v

/-- Registers of the time base and beat block. -/
def Device.wrTb (d : Device) (r : RegRow) (a : Nat) (v : BitVec 32) : Device :=
  let n := v.toNat
  if a = TB_TRIM then d.trimWrite n
  else if a = TB_COMMIT then d.tbCommitWrite n
  else if a = TB_TM_CTRL then d.tmCtrlWrite n
  else if a = TB_TM_CMD then d.tmCmdWrite n
  else if a = TB_SYNC_CTRL ∨ a = TB_SYNC_AT_NS then d.syncArm fun d => d.plainWrite r a v
  else d.plainWrite r a v

/-- Registers of the ledger block. -/
def Device.wrLg (d : Device) (path : Nat) (r : RegRow) (a : Nat) (v : BitVec 32) : Device :=
  let n := v.toNat
  if a = LG_CMD then d.lgCmdWrite n
  else if a = LG_RING_BASE ∨ a = LG_CNT_BASE then d.lgBaseWrite a n (r.half a r.rw).toNat
  else if a = LG_KEY then d.keyWrite path n
  else d.plainWrite r a v

/-- Registers of the caravanserai block. -/
def Device.wrCv (d : Device) (r : RegRow) (a : Nat) (v : BitVec 32) : Device :=
  let n := v.toNat
  if a = CV_CMD then d.cvCmdWrite n
  else if a = CV_CKPT_BASE then d.ckptBaseWrite n
  else if a = CV_UPD_MASK then if d.get CV_STATUS_UPDATE = 1 then d.cvRefuse 1 else d.plainWrite r a v
  else if 0x30200 ≤ a ∧ a < 0x30240 ∧ a % 8 = 0 then d.imgWrite ((a - 0x30200) / 8) n
  else d.plainWrite r a v

/-- Registers of the queue block. -/
def Device.wrQu (d : Device) (r : RegRow) (a : Nat) (v : BitVec 32) : Device :=
  if a = QU_LN_CMD then d.lnCmdWrite v.toNat
  else if a < 0x40400 ∧ (a % 0x40 = 0 ∨ a % 0x40 = 4) then d.quWrite a (v &&& r.half a r.rw).toNat
  else d.plainWrite r a v

/-- Registers of the Ethernet block. -/
def Device.wrEn (d : Device) (r : RegRow) (a : Nat) (v : BitVec 32) : Device :=
  if a = EN_P_CTRL 0 then d.enCtrlWrite 0 v.toNat
  else if a = EN_P_CTRL 1 then d.enCtrlWrite 1 v.toNat
  else d.plainWrite r a v

/-- Registers of the CAN block (R504). -/
def Device.wrCf (d : Device) (r : RegRow) (a : Nat) (v : BitVec 32) : Device :=
  let b := (a - 0x60000) / 0x800
  let o := (a - 0x60000) % 0x800
  let w := (v &&& r.half a r.rw).toNat
  if o = 0 then d.canCtrlWrite b v.toNat
  else if o ≤ 0x14 then d.canCfgWrite b a w
  else if o = 0x18 then d.canCmdWrite b v.toNat
  else if 0x400 ≤ o then
    if o % 16 = 0 then d.canFltIdWrite b ((o - 0x400) / 16) v.toNat
    else if o % 16 = 4 ∨ o % 16 = 8 then d.canFltWrite b ((o - 0x400) / 16) a w
    else d.plainWrite r a v
  else d.plainWrite r a v

/-- Registers of the flash block. -/
def Device.wrXs (d : Device) (path : Nat) (r : RegRow) (a : Nat) (v : BitVec 32) : Device :=
  let n := v.toNat
  if a = XS_CTRL 0 then d.xsCtrlWrite 0 n
  else if a = XS_CTRL 1 then d.xsCtrlWrite 1 n
  else if a = XS_OPC 0 then d.xsOpcWrite 0 n
  else if a = XS_OPC 1 then d.xsOpcWrite 1 n
  else if a = XS_RESET then d.resetWrite path n
  else if a = XS_CMD then d.xsCmdWrite n
  else if a = XS_OTP_CMD then d.otpCmdWrite path n
  else if XS_OTP_DATA 0 ≤ a ∧ a ≤ XS_OTP_DATA 7 then d.otpDataWrite ((a - XS_OTP_DATA 0) / 4) v
  else d.plainWrite r a v

/-- TK_CMD: bit 0 CENSUS, bit 1 START, bit 2 STOP, bit 3 CLEAR_CNT. -/
def Device.tkCmdWrite (d : Device) (c v : Nat) : Device :=
  let d1 := if bit v 3 then d.tkClearCnt c else d
  let d2 := if bit v 2 then d1.tkStop c else d1
  let d3 := if bit v 0 then d2.tkCensus c else d2
  if bit v 1 then d3.tkStart c else d3

/-- Registers of the chain block. -/
def Device.wrTk (d : Device) (r : RegRow) (a : Nat) (v : BitVec 32) : Device :=
  let c := (a - 0x80000) / 0x400
  let o := (a - 0x80000) % 0x400
  if o = 0 then d.tkCtrlWrite c v.toNat
  else if o = 4 then d.tkTimingWrite c v.toNat
  else if o = 8 then d.tkCmdWrite c v.toNat
  else d.plainWrite r a v

/-- Registers of the field I/O block. -/
def Device.wrFio (d : Device) (r : RegRow) (a : Nat) (v : BitVec 32) : Device :=
  let n := v.toNat
  if a = FIO_CMD then match bits n 0 4 with
    | 0 => d
    | 1 => d.fioClear
    | _ => d.fioRefuse 2
  else if a = FIO_OUT_SET then d.fioWrite 0 n true
  else if a = FIO_OUT_SET_HI then d.fioWrite 32 n true
  else if a = FIO_OUT_CLR then d.fioWrite 0 n false
  else if a = FIO_OUT_CLR_HI then d.fioWrite 32 n false
  else if 0x91100 ≤ a ∧ a < 0x91380 ∧ a % 16 = 0 then d.fioCtrlWrite ((a - 0x91100) / 16) n
  else d.plainWrite r a v

/-- Registers of the modulator block. -/
def Device.wrMd (d : Device) (r : RegRow) (a : Nat) (v : BitVec 32) : Device :=
  let n := v.toNat
  if a < 0xB0200 then
    let p := (a - 0xB0000) / 0x20
    if a % 0x20 = 8 then d.pairCmpWrite p (v &&& r.half a r.rw).toNat
    else if a % 0x20 = 0xC then d.pairCmdWrite p n
    else if a % 0x20 = 4 ∧ n % 65536 < 2 then d.pairRefuse p 4
    else d.plainWrite r a v
  else if a < 0xB0300 ∧ a % 16 = 0 then d.tripCtrlWrite ((a - 0xB0200) / 16) n
  else if a = MD_TRIP_CLEAR then d.tripClear n
  else if a = MD_SOFT_TRIP then d.softTrip n
  else d.plainWrite r a v

/-- Registers of the direct feedback ports. -/
def Device.wrFb (d : Device) (r : RegRow) (a : Nat) (v : BitVec 32) : Device :=
  let p := (a - 0xC0000) / 0x100
  let n := v.toNat
  match a % 0x100 with
  | 0x00 => d.fbCtrlWrite p n
  | 0x04 => d.fbSerWrite p n
  | 0x08 => d.fbTimingWrite p n
  | 0x24 => if bit n 0 then d.fbClearCnt p else d
  | _ => d.plainWrite r a v

/-- MS_CMD: bit 0 FLUSH, bit 1 FORCE, bit 2 SKIP. -/
def Device.msCmdWrite (d : Device) (m v : Nat) : Device :=
  let d1 := if bit v 0 then d.msFlush m else d
  let d2 := if bit v 1 then d1.msForce m else d1
  if bit v 2 then d2.msSkip m else d2

/-- LT_CMD: bit 0 REARM, bit 1 CLEAR_CNT. -/
def Device.ltCmdWrite (d : Device) (u v : Nat) : Device :=
  let d1 := if bit v 0 then d.ltRearm u else d
  if bit v 1 then d1.ltClear u else d1

/-- Registers of step generators, milestones and latches. -/
def Device.wrStMsLt (d : Device) (r : RegRow) (a : Nat) (v : BitVec 32) : Device :=
  let n := v.toNat
  let o := a % 0x40
  if a < 0xC5000 then
    let g := (a - 0xC4000) / 0x40
    if o = 0 then d.stCtrlWrite g n else if o = 4 then d.stModeWrite g n else d.plainWrite r a v
  else if a < 0xC6000 then
    let m := (a - 0xC5000) / 0x40
    if o = 0 then d.msCtrlWrite m n else if o = 0x18 then d.msCmdWrite m n else d.plainWrite r a v
  else
    let u := (a - 0xC6000) / 0x40
    if o = 0 then d.ltCtrlWrite u n
    else if o = 4 ∨ o = 8 then d.ltAxesWrite u a (v &&& r.half a r.rw).toNat
    else if o = 0x24 then d.ltCmdWrite u n
    else d.plainWrite r a v

/-- Registers of the itineraries (R312, R318). -/
def Device.wrIt (d : Device) (r : RegRow) (a : Nat) (v : BitVec 32) : Device :=
  let k := (a - 0xD0000) / 0x100
  let o := a % 0x100
  if 0xD4000 ≤ a then d.plainWrite r a v
  else if o = 0 then d.itCtrlWrite k v.toNat
  else if o = 4 then d.itCmdWrite k v.toNat
  else if 0x40 ≤ o ∧ o < 0x78 then d.itHmWrite k (fun d => d.plainWrite r a v)
  else d.plainWrite r a v

/-- AX_LP_COMMIT: bit 0 COMMIT, bit 1 CLEAR_INT (R119). -/
def Device.lpCommitWrite (d : Device) (k v : Nat) : Device :=
  let d1 := if bit v 1 then d.clearInt k else d
  if bit v 0 then d1.paramCommit k else d1

/-- Registers of an axis block. -/
def Device.wrAx (d : Device) (r : RegRow) (a : Nat) (v : BitVec 32) : Device :=
  let k := (a - 0x100000) / 0x400
  let n := v.toNat
  match (a - 0x100000) % 0x400 with
  | 0x000 => d.axCtrlWrite k n
  | 0x104 => d.plCmdWrite k n
  | 0x160 => d.plDepth k n
  | 0x204 => d.lpCommitWrite k n
  | 0x300 => d.fbSrcWrite k n
  | 0x368 => if bit n 0 then d.setpos k else d
  | 0x3C0 => d.mbWrite k 0 n
  | 0x3C4 => d.mbWrite k 1 n
  | 0x3C8 => d.mbWrite k 2 n
  | 0x3D0 => if bit n 0 then d.mbCommit k else d
  | _ => d.plainWrite r a v

/-- Registers of an engine block. -/
def Device.wrDv (d : Device) (r : RegRow) (a : Nat) (v : BitVec 32) : Device :=
  if a % 0x1000 = 0x38 then if bit v.toNat 0 then d.dvClear ((a - 0x200000) / 0x1000) else d
  else d.plainWrite r a v

/-- One 32-bit register written by a path: the rule of its block, configuration registers of the tollgate (R420) and the
recorder (R446) by their own rules. -/
def Device.regWrite (d : Device) (path : Nat) (r : RegRow) (a : Nat) (v : BitVec 32) : Device :=
  if r.flag = 1 then d.tgCfgWrite path a (v &&& r.half a r.rw).toNat
  else if r.flag = 2 then d.rcCfgWrite (fun d => d.plainWrite r a v)
  else if a < 0x10000 then d.wrGl r a v
  else if a < 0x20000 then d.wrTb r a v
  else if a < 0x30000 then d.wrLg path r a v
  else if a < 0x40000 then d.wrCv r a v
  else if a < 0x50000 then d.wrQu r a v
  else if a < 0x60000 then d.wrEn r a v
  else if a < 0x70000 then d.wrCf r a v
  else if a < 0x80000 then d.wrXs path r a v
  else if a < 0x90000 then d.wrTk r a v
  else if a = TG_CMD then d.tgCmdWrite path v.toNat
  else if a < 0x91000 then d.plainWrite r a v
  else if a < 0xA0000 then d.wrFio r a v
  else if a = RC_CMD then d.rcCmdWrite v.toNat
  else if a < 0xB0000 then d.plainWrite r a v
  else if a < 0xC0000 then d.wrMd r a v
  else if a < 0xC4000 then d.wrFb r a v
  else if a < 0xD0000 then d.wrStMsLt r a v
  else if a < 0x100000 then d.wrIt r a v
  else if a < 0x200000 then d.wrAx r a v
  else if a < 0x1000000 then d.wrDv r a v
  else d.plainWrite r a v

/-- A register pair written as one value (R7): the feedback scales and offsets only while the axis is OFF (R172), the
recorder's, the homing settings and the compare time of SYNC_OUT (R474) by their own rules. -/
def Device.pairWrite (d : Device) (r : RegRow) (a : Nat) (lo hi : BitVec 32) : Device :=
  if r.flag = 2 then d.rcCfgWrite (fun d => d.plainWrite64 r a lo hi)
  else if a = TB_SYNC_AT_SEC_LO then d.syncArm fun d => d.plainWrite64 r a lo hi
  else if 0xD0000 ≤ a ∧ a < 0xD4000 then d.itHmWrite ((a - 0xD0000) / 0x100) (fun d => d.plainWrite64 r a lo hi)
  else if 0x100000 ≤ a ∧ a < 0x130000 ∧ 0x310 ≤ (a - 0x100000) % 0x400 ∧ (a - 0x100000) % 0x400 ≤ 0x328 then
    if d.axState ((a - 0x100000) / 0x400) = axOFF then d.plainWrite64 r a lo hi else d
  else d.plainWrite64 r a lo hi

/-! ### Reads with the holding registers -/

/-- Does a Time112 group start at `a` (R475)? -/
def isGroup (a : Nat) : Bool := a == TB_TIME_SEC_LO || a == TB_PPS_IN_SEC_LO || a == TB_SYNC_IN_SEC_LO

/-- The first register of the Time112 group that `a` lies in, if it lies in one. -/
def groupOf (a : Nat) : Option Nat :=
  if (TB_TIME_SEC_LO ≤ a ∧ a ≤ TB_TIME_FRAC) ∨ (TB_PPS_IN_SEC_LO ≤ a ∧ a ≤ TB_PPS_IN_FRAC) ∨
     (TB_SYNC_IN_SEC_LO ≤ a ∧ a ≤ TB_SYNC_IN_FRAC) then some (a / 16 * 16) else none

/-- A read of an assigned register by a path. -/
def Device.regRead (d : Device) (path : Nat) (r : RegRow) (a : Nat) : BitVec 32 × Device :=
  if a = LG_KEY_NONCE then
    let (n, d1) := d.nonceRead path
    (BitVec.ofNat 32 n, d1)
  else
    match groupOf a with
    | some g =>
      if a = g then
        let hi := d.regNow (g + 4)
        let cap := [(8, d.regNow (g + 8)), (12, d.regNow (g + 12))]
        (d.regNow g, d.setHold path fun h => { h with rd := hi, group := cap })
      else if a = g + 4 then ((d.hold.pick {} path).rd, d)
      else (((d.hold.pick {} path).group.lookup (a - g)).getD 0, d)
    | none =>
      if r.pair then
        if r.isHi a then ((d.hold.pick {} path).rd, d)
        else
          let hi := d.regNow (a + 4)
          (d.regNow a, d.setHold path fun h => { h with rd := hi })
      else (d.regNow a, d)

/-! ### The whole space -/

/-- Is the keyed test space open at `a` (R10)? -/
def Device.inTest (d : Device) (a : Nat) : Bool := decide (0x0F000000 ≤ a) && decide (a < 0x10000000) && d.has LG_STATUS_TEST_OPEN

/-- Class, instance, kind and offset of an injection register (R371). -/
def injOf (a : Nat) : Nat × Nat × Nat × Nat := (bits a 20 4, bits a 12 8, bits a 4 8, a % 16)

/-- Is an injection register assigned? -/
def injAssigned (a : Nat) : Bool := let (c, i, k, o) := injOf a; injPoint c i k && decide (o ≤ 8)

/-- A read of one word by a path: its value, the code and the block after it. -/
def Device.busRead (d : Device) (path a : Nat) : BitVec 32 × Nat × Device :=
  if a % 4 ≠ 0 then (0, 2, d)
  else if a < 0x1000000 ∨ (0x4000000 ≤ a ∧ a < 0x8000000) then
    match regRow a with
    | none => (0, 2, d)
    | some r => let (v, d1) := d.regRead path r a; (v, 0, d1)
  else if a < bulkEnd then
    let (bs, unc, d1) := d.bulkRead a 4
    match unc with
    | some _ => (BitVec.ofNat 32 (ofLe bs), 3, d1)
    | none => (BitVec.ofNat 32 (ofLe bs), 0, d1)
  else if a < 0x8000000 then (0, 2, d)
  else if d.inTest a then
    if injAssigned a then (if a % 16 = 4 then (0, 0, d) else (d.rd a, 0, d)) else (0, 2, d)
  else if a < 0xC000000 then d.flWord 0 (a - 0x8000000)
  else if a < 0x10000000 then d.flWord 1 (a - 0xC000000)
  else (0, 2, d)

/-- A write of one word by a path: the code and the block after it. -/
def Device.busWrite (d : Device) (path a : Nat) (v : BitVec 32) : Nat × Device :=
  if a % 4 ≠ 0 then (2, d)
  else if a < 0x1000000 ∨ (0x4000000 ≤ a ∧ a < 0x8000000) then
    match regRow a with
    | none => (2, d)
    | some r =>
      if r.rw = 0 ∧ r.w1c = 0 ∧ r.wo = 0 then (2, d)
      else if r.pair then
        if r.isHi a then (0, d.pairWrite r (a - 4) (d.hold.pick {} path).wr v)
        else (0, d.setHold path fun h => { h with wr := v })
      else (0, d.regWrite path r a v)
  else if a < bulkEnd then (0, d.poke a (leBytes v.toNat 4))
  else if d.inTest a then
    if injAssigned a then
      let (c, i, k, o) := injOf a
      if o = 0 then (0, d.injDetail c i k v.toNat)
      else if o = 4 then (0, d.injFire c i k v.toNat)
      else (2, d)
    else (2, d)
  else (2, d)

/-! ### The refusal of a write (R304) -/

/-- The field that reports the latest refusal of the unit that the register at `a` belongs to, and whether it is kept as a
snapshot register (R8); none where the unit reports none or only an event. -/
def refusalAt (a : Nat) : Option (Fld × Bool) :=
  if 0x1000 ≤ a ∧ a < 0x3000 then some (GL_CY_STATUS_REFUSE_LAST ((a - 0x1000) / 0x100), true)
  else if 0x5000 ≤ a ∧ a < 0x10000 then some (GL_MEM_STATUS_REFUSE_LAST, false)
  else if 0x10100 ≤ a ∧ a < 0x20000 then some (TB_TM_STATUS_REFUSE_LAST, false)
  else if 0x20000 ≤ a ∧ a < 0x30000 then some (LG_STATUS_REFUSE_LAST, false)
  else if 0x30000 ≤ a ∧ a < 0x40000 then some (CV_STATUS_REFUSE_LAST, false)
  else if 0x40000 ≤ a ∧ a < 0x50000 then some (QU_LN_STATUS_REFUSE_LAST, false)
  else if 0x60000 ≤ a ∧ a < 0x61000 then some (CF_STATUS_REFUSE_LAST ((a - 0x60000) / 0x800), false)
  else if 0x70000 ≤ a ∧ a < 0x70200 then some (XS_STATUS_REFUSE_LAST ((a - 0x70000) / 0x100), false)
  else if 0x70200 ≤ a ∧ a < 0x80000 then some (XS_STATUS_REFUSE_LAST 0, false)
  else if 0x80000 ≤ a ∧ a < 0x84000 then some (TK_STATUS_REFUSE_LAST ((a - 0x80000) / 0x400), false)
  else if 0x90000 ≤ a ∧ a < 0x91000 then some (TG_STATUS_REFUSE_LAST, false)
  else if 0x91000 ≤ a ∧ a < 0xA0000 then some (FIO_STATUS_REFUSE_LAST, false)
  else if 0xA0000 ≤ a ∧ a < 0xB0000 then some (RC_STATUS_REFUSE_LAST, false)
  else if 0xB0000 ≤ a ∧ a < 0xB0200 then some (MD_PAIR_STATUS_REFUSE_LAST ((a - 0xB0000) / 0x20), false)
  else if 0xC5000 ≤ a ∧ a < 0xC6000 then some (MS_STATUS_REFUSE_LAST ((a - 0xC5000) / 0x40), false)
  else if 0xC6000 ≤ a ∧ a < 0xD0000 then some (LT_STATUS_REFUSE_LAST ((a - 0xC6000) / 0x40), false)
  else if 0xD0000 ≤ a ∧ a < 0xD4000 then some (IT_STATUS_REFUSE_LAST ((a - 0xD0000) / 0x100), false)
  else if 0x100000 ≤ a ∧ a < 0x130000 then
    let k := (a - 0x100000) / 0x400
    let o := (a - 0x100000) % 0x400
    if o < 0x100 then some (AX_STATUS_REFUSE_LAST k, true)
    else if o < 0x200 then some (AX_PL_STATUS_REFUSE_LAST k, true)
    else if o < 0x300 then some (AX_LP_STATUS_REFUSE_LAST k, true)
    else if 0x3C0 ≤ o then some (AX_MB_STATUS_REFUSE_LAST k, true)
    else none
  else none

/-- The event that alone reports a refusal where a unit has no code: feedback ports and sources, gantry pairs, the beat
settings and the trip clear. -/
def refusalEvent (a : Nat) : Option Fld :=
  if 0x3000 ≤ a ∧ a < 0x5000 then some (GL_GP_EVENT_ZONE_SPLIT ((a - 0x3000) / 0x20))
  else if 0x10000 ≤ a ∧ a < 0x10100 then some TB_EVENT_COMMIT_REFUSED
  else if a = MD_TRIP_CLEAR then some (⟨MD_TRIP_CLEAR_EV, 0, 1⟩)
  else if 0xC0000 ≤ a ∧ a < 0xC4000 then some (FB_EVENT_REFUSED ((a - 0xC0000) / 0x100))
  else if 0x100000 ≤ a ∧ a < 0x130000 ∧ 0x300 ≤ (a - 0x100000) % 0x400 ∧ (a - 0x100000) % 0x400 < 0x380 then
    some (AX_FB_EVENT_REFUSED ((a - 0x100000) / 0x400))
  else none

/-- A field that may stand among the snapshot registers. -/
def Device.getLive (d : Device) (f : Fld × Bool) : Nat := if f.2 then d.liveGet f.1 else d.get f.1
/-- A field that may stand among the snapshot registers, changed. -/
def Device.putLive (d : Device) (f : Fld × Bool) (v : Nat) : Device := if f.2 then d.livePut f.1 v else d.put f.1 v

/-- A register written by a path, and the code with which the unit refused it (0: accepted); where the unit reports a
refusal by an event alone the code is 1. -/
def Device.judgedWrite (d : Device) (path a : Nat) (v : BitVec 32) : Nat × Nat × Device :=
  match refusalAt a with
  | some f =>
    let old := d.getLive f
    let (c, d1) := (d.putLive f 0).busWrite path a v
    let code := d1.getLive f
    (c, code, if code = 0 then d1.putLive f old else d1)
  | none =>
    match refusalEvent a with
    | some f =>
      let old := d.get f
      let (c, d1) := (d.put f 0).busWrite path a v
      let code := d1.get f
      (c, code, if code = 0 then d1.put f old else d1)
    | none =>
      let (c, d1) := d.busWrite path a v
      (c, 0, d1)

end Sys2Proof.Machine
end

