-- ==== Sys2Proof/Machine/Crypto.lean ====
section
/-! DEFINITION. SHA-256 (FIPS 180-4), HMAC-SHA-256 (FIPS 198-1) and the verification of an ECDSA P-256 signature (FIPS
186-5), which R480, R481, R525 and R527 name. -/

namespace Sys2Proof.Machine

/-! ### SHA-256 -/

/-- The 64 constants K of the rounds as one number, the constant of round 0 in the highest bits. -/
def shaTable : Nat :=
  0x428a2f9871374491b5c0fbcfe9b5dba53956c25b59f111f1923f82a4ab1c5ed5d807aa9812835b01243185be550c7dc372be5d7480deb1fe9bdc06a7c19bf174 * 2 ^ 1536 +
  0xe49b69c1efbe47860fc19dc6240ca1cc2de92c6f4a7484aa5cb0a9dc76f988da983e5152a831c66db00327c8bf597fc7c6e00bf3d5a7914706ca635114292967 * 2 ^ 1024 +
  0x27b70a852e1b21384d2c6dfc53380d13650a7354766a0abb81c2c92e92722c85a2bfe8a1a81a664bc24b8b70c76c51a3d192e819d6990624f40e3585106aa070 * 2 ^ 512 +
  0x19a4c1161e376c082748774c34b0bcb5391c0cb34ed8aa4a5b9cca4f682e6ff3748f82ee78a5636f84c878148cc7020890befffaa4506cebbef9a3f7c67178f2

/-- The constant of round `t`. -/
def shaConst (t : Nat) : BitVec 32 := BitVec.ofNat 32 (shaTable / 2 ^ (32 * (63 - t)))

/-- The eight words of a hash value, or of the working variables: a to d are the latest words of one chain, e to h those of
the other, the newest first. -/
structure ShaChains where
  upper : List (BitVec 32)
  lower : List (BitVec 32)
  deriving DecidableEq, Repr

/-- The initial hash value. -/
def shaStart : ShaChains :=
  { upper := [0x6a09e667, 0xbb67ae85, 0x3c6ef372, 0xa54ff53a],
    lower := [0x510e527f, 0x9b05688c, 0x1f83d9ab, 0x5be0cd19] }

/-- A 32-bit word of four bytes, most significant first. -/
def beWord (bs : List (BitVec 8)) : BitVec 32 := BitVec.ofNat 32 (ofBe (slice bs 0 4))

/-- The big-endian bytes of a number. -/
def beBytes (n k : Nat) : List (BitVec 8) := (leBytes n k).reverse

/-- The exclusive or of three rotations of a word. -/
def turn3 (x y z : Nat) (w : BitVec 32) : BitVec 32 := w.rotateRight x ^^^ w.rotateRight y ^^^ w.rotateRight z

/-- The exclusive or of two rotations and a shift of a word. -/
def turn2 (x y z : Nat) (w : BitVec 32) : BitVec 32 := w.rotateRight x ^^^ w.rotateRight y ^^^ w >>> z

/-- The word that enters the window of the 16 latest schedule words, the oldest first. -/
def shaEnter (win : List (BitVec 32)) : BitVec 32 :=
  win.getD 0 0 + turn2 7 18 3 (win.getD 1 0) + win.getD 9 0 + turn2 17 19 10 (win.getD 14 0)

/-- One round with a schedule word and its constant: both chains take a new word. -/
def ShaChains.round (v : ShaChains) (k w : BitVec 32) : ShaChains :=
  let u := fun i => v.upper.getD i 0
  let l := fun i => v.lower.getD i 0
  let pick := l 2 ^^^ (l 0 &&& (l 1 ^^^ l 2))
  let most := (u 0 &&& u 1) ||| (u 2 &&& (u 0 ||| u 1))
  let mixed := l 3 + turn3 6 11 25 (l 0) + pick + k + w
  { upper := (mixed + turn3 2 13 22 (u 0) + most) :: v.upper.take 3, lower := (u 3 + mixed) :: v.lower.take 3 }

/-- The last `n` rounds of a block, with the window of schedule words. -/
def shaRounds : Nat → List (BitVec 32) → ShaChains → ShaChains
  | 0, _, v => v
  | n + 1, win, v => shaRounds n (win.drop 1 ++ [shaEnter win]) (v.round (shaConst (63 - n)) (win.getD 0 0))

/-- One block taken into the hash value. -/
def shaBlock (h : ShaChains) (block : List (BitVec 8)) : ShaChains :=
  let v := shaRounds 64 ((List.range 16).map (fun i => beWord (block.drop (4 * i)))) h
  { upper := List.zipWith (· + ·) h.upper v.upper, lower := List.zipWith (· + ·) h.lower v.lower }

/-- The padded message. -/
def shaPad (m : List (BitVec 8)) : List (BitVec 8) :=
  let n := m.length
  m ++ [0x80] ++ List.replicate ((119 - n % 64) % 64) 0 ++ beBytes (8 * n) 8

/-- The blocks of a padded message. -/
def shaBlocks (m : List (BitVec 8)) : List (List (BitVec 8)) :=
  (List.range (m.length / 64)).map (fun i => slice m (64 * i) 64)

/-- SHA-256 of a message. -/
def sha256 (m : List (BitVec 8)) : List (BitVec 8) :=
  let h := (shaBlocks (shaPad m)).foldl shaBlock shaStart
  (h.upper ++ h.lower).flatMap (fun w => beBytes w.toNat 4)

/-- HMAC-SHA-256 of a message under a key. -/
def hmac (key m : List (BitVec 8)) : List (BitVec 8) :=
  let k := slice (if 64 < key.length then sha256 key else key) 0 64
  sha256 (k.map (· ^^^ 0x5C) ++ sha256 (k.map (· ^^^ 0x36) ++ m))

/-! ### ECDSA P-256 -/

/-- The field prime of P-256. -/
def p256P : Nat := 0xffffffff00000001000000000000000000000000ffffffffffffffffffffffff
/-- The group order of P-256. -/
def p256N : Nat := 0xffffffff00000000ffffffffffffffffbce6faada7179e84f3b9cac2fc632551
/-- The coefficient b of P-256. -/
def p256B : Nat := 0x5ac635d8aa3a93e7b3ebbd55769886bc651d06b0cc53b0f63bce3c3e27d2604b
/-- The base point of P-256. -/
def p256G : Nat × Nat :=
  (0x6b17d1f2e12c4247f8bce6e563a440f277037d812deb33a0f4a13945d898c296,
   0x4fe342e2fe1a7f9b8ee7eb4a7c0f9e162bce33576b315ececbb6406837bf51f5)

/-- A power modulo `m`, the exponent read from bit `k - 1` down. -/
def powMod (m b e : Nat) : Nat → Nat
  | 0 => 1 % m
  | k + 1 =>
    let r := powMod m b (e / 2) k
    let s := r * r % m
    if e % 2 = 1 then s * b % m else s

/-- The inverse modulo a prime of 256 bits. -/
def invMod (m a : Nat) : Nat := powMod m (a % m) (m - 2) 256

/-- The sum of two points, `none` being the point at infinity. -/
def ecAdd (a b : Option (Nat × Nat)) : Option (Nat × Nat) :=
  let p := p256P
  match a, b with
  | none, _ => b
  | _, none => a
  | some (x1, y1), some (x2, y2) =>
    if x1 = x2 ∧ (y1 + y2) % p = 0 then none
    else
      let l := if x1 = x2 then (3 * x1 * x1 + (p - 3)) * invMod p (2 * y1) % p
        else (y2 + (p - y1)) * invMod p (x2 + (p - x1)) % p
      let x3 := (l * l + 2 * p - x1 - x2) % p
      some (x3, (l * (x1 + p - x3) + (p - y1)) % p)

/-- A multiple of a point. -/
def ecMul (n : Nat) (a : Option (Nat × Nat)) : Nat → Option (Nat × Nat)
  | 0 => none
  | k + 1 =>
    let h := ecMul (n / 2) a k
    let t := ecAdd h h
    if n % 2 = 1 then ecAdd t a else t

/-- Is a pair of coordinates a point of the curve? -/
def ecOn (x y : Nat) : Bool :=
  decide (x < p256P) && decide (y < p256P) && decide (y * y % p256P = (x * x * x + (p256P - 3) * x + p256B) % p256P)

/-- Is `sig` (r, then s) a signature over the message by the public key (X, then Y), all big-endian (R525)? -/
def ecdsaOk (key msg sig : List (BitVec 8)) : Bool :=
  let x := ofBe (slice key 0 32)
  let y := ofBe (slice key 32 32)
  let r := ofBe (slice sig 0 32)
  let s := ofBe (slice sig 32 32)
  if ecOn x y && decide (1 ≤ r) && decide (r < p256N) && decide (1 ≤ s) && decide (s < p256N) then
    let w := invMod p256N s
    let u1 := ofBe (sha256 msg) % p256N * w % p256N
    let u2 := r * w % p256N
    match ecAdd (ecMul u1 (some p256G) 256) (ecMul u2 (some (x, y)) 256) with
    | some (v, _) => decide (v % p256N = r)
    | none => false
  else false

end Sys2Proof.Machine
end

