-- ==== Sys2Proof/Machine/Boot.lean ====
section
/-! DEFINITION. The manifest and the loader (R523–R532): the check of a copy, RECOVERY, the loader's sequence up to the
assignment, and VERIFY (R538). -/

namespace Sys2Proof.Machine

/-! ### The format (R524–R526) -/

/-- The 128-byte header of the copy on a port. -/
def Device.mfHeader (d : Device) (p : Nat) : List (BitVec 8) := d.flBytes p 0 128
/-- GEN of a header. -/
def mfGen (h : List (BitVec 8)) : Nat := leAt h 8 4
/-- LENGTH of a header. -/
def mfLength (h : List (BitVec 8)) : Nat := leAt h 12 4

/-- MAGIC, FORMAT and LENGTH (R527, code 3). -/
def mfHeaderOk (h : List (BitVec 8)) : Bool :=
  decide (leAt h 0 4 = 0x4D445343) && decide (leAt h 4 2 = 1) && decide (136 ≤ mfLength h) &&
  decide (mfLength h ≤ flWindow - 64)

/-- The records of a copy from the bytes after its header: exactly `n` of them, filling the bytes. -/
def mfParse : Nat → Nat → List (BitVec 8) → Option (List MfRec)
  | 0, _, bs => if bs.isEmpty then some [] else none
  | n + 1, idx, bs =>
    let len := leAt bs 4 4
    let size := 8 + (len + 7) / 8 * 8
    if bs.length < 8 ∨ bs.length < size then none
    else
      match mfParse n (idx + 1) (bs.drop size) with
      | some rest => some (⟨idx, leAt bs 0 2, slice bs 8 len⟩ :: rest)
      | none => none

/-- The little-endian words of a body. -/
def bodyWords (bs : List (BitVec 8)) : List Nat := (List.range (bs.length / 4)).map (fun i => leAt bs (4 * i) 4)
/-- The writes of a REG record: address and value. -/
def regPairs (bs : List (BitVec 8)) : List (Nat × Nat) :=
  (List.range (bs.length / 8)).map (fun i => (leAt bs (8 * i) 4, leAt bs (8 * i + 4) 4))

/-- The bulk ranges that a record writes: base and length. -/
def recRanges (r : MfRec) : List (Nat × Nat) :=
  match r.type with
  | 2 => [(leAt r.body 0 4, leAt r.body 4 4)]
  | 3 => [(leAt r.body 0 4, r.body.length - 8)]
  | 4 => [(leAt r.body 4 4, leAt r.body 12 4), (leAt r.body 8 4, leAt r.body 12 4)]
  | 5 => [(leAt r.body 4 4, r.body.length - 8)]
  | _ => []

/-- The value that a copy's REG records leave in a register, or its reset value. -/
def recReg (rs : List MfRec) (a : Nat) : Nat :=
  rs.foldl (fun v r => if r.type = 1 then (regPairs r.body).foldl (fun v x => if x.1 = a then x.2 else v) v else v)
    (resetWord a).toNat

/-- The areas that the loader writes under other rules (R392): checkpoints, the ledger ring, its counters and the stock
loop area, with base registers from the copy. -/
def loaderAreas (rs : List MfRec) : List (Nat × Nat) :=
  [(recReg rs CV_CKPT_BASE / 256 * 256, 192 * 256), (recReg rs LG_RING_BASE / 0x20000 * 0x20000, 0x20000),
   (recReg rs LG_CNT_BASE / 0x10000 * 0x10000, 0x10000), (stockBase, 0x20000)]

/-- Do two ranges overlap? -/
def meets (x y : Nat × Nat) : Bool := decide (x.1 < y.1 + y.2) && decide (y.1 < x.1 + x.2) && x.2 != 0 && y.2 != 0

/-- The axis, engine, slot and image of an ASSIGN word. -/
structure Assign where
  axis : Nat
  eng : Nat
  slot : Nat
  image : Nat
  idx : Nat
  deriving DecidableEq, Repr

/-- The words of the ASSIGN records. -/
def assigns (rs : List MfRec) : List Assign :=
  rs.flatMap (fun r => if r.type = 6 then
    (bodyWords r.body).map (fun w => (⟨bits w 0 8, bits w 8 5, bits w 13 3, bits w 16 3, r.idx⟩ : Assign)) else [])

/-- Are the entries of a list all different? -/
def allDistinct {α : Type} [DecidableEq α] : List α → Bool
  | [] => true
  | x :: xs => !xs.contains x && allDistinct xs

/-- The structure rules of one record (R527, code 4). -/
def recOk (areas : List (Nat × Nat)) (r : MfRec) : Bool :=
  decide (1 ≤ r.type) && decide (r.type ≤ 10) &&
  (recRanges r).all (fun x => inBulk x.1 x.2 && areas.all (fun a => !meets x a)) &&
  (match r.type with
   | 1 => (regPairs r.body).all (fun x => decide (x.1 % 4 = 0) && decide (x.1 < 0x1000000) && (regRow x.1).isSome)
   | 4 => decide (leAt r.body 0 2 < tableCount) && decide (leAt r.body 12 4 ≤ tableMax (leAt r.body 0 2))
   | 5 => decide (1 ≤ leAt r.body 0 4) && decide (leAt r.body 0 4 ≤ 7)
   | 7 => decide (leAt r.body 0 4 ≤ 3)
   | 8 => (bodyWords r.body).all (fun a => inBulk a 1)
   | _ => true)

/-- The structure of a copy's records (R527, code 4). -/
def structureOk (rs : List MfRec) : Bool :=
  let as := assigns rs
  rs.all (recOk (loaderAreas rs)) && allDistinct (as.map (·.axis)) && allDistinct (as.map (fun a => (a.eng, a.slot))) &&
  decide ((rs.filter (fun r => r.type == 10)).length ≤ 1)

/-- The first address from `pos` on that no range covers, in at most `fuel` strides. -/
def coveredTo (rs : List (Nat × Nat)) : Nat → Nat → Nat
  | 0, pos => pos
  | n + 1, pos =>
    let far := maxL ((rs.filter (fun x => decide (x.1 ≤ pos))).map (fun x => x.1 + x.2))
    if far ≤ pos then pos else coveredTo rs n far

/-- Coverage of bulk memory (R393): fill records and loader-written areas. -/
def coverageOk (rs : List MfRec) : Bool :=
  let ranges := loaderAreas rs ++ rs.flatMap recRanges
  decide (bulkEnd ≤ coveredTo ranges (ranges.length + 1) bulkBase)

/-! ### The check of a copy (R527) -/

/-- The unrevoked key-hash slot that a public key matches (R525). -/
def Device.keySlot (d : Device) (key : List (BitVec 8)) : Option Nat :=
  let h := sha256 key
  (List.range 4).find? (fun s => bit (d.get XS_OTP_STATE_PROGRAMMED) s && !bit (d.get XS_OTP_STATE_REVOKED) s &&
    (List.range 32).map (fun i => Store.get (fun _ => (0 : BitVec 8)) d.boot.otp (32 * s + i)) == h)

/-- What a check of a copy finds: its code, its records and the slot that its key matched. -/
structure MfCheck where
  code : Nat
  recs : List MfRec := []
  slot : Nat := 0

/-- Codes 2 to 7 of the copy on port `p`; `err` is a read error of the port. -/
def Device.mfCheck (d : Device) (p : Nat) (err : Bool) : MfCheck :=
  let h := d.mfHeader p
  if (d.fl p).fenced ∨ err = true ∨ d.has (XS_CTRL_EN p) = false then { code := 2 }
  else if mfHeaderOk h = false then { code := 3 }
  else
    let len := mfLength h
    match mfParse (leAt h 16 4) 0 (d.flBytes p 128 (len - 128)) with
    | none => { code := 4 }
    | some rs =>
      if leAt h 16 4 < 1 ∨ 65535 < leAt h 16 4 ∨ structureOk rs = false then { code := 4 }
      else if coverageOk rs = false then { code := 5 }
      else
        let key := slice h 0x30 64
        match d.keySlot key with
        | none => { code := 6 }
        | some s =>
          if ecdsaOk key (d.flBytes p 0 len) (d.flBytes p len 64) then { code := 1, recs := rs, slot := s } else { code := 7 }

/-- VERIFY_DONE (R538): the check of the copy ends, its code and GEN stand in XS_VERIFY; a read error reports itself. -/
def Device.xsVerified (d : Device) (p : Nat) (err : Bool) (at_ : Nat) : Device :=
  if (d.fl p).op ≠ 4 then d
  else
    let d1 := if err then d.flReadErr p at_ else d
    let c := d.mfCheck p err
    let g := mfGen (d.mfHeader p)
    ((d1.put XS_VERIFY_RESULT c.code).put XS_VERIFY_GEN (g % 65536)).flEnd p 2

/-! ### Bulk memory written by the loader -/

/-- The device address that a kept byte serves, if any: its own, or that of the page its spare stands for. -/
def Device.keyAddr (d : Device) (k : Nat) : Option Nat :=
  if k < 0x100000000 then some k
  else
    let o := k - 0x100000000
    match d.mem.pageMap.find? (fun e => (e.1 * 4096 - bulkBase) / 0x200000 * 0x10000 + (e.2 - 1) * 0x1000 == o / 4096 * 4096) with
    | some e => some (e.1 * 4096 + o % 4096)
    | none => none

/-- The check bits' errors of the stuck bits among the bytes of some keys (R379). -/
def Device.stuckIn (d : Device) (among : Nat → Bool) (m : Store Nat) : Store Nat :=
  d.mem.hard.foldl (fun (m : Store Nat) x => if among x.1 then Store.set (fun _ => 0) m x.1 x.2 else m) m

/-- Zeros written over a range of bulk memory. -/
def Device.bulkZero (d : Device) (a n : Nat) : Device :=
  let out := fun (k : Nat) =>
    match d.keyAddr k with
    | some x => decide (x < a) || decide (a + n ≤ x)
    | none => true
  let d1 := { d with bulk := d.bulk.filter (fun e => out e.1), bulkErr := d.stuckIn (fun k => !out k) (d.bulkErr.filter (fun e => out e.1)) }
  let lo := max a stockBase
  let hi := min (a + n) (stockBase + 0x20000)
  d1.poke lo (List.replicate (hi - lo) 0)

/-- A range of bulk memory filled with a 32-bit pattern (R526). -/
def Device.bulkFill (d : Device) (a n pat : Nat) : Device :=
  if pat = 0 then d.bulkZero a n
  else d.poke a ((List.range n).map (fun i => BitVec.ofNat 8 (bits pat (8 * (i % 4)) 8)))

/-- The stock loop area as the loader writes it: the ROM image, zeros beyond it (R392). -/
def Device.stockFill (d : Device) : Device :=
  (List.range 0x20000).foldl (fun d i => d.poke1 (stockBase + i) (bulkDefault (stockBase + i))) d

/-! ### The loader's sequence (R530, R531) -/

/-- A record refused at start-up (R531): GL_CONFIG, WARN and the first index. -/
def Device.bootWarn (d : Device) (idx : Nat) : Device :=
  let d1 := (d.msg 0 0 5 idx).put XS_BOOT_WARN 1
  if d.has XS_BOOT_WARN then d1 else d1.wrN XS_BOOT_REC idx

/-- A RETIRED_PAGE record's page mapped to the lowest free spare of its bank; `none` where the bank has no spare. -/
def Device.mapPage (d : Device) (a : Nat) : Option Device :=
  let page := a / 4096
  let bank := bankOf a
  if Store.get (fun _ => 0) d.mem.pageMap page ≠ 0 then some d
  else
    match d.freeSpare bank with
    | none => none
    | some s =>
      let d1 := { d with mem := { d.mem with pageMap := d.mem.pageMap.upd 0 page (fun _ => s + 1) } }
      some ((d1.put (GL_MEM_BANK_LEFT bank) (d.get (GL_MEM_BANK_LEFT bank) - 1)).put (GL_MEM_BANK_RETIRED bank)
        (d.get (GL_MEM_BANK_RETIRED bank) + 1))

/-- Step 1: RETIRED_UNIT and RETIRED_PAGE records. -/
def Device.bootRetire (d : Device) (r : MfRec) : Device :=
  if r.type = 9 then
    (bodyWords r.body).foldl (fun d w => match lgUnit (bits w 0 4) (bits w 8 8) with
      | some u => d.lgRetire u
      | none => d.bootWarn r.idx) d
  else if r.type = 8 then
    (bodyWords r.body).foldl (fun d a => (d.mapPage a).getD (d.bootWarn r.idx)) d
  else d

/-- Step 2: a REG record; one GL_CONFIG where any of its values is refused. -/
def Device.bootReg (d : Device) (r : MfRec) : Device :=
  if r.type ≠ 1 then d
  else
    let res := (regPairs r.body).foldl (fun (acc : Bool × Device) x =>
      let (c, code, d1) := acc.2.judgedWrite pathLoader x.1 (BitVec.ofNat 32 x.2)
      (acc.1 || c != 0 || code != 0, d1)) (false, d)
    if res.1 then res.2.bootWarn r.idx else res.2

/-- Step 3: a fill record. -/
def Device.bootFill (d : Device) (r : MfRec) : Device :=
  match r.type with
  | 2 => d.bulkFill (leAt r.body 0 4) (leAt r.body 4 4) (leAt r.body 8 4)
  | 3 => d.poke (leAt r.body 0 4) (r.body.drop 8)
  | 4 =>
    let bs := slice r.body 16 (leAt r.body 12 4)
    (d.poke (leAt r.body 4 4) bs).poke (leAt r.body 8 4) bs
  | 5 => d.poke (leAt r.body 4 4) (r.body.drop 8)
  | _ => d

/-- The areas of R392. -/
def Device.bootAreas (d : Device) : Device :=
  let d1 := (d.bulkZero (d.rdN CV_CKPT_BASE) (192 * 256)).bulkZero (d.rdN LG_RING_BASE) 0x20000
  (d1.bulkZero (d.rdN LG_CNT_BASE) 0x10000).stockFill

/-- Step 4: a TABLE record (R531, R534). -/
def Device.bootTable (d : Device) (r : MfRec) : Device :=
  if r.type ≠ 4 then d
  else
    let i := leAt r.body 0 2
    let d1 := ((d.wrN (GL_TD_BUF0 i) (leAt r.body 4 4)).wrN (GL_TD_BUF1 i) (leAt r.body 8 4)).wrN (GL_TD_SIZE i) (leAt r.body 12 4)
    match d1.tblInstall i with
    | some d2 => d2
    | none => d1.bootWarn r.idx

/-- Step 5: a KEY or an IMAGE record. -/
def Device.bootKey (d : Device) (r : MfRec) : Device :=
  match r.type with
  | 7 => { d with ln := { d.ln with keys := Store.set (fun _ => []) d.ln.keys (leAt r.body 0 4) (slice r.body 4 32) } }
  | 5 =>
    let i := leAt r.body 0 4
    let d1 := d.imgWrite i (leAt r.body 4 4)
    if d1.has (CV_IMG_STATE_VALID i) then d1 else d1.bootWarn r.idx
  | _ => d

/-- Image entry 0, the stock loop, is valid (R348). -/
def Device.bootStock (d : Device) : Device :=
  (d.put (CV_IMG_STATE_VALID 0) 1).put (CV_IMG_STATE_SFMT 0) (leAt (d.imgHeader 0) 0x0C 1)

/-- Is an ASSIGN word one that an engine can take? -/
def Assign.exists (a : Assign) : Bool := decide (a.axis < 192) && decide (a.eng < 28)

/-- The block with the axes of some ASSIGN words in slots of an engine, as R26 looks at it. -/
def Device.withAxes (d : Device) (e : Nat) (as : List Assign) : Device :=
  as.foldl (fun d a => d.put (slotFld e a.slot) a.axis) d

/-- R26 for the axes that ASSIGN words give an engine. -/
def Device.assignFits (d : Device) (as : List Assign) (dl e : Nat) : Bool :=
  let mine := as.filter (fun a => a.eng == e && a.exists)
  match mine with
  | [] => true
  | a :: _ => (d.withAxes e mine).engFits d.divsInForce d.laysInForce dl e a.image

/-- The REG record that last wrote TB_BEAT_LEN or TB_PHASE, or all ones (R531). -/
def beatRecord (rs : List MfRec) : Nat :=
  rs.foldl (fun v r => if r.type = 1 ∧ (regPairs r.body).any (fun x => x.1 == TB_BEAT_LEN || x.1 == TB_PHASE) = true then r.idx else v)
    0xFFFFFFFF

/-- Step 6, its first part: the beat settings in force (R15). -/
def Device.bootSettings (d : Device) (rs : List MfRec) : Device :=
  let as := assigns rs
  let r := d.settingsLoad (fun dl => (List.range 28).all (fun e => d.assignFits as dl e))
  if r.1 then r.2 else r.2.still fun d => d.bootWarn (beatRecord rs)

/-- Steps 1 to 5. -/
def Device.bootFive (d : Device) (rs : List MfRec) : Device :=
  let step := fun (d : Device) (n : Nat) => d.put XS_BOOT_STEP n
  let d1 := step (rs.foldl Device.bootRetire d) 1
  let d2 := (step (rs.foldl Device.bootReg d1) 2).fioStart
  let d3 := step (rs.foldl Device.bootFill d2).bootAreas 3
  let d4 := step ((rs.foldl Device.bootTable d3).put (GL_TD_STATE_DEFINED 0x121) 1) 4
  step (rs.foldl Device.bootKey d4).bootStock 5

/-- Steps 1 to 5 and the beat settings of step 6. -/
def Device.bootSteps (d : Device) (rs : List MfRec) : Device := (d.still fun d => d.bootFive rs).bootSettings rs

/-! ### Choosing a copy (R528, R529) -/

/-- The check code of a copy in XS_BOOT. -/
def Device.bootCheck (d : Device) (p code : Nat) : Device := d.put ⟨XS_BOOT, 8 + 8 * p, 8⟩ code

/-- A copy that failed (R528): XS_COPY_BAD with the copy and its check code. -/
def Device.copyBad (d : Device) (p code : Nat) : Device := (d.bootCheck p code).msg 14 (0x10 + p) 4 (code * 256 + p)

/-- RECOVERY begins (R529): the fill of bulk memory runs, and the device takes its local MAC address. -/
def Device.enterRecovery (d : Device) : Device :=
  let d1 := ((d.put XS_BOOT_RECOVERY 1).put EN_MAC_HI_MAC_HI 0x02CA).wrN EN_MAC_LO (Config.serial.toNat % 2 ^ 32)
  d1.setBoot fun b => { b with checking := none, todo := [], filling := true }

/-- The next copy to check: its port is configured by the copy's header (R528). -/
def Device.nextCopy (d : Device) : Device :=
  match d.boot.todo with
  | [] => d.enterRecovery
  | p :: rest =>
    let h := d.mfHeader p
    let d1 := (d.xsCtrlWrite p (leAt h 0x18 4)).xsOpcWrite p (leAt h 0x1C 4)
    d1.setBoot fun b => { b with checking := some p, todo := rest }

/-- LOADER_START (R528): both headers are read, the order of the checks follows from GEN, and the first check begins.
`errs` has bit p set where the header of port p could not be read. -/
def Device.loaderStart (d : Device) (errs : Nat) : Device :=
  if d.boot.started ∨ d.clk.running = true ∨ d.clk.now < 10000 then d
  else
    let d0 := d.setBoot fun b => { b with started := true }
    let code := fun (p : Nat) =>
      if (d.fl p).fenced ∨ bit errs p = true then 2 else if mfHeaderOk (d.mfHeader p) then 0 else 3
    let fail := fun (d : Device) (p : Nat) =>
      if code p = 0 then d
      else (if bit errs p then d.flReadErr p 0 else d).copyBad p (code p)
    let order := if mfGen (d.mfHeader 0) < mfGen (d.mfHeader 1) then [1, 0] else [0, 1]
    ((fail (fail d0 0) 1).setBoot fun b => { b with todo := order.filter (fun p => code p == 0) }).nextCopy

/-- The chosen copy is the booted one (R523, R528): its GEN, its key slot and its records. -/
def Device.bootChosen (d : Device) (p : Nat) (c : MfCheck) : Device :=
  let h := d.mfHeader p
  let d1 := ((d.bootCheck p 1).put XS_BOOT_COPY (p + 1)).wrN XS_BOOT_GEN (mfGen h)
  let d2 := (d1.put XS_OTP_STATE_BOOT_SLOT c.slot).setBoot fun b =>
    { b with checking := none, todo := [], booted := some p, records := c.recs }
  { d2 with test := { d2.test with lock := bit (leAt h 0x14 4) 0 } }

/-- The chosen copy boots (R528, R530). -/
def Device.bootCopy (d : Device) (p : Nat) (c : MfCheck) : Device := (d.still fun d => d.bootChosen p c).bootSteps c.recs

/-- A copy that failed (R528): its port returns to 1-1-1 and the other copy is checked, or RECOVERY begins. -/
def Device.copyFailed (d : Device) (p code : Nat) (err : Bool) (at_ : Nat) : Device :=
  let d1 := if err then d.flReadErr p at_ else d
  let d2 := (d1.wr (XS_CTRL p) (resetWord (XS_CTRL p))).wr (XS_OPC p) (resetWord (XS_OPC p))
  ((d2.copyBad p code).put (XS_STATUS_CONT_ACTIVE p) 0).nextCopy

/-- COPY_CHECKED (R528): a copy that passes boots the device; after one that fails the other is checked, or RECOVERY
begins.  The loader has done its work once the scheduler runs. -/
def Device.copyChecked (d : Device) (err : Bool) (at_ : Nat) : Device :=
  match d.boot.checking with
  | none => d
  | some p =>
    let c := d.mfCheck p err
    if d.clk.running then d
    else if c.code = 1 then d.bootCopy p c
    else d.still fun d => d.copyFailed p c.code err at_

/-- Every message that waits is taken. -/
def Device.lgTakeAll (d : Device) : Nat → Device
  | 0 => d
  | n + 1 => if d.ledger.waiting.isEmpty then d else (d.lgTake).lgTakeAll n

/-- RECOVERY_FILL_DONE (R529): zeros stand in all of bulk memory, spare pages included, and the held messages are
written to the ring and to Q7. -/
def Device.recoveryFilled (d : Device) : Device :=
  if d.boot.filling = false then d
  else
    let d1 := ({ d with bulk := [], bulkErr := d.stuckIn (fun k => decide (k < 0x200000000)) [] }).poke stockBase (List.replicate 0x20000 0)
    let d2 := d1.setBoot fun b => { b with filling := false }
    d2.lgTakeAll d2.ledger.waiting.length

/-! ### The assignment (R532) -/

/-- Axes given to an engine with its image: it loads cold and becomes ACTIVE (R325, R335). -/
def Device.bootActivate (d : Device) (e image : Nat) (as : List Assign) : Bool × Device :=
  let d1 := (d.cvLoad e image).loadComplete e
  if d1.cvLoaded e = false then (false, d1)
  else
    let d2 := as.foldl (fun d a => (d.cvPlace e a.slot a.axis image).winParams e a.slot a.axis) d1
    (true, ((d2.setRole e rlACTIVE).cvUnload e).showAdmitted e)

/-- The spare that takes the axes of an engine, by the order of R334 among engines that no ASSIGN record keeps. -/
def Device.bootSpare (d : Device) (kept : List Nat) : Option Nat :=
  least d.cvPaceOf ((d.enginesIn rlRELAY).filter (fun e => !kept.contains e))

/-- Axes of one image placed on a spare, at most two of which are tried (R335, R532). -/
def Device.bootOnSpare (d : Device) (kept : List Nat) (image : Nat) (as : List Assign) : Nat → Device
  | 0 => d
  | n + 1 =>
    match d.bootSpare kept with
    | none => d
    | some s =>
      let (ok, d1) := d.bootActivate s image as
      if ok then d1 else d1.bootOnSpare kept image as n

/-- The images that some ASSIGN words name, in order, each once. -/
def imagesOf (as : List Assign) : List Nat :=
  as.foldl (fun l a => if l.contains a.image then l else l ++ [a.image]) []

/-- May the engine itself run its axes: self-test passed, not retired, one image (R532)? -/
def Device.keeps (d : Device) (as : List Assign) (e : Nat) : Bool :=
  d.role e == rlRELAY && (imagesOf (as.filter (fun a => a.eng == e))).length == 1

/-- The ASSIGN words of one engine applied. -/
def Device.bootAssign (d : Device) (as : List Assign) (kept : List Nat) (e : Nat) : Device :=
  let mine := as.filter (fun a => a.eng == e)
  match mine with
  | [] => d
  | first :: _ =>
    let warn := fun (d : Device) => d.bootWarn first.idx
    let usable := fun (image : Nat) => d.has (CV_IMG_STATE_VALID image)
    if kept.contains e then
      if usable first.image = false then warn d
      else if d.assignFits as d.clk.deadline e = false then warn d
      else
        let (ok, d1) := d.bootActivate e first.image mine
        if ok then d1 else (warn d1).bootOnSpare kept first.image mine 1
    else
      (imagesOf mine).foldl (fun d image =>
        let part := mine.filter (fun a => a.image == image)
        if usable image = false ∨ (d.withAxes e part).engFits d.divsInForce d.laysInForce d.clk.deadline e image = false then d
        else d.bootOnSpare kept image part 2) (warn d)

/-- ASSIGN_APPLY (R532): once every engine's start-up self-test is complete, the ASSIGN records are applied and the
ACTIVE engines load cold. -/
def Device.assignApply (d : Device) : Device :=
  if d.boot.booted.isNone ∨ d.get XS_BOOT_STEP ≠ 5 ∨
     (List.range 28).any (fun e => d.role e == 0 || d.role e == rlSELFTEST) = true then d
  else
    let all := assigns d.boot.records
    let as := all.filter (·.exists)
    let d0 := (all.filter (fun a => !a.exists)).foldl (fun d a => d.bootWarn a.idx) d
    let kept := (List.range 28).filter (fun e => d.keeps as e)
    let others := (List.range 28).filter (fun e => !kept.contains e)
    ((kept ++ others).foldl (fun d e => d.bootAssign as kept e) d0).put XS_BOOT_STEP 6

end Sys2Proof.Machine
end

