-- ==== Sys2Proof/Machine/BulkMove.lean ====
section
/-! DEFINITION. The completion of an engine's bulk transfers (R150, R168, R381). -/

namespace Sys2Proof.Machine

/-- Words read from rising device addresses by an engine's bus port: the words, whether one was uncorrectable, and the
block after the reads. -/
def Device.busReads (d : Device) (path a : Nat) : Nat → List (BitVec 32) × Bool × Device
  | 0 => ([], false, d)
  | n + 1 =>
    let (v, c, d1) := d.busRead path a
    let (vs, bad, d2) := d1.busReads path (a + 4) n
    (v :: vs, c == 3 || bad, d2)

/-- Words written to rising device addresses by an engine's bus port. -/
def Device.busWrites (d : Device) (path a : Nat) : List (BitVec 32) → Device
  | [] => d
  | v :: vs => (d.busWrite path a v).2.busWrites path (a + 4) vs

/-- The words that a bulk store moves: what stood in data memory at the issue, or, where the program has changed a word
since, one of the two by a free value (R150). -/
def Device.storeWords (d : Device) (e : Nat) : List (Nat × BitVec 32) → List (BitVec 32) × Device
  | [] => ([], d)
  | (a, old) :: xs =>
    let now := d.dmVal e a
    if now = old then
      let (vs, d1) := d.storeWords e xs
      (old :: vs, d1)
    else
      let (f, d0) := d.fresh
      let (vs, d1) := d0.storeWords e xs
      ((if f.getLsbD 0 then now else old) :: vs, d1)

/-- A transfer ended in error: the engine halts with code 6, unless it has halted already (R168). -/
def Device.bulkBad (d : Device) (e : Nat) : Device := if d.get (DV_STATUS_EXEC e) = exHALTED then d else d.engHalt e 6

/-- BULK_DONE (R150): the transfer of engine `e` completes and BBUSY clears; one that meets an uncorrectable word halts
the engine with code 6 and moves nothing. -/
def Device.bulkDone (d : Device) (e : Nat) : Device :=
  match (d.eng e).bulk with
  | none => d
  | some b =>
    let d0 := d.setEng e fun s => { s with bulk := none }
    let path := pathEngine e
    if b.load then
      let (vs, bad, d1) := d0.busReads path b.dev b.mem.length
      if bad then d1.bulkBad e
      else ((b.mem.zip vs).foldl (fun (d : Device) x => d.setDm e x.1 x.2) d1).engWake e
    else
      let (bad, d1) := d0.tileRead e 0 b.mem
      if bad then d1.bulkBad e
      else
        let (vs, d2) := d1.storeWords e (b.mem.zip b.data)
        (d2.busWrites path b.dev vs).engWake e

/-- The bound on a bulk transfer (R150): 64 ticks and 2 ticks a word from its issue. -/
def Bulk.bound (b : Bulk) : Nat := b.at_ + 64 + 2 * b.mem.length

/-- The tick by which a cold load is complete (R335): 64 + ceil(PWORDS / 16) + 512 ticks from its start, 1 600 at most. -/
def Device.loadEnd (d : Device) (e : Nat) : Nat :=
  let l := d.cv.loads.pick {} e
  l.start + min 1600 (64 + ((hdrSizes (d.imgHeader l.image)).1 + 15) / 16 + 512)

/-- What the ticks that have passed complete in engine `e`: a bulk transfer at its bound (R150), the wait of a store for a
state vector's copy (R147), a load at its bound (R335). -/
def Device.engTick (d : Device) (e : Nat) : Device :=
  let d1 := match (d.eng e).bulk with
    | some b => if b.bound ≤ d.clk.now then d.bulkDone e else d
    | none => d
  let d2 := match (d1.eng e).waiting with
    | some w => if ((d1.eng e).stores (d1.eng e).bank (mvOf w)).isEmpty then d1 else d1.engWake e
    | none => d1
  if d2.role e = rlLOADING ∧ d2.loadEnd e ≤ d2.clk.now then d2.loadComplete e else d2

/-- The ticks that have passed, for every engine that has run or loads. -/
def Device.engTicks (d : Device) : Device :=
  ((List.range 28).filter (fun e => decide (d.role e ≠ 0))).foldl Device.engTick d

end Sys2Proof.Machine
end

