-- ==== Sys2Proof/Machine/Lanifer.lean ====
section
/-! DEFINITION. The Lanifer host protocol (R477–R499): frames and their checks, sessions, replies with their cache, and
the commands.  A command's fields come with the command that carries it out; the entry that FRAME_RECEIVE placed on its
inbound queue is freed then. -/

namespace Sys2Proof.Machine

/-! ### Replies (R477, R478, R481) -/

/-- The queues that PULL serves (R489). -/
def pullQueues : List Nat := [5, 6, 7, 8, 11, 12, 14, 15]

/-- Is an entry held for the host: not one routed to an itinerary (R311) nor one that waits for an engine (R497)? -/
def Device.forHost (d : Device) (q i : Nat) : Bool :=
  let a := d.qBase q + 32 * i
  if q = 11 ∨ q = 12 then d.peekN (a + 8) 1 == 0
  else if q = 15 then !d.ln.mailIn.contains (d.peekN (a + 4) 4)
  else true

/-- The entries of a queue that are held for the host, oldest first. -/
def Device.hostEntries (d : Device) (q : Nat) : List Nat := (d.qLive q).filter (fun i => d.forHost q i)

/-- OUTQ (R477): the outbound queues that hold entries. -/
def Device.outq (d : Device) : Nat := ((pullQueues.filter (fun q => !(d.hostEntries q).isEmpty)).map (2 ^ ·)).sum

/-- The 32-byte header of a frame with its MAC field 0 (R477). -/
def lnHeader (flags cmd status sid seq len outq : Nat) : List (BitVec 8) :=
  leBytes (1 + flags * 2 ^ 8 + cmd * 2 ^ 16 + status * 2 ^ 24) 4 ++ leBytes sid 4 ++ leBytes seq 4 ++
    leBytes (len + outq * 2 ^ 16) 4 ++ List.replicate 16 0

/-- The MAC of a frame under a session key (R481). -/
def lnMac (ks header payload : List (BitVec 8)) : List (BitVec 8) := (hmac ks (header ++ payload)).take 16

/-- A reply sent in session `k` (0: without MAC). -/
def Device.lnSend (d : Device) (port k cmd seq status : Nat) (pl : List (BitVec 8)) : Reply × Device :=
  let s := d.ses k
  let live := decide (k ≠ 0) && s.isOpen
  let sid := if k = 0 then 0 else s.sid
  let mac := if live then lnMac s.ks (lnHeader 1 cmd status sid seq pl.length d.outq) pl else List.replicate 16 0
  let r : Reply := ⟨port, d.ln.asked.src, d.ln.asked.tag, sid, cmd, seq, status, d.outq, pl, mac⟩
  (r, (d.setLn fun l => { l with reply := some r }).netSent port)

/-- The reply kept in Q4 (R481, R492): each session has 32 entries and overwrites its oldest. -/
def Device.lnKeep (d : Device) (k : Nat) (r : Reply) : Device :=
  let i := (32 * (k - 1) + (d.ses k).placed % 32) % d.qSize 4
  let desc := mkDesc 4 r.cmd (k + r.port * 256) r.seq (d.rdN (QU_SEQ 4)) false r.payload
  let own := (desc.take 1).map (· &&& 0xEF) ++ desc.drop 1
  let d1 := if r.payload.length ≤ 16 then d else d.poke (d.qSlot 4 i) r.payload
  let d2 := (d1.poke (d.qBase 4 + 32 * i) own).wrN (QU_SEQ 4) (d.rdN (QU_SEQ 4) + 1)
  d2.setLn fun l => { l with sessions := l.sessions.upd {} k fun s =>
    { s with placed := s.placed + 1, cache := s.cache.map (fun c => if c.1 = r.seq then (c.1, some r) else c) } }

/-- A reply to a command: in session 0 sent, in an open session sent and cached, in one that closed since discarded
(R482). -/
def Device.lnReply (d : Device) (port k cmd seq status : Nat) (pl : List (BitVec 8)) : Device :=
  if k = 0 then (d.lnSend port 0 cmd seq status pl).2
  else if (d.ses k).isOpen ∧ (d.ses k).sid = d.ln.asked.sid then
    let (r, d1) := d.lnSend port k cmd seq status pl
    d1.lnKeep k r
  else d

/-- The 4-byte DETAIL of an error reply. -/
def detail4 (n : Nat) : List (BitVec 8) := leBytes n 4

/-! ### Admission of requests (R478–R482) -/

/-- Are Lanifer frames answered: from the start of the scheduler, or in RECOVERY from the end of the fill (R529, R530)? -/
def Device.lnAnswers (d : Device) : Bool :=
  d.has QU_LN_CTRL_EN && (d.clk.running || (d.has XS_BOOT_RECOVERY && !d.boot.filling))

/-- A valid frame of a session: its idle time begins anew. -/
def Device.sesTouch (d : Device) (k : Nat) : Device :=
  d.setLn fun l => { l with sessions := l.sessions.upd {} k fun s => { s with at_ := d.clk.now } }

/-- A new SEQ accepted: it is remembered among the 32 latest, its reply still open (R481). -/
def Device.sesAccept (d : Device) (k seq : Nat) : Device :=
  d.setLn fun l => { l with sessions := l.sessions.upd {} k fun s =>
    { s with top := some (max seq (s.top.getD 0)), cache := ((seq, none) :: s.cache).take 32 } }

/-- A SEQ of session `k` judged (R481): 0 new, 1 one of the 32 latest, 2 outside the window. -/
def Session.judge (s : Session) (seq : Nat) : Nat :=
  match s.top with
  | none => 0
  | some t => if t < seq then 0 else if s.cache.any (fun c => c.1 == seq) then 1 else 2

/-- The cached reply of a SEQ sent again; none while its command still waits. -/
def Device.lnResend (d : Device) (k seq port : Nat) : Device :=
  match ((d.ses k).cache.find? (fun c => c.1 == seq)).bind (·.2) with
  | some r => (d.setLn fun l => { l with reply := some { r with port := port, dst := l.asked.src, tag := l.asked.tag } }).netSent port
  | none => d

/-- A request of an open session up to its SEQ check: whether to go on, and the block after it. -/
def Device.lnSeq (d : Device) (port k cmd seq : Nat) : Bool × Device :=
  let d0 := d.sesTouch k
  match (d.ses k).judge seq with
  | 0 => (true, d0.sesAccept k seq)
  | 1 => (false, d0.lnResend k seq port)
  | _ => (false, (d0.lnSend port k cmd seq 4 (detail4 ((d.ses k).top.getD 0))).2)

/-- The sessions that may send a command (R483): 0 any, 1 a write session, 2 session 0 (HELLO), 3 a pending one (OPEN). -/
def lnNeed (cmd : Nat) : Option Nat :=
  if cmd = 0x01 then some 2
  else if cmd = 0x02 then some 3
  else if cmd = 0x10 ∨ cmd = 0x12 ∨ cmd = 0x40 then some 0
  else if [0x03, 0x11, 0x13, 0x20, 0x21, 0x30, 0x31, 0x38, 0x41, 0x42, 0x50, 0x51].contains cmd then some 1
  else none

/-- The status that a session's state gives a command, 0 for none: 3 SESSION, 6 READ_ONLY (R478, R479, R483). -/
def Device.lnSession (d : Device) (k cmd : Nat) : Nat :=
  let need := (lnNeed cmd).getD 1
  let s := d.ses k
  if k = 0 then
    if need = 2 then 0
    else if need = 3 then 3
    else if need = 1 then 6
    else if d.has QU_LN_CTRL_OPEN_READ then 0 else 6
  else if s.sid = 0 then 3
  else if s.isOpen then if need = 2 ∨ need = 3 then 3 else 0
  else if need = 3 then 0
  else if need = 2 then 3 else 6

/-- The inbound entry of a command (R493): the oldest entry of its session in the queue, `none` where the queue holds none
of this command, `some none` where it holds one that is not the session's oldest (R499), or where Q0 is to be served before
the queue (R498). -/
def Device.lnEntry (d : Device) (q k cmd seq : Nat) : Option (Option Nat) :=
  let mine := (d.qLive q).filter (fun i => d.peekN (d.qBase q + 32 * i + 8) 1 % 8 == k)
  let is := fun (i : Nat) => d.peekN (d.qBase q + 32 * i + 1) 1 == cmd && d.peekN (d.qBase q + 32 * i + 12) 4 == seq
  if q ≠ 0 ∧ (d.qLive 0).isEmpty = false then some none
  else match mine with
  | [] => none
  | i :: _ => if is i then some (some i) else if mine.any is then some none else none

/-- An inbound entry read (R494): whether it could be read, and the request that its reply answers. -/
def Device.lnTake (d : Device) (q i : Nat) : Bool × Device :=
  let (e, d1) := d.qRead q i
  (e.ok, d1.setLn fun l => { l with asked := l.waits.pick {} (4096 * q + i) })

/-- An inbound entry freed once its command has taken effect (R494). -/
def Device.lnDone (d : Device) (q i : Nat) : Device := if d.qOwn q i then d.qFree q i else d

/-- A command that comes straight from its frame: its reply answers the session as it stands. -/
def Device.lnDirect (d : Device) (k : Nat) : Device := d.setLn fun l => { l with asked := { l.asked with sid := (d.ses k).sid } }

/-- The checks of the session and of SEQ for a command that comes straight from its frame: whether to carry it out. -/
def Device.lnAdmit (d : Device) (port k seq cmd : Nat) : Bool × Device :=
  if d.lnAnswers then
    let st := d.lnSession k cmd
    if st ≠ 0 then (false, (d.lnSend port 0 cmd seq st (detail4 (if st = 3 then (d.ses k).sid else 0))).2)
    else if (d.ses k).isOpen then d.lnSeq port k cmd seq
    else (true, d)
  else (false, d)

/-- A command carried out (R478, R482, R494, R499): from its inbound entry, which is freed once the reply is made, or, where
no entry waits, straight from its frame after the checks of the session and of SEQ. -/
def Device.lnRun (d : Device) (q port k seq cmd : Nat) (act : Device → Nat × List (BitVec 8) × Device) : Device :=
  let finish := fun (d : Device) => let (st, pl, d1) := act d; d1.lnReply port k cmd seq st pl
  match d.lnEntry q k cmd seq with
  | some (some i) =>
    let (ok, d1) := d.lnTake q i
    (if ok then finish d1 else d1.lnReply port k cmd seq 9 (detail4 (d.qBase q + 32 * i))).lnDone q i
  | some none => d
  | none =>
    let (go, d1) := (d.lnDirect k).lnAdmit port k seq cmd
    if go then finish d1 else d1

/-! ### Sessions (R479–R482) -/

/-- One second in ticks. -/
def second : Nat := 100000000

/-- A KEY reply to a source address: counted; the third within 10 s blocks the address for 10 s. -/
def Device.lnKeyFail (d : Device) (src : Nat) : Device :=
  let d1 := (d.incSat QU_LN_CNT_KEY_FAIL).raise QU_LN_EVENT_AUTH_FAIL
  let fs := (src, d.clk.now) :: d.ln.fails.filter (fun x => decide (d.clk.now < x.2 + 10 * second))
  let three := decide (3 ≤ (fs.filter (fun x => x.1 == src)).length)
  d1.setLn fun l =>
    if three then { l with fails := fs.filter (fun x => x.1 != src),
                           blocked := (src, d.clk.now + 10 * second) :: l.blocked.filter (fun x => x.1 != src) }
    else { l with fails := fs }

/-- The ticks that a source address stays blocked. -/
def Device.lnBlocked (d : Device) (src : Nat) : Nat :=
  match d.ln.blocked.find? (fun x => x.1 == src) with
  | some x => x.2 - d.clk.now
  | none => 0

/-- A new session identifier: a free value made non-zero and different from the identifiers in use. -/
def newSid (v : Nat) (used : List Nat) : Nat :=
  ((List.range 6).map (fun j => (v + j) % 2 ^ 32)).find? (fun x => x != 0 && !used.contains x) |>.getD 1

/-- HELLO (R480.1): a handshake begins. -/
def Device.lnHello (d : Device) (src keyId : Nat) (nh : List (BitVec 8)) : Nat × List (BitVec 8) × Device :=
  let used := [1, 2, 3, 4].map (fun k => (d.ses k).sid)
  let wait := d.lnBlocked src
  match [1, 2, 3, 4].find? (fun k => (d.ses k).sid == 0) with
  | none => (11, detail4 0, d)
  | some k =>
    if (Store.get (fun _ => []) d.ln.keys keyId).isEmpty then (12, detail4 keyId, d.lnKeyFail src)
    else if 0 < wait then (13, detail4 (cdiv wait second), d)
    else
      let (v, d1) := d.fresh
      let (x, d2) := d1.fresh
      let (y, d3) := d2.fresh
      let sid := newSid v.toNat used
      let nd := leBytes x.toNat 8 ++ leBytes y.toNat 8
      let s : Session := { sid := sid, key := keyId, nh := nh, nd := nd, at_ := d.clk.now }
      (0, leBytes sid 4 ++ nd, d3.setSes k fun _ => s)

/-- ASCII bytes of a label. -/
def label (s : String) : List (BitVec 8) := s.toList.map (fun c => BitVec.ofNat 8 c.toNat)

/-- OPEN (R480.2–4): the proof is checked and the session opens. -/
def Device.lnOpen (d : Device) (src k : Nat) (proof : List (BitVec 8)) : Nat × List (BitVec 8) × Device :=
  let s := d.ses k
  let key := Store.get (fun _ => []) d.ln.keys s.key
  let sid := leBytes s.sid 4
  if s.sid = 0 ∨ s.isOpen then (3, detail4 s.sid, d)
  else if proof = hmac key (label "LNF-H" ++ s.nd ++ s.nh ++ sid) then
    let ks := hmac key (label "LNF-S" ++ s.nh ++ s.nd ++ sid)
    let d1 := (d.pathClear k).setSes k fun s => { s with isOpen := true, ks := ks, at_ := d.clk.now }
    (0, hmac key (label "LNF-D" ++ s.nh ++ s.nd ++ sid), d1.raise QU_LN_EVENT_OPENED)
  else
    let d1 := (d.setSes k fun _ => {}).lnKeyFail src
    (12, detail4 s.key, d1.msg 13 0x30 5 (src % 2 ^ 32))

/-- HELLO as a command: session 0 in Q2. -/
def Device.lnHelloCmd (d : Device) (port src seq keyId : Nat) (nh : List (BitVec 8)) : Device :=
  d.lnRun 2 port 0 seq 0x01 fun d => d.lnHello src keyId nh

/-- OPEN as a command: the reply belongs to the session that it opens, or to none where it fails. -/
def Device.lnOpenCmd (d : Device) (port src k seq : Nat) (proof : List (BitVec 8)) : Device :=
  let run := fun (d : Device) =>
    let (st, pl, d1) := d.lnOpen src k proof
    (d1.lnSend port (if st = 0 then k else 0) 0x02 seq st pl).2
  match d.lnEntry 2 k 0x02 seq with
  | some (some i) =>
    let (ok, d1) := d.lnTake 2 i
    (if ok then run d1 else (d1.lnSend port 0 0x02 seq 9 (detail4 (d.qBase 2 + 32 * i))).2).lnDone 2 i
  | some none => d
  | none => if d.lnAnswers then run (d.lnDirect k) else d

/-- CLOSE (R482): the reply leaves under the session, which then closes. -/
def Device.lnCloseCmd (d : Device) (port k seq : Nat) : Device :=
  let run := fun (d : Device) => ((d.lnSend port k 0x03 seq 0 []).2).sesClose k
  match d.lnEntry 2 k 0x03 seq with
  | some (some i) =>
    let (ok, d1) := d.lnTake 2 i
    (if !ok then d1.lnReply port k 0x03 seq 9 (detail4 (d.qBase 2 + 32 * i))
     else if (d1.ses k).isOpen ∧ (d1.ses k).sid = d1.ln.asked.sid then run d1 else d1).lnDone 2 i
  | some none => d
  | none =>
    let (go, d1) := (d.lnDirect k).lnAdmit port k seq 0x03
    if go then run d1 else d1

/-- HANDSHAKE_TIMEOUT (R480.1): a handshake is pending for 1 s. -/
def Device.handshakeTimeout (d : Device) (k : Nat) : Device :=
  let s := d.ses k
  if s.sid ≠ 0 ∧ s.isOpen = false ∧ s.at_ + second ≤ d.clk.now then d.setSes k fun _ => {} else d

/-- SESSION_TIMEOUT (R482). -/
def Device.sessionTimeout (d : Device) (k : Nat) : Device :=
  let s := d.ses k
  if s.isOpen = true ∧ s.at_ + max 1 (d.get QU_LN_CTRL_SESSION_TMO) * second ≤ d.clk.now then d.sesClose k else d

/-! ### Register and memory access (R484) -/

/-- The Lanifer status of a bus code. -/
def busStatus (code : Nat) : Nat := if code = 0 then 0 else if code = 1 then 11 else if code = 2 then 8 else 9

/-- READ. -/
def Device.lnRead (d : Device) (k a : Nat) : Nat × List (BitVec 8) × Device :=
  let (v, c, d1) := d.busRead k a
  if c = 0 then (0, leBytes a 4 ++ leBytes v.toNat 4, d1) else (busStatus c, detail4 (if c = 1 then 0 else a), d1)

/-- WRITE. -/
def Device.lnWrite (d : Device) (k a : Nat) (v : BitVec 32) : Nat × List (BitVec 8) × Device :=
  let (c, d1) := d.busWrite k a v
  if c = 0 then (0, leBytes a 4, d1) else (busStatus c, detail4 a, d1)

/-- The region of R484 that an address lies in: 1 registers, 2 bulk memory, 3 the mapped window, 4 the open test space, 0
none. -/
def Device.lnRegion (d : Device) (a : Nat) : Nat :=
  if a < 0x1000000 then 1
  else if a < bulkEnd then 2
  else if 0x8000000 ≤ a ∧ a < 0x10000000 then if d.inTest a then 4 else 3
  else 0

/-- Does a block of `n` words lie wholly in one region? -/
def Device.lnBlockOk (d : Device) (a n : Nat) : Bool :=
  d.lnRegion a != 0 && d.lnRegion a == d.lnRegion (a + 4 * n - 4)

/-- Words read one by one in rising order: the words, the first unassigned and the first uncorrectable address, whether a
word was busy, and the block after the reads. -/
def Device.lnReads (d : Device) (k a : Nat) : Nat → List (BitVec 32) × Option Nat × Option Nat × Bool × Device
  | 0 => ([], none, none, false, d)
  | n + 1 =>
    let (v, c, d1) := d.busRead k a
    let (vs, un, bad, busy, d2) := d1.lnReads k (a + 4) n
    (v :: vs, if c = 2 then some a else un, if c = 3 then some a else bad, c == 1 || busy, d2)

/-- READ_BLOCK. -/
def Device.lnReadBlock (d : Device) (k a n : Nat) : Nat × List (BitVec 8) × Device :=
  if n = 0 ∨ 363 < n then (7, detail4 4, d)
  else if d.lnBlockOk a n = false then (7, detail4 0, d)
  else if a % 4 ≠ 0 then (8, detail4 a, d)
  else
    let (vs, un, bad, busy, d1) := d.lnReads k a n
    let data := leBytes a 4 ++ leBytes n 2 ++ leBytes 0 2 ++ leBytes d.stamp 8 ++ vs.flatMap (fun v => leBytes v.toNat 4)
    match un, bad with
    | some x, _ => (8, detail4 x ++ data, d1)
    | none, some x => (9, detail4 x ++ data, d1)
    | none, none => if busy then (11, detail4 0, d1) else (0, data, d1)

/-- Words written one by one in rising order: the first address that took no write, and the block after the writes. -/
def Device.lnWrites (d : Device) (k a : Nat) : List (BitVec 32) → Option Nat × Device
  | [] => (none, d)
  | v :: vs =>
    let (c, d1) := d.busWrite k a v
    let (un, d2) := d1.lnWrites k (a + 4) vs
    (if c = 0 then un else some a, d2)

/-- WRITE_BLOCK. -/
def Device.lnWriteBlock (d : Device) (k a : Nat) (vs : List (BitVec 32)) : Nat × List (BitVec 8) × Device :=
  let n := vs.length
  if n = 0 ∨ 365 < n then (7, detail4 4, d)
  else if d.lnBlockOk a n = false then (7, detail4 0, d)
  else if a % 4 ≠ 0 then (8, detail4 a, d)
  else
    let (un, d1) := d.lnWrites k a vs
    let data := leBytes a 4 ++ leBytes n 2
    match un with
    | some x => (8, detail4 x ++ data, d1)
    | none => (0, data, d1)

/-! ### Tables (R485) -/

/-- TABLE_LOAD. -/
def Device.lnTableLoad (d : Device) (i off : Nat) (bs : List (BitVec 8)) : Nat × List (BitVec 8) × Device :=
  match d.tblLoad i off bs with
  | (0, d1) => (0, [], d1)
  | (1, d1) => (11, detail4 0, d1)
  | (_, d1) => (7, detail4 (if tableCount ≤ i then 0 else 4), d1)

/-- TABLE_COMMIT. -/
def Device.lnTableCommit (d : Device) (i : Nat) : Nat × List (BitVec 8) × Device :=
  if tableCount ≤ i then (7, detail4 0, d)
  else
    match d.tblRequest i with
    | (.next, d1) => (0, [1], d1)
    | (.deferred, d1) => (0, [2], d1)
    | (.bad, d1) => (14, detail4 1, d1)
    | (.busy, d1) => (11, detail4 0, d1)

/-! ### MOVE and STOP (R486, R487) -/

/-- The limits that a MOVE may carry: FLAGS bit 1, LMASK and LIM[0] to LIM[7]. -/
structure MoveLim where
  on : Bool
  mask : Nat
  lims : Nat
  deriving DecidableEq, Repr

/-- LIM[i]. -/
def MoveLim.lim (m : MoveLim) (i : Nat) : Nat := bits m.lims (64 * i) 64

/-- The masked limits written to an axis's shadow registers. -/
def Device.limAxis (d : Device) (k : Nat) (m : MoveLim) : Device :=
  (onesOf 8 m.mask).foldl (fun d i => d.wr64 (AX_PL_VMAX k + 8 * i) (m.lim i)) d

/-- The masked limits written to a convoy's shadow registers. -/
def Device.limConvoy (d : Device) (c : Nat) (m : MoveLim) : Device :=
  (onesOf 8 m.mask).foldl (fun d i =>
    if i = 0 then d.wr64 (GL_CY_BLEND c) (m.lim 0)
    else if i = 7 then d.put (GL_CY_FEED_FEED c) (m.lim 7)
    else d.wr64 (GL_CY_VMAX c + 8 * (i - 1)) (m.lim i)) d

/-- The reply to an accepted MOVE: STAMP, GEN and ARRIVE. -/
def Device.moveReply (d : Device) (gen arrive : Nat) : List (BitVec 8) :=
  leBytes d.stamp 8 ++ leBytes gen 2 ++ leBytes 0 2 ++ leBytes arrive 4

/-- A MOVE of an axis (R486): LIMITS at the rank of the operation that carries it (R48), then the operation; ARRIVE reads 0
for a jog. -/
def Device.lnMoveAxis (d : Device) (k rank : Nat) (m : MoveLim) (op : Device → Res) : Nat × List (BitVec 8) × Device :=
  if 191 < k then (7, detail4 1, d)
  else
    let (c0, d1) := if m.on then (d.limAxis k m).plLimits k rank else (0, d)
    if c0 ≠ 0 then (14, detail4 c0, d1)
    else
      let (c, d2) := op d1
      if c ≠ 0 then (14, detail4 c, d2)
      else
        let arrive := if (d2.pl k).mode = 2 then 0 else d2.rdN (AX_PL_ARRIVE k)
        (0, d2.moveReply ((d2.pl k).gen % 65536) arrive, d2)

/-- A MOVE of a convoy. -/
def Device.lnMoveConvoy (d : Device) (c : Nat) (m : MoveLim) (op : Device → Res) : Nat × List (BitVec 8) × Device :=
  if 31 < c then (7, detail4 1, d)
  else
    let (c0, d1) := if m.on then (d.limConvoy c m).cyLimits c else (0, d)
    if c0 ≠ 0 then (14, detail4 (c0 + 256), d1)
    else
      let (c1, d2) := op d1
      if c1 ≠ 0 then (14, detail4 (c1 + 256), d2)
      else
        let gen := match d2.cyMembers c with
          | [] => 0
          | x :: _ => (d2.pl x.2).gen % 65536
        (0, d2.moveReply gen 0, d2)

/-- OP GO: the target is VALUE, or with RELATIVE the committed position at acceptance plus VALUE. -/
def Device.lnGo (d : Device) (k : Nat) (rel : Bool) (m : MoveLim) (v : Int) : Nat × List (BitVec 8) × Device :=
  d.lnMoveAxis k 8 m fun d => d.plGo k (if rel then toS 64 (ofS 64 ((d.pl k).cur.posOut + v)) else v)

/-- OP SEGMENTS: one to six path segment records, taken all or none. -/
def Device.lnSegments (d : Device) (c : Nat) (m : MoveLim) (bs : List (BitVec 8)) : Nat × List (BitVec 8) × Device :=
  let n := bs.length / 208
  if n = 0 ∨ 6 < n then (7, detail4 6, d)
  else d.lnMoveConvoy c m fun d => d.cySegments c ((List.range n).map (fun i => segOf (slice bs (208 * i) 208)))

/-- A stop operation of the planner by its AX_PL_CMD code: 4 HOLD, 6 STOP, 7 QSTOP. -/
def Device.plStopOp (d : Device) (op k : Nat) : Res := if op = 4 then d.plHold k else if op = 6 then d.plStop k else d.plQstop k

/-- A stop operation of a convoy. -/
def Device.cyStopOp (d : Device) (op c : Nat) : Res := if op = 4 then d.cyHold c else if op = 6 then d.cyStop c else d.cyQstop c

/-- STOP (R487): TGT 0 an axis, 1 a convoy, 2 every axis and convoy that moves or holds. -/
def Device.lnStop (d : Device) (tgt id op : Nat) : Nat × List (BitVec 8) × Device :=
  if tgt = 0 then
    if 191 < id then (7, detail4 1, d)
    else let (c, d1) := d.plStopOp op id; if c = 0 then (0, [], d1) else (14, detail4 c, d1)
  else if tgt = 1 then
    if 31 < id then (7, detail4 1, d)
    else let (c, d1) := d.cyStopOp op id; if c = 0 then (0, [], d1) else (14, detail4 (c + 256), d1)
  else if tgt = 2 then
    let axes := (List.range 192).filter (fun k => [plMOVING, plJOGGING, plHOLDING, plHELD].contains (d.plState k))
    let cys := (List.range 32).filter (fun c => [cyRUNNING, cyHOLDING, cyHELD].contains (d.cyState c))
    let d1 := axes.foldl (fun d k => (d.plStopOp op k).2) d
    let d2 := cys.foldl (fun d c => (d.cyStopOp op c).2) d1
    (0, leBytes (axes.length + cys.length) 2, d2)
  else (7, detail4 0, d)

/-! ### ITIN (R488) -/

/-- ITIN: bits of IT_FLAGS set and then cleared, then CODE as a write of IT_CMD. -/
def Device.lnItin (d : Device) (k code state : Nat) (atState : Bool) (set clr : BitVec 32) : Nat × List (BitVec 8) × Device :=
  if 63 < k then (7, detail4 0, d)
  else
    let d1 := d.wr (IT_FLAGS k) ((d.rd (IT_FLAGS k) ||| set) &&& ~~~clr)
    let old := d1.get (IT_STATUS_REFUSE_LAST k)
    let d2 := (d1.put (IT_STATUS_REFUSE_LAST k) 0).itCmdWrite k (code + b2n atState * 16 + state % 256 * 256)
    let c := d2.get (IT_STATUS_REFUSE_LAST k)
    if c = 0 then (0, [], d2.put (IT_STATUS_REFUSE_LAST k) old) else (14, detail4 c, d2)

/-! ### Queues (R489, R490) -/

/-- An outbound entry as PULL returns it: its descriptor and its payload padded to 8 bytes; one that cannot be read has ERR
set and a payload of zeros (R494). -/
def Device.pullEntry (d : Device) (q i : Nat) : List (BitVec 8) × Device :=
  let (e, d1) := d.qRead q i
  let raw := d.peek (d.qBase q + 32 * i) 32
  let pad := fun (l : List (BitVec 8)) => l ++ List.replicate (cdiv l.length 8 * 8 - l.length) (0 : BitVec 8)
  if e.ok then (raw ++ pad e.payload, d1)
  else ((raw.take 1).map (· ||| 0x40) ++ raw.drop 1 ++ pad (List.replicate e.len 0), d1)

/-- Entries taken while they fit in the room of a reply and MAX is not reached. -/
def Device.pullTake (d : Device) (q room : Nat) : Nat → List Nat → List (List (BitVec 8) × Nat) × Device
  | 0, _ => ([], d)
  | _, [] => ([], d)
  | n + 1, i :: is =>
    let (bs, d1) := d.pullEntry q i
    if room < bs.length then ([], d)
    else
      let (r, d2) := d1.pullTake q (room - bs.length) n is
      ((bs, d.peekN (d.qBase q + 32 * i + 4) 4) :: r, d2)

/-- PULL (R489). -/
def Device.lnPull (d : Device) (k q : Nat) (claim : Bool) (mx from_ : Nat) : Nat × List (BitVec 8) × Device :=
  if claim = true ∧ k = 0 then (6, detail4 0, d)
  else if !pullQueues.contains q then (7, detail4 0, d)
  else if mx = 0 ∨ 64 < mx then (7, detail4 2, d)
  else if claim = true ∧ d.get (QU_STATUS_CLAIM q) ≠ 0 ∧ d.get (QU_STATUS_CLAIM q) ≠ k then (11, detail4 0, d)
  else
    let d0 := if claim then d.put (QU_STATUS_CLAIM q) k else d
    let seqOf := fun (i : Nat) => d.peekN (d.qBase q + 32 * i + 4) 4
    let es := (d0.hostEntries q).filter (fun i =>
      decide (from_ = 0xFFFFFFFF) || decide ((seqOf i + 2 ^ 32 - from_) % 2 ^ 32 < 2 ^ 31))
    let (r, d1) := d0.pullTake q (1468 - 8) mx es
    let next := match r.getLast? with
      | some x => x.2 + 1
      | none => if from_ = 0xFFFFFFFF then d.rdN (QU_SEQ q) else from_
    (0, leBytes r.length 2 ++ leBytes 0 2 ++ leBytes next 4 ++ r.flatMap (·.1), d1)

/-- ACK (R489): the host's entries up to UPTO are freed; a recorder record frees its buffer (R449). -/
def Device.lnAck (d : Device) (k q upto : Nat) : Nat × List (BitVec 8) × Device :=
  if !pullQueues.contains q then (7, detail4 0, d)
  else if d.get (QU_STATUS_CLAIM q) ≠ k then (11, detail4 0, d)
  else
    let done := (d.hostEntries q).filter (fun i => decide ((upto + 2 ^ 32 - d.peekN (d.qBase q + 32 * i + 4) 4) % 2 ^ 32 < 2 ^ 31))
    let free1 := fun (d : Device) (i : Nat) => let d1 := d.qFree q i; if q = 6 then d1.rcAcked i else d1
    (0, [], done.foldl free1 d)

/-- The engine that a Q15 target names: the engine itself, or the one that serves the axis (R490, R497). -/
def Device.mailEngine (d : Device) (target : Nat) : Option Nat :=
  if bit target 8 then (if target % 256 < 28 then some (target % 256) else none)
  else (d.slotOf (target % 256)).map (·.1)

/-- PUSH (R490). -/
def Device.lnPush (d : Device) (q target : Nat) (pl : List (BitVec 8)) : Nat × List (BitVec 8) × Device :=
  if !([9, 10, 13, 15].contains q) then (7, detail4 0, d)
  else if (q = 9 ∨ q = 10) ∧ pl.length ≠ 72 then (7, detail4 2, d)
  else if q = 15 ∧ pl.length ≠ 16 then (7, detail4 2, d)
  else if q = 13 ∧ (pl.length < 8 ∨ 1032 < pl.length ∨ pl.length % 8 ≠ 0) then (7, detail4 2, d)
  else if q ≠ 15 ∧ target ≠ 0 then (7, detail4 4, d)
  else if d.qFull q then (10, detail4 q, d)
  else
    let seq := d.rdN (QU_SEQ q)
    if q = 15 then
      match d.mailEngine target with
      | some e =>
        if d.role e = rlACTIVE ∧ bit (d.get (DV_EV_EV_EN e)) 1 = true then
          let d1 := d.qAddAny 15 (target % 512) 0 pl
          (0, leBytes seq 4, d1.setLn fun l => { l with mailIn := l.mailIn ++ [seq] })
        else (14, detail4 1, d)
      | none => (14, detail4 1, d)
    else (0, leBytes seq 4, d.qAddAny q 0 0 pl)

/-- The oldest host entry of Q15 for engine `e` at a boundary. -/
def Device.mailFor (d : Device) (e : Nat) : Option Nat :=
  (d.qLive 15).find? (fun i =>
    let a := d.qBase 15 + 32 * i
    d.ln.mailIn.contains (d.peekN (a + 4) 4) && d.mailEngine (d.peekN (a + 8) 4) == some e)

/-- The copy of at most one host Q15 entry per engine into MBX_IN at a boundary (R497). -/
def Device.mailBoundary (d : Device) : Device :=
  (List.range 28).foldl (fun (d : Device) e =>
    match d.mailFor e with
    | none => d
    | some i =>
      let a := d.qBase 15 + 32 * i
      let (en, d1) := d.qRead 15 i
      let ws := (List.range 8).map (fun j => BitVec.ofNat 32 (leAt (d.peek a 32) (4 * j) 4))
      let d2 := d1.setLn fun l => { l with mailIn := l.mailIn.filter (· != en.seq) }
      let d3 := if en.ok then ((ws.zip (List.range 8)).foldl (fun (d : Device) x => d.setDm e (0x3F08 + x.2) x.1) d2).engEvent e 1 else d2
      d3.qFree 15 i) d

/-! ### Flash (R491) -/

/-- FLASH_WRITE. -/
def Device.lnFlashWrite (d : Device) (p a : Nat) (bs : List (BitVec 8)) : Nat × List (BitVec 8) × Device :=
  if 1 < p then (7, detail4 0, d)
  else let (c, d1) := d.flWrite p a bs; if c = 0 then (0, [], d1) else (14, detail4 c, d1)

/-- FLASH_ERASE. -/
def Device.lnFlashErase (d : Device) (p a n : Nat) : Nat × List (BitVec 8) × Device :=
  if 1 < p then (7, detail4 0, d)
  else let (c, d1) := d.flEraseOp p a n; if c = 0 then (0, [], d1) else (14, detail4 c, d1)

/-! ### Frames (R477, R478, R483) -/

/-- The inbound queue of a command (R483). -/
def lnQueue (cmd : Nat) (pl : List (BitVec 8)) : Nat :=
  if cmd = 0x31 then 0
  else if cmd = 0x38 then if leAt pl 1 1 = 2 ∨ leAt pl 1 1 = 8 then 0 else 1
  else if cmd = 0x30 then 1
  else if cmd = 0x12 ∨ cmd = 0x13 ∨ cmd = 0x20 ∨ cmd = 0x50 ∨ cmd = 0x51 then 3
  else 2

/-- Does LEN fit the command's layout (R478, R480, R484–R491)? -/
def lnLenOk (cmd : Nat) (pl : List (BitVec 8)) : Bool :=
  let n := pl.length
  match cmd with
  | 0x01 => n == 20
  | 0x02 => n == 32
  | 0x03 => n == 0
  | 0x10 => n == 4
  | 0x11 => n == 8
  | 0x12 => n == 8
  | 0x13 => decide (8 ≤ n) && n == 8 + 4 * leAt pl 4 2
  | 0x20 => decide (8 ≤ n)
  | 0x21 => n == 4
  | 0x30 => decide (0x50 ≤ n) && n == 0x50 + 208 * (if leAt pl 2 1 = 3 then leAt pl 6 2 else 0)
  | 0x31 => n == 4
  | 0x38 => n == 12
  | 0x40 => n == 8
  | 0x41 => n == 8
  | 0x42 => decide (8 ≤ n) && n == 8 + leAt pl 2 2
  | 0x50 => decide (8 ≤ n)
  | 0x51 => n == 12
  | _ => true

/-- The offset of a field outside its stated range, as far as the request itself shows it (PARAM of R478). -/
def lnParam (cmd : Nat) (pl : List (BitVec 8)) : Option Nat :=
  let b := fun i => leAt pl i 1
  match cmd with
  | 0x12 => if leAt pl 4 2 = 0 ∨ 363 < leAt pl 4 2 then some 4 else none
  | 0x13 => if leAt pl 4 2 = 0 ∨ 365 < leAt pl 4 2 then some 4 else none
  | 0x20 => if tableCount ≤ leAt pl 0 2 then some 0 else none
  | 0x21 => if tableCount ≤ leAt pl 0 2 then some 0 else none
  | 0x30 =>
    let op := b 2
    if 1 < b 0 then some 0
    else if (b 0 = 0 ∧ 191 < b 1) ∨ (b 0 = 1 ∧ 31 < b 1) then some 1
    else if op = 0 ∨ 5 < op ∨ (b 0 = 1 ∧ (op = 1 ∨ op = 2 ∨ op = 4)) ∨ (b 0 = 0 ∧ op = 3) then some 2
    else if 3 < b 3 then some 3
    else if (op = 3 ∧ (leAt pl 6 2 = 0 ∨ 6 < leAt pl 6 2)) ∨ (op ≠ 3 ∧ leAt pl 6 2 ≠ 0) then some 6
    else none
  | 0x31 =>
    if 2 < b 0 then some 0
    else if (b 0 = 0 ∧ 191 < b 1) ∨ (b 0 = 1 ∧ 31 < b 1) then some 1
    else if b 2 ≠ 4 ∧ b 2 ≠ 6 ∧ b 2 ≠ 7 then some 2
    else none
  | 0x38 =>
    if 63 < b 0 then some 0
    else if !([0, 1, 2, 4, 8].contains (b 1)) then some 1
    else if 1 < b 3 then some 3
    else none
  | 0x40 => if !pullQueues.contains (b 0) then some 0 else if leAt pl 2 2 = 0 ∨ 64 < leAt pl 2 2 then some 2 else none
  | 0x41 => if !pullQueues.contains (b 0) then some 0 else none
  | 0x42 => if !([9, 10, 13, 15].contains (b 0)) then some 0 else none
  | 0x50 => if 1 < b 0 then some 0 else none
  | 0x51 => if 1 < b 0 then some 0 else none
  | _ => none

/-- A frame whose MAC fails (R478): no reply; counted; NET_AUTH at the first failure of a run from one source. -/
def Device.lnBadMac (d : Device) (src : Nat) (inj : Option Nat := none) : Device :=
  let d1 := ((d.incSat QU_LN_CNT_BAD_MAC).raise QU_LN_EVENT_AUTH_FAIL).setLn fun l =>
    { l with badMac := src :: l.badMac.filter (· != src) }
  if d.ln.badMac.contains src && inj.isNone then d1 else d1.msg 13 0x30 5 (inj.getD (src % 2 ^ 32)) inj.isSome

/-- The checks of R478 that follow the MAC, and the request's place on its inbound queue. -/
def Device.lnEnqueue (d : Device) (port k cmd seq : Nat) (pl : List (BitVec 8)) : Device :=
  let answer := fun (d : Device) (st n : Nat) => if (d.ses k).isOpen then d.lnReply port k cmd seq st (detail4 n)
    else (d.lnSend port 0 cmd seq st (detail4 n)).2
  if (lnNeed cmd).isNone then answer d 5 cmd
  else
    let st := d.lnSession k cmd
    if st ≠ 0 then answer d st (if st = 3 then (d.ses k).sid else 0)
    else if cmd = 0x40 ∧ k = 0 ∧ bit (leAt pl 1 1) 0 = true then answer d 6 0
    else
      match lnParam cmd pl with
      | some off => answer d 7 off
      | none =>
        let q := lnQueue cmd pl
        if d.qFull q then answer d 10 q
        else (d.setLn fun l => { l with waits := Store.set (fun _ => {}) l.waits (4096 * q + d.get (QU_PROD_INDEX q)) l.asked }).qAdd
          q cmd (k + port * 256) seq pl

/-- A Lanifer frame that reaches D (R477, R478): `h` is the Ethernet payload. -/
def Device.lnFrame (d0 : Device) (port src : Nat) (tag : Option Nat) (h : List (BitVec 8)) : Device :=
  let cmd := leAt h 2 1
  let sid := leAt h 4 4
  let seq := leAt h 8 4
  let len := leAt h 12 2
  let pl := slice h 32 len
  let d := d0.setLn fun l => { l with asked := ⟨src, tag, sid⟩ }
  if h.length < 32 then d0
  else if leAt h 0 1 ≠ 1 then (d.lnSend port 0 cmd seq 1 (detail4 (leAt h 0 1))).2
  else if 1468 < len ∨ h.length < 32 + len ∨ lnLenOk cmd pl = false then (d.lnSend port 0 cmd seq 2 (detail4 len)).2
  else
    match if sid = 0 then some 0 else [1, 2, 3, 4].find? (fun k => (d.ses k).sid == sid) with
    | none => (d.lnSend port 0 cmd seq 3 (detail4 sid)).2
    | some k =>
      if k ≠ 0 ∧ (d.ses k).isOpen = true then
        let head := slice h 0 16 ++ List.replicate 16 0
        if lnMac (d.ses k).ks head pl ≠ slice h 16 16 then d.lnBadMac src
        else
          match d.injTake 13 0x30 5 with
          | some (dt, d1) => d1.lnBadMac src (some dt)
          | none =>
            let d0 := d.setLn fun l => { l with badMac := l.badMac.filter (· != src) }
            let (go, d1) := d0.lnSeq port k cmd seq
            if go then d1.lnEnqueue port k cmd seq pl else d1
      else d.lnEnqueue port k cmd seq pl

/-- FRAME_RECEIVE (R451, R477, R478): the switch's part, and a Lanifer frame's checks. -/
def Device.frameReceive (d : Device) (p : Nat) (fcs : Bool) (fr : List (BitVec 8)) : Device :=
  let d1 := d.switchFrame p fcs fr
  match d.laniferFrame p fcs fr with
  | none => d1
  | some (src, h) =>
    let d2 := d1.detect 13 0x30 6 false 0 id
    if d2.lnAnswers then d2.lnFrame p src (vlanTag fr) h else d2

end Sys2Proof.Machine
end

