-- ==== Sys2Proof/Machine/Round.lean ====
section
/-! DEFINITION. The itinerary round (R302–R312): what it sees, the conditions, the actions and the order of both. -/

namespace Sys2Proof.Machine

/-! ### Conditions (R302, R303) -/

/-- An axis flag of R303 as instance `k` sees it, from the snapshot of the boundary (R308). -/
def Device.axisFlag (d : Device) (k a f : Nat) : Bool :=
  let mv := d.itMoveOf k a
  match f with
  | 0 => d.get (AX_PL_STATUS_STATE a) == plIDLE
  | 1 => (mv.map (·.done)).getD false
  | 2 => (mv.map (·.lost)).getD false
  | 3 => d.get (AX_PL_STATUS_STATE a) == plHELD
  | 4 => d.get (AX_STATUS_STATE a) == axRUN
  | 5 => d.get (AX_STATUS_STATE a) == axOFF
  | 6 => d.has (AX_FB_STATUS_REF_VALID a)
  | 7 => d.has (AX_FB_STATUS_STALL a)
  | 8 => d.has (AX_FB_STATUS_LOST a)
  | _ => false

/-- A condition of instance `k` before NOT: its word 0 and its VALUE (R302). -/
def Device.condHolds (d : Device) (k w0 v : Nat) : Bool :=
  let op := bits w0 16 16
  let i := d.itin k
  match bits w0 0 6 with
  | 1 => true
  | 2 => d.axisFlag k (bits op 0 8) (bits op 8 5)
  | 3 =>
    let (lv, n) := d.itInput (bits op 12 4) (bits op 0 12)
    lv == bit v 0 && decide (max 1 (bits v 8 8) ≤ n)
  | 4 => i.evs.any (fun e => e.kind == 4 && e.id == op && decide (e.arg = (b2n (bit v 0) : Nat)))
  | 5 =>
    if op = 0 then decide (v ≤ d.rdN (IT_STIMER k))
    else if op = 1 then d.get (IT_TIMER_T0 k) == 0 else d.get (IT_TIMER_T1 k) == 0
  | 6 => i.evs.any (fun e => e.kind == 6 && e.id == op % 128 && andN (e.arg.toNat % 256) (bits v 8 8) == v % 256)
  | 7 =>
    match i.arms.find? (fun a => a.ms == op % 16) with
    | none => false
    | some a => if v % 8 = 5 then a.kinds.any (fun x => x != 1) else a.kinds.contains (v % 8)
  | 8 => bit i.flags.toNat (op % 32) == bit v 0
  | 9 => bit (d.regNow v).toNat (op % 32) == bit op 5
  | 10 => i.evs.any (fun e => e.kind == 10 && e.id == op % 16)
  | 11 => d.itLive (op % 64) && (d.itin (op % 64)).starting.isNone && d.get (IT_STATUS_STATE (op % 64)) == v % 256
  | _ => false

/-- The state that the first true condition of the present state leads to (R309); an unused slot leads nowhere. -/
def Device.itSelect (d : Device) (k : Nat) : Option Nat :=
  let t := d.itTable k
  let s := d.get (IT_STATUS_STATE k)
  let c := (List.range 4).find? (fun c =>
    let (w0, v) := itCond t s c
    bits w0 0 6 != 0 && (d.condHolds k w0 v != bit w0 6))
  c.map (fun c => bits (itCond t s c).1 8 8)

/-! ### Actions (R304–R307) -/

/-- ARM (R306): one entry appended to a milestone's list, as a refill record of COUNT 1. -/
def Device.itArm (d : Device) (k state m arg v : Nat) : Option Nat × Device :=
  let seq := (d.ms m).nextSeq
  let rec0 := leBytes (m + 256 + b2n (bit arg 3) * 2 ^ 16) 4 ++ leBytes 0 4 ++ leBytes v 8 ++
    leBytes (arg % 8 + (k * 256 + state) % 65536 * 2 ^ 16) 4 ++ leBytes 0 4
  let old := d.get (MS_STATUS_REFUSE_LAST m)
  let d1 := (d.put (MS_STATUS_REFUSE_LAST m) 0).msRefill rec0
  let code := d1.get (MS_STATUS_REFUSE_LAST m)
  if code ≠ 0 then (some code, d1)
  else
    let d2 := d1.put (MS_STATUS_REFUSE_LAST m) old
    (none, d2.setItin k fun i => { i with arms := i.arms.filter (fun a => a.ms != m) ++ [⟨m, seq, []⟩] })

/-- A WRITE action (R307). -/
def Device.itWrite (d : Device) (a : Nat) (v : BitVec 32) : Option Nat × Device :=
  if 0x1000000 ≤ a then (some 0, d)
  else
    let (c, code, d1) := d.judgedWrite pathRounds a v
    if c ≠ 0 then (some 0, d1) else if code ≠ 0 then (some code, d1) else (none, d1)

/-- A planner's answer as an action's: the refusal code, if it refused. -/
def ofRes (r : Res) : Option Nat × Device := (if r.1 = 0 then none else some r.1, r.2)

/-- One action of instance `k` in a state (R304): the target's refusal code where it is refused, and the block after. -/
def Device.itAct (d : Device) (k state c v : Nat) : Option Nat × Device :=
  let obj := bits c 8 8
  let arg := bits c 16 16
  let s := toS 64 v
  match bits c 0 5 with
  | 1 =>
    let to_ := if bit arg 0 then toS 64 (ofS 64 ((d.pl obj).cur.posOut + s)) else s
    ofRes (d.itMove k obj false to_)
  | 2 => ofRes (d.itMove k obj true s)
  | 3 => ofRes (d.itPlan k obj (arg % 16))
  | 4 => if d.fioMode obj ≠ 2 then (some 1, d.fioRefuse 1) else (none, d.fioCommand obj (bit v 0))
  | 5 => d.itWrite (v % 2 ^ 32) (BitVec.ofNat 32 (v / 2 ^ 32))
  | 6 =>
    if d.qFull (9 + obj) then (some 0, d)
    else (none, d.qAddAny (9 + obj) 0 0 (slice (d.itTable k) (itFrameAt (d.itTable k) arg) 72))
  | 7 => d.itArm k state obj arg v
  | 8 => (none, d.itEvent k 4 state 0 (d.clk.beat - 1) v arg)
  | 9 =>
    if tableCount ≤ arg then (some 0, d)
    else
      match d.tblRequest arg with
      | (.bad, d1) => (some 1, d1)
      | (.busy, d1) => (some 0, d1)
      | (_, d1) => (none, d1)
  | 10 => (none, if obj = 0 then d.put (IT_TIMER_T0 k) v else d.put (IT_TIMER_T1 k) v)
  | 11 => (none, d.put ⟨if bit obj 5 then IT_FLAGS k else IT_OUT k, obj % 32, 1⟩ (arg % 2))
  | 12 =>
    let (ok, d1) := d.setposTo obj s
    (if ok then none else some 0, d1)
  | _ => (none, d)

/-- The entry actions of a state in record order (R304, R307): the first refused one without TOLERATE ends the run in
FAULT, and no later one is carried out. -/
def Device.itActions (d : Device) (k state first : Nat) : List Nat → Device
  | [] => d
  | j :: js =>
    if d.itRun k ≠ 1 then d
    else
      let (c, v) := itAction (d.itTable k) (first + j)
      match d.itAct k state c v with
      | (none, d1) => d1.itActions k state first js
      | (some code, d1) => if bit c 5 then d1.itActions k state first js else d1.itFail k 1 code j

/-- A transition of instance `k` to a state (R309): the state timer and the since-entry records cleared, then the entry
actions, then the end of the run where the state says so (R301). -/
def Device.itEnter (d : Device) (k state : Nat) : Device :=
  let d1 := (d.put (IT_STATUS_STATE k) state).wrN (IT_STIMER k) 0
  let d2 := (d1.wrN (IT_TRANS k) (d.rdN (IT_TRANS k) + 1)).setItin k fun i => { i with evs := [], starting := none, entered := true }
  match d.itTemplate k with
  | some t => d2.hmCheck k t
  | none =>
    let c := itStateCtrl (d.itTable k) state
    let d3 := d2.itActions k state (bits c 0 9) (List.range (bits c 13 4))
    if d3.itRun k ≠ 1 then d3
    else if bit c 18 then d3.itFail k 2
    else if bit c 17 then d3.itEnd k 3 (d.clk.beat - 1)
    else d3

/-! ### The round (R308–R311) -/

/-- An event of an entry that an instance has armed (R302, R306); it counts in every run state, until the next ARM. -/
def Device.itArmSee (d : Device) (k : Nat) (e : ItEv) : Device :=
  let seq := e.arg.toNat / 8
  let add := fun (a : ItArm) => if a.ms = e.id ∧ a.seq = seq then { a with kinds := a.kinds ++ [e.arg.toNat % 8] } else a
  if e.kind = 7 then d.setItin k fun i => { i with arms := i.arms.map add } else d

/-- What a running or paused instance sees of an event that no earlier round has seen (R302, R311, R318). -/
def Device.itSee (d : Device) (k : Nat) (e : ItEv) : Device :=
  if e.kind = 6 ∧ e.arg.toNat / 256 ≠ k then d
  else
    let d1 := d.setItin k fun i => { i with evs := i.evs ++ [e] }
    if e.kind = 20 ∧ e.id = d.get (IT_HM_OPT_ZPORT k) then
      d1.setHome k fun h => { h with z := some (h.z.getD e.arg) }
    else if e.kind = 21 ∧ e.id = d.get (IT_HM_SEL_AXIS k) then d1.setHome k fun h => { h with warn := true }
    else d1

/-- The events that the round sees reach every instance that runs or is paused, and the latest ARMs of all (R302, R308,
R312). -/
def Device.itDeliver (d : Device) (evs : List ItEv) : Device :=
  (List.range 64).foldl (fun (d : Device) k =>
    let d1 := evs.foldl (fun d e => d.itArmSee k e) d
    if d.itLive k then evs.foldl (fun d e => d.itSee k e) d1 else d1) d

/-- The CAN frames routed to itineraries that the round has seen are acknowledged (R311). -/
def Device.itFreeFrames (d : Device) (evs : List ItEv) : Device :=
  [0, 1].foldl (fun (d : Device) b =>
    let n := (evs.filter (fun e => e.kind == 6 && e.id % 2 == b)).length
    let mine := (d.qLive (11 + b)).filter (fun i => d.peekN (d.qBase (11 + b) + 32 * i + 8) 1 == 1)
    (mine.take n).foldl (fun d i => d.qFree (11 + b) i) d) d

/-- The timers at the end of an instance's part of the round (R309.4). -/
def Device.itTimers (d : Device) (k : Nat) : Device :=
  let d0 := d.wrN (IT_ROUNDS k) (d.rdN (IT_ROUNDS k) + 1)
  if d0.itRun k ≠ 1 then d0
  else
    let d1 := d0.wrN (IT_STIMER k) (satU 32 (d.rdN (IT_STIMER k) + 1))
    (d1.put (IT_TIMER_T0 k) (d.get (IT_TIMER_T0 k) - 1)).put (IT_TIMER_T1 k) (d.get (IT_TIMER_T1 k) - 1)

/-- One RUNNING instance in the round (R309); `sel` is what its conditions selected on the round's snapshot (R310). -/
def Device.itTreat (d : Device) (k : Nat) (sel : Option Nat) : Device :=
  match d.injTake 9 k 1 with
  | some (dt, d1) => d1.itEnd k 4 (d.clk.beat - 1) (dt / 2 ^ 24) 0 (bits dt 8 4) (some dt)
  | none =>
    let i := d.itin k
    let stay := d.setItin k fun i => { i with entered := false }
    let d1 :=
      match i.starting, d.itTemplate k with
      | some s, _ => d.itEnter k s
      | none, some t => stay.hmStep k t
      | none, none =>
        if i.entered then stay
        else match sel with
          | some s => d.itEnter k s
          | none => stay
    d1.itTimers k

/-- The commands written while the round ran (R312). -/
def Device.itLater (d : Device) : Device :=
  d.it.later.foldl (fun d c => d.itCmdWrite c.1 c.2) { d with it := { d.it with inRound := false, later := [] } }

/-- IT_ROUND: the tick at which the round completed, and the latest such tick of the interval. -/
def Device.itShowRound (d : Device) : Device :=
  let t := d.clk.tick % 65536
  d.wrN IT_ROUND (t + max t (d.rdN IT_ROUND / 65536) * 65536)

/-- ROUND (R308): the round of the beat before the present one, once in a beat and before tick 400. -/
def Device.round (d : Device) : Device :=
  if d.clk.running = false ∨ d.clk.beat = 0 ∨ 400 ≤ d.clk.tick ∨ d.it.lastRound = some d.clk.beat then d
  else
    let seen := d.it.evs.filter (fun e => decide (e.beat < d.clk.beat))
    let rest := d.it.evs.filter (fun e => !decide (e.beat < d.clk.beat))
    let d1 := { d with it := { d.it with evs := rest, lastRound := some d.clk.beat, inRound := true } }
    let d2 := (d1.itDeliver seen).itFreeFrames seen
    let live := (List.range 64).filter (fun k => d2.itRun k == 1)
    let sel := live.map (fun k => (k, d2.itSelect k))
    let d3 := sel.foldl (fun (d : Device) x => if d.itRun x.1 = 1 then d.itTreat x.1 x.2 else d) d2
    d3.itLater.itShowRound

end Sys2Proof.Machine
end

