-- ==== Sys2Proof/Machine/Beat.lean ====
section
/-! DEFINITION. The beat (R14–R34): the passing of ticks, the three phases of a beat, overruns, the intervals of TB_SLACK and
the start of the beat scheduler (R15, R530). -/

namespace Sys2Proof.Machine

/-- The clock changed. -/
def Device.setClk (d : Device) (f : Clock → Clock) : Device := { d with clk := f d.clk }

/-! ### Ticks -/

/-- `n` ticks pass within the beat: the step generators run, and detectors that watch every tick take their injections. -/
def Device.tickRun (d : Device) (n : Nat) : Device :=
  if n = 0 then d
  else
    let d1 := (d.still fun d => d.genAdvance n).setClk fun c =>
      { c with now := c.now + n, tick := if c.running then c.tick + n else c.tick }
    d1.still fun d => d.tripInject.refInject.engTicks.copyTick

/-- The messages that have waited for 64 ticks are taken (R352), at most `n` of them. -/
def Device.lgDue (d : Device) : Nat → Device
  | 0 => d
  | n + 1 =>
    match d.ledger.waiting with
    | m :: _ => if m.at_ + 64 ≤ d.clk.now then (d.still Device.lgTake).lgDue n else d
    | [] => d

/-- Up to `n` ticks pass, until a message sent at tick `at_` of `Clock.now` has waited for 64 ticks and is taken (R352);
how many ticks are left. -/
def Device.tickUntil (d : Device) (n at_ : Nat) : Nat × Device :=
  let k := min n (at_ + 64 - d.clk.now)
  let d1 := d.tickRun k
  (n - k, d1.lgDue d1.ledger.waiting.length)

/-- `n` ticks pass within the beat; the ledger takes every message within 64 ticks of its sending (R352). -/
def Device.ticksOn (d : Device) (n : Nat) : Device :=
  let x := d.ledger.waiting.foldl (fun (x : Nat × Device) m => x.2.tickUntil x.1 m.at_) (n, d)
  let d1 := x.2.tickRun x.1
  d1.lgDue d1.ledger.waiting.length

/-- `n` ticks pass within the beat; the recorder takes a frame at each of its instants (R439, R443). -/
def Device.ticksPass (d : Device) (n : Nat) : Device :=
  let d1 := (d.rcUpTo (d.clk.tick + n)).foldl (fun (d : Device) t => (d.ticksOn (t - d.clk.tick)).still Device.recorderFrame) d
  d1.ticksOn (n - (d1.clk.now - d.clk.now))

/-- The ticks up to tick `t` of the beat pass. -/
def Device.passTo (d : Device) (t : Nat) : Device := d.ticksPass (t - d.clk.tick)

/-- RECORDER_FRAME (R439): the frame of the latest instant, or the ticks up to the next instant of the beat, where the
recorder takes its frame; at a boundary the boundary takes it. -/
def Device.recorderNow (d : Device) : Device :=
  if !d.rcRuns then d
  else if d.rcFresh.isSome then d.still Device.recorderFrame
  else match d.rcUpTo d.clk.curLen with
    | t :: _ => d.passTo t
    | [] => d

/-- One idle tick: the beat's last tick passes only with the boundary. -/
def Device.idleTick (d : Device) : Device :=
  if d.clk.running ∧ d.clk.curLen ≤ d.clk.tick + 1 then d else d.ticksPass 1

/-! ### The dispatch deadline (R22, R23, R25) -/

/-- The axes of an engine with their slots. -/
def Device.engSlots (d : Device) (e : Nat) : List (Nat × Nat) :=
  ((List.range 8).map (fun j => (j, d.slotAxis e j))).filter (fun x => decide (x.2 < 192))

/-- The hand-off's read of an outbox at D (R381): an uncorrectable one holds the axis. -/
def Device.outboxRead (d : Device) (e j k : Nat) : Device :=
  if (d.ax k).staged.isNone then d
  else
    let (bad, d1) := d.tileRead e 0 ((List.range 64).map (fun i => winAddr j (0x180 + i)))
    if bad then d1.setAx k fun a => { a with staged := none } else d1

/-- One overrun of an axis (R22, R25): counted and reported; a result of this beat is not used. -/
def Device.overrunAxis (d : Device) (e k consec : Nat) (inj : Option Nat) : Device :=
  let d1 := (((d.incSat TB_OVR_COUNT_COUNT).put TB_OVR_LAST_CONSEC consec).put TB_OVR_LAST_ENGINE e).put TB_OVR_LAST_AXIS k
  let d2 := ((d1.raise TB_EVENT_OVERRUN).incSat (DV_OVR_COUNT e)).setAx k fun a => { a with staged := none }
  let d3 := { d2 with rc := { d2.rc with ovr := Store.set (fun _ => 0) d2.rc.ovr k 1 } }
  match inj with
  | some dt => d3.msg 1 k 1 dt true true
  | none => d3.msg 1 k 1 (consec * 65536 + e) false true

/-- Staging closes for an ACTIVE engine: its late slots become ready, its overruns are decided, its outboxes are read.  An
engine that is not ACTIVE has no consecutive overruns (R25). -/
def Device.closeEngine (d : Device) (e : Nat) : Device :=
  if d.role e ≠ rlACTIVE then d.put (DV_SLACK_CONSEC e) 0
  else
    let d0 := d.engDeadline e
    let slots := d0.engSlots e
    let beyond := slots.filter (fun x => (d0.ax x.2).staged.isNone || d0.injPending 1 x.2 1)
    let consec := if beyond.isEmpty then 0 else min 65535 (d0.get (DV_SLACK_CONSEC e) + 1)
    let d1 := (d0.put (DV_SLACK_CONSEC e) consec).setEng e fun s =>
      { s with overran := !beyond.isEmpty, minSlack := if beyond.isEmpty then s.minSlack else 0 }
    let d2 := beyond.foldl (fun (d : Device) x =>
      if (d.ax x.2).staged.isNone then d.overrunAxis e x.2 consec none
      else match d.injTake 1 x.2 1 with
        | some (dt, d') => d'.overrunAxis e x.2 consec (some dt)
        | none => d) d1
    slots.foldl (fun d x => d.outboxRead e x.1 x.2) d2

/-- A staged result handed off (R16, R20, R273): to the chain buffers, the local pairs and the step generators; an axis
without one keeps its command. -/
def Device.handOffAxis (d : Device) (k : Nat) : Device :=
  match (d.ax k).staged with
  | none => if (d.ax k).fresh then d.setAx k fun a => { a with fresh := false } else d
  | some out =>
    let d1 := d.setAx k fun a => { a with out := out, fresh := true, staged := none, stagedSince := true }
    let v := toS 64 (obWord out 4 + 2 ^ 32 * obWord out 5)
    let dv := toS 64 (obWord out 6 + 2 ^ 32 * obWord out 7)
    (d1.gensOf k).foldl (fun d g => d.genStage g v dv) (d1.mdHandOff k out)

/-- The hand-off of every axis.  It follows the latch phase of the beat, which takes the results of the beat before. -/
def Device.handOff (d : Device) : Device := (List.range 192).foldl Device.handOffAxis d

/-- The dispatch deadline at tick D (R22), once a beat. -/
def Device.deadlinePhase (d : Device) : Device :=
  let d0 := (d.passTo d.clk.deadline).setClk fun c => { c with closed := true }
  d0.still fun d =>
    let d1 := ((List.range 28).foldl Device.closeEngine d).tripHandOff
    let d2 := if d0.clk.latched then d1.handOff else d1
    d2.rcClose

/-- The latch phase at tick L (R20), once a beat: chains, local pairs and step generators take up their commands. -/
def Device.latchPhase (d : Device) : Device :=
  let d0 := (d.passTo d.clk.latch).setClk fun c => { c with latched := true }
  d0.still fun d =>
    let dA := (d.axes.map (·.1)).foldl (fun (d : Device) k => d.setAx k fun a => { a with applied := a.out }) d
    let d1 := (List.range 16).foldl (fun (d : Device) c => d.chainLatch c) dA
    let d2 := ((List.range 16).foldl (fun (d : Device) g => d.genLatch g) d1.mdLatch).cvLatch
    if d0.clk.closed then d2.handOff else d2

/-- LATCH_PHASE: a deadline that lies before it comes first. -/
def Device.latchNow (d : Device) : Device :=
  if d.clk.running = false ∨ d.clk.latched = true then d
  else
    let d0 := if d.clk.closed = false ∧ d.clk.deadline < d.clk.latch then d.deadlinePhase else d
    d0.latchPhase

/-- DISPATCH_DEADLINE: a latch phase that lies before it, or at the same tick, comes first. -/
def Device.deadlineNow (d : Device) : Device :=
  if d.clk.running = false ∨ d.clk.closed = true then d
  else
    let d0 := if d.clk.latched = false ∧ d.clk.latch ≤ d.clk.deadline then d.latchPhase else d
    d0.deadlinePhase

/-! ### The boundary (R16) -/

/-- The remaining phase error at a boundary (R28), less what the finished beat removed. -/
def Device.alignWork (d : Device) (removed : Nat) : Device :=
  let err := d.get TB_PHASE_ERR_ERR - removed
  let d1 := if d.has TB_STATUS_TRIMMING then
      (if err = 0 then d.aligned else d.put TB_PHASE_ERR_ERR err) else d
  let on := d1.has TB_TRIM_ALIGN_EN && d1.has TB_TM_STATUS_QUALIFIED
  if on then d1 else d1.put TB_STATUS_TRIMMING 0

/-- The ticks that alignment cuts from a beat: at most TRIM_MAX (R28). -/
def Device.alignCut (d : Device) : Nat :=
  if d.has TB_STATUS_TRIMMING then min (d.get TB_TRIM_TRIM_MAX) (d.get TB_PHASE_ERR_ERR) else 0

/-- The alignment at a boundary (R28): the new beat's length follows from the remaining error. -/
def Device.alignBoundary (d : Device) (removed : Nat) : Device :=
  let d2 := d.still fun d => d.alignWork removed
  d2.setClk fun c => { c with curLen := c.len - d2.alignCut }

/-- Does the planner of axis `k` commit its own set-point: it is no convoy member and no gantry twin, or it is OFF? -/
def Device.ownPlan (d : Device) (k : Nat) : Bool :=
  decide (d.plState k = plOFF) || (decide (d.plState k ≠ plFOLLOWING) && (d.gpTwin k).isNone)

/-- Before the settings: device time steps and the chain layouts swap (R33, R460, R559). -/
def Device.boundaryFirst (d : Device) : Device := (List.range 16).foldl (fun (d : Device) i => d.tblBoundary (0xD0 + i)) d.timeBoundary

/-- After the settings (R16): table swaps, frames and samples, the planners' commits, then what follows from them.
`changed` says that LEN or L changed. -/
def Device.boundaryUnits (d : Device) (changed : Bool) : Device :=
  let axes := fun (f : Device → Nat → Device) (d : Device) => (List.range 192).foldl f d
  let ports := fun (f : Device → Nat → Device) (d : Device) => (List.range 16).foldl f d
  let d2 := d.syncBeat.otherTables
  let d3 := (axes Device.lpBoundary d2).carrierApply
  let d4 := ports Device.portBoundary (ports Device.chainBoundary d3)
  let d5 := axes Device.shiftDue (ports Device.portSettle (axes Device.fbTick0 d4))
  let dp := (d5.planners.map (·.1)).foldl (fun (d : Device) k => d.setPl k fun p => { p with prev := p.cur }) d5
  let d6 := (axes (fun d k => if d.ownPlan k then d.plCommit k (d.fbPos k) else d) dp).cyPaths.camTables
  let d7 := axes Device.fbSetpoint d6.cyBoundary.gpBoundary
  let d8 := (axes Device.axBoundary (ports Device.msBoundary d7)).cvBoundary.mailBoundary
  let d9 := (List.range 28).foldl (fun (d : Device) e => (d.engBoundary e).engPace e) d8
  { ((d9.itBoundary.rcBoundary changed).motionReady).snapshot.recorderFrame with plTicks := [] }

/-- A changed length re-checks the carriers that follow the beat (R274). -/
def Device.lengthChecked (d : Device) (old : Nat) : Device := if d.clk.len = old then d else d.still Device.mdSyncCheck

/-- The units at the boundary of the beat that begins (R16).  `removed` is what alignment took from the beat that
ended. -/
def Device.boundaryWork (d : Device) (removed : Nat) : Device :=
  let r := (d.still Device.boundaryFirst).settingsBoundary
  ((r.1.lengthChecked d.clk.len).alignBoundary removed).still fun d => d.boundaryUnits r.2

/-- The checkpoints that an engine still copies are complete by the boundary (R163). -/
def Device.ckptsDone (d : Device) (e : Nat) : Device :=
  (List.range (d.eng e).ckpts.length).foldl (fun (d : Device) _ => d.ckptDone e) d

/-- What the beat that ends leaves open: serial transfers, chain slots and samples that never came, and checkpoints in
progress. -/
def Device.beatLeftovers (d : Device) : Device :=
  let d1 := (List.range 16).foldl (fun (d : Device) p => (d.portLeftover p).chainLeftover p) d
  (List.range 28).foldl Device.ckptsDone ((List.range 192).foldl Device.fbLeftover d1)

/-- BEAT_BOUNDARY: the beat ends, with the phases it has not had yet, and the next one begins. -/
def Device.boundaryNow (d : Device) : Device :=
  if d.clk.running = false then d
  else
    let d1 := d.latchNow.deadlineNow
    let d2 := (d1.passTo (d1.clk.curLen - 1)).still Device.beatLeftovers
    let removed := d2.clk.len - d2.clk.curLen
    let d3 := (d2.passTo d2.clk.curLen).setClk fun c => { c with
      beat := c.beat + 1, tick := 0, latched := false, closed := false, past := pushBeat c.curLen c.past }
    d3.boundaryWork removed

/-! ### The intervals of TB_SLACK (R27) -/

/-- DV_MARGIN (R171) from the admitted steps, the peak step time in 10 ps and the admission window in ticks; its rounding
is a free bit. -/
def marginOf (admitted peak window : Nat) (up : Bool) : Nat :=
  let w := window * 1000
  let used := admitted * peak
  if w < used ∨ w = 0 then 0
  else
    let n := (w - used) * 65536
    min 65535 (n / w + b2n (up && n % w != 0))

/-- One engine at the end of an interval. -/
def Device.engInterval (d : Device) (e : Nat) : Device :=
  let s := d.eng e
  let (x, d0) := d.fresh
  let window := d.clk.deadline - d.engBound d.laysInForce e
  let m := marginOf (d.get (DV_STEPS_ADMITTED e)) s.pacePeak window (bit x.toNat 0)
  let d1 := ((d0.put (DV_SLACK_MIN_SLACK e) s.minSlack).put (DV_STEPS_PEAK e) (min 65535 s.peakSteps)).put (DV_PACE_PEAK e) s.pacePeak
  (d1.put (DV_MARGIN_MARGIN e) m).setEng e fun s => { s with minSlack := 0xFFFF, peakSteps := 0, pacePeak := 0 }

/-- The tick at which the interval in progress ended, if it has (R27). -/
def Device.slackEnd (d : Device) : Option Nat :=
  if d.has TB_TM_STATUS_QUALIFIED then
    let second := d.clk.now - d.timeNs % oneSec / 10
    if d.tm.slackAt < second ∧ d.tm.qualAt ≤ second then some second else none
  else if d.tm.slackAt + 100000000 ≤ d.clk.now then some (d.tm.slackAt + 100000000)
  else none

/-- SLACK_INTERVAL_END (R27, R345): the least margins are published and the caravanserai checks the pace. -/
def Device.slackInterval (d : Device) : Device :=
  if d.clk.running = false then d
  else
    match d.slackEnd with
    | none => d
    | some t =>
      let mins := (List.range 28).map (fun e => (d.eng e).minSlack)
      let best := (least (fun e => mins.getD e 0xFFFF) (List.range 28)).getD 0
      let d1 := (List.range 28).foldl Device.engInterval d
      let d2 := (d1.put TB_SLACK_MIN_SLACK (mins.getD best 0xFFFF)).put TB_SLACK_ENGINE best
      let d3 := (d2.wrN IT_ROUND (d2.rdN IT_ROUND % 65536)).setTm fun s => { s with slackAt := t }
      d3.cvPaceCheck

/-! ### The start of the scheduler (R15, R530) -/

/-- What starts with the scheduler: the scrubber, and the census of every chain with AUTO_CENSUS. -/
def Device.schedUnits (d : Device) : Device :=
  let d2 := ((d.put TB_STATUS_RUNNING 1).put XS_BOOT_TIME_SCHED (d.clk.now / 100000)).setTm fun t => { t with slackAt := d.clk.now }
  let d3 := d2.setCv fun c => { c with outAt := d.clk.now }
  let d4 := if d3.has GL_MEM_CTRL_SCRUB_EN then d3.scrubStart else d3
  (List.range 16).foldl (fun (d : Device) c => if d.has (TK_CTRL_AUTO_CENSUS c) then d.censusStart c else d) d4

/-- The beat scheduler starts: beat 0 begins with its boundary. -/
def Device.schedStart (d : Device) : Device :=
  let d1 := d.setClk fun c => { c with running := true, beat := 0, tick := 0, curLen := c.len, latched := false, closed := false }
  (d1.still Device.schedUnits).boundaryWork 0

/-- LOADER_TG_APPLY (R530): step 7 with the CRC of the TG_APPLY record, then the scheduler starts.  `stuck` and `failed`
are the STO lines and the contacts that failed the start-up checks of R419. -/
def Device.loaderTgApply (d : Device) (stuck failed : Nat) : Device :=
  if d.clk.running ∨ d.get XS_BOOT_STEP ≠ 6 then d
  else
    let d1 := d.still fun d =>
      let d1 := match d.boot.records.find? (fun r => r.type == 10) with
        | some r =>
          let (ok, d1) := d.tgStart (leAt r.body 0 4) stuck failed
          if ok then d1 else d1.bootWarn r.idx
        | none => d
      d1.put XS_BOOT_STEP 7
    d1.schedStart

end Sys2Proof.Machine
end

