-- ==== Sys2Proof/Machine/RowsBeat.lean ====
section
/-! DEFINITION. The meanings of the commands of the beat and its settings (R16–R34), one per row of the table. -/

namespace Sys2Proof.Machine

/-- BEAT_BOUNDARY (R16): At tick 0 of a beat, feedback is sampled, set-points are committed, staged commits and table
swaps take effect and frames start. -/
def execBeatBoundary (s : State) : Host.Outcome State Fault Refusal :=
  .next (s.onTime fun d => d.boundaryNow)

/-- LATCH_PHASE (R20): At tick L, SEL_N rises, nodes, local pairs and step generators take up their staged commands.
-/
def execLatchPhase (s : State) : Host.Outcome State Fault Refusal :=
  .next (s.onTime fun d => d.latchNow)

/-- DISPATCH_DEADLINE (R22): At tick D staging closes, late slots become ready, overruns are decided and the hand-off
copies staged results. -/
def execDispatchDeadline (s : State) : Host.Outcome State Fault Refusal :=
  .next (s.onTime fun d => d.deadlineNow)

/-- BEAT_COMMIT (R31): COMMIT in TB_COMMIT checks the shadow beat settings and applies them at the next boundary or
refuses them. -/
def execBeatCommit (s : State) : Host.Outcome State Fault Refusal :=
  .next (s.onDev fun d => d.commitRequest)

/-- CLEAR_OVR (R25): CLEAR_OVR in TB_COMMIT clears TB_OVR_COUNT and TB_OVR_LAST. -/
def execClearOvr (s : State) : Host.Outcome State Fault Refusal :=
  .next (s.onDev fun d => d.clearOvr)

/-- TB_TRIM_WRITE (R17): A write of TB_TRIM is ignored if TRIM_MAX would break R17 or R18 for the active L and D. -/
def execTbTrimWrite (v : BitVec 32) (s : State) : Host.Outcome State Fault Refusal :=
  .next (s.onDev fun d => d.trimWrite v.toNat)

/-- SLACK_INTERVAL_END (R27): An interval of TB_SLACK ends and the least margins are published. -/
def execSlackIntervalEnd (s : State) : Host.Outcome State Fault Refusal :=
  .next (s.onDev fun d => d.slackInterval)

end Sys2Proof.Machine
end

