-- ==== Sys2Proof/Machine/RowsCan.lean ====
section
/-! DEFINITION. The meanings of the commands of the message bus (R501–R513), one per row of the table. -/

namespace Sys2Proof.Machine

/-- CAN_ENABLE (R502): A write of EN = 1 in CF_CTRL checks bit timing and starts integration, or is refused. `rest` is
bits 31 to 1 of the word written to CF_CTRL. -/
def execCanEnable (b : Fin 2) (rest : BitVec 31) (s : State) : Host.Outcome State Fault Refusal :=
  .next (s.onDev fun d => d.canCtrlWrite b (1 + 2 * rest.toNat))

/-- CAN_DISABLE (R505): A write of EN = 0 in CF_CTRL completes frames in progress, flushes the FIFO and turns the
controller OFF. `rest` is bits 31 to 1 of the word written to CF_CTRL. -/
def execCanDisable (b : Fin 2) (rest : BitVec 31) (s : State) : Host.Outcome State Fault Refusal :=
  .next (s.onDev fun d => d.canCtrlWrite b (2 * rest.toNat))

/-- INTEGRATION_DONE (R505): After 11 recessive bits the controller becomes ERROR_ACTIVE. -/
def execIntegrationDone (b : Fin 2) (s : State) : Host.Outcome State Fault Refusal :=
  .next (s.onDev fun d => d.canIntegrated b)

/-- CAN_RECOVER (R513): RECOVER in CF_CMD starts bus-off recovery, or is refused. -/
def execCanRecover (b : Fin 2) (s : State) : Host.Outcome State Fault Refusal :=
  .next (s.onDev fun d => d.canRecover b)

/-- BUS_OFF_RECOVERED (R513): Bus-off recovery completes and the FIFO resumes. -/
def execBusOffRecovered (b : Fin 2) (s : State) : Host.Outcome State Fault Refusal :=
  .next (s.onDev fun d => d.canRecovered b)

/-- CF_CLEAR_CNT (R513): CLEAR_CNT in CF_CMD clears the CAN counters. -/
def execCfClearCnt (b : Fin 2) (s : State) : Host.Outcome State Fault Refusal :=
  .next (s.onDev fun d => d.canClear b)

/-- TX_COPY (R506): An entry of Q9 or Q10 is copied into the transmit FIFO and freed. -/
def execTxCopy (b : Fin 2) (s : State) : Host.Outcome State Fault Refusal :=
  .next (s.onDev fun d => d.canTxCopy b)

/-- CAN_FRAME_SENT (R507): A frame transmission ends successfully or with an error. `ref` says that the frame was the
reference message, `ok` that it ended without error; `tdcv` is the delay measured. `sof` counts the ticks since the
start of frame. -/
def execCanFrameSent (b : Fin 2) (ref ok : Bool) (sof : BitVec 32) (tdcv : BitVec 8) (s : State) : Host.Outcome State
    Fault Refusal :=
  .next (s.onDev fun d => d.canFrameSent b ref ok sof.toNat tdcv.toNat)

/-- CAN_FRAME_RECEIVED (R511): A received frame is filtered and delivered to Q11 or Q12 or dropped. `id` is the
identifier word of R305. `sof` counts the ticks since the start of frame. -/
def execCanFrameReceived (b : Fin 2) (id : BitVec 32) (dlc : Fin 16) (esi rtr : Bool) (data : List (BitVec 8)) (sof :
    BitVec 32) (s : State) : Host.Outcome State Fault Refusal :=
  .next (s.onDev fun d => d.canReceive b id.toNat dlc esi rtr data sof.toNat)

/-- CYCLE_START (R508): At a cycle start the reference message becomes pending, replacing a late one. `started` is 0
where the reference message of the cycle before has not started, else 1 more than the ticks since its start of frame.
-/
def execCycleStart (b : Fin 2) (started : BitVec 32) (s : State) : Host.Outcome State Fault Refusal :=
  .next (s.onDev fun d => d.canCycle b started.toNat)

/-- PROTOCOL_EXCEPTION (R501): A received frame shows a recessive res bit, so the controller raises PROTOCOL_EXC and
integrates again. -/
def execProtocolException (b : Fin 2) (s : State) : Host.Outcome State Fault Refusal :=
  .next (s.onDev fun d => d.canProtocolExc b)

/-- CAN_RX_ERROR (R513): A bus error is detected while receiving, the receive error counter rises and the controller
may become error passive. `eight` says that the error counts 8. -/
def execCanRxError (b : Fin 2) (eight : Bool) (s : State) : Host.Outcome State Fault Refusal :=
  .next (s.onDev fun d => d.canRxError b eight)

end Sys2Proof.Machine
end

