-- ==== Sys2Proof/Machine/RowsCaravan.lean ====
section
/-! DEFINITION. The meanings of the commands of the caravanserai (R324–R348), one per row of the table. -/

namespace Sys2Proof.Machine

/-- HEARTBEAT_VERDICT (R331): At HB_LATE the caravanserai judges each engine's heartbeat paths for the previous beat.
-/
def execHeartbeatVerdict (s : State) : Host.Outcome State Fault Refusal :=
  .next (s.onDev fun d => d.hbVerdict)

/-- LOAD_COMPLETE (R335): A cold load completes; on a signature mismatch the spare is fenced and another taken. -/
def execLoadComplete (e : Fin 28) (s : State) : Host.Outcome State Fault Refusal :=
  .next (s.onDev fun d => d.loadComplete e)

/-- SELF_TEST_DONE (R341): An engine's self-test ends and it becomes RELAY, FENCED or RETIRED. `result` is 1 pass, 2
logic fail, 3 memory fail; `step_` the step time measured, in units of 10 ps. -/
def execSelfTestDone (e : Fin 28) (result : Fin 4) (step_ : BitVec 16) (s : State) : Host.Outcome State Fault Refusal
    :=
  .next (s.onDev fun d => d.selfTestDone e result step_.toNat)

/-- OUTRIDER_PERIOD (R342): SWAP_PERIOD elapses and the outrider starts a planned swap. -/
def execOutriderPeriod (s : State) : Host.Outcome State Fault Refusal :=
  .next (s.onDev fun d => d.cvOutrider)

/-- SWAP (R342): SWAP in CV_CMD starts a planned swap of the named engine, or is refused. `e` is the five-bit engine
field, which may name no engine. -/
def execSwap (e : Fin 32) (s : State) : Host.Outcome State Fault Refusal :=
  .next (s.onDev fun d => d.cvSwapCmd 2 e)

/-- RETIRE (R342): RETIRE in CV_CMD starts a swap that retires the named engine, or is refused. `e` is the five-bit
engine field, which may name no engine. -/
def execRetire (e : Fin 32) (s : State) : Host.Outcome State Fault Refusal :=
  .next (s.onDev fun d => d.cvSwapCmd 5 e)

/-- UPDATE (R346): UPDATE in CV_CMD starts a live update of the masked engines, or is refused. -/
def execUpdate (image : Fin 8) (s : State) : Host.Outcome State Fault Refusal :=
  .next (s.onDev fun d => d.cvUpdate image)

/-- UPDATE_SWAP_PERIOD (R346): UPD_PERIOD beats after the last update swap, the next masked engine is relieved. -/
def execUpdateSwapPeriod (s : State) : Host.Outcome State Fault Refusal :=
  .next (s.onDev fun d => d.updPeriod)

/-- ABORT_UPDATE (R347): ABORT_UPDATE lets the swap in progress complete and starts no further update swap. -/
def execAbortUpdate (s : State) : Host.Outcome State Fault Refusal :=
  .next (s.onDev fun d => d.updAbort)

/-- CV_CLEAR_CNT (R324): CLEAR_CNT in CV_CMD clears the caravanserai counts. -/
def execCvClearCnt (s : State) : Host.Outcome State Fault Refusal :=
  .next (s.onDev fun d => d.cvClear)

/-- IMG_BASE_WRITE (R348): A write of CV_IMG_BASE reads the image header and sets VALID if it checks out. -/
def execImgBaseWrite (n : Fin 8) (v : BitVec 32) (s : State) : Host.Outcome State Fault Refusal :=
  .next (s.onDev fun d => d.imgWrite n v.toNat)

end Sys2Proof.Machine
end

