-- ==== Sys2Proof/Machine/RowsChain.lean ====
section
/-! DEFINITION. The meanings of the commands of Troko chains (R236–R267, R562), one per row of the table. -/

namespace Sys2Proof.Machine

/-- SLOT_COMPLETE (R251): A node's feedback slot completes and is accepted as a sample or counted as a failure. `ws`
are the words of the slot, header first and CRC last. -/
def execSlotComplete (c n : Fin 16) (ws : List (BitVec 16)) (s : State) : Host.Outcome State Fault Refusal :=
  .next (s.onDev fun d => d.slotComplete c n ws)

/-- FRAME_COMPLETE (R242): A chain frame ends, its marker, RSTB and loop delay are checked. `marker` is the last 16
bits received, `rstb` says that RSTB moved, `loop` is LOOP_DLY. -/
def execFrameComplete (c : Fin 16) (marker : BitVec 16) (rstb : Bool) (loop : BitVec 16) (s : State) : Host.Outcome
    State Fault Refusal :=
  .next (s.onDev fun d => d.frameComplete c marker.toNat rstb loop.toNat)

/-- CENSUS (R562): CENSUS in TK_CMD starts a census with the reset pattern, or is refused BUSY. -/
def execCensus (c : Fin 16) (s : State) : Host.Outcome State Fault Refusal :=
  .next (s.onDev fun d => d.tkCensus c)

/-- CENSUS_RESET_WAIT_END (R262): 100 us after the reset pattern the identity frame is sent. -/
def execCensusResetWaitEnd (c : Fin 16) (s : State) : Host.Outcome State Fault Refusal :=
  .next (s.onDev fun d => d.censusWaitEnd c)

/-- IDENTITY_FRAME (R264): The identity frame completes and its words, marker and reversals are evaluated. `rx` are
the 1 120 bits received, `loop` the loop delay measured. -/
def execIdentityFrame (c : Fin 16) (rx : BitVec 1120) (loop : BitVec 16) (s : State) : Host.Outcome State Fault
    Refusal :=
  .next (s.onDev fun d => d.identityFrame c rx loop.toNat)

/-- CONFIG_FRAME (R262): The config frame completes and the nodes latch their config words. -/
def execConfigFrame (c : Fin 16) (s : State) : Host.Outcome State Fault Refusal :=
  .next (s.onDev fun d => d.configFrame c)

/-- ECHO_FRAME (R265): The echo frame completes and is checked, ending census READY or failed. `ws` are the echo words
in the order received, `marker` what follows them. -/
def execEchoFrame (c : Fin 16) (ws : List (BitVec 64)) (marker : BitVec 32) (s : State) : Host.Outcome State Fault
    Refusal :=
  .next (s.onDev fun d => d.echoFrame c ws marker.toNat)

/-- CENSUS_RETRY (R265): 5 ms after a retried census failure, census tries again. -/
def execCensusRetry (c : Fin 16) (s : State) : Host.Outcome State Fault Refusal :=
  .next (s.onDev fun d => d.censusRetry c)

/-- TK_START (R266): START in TK_CMD starts frames at the next boundary, or is refused. -/
def execTkStart (c : Fin 16) (s : State) : Host.Outcome State Fault Refusal :=
  .next (s.onDev fun d => d.tkStart c)

/-- TK_STOP (R267): STOP in TK_CMD ends frames after the frame in progress and returns the chain to READY. -/
def execTkStop (c : Fin 16) (s : State) : Host.Outcome State Fault Refusal :=
  .next (s.onDev fun d => d.tkStop c)

/-- TK_CLEAR_CNT (R251): CLEAR_CNT in TK_CMD clears the chain's error counts. -/
def execTkClearCnt (c : Fin 16) (s : State) : Host.Outcome State Fault Refusal :=
  .next (s.onDev fun d => d.tkClearCnt c)

/-- TK_CTRL_WRITE (R236): A write of TK_CTRL is applied in OFF or FAILED, or refused BUSY or BAD_MODE. -/
def execTkCtrlWrite (c : Fin 16) (v : BitVec 32) (s : State) : Host.Outcome State Fault Refusal :=
  .next (s.onDev fun d => d.tkCtrlWrite c v.toNat)

/-- TK_TIMING_WRITE (R236): A write of TK_TIMING is applied in OFF or FAILED, or refused. -/
def execTkTimingWrite (c : Fin 16) (v : BitVec 32) (s : State) : Host.Outcome State Fault Refusal :=
  .next (s.onDev fun d => d.tkTimingWrite c v.toNat)

end Sys2Proof.Machine
end

