-- ==== Sys2Proof/Machine/RowsConvoy.lean ====
section
/-! DEFINITION. The meanings of the commands of convoys, gantry pairs and step generators (R66–R96), one per row of the table. -/

namespace Sys2Proof.Machine

/-- FORM (R66): FORM in GL_CY_CMD makes the listed axes convoy members in state FOLLOWING, or is refused. -/
def execFormConvoy (c : Fin 32) (s : State) : Host.Outcome State Fault Refusal :=
  .next (s.onDev fun d => (d.cyForm c).2)

/-- DISSOLVE (R67): DISSOLVE returns every member to IDLE at its last committed position, or is refused NOT_AT_REST.
-/
def execDissolve (c : Fin 32) (s : State) : Host.Outcome State Fault Refusal :=
  .next (s.onDev fun d => (d.cyDissolve c).2)

/-- CY_HOLD (R76): HOLD on a convoy decelerates the path parameter as a feed-hold. -/
def execCyHold (c : Fin 32) (s : State) : Host.Outcome State Fault Refusal :=
  .next (s.onDev fun d => (d.cyHold c).2)

/-- CY_RESUME (R76): RESUME on a convoy re-plans the path parameter from the committed state. -/
def execCyResume (c : Fin 32) (s : State) : Host.Outcome State Fault Refusal :=
  .next (s.onDev fun d => (d.cyResume c).2)

/-- CY_STOP (R76): STOP on a convoy brings the path parameter to rest with a controlled stop. -/
def execCyStop (c : Fin 32) (s : State) : Host.Outcome State Fault Refusal :=
  .next (s.onDev fun d => (d.cyStop c).2)

/-- CY_QSTOP (R76): QSTOP on a convoy brings the path parameter to rest with a quick stop. -/
def execCyQstop (c : Fin 32) (s : State) : Host.Outcome State Fault Refusal :=
  .next (s.onDev fun d => (d.cyQstop c).2)

/-- CY_LIMITS (R77): LIMITS on a convoy takes the shadow path limits, blend and FEED into use. -/
def execCyLimits (c : Fin 32) (s : State) : Host.Outcome State Fault Refusal :=
  .next (s.onDev fun d => (d.cyLimits c).2)

/-- ENGAGE (R82): ENGAGE couples a follower at rest, immediately or through a ramp over ENGAGE_LEN of master travel.
-/
def execEngage (c : Fin 32) (j : Fin 8) (s : State) : Host.Outcome State Fault Refusal :=
  .next (s.onDev fun d => (d.cyEngage c j).2)

/-- DISENGAGE (R82): DISENGAGE brings a follower to rest with a controlled stop and leaves it IDLE in the convoy. -/
def execDisengage (c : Fin 32) (j : Fin 8) (s : State) : Host.Outcome State Fault Refusal :=
  .next (s.onDev fun d => (d.cyDisengage c j).2)

/-- CY_FLUSH (R68): FLUSH empties the convoy's segment queue at rest. -/
def execCyFlush (c : Fin 32) (s : State) : Host.Outcome State Fault Refusal :=
  .next (s.onDev fun d => (d.cyFlush c).2)

/-- GP_CTRL_WRITE (R91): A write of GL_GP_CTRL binds or unbinds a gantry pair, refused with ZONE_SPLIT if the pair
would be split across zones. -/
def execGpCtrlWrite (g : Fin 16) (v : BitVec 32) (s : State) : Host.Outcome State Fault Refusal :=
  .next (s.onDev fun d => d.gpWrite g v.toNat d.tgZoneOf)

/-- ST_MODE_WRITE (R96): A write of ST_MODE starts a generator or, with EN cleared, zeroes its velocity at the next
tick. -/
def execStModeWrite (g : Fin 16) (v : BitVec 32) (s : State) : Host.Outcome State Fault Refusal :=
  .next (s.onDev fun d => d.stModeWrite g v.toNat)

/-- STEP_EMIT (R95): A carry or borrow of the phase accumulator emits one step pulse, after any direction waits. -/
def execStepEmit (g : Fin 16) (s : State) : Host.Outcome State Fault Refusal :=
  .next (s.onDev fun d => (d.genEmit g).msEdge)

end Sys2Proof.Machine
end

