-- ==== Sys2Proof/Machine/RowsEngine.lean ====
section
/-! DEFINITION. The meanings of the commands of events and memory of a Drover engine (R144–R170), one per row of the table. -/

namespace Sys2Proof.Machine

/-- EVENT_ACCEPT (R153): A pending unmasked event is accepted and the engine issues its vector in bank 1. `w` is the
word at the vector that the engine issues. -/
def execEventAccept (e : Fin 28) (w : BitVec 64) (s : State) : Host.Outcome State Fault Refusal :=
  .next (s.onDev fun d => d.eventAccept e w)

/-- BULK_DONE (R150): A bulk transfer completes and BBUSY clears. -/
def execBulkDone (e : Fin 28) (s : State) : Host.Outcome State Fault Refusal :=
  .next (s.onDev fun d => d.bulkDone e)

/-- CKPT_DONE (R163): The checkpoint copy of a state vector completes in bulk memory with its framing. -/
def execCkptDone (e : Fin 28) (s : State) : Host.Outcome State Fault Refusal :=
  .next (s.onDev fun d => d.ckptDone e)

/-- FEEDBACK_COMPLETE (R19): Every feedback an axis uses is complete, so its slot becomes ready for computation. -/
def execFeedbackComplete (k : Fin 192) (s : State) : Host.Outcome State Fault Refusal :=
  .next (s.onDev fun d => d.feedbackComplete k)

/-- DV_CLEAR_CNT (R170): CLEAR_CNT in DV_CLEAR clears the engine's overrun, peak and sticky counters. -/
def execDvClearCnt (e : Fin 28) (s : State) : Host.Outcome State Fault Refusal :=
  .next (s.onDev fun d => d.dvClear e)

/-- ILLEGAL_WORD (R144): The engine issues a word whose slot holds a reserved code, field value or class, and halts
with code 1. `w` is the word at the engine's program counter. -/
def execIllegalWord (e : Fin 28) (w : BitVec 64) (s : State) : Host.Outcome State Fault Refusal :=
  .next (s.onDev fun d => d.illegalWord e w)

end Sys2Proof.Machine
end

