-- ==== Sys2Proof/Machine/RowsFeedback.lean ====
section
/-! DEFINITION. The meanings of the commands of the direct feedback ports and an axis's feedback (R172–R202), one per row of the table. -/

namespace Sys2Proof.Machine

/-- QUAD_EDGE (R180): A filtered quadrature edge is accepted, counted into R and stamped, or an illegal transition is
flagged. `ab` is the new level of A (bit 0) and B (bit 1). -/
def execQuadEdge (p : Fin 16) (ab : Fin 4) (s : State) : Host.Outcome State Fault Refusal :=
  .next (s.onDev fun d => d.quadEdge p ab)

/-- HALL_EDGE (R182): A filtered Hall state step is accepted and counted, or flagged illegal. `uvw` is the new Hall
state. -/
def execHallEdge (p : Fin 16) (uvw : Fin 8) (s : State) : Host.Outcome State Fault Refusal :=
  .next (s.onDev fun d => d.hallEdge p uvw)

/-- Z_EDGE (R181): A rising Z edge captures R into FB_Z and raises Z_SEEN. -/
def execZEdge (p : Fin 16) (rising : Bool) (s : State) : Host.Outcome State Fault Refusal :=
  .next (s.onDev fun d => d.zEdge p rising)

/-- SSI_TRANSFER_DONE (R183): An SSI transfer completes and its position is decoded and checked. `w` holds the bits
received, the first in the most significant place. -/
def execSsiTransferDone (p : Fin 16) (w : BitVec 64) (s : State) : Host.Outcome State Fault Refusal :=
  .next (s.onDev fun d => d.ssiDone p w.toNat)

/-- BISS_TRANSFER_DONE (R184): A BiSS-C transfer completes and its position, error bits and CRC are checked. `w` holds
position, error bits and inverted CRC, the first bit received most significant; `dly` is the line delay measured. -/
def execBissTransferDone (p : Fin 16) (w : BitVec 128) (dly : BitVec 16) (s : State) : Host.Outcome State Fault
    Refusal :=
  .next (s.onDev fun d => d.bissDone p w.toNat dly.toNat)

/-- FRAME_FORMAT_DONE (R186): A frame-format table transfer completes and its fields and CRC are checked. `resp` holds
the response bits, bit 0 the first received. -/
def execFrameFormatDone (p : Fin 16) (resp : BitVec 1024) (s : State) : Host.Outcome State Fault Refusal :=
  .next (s.onDev fun d => d.frameDone p resp.toNat)

/-- SERIAL_TIMEOUT (R186): A serial frame is not complete at its timeout, so the beat is a TIMEOUT miss. -/
def execSerialTimeout (p : Fin 16) (s : State) : Host.Outcome State Fault Refusal :=
  .next (s.onDev fun d => d.serialTimedOut p)

/-- FB_CTRL_WRITE (R179): A write of FB_CTRL is refused while the port is in use, or aborts a transfer and applies
from the next boundary. -/
def execFbCtrlWrite (p : Fin 16) (v : BitVec 32) (s : State) : Host.Outcome State Fault Refusal :=
  .next (s.onDev fun d => d.fbCtrlWrite p v.toNat)

/-- FB_SER_WRITE (R187): A write of FB_SER is checked against ranges, use and timeout, and applied or refused. -/
def execFbSerWrite (p : Fin 16) (v : BitVec 32) (s : State) : Host.Outcome State Fault Refusal :=
  .next (s.onDev fun d => d.fbSerWrite p v.toNat)

/-- FB_TIMING_WRITE (R187): A write of FB_TIMING is checked against use and timeout, and applied or refused. -/
def execFbTimingWrite (p : Fin 16) (v : BitVec 32) (s : State) : Host.Outcome State Fault Refusal :=
  .next (s.onDev fun d => d.fbTimingWrite p v.toNat)

/-- FB_CLEAR_CNT (R179): CLEAR_CNT in FB_CMD clears FB_ERRCNT. -/
def execFbClearCnt (p : Fin 16) (s : State) : Host.Outcome State Fault Refusal :=
  .next (s.onDev fun d => d.fbClearCnt p)

/-- AX_FB_SRC_WRITE (R172): A write of AX_FB_SRC is applied while OFF, or refused with REFUSED raised. -/
def execAxFbSrcWrite (k : Fin 192) (v : BitVec 32) (s : State) : Host.Outcome State Fault Refusal :=
  .next (s.onDev fun d => d.fbSrcWrite k v.toNat)

/-- SETPOS (R177): SETPOS in AX_FB_CMD sets the measured position by offset while OFF, as a SHIFT while IDLE or HELD,
or is refused. -/
def execSetpos (k : Fin 192) (s : State) : Host.Outcome State Fault Refusal :=
  .next (s.onDev fun d => d.setpos k)

/-- RIDE_END (R202): The set-point reaches rest or RIDE_TIME elapses, so the axis goes to OFF with OFF_CAUSE 4. -/
def execRideEnd (k : Fin 192) (s : State) : Host.Outcome State Fault Refusal :=
  .next (s.onDev fun d => d.rideEnd k)

/-- PASS_THROUGH_EDGE (R188): A pin edge on line L0 to L2 of the source port is copied to the lines of a port in MODE
6 within 40 ns. `levels` are the levels of L0 to L2 of the source port `p`. -/
def execPassThroughEdge (p : Fin 16) (levels : Fin 8) (s : State) : Host.Outcome State Fault Refusal :=
  .next (s.onDev fun d => d.passEdge p levels)

/-- EMU_EDGE (R189): A port in MODE 7 emits the next emulated quadrature edge, spread over the beat and at least MINSP
ticks after the last. -/
def execEmuEdge (p : Fin 16) (s : State) : Host.Outcome State Fault Refusal :=
  .next (s.onDev fun d => d.emuEdge p)

end Sys2Proof.Machine
end

