-- ==== Sys2Proof/Machine/RowsField.lean ====
section
/-! DEFINITION. The meanings of the commands of field I/O (R426–R437), one per row of the table. -/

namespace Sys2Proof.Machine

/-- FIELD_LEVEL_ACCEPT (R426): An accepted field input level arrives on the logic side and updates FIO_IN. `raw` is
the raw sample, `count` the edge count that comes with the level. -/
def execFieldLevelAccept (c : Fin 40) (level raw : Bool) (count : BitVec 16) (s : State) : Host.Outcome State Fault
    Refusal :=
  .next (s.onDev fun d => d.fioAccept c level raw count.toNat)

/-- FIO_OUT_SET (R427): A write of FIO_OUT_SET commands outputs on, refused for non-outputs. `upper` selects
FIO_OUT_SET_HI. -/
def execFioOutSet (upper : Bool) (mask : BitVec 32) (s : State) : Host.Outcome State Fault Refusal :=
  .next (s.onDev fun d => d.fioWrite (if upper then 32 else 0) mask.toNat true)

/-- FIO_OUT_CLR (R427): A write of FIO_OUT_CLR commands outputs off. `upper` selects FIO_OUT_CLR_HI. -/
def execFioOutClr (upper : Bool) (mask : BitVec 32) (s : State) : Host.Outcome State Fault Refusal :=
  .next (s.onDev fun d => d.fioWrite (if upper then 32 else 0) mask.toNat false)

/-- FIO_CH_CTRL_WRITE (R437): A write of FIO_CH_CTRL changes a channel at once and resets its filter. -/
def execFioChCtrlWrite (c : Fin 40) (v : BitVec 32) (s : State) : Host.Outcome State Fault Refusal :=
  .next (s.onDev fun d => d.fioCtrlWrite c v.toNat)

/-- FIO_CLEAR_CNT (R437): CLEAR_CNT in FIO_CMD clears every FIO_CH_CNT. -/
def execFioClearCnt (s : State) : Host.Outcome State Fault Refusal :=
  .next (s.onDev fun d => d.fioClear)

/-- WIRING_FAULT (R429): A wiring fault condition persists for its time and is decided. `cause` is the CAUSE code of
the condition. -/
def execWiringFault (c : Fin 40) (cause : Fin 8) (raw : Bool) (s : State) : Host.Outcome State Fault Refusal :=
  .next (s.onDev fun d => d.fioWiring c cause raw)

/-- WIRING_FAULT_CLEAR (R429): A wiring fault condition is absent for 100 ms and clears. -/
def execWiringFaultClear (c : Fin 40) (s : State) : Host.Outcome State Fault Refusal :=
  .next (s.onDev fun d => d.fioWiringClear c)

/-- OVERLOAD (R430): A switch stays in current limit for 1 ms or overheats and turns off with RETRY. -/
def execOverload (c : Fin 40) (raw : Bool) (s : State) : Host.Outcome State Fault Refusal :=
  .next (s.onDev fun d => d.fioOverload c raw)

/-- RETRY (R430): 100 ms after a turn-off the switch tries again. -/
def execRetry (c : Fin 40) (s : State) : Host.Outcome State Fault Refusal :=
  .next (s.onDev fun d => d.fioRetry c)

/-- SUM_LIMIT (R431): The output sum exceeds 8 A for 1 ms and outputs are switched off. `cur` gives the measured
output currents of the channels in order, in mA. -/
def execSumLimit (cur : List (BitVec 16)) (s : State) : Host.Outcome State Fault Refusal :=
  .next (s.onDev fun d => d.fioSum (cur.map (fun x => x.toNat)))

/-- VFIELD_MEASURE (R432): VFIELD is measured each millisecond and acted on. `mv` is VFIELD in mV, signed. -/
def execVfieldMeasure (mv : BitVec 17) (s : State) : Host.Outcome State Fault Refusal :=
  .next (s.onDev fun d => d.fioVfield mv.toInt)

/-- REFRESH_FRAME (R434): A field refresh frame restarts a group's watchdog. -/
def execRefreshFrame (g : Fin 5) (s : State) : Host.Outcome State Fault Refusal :=
  .next (s.onDev fun d => d.fioRefresh g)

/-- FIELD_WATCHDOG (R434): A group receives no valid frame for WDOG_T and its outputs take their safe states. -/
def execFieldWatchdog (g : Fin 5) (s : State) : Host.Outcome State Fault Refusal :=
  .next (s.onDev fun d => d.fioWatchdog g)

/-- COUPLER_FAIL (R435): Three consecutive failed frames on a coupler send FIO_COUPLER. `c` is a channel's coupler,
or 40 + g the spare of group g. -/
def execCouplerFail (c : Fin 45) (s : State) : Host.Outcome State Fault Refusal :=
  .next (s.onDev fun d => d.fioCoupler c)

end Sys2Proof.Machine
end

