-- ==== Sys2Proof/Machine/RowsFlash.lean ====
section
/-! DEFINITION. The meanings of the commands of the flash ports and one-time programming (R518–R539), one per row of the table. -/

namespace Sys2Proof.Machine

/-- FLASH_OP_DONE (R520): A program or erase ends with done, mismatch or timeout. `result` is 2 done, 3 mismatch, 4
timeout. `at_` is the flash address of the first error. -/
def execFlashOpDone (p : Fin 2) (result : Fin 5) (at_ : BitVec 32) (s : State) : Host.Outcome State Fault Refusal :=
  .next (s.onDev fun d => d.flDone p result at_.toNat)

/-- MAPPED_READ (R518): A read of the flash mapped window is served from the prefetch buffer or starts a line fill.
`a` is the offset in the window of port `p`. -/
def execMappedRead (p : Fin 2) (a : BitVec 26) (s : State) : Host.Outcome State Fault Refusal :=
  .next (s.onDev fun d => d.mappedRead p a.toNat)

/-- LINE_FILL (R518): A prefetch line fill completes and serves the waiting read. `a` is the address of the line. -/
def execLineFill (p : Fin 2) (a : BitVec 26) (err : Bool) (s : State) : Host.Outcome State Fault Refusal :=
  .next (s.onDev fun d => d.lineFill p a.toNat err)

/-- XS_STAGE (R522): STAGE in XS_CMD copies flash into a table's shadow copy and checks its CRC. -/
def execXsStage (p : Fin 2) (s : State) : Host.Outcome State Fault Refusal :=
  .next (s.onDev fun d => d.xsStage p)

/-- VERIFY (R538): VERIFY in XS_CMD checks a manifest copy without applying it. -/
def execVerify (p : Fin 2) (s : State) : Host.Outcome State Fault Refusal :=
  .next (s.onDev fun d => d.xsVerify p)

/-- PROGRAM (R539): PROGRAM in XS_OTP_CMD programs a key-hash slot from JTAG. -/
def execProgram (slot : Fin 4) (s : State) : Host.Outcome State Fault Refusal :=
  .next (s.onDev fun d => d.otpProgram slot)

/-- REVOKE (R539): REVOKE in XS_OTP_CMD revokes a key-hash slot from JTAG. -/
def execRevoke (slot : Fin 4) (s : State) : Host.Outcome State Fault Refusal :=
  .next (s.onDev fun d => d.otpRevoke slot)

/-- XS_STAGE_DONE (R522): A staging copy from flash into a table's shadow copy ends, its CRC is compared and RESULT
and DONE or FAILED are set. -/
def execXsStageDone (p : Fin 2) (s : State) : Host.Outcome State Fault Refusal :=
  .next (s.onDev fun d => d.xsStaged p)

/-- VERIFY_DONE (R538): A VERIFY of a manifest copy ends and its check code and GEN are reported in XS_VERIFY with
DONE. `at_` is the flash address of the first error. -/
def execVerifyDone (p : Fin 2) (err : Bool) (at_ : BitVec 32) (s : State) : Host.Outcome State Fault Refusal :=
  .next (s.onDev fun d => d.xsVerified p err at_.toNat)

end Sys2Proof.Machine
end

