-- ==== Sys2Proof/Machine/RowsItinerary.lean ====
section
/-! DEFINITION. The meanings of the commands of itineraries (R308–R313), one per row of the table. -/

namespace Sys2Proof.Machine

/-- ROUND (R308): From boundary n + 1, conditions of every RUNNING itinerary instance are evaluated and transitions
and entry actions carried out. -/
def execRound (s : State) : Host.Outcome State Fault Refusal :=
  .next (s.onDev fun d => d.round)

/-- IT_START (R312): START in IT_CMD starts an instance in its initial or named state, or is refused. -/
def execItStart (k : Fin 64) (atState : Bool) (state : BitVec 8) (s : State) : Host.Outcome State Fault Refusal :=
  .next (s.onDev fun d => d.itStart k atState state.toNat)

/-- PAUSE (R312): PAUSE in IT_CMD stops evaluation and freezes the timers. -/
def execPause (k : Fin 64) (s : State) : Host.Outcome State Fault Refusal :=
  .next (s.onDev fun d => d.itPause k)

/-- CONTINUE (R312): CONTINUE in IT_CMD resumes a PAUSED instance. -/
def execContinueRun (k : Fin 64) (s : State) : Host.Outcome State Fault Refusal :=
  .next (s.onDev fun d => d.itContinue k)

/-- ABORT (R313): ABORT in IT_CMD stops the instance at once and applies ABORT_REACT. -/
def execAbortRun (k : Fin 64) (s : State) : Host.Outcome State Fault Refusal :=
  .next (s.onDev fun d => d.itAbort k)

end Sys2Proof.Machine
end

