-- ==== Sys2Proof/Machine/RowsLanifer.lean ====
section
/-! DEFINITION. The meanings of the commands of the Lanifer commands (R480–R495), one per row of the table. -/

namespace Sys2Proof.Machine

/-- HELLO (R480): HELLO starts a session handshake and returns SID and device nonce. `src` is the source address and
`nh` the host nonce. -/
def execHello (port : Fin 2) (src : BitVec 48) (seq : BitVec 32) (keyId : BitVec 8) (nh : List (BitVec 8)) (s : State)
    : Host.Outcome State Fault Refusal :=
  .next (s.onDev fun d => d.lnHelloCmd port src.toNat seq.toNat keyId.toNat nh)

/-- OPEN (R480): OPEN checks the proof and opens a write session, or answers KEY. `port` is the Ethernet port of the
request, `k` the session and `seq` the SEQ of its frame. -/
def execOpenSession (port : Fin 2) (src : BitVec 48) (k : Fin 5) (seq : BitVec 32) (proof : List (BitVec 8)) (s :
    State) : Host.Outcome State Fault Refusal :=
  .next (s.onDev fun d => d.lnOpenCmd port src.toNat k seq.toNat proof)

/-- CLOSE (R482): CLOSE ends a write session. `port` is the Ethernet port of the request, `k` the session and `seq`
the SEQ of its frame. -/
def execClose (port : Fin 2) (k : Fin 5) (seq : BitVec 32) (s : State) : Host.Outcome State Fault Refusal :=
  .next (s.onDev fun d => d.lnCloseCmd port k seq.toNat)

/-- HANDSHAKE_TIMEOUT (R480): A pending handshake expires after 1 s. -/
def execHandshakeTimeout (k : Fin 5) (s : State) : Host.Outcome State Fault Refusal :=
  .next (s.onDev fun d => d.handshakeTimeout k)

/-- SESSION_TIMEOUT (R482): A session without a valid frame for SESSION_TMO closes. -/
def execSessionTimeout (k : Fin 5) (s : State) : Host.Outcome State Fault Refusal :=
  .next (s.onDev fun d => d.sessionTimeout k)

/-- READ (R484): READ returns one register or memory word. `port` is the Ethernet port of the request, `k` the session
and `seq` the SEQ of its frame. -/
def execRead (port : Fin 2) (k : Fin 5) (seq a : BitVec 32) (s : State) : Host.Outcome State Fault Refusal :=
  .next (s.onDev fun d => d.lnRun 2 port k seq.toNat 0x10 fun d => d.lnRead k a.toNat)

/-- WRITE (R484): WRITE writes one register or memory word. `port` is the Ethernet port of the request, `k` the
session and `seq` the SEQ of its frame. -/
def execWrite (port : Fin 2) (k : Fin 5) (seq a v : BitVec 32) (s : State) : Host.Outcome State Fault Refusal :=
  .next (s.onWrite fun d => d.lnRun 2 port k seq.toNat 0x11 fun d => d.lnWrite k a.toNat v)

/-- READ_BLOCK (R484): READ_BLOCK reads up to 363 consecutive words. `port` is the Ethernet port of the request, `k`
the session and `seq` the SEQ of its frame. -/
def execReadBlock (port : Fin 2) (k : Fin 5) (seq a : BitVec 32) (count : BitVec 16) (s : State) : Host.Outcome State
    Fault Refusal :=
  .next (s.onDev fun d => d.lnRun 3 port k seq.toNat 0x12 fun d => d.lnReadBlock k a.toNat count.toNat)

/-- WRITE_BLOCK (R484): WRITE_BLOCK writes up to 365 consecutive words. `port` is the Ethernet port of the request,
`k` the session and `seq` the SEQ of its frame. -/
def execWriteBlock (port : Fin 2) (k : Fin 5) (seq a : BitVec 32) (vs : List (BitVec 32)) (s : State) : Host.Outcome
    State Fault Refusal :=
  .next (s.onWrite fun d => d.lnRun 3 port k seq.toNat 0x13 fun d => d.lnWriteBlock k a.toNat vs)

/-- TABLE_LOAD (R485): TABLE_LOAD writes bytes into a table's shadow copy. `port` is the Ethernet port of the request,
`k` the session and `seq` the SEQ of its frame. -/
def execTableLoad (port : Fin 2) (k : Fin 5) (seq : BitVec 32) (table : BitVec 16) (off : BitVec 32) (bs : List
    (BitVec 8)) (s : State) : Host.Outcome State Fault Refusal :=
  .next (s.onDev fun d => d.lnRun 3 port k seq.toNat 0x20 fun d => d.lnTableLoad table.toNat off.toNat bs)

/-- TABLE_COMMIT (R559): TABLE_COMMIT requests a table commit under the shared table rules. `port` is the Ethernet
port of the request, `k` the session and `seq` the SEQ of its frame. -/
def execTableCommit (port : Fin 2) (k : Fin 5) (seq : BitVec 32) (table : BitVec 16) (s : State) : Host.Outcome State
    Fault Refusal :=
  .next (s.onDev fun d => d.lnRun 2 port k seq.toNat 0x21 fun d => d.lnTableCommit table.toNat)

/-- MOVE_GO (R486): MOVE with OP GO loads optional limits and starts a GO. `port` is the Ethernet port of the request,
`k` the session and `seq` the SEQ of its frame. `limits` is the flag LIMITS, `mask` LMASK and `lims` LIM[0] to LIM[7],
the first lowest. -/
def execMoveGo (port : Fin 2) (k : Fin 5) (seq : BitVec 32) (axis : BitVec 8) (relative : Bool) (value : BitVec 64)
    (limits : Bool) (mask : BitVec 16) (lims : BitVec 512) (s : State) : Host.Outcome State Fault Refusal :=
  .next (s.onDev fun d => d.lnRun 1 port k seq.toNat 0x30 fun d => d.lnGo axis.toNat relative ⟨limits, mask.toNat, lims.toNat⟩ value.toInt)

/-- MOVE_JOG (R486): MOVE with OP JOG loads optional limits and starts a JOG. `port` is the Ethernet port of the
request, `k` the session and `seq` the SEQ of its frame. `limits` is the flag LIMITS, `mask` LMASK and `lims` LIM[0]
to LIM[7], the first lowest. -/
def execMoveJog (port : Fin 2) (k : Fin 5) (seq : BitVec 32) (axis : BitVec 8) (value : BitVec 64) (limits : Bool)
    (mask : BitVec 16) (lims : BitVec 512) (s : State) : Host.Outcome State Fault Refusal :=
  .next (s.onDev fun d => d.lnRun 1 port k seq.toNat 0x30 fun d => d.lnMoveAxis axis.toNat 8 ⟨limits, mask.toNat, lims.toNat⟩ fun d => d.plJog axis.toNat value.toInt)

/-- MOVE_SEGMENTS (R486): MOVE with OP SEGMENTS appends path segments to a convoy all or none. `port` is the Ethernet
port of the request, `k` the session and `seq` the SEQ of its frame. `limits` is the flag LIMITS, `mask` LMASK and
`lims` LIM[0] to LIM[7], the first lowest. -/
def execMoveSegments (port : Fin 2) (k : Fin 5) (seq : BitVec 32) (convoy : BitVec 8) (segs : List (BitVec 8)) (limits
    : Bool) (mask : BitVec 16) (lims : BitVec 512) (s : State) : Host.Outcome State Fault Refusal :=
  .next (s.onDev fun d => d.lnRun 1 port k seq.toNat 0x30 fun d => d.lnSegments convoy.toNat ⟨limits, mask.toNat, lims.toNat⟩ segs)

/-- MOVE_SHIFT (R486): MOVE with OP SHIFT shifts an axis. `port` is the Ethernet port of the request, `k` the session
and `seq` the SEQ of its frame. `limits` is the flag LIMITS, `mask` LMASK and `lims` LIM[0] to LIM[7], the first
lowest. -/
def execMoveShift (port : Fin 2) (k : Fin 5) (seq : BitVec 32) (axis : BitVec 8) (value : BitVec 64) (limits : Bool)
    (mask : BitVec 16) (lims : BitVec 512) (s : State) : Host.Outcome State Fault Refusal :=
  .next (s.onDev fun d => d.lnRun 1 port k seq.toNat 0x30 fun d => d.lnMoveAxis axis.toNat 7 ⟨limits, mask.toNat, lims.toNat⟩ fun d => d.plShift axis.toNat value.toInt)

/-- MOVE_RESUME (R486): MOVE with OP RESUME resumes an axis or convoy. `port` is the Ethernet port of the request, `k`
the session and `seq` the SEQ of its frame. `limits` is the flag LIMITS, `mask` LMASK and `lims` LIM[0] to LIM[7], the
first lowest. -/
def execMoveResume (port : Fin 2) (k : Fin 5) (seq : BitVec 32) (convoy : Bool) (id : BitVec 8) (limits : Bool) (mask
    : BitVec 16) (lims : BitVec 512) (s : State) : Host.Outcome State Fault Refusal :=
  .next (s.onDev fun d => d.lnRun 1 port k seq.toNat 0x30 fun d => if convoy then d.lnMoveConvoy id.toNat ⟨limits, mask.toNat, lims.toNat⟩ (fun d => d.cyResume id.toNat) else d.lnMoveAxis id.toNat 5 ⟨limits, mask.toNat, lims.toNat⟩ (fun d => d.plResume id.toNat))

/-- STOP_CMD_HOLD (R487): Lanifer STOP with OP HOLD holds an axis, convoy or all. `port` is the Ethernet port of the
request, `k` the session and `seq` the SEQ of its frame. `tgt` is 0 for an axis, 1 for a convoy, 2 for all. -/
def execStopCmdHold (port : Fin 2) (k : Fin 5) (seq : BitVec 32) (tgt id : BitVec 8) (s : State) : Host.Outcome State
    Fault Refusal :=
  .next (s.onDev fun d => d.lnRun 0 port k seq.toNat 0x31 fun d => d.lnStop tgt.toNat id.toNat 4)

/-- STOP_CMD_STOP (R487): Lanifer STOP with OP STOP stops an axis, convoy or all. `port` is the Ethernet port of the
request, `k` the session and `seq` the SEQ of its frame. `tgt` is 0 for an axis, 1 for a convoy, 2 for all. -/
def execStopCmdStop (port : Fin 2) (k : Fin 5) (seq : BitVec 32) (tgt id : BitVec 8) (s : State) : Host.Outcome State
    Fault Refusal :=
  .next (s.onDev fun d => d.lnRun 0 port k seq.toNat 0x31 fun d => d.lnStop tgt.toNat id.toNat 6)

/-- STOP_CMD_QSTOP (R487): Lanifer STOP with OP QSTOP quick-stops an axis, convoy or all. `port` is the Ethernet port
of the request, `k` the session and `seq` the SEQ of its frame. `tgt` is 0 for an axis, 1 for a convoy, 2 for all. -/
def execStopCmdQstop (port : Fin 2) (k : Fin 5) (seq : BitVec 32) (tgt id : BitVec 8) (s : State) : Host.Outcome State
    Fault Refusal :=
  .next (s.onDev fun d => d.lnRun 0 port k seq.toNat 0x31 fun d => d.lnStop tgt.toNat id.toNat 7)

/-- ITIN_FLAGS (R488): ITIN with CODE 0 only sets and clears IT_FLAGS bits. `port` is the Ethernet port of the
request, `k` the session and `seq` the SEQ of its frame. -/
def execItinFlags (port : Fin 2) (k : Fin 5) (seq : BitVec 32) (inst : BitVec 8) (set clr : BitVec 32) (s : State) :
    Host.Outcome State Fault Refusal :=
  .next (s.onDev fun d => d.lnRun 1 port k seq.toNat 0x38 fun d => d.lnItin inst.toNat 0 0 false set clr)

/-- ITIN_START (R488): ITIN with CODE START updates flags and starts an instance. `port` is the Ethernet port of the
request, `k` the session and `seq` the SEQ of its frame. -/
def execItinStart (port : Fin 2) (k : Fin 5) (seq : BitVec 32) (inst state : BitVec 8) (atState : Bool) (set clr :
    BitVec 32) (s : State) : Host.Outcome State Fault Refusal :=
  .next (s.onDev fun d => d.lnRun 1 port k seq.toNat 0x38 fun d => d.lnItin inst.toNat 1 state.toNat atState set clr)

/-- ITIN_PAUSE (R488): ITIN with CODE PAUSE updates flags and pauses an instance. `port` is the Ethernet port of the
request, `k` the session and `seq` the SEQ of its frame. -/
def execItinPause (port : Fin 2) (k : Fin 5) (seq : BitVec 32) (inst : BitVec 8) (set clr : BitVec 32) (s : State) :
    Host.Outcome State Fault Refusal :=
  .next (s.onDev fun d => d.lnRun 0 port k seq.toNat 0x38 fun d => d.lnItin inst.toNat 2 0 false set clr)

/-- ITIN_CONTINUE (R488): ITIN with CODE CONTINUE updates flags and continues an instance. `port` is the Ethernet port
of the request, `k` the session and `seq` the SEQ of its frame. -/
def execItinContinue (port : Fin 2) (k : Fin 5) (seq : BitVec 32) (inst : BitVec 8) (set clr : BitVec 32) (s : State)
    : Host.Outcome State Fault Refusal :=
  .next (s.onDev fun d => d.lnRun 1 port k seq.toNat 0x38 fun d => d.lnItin inst.toNat 4 0 false set clr)

/-- ITIN_ABORT (R488): ITIN with CODE ABORT updates flags and aborts an instance. `port` is the Ethernet port of the
request, `k` the session and `seq` the SEQ of its frame. -/
def execItinAbort (port : Fin 2) (k : Fin 5) (seq : BitVec 32) (inst : BitVec 8) (set clr : BitVec 32) (s : State) :
    Host.Outcome State Fault Refusal :=
  .next (s.onDev fun d => d.lnRun 0 port k seq.toNat 0x38 fun d => d.lnItin inst.toNat 8 0 false set clr)

/-- PULL (R489): PULL returns outbound entries and may claim the queue. `port` is the Ethernet port of the request,
`k` the session and `seq` the SEQ of its frame. `most` is MAX and `first` FROM. -/
def execPull (port : Fin 2) (k : Fin 5) (seq : BitVec 32) (queue : BitVec 8) (claim : Bool) (most : BitVec 16) (first
    : BitVec 32) (s : State) : Host.Outcome State Fault Refusal :=
  .next (s.onDev fun d => d.lnRun 2 port k seq.toNat 0x40 fun d => d.lnPull k queue.toNat claim most.toNat first.toNat)

/-- ACK (R489): ACK frees the claimant's outbound entries up to UPTO. `port` is the Ethernet port of the request, `k`
the session and `seq` the SEQ of its frame. -/
def execAck (port : Fin 2) (k : Fin 5) (seq : BitVec 32) (queue : BitVec 8) (upto : BitVec 32) (s : State) :
    Host.Outcome State Fault Refusal :=
  .next (s.onDev fun d => d.lnRun 2 port k seq.toNat 0x41 fun d => d.lnAck k queue.toNat upto.toNat)

/-- PUSH (R490): PUSH places an entry on Q9, Q10, Q13 or Q15. `port` is the Ethernet port of the request, `k` the
session and `seq` the SEQ of its frame. -/
def execPush (port : Fin 2) (k : Fin 5) (seq : BitVec 32) (queue : BitVec 8) (target : BitVec 32) (payload : List
    (BitVec 8)) (s : State) : Host.Outcome State Fault Refusal :=
  .next (s.onDev fun d => d.lnRun 2 port k seq.toNat 0x42 fun d => d.lnPush queue.toNat target.toNat payload)

/-- FLASH_WRITE (R520): FLASH_WRITE starts programming pages on a flash port, or is refused. `port` is the Ethernet
port of the request, `k` the session and `seq` the SEQ of its frame. -/
def execFlashWrite (port : Fin 2) (k : Fin 5) (seq : BitVec 32) (flash : BitVec 8) (a : BitVec 32) (bs : List (BitVec
    8)) (s : State) : Host.Outcome State Fault Refusal :=
  .next (s.onDev fun d => d.lnRun 3 port k seq.toNat 0x50 fun d => d.lnFlashWrite flash.toNat a.toNat bs)

/-- FLASH_ERASE (R520): FLASH_ERASE starts erasing sectors on a flash port, or is refused. `port` is the Ethernet port
of the request, `k` the session and `seq` the SEQ of its frame. -/
def execFlashErase (port : Fin 2) (k : Fin 5) (seq : BitVec 32) (flash : BitVec 8) (a sectors : BitVec 32) (s : State)
    : Host.Outcome State Fault Refusal :=
  .next (s.onDev fun d => d.lnRun 3 port k seq.toNat 0x51 fun d => d.lnFlashErase flash.toNat a.toNat sectors.toNat)

/-- CLOSE_SESSION (R482): CLOSE_SESSION in QU_LN_CMD closes a session. `k` is the session field of QU_LN_CMD. -/
def execCloseSession (k : BitVec 4) (s : State) : Host.Outcome State Fault Refusal :=
  .next (s.onDev fun d => if 1 ≤ k.toNat ∧ k.toNat ≤ 4 then d.sesClose k.toNat else d)

/-- LN_CLEAR_CNT (R495): CLEAR_CNT in QU_LN_CMD clears QU_LN_CNT and every QU_LOST. -/
def execLnClearCnt (s : State) : Host.Outcome State Fault Refusal :=
  .next (s.onDev fun d => d.lnClear)

end Sys2Proof.Machine
end

