-- ==== Sys2Proof/Machine/RowsLedger.lean ====
section
/-! DEFINITION. The meanings of the commands of the ledger and the keyed test space (R352–R371), one per row of the table. -/

namespace Sys2Proof.Machine

/-- LEDGER_MESSAGE (R352): The ledger takes a message, stamps, records, counts it and carries out its reaction. The
message is the oldest that waits. -/
def execLedgerMessage (s : State) : Host.Outcome State Fault Refusal :=
  .next (s.onDev fun d => d.lgTake)

/-- RECOVER (R363): A fenced unit's quiet period passes and it recovers. `c` and `n` are the CLASS and INSTANCE of the
fenced unit. -/
def execRecover (c n : BitVec 8) (s : State) : Host.Outcome State Fault Refusal :=
  .next (s.onDev fun d => d.lgRecover c.toNat n.toNat)

/-- LG_CLEAR_CNT (R368): CLEAR_CNT in LG_CMD clears message counts, LG_Q7_LOST and LG_INJ. -/
def execLgClearCnt (s : State) : Host.Outcome State Fault Refusal :=
  .next (s.onDev fun d => d.lgClear)

/-- RELEASE (R357): RELEASE in LG_CMD clears an OFF axis's hold-off, or is refused NOT_OFF. `k` is the axis field of
LG_CMD. -/
def execRelease (k : BitVec 8) (s : State) : Host.Outcome State Fault Refusal :=
  .next (s.onDev fun d => d.lgRelease k.toNat)

/-- RELEASE_ALL (R357): RELEASE_ALL clears the hold-off of every OFF axis. -/
def execReleaseAll (s : State) : Host.Outcome State Fault Refusal :=
  .next (s.onDev fun d => d.lgReleaseAll)

/-- CLEAR_SAFE (R358): CLEAR_SAFE clears SAFE when every axis is OFF, or is refused. -/
def execClearSafe (s : State) : Host.Outcome State Fault Refusal :=
  .next (s.onDev fun d => d.clearSafe)

/-- LG_CLOSE (R370): CLOSE in LG_CMD closes the keyed test space. -/
def execLgClose (s : State) : Host.Outcome State Fault Refusal :=
  .next (s.onDev fun d => d.testClose)

/-- KEY_NONCE_READ (R369): A read of LG_KEY_NONCE returns a nonce and draws a new one. -/
def execKeyNonceRead (path : Fin 36) (s : State) : Host.Outcome State Fault Refusal :=
  .next (s.onDev fun d => (d.nonceRead path).2)

/-- LG_KEY_WRITE (R369): A write of LG_KEY opens the keyed test space if every condition holds, or is refused. -/
def execLgKeyWrite (path : Fin 36) (v : BitVec 32) (s : State) : Host.Outcome State Fault Refusal :=
  .next (s.onDev fun d => d.keyWrite path v.toNat)

/-- TEST_SPACE_TIMEOUT (R370): TEST_TMO seconds pass without an injection write and the test space closes. -/
def execTestSpaceTimeout (s : State) : Host.Outcome State Fault Refusal :=
  .next (s.onDev fun d => d.testTimeout)

/-- INJ_FIRE (R371): A write of INJ_FIRE sets the number of injections, or is refused SERVICE for tollgate points.
`c`, `n` and `k` are the CLASS, INSTANCE and KIND of the injection point. -/
def execInjFire (c n : BitVec 8) (k : BitVec 6) (count : BitVec 8) (s : State) : Host.Outcome State Fault Refusal :=
  .next (s.onDev fun d => d.injFire c.toNat n.toNat k.toNat count.toNat)

end Sys2Proof.Machine
end

