-- ==== Sys2Proof/Machine/RowsMac.lean ====
section
/-! DEFINITION. The meanings of the commands of the MAC slot of an instruction word (R139, R140), one per row of the table. -/

namespace Sys2Proof.Machine

/-- MNOP (R139): The MAC-slot no-operation. `alu` and `mv` are the two companion slots of the word. -/
def execMnop (e : Fin 28) (a : Fin 4) (x y : Fin 32) (clr neg : Bool) (alu : BitVec 20) (mv : BitVec 24) (s : State) :
    Host.Outcome State Fault Refusal :=
  .next (s.onDev fun d => d.issue e (wordOf (macSlot 0 a x y (b2n clr) (b2n neg)) alu.toNat mv.toNat))

/-- MAC (R139): Adds the signed product x0*y0 to an accumulator. `alu` and `mv` are the two companion slots of the
word. -/
def execMac (e : Fin 28) (a : Fin 4) (x y : Fin 32) (clr neg : Bool) (alu : BitVec 20) (mv : BitVec 24) (s : State) :
    Host.Outcome State Fault Refusal :=
  .next (s.onDev fun d => d.issue e (wordOf (macSlot 1 a x y (b2n clr) (b2n neg)) alu.toNat mv.toNat))

/-- MACU (R139): Adds the unsigned-by-signed product x0*y0 to an accumulator. `alu` and `mv` are the two companion
slots of the word. -/
def execMacu (e : Fin 28) (a : Fin 4) (x y : Fin 32) (clr neg : Bool) (alu : BitVec 20) (mv : BitVec 24) (s : State) :
    Host.Outcome State Fault Refusal :=
  .next (s.onDev fun d => d.issue e (wordOf (macSlot 2 a x y (b2n clr) (b2n neg)) alu.toNat mv.toNat))

/-- MAC2 (R139): Adds a two-term dot product of register pairs to an accumulator. `alu` and `mv` are the two companion
slots of the word. -/
def execMac2 (e : Fin 28) (a : Fin 4) (x y : Fin 32) (clr neg : Bool) (alu : BitVec 20) (mv : BitVec 24) (s : State) :
    Host.Outcome State Fault Refusal :=
  .next (s.onDev fun d => d.issue e (wordOf (macSlot 3 a x y (b2n clr) (b2n neg)) alu.toNat mv.toNat))

/-- MDOT4 (R139): Adds a four-term dot product of register quads to an accumulator. `alu` and `mv` are the two
companion slots of the word. -/
def execMdot4 (e : Fin 28) (a : Fin 4) (x y : Fin 32) (clr neg : Bool) (alu : BitVec 20) (mv : BitVec 24) (s : State)
    : Host.Outcome State Fault Refusal :=
  .next (s.onDev fun d => d.issue e (wordOf (macSlot 4 a x y (b2n clr) (b2n neg)) alu.toNat mv.toNat))

/-- MBC4 (R139): Adds x0 times each of four coefficients to the four accumulators. `alu` and `mv` are the two
companion slots of the word. -/
def execMbc4 (e : Fin 28) (a : Fin 4) (x y : Fin 32) (clr neg : Bool) (alu : BitVec 20) (mv : BitVec 24) (s : State) :
    Host.Outcome State Fault Refusal :=
  .next (s.onDev fun d => d.issue e (wordOf (macSlot 5 a x y (b2n clr) (b2n neg)) alu.toNat mv.toNat))

/-- MROT (R140): Adds the forward rotation of a pair to two accumulators. `alu` and `mv` are the two companion slots
of the word. -/
def execMrot (e : Fin 28) (a : Fin 4) (x y : Fin 32) (clr neg : Bool) (alu : BitVec 20) (mv : BitVec 24) (s : State) :
    Host.Outcome State Fault Refusal :=
  .next (s.onDev fun d => d.issue e (wordOf (macSlot 6 a x y (b2n clr) (b2n neg)) alu.toNat mv.toNat))

/-- MROTI (R140): Adds the inverse rotation of a pair to two accumulators. `alu` and `mv` are the two companion slots
of the word. -/
def execMroti (e : Fin 28) (a : Fin 4) (x y : Fin 32) (clr neg : Bool) (alu : BitVec 20) (mv : BitVec 24) (s : State)
    : Host.Outcome State Fault Refusal :=
  .next (s.onDev fun d => d.issue e (wordOf (macSlot 7 a x y (b2n clr) (b2n neg)) alu.toNat mv.toNat))

/-- MADDS (R139): Adds a shifted sign-extended register to an accumulator. `alu` and `mv` are the two companion slots
of the word. -/
def execMadds (e : Fin 28) (a : Fin 4) (x y : Fin 32) (clr neg : Bool) (alu : BitVec 20) (mv : BitVec 24) (s : State)
    : Host.Outcome State Fault Refusal :=
  .next (s.onDev fun d => d.issue e (wordOf (macSlot 8 a x y (b2n clr) (b2n neg)) alu.toNat mv.toNat))

end Sys2Proof.Machine
end

