-- ==== Sys2Proof/Machine/RowsMemory.lean ====
section
/-! DEFINITION. The meanings of the commands of memory management (R380–R390), one per row of the table. -/

namespace Sys2Proof.Machine

/-- SCRUB_READ (R384): The scrubber reads its next bytes at its even rate and handles errors. -/
def execScrubRead (s : State) : Host.Outcome State Fault Refusal :=
  .next (s.onDev fun d => d.scrubRead)

/-- SCRUB_NOW (R385): SCRUB_NOW starts a new scrub pass at once. -/
def execScrubNow (s : State) : Host.Outcome State Fault Refusal :=
  .next (s.onDev fun d => d.scrubStart)

/-- MEM_RETIRE (R389): RETIRE in GL_MEM_CMD starts copying a bulk page to a spare, or is refused. -/
def execMemRetire (s : State) : Host.Outcome State Fault Refusal :=
  .next (s.onDev fun d => d.memRetire)

/-- PAGE_COPY_DONE (R390): A page copy completes, the page map switches and RETIRED is raised. -/
def execPageCopyDone (s : State) : Host.Outcome State Fault Refusal :=
  .next (s.onDev fun d => d.pageCopied)

/-- MEM_CLEAR_CNT (R380): CLEAR_CNT in GL_MEM_CMD clears GL_MEM_CNT. -/
def execMemClearCnt (s : State) : Host.Outcome State Fault Refusal :=
  .next (s.onDev fun d => d.memClear)

end Sys2Proof.Machine
end

