-- ==== Sys2Proof/Machine/RowsMilestone.lean ====
section
/-! DEFINITION. The meanings of the commands of milestones and latches (R210–R232), one per row of the table. -/

namespace Sys2Proof.Machine

/-- REFILL_RECORD (R212): A Q13 refill record is appended to a milestone list whole, or refused whole. The record is
the oldest entry of Q13. -/
def execRefillRecord (s : State) : Host.Outcome State Fault Refusal :=
  .next (s.onDev fun d => d.msTake)

/-- MS_FLUSH (R210): FLUSH in MS_CMD empties the milestone list and withdraws scheduled pulses. -/
def execMsFlush (m : Fin 16) (s : State) : Host.Outcome State Fault Refusal :=
  .next (s.onDev fun d => d.msFlush m)

/-- FORCE (R223): FORCE in MS_CMD fires one pulse at once and sends a FORCED event. -/
def execForce (m : Fin 16) (s : State) : Host.Outcome State Fault Refusal :=
  .next (s.onDev fun d => d.msForce m)

/-- SKIP (R220): SKIP in MS_CMD removes the head entry without an event and withdraws its pulses. -/
def execSkip (m : Fin 16) (s : State) : Host.Outcome State Fault Refusal :=
  .next (s.onDev fun d => d.msSkip m)

/-- MS_CTRL_WRITE (R223): A write of MS_CTRL arms or disarms the milestone, ignored for locked fields while EN is 1.
-/
def execMsCtrlWrite (m : Fin 16) (v : BitVec 32) (s : State) : Host.Outcome State Fault Refusal :=
  .next (s.onDev fun d => d.msCtrlWrite m v.toNat)

/-- PULSE_FIRE (R222): A scheduled pulse tick is reached and MSk_OUT goes active. -/
def execPulseFire (m : Fin 16) (s : State) : Host.Outcome State Fault Refusal :=
  .next (s.onDev fun d => d.msPulseFire m)

/-- PULSE_END (R222): WIDTH ticks after the latest fire, MSk_OUT goes inactive. -/
def execPulseEnd (m : Fin 16) (s : State) : Host.Outcome State Fault Refusal :=
  .next (s.onDev fun d => d.msPulseEnd m)

/-- LATCH_EDGE (R228): An accepted latch edge is stamped and a capture starts, or is dropped. -/
def execLatchEdge (u : Fin 16) (falling : Bool) (s : State) : Host.Outcome State Fault Refusal :=
  .next (s.onDev fun d => d.ltPin u falling)

/-- CAPTURE_COMPLETE (R230): Every used capture slot has its value and the latch record is sent to Q14. -/
def execCaptureComplete (u : Fin 16) (s : State) : Host.Outcome State Fault Refusal :=
  .next (s.onDev fun d => d.ltComplete u)

/-- REARM (R232): REARM in LT_CMD arms a SINGLE latch unit again. -/
def execRearm (u : Fin 16) (s : State) : Host.Outcome State Fault Refusal :=
  .next (s.onDev fun d => d.ltRearm u)

/-- LT_CLEAR_CNT (R231): CLEAR_CNT in LT_CMD clears LT_COUNT and LT_DROP. -/
def execLtClearCnt (u : Fin 16) (s : State) : Host.Outcome State Fault Refusal :=
  .next (s.onDev fun d => d.ltClear u)

/-- LT_CTRL_WRITE (R232): A write of LT_CTRL enables or disables the unit, ignored for locked fields while EN is 1. -/
def execLtCtrlWrite (u : Fin 16) (v : BitVec 32) (s : State) : Host.Outcome State Fault Refusal :=
  .next (s.onDev fun d => d.ltCtrlWrite u v.toNat)

end Sys2Proof.Machine
end

