-- ==== Sys2Proof/Machine/RowsModulator.lean ====
section
/-! DEFINITION. The meanings of the commands of the modulator (R272–R295), one per row of the table. -/

namespace Sys2Proof.Machine

/-- PERIOD_START (R277): A carrier period starts, a committed set transfers and the dither count advances. -/
def execPeriodStart (k : Fin 12) (s : State) : Host.Outcome State Fault Refusal :=
  .next (s.onDev fun d => d.periodStart k)

/-- PERIOD_MIDDLE (R282): With UPD_HALF the period middle transfers a committed set. -/
def execPeriodMiddle (k : Fin 12) (s : State) : Host.Outcome State Fault Refusal :=
  .next (s.onDev fun d => d.periodMiddle k)

/-- CHOP (R280): A chop trip input accepted after BLANK ends the on-time of a constant off-time carrier. -/
def execChop (k : Fin 12) (s : State) : Host.Outcome State Fault Refusal :=
  .next (s.onDev fun d => d.chop k)

/-- TRIP_INPUT (R292): A trip input is accepted active, latches its source and forces its pairs inactive. -/
def execTripInput (m : Fin 8) (s : State) : Host.Outcome State Fault Refusal :=
  .next (s.onDev fun d => d.tripInput m)

/-- SOFT_TRIP (R292): A write of MD_SOFT_TRIP latches soft trip sources. -/
def execSoftTrip (v : BitVec 32) (s : State) : Host.Outcome State Fault Refusal :=
  .next (s.onDev fun d => d.softTrip v.toNat)

/-- TRIP_CLEAR (R295): A write of MD_TRIP_CLEAR clears a latched source, or is refused while its input is active. -/
def execTripClear (v : BitVec 32) (s : State) : Host.Outcome State Fault Refusal :=
  .next (s.onDev fun d => d.tripClear v.toNat)

/-- PAIR_COMMIT (R288): COMMIT in MD_PAIR_CMD commits an unbound pair's shadow set, or a bound pair's period at the
next staged result. `outHi` is bit 1 of the word written to MD_PAIR_CMD. -/
def execPairCommit (p : Fin 12) (outHi : Bool) (s : State) : Host.Outcome State Fault Refusal :=
  .next (s.onDev fun d => d.pairCommit p outHi)

/-- MB_COMMIT (R285): COMMIT in AX_MB_CMD applies AX_MB_CARRIER at the next boundary. -/
def execMbCommit (k : Fin 192) (s : State) : Host.Outcome State Fault Refusal :=
  .next (s.onDev fun d => d.mbCommit k)

/-- MB_BINDING_WRITE (R272): A write of AX_MB_CTRL, AX_MB_PAIRS or AX_MB_CHAN changes the binding while OFF, or is
ignored. `reg` names AX_MB_CTRL, AX_MB_PAIRS or AX_MB_CHAN. -/
def execMbBindingWrite (k : Fin 192) (reg : Fin 3) (v : BitVec 32) (s : State) : Host.Outcome State Fault Refusal :=
  .next (s.onDev fun d => d.mbWrite k reg v.toNat)

/-- COMPARE_MATCH (R277): Within a carrier period the internal switching signal W becomes active or inactive at its
compare tick. -/
def execCompareMatch (k : Fin 12) (s : State) : Host.Outcome State Fault Refusal :=
  .next (s.onDev fun d => d.compareMatch k)

/-- DEAD_TIME_END (R281): DT ticks after W changes state, the complementary output becomes active if W has kept its
state. -/
def execDeadTimeEnd (k : Fin 12) (s : State) : Host.Outcome State Fault Refusal :=
  .next (s.onDev fun d => d.deadTimeEnd k)

/-- TRIP_INACTIVE (R290): A trip input's filtered level returns to inactive, so a later clear of its source is no
longer refused. -/
def execTripInactive (m : Fin 8) (s : State) : Host.Outcome State Fault Refusal :=
  .next (s.onDev fun d => d.tripInactive m)

end Sys2Proof.Machine
end

