-- ==== Sys2Proof/Machine/RowsMove.lean ====
section
/-! DEFINITION. The meanings of the commands of the move slot of an instruction word (R142, R143), one per row of the table. -/

namespace Sys2Proof.Machine

/-- MOVE_NOP (R142): The move-slot no-operation. `mac` and `alu` are the two companion slots of the word. -/
def execMoveNop (e : Fin 28) (mac alu : BitVec 20) (s : State) : Host.Outcome State Fault Refusal :=
  .next (s.onDev fun d => d.issue e (wordOf mac.toNat alu.toNat (lowSlot 0 0)))

/-- LD (R142): Loads one word from data memory with post-increment. `mac` and `alu` are the two companion slots of the
word. -/
def execLd (e : Fin 28) (g : Fin 32) (p : Fin 8) (inc : BitVec 8) (mac alu : BitVec 20) (s : State) : Host.Outcome
    State Fault Refusal :=
  .next (s.onDev fun d => d.issue e (wordOf mac.toNat alu.toNat (ldSlot 1 g p inc.toNat)))

/-- LDP (R142): Loads a word pair from data memory. `mac` and `alu` are the two companion slots of the word. -/
def execLdp (e : Fin 28) (g : Fin 32) (p : Fin 8) (inc : BitVec 8) (mac alu : BitVec 20) (s : State) : Host.Outcome
    State Fault Refusal :=
  .next (s.onDev fun d => d.issue e (wordOf mac.toNat alu.toNat (ldSlot 2 g p inc.toNat)))

/-- LDQ (R142): Loads a word quad from data memory. `mac` and `alu` are the two companion slots of the word. -/
def execLdq (e : Fin 28) (g : Fin 32) (p : Fin 8) (inc : BitVec 8) (mac alu : BitVec 20) (s : State) : Host.Outcome
    State Fault Refusal :=
  .next (s.onDev fun d => d.issue e (wordOf mac.toNat alu.toNat (ldSlot 3 g p inc.toNat)))

/-- ST (R142): Stores one word to data memory. `mac` and `alu` are the two companion slots of the word. -/
def execSt (e : Fin 28) (g : Fin 32) (p : Fin 8) (inc : BitVec 8) (mac alu : BitVec 20) (s : State) : Host.Outcome
    State Fault Refusal :=
  .next (s.onDev fun d => d.issue e (wordOf mac.toNat alu.toNat (ldSlot 4 g p inc.toNat)))

/-- STP (R142): Stores a word pair to data memory. `mac` and `alu` are the two companion slots of the word. -/
def execStp (e : Fin 28) (g : Fin 32) (p : Fin 8) (inc : BitVec 8) (mac alu : BitVec 20) (s : State) : Host.Outcome
    State Fault Refusal :=
  .next (s.onDev fun d => d.issue e (wordOf mac.toNat alu.toNat (ldSlot 5 g p inc.toNat)))

/-- STQ (R142): Stores a word quad to data memory. `mac` and `alu` are the two companion slots of the word. -/
def execStq (e : Fin 28) (g : Fin 32) (p : Fin 8) (inc : BitVec 8) (mac alu : BitVec 20) (s : State) : Host.Outcome
    State Fault Refusal :=
  .next (s.onDev fun d => d.issue e (wordOf mac.toNat alu.toNat (ldSlot 6 g p inc.toNat)))

/-- LDXY (R143): Loads two quads through two pointers with coded increments. `mac` and `alu` are the two companion
slots of the word. -/
def execLdxy (e : Fin 28) (qx a qy b ia ib : Fin 8) (mac alu : BitVec 20) (s : State) : Host.Outcome State Fault
    Refusal :=
  .next (s.onDev fun d => d.issue e (wordOf mac.toNat alu.toNat (ldxySlot qx a qy b ia ib)))

/-- LDI (R142): Loads a sign-extended immediate into a register. `mac` and `alu` are the two companion slots of the
word. -/
def execLdi (e : Fin 28) (rd : Fin 32) (imm : BitVec 14) (mac alu : BitVec 20) (s : State) : Host.Outcome State Fault
    Refusal :=
  .next (s.onDev fun d => d.issue e (wordOf mac.toNat alu.toNat (ldiSlot rd imm.toNat)))

/-- MVA (R142): Moves a register into a pointer, base or length. `mac` and `alu` are the two companion slots of the
word. -/
def execMva (e : Fin 28) (cl : Fin 3) (k : Fin 8) (rs : Fin 32) (mac alu : BitVec 20) (s : State) : Host.Outcome State
    Fault Refusal :=
  .next (s.onDev fun d => d.issue e (wordOf mac.toNat alu.toNat (mvaSlot cl k rs)))

/-- MVG (R142): Moves a pointer, base or length into a register. `mac` and `alu` are the two companion slots of the
word. -/
def execMvg (e : Fin 28) (rd : Fin 32) (cl : Fin 3) (k : Fin 8) (mac alu : BitVec 20) (s : State) : Host.Outcome State
    Fault Refusal :=
  .next (s.onDev fun d => d.issue e (wordOf mac.toNat alu.toNat (mvgSlot rd cl k)))

/-- STAGE (R162): Makes a slot's outbox the staged result of the beat. `mac` and `alu` are the two companion slots of
the word. -/
def execStage (e : Fin 28) (rs : Fin 32) (mac alu : BitVec 20) (s : State) : Host.Outcome State Fault Refusal :=
  .next (s.onDev fun d => d.issue e (wordOf mac.toNat alu.toNat (srcSlot 11 rs)))

/-- CKPT (R163): Starts the copy of a slot's state vector to its checkpoint buffer. `mac` and `alu` are the two
companion slots of the word. -/
def execCkpt (e : Fin 28) (rs : Fin 32) (mac alu : BitVec 20) (s : State) : Host.Outcome State Fault Refusal :=
  .next (s.onDev fun d => d.issue e (wordOf mac.toNat alu.toNat (srcSlot 12 rs)))

/-- HBEAT (R164): Sends the heartbeat word with sequence number and signature. `mac` and `alu` are the two companion
slots of the word. -/
def execHbeat (e : Fin 28) (rs : Fin 32) (mac alu : BitVec 20) (s : State) : Host.Outcome State Fault Refusal :=
  .next (s.onDev fun d => d.issue e (wordOf mac.toNat alu.toNat (srcSlot 13 rs)))

/-- BLD (R150): Starts a bulk load from a device address into data memory. `mac` and `alu` are the two companion slots
of the word. -/
def execBld (e : Fin 28) (p : Fin 8) (rs rl : Fin 32) (mac alu : BitVec 20) (s : State) : Host.Outcome State Fault
    Refusal :=
  .next (s.onDev fun d => d.issue e (wordOf mac.toNat alu.toNat (bulkSlot 14 p rs rl)))

/-- BST (R150): Starts a bulk store from data memory to a device address. `mac` and `alu` are the two companion slots
of the word. -/
def execBst (e : Fin 28) (p : Fin 8) (rs rl : Fin 32) (mac alu : BitVec 20) (s : State) : Host.Outcome State Fault
    Refusal :=
  .next (s.onDev fun d => d.issue e (wordOf mac.toNat alu.toNat (bulkSlot 15 p rs rl)))

/-- BSYNC (R147): Waits until no bulk transfer is in progress. `mac` and `alu` are the two companion slots of the
word. -/
def execBsync (e : Fin 28) (mac alu : BitVec 20) (s : State) : Host.Outcome State Fault Refusal :=
  .next (s.onDev fun d => d.issue e (wordOf mac.toNat alu.toNat (srcSlot 16 0)))

/-- LEDG (R351): Sends a 64-bit ledger message from a register pair. `mac` and `alu` are the two companion slots of
the word. -/
def execLedg (e : Fin 28) (rs : Fin 32) (mac alu : BitVec 20) (s : State) : Host.Outcome State Fault Refusal :=
  .next (s.onDev fun d => d.issue e (wordOf mac.toNat alu.toNat (srcSlot 17 rs)))

/-- MBXS (R497): Places the MBX_OUT descriptor on Q15. `mac` and `alu` are the two companion slots of the word. -/
def execMbxs (e : Fin 28) (mac alu : BitVec 20) (s : State) : Host.Outcome State Fault Refusal :=
  .next (s.onDev fun d => d.issue e (wordOf mac.toNat alu.toNat (srcSlot 18 0)))

end Sys2Proof.Machine
end

