-- ==== Sys2Proof/Machine/Package.lean ====
section
/-! DEFINITION. The package: supplies and resets from outside (R536, R543, R544), the temperature sensor (R554) and the JTAG
port (R557, R558). -/

namespace Sys2Proof.Machine

/-- The package's state changed. -/
def Device.setPkg (d : Device) (f : Package → Package) : Device := { d with pkg := f d.pkg }

/-! ### Supplies (R543, R544) -/

/-- POWER_ON_RELEASE (R543): the power-on reset releases, and each bank takes the class of its supply; `above` has a bit
set for each bank whose VDDIO exceeds 2.5 V. -/
def Device.porRelease (d : Device) (above : BitVec 9) : Device :=
  if d.pkg.porHold then
    (d.setPkg fun p => { p with porHold := false, above := above }).put GL_IO_BANK_V18 (511 - above.toNat)
  else d

/-- SUPPLY_LOW (R543): the device resets with the power-on cause and is held until its supplies are good again. -/
def Device.supplyLow (d : Device) : Device := (d.reset 1).setPkg fun p => { p with porHold := true }

/-- RESET_N held low for 1 µs or more (R536). -/
def Device.resetPin (d : Device) : Device := d.reset 2

/-- One measurement of VCORE (R544). -/
def Device.vcoreMeasured (d : Device) (mv : Nat) : Device :=
  let bad := decide (mv < 720) || decide (880 < mv)
  let run := if bad then 0 else d.pkg.vcoreRun + 1
  let out := bad || (d.pkg.vcoreOut && decide (run < 10))
  let d1 := d.setPkg fun p => { p with vcoreOut := out, vcoreRun := min 10 run }
  d1.detect 0 0 1 (bad && !d.pkg.vcoreOut) mv (fun d => d.raise GL_HEALTH_EVENT_VCORE)

/-- One measurement of a bank's VDDIO, below its operating range or not (R544). -/
def Device.vddioMeasured (d : Device) (b : Nat) (low : Bool) : Device :=
  let was := bit d.pkg.bankLow b
  let run := if low then 0 else d.pkg.bankRun.pick 0 b + 1
  let out := low || (was && decide (run < 10))
  let d1 := d.setPkg fun p => { p with bankLow := setBit p.bankLow b out, bankRun := p.bankRun.upd 0 b (fun _ => min 10 run) }
  if low && !was then (d1.raise GL_HEALTH_EVENT_VDDIO).msg 0 0 2 b else d1

/-- VMON_MEASURE (R544): the supplies measured, `low` with a bit for each bank below its operating range. -/
def Device.vmonMeasure (d : Device) (vcore vddpll : Nat) (low : BitVec 9) : Device :=
  let d1 := ((d.put GL_VMON_VCORE vcore).put GL_VMON_VDDPLL vddpll).vcoreMeasured vcore
  let d2 := (List.range 9).foldl (fun d b => d.vddioMeasured b (bit low.toNat b)) d1
  (d2.detect 0 0 2 false 0 (fun d => d.raise GL_HEALTH_EVENT_VDDIO)).put GL_IO_BANK_LOW low.toNat

/-! ### Temperature (R554) -/

/-- TEMP_MEASURE (R554): Tj in 1/128 °C. -/
def Device.tempMeasure (d : Device) (tj : BitVec 16) : Device :=
  let t : Int := tj.toInt
  let peak := if d.pkg.tempSeen then max t (d.getS GL_TEMP_PEAK) else t
  let high := decide (t > 105 * 128) || (d.pkg.tempHigh && decide (t > 103 * 128))
  let crit := decide (t > 115 * 128) || (d.pkg.tempCrit && decide (t > 113 * 128))
  let d1 := (d.put GL_TEMP_TJ tj.toNat).put GL_TEMP_PEAK (ofS 16 peak)
  let d2 := d1.setPkg fun p => { p with tempSeen := true, tempHigh := high, tempCrit := crit }
  let dt := ofS 32 t
  let d3 := d2.detect 0 0 3 (high && !d.pkg.tempHigh) dt (fun d => d.raise GL_HEALTH_EVENT_TEMP_HIGH)
  d3.detect 0 0 4 (crit && !d.pkg.tempCrit) dt (fun d => d.raise GL_HEALTH_EVENT_TEMP_CRIT)

/-! ### The TAP (R557) -/

/-- An instruction in effect.  DEVICE_RESET's hold ends when an instruction other than it, EXTEST, CLAMP and HIGHZ is
loaded; the cells drive, or leave, the pins only under EXTEST, CLAMP or HIGHZ. -/
def Device.tapLoad (d : Device) (code : Nat) : Device :=
  let keep := code == 0 || code == 3 || code == 4 || code == 0x10
  d.setPkg fun p => { p with ir := code, jtagHold := p.jtagHold && keep, driven := code == 0 || code == 3, highz := code == 4 }

/-- What the selected data register captures. -/
def Device.tapCapture (d : Device) (v : BitVec 317) : Device := d.setPkg fun p => { p with dr := v }

/-- BYPASS, and every code that acts as it. -/
def Device.tapBypass (d : Device) : Device := (d.tapLoad 0xFF).tapCapture 0

/-- The code of IDCODE (R557). -/
def idcode : Nat := 0x1C192B4F

/-- IDCODE, also selected after a TAP reset. -/
def Device.tapIdcode (d : Device) : Device := (d.tapLoad 2).tapCapture (BitVec.ofNat 317 idcode)

/-- The cells of the TKk_STO_N balls, which only observe, numbered in the order of R540. -/
def stoCells : BitVec 317 := BitVec.ofNat 317 ((List.range 16).foldl (fun n k => n + 2 ^ (6 * k + 5)) 0)

/-- EXTEST: the cells capture the pins and then drive them, but for the STO_N lines, which stay low. -/
def Device.tapExtest (d : Device) (pins scan : BitVec 317) : Device :=
  if d.pkg.jtagHold then
    ((d.tapLoad 0).tapCapture (pins &&& ~~~stoCells)).setPkg fun p => { p with bsr := scan &&& ~~~stoCells }
  else d.tapBypass

/-- SAMPLE/PRELOAD: the cells capture the pins and hold what is scanned in, without disturbing the pins. -/
def Device.tapSample (d : Device) (pins scan : BitVec 317) : Device :=
  ((d.tapLoad 1).tapCapture pins).setPkg fun p => { p with bsr := scan &&& ~~~stoCells }

/-- CLAMP: as EXTEST, with the bypass register selected. -/
def Device.tapClamp (d : Device) : Device :=
  if d.pkg.jtagHold then (d.tapLoad 3).tapCapture 0 else d.tapBypass

/-- HIGHZ: under DEVICE_RESET only. -/
def Device.tapHighz (d : Device) : Device :=
  if d.pkg.jtagHold then (d.tapLoad 4).tapCapture 0 else d.tapBypass

/-- DEVICE_RESET: the logic side resets and is held in reset. -/
def Device.tapReset (d : Device) : Device :=
  let d1 := if d.pkg.jtagHold then d else (d.reset 8).setPkg fun p => { p with jtagHold := true }
  d1.tapLoad 0x10

/-! ### REG_ACCESS (R558) -/

/-- The result of an access in the REG_ACCESS data register. -/
def accWord (code addr : Nat) (data : BitVec 32) : BitVec 66 := BitVec.ofNat 66 (code * 2 ^ 64 + addr % 2 ^ 32 * 2 ^ 32 + data.toNat)

/-- The access that REG_ACCESS carries out at Update-DR: OP, address and data.  What the data field holds after a write, and
after a read that found its flash port busy, is a free value. -/
def Device.regAccess (d : Device) (op addr : Nat) (v : BitVec 32) : Device :=
  let done := fun (d : Device) (code : Nat) (data : BitVec 32) => d.setPkg fun p => { p with acc := accWord code addr data }
  if op = 1 then
    let (x, code, d1) := d.busRead pathJtag addr
    if code = 1 then
      let (y, d2) := d1.fresh
      done d2 1 (y.truncate 32)
    else done d1 code x
  else if op = 2 then
    let (code, d1) := d.busWrite pathJtag addr v
    let (y, d2) := d1.fresh
    done d2 code (y.truncate 32)
  else d

/-- REG_ACCESS: the data register captures the result of the access before, and at Update-DR the next one is carried out
if the logic side is out of reset. -/
def Device.tapAccess (d : Device) (word : BitVec 66) : Device :=
  let d1 := (d.tapLoad 0x11).tapCapture (d.pkg.acc.setWidth 317)
  if d1.inReset then d1 else d1.regAccess (bits word.toNat 64 2) (bits word.toNat 32 32) (word.setWidth 32)

end Sys2Proof.Machine
end

