-- ==== Sys2Proof/Machine/RowsPackage.lean ====
section
/-! DEFINITION. The meanings of the commands of measurements and the JTAG port (R544–R558), one per row of the table. -/

namespace Sys2Proof.Machine

/-- VMON_MEASURE (R544): Each millisecond the supplies are measured and excursions reported. `low` has a bit for each
bank below its operating range. -/
def execVmonMeasure (vcore vddpll : BitVec 16) (low : BitVec 9) (s : State) : Host.Outcome State Fault Refusal :=
  .next (s.onDev fun d => d.vmonMeasure vcore.toNat vddpll.toNat low)

/-- TEMP_MEASURE (R554): Each millisecond Tj is measured and high or critical excursions reported. `tj` is Tj in 1/128
°C. -/
def execTempMeasure (tj : BitVec 16) (s : State) : Host.Outcome State Fault Refusal :=
  .next (s.onDev fun d => d.tempMeasure tj)

/-- TAP_RESET (R557): TRST_N resets the JTAG TAP to Test-Logic-Reset. Test-Logic-Reset selects IDCODE. -/
def execTapReset (s : State) : Host.Outcome State Fault Refusal :=
  .next (s.onPins fun d => d.tapIdcode)

/-- EXTEST (R557): EXTEST drives and captures boundary scan under DEVICE_RESET. `pins` are the levels of the pins,
`scan` the bits shifted in. -/
def execExtest (pins scan : BitVec 317) (s : State) : Host.Outcome State Fault Refusal :=
  .next (s.onPins fun d => d.tapExtest pins scan)

/-- SAMPLE_PRELOAD (R557): SAMPLE/PRELOAD captures boundary scan without disturbing pins. `pins` are the levels of the
pins, `scan` the bits shifted in. -/
def execSamplePreload (pins scan : BitVec 317) (s : State) : Host.Outcome State Fault Refusal :=
  .next (s.onPins fun d => d.tapSample pins scan)

/-- IDCODE (R557): IDCODE selects the device identification register. -/
def execIdcode (s : State) : Host.Outcome State Fault Refusal :=
  .next (s.onPins fun d => d.tapIdcode)

/-- JTAG_CLAMP (R557): CLAMP drives boundary scan with the bypass register selected. -/
def execJtagClamp (s : State) : Host.Outcome State Fault Refusal :=
  .next (s.onPins fun d => d.tapClamp)

/-- HIGHZ (R557): HIGHZ places boundary-scan outputs in high impedance under DEVICE_RESET. -/
def execHighz (s : State) : Host.Outcome State Fault Refusal :=
  .next (s.onPins fun d => d.tapHighz)

/-- DEVICE_RESET (R557): DEVICE_RESET resets the logic side and holds it in reset. -/
def execDeviceReset (s : State) : Host.Outcome State Fault Refusal :=
  .next (s.onPins fun d => d.tapReset)

/-- REG_ACCESS (R558): At Update-DR the REG_ACCESS register carries out one register or memory access. `word` is what
was shifted in: OP, address and data. -/
def execRegAccess (word : BitVec 66) (s : State) : Host.Outcome State Fault Refusal :=
  .next (s.onPins fun d => d.tapAccess word)

/-- BYPASS (R557): BYPASS selects the one-bit bypass register. -/
def execBypass (s : State) : Host.Outcome State Fault Refusal :=
  .next (s.onPins fun d => d.tapBypass)

end Sys2Proof.Machine
end

