-- ==== Sys2Proof/Machine/RowsPlanner.lean ====
section
/-! DEFINITION. The meanings of the commands of the route planner (R42–R60), one per row of the table. -/

namespace Sys2Proof.Machine

/-- GO (R48): GO in AX_PL_CMD re-plans toward AX_PL_TARGET from the commit point, or is refused. -/
def execGo (k : Fin 192) (s : State) : Host.Outcome State Fault Refusal :=
  .next (s.onDev fun d => (d.plGo k (d.rdS64 (AX_PL_TARGET k))).2)

/-- JOG (R48): JOG in AX_PL_CMD re-plans to run at AX_PL_JOG_VEL, or is refused. -/
def execJog (k : Fin 192) (s : State) : Host.Outcome State Fault Refusal :=
  .next (s.onDev fun d => (d.plJog k (d.rdS64 (AX_PL_JOG_VEL k))).2)

/-- LIMITS (R42): LIMITS in AX_PL_CMD takes the shadow limits into use and re-plans from the committed state. -/
def execLimits (k : Fin 192) (s : State) : Host.Outcome State Fault Refusal :=
  .next (s.onDev fun d => (d.plLimits k).2)

/-- HOLD (R54): HOLD in AX_PL_CMD decelerates the axis as a controlled stop while keeping its target. -/
def execHold (k : Fin 192) (s : State) : Host.Outcome State Fault Refusal :=
  .next (s.onDev fun d => (d.plHold k).2)

/-- RESUME (R54): RESUME in AX_PL_CMD re-plans toward the kept target or velocity, or is refused with NOT_HELD. -/
def execResume (k : Fin 192) (s : State) : Host.Outcome State Fault Refusal :=
  .next (s.onDev fun d => (d.plResume k).2)

/-- STOP (R53): STOP in AX_PL_CMD plans a controlled stop to rest under DMAX and JMAX. -/
def execStop (k : Fin 192) (s : State) : Host.Outcome State Fault Refusal :=
  .next (s.onDev fun d => (d.plStop k).2)

/-- QSTOP (R53): QSTOP in AX_PL_CMD plans a quick stop under QDEC and QJRK. -/
def execQstop (k : Fin 192) (s : State) : Host.Outcome State Fault Refusal :=
  .next (s.onDev fun d => (d.plQstop k).2)

/-- SHIFT (R58): SHIFT in AX_PL_CMD adds a whole-count offset to set-point, target, road ahead and measured position
at boundary n + 2. -/
def execShift (k : Fin 192) (s : State) : Host.Outcome State Fault Refusal :=
  .next (s.onDev fun d => (d.plShift k (d.rdS64 (AX_PL_TARGET k))).2)

/-- PL_DEPTH_WRITE (R60): A write of AX_PL_DEPTH changes the road-ahead length at the next boundary and squashes. -/
def execPlDepthWrite (k : Fin 192) (v : BitVec 32) (s : State) : Host.Outcome State Fault Refusal :=
  .next (s.onDev fun d => d.plDepth k v.toNat)

end Sys2Proof.Machine
end

