-- ==== Sys2Proof/Machine/RowsPower.lean ====
section
/-! DEFINITION. The meanings of the commands of power, reset and start-up (R528–R544), one per row of the table. -/

namespace Sys2Proof.Machine

/-- REG_WRITE (R6): A write to a register that has no row of its own stores the value by its access type, and a write
to an unassigned address has no effect. Session 0 has no write command (R479); every other path writes one 32-bit
register or memory word. -/
def execRegWrite (path : Fin 36) (a v : BitVec 32) (s : State) : Host.Outcome State Fault Refusal :=
  .next (s.onWrite fun d => if path.val = 0 then d else (d.busWrite path a.toNat v).2)

/-- POWER_ON_RELEASE (R543): Every logic supply has been above its release threshold for 2 ms, so the power-on reset
releases and each bank takes its voltage class. `above` has a bit set for each bank whose VDDIO exceeds 2.5 V. -/
def execPowerOnRelease (above : BitVec 9) (s : State) : Host.Outcome State Fault Refusal :=
  .next (s.onPins fun d => d.porRelease above)

/-- SUPPLY_LOW (R543): A logic supply stays below its reset threshold for 1 us, and the device resets with the
power-on cause. -/
def execSupplyLow (s : State) : Host.Outcome State Fault Refusal :=
  .next (s.onPins fun d => d.supplyLow)

/-- RESET_N (R536): RESET_N is held low for 1 us or more, and the device resets at the rising edge. -/
def execResetN (s : State) : Host.Outcome State Fault Refusal :=
  .next (s.onPins fun d => d.resetPin)

/-- XS_RESET (R536): A write of XS_RESET with KEY 0xB007 and RESET 1 from a write session or JTAG resets the device;
any other key is refused. `v` is the word written. -/
def execXsReset (path : Fin 36) (v : BitVec 32) (s : State) : Host.Outcome State Fault Refusal :=
  .next (s.onWrite fun d => d.resetWrite path v.toNat)

/-- LOADER_START (R528): 100 us after reset release the loader reads both manifest headers and begins checking a copy.
`errs` has bit p set where the header of flash port p could not be read. -/
def execLoaderStart (errs : BitVec 2) (s : State) : Host.Outcome State Fault Refusal :=
  .next (s.onDev fun d => d.loaderStart errs.toNat)

/-- COPY_CHECKED (R528): The read and check of a manifest copy completes; a failed copy sends XS_COPY_BAD and the
other copy is checked. `err` says that the copy could not be read, first at flash address `at_`. -/
def execCopyChecked (err : Bool) (at_ : BitVec 32) (s : State) : Host.Outcome State Fault Refusal :=
  .next (s.onTime fun d => d.copyChecked err at_.toNat)

/-- RECOVERY_FILL_DONE (R529): The RECOVERY fill of bulk memory completes; the held ledger messages are written and
session-0 Lanifer frames are answered. -/
def execRecoveryFillDone (s : State) : Host.Outcome State Fault Refusal :=
  .next (s.onDev fun d => d.recoveryFilled)

/-- ASSIGN_APPLY (R532): Once the self-tests are complete, the loader applies ASSIGN records, moves axes to spares
where needed and loads active engines cold. -/
def execAssignApply (s : State) : Host.Outcome State Fault Refusal :=
  .next (s.onDev fun d => d.assignApply)

/-- LOADER_TG_APPLY (R530): After the cold loads the loader applies the tollgate configuration, runs the start-up
checks and starts the beat scheduler. `stuck` and `failed` name the STO lines and the contacts that failed the
start-up checks of R419. -/
def execLoaderTgApply (stuck failed : BitVec 16) (s : State) : Host.Outcome State Fault Refusal :=
  .next (s.onTime fun d => d.loaderTgApply stuck.toNat failed.toNat)

end Sys2Proof.Machine
end

