-- ==== Sys2Proof/Machine/RowsRecorder.lean ====
section
/-! DEFINITION. The meanings of the commands of the recorder (R439–R449), one per row of the table. -/

namespace Sys2Proof.Machine

/-- ARM (R446): ARM in RC_CMD checks the recorder settings and starts frame writing, or is refused. -/
def execArm (s : State) : Host.Outcome State Fault Refusal :=
  .next (s.onDev fun d => d.rcArm)

/-- RC_FORCE (R446): FORCE in RC_CMD makes the next frame the trigger frame. -/
def execRcForce (s : State) : Host.Outcome State Fault Refusal :=
  .next (s.onDev fun d => d.rcForce)

/-- RC_STOP (R446): STOP in RC_CMD ends capture and delivers a PARTIAL record. -/
def execRcStop (s : State) : Host.Outcome State Fault Refusal :=
  .next (s.onDev fun d => d.rcStop)

/-- RC_RELEASE (R449): RELEASE in RC_CMD frees the buffer without waiting for Q6. -/
def execRcRelease (s : State) : Host.Outcome State Fault Refusal :=
  .next (s.onDev fun d => d.rcRelease)

/-- RECORDER_FRAME (R439): At a sample instant the recorder writes a frame and runs its trigger units.  The frame
is that of the latest instant, or of the next one of the beat, up to which the ticks pass. -/
def execRecorderFrame (s : State) : Host.Outcome State Fault Refusal :=
  .next (s.onTime fun d => d.recorderNow)

/-- RECORD_SEND (R448): After the last frame, measurements are made and the record is sent to Q6 when a descriptor is
free. -/
def execRecordSend (s : State) : Host.Outcome State Fault Refusal :=
  .next (s.onDev fun d => d.recordSend)

end Sys2Proof.Machine
end

