-- ==== Sys2Proof/Machine/RowsTime.lean ====
section
/-! DEFINITION. The meanings of the commands of device time, Ethernet and PTP (R450–R474), one per row of the table. -/

namespace Sys2Proof.Machine

/-- MDIO_POLL (R450): Every 1 ms each PHY is read for link and speed. -/
def execMdioPoll (p : Fin 2) (link : Bool) (speed : Fin 4) (half : Bool) (s : State) : Host.Outcome State Fault
    Refusal :=
  .next (s.onDev fun d => d.mdioPoll p link speed half)

/-- FRAME_RECEIVE (R451): A frame arriving on a port is delivered to D, forwarded or dropped by the switch. `fcs` says
that the frame check sequence is good; the frame is given from its destination address on, without it. -/
def execFrameReceive (p : Fin 2) (fcs : Bool) (frame : List (BitVec 8)) (s : State) : Host.Outcome State Fault Refusal
    :=
  .next (s.onDev fun d => d.frameReceive p fcs frame)

/-- SYNC (R458): A valid Sync yields an offset and drives the lock and servo. Times and corrections are in units of
2⁻¹⁶ ns; `sub` is the edge in 64ths of a tick. -/
def execSync (p : Fin 2) (twoStep : Bool) (src : BitVec 80) (seq : BitVec 16) (domain : BitVec 8) (t1 corr : Int) (log
    : BitVec 8) (sub : Fin 64) (s : State) : Host.Outcome State Fault Refusal :=
  .next (s.onDev fun d => d.ptpSync p twoStep src.toNat seq.toNat domain.toNat t1 corr log.toInt sub)

/-- FOLLOW_UP (R457): A Follow_Up completes a two-step Sync. Times and corrections are in units of 2⁻¹⁶ ns; `sub` is
the edge in 64ths of a tick. -/
def execFollowUp (p : Fin 2) (src : BitVec 80) (seq : BitVec 16) (t1 corr : Int) (s : State) : Host.Outcome State
    Fault Refusal :=
  .next (s.onDev fun d => d.ptpFollowUp p src.toNat seq.toNat t1 corr)

/-- DELAY_RESP (R458): A Delay_Resp completes a delay exchange. Times and corrections are in units of 2⁻¹⁶ ns; `sub`
is the edge in 64ths of a tick. -/
def execDelayResp (p : Fin 2) (src : BitVec 80) (seq : BitVec 16) (t4 corr : Int) (s : State) : Host.Outcome State
    Fault Refusal :=
  .next (s.onDev fun d => d.ptpDelayResp p src.toNat seq.toNat t4 corr)

/-- ANNOUNCE (R457): An Announce is taken into the BMCA. -/
def execAnnounce (p : Fin 2) (src : BitVec 80) (domain prio1 : BitVec 8) (quality : BitVec 32) (prio2 : BitVec 8) (gm
    : BitVec 64) (steps : BitVec 16) (log : BitVec 8) (s : State) : Host.Outcome State Fault Refusal :=
  .next (s.onDev fun d => d.ptpAnnounce p src.toNat domain.toNat prio1.toNat quality.toNat prio2.toNat gm.toNat steps.toNat log.toInt)

/-- DELAY_REQ (R457): At its randomised interval the slave sends a Delay_Req and stamps it. Times and corrections are
in units of 2⁻¹⁶ ns; `sub` is the edge in 64ths of a tick. -/
def execDelayReq (p : Fin 2) (sub : Fin 64) (s : State) : Host.Outcome State Fault Refusal :=
  .next (s.onDev fun d => d.ptpDelayReq p sub)

/-- SYNC_TRANSMIT (R457): As master, a port sends Sync and Follow_Up at LOG_SYNC. Times and corrections are in units
of 2⁻¹⁶ ns; `sub` is the edge in 64ths of a tick. -/
def execSyncTransmit (p : Fin 2) (sub : Fin 64) (s : State) : Host.Outcome State Fault Refusal :=
  .next (s.onDev fun d => d.syncTransmit p sub)

/-- ANNOUNCE_TRANSMIT (R457): As master, a port sends Announce at LOG_ANN. -/
def execAnnounceTransmit (p : Fin 2) (s : State) : Host.Outcome State Fault Refusal :=
  .next (s.onDev fun d => d.annTransmit p)

/-- HOLDOVER (R463): No valid Sync for three intervals or announce timeout puts the clock in HOLDOVER. -/
def execHoldover (s : State) : Host.Outcome State Fault Refusal :=
  .next (s.onDev fun d => d.ptpHoldover)

/-- HOLD_QUAL_TIMEOUT (R462): Holdover lasts HOLD_QUAL seconds and qualification is lost. -/
def execHoldQualTimeout (s : State) : Host.Outcome State Fault Refusal :=
  .next (s.onDev fun d => d.holdQualTimeout)

/-- WHOLE_SECOND (R467): At a whole second of device time PPS_OUT pulses, transparent mode and PTP settings change.
`refA` and `refB` are the frequency errors of the references that the second measured, as TB_REF_ERR holds them. -/
def execWholeSecond (refA refB : BitVec 16) (s : State) : Host.Outcome State Fault Refusal :=
  .next (s.onDev fun d => d.wholeSecond refA.toNat refB.toNat)

/-- TIME_SET (R464): TIME_SET sets device time, or arms the next PPS_IN, or is refused NOT_FREE. -/
def execTimeSet (s : State) : Host.Outcome State Fault Refusal :=
  .next (s.onDev fun d => d.timeSet)

/-- TIME_RESET (R464): TIME_RESET returns the clock to FREE and clears qualification and F. -/
def execTimeReset (s : State) : Host.Outcome State Fault Refusal :=
  .next (s.onDev fun d => d.timeReset)

/-- PPS_IN (R473): A rising PPS_IN edge is stamped and used as a time source. Times and corrections are in units of
2⁻¹⁶ ns; `sub` is the edge in 64ths of a tick. -/
def execPpsIn (sub : Fin 64) (s : State) : Host.Outcome State Fault Refusal :=
  .next (s.onDev fun d => d.ppsIn sub)

/-- SYNC_IN (R474): A rising SYNC_IN edge is stamped and counted. Times and corrections are in units of 2⁻¹⁶ ns; `sub`
is the edge in 64ths of a tick. -/
def execSyncIn (sub : Fin 64) (s : State) : Host.Outcome State Fault Refusal :=
  .next (s.onDev fun d => d.syncIn sub)

/-- SYNC_MATCH (R474): Device time reaches TB_SYNC_AT and SYNC_OUT pulses once. -/
def execSyncMatch (s : State) : Host.Outcome State Fault Refusal :=
  .next (s.onDev fun d => d.syncMatch)

/-- REF_FAIL (R470): A reference fails and the time base continues from the spare. `err` is the frequency error in
ppm. -/
def execRefFail (ref : Fin 2) (err : BitVec 32) (s : State) : Host.Outcome State Fault Refusal :=
  .next (s.onDev fun d => d.refFail ref err.toInt)

/-- PPS_OUT_END (R472): WIDTH times 100 us after a whole second, PPS_OUT returns to inactive. -/
def execPpsOutEnd (s : State) : Host.Outcome State Fault Refusal :=
  .next (s.onDev fun d => d.ppsOutEnd)

/-- SYNC_OUT_END (R474): SYNC_W ticks after a SYNC_OUT pulse starts, SYNC_OUT returns to inactive. -/
def execSyncOutEnd (s : State) : Host.Outcome State Fault Refusal :=
  .next (s.onDev fun d => d.syncOutEnd)

end Sys2Proof.Machine
end

