-- ==== Sys2Proof/Machine/RowsTollgate.lean ====
section
/-! DEFINITION. The meanings of the commands of the tollgate (R395–R421), one per row of the table. -/

namespace Sys2Proof.Machine

/-- EVALUATION_CYCLE (R395): Every 16 us the tollgate evaluates every input, output, line and zone. `samples` are
sixteen samples of each contact, the earliest lowest; `high` and `low` the outputs near VFIELD and below 5 V; `pins`
the STO lines that read high; `sound` that the evaluator's own checks hold. -/
def execEvaluationCycle (samples : BitVec 256) (high low : BitVec 4) (pins : BitVec 16) (sound : Bool) (s : State) :
    Host.Outcome State Fault Refusal :=
  .next (s.onDev fun d => d.tgCycle samples high low pins sound)

/-- DISCREPANCY (R400): One contact does not follow the other within DISC and the input has a discrepancy fault. -/
def execDiscrepancy (n : Fin 8) (s : State) : Host.Outcome State Fault Refusal :=
  .next (s.onDev fun d => d.tgDiscrepancy n)

/-- TEST_PULSE (R402): A test-pulse source pulses low and its contacts are checked for stuck and cross faults. `low`
names the contacts that read low in the pulse, `cross` those that read low only in it (bit 2 · input + contact). -/
def execTestPulse (k : Fin 4) (low cross : BitVec 16) (s : State) : Host.Outcome State Fault Refusal :=
  .next (s.onDev fun d => d.tgPulse k low.toNat cross.toNat)

/-- OFF_TEST (R411): Once per OT_PERIOD a safety output is switched off for an OFF test. Phase 0 begins the test, 1
ends it passed, 2 ends it failed. -/
def execOffTest (o : Fin 4) (phase : Fin 3) (s : State) : Host.Outcome State Fault Refusal :=
  .next (s.onDev fun d => d.tgOffTest o phase)

/-- SS1_TIME_ELAPSED (R405): SS1_TIME after an SS1 demand the zone takes STO. -/
def execSs1TimeElapsed (z : Fin 8) (s : State) : Host.Outcome State Fault Refusal :=
  .next (s.onDev fun d => d.tgSs1 z)

/-- SLS_RAMP_ELAPSED (R407): SLS_RAMP after SLS entry, speed monitoring starts. -/
def execSlsRampElapsed (z : Fin 8) (s : State) : Host.Outcome State Fault Refusal :=
  .next (s.onDev fun d => d.tgRamp z)

/-- SPEED_RECORD (R407): The tollgate takes a speed record and checks it against the limit. `good` is false where the
record is missing or fails its CRC. -/
def execSpeedRecord (k : Fin 192) (good : Bool) (s : State) : Host.Outcome State Fault Refusal :=
  .next (s.onDev fun d => d.tgSpeed k good)

/-- LIMP_END (R417): The limp countdown ends, the latch takes LIMP_END and SS1 runs. -/
def execLimpEnd (z : Fin 8) (s : State) : Host.Outcome State Fault Refusal :=
  .next (s.onDev fun d => d.tgLimpEnd z)

/-- STO_STALE (R413): An STO line has not read low for STO_TEST_H hours and is reported stale. -/
def execStoStale (k : Fin 16) (s : State) : Host.Outcome State Fault Refusal :=
  .next (s.onDev fun d => d.tgStale k)

/-- KEEPALIVE_LOSS (R396): 5 us after the last keep-alive edge, the STO_N line driver drives the line low. -/
def execKeepaliveLoss (k : Fin 16) (s : State) : Host.Outcome State Fault Refusal :=
  .next (s.onDev fun d => d.tgKeepAlive k)

/-- ZONE_DECISION_ACCEPT (R408): A zone state change reaches the logic side and is accepted by planner and modulator.
-/
def execZoneDecisionAccept (z : Fin 8) (s : State) : Host.Outcome State Fault Refusal :=
  .next (s.onDev fun d => d.zoneAccept z)

/-- TG_ACK (R409): ACK in TG_CMD acknowledges zones and clears faults whose readback agrees. -/
def execTgAck (zones : BitVec 8) (s : State) : Host.Outcome State Fault Refusal :=
  .next (s.onDev fun d => d.tgAck zones.toNat)

/-- SERVICE (R420): SERVICE in TG_CMD puts the tollgate into service mode. -/
def execService (path : Fin 36) (s : State) : Host.Outcome State Fault Refusal :=
  .next (s.onDev fun d => d.tgEnterService path)

/-- LEAVE (R420): LEAVE ends service mode and sets WAIT_ACK in every zone. -/
def execLeave (s : State) : Host.Outcome State Fault Refusal :=
  .next (s.onDev fun d => d.tgLeave)

/-- APPLY (R421): APPLY brings the written tollgate configuration into force if its CRC and checks pass. -/
def execApply (s : State) : Host.Outcome State Fault Refusal :=
  .next (s.onDev fun d => d.tgApply)

/-- TG_CLEAR_CNT (R421): CLEAR_CNT in TG_CMD clears the tollgate counters. -/
def execTgClearCnt (s : State) : Host.Outcome State Fault Refusal :=
  .next (s.onDev fun d => d.tgClearCnt)

end Sys2Proof.Machine
end

