-- ==== Sys2Proof/Machine/Dispatch.lean ====
section
/-! DEFINITION. One arm per command: the meaning of each row of the table. -/

namespace Sys2Proof.Machine

/-- The effect of a command on everything but the queue of waiting commands. -/
def exec (i : Instr) (s : State) : Host.Outcome State Fault Refusal :=
  match i with
  | .regWrite path a v => Sys2Proof.Machine.execRegWrite path a v s
  | .powerOnRelease above => Sys2Proof.Machine.execPowerOnRelease above s
  | .supplyLow => Sys2Proof.Machine.execSupplyLow s
  | .resetN => Sys2Proof.Machine.execResetN s
  | .xsReset path v => Sys2Proof.Machine.execXsReset path v s
  | .loaderStart errs => Sys2Proof.Machine.execLoaderStart errs s
  | .copyChecked err at_ => Sys2Proof.Machine.execCopyChecked err at_ s
  | .recoveryFillDone => Sys2Proof.Machine.execRecoveryFillDone s
  | .assignApply => Sys2Proof.Machine.execAssignApply s
  | .loaderTgApply stuck failed => Sys2Proof.Machine.execLoaderTgApply stuck failed s
  | .beatBoundary => Sys2Proof.Machine.execBeatBoundary s
  | .latchPhase => Sys2Proof.Machine.execLatchPhase s
  | .dispatchDeadline => Sys2Proof.Machine.execDispatchDeadline s
  | .beatCommit => Sys2Proof.Machine.execBeatCommit s
  | .clearOvr => Sys2Proof.Machine.execClearOvr s
  | .tbTrimWrite v => Sys2Proof.Machine.execTbTrimWrite v s
  | .slackIntervalEnd => Sys2Proof.Machine.execSlackIntervalEnd s
  | .go k => Sys2Proof.Machine.execGo k s
  | .jog k => Sys2Proof.Machine.execJog k s
  | .limits k => Sys2Proof.Machine.execLimits k s
  | .hold k => Sys2Proof.Machine.execHold k s
  | .resume k => Sys2Proof.Machine.execResume k s
  | .stop k => Sys2Proof.Machine.execStop k s
  | .qstop k => Sys2Proof.Machine.execQstop k s
  | .shift k => Sys2Proof.Machine.execShift k s
  | .plDepthWrite k v => Sys2Proof.Machine.execPlDepthWrite k v s
  | .offDelayElapsed k => Sys2Proof.Machine.execOffDelayElapsed k s
  | .formConvoy c => Sys2Proof.Machine.execFormConvoy c s
  | .dissolve c => Sys2Proof.Machine.execDissolve c s
  | .cyHold c => Sys2Proof.Machine.execCyHold c s
  | .cyResume c => Sys2Proof.Machine.execCyResume c s
  | .cyStop c => Sys2Proof.Machine.execCyStop c s
  | .cyQstop c => Sys2Proof.Machine.execCyQstop c s
  | .cyLimits c => Sys2Proof.Machine.execCyLimits c s
  | .engage c j => Sys2Proof.Machine.execEngage c j s
  | .disengage c j => Sys2Proof.Machine.execDisengage c j s
  | .cyFlush c => Sys2Proof.Machine.execCyFlush c s
  | .gpCtrlWrite g v => Sys2Proof.Machine.execGpCtrlWrite g v s
  | .stModeWrite g v => Sys2Proof.Machine.execStModeWrite g v s
  | .stepEmit g => Sys2Proof.Machine.execStepEmit g s
  | .enableRequest k rest => Sys2Proof.Machine.execEnableRequest k rest s
  | .disableRequest k rest => Sys2Proof.Machine.execDisableRequest k rest s
  | .brakeRelElapsed k => Sys2Proof.Machine.execBrakeRelElapsed k s
  | .alignmentEnd k => Sys2Proof.Machine.execAlignmentEnd k s
  | .paramCommit k => Sys2Proof.Machine.execParamCommit k s
  | .clearInt k => Sys2Proof.Machine.execClearInt k s
  | .mnop e a x y clr neg alu mv => Sys2Proof.Machine.execMnop e a x y clr neg alu mv s
  | .mac e a x y clr neg alu mv => Sys2Proof.Machine.execMac e a x y clr neg alu mv s
  | .macu e a x y clr neg alu mv => Sys2Proof.Machine.execMacu e a x y clr neg alu mv s
  | .mac2 e a x y clr neg alu mv => Sys2Proof.Machine.execMac2 e a x y clr neg alu mv s
  | .mdot4 e a x y clr neg alu mv => Sys2Proof.Machine.execMdot4 e a x y clr neg alu mv s
  | .mbc4 e a x y clr neg alu mv => Sys2Proof.Machine.execMbc4 e a x y clr neg alu mv s
  | .mrot e a x y clr neg alu mv => Sys2Proof.Machine.execMrot e a x y clr neg alu mv s
  | .mroti e a x y clr neg alu mv => Sys2Proof.Machine.execMroti e a x y clr neg alu mv s
  | .madds e a x y clr neg alu mv => Sys2Proof.Machine.execMadds e a x y clr neg alu mv s
  | .nop e mac mv => Sys2Proof.Machine.execNop e mac mv s
  | .add e rd rs rt mac mv => Sys2Proof.Machine.execAdd e rd rs rt mac mv s
  | .sub e rd rs rt mac mv => Sys2Proof.Machine.execSub e rd rs rt mac mv s
  | .sadd e rd rs rt mac mv => Sys2Proof.Machine.execSadd e rd rs rt mac mv s
  | .ssub e rd rs rt mac mv => Sys2Proof.Machine.execSsub e rd rs rt mac mv s
  | .and32 e rd rs rt mac mv => Sys2Proof.Machine.execAnd32 e rd rs rt mac mv s
  | .or32 e rd rs rt mac mv => Sys2Proof.Machine.execOr32 e rd rs rt mac mv s
  | .xor e rd rs rt mac mv => Sys2Proof.Machine.execXor e rd rs rt mac mv s
  | .shl e rd rs rt mac mv => Sys2Proof.Machine.execShl e rd rs rt mac mv s
  | .shr e rd rs rt mac mv => Sys2Proof.Machine.execShr e rd rs rt mac mv s
  | .sar e rd rs rt mac mv => Sys2Proof.Machine.execSar e rd rs rt mac mv s
  | .min e rd rs rt mac mv => Sys2Proof.Machine.execMin e rd rs rt mac mv s
  | .max e rd rs rt mac mv => Sys2Proof.Machine.execMax e rd rs rt mac mv s
  | .clamp e rd rs rt mac mv => Sys2Proof.Machine.execClamp e rd rs rt mac mv s
  | .abs e rd rs mac mv => Sys2Proof.Machine.execAbs e rd rs mac mv s
  | .cmp e rs rt mac mv => Sys2Proof.Machine.execCmp e rs rt mac mv s
  | .addi e rd imm mac mv => Sys2Proof.Machine.execAddi e rd imm mac mv s
  | .nrw e rd a sh mac mv => Sys2Proof.Machine.execNrw e rd a sh mac mv s
  | .nrwr e rd a rs mac mv => Sys2Proof.Machine.execNrwr e rd a rs mac mv s
  | .bra e target mac mv => Sys2Proof.Machine.execBra e target mac mv s
  | .beq e target mac mv => Sys2Proof.Machine.execBeq e target mac mv s
  | .bne e target mac mv => Sys2Proof.Machine.execBne e target mac mv s
  | .blt e target mac mv => Sys2Proof.Machine.execBlt e target mac mv s
  | .bge e target mac mv => Sys2Proof.Machine.execBge e target mac mv s
  | .call e target mac mv => Sys2Proof.Machine.execCall e target mac mv s
  | .ret e mac mv => Sys2Proof.Machine.execRet e mac mv s
  | .waits e rd mac mv => Sys2Proof.Machine.execWaits e rd mac mv s
  | .endProgram e mac mv => Sys2Proof.Machine.execEndProgram e mac mv s
  | .rete e mac mv => Sys2Proof.Machine.execRete e mac mv s
  | .emask e m mac mv => Sys2Proof.Machine.execEmask e m mac mv s
  | .clrf e mask mac mv => Sys2Proof.Machine.execClrf e mask mac mv s
  | .moveNop e mac alu => Sys2Proof.Machine.execMoveNop e mac alu s
  | .ld e g p inc mac alu => Sys2Proof.Machine.execLd e g p inc mac alu s
  | .ldp e g p inc mac alu => Sys2Proof.Machine.execLdp e g p inc mac alu s
  | .ldq e g p inc mac alu => Sys2Proof.Machine.execLdq e g p inc mac alu s
  | .st e g p inc mac alu => Sys2Proof.Machine.execSt e g p inc mac alu s
  | .stp e g p inc mac alu => Sys2Proof.Machine.execStp e g p inc mac alu s
  | .stq e g p inc mac alu => Sys2Proof.Machine.execStq e g p inc mac alu s
  | .ldxy e qx a qy b ia ib mac alu => Sys2Proof.Machine.execLdxy e qx a qy b ia ib mac alu s
  | .ldi e rd imm mac alu => Sys2Proof.Machine.execLdi e rd imm mac alu s
  | .mva e cl k rs mac alu => Sys2Proof.Machine.execMva e cl k rs mac alu s
  | .mvg e rd cl k mac alu => Sys2Proof.Machine.execMvg e rd cl k mac alu s
  | .stage e rs mac alu => Sys2Proof.Machine.execStage e rs mac alu s
  | .ckpt e rs mac alu => Sys2Proof.Machine.execCkpt e rs mac alu s
  | .hbeat e rs mac alu => Sys2Proof.Machine.execHbeat e rs mac alu s
  | .bld e p rs rl mac alu => Sys2Proof.Machine.execBld e p rs rl mac alu s
  | .bst e p rs rl mac alu => Sys2Proof.Machine.execBst e p rs rl mac alu s
  | .bsync e mac alu => Sys2Proof.Machine.execBsync e mac alu s
  | .ledg e rs mac alu => Sys2Proof.Machine.execLedg e rs mac alu s
  | .mbxs e mac alu => Sys2Proof.Machine.execMbxs e mac alu s
  | .eventAccept e w => Sys2Proof.Machine.execEventAccept e w s
  | .bulkDone e => Sys2Proof.Machine.execBulkDone e s
  | .ckptDone e => Sys2Proof.Machine.execCkptDone e s
  | .feedbackComplete k => Sys2Proof.Machine.execFeedbackComplete k s
  | .dvClearCnt e => Sys2Proof.Machine.execDvClearCnt e s
  | .quadEdge p ab => Sys2Proof.Machine.execQuadEdge p ab s
  | .hallEdge p uvw => Sys2Proof.Machine.execHallEdge p uvw s
  | .zEdge p rising => Sys2Proof.Machine.execZEdge p rising s
  | .ssiTransferDone p w => Sys2Proof.Machine.execSsiTransferDone p w s
  | .bissTransferDone p w dly => Sys2Proof.Machine.execBissTransferDone p w dly s
  | .frameFormatDone p resp => Sys2Proof.Machine.execFrameFormatDone p resp s
  | .serialTimeout p => Sys2Proof.Machine.execSerialTimeout p s
  | .fbCtrlWrite p v => Sys2Proof.Machine.execFbCtrlWrite p v s
  | .fbSerWrite p v => Sys2Proof.Machine.execFbSerWrite p v s
  | .fbTimingWrite p v => Sys2Proof.Machine.execFbTimingWrite p v s
  | .fbClearCnt p => Sys2Proof.Machine.execFbClearCnt p s
  | .axFbSrcWrite k v => Sys2Proof.Machine.execAxFbSrcWrite k v s
  | .setpos k => Sys2Proof.Machine.execSetpos k s
  | .rideEnd k => Sys2Proof.Machine.execRideEnd k s
  | .refillRecord => Sys2Proof.Machine.execRefillRecord s
  | .msFlush m => Sys2Proof.Machine.execMsFlush m s
  | .force m => Sys2Proof.Machine.execForce m s
  | .skip m => Sys2Proof.Machine.execSkip m s
  | .msCtrlWrite m v => Sys2Proof.Machine.execMsCtrlWrite m v s
  | .pulseFire m => Sys2Proof.Machine.execPulseFire m s
  | .pulseEnd m => Sys2Proof.Machine.execPulseEnd m s
  | .latchEdge u falling => Sys2Proof.Machine.execLatchEdge u falling s
  | .captureComplete u => Sys2Proof.Machine.execCaptureComplete u s
  | .rearm u => Sys2Proof.Machine.execRearm u s
  | .ltClearCnt u => Sys2Proof.Machine.execLtClearCnt u s
  | .ltCtrlWrite u v => Sys2Proof.Machine.execLtCtrlWrite u v s
  | .slotComplete c n ws => Sys2Proof.Machine.execSlotComplete c n ws s
  | .frameComplete c marker rstb loop => Sys2Proof.Machine.execFrameComplete c marker rstb loop s
  | .census c => Sys2Proof.Machine.execCensus c s
  | .censusResetWaitEnd c => Sys2Proof.Machine.execCensusResetWaitEnd c s
  | .identityFrame c rx loop => Sys2Proof.Machine.execIdentityFrame c rx loop s
  | .configFrame c => Sys2Proof.Machine.execConfigFrame c s
  | .echoFrame c ws marker => Sys2Proof.Machine.execEchoFrame c ws marker s
  | .censusRetry c => Sys2Proof.Machine.execCensusRetry c s
  | .tkStart c => Sys2Proof.Machine.execTkStart c s
  | .tkStop c => Sys2Proof.Machine.execTkStop c s
  | .tkClearCnt c => Sys2Proof.Machine.execTkClearCnt c s
  | .tkCtrlWrite c v => Sys2Proof.Machine.execTkCtrlWrite c v s
  | .tkTimingWrite c v => Sys2Proof.Machine.execTkTimingWrite c v s
  | .periodStart k => Sys2Proof.Machine.execPeriodStart k s
  | .periodMiddle k => Sys2Proof.Machine.execPeriodMiddle k s
  | .chop k => Sys2Proof.Machine.execChop k s
  | .tripInput m => Sys2Proof.Machine.execTripInput m s
  | .softTrip v => Sys2Proof.Machine.execSoftTrip v s
  | .tripClear v => Sys2Proof.Machine.execTripClear v s
  | .pairCommit p outHi => Sys2Proof.Machine.execPairCommit p outHi s
  | .mbCommit k => Sys2Proof.Machine.execMbCommit k s
  | .mbBindingWrite k reg v => Sys2Proof.Machine.execMbBindingWrite k reg v s
  | .round => Sys2Proof.Machine.execRound s
  | .itStart k atState state => Sys2Proof.Machine.execItStart k atState state s
  | .pause k => Sys2Proof.Machine.execPause k s
  | .continueRun k => Sys2Proof.Machine.execContinueRun k s
  | .abortRun k => Sys2Proof.Machine.execAbortRun k s
  | .heartbeatVerdict => Sys2Proof.Machine.execHeartbeatVerdict s
  | .loadComplete e => Sys2Proof.Machine.execLoadComplete e s
  | .selfTestDone e result step_ => Sys2Proof.Machine.execSelfTestDone e result step_ s
  | .outriderPeriod => Sys2Proof.Machine.execOutriderPeriod s
  | .swap e => Sys2Proof.Machine.execSwap e s
  | .retire e => Sys2Proof.Machine.execRetire e s
  | .update image => Sys2Proof.Machine.execUpdate image s
  | .updateSwapPeriod => Sys2Proof.Machine.execUpdateSwapPeriod s
  | .abortUpdate => Sys2Proof.Machine.execAbortUpdate s
  | .cvClearCnt => Sys2Proof.Machine.execCvClearCnt s
  | .imgBaseWrite n v => Sys2Proof.Machine.execImgBaseWrite n v s
  | .ledgerMessage => Sys2Proof.Machine.execLedgerMessage s
  | .recover c n => Sys2Proof.Machine.execRecover c n s
  | .lgClearCnt => Sys2Proof.Machine.execLgClearCnt s
  | .release k => Sys2Proof.Machine.execRelease k s
  | .releaseAll => Sys2Proof.Machine.execReleaseAll s
  | .clearSafe => Sys2Proof.Machine.execClearSafe s
  | .lgClose => Sys2Proof.Machine.execLgClose s
  | .keyNonceRead path => Sys2Proof.Machine.execKeyNonceRead path s
  | .lgKeyWrite path v => Sys2Proof.Machine.execLgKeyWrite path v s
  | .testSpaceTimeout => Sys2Proof.Machine.execTestSpaceTimeout s
  | .injFire c n k count => Sys2Proof.Machine.execInjFire c n k count s
  | .scrubRead => Sys2Proof.Machine.execScrubRead s
  | .scrubNow => Sys2Proof.Machine.execScrubNow s
  | .memRetire => Sys2Proof.Machine.execMemRetire s
  | .pageCopyDone => Sys2Proof.Machine.execPageCopyDone s
  | .memClearCnt => Sys2Proof.Machine.execMemClearCnt s
  | .evaluationCycle samples high low pins sound => Sys2Proof.Machine.execEvaluationCycle samples high low pins sound s
  | .discrepancy n => Sys2Proof.Machine.execDiscrepancy n s
  | .testPulse k low cross => Sys2Proof.Machine.execTestPulse k low cross s
  | .offTest o phase => Sys2Proof.Machine.execOffTest o phase s
  | .ss1TimeElapsed z => Sys2Proof.Machine.execSs1TimeElapsed z s
  | .slsRampElapsed z => Sys2Proof.Machine.execSlsRampElapsed z s
  | .speedRecord k good => Sys2Proof.Machine.execSpeedRecord k good s
  | .limpEnd z => Sys2Proof.Machine.execLimpEnd z s
  | .stoStale k => Sys2Proof.Machine.execStoStale k s
  | .keepaliveLoss k => Sys2Proof.Machine.execKeepaliveLoss k s
  | .zoneDecisionAccept z => Sys2Proof.Machine.execZoneDecisionAccept z s
  | .tgAck zones => Sys2Proof.Machine.execTgAck zones s
  | .service path => Sys2Proof.Machine.execService path s
  | .leave => Sys2Proof.Machine.execLeave s
  | .apply => Sys2Proof.Machine.execApply s
  | .tgClearCnt => Sys2Proof.Machine.execTgClearCnt s
  | .fieldLevelAccept c level raw count => Sys2Proof.Machine.execFieldLevelAccept c level raw count s
  | .fioOutSet upper mask => Sys2Proof.Machine.execFioOutSet upper mask s
  | .fioOutClr upper mask => Sys2Proof.Machine.execFioOutClr upper mask s
  | .fioChCtrlWrite c v => Sys2Proof.Machine.execFioChCtrlWrite c v s
  | .fioClearCnt => Sys2Proof.Machine.execFioClearCnt s
  | .wiringFault c cause raw => Sys2Proof.Machine.execWiringFault c cause raw s
  | .wiringFaultClear c => Sys2Proof.Machine.execWiringFaultClear c s
  | .overload c raw => Sys2Proof.Machine.execOverload c raw s
  | .retry c => Sys2Proof.Machine.execRetry c s
  | .sumLimit cur => Sys2Proof.Machine.execSumLimit cur s
  | .vfieldMeasure mv => Sys2Proof.Machine.execVfieldMeasure mv s
  | .refreshFrame g => Sys2Proof.Machine.execRefreshFrame g s
  | .fieldWatchdog g => Sys2Proof.Machine.execFieldWatchdog g s
  | .couplerFail c => Sys2Proof.Machine.execCouplerFail c s
  | .arm => Sys2Proof.Machine.execArm s
  | .rcForce => Sys2Proof.Machine.execRcForce s
  | .rcStop => Sys2Proof.Machine.execRcStop s
  | .rcRelease => Sys2Proof.Machine.execRcRelease s
  | .recorderFrame => Sys2Proof.Machine.execRecorderFrame s
  | .recordSend => Sys2Proof.Machine.execRecordSend s
  | .mdioPoll p link speed half => Sys2Proof.Machine.execMdioPoll p link speed half s
  | .frameReceive p fcs frame => Sys2Proof.Machine.execFrameReceive p fcs frame s
  | .sync p twoStep src seq domain t1 corr log sub => Sys2Proof.Machine.execSync p twoStep src seq domain t1 corr log sub s
  | .followUp p src seq t1 corr => Sys2Proof.Machine.execFollowUp p src seq t1 corr s
  | .delayResp p src seq t4 corr => Sys2Proof.Machine.execDelayResp p src seq t4 corr s
  | .announce p src domain prio1 quality prio2 gm steps log => Sys2Proof.Machine.execAnnounce p src domain prio1 quality prio2 gm steps log s
  | .delayReq p sub => Sys2Proof.Machine.execDelayReq p sub s
  | .syncTransmit p sub => Sys2Proof.Machine.execSyncTransmit p sub s
  | .announceTransmit p => Sys2Proof.Machine.execAnnounceTransmit p s
  | .holdover => Sys2Proof.Machine.execHoldover s
  | .holdQualTimeout => Sys2Proof.Machine.execHoldQualTimeout s
  | .wholeSecond refA refB => Sys2Proof.Machine.execWholeSecond refA refB s
  | .timeSet => Sys2Proof.Machine.execTimeSet s
  | .timeReset => Sys2Proof.Machine.execTimeReset s
  | .ppsIn sub => Sys2Proof.Machine.execPpsIn sub s
  | .syncIn sub => Sys2Proof.Machine.execSyncIn sub s
  | .syncMatch => Sys2Proof.Machine.execSyncMatch s
  | .refFail ref err => Sys2Proof.Machine.execRefFail ref err s
  | .hello port src seq keyId nh => Sys2Proof.Machine.execHello port src seq keyId nh s
  | .openSession port src k seq proof => Sys2Proof.Machine.execOpenSession port src k seq proof s
  | .close port k seq => Sys2Proof.Machine.execClose port k seq s
  | .handshakeTimeout k => Sys2Proof.Machine.execHandshakeTimeout k s
  | .sessionTimeout k => Sys2Proof.Machine.execSessionTimeout k s
  | .read port k seq a => Sys2Proof.Machine.execRead port k seq a s
  | .write port k seq a v => Sys2Proof.Machine.execWrite port k seq a v s
  | .readBlock port k seq a count => Sys2Proof.Machine.execReadBlock port k seq a count s
  | .writeBlock port k seq a vs => Sys2Proof.Machine.execWriteBlock port k seq a vs s
  | .tableLoad port k seq table off bs => Sys2Proof.Machine.execTableLoad port k seq table off bs s
  | .tableCommit port k seq table => Sys2Proof.Machine.execTableCommit port k seq table s
  | .moveGo port k seq axis relative value limits mask lims => Sys2Proof.Machine.execMoveGo port k seq axis relative value limits mask lims s
  | .moveJog port k seq axis value limits mask lims => Sys2Proof.Machine.execMoveJog port k seq axis value limits mask lims s
  | .moveSegments port k seq convoy segs limits mask lims => Sys2Proof.Machine.execMoveSegments port k seq convoy segs limits mask lims s
  | .moveShift port k seq axis value limits mask lims => Sys2Proof.Machine.execMoveShift port k seq axis value limits mask lims s
  | .moveResume port k seq convoy id limits mask lims => Sys2Proof.Machine.execMoveResume port k seq convoy id limits mask lims s
  | .stopCmdHold port k seq tgt id => Sys2Proof.Machine.execStopCmdHold port k seq tgt id s
  | .stopCmdStop port k seq tgt id => Sys2Proof.Machine.execStopCmdStop port k seq tgt id s
  | .stopCmdQstop port k seq tgt id => Sys2Proof.Machine.execStopCmdQstop port k seq tgt id s
  | .itinFlags port k seq inst set clr => Sys2Proof.Machine.execItinFlags port k seq inst set clr s
  | .itinStart port k seq inst state atState set clr => Sys2Proof.Machine.execItinStart port k seq inst state atState set clr s
  | .itinPause port k seq inst set clr => Sys2Proof.Machine.execItinPause port k seq inst set clr s
  | .itinContinue port k seq inst set clr => Sys2Proof.Machine.execItinContinue port k seq inst set clr s
  | .itinAbort port k seq inst set clr => Sys2Proof.Machine.execItinAbort port k seq inst set clr s
  | .pull port k seq queue claim most first => Sys2Proof.Machine.execPull port k seq queue claim most first s
  | .ack port k seq queue upto => Sys2Proof.Machine.execAck port k seq queue upto s
  | .push port k seq queue target payload => Sys2Proof.Machine.execPush port k seq queue target payload s
  | .flashWrite port k seq flash a bs => Sys2Proof.Machine.execFlashWrite port k seq flash a bs s
  | .flashErase port k seq flash a sectors => Sys2Proof.Machine.execFlashErase port k seq flash a sectors s
  | .flashOpDone p result at_ => Sys2Proof.Machine.execFlashOpDone p result at_ s
  | .closeSession k => Sys2Proof.Machine.execCloseSession k s
  | .lnClearCnt => Sys2Proof.Machine.execLnClearCnt s
  | .canEnable b rest => Sys2Proof.Machine.execCanEnable b rest s
  | .canDisable b rest => Sys2Proof.Machine.execCanDisable b rest s
  | .integrationDone b => Sys2Proof.Machine.execIntegrationDone b s
  | .canRecover b => Sys2Proof.Machine.execCanRecover b s
  | .busOffRecovered b => Sys2Proof.Machine.execBusOffRecovered b s
  | .cfClearCnt b => Sys2Proof.Machine.execCfClearCnt b s
  | .txCopy b => Sys2Proof.Machine.execTxCopy b s
  | .canFrameSent b ref ok sof tdcv => Sys2Proof.Machine.execCanFrameSent b ref ok sof tdcv s
  | .canFrameReceived b id dlc esi rtr data sof => Sys2Proof.Machine.execCanFrameReceived b id dlc esi rtr data sof s
  | .cycleStart b started => Sys2Proof.Machine.execCycleStart b started s
  | .mappedRead p a => Sys2Proof.Machine.execMappedRead p a s
  | .lineFill p a err => Sys2Proof.Machine.execLineFill p a err s
  | .xsStage p => Sys2Proof.Machine.execXsStage p s
  | .verify p => Sys2Proof.Machine.execVerify p s
  | .program slot => Sys2Proof.Machine.execProgram slot s
  | .revoke slot => Sys2Proof.Machine.execRevoke slot s
  | .vmonMeasure vcore vddpll low => Sys2Proof.Machine.execVmonMeasure vcore vddpll low s
  | .tempMeasure tj => Sys2Proof.Machine.execTempMeasure tj s
  | .tapReset => Sys2Proof.Machine.execTapReset s
  | .extest pins scan => Sys2Proof.Machine.execExtest pins scan s
  | .samplePreload pins scan => Sys2Proof.Machine.execSamplePreload pins scan s
  | .idcode => Sys2Proof.Machine.execIdcode s
  | .jtagClamp => Sys2Proof.Machine.execJtagClamp s
  | .highz => Sys2Proof.Machine.execHighz s
  | .deviceReset => Sys2Proof.Machine.execDeviceReset s
  | .regAccess word => Sys2Proof.Machine.execRegAccess word s
  | .bypass => Sys2Proof.Machine.execBypass s
  | .illegalWord e w => Sys2Proof.Machine.execIllegalWord e w s
  | .passThroughEdge p levels => Sys2Proof.Machine.execPassThroughEdge p levels s
  | .emuEdge p => Sys2Proof.Machine.execEmuEdge p s
  | .compareMatch k => Sys2Proof.Machine.execCompareMatch k s
  | .deadTimeEnd k => Sys2Proof.Machine.execDeadTimeEnd k s
  | .tripInactive m => Sys2Proof.Machine.execTripInactive m s
  | .ppsOutEnd => Sys2Proof.Machine.execPpsOutEnd s
  | .syncOutEnd => Sys2Proof.Machine.execSyncOutEnd s
  | .xsStageDone p => Sys2Proof.Machine.execXsStageDone p s
  | .verifyDone p err at_ => Sys2Proof.Machine.execVerifyDone p err at_ s
  | .protocolException b => Sys2Proof.Machine.execProtocolException b s
  | .canRxError b eight => Sys2Proof.Machine.execCanRxError b eight s

end Sys2Proof.Machine
end

