-- ==== Sys2Proof/Safety.lean ====
section
/-! DEFINITION. What counts as a safe run, one that never stops, and the terms in which statements speak of a command's
completion and of what it leaves alone. -/

namespace Sys2Proof

open Sys2Proof.Machine

/-- Does a step from `s` answer a next state? -/
def goesOn (s : State) : Bool :=
  match step s with
  | .next _ => true
  | .fault _ => false
  | .refused _ => false

/-- `t` follows from `s` after `n` steps, none of which stops. -/
def runsTo : Nat → State → State → Prop
  | 0, s, t => s = t
  | n + 1, s, t => ∃ u, step s = .next u ∧ runsTo n u t

/-- A state that no number of steps leads to a stop. -/
def Safe (s : State) : Prop := ∀ n t, runsTo n s t → goesOn t = true

/-- Command `c` completes from `s`: exec answers a next state in which the waiting commands and the time are as they were
and of whose block `P` holds. -/
def leads (c : Instr) (s : State) (P : Device → Prop) : Prop :=
  ∃ t, exec c s = .next t ∧ t.pending = s.pending ∧ t.dev.clk = s.dev.clk ∧ P t.dev

/-- Every register outside `A` holds the same word in both blocks. -/
def sameRegs (d e : Device) (A : Nat → Prop) : Prop := ∀ a, ¬ A a → e.rd a = d.rd a

/-- Only the registers in `A` differ between the blocks: everything else of them, memory included, is equal. -/
def onlyRegs (d e : Device) (A : Nat → Prop) : Prop := { e with regs := d.regs } = d ∧ sameRegs d e A

/-- Every unit's own state: the block without registers, memory, queues, waiting ledger messages, the events noted for
itineraries and the counter of free values. -/
def unitsOf (d : Device) : Device :=
  { d with regs := [], bulk := [], bulkErr := [], mem := {}, ledger := {}, qOcc := [], qGap := [], free := 0, it := {} }

/-- Every unit's own state is the same in both blocks. -/
def sameUnits (d e : Device) : Prop := unitsOf e = unitsOf d

/-- A register of the queues. -/
def queueReg (a : Nat) : Prop := 0x40000 ≤ a ∧ a < 0x40400

end Sys2Proof
end

