-- ==== Sys2Proof/WellFormed.lean ====
section
/-! DEFINITION. Which terms of `Instr` stand for a command that the specification knows: operands of a free length or a wider
type than the field they fill are held to that field. -/

namespace Sys2Proof

open Sys2Proof.Machine

/-- The session of a Lanifer command: HELLO has session 0 and carries none; a command that needs a write session does not
name session 0 (R479, R483), nor does a session's own event; session 0 has no write command to write a register with. -/
def sessionOk : Instr → Bool
  | .regWrite path _ _ => path.val != 0
  | .openSession _ _ k _ _ => k.val != 0
  | .close _ k _ => k.val != 0
  | .handshakeTimeout k => k.val != 0
  | .sessionTimeout k => k.val != 0
  | .write _ k _ _ _ => k.val != 0
  | .writeBlock _ k _ _ _ => k.val != 0
  | .tableLoad _ k _ _ _ _ => k.val != 0
  | .tableCommit _ k _ _ => k.val != 0
  | .moveGo _ k _ _ _ _ _ _ _ => k.val != 0
  | .moveJog _ k _ _ _ _ _ _ => k.val != 0
  | .moveSegments _ k _ _ _ _ _ _ => k.val != 0
  | .moveShift _ k _ _ _ _ _ _ => k.val != 0
  | .moveResume _ k _ _ _ _ _ _ => k.val != 0
  | .stopCmdHold _ k _ _ _ => k.val != 0
  | .stopCmdStop _ k _ _ _ => k.val != 0
  | .stopCmdQstop _ k _ _ _ => k.val != 0
  | .itinFlags _ k _ _ _ _ => k.val != 0
  | .itinStart _ k _ _ _ _ _ _ => k.val != 0
  | .itinPause _ k _ _ _ _ => k.val != 0
  | .itinContinue _ k _ _ _ _ => k.val != 0
  | .itinAbort _ k _ _ _ _ => k.val != 0
  | .pull _ k _ _ claim _ _ => k.val != 0 || !claim
  | .ack _ k _ _ _ => k.val != 0
  | .push _ k _ _ _ _ => k.val != 0
  | .flashWrite _ k _ _ _ _ => k.val != 0
  | .flashErase _ k _ _ _ _ => k.val != 0
  | _ => true

/-- Operands of a free length: nonce and proof (R480), blocks (R484), table and flash data (R485, R491), segments (R486),
payloads (R490), a slot's words and the echo words (R241, R262), CAN data (R501) and Ethernet frames (R451). -/
def lengthOk : Instr → Bool
  | .hello _ _ _ _ nh => nh.length == 16
  | .openSession _ _ _ _ proof => proof.length == 32
  | .writeBlock _ _ _ _ vs => decide (1 ≤ vs.length) && decide (vs.length ≤ 365)
  | .tableLoad _ _ _ _ _ bs => decide (bs.length ≤ 1460)
  | .flashWrite _ _ _ _ _ bs => decide (bs.length ≤ 1460)
  | .moveSegments _ _ _ _ segs _ _ _ => segs.length % 208 == 0 && decide (208 ≤ segs.length) && decide (segs.length ≤ 1248)
  | .push _ _ _ _ _ pl => decide (pl.length ≤ 1460)
  | .slotComplete _ _ ws => decide (2 ≤ ws.length)
  | .echoFrame _ ws _ => decide (1 ≤ ws.length) && decide (ws.length ≤ 16)
  | .canFrameReceived _ _ _ _ _ data _ => decide (data.length ≤ 64)
  | .frameReceive _ _ frame => decide (14 ≤ frame.length)
  | _ => true

/-- Result codes: those of a self-test (R341) and of the end of a flash operation (R520). -/
def codeOk : Instr → Bool
  | .selfTestDone _ result _ => result.val != 0
  | .flashOpDone _ result _ => decide (2 ≤ result.val)
  | _ => true

/-- A slot operation stands in a legal word: its two companion slots hold no reserved value (R144). -/
def wordOk : Instr → Bool
  | .mnop _ _ _ _ _ _ alu mv => aluLegal alu.toNat && mvLegal mv.toNat
  | .mac _ _ _ _ _ _ alu mv => aluLegal alu.toNat && mvLegal mv.toNat
  | .macu _ _ _ _ _ _ alu mv => aluLegal alu.toNat && mvLegal mv.toNat
  | .mac2 _ _ _ _ _ _ alu mv => aluLegal alu.toNat && mvLegal mv.toNat
  | .mdot4 _ _ _ _ _ _ alu mv => aluLegal alu.toNat && mvLegal mv.toNat
  | .mbc4 _ _ _ _ _ _ alu mv => aluLegal alu.toNat && mvLegal mv.toNat
  | .mrot _ _ _ _ _ _ alu mv => aluLegal alu.toNat && mvLegal mv.toNat
  | .mroti _ _ _ _ _ _ alu mv => aluLegal alu.toNat && mvLegal mv.toNat
  | .madds _ _ _ _ _ _ alu mv => aluLegal alu.toNat && mvLegal mv.toNat
  | .nop _ mac mv => macLegal mac.toNat && mvLegal mv.toNat
  | .add _ _ _ _ mac mv => macLegal mac.toNat && mvLegal mv.toNat
  | .sub _ _ _ _ mac mv => macLegal mac.toNat && mvLegal mv.toNat
  | .sadd _ _ _ _ mac mv => macLegal mac.toNat && mvLegal mv.toNat
  | .ssub _ _ _ _ mac mv => macLegal mac.toNat && mvLegal mv.toNat
  | .and32 _ _ _ _ mac mv => macLegal mac.toNat && mvLegal mv.toNat
  | .or32 _ _ _ _ mac mv => macLegal mac.toNat && mvLegal mv.toNat
  | .xor _ _ _ _ mac mv => macLegal mac.toNat && mvLegal mv.toNat
  | .shl _ _ _ _ mac mv => macLegal mac.toNat && mvLegal mv.toNat
  | .shr _ _ _ _ mac mv => macLegal mac.toNat && mvLegal mv.toNat
  | .sar _ _ _ _ mac mv => macLegal mac.toNat && mvLegal mv.toNat
  | .min _ _ _ _ mac mv => macLegal mac.toNat && mvLegal mv.toNat
  | .max _ _ _ _ mac mv => macLegal mac.toNat && mvLegal mv.toNat
  | .clamp _ _ _ _ mac mv => macLegal mac.toNat && mvLegal mv.toNat
  | .abs _ _ _ mac mv => macLegal mac.toNat && mvLegal mv.toNat
  | .cmp _ _ _ mac mv => macLegal mac.toNat && mvLegal mv.toNat
  | .addi _ _ _ mac mv => macLegal mac.toNat && mvLegal mv.toNat
  | .nrw _ _ _ _ mac mv => macLegal mac.toNat && mvLegal mv.toNat
  | .nrwr _ _ _ _ mac mv => macLegal mac.toNat && mvLegal mv.toNat
  | .bra _ _ mac mv => macLegal mac.toNat && mvLegal mv.toNat
  | .beq _ _ mac mv => macLegal mac.toNat && mvLegal mv.toNat
  | .bne _ _ mac mv => macLegal mac.toNat && mvLegal mv.toNat
  | .blt _ _ mac mv => macLegal mac.toNat && mvLegal mv.toNat
  | .bge _ _ mac mv => macLegal mac.toNat && mvLegal mv.toNat
  | .call _ _ mac mv => macLegal mac.toNat && mvLegal mv.toNat
  | .ret _ mac mv => macLegal mac.toNat && mvLegal mv.toNat
  | .waits _ _ mac mv => macLegal mac.toNat && mvLegal mv.toNat
  | .endProgram _ mac mv => macLegal mac.toNat && mvLegal mv.toNat
  | .rete _ mac mv => macLegal mac.toNat && mvLegal mv.toNat
  | .emask _ _ mac mv => macLegal mac.toNat && mvLegal mv.toNat
  | .clrf _ _ mac mv => macLegal mac.toNat && mvLegal mv.toNat
  | .moveNop _ mac alu => macLegal mac.toNat && aluLegal alu.toNat
  | .ld _ _ _ _ mac alu => macLegal mac.toNat && aluLegal alu.toNat
  | .ldp _ _ _ _ mac alu => macLegal mac.toNat && aluLegal alu.toNat
  | .ldq _ _ _ _ mac alu => macLegal mac.toNat && aluLegal alu.toNat
  | .st _ _ _ _ mac alu => macLegal mac.toNat && aluLegal alu.toNat
  | .stp _ _ _ _ mac alu => macLegal mac.toNat && aluLegal alu.toNat
  | .stq _ _ _ _ mac alu => macLegal mac.toNat && aluLegal alu.toNat
  | .ldxy _ _ _ _ _ _ _ mac alu => macLegal mac.toNat && aluLegal alu.toNat
  | .ldi _ _ _ mac alu => macLegal mac.toNat && aluLegal alu.toNat
  | .mva _ _ _ _ mac alu => macLegal mac.toNat && aluLegal alu.toNat
  | .mvg _ _ _ _ mac alu => macLegal mac.toNat && aluLegal alu.toNat
  | .stage _ _ mac alu => macLegal mac.toNat && aluLegal alu.toNat
  | .ckpt _ _ mac alu => macLegal mac.toNat && aluLegal alu.toNat
  | .hbeat _ _ mac alu => macLegal mac.toNat && aluLegal alu.toNat
  | .bld _ _ _ _ mac alu => macLegal mac.toNat && aluLegal alu.toNat
  | .bst _ _ _ _ mac alu => macLegal mac.toNat && aluLegal alu.toNat
  | .bsync _ mac alu => macLegal mac.toNat && aluLegal alu.toNat
  | .ledg _ _ mac alu => macLegal mac.toNat && aluLegal alu.toNat
  | .mbxs _ mac alu => macLegal mac.toNat && aluLegal alu.toNat
  | _ => true

/-- The well-formed commands. -/
def Instr.wf (i : Instr) : Bool := sessionOk i && lengthOk i && codeOk i && wordOk i

end Sys2Proof
end

