-- ==== Sys2Proof/Certificates/Slice0/Obligations.lean ====
section
/-! DEFINITION. The statements for the provers: what a step does, what reset leaves, the invariant of the beat's clock, and for
every command of the table that it completes, with what effect and leaving what alone.  The words `leads`, `onlyRegs`,
`sameRegs` and `sameUnits` are those of Sys2Proof/Safety.lean. -/

open Sys2Proof
open Sys2Proof.Machine

/-! ### The machine -/

namespace Sys2Proof.Claims

/-- The clock of the beat: a permitted length (R14), a latch phase and a dispatch deadline that leave room for the beat's ends
(R17, R18), a present beat that alignment shortens by at most 15 ticks (R28, R29), and a tick inside it (R3). -/
def clockOk (c : Clock) : Prop :=
  permittedLens.contains c.len = true ∧ 40 ≤ c.latch ∧ c.latch + 40 ≤ c.len ∧ 40 < c.deadline ∧ c.deadline + 48 ≤ c.len ∧
    c.curLen ≤ c.len ∧ c.len < c.curLen + 16 ∧ (c.running = true → c.tick < c.curLen)

end Sys2Proof.Claims

/-- A step with a command at the front of the queue is that command's meaning on the queue's rest. -/
def Obligations.StepRunsTheFrontCommand : Prop :=
  ∀ (c : Instr) (s : State), step { s with pending := c :: s.pending } = exec c s

/-- With no command waiting one tick passes (DESIGN CHOICE, notes/assumptions/50): the clock counts it, but for the last tick
of a running beat, which passes only with BEAT_BOUNDARY; while reset holds the device nothing happens.
Where the rules leave a point open the clause is the model's choice: notes/assumptions/50. -/
def Obligations.EmptyQueuePassesOneTick : Prop :=
  ∀ s : State, s.pending = [] → ∃ t, step s = .next t ∧ t.pending = [] ∧
    (s.dev.inReset = true → t = s) ∧
    (s.dev.inReset = false → (s.dev.clk.running = true ∧ s.dev.clk.curLen ≤ s.dev.clk.tick + 1) → t = s) ∧
    (s.dev.inReset = false → ¬ (s.dev.clk.running = true ∧ s.dev.clk.curLen ≤ s.dev.clk.tick + 1) →
      t.dev.clk = { s.dev.clk with now := s.dev.clk.now + 1,
                                   tick := if s.dev.clk.running then s.dev.clk.tick + 1 else s.dev.clk.tick })

/-- While the power-on reset or DEVICE_RESET holds the device, a command that is neither a pin event nor a JTAG one changes
nothing: here commands of each of the other gates (a register write, a command of a unit, a beat event). -/
def Sys2Proof.Claims.HeldResetStopsCommands : Prop :=
  ∀ s : State, s.dev.inReset = true →
    (∀ path a v, exec (.regWrite path a v) s = .next s) ∧ (∀ path v, exec (.xsReset path v) s = .next s) ∧
    (∀ k, exec (.go k) s = .next s) ∧ (∀ k rest, exec (.enableRequest k rest) s = .next s) ∧
    (∀ e rd rs rt mac mv, exec (.add e rd rs rt mac mv) s = .next s) ∧ (∀ c, exec (.tkStart c) s = .next s) ∧
    exec .beatBoundary s = .next s ∧ exec .latchPhase s = .next s ∧ exec .dispatchDeadline s = .next s ∧
    (∀ stuck failed, exec (.loaderTgApply stuck failed) s = .next s)

/-- Reset leaves the registers of the chapters' tables at the reset values that they give.
Where the rules leave a point open the clause is the model's choice: notes/assumptions/4. -/
def Obligations.ResetLeavesTheTableValues : Prop :=
  State.reset.pending = [] ∧ State.reset.dev.clk.running = false ∧
  (∀ x ∈ [(TB_BEAT_LEN, 0x640), (TB_PHASE, 0x060E0320), (TB_TRIM, 0x102), (TB_STATUS, 0), (TB_SLACK, 0xFFFF), (TB_OVR_COUNT, 0),
      (TB_ACTIVE_LEN, 0x640), (TB_ACTIVE_PHASE, 0x060E0320), (XS_RESET_CAUSE, 1), (XS_BOOT, 0), (GL_IO_BANK, 0),
      (QU_BASE 0, 0x02E00000), (QU_CFG 0, 0x00200006), (QU_CFG 8, 0x00180004), (QU_SEQ 5, 0), (LG_CTRL, 0x3C000E10), (LG_SEQ, 0)],
    State.reset.dev.rdN x.1 = x.2) ∧
  (∀ k : Fin 192, State.reset.dev.rdN (AX_PL_STATUS k) = 8 ∧ State.reset.dev.plState k = plOFF ∧ State.reset.dev.axState k = axOFF ∧
    State.reset.dev.rdN (AX_PL_DEPTH k) = 64) ∧
  (∀ c : Fin 32, State.reset.dev.cyState c = cyFREE) ∧ (∀ c : Fin 16, State.reset.dev.tkState c = tkOFF)

/-- The clock is in order at reset.
Where the rules leave a point open the clause is the model's choice: notes/assumptions/4. -/
def Obligations.ClockInOrderAtReset : Prop := Claims.clockOk State.reset.dev.clk

/-- Every step keeps the clock in order: whatever command runs, the beat in progress has a permitted length, phases that satisfy
R17 and R18 as far as they concern the beat's ends, and a tick below its length.
Where the rules leave a point open the clause is the model's choice: notes/assumptions/50, notes/assumptions/54. -/
def Obligations.EveryStepKeepsTheClockInOrder : Prop :=
  ∀ s t : State, Claims.clockOk s.dev.clk → step s = .next t → Claims.clockOk t.dev.clk

/-- Device time never goes back: a step leaves the ticks since reset as they are or counts them on, and while the scheduler
runs it goes on running with the beat and tick of its stamp64 not before those of the last step, unless the step resets the
device and the clock starts anew.
Where the rules leave a point open the clause is the model's choice: notes/assumptions/50, notes/assumptions/52. -/
def Obligations.TimeNeverGoesBack : Prop :=
  ∀ s t : State, step s = .next t →
    t.dev.clk = {} ∨
    (s.dev.clk.now ≤ t.dev.clk.now ∧
      (s.dev.clk.running = true → t.dev.clk.running = true ∧
        (s.dev.clk.beat < t.dev.clk.beat ∨ (t.dev.clk.beat = s.dev.clk.beat ∧ s.dev.clk.tick ≤ t.dev.clk.tick))))

/-! ### The beat and its settings (R14–R34) -/

/-- COMMIT_RESULT while the scheduler runs: the checks pass exactly where the length is permitted (R14), a changed length finds
no axis enabled (R32), L and D satisfy R17 and R18 with the F of the longest live frame and TRIM_MAX, and every engine fits
(R26), under the assignment of an update in progress too. -/
def Obligations.SettingsPassExactlyTheirChecks : Prop :=
  ∀ (d : Device) (len l dl : Nat), d.clk.running = true →
    (d.settingsCode len l dl = 1 ↔
      (len ∈ [800, 1000, 1250, 1280, 1600, 2000, 2500, 3125, 3200, 4000, 5000, 6250, 6400] ∧
       (len ≠ d.clk.len → ∀ k < 192, d.axState k = axOFF) ∧
       (d.longestF + 40 ≤ l ∧ l + 40 + d.get TB_TRIM_TRIM_MAX ≤ len) ∧
       (d.longestF + 40 < dl ∧ dl + 48 + d.get TB_TRIM_TRIM_MAX ≤ len) ∧
       d.allFit d.laysInForce dl = true ∧ d.updFits d.laysInForce dl = true))

/-- A pending commit at the boundary (R31, R34): one check of the shadow values present then.  If it passes they are in force and
COMMIT_RESULT reads 1; if not, the settings stay, COMMIT_RESULT gives the reason, COMMIT_REFUSED is raised and one message of
INSTANCE 0xFF goes to the ledger.  Without a pending commit nothing changes.
Where the rules leave a point open the clause is the model's choice: notes/assumptions/55. -/
def Obligations.CommitTakesEffectAtTheBoundary : Prop :=
  ∀ d : Device,
    (d.has TB_STATUS_COMMIT_PEND = false → d.settingsBoundary = (d, false)) ∧
    (d.has TB_STATUS_COMMIT_PEND = true → d.injPending 1 0xFF 2 = false →
      let len := d.get TB_BEAT_LEN_LEN
      let l := d.get TB_PHASE_LATCH
      let dl := d.get TB_PHASE_DEADLINE
      let c := (d.put TB_STATUS_COMMIT_PEND 0).settingsCode len l dl
      let e := d.settingsBoundary.1
      e.get TB_STATUS_COMMIT_PEND = 0 ∧ e.get TB_STATUS_COMMIT_RESULT = c ∧
      (c = 1 → e.clk = { d.clk with len := len, latch := l, deadline := dl, curLen := len } ∧
        e.get TB_ACTIVE_LEN_LEN = len ∧ e.get TB_ACTIVE_PHASE_LATCH = l ∧ e.get TB_ACTIVE_PHASE_DEADLINE = dl ∧ e.ledger = d.ledger) ∧
      (c ≠ 1 → e.clk = d.clk ∧ e.has TB_EVENT_COMMIT_REFUSED = true ∧
        e.rd TB_ACTIVE_LEN = d.rd TB_ACTIVE_LEN ∧ e.rd TB_ACTIVE_PHASE = d.rd TB_ACTIVE_PHASE ∧
        e.ledger.waiting = addMsg ⟨1, 0xFF, 2, BitVec.ofNat 32 c, false, false, false, 0, d.clk.now⟩ d.ledger.waiting))

/-- Alignment at a boundary: the beat count and the tick stay, the beat is never longer than LEN, it is shorter by at most
TRIM_MAX ticks and by none while TRIMMING is 0, and a tick 0 lies inside it. -/
def Sys2Proof.Claims.AlignmentNeverLengthensABeat : Prop :=
  ∀ (d : Device) (removed : Nat), Claims.clockOk d.clk → d.clk.tick = 0 →
    let e := d.alignBoundary removed
    e.clk.beat = d.clk.beat ∧ e.clk.tick = d.clk.tick ∧ e.clk.curLen ≤ d.clk.len ∧
    d.clk.len ≤ e.clk.curLen + d.get TB_TRIM_TRIM_MAX ∧ e.clk.tick + 1 ≤ e.clk.curLen ∧
    (e.has TB_STATUS_TRIMMING = false → e.clk.curLen = d.clk.len)

/-- BEAT_BOUNDARY of a running scheduler: the next beat begins at tick 0 with both its phases ahead, and the ticks that the
beat had left have passed.  While the scheduler does not run the command has no effect. -/
def Sys2Proof.Claims.BoundaryBeginsTheNextBeat : Prop :=
  ∀ s : State, s.dev.inReset = false → Claims.clockOk s.dev.clk →
    ∃ t, exec .beatBoundary s = .next t ∧ t.pending = s.pending ∧
      (s.dev.clk.running = false → t = s) ∧
      (s.dev.clk.running = true →
        t.dev.clk.running = true ∧ t.dev.clk.beat = s.dev.clk.beat + 1 ∧ t.dev.clk.tick = 0 ∧
        t.dev.clk.latched = false ∧ t.dev.clk.closed = false ∧
        t.dev.clk.now = s.dev.clk.now + (s.dev.clk.curLen - s.dev.clk.tick))

/-- LATCH_PHASE: once a beat, the ticks up to L pass and every step generator has taken up its staged command; a command
that comes after L acts without time passing.  Here with the deadline of the beat still ahead, as the default phases have it. -/
def Sys2Proof.Claims.LatchPhaseTakesUpStepCommands : Prop :=
  ∀ s : State, s.dev.inReset = false →
    ∃ t, exec .latchPhase s = .next t ∧ t.pending = s.pending ∧
      (s.dev.clk.running = false ∨ s.dev.clk.latched = true → t = s) ∧
      (s.dev.clk.running = true → s.dev.clk.latched = false → s.dev.clk.closed = false → s.dev.clk.latch ≤ s.dev.clk.deadline →
        t.dev.clk = { s.dev.clk with now := s.dev.clk.now + (s.dev.clk.latch - s.dev.clk.tick),
                                     tick := s.dev.clk.tick + (s.dev.clk.latch - s.dev.clk.tick), latched := true } ∧
        ∀ g < 16, (t.dev.gen g).staged = false)

/-- DISPATCH_DEADLINE: once a beat, the ticks up to D pass, staging is closed, and after the hand-off no axis has a staged
result left; a second command in the beat is without effect.  Here with the latch phase already had. -/
def Sys2Proof.Claims.DeadlineHandsOffStagedResults : Prop :=
  ∀ s : State, s.dev.inReset = false →
    ∃ t, exec .dispatchDeadline s = .next t ∧ t.pending = s.pending ∧
      (s.dev.clk.running = false ∨ s.dev.clk.closed = true → t = s) ∧
      (s.dev.clk.running = true → s.dev.clk.closed = false → s.dev.clk.latched = true →
        t.dev.clk = { s.dev.clk with now := s.dev.clk.now + (s.dev.clk.deadline - s.dev.clk.tick),
                                     tick := s.dev.clk.tick + (s.dev.clk.deadline - s.dev.clk.tick), closed := true } ∧
        ∀ k < 192, (t.dev.ax k).staged = none)

/-- One overrun of axis `k` of engine `e` without an injection: TB_OVR_COUNT and the engine's own count go up by one and
saturate, TB_OVR_LAST names engine, axis and run, OVERRUN is raised, one message waits for the ledger, no result of the axis
stands staged, and every other axis and every other register is as it was. -/
def Sys2Proof.Claims.OverrunIsCountedAndReported : Prop :=
  ∀ (d : Device) (e : Fin 28) (k : Fin 192) (consec : Nat), consec < 65536 →
    let x := d.overrunAxis e k consec none
    x.get TB_OVR_COUNT_COUNT = satU 32 (d.get TB_OVR_COUNT_COUNT + 1) ∧
    x.get (DV_OVR_COUNT e) = satU (DV_OVR_COUNT e).width (d.get (DV_OVR_COUNT e) + 1) ∧
    x.get TB_OVR_LAST_CONSEC = consec ∧ x.get TB_OVR_LAST_ENGINE = e ∧ x.get TB_OVR_LAST_AXIS = k ∧
    x.has TB_EVENT_OVERRUN = true ∧ (x.ax k).staged = none ∧ (∀ j, j ≠ k.val → x.ax j = d.ax j) ∧
    x.ledger.waiting = addMsg ⟨1, k, 1, BitVec.ofNat 32 (consec * 65536 + e), false, true, false, 0, d.clk.now⟩ d.ledger.waiting ∧
    sameRegs d x (fun a => a ∈ [TB_OVR_COUNT, TB_OVR_LAST, TB_EVENT, (DV_OVR_COUNT e).addr]) ∧ x.bulk = d.bulk

/-- The commands on the beat's registers.  BEAT_COMMIT sets COMMIT_PEND, CLEAR_OVR clears the overrun registers, a write of TB_TRIM
stores TRIM_MAX and ALIGN_EN if L and D in force still satisfy R17 and R18 and is ignored otherwise; nothing else changes.
SLACK_INTERVAL_END, at the end of an interval, publishes the least margin of the engines and begins the next interval. -/
def Sys2Proof.Claims.BeatRegisterCommands : Prop :=
  ∀ s : State, s.dev.inReset = false →
    leads .beatCommit s (fun d => d.get TB_STATUS_COMMIT_PEND = 1 ∧ d.get TB_STATUS_COMMIT_RESULT = s.dev.get TB_STATUS_COMMIT_RESULT ∧
      onlyRegs s.dev d (· = TB_STATUS)) ∧
    leads .clearOvr s (fun d => d.rd TB_OVR_COUNT = 0 ∧ d.rd TB_OVR_LAST = 0 ∧ onlyRegs s.dev d (fun a => a = TB_OVR_COUNT ∨ a = TB_OVR_LAST)) ∧
    (∀ v : BitVec 32,
      let trim := v.toNat % 16
      let fits := s.dev.longestF + 40 ≤ s.dev.clk.latch ∧ s.dev.clk.latch + 40 + trim ≤ s.dev.clk.len ∧
        s.dev.longestF + 40 < s.dev.clk.deadline ∧ s.dev.clk.deadline + 48 + trim ≤ s.dev.clk.len
      (fits → leads (.tbTrimWrite v) s (fun d => d.rd TB_TRIM = v &&& 0x10F ∧ onlyRegs s.dev d (· = TB_TRIM))) ∧
      (¬ fits → leads (.tbTrimWrite v) s (· = s.dev))) ∧
    (∀ t, s.dev.clk.running = true → s.dev.slackEnd = some t →
      leads .slackIntervalEnd s (fun d => d.tm.slackAt = t ∧ (∀ e < 28, (d.eng e).minSlack = 0xFFFF) ∧
        ∃ e < 28, d.get TB_SLACK_MIN_SLACK = (s.dev.eng e).minSlack % 65536 ∧ d.get TB_SLACK_ENGINE = e ∧
          ∀ f < 28, (s.dev.eng e).minSlack ≤ (s.dev.eng f).minSlack))

/-- Alignment at a boundary: the beat count and the tick stay, the beat is never longer than LEN, it is shorter by at most
TRIM_MAX ticks and by none while TRIMMING is 0, and a tick 0 lies inside it.
BEAT_BOUNDARY of a running scheduler: the next beat begins at tick 0 with both its phases ahead, and the ticks that the
beat had left have passed.  While the scheduler does not run the command has no effect. -/
def Obligations.BoundaryBeginsAnAlignedBeat : Prop :=
  Claims.AlignmentNeverLengthensABeat ∧ Claims.BoundaryBeginsTheNextBeat

/-- LATCH_PHASE: once a beat, the ticks up to L pass and every step generator has taken up its staged command; a command
that comes after L acts without time passing.  Here with the deadline of the beat still ahead, as the default phases have it.
DISPATCH_DEADLINE: once a beat, the ticks up to D pass, staging is closed, and after the hand-off no axis has a staged
result left; a second command in the beat is without effect.  Here with the latch phase already had.
Where the rules leave a point open the clause is the model's choice: notes/assumptions/54. -/
def Obligations.LatchAndDeadlineOfABeat : Prop :=
  Claims.LatchPhaseTakesUpStepCommands ∧ Claims.DeadlineHandsOffStagedResults

/-- One overrun of axis `k` of engine `e` without an injection: TB_OVR_COUNT and the engine's own count go up by one and
saturate, TB_OVR_LAST names engine, axis and run, OVERRUN is raised, one message waits for the ledger, no result of the axis
stands staged, and every other axis and every other register is as it was.
The commands on the beat's registers.  BEAT_COMMIT sets COMMIT_PEND, CLEAR_OVR clears the overrun registers, a write of TB_TRIM
stores TRIM_MAX and ALIGN_EN if L and D in force still satisfy R17 and R18 and is ignored otherwise; nothing else changes.
SLACK_INTERVAL_END, at the end of an interval, publishes the least margin of the engines and begins the next interval.
Where the rules leave a point open the clause is the model's choice: notes/assumptions/54, notes/assumptions/59. -/
def Obligations.OverrunsAndBeatCommands : Prop :=
  Claims.OverrunIsCountedAndReported ∧ Claims.BeatRegisterCommands

/-! ### Power, reset, register access and start-up (R4–R9, R528–R537, R543) -/

namespace Sys2Proof.Claims

/-- What a reset of a cause leaves of the block `d`: XS_RESET_CAUSE (cleared by the power-on cause, which sets bit 0, else with
the cause's bit set), the programmed and revoked key-hash slots and their hashes survive; each bank takes its class from its
supply; every other register is at its table's value and every unit is as State.reset has it. -/
def afterReset (d e : Device) (cause : Nat) : Prop :=
  e.rdN XS_RESET_CAUSE = (if cause = 1 then 1 else d.get XS_RESET_CAUSE_CAUSE ||| cause) ∧
  e.rdN XS_OTP_STATE = d.rdN XS_OTP_STATE % 256 ∧ e.boot.otp = d.boot.otp ∧
  e.get GL_IO_BANK_V18 = 511 - d.pkg.above.toNat ∧
  (∀ a, a ≠ XS_RESET_CAUSE → a ≠ XS_OTP_STATE → a ≠ GL_IO_BANK → e.rd a = resetWord a) ∧
  e.ports = [] ∧ e.boot.started = false ∧ e.boot.records = [] ∧ e.mem.pageMap = [] ∧
  { e with regs := [], free := 1, boot := {}, pkg := {}, test := {}, mem := {} } = ({} : Device)

end Sys2Proof.Claims

/-- The supplies and reset inputs. POWER_ON_RELEASE ends the power-on hold and gives each bank the 1.8 V class unless its
VDDIO exceeds 2.5 V, and has no effect on a device that is not held; SUPPLY_LOW resets with the power-on cause and holds
the device; RESET_N resets with its own cause, and the device stays in reset while TEST_EN reads high; XS_RESET from a
write session or JTAG resets with KEY 0xB007 and RESET 1, is refused with code 4 for another key and leaves the device
alone without RESET or from any other path. A reset starts the clock anew. -/
def Sys2Proof.Claims.SuppliesAndResets : Prop :=
  ∀ s : State,
    (∀ above : BitVec 9, ∃ t, exec (.powerOnRelease above) s = .next t ∧ t.pending = s.pending ∧ t.dev.clk = s.dev.clk ∧
      (s.dev.pkg.porHold = true → t.dev.pkg = { s.dev.pkg with porHold := false, above := above } ∧
        t.dev.get GL_IO_BANK_V18 = 511 - above.toNat ∧ sameRegs s.dev t.dev (· = GL_IO_BANK)) ∧
      (s.dev.pkg.porHold = false → t = s)) ∧
    (∃ t, exec .supplyLow s = .next t ∧ t.pending = s.pending ∧ t.dev.clk = {} ∧ Claims.afterReset s.dev t.dev 1 ∧
      t.dev.pkg.porHold = true ∧ t.dev.inReset = true) ∧
    (∃ t, exec .resetN s = .next t ∧ t.pending = s.pending ∧ t.dev.clk = {} ∧ Claims.afterReset s.dev t.dev 2 ∧
      t.dev.pkg.porHold = s.dev.pkg.porHold ∧ t.dev.pkg.testEn = s.dev.pkg.testEn ∧ (s.dev.pkg.testEn = true → t.dev.inReset = true)) ∧
    (s.dev.inReset = false → ∀ (path : Fin 36) (v : BitVec 32), 1 ≤ path.val → path.val ≤ 5 →
      (v.toNat / 65536 = 0xB007 → v.toNat % 2 = 1 →
        ∃ t, exec (.xsReset path v) s = .next t ∧ t.pending = s.pending ∧ t.dev.clk = {} ∧ Claims.afterReset s.dev t.dev 4) ∧
      (v.toNat / 65536 = 0xB007 → v.toNat % 2 = 0 → leads (.xsReset path v) s (· = s.dev)) ∧
      (v.toNat / 65536 ≠ 0xB007 → leads (.xsReset path v) s (fun d => d.get (XS_STATUS_REFUSE_LAST 0) = 4 ∧
        d.has (XS_EVENT_REFUSED 0) = true ∧
        onlyRegs s.dev d (fun a => a = (XS_STATUS_REFUSE_LAST 0).addr ∨ a = (XS_EVENT_REFUSED 0).addr)))) ∧
    (s.dev.inReset = false → ∀ (path : Fin 36) (v : BitVec 32), path.val = 0 ∨ 5 < path.val → leads (.xsReset path v) s (· = s.dev))

/-- REG_WRITE.  A write to an unassigned address, or by session 0, has no effect; a plain register takes the bits of its
writable fields (here the shadow beat length, for every path); a pair is written whole by the write of its upper half, whose
lower half waits in the path's own holding register (R7, here the planner's target); an aligned word of bulk memory takes the
four bytes (each reads as written where its cell has no stuck bit, R379) and no byte kept elsewhere changes.
Where the rules leave a point open the clause is the model's choice: notes/assumptions/52, notes/assumptions/56. -/
def Obligations.RegisterWritesByAccessPath : Prop :=
  ∀ (s : State) (path : Fin 36) (a v : BitVec 32), s.dev.inReset = false →
    (a.toNat % 4 = 0 → a.toNat < 0x1000000 → regRow a.toNat = none → leads (.regWrite path a v) s (· = s.dev)) ∧
    (path.val = 0 → leads (.regWrite path a v) s (· = s.dev)) ∧
    (path.val ≠ 0 → leads (.regWrite path (BitVec.ofNat 32 TB_BEAT_LEN) v) s (fun d =>
      d.get TB_BEAT_LEN_LEN = v.toNat % 2 ^ 13 ∧ onlyRegs s.dev d (· = TB_BEAT_LEN))) ∧
    (path.val ≠ 0 → ∀ k : Fin 192,
      leads (.regWrite path (BitVec.ofNat 32 (AX_PL_TARGET k)) v) s (fun d =>
        (d.hold.pick {} path).wr = v ∧ (∀ p, p ≠ path.val → d.hold.pick {} p = s.dev.hold.pick {} p) ∧
        { d with hold := s.dev.hold } = s.dev) ∧
      leads (.regWrite path (BitVec.ofNat 32 (AX_PL_TARGET k + 4)) v) s (fun d =>
        d.rd (AX_PL_TARGET k) = (s.dev.hold.pick {} path).wr ∧ d.rd (AX_PL_TARGET k + 4) = v ∧
        onlyRegs s.dev d (fun x => x = AX_PL_TARGET k ∨ x = AX_PL_TARGET k + 4))) ∧
    (path.val ≠ 0 → a.toNat % 4 = 0 → bulkBase ≤ a.toNat → a.toNat < bulkEnd → leads (.regWrite path a v) s (fun d =>
      (∀ i < 4, Store.get (fun _ => 0) s.dev.mem.hard (s.dev.bulkKey (a.toNat + i)) = 0 →
        d.peek1 (a.toNat + i) = (BitVec.ofNat 8 (v.toNat / 256 ^ i), 0)) ∧
      (∀ b, (∀ i < 4, s.dev.bulkKey b ≠ s.dev.bulkKey (a.toNat + i)) → d.peek1 b = s.dev.peek1 b) ∧
      { d with bulk := s.dev.bulk, bulkErr := s.dev.bulkErr } = s.dev))

/-- LOADER_START, 100 µs after the release, with both ports whole: if neither header passes, the device enters RECOVERY (R529:
RECOVERY is set, the fill runs, the MAC address is 02-CA followed by the low half of the serial number); if both pass, the copy
with the greater GEN is checked first, copy A if they are equal, and the other waits.  Before 100 µs, or a second time, the
command has no effect. -/
def Sys2Proof.Claims.LoaderStartOrdersTheCopies : Prop :=
  ∀ s : State, s.dev.inReset = false →
    (s.dev.boot.started = true ∨ s.dev.clk.now < 10000 → ∀ errs, leads (.loaderStart errs) s (· = s.dev)) ∧
    (s.dev.boot.started = false → s.dev.clk.running = false → 10000 ≤ s.dev.clk.now →
      (s.dev.fl 0).fenced = false → (s.dev.fl 1).fenced = false →
      (mfHeaderOk (s.dev.mfHeader 0) = false → mfHeaderOk (s.dev.mfHeader 1) = false →
        leads (.loaderStart 0) s (fun d => d.boot.started = true ∧ d.boot.filling = true ∧ d.boot.checking = none ∧
          d.has XS_BOOT_RECOVERY = true ∧ d.get XS_BOOT_CHECK_A = 3 ∧ d.get XS_BOOT_CHECK_B = 3 ∧
          d.get EN_MAC_HI_MAC_HI = 0x02CA ∧ d.rdN EN_MAC_LO = Config.serial.toNat % 2 ^ 32 ∧ d.bulk = s.dev.bulk)) ∧
      (mfHeaderOk (s.dev.mfHeader 0) = true → mfHeaderOk (s.dev.mfHeader 1) = true →
        let first := if mfGen (s.dev.mfHeader 0) < mfGen (s.dev.mfHeader 1) then 1 else 0
        leads (.loaderStart 0) s (fun d => d.boot.started = true ∧ d.boot.checking = some first ∧ d.boot.todo = [1 - first] ∧
          d.get XS_BOOT_COPY = s.dev.get XS_BOOT_COPY ∧ d.bulk = s.dev.bulk)))

/-- COPY_CHECKED while copy `p` is checked and the scheduler does not run yet.  The check's code (R527) decides: a copy that
passes is booted, after which steps 1 to 5 of R530 are done and the beat settings of step 6 are in force; a copy that fails
leaves its code in XS_BOOT and its port at the reset settings, and with no other copy left the device enters RECOVERY. -/
def Sys2Proof.Claims.CopyCheckBootsOrRecovers : Prop :=
  (∀ (s : State) (p : Nat) (err : Bool) (at_ : BitVec 32), s.dev.inReset = false → s.dev.boot.checking = some p →
    s.dev.clk.running = false →
    exec (.copyChecked err at_) s = .next ⟨if (s.dev.mfCheck p err).code = 1 then s.dev.bootCopy p (s.dev.mfCheck p err)
      else s.dev.still (fun d => d.copyFailed p (s.dev.mfCheck p err).code err at_.toNat), s.pending⟩) ∧
  (∀ (d : Device) (p : Nat) (c : MfCheck), p < 2 → d.clk.running = false →
    (d.bootCopy p c).get XS_BOOT_STEP = 5 ∧ (d.bootCopy p c).clk.now = d.clk.now ∧ (d.bootCopy p c).clk.running = false ∧
    (d.bootCopy p c).get TB_ACTIVE_LEN_LEN = (d.bootCopy p c).clk.len % 2 ^ 13) ∧
  (∀ (d : Device) (p code : Nat) (err : Bool) (at_ : Nat), p < 2 → code < 256 → d.boot.todo = [] →
    let e := d.copyFailed p code err at_
    e.get ⟨XS_BOOT, 8 + 8 * p, 8⟩ = code ∧ e.has XS_BOOT_RECOVERY = true ∧ e.boot.filling = true ∧ e.boot.checking = none ∧
    e.rd (XS_CTRL p) = resetWord (XS_CTRL p) ∧ e.rd (XS_OPC p) = resetWord (XS_OPC p) ∧ e.bulk = d.bulk)

/-- The rest of the loader's sequence. RECOVERY_FILL_DONE ends the fill, and with no message held and no stuck bit every
byte of bulk memory reads 0 without error; ASSIGN_APPLY waits for every self-test and ends with step 6; LOADER_TG_APPLY at
step 6 starts the beat scheduler at beat 0, tick 0.
Where the rules leave a point open the clause is the model's choice: notes/assumptions/48. -/
def Obligations.LoaderSequenceEndsWithTheScheduler : Prop :=
  ∀ s : State, s.dev.inReset = false →
    (s.dev.boot.filling = true → leads .recoveryFillDone s (fun d => d.boot.filling = false ∧
      (s.dev.ledger.waiting = [] → s.dev.mem.hard = [] → ∀ a, bulkBase ≤ a → a < bulkEnd → d.peek1 a = (0, 0)))) ∧
    (s.dev.boot.filling = false → leads .recoveryFillDone s (· = s.dev)) ∧
    (s.dev.boot.booted.isSome = true → s.dev.get XS_BOOT_STEP = 5 →
      (∀ e < 28, s.dev.role e ≠ 0 ∧ s.dev.role e ≠ rlSELFTEST) → leads .assignApply s (fun d => d.get XS_BOOT_STEP = 6)) ∧
    ((∃ e < 28, s.dev.role e = rlSELFTEST) → leads .assignApply s (· = s.dev)) ∧
    (∀ stuck failed : BitVec 16, s.dev.clk.running = false → s.dev.get XS_BOOT_STEP = 6 →
      ∃ t, exec (.loaderTgApply stuck failed) s = .next t ∧ t.pending = s.pending ∧ t.dev.clk.running = true ∧
        t.dev.clk.beat = 0 ∧ t.dev.clk.tick = 0 ∧ t.dev.clk.now = s.dev.clk.now) ∧
    (∀ stuck failed : BitVec 16, s.dev.clk.running = true ∨ s.dev.get XS_BOOT_STEP ≠ 6 →
      exec (.loaderTgApply stuck failed) s = .next s)

/-- The supplies and reset inputs. POWER_ON_RELEASE ends the power-on hold and gives each bank the 1.8 V class unless its
VDDIO exceeds 2.5 V, and has no effect on a device that is not held; SUPPLY_LOW resets with the power-on cause and holds
the device; RESET_N resets with its own cause, and the device stays in reset while TEST_EN reads high; XS_RESET from a
write session or JTAG resets with KEY 0xB007 and RESET 1, is refused with code 4 for another key and leaves the device
alone without RESET or from any other path. A reset starts the clock anew. While the power-on reset or DEVICE_RESET holds
the device, a command that is neither a pin event nor a JTAG one changes nothing: here commands of each of the other gates
(a register write, a command of a unit, a beat event).
Where the rules leave a point open the clause is the model's choice: notes/assumptions/35, notes/assumptions/49, notes/assumptions/52. -/
def Obligations.ResetsAndWhatTheyHold : Prop :=
  Claims.SuppliesAndResets ∧ Claims.HeldResetStopsCommands

/-- LOADER_START, 100 µs after the release, with both ports whole: if neither header passes, the device enters RECOVERY (R529:
RECOVERY is set, the fill runs, the MAC address is 02-CA followed by the low half of the serial number); if both pass, the copy
with the greater GEN is checked first, copy A if they are equal, and the other waits.  Before 100 µs, or a second time, the
command has no effect.
COPY_CHECKED while copy `p` is checked and the scheduler does not run yet.  The check's code (R527) decides: a copy that
passes is booted, after which steps 1 to 5 of R530 are done and the beat settings of step 6 are in force; a copy that fails
leaves its code in XS_BOOT and its port at the reset settings, and with no other copy left the device enters RECOVERY.
Where the rules leave a point open the clause is the model's choice: notes/assumptions/34, notes/assumptions/48. -/
def Obligations.LoaderChecksTheCopies : Prop :=
  Claims.LoaderStartOrdersTheCopies ∧ Claims.CopyCheckBootsOrRecovers

/-! ### The route planner (R41–R61) -/

namespace Sys2Proof.Claims

/-- What a command to the planner of axis `k` leaves alone.  With `k` a squash reaches only the axes that it draws along, its
gantry twin and the followers of which it is the master (R84, R89): they keep their planner's state but for the generation
and the age of their predictions.  Every other planner, every snapshot register but AX_PL_STATUS of these axes, every other
unit but the milestones, every register outside these axes' planner blocks, the milestones and the queues is unchanged, and
so are memory and the ledger, unless a scheduled pulse of a milestone on one of these axes is withdrawn. -/
def plannerFrame (d e : Device) (k : Nat) : Prop :=
  (∀ j, j ≠ k → e.pl j = d.pl j ∨ (j ∈ d.drawn [k] ∧ e.pl j = { d.pl j with gen := (d.pl j).gen + 1, age := 0 })) ∧
  (∀ f : Fld, (∀ j ∈ d.drawn [k], f.addr ≠ AX_PL_STATUS j) → e.liveGet f = d.liveGet f) ∧
  { unitsOf e with planners := d.planners, live := d.live, miles := d.miles } = unitsOf d ∧
  sameRegs d e (fun a => (∃ j ∈ d.drawn [k], AX_PL_CTRL j ≤ a ∧ a < AX_PL_CTRL j + 0x100) ∨ (0xC5000 ≤ a ∧ a < 0xC6000) ∨ queueReg a) ∧
  ((∀ j ∈ d.drawn [k], ∀ m ∈ d.msOfAxis j, (d.ms m).sched = []) →
    e.bulk = d.bulk ∧ e.bulkErr = d.bulkErr ∧ e.ledger = d.ledger ∧ e.miles = d.miles)

/-- The planner of axis `k`, changed by `f`, is re-planned from the commit point and squashed (R46, R61): the new profile starts
at the next boundary, the generation and SQUASHES go up by one, SQUASHED is raised and no predicted entry is valid.  The commit
point counts the SHIFTs still to come (R58, `Planner.start`). -/
def replanned (d e : Device) (k : Nat) (f : Planner → Planner) : Prop :=
  e.pl k = { f (d.pl k) with prof := (f (d.pl k)).replan (d.has (AX_PL_CTRL_SOFT_EN k)) ((f (d.pl k)).start d.clk.beat), origin := d.clk.beat + 1,
                             gen := (f (d.pl k)).gen + 1, age := 0 } ∧
  e.get (AX_PL_SQUASHES_COUNT k) = (d.get (AX_PL_SQUASHES_COUNT k) + 1) % 2 ^ 32 ∧ e.has (AX_PL_EVENT_SQUASHED k) = true ∧
  e.liveGet (AX_PL_STATUS_DEPTH_VALID k) = 0

/-- The planner of axis `k` refused a command with a code: REFUSE_LAST and REFUSED say so and nothing else changes. -/
def plannerRefused (d e : Device) (k code : Nat) : Prop :=
  e.liveGet (AX_PL_STATUS_REFUSE_LAST k) = code ∧ e.has (AX_PL_EVENT_REFUSED k) = true ∧ e.plState k = d.plState k ∧
  { e with regs := d.regs, live := d.live } = d ∧ (∀ f : Fld, f.addr ≠ AX_PL_STATUS k → e.liveGet f = d.liveGet f) ∧
  sameRegs d e (· = AX_PL_EVENT k)

/-- R48 puts no change that axis `k` has taken in this tick behind the change `r`, which is therefore taken next. -/
def inTurn (d : Device) (k : Nat) (r : PlReq) : Prop := ∀ q ∈ d.plHist k, q.rank ≤ r.rank

/-- Command `c` completes, and `P` holds of the block but for what axis `k` notes of the changes of this tick (R48). -/
def takes (c : Instr) (s : State) (k : Nat) (P : Device → Prop) : Prop :=
  leads c s (fun e => (∀ j, j ≠ k → e.plTicks.pick {} j = s.dev.plTicks.pick {} j) ∧ P { e with plTicks := s.dev.plTicks })

/-- Would the profile of the planner, changed by `f`, last longer than 2⁴⁰ ticks (R41)? -/
def tooLong (d : Device) (k : Nat) (f : Planner → Planner) : Prop :=
  2 ^ 40 < ((f (d.pl k)).replan (d.has (AX_PL_CTRL_SOFT_EN k)) ((f (d.pl k)).start d.clk.beat)).dur

/-- The planner takes a move: position mode toward a target, or velocity mode at a velocity. -/
def moved (mode : Nat) (target jog : Int) (p : Planner) : Planner := { p with mode := mode, target := target, jogVel := jog, moveId := p.moveId + 1 }

/-- What GO (mode 1) or JOG (mode 2) does by the planner's state: refused with AXIS_OFF, CONVOY or BUSY_STOP; refused with
LIMIT_ZERO while a limit is 0; kept without a re-plan in HOLDING and HELD; refused with DURATION; else re-planned. -/
def moveTaken (c : Instr) (s : State) (k : Fin 192) (mode : Nat) (target jog : Int) : Prop :=
  let st := s.dev.plState k
  let ok := (s.dev.pl k).lim.zero = false
  let inRange := mode = 1 → s.dev.has (AX_PL_CTRL_SOFT_EN k) = true → (s.dev.pl k).lim.smin ≤ target ∧ target ≤ (s.dev.pl k).lim.smax
  (st = plOFF ∨ st = plDISABLING → takes c s k (plannerRefused s.dev · k 4)) ∧
  (st = plFOLLOWING → takes c s k (plannerRefused s.dev · k 5)) ∧
  (st = plSTOPPING → takes c s k (plannerRefused s.dev · k 3)) ∧
  (st = plIDLE ∨ st = plMOVING ∨ st = plJOGGING ∨ st = plHOLDING ∨ st = plHELD → ¬ ok → takes c s k (plannerRefused s.dev · k 2)) ∧
  (st = plIDLE ∨ st = plMOVING ∨ st = plJOGGING ∨ st = plHOLDING ∨ st = plHELD → ok → ¬ inRange →
    takes c s k (plannerRefused s.dev · k 1)) ∧
  (st = plHOLDING ∨ st = plHELD → ok → inRange → takes c s k (fun d => d.pl k = moved mode target jog (s.dev.pl k) ∧
    d.plState k = st ∧ d.get (AX_PL_SQUASHES_COUNT k) = s.dev.get (AX_PL_SQUASHES_COUNT k) ∧ plannerFrame s.dev d k)) ∧
  (st = plIDLE ∨ st = plMOVING ∨ st = plJOGGING → ok → inRange →
    (tooLong s.dev k (moved mode target jog) → takes c s k (plannerRefused s.dev · k 10)) ∧
    (¬ tooLong s.dev k (moved mode target jog) → takes c s k (fun d => replanned s.dev d k (moved mode target jog) ∧
      d.plState k = (if mode = 1 then plMOVING else plJOGGING) ∧ plannerFrame s.dev d k)))

end Sys2Proof.Claims

/-- GO takes the target of AX_PL_TARGET and JOG the velocity of AX_PL_JOG_VEL, by the planner's state (R41, R42, R48, R51, R53,
R54), each in its turn of the tick: exactly one of refused, kept and re-planned, with everything else of the block unchanged. -/
def Sys2Proof.Claims.GoAndJogByPlannerState : Prop :=
  ∀ (s : State) (k : Fin 192), s.dev.inReset = false →
    (Claims.inTurn s.dev k (.go (s.dev.rdS64 (AX_PL_TARGET k))) →
      Claims.moveTaken (.go k) s k 1 (posIn (s.dev.rdS64 (AX_PL_TARGET k))) 0) ∧
    (Claims.inTurn s.dev k (.jog (s.dev.rdS64 (AX_PL_JOG_VEL k))) →
      Claims.moveTaken (.jog k) s k 2 0 (jogIn (s.dev.rdS64 (AX_PL_JOG_VEL k))))

/-- HOLD and RESUME (R54), each in its turn of the tick.  A HOLD of a moving or jogging axis decelerates it as a controlled stop
and keeps its target, unless the stop would last too long (DURATION); in IDLE, HOLDING and HELD it has no effect.  A RESUME of a
holding or held axis re-plans toward the kept target or velocity; in any other state where it is not refused otherwise it is
refused with NOT_HELD. -/
def Sys2Proof.Claims.HoldAndResumeKeepTheTarget : Prop :=
  ∀ (s : State) (k : Fin 192), s.dev.inReset = false → Claims.inTurn s.dev k .hold →
    let st := s.dev.plState k
    (st = plIDLE ∨ st = plHOLDING ∨ st = plHELD → Claims.takes (.hold k) s k (· = s.dev)) ∧
    (st = plMOVING ∨ st = plJOGGING → Claims.tooLong s.dev k (fun p => { p with stop := 3 }) →
      Claims.takes (.hold k) s k (Claims.plannerRefused s.dev · k 10)) ∧
    (st = plMOVING ∨ st = plJOGGING → ¬ Claims.tooLong s.dev k (fun p => { p with stop := 3 }) → Claims.takes (.hold k) s k (fun d =>
      Claims.replanned s.dev d k (fun p => { p with stop := 3 }) ∧
      d.plState k = plHOLDING ∧ (d.pl k).target = (s.dev.pl k).target ∧ (d.pl k).jogVel = (s.dev.pl k).jogVel ∧
      (d.pl k).mode = (s.dev.pl k).mode ∧ Claims.plannerFrame s.dev d k)) ∧
    (st = plSTOPPING → Claims.takes (.hold k) s k (Claims.plannerRefused s.dev · k 3) ∧
      Claims.takes (.resume k) s k (Claims.plannerRefused s.dev · k 3)) ∧
    (st = plOFF ∨ st = plDISABLING → Claims.takes (.hold k) s k (Claims.plannerRefused s.dev · k 4) ∧
      Claims.takes (.resume k) s k (Claims.plannerRefused s.dev · k 4)) ∧
    (st = plFOLLOWING → Claims.takes (.hold k) s k (Claims.plannerRefused s.dev · k 5) ∧
      Claims.takes (.resume k) s k (Claims.plannerRefused s.dev · k 5)) ∧
    (st = plIDLE ∨ st = plMOVING ∨ st = plJOGGING → Claims.takes (.resume k) s k (Claims.plannerRefused s.dev · k 6)) ∧
    (st = plHOLDING ∨ st = plHELD → Claims.tooLong s.dev k (fun p => { p with stop := 0 }) →
      Claims.takes (.resume k) s k (Claims.plannerRefused s.dev · k 10)) ∧
    (st = plHOLDING ∨ st = plHELD → ¬ Claims.tooLong s.dev k (fun p => { p with stop := 0 }) → Claims.takes (.resume k) s k (fun d =>
      (d.pl k).prof = ({ s.dev.pl k with stop := 0 } : Planner).replan (s.dev.has (AX_PL_CTRL_SOFT_EN k)) ((s.dev.pl k).start s.dev.clk.beat) ∧
      (d.pl k).origin = s.dev.clk.beat + 1 ∧ (d.pl k).stop = 0 ∧ (d.pl k).target = (s.dev.pl k).target ∧
      (d.pl k).gen = (s.dev.pl k).gen + 1 ∧ d.plState k = (if (s.dev.pl k).mode = 2 then plJOGGING else plMOVING) ∧
      Claims.plannerFrame s.dev d k))

/-- STOP and QSTOP (R52, R53), each in its turn of the tick.  Either stops a moving, jogging, holding or held axis and discards
its target, unless the stop would last too long (DURATION); a QSTOP re-plans a controlled stop under the quick-stop bounds; a STOP
during a stop, a QSTOP during a quick stop and both in IDLE change nothing; both are refused with AXIS_OFF or CONVOY where the
axis is off, disabling or follows a convoy. -/
def Sys2Proof.Claims.StopAndQuickStop : Prop :=
  ∀ (s : State) (k : Fin 192), s.dev.inReset = false → Claims.inTurn s.dev k .qstop →
    let st := s.dev.plState k
    let stops := fun (c : Instr) (n : Nat) =>
      let f := fun (p : Planner) => { p with stop := n, mode := 0 }
      (Claims.tooLong s.dev k f → Claims.takes c s k (Claims.plannerRefused s.dev · k 10)) ∧
      (¬ Claims.tooLong s.dev k f → Claims.takes c s k (fun d => Claims.replanned s.dev d k f ∧
        d.plState k = plSTOPPING ∧ Claims.plannerFrame s.dev d k))
    (st = plMOVING ∨ st = plJOGGING ∨ st = plHOLDING ∨ st = plHELD → stops (.stop k) 1 ∧ stops (.qstop k) 2) ∧
    (st = plIDLE ∨ st = plSTOPPING → Claims.takes (.stop k) s k (· = s.dev)) ∧
    (st = plSTOPPING → (s.dev.pl k).stop ≠ 2 → stops (.qstop k) 2) ∧
    (st = plIDLE ∨ (st = plSTOPPING ∧ (s.dev.pl k).stop = 2) → Claims.takes (.qstop k) s k (· = s.dev)) ∧
    (st = plOFF ∨ st = plDISABLING → Claims.takes (.stop k) s k (Claims.plannerRefused s.dev · k 4) ∧
      Claims.takes (.qstop k) s k (Claims.plannerRefused s.dev · k 4)) ∧
    (st = plFOLLOWING → Claims.takes (.stop k) s k (Claims.plannerRefused s.dev · k 5) ∧
      Claims.takes (.qstop k) s k (Claims.plannerRefused s.dev · k 5))

/-- Changes of one tick on one axis (R48): a GO and then a QSTOP leave the planner, its profile included, as a QSTOP and then the
GO do, whatever the first of them did, but for the squashes made. -/
def Sys2Proof.Claims.ChangesOfOneTickInOrder : Prop :=
  ∀ (s : State) (k : Fin 192), s.dev.inReset = false → s.dev.plHist k = [] →
    ∃ t u v w, exec (.go k) s = .next t ∧ exec (.qstop k) t = .next u ∧ exec (.qstop k) s = .next v ∧ exec (.go k) v = .next w ∧
      u.dev.plState k = w.dev.plState k ∧ u.dev.clk = s.dev.clk ∧
      { u.dev.pl k with gen := 0, age := 0 } = { w.dev.pl k with gen := 0, age := 0 }

/-- LIMITS, SHIFT and a write of AX_PL_DEPTH (R42, R45, R58, R60, R66), each in its turn of the tick.  LIMITS with a negative VMAX,
AMAX, DMAX or QDEC is refused with BAD_LIMIT, and one that would leave a limit at 0 outside IDLE and OFF with LIMIT_ZERO; in IDLE,
OFF and HELD the shadow limits are in force without a re-plan, on a moving, jogging, holding or stopping axis with one, and a
lower DMAX or JMAX under which a moving axis would now pass its target waits with LIMIT_DEFERRED where NO_OVERSHOOT is set.  SHIFT
of a whole-count offset in IDLE and HELD moves the target, is due two boundaries on and squashes; a fraction is refused with
BAD_CODE, a moving axis with NOT_STANDSTILL.  A depth of 1 to 64 squashes and waits for the next boundary; other values are
ignored.
Where the rules leave a point open the clause is the model's choice: notes/assumptions/28. -/
def Obligations.LimitsShiftAndDepth : Prop :=
  ∀ (s : State) (k : Fin 192), s.dev.inReset = false →
    let st := s.dev.plState k
    let off := s.dev.rdS64 (AX_PL_TARGET k)
    let passes := fun (l : Limits) => (s.dev.pl k).overshoots ((s.dev.pl k).start s.dev.clk.beat) l
    let kept := fun (l : Limits) => { l with dmax := max l.dmax (s.dev.pl k).lim.dmax, jmax := max l.jmax (s.dev.pl k).lim.jmax }
    (Claims.inTurn s.dev k (.limits (s.dev.plShadow k) 6) →
      (st = plDISABLING → Claims.takes (.limits k) s k (Claims.plannerRefused s.dev · k 4)) ∧
      (st = plFOLLOWING → Claims.takes (.limits k) s k (Claims.plannerRefused s.dev · k 5)) ∧
      (st ≠ plDISABLING → st ≠ plFOLLOWING → s.dev.plShadow k = none → Claims.takes (.limits k) s k (Claims.plannerRefused s.dev · k 7)) ∧
      (∀ l, st ≠ plDISABLING → st ≠ plFOLLOWING → s.dev.plShadow k = some l → l.zero = true → st ≠ plIDLE → st ≠ plOFF →
        Claims.takes (.limits k) s k (Claims.plannerRefused s.dev · k 2)) ∧
      (∀ l, st = plIDLE ∨ st = plOFF ∨ (st = plHELD ∧ l.zero = false) → s.dev.plShadow k = some l → Claims.takes (.limits k) s k (fun d =>
        d.pl k = { s.dev.pl k with lim := l, defer := none } ∧ d.plState k = st ∧
        d.get (AX_PL_SQUASHES_COUNT k) = s.dev.get (AX_PL_SQUASHES_COUNT k) ∧ Claims.plannerFrame s.dev d k)) ∧
      (∀ l, st = plJOGGING ∨ st = plHOLDING ∨ st = plSTOPPING ∨ (st = plMOVING ∧ passes l = false) →
        s.dev.plShadow k = some l → l.zero = false →
        (Claims.tooLong s.dev k (fun p => { p with lim := l, defer := none }) →
          Claims.takes (.limits k) s k (Claims.plannerRefused s.dev · k 10)) ∧
        (¬ Claims.tooLong s.dev k (fun p => { p with lim := l, defer := none }) → Claims.takes (.limits k) s k (fun d =>
          Claims.replanned s.dev d k (fun p => { p with lim := l, defer := none }) ∧ d.plState k = st ∧
          d.liveGet (AX_PL_STATUS_LIMIT_DEFERRED k) = 0 ∧ Claims.plannerFrame s.dev d k))) ∧
      (∀ l, st = plMOVING → passes l = true → s.dev.has (AX_PL_CTRL_NO_OVERSHOOT k) = true → s.dev.plShadow k = some l → l.zero = false →
        ¬ Claims.tooLong s.dev k (fun p => { p with lim := kept l, defer := some (l.dmax, l.jmax) }) → Claims.takes (.limits k) s k (fun d =>
          Claims.replanned s.dev d k (fun p => { p with lim := kept l, defer := some (l.dmax, l.jmax) }) ∧ d.plState k = st ∧
          d.liveGet (AX_PL_STATUS_LIMIT_DEFERRED k) = 1 ∧ Claims.plannerFrame s.dev d k)) ∧
      (∀ l, st = plMOVING → passes l = true → s.dev.has (AX_PL_CTRL_NO_OVERSHOOT k) = false → s.dev.plShadow k = some l → l.zero = false →
        ¬ Claims.tooLong s.dev k (fun p => { p with lim := l, defer := none }) → Claims.takes (.limits k) s k (fun d =>
          Claims.replanned s.dev d k (fun p => { p with lim := l, defer := none }) ∧ d.plState k = st ∧
          d.has (AX_PL_EVENT_OVERSHOOT k) = true ∧ Claims.plannerFrame s.dev d k))) ∧
    (Claims.inTurn s.dev k (.shift off) →
      (st = plIDLE ∨ st = plHELD → off % 2 ^ 16 = 0 → Claims.takes (.shift k) s k (fun d =>
        (d.pl k).shifts = (s.dev.pl k).shifts ++ [(s.dev.clk.beat + 2, off)] ∧ (d.pl k).gen = (s.dev.pl k).gen + 1 ∧
        (d.pl k).target = (s.dev.pl k).target + posIn off ∧
        (d.pl k).prof = restAt (((s.dev.pl k).start s.dev.clk.beat).p3 + posIn off) ∧ (d.pl k).origin = s.dev.clk.beat + 1 ∧
        d.plState k = st ∧ d.has (AX_PL_EVENT_SQUASHED k) = true ∧ Claims.plannerFrame s.dev d k)) ∧
      (st = plIDLE ∨ st = plHELD → off % 2 ^ 16 ≠ 0 → Claims.takes (.shift k) s k (Claims.plannerRefused s.dev · k 8)) ∧
      (st = plMOVING ∨ st = plJOGGING ∨ st = plHOLDING → Claims.takes (.shift k) s k (Claims.plannerRefused s.dev · k 9)) ∧
      (st = plSTOPPING → Claims.takes (.shift k) s k (Claims.plannerRefused s.dev · k 3)) ∧
      (st = plOFF ∨ st = plDISABLING → Claims.takes (.shift k) s k (Claims.plannerRefused s.dev · k 4)) ∧
      (st = plFOLLOWING → Claims.takes (.shift k) s k (Claims.plannerRefused s.dev · k 5))) ∧
    (∀ v : BitVec 32, 1 ≤ v.toNat % 128 → v.toNat % 128 ≤ 64 → leads (.plDepthWrite k v) s (fun d =>
      d.get (AX_PL_DEPTH_DEPTH k) = v.toNat % 128 ∧ (d.pl k).gen = (s.dev.pl k).gen + 1 ∧
      (d.pl k).prof = (s.dev.pl k).prof ∧ d.has (AX_PL_EVENT_SQUASHED k) = true ∧ Claims.plannerFrame s.dev d k)) ∧
    (∀ v : BitVec 32, v.toNat % 128 = 0 ∨ 64 < v.toNat % 128 → leads (.plDepthWrite k v) s (· = s.dev))

/-- GO takes the target of AX_PL_TARGET and JOG the velocity of AX_PL_JOG_VEL, by the planner's state (R41, R42, R48, R51, R53,
R54): exactly one of refused, kept and re-planned, with everything else of the block unchanged.
HOLD and RESUME (R54): a HOLD of a moving or jogging axis decelerates it as a controlled stop and keeps its target; a RESUME of a
holding or held axis re-plans toward the kept target or velocity.
STOP and QSTOP (R52, R53): either stops an axis under way and discards its target; a QSTOP re-plans a controlled stop.
Changes of one tick on one axis act in the order of R48, here a GO and a QSTOP.
Where the rules leave a point open the clause is the model's choice: notes/assumptions/10, notes/assumptions/28. -/
def Obligations.PlannerMovesHoldsAndStops : Prop :=
  Claims.GoAndJogByPlannerState ∧ Claims.HoldAndResumeKeepTheTarget ∧ Claims.StopAndQuickStop ∧ Claims.ChangesOfOneTickInOrder
/-! ### Drover engines (R131–R171) -/

namespace Sys2Proof.Claims

/-- The tile memories of engine `e` are sound and no injection is pending for it: every check bit is right, and no read of
them, no halt and no heartbeat is to be reported by an injection (R371). -/
def sound (d : Device) (e : Nat) : Prop :=
  (d.eng e).perr = [] ∧ (d.eng e).derr = [] ∧ (∀ k < 6, d.injPending 10 e k = false) ∧ d.injPending 2 e 1 = false ∧
    d.injPending 2 e 2 = false ∧ d.injPending 3 e 4 = false

/-- The engine when its next word issues: the results due at this step have landed (R145). -/
def atIssue (d : Device) (e : Nat) : Engine := (d.engLand e).eng e

/-- Engine `e` issues the word `w` now: it is ACTIVE, in a program or a handler, neither halted nor waiting, with no unmasked
event before the word (R152); the word is the one it fetches; it halts neither the engine nor waits (R144, R147, R148, R154). -/
def issues (d : Device) (e : Nat) (w : BitVec 64) : Prop :=
  sound d e ∧ d.engLive e = true ∧ d.eventDue e = false ∧ d.fetches e w = true ∧
    (d.engLand e).haltCode e w = 0 ∧ (d.engLand e).engCan e w = true

/-- A result of value `v` for register `dst` is on its way: it lands `lat` steps after this word's issue, in the word's bank. -/
def lands (s : State) (e : Nat) (d : Device) (lat dst : Nat) (v : Int) : Prop :=
  (⟨(atIssue s.dev e).issued + lat, (atIssue s.dev e).bank, dst, v⟩ : Flight) ∈ (d.eng e).flight

/-- A general register as the word reads it. -/
def reg (s : State) (e r : Nat) : BitVec 32 := (atIssue s.dev e).reg (atIssue s.dev e).bank r

/-- A flag as the word reads it: 0 Z, 1 N, 2 C, 3 V. -/
def flag (s : State) (e i : Nat) : Bool := (atIssue s.dev e).flag (atIssue s.dev e).bank i

/-- A sticky flag is set in the word's bank. -/
def stuck (s : State) (e : Nat) (d : Device) (i : Nat) : Prop := (d.eng e).flag (atIssue s.dev e).bank i = true

/-- What a word without MAC and move operation leaves alone when it follows no branch: the other engines, the engine's registers,
accumulators, pointers, memories and transfers, its sticky flags but those named, every unit and all memory, every register but
DV_STATUS and DV_STICKY; the program counter moves on by one word and one step is counted. -/
def quietWord (s : State) (e : Nat) (d : Device) (set : Nat → Prop) : Prop :=
  let a := atIssue s.dev e
  (∀ j, j ≠ e → d.eng j = s.dev.eng j) ∧
  (d.eng e).g = a.g ∧ (d.eng e).acc = a.acc ∧ (d.eng e).accN = a.accN ∧ (d.eng e).p = a.p ∧ (d.eng e).b = a.b ∧ (d.eng e).n = a.n ∧
  (d.eng e).dmem = a.dmem ∧ (d.eng e).prog = a.prog ∧ (d.eng e).bulk = a.bulk ∧ (d.eng e).ckpts = a.ckpts ∧
  (∀ b i, i ≠ 9 → ¬ set i → (d.eng e).flag b i = a.flag b i) ∧ (∀ f ∈ a.flight, f ∈ (d.eng e).flight) ∧
  (d.eng e).issued = a.issued + 1 ∧ (d.eng e).pc = (a.pc + 1) % 16384 ∧
  { d with engines := s.dev.engines, regs := s.dev.regs } = s.dev ∧
  sameRegs s.dev d (fun x => x = DV_STATUS e ∨ x = DV_STICKY e)

/-- The word with ALU slot `alu` gives a result `v` for register `rd` after `lat` steps, with Z and N, with C and V where `cv`
gives them, and with SAT set where `sat` says so; alone in its word it leaves everything else as it was. -/
def aluGives (c : BitVec 20 → BitVec 24 → Instr) (s : State) (e : Fin 28) (alu lat : Nat) (rd : Option Nat) (v : BitVec 32)
    (cv : Option (Bool × Bool)) (sat : Bool) : Prop :=
  (∀ mac mv, issues s.dev e (wordOf mac.toNat alu mv.toNat) → leads (c mac mv) s (fun d =>
    (∀ r, rd = some r → lands s e d lat r v.toInt) ∧
    lands s e d lat 32 (b2n (v == 0) + 2 * b2n v.msb : Nat) ∧
    (∀ x y, cv = some (x, y) → lands s e d lat 33 (b2n x + 2 * b2n y : Nat)) ∧
    (sat = true → stuck s e d 4))) ∧
  (issues s.dev e (wordOf 0 alu 0) → (atIssue s.dev e).branch = none →
    leads (c 0 0) s (fun d => quietWord s e d (fun i => (i = 4 ∧ sat = true) ∨ i = 6) ∧ (d.eng e).branch = none))

end Sys2Proof.Claims

/-- The arithmetic of the ALU slot (R134, R141): every operation reads its registers before any result of the word lands, its
result and flags land one step later; C is the carry out, or no borrow; V is the signed overflow before any saturation; SADD,
SSUB and ABS saturate and set SAT; shifts take the low five bits of their count. -/
def Sys2Proof.Claims.AluArithmeticLandsOneStepLater : Prop :=
  ∀ (s : State) (e : Fin 28) (rd rs rt : Fin 32), s.dev.inReset = false →
    let a := Claims.reg s e rs
    let b := Claims.reg s e rt
    let sum := a.toInt + b.toInt
    let diff := a.toInt - b.toInt
    let ovf := fun (i : Int) => decide (i < -2 ^ 31 ∨ 2 ^ 31 ≤ i)
    let carry := decide (2 ^ 32 ≤ a.toNat + b.toNat)
    let noBorrow := decide (b.toNat ≤ a.toNat)
    let sat := fun (i : Int) => BitVec.ofInt 32 (max (-2 ^ 31) (min (2 ^ 31 - 1) i))
    let m := max b.toInt 0
    Claims.aluGives (.add e rd rs rt) s e (aluSlot 1 rd rs rt) 1 (some rd) (a + b) (some (carry, ovf sum)) false ∧
    Claims.aluGives (.sub e rd rs rt) s e (aluSlot 2 rd rs rt) 1 (some rd) (a - b) (some (noBorrow, ovf diff)) false ∧
    Claims.aluGives (.sadd e rd rs rt) s e (aluSlot 3 rd rs rt) 1 (some rd) (sat sum) (some (carry, ovf sum)) (ovf sum) ∧
    Claims.aluGives (.ssub e rd rs rt) s e (aluSlot 4 rd rs rt) 1 (some rd) (sat diff) (some (noBorrow, ovf diff)) (ovf diff) ∧
    Claims.aluGives (.and32 e rd rs rt) s e (aluSlot 5 rd rs rt) 1 (some rd) (a &&& b) none false ∧
    Claims.aluGives (.or32 e rd rs rt) s e (aluSlot 6 rd rs rt) 1 (some rd) (a ||| b) none false ∧
    Claims.aluGives (.xor e rd rs rt) s e (aluSlot 7 rd rs rt) 1 (some rd) (a ^^^ b) none false ∧
    Claims.aluGives (.shl e rd rs rt) s e (aluSlot 8 rd rs rt) 1 (some rd) (a <<< (b.toNat % 32)) none false ∧
    Claims.aluGives (.shr e rd rs rt) s e (aluSlot 9 rd rs rt) 1 (some rd) (a >>> (b.toNat % 32)) none false ∧
    Claims.aluGives (.sar e rd rs rt) s e (aluSlot 10 rd rs rt) 1 (some rd) (a.sshiftRight (b.toNat % 32)) none false ∧
    Claims.aluGives (.min e rd rs rt) s e (aluSlot 11 rd rs rt) 1 (some rd) (if a.toInt ≤ b.toInt then a else b) none false ∧
    Claims.aluGives (.max e rd rs rt) s e (aluSlot 12 rd rs rt) 1 (some rd) (if a.toInt ≤ b.toInt then b else a) none false ∧
    Claims.aluGives (.clamp e rd rs rt) s e (aluSlot 13 rd rs rt) 1 (some rd) (BitVec.ofInt 32 (min (max a.toInt (-m)) m)) none false ∧
    Claims.aluGives (.abs e rd rs) s e (aluSlot 14 rd rs 0) 1 (some rd) (sat a.toInt.natAbs) none (a == 0x80000000) ∧
    Claims.aluGives (.cmp e rs rt) s e (aluSlot 15 0 rs rt) 1 none (a - b) (some (noBorrow, ovf diff)) false ∧
    (∀ imm : BitVec 10,
      let i := imm.signExtend 32
      let x := Claims.reg s e rd
      Claims.aluGives (.addi e rd imm) s e (addiSlot rd imm.toNat) 1 (some rd) (x + i)
        (some (decide (2 ^ 32 ≤ x.toNat + i.toNat), ovf (x.toInt + i.toInt))) false)

/-- NRW and NRWR (R136): the accumulator's value, shifted right by a count taken as at most 47 and rounded down, saturates to 32
bits and lands two steps later; a saturation sets SAT, a count above 47 sets SHF. -/
def Sys2Proof.Claims.NarrowingShiftsAndSaturates : Prop :=
  ∀ (s : State) (e : Fin 28) (rd : Fin 32) (acc : Fin 4), s.dev.inReset = false →
    let x := (Claims.atIssue s.dev e).accN.pick 0 ((Claims.atIssue s.dev e).bank * 4 + acc)
    let q := fun (sh : Nat) => x / ((2 ^ min 47 sh : Nat) : Int)
    let v := fun (sh : Nat) => BitVec.ofInt 32 (max (-2 ^ 31) (min (2 ^ 31 - 1) (q sh)))
    let sat := fun (sh : Nat) => decide (q sh < -2 ^ 31 ∨ 2 ^ 31 ≤ q sh)
    (∀ sh : Fin 64, Claims.aluGives (.nrw e rd acc sh) s e (nrwSlot 17 rd acc sh 2) 2 (some rd) (v sh) none (sat sh) ∧
      (∀ mac mv, 47 < sh.val → Claims.issues s.dev e (wordOf mac.toNat (nrwSlot 17 rd acc sh 2) mv.toNat) →
        leads (.nrw e rd acc sh mac mv) s (fun d => Claims.stuck s e d 6))) ∧
    (∀ rs : Fin 32,
      let sh := (Claims.reg s e rs).toNat % 64
      Claims.aluGives (.nrwr e rd acc rs) s e (nrwSlot 18 rd acc rs 3) 2 (some rd) (v sh) none (sat sh) ∧
      (∀ mac mv, 47 < sh → Claims.issues s.dev e (wordOf mac.toNat (nrwSlot 18 rd acc rs 3) mv.toNat) →
        leads (.nrwr e rd acc rs mac mv) s (fun d => Claims.stuck s e d 6)))

namespace Sys2Proof.Claims

/-- A word whose ALU slot transfers control, or not: a transfer takes effect after two delay slots (R148), and alone in its word
the operation leaves everything else as it was. -/
def branchGives (c : BitVec 20 → BitVec 24 → Instr) (s : State) (e : Fin 28) (alu : Nat) (b : Option (Nat × Nat)) : Prop :=
  (∀ mac mv, issues s.dev e (wordOf mac.toNat alu mv.toNat) → leads (c mac mv) s (fun d =>
    (d.eng e).branch = b ∧ (d.eng e).pc = ((atIssue s.dev e).pc + 1) % 16384)) ∧
  (issues s.dev e (wordOf 0 alu 0) → leads (c 0 0) s (fun d => quietWord s e d (fun _ => False)))

end Sys2Proof.Claims

/-- Control (R148, R152, R154, R161, R164): branches by Z and by N against V, CALL with the return address for g31, RET, the
return from an event, WAITS with the lowest ready slot, with 8 once all are returned, and waiting while neither holds, EMASK in
the word's bank, CLRF of the sticky flags named, the three no-operations, and END, which toggles the heartbeat wire and leaves
the engine idle unless a program is due (the caravanserai counts an END before HB_LATE of the next beat, R330).
Where the rules leave a point open the clause is the model's choice: notes/assumptions/9, notes/assumptions/12, notes/assumptions/15. -/
def Obligations.ControlFlowOfABeatProgram : Prop :=
  ∀ (s : State) (e : Fin 28), s.dev.inReset = false →
    let a := Claims.atIssue s.dev e
    let z := Claims.flag s e 0
    let lt := Claims.flag s e 1 != Claims.flag s e 3
    (∀ t : BitVec 14,
      let hop := fun (p : Bool) => if p then some (2, t.toNat) else none
      Claims.branchGives (.bra e t) s e (tgtSlot 19 t.toNat) (hop true) ∧ Claims.branchGives (.beq e t) s e (tgtSlot 20 t.toNat) (hop z) ∧
      Claims.branchGives (.bne e t) s e (tgtSlot 21 t.toNat) (hop (!z)) ∧ Claims.branchGives (.blt e t) s e (tgtSlot 22 t.toNat) (hop lt) ∧
      Claims.branchGives (.bge e t) s e (tgtSlot 23 t.toNat) (hop (!lt)) ∧ Claims.branchGives (.call e t) s e (tgtSlot 24 t.toNat) (hop true) ∧
      (∀ mac mv, Claims.issues s.dev e (wordOf mac.toNat (tgtSlot 24 t.toNat) mv.toNat) →
        leads (.call e t mac mv) s (fun d => Claims.lands s e d 1 31 (((a.pc + 3) % 16384 : Nat) : Int)))) ∧
    Claims.branchGives (.ret e) s e (lowSlot 25 0) (some (2, (Claims.reg s e 31).toNat % 16384)) ∧
    Claims.branchGives (.rete e) s e (lowSlot 28 0) (some (2, 0x4000)) ∧
    (∀ (rd : Fin 32) (mac : BitVec 20) (mv : BitVec 24),
      let w := wordOf mac.toNat (aluSlot 26 rd 0 0) mv.toNat
      let open' := (s.dev.engLand e).waitable e
      (Claims.issues s.dev e w → leads (.waits e rd mac mv) s (fun d =>
        (open' = 0 → Claims.lands s e d 1 rd 8 ∧ (d.eng e).returned = a.returned) ∧
        (∀ j, j < 8 → bit open' j = true → (∀ i < j, bit open' i = false) →
          Claims.lands s e d 1 rd (j : Int) ∧ (d.eng e).returned = setBit a.returned j true))) ∧
      (Claims.sound s.dev e → s.dev.engLive e = true → s.dev.eventDue e = false → s.dev.fetches e w = true →
        (s.dev.engLand e).haltCode e w = 0 → (s.dev.engLand e).engCan e w = false →
        leads (.waits e rd mac mv) s (fun d => d.eng e = { a with waiting := some w } ∧ d.get (DV_STATUS_EXEC e) = exWSLOT))) ∧
    (∀ (m : Bool) (mac : BitVec 20) (mv : BitVec 24), Claims.issues s.dev e (wordOf mac.toNat (lowSlot 29 (b2n m)) mv.toNat) →
      leads (.emask e m mac mv) s (fun d => (d.eng e).flag a.bank 9 = m ∧ (a.bank = 0 → d.has (DV_STATUS_EMASK e) = m))) ∧
    (∀ mask : BitVec 4, Claims.issues s.dev e (wordOf 0 (lowSlot 30 mask.toNat) 0) → a.branch = none →
      leads (.clrf e mask 0 0) s (fun d => (∀ i < 4, bit mask.toNat i = true → (d.eng e).flag a.bank (4 + i) = false) ∧
        Claims.quietWord s e d (fun i => 4 ≤ i ∧ i < 8 ∧ bit mask.toNat (i - 4) = true))) ∧
    (Claims.issues s.dev e 0 → a.branch = none →
      leads (.nop e 0 0) s (Claims.quietWord s e · (fun _ => False)) ∧
      leads (.moveNop e 0 0) s (Claims.quietWord s e · (fun _ => False))) ∧
    (∀ (k : Fin 4) (x y : Fin 32) (clr neg : Bool), Claims.issues s.dev e (wordOf (macSlot 0 k x y (b2n clr) (b2n neg)) 0 0) →
      a.branch = none → leads (.mnop e k x y clr neg 0 0) s (Claims.quietWord s e · (fun _ => False))) ∧
    (∀ mac mv, Claims.issues s.dev e (wordOf mac.toNat (lowSlot 27 0) mv.toNat) → leads (.endProgram e mac mv) s (fun d =>
      (d.eng e).wire = !a.wire ∧ (d.eng e).ends = (if s.dev.hbInTime a.beatOf then (a.beatOf :: a.ends).take 2 else a.ends) ∧ (d.eng e).running = a.startDue ∧
      (d.eng e).startDue = false ∧ (a.startDue = true → (d.eng e).beatOf = s.dev.clk.beat ∧ (d.eng e).pc = 0)))

namespace Sys2Proof.Claims

/-- The word with MAC slot `mac` adds each sum to its accumulator, or subtracts it with NEG, from 0 with CLR; the accumulator
saturates to 72 bits, which sets AOV, and NRW reads it from three steps later on (R135, R139, R145).  Alone in its word and behind
no branch it touches no general register, pointer or memory and no other unit. -/
def macGives (c : BitVec 20 → BitVec 24 → Instr) (s : State) (e : Fin 28) (mac : Nat) (clr neg : Bool) (sums : List (Nat × Int)) : Prop :=
  let a := atIssue s.dev e
  let x := fun (t : Nat × Int) => (if clr then 0 else a.acc.pick 0 (a.bank * 4 + t.1)) + (if neg then -t.2 else t.2)
  let v := fun (t : Nat × Int) => max (-2 ^ 71) (min (2 ^ 71 - 1) (x t))
  (∀ alu mv, issues s.dev e (wordOf mac alu.toNat mv.toNat) → leads (c alu mv) s (fun d =>
    (∀ t ∈ sums, (d.eng e).acc.pick 0 (a.bank * 4 + t.1) = v t ∧ lands s e d 3 (64 + t.1) (v t) ∧ (v t ≠ x t → stuck s e d 5)) ∧
    (∀ i < 4, (∀ t ∈ sums, t.1 ≠ i) → (d.eng e).acc.pick 0 (a.bank * 4 + i) = a.acc.pick 0 (a.bank * 4 + i)))) ∧
  (issues s.dev e (wordOf mac 0 0) → a.branch = none → leads (c 0 0) s (fun d =>
    (d.eng e).g = a.g ∧ (d.eng e).p = a.p ∧ (d.eng e).dmem = a.dmem ∧ (d.eng e).pc = (a.pc + 1) % 16384 ∧
    { d with engines := s.dev.engines, regs := s.dev.regs } = s.dev ∧ sameRegs s.dev d (fun y => y = DV_STATUS e ∨ y = DV_STICKY e)))

end Sys2Proof.Claims

/-- The MAC slot (R139, R140): products of signed words, MACU's unsigned x, dot products of aligned pairs and quads, one factor
against four coefficients, the two rotations into an aligned pair of accumulators, and a shifted word.
Where the rules leave a point open the clause is the model's choice: notes/assumptions/9, notes/assumptions/12. -/
def Obligations.MacSlotAccumulates : Prop :=
  ∀ (s : State) (e : Fin 28) (k : Fin 4) (x y : Fin 32) (clr neg : Bool), s.dev.inReset = false →
    let g := fun (r : Nat) => (Claims.reg s e r).toInt
    let x2 := x.val / 2 * 2
    let y2 := y.val / 2 * 2
    let x4 := x.val / 4 * 4
    let y4 := y.val / 4 * 4
    let k2 := k.val / 2 * 2
    let slot := fun (op : Nat) => macSlot op k x y (b2n clr) (b2n neg)
    Claims.macGives (.mac e k x y clr neg) s e (slot 1) clr neg [(k, g x * g y)] ∧
    Claims.macGives (.macu e k x y clr neg) s e (slot 2) clr neg [(k, ((Claims.reg s e x).toNat : Int) * g y)] ∧
    Claims.macGives (.mac2 e k x y clr neg) s e (slot 3) clr neg [(k, g x2 * g y2 + g (x2 + 1) * g (y2 + 1))] ∧
    Claims.macGives (.mdot4 e k x y clr neg) s e (slot 4) clr neg
      [(k, g x4 * g y4 + g (x4 + 1) * g (y4 + 1) + g (x4 + 2) * g (y4 + 2) + g (x4 + 3) * g (y4 + 3))] ∧
    Claims.macGives (.mbc4 e k x y clr neg) s e (slot 5) clr neg
      [(0, g x * g y4), (1, g x * g (y4 + 1)), (2, g x * g (y4 + 2)), (3, g x * g (y4 + 3))] ∧
    Claims.macGives (.mrot e k x y clr neg) s e (slot 6) clr neg
      [(k2, g x2 * g y2 + g (x2 + 1) * g (y2 + 1)), (k2 + 1, g (x2 + 1) * g y2 - g x2 * g (y2 + 1))] ∧
    Claims.macGives (.mroti e k x y clr neg) s e (slot 7) clr neg
      [(k2, g x2 * g y2 - g (x2 + 1) * g (y2 + 1)), (k2 + 1, g x2 * g (y2 + 1) + g (x2 + 1) * g y2)] ∧
    Claims.macGives (.madds e k x y clr neg) s e (slot 8) clr neg [(k, g x * 2 ^ y.val)]

namespace Sys2Proof.Claims

/-- The data memory address of word `i` of an access through pointer `k` (R137). -/
def wordAt (s : State) (e k i : Nat) : Nat :=
  let a := atIssue s.dev e
  wordAddr (a.p.pick 0 (a.bank * 8 + k)) (a.b.pick 0 k) (a.n.pick 0 k) i

/-- A pointer after a post-increment, and every other pointer as it was. -/
def bumped (s : State) (e : Nat) (d : Device) (k : Nat) (inc : Int) : Prop :=
  let a := atIssue s.dev e
  (d.eng e).p.pick 0 (a.bank * 8 + k) = stepPtr (a.p.pick 0 (a.bank * 8 + k)) (a.b.pick 0 k) (a.n.pick 0 k) inc ∧
  ∀ j, j ≠ a.bank * 8 + k → (d.eng e).p.pick 0 j = a.p.pick 0 j

/-- A word with a move slot touches no other engine's state and, where it names no unit, no unit and no bulk memory. -/
def moveAlone (s : State) (e : Nat) (d : Device) : Prop :=
  (∀ j, j ≠ e → d.eng j = s.dev.eng j) ∧ { d with engines := s.dev.engines, regs := s.dev.regs } = s.dev ∧
  sameRegs s.dev d (fun x => x = DV_STATUS e ∨ x = DV_STICKY e)

/-- A load of `n` words: they land two steps later in the aligned registers from `r` on, data memory and general registers stay,
and the pointer moves; alone in its word it touches nothing else. -/
def loadGives (c : BitVec 20 → BitVec 20 → Instr) (s : State) (e : Fin 28) (op n r k : Nat) (inc : BitVec 8) : Prop :=
  (∀ mac alu, issues s.dev e (wordOf mac.toNat alu.toNat (ldSlot op r k inc.toNat)) → leads (c mac alu) s (fun d =>
    (∀ i < n, lands s e d 2 (r / n * n + i) ((atIssue s.dev e).dmem.pick 0 (wordAt s e k i)).toInt) ∧
    (d.eng e).g = (atIssue s.dev e).g ∧ bumped s e d k inc.toInt)) ∧
  (issues s.dev e (wordOf 0 0 (ldSlot op r k inc.toNat)) → (atIssue s.dev e).branch = none → leads (c 0 0) s (fun d =>
    moveAlone s e d ∧ (d.eng e).dmem = (atIssue s.dev e).dmem))

/-- A store of `n` words from the aligned registers from `r` on: each stands at its address unless a later word of the access has
the same address, every other word of data memory is unchanged, and the pointer moves; alone in its word it touches nothing else. -/
def storeGives (c : BitVec 20 → BitVec 20 → Instr) (s : State) (e : Fin 28) (op n r k : Nat) (inc : BitVec 8) : Prop :=
  (∀ mac alu, issues s.dev e (wordOf mac.toNat alu.toNat (ldSlot op r k inc.toNat)) →
    aluOp alu.toNat ≠ 27 → (atIssue s.dev e).branch = none → leads (c mac alu) s (fun d =>
    (∀ i < n, (∀ j, i < j → j < n → wordAt s e k j ≠ wordAt s e k i) →
      (d.eng e).dmem.pick 0 (wordAt s e k i) = reg s e (r / n * n + i)) ∧
    bumped s e d k inc.toInt)) ∧
  (issues s.dev e (wordOf 0 0 (ldSlot op r k inc.toNat)) → (atIssue s.dev e).branch = none → leads (c 0 0) s (fun d =>
    moveAlone s e d ∧ ∀ x, (∀ i < n, x ≠ wordAt s e k i) → (d.eng e).dmem.pick 0 x = (atIssue s.dev e).dmem.pick 0 x))

/-- A value moved into a register one step later, the word's other registers and memories untouched by it. -/
def setGives (c : BitVec 20 → BitVec 20 → Instr) (s : State) (e : Fin 28) (mv r : Nat) (v : Int) : Prop :=
  (∀ mac alu, issues s.dev e (wordOf mac.toNat alu.toNat mv) → leads (c mac alu) s (fun d => lands s e d 1 r v)) ∧
  (issues s.dev e (wordOf 0 0 mv) → (atIssue s.dev e).branch = none → leads (c 0 0) s (fun d => quietWord s e d (fun _ => False)))

end Sys2Proof.Claims

/-- Loads, stores and register moves of the move slot (R137, R142, R143).
Where the rules leave a point open the clause is the model's choice: notes/assumptions/9, notes/assumptions/12, notes/assumptions/15. -/
def Obligations.LoadsStoresAndRegisterMoves : Prop :=
  ∀ (s : State) (e : Fin 28) (r : Fin 32) (k : Fin 8) (inc : BitVec 8), s.dev.inReset = false →
    let a := Claims.atIssue s.dev e
    Claims.loadGives (.ld e r k inc) s e 1 1 r k inc ∧ Claims.loadGives (.ldp e r k inc) s e 2 2 r k inc ∧
    Claims.loadGives (.ldq e r k inc) s e 3 4 r k inc ∧
    Claims.storeGives (.st e r k inc) s e 4 1 r k inc ∧ Claims.storeGives (.stp e r k inc) s e 5 2 r k inc ∧
    Claims.storeGives (.stq e r k inc) s e 6 4 r k inc ∧
    (∀ (qx pa qy pb ia ib : Fin 8) (mac alu : BitVec 20),
      Claims.issues s.dev e (wordOf mac.toNat alu.toNat (ldxySlot qx pa qy pb ia ib)) →
      leads (.ldxy e qx pa qy pb ia ib mac alu) s (fun d =>
        (∀ i < 4, Claims.lands s e d 2 (4 * qx.val + i) (a.dmem.pick 0 (Claims.wordAt s e pa i)).toInt ∧
          Claims.lands s e d 2 (4 * qy.val + i) (a.dmem.pick 0 (Claims.wordAt s e pb i)).toInt) ∧
        (d.eng e).p.pick 0 (a.bank * 8 + pa) =
          stepPtr (a.p.pick 0 (a.bank * 8 + pa)) (a.b.pick 0 pa) (a.n.pick 0 pa) (incCode ia) ∧
        (pb ≠ pa → (d.eng e).p.pick 0 (a.bank * 8 + pb) =
          stepPtr (a.p.pick 0 (a.bank * 8 + pb)) (a.b.pick 0 pb) (a.n.pick 0 pb) (incCode ib)))) ∧
    (∀ imm : BitVec 14, Claims.setGives (.ldi e r imm) s e (ldiSlot r imm.toNat) r imm.toInt) ∧
    (∀ (cl : Fin 3) (mac alu : BitVec 20), Claims.issues s.dev e (wordOf mac.toNat alu.toNat (mvaSlot cl k r)) →
      let v := (Claims.reg s e r).toNat % 16384
      leads (.mva e cl k r mac alu) s (fun d =>
        (cl = 0 → (d.eng e).p.pick 0 (a.bank * 8 + k) = v ∧ (d.eng e).b = a.b ∧ (d.eng e).n = a.n) ∧
        (cl = 1 → (d.eng e).b.pick 0 k = v ∧ (d.eng e).p = a.p ∧ (d.eng e).n = a.n) ∧
        (cl = 2 → (d.eng e).n.pick 0 k = v ∧ (d.eng e).p = a.p ∧ (d.eng e).b = a.b) ∧ (d.eng e).g = a.g)) ∧
    (∀ cl : Fin 3, Claims.setGives (.mvg e r cl k) s e (mvgSlot r cl k) r
      (if cl.val = 0 then a.p.pick 0 (a.bank * 8 + k) else if cl.val = 1 then a.b.pick 0 k else a.n.pick 0 k : Nat))

/-- The move slot's operations on units (R150, R162–R164, R351, R497).  STAGE of a slot that runs a program image: before D
of its beat the outbox is the axis's staged result, later the slot counts as staged and no result is taken.  CKPT copies the
state vector.  HBEAT writes its two words, and notes them good only with the right SEQ and SIG
before HB_LATE of the next beat.  BLD and BST start one transfer; BSYNC passes
while none is in progress and waits else.  LEDG sends its message, if R354 lists its KIND, and MBXS its
descriptor.
Where the rules leave a point open the clause is the model's choice: notes/assumptions/9, notes/assumptions/11, notes/assumptions/15. -/
def Obligations.UnitOperationsOfTheMoveSlot : Prop :=
  ∀ (s : State) (e : Fin 28) (r : Fin 32), s.dev.inReset = false →
    let a := Claims.atIssue s.dev e
    let j := (Claims.reg s e r).toNat % 8
    let k := s.dev.slotAxis e j
    let lo := Claims.reg s e (r.val / 2 * 2)
    let hi := Claims.reg s e (r.val / 2 * 2 + 1)
    (∀ mac alu, Claims.issues s.dev e (wordOf mac.toNat alu.toNat (srcSlot 11 r)) → aluOp alu.toNat ≠ 27 → a.branch = none →
      k ≠ 0xFF → bit a.staged j = false → bit a.carry j = false →
      (s.dev.engImage e ≠ 0 ∨ 3 < s.dev.variant k) → leads (.stage e r mac alu) s (fun d =>
        bit (d.eng e).staged j = true ∧
        (a.beatOf = s.dev.clk.beat ∧ s.dev.clk.tick < s.dev.clk.deadline →
          (d.ax k).staged = some ((List.range 64).map (fun i => (a.dmem.pick 0 (winAddr j (0x180 + i))).toNat)) ∧
          (d.eng e).minSlack = min a.minSlack (s.dev.clk.deadline - s.dev.clk.tick)) ∧
        (¬ (a.beatOf = s.dev.clk.beat ∧ s.dev.clk.tick < s.dev.clk.deadline) → d.axes = s.dev.axes) ∧
        (∀ i, i ≠ k → d.ax i = s.dev.ax i) ∧ d.bulk = s.dev.bulk)) ∧
    (∀ mac alu, Claims.issues s.dev e (wordOf mac.toNat alu.toNat (srcSlot 12 r)) → k ≠ 0xFF →
      leads (.ckpt e r mac alu) s (fun d => (d.eng e).ckpts = a.ckpts ++ [⟨j, k, a.beatOf,
        (List.range 30).map (fun i => a.dmem.pick 0 (winAddr j (0x1C0 + i))), false, s.dev.clk.now, a.issued⟩])) ∧
    (∀ mac alu, Claims.issues s.dev e (wordOf mac.toNat alu.toNat (srcSlot 13 r)) → leads (.hbeat e r mac alu) s (fun d =>
      let good := decide (lo.toNat = a.beatOf % 2 ^ 32) && decide (hi = s.dev.rd (DV_SIG e))
      d.rd (DV_HB e) = lo ∧ d.rd (DV_HB e + 4) = hi ∧ (d.eng e).hbs.head? = some (a.beatOf, b2n (good && s.dev.hbInTime a.beatOf)) ∧
      (good = false → ∃ m ∈ d.ledger.waiting, m.cls = 3 ∧ m.inst = e.val ∧ m.kind = 4))) ∧
    (∀ (p : Fin 8) (rl : Fin 32) (mac alu : BitVec 20),
      let n := (Claims.reg s e rl).toNat % 512
      let mem := (List.range n).map (fun i => Claims.wordAt s e p i)
      (Claims.issues s.dev e (wordOf mac.toNat alu.toNat (bulkSlot 14 p r rl)) → leads (.bld e p r rl mac alu) s (fun d =>
        (d.eng e).bulk = some { load := true, mem := mem, dev := (Claims.reg s e r).toNat, data := [], at_ := s.dev.clk.now })) ∧
      (Claims.issues s.dev e (wordOf mac.toNat alu.toNat (bulkSlot 15 p r rl)) → leads (.bst e p r rl mac alu) s (fun d =>
        (d.eng e).bulk = some ⟨false, mem, (Claims.reg s e r).toNat, mem.map (fun x => a.dmem.pick 0 x), s.dev.clk.now⟩))) ∧
    (Claims.issues s.dev e (wordOf 0 0 (srcSlot 16 0)) → a.branch = none →
      a.bulk = none ∧ leads (.bsync e 0 0) s (fun d => Claims.quietWord s e d (fun _ => False))) ∧
    (∀ mac alu, Claims.sound s.dev e → s.dev.engLive e = true → s.dev.eventDue e = false →
      s.dev.fetches e (wordOf mac.toNat alu.toNat (srcSlot 16 0)) = true →
      (s.dev.engLand e).haltCode e (wordOf mac.toNat alu.toNat (srcSlot 16 0)) = 0 → a.bulk.isSome = true →
      leads (.bsync e mac alu) s (fun d => d.eng e = { a with waiting := some (wordOf mac.toNat alu.toNat (srcSlot 16 0)) })) ∧
    (∀ mac alu, Claims.issues s.dev e (wordOf mac.toNat alu.toNat (srcSlot 17 r)) → aluOp alu.toNat ≠ 27 →
      let listed := 1 ≤ bits hi.toNat 12 8 ∧ bits hi.toNat 12 8 ≤ lgKinds (bits hi.toNat 28 4)
      (listed → leads (.ledg e r mac alu) s (fun d =>
        d.ledger.waiting = addMsg ⟨bits hi.toNat 28 4, bits hi.toNat 20 8, bits hi.toNat 12 8, lo, bit hi.toNat 0, bit hi.toNat 1,
          bit hi.toNat 2, 0, s.dev.clk.now⟩ s.dev.ledger.waiting)) ∧
      (¬ listed → leads (.ledg e r mac alu) s (fun d => d.ledger = s.dev.ledger))) ∧
    (∀ mac alu, Claims.issues s.dev e (wordOf mac.toNat alu.toNat (srcSlot 18 0)) → aluOp alu.toNat ≠ 27 → a.branch = none →
      leads (.mbxs e mac alu) s (fun d =>
      (s.dev.qFull 15 = true → d.get (QU_LOST_COUNT 15) = satU 32 (s.dev.get (QU_LOST_COUNT 15) + 1) ∧ d.bulk = s.dev.bulk) ∧
      (s.dev.qFull 15 = false → d.rdN (QU_SEQ 15) = (s.dev.rdN (QU_SEQ 15) + 1) % 2 ^ 32 ∧
        d.get (QU_STATUS_FILL 15) = (s.dev.get (QU_STATUS_FILL 15) + 1) % 2 ^ 13) ∧
      sameRegs s.dev d (fun x => x = DV_STATUS e ∨ x = DV_STICKY e ∨ queueReg x)))

/-- Events, transfers and halts (R144, R150–R154, R161, R163, R168, R170). EVENT_ACCEPT with the word of its vector takes
the lowest pending source into bank 1, and changes nothing with another word or while none is due; BULK_DONE of a load
puts the device's words into data memory and clears BBUSY; CKPT_DONE completes the oldest checkpoint in bulk memory;
FEEDBACK_COMPLETE readies the slot of an axis whose sources all answered; ILLEGAL_WORD halts the engine with code 1;
DV_CLEAR_CNT clears the engine's counters.
Where the rules leave a point open the clause is the model's choice: notes/assumptions/8, notes/assumptions/9, notes/assumptions/15. -/
def Obligations.EventsTransfersAndHalts : Prop :=
  ∀ (s : State) (e : Fin 28), s.dev.inReset = false →
    (∀ w, (s.dev.eventDue e = false → leads (.eventAccept e w) s (· = s.dev)) ∧
      (∀ i < 3, s.dev.role e = rlACTIVE → s.dev.get (DV_STATUS_EXEC e) ≠ exHALTED → s.dev.eventDue e = true →
        bit (s.dev.get (DV_EV_PEND e)) i = true → (∀ j < i, bit (s.dev.get (DV_EV_PEND e)) j = false) →
        let taken := fun (d : Device) => (d.eng e).bank = 1 ∧ (d.eng e).pc = 8 + 4 * i + 1 ∧
          (d.eng e).retPc = (s.dev.eng e).pc ∧ (d.eng e).waiting = none ∧ d.dm e 0x3F04 = BitVec.ofNat 32 i ∧
          d.get (DV_EV_PEND e) = s.dev.get (DV_EV_PEND e) - 2 ^ i
        (Claims.sound s.dev e → (s.dev.eng e).prog.pick 0 (8 + 4 * i) = 0 → leads (.eventAccept e 0) s taken) ∧
        ((s.dev.eng e).prog.pick 0 (8 + 4 * i) ≠ w → leads (.eventAccept e w) s (· = s.dev)))) ∧
    ((s.dev.eng e).bulk = none → leads (.bulkDone e) s (· = s.dev)) ∧
    (∀ (x : Nat) (dev : Nat), Claims.sound s.dev e → (s.dev.eng e).waiting = none → bulkBase ≤ dev → dev + 4 ≤ bulkEnd → dev % 4 = 0 →
      x < 16384 → (∀ i < 4, (s.dev.peek1 (dev + i)).2 = 0) →
      (∀ b < 16, ∀ k < 6, s.dev.injPending 10 (0x40 + b) k = false) → (s.dev.eng e).bulk = some { load := true, mem := [x], dev := dev, data := [] } →
      leads (.bulkDone e) s (fun d => (d.eng e).bulk = none ∧ d.dm e x = BitVec.ofNat 32 (ofLe (s.dev.peek dev 4)) ∧
        (∀ y, y ≠ x → d.dm e y = s.dev.dm e y) ∧ d.bulk = s.dev.bulk)) ∧
    ((s.dev.eng e).ckpts = [] → leads (.ckptDone e) s (· = s.dev)) ∧
    (∀ c cs, (s.dev.eng e).ckpts = c :: cs → leads (.ckptDone e) s (fun d => (d.eng e).ckpts = cs ∧ d.regs = s.dev.regs ∧
      (∀ j, j ≠ e.val → d.eng j = s.dev.eng j) ∧
      (∀ b, (∀ i < 4 * c.words.length + 8, s.dev.bulkKey b ≠ s.dev.bulkKey (s.dev.ckptAddr c.axis c.beat + i)) → d.peek1 b = s.dev.peek1 b))) ∧
    (∀ k : Fin 192, s.dev.axisChannels k = [] → s.dev.fbComplete k = false → leads (.feedbackComplete k) s (· = s.dev)) ∧
    (∀ (k : Fin 192) (f j : Nat), s.dev.axisChannels k = [] → s.dev.fbComplete k = true → s.dev.slotOf k = some (f, j) →
      s.dev.role f = rlACTIVE → (s.dev.eng f).waiting = none → leads (.feedbackComplete k) s (fun d => bit (d.eng f).ready j = true)) ∧
    (∀ w, wordLegal w = true → leads (.illegalWord e w) s (· = s.dev)) ∧
    (∀ w, wordLegal w = false → Claims.sound s.dev e → s.dev.engLive e = true → s.dev.eventDue e = false → s.dev.fetches e w = true →
      leads (.illegalWord e w) s (fun d => d.get (DV_STATUS_EXEC e) = exHALTED ∧ d.get (DV_STATUS_FAULT e) = 1 ∧
        d.rdN (DV_FAULT_PC e) = ((Claims.atIssue s.dev e).bank * 2 ^ 15 + (Claims.atIssue s.dev e).pc) % 2 ^ 32 ∧
        ∃ m ∈ d.ledger.waiting, m.cls = 2 ∧ m.inst = e.val ∧ m.kind = 1 ∧ m.detail = BitVec.ofNat 32 (2 ^ 24 + (Claims.atIssue s.dev e).pc))) ∧
    leads (.dvClearCnt e) s (fun d => d.rd (DV_OVR e) = 0 ∧ d.rd (DV_STICKY e) = 0 ∧ d.get (DV_STEPS_PEAK e) = 0 ∧ d.get (DV_PACE_PEAK e) = 0 ∧
      d.eng e = { s.dev.eng e with peakSteps := 0, pacePeak := 0 } ∧ (∀ j, j ≠ e.val → d.eng j = s.dev.eng j) ∧
      sameRegs s.dev d (fun x => x = DV_OVR e ∨ x = DV_STICKY e ∨ x = DV_STEPS e ∨ x = DV_PACE e))

/-- The arithmetic of the ALU slot (R134, R141): every operation reads its registers before any result of the word lands, its
result and flags land one step later; C is the carry out, or no borrow; V is the signed overflow before any saturation; SADD,
SSUB and ABS saturate and set SAT; shifts take the low five bits of their count.
NRW and NRWR (R136): the accumulator's value, shifted right by a count taken as at most 47 and rounded down, saturates to 32
bits and lands two steps later; a saturation sets SAT, a count above 47 sets SHF.
Where the rules leave a point open the clause is the model's choice: notes/assumptions/9, notes/assumptions/12, notes/assumptions/13. -/
def Obligations.AluAndNarrowingResults : Prop :=
  Claims.AluArithmeticLandsOneStepLater ∧ Claims.NarrowingShiftsAndSaturates

/-! ### Enabling, disabling and the loop parameters (R119–R125) -/

namespace Sys2Proof.Claims

/-- Only registers of `R`, snapshot registers of `L` and what `f` sets may differ: everything else of the block is the same. -/
def onlyShown (d e : Device) (R L : Nat → Prop) : Prop :=
  { e with regs := d.regs, live := d.live } = d ∧ sameRegs d e R ∧ ∀ f : Fld, ¬ L f.addr → e.liveGet f = d.liveGet f

/-- The registers that a write of AX_CTRL may change. -/
def ctrlRegs (k a : Nat) : Prop := a = AX_CTRL k ∨ a = AX_EVENT k ∨ ∃ p, a = MD_PAIR_STATUS p

/-- Every other axis's control is unchanged. -/
def otherAxes (d e : Device) (k : Nat) : Prop := ∀ j, j ≠ k → e.ax j = d.ax j

/-- A loop-parameter commit refused with a code: REFUSE_LAST and PARAM_REFUSED say so and nothing else changes. -/
def lpRefused (d e : Device) (k code : Nat) : Prop :=
  e.liveGet (AX_LP_STATUS_REFUSE_LAST k) = code ∧ e.has (AX_EVENT_PARAM_REFUSED k) = true ∧
    onlyShown d e (· = AX_EVENT k) (· = AX_LP_STATUS k)

end Sys2Proof.Claims

/-- A write of EN = 1 (R121).  The conditions in their order give the code; a request in ENABLING and RUN has no effect; in OFF
VARIANT, STEP_CL and COMM_MODE are taken, COMM_VALID is lost with a new COMM_MODE, and the request is pending if no condition
fails and refused with its code otherwise; on the way to OFF it is refused with 7. -/
def Sys2Proof.Claims.EnableRequestChecksItsConditions : Prop :=
  (∀ (d : Device) (k : Nat), d.enableCode k = 0 ↔
    (d.axState k = axOFF ∧ (d.variant k ≤ 3 ∨ d.variant k = 7) ∧ d.fbReady k = true ∧ (d.ax k).sto = false ∧ (d.ax k).ss1 = false ∧
      (d.mbValid k = true ∨ ∃ g < 16, d.get (ST_CTRL_AXIS g) = k) ∧ (d.slotOf k).isSome = true ∧
      (d.commutates k = true → d.liveHas (AX_STATUS_COMM_VALID k) = true ∨ d.get (AX_CTRL_COMM_MODE k) = 1) ∧
      d.has (holdOff k) = false)) ∧
  (∀ (s : State) (k : Fin 192) (rest : BitVec 31), s.dev.inReset = false →
    let st := s.dev.axState k
    (st = axENABLING ∨ st = axRUN → leads (.enableRequest k rest) s (fun d => d.get (AX_CTRL_EN k) = 1 ∧ d.axState k = st ∧
      d.variant k = s.dev.variant k ∧ d.axes = s.dev.axes ∧ sameRegs s.dev d (fun a => Claims.ctrlRegs k a ∧ a ≠ AX_EVENT k))) ∧
    (st = axOFF → leads (.enableRequest k rest) s (fun d =>
      d.get (AX_CTRL_EN k) = 1 ∧ d.variant k = bits rest.toNat 4 3 ∧ d.get (AX_CTRL_STEP_CL k) = bits rest.toNat 3 1 ∧
      d.get (AX_CTRL_COMM_MODE k) = bits rest.toNat 1 2 ∧ d.axState k = axOFF ∧
      d.liveHas (AX_STATUS_COMM_VALID k) =
        (s.dev.liveHas (AX_STATUS_COMM_VALID k) && decide (bits rest.toNat 1 2 = s.dev.get (AX_CTRL_COMM_MODE k))) ∧
      (d.enableCode k = 0 → (d.ax k).enPend = some ((s.dev.ax k).enPend.getD s.dev.clk.beat) ∧
        d.has (AX_EVENT_REFUSED k) = s.dev.has (AX_EVENT_REFUSED k)) ∧
      (d.enableCode k ≠ 0 → d.ax k = s.dev.ax k ∧ d.liveGet (AX_STATUS_REFUSE_LAST k) = d.enableCode k ∧
        d.has (AX_EVENT_REFUSED k) = true) ∧
      Claims.otherAxes s.dev d k ∧ sameRegs s.dev d (Claims.ctrlRegs k))) ∧
    (st = axDISABLING ∨ st = axRIDE → leads (.enableRequest k rest) s (fun d => d.axState k = st ∧ d.axes = s.dev.axes ∧
      d.liveGet (AX_STATUS_REFUSE_LAST k) = 7 ∧ d.has (AX_EVENT_REFUSED k) = true ∧ d.variant k = s.dev.variant k ∧
      sameRegs s.dev d (Claims.ctrlRegs k))))

/-- A write of EN = 0 (R122, R124, R91).  A pending enable is withdrawn; RUN becomes DISABLING with the beats of OFF_DELAY to
come and, for an axis of its own, the planner's disable reaction; ENABLING becomes DISABLING at once; OFF, DISABLING and RIDE go
on as they were.  Both axes of a gantry pair are disabled, with the primary's
OFF_DELAY. -/
def Sys2Proof.Claims.DisableRequestByState : Prop :=
  ∀ (s : State) (k : Fin 192) (rest : BitVec 31), s.dev.inReset = false →
    let st := s.dev.axState k
    let delay := s.dev.get (AX_PL_OFF_DELAY_BEATS k)
    (s.dev.pairOf k = [k.val] →
      ((s.dev.ax k).enPend.isSome = true → leads (.disableRequest k rest) s (fun d => d.ax k = { s.dev.ax k with enPend := none } ∧
        d.axState k = st ∧ d.planners = s.dev.planners ∧ Claims.otherAxes s.dev d k)) ∧
      ((s.dev.ax k).enPend = none →
        (st = axRUN → s.dev.cyOf k = none → leads (.disableRequest k rest) s (fun d => d.axState k = axDISABLING ∧
          d.ax k = { s.dev.ax k with rest := none, offDelay := delay, cause := 1 } ∧ d.get (AX_CTRL_EN k) = 0 ∧
          (s.dev.plState k ≠ plOFF → Claims.inTurn s.dev k .disable → d.plState k = plDISABLING) ∧ Claims.otherAxes s.dev d k)) ∧
        (st = axENABLING → leads (.disableRequest k rest) s (fun d => d.axState k = axDISABLING ∧
          d.ax k = { s.dev.ax k with rest := none, offDelay := delay, cause := 1, brakeAt := none, relAt := none, alignAt := none } ∧
          d.planners = s.dev.planners ∧ Claims.otherAxes s.dev d k)) ∧
        (st = axOFF ∨ st = axDISABLING ∨ st = axRIDE → leads (.disableRequest k rest) s (fun d => d.axState k = st ∧
          d.axes = s.dev.axes ∧ d.planners = s.dev.planners ∧ d.get (AX_CTRL_EN k) = 0)))) ∧
    ((∀ a ∈ s.dev.pairOf k, a < 192 ∧ (s.dev.ax a).enPend = none ∧ s.dev.axState a = axRUN ∧ s.dev.cyOf a = none) →
      leads (.disableRequest k rest) s (fun d => ∀ a ∈ s.dev.pairOf k, d.axState a = axDISABLING ∧
        (d.ax a).offDelay = s.dev.get (AX_PL_OFF_DELAY_BEATS ((s.dev.pairOf k).headD k))))

/-- The timed steps of enabling and of the way to OFF (R122, R123, R125), each without effect before its time. When the
brake has had BRAKE_REL beats the axis aligns if it commutates without COMM_VALID in COMM_MODE 1 and runs otherwise; the
end of the alignment sets COMM_OFF so that the electrical angle here is 0, sets COMM_VALID and raises ALIGN_DONE; an axis
that runs raises ENABLED and plans from its measured position, in fallback no longer (R201). OFF_DELAY beats after rest
STATE becomes OFF with the cause of the disable. -/
def Sys2Proof.Claims.TimedStepsOfEnableAndDisable : Prop :=
  ∀ (s : State) (k : Fin 192), s.dev.inReset = false →
    let runs := fun (d : Device) => d.axState k = axRUN ∧ d.has (AX_EVENT_ENABLED k) = true ∧ (d.ax k).relAt = none ∧
      (d.ax k).alignAt = none ∧ (d.pl k).cur = { p3 := posIn ((s.dev.setFb k fun u => { u with fallback := false }).fbPos k) } ∧
      d.plState k = (if (s.dev.gpTwin k).isSome || (s.dev.cyOf k).isSome then plFOLLOWING else plIDLE) ∧ Claims.otherAxes s.dev d k
    let aligns := s.dev.commutates k = true ∧ s.dev.get (AX_CTRL_COMM_MODE k) = 1 ∧ s.dev.liveHas (AX_STATUS_COMM_VALID k) = false
    (∀ r, (s.dev.ax k).relAt = some r →
      (s.dev.axState k = axENABLING → r ≤ s.dev.clk.beat →
        (aligns → leads (.brakeRelElapsed k) s (fun d => d.axState k = axENABLING ∧ (d.ax k).alignAt = some s.dev.clk.beat ∧
          (d.ax k).relAt = none ∧ Claims.otherAxes s.dev d k ∧ { d with axes := s.dev.axes, engines := s.dev.engines } = s.dev)) ∧
        (¬ aligns → leads (.brakeRelElapsed k) s runs)) ∧
      (s.dev.clk.beat < r → leads (.brakeRelElapsed k) s (· = s.dev))) ∧
    ((s.dev.ax k).relAt = none → leads (.brakeRelElapsed k) s (· = s.dev)) ∧
    (∀ a, (s.dev.ax k).alignAt = some a →
      let c := BitVec.ofNat 32 (ofS 32 (-(s.dev.commAngle k)))
      (s.dev.axState k = axENABLING → a + s.dev.lpGet (AX_LP_ALIGN_ALIGN_BEATS k) ≤ s.dev.clk.beat →
        leads (.alignmentEnd k) s (fun d => runs d ∧ d.liveHas (AX_STATUS_COMM_VALID k) = true ∧ d.has (AX_EVENT_ALIGN_DONE k) = true ∧
          d.rd (AX_LP_COMM_OFF k) = c ∧ d.lpRd (AX_LP_COMM_OFF k) = c)) ∧
      (s.dev.clk.beat < a + s.dev.lpGet (AX_LP_ALIGN_ALIGN_BEATS k) → leads (.alignmentEnd k) s (· = s.dev))) ∧
    ((s.dev.ax k).alignAt = none → leads (.alignmentEnd k) s (· = s.dev)) ∧
    (∀ m, (s.dev.ax k).rest = some m →
      let at_ := m + (s.dev.ax k).offDelay + 1
      (at_ < s.dev.clk.beat ∨ (at_ = s.dev.clk.beat ∧ s.dev.clk.latch ≤ s.dev.clk.tick) →
        leads (.offDelayElapsed k) s (fun d => d.axState k = axOFF ∧ d.liveGet (AX_STATUS_OFF_CAUSE k) = (s.dev.ax k).cause % 16 ∧
          d.has (AX_EVENT_OFF k) = true ∧ d.plState k = plOFF ∧ (d.ax k).out = offOutbox ∧ (d.ax k).rest = none ∧
          (d.ax k).staged = none ∧ Claims.otherAxes s.dev d k)) ∧
      (s.dev.clk.beat < at_ ∨ (at_ = s.dev.clk.beat ∧ s.dev.clk.tick < s.dev.clk.latch) →
        leads (.offDelayElapsed k) s (· = s.dev))) ∧
    ((s.dev.ax k).rest = none → leads (.offDelayElapsed k) s (· = s.dev))

/-- COMMIT and CLEAR_INT (R119, R120).  A commit is refused with the first code that applies (a shift above 47 or an SH_STEP
below 16 for VARIANT 3, the divisors, the contours, the engine's fit) and otherwise pends with every shadow word; at the
boundary the pending words are in force, COMMIT_PEND falls and PARAM_APPLIED is raised. -/
def Sys2Proof.Claims.ParameterCommitChecksAndApplies : Prop :=
  (∀ (s : State) (k : Fin 192), s.dev.inReset = false →
    let w := s.dev.rdN (AX_LP_CTRL k)
    let shifts := (∃ x ∈ s.dev.lpShifts k, 47 < x) ∨ (s.dev.variant k = 3 ∧ s.dev.get (AX_LP_SH3_SH_STEP k) < 16)
    let divs := bits w 2 2 = 3 ∨ bits w 0 2 < bits w 2 2
    let contours := s.dev.contourOk (bits w 16 8) = true ∧ s.dev.contourOk (bits w 24 8) = true
    (shifts → leads (.paramCommit k) s (Claims.lpRefused s.dev · k 1)) ∧
    (¬ shifts → divs → leads (.paramCommit k) s (Claims.lpRefused s.dev · k 2)) ∧
    (¬ shifts → ¬ divs → ¬ contours → leads (.paramCommit k) s (Claims.lpRefused s.dev · k 3)) ∧
    (¬ shifts → ¬ divs → contours → s.dev.slotOf k = none → leads (.paramCommit k) s (fun d =>
      (d.ax k).commit = true ∧ d.liveGet (AX_LP_STATUS_COMMIT_PEND k) = 1 ∧
      (∀ a ∈ lpAddrs k, Store.get resetWord d.lpPend a = s.dev.rd a) ∧ Claims.otherAxes s.dev d k ∧
      Claims.onlyShown { s.dev with lpPend := d.lpPend, axes := d.axes } d (fun _ => False) (· = AX_LP_STATUS k))) ∧
    leads (.clearInt k) s (fun d => d.ax k = { s.dev.ax k with clearInt := true } ∧ Claims.otherAxes s.dev d k ∧
      { d with axes := s.dev.axes } = s.dev)) ∧
  (∀ (d : Device) (k : Fin 192), (d.ax k).commit = true → d.slotOf k = none →
    let e := d.lpBoundary k
    (∀ a ∈ lpAddrs k, e.lpRd a = Store.get resetWord d.lpPend a) ∧ (e.ax k).commit = false ∧
    e.liveGet (AX_LP_STATUS_COMMIT_PEND k) = 0 ∧ e.has (AX_EVENT_PARAM_APPLIED k) = true ∧ Claims.otherAxes d e k)

/-- A write of EN = 1 (R121).  The conditions in their order give the code; a request in ENABLING and RUN has no effect; in OFF
VARIANT, STEP_CL and COMM_MODE are taken, COMM_VALID is lost with a new COMM_MODE, and the request is pending if no condition
fails and refused with its code otherwise; on the way to OFF it is refused with 7.
A write of EN = 0 (R122, R124, R91).  A pending enable is withdrawn; RUN becomes DISABLING with the beats of OFF_DELAY to
come and, for an axis of its own, the planner's disable reaction; ENABLING becomes DISABLING at once; OFF, DISABLING and RIDE go
on as they were.  Both axes of a gantry pair are disabled, with the primary's
OFF_DELAY.
Where the rules leave a point open the clause is the model's choice: notes/assumptions/21, notes/assumptions/51. -/
def Obligations.EnableAndDisableRequests : Prop :=
  Claims.EnableRequestChecksItsConditions ∧ Claims.DisableRequestByState

/-- The timed steps of enabling and of the way to OFF (R122, R123, R125), each without effect before its time. When the
brake has had BRAKE_REL beats the axis aligns if it commutates without COMM_VALID in COMM_MODE 1 and runs otherwise; the
end of the alignment sets COMM_OFF so that the electrical angle here is 0, sets COMM_VALID and raises ALIGN_DONE; an axis
that runs raises ENABLED and plans from its measured position, in fallback no longer (R201). OFF_DELAY beats after rest
STATE becomes OFF with the cause of the disable. COMMIT and CLEAR_INT (R119, R120). A commit is refused with the first
code that applies (a shift above 47 or an SH_STEP below 16 for VARIANT 3, the divisors, the contours, the engine's fit)
and otherwise pends with every shadow word; at the boundary the pending words are in force, COMMIT_PEND falls and
PARAM_APPLIED is raised.
Where the rules leave a point open the clause is the model's choice: notes/assumptions/8, notes/assumptions/21. -/
def Obligations.AxisTimedStepsAndParameters : Prop :=
  Claims.TimedStepsOfEnableAndDisable ∧ Claims.ParameterCommitChecksAndApplies

/-! ### Convoys, gantry pairs and step generators (R65–R96) -/

namespace Sys2Proof.Claims

/-- Convoy `c` refused a command with a code: REFUSE_LAST and REFUSED say so, an event goes to Q5 and nothing else changes. -/
def convoyRefused (d e : Device) (c code : Nat) : Prop :=
  e.liveGet (GL_CY_STATUS_REFUSE_LAST c) = code ∧ e.has (GL_CY_EVENT_REFUSED c) = true ∧ e.cyState c = d.cyState c ∧
    { unitsOf e with live := d.live } = unitsOf d ∧ (∀ f : Fld, f.addr ≠ GL_CY_STATUS c → e.liveGet f = d.liveGet f) ∧
    sameRegs d e (fun a => a = GL_CY_EVENT c ∨ queueReg a)

/-- Every other convoy keeps its state and its couplings. -/
def otherConvoys (d e : Device) (c : Nat) : Prop := ∀ i, i ≠ c → e.cy i = d.cy i ∧ e.cyState i = d.cyState i

/-- The path of convoy `c`, changed by `f`, is re-planned from the commit point in state `st` and the members' road is squashed
(R76): the plan starts at the next boundary, and the members carry one generation. -/
def pathReplanned (d e : Device) (c st : Nat) (f : Convoy → Convoy) : Prop :=
  let x := (d.setCy c f).setCyState c st
  e.cy c = { f (d.cy c) with prof := x.cyReplan c, origin := d.clk.beat + 1 } ∧ e.cyState c = st ∧ otherConvoys d e c ∧
  (∀ k ∈ x.drawn ((d.cyMembers c).map (·.2) ++ x.cyFollowersOf 3 c),
    e.has (AX_PL_EVENT_SQUASHED k) = true ∧ e.liveGet (AX_PL_STATUS_DEPTH_VALID k) = 0) ∧
  (∀ m ∈ d.cyMembers c, ∀ m' ∈ d.cyMembers c, (e.pl m.2).gen = (e.pl m'.2).gen)

/-- The conditions on the members of a new convoy (R65): some, each an IDLE axis that is in no convoy, no twin, and named once. -/
def formable (d : Device) (c : Nat) : Prop :=
  d.cyMembers c ≠ [] ∧ ((d.cyMembers c).map (·.2)).Nodup ∧
    ∀ m ∈ d.cyMembers c, d.cyOf m.2 = none ∧ d.gpTwin m.2 = none ∧ m.2 < 192 ∧ d.plState m.2 = plIDLE

/-- The limits that LIMITS takes from a convoy's shadow registers (R77). -/
def shadowLimits (d : Device) (c : Nat) : Limits :=
  let q := d.rd64 (GL_CY_QJRK c)
  ⟨velIn (d.rdS64 (GL_CY_VMAX c)).toNat, accIn (d.rdS64 (GL_CY_AMAX c)).toNat, accIn (d.rdS64 (GL_CY_DMAX c)).toNat,
    jrkIn (d.rd64 (GL_CY_JMAX c)), accIn (d.rdS64 (GL_CY_QDEC c)).toNat, if q = 2 ^ 64 - 1 then none else some (jrkIn q), 0, 0⟩

end Sys2Proof.Claims

/-- FORM and DISSOLVE (R65–R67).  FORM of a FREE convoy whose kind and members are in order makes the members follow, clears the
convoy's queue and couplings, sets S to 0 and gives one generation to all members; it is refused by code otherwise.  DISSOLVE in
IDLE, or ENGAGED at rest, frees the convoy and gives its members back to their planners, at rest where they stand; it is refused
with NOT_AT_REST elsewhere.
Where the rules leave a point open the clause is the model's choice: notes/assumptions/25, notes/assumptions/26. -/
def Obligations.FormAndDissolveConvoys : Prop :=
  ∀ (s : State) (c : Fin 32), s.dev.inReset = false →
    let st := s.dev.cyState c
    let ms := s.dev.cyMembers c
    let kinds := s.dev.get (GL_CY_CTRL_KIND c) ≠ 3 ∧ s.dev.get (GL_CY_CTRL_MASTER_KIND c) ≤ 3
    let taken := (∃ m ∈ ms, (s.dev.cyOf m.2).isSome = true ∨ (s.dev.gpTwin m.2).isSome = true) ∨ ¬ (ms.map (·.2)).Nodup
    (st ≠ cyFREE → leads (.formConvoy c) s (Claims.convoyRefused s.dev · c 1)) ∧
    (st = cyFREE → ¬ kinds → leads (.formConvoy c) s (Claims.convoyRefused s.dev · c 9)) ∧
    (st = cyFREE → kinds → taken → leads (.formConvoy c) s (Claims.convoyRefused s.dev · c 2)) ∧
    (st = cyFREE → kinds → ¬ taken → ¬ Claims.formable s.dev c → leads (.formConvoy c) s (Claims.convoyRefused s.dev · c 1)) ∧
    (st = cyFREE → kinds → Claims.formable s.dev c → leads (.formConvoy c) s (fun d => d.cyState c = cyIDLE ∧
      d.cy c = (s.dev.cy c).cleared ∧ d.rd64 (GL_CY_S c) = 0 ∧ Claims.otherConvoys s.dev d c ∧
      (∀ m ∈ ms, d.plState m.2 = plFOLLOWING ∧ { d.pl m.2 with gen := (s.dev.pl m.2).gen } = s.dev.pl m.2 ∧
        (s.dev.pl m.2).gen ≤ (d.pl m.2).gen ∧ ∀ m' ∈ ms, (d.pl m.2).gen = (d.pl m'.2).gen) ∧
      (∀ k, (∀ m ∈ ms, m.2 ≠ k) → d.pl k = s.dev.pl k ∧ d.plState k = s.dev.plState k) ∧
      sameRegs s.dev d (fun a => a = GL_CY_S c ∨ a = GL_CY_S c + 4))) ∧
    (st = cyIDLE ∨ (st = cyENGAGED ∧ s.dev.cyAtRest c = true) → leads (.dissolve c) s (fun d => d.cyState c = cyFREE ∧
      d.liveGet (GL_CY_STATUS_ENGAGED c) = 0 ∧ d.liveGet (GL_CY_STATUS_QUEUE_FILL c) = 0 ∧ (d.cy c).segs = [] ∧ (d.cy c).slots = [] ∧
      (∀ m ∈ ms, s.dev.plState m.2 = plFOLLOWING → d.plState m.2 = plIDLE ∧ (d.pl m.2).cur = { p3 := (s.dev.pl m.2).cur.p3 }))) ∧
    (st ≠ cyIDLE → (st ≠ cyENGAGED ∨ s.dev.cyAtRest c = false) →
      leads (.dissolve c) s (Claims.convoyRefused s.dev · c 6))

/-- HOLD, RESUME, STOP and QSTOP of a path convoy (R52–R54, R76, R78): each acts on s where the convoy's state takes it, has no
effect where it would change nothing, and is refused with BUSY elsewhere; a RESUME is refused while a member is disabled and changes
nothing under a FEED of 0. -/
def Sys2Proof.Claims.PathConvoyHoldsAndStops : Prop :=
  ∀ (s : State) (c : Fin 32), s.dev.inReset = false →
    let st := s.dev.cyState c
    let no := fun (i : Instr) => leads i s (Claims.convoyRefused s.dev · c 1)
    let goes := fun (i : Instr) (to_ stop : Nat) => leads i s (Claims.pathReplanned s.dev · c to_ fun v => { v with stop := stop })
    (st = cyRUNNING → goes (.cyHold c) cyHOLDING 3) ∧
    (st = cyIDLE ∨ st = cyHOLDING ∨ st = cyHELD → leads (.cyHold c) s (· = s.dev)) ∧
    (st = cyFREE ∨ st = cySTOPPING ∨ st = cyENGAGED → no (.cyHold c)) ∧
    (st = cyHOLDING ∨ st = cyHELD → (s.dev.cyBlocked c = false → (s.dev.cy c).feed ≠ 0 → goes (.cyResume c) cyRUNNING 0) ∧
      (s.dev.cyBlocked c = false → (s.dev.cy c).feed = 0 → leads (.cyResume c) s (· = s.dev)) ∧
      (s.dev.cyBlocked c = true → no (.cyResume c))) ∧
    (st ≠ cyHOLDING → st ≠ cyHELD → no (.cyResume c)) ∧
    (st = cyRUNNING ∨ st = cyHOLDING ∨ st = cyHELD → goes (.cyStop c) cySTOPPING 1 ∧ goes (.cyQstop c) cySTOPPING 2) ∧
    (st = cyIDLE ∨ st = cySTOPPING → leads (.cyStop c) s (· = s.dev)) ∧
    (st = cySTOPPING → (s.dev.cy c).stop ≠ 2 → goes (.cyQstop c) cySTOPPING 2) ∧
    (st = cyIDLE ∨ (st = cySTOPPING ∧ (s.dev.cy c).stop = 2) → leads (.cyQstop c) s (· = s.dev)) ∧
    (st = cyFREE ∨ st = cyENGAGED → no (.cyStop c) ∧ no (.cyQstop c))

/-- LIMITS and FLUSH of a convoy (R70, R76, R77).  LIMITS takes the shadow limits, BLEND and FEED at once, re-plans a running,
holding or stopping path, takes a FEED of 0 as HOLD, and refuses a negative limit with BAD_CODE; FLUSH in IDLE and HELD empties
the queue and leaves the convoy IDLE, and is refused with NOT_AT_REST elsewhere. -/
def Sys2Proof.Claims.ConvoyLimitsAndFlush : Prop :=
  ∀ (s : State) (c : Fin 32), s.dev.inReset = false →
    let st := s.dev.cyState c
    let neg := s.dev.rdS64 (GL_CY_VMAX c) < 0 ∨ s.dev.rdS64 (GL_CY_AMAX c) < 0 ∨ s.dev.rdS64 (GL_CY_DMAX c) < 0 ∨ s.dev.rdS64 (GL_CY_QDEC c) < 0
    let l := Claims.shadowLimits s.dev c
    let feed := min 2048 (s.dev.get (GL_CY_FEED_FEED c))
    let taken := fun (v : Convoy) => { v with lim := l, feed := feed, blend := (q48Of (s.dev.rdS64 (GL_CY_BLEND c))).toNat }
    (neg → leads (.cyLimits c) s (Claims.convoyRefused s.dev · c 9)) ∧
    (¬ neg → l.zero = true → st ≠ cyFREE → st ≠ cyIDLE → leads (.cyLimits c) s (Claims.convoyRefused s.dev · c 9)) ∧
    (¬ neg → st = cyFREE ∨ st = cyIDLE ∨ (l.zero = false ∧ (st = cyHELD ∨ st = cyENGAGED)) → leads (.cyLimits c) s (fun d => d.cy c = taken (s.dev.cy c) ∧
      Claims.otherConvoys s.dev d c ∧ { d with convoys := s.dev.convoys } = s.dev)) ∧
    (¬ neg → l.zero = false → st = cyHOLDING ∨ st = cySTOPPING ∨ (st = cyRUNNING ∧ feed ≠ 0) →
      leads (.cyLimits c) s (fun d => (d.cy c).lim = l ∧ (d.cy c).feed = feed ∧ (d.cy c).blend = (taken (s.dev.cy c)).blend ∧
        (d.cy c).segs = (s.dev.cy c).segs ∧ (d.cy c).stop = (s.dev.cy c).stop ∧ (d.cy c).origin = s.dev.clk.beat + 1 ∧ d.cyState c = st ∧
        Claims.otherConvoys s.dev d c)) ∧
    (¬ neg → l.zero = false → st = cyRUNNING → feed = 0 → leads (.cyLimits c) s (fun d => (d.cy c).lim = l ∧ (d.cy c).feed = 0 ∧
      (d.cy c).stop = 3 ∧ d.cyState c = cyHOLDING ∧ (d.cy c).origin = s.dev.clk.beat + 1 ∧ Claims.otherConvoys s.dev d c)) ∧
    (st = cyIDLE ∨ st = cyHELD → leads (.cyFlush c) s (fun d => (d.cy c).segs = [] ∧ (d.cy c).stop = 0 ∧ d.cyState c = cyIDLE ∧
      (d.cy c).prof = restAt (s.dev.cy c).next.p3 ∧ d.liveGet (GL_CY_STATUS_QUEUE_FILL c) = 0 ∧ Claims.otherConvoys s.dev d c ∧
      { d with convoys := s.dev.convoys, live := s.dev.live } = s.dev)) ∧
    (st ≠ cyIDLE → st ≠ cyHELD → leads (.cyFlush c) s (Claims.convoyRefused s.dev · c 6))

/-- ENGAGE and DISENGAGE of a follower (R80–R83).  ENGAGE of a used slot whose axis follows at rest couples it from here: by its
ratio or cam, over the master travel of ENGAGE_LEN, at once only from a master at rest; the conditions are refused by code in
their order.  DISENGAGE brings an engaged follower to rest under its own limits.
Where the rules leave a point open the clause is the model's choice: notes/assumptions/25, notes/assumptions/26, notes/assumptions/27. -/
def Obligations.FollowersEngageAndDisengage : Prop :=
  ∀ (s : State) (c : Fin 32) (j : Fin 8), s.dev.inReset = false →
    let kind := s.dev.get (GL_CY_CTRL_KIND c)
    let k := s.dev.get (GL_CY_MSEL_AXIS c j)
    let slot := (s.dev.cy c).slots.pick {} j
    let len := (s.dev.rdS64 (GL_CY_ENGAGE_LEN c)).natAbs
    let m := s.dev.cyMaster c
    let cam := s.dev.get (GL_CY_CAM_TABLE c j)
    let state := s.dev.cyState c ≠ cyFREE ∧ kind ≠ 0 ∧ s.dev.has (GL_CY_MSEL_USED c j) = true ∧ s.dev.plState k = plFOLLOWING
    let law := (kind = 1 → s.dev.rdN (GL_CY_DEN c j) ≠ 0) ∧ (kind = 2 → s.dev.has (GL_TD_STATE_DEFINED cam) = true)
    let rest := slot.mode = 0 ∧ (s.dev.pl k).next.v = 0 ∧ (len = 0 → m.v = 0)
    (¬ state → leads (.engage c j) s (Claims.convoyRefused s.dev · c 1)) ∧
    (state → ¬ law → leads (.engage c j) s (Claims.convoyRefused s.dev · c (6 + kind))) ∧
    (state → law → ¬ rest → leads (.engage c j) s (Claims.convoyRefused s.dev · c 6)) ∧
    (state → law → rest → (s.dev.pl k).topCap = none → leads (.engage c j) s (fun d =>
      let t := (d.cy c).slots.pick {} j
      t.mode = 1 ∧ t.num = toS 32 (s.dev.rdN (GL_CY_NUM c j)) ∧ t.den = s.dev.rdN (GL_CY_DEN c j) ∧ t.cam = cam ∧
      t.m0 = m.posOut ∧ t.f0 = (s.dev.pl k).next.posOut ∧ t.rem = 0 ∧ t.elen = len ∧ t.ramp.isSome = decide (len ≠ 0) ∧
      (∀ r, t.ramp = some r → r.x = 0 ∧ r.len = len) ∧
      d.cyState c = cyENGAGED ∧ d.liveGet (GL_CY_STATUS_ENGAGED c) = s.dev.cyEngaged c + 1 ∧
      (∀ i, i ≠ j.val → (d.cy c).slots.pick {} i = (s.dev.cy c).slots.pick {} i) ∧
      d.has (AX_PL_EVENT_SQUASHED k) = true ∧ Claims.otherConvoys s.dev d c)) ∧
    (s.dev.cyState c = cyFREE ∨ slot.mode ≠ 1 → leads (.disengage c j) s (Claims.convoyRefused s.dev · c 1)) ∧
    (s.dev.cyState c ≠ cyFREE → slot.mode = 1 → leads (.disengage c j) s (fun d =>
      ((d.cy c).slots.pick {} j).mode = 2 ∧ ((d.cy c).slots.pick {} j).ramp = none ∧ d.has (AX_PL_EVENT_SQUASHED k) = true ∧
      (s.dev.get (GL_CY_CTRL_MASTER_KIND c) = 1 ∨ s.dev.get (GL_CY_CTRL_MASTER_KIND c) = 2 →
        (d.pl k).prof = (s.dev.pl k).planStop (s.dev.pl k).next 1 ∧ (d.pl k).origin = s.dev.clk.beat + 1 ∧
        Claims.otherConvoys s.dev d c)))

/-- A write of GL_GP_CTRL (R89, R91): a pair is bound while both axes are OFF or IDLE and lie in one zone, and its twin then
follows; across zones it is refused with ZONE_SPLIT and what was bound stays bound; elsewhere the write has no effect; a twin that
is bound no more is IDLE again. -/
def Sys2Proof.Claims.GantryPairsBindAtRest : Prop :=
  ∀ (s : State) (g : Fin 16) (v : BitVec 32), s.dev.inReset = false →
    let kp := bits v.toNat 0 8
    let kt := bits v.toNat 8 8
    let free := fun (k : Nat) => 191 < k ∨ s.dev.plState k = plOFF ∨ s.dev.plState k = plIDLE
    let bound := s.dev.has (GL_GP_CTRL_EN g) = true
    let old := s.dev.get (GL_GP_CTRL_PRIMARY g)
    let oldT := s.dev.get (GL_GP_CTRL_TWIN g)
    let free' := fun (k : Nat) => free k ∨ (bound ∧ k = oldT)
    let may := bound → free' old
    let pair := kp < 192 ∧ kt < 192 ∧ kp ≠ kt ∧ free' kp ∧ free' kt
    let lone := s.dev.cyOf oldT = none ∧ ∀ h < 16, h ≠ g.val → s.dev.has (GL_GP_CTRL_EN h) = true → s.dev.get (GL_GP_CTRL_TWIN h) ≠ oldT
    let twin := fun (d : Device) => d.plState kt = (if s.dev.plState kt = plOFF then plOFF else plFOLLOWING)
    (bit v.toNat 16 = true → may → pair → s.dev.tgZoneOf kp = s.dev.tgZoneOf kt →
      (¬ bound → leads (.gpCtrlWrite g v) s (fun d => d.rdN (GL_GP_CTRL g) = v.toNat % 2 ^ 17 ∧ twin d ∧
        d.plState kp = s.dev.plState kp ∧ Claims.onlyShown s.dev d (· = GL_GP_CTRL g) (· = AX_PL_STATUS kt))) ∧
      (bound → s.dev.plState oldT = plFOLLOWING → lone → oldT ≠ kt → leads (.gpCtrlWrite g v) s (fun d =>
        d.rdN (GL_GP_CTRL g) = v.toNat % 2 ^ 17 ∧ twin d ∧ d.plState oldT = plIDLE ∧
        (d.pl oldT).prof = restAt (s.dev.pl oldT).next.p3 ∧ ∀ j, j ≠ oldT → d.pl j = s.dev.pl j))) ∧
    (bit v.toNat 16 = true → may → pair → s.dev.tgZoneOf kp ≠ s.dev.tgZoneOf kt → leads (.gpCtrlWrite g v) s (fun d =>
      d.has (GL_GP_EVENT_ZONE_SPLIT g) = true ∧ onlyRegs s.dev d (· = GL_GP_EVENT g))) ∧
    (bit v.toNat 16 = true → ¬ pair → leads (.gpCtrlWrite g v) s (· = s.dev)) ∧
    (¬ may → leads (.gpCtrlWrite g v) s (· = s.dev)) ∧
    (bound → may → bit v.toNat 16 = false → s.dev.plState oldT = plFOLLOWING → lone → leads (.gpCtrlWrite g v) s (fun d =>
      d.has (GL_GP_CTRL_EN g) = false ∧ d.plState oldT = plIDLE ∧ (d.pl oldT).prof = restAt (s.dev.pl oldT).next.p3 ∧
      ∀ j, j ≠ oldT → d.pl j = s.dev.pl j))

/-- The step generators (R92–R96).  A write of ST_MODE with EN 0 before it is stored; with EN 1 MODE is kept, and clearing EN
drops the staged command and stops at the next tick.  STEP_EMIT moves ST_COUNT by the oldest step that is due, in its
direction, starts the pulse and leaves the others due; a step waits for DIR and for the pulse before it; but for milestones that
compare with the count (none of them in use here) nothing else changes. -/
def Sys2Proof.Claims.StepGeneratorsEmitDueSteps : Prop :=
  ∀ (s : State) (g : Fin 16), s.dev.inReset = false →
    let q := s.dev.gen g
    let one : Int := if q.dirNext then 1 else -1
    let idle := ∀ m < 16, s.dev.ms m = {}
    let pulse := q.stepped = true ∧ s.dev.clk.now < q.pulseEnd + s.dev.genWidth g
    (∀ v : BitVec 32, s.dev.has (ST_MODE_EN g) = false → leads (.stModeWrite g v) s (fun d =>
      d.rdN (ST_MODE g) = v.toNat % 16 ∧ onlyRegs s.dev d (· = ST_MODE g))) ∧
    (∀ v : BitVec 32, s.dev.has (ST_MODE_EN g) = true → leads (.stModeWrite g v) s (fun d =>
      d.get (ST_MODE_MODE g) = s.dev.get (ST_MODE_MODE g) ∧ d.get (ST_MODE_DIR_POL g) = bits v.toNat 2 1 ∧
      d.get (ST_MODE_STEP_POL g) = bits v.toNat 1 1 ∧ d.get (ST_MODE_EN g) = bits v.toNat 3 1 ∧
      d.gen g = (if bit v.toNat 3 then q else { q with stopNext := true, staged := false }) ∧
      (bit v.toNat 3 = false → d.has (ST_STATUS_RUNNING g) = false) ∧
      (∀ i, i ≠ g.val → d.gen i = s.dev.gen i) ∧ sameRegs s.dev d (fun a => a = ST_MODE g ∨ a = ST_STATUS g))) ∧
    (q.due = [] → leads (.stepEmit g) s (fun d => d.gens = s.dev.gens ∧ (idle → d = s.dev))) ∧
    (q.due ≠ [] → s.dev.genWaits g = true → leads (.stepEmit g) s (fun d => d.has (ST_STATUS_DIR_WAIT g) = true ∧
      d.gens = s.dev.gens ∧ (idle → onlyRegs s.dev d (· = ST_STATUS g)))) ∧
    (q.due ≠ [] → s.dev.genWaits g = false → pulse → leads (.stepEmit g) s (fun d => d.gens = s.dev.gens ∧ (idle → d = s.dev))) ∧
    (q.due ≠ [] → s.dev.genWaits g = false → ¬ pulse → leads (.stepEmit g) s (fun d =>
      d.rdS64 (ST_COUNT g) = toS 64 (ofS 64 (s.dev.rdS64 (ST_COUNT g) + one)) ∧
      d.gen g = { q with due := popDue q.due, lastStep := s.dev.clk.now, pulseEnd := s.dev.clk.now + s.dev.genWidth g, stepped := true,
                         emitted := keepEdges s.dev.clk.now ((s.dev.clk.now, one) :: q.emitted) } ∧
      (∀ i, i ≠ g.val → d.gen i = s.dev.gen i) ∧ (idle → { d with gens := s.dev.gens, regs := s.dev.regs } = s.dev ∧
      sameRegs s.dev d (fun a => a = ST_STATUS g ∨ a ∈ [ST_COUNT g, ST_COUNT g + 4, ST_VEL g, ST_VEL g + 4]))))

/-- HOLD, RESUME, STOP and QSTOP of a path convoy (R52–R54, R76, R78): each acts on s where the convoy's state takes it, has no
effect where it would change nothing, and is refused with BUSY elsewhere; a RESUME is refused while a member is disabled.
LIMITS and FLUSH of a convoy (R70, R76, R77).  LIMITS takes the shadow limits, BLEND and FEED at once, re-plans a running,
holding or stopping path, takes a FEED of 0 as HOLD, and refuses a negative limit with BAD_CODE; FLUSH in IDLE and HELD empties
the queue and leaves the convoy IDLE, and is refused with NOT_AT_REST elsewhere.
Where the rules leave a point open the clause is the model's choice: notes/assumptions/25, notes/assumptions/26. -/
def Obligations.ConvoysHoldStopAndLimit : Prop :=
  Claims.PathConvoyHoldsAndStops ∧ Claims.ConvoyLimitsAndFlush

/-- A write of GL_GP_CTRL (R89, R91): a pair is bound while both axes are OFF or IDLE and lie in one zone, and its twin then
follows; across zones it is refused with ZONE_SPLIT and what was bound stays bound; elsewhere the write has no effect; a twin that
is bound no more is IDLE again.
The step generators (R92–R96).  A write of ST_MODE with EN 0 before it is stored; with EN 1 MODE is kept, and clearing EN
drops the staged command and stops at the next tick.  STEP_EMIT moves ST_COUNT by one step that is due, in the direction of the
phase, starts the pulse and leaves the others due; a step waits for DIR and for the pulse before it.
Where the rules leave a point open the clause is the model's choice: notes/assumptions/8, notes/assumptions/24, notes/assumptions/26. -/
def Obligations.GantryPairsAndStepGenerators : Prop :=
  Claims.GantryPairsBindAtRest ∧ Claims.StepGeneratorsEmitDueSteps

/-! ### Feedback ports and sources (R172–R205) -/

namespace Sys2Proof.Claims

/-- The next levels of A (bit 0) and B (bit 1) forward, A leading B (R180). -/
def quadNext (ab : Nat) : Nat := [1, 3, 0, 2].getD ab 0

/-- The next Hall state (U bit 2, V bit 1, W bit 0) forward (R182): 100, 110, 010, 011, 001, 101. -/
def hallNext (uvw : Nat) : Nat := [0, 5, 3, 1, 6, 4, 2, 0].getD uvw 0

/-- The levels on the pins of port `p` with the lines in `mask` at `levels`. -/
def pinsNow (d : Device) (p mask levels : Nat) : Nat := andN (d.port p).pins (7 - mask) + andN levels mask

/-- Every port but `p` is as it was, but for the levels of those in MODE 6, which follow the port that they copy. -/
def samePorts (d e : Device) (p : Nat) : Prop :=
  ∀ j, j ≠ p → e.port j = { d.port j with lines := if d.portMode j = 6 then (e.port j).lines else (d.port j).lines }

/-- Port `p` counted one edge in direction `x` with the levels `new` and the pin levels `pins`: R moves by one, DIR says which way,
and the edge is stamped FILT ticks before its acceptance; with no milestone in use nothing else changes. -/
def countsEdge (d e : Device) (p new pins : Nat) (x : Int) : Prop :=
  let filt := bits (d.port p).ctrl.toNat 12 4
  let at_ := d.clk.now - filt
  e.port p = { d.port p with r := (d.port p).r + x, lines := new, pins := pins, lastEdge := at_, moved := true,
                             edges := keepEdges d.clk.now ((at_, x) :: (d.port p).edges) } ∧ samePorts d e p ∧
  ((∀ m < 16, d.ms m = {}) → e.get (FB_STATUS_DIR p) = (if x < 0 then 1 else 0) ∧ e.rd64 (FB_EDGE p) = d.stampAgo filt % 2 ^ 64 ∧
    { e with ports := d.ports, regs := d.regs } = d ∧ sameRegs d e (fun a => a = FB_STATUS p ∨ a = FB_EDGE p ∨ a = FB_EDGE p + 4))

/-- Port `p` saw an illegal transition: R stays, ILLEGAL is raised and counted, and its axes' reference is in doubt. -/
def illegalEdge (d e : Device) (p new pins : Nat) : Prop :=
  e.port p = { d.port p with lines := new, pins := pins, illegal := true } ∧ samePorts d e p ∧ e.has (FB_EVENT_ILLEGAL p) = true ∧
  e.get (FB_ERRCNT_ILL p) = satU 8 (d.get (FB_ERRCNT_ILL p) + 1) ∧ (∀ u ∈ d.portUsers p, e.liveHas (AX_FB_STATUS_REF_DOUBT u.1) = true) ∧
  { e with ports := d.ports, regs := d.regs, live := d.live } = d ∧ sameRegs d e (fun a => a = FB_EVENT p ∨ a = FB_ERRCNT p)

/-- The levels of port `p` are `new`, and nothing else changed but what copies them. -/
def levelsOnly (d e : Device) (p new pins : Nat) : Prop :=
  e.port p = { d.port p with lines := new, pins := pins } ∧ samePorts d e p ∧ { e with ports := d.ports } = d

/-- No follower waits for its master's sample of the beat. -/
def noneAwaits (d : Device) : Prop := ∀ c < 32, (d.cy c).await = false

/-- A serial transfer of port `p` gave a raw position of `w` bits (R174, R175): the extended count follows it, the transfer is over,
and with no axis on the port nothing else changes but its own registers. -/
def portTakes (d e : Device) (p raw w : Nat) (sgnd : Bool) : Prop :=
  let q := e.port p
  q.raw = some (raw % 2 ^ w) ∧ q.busy = false ∧ (∀ i, i ≠ p → e.port i = d.port i) ∧
  ((d.port p).raw = none → q.r = if sgnd then toS w raw else ((raw % 2 ^ w : Nat) : Int)) ∧
  (∀ old, (d.port p).raw = some old → q.r = (d.port p).r + toS w (raw + 2 ^ w - old % 2 ^ w)) ∧
  (d.portUsers p = [] → noneAwaits d → e.has (FB_STATUS_LAST_OK p) = true ∧ e.has (FB_STATUS_BUSY p) = false ∧ e.rdS64 (FB_RAW p) = toS 64 (ofS 64 q.r) ∧
    { e with ports := d.ports, regs := d.regs } = d ∧ sameRegs d e (fun a => a ∈ [FB_STATUS p, FB_EVENT p, FB_RAW p, FB_RAW p + 4]))

/-- A serial transfer of port `p` failed (R197): no position is taken, the event is raised and its counter, if it has one,
counts. -/
def portMisses (d e : Device) (p : Nat) (ev : Fld) (cnt : Option Fld) : Prop :=
  (e.port p).busy = false ∧ (e.port p).raw = (d.port p).raw ∧ (e.port p).r = (d.port p).r ∧ (∀ i, i ≠ p → e.port i = d.port i) ∧
  (d.portUsers p = [] → noneAwaits d → e.has (FB_STATUS_LAST_OK p) = false ∧ e.has (FB_STATUS_BUSY p) = false ∧ e.has ev = true ∧
    (∀ f, cnt = some f → e.get f = satU 8 (d.get f + 1)) ∧ { e with ports := d.ports, regs := d.regs } = d ∧
    sameRegs d e (fun a => a ∈ [FB_STATUS p, FB_EVENT p, FB_ERRCNT p]))

/-- Axis `k` is the one user of port `p`, by its primary source, which is up and not yet evaluated in this beat, with its freeze
check off and no injection, no SETPOS, no loss, no gantry pair and no follower waiting on it. -/
def soleUser (d : Device) (p k : Nat) : Prop :=
  d.portUsers p = [(k, 0)] ∧ (d.fb k).pri.evaluated = false ∧ (d.fb k).sec.evaluated = false ∧ (d.fb k).pri.lost = false ∧
    (d.fb k).pri.absent = false ∧ (d.fb k).lostNow = [] ∧ (d.fb k).setposs = [] ∧ d.rdN (AX_FB_FREEZE_VMIN k) = 0 ∧
    (∀ kind < 8, d.injPending 4 k kind = false) ∧ (∀ g < 16, d.has (GL_GP_CTRL_EN g) = false) ∧ noneAwaits d

/-- The present value of every snapshot register outside `A` is the same in both blocks. -/
def sameLive (d e : Device) (A : Nat → Prop) : Prop := ∀ a, ¬ A a → Store.get resetWord e.live a = Store.get resetWord d.live a

/-- A measured position as software sees it from the next boundary on. -/
def livePos (d : Device) (a : Nat) : Int :=
  toS 64 ((Store.get resetWord d.live a).toNat + 2 ^ 32 * (Store.get resetWord d.live (a + 4)).toNat)

/-- What AX_FB_SRC_WRITE leaves of a source: the source as it was where its setting is the same, and otherwise a source without
any sample that keeps the position, which is 0 with kind 0. -/
def srcAnew (u : FbSrc) (same : Prop) [Decidable same] (kind : Nat) : FbSrc :=
  if same then u else { p := if kind = 0 then 0 else u.p, evaluated := u.evaluated }

/-- A write of a port's setting is refused: REFUSED is raised and nothing else changes. -/
def portRefused (d e : Device) (p : Nat) : Prop := e.has (FB_EVENT_REFUSED p) = true ∧ onlyRegs d e (· = FB_EVENT p)

/-- A write of a port's setting is accepted: the register takes it, and a transfer in progress is aborted. -/
def portSets (d e : Device) (p a v : Nat) : Prop :=
  ((d.port p).busy = false → e.rdN a = v ∧ onlyRegs d e (· = a)) ∧
  ((d.port p).busy = true → (e.port p).busy = false ∧ (d.portUsers p = [] → noneAwaits d → e.rdN a = v ∧ e.has (FB_EVENT_ABORTED p) = true))

end Sys2Proof.Claims

/-- Edges of a direct port (R180–R182).  In quadrature one changed level counts one step, forward where A leads B; in Hall mode a
neighbouring state counts one step, reversed by HALL_REV; equal levels change nothing; anything else is an illegal transition that
leaves R.  A rising Z with ZMODE 1 captures R and raises Z_SEEN.  A port in another mode does nothing. -/
def Sys2Proof.Claims.PortEdgesCountByDirection : Prop :=
  ∀ (s : State) (p : Fin 16), s.dev.inReset = false →
    let q := s.dev.port p
    let rev : Int := if bit q.ctrl.toNat 11 then -1 else 1
    (∀ ab : Fin 4, s.dev.portMode p = 1 → q.lines < 4 →
      let pins := Claims.pinsNow s.dev p 3 ab
      (ab.val = Claims.quadNext q.lines → leads (.quadEdge p ab) s (Claims.countsEdge s.dev · p ab pins 1)) ∧
      (q.lines = Claims.quadNext ab → leads (.quadEdge p ab) s (Claims.countsEdge s.dev · p ab pins (-1))) ∧
      (ab.val = q.lines → leads (.quadEdge p ab) s (Claims.levelsOnly s.dev · p ab pins)) ∧
      (ab.val + q.lines = 3 → leads (.quadEdge p ab) s (Claims.illegalEdge s.dev · p ab pins))) ∧
    (∀ uvw : Fin 8, s.dev.portMode p = 2 → q.lines < 8 →
      let pins := Claims.pinsNow s.dev p 7 (hallPins uvw)
      (uvw.val ≠ 0 → uvw.val ≠ 7 → q.lines ≠ 0 → q.lines ≠ 7 →
        (uvw.val = Claims.hallNext q.lines → leads (.hallEdge p uvw) s (Claims.countsEdge s.dev · p uvw pins rev)) ∧
        (q.lines = Claims.hallNext uvw → leads (.hallEdge p uvw) s (Claims.countsEdge s.dev · p uvw pins (-rev))) ∧
        (uvw.val ≠ Claims.hallNext q.lines → q.lines ≠ Claims.hallNext uvw → uvw.val ≠ q.lines →
          leads (.hallEdge p uvw) s (Claims.illegalEdge s.dev · p uvw pins))) ∧
      (uvw.val = q.lines → leads (.hallEdge p uvw) s (Claims.levelsOnly s.dev · p uvw pins)) ∧
      (uvw.val = 0 ∨ uvw.val = 7 → uvw.val ≠ q.lines → leads (.hallEdge p uvw) s (Claims.illegalEdge s.dev · p uvw pins)) ∧
      (q.lines = 0 ∨ q.lines = 7 → uvw.val ≠ 0 → uvw.val ≠ 7 →
        leads (.hallEdge p uvw) s (Claims.levelsOnly s.dev · p uvw pins))) ∧
    (∀ rising, s.dev.portMode p = 1 → bit q.ctrl.toNat 10 = true →
      leads (.zEdge p rising) s (fun d => d.port p = { q with z := rising, pins := Claims.pinsNow s.dev p 4 (if rising then 4 else 0) } ∧
        (rising = true → d.rdS64 (FB_Z p) = toS 64 (ofS 64 q.r) ∧ d.has (FB_EVENT_Z_SEEN p) = true) ∧
        (rising = false → d.rdS64 (FB_Z p) = s.dev.rdS64 (FB_Z p)))) ∧
    (∀ rising, s.dev.portMode p = 1 → bit q.ctrl.toNat 10 = false →
      leads (.zEdge p rising) s (fun d => d.port p = { q with z := rising, pins := Claims.pinsNow s.dev p 4 (if rising then 4 else 0) } ∧
        Claims.samePorts s.dev d p ∧ { d with ports := s.dev.ports } = s.dev)) ∧
    (s.dev.portMode p ≠ 1 → (∀ ab, leads (.quadEdge p ab) s (· = s.dev)) ∧ ∀ rising, leads (.zEdge p rising) s (· = s.dev)) ∧
    (s.dev.portMode p ≠ 2 → ∀ uvw, leads (.hallEdge p uvw) s (· = s.dev))

/-- Serial transfers (R183–R187).  A transfer in progress in the port's mode ends with a position where its checks pass: the parity
of an SSI word, the inverted CRC of a BiSS word, whose nE and nW are judged, the CRC, constants, error bits and life counter of a
frame-format response; a failed check is a miss of its cause.  A frame that ends past its timeout or a BiSS acknowledge beyond
ACK_MAX is a TIMEOUT, and so is a timeout once it can be due; before, it has no effect, and so has a command in another mode or with
no transfer in progress. -/
def Sys2Proof.Claims.SerialTransfersTakeOrMiss : Prop :=
  ∀ (s : State) (p : Fin 16), s.dev.inReset = false →
    let q := s.dev.port p
    let c := q.ser.toNat
    let n := bits c 16 6
    let idle := fun (i : Instr) => leads i s (· = s.dev)
    let missed := fun (i : Instr) => leads i s (Claims.portMisses s.dev · p (FB_EVENT_TIMEOUT p) (some (FB_ERRCNT_TMO p)))
    let late := s.dev.frameLate p = true
    let due := s.dev.portTimeout p ≤ s.dev.clk.tick ∨ (s.dev.clk.tick = 0 ∧ s.dev.idleChecked p = true) ∨
      (s.dev.portMode p = 4 ∧ 3 * (bits c 0 9 + 1) + 1 + s.dev.ackTicks p < s.dev.clk.tick)
    (late → q.busy = true → (∀ w, s.dev.portMode p = 3 → missed (.ssiTransferDone p w)) ∧
      (∀ w dly, s.dev.portMode p = 4 → missed (.bissTransferDone p w dly)) ∧ (∀ r, s.dev.portMode p = 5 → missed (.frameFormatDone p r))) ∧
    (∀ w : BitVec 64, s.dev.portMode p = 3 → q.busy = true → ¬ late →
      let pos := bits w.toNat (bits c 25 3) n
      let par := bits c 14 2
      let odd := parity n pos != bit w.toNat 0
      let ok := par = 0 ∨ bits c 25 3 = 0 ∨ (odd = true ↔ par = 2)
      (ok → leads (.ssiTransferDone p w) s (Claims.portTakes s.dev · p (if bit c 12 then unGray n pos else pos) n (bit c 28))) ∧
      (¬ ok → leads (.ssiTransferDone p w) s (Claims.portMisses s.dev · p (FB_EVENT_CRC p) (some (FB_ERRCNT_CRC p))))) ∧
    (∀ w (dly : BitVec 16), s.dev.portMode p = 4 → q.busy = true → s.dev.ackTicks p < dly.toNat → missed (.bissTransferDone p w dly)) ∧
    (∀ (w : BitVec 128) (dly : BitVec 16), s.dev.portMode p = 4 → q.busy = true → ¬ late → dly.toNat ≤ s.dev.ackTicks p →
      let crcOk := crcBits 6 3 0 (msbBits (n + 2) (bits w.toNat 6 (n + 2))) = 63 - bits w.toNat 0 6
      (¬ crcOk → leads (.bissTransferDone p w dly) s (Claims.portMisses s.dev · p (FB_EVENT_CRC p) (some (FB_ERRCNT_CRC p)))) ∧
      (crcOk → bit w.toNat 7 = false →
        leads (.bissTransferDone p w dly) s (Claims.portMisses s.dev · p (FB_EVENT_ENC_ERR p) (some (FB_ERRCNT_ENC p)))) ∧
      (crcOk → bit w.toNat 7 = true → leads (.bissTransferDone p w dly) s (fun d =>
        Claims.portTakes s.dev d p (bits w.toNat 8 n) n (bit c 28) ∧
        (s.dev.portUsers p = [] → Claims.noneAwaits s.dev → d.get (FB_STATUS_MEAS_DLY p) = dly.toNat % 256 ∧
          d.has (FB_EVENT_ENC_WARN p) = (s.dev.has (FB_EVENT_ENC_WARN p) || !bit w.toNat 6))))) ∧
    (∀ resp : BitVec 1024, s.dev.portMode p = 5 → q.busy = true → ¬ late →
      let fs := frameFields q.table
      let bad := fun (f : FrameField) => (f.kind = 3 ∧ f.read resp.toNat ≠ 0) ∨ (f.kind = 4 ∧ f.read resp.toNat ≠ 2 ^ f.len - 1)
      let ok := frameCrcOk q.table resp.toNat = true ∧ ∀ f ∈ fs, f.kind = 8 → f.read resp.toNat = f.value
      (¬ ok → leads (.frameFormatDone p resp) s (Claims.portMisses s.dev · p (FB_EVENT_CRC p) (some (FB_ERRCNT_CRC p)))) ∧
      (ok → (∃ f ∈ fs, bad f) →
        leads (.frameFormatDone p resp) s (Claims.portMisses s.dev · p (FB_EVENT_ENC_ERR p) (some (FB_ERRCNT_ENC p)))) ∧
      (ok → (∀ f ∈ fs, ¬ bad f) → fieldOf fs 9 = none → leads (.frameFormatDone p resp) s
        (Claims.portTakes s.dev · p (framePos q.table resp.toNat).2 (framePos q.table resp.toNat).1 (bit (leAt q.table 0 4) 4))) ∧
      (∀ f, ok → (∀ f ∈ fs, ¬ bad f) → fieldOf fs 9 = some f →
        (q.life = some (f.read resp.toNat) → leads (.frameFormatDone p resp) s (Claims.portMisses s.dev · p (FB_EVENT_LIFE p) none)) ∧
        (q.life ≠ some (f.read resp.toNat) → leads (.frameFormatDone p resp) s (fun d => (d.port p).life = some (f.read resp.toNat) ∧
          Claims.portTakes s.dev d p (framePos q.table resp.toNat).2 (framePos q.table resp.toNat).1 (bit (leAt q.table 0 4) 4))))) ∧
    (3 ≤ s.dev.portMode p → s.dev.portMode p ≤ 5 → q.busy = true → (due → missed (.serialTimeout p)) ∧ (¬ due → idle (.serialTimeout p))) ∧
    (q.busy = false → (∀ w, idle (.ssiTransferDone p w)) ∧ (∀ w dly, idle (.bissTransferDone p w dly)) ∧
      (∀ r, idle (.frameFormatDone p r)) ∧ idle (.serialTimeout p))

/-- What a serial sample and a miss do to the axis of the port (R173, R174, R197, R198).  A sample sets R, makes the position
R · SCALE plus OFFSET, and makes the source valid; a miss counts, raises MISS when it is the first, and extrapolates the position by
the speed of one beat. -/
def Sys2Proof.Claims.SampleAndMissOfAnAxisSource : Prop :=
  ∀ (s : State) (p : Fin 16) (k : Fin 192), s.dev.inReset = false → Claims.soleUser s.dev p k → s.dev.portMode p = 3 →
    (s.dev.port p).busy = true →
    let u := (s.dev.fb k).pri
    let c := (s.dev.port p).ser.toNat
    let n := bits c 16 6
    (∀ w : BitVec 64, bits c 14 2 = 0 → s.dev.frameLate p = false →
      let pos := bits w.toNat (bits c 25 3) n
      let raw := if bit c 12 then unGray n pos else pos
      leads (.ssiTransferDone p w) s (fun d =>
        let t := (d.fb k).pri
        t.r = u.take raw n true (bit c 28) ∧ t.p = fdiv (t.r * s.dev.rdS64 (AX_FB_SCALE k)) (2 ^ 16) + s.dev.rdS64 (AX_FB_OFFSET k) ∧
        t.valid = true ∧ t.miss = 0 ∧ t.good = u.good + 1 ∧ t.evaluated = true ∧ Claims.livePos d (AX_FB_POS k) = toS 64 (ofS 64 t.p) ∧
        d.liveHas (AX_FB_STATUS_PRI_VALID k) = true ∧ d.liveHas (AX_FB_STATUS_PRI_EXTRAP k) = false ∧
        (d.fb k).sec = (s.dev.fb k).sec ∧ ∀ j, j ≠ k.val → d.fb j = s.dev.fb j)) ∧
    (u.miss + 1 < max 1 (s.dev.get (AX_FB_LOSS_MISS_LIMIT k)) → s.dev.portTimeout p ≤ s.dev.clk.tick → leads (.serialTimeout p) s (fun d =>
      let t := (d.fb k).pri
      t.r = u.r ∧ t.p = u.p + fdiv (u.vel * s.dev.clk.len) (2 ^ 8) ∧ t.miss = u.miss + 1 ∧ t.good = 0 ∧ t.valid = u.valid ∧
      t.lost = false ∧ t.evaluated = true ∧ d.liveHas (AX_FB_STATUS_PRI_EXTRAP k) = true ∧
      (u.miss = 0 → d.has (AX_FB_EVENT_MISS k) = true) ∧ (d.fb k).sec = (s.dev.fb k).sec ∧ ∀ j, j ≠ k.val → d.fb j = s.dev.fb j))

/-- The settings of ports and sources (R172, R179, R183, R187). A write is refused while the port is in use, where a field
is out of its range, or where the frame would not end by its timeout; accepted otherwise, with a transfer in progress
aborted. CLEAR_CNT clears the error counters. AX_FB_SRC is taken in OFF with kinds 0 to 4, and a source that changed
starts anew. -/
def Sys2Proof.Claims.PortAndSourceSettings : Prop :=
  ∀ (s : State) (p : Fin 16) (k : Fin 192) (v : BitVec 32), s.dev.inReset = false →
    let d := s.dev
    let n := v.toNat
    let fits := fun (ctrl ser timing : Nat) => d.serialOk ctrl ser timing (d.tblWork (0xC0 + bits ctrl 20 4)) = true
    let ctrlOk := d.portInUse p = false ∧ ¬ (bits n 0 3 = 6 ∧ bits n 16 4 = p) ∧ fits n (d.rdN (FB_SER p)) (d.rdN (FB_TIMING p))
    let serOk := d.portInUse p = false ∧ 8 ≤ bits n 16 6 ∧ bits n 16 6 ≤ 48 ∧ bits n 14 2 ≠ 3 ∧ 4 ≤ bits n 0 9 ∧ bits n 0 9 ≤ 499 ∧
      fits (d.rdN (FB_CTRL p)) n (d.rdN (FB_TIMING p))
    let timOk := d.portInUse p = false ∧ fits (d.rdN (FB_CTRL p)) (d.rdN (FB_SER p)) n
    let srcOk := d.axState k = axOFF ∧ bits n 12 3 ≤ 4 ∧ bits n 28 3 ≤ 4
    (ctrlOk → leads (.fbCtrlWrite p v) s (Claims.portSets d · p (FB_CTRL p) (n &&& 0x00FFFC07))) ∧
    (¬ ctrlOk → leads (.fbCtrlWrite p v) s (Claims.portRefused d · p)) ∧
    (serOk → leads (.fbSerWrite p v) s (Claims.portSets d · p (FB_SER p) (n &&& 0x1FFFD1FF))) ∧
    (¬ serOk → leads (.fbSerWrite p v) s (Claims.portRefused d · p)) ∧
    (timOk → leads (.fbTimingWrite p v) s (Claims.portSets d · p (FB_TIMING p) n)) ∧
    (¬ timOk → leads (.fbTimingWrite p v) s (Claims.portRefused d · p)) ∧
    leads (.fbClearCnt p) s (fun e => e.rd (FB_ERRCNT p) = 0 ∧ onlyRegs d e (· = FB_ERRCNT p)) ∧
    (¬ srcOk → leads (.axFbSrcWrite k v) s (fun e => e.has (AX_FB_EVENT_REFUSED k) = true ∧ onlyRegs d e (· = AX_FB_EVENT k))) ∧
    (srcOk →
      let new := n &&& 0xF3FF73FF
      let priSame := bits (d.rdN (AX_FB_SRC k)) 0 16 = bits new 0 16
      let secSame := bits (d.rdN (AX_FB_SRC k)) 16 15 = bits new 16 15
      let liveRegs := [AX_FB_STATUS k, AX_FB_POS k, AX_FB_POS k + 4, AX_FB_POS2 k, AX_FB_POS2 k + 4, AX_FB_VEL k]
      leads (.axFbSrcWrite k v) s (fun e => e.rdN (AX_FB_SRC k) = new ∧
        e.fb k = { d.fb k with pri := Claims.srcAnew (d.fb k).pri priSame (bits n 12 3), sec := Claims.srcAnew (d.fb k).sec secSame (bits n 28 3),
                               d0 := if priSame ∧ secSame then (d.fb k).d0 else none } ∧
        (¬ priSame → e.liveHas (AX_FB_STATUS_PRI_VALID k) = false) ∧ (¬ secSame → e.liveHas (AX_FB_STATUS_SEC_VALID k) = false) ∧
        Claims.sameLive d e (· ∈ liveRegs) ∧
        (priSame → secSame → e.live = d.live) ∧
        (∀ j, j ≠ k.val → e.fb j = d.fb j) ∧ { e with fbs := d.fbs, regs := d.regs, live := d.live } = d ∧ sameRegs d e (· = AX_FB_SRC k)))

/-- SETPOS, the end of a ride-through, pass-through and emulation (R177, R188, R189, R202). SETPOS takes effect at the
next boundary in OFF and two on in IDLE and HELD, with a squash, and is refused elsewhere. RIDE_END comes once the
set-point rests or RIDE_TIME is over. Levels passed through reach the ports that copy their port. An emulated edge moves
one count toward the target, not before its place in the beat nor within MINSP of the one before.
Where the rules leave a point open the clause is the model's choice: notes/assumptions/16, notes/assumptions/19, notes/assumptions/60. -/
def Obligations.SetposRideEndAndEmulation : Prop :=
  ∀ (s : State) (k : Fin 192) (p : Fin 16), s.dev.inReset = false →
    let st := s.dev.plState k
    let to_ := s.dev.rdS64 (AX_FB_SETPOS k)
    let pl := s.dev.pl k
    let over_ := (pl.cur.v = 0 ∧ pl.cur.a = 0 ∧ pl.next.v = 0) ∨
      min 1000 (max 1 (s.dev.get (AX_FB_LOSS_RIDE_TIME k))) * 10000 ≤ (s.dev.clk.beat - (s.dev.fb k).rideStart) * s.dev.clk.len
    let q := s.dev.port p
    let due := (q.emuE - q.emuNext).natAbs * s.dev.clk.len / max 1 (q.emuTarget - q.emuNext).natAbs
    let spaced := q.emuLast = 0 ∨ q.emuLast + max 2 (s.dev.get (FB_EMU_MINSP p)) ≤ s.dev.clk.now
    (s.dev.axState k = axOFF → leads (.setpos k) s (fun d => d.fb k =
        { s.dev.fb k with setposs := (s.dev.fb k).setposs ++ [(s.dev.clk.beat + 1, false, to_)] } ∧ (∀ j, j ≠ k.val → d.fb j = s.dev.fb j) ∧ { d with fbs := s.dev.fbs } = s.dev)) ∧
    (s.dev.axState k ≠ axOFF → st = plIDLE ∨ st = plHELD → leads (.setpos k) s (fun d => d.fb k =
        { s.dev.fb k with setposs := (s.dev.fb k).setposs ++ [(s.dev.clk.beat + 2, true, to_)] } ∧ d.has (AX_PL_EVENT_SQUASHED k) = true ∧
        (d.pl k).gen = (s.dev.pl k).gen + 1 ∧ d.plState k = st)) ∧
    (s.dev.axState k ≠ axOFF → st ≠ plIDLE → st ≠ plHELD → leads (.setpos k) s (fun d =>
      d.has (AX_FB_EVENT_REFUSED k) = true ∧ onlyRegs s.dev d (· = AX_FB_EVENT k))) ∧
    (s.dev.axState k = axRIDE → (s.dev.ax k).rest = none → over_ → leads (.rideEnd k) s (fun d =>
      d.has (AX_FB_EVENT_RIDE_END k) = true ∧ (d.ax k).rest = some s.dev.clk.beat ∧ d.axState k = axRIDE)) ∧
    (s.dev.axState k ≠ axRIDE ∨ (s.dev.ax k).rest ≠ none ∨ ¬ over_ → leads (.rideEnd k) s (· = s.dev)) ∧
    (∀ lv : Fin 8, leads (.passThroughEdge p lv) s (fun d => { d with ports := s.dev.ports } = s.dev ∧ Claims.samePorts s.dev d p ∧
      (d.port p).pins = lv ∧ d.port p = { q with pins := lv, lines := if s.dev.portMode p = 6 then (d.port p).lines else q.lines } ∧
      ∀ j < 16, let src := bits (s.dev.port j).ctrl.toNat 16 4
        s.dev.portMode j = 6 → src ≠ j → s.dev.portMode src ≠ 6 → (d.port j).lines = d.pinLevels src)) ∧
    (s.dev.portMode p = 7 → q.emuE ≠ q.emuTarget → due ≤ s.dev.clk.tick → spaced → leads (.emuEdge p) s (fun d =>
      (d.port p).emuE = q.emuE + (if q.emuE < q.emuTarget then 1 else -1) ∧ (d.port p).emuLast = s.dev.clk.now ∧
      (d.port p).lines = emuLines (d.port p).emuE (s.dev.rdN (FB_EMU_ZPER p)) ∧ Claims.samePorts s.dev d p ∧
      { d with ports := s.dev.ports } = s.dev)) ∧
    (s.dev.portMode p ≠ 7 ∨ q.emuE = q.emuTarget ∨ s.dev.clk.tick < due ∨ ¬ spaced → leads (.emuEdge p) s (· = s.dev))

/-- Serial transfers (R183–R187).  A transfer in progress in the port's mode ends with a position where its checks pass: the parity
of an SSI word, the inverted CRC of a BiSS word, whose nE and nW are judged, the CRC, constants, error bits and life counter of a
frame-format response; a failed check is a miss of its cause.  A frame that ends past its timeout or a BiSS acknowledge beyond
ACK_MAX is a TIMEOUT, and so is a timeout once it can be due; before, it has no effect, and so has a command in another mode or with
no transfer in progress.
What a serial sample and a miss do to the axis of the port (R173, R174, R197, R198).  A sample sets R, makes the position
R · SCALE plus OFFSET, and makes the source valid; a miss counts, raises MISS when it is the first, and extrapolates the position by
the speed of one beat.
Where the rules leave a point open the clause is the model's choice: notes/assumptions/16, notes/assumptions/19, notes/assumptions/23. -/
def Obligations.SerialTransfersAndSamples : Prop :=
  Claims.SerialTransfersTakeOrMiss ∧ Claims.SampleAndMissOfAnAxisSource

/-- Edges of a direct port (R180–R182). In quadrature one changed level counts one step, forward where A leads B; in Hall
mode a neighbouring state counts one step, reversed by HALL_REV; equal levels change nothing; anything else is an illegal
transition that leaves R. A rising Z with ZMODE 1 captures R and raises Z_SEEN. A port in another mode does nothing. The
settings of ports and sources (R172, R179, R183, R187). A write is refused while the port is in use, where a field is out
of its range, or where the frame would not end by its timeout; accepted otherwise, with a transfer in progress aborted.
CLEAR_CNT clears the error counters. AX_FB_SRC is taken in OFF with kinds 0 to 4, and a source that changed starts anew.
Where the rules leave a point open the clause is the model's choice: notes/assumptions/19. -/
def Obligations.PortEdgesAndSettings : Prop :=
  Claims.PortEdgesCountByDirection ∧ Claims.PortAndSourceSettings

/-! ### Milestones and latch units (R208–R232) -/

namespace Sys2Proof.Claims

/-- Every other milestone is as it was. -/
def otherMiles (d e : Device) (m : Nat) : Prop := ∀ i, i ≠ m → e.ms i = d.ms i

/-- Every other latch unit is as it was, and nothing but the units and their registers changed. -/
def latchOnly (d e : Device) (u : Nat) : Prop :=
  (∀ i, i ≠ u → e.lt i = d.lt i) ∧ { e with latches := d.latches, regs := d.regs } = d ∧
    sameRegs d e (fun a => LT_CTRL u ≤ a ∧ a < LT_CTRL u + 0x40)

/-- The refusal code of a refill record (R211, R212): 0 where it is taken. -/
def refillCode (d : Device) (bs : List (BitVec 8)) : Nat :=
  let m := bits (leAt bs 0 4) 0 4
  let n := bits (leAt bs 0 4) 8 8
  let have_ := if bit (leAt bs 0 4) 16 then 0 else (d.ms m).list.length
  if n = 0 ∨ 64 < n then 2 else if 1024 < have_ + n then 1 else if (msEntries bs (d.ms m).nextSeq n).any (fun e => e.dir == 3) then 3 else 0

end Sys2Proof.Claims

/-- FLUSH, FORCE, SKIP and a write of MS_CTRL (R209, R210, R220, R223). FLUSH empties the list and withdraws every pulse.
FORCE starts a pulse of WIDTH and leaves list and schedule. SKIP drops the head. While EN is 1 a write changes only EN,
LATE_EN and POL, and says BUSY if it would change more; clearing EN keeps the list and withdraws the pulses; an enable on
a bad source is refused with BAD_SOURCE; an enable arms the head that the source has not passed. -/
def Sys2Proof.Claims.MilestoneCommandsOnTheList : Prop :=
  ∀ (s : State) (m : Fin 16), s.dev.inReset = false →
    let q := s.dev.ms m
    let on := s.dev.has (MS_CTRL_EN m)
    let cur := s.dev.rdN (MS_CTRL m)
    leads (.msFlush m) s (fun d => d.ms m = { q with list := [], armed := false, sched := [] } ∧ d.get (MS_STATUS_FILL m) = 0 ∧
      (q.list ≠ [] → d.has (MS_EVENT_EMPTY m) = true) ∧
      (∀ p ∈ q.sched, (∃ e ∈ q.list, e.seq = p.seq) → d.has (MS_EVENT_WITHDRAWN m) = true) ∧ Claims.otherMiles s.dev d m) ∧
    leads (.force m) s (fun d => d.ms m = { q with active := true, endAt := s.dev.clk.now + s.dev.msWidth m } ∧
      d.rd64 (MS_LAST m) = s.dev.stamp ∧ d.rd (MS_FIRED m) = s.dev.rd (MS_FIRED m) ∧ Claims.otherMiles s.dev d m) ∧
    (q.list = [] → leads (.skip m) s (· = s.dev)) ∧
    (∀ e es, q.list = e :: es → leads (.skip m) s (fun d => (∀ x ∈ (d.ms m).list, x ∈ es ∧ x.seq ≠ e.seq) ∧
      (on = false → (d.ms m).list = q.list.filter (fun x => x.seq != e.seq) ∧ (d.ms m).sched = [] ∧ (d.ms m).armed = false) ∧
      Claims.otherMiles s.dev d m)) ∧
    (∀ v : BitVec 32,
      let w := v.toNat &&& 0xFF77
      let srcOk := s.dev.msSourceOk (bits w 4 3) (bits w 8 8)
      (on = true → bit v.toNat 0 = true → leads (.msCtrlWrite m v) s (fun d => d.rdN (MS_CTRL m) = (cur &&& 0xFF70) + (w &&& 7) ∧
        d.get (MS_STATUS_REFUSE_LAST m) = (if w &&& 0xFF70 = cur &&& 0xFF70 then s.dev.get (MS_STATUS_REFUSE_LAST m) else 4) ∧
        onlyRegs s.dev d (fun a => a = MS_CTRL m ∨ a = MS_STATUS m))) ∧
      (on = true → bit v.toNat 0 = false → leads (.msCtrlWrite m v) s (fun d => d.has (MS_CTRL_EN m) = false ∧
        d.ms m = { q with armed := false, sched := [] } ∧ d.has (MS_STATUS_EXACT m) = false ∧ Claims.otherMiles s.dev d m)) ∧
      (on = false → bit v.toNat 0 = false → leads (.msCtrlWrite m v) s (fun d => d.rdN (MS_CTRL m) = w ∧
        onlyRegs s.dev d (· = MS_CTRL m))) ∧
      (on = false → bit v.toNat 0 = true → srcOk = false → leads (.msCtrlWrite m v) s (fun d => d.rdN (MS_CTRL m) = w - 1 ∧
        d.get (MS_STATUS_REFUSE_LAST m) = 5 ∧ onlyRegs s.dev d (fun a => a = MS_CTRL m ∨ a = MS_STATUS m))) ∧
      (on = false → bit v.toNat 0 = true → srcOk = true → q.armed = false → leads (.msCtrlWrite m v) s (fun d =>
        d.rdN (MS_CTRL m) = w ∧ d.has (MS_STATUS_EXACT m) = decide (d.msMethod m = 0) ∧ Claims.otherMiles s.dev d m ∧
        (q.list = [] → d.ms m = q) ∧
        (∀ e es, q.list = e :: es → (e.behind (d.msPos m)).1 = false →
          d.ms m = { q with armed := true, falling := (e.behind (d.msPos m)).2, thr := d.msThreshold m e.pos (e.behind (d.msPos m)).2 }))))

/-- REFILL_RECORD, PULSE_FIRE and PULSE_END (R210–R213, R222). The oldest record of Q13 is taken whole, after a flush if
it says so, or refused whole by its code, and its entry is freed; a pulse that is due fires: its entry leaves the list and
FIRED counts; a pulse ends WIDTH ticks after its start, active low with POL 1; before its time neither has an effect. -/
def Sys2Proof.Claims.RefillsAndPulses : Prop :=
  ∀ (s : State), s.dev.inReset = false →
    (s.dev.qLive 13 = [] → leads .refillRecord s (· = s.dev)) ∧
    (∀ i is, s.dev.qLive 13 = i :: is → (s.dev.qRead 13 i).1.ok = true →
      let bs := (s.dev.qRead 13 i).1.payload
      let m := bits (leAt bs 0 4) 0 4
      let n := bits (leAt bs 0 4) 8 8
      let q := s.dev.ms m
      let code := Claims.refillCode s.dev bs
      (code ≠ 0 → leads .refillRecord s (fun d => d.miles = s.dev.miles ∧ d.get (MS_STATUS_REFUSE_LAST m) = code ∧
        d.has (MS_EVENT_REFILL_REFUSED m) = true)) ∧
      (code = 0 → leads .refillRecord s (fun d => (d.ms m).nextSeq = (q.nextSeq + n) % 2 ^ 32 ∧ Claims.otherMiles s.dev d m ∧
        (s.dev.has (MS_CTRL_EN m) = false →
          (d.ms m).list = (if bit (leAt bs 0 4) 16 then [] else q.list) ++ msEntries bs q.nextSeq n)))) ∧
    (∀ m : Fin 16,
      let q := s.dev.ms m
      ((∀ p ∈ q.sched, s.dev.stamp < p.at_) → leads (.pulseFire m) s (· = s.dev)) ∧
      (∀ e p, q.list = [e] → q.sched = [p] → p.seq = e.seq → p.at_ ≤ s.dev.stamp → leads (.pulseFire m) s (fun d =>
        (d.ms m).list = [] ∧ (d.ms m).sched = [] ∧ (d.ms m).active = true ∧ (d.ms m).endAt = s.dev.clk.now + s.dev.msWidth m ∧
        d.has (MS_EVENT_FIRED m) = true ∧ d.has (MS_EVENT_EMPTY m) = true ∧ d.rd64 (MS_LAST m) = s.dev.stamp ∧
        d.get (MS_FIRED_COUNT m) = (s.dev.get (MS_FIRED_COUNT m) + 1) % 2 ^ 32 ∧
        d.msLevel m = !s.dev.has (MS_CTRL_POL m) ∧
        (s.dev.msMethod m = 2 → ∃ f, (d.ms m).fired = q.fired ++ [f] ∧ f.entry = e ∧ f.at_ = s.dev.stamp ∧ f.falling = p.falling ∧ f.merged = q.active) ∧
        (s.dev.msMethod m ≠ 2 → (d.ms m).fired = q.fired) ∧ Claims.otherMiles s.dev d m)) ∧
      (q.active = true → q.endAt ≤ s.dev.clk.now → leads (.pulseEnd m) s (fun d => d.ms m = { q with active := false } ∧
        d.has (MS_STATUS_PULSE m) = false ∧ d.msLevel m = s.dev.has (MS_CTRL_POL m) ∧ Claims.otherMiles s.dev d m ∧ { d with miles := s.dev.miles, regs := s.dev.regs } = s.dev)) ∧
      (q.active = false ∨ s.dev.clk.now < q.endAt → leads (.pulseEnd m) s (· = s.dev)))

/-- Latch units (R227–R232). An armed unit captures the edge that EDGE selects, stamped FILT ticks back, and SINGLE
disarms it; with four captures in progress the edge is dropped and counted. A complete capture goes to Q14 in order, or is
lost and counted where Q14 is full. REARM arms an enabled unit, CLEAR_CNT clears the counts, and LT_CTRL keeps SRC_KIND
while EN is 1 and refuses a bad source.
Where the rules leave a point open the clause is the model's choice: notes/assumptions/29. -/
def Obligations.LatchUnitsCaptureEdges : Prop :=
  ∀ (s : State) (u : Fin 16), s.dev.inReset = false →
    let q := s.dev.lt u
    let on := s.dev.has (LT_CTRL_EN u)
    let kind := s.dev.get (LT_CTRL_SRC_KIND u)
    let edge := s.dev.get (LT_CTRL_EDGE u)
    let filt := s.dev.get (LT_CTRL_FILT u)
    (∀ falling : Bool,
      let takes := kind = 0 ∧ q.armed = true ∧ ¬ (edge = 0 ∧ falling = true) ∧ ¬ (edge = 1 ∧ falling = false)
      (takes → q.caps.length < 4 → leads (.latchEdge u falling) s (fun d =>
        ∃ c, d.lt u = { q with caps := q.caps ++ [c], armed := !s.dev.has (LT_CTRL_SINGLE u) } ∧ c.falling = falling ∧
          c.stamp = s.dev.stampAgo filt ∧ c.kind = kind ∧ c.axes = s.dev.ltAxes u ∧ c.vals.map (·.1) = (s.dev.ltAxes u).map (·.1) ∧
          d.rd64 (LT_LAST u) = c.stamp % 2 ^ 64 ∧ d.get (LT_STATUS_PENDING u) = q.caps.length + 1 ∧ ∀ i, i ≠ u.val → d.lt i = s.dev.lt i)) ∧
      (takes → 4 ≤ q.caps.length → leads (.latchEdge u falling) s (fun d => d.lt u = { q with armed := !s.dev.has (LT_CTRL_SINGLE u), droppedFlag := true } ∧
        d.get (LT_DROP_DROPPED u) = satU 16 (s.dev.get (LT_DROP_DROPPED u) + 1) ∧ d.has (LT_EVENT_DROPPED u) = true)) ∧
      (¬ takes → leads (.latchEdge u falling) s (fun d => d.latches = s.dev.latches ∧ d.regs = s.dev.regs ∧
        bit d.it.ltPins u = !falling))) ∧
    (q.caps = [] → leads (.captureComplete u) s (· = s.dev)) ∧
    (∀ c cs, q.caps = c :: cs → (∃ v ∈ (s.dev.ltFill c).vals, v.2.1 = none) → leads (.captureComplete u) s (· = s.dev)) ∧
    (∀ c cs, q.caps = c :: cs → (∀ v ∈ (s.dev.ltFill c).vals, v.2.1 ≠ none) → s.dev.injPending 5 (0x10 + u) 2 = false →
      (s.dev.qFull 14 = false → leads (.captureComplete u) s (fun d =>
        d.lt u = { q with caps := cs, seq := q.seq + 1, lostFlag := false, droppedFlag := false } ∧ d.has (LT_EVENT_CAPTURED u) = true ∧ d.rdN (LT_COUNT u) = (s.dev.rdN (LT_COUNT u) + 1) % 2 ^ 32 ∧
        d.rd (LT_DROP u) = s.dev.rd (LT_DROP u) ∧ ∀ i, i ≠ u.val → d.lt i = s.dev.lt i)) ∧
      (s.dev.qFull 14 = true → leads (.captureComplete u) s (fun d => d.lt u = { q with caps := cs, seq := q.seq + 1, lostFlag := true } ∧
        d.has (LT_EVENT_LOST u) = true ∧ d.get (LT_DROP_LOST u) = satU 16 (s.dev.get (LT_DROP_LOST u) + 1) ∧ d.bulk = s.dev.bulk))) ∧
    (on = true → leads (.rearm u) s (fun d => d.lt u = { q with armed := true } ∧ d.has (LT_STATUS_ARMED u) = true ∧
      Claims.latchOnly s.dev d u)) ∧
    (on = false → leads (.rearm u) s (· = s.dev)) ∧
    leads (.ltClearCnt u) s (fun d => d.rd (LT_COUNT u) = 0 ∧ d.rd (LT_DROP u) = 0 ∧ onlyRegs s.dev d (fun a => a = LT_COUNT u ∨ a = LT_DROP u)) ∧
    (∀ v : BitVec 32,
      let n := v.toNat
      let bad := 5 ≤ bits n 8 3 ∨ bits n 2 2 = 3
      (on = true → leads (.ltCtrlWrite u v) s (fun d => d.get (LT_CTRL_SRC_KIND u) = kind ∧ d.get (LT_CTRL_EN u) = bits n 0 1 ∧
        d.get (LT_CTRL_SINGLE u) = bits n 1 1 ∧ d.get (LT_CTRL_EDGE u) = bits n 2 2 ∧ d.get (LT_CTRL_FILT u) = bits n 4 4 ∧
        d.get (LT_CTRL_SRC_ID u) = bits n 16 10 ∧ (bits n 8 3 ≠ kind → d.get (LT_STATUS_REFUSE_LAST u) = 4) ∧
        d.lt u = (if bit n 0 then q else { q with armed := false }) ∧ Claims.latchOnly s.dev d u)) ∧
      (on = false → bit n 0 = true → bad → leads (.ltCtrlWrite u v) s (fun d => d.has (LT_CTRL_EN u) = false ∧
        d.get (LT_STATUS_REFUSE_LAST u) = 5 ∧ onlyRegs s.dev d (fun a => a = LT_CTRL u ∨ a = LT_STATUS u))) ∧
      (on = false → (bit n 0 = true → ¬ bad) → leads (.ltCtrlWrite u v) s (fun d => d.rdN (LT_CTRL u) = n &&& 0x03FF07FF ∧
        d.lt u = (if bit n 0 then { q with armed := true } else q) ∧ Claims.latchOnly s.dev d u)))

/-- FLUSH, FORCE, SKIP and a write of MS_CTRL (R209, R210, R220, R223). FLUSH empties the list and withdraws every pulse.
FORCE starts a pulse of WIDTH and leaves list and schedule. SKIP drops the head. While EN is 1 a write changes only EN,
LATE_EN and POL, and says BUSY if it would change more; clearing EN keeps the list and withdraws the pulses; an enable on
a bad source is refused with BAD_SOURCE; an enable arms the head that the source has not passed. REFILL_RECORD, PULSE_FIRE
and PULSE_END (R210–R213, R222). The oldest record of Q13 is taken whole, after a flush if it says so, or refused whole by
its code, and its entry is freed; a pulse that is due fires: its entry leaves the list and FIRED counts; a pulse ends
WIDTH ticks after its start, active low with POL 1; before its time neither has an effect.
Where the rules leave a point open the clause is the model's choice: notes/assumptions/8, notes/assumptions/29. -/
def Obligations.MilestoneListsAndPulses : Prop :=
  Claims.MilestoneCommandsOnTheList ∧ Claims.RefillsAndPulses

/-! ### Troko chains (R233–R267) -/

namespace Sys2Proof.Claims

/-- Every other chain is as it was. -/
def otherChains (d e : Device) (c : Nat) : Prop := ∀ i, i ≠ c → e.chain i = d.chain i

/-- Chain `c` refused a command or a write with a code. -/
def chainRefused (d e : Device) (c code : Nat) : Prop :=
  e.get (TK_STATUS_REFUSE_LAST c) = code ∧ e.has (TK_EVENT_REFUSED c) = true ∧ onlyRegs d e (fun a => a = TK_STATUS c ∨ a = TK_EVENT c)

/-- A try of the census of chain `c` fails with a result at a node (R265): it is tried again where the result allows that and tries
are left, and the chain is FAILED otherwise. -/
def censusFails (d e : Device) (c code node : Nat) (again : Bool) : Prop :=
  e.get (TK_STATUS_CENSUS_RESULT c) = code ∧ otherChains d e c ∧
  (if again = true ∧ (d.chain c).tries < d.get (TK_TIMING_RETRIES c) then
    e.tkState c = d.tkState c ∧ e.chain c = { d.chain c with step := 4 } ∧ e.get (TK_STATUS_FAIL_NODE c) = d.get (TK_STATUS_FAIL_NODE c)
  else e.tkState c = tkFAILED ∧ e.get (TK_STATUS_FAIL_NODE c) = node ∧ (e.chain c).step = 0 ∧ e.has (TK_EVENT_CENSUS_FAIL c) = true)

/-- No injection waits for the checks of node `n` or of STO and RSTB of chain `c`. -/
def chainQuiet (d : Device) (c n : Nat) : Prop :=
  (∀ k < 12, d.injPending 6 (16 * c + n) k = false) ∧ d.injPending 6 (16 * c) 6 = false ∧ d.injPending 6 (16 * c) 8 = false

/-- A word of the config frame behind `k` hops, inverted where an odd number of them reverses it (R264). -/
def hopped (rev k : Nat) (w : BitVec 64) : BitVec 64 :=
  if ((List.range k).filter (fun i => bit rev (i + 1))).length % 2 = 1 then ~~~w else w

end Sys2Proof.Claims

/-- Slots and frames of a running chain (R241–R251).  A sound slot in time without error bits is valid: its header, ready tick and
VALID are shown and the node is settled for the beat.  A slot whose CRC, length or node number is wrong raises SLOT_CRC, counts, and
leaves the node without a sample.  The end of a frame shows the loop delay, counts an open loop or a wrong marker, and settles every
node.  With no frame on its way neither command has an effect. -/
def Sys2Proof.Claims.ChainSlotsAndFrames : Prop :=
  ∀ (s : State) (c n : Fin 16), s.dev.inReset = false →
    let l := (s.dev.chain c).layout
    let seen := (s.dev.chain c).seen
    (∀ ws : List (BitVec 16),
      let hdr := (ws.headD 0).toNat
      let sound := ws.length = laySlotWords l n ∧ slotCrc ws.dropLast = (ws.getLastD 0).toNat ∧ hdr / 4096 = n
      (s.dev.frameOn c = false ∨ layNodes l ≤ n → leads (.slotComplete c n ws) s (· = s.dev)) ∧
      (s.dev.frameOn c = true → n < layNodes l → Claims.chainQuiet s.dev c n →
        (sound → bits hdr 9 3 = 0 → bit hdr 7 = false → s.dev.clk.tick ≤ s.dev.nodeBudget c l n → s.dev.clk.tick < 8192 → bit seen n = false →
          leads (.slotComplete c n ws) s (fun d => d.has (TK_NODE_STAT_VALID c n) = true ∧ d.has (TK_NODE_STAT_LATE c n) = false ∧
            d.get (TK_NODE_STAT_READY c n) = s.dev.clk.tick ∧ d.get (TK_NODE_STAT_HEADER c n) = hdr ∧
            d.rd (TK_NODE_CNT c n) = s.dev.rd (TK_NODE_CNT c n) ∧ bit (d.chain c).seen n = true ∧ Claims.otherChains s.dev d c)) ∧
        (¬ sound → leads (.slotComplete c n ws) s (fun d => d.has (TK_NODE_STAT_VALID c n) = false ∧
          d.has (TK_EVENT_SLOT_CRC c) = true ∧ d.get (TK_NODE_STAT_HEADER c n) = hdr ∧
          d.get (TK_NODE_CNT_SLOT_CRC c n) = satU 8 (s.dev.get (TK_NODE_CNT_SLOT_CRC c n) + 1) ∧ bit (d.chain c).seen n = true ∧
          bit ((d.chain c).runs.pick 0 n) 1 = true ∧ Claims.otherChains s.dev d c)))) ∧
    (∀ (marker loop : BitVec 16) (rstb : Bool),
      let en := s.dev.has (TK_CTRL_RSTB_EN c)
      let open_ := en = true ∧ rstb = false
      (s.dev.frameOn c = false → leads (.frameComplete c marker rstb loop) s (· = s.dev)) ∧
      (s.dev.frameOn c = true → (∀ k < 12, s.dev.injPending 6 (16 * c) k = false) →
        leads (.frameComplete c marker rstb loop) s (fun d => (d.chain c).frameDone = true ∧ Claims.otherChains s.dev d c ∧
          (∀ i < layNodes l, bit (d.chain c).seen i = true) ∧
          (open_ → (∀ i < 16, i < layNodes l → d.has (TK_NODE_STAT_VALID c i) = false) ∧ d.has (TK_EVENT_OPEN c) = true ∧ d.get (TK_ERRCNT_OPEN c) = satU 16 (s.dev.get (TK_ERRCNT_OPEN c) + 1) ∧
            d.get (TK_ERRCNT_LENGTH c) = s.dev.get (TK_ERRCNT_LENGTH c)) ∧
          (¬ open_ → marker ≠ 0x1D2B → d.has (TK_EVENT_LENGTH c) = true ∧
            d.get (TK_ERRCNT_LENGTH c) = satU 16 (s.dev.get (TK_ERRCNT_LENGTH c) + 1)) ∧
          (¬ open_ → marker = 0x1D2B → d.rd (TK_ERRCNT c) = s.dev.rd (TK_ERRCNT c)) ∧
          (en = true → rstb = true → loop.toNat < 256 → d.get (TK_LOOP_LOOP_DLY c) = loop.toNat ∧
            d.get (TK_LOOP_PEAK c) = max loop.toNat (s.dev.get (TK_LOOP_PEAK c)) ∧
            (8 * s.dev.get (TK_TIMING_LOOP_MAX c) < loop.toNat → d.has (TK_EVENT_LOOP c) = true)))))

/-- The census (R260–R265, R562): a CENSUS begins it where no bound axis and no census stands against it, after the frame
in progress of a running chain; 100 µs after the reset pattern the identity frame follows, then the config frame and its
echo, each step in its turn only; a failure is tried again, every 5 ms, while the result allows it; the config words go
out in the order N − 1 to 0, inverted where the hops on their way reverse them; a whole echo makes the chain READY with
its frame lengths.
Where the rules leave a point open the clause is the model's choice: notes/assumptions/8, notes/assumptions/18. -/
def Obligations.CensusStepByStep : Prop :=
  ∀ (s : State) (c : Fin 16), s.dev.inReset = false →
    let q := s.dev.chain c
    let st := s.dev.tkState c
    let nodes := layNodes q.layout
    let begins := fun (d : Device) => d.tkState c = tkCENSUS ∧ (d.chain c).step = 1 ∧ (d.chain c).tries = 0 ∧
      (d.chain c).waitFrom = s.dev.clk.now ∧ (d.chain c).inFrame = false ∧ Claims.otherChains s.dev d c
    let refusedNow := s.dev.chainBusy c = true ∨ st = tkCENSUS
    let held := st = tkRUNNING ∧ s.dev.frameHeld c = true
    (refusedNow → leads (.census c) s (Claims.chainRefused s.dev · c 1)) ∧
    (¬ refusedNow → held → leads (.census c) s (fun d => d.chain c = { q with censusAfter := true } ∧ Claims.otherChains s.dev d c ∧
      { d with chains := s.dev.chains } = s.dev)) ∧
    (¬ refusedNow → ¬ held → q.layout ≠ [] → leads (.census c) s begins) ∧
    (¬ refusedNow → ¬ held → q.layout = [] → leads (.census c) s (fun d => d.tkState c = tkFAILED ∧ d.get (TK_STATUS_CENSUS_RESULT c) = 10 ∧
      d.has (TK_EVENT_CENSUS_FAIL c) = true)) ∧
    (st = tkCENSUS → q.step = 1 → q.waitFrom + 12048 ≤ s.dev.clk.now → leads (.censusResetWaitEnd c) s (fun d =>
      d.chain c = { q with step := 2 } ∧ Claims.otherChains s.dev d c ∧ { d with chains := s.dev.chains } = s.dev)) ∧
    (st ≠ tkCENSUS ∨ q.step ≠ 1 ∨ s.dev.clk.now < q.waitFrom + 12048 → leads (.censusResetWaitEnd c) s (· = s.dev)) ∧
    (st = tkCENSUS → q.step = 4 → q.waitFrom + 500000 ≤ s.dev.clk.now → leads (.censusRetry c) s (fun d =>
      d.chain c = { q with step := 1, tries := q.tries + 1, waitFrom := q.waitFrom + 500000 } ∧ Claims.otherChains s.dev d c)) ∧
    (st ≠ tkCENSUS ∨ q.step ≠ 4 ∨ s.dev.clk.now < q.waitFrom + 500000 → leads (.censusRetry c) s (· = s.dev)) ∧
    (∀ (rx : BitVec 1120) (loop : BitVec 16),
      let go := st = tkCENSUS ∧ q.step = 2
      let dead := rx = 0 ∨ rx = BitVec.allOnes 1120
      let long := 8 * s.dev.get (TK_TIMING_LOOP_MAX c) < loop.toNat
      let word := fun (k n : Nat) => let w := idWord rx (n - 1 - k); if idSound w then w else not64 w
      (¬ go → leads (.identityFrame c rx loop) s (· = s.dev)) ∧
      (go → dead → leads (.identityFrame c rx loop) s (fun d => d.get (TK_STATUS_NODES c) = 0 ∧ Claims.censusFails s.dev d c 2 0 true)) ∧
      (go → ¬ dead → long → leads (.identityFrame c rx loop) s (Claims.censusFails s.dev · c 9 0 false)) ∧
      (∀ n m, go → ¬ dead → ¬ long → markerAt rx = some (n, m) → (∀ k < n, idSound (word k n) = true) →
        (n ≠ nodes → leads (.identityFrame c rx loop) s (fun d => d.get (TK_STATUS_NODES c) = n ∧ Claims.censusFails s.dev d c 4 0 true)) ∧
        (n = nodes → (∀ k < n, bits (word k n) 40 16 = layType q.layout k ∧ s.dev.capsOk c k n (word k n) = true) →
          leads (.identityFrame c rx loop) s (fun d => d.get (TK_STATUS_NODES c) = n ∧ (d.chain c).step = 3 ∧ (d.chain c).cfg.length = n ∧ d.tkState c = tkCENSUS ∧
            (∀ k < n, d.rd64 (TK_NODE_ID c k) = word k n) ∧ Claims.otherChains s.dev d c)))) ∧
    (st = tkCENSUS → q.step = 3 → leads (.configFrame c) s (fun d => d.chain c = { q with step := 5, cfgSent := (d.chain c).cfgSent } ∧
      (d.chain c).cfgSent.length = q.cfg.length ∧ (∀ k < q.cfg.length, (d.chain c).cfgSent.getD (q.cfg.length - 1 - k) 0 =
        Claims.hopped (s.dev.get (TK_INV_REV c)) k (q.cfg.getD k 0)) ∧ Claims.otherChains s.dev d c ∧
      { d with chains := s.dev.chains } = s.dev)) ∧
    (st ≠ tkCENSUS ∨ q.step ≠ 3 → leads (.configFrame c) s (· = s.dev)) ∧
    (∀ (ws : List (BitVec 64)) (marker : BitVec 32),
      let go := st = tkCENSUS ∧ q.step = 5
      let whole := marker = 0x7E813CC3 ∧ ws.length = q.cfg.length
      let echoed := fun (k : Nat) => (ws.getD (q.cfg.length - 1 - k) 0).toNat = echoOf (q.cfg.getD k 0).toNat
      (¬ go → leads (.echoFrame c ws marker) s (· = s.dev)) ∧
      (go → ¬ whole → leads (.echoFrame c ws marker) s (Claims.censusFails s.dev · c 4 0 true)) ∧
      (∀ k < q.cfg.length, go → whole → ¬ echoed k → (∀ j < k, echoed j) → k < 16 →
        leads (.echoFrame c ws marker) s (Claims.censusFails s.dev · c 8 k true)) ∧
      (go → whole → (∀ k < q.cfg.length, echoed k) → q.cfg.length < 32 → s.dev.injPending 6 (16 * c) 10 = false →
        leads (.echoFrame c ws marker) s (fun d => d.tkState c = tkREADY ∧ d.get (TK_STATUS_CENSUS_RESULT c) = 1 ∧ d.get (TK_STATUS_FAIL_NODE c) = 0 ∧
          d.get (TK_STATUS_NODES c) = q.cfg.length ∧ d.get (TK_FRAME_F c) = s.dev.chainF c q.layout % 2 ^ 13 ∧
          d.get (TK_FRAME_FRAME_BITS c) = 16 * (1 + slotSum q.layout 0) % 2 ^ 16 ∧ d.has (TK_EVENT_CENSUS_DONE c) = true ∧
          d.chain c = { q with step := 0 } ∧ Claims.otherChains s.dev d c)))

/-- START, STOP, CLEAR_CNT and the settings of a chain (R235, R236, R266, R267). START needs READY and times that the
present L and D leave room for; STOP needs RUNNING and no axis in use, and lets the frame in progress end; CLEAR_CNT
clears every count; settings are written in OFF and FAILED within their ranges, DDR only on a 1.8 V bank with RSTB. -/
def Sys2Proof.Claims.ChainStartStopAndSettings : Prop :=
  ∀ (s : State) (c : Fin 16) (v : BitVec 32), s.dev.inReset = false →
    let st := s.dev.tkState c
    let n := v.toNat
    let f := s.dev.chainF c (s.dev.chain c).layout
    let trim := s.dev.get TB_TRIM_TRIM_MAX
    let fits := f + 40 ≤ s.dev.clk.latch ∧ s.dev.clk.latch + 40 + trim ≤ s.dev.clk.len ∧ f + 40 < s.dev.clk.deadline ∧
      s.dev.clk.deadline + 48 + trim ≤ s.dev.clk.len ∧ s.dev.allFit s.dev.laysInForce s.dev.clk.deadline = true
    let ddrOk := bits n 0 3 = 4 → bit (s.dev.get GL_IO_BANK_V18) (c / 8) = true ∧ bit n 8 = true
    let ctrlOk := bits n 0 3 ≤ 4 ∧ bits n 16 7 ≤ 64 ∧ (if bits n 0 3 = 4 then 1 else 2) ≤ bits n 16 7 ∧ ddrOk
    let timOk := 4 ≤ bits n 8 5 ∧ bits n 8 5 ≤ 30 ∧ 20 ≤ bits n 0 8
    let settled := st = tkOFF ∨ st = tkFAILED
    (st = tkREADY → fits → leads (.tkStart c) s (fun d => d.tkState c = tkRUNNING ∧ d.has (TK_EVENT_STARTED c) = true ∧
      (d.chain c).runs = [] ∧ (d.chain c).inFrame = false ∧ Claims.otherChains s.dev d c ∧
      sameRegs s.dev d (fun a => a = TK_STATUS c ∨ a = TK_EVENT c ∨ a = XS_BOOT ∨ a = XS_BOOT_TIME))) ∧
    (st = tkREADY → ¬ fits → leads (.tkStart c) s (Claims.chainRefused s.dev · c 2)) ∧
    (st ≠ tkREADY → leads (.tkStart c) s (Claims.chainRefused s.dev · c 3)) ∧
    (st ≠ tkRUNNING → leads (.tkStop c) s (Claims.chainRefused s.dev · c 5)) ∧
    (st = tkRUNNING → s.dev.chainBusy c = true → leads (.tkStop c) s (Claims.chainRefused s.dev · c 1)) ∧
    (st = tkRUNNING → s.dev.chainBusy c = false →
      (s.dev.frameHeld c = true → leads (.tkStop c) s (fun d => d.chain c = { s.dev.chain c with stopping := true } ∧
        { d with chains := s.dev.chains } = s.dev ∧ Claims.otherChains s.dev d c)) ∧
      (s.dev.frameHeld c = false → leads (.tkStop c) s (fun d => d.tkState c = tkREADY ∧ d.has (TK_EVENT_STOPPED c) = true ∧
        { d with chains := s.dev.chains, regs := s.dev.regs } = s.dev ∧ Claims.otherChains s.dev d c ∧
        sameRegs s.dev d (fun a => a = TK_STATUS c ∨ a = TK_EVENT c)))) ∧
    leads (.tkClearCnt c) s (fun d => d.rd (TK_ERRCNT c) = 0 ∧ d.get (TK_LOOP_PEAK c) = 0 ∧ (∀ i < 16, d.rd (TK_NODE_CNT c i) = 0) ∧
      d.get (TK_LOOP_LOOP_DLY c) = s.dev.get (TK_LOOP_LOOP_DLY c) ∧
      onlyRegs s.dev d (fun a => a = TK_ERRCNT c ∨ a = TK_LOOP c ∨ ∃ i < 16, a = TK_NODE_CNT c i)) ∧
    (¬ settled → leads (.tkCtrlWrite c v) s (Claims.chainRefused s.dev · c 1) ∧ leads (.tkTimingWrite c v) s (Claims.chainRefused s.dev · c 1)) ∧
    (settled → ¬ ctrlOk → leads (.tkCtrlWrite c v) s (Claims.chainRefused s.dev · c 4)) ∧
    (settled → ctrlOk → leads (.tkCtrlWrite c v) s (fun d => d.rdN (TK_CTRL c) = n &&& 0x007F0707 ∧ onlyRegs s.dev d (· = TK_CTRL c))) ∧
    (settled → ¬ timOk → leads (.tkTimingWrite c v) s (Claims.chainRefused s.dev · c 4)) ∧
    (settled → timOk → leads (.tkTimingWrite c v) s (fun d => d.rdN (TK_TIMING c) = n &&& 0x00FF1FFF ∧ onlyRegs s.dev d (· = TK_TIMING c)))

/-- Slots and frames of a running chain (R241–R251).  A sound slot in time without error bits is valid: its header, ready tick and
VALID are shown and the node is settled for the beat.  A slot whose CRC, length or node number is wrong raises SLOT_CRC, counts, and
leaves the node without a sample.  The end of a frame shows the loop delay, counts an open loop or a wrong marker, and settles every
node.  With no frame on its way neither command has an effect.
START, STOP, CLEAR_CNT and the settings of a chain (R235, R236, R266, R267).  START needs READY and times that the present L and D
leave room for; STOP needs RUNNING and no axis in use, and lets the frame in progress end; CLEAR_CNT clears every count; settings
are written in OFF and FAILED within their ranges, DDR only on a 1.8 V bank with RSTB.
Where the rules leave a point open the clause is the model's choice: notes/assumptions/16, notes/assumptions/18. -/
def Obligations.ChainFramesAndSettings : Prop :=
  Claims.ChainSlotsAndFrames ∧ Claims.ChainStartStopAndSettings

/-! ### The modulator (R270–R297) -/

namespace Sys2Proof.Claims

/-- The two outputs of pair `k` as W, the dead time and what holds the pair off allow (R270, R274, R281, R292, R294): never both
active; both inactive while the pair is held or the scheduler does not run; a single output follows W; else an output is active only
in W's own state, and surely once DT ticks have passed since W changed.  POL_H and POL_L turn them into pin levels. -/
def driven (e : Device) (k : Nat) : Prop :=
  let p := e.pair k
  p.pins = (p.hi != bit p.active.ctrl.toNat 3, p.lo != bit p.active.ctrl.toNat 4) ∧ (p.hi && p.lo) = false ∧
  (p.blocked = true ∨ e.clk.running = false → p.hi = false ∧ p.lo = false) ∧
  (p.blocked = false → e.clk.running = true → p.active.mode = 2 → p.hi = p.w ∧ p.lo = false) ∧
  (p.blocked = false → e.clk.running = true → p.active.mode ≠ 2 → (p.hi = true → p.w = true) ∧ (p.lo = true → p.w = false) ∧
    (p.wAt + p.active.dt ≤ e.clk.now → p.hi = p.w ∧ p.lo = !p.w))

/-- A command of the carrier of pair `k` touches that pair and its registers only. -/
def pairOnly (d e : Device) (k : Nat) : Prop :=
  (∀ i, i ≠ k → e.pair i = d.pair i) ∧ { e with pairs := d.pairs, regs := d.regs } = d ∧
    sameRegs d e (fun a => MD_PAIR_CTRL k ≤ a ∧ a < MD_PAIR_CTRL k + 0x20)

/-- The same of a command with which the active set may change: CHOP of the trip inputs follows. -/
def pairMoves (d e : Device) (k : Nat) : Prop :=
  (∀ i, i ≠ k → e.pair i = d.pair i) ∧ { e with pairs := d.pairs, regs := d.regs } = d ∧
    ((d.pair k).pending.isSome = true → ∀ m < 8, e.has (MD_TRIP_STATUS_CHOP m) = e.isChop m) ∧
    sameRegs d e (fun a => (MD_PAIR_CTRL k ≤ a ∧ a < MD_PAIR_CTRL k + 0x20) ∨ ∃ m < 8, a = (MD_TRIP_STATUS_CHOP m).addr)

/-- Every output of trip source `s`'s row is forced inactive (R291–R293). -/
def rowForced (d e : Device) (s : Nat) : Prop :=
  (∀ k ∈ onesOf 12 (d.rowPairs s), bit (d.pair k).forcedBy s = false → bit (e.pair k).forcedBy s = true ∧ (e.pair k).tripped = true ∧
    (e.pair k).hi = false ∧ (e.pair k).lo = false ∧ e.has (MD_PAIR_EVENT_TRIPPED k) = true) ∧
  (∀ c ∈ d.rowChans s, bit (e.md.chForce.pick 0 c) s = true)

/-- A trip source that is held active by its own input cannot be cleared (R295). -/
def tripHeld (d : Device) (s : Nat) : Bool := decide (s < 8) && d.has (MD_TRIP_STATUS_LEVEL s)

end Sys2Proof.Claims

/-- The carrier of a local pair (R276–R284). A period starts where none is in progress, the one in progress is over or
SYNC starts one: the committed set becomes active, the dither count goes on, and the period and its active time follow
from the set; with UPD_HALF a committed set transfers in the middle; W follows the compare; the chop input ends the
on-time after BLANK. The outputs follow W with the dead time. Out of its time a command has no effect. -/
def Sys2Proof.Claims.PairCarriersAndOutputs : Prop :=
  ∀ (s : State) (k : Fin 12), s.dev.inReset = false →
    let q := s.dev.pair k
    let now := s.dev.clk.now
    let t := now - q.start
    let next := q.pending.getD q.active
    let set : PairSet := if q.pending.isSome ∧ next.clamped = true then { next with cmp := 16 * next.PER } else next
    let kk := if q.started then ((if q.pending.isSome ∧ q.active.mode = 0 then 15 else q.k) + 1) % 16 else 0
    let middle := q.started = true ∧ q.active.half = true ∧ q.start + q.perLen / 2 ≤ now ∧ q.pending.isSome = true
    let half := if q.active.mode = 0 then 0 else q.k
    let chops := q.started = true ∧ q.active.carrier = 3 ∧ bits q.active.ctrl.toNat 24 8 ≤ t ∧ t < q.act ∧
      s.dev.has (MD_TRIP_CTRL_EN (bits q.active.ctrl.toNat 8 3)) = true
    (s.dev.periodDue k = false → leads (.periodStart k) s (· = s.dev)) ∧
    (s.dev.periodDue k = true → leads (.periodStart k) s (fun d =>
      let p := d.pair k
      p.active = set ∧ p.pending = none ∧ p.started = true ∧ p.start = now ∧ p.k = kk ∧ p.perLen = (periodOf set kk).1 ∧
      p.act = (periodOf set kk).2.1 ∧ p.act2 = p.act ∧ p.tripped = (q.tripped && decide (q.forcedBy ≠ 0)) ∧ p.forcedBy = q.forcedBy ∧
      (q.started = true → d.get (MD_PAIR_ACT_PER_LAST_PER k) = t % 2 ^ 16) ∧ Claims.driven d k ∧ Claims.pairMoves s.dev d k)) ∧
    (middle → leads (.periodMiddle k) s (fun d => (d.pair k).active = set ∧ (d.pair k).pending = none ∧ (d.pair k).k = half ∧
      (d.pair k).start = q.start ∧ (d.pair k).perLen = q.perLen ∧ (d.pair k).act2 = dithered set.cmp half q.perLen ∧
      Claims.driven d k ∧ Claims.pairMoves s.dev d k)) ∧
    (¬ middle → leads (.periodMiddle k) s (· = s.dev)) ∧
    (q.started = true → leads (.compareMatch k) s (fun d => (d.pair k).w = s.dev.wTarget k t ∧
      (d.pair k).wAt = (if (d.pair k).w = q.w then q.wAt else now) ∧ (d.pair k).active = q.active ∧ (d.pair k).start = q.start ∧
      Claims.driven d k ∧ Claims.pairOnly s.dev d k)) ∧
    (q.started = false → leads (.compareMatch k) s (· = s.dev)) ∧
    leads (.deadTimeEnd k) s (fun d => d.pair k = { q with hi := (d.pair k).hi, lo := (d.pair k).lo } ∧ Claims.driven d k ∧
      Claims.pairOnly s.dev d k) ∧
    (chops → leads (.chop k) s (fun d => (d.pair k).w = false ∧ (d.pair k).act = t ∧ (d.pair k).act2 = t ∧
      (d.pair k).perLen = t + max 1 q.active.TIME ∧ (d.pair k).active = q.active ∧ Claims.driven d k ∧ Claims.pairOnly s.dev d k)) ∧
    (¬ chops → leads (.chop k) s (· = s.dev))

/-- Trips (R280, R290–R296). An enabled input that is accepted active latches its source, counts, sends MD_TRIP and forces
the outputs of its row, unless it is a chop comparator, which chops its pairs, or latched already; of a disabled one only
the pin's level is seen; software trips sources 8 to 15; a clear releases every latched source it names but one whose
input is still active, which it counts as refused; the pairs' own release waits for their next period.
Where the rules leave a point open the clause is the model's choice: notes/assumptions/22. -/
def Obligations.TripsLatchForceAndClear : Prop :=
  ∀ s : State, s.dev.inReset = false →
    let old := s.dev.get MD_TRIP_LATCH_LATCHED
    (∀ m : Fin 8,
      let seen := { s.dev.md with tripSeen := setBit s.dev.md.tripSeen m true }
      (s.dev.has (MD_TRIP_CTRL_EN m) = false → leads (.tripInput m) s (fun d => d.get (MD_TRIP_STATUS_PIN m) = s.dev.get (MD_TRIP_CTRL_POL m) ∧
        d.has (MD_TRIP_STATUS_LEVEL m) = s.dev.has (MD_TRIP_STATUS_LEVEL m) ∧ d.md = seen ∧
        { d with regs := s.dev.regs, md := s.dev.md } = s.dev ∧ sameRegs s.dev d (· = (MD_TRIP_STATUS_PIN m).addr))) ∧
      (s.dev.has (MD_TRIP_CTRL_EN m) = true → s.dev.isChop m = true → leads (.tripInput m) s (fun d =>
        d.has (MD_TRIP_STATUS_LEVEL m) = true ∧ d.get MD_TRIP_LATCH_LATCHED = old ∧ d.md = seen ∧
        (∀ k < 12, bits (s.dev.pair k).active.ctrl.toNat 8 3 ≠ m → d.pair k = s.dev.pair k) ∧
        { d with regs := s.dev.regs, it := s.dev.it, md := s.dev.md, pairs := s.dev.pairs } = s.dev)) ∧
      (s.dev.has (MD_TRIP_CTRL_EN m) = true → s.dev.isChop m = false → bit old m = true → leads (.tripInput m) s (fun d =>
        d.has (MD_TRIP_STATUS_LEVEL m) = true ∧ d.get MD_TRIP_LATCH_LATCHED = old ∧ d.md = seen ∧
        { d with regs := s.dev.regs, it := s.dev.it, md := s.dev.md } = s.dev)) ∧
      (s.dev.has (MD_TRIP_CTRL_EN m) = true → s.dev.isChop m = false → bit old m = false → leads (.tripInput m) s (fun d =>
        d.has (MD_TRIP_STATUS_LEVEL m) = true ∧ d.get MD_TRIP_LATCH_LATCHED = old + 2 ^ m.val ∧
        d.get (MD_TRIP_CNT_TRIPS m) = satU (MD_TRIP_CNT_TRIPS m).width (s.dev.get (MD_TRIP_CNT_TRIPS m) + 1) ∧
        Claims.rowForced s.dev d m ∧
        d.ledger.waiting = addMsg ⟨7, m, 1, BitVec.ofNat 32 m.val, false, false, false, 0, s.dev.clk.now⟩ s.dev.ledger.waiting)) ∧
      leads (.tripInactive m) s (fun d => d.has (MD_TRIP_STATUS_LEVEL m) = false ∧
        d.get (MD_TRIP_STATUS_PIN m) = 1 - s.dev.get (MD_TRIP_CTRL_POL m) ∧ d.md = seen ∧
        { d with regs := s.dev.regs, it := s.dev.it, md := s.dev.md } = s.dev ∧
        sameRegs s.dev d (· = (MD_TRIP_STATUS_LEVEL m).addr))) ∧
    (∀ v : BitVec 32,
      leads (.softTrip v) s (fun d =>
        (∀ i < 16, bit (d.get MD_TRIP_LATCH_LATCHED) i = (bit old i || (decide (8 ≤ i) && bit v.toNat i))) ∧
        (∀ i < 16, 8 ≤ i → bit v.toNat i = true → bit old i = false → Claims.rowForced s.dev d i)) ∧
      leads (.tripClear v) s (fun d =>
        (∀ i < 16, bit (d.get MD_TRIP_LATCH_LATCHED) i = (bit old i && !(bit v.toNat i && !Claims.tripHeld s.dev i))) ∧
        (∀ i < 8, bit v.toNat i = true → bit old i = true → Claims.tripHeld s.dev i = true →
          d.has MD_TRIP_CLEAR_EV_TRIP_CLEAR_REFUSED = true ∧
          d.get (MD_TRIP_CNT_REFUSED_CLR i) = satU (MD_TRIP_CNT_REFUSED_CLR i).width (s.dev.get (MD_TRIP_CNT_REFUSED_CLR i) + 1)) ∧
        (∀ i < 16, bit v.toNat i = true → bit old i = true → Claims.tripHeld s.dev i = false →
          ∀ k < 12, bit (d.pair k).forcedBy i = false ∧ (d.pair k).tripped = (s.dev.pair k).tripped)))

/-- Commits and bindings (R272, R278, R284, R285, R288). A pair's commit is refused by code, waits for the next staged
result where the pair is bound, and is committed otherwise, with the compare kept where none was written; an axis's
carrier commit waits for the next boundary; a binding is written in OFF only, with a KIND of 0 to 2. -/
def Sys2Proof.Claims.PairCommitsAndBindings : Prop :=
  ∀ s : State, s.dev.inReset = false →
    (∀ (p : Fin 12) (hi : Bool),
      let q := s.dev.pair p
      let ctrl := s.dev.rd (MD_PAIR_CTRL p)
      let cw := (s.dev.rd (MD_PAIR_CMP p)).toNat
      let set : PairSet := ⟨ctrl, s.dev.rd (MD_PAIR_PER p), if q.cmpWritten then cw % 2 ^ 20 else q.latest.cmp,
        b2n (hi || q.outHi) * 2 + bits ctrl.toNat 0 1, if q.cmpWritten then bit cw 31 else q.latest.off, true, !q.cmpWritten⟩
      let small := set.mode = 3 ∨ set.PER < 2
      let unsync := set.sync = true ∧ (2 ≤ set.carrier ∨ syncFits s.dev.clk.len set.PER = false)
      let lacks := bit ctrl.toNat 7 = true ∧ q.cmpWritten = false ∧
        (set.PER ≠ q.latest.PER ∨ set.TIME ≠ q.latest.TIME ∨ set.carrier ≠ q.latest.carrier)
      let no := fun (code : Nat) => leads (.pairCommit p hi) s (fun d => d.get (MD_PAIR_STATUS_REFUSE_LAST p) = code ∧
        d.has (MD_PAIR_EVENT_REFUSED p) = true ∧ d.pair p = { q with outHi := false } ∧ (∀ i, i ≠ p.val → d.pair i = s.dev.pair i) ∧
        { d with regs := s.dev.regs, pairs := s.dev.pairs } = s.dev ∧ sameRegs s.dev d (fun a => a = MD_PAIR_STATUS p ∨ a = MD_PAIR_EVENT p))
      (small → no 4) ∧ (¬ small → unsync → no 3) ∧
      (¬ small → ¬ unsync → s.dev.pairBound p = true → leads (.pairCommit p hi) s (fun d => (d.pair p).waitCommit = true ∧
        (d.pair p).outHi = false ∧ (d.pair p).waitSet = { set with cmp := q.latest.cmp, off := false, fromStage := false } ∧ (d.pair p).pending = q.pending ∧
        d.has (MD_PAIR_STATUS_COMMIT_PEND p) = true ∧ Claims.pairOnly s.dev d p)) ∧
      (¬ small → ¬ unsync → s.dev.pairBound p = false → lacks → no 2) ∧
      (¬ small → ¬ unsync → s.dev.pairBound p = false → ¬ lacks → leads (.pairCommit p hi) s (fun d => d.pair p = { q with
        pending := some set, cmpWritten := false, outHi := false } ∧ d.has (MD_PAIR_STATUS_COMMIT_PEND p) = true ∧ ∀ i, i ≠ p.val → d.pair i = s.dev.pair i))) ∧
    (∀ k : Fin 192,
      let w := s.dev.rdN (AX_MB_CARRIER k)
      let chain := 2 ≤ bits w 26 2 ∧ s.dev.get (AX_MB_CTRL_KIND k) = 2
      let unsync := bit w 31 = true ∧ (2 ≤ bits w 26 2 ∨ syncFits s.dev.clk.len (w % 65536) = false)
      let no := fun (i : Instr) (code : Nat) => leads i s (fun d => d.liveGet (AX_MB_STATUS_REFUSE_LAST k) = code ∧
        { d with live := s.dev.live } = s.dev ∧ Claims.sameLive s.dev d (· = AX_MB_STATUS k))
      (chain → no (.mbCommit k) 3) ∧ (¬ chain → unsync → no (.mbCommit k) 4) ∧
      (¬ chain → ¬ unsync → leads (.mbCommit k) s (fun d => k.val ∈ d.md.carrierPend ∧
        Store.get (fun _ => 0x00000C80) d.md.carrierNext k = s.dev.rd (AX_MB_CARRIER k) ∧ d.md.carrier = s.dev.md.carrier ∧
        { d with md := s.dev.md } = s.dev)) ∧
      (∀ (reg : Fin 3) (v : BitVec 32),
        let a := [AX_MB_CTRL k, AX_MB_PAIRS k, AX_MB_CHAN k].getD reg 0
        (s.dev.axState k ≠ axOFF → no (.mbBindingWrite k reg v) 1) ∧
        (s.dev.axState k = axOFF → reg = 0 → v.toNat % 4 = 3 → no (.mbBindingWrite k reg v) 2) ∧
        (s.dev.axState k = axOFF → (reg = 0 → v.toNat % 4 ≠ 3) → leads (.mbBindingWrite k reg v) s (fun d =>
          bits (d.rdN a) 0 ([2, 16, 10].getD reg 0) = v.toNat % 2 ^ [2, 16, 10].getD reg 0 ∧
          { d with regs := s.dev.regs, live := s.dev.live, pairs := s.dev.pairs } = s.dev ∧
          sameRegs s.dev d (fun x => x = a ∨ ∃ p, x = MD_PAIR_STATUS p) ∧ Claims.sameLive s.dev d (fun x => ∃ j, x = AX_MB_STATUS j)))))

/-- The carrier of a local pair (R276–R284). A period starts where none is in progress, the one in progress is over or
SYNC starts one: the committed set becomes active, the dither count goes on, and the period and its active time follow
from the set; with UPD_HALF a committed set transfers in the middle; W follows the compare; the chop input ends the
on-time after BLANK. The outputs follow W with the dead time. Out of its time a command has no effect. Commits and
bindings (R272, R278, R284, R285, R288). A pair's commit is refused by code, waits for the next staged result where the
pair is bound, and is committed otherwise, with the compare kept where none was written; an axis's carrier commit waits
for the next boundary; a binding is written in OFF only, with a KIND of 0 to 2.
Where the rules leave a point open the clause is the model's choice: notes/assumptions/8, notes/assumptions/22. -/
def Obligations.PairOutputsAndCommits : Prop :=
  Claims.PairCarriersAndOutputs ∧ Claims.PairCommitsAndBindings

/-! ### Itineraries (R298–R316) -/

namespace Sys2Proof.Claims

/-- Instance `k` refused a command with a code. -/
def itinRefused (d e : Device) (k code : Nat) : Prop :=
  e.get (IT_STATUS_REFUSE_LAST k) = code ∧ e.has (IT_EVENT_REFUSED k) = true ∧ onlyRegs d e (fun a => a = IT_STATUS k ∨ a = IT_EVENT k)

/-- A round with nothing to see but the one instance `k`: it runs a table of its own and no injection or other instance
stands in. -/
def lone (d : Device) (k : Nat) : Prop :=
  d.clk.running = true ∧ d.clk.beat ≠ 0 ∧ d.clk.tick < 400 ∧ d.it.lastRound ≠ some d.clk.beat ∧ d.it.evs = [] ∧ d.it.later = [] ∧
    d.itRun k = 1 ∧ d.get (IT_CTRL_TABLE k) < 64 ∧ (∀ j < 64, j ≠ k → d.itLive j = false) ∧ d.injPending 9 k 1 = false

/-- State `st` of instance `k`'s table has no entry action and ends nothing. -/
def plainState (d : Device) (k st : Nat) : Prop :=
  let c := itStateCtrl (d.itTable k) st
  bits c 13 4 = 0 ∧ bit c 17 = false ∧ bit c 18 = false ∧ st < 256

/-- Instance `k` entered state `st` in a round (R309): the transition counts, the since-entry records are cleared and the
state timer has counted this round. -/
def enters (d e : Device) (k st : Nat) : Prop :=
  e.get (IT_STATUS_STATE k) = st ∧ e.itRun k = 1 ∧ e.rdN (IT_TRANS k) = (d.rdN (IT_TRANS k) + 1) % 2 ^ 32 ∧ e.rdN (IT_STIMER k) = 1 ∧
    e.rdN (IT_ROUNDS k) = (d.rdN (IT_ROUNDS k) + 1) % 2 ^ 32 ∧ (e.itin k).evs = [] ∧ (e.itin k).starting = none ∧
    (e.itin k).entered = true ∧ e.it.lastRound = some d.clk.beat ∧ (∀ j, j ≠ k → e.itin j = d.itin j)

end Sys2Proof.Claims

/-- Itineraries (R299, R302, R308–R316).  START of an instance that does not run takes its table and state and is carried out by
the next round, and what its milestones' latest ARM has met stays known; PAUSE, CONTINUE and ABORT need the run state they speak of;
refusals give their code.  A round comes once in a beat before tick 400: a starting instance enters its state, one whose conditions
select a state enters that, any other stays and counts its timers.
Where the rules leave a point open the clause is the model's choice: notes/assumptions/39. -/
def Obligations.ItinerariesRunByRounds : Prop :=
  ∀ s : State, s.dev.inReset = false →
    (∀ (k : Fin 64) (atState : Bool) (st : BitVec 8),
      let t := s.dev.get (IT_CTRL_TABLE k)
      let known := t < 76 ∧ (t < 64 → s.dev.has (GL_TD_STATE_DEFINED (0xE0 + t)) = true)
      let n := if t < 64 then itStates (s.dev.itTable k) else 1
      let first := if atState then st.toNat else if t < 64 then itInitial (s.dev.itTable k) else 0
      (s.dev.itLive k = true → leads (.itStart k atState st) s (Claims.itinRefused s.dev · k 1)) ∧
      (s.dev.itLive k = false → ¬ known → leads (.itStart k atState st) s (Claims.itinRefused s.dev · k 2)) ∧
      (s.dev.itLive k = false → known → n ≤ first → leads (.itStart k atState st) s (Claims.itinRefused s.dev · k 3)) ∧
      (s.dev.itLive k = false → known → first < n → leads (.itStart k atState st) s (fun d => d.itRun k = 1 ∧
        d.itin k = { starting := some first, flags := (s.dev.itin k).flags, arms := (s.dev.itin k).arms } ∧
        d.has (IT_STATUS_TABLE_PEND k) = (decide (t < 64) && (s.dev.tables.pick {} (0xE0 + t)).waiting) ∧ d.rd (IT_STIMER k) = 0 ∧ d.rd (IT_TIMER k) = 0 ∧
        d.rd (IT_ROUNDS k) = 0 ∧ d.get (IT_STATUS_STATE k) = s.dev.get (IT_STATUS_STATE k) ∧ (∀ j, j ≠ k.val → d.itin j = s.dev.itin j) ∧
        { d with itins := s.dev.itins, regs := s.dev.regs } = s.dev ∧
        sameRegs s.dev d (fun a => a ∈ [IT_STATUS k, IT_STIMER k, IT_TIMER k, IT_ROUNDS k])))) ∧
    (∀ k : Fin 64,
      (s.dev.itRun k = 1 → leads (.pause k) s (fun d => d.itRun k = 2 ∧ onlyRegs s.dev d (· = IT_STATUS k))) ∧
      (s.dev.itRun k ≠ 1 → leads (.pause k) s (Claims.itinRefused s.dev · k 4)) ∧
      (s.dev.itRun k = 2 → leads (.continueRun k) s (fun d => d.itRun k = 1 ∧ onlyRegs s.dev d (· = IT_STATUS k))) ∧
      (s.dev.itRun k ≠ 2 → leads (.continueRun k) s (Claims.itinRefused s.dev · k 4)) ∧
      (s.dev.itLive k = true → s.dev.get (IT_CTRL_ABORT_REACT k) = 0 → leads (.abortRun k) s (fun d => d.itRun k = 5 ∧
        d.has (IT_EVENT_ABORTED k) = true ∧ d.has (IT_STATUS_TABLE_PEND k) = false ∧ d.itin k = { s.dev.itin k with starting := none, entered := false } ∧
        d.planners = s.dev.planners ∧ sameRegs s.dev d (fun a => a = IT_STATUS k ∨ a = IT_EVENT k ∨ queueReg a))) ∧
      (∀ a < 192, s.dev.itLive k = true → s.dev.get (IT_CTRL_ABORT_REACT k) = 2 → (s.dev.itin k).moved = [a] → s.dev.plState a = plMOVING →
        Claims.inTurn s.dev a .qstop → ¬ Claims.tooLong s.dev a (fun p => { p with stop := 2, mode := 0 }) →
        leads (.abortRun k) s (fun d => d.itRun k = 5 ∧ d.has (IT_EVENT_ABORTED k) = true ∧ d.plState a = plSTOPPING ∧ (d.pl a).stop = 2)) ∧
      (s.dev.itLive k = false → leads (.abortRun k) s (Claims.itinRefused s.dev · k 4))) ∧
    (s.dev.clk.running = false ∨ s.dev.clk.beat = 0 ∨ 400 ≤ s.dev.clk.tick ∨ s.dev.it.lastRound = some s.dev.clk.beat →
      leads .round s (· = s.dev)) ∧
    (∀ k : Fin 64, Claims.lone s.dev k →
      let seen := { s.dev with it := { s.dev.it with lastRound := some s.dev.clk.beat, inRound := true } }
      (∀ st, (s.dev.itin k).starting = some st → Claims.plainState s.dev k st → leads .round s (Claims.enters s.dev · k st)) ∧
      (∀ st, (s.dev.itin k).starting = none → (s.dev.itin k).entered = false → seen.itSelect k = some st → Claims.plainState s.dev k st →
        leads .round s (Claims.enters s.dev · k st)) ∧
      ((s.dev.itin k).starting = none → ((s.dev.itin k).entered = true ∨ seen.itSelect k = none) → leads .round s (fun d =>
        d.get (IT_STATUS_STATE k) = s.dev.get (IT_STATUS_STATE k) ∧ d.rd (IT_TRANS k) = s.dev.rd (IT_TRANS k) ∧
        d.rdN (IT_STIMER k) = satU 32 (s.dev.rdN (IT_STIMER k) + 1) ∧ d.get (IT_TIMER_T0 k) = s.dev.get (IT_TIMER_T0 k) - 1 ∧
        d.get (IT_TIMER_T1 k) = s.dev.get (IT_TIMER_T1 k) - 1 ∧ d.itin k = { s.dev.itin k with entered := false } ∧
        (∀ j, j ≠ k.val → d.itin j = s.dev.itin j) ∧ d.it.lastRound = some s.dev.clk.beat)))

/-! ### The caravanserai (R323–R350) -/

namespace Sys2Proof.Claims

/-- The three replicas are in the vote and no injection waits for them, for the whole caravanserai, or for engine `e`. -/
def calm (d : Device) (e : Nat) : Prop :=
  (∀ r < 3, d.replicaIn r = true) ∧ ∀ i ∈ [0x40, 0x41, 0x42, 0xFF, e], ∀ k < 16, d.injPending 3 i k = false

/-- No fail-over, no swap, no swap that waits and no update is under way. -/
def idleCaravan (d : Device) : Prop :=
  d.cv.jobs = [] ∧ d.cv.swap = none ∧ d.cv.queue = [] ∧ d.cv.outDue = false ∧ d.get CV_STATUS_UPDATE ≠ 1

/-- A command of CV_CMD refused with a code. -/
def caravanRefused (d e : Device) (code : Nat) : Prop :=
  e.get CV_STATUS_REFUSE_LAST = code ∧ e.has CV_EVENT_REFUSED = true ∧ onlyRegs d e (fun a => a = CV_STATUS ∨ a = CV_EVENT)

/-- A planned swap of ACTIVE engine `e` to an image begins (R339, R342): the RELAY engine that has been one longest (causes 1, 2
and 6), or that has the lowest pace figure, loads the image; every other engine keeps its role. -/
def swapBegins (d x : Device) (cause e image : Nat) : Prop :=
  let figure := fun (w : Nat) => if cause = 1 ∨ cause = 2 ∨ cause = 6 then d.cv.since.pick 0 w else d.cv.pace.pick 0 w
  ∃ w ∈ d.enginesIn rlRELAY, (∀ y ∈ d.enginesIn rlRELAY, figure w ≤ figure y) ∧
    x.cv.swap = some { e := e, s := w, cause := cause, image := image } ∧ x.role w = rlLOADING ∧
    x.cv.loads.pick {} w = { image := image, start := d.clk.now, done := false } ∧ ∀ i < 28, i ≠ w → x.role i = d.role i

/-- A host's swap or retirement of engine `e` may begin (R342, R343): none is in progress, `e` is ACTIVE, a RELAY stands by, and the
replicas agree. -/
def swapMay (d : Device) (e : Fin 32) : Prop :=
  d.cv.swap = none ∧ e.val < 28 ∧ d.role e = rlACTIVE ∧ d.enginesIn rlRELAY ≠ [] ∧ calm d e

/-- The refusals of a host's swap or retirement of engine `e` (R342, R343): BUSY, NOT_ACTIVE, NO_SPARE. -/
def swapRefusals (c : Instr) (s : State) (e : Fin 32) : Prop :=
  (s.dev.cv.swap.isSome = true → leads c s (caravanRefused s.dev · 1)) ∧
  (s.dev.cv.swap = none → 28 ≤ e.val ∨ s.dev.role e ≠ rlACTIVE → leads c s (caravanRefused s.dev · 3)) ∧
  (s.dev.cv.swap = none → e.val < 28 → s.dev.role e = rlACTIVE → s.dev.enginesIn rlRELAY = [] → leads c s (caravanRefused s.dev · 4))

/-- The masked ACTIVE engines that an update relieves, in ascending number. -/
def masked (d : Device) : List Nat := (onesOf 28 (d.get CV_UPD_MASK_MASK)).filter (fun e => d.role e == rlACTIVE)

/-- Another state format stands against an update to an image: on a masked engine with an axis that is not OFF (R346). -/
def formatDiffers (d : Device) (image : Nat) : Prop :=
  ∃ e ∈ masked d, (∃ k ∈ d.engAxes e, d.axState k ≠ axOFF) ∧ d.get (CV_IMG_STATE_SFMT image) ≠ d.get (CV_IMG_STATE_SFMT (d.engImage e))

/-- The new image needs more steps than the old on a masked engine: its OVERHEAD, or its figure for an axis there (R346). -/
def needsMore (d : Device) (image : Nat) : Prop :=
  ∃ e ∈ masked d, d.imgOverhead (d.engImage e) < d.imgOverhead image ∨
    ∃ k ∈ d.engAxes e, d.stepFigure (d.engImage e) k < d.stepFigure image k

/-- An image load of engine `e` in the course of the loading engine's caravanserai (R335): the header, the bytes read and
whether they are the signed ones. The ROM's image bears its right signature. -/
def loadSound (d : Device) (image : Nat) : Prop :=
  let h := d.peek (d.rdN (CV_IMG_BASE image)) 64
  let b := d.imgBytes (d.rdN (CV_IMG_BASE image)) h
  b.2.2.1 = true ∧ (crc32 (b.1 ++ b.2.1) = leAt h 4 4 ∨ (image = 0 ∧ d.stockIntact = true))

end Sys2Proof.Claims

/-- The caravanserai's events (R330–R341). The verdict comes once a beat from HB_LATE on: engines whose two heartbeats
came stay as they are, and one that missed both is fenced, its axes failing over. A load writes the tile and is kept if
its signature checks, and else fences the engine. A self-test that passes makes the engine a RELAY; one that fails fences
it, or retires it where the step is too slow. The outrider's period makes it due.
Where the rules leave a point open the clause is the model's choice: notes/assumptions/41. -/
def Obligations.EngineVerdictsLoadsAndTests : Prop :=
  ∀ s : State, s.dev.inReset = false →
    let cv := s.dev.cv
    let notYet := s.dev.clk.running = false ∨ s.dev.clk.beat = 0 ∨ s.dev.clk.tick < s.dev.hbLate ∨ cv.judged = s.dev.clk.beat
    let n := s.dev.clk.beat - 1
    let met := fun (e : Nat) => (s.dev.eng e).running = false ∧ (n, 1) ∈ (s.dev.eng e).hbs ∧ n ∈ (s.dev.eng e).ends ∧
      ∀ k < 16, s.dev.injPending 3 e k = false
    (notYet → leads .heartbeatVerdict s (· = s.dev)) ∧
    (¬ notYet → (∀ e ∈ s.dev.enginesIn rlACTIVE, met e) → leads .heartbeatVerdict s (fun d => d.cv.judged = s.dev.clk.beat ∧
      d.cv.jobs = cv.jobs ∧ d.cv.swap = cv.swap ∧ { d with cv := cv } = s.dev)) ∧
    (∀ e, ¬ notYet → s.dev.enginesIn rlACTIVE = [e] → cv.active.pick 0 e ≤ n → (n, 1) ∉ (s.dev.eng e).hbs → n ∉ (s.dev.eng e).ends →
      Claims.calm s.dev e → Claims.idleCaravan s.dev → leads .heartbeatVerdict s (fun d => d.role e = rlFENCED ∧
        (d.eng e).running = false ∧ d.cv.judged = s.dev.clk.beat ∧
        ((∃ j < 8, s.dev.slotAxis e j < 192) → d.has CV_EVENT_FAILOVER = true ∧ d.get CV_FO_LAST_FAILED = e ∧
          d.get CV_COUNT_FAILOVERS = satU 16 (s.dev.get CV_COUNT_FAILOVERS + 1) ∧ ∃ job ∈ d.cv.jobs, job.failed = e))) ∧
    (∀ e : Fin 28, Claims.idleCaravan s.dev → Claims.calm s.dev e →
      let l := cv.loads.pick {} e
      (s.dev.role e ≠ rlLOADING ∨ l.done = true → leads (.loadComplete e) s (· = s.dev)) ∧
      (s.dev.role e = rlLOADING → l.done = false →
        (Claims.loadSound s.dev l.image → leads (.loadComplete e) s (fun d => d.cv.loads.pick {} e = { l with done := true } ∧
          d.role e = rlLOADING ∧ d.rdN (DV_SIG e) = leAt (s.dev.peek (s.dev.rdN (CV_IMG_BASE l.image)) 64) 4 4 ∧
          (d.eng e).running = false ∧ ∀ i, i ≠ e.val → d.eng i = s.dev.eng i)) ∧
        (¬ Claims.loadSound s.dev l.image → leads (.loadComplete e) s (fun d => d.role e = rlFENCED ∧ d.cv.loads.pick {} e = {}))) ∧
      (∀ (result : Fin 4) (st : BitVec 16),
        let go := s.dev.role e = rlSELFTEST ∨ s.dev.role e = 0
        let prog := s.dev.marchTest e 1
        let march := prog.1 && (prog.2.marchTest e 0).1
        let code := if 400 < st.toNat then 4 else if result = 2 then 2 else if result = 3 ∨ march = false then 3 else 1
        (¬ go → leads (.selfTestDone e result st) s (· = s.dev)) ∧
        (go → leads (.selfTestDone e result st) s (fun d =>
          d.role e = (if code = 1 then rlRELAY else if code = 4 then rlRETIRED else rlFENCED) ∧
          d.get (CV_ENG_STATE_LAST_TEST e) = code ∧ d.cv.pace.pick 0 e = st.toNat ∧
          (code ≠ 1 → d.has CV_EVENT_SELFTEST_FAIL = true) ∧ (∀ i < 28, i ≠ e.val → d.role i = s.dev.role i))))) ∧
    (let per := min 60000 (max 1 (s.dev.get CV_SWAP_SWAP_PERIOD)) * 100000
     let due := s.dev.clk.running = true ∧ cv.outAt + per ≤ s.dev.clk.now
     (¬ due → leads .outriderPeriod s (· = s.dev)) ∧
     (due → cv.swap.isSome = true → leads .outriderPeriod s (fun d => d.cv = { cv with outAt := s.dev.clk.now, outDue := s.dev.has CV_CTRL_OUTRIDER_EN } ∧ { d with cv := cv } = s.dev)) ∧
     (due → s.dev.has CV_CTRL_OUTRIDER_EN = true → Claims.idleCaravan s.dev → Claims.calm s.dev 0xFF → s.dev.enginesIn rlACTIVE ≠ [] →
       2 ≤ (s.dev.enginesIn rlRELAY).length → leads .outriderPeriod s (fun d => d.cv.outAt = s.dev.clk.now ∧ d.cv.outDue = false ∧
         ∃ e ∈ s.dev.enginesIn rlACTIVE, (∀ y ∈ s.dev.enginesIn rlACTIVE, cv.since.pick 0 e ≤ cv.since.pick 0 y) ∧
           Claims.swapBegins s.dev d 1 e (s.dev.engImage e))))

/-- The commands of CV_CMD and of the image entries (R342–R348). SWAP and RETIRE begin a planned swap of an ACTIVE engine
where none is in progress and a RELAY stands by, and are refused by code otherwise. UPDATE takes a VALID image of no
greater figures for the masked engines, relieves the first of them and later the others, one every UPD_PERIOD beats, and
is refused by code otherwise; ABORT_UPDATE ends it. CLEAR_CNT clears the counts. A write of an image's base is ignored for
image 0, refused while the image is in use, and else judged by its header and signature.
Where the rules leave a point open the clause is the model's choice: notes/assumptions/41. -/
def Obligations.SwapsUpdatesAndImages : Prop :=
  ∀ s : State, s.dev.inReset = false →
    let cv := s.dev.cv
    (∀ e : Fin 32, Claims.swapRefusals (.swap e) s e ∧ Claims.swapRefusals (.retire e) s e ∧
      (Claims.swapMay s.dev e → leads (.swap e) s (Claims.swapBegins s.dev · 2 e (s.dev.engImage e))) ∧
      (Claims.swapMay s.dev e → leads (.retire e) s (Claims.swapBegins s.dev · 5 e (s.dev.engImage e)))) ∧
    (∀ image : Fin 8,
      let es := Claims.masked s.dev
      let busy := s.dev.get CV_STATUS_UPDATE = 1
      let valid := s.dev.has (CV_IMG_STATE_VALID image) = true
      let may := ¬ busy ∧ valid ∧ ¬ Claims.formatDiffers s.dev image ∧ ¬ Claims.needsMore s.dev image ∧ Claims.calm s.dev 0xFF
      let taken : Caravan := { cv with updImage := image, updLeft := es, updDue := true, updOld := [] }
      (busy → leads (.update image) s (Claims.caravanRefused s.dev · 1)) ∧
      (¬ busy → ¬ valid → leads (.update image) s (Claims.caravanRefused s.dev · 5)) ∧
      (¬ busy → valid → Claims.formatDiffers s.dev image → leads (.update image) s (Claims.caravanRefused s.dev · 6)) ∧
      (¬ busy → valid → ¬ Claims.formatDiffers s.dev image → Claims.needsMore s.dev image →
        leads (.update image) s (Claims.caravanRefused s.dev · 7)) ∧
      (may → es = [] → leads (.update image) s (fun d => d.get CV_STATUS_UPDATE = 2 ∧
        d.has CV_EVENT_UPDATE_DONE = true ∧ d.cv = taken)) ∧
      (may → es ≠ [] → cv.swap.isSome = true → leads (.update image) s (fun d => d.get CV_STATUS_UPDATE = 1 ∧ d.cv = taken)) ∧
      (∀ e rest, may → es = e :: rest → cv.swap = none → cv.queue = [] → 2 ≤ (s.dev.enginesIn rlRELAY).length →
        leads (.update image) s (fun d => d.get CV_STATUS_UPDATE = 1 ∧ d.cv.updLeft = es ∧ d.cv.updAt = s.dev.clk.beat ∧
          Claims.swapBegins s.dev d 6 e image))) ∧
    (let due := s.dev.get CV_STATUS_UPDATE = 1 ∧ cv.updAt + max 1 (s.dev.get CV_SWAP_UPD_PERIOD) ≤ s.dev.clk.beat
     (¬ due → leads .updateSwapPeriod s (· = s.dev)) ∧
     (due → cv.swap.isSome = true → leads .updateSwapPeriod s (fun d => d.cv = { cv with updDue := true } ∧ { d with cv := cv } = s.dev)) ∧
     (∀ e rest, due → cv.swap = none → cv.queue = [] → cv.updLeft.filter (fun e => s.dev.role e == rlACTIVE) = e :: rest →
       2 ≤ (s.dev.enginesIn rlRELAY).length → Claims.calm s.dev 0xFF → leads .updateSwapPeriod s (fun d => d.cv.updAt = s.dev.clk.beat ∧
         d.cv.updDue = false ∧ Claims.swapBegins s.dev d 6 e cv.updImage))) ∧
    (s.dev.get CV_STATUS_UPDATE = 1 → leads .abortUpdate s (fun d => d.get CV_STATUS_UPDATE = 3 ∧ d.has CV_EVENT_UPDATE_ABORTED = true ∧
      d.cv = { cv with updLeft := [] } ∧ { d with cv := cv, regs := s.dev.regs } = s.dev)) ∧
    (s.dev.get CV_STATUS_UPDATE ≠ 1 → leads .abortUpdate s (· = s.dev)) ∧
    leads .cvClearCnt s (fun d => d.rd CV_COUNT = 0 ∧ d.rd CV_HB_MISS = 0 ∧ d.rd CV_VOTE = 0 ∧ (∀ e < 28, d.rd (CV_ENG_HB e) = 0) ∧
      onlyRegs s.dev d (fun a => a ∈ [CV_COUNT, CV_HB_MISS, CV_VOTE] ∨ ∃ e < 28, a = CV_ENG_HB e)) ∧
    (∀ (n : Fin 8) (v : BitVec 32),
      let base := v.toNat / 64 * 64
      let r := (s.dev.wrN (CV_IMG_BASE n) base).bulkRead base 64
      let b := r.2.2.imgBytes base r.1
      (n = 0 → leads (.imgBaseWrite n v) s (· = s.dev)) ∧
      (n ≠ 0 → s.dev.has (CV_IMG_STATE_IN_USE n) = true → leads (.imgBaseWrite n v) s (Claims.caravanRefused s.dev · 1)) ∧
      (n ≠ 0 → s.dev.has (CV_IMG_STATE_IN_USE n) = false → inBulk base 64 = false → leads (.imgBaseWrite n v) s (fun d =>
        d.rdN (CV_IMG_BASE n) = base ∧ d.rd (CV_IMG_STATE n) = 0 ∧
        onlyRegs s.dev d (fun a => a = CV_IMG_BASE n ∨ a = CV_IMG_STATE n))) ∧
      (n ≠ 0 → s.dev.has (CV_IMG_STATE_IN_USE n) = false → inBulk base 64 = true → leads (.imgBaseWrite n v) s (fun d =>
        d.rdN (CV_IMG_BASE n) = base ∧ (r.2.1.isSome = true ∨ hdrOk base r.1 = false → d.rd (CV_IMG_STATE n) = 0) ∧
        (r.2.1 = none → hdrOk base r.1 = true → d.has (CV_IMG_STATE_VALID n) =
          (b.2.2.1 && decide (crc32 (b.1 ++ b.2.1) = leAt r.1 4 4)) ∧ d.get (CV_IMG_STATE_SFMT n) = leAt r.1 0x0C 1))))

/-! ### The ledger and the keyed test space (R351–R372) -/

namespace Sys2Proof.Claims

/-- The occurrence counts a message goes from and to (R361): a quiet run counts on, an older one starts anew. -/
def occurrence (d : Device) (m : LMsg) : Nat × Nat :=
  let run := d.ledger.runs.pick {} (m.cls * 65536 + m.inst * 256 + m.kind)
  let quiet := bits (d.lgEntry m.cls m.kind).2 0 22 * 100000
  let prev := if 0 < run.prev ∧ d.clk.now < run.last + quiet then run.prev else 0
  (prev, if m.runcnt then m.detail.toNat / 65536 else prev + 1 + m.repeats)

/-- The message passes a multiple of the THRESHOLD of its entry (R361). -/
def reaches (d : Device) (m : LMsg) : Prop :=
  let thr := max 1 (bits (d.lgEntry m.cls m.kind).1 8 8)
  let o := occurrence d m
  o.2 / thr > (if o.2 ≤ o.1 then 0 else o.1) / thr

/-- The reaction that the entry of a message gives. -/
def reaction (d : Device) (m : LMsg) : Nat := bits (d.lgEntry m.cls m.kind).1 0 3

/-- The message was taken: it no longer waits, its record is shown, counted by its source, and the head of the ring moved on. -/
def ledgerTook (d e : Device) (m : LMsg) : Prop :=
  e.rd64 LG_MSG = m.word ∧ e.rdN LG_SEQ = (d.rdN LG_WRAPS * 4096 + d.get LG_RING_HEAD_HEAD) % 2 ^ 32 ∧
    e.get LG_RING_HEAD_HEAD = (d.get LG_RING_HEAD_HEAD + 1) % 4096 ∧
    e.rdN LG_WRAPS = (if d.get LG_RING_HEAD_HEAD = 4095 then satU 32 (d.rdN LG_WRAPS + 1) else d.rdN LG_WRAPS) ∧
    e.rdN LG_INJ = (if m.injected then satU 32 (d.rdN LG_INJ + 1) else d.rdN LG_INJ) ∧ e.has LG_EVENT_RECORD = true ∧
    (e.ledger.runs.pick {} (m.cls * 65536 + m.inst * 256 + m.kind)) = ⟨(occurrence d m).2, (occurrence d m).2, d.clk.now⟩

/-- A source with a message and its repeats counted. -/
def counted (x : LSource) (m : LMsg) : LSource :=
  let n := x.count.toNat + 1 + m.repeats
  { x with count := BitVec.ofNat 32 (min (2 ^ 32 - 1) n), lastKind := m.kind }

/-- The message was taken without more than a warning: beyond the ledger, its ring and Q7 nothing changed. -/
def onlyLedger (d e : Device) (m : LMsg) : Prop :=
  ledgerTook d e m ∧ sameUnits d e ∧
    sameRegs d e (fun a => (0x20000 ≤ a ∧ a < 0x20100) ∨ queueReg a ∨ a = INJ_STATUS 15 0 2) ∧
    e.lgSrc (256 * m.cls + m.inst) = counted (d.lgSrc (256 * m.cls + m.inst)) m ∧
    ∀ k, k ≠ 256 * m.cls + m.inst → e.lgSrc k = d.lgSrc k

/-- The unit of the message whose reaction FENCE keeps its quiet period from ending, if it is fenced (R363). -/
def quietHeld (d : Device) (m : LMsg) (u : Nat) : Prop := reaction d m = 2 ∧ lgUnit m.cls m.inst = some u ∧ (d.lgSrc u).state = 1

end Sys2Proof.Claims

/-- LEDGER_MESSAGE (R352, R355–R367). The oldest waiting message is recorded and counted. Below a multiple of its
threshold, with reaction 0, or with WARN nothing more follows than LG_EVENT.WARN; TORQUE_OFF holds the axis off,
DEVICE_SAFE sets SAFE, FENCE fences a unit in service for its quiet period, and every message whose reaction is FENCE
keeps a fenced unit's quiet period; a reaction without a target warns. A record that Q7 has no room for is lost to it and
counted.
Where the rules leave a point open the clause is the model's choice: notes/assumptions/36. -/
def Obligations.LedgerTakesItsMessages : Prop :=
  ∀ s : State, s.dev.inReset = false →
    let free := s.dev.boot.filling = false ∧ s.dev.boot.checking = none
    (s.dev.ledger.waiting = [] ∨ ¬ free → leads .ledgerMessage s (· = s.dev)) ∧
    (∀ m rest, s.dev.ledger.waiting = m :: rest → free →
      let r := Claims.reaction s.dev m
      ((¬ Claims.reaches s.dev m ∧ ∀ u, ¬ Claims.quietHeld s.dev m u) ∨ r = 0 → leads .ledgerMessage s (fun d => Claims.onlyLedger s.dev d m ∧
        d.has LG_EVENT_WARN = s.dev.has LG_EVENT_WARN)) ∧
      (∀ u, Claims.quietHeld s.dev m u → leads .ledgerMessage s (fun d => Claims.ledgerTook s.dev d m ∧ (d.lgSrc u).state = 1 ∧
        (d.lgSrc u).quietEnd = s.dev.clk.now + bits (s.dev.lgEntry m.cls m.kind).2 0 22 * 100000 ∧ sameUnits s.dev d)) ∧
      (Claims.reaches s.dev m → r = 1 → leads .ledgerMessage s (fun d => Claims.onlyLedger s.dev d m ∧ d.has LG_EVENT_WARN = true)) ∧
      (Claims.reaches s.dev m → r = 2 → lgUnit m.cls m.inst = none → leads .ledgerMessage s (fun d =>
        Claims.onlyLedger s.dev d m ∧ d.has LG_EVENT_WARN = true)) ∧
      (¬ Claims.reaches s.dev m → s.dev.qFull 7 = false → s.dev.injPending 15 0 2 = false → leads .ledgerMessage s (fun d =>
        d.ledger.waiting = rest ∧ d.ledger.q7gap = false ∧ d.qOcc.pick 0 7 = s.dev.qOcc.pick 0 7 + 1)) ∧
      (¬ Claims.reaches s.dev m → s.dev.qFull 7 = true → leads .ledgerMessage s (fun d =>
        d.get LG_Q7_LOST_COUNT = satU 32 (s.dev.get LG_Q7_LOST_COUNT + 1) ∧ d.has LG_EVENT_Q7_LOST = true ∧ d.ledger.q7gap = true ∧
        d.ledger.waiting = (if s.dev.ledger.q7gap then rest else addMsg ⟨15, 0, 2, 1, false, false, false, 0, s.dev.clk.now⟩ rest) ∧
        d.qOcc = s.dev.qOcc ∧
        (s.dev.mem.hard = [] → slice (d.peek (s.dev.get LG_RING_BASE_BASE * 2 ^ 17 + 32 * s.dev.get LG_RING_HEAD_HEAD) 32) 0 16 = leBytes m.word 8 ++
          leBytes s.dev.stamp 8))) ∧
      (Claims.reaches s.dev m → r = 6 → m.cls = 4 → m.inst < 192 → s.dev.has LG_STATUS_SAFE = false → leads .ledgerMessage s (fun d =>
        Claims.ledgerTook s.dev d m ∧ d.get (holdOff m.inst) = 1)) ∧
      (Claims.reaches s.dev m → r = 7 → leads .ledgerMessage s (fun d => d.has LG_STATUS_SAFE = true ∧ d.has LG_EVENT_SAFE = true ∧
        d.has LG_EVENT_RECORD = true)) ∧
      (∀ u, Claims.reaches s.dev m → r = 2 → lgUnit m.cls m.inst = some u → 12 ≤ m.cls → (s.dev.lgSrc u).state = 0 →
        s.dev.recovNow u < bits (s.dev.lgEntry m.cls m.kind).1 16 8 → leads .ledgerMessage s (fun d =>
          (d.lgSrc u).state = 1 ∧ (d.lgSrc u).quietEnd = s.dev.clk.now + bits (s.dev.lgEntry m.cls m.kind).2 0 22 * 100000 ∧
          (d.lgSrc u).fenceInj = m.injected ∧ d.has LG_EVENT_FENCE = true ∧ d.has LG_STATUS_DEGRADED = true)))

/-- RECOVER and the commands of the ledger (R357, R358, R363–R365, R368).  A fenced unit whose quiet period has passed recovers and
counts it, by itself for an injected fence.  RELEASE clears the hold-off of an OFF axis, RELEASE_ALL those of every OFF axis,
CLEAR_SAFE clears SAFE once every axis is OFF, CLEAR_CNT clears the counts. -/
def Sys2Proof.Claims.UnitsRecoverAndLedgerCommands : Prop :=
  ∀ s : State, s.dev.inReset = false →
    (∀ c n : BitVec 8,
      (lgUnit c.toNat n.toNat = none → leads (.recover c n) s (· = s.dev)) ∧
      (∀ u, lgUnit c.toNat n.toNat = some u →
        let x := s.dev.lgSrc u
        let r := s.dev.recovNow u
        (x.state ≠ 1 ∨ s.dev.clk.now < x.quietEnd → leads (.recover c n) s (· = s.dev)) ∧
        (x.state = 1 → x.quietEnd ≤ s.dev.clk.now → leads (.recover c n) s (fun d => d.has LG_EVENT_RECOVER = true ∧
          (12 ≤ c.toNat → d.lgSrc u = (if x.fenceInj then { x with state := 0, injRecov := min 255 (x.injRecov + 1), recov := r }
            else { x with state := 0, recov := min 255 (r + 1), winStart := if r = 0 then s.dev.clk.now else x.winStart })))))) ∧
    (∀ k : BitVec 8,
      (192 ≤ k.toNat → leads (.release k) s (fun d => d.get LG_STATUS_REFUSE_LAST = 2 ∧ d.has LG_EVENT_REFUSED = true ∧
        onlyRegs s.dev d (fun a => a = LG_STATUS ∨ a = LG_EVENT))) ∧
      (k.toNat < 192 → s.dev.axState k.toNat ≠ axOFF → leads (.release k) s (fun d => d.get LG_STATUS_REFUSE_LAST = 3 ∧
        d.has LG_EVENT_REFUSED = true ∧ onlyRegs s.dev d (fun a => a = LG_STATUS ∨ a = LG_EVENT))) ∧
      (k.toNat < 192 → s.dev.axState k.toNat = axOFF → leads (.release k) s (fun d => d.get (holdOff k.toNat) = 0 ∧
        (∀ j, j < 192 → j ≠ k.toNat → d.get (holdOff j) = s.dev.get (holdOff j)) ∧
        onlyRegs s.dev d (· = LG_HOLDOFF (k.toNat / 32))))) ∧
    leads .releaseAll s (fun d => (∀ k, k < 192 → d.get (holdOff k) = if s.dev.axState k = axOFF then 0 else s.dev.get (holdOff k)) ∧
      onlyRegs s.dev d (fun a => ∃ j < 6, a = LG_HOLDOFF j)) ∧
    ((∀ k < 192, s.dev.axState k = axOFF) → leads .clearSafe s (fun d => d.has LG_STATUS_SAFE = false ∧
      onlyRegs s.dev d (· = LG_STATUS))) ∧
    ((∃ k, k < 192 ∧ s.dev.axState k ≠ axOFF) → leads .clearSafe s (fun d => d.get LG_STATUS_REFUSE_LAST = 3 ∧
      d.has LG_STATUS_SAFE = s.dev.has LG_STATUS_SAFE ∧ onlyRegs s.dev d (fun a => a = LG_STATUS ∨ a = LG_EVENT))) ∧
    (s.dev.ledger.sources.wf (fun _ => {}) = true → leads .lgClearCnt s (fun d => d.rd LG_Q7_LOST = 0 ∧ d.rd LG_INJ = 0 ∧
      (∀ k, d.lgSrc k = { s.dev.lgSrc k with count := 0 }) ∧ { d with regs := s.dev.regs, ledger := s.dev.ledger } = s.dev ∧
      sameRegs s.dev d (fun a => a = LG_Q7_LOST ∨ a = LG_INJ)))

/-- The keyed test space (R369–R372). A read of the nonce draws a new one for its path; a write of LG_KEY opens the space
for a session or JTAG that read the nonce within 1000 beats, and is refused otherwise or under TEST_LOCK, the nonce being
drawn anew; CLOSE and TEST_TMO close it; INJ_FIRE sets the count of a point that exists, and is refused outside service
mode for the tollgate. -/
def Sys2Proof.Claims.TestSpaceOpensByItsKey : Prop :=
  ∀ s : State, s.dev.inReset = false →
    let t := s.dev.test
    let redrawn := fun (d : Device) (code : Nat) => d.test = { t with nonce := s.dev.free } ∧ d.free = s.dev.free + 1 ∧
      d.get LG_STATUS_REFUSE_LAST = code ∧ d.has LG_EVENT_REFUSED = true ∧
      { d with test := t, free := s.dev.free, regs := s.dev.regs } = s.dev ∧ sameRegs s.dev d (fun a => a = LG_STATUS ∨ a = LG_EVENT)
    (∀ p : Fin 36, leads (.keyNonceRead p) s (fun d => d.test = { t with nonce := s.dev.free, readPath := some p.val, readBeat := s.dev.clk.beat } ∧
      d.free = s.dev.free + 1 ∧ { d with test := t, free := s.dev.free } = s.dev)) ∧
    (∀ (p : Fin 36) (v : BitVec 32),
      let good := 1 ≤ p.val ∧ p.val ≤ 5 ∧ t.readPath = some p.val ∧ s.dev.clk.beat ≤ t.readBeat + 1000 ∧
        v.toNat / 65536 = 0x7E57 ∧ v.toNat % 65536 = s.dev.nonce ^^^ 0xA5A5
      (t.lock = true → leads (.lgKeyWrite p v) s (redrawn · 5)) ∧
      (t.lock = false → ¬ good → leads (.lgKeyWrite p v) s (redrawn · 4)) ∧
      (t.lock = false → good → leads (.lgKeyWrite p v) s (fun d => d.has LG_STATUS_TEST_OPEN = true ∧
        d.test = { t with lastWrite := s.dev.clk.now } ∧
        d.ledger.waiting = addMsg ⟨15, 0, 1, BitVec.ofNat 32 p.val, false, false, false, 0, s.dev.clk.now⟩ s.dev.ledger.waiting ∧
        { d with test := t, regs := s.dev.regs, ledger := s.dev.ledger } = s.dev ∧ sameRegs s.dev d (· = LG_STATUS)))) ∧
    leads .lgClose s (fun d => d.has LG_STATUS_TEST_OPEN = false ∧ onlyRegs s.dev d (· = LG_STATUS)) ∧
    (let out := s.dev.has LG_STATUS_TEST_OPEN = true ∧ t.lastWrite + max 1 (s.dev.get LG_CTRL_TEST_TMO) * 100000000 ≤ s.dev.clk.now
     (out → leads .testSpaceTimeout s (fun d => d.has LG_STATUS_TEST_OPEN = false ∧ onlyRegs s.dev d (· = LG_STATUS))) ∧
     (¬ out → leads .testSpaceTimeout s (· = s.dev))) ∧
    (∀ (c n : BitVec 8) (k : BitVec 6) (count : BitVec 8),
      let there_ := s.dev.has LG_STATUS_TEST_OPEN = true ∧ injPoint c.toNat n.toNat k.toNat = true
      (¬ there_ → leads (.injFire c n k count) s (· = s.dev)) ∧
      (there_ → c = 11 → s.dev.has TG_STATUS_SERVICE = false → leads (.injFire c n k count) s (fun d =>
        d.get (INJ_STATUS_REFUSE_LAST c.toNat n.toNat k.toNat) = 6 ∧ d.get LG_STATUS_REFUSE_LAST = 6 ∧
        d.get (INJ_STATUS_REMAINING c.toNat n.toNat k.toNat) = s.dev.get (INJ_STATUS_REMAINING c.toNat n.toNat k.toNat))) ∧
      (there_ → (c = 11 → s.dev.has TG_STATUS_SERVICE = true) → leads (.injFire c n k count) s (fun d =>
        d.get (INJ_STATUS_REMAINING c.toNat n.toNat k.toNat) = count.toNat ∧ d.test = { t with lastWrite := s.dev.clk.now } ∧
        { d with test := t, regs := s.dev.regs } = s.dev ∧ sameRegs s.dev d (· = INJ_STATUS c.toNat n.toNat k.toNat))))

/-- RECOVER and the commands of the ledger (R357, R358, R363–R365, R368). A fenced unit whose quiet period has passed
recovers and counts it, by itself for an injected fence. RELEASE clears the hold-off of an OFF axis, RELEASE_ALL those of
every OFF axis, CLEAR_SAFE clears SAFE once every axis is OFF, CLEAR_CNT clears the counts. The keyed test space
(R369–R372). A read of the nonce draws a new one for its path; a write of LG_KEY opens the space for a session or JTAG
that read the nonce within 1000 beats, and is refused otherwise or under TEST_LOCK, the nonce being drawn anew; CLOSE and
TEST_TMO close it; INJ_FIRE sets the count of a point that exists, and is refused outside service mode for the tollgate.
Where the rules leave a point open the clause is the model's choice: notes/assumptions/36. -/
def Obligations.LedgerCommandsAndTestSpace : Prop :=
  Claims.UnitsRecoverAndLedgerCommands ∧ Claims.TestSpaceOpensByItsKey

/-! ### Memory management (R374–R390) -/

namespace Sys2Proof.Claims

/-- The bytes of a range read without error and no injection waits for their bank. -/
def cleanBytes (d : Device) (a n : Nat) : Prop :=
  (∀ i < n, (d.peek1 (a + i)).2 = 0) ∧ ∀ k ∈ [1, 2, 5], d.injPending 10 (0x40 + bankOf a) k = false

/-- The device address of a position of the scrub pass in the banks. -/
def scrubAddr (pos : Nat) : Nat :=
  bulkBase + (pos - 28 * scrubTile) / scrubBank * 0x200000 + (pos - 28 * scrubTile) % scrubBank

/-- A command of GL_MEM_CMD refused with a code. -/
def memRefused (d e : Device) (code : Nat) : Prop :=
  e.get GL_MEM_STATUS_REFUSE_LAST = code ∧ e.has GL_MEM_EVENT_REFUSED = true ∧
    onlyRegs d e (fun a => a = GL_MEM_STATUS ∨ a = GL_MEM_EVENT)

end Sys2Proof.Claims

/-- The scrubber, page retirement and GL_MEM_CMD (R378–R380, R384, R385, R389, R390). A scrub read moves the pass on by
its bytes; good bytes are left alone, a correctable byte is written back corrected and counted; the last read ends the
pass. RETIRE takes the lowest free spare of the page's bank or is refused by code; when the copy is done the page reads
from its spare as it read before.
Where the rules leave a point open the clause is the model's choice: notes/assumptions/37. -/
def Obligations.ScrubbingAndPageRetirement : Prop :=
  ∀ s : State, s.dev.inReset = false →
    let m := s.dev.mem
    let pos := m.scrubPos
    let on := s.dev.has GL_MEM_STATUS_SCRUBBING = true
    let o := pos % scrubTile
    let n := if pos < 28 * scrubTile ∧ ((0x20000 ≤ o ∧ o < 0x30000) ∨ 0x30040 ≤ o) then 4 else 8
    let inBank := 28 * scrubTile ≤ pos ∧ (pos - 28 * scrubTile) % scrubBank < 0x200000 ∧ s.dev.mem.copying = none
    let a := Claims.scrubAddr pos
    (¬ on → leads .scrubRead s (· = s.dev)) ∧
    (on → pos + n < scrubTotal → leads .scrubRead s (fun d => d.mem.scrubPos = pos + n ∧
      d.get GL_MEM_SCRUB_PROGRESS = (pos + n) * 65536 / scrubTotal)) ∧
    (on → scrubTotal ≤ pos + n → leads .scrubRead s (fun d => d.mem.scrubPos = 0 ∧ d.has GL_MEM_EVENT_SCRUB_DONE = true ∧
      d.get GL_MEM_SCRUB_PROGRESS = 0 ∧ d.get GL_MEM_STATUS_SCRUBBING = s.dev.get GL_MEM_CTRL_SCRUB_EN)) ∧
    (on → pos + n < scrubTotal → inBank → Claims.cleanBytes s.dev a 8 → leads .scrubRead s (fun d =>
      { d with mem := m, regs := s.dev.regs } = s.dev ∧ d.mem = { m with scrubPos := pos + 8 } ∧
      sameRegs s.dev d (· = GL_MEM_SCRUB))) ∧
    (∀ i, on → pos + n < scrubTotal → inBank → i < 8 → (∀ j < 8, j ≠ i → (s.dev.peek1 (a + j)).2 = 0) → (s.dev.peek1 (a + i)).2 = 1 →
      m.hard.pick 0 (s.dev.bulkKey (a + i)) = 0 → (∀ k ∈ [1, 2, 5], s.dev.injPending 10 (0x40 + bankOf a) k = false) →
      leads .scrubRead s (fun d => d.cell (s.dev.bulkKey (a + i)) = (s.dev.peek1 (a + i)).1 ∧
        d.cellErr (s.dev.bulkKey (a + i)) = 0 ∧ (∀ k, k ≠ s.dev.bulkKey (a + i) → d.cell k = s.dev.cell k ∧ d.cellErr k = s.dev.cellErr k) ∧
        d.rdN GL_MEM_LAST = (a + i) % 2 ^ 32 ∧ d.has GL_MEM_EVENT_CORR = true ∧
        d.get GL_MEM_CNT_CORR = satU 16 (s.dev.get GL_MEM_CNT_CORR + 1))) ∧
    leads .scrubNow s (fun d => d.has GL_MEM_STATUS_SCRUBBING = true ∧ d.get GL_MEM_SCRUB_PROGRESS = 0 ∧ d.mem = { m with scrubPos := 0 } ∧
      { d with mem := m, regs := s.dev.regs } = s.dev ∧ sameRegs s.dev d (fun x => x = GL_MEM_STATUS ∨ x = GL_MEM_SCRUB)) ∧
    (let p := s.dev.get GL_MEM_PAGE_PAGE * 4096
     let bank := bankOf p
     let none_ := s.dev.get (GL_MEM_BANK_LEFT bank) = 0 ∨ s.dev.freeSpare bank = none
     (m.copying ≠ none → leads .memRetire s (Claims.memRefused s.dev · 1)) ∧
     (m.copying = none → inBulk p 4096 = false → leads .memRetire s (Claims.memRefused s.dev · 2)) ∧
     (m.copying = none → inBulk p 4096 = true → none_ → leads .memRetire s (Claims.memRefused s.dev · 3)) ∧
     (∀ sp, m.copying = none → inBulk p 4096 = true → s.dev.get (GL_MEM_BANK_LEFT bank) ≠ 0 → s.dev.freeSpare bank = some sp →
       leads .memRetire s (fun d => d.mem = { m with copying := some (s.dev.get GL_MEM_PAGE_PAGE, sp), copyAt := s.dev.clk.now } ∧ d.has GL_MEM_STATUS_RETIRING = true ∧
         d.get (GL_MEM_BANK_LEFT bank) = s.dev.get (GL_MEM_BANK_LEFT bank) - 1 ∧ { d with mem := m, regs := s.dev.regs } = s.dev ∧
         sameRegs s.dev d (fun x => x = GL_MEM_STATUS ∨ x = GL_MEM_BANK bank)))) ∧
    (m.copying = none → leads .pageCopyDone s (· = s.dev)) ∧
    (∀ page sp, m.copying = some (page, sp) → (∀ i < 4096, m.hard.pick 0 (s.dev.bulkKey (page * 4096 + i)) = 0 ∧ m.hard.pick 0 (spareKey (bankOf (page * 4096)) sp i) = 0) →
      leads .pageCopyDone s (fun d => d.mem.copying = none ∧ d.mem.pageMap.pick 0 page = sp + 1 ∧ d.has GL_MEM_STATUS_RETIRING = false ∧
        d.has GL_MEM_EVENT_RETIRED = true ∧ (∀ i < 4096, (s.dev.peek1 (page * 4096 + i)).2 ≠ 2 →
          (d.peek1 (page * 4096 + i)).1 = (s.dev.peek1 (page * 4096 + i)).1) ∧
        (s.dev.get (GL_MEM_BANK_LEFT (bankOf (page * 4096))) ≤ 4 → ∃ x ∈ d.ledger.waiting, x.cls = 10 ∧
          x.inst = 0x40 + bankOf (page * 4096) ∧ x.kind = 6))) ∧
    leads .memClearCnt s (fun d => d.rd GL_MEM_CNT = 0 ∧ onlyRegs s.dev d (· = GL_MEM_CNT))

/-! ### The tollgate (R395–R421) -/

namespace Sys2Proof.Claims

/-- A message of the class, instance, kind and DETAIL waits for the ledger. -/
def waits (d : Device) (cls inst kind detail : Nat) : Prop :=
  ∃ m ∈ d.ledger.waiting, m.cls = cls ∧ m.inst = inst ∧ m.kind = kind ∧ m.detail = BitVec.ofNat 32 detail

/-- A command of TG_CMD refused with a code. -/
def tgRefused (d e : Device) (code : Nat) : Prop :=
  e.get TG_STATUS_REFUSE_LAST = code ∧ e.has TG_EVENT_REFUSED = true ∧ onlyRegs d e (fun a => a = TG_STATUS ∨ a = TG_EVENT)

/-- Only the field side changed, and every zone but `z` is as it was. -/
def onlyZone (d e : Device) (z : Nat) : Prop := { e with tg := d.tg } = d ∧ ∀ i, i ≠ z → e.tgZone i = d.tgZone i

/-- The speed record of an axis is in time and its source valid (R407). -/
def speedFine (d : Device) (k : Nat) (good : Bool) : Prop :=
  good = true ∧ d.clk.running = true ∧ d.liveHas (AX_FB_STATUS_PRI_VALID k) = true ∧ (d.tg.speeds.pick {} k).beat ≠ d.clk.beat + 1

/-- The measured or the set-point speed of an axis is above the limit of its zone with its tolerance (R407). -/
def tooFast (d : Device) (z k : Nat) : Prop :=
  let lim := d.tgGet (TG_AX_SLS_LIMIT k) * (256 + d.tgGet (TG_Z_CTRL_SLS_TOL z))
  lim * 2 ^ 24 < (d.fbVel k).natAbs * 10 ^ 8 * 256 ∨ lim * 2 ^ 32 < (d.rdS64 (AX_PL_SP_VEL k)).natAbs * 256

end Sys2Proof.Claims

/-- Inputs, outputs and lines (R395–R402, R408, R411–R413, R415).  A cycle takes 16 µs, and the zone states of the cycle before
have reached the logic side; open contacts of an enabled input demand, and its
zones take STO; an evaluator that does not agree latches every zone.  Contacts that differ for DISC, a pulse that a contact does not
show, an OFF test that stays high are faults of their channel and are sent; a line not seen low for long is reported; a line whose
keep-alive is lost is driven low.
Where the rules leave a point open the clause is the model's choice: notes/assumptions/38. -/
def Obligations.TollgateWatchesItsChannels : Prop :=
  ∀ s : State, s.dev.inReset = false →
    let now := s.dev.tg.time
    (∀ (samples : BitVec 256) (high low : BitVec 4) (pins : BitVec 16) (ok : Bool),
      leads (.evaluationCycle samples high low pins ok) s (fun d => d.tg.time = now + 16 ∧ (∀ z < 8, (d.tgZone z).accepted = s.dev.tgState z) ∧
        (ok = false → ∀ z < 8, d.tgState z = zSTO ∧ ∃ l ∈ (d.tgZone z).latched, l.chan = 0 ∧ l.cause = 11 ∧ l.force = true) ∧
        (∀ i < 8, s.dev.tgGet (TG_SI_CTRL_EN i) = 1 → s.dev.tgSrc i 0 = 15 → s.dev.tgSrc i 1 = 15 → s.dev.tgGet (TG_SI_CTRL_FILT i) = 0 →
          bits samples.toNat (32 * i) 32 = 0 → (d.tgIn i).demand = true ∧ (d.tgContact i 0).closed = false ∧
            (d.tgContact i 1).closed = false ∧
            ∀ z < 8, bit (s.dev.tgGet (TG_Z_IN_STO_IN z)) i = true → d.tgState z = zSTO))) ∧
    (∀ n : Fin 8,
      let q := s.dev.tgIn n
      let en := s.dev.tgGet (TG_SI_CTRL_EN n) = 1
      (q.differ = none ∨ ¬ en ∨ q.fault = 1 → leads (.discrepancy n) s (· = s.dev)) ∧
      (∀ c t, q.differ = some (c, t) → now < t + s.dev.tgGet (TG_SI_CTRL_DISC n) * 1000 → leads (.discrepancy n) s (· = s.dev)) ∧
      (∀ c t, q.differ = some (c, t) → en → q.fault ≠ 1 → t + s.dev.tgGet (TG_SI_CTRL_DISC n) * 1000 ≤ now →
        leads (.discrepancy n) s (fun d => (d.tgIn n).fault = 1 ∧ (d.tgIn n).faultB = (c == 0) ∧ (d.tgIn n).demand = true ∧
          d.get (TG_SI_STATUS_CAUSE n) = 1 ∧ d.get (TG_SI_CNT_FAULTS n) = satU 16 (s.dev.get (TG_SI_CNT_FAULTS n) + 1) ∧
          Claims.waits d 11 (0x10 + n) 2 (1 + 256 * b2n (c == 0)) ∧ ∀ i, i ≠ n.val → d.tgIn i = s.dev.tgIn i))) ∧
    (∀ (k : Fin 4) (low cross : BitVec 16) (n : Fin 8),
      let q := s.dev.tgIn n
      let off := q.demand = true ∧ now - s.dev.tgPulseAge k now ≤ q.demandAt ∧ q.fault = 0
      (∀ i < 8, i ≠ n.val → s.dev.tgGet (TG_SI_CTRL_EN i) = 0) → s.dev.tgGet (TG_SI_CTRL_EN n) = 1 → s.dev.tgSrc n 0 = k →
      s.dev.tgSrc n 1 ≠ k → bit cross.toNat (2 * n + 1) = false →
        (off → leads (.testPulse k low cross) s (· = s.dev)) ∧
        (¬ off → bit low.toNat (2 * n) = true ∨ (s.dev.tgContact n 0).closed = false → leads (.testPulse k low cross) s (fun d =>
          d.tgIn n = { q with passed := setBit q.passed 0 true } ∧ (∀ i, i ≠ n.val → d.tgIn i = s.dev.tgIn i) ∧
          { d with tg := s.dev.tg } = s.dev)) ∧
        (¬ off → bit low.toNat (2 * n) = false → (s.dev.tgContact n 0).closed = true → leads (.testPulse k low cross) s (fun d =>
          (d.tgIn n).fault = 2 ∧ (d.tgIn n).faultB = false ∧ (d.tgIn n).demand = true ∧ d.get (TG_SI_STATUS_CAUSE n) = 2 ∧
          Claims.waits d 11 (0x10 + n) 3 2))) ∧
    (∀ o : Fin 4,
      let testing := s.dev.has (TG_SO_STATUS_TESTING o) = true
      let may := s.dev.tgGet (TG_SO_CTRL_OT_EN o) = 1 ∧ s.dev.has (TG_SO_STATUS_ON o) = true
      (may → leads (.offTest o 0) s (fun d => d.has (TG_SO_STATUS_TESTING o) = true ∧ onlyRegs s.dev d (· = TG_SO_STATUS o))) ∧
      (¬ may → leads (.offTest o 0) s (· = s.dev)) ∧
      (∀ p : Fin 3, p ≠ 0 → ¬ testing → leads (.offTest o p) s (· = s.dev)) ∧
      (testing → leads (.offTest o 1) s (fun d => d.has (TG_SO_STATUS_TESTING o) = false ∧
        d.get (TG_SO_CNT_TESTS o) = satU 16 (s.dev.get (TG_SO_CNT_TESTS o) + 1) ∧
        onlyRegs s.dev d (fun a => a = TG_SO_STATUS o ∨ a = TG_SO_CNT o))) ∧
      (testing → leads (.offTest o 2) s (fun d => d.has (TG_SO_STATUS_TESTING o) = false ∧ d.has (TG_SO_STATUS_FAULT o) = true ∧
        d.get (TG_SO_STATUS_CAUSE o) = 4 ∧ Claims.waits d 11 (0x20 + o) 4 4))) ∧
    (∀ k : Fin 16,
      let stale := s.dev.tgGet TG_STO_TEST_STO_TEST_H ≤ s.dev.get (TG_STO_AGE_HOURS k) ∧ bit (s.dev.get TG_STO_STALE_STALE) k = false
      (¬ stale → leads (.stoStale k) s (· = s.dev)) ∧
      (stale → leads (.stoStale k) s (fun d => bit (d.get TG_STO_STALE_STALE) k = true ∧ Claims.waits d 11 (0x30 + k) 5 8 ∧
        { d with regs := s.dev.regs, ledger := s.dev.ledger } = s.dev ∧ sameRegs s.dev d (· = TG_STO_STALE))) ∧
      leads (.keepaliveLoss k) s (fun d => bit d.tg.kaLost k = true ∧ bit (d.get TG_STO_STATUS_LOW) k = true ∧
        d.has (TK_STO_DRIVEN k) = true ∧ { d with tg := s.dev.tg, regs := s.dev.regs } = s.dev ∧ d.tg.zones = s.dev.tg.zones))

/-- Zones (R404–R408, R416, R417). SS1_TIME after its entry an SS1 becomes STO; SLS_RAMP after its entry an SLS is
monitored; a missing speed record, or violations for SLS_BEATS records, are faults of the zone, which takes STO; when limp
has run out the latch takes its cause and SS1 runs. The logic side takes a zone's new state for each of its axes.
Where the rules leave a point open the clause is the model's choice: notes/assumptions/8, notes/assumptions/38. -/
def Obligations.ZonesTimeMonitorAndHandOver : Prop :=
  ∀ s : State, s.dev.inReset = false →
    let now := s.dev.tg.time
    (∀ z : Fin 8,
      let q := s.dev.tgZone z
      let st := s.dev.tgState z
      let over_ := st = zSS1 ∧ q.start + max 1 (s.dev.tgGet (TG_Z_TIME_SS1_TIME z)) * 1000 ≤ now
      let ramped := st = zSLS ∧ q.start + s.dev.tgGet (TG_Z_TIME_SLS_RAMP z) * 1000 ≤ now
      let ends := q.limp = true ∧ q.limpFrom + min 60 (max 1 (s.dev.tgGet (TG_Z_CTRL_LIMP_MIN z))) * 60000000 ≤ now
      (¬ over_ → leads (.ss1TimeElapsed z) s (· = s.dev)) ∧
      (over_ → leads (.ss1TimeElapsed z) s (fun d => d.tgState z = zSTO ∧ d.has TG_EVENT_DEMAND = true ∧
        (s.dev.tgGet (TG_Z_CTRL_RESTART z) = 1 → d.has (TG_Z_STATUS_WAIT_ACK z) = true))) ∧
      (¬ ramped → leads (.slsRampElapsed z) s (· = s.dev)) ∧
      (ramped → leads (.slsRampElapsed z) s (fun d => d.tgZone z = { q with monitor := true } ∧ Claims.onlyZone s.dev d z)) ∧
      (¬ ends → leads (.limpEnd z) s (· = s.dev)) ∧
      (ends → leads (.limpEnd z) s (fun d => (d.tgZone z).limp = false ∧ (d.tgZone z).latched = q.latched ++ [⟨0, 12, false⟩] ∧
        d.tgState z = (if st = zSLS then zSS1 else st) ∧ d.get (TG_Z_STATUS_CAUSE z) = 12 ∧ d.has (TG_Z_STATUS_LIMP z) = false ∧
        d.get (TG_Z_STATUS_LIMP_LEFT z) = 0 ∧ Claims.waits d 11 z 7 0))) ∧
    (∀ (k : Fin 192) (good : Bool),
      let r := s.dev.tg.speeds.pick {} k
      let fine := Claims.speedFine s.dev k good
      (s.dev.tgZoneOf k = none → leads (.speedRecord k good) s (· = s.dev)) ∧
      (∀ z, s.dev.tgZoneOf k = some z → s.dev.tgState z ≠ zSLS → leads (.speedRecord k good) s (· = s.dev)) ∧
      (∀ z, s.dev.tgZoneOf k = some z → s.dev.tgState z = zSLS →
        let watched := (s.dev.tgZone z).monitor = true
        let beats := max 1 (s.dev.tgGet (TG_Z_CTRL_SLS_BEATS z))
        (fine → ¬ watched → leads (.speedRecord k good) s (fun d => d.tg.speeds.pick {} k = ⟨min r.viol 16, 0, s.dev.clk.beat + 1⟩ ∧
          { d with tg := s.dev.tg } = s.dev ∧ d.tg.zones = s.dev.tg.zones)) ∧
        (fine → watched → ¬ Claims.tooFast s.dev z k → leads (.speedRecord k good) s (fun d =>
          d.tg.speeds.pick {} k = ⟨0, 0, s.dev.clk.beat + 1⟩ ∧ { d with tg := s.dev.tg } = s.dev ∧ d.tg.zones = s.dev.tg.zones)) ∧
        (fine → watched → Claims.tooFast s.dev z k → r.viol + 1 < beats → leads (.speedRecord k good) s (fun d =>
          d.tg.speeds.pick {} k = ⟨r.viol + 1, 0, s.dev.clk.beat + 1⟩ ∧ { d with tg := s.dev.tg } = s.dev ∧ d.tg.zones = s.dev.tg.zones)) ∧
        (fine → watched → Claims.tooFast s.dev z k → r.viol + 1 = beats → leads (.speedRecord k good) s (fun d => d.tgState z = zSTO ∧
          ∃ l ∈ (d.tgZone z).latched, l.chan = 0 ∧ l.cause = 10 ∧ l.force = true)) ∧
        (¬ fine → r.miss = 0 → leads (.speedRecord k good) s (fun d => (d.tg.speeds.pick {} k).miss = 1 ∧
          (d.tg.speeds.pick {} k).viol = min r.viol 16 ∧ { d with tg := s.dev.tg } = s.dev ∧ d.tg.zones = s.dev.tg.zones)) ∧
        (¬ fine → r.miss = 1 → leads (.speedRecord k good) s (fun d => d.tgState z = zSTO ∧
          ∃ l ∈ (d.tgZone z).latched, l.chan = 0 ∧ l.cause = 9 ∧ l.force = true)))) ∧
    (∀ z : Fin 8,
      let st := s.dev.tgState z
      let q := s.dev.tgZone z
      (q.accepted = st → leads (.zoneDecisionAccept z) s (· = s.dev)) ∧
      (q.accepted ≠ st → s.dev.tgAxes z = [] → leads (.zoneDecisionAccept z) s (fun d => d.tgZone z = { q with accepted := st } ∧
        Claims.onlyZone s.dev d z)) ∧
      (q.accepted ≠ st → st = zSTO → leads (.zoneDecisionAccept z) s (fun d => (d.tgZone z).accepted = zSTO ∧
        ∀ k ∈ s.dev.tgAxes z, (d.ax k).sto = true ∧ (d.ax k).ss1 = true)))

/-- TG_CMD (R409, R416, R420, R421). An acknowledgement counts only in a zone without demand, SS1 or latched fault, and
clears a zone's own faults and those of channels that read back right. SERVICE, from a session or JTAG alone, puts every
zone into STO; LEAVE asks every zone for an acknowledgement; APPLY brings the written configuration into force, in service
mode, with its CRC and in its ranges; CLEAR_CNT clears the counts.
Where the rules leave a point open the clause is the model's choice: notes/assumptions/38. -/
def Obligations.TollgateCommands : Prop :=
  ∀ s : State, s.dev.inReset = false →
    (∀ zones : BitVec 8,
      ((∀ z < 8, bit zones.toNat z = true → (s.dev.tgZone z).latched = []) → leads (.tgAck zones) s (fun d =>
        (∀ z < 8, d.has (TG_Z_STATUS_WAIT_ACK z) = (s.dev.has (TG_Z_STATUS_WAIT_ACK z) && !(bit zones.toNat z && s.dev.tgClear z))) ∧
        onlyRegs s.dev d (fun a => ∃ z < 8, a = TG_Z_STATUS z))) ∧
      (∀ (z : Fin 8) (l : TgLatch), zones.toNat = 2 ^ z.val → (s.dev.tgZone z).latched = [l] → l.chan = 0 → leads (.tgAck zones) s (fun d =>
        d.tgZone z = { s.dev.tgZone z with latched := [] } ∧ d.has (TG_Z_STATUS_FAULT z) = false ∧
        { d with tg := s.dev.tg, regs := s.dev.regs } = s.dev ∧ sameRegs s.dev d (fun a => a = TG_Z_STATUS z ∨ a = TG_STATUS))) ∧
      (∀ (z : Fin 8) (l : TgLatch) (o : Fin 4), zones.toNat = 2 ^ z.val → (s.dev.tgZone z).latched = [l] → l.chan = 0x20 + o →
        s.dev.tg.outBad.pick 0 o = 0 → leads (.tgAck zones) s (fun d => (d.tgZone z).latched = [] ∧
          d.has (TG_SO_STATUS_FAULT o) = false ∧ ∀ j < 8, ∀ x ∈ (d.tgZone j).latched, x.chan ≠ 0x20 + o)) ∧
      (∀ (z : Fin 8) (l : TgLatch) (o : Fin 4), zones.toNat = 2 ^ z.val → (s.dev.tgZone z).latched = [l] → l.chan = 0x20 + o →
        s.dev.tg.outBad.pick 0 o ≠ 0 → leads (.tgAck zones) s (· = s.dev))) ∧
    (∀ p : Fin 36,
      (p.val = 0 ∨ 5 < p.val → leads (.service p) s (Claims.tgRefused s.dev · 5)) ∧
      (1 ≤ p.val → p.val ≤ 5 → s.dev.tgService = true → leads (.service p) s (· = s.dev)) ∧
      (1 ≤ p.val → p.val ≤ 5 → s.dev.tgService = false → leads (.service p) s (fun d => d.tgService = true ∧
        (∀ z < 8, d.tgState z = zSTO) ∧ Claims.waits d 11 0 8 1))) ∧
    (s.dev.tgService = false → leads .leave s (· = s.dev)) ∧
    (s.dev.tgService = true → leads .leave s (fun d => d.tgService = false ∧ (∀ z < 8, d.has (TG_Z_STATUS_WAIT_ACK z) = true) ∧
      Claims.waits d 11 0 8 0 ∧ d.tg = s.dev.tg ∧ sameRegs s.dev d (fun a => a = TG_STATUS ∨ ∃ z < 8, a = TG_Z_STATUS z))) ∧
    (s.dev.tgService = false → leads .apply s (Claims.tgRefused s.dev · 1)) ∧
    (s.dev.tgService = true → s.dev.rdN TG_APPLY_CRC ≠ s.dev.tgCrc → leads .apply s (Claims.tgRefused s.dev · 2)) ∧
    (s.dev.tgService = true → s.dev.rdN TG_APPLY_CRC = s.dev.tgCrc → s.dev.tgCfgOk = false → leads .apply s (Claims.tgRefused s.dev · 4)) ∧
    (s.dev.tgService = true → s.dev.rdN TG_APPLY_CRC = s.dev.tgCrc → s.dev.tgCfgOk = true → leads .apply s (fun d => d.tg.up = true ∧
      d.has TG_STATUS_CONFIG_OK = true ∧ d.has TG_EVENT_CONFIG_APPLIED = true ∧ d.rdN TG_CFG_CRC = s.dev.tgCrc ∧
      (∀ z < 8, d.tgState z = zSTO) ∧ ∀ a ∈ tgCfgAddrs, Store.get resetWord d.tg.cfg a = s.dev.rd a)) ∧
    leads .tgClearCnt s (fun d => (∀ i < 8, d.rd (TG_SI_CNT i) = 0 ∧ d.rd (TG_Z_CNT i) = 0) ∧ (∀ o < 4, d.rd (TG_SO_CNT o) = 0) ∧
      onlyRegs s.dev d (fun a => (∃ i < 8, a = TG_SI_CNT i ∨ a = TG_Z_CNT i) ∨ ∃ o < 4, a = TG_SO_CNT o))

/-! ### Field I/O (R423–R437) -/

namespace Sys2Proof.Claims

/-- The channel is an output. -/
def isOut (d : Device) (c : Nat) : Prop := d.fioMode c = 2

/-- Every field channel but `c` is as it was. -/
def otherFio (d e : Device) (c : Nat) : Prop := ∀ i, i ≠ c → e.fio i = d.fio i

/-- Nothing but field channels and registers differs. -/
def onlyField (d e : Device) (A : Nat → Prop) : Prop := { e with fioCh := d.fioCh, regs := d.regs } = d ∧ sameRegs d e A

/-- No injection waits for field group `g`. -/
def groupCalm (d : Device) (g : Nat) : Prop :=
  (∀ c ∈ groupCh g, ∀ k ∈ [1, 2, 3, 4, 5, 6], d.injPending 12 c k = false) ∧ d.injPending 12 0 9 = false ∧
    d.injPending 12 (0x40 + g) 6 = false ∧ d.injPending 12 (0x40 + g) 7 = false

/-- The switch of channel `c` goes to a level, and notes when it came on. -/
def switched (d : Device) (q : FioCh) (on : Bool) : FioCh := { q with on := on, onAt := if on && !q.on then d.clk.now else q.onAt }

/-- The switch of an output follows its commanded level: it is an output, not held, does not retry, has a coupler and its group
receives frames. -/
def follows (d : Device) (c : Nat) : Bool :=
  decide (d.fioMode c = 2) && !d.has (FIO_CH_STATUS_HELD c) && !d.has (FIO_CH_STATUS_RETRY c) && !d.has (FIO_CH_STATUS_INVALID c) &&
    !(d.fioGrp.pick {} (c / 8)).expired

/-- Every output is off for want of VFIELD: VFIELD_LOW or REVERSED stands and the latest measurement is below 17 V. -/
def unfed (d : Device) : Bool := (d.has FIO_STATUS_VFIELD_LOW || d.has FIO_STATUS_REVERSED) && d.field.low

end Sys2Proof.Claims

/-- Levels and outputs (R425–R427, R433, R437). An accepted level updates FIO_IN, RAW and COUNT and is noted where it
changed, and is discarded under old settings, without a coupler or under reversed VFIELD. A write of FIO_OUT_SET or
FIO_OUT_CLR commands the outputs of its mask, which end their HELD, and is refused for a channel that is no output.
FIO_CH_CTRL takes any mode but 3, a new mode turning the output off; CLEAR_CNT clears the counts.
Where the rules leave a point open the clause is the model's choice: notes/assumptions/42. -/
def Obligations.FieldLevelsAndOutputs : Prop :=
  ∀ s : State, s.dev.inReset = false →
    (∀ (c : Fin 40) (level raw : Bool) (count : BitVec 16),
      let drop := s.dev.clk.now < (s.dev.fio c).resetAt ∨ s.dev.has (FIO_CH_STATUS_INVALID c) = true ∨ s.dev.has FIO_STATUS_REVERSED = true
      let shows := fun (d : Device) => d.fioLevel c = level ∧ d.has (FIO_CH_STATUS_LEVEL c) = level ∧ d.has (FIO_CH_STATUS_RAW c) = raw ∧
        d.get (FIO_CH_STATUS_COUNT c) = min count.toNat (s.dev.get (FIO_CH_CTRL_THRESH c)) % 4096
      (drop → leads (.fieldLevelAccept c level raw count) s (· = s.dev)) ∧
      (¬ drop → s.dev.fioLevel c = level → leads (.fieldLevelAccept c level raw count) s (fun d => shows d ∧
        onlyRegs s.dev d (fun a => a = FIO_IN ∨ a = FIO_IN_HI ∨ a = FIO_CH_STATUS c))) ∧
      (¬ drop → s.dev.fioLevel c ≠ level → leads (.fieldLevelAccept c level raw count) s (fun d => shows d ∧
        (⟨s.dev.clk.beat, 4, c.val, (b2n level : Nat)⟩ : ItEv) ∈ d.it.evs ∧ d.fioCh = s.dev.fioCh ∧ d.bulk = s.dev.bulk))) ∧
    (∀ (upper : Bool) (mask : BitVec 32),
      let sel := fun (k : Nat) => (if upper then 32 else 0) ≤ k ∧ bit mask.toNat (k - if upper then 32 else 0) = true ∧ (upper = false → k < 32)
      let commanded := fun (level : Bool) (d : Device) =>
        (∀ k < 40, sel k → Claims.isOut s.dev k → d.has (fioOut k) = level ∧ d.has (FIO_CH_STATUS_OUT k) = level ∧
          d.has (FIO_CH_STATUS_HELD k) = false ∧ (level = false → d.has (FIO_CH_STATUS_RETRY k) = false) ∧
          d.fio k = Claims.switched s.dev { s.dev.fio k with cmd := level } (if s.dev.has (FIO_CH_STATUS_INVALID k) ||
            (s.dev.fioGrp.pick {} (k / 8)).expired || (level && s.dev.has (FIO_CH_STATUS_RETRY k)) then (s.dev.fio k).on
            else level && !Claims.unfed s.dev)) ∧
        (∀ k < 40, ¬ (sel k ∧ Claims.isOut s.dev k) → d.fio k = s.dev.fio k ∧ d.has (fioOut k) = s.dev.has (fioOut k) ∧
          d.rd (FIO_CH_STATUS k) = s.dev.rd (FIO_CH_STATUS k)) ∧
        ((∃ k < 40, sel k ∧ ¬ Claims.isOut s.dev k) → d.get FIO_STATUS_REFUSE_LAST = 1 ∧ d.has FIO_EVENT_REFUSED = true) ∧
        ((∀ k < 40, sel k → Claims.isOut s.dev k) → d.rd FIO_STATUS = s.dev.rd FIO_STATUS) ∧
        Claims.onlyField s.dev d (fun a => a = FIO_OUT ∨ a = FIO_OUT_HI ∨ a = FIO_STATUS ∨ a = FIO_EVENT ∨ ∃ k < 40, a = FIO_CH_STATUS k)
      leads (.fioOutSet upper mask) s (commanded true) ∧ leads (.fioOutClr upper mask) s (commanded false)) ∧
    (∀ (c : Fin 40) (v : BitVec 32),
      let w := v.toNat &&& 0x0FFF031B
      let same := bits w 0 2 = s.dev.fioMode c
      (bits v.toNat 0 2 = 3 → leads (.fioChCtrlWrite c v) s (fun d => d.get FIO_STATUS_REFUSE_LAST = 3 ∧ d.has FIO_EVENT_REFUSED = true ∧
        onlyRegs s.dev d (fun a => a = FIO_STATUS ∨ a = FIO_EVENT))) ∧
      (bits v.toNat 0 2 ≠ 3 → ¬ same → leads (.fioChCtrlWrite c v) s (fun d => d.rdN (FIO_CH_CTRL c) = w ∧ d.has (fioOut c) = false ∧
        d.fioLevel c = false ∧ d.get (FIO_CH_STATUS_COUNT c) = 0 ∧ d.has (FIO_CH_STATUS_HELD c) = false ∧
        d.has (FIO_CH_STATUS_RETRY c) = false ∧
        d.fio c = { s.dev.fio c with cmd := false, on := false, resetAt := s.dev.clk.now + 200 } ∧ Claims.otherFio s.dev d c ∧
        Claims.onlyField s.dev d (fun a => a ∈ [FIO_IN, FIO_IN_HI, FIO_OUT, FIO_OUT_HI, FIO_CH_CTRL c, FIO_CH_STATUS c]))) ∧
      (bits v.toNat 0 2 ≠ 3 → same → (bits w 3 1 ≠ s.dev.get (FIO_CH_CTRL_TYPE c) ∨ bits w 16 12 ≠ s.dev.get (FIO_CH_CTRL_THRESH c)) →
        leads (.fioChCtrlWrite c v) s (fun d => d.rdN (FIO_CH_CTRL c) = w ∧ d.fioLevel c = false ∧ d.get (FIO_CH_STATUS_COUNT c) = 0 ∧
          d.fio c = { s.dev.fio c with resetAt := s.dev.clk.now + 200 } ∧ Claims.otherFio s.dev d c ∧
          Claims.onlyField s.dev d (fun a => a ∈ [FIO_IN, FIO_IN_HI, FIO_CH_CTRL c, FIO_CH_STATUS c]))) ∧
      (bits v.toNat 0 2 ≠ 3 → same → bits w 3 1 = s.dev.get (FIO_CH_CTRL_TYPE c) → bits w 16 12 = s.dev.get (FIO_CH_CTRL_THRESH c) →
        leads (.fioChCtrlWrite c v) s (fun d => d.rdN (FIO_CH_CTRL c) = w ∧ onlyRegs s.dev d (· = FIO_CH_CTRL c)))) ∧
    leads .fioClearCnt s (fun d => (∀ c < 40, d.rd (FIO_CH_CNT c) = 0) ∧ onlyRegs s.dev d (fun a => ∃ c < 40, a = FIO_CH_CNT c))

/-- What the field die reports (R428–R432, R434, R435). A wiring fault that the channel checks is counted, shown and at
first sent; an overload turns the switch off, which tries again 100 ms later; beyond 8 A the outputs go off until the rest
stays below; low or reversed VFIELD turns every output off; a group without frames takes its safe states, and its next
frame ends that.
Where the rules leave a point open the clause is the model's choice: notes/assumptions/8, notes/assumptions/42. -/
def Obligations.FieldFaultsAndWatchdog : Prop :=
  ∀ s : State, s.dev.inReset = false →
    let now := s.dev.clk.now
    (∀ (c : Fin 40) (cause : Fin 8) (raw : Bool),
      let q := s.dev.fio c
      let on := Claims.isOut s.dev c ∧ q.on = true
      let disagrees := raw ≠ q.cmd ∧ setBit q.fault 5 false = 0 ∧ s.dev.has (FIO_CH_STATUS_RETRY c) = false
      let fires := s.dev.fioChecked c cause = true ∧ (cause = 5 → disagrees)
      let faulted := fun (d : Device) (k : Nat) => d.get (FIO_CH_STATUS_CAUSE c) = k ∧ d.has (FIO_CH_STATUS_FAULT c) = true ∧
        d.has (FIO_CH_STATUS_RAW c) = raw ∧ d.get (FIO_CH_CNT_FAULTS c) = satU 16 (s.dev.get (FIO_CH_CNT_FAULTS c) + 1) ∧
        (bit q.fault k = false → Claims.waits d 12 c k (b2n raw)) ∧ (bit q.fault k = true → d.ledger = s.dev.ledger) ∧ Claims.otherFio s.dev d c ∧
        { d with regs := s.dev.regs, fioCh := s.dev.fioCh, ledger := s.dev.ledger } = s.dev ∧
        sameRegs s.dev d (fun a => a = FIO_EVENT ∨ a = FIO_CH_STATUS c ∨ a = FIO_CH_CNT c)
      (¬ fires → leads (.wiringFault c cause raw) s (· = s.dev)) ∧
      (fires → leads (.wiringFault c cause raw) s (fun d => faulted d cause ∧ d.has FIO_EVENT_WIRING = true ∧
        (cause ≠ 2 → d.fio c = { q with fault := setBit q.fault cause true }) ∧
        (cause = 2 → d.has (FIO_CH_STATUS_RETRY c) = true ∧ d.has FIO_EVENT_OVERLOAD = true ∧
          d.fio c = { q with fault := setBit q.fault 2 true, on := false, tryAt := now }))) ∧
      leads (.wiringFaultClear c) s (fun d => d.has (FIO_CH_STATUS_FAULT c) = false ∧ d.fio c = { q with fault := 0 } ∧
        Claims.otherFio s.dev d c ∧ Claims.onlyField s.dev d (· = FIO_CH_STATUS c)) ∧
      (¬ on → leads (.overload c raw) s (· = s.dev)) ∧
      (on → leads (.overload c raw) s (fun d => faulted d 4 ∧ d.has (FIO_CH_STATUS_RETRY c) = true ∧ d.has FIO_EVENT_OVERLOAD = true ∧
        d.fio c = { q with fault := setBit q.fault 4 true, on := false, tryAt := now })) ∧
      (let due := s.dev.has (FIO_CH_STATUS_RETRY c) = true ∧ q.cmd = true ∧ q.tryAt + 10000000 ≤ now
       (¬ due → leads (.retry c) s (· = s.dev)) ∧
       (due → q.on = true → leads (.retry c) s (fun d => d.has (FIO_CH_STATUS_RETRY c) = false ∧ d.has (FIO_CH_STATUS_FAULT c) = false ∧
         d.fio c = { q with fault := 0 } ∧ Claims.otherFio s.dev d c ∧ Claims.onlyField s.dev d (· = FIO_CH_STATUS c))) ∧
       (due → q.on = false → leads (.retry c) s (fun d => d.fio c = { q with on := true, tryAt := now, onAt := now } ∧
         d.get (FIO_CH_CNT_RETRIES c) = satU 16 (s.dev.get (FIO_CH_CNT_RETRIES c) + 1) ∧ Claims.otherFio s.dev d c ∧
         Claims.onlyField s.dev d (· = FIO_CH_CNT c))))) ∧
    (∀ c : Fin 45,
      let g := c.val - 40
      let bad := s.dev.has (FIO_GRP_SPARE_USED g) = true ∨ (s.dev.fioGrp.pick {} g).spareBad = true
      (c < 40 → s.dev.has (FIO_CH_STATUS_INVALID c) = true → leads (.couplerFail c) s (· = s.dev)) ∧
      (c < 40 → s.dev.has (FIO_CH_STATUS_INVALID c) = false → leads (.couplerFail c) s (fun d => d.has FIO_EVENT_COUPLER = true ∧
        Claims.waits d 12 c 6 c ∧ { d with regs := s.dev.regs, ledger := s.dev.ledger } = s.dev ∧ sameRegs s.dev d (· = FIO_EVENT))) ∧
      (40 ≤ c.val → bad → leads (.couplerFail c) s (· = s.dev)) ∧
      (40 ≤ c.val → ¬ bad → leads (.couplerFail c) s (fun d => d.has FIO_EVENT_COUPLER = true ∧ d.has (FIO_GRP_SPARE_BAD g) = true ∧
        Claims.waits d 12 (0x40 + g) 6 g ∧ d.fioGrp = s.dev.fioGrp.upd {} g (fun x => { x with spareBad := true }) ∧
        { d with fioGrp := s.dev.fioGrp, regs := s.dev.regs, ledger := s.dev.ledger } = s.dev ∧
        sameRegs s.dev d (fun a => a = FIO_EVENT ∨ a = FIO_GRP g)))) ∧
    (∀ cur : List (BitVec 16), cur.length = 40 →
      let ma := (cur.map (·.toNat)).sum
      let lit := fun (d : Device) (c : Nat) => d.fioMode c == 2 && (d.fio c).on
      leads (.sumLimit cur) s (fun d => (∀ c < 40, d.get (FIO_CH_CUR_MA c) = ((cur.map (·.toNat)).getD c 0)) ∧
        d.get FIO_ISUM_MA = min 65535 ma ∧ d.has FIO_STATUS_SUM_LIMIT = decide (8000 < ma) ∧
        (ma ≤ 8000 → d.fioCh = s.dev.fioCh ∧ d.ledger = s.dev.ledger) ∧
        (8000 < ma → d.has FIO_EVENT_SUM_LIMIT = true ∧ Claims.waits d 12 0 9 ma ∧
          (∀ c < 40, lit s.dev c = true → lit d c = false → d.get (FIO_CH_STATUS_CAUSE c) = 6 ∧ d.has (FIO_CH_STATUS_HELD c) = true) ∧
          ((∀ c < 40, lit s.dev c = false → (cur.map (·.toNat)).getD c 0 = 0) →
            (((List.range 40).filter (lit d)).map (fun c => (cur.map (·.toNat)).getD c 0)).sum ≤ 8000)))) ∧
    (∀ mv : BitVec 17, s.dev.injPending 12 0 8 = false →
      let v := mv.toInt
      let warn := v < 19200 ∨ 30000 < v
      leads (.vfieldMeasure mv) s (fun d => (-32768 ≤ v → v ≤ 32767 → d.get FIO_VFIELD_MV = ofS 16 v) ∧ (d.has FIO_STATUS_VFIELD_WARN = true ↔ warn) ∧
        (warn → s.dev.field.warned = false → d.has FIO_EVENT_VFIELD = true ∧ Claims.waits d 12 0 8 (ofS 32 v)) ∧
        (¬ warn ∨ s.dev.field.warned = true → d.ledger = s.dev.ledger) ∧
        (v < 17000 → d.has FIO_STATUS_VFIELD_LOW = true ∧ ∀ c < 40, Claims.isOut s.dev c → (d.fio c).on = false ∧
          d.has (FIO_CH_STATUS_HELD c) = true) ∧
        (17000 ≤ v → ∀ c < 40, d.fio c = if Claims.follows s.dev c then Claims.switched s.dev (s.dev.fio c) (s.dev.fio c).cmd else s.dev.fio c) ∧
        (v < 0 → d.has FIO_STATUS_REVERSED = true ∧ (s.dev.has FIO_STATUS_REVERSED = false → d.has FIO_EVENT_VFIELD = true) ∧
          ∀ c < 40, d.fioLevel c = false ∧ d.has (FIO_CH_STATUS_RAW c) = false) ∧
        (18000 < v → ∀ t, s.dev.field.goodSince = some t → t + 1000000 ≤ now →
          d.has FIO_STATUS_VFIELD_LOW = false ∧ d.has FIO_STATUS_REVERSED = false))) ∧
    (∀ g : Fin 5,
      let q := s.dev.fioGrp.pick {} g
      let wait := min 10000 (max 1 q.wdog) * 10000
      let cut := fun (c : Nat) => (∃ t, (s.dev.fio c).cutAt = some t ∧ t + wait ≤ now)
      let lost := q.live = true ∧ q.expired = false ∧ q.lastFrame + wait ≤ now
      let safe := fun (d : Device) (c : Nat) => Claims.isOut s.dev c → d.has (FIO_CH_STATUS_HELD c) = true ∧
        d.has (FIO_CH_STATUS_RETRY c) = false ∧ (d.fio c).on = (!s.dev.isBrake c && (decide (s.dev.get (FIO_CH_CTRL_SAFE c) = 1) ||
          (decide (s.dev.get (FIO_CH_CTRL_SAFE c) = 2) && (s.dev.fio c).on)))
      (¬ lost → (∀ c ∈ groupCh g, ¬ cut c) → leads (.fieldWatchdog g) s (· = s.dev)) ∧
      (¬ lost → leads (.fieldWatchdog g) s (fun d => (∀ c, ¬ (c ∈ groupCh g ∧ cut c) → d.fio c = s.dev.fio c) ∧
        (∀ c ∈ groupCh g, cut c → safe d c ∧ (d.fio c).cutAt = none) ∧
        Claims.onlyField s.dev d (fun a => ∃ c ∈ groupCh g, a = FIO_CH_STATUS c))) ∧
      (lost → leads (.fieldWatchdog g) s (fun d => d.fioGrp.pick {} g = { q with expired := true } ∧ d.has FIO_EVENT_WDOG = true ∧
        d.has FIO_STATUS_LINK = false ∧ d.field = { s.dev.field with wdogSeen := true } ∧ (∀ c ∈ groupCh g, safe d c) ∧
        (∀ c, c ∉ groupCh g → d.fio c = s.dev.fio c))) ∧
      (Claims.groupCalm s.dev g → ¬ lost → (∀ c ∈ groupCh g, ¬ cut c) → leads (.refreshFrame g) s (fun d =>
        d.fioGrp.pick {} g = { q with live := true, expired := false, lastFrame := now, wdog := s.dev.get FIO_CTRL_WDOG_T } ∧
        d.has FIO_STATUS_LINK = (List.range 5).all (fun j => j == g.val || ((s.dev.fioGrp.pick {} j).live && !(s.dev.fioGrp.pick {} j).expired)) ∧
        (q.expired = true → Claims.waits d 12 (0x40 + g) 7 ((now - q.lastFrame) / 100000)) ∧
        (q.expired = false → d.ledger = s.dev.ledger) ∧
        (∀ c, d.fio c = if c ∈ groupCh g ∧ Claims.follows { s.dev with fioGrp := s.dev.fioGrp.upd {} g (fun x => { x with expired := false }) } c
          then Claims.switched s.dev (s.dev.fio c) ((s.dev.fio c).cmd && !Claims.unfed s.dev) else s.dev.fio c) ∧
        { d with fioGrp := s.dev.fioGrp, fioCh := s.dev.fioCh, regs := s.dev.regs, ledger := s.dev.ledger } = s.dev ∧
        sameRegs s.dev d (· = FIO_STATUS))))
/-! ### The recorder (R438–R449) -/

namespace Sys2Proof.Claims

/-- A command of RC_CMD refused with a code. -/
def recorderRefused (d e : Device) (code : Nat) : Prop :=
  e.get RC_STATUS_REFUSE_LAST = code ∧ e.has RC_EVENT_REFUSED = true ∧ onlyRegs d e (fun a => a = RC_STATUS ∨ a = RC_EVENT)

/-- An arm refused with a code, which the ledger learns too (R446). -/
def armRefused (d e : Device) (code : Nat) : Prop :=
  e.get RC_STATUS_REFUSE_LAST = code ∧ e.has RC_EVENT_REFUSED = true ∧ waits e 15 0x10 3 code ∧
    { e with regs := d.regs, ledger := d.ledger } = d ∧ sameRegs d e (fun a => a = RC_STATUS ∨ a = RC_EVENT)

/-- Nothing but the recorder's own state and registers `A` differs. -/
def onlyRecorder (d e : Device) (A : Nat → Prop) : Prop := { e with rc := d.rc, regs := d.regs } = d ∧ sameRegs d e A

/-- The recorder captures: armed or after its trigger, with no record or stop pending. -/
def captures (d : Device) : Prop :=
  d.clk.running = true ∧ d.rc.sendDue = false ∧ d.rc.stopDue = false ∧ (d.rcState = rcARMED ∨ d.rcState = rcPOST)

end Sys2Proof.Claims

/-- The recorder (R439–R449). ARM takes settings that pass every check and is else refused with their code; FORCE and STOP
act while capture runs, RELEASE while a record is held. A sample instant opens one frame; a frame without values of the
beat's computation is written at once to its place in the buffer, counted, and with FORCE is the trigger frame; where the
latest instant's frame has been taken, time passes to the next instant of the beat. The record goes to Q6, or waits in
HELD.
Where the rules leave a point open the clause is the model's choice: notes/assumptions/43. -/
def Obligations.RecorderArmsWritesAndSends : Prop :=
  ∀ s : State, s.dev.inReset = false →
    let rc := s.dev.rc
    let st := s.dev.rcState
    let busy := st = rcARMED ∨ st = rcPOST
    (s.dev.injPending 15 0x10 3 = false →
      (st ≠ rcIDLE → leads .arm s (Claims.armRefused s.dev · 6)) ∧
      (st = rcIDLE → s.dev.rcArmCode ≠ 0 → leads .arm s (Claims.armRefused s.dev · s.dev.rcArmCode)) ∧
      (st = rcIDLE → s.dev.rcArmCode = 0 → leads .arm s (fun d => d.rcState = rcARMED ∧ d.rdN RC_WRITTEN = 0 ∧
        d.rc.bytes = s.dev.rcFrameBytes ∧ d.rc.cap = s.dev.rdN RC_BUF_SIZE / s.dev.rcFrameBytes ∧ d.rc.armedAt = s.dev.stamp ∧
        some d.rc.period = ratePeriod (s.dev.get RC_CTRL_RATE) s.dev.clk.len ∧ d.rc.written = 0 ∧ d.rc.frames = [] ∧ d.rc.trig = none ∧
        d.rc.seq = rc.seq ∧ Claims.onlyRecorder s.dev d (fun a => a = RC_STATUS ∨ a = RC_WRITTEN)))) ∧
    (st = rcARMED → leads .rcForce s (fun d => d.rc = { rc with force := true } ∧ { d with rc := rc } = s.dev)) ∧
    (st ≠ rcARMED → leads .rcForce s (Claims.recorderRefused s.dev · 6)) ∧
    (¬ busy → leads .rcStop s (Claims.recorderRefused s.dev · 6)) ∧
    (busy → rc.sendDue = true → leads .rcStop s (· = s.dev)) ∧
    (busy → rc.sendDue = false → rc.opened = [] → leads .rcStop s (fun d =>
      d.rc = { rc with partialRec := true, stopDue := false, sendDue := true, doneAt := s.dev.clk.now } ∧ { d with rc := rc } = s.dev)) ∧
    (busy → rc.sendDue = false → rc.opened ≠ [] → leads .rcStop s (fun d => d.rc = { rc with stopDue := true } ∧ { d with rc := rc } = s.dev)) ∧
    (st ≠ rcHELD → leads .rcRelease s (Claims.recorderRefused s.dev · 6)) ∧
    (st = rcHELD → s.dev.has RC_CTRL_REPEAT = false → leads .rcRelease s (fun d => d.rcState = rcIDLE ∧
      d.rc = { rc with sendDue := false, entry := none, frames := [] } ∧ Claims.onlyRecorder s.dev d (· = RC_STATUS))) ∧
    (¬ Claims.captures s.dev → leads .recorderFrame s (· = s.dev)) ∧
    (Claims.captures s.dev → rc.len ≤ rc.period → s.dev.rcInstant = none → leads .recorderFrame s (· = s.dev)) ∧
    (∀ k, Claims.captures s.dev → s.dev.rcInstant = some k →
      let t := mkStamp s.dev.clk.beat (k * rc.period)
      let old := t ≤ rc.armedAt ∨ rc.lastInst = some (s.dev.clk.beat, k)
      let late := ∃ c ∈ s.dev.rcChannels, s.dev.rcLate c = true
      let next := if rc.period < rc.len then ((List.range 17).map (· * rc.period)).find? (fun x => decide (s.dev.clk.tick < x ∧ x < s.dev.clk.curLen))
        else none
      (old → next = none → leads .recorderFrame s (· = s.dev)) ∧
      (∀ x, old → next = some x → leads .recorderFrame s (fun d => d.clk = { s.dev.clk with now := s.dev.clk.now + (x - s.dev.clk.tick), tick := x })) ∧
      (¬ old → late → s.dev.clk.tick < s.dev.clk.deadline → leads .recorderFrame s (fun d => d.rc.lastInst = some (s.dev.clk.beat, k) ∧
        d.rc.written = rc.written ∧ (∃ f, d.rc.opened = f :: rc.opened ∧ f.stamp = t) ∧ d.bulk = s.dev.bulk ∧ d.regs = s.dev.regs)) ∧
      (¬ old → ¬ late → rc.opened = [] → rc.trig = none → st = rcARMED → (∀ u < 4, s.dev.get (RC_TRG_CTRL_KIND u) = 0) →
        s.dev.get RC_COMB_MODE = 0 → 0 < s.dev.rdN RC_FRAMES → leads .recorderFrame s (fun d => d.rc.lastInst = some (s.dev.clk.beat, k) ∧
          d.rc.written = rc.written + 1 ∧ d.rdN RC_WRITTEN = satU 32 (rc.written + 1) ∧
          (∃ f, d.rc.frames.head? = some f ∧ f.stamp = t ∧ d.bulk = (s.dev.poke (s.dev.rdN RC_BUF_BASE + rc.written % rc.cap * rc.bytes)
            (s.dev.rcFrameData f.vals)).bulk) ∧
          (rc.force = false → d.rcState = rcARMED ∧ d.rc.trig = none ∧ d.rc.sendDue = false) ∧
          (rc.force = true → d.rcState = rcPOST ∧ d.rc.trig = some rc.written ∧ d.rc.forced = true ∧ d.has RC_EVENT_TRIGGER = true ∧
            d.rc.sendDue = decide (s.dev.rdN RC_FRAMES - s.dev.rdN RC_PRE - 1 = 0))))) ∧
    (rc.sendDue = false → leads .recordSend s (· = s.dev)) ∧
    (rc.sendDue = true → s.dev.qFull 6 = true → leads .recordSend s (fun d => d.rcState = rcHELD ∧ onlyRegs s.dev d (· = RC_STATUS))) ∧
    (rc.sendDue = true → s.dev.qFull 6 = false → leads .recordSend s (fun d => d.rcState = rcHELD ∧
      d.rc = { rc with sendDue := false, entry := some (s.dev.get (QU_PROD_INDEX 6)), seq := rc.seq + 1 } ∧
      d.rdN RC_SEQ = rc.seq % 2 ^ 32 ∧ d.has RC_EVENT_RECORD = true ∧ d.qOcc.pick 0 6 = s.dev.qOcc.pick 0 6 + 1 ∧ d.ledger = s.dev.ledger))

/-! ### Device time, ports and PTP (R450–R474) -/

namespace Sys2Proof.Claims

/-- The four registers of a Time112 group hold a stamp in 2⁻¹⁶ ns. -/
def stamped (d : Device) (a : Nat) (t : Int) : Prop := [d.rdN a, d.rdN (a + 4), d.rdN (a + 8), d.rdN (a + 12)] = time112 t.toNat

/-- Only the time unit and registers `A` differ. -/
def onlyTime (d e : Device) (A : Nat → Prop) : Prop := { e with tm := d.tm, regs := d.regs } = d ∧ sameRegs d e A

/-- A quotient in its last place, rounded either way. -/
def nearQuot (q num : Int) (den : Nat) : Prop := (q * den - num).natAbs < den

/-- The parent's Sync reaches the servo: PTP is the source, its delays are known, no step waits and no loss is injected. -/
def servoRuns (d : Device) : Prop :=
  d.tmSource = 1 ∧ d.tm.delays ≠ [] ∧ d.tm.step = none ∧ d.tm.two = none ∧ d.injPending 13 0x20 3 = false

end Sys2Proof.Claims

/-- TB_TM_CMD, holdover and whole seconds (R454, R462–R464, R467, R471, R472). TIME_SET is refused once the clock has left
FREE, and arms the next pulse with PPS as the source; TIME_RESET returns to FREE with F and S 0. A silent source puts the
clock into HOLDOVER with S 0 and F kept; HOLD_QUAL later qualification is lost. A whole second is handled once: PPS_OUT,
the reference errors, the PTP settings, TRANSPARENT, alignment, and a spare reference that differs by more than 200 ppm
fails.
Where the rules leave a point open the clause is the model's choice: notes/assumptions/44. -/
def Obligations.DeviceTimeIsSetHeldAndAligned : Prop :=
  ∀ s : State, s.dev.inReset = false →
    let tm := s.dev.tm
    let st := s.dev.tmState
    let now := s.dev.clk.now
    (st ≠ 0 → leads .timeSet s (fun d => d.get TB_TM_STATUS_REFUSE_LAST = 1 ∧ d.has TB_TM_EVENT_REFUSED = true ∧
      onlyRegs s.dev d (fun a => a = TB_TM_STATUS ∨ a = TB_TM_EVENT))) ∧
    (st = 0 → s.dev.tmSource = 2 → leads .timeSet s (fun d => d.tm = { tm with armed := true } ∧ { d with tm := tm } = s.dev)) ∧
    (st = 0 → s.dev.tmSource ≠ 2 → leads .timeSet s (fun d => { d with tm := tm } = s.dev ∧
      d.tm = { tm with set := some ((s.dev.rdN TB_TM_SET_SEC_LO + 2 ^ 32 * s.dev.rdN TB_TM_SET_SEC_HI) * 1000000000 + s.dev.rdN TB_TM_SET_NS) })) ∧
    leads .timeReset s (fun d => d.tmState = 0 ∧ d.has TB_TM_STATUS_QUALIFIED = false ∧ d.rdN TB_TM_RATE = 0 ∧ d.rdN TB_TM_FREQ = 0 ∧
      d.tm.f = 0 ∧ d.tm.s = 0 ∧ d.tm.off = tm.off ∧ d.tm.step = none ∧ d.tm.armed = false ∧ d.tm.firsts = [] ∧
      Claims.waits d 13 0x20 3 (s.dev.rdN TB_TM_OFFSET) ∧
      sameRegs s.dev d (fun a => a ∈ [TB_TM_STATUS, TB_TM_RATE, TB_TM_FREQ, TB_PHASE_ERR, TB_STATUS])) ∧
    (st ≠ 1 → st ≠ 2 → leads .holdover s (· = s.dev)) ∧
    (st = 1 ∨ st = 2 → s.dev.tmSource ≠ 1 → s.dev.sourceSilent = false → leads .holdover s (· = s.dev)) ∧
    (st = 1 ∨ st = 2 → s.dev.tmSource ≠ 1 → s.dev.sourceSilent = true → leads .holdover s (fun d => d.tmState = 3 ∧
      d.has TB_TM_EVENT_HOLDOVER = true ∧ d.rdN TB_TM_RATE = ofS 32 tm.f ∧ d.rdN TB_TM_FREQ = ofS 32 tm.f ∧
      d.tm = { tm with s := 0, holdAt := now, two := none } ∧
      Claims.onlyTime s.dev d (fun a => a ∈ [TB_TM_STATUS, TB_TM_EVENT, TB_TM_RATE, TB_TM_FREQ]))) ∧
    (let out := st = 3 ∧ s.dev.has TB_TM_STATUS_QUALIFIED = true ∧ tm.holdAt + s.dev.get TB_TM_QUAL_HOLD_QUAL * 100000000 ≤ now
     (¬ out → leads .holdQualTimeout s (· = s.dev)) ∧
     (out → leads .holdQualTimeout s (fun d => d.has TB_TM_STATUS_QUALIFIED = false ∧ d.has TB_TM_EVENT_QUAL_LOST = true ∧ d.tmState = 3 ∧
       d.get TB_PHASE_ERR_ERR = 0 ∧ d.has TB_STATUS_TRIMMING = false ∧ Claims.waits d 13 0x20 3 (s.dev.rdN TB_TM_OFFSET) ∧
       d.tm = { tm with recovering := true, good := 0, bad := 0 }))) ∧
    (∀ refA refB : BitVec 16,
      let pps := s.dev.has TB_TM_CTRL_PPS_EN && (s.dev.has TB_TM_STATUS_QUALIFIED || st == 3 || s.dev.has TB_TM_CTRL_PPS_ALWAYS)
      let align := s.dev.has TB_TRIM_ALIGN_EN = true ∧ s.dev.has TB_TM_STATUS_QUALIFIED = true ∧ s.dev.clk.running = true
      let ref := s.dev.get TB_TM_STATUS_REF
      let far := st = 2 ∧ s.dev.refUsable (1 - ref) = true ∧ 20000 < (refA.toInt - refB.toInt).natAbs
      let back := s.dev.has TB_TM_CTRL_REVERT = true ∧ ref = 1 ∧ s.dev.refUsable 0 = true
      (s.dev.timeNs / 1000000000 = tm.secDone → leads (.wholeSecond refA refB) s (· = s.dev)) ∧
      (s.dev.timeNs / 1000000000 ≠ tm.secDone → leads (.wholeSecond refA refB) s (fun d => d.tm.secDone = s.dev.timeNs / 1000000000 ∧
        d.get TB_REF_ERR_REFA = refA.toNat ∧ d.get TB_REF_ERR_REFB = refB.toNat ∧ d.net.ctrl = s.dev.rd EN_CTRL ∧ d.net.ptp = s.dev.rd EN_PTP ∧
        d.net.mac = s.dev.macAddr ∧ d.has TB_TM_STATUS_TRANSPARENT = s.dev.transparent ∧
        d.tm.ppsOut = (tm.ppsOut || pps) ∧
        (pps = true → d.tm.ppsEnd = now - s.dev.timeNs % 1000000000 / 10 + min 9999 (max 1 (s.dev.get TB_PPS_WIDTH)) * 10000) ∧
        (¬ back ∨ far → d.tm.f = tm.f ∧ d.get TB_TM_STATUS_REF = ref) ∧ (back → ¬ far → d.get TB_TM_STATUS_REF = 0) ∧
        (far → bit d.tm.refFailed (1 - ref) = true ∧ ∃ n, Claims.waits d 13 (1 - ref) 1 n) ∧
        (align → s.dev.phaseErr = 0 → d.has TB_STATUS_ALIGNED = true ∧ d.has TB_STATUS_TRIMMING = false ∧ d.get TB_PHASE_ERR_ERR = 0) ∧
        (align → s.dev.phaseErr ≠ 0 → d.has TB_STATUS_ALIGNED = false ∧ d.has TB_STATUS_TRIMMING = true ∧
          d.get TB_PHASE_ERR_ERR = s.dev.phaseErr % 8192))))

/-- Pulses and references (R469–R474). A PPS_IN or SYNC_IN edge is stamped; with PPS as the source an armed TIME_SET takes
the edge as its second; SYNC_MATCH fires once when device time has reached TB_SYNC_AT; a pulse ends at its time; a
reference that fails is left for the other one, with F corrected.
Where the rules leave a point open the clause is the model's choice: notes/assumptions/8, notes/assumptions/44. -/
def Obligations.PulsesAndReferences : Prop :=
  ∀ s : State, s.dev.inReset = false →
    let tm := s.dev.tm
    let now := s.dev.clk.now
    (∀ sub : Fin 64,
      let t := s.dev.time16 sub
      let shows := fun (d : Device) => Claims.stamped d TB_PPS_IN_SEC_LO t ∧ d.has TB_TM_EVENT_PPS_IN = true
      let group := fun (a : Nat) => a ∈ [TB_PPS_IN_SEC_LO, TB_PPS_IN_SEC_LO + 4, TB_PPS_IN_SEC_LO + 8, TB_PPS_IN_SEC_LO + 12, TB_TM_EVENT]
      (s.dev.tmSource ≠ 2 → leads (.ppsIn sub) s (fun d => shows d ∧ onlyRegs s.dev d group)) ∧
      (s.dev.tmSource = 2 → s.dev.tmState = 0 → tm.armed = false → leads (.ppsIn sub) s (fun d => shows d ∧
        d.tm = { tm with syncAt := now, interval := 1000000000 } ∧ Claims.onlyTime s.dev d group)) ∧
      (s.dev.tmSource = 2 → s.dev.tmState = 0 → tm.armed = true → leads (.ppsIn sub) s (fun d => shows d ∧ d.tmState = 1 ∧
        d.has TB_TM_STATUS_STEPPED = true ∧ d.tm.armed = false ∧ ∃ x, d.tm.step = some x ∧ x % 10 = 0 ∧
          ((x * 65536 - ((s.dev.rdN TB_TM_SET_SEC_LO + 2 ^ 32 * s.dev.rdN TB_TM_SET_SEC_HI : Nat) : Int) * 65536000000000 + t)).natAbs ≤ 5 * 65536)) ∧
      (s.dev.has TB_SYNC_CTRL_IN_EN = false → leads (.syncIn sub) s (· = s.dev)) ∧
      (s.dev.has TB_SYNC_CTRL_IN_EN = true → leads (.syncIn sub) s (fun d => Claims.stamped d TB_SYNC_IN_SEC_LO t ∧
        d.has TB_TM_EVENT_SYNC_IN = true ∧ d.rdN TB_SYNC_CNT = (s.dev.rdN TB_SYNC_CNT + 1) % 2 ^ 32 ∧
        onlyRegs s.dev d (fun a => a ∈ [TB_SYNC_IN_SEC_LO, TB_SYNC_IN_SEC_LO + 4, TB_SYNC_IN_SEC_LO + 8, TB_SYNC_IN_SEC_LO + 12, TB_TM_EVENT,
          TB_SYNC_CNT])))) ∧
    (let match_ := s.dev.get TB_SYNC_CTRL_OUT_MODE = 2 ∧ tm.matched = false ∧ s.dev.syncAtNs ≤ s.dev.timeNs
     (¬ match_ → leads .syncMatch s (· = s.dev)) ∧
     (match_ → leads .syncMatch s (fun d => d.has TB_TM_EVENT_SYNC_MATCH = true ∧ Claims.onlyTime s.dev d (· = TB_TM_EVENT) ∧
       d.tm = { tm with syncOut := true, syncEnd := now + max 2 (s.dev.get TB_SYNC_CTRL_SYNC_W), matched := true }))) ∧
    (tm.ppsOut = true → tm.ppsEnd ≤ now → leads .ppsOutEnd s (fun d => d = { s.dev with tm := { tm with ppsOut := false } })) ∧
    (tm.ppsOut = false ∨ now < tm.ppsEnd → leads .ppsOutEnd s (· = s.dev)) ∧
    (tm.syncOut = true → tm.syncEnd ≤ now → leads .syncOutEnd s (fun d => d = { s.dev with tm := { tm with syncOut := false } })) ∧
    (tm.syncOut = false ∨ now < tm.syncEnd → leads .syncOutEnd s (· = s.dev)) ∧
    (∀ (r : Fin 2) (err : BitVec 32),
      let spare := s.dev.refUsable (1 - r.val) = true
      let used := s.dev.get TB_TM_STATUS_REF = r
      (bit tm.refFailed r = true → leads (.refFail r err) s (· = s.dev)) ∧
      (bit tm.refFailed r = false → leads (.refFail r err) s (fun d => bit d.tm.refFailed r = true ∧
        Claims.waits d 13 r 1 err.toNat ∧
        (used → spare → d.get TB_TM_STATUS_REF = 1 - r.val ∧ d.has TB_TM_STATUS_NO_REF = false ∧ d.has TB_TM_EVENT_REF_SWITCH = true ∧
          ∃ q, Claims.nearQuot q ((s.dev.refErr r - s.dev.refErr (1 - r.val)) * 65536) 100 ∧ d.tm.f = ppm 200 (tm.f + q)) ∧
        (used → ¬ spare → d.get TB_TM_STATUS_REF = r ∧ d.has TB_TM_STATUS_NO_REF = true ∧ d.tm.f = tm.f) ∧
        (¬ used → d.get TB_TM_STATUS_REF = s.dev.get TB_TM_STATUS_REF))))

/-- Ports, switch and PTP messages (R450–R452, R456–R461, R468). A poll shows the link and reports its change; a frame is
counted, learned, dropped or forwarded, a PTP message with the residence time that it carries; the parent's Sync, alone or
with its Follow_Up, gives an offset that locks and steers the clock; a Delay_Resp completes the exchange of its Delay_Req;
an Announce is taken into the BMCA; sent messages are counted and stamped.
Where the rules leave a point open the clause is the model's choice: notes/assumptions/30, notes/assumptions/45. -/
def Obligations.PortsAndPtpMessages : Prop :=
  ∀ s : State, s.dev.inReset = false → ∀ p : Fin 2,
    let tm := s.dev.tm
    let net := s.dev.net
    let now := s.dev.clk.now
    (∀ (link half : Bool) (speed : Fin 4), s.dev.injPending 13 (0x10 + p) 2 = false → leads (.mdioPoll p link speed half) s (fun d =>
      d.has (EN_P_STATUS_LINK p) = (link && !half) ∧ d.get (EN_P_STATUS_SPEED p) = speed ∧ d.has (EN_P_STATUS_DUPLEX_BAD p) = (link && half) ∧
      (s.dev.has (EN_P_STATUS_LINK p) ≠ (link && !half) → Claims.waits d 13 (0x10 + p) 2 (b2n (link && !half))) ∧
      (s.dev.has (EN_P_STATUS_LINK p) = (link && !half) → d.ledger = s.dev.ledger) ∧
      { d with regs := s.dev.regs, ledger := s.dev.ledger } = s.dev ∧ sameRegs s.dev d (· = EN_P_STATUS p))) ∧
    (∀ (fcs : Bool) (fr : List (BitVec 8)),
      let dst := ofBe (slice fr 0 6)
      let src := ofBe (slice fr 6 6)
      let t := (etherType fr).1
      let off := (etherType fr).2
      let kind := ptpType fr off
      let out := (s.dev.learn src p).forwards p fr && s.dev.portUsed (1 - p.val) && s.dev.has (EN_P_STATUS_LINK (1 - p.val))
      let sends := fun (d : Device) (bs : List (BitVec 8)) => Store.get (fun _ => []) d.net.out (1 - p.val) = bs
      (s.dev.portUsed p = false → leads (.frameReceive p fcs fr) s (· = s.dev)) ∧
      (s.dev.portUsed p = true → fcs = false → leads (.frameReceive p fcs fr) s (fun d =>
        d.get (EN_P_ERR_CRC p) = satU 16 (s.dev.get (EN_P_ERR_CRC p) + 1) ∧ onlyRegs s.dev d (· = EN_P_ERR p))) ∧
      (s.dev.portUsed p = true → fcs = true → s.dev.laniferFrame p true fr = none → leads (.frameReceive p fcs fr) s (fun d =>
        d.rdN (EN_P_RXF p) = (s.dev.rdN (EN_P_RXF p) + 1) % 2 ^ 32 ∧ d.net.table = (s.dev.learn src p).net.table ∧
        d.get (EN_P_ERR_DROP p) = (if s.dev.toD dst && t != s.dev.get EN_CTRL_ETYPE && t != 0x88F7 then
          satU 16 (s.dev.get (EN_P_ERR_DROP p) + 1) else s.dev.get (EN_P_ERR_DROP p)) ∧
        d.rdN (EN_P_TXF (1 - p.val)) = (s.dev.rdN (EN_P_TXF (1 - p.val)) + b2n out) % 2 ^ 32 ∧
        (out = false → d.net.out = net.out ∧ d.net.fwd = net.fwd) ∧ (out = true → t ≠ 0x88F7 → sends d fr) ∧
        (out = true → t = 0x88F7 → kind < 4 → ptpTwoStep fr off = false → ∃ res < 2 ^ 64, sends d (addCorrection fr off res)) ∧
        (out = true → t = 0x88F7 → kind < 4 → ptpTwoStep fr off = true → sends d fr ∧
          ∃ x, d.net.fwd.head? = some x ∧ x.port = p ∧ x.type = kind ∧ x.src = ptpSource fr off ∧ x.seq = ptpSeqId fr off) ∧
        (out = true → t = 0x88F7 → 4 ≤ kind → s.dev.transitOf p fr = none → sends d fr) ∧
        (∀ x, out = true → t = 0x88F7 → 4 ≤ kind → s.dev.transitOf p fr = some x → sends d (addCorrection fr off x.res) ∧ x ∉ d.net.fwd) ∧
        { d with net := net, regs := s.dev.regs, free := s.dev.free } = s.dev ∧
        sameRegs s.dev d (fun a => a = EN_P_RXF p ∨ a = EN_P_ERR p ∨ a = EN_P_TXF (1 - p.val))))) ∧
    (∀ (twoStep : Bool) (src : BitVec 80) (seq : BitVec 16) (domain : BitVec 8) (t1 corr : Int) (log : BitVec 8) (sub : Fin 64),
      let c := Instr.sync p twoStep src seq domain t1 corr log sub
      let ours := s.dev.fromParent p src.toNat = true ∧ domain.toNat = bits net.ctrl.toNat 8 7
      let t2 := s.dev.time16 sub - ((s.dev.get (EN_P_LAT_RX_LAT p) * 65536 : Nat) : Int)
      let o := s.dev.tmOffset t1 t2 corr
      let kept := { tm with sync := some (t1, t2, corr), syncAt := now, interval := logInterval log.toInt, two := none }
      let den := max 1 (logInterval log.toInt) * offUnit
      let q := s.dev.get TB_TM_QUAL_QUAL_NS * offUnit
      let good := if o.natAbs ≤ q then tm.good + 1 else 0
      let bad := if 4 * q < o.natAbs then tm.bad + 1 else 0
      let cnt := max 1 (s.dev.get TB_TM_CTRL_QUAL_CNT)
      let qual := s.dev.has TB_TM_STATUS_QUALIFIED
      (¬ ours → leads c s (· = s.dev)) ∧
      (ours → twoStep = true → leads c s (fun d => { d with tm := tm } = s.dev ∧
        d.tm.two = some ⟨p, src.toNat, seq.toNat, t2, corr, logInterval log.toInt, now⟩)) ∧
      (ours → twoStep = false → tm.two = none → s.dev.tmSource ≠ 1 ∨ tm.delays = [] → leads c s (fun d => d = { s.dev with tm := kept })) ∧
      (ours → twoStep = false → Claims.servoRuns s.dev → s.dev.tmState = 0 → tm.firsts.length < 3 → leads c s (fun d =>
        d.tm = { kept with firsts := tm.firsts ++ [(t1, t2)] } ∧ d.tmState = 0 ∧
        ∃ ns, Claims.nearQuot ns o offUnit ∧ d.rdN TB_TM_OFFSET = ofS 32 (satS 32 ns))) ∧
      (ours → twoStep = false → Claims.servoRuns s.dev → s.dev.tmState ≠ 0 → leads c s (fun d =>
        (∃ x y, Claims.nearQuot x (-((s.dev.get TB_TM_SERVO_KI : Nat) : Int) * o * 1000000) den ∧
          Claims.nearQuot y (-((s.dev.get TB_TM_SERVO_KP : Nat) : Int) * o * 1000000) den ∧
          d.tm.f = ppm 200 (tm.f + x) ∧ d.tm.s = ppm 500 y ∧ d.rdN TB_TM_RATE = ofS 32 (d.tm.f + d.tm.s)) ∧
        d.has TB_TM_STATUS_OFFSET_BIG = decide (1000000 * offUnit < o.natAbs) ∧
        (qual = false → good < cnt → d.tm.good = good ∧ d.has TB_TM_STATUS_QUALIFIED = false) ∧
        (qual = false → cnt ≤ good → d.has TB_TM_STATUS_QUALIFIED = true ∧ d.tmState = 2 ∧ d.has TB_TM_EVENT_LOCKED = true) ∧
        (qual = true → bad < cnt → d.tm.bad = bad ∧ d.has TB_TM_STATUS_QUALIFIED = true) ∧
        (qual = true → cnt ≤ bad → d.has TB_TM_STATUS_QUALIFIED = false ∧ d.has TB_TM_EVENT_QUAL_LOST = true)))) ∧
    (∀ (src : BitVec 80) (seq : BitVec 16) (t1 corr : Int),
      let c := Instr.followUp p src seq t1 corr
      (tm.two = none → leads c s (· = s.dev)) ∧
      (∀ w, tm.two = some w → w.port ≠ p ∨ w.src ≠ src.toNat ∨ w.seq ≠ seq.toNat → leads c s (· = s.dev)) ∧
      (∀ w, tm.two = some w → w.port = p → w.src = src.toNat → w.seq = seq.toNat →
        (w.interval < 10 * (now - w.at_) → leads c s (fun d => d = { s.dev with tm := { tm with two := none, firsts := [] } })) ∧
        (10 * (now - w.at_) ≤ w.interval → s.dev.tmSource ≠ 1 ∨ tm.delays = [] → leads c s (fun d => { d with tm := tm } = s.dev ∧
          d.tm = { tm with sync := some (t1, w.t2, w.corr + corr), syncAt := now, interval := w.interval, two := none })))) ∧
    (∀ (src : BitVec 80) (seq : BitVec 16) (t4 corr : Int),
      let c := Instr.delayResp p src seq t4 corr
      (tm.req = none ∨ tm.sync = none → leads c s (· = s.dev)) ∧
      (∀ rp rs t3 t1 t2 cs, tm.req = some (rp, rs, t3) → tm.sync = some (t1, t2, cs) →
        let mine := rp = p ∧ rs = seq.toNat ∧ s.dev.fromParent p src.toNat = true
        let l := (((t2 - t1 - cs) + (t4 - t3 - corr)) :: tm.delays).take 8
        (¬ mine → leads c s (· = s.dev)) ∧
        (mine → leads c s (fun d => d.tm = { tm with req := none, delays := l } ∧
          (∃ ns, Claims.nearQuot ns l.sum (2 * l.length * 65536) ∧ d.rdN (EN_P_MPD p) = ofS 32 ns) ∧
          sameRegs s.dev d (· = EN_P_MPD p))))) ∧
    (∀ (src : BitVec 80) (domain prio1 prio2 log : BitVec 8) (quality : BitVec 32) (gm : BitVec 64) (steps : BitVec 16),
      let c := Instr.announce p src domain prio1 quality prio2 gm steps log
      let takes := s.dev.portUsed p = true ∧ net.mac ≠ 0 ∧ domain.toNat = bits net.ctrl.toNat 8 7 ∧ src.toNat / 65536 ≠ clockId net.mac
      (¬ takes → leads c s (· = s.dev)) ∧
      (takes → leads c s (fun d => (∃ x ∈ d.net.foreign, x.port = p ∧ x.src = src.toNat ∧ x.gm = gm.toNat ∧ x.prio1 = prio1.toNat ∧
          x.quality = quality.toNat ∧ x.prio2 = prio2.toNat ∧ x.steps = steps.toNat ∧ x.interval = logInterval log.toInt ∧
          x.seen.head? = some now) ∧
        (∀ x ∈ net.foreign, x.port ≠ p ∨ x.src ≠ src.toNat → x ∈ d.net.foreign) ∧ d.tm = tm))) ∧
    (∀ (sub : Fin 64),
      let may := net.mac ≠ 0 ∧ s.dev.portUsed p = true
      let slave := s.dev.get (EN_P_STATUS_PTP_STATE p) = 2 ∧ may
      let master := s.dev.get (EN_P_STATUS_PTP_STATE p) = 3 ∧ may
      let sends := fun (d : Device) (kind n : Nat) => d.rdN (EN_P_TXF p) = (s.dev.rdN (EN_P_TXF p) + n) % 2 ^ 32 ∧
        d.net.seqs.pick 0 (4 * p + kind) = (net.seqs.pick 0 (4 * p + kind) + 1) % 65536
      let stamps := fun (d : Device) => (s.dev.qFull 8 = true → d.get EN_Q8_LOST = min 255 (s.dev.get EN_Q8_LOST + 1) ∧
          d.net.q8run = net.q8run + 1) ∧ (s.dev.qFull 8 = false → d.qOcc.pick 0 8 = s.dev.qOcc.pick 0 8 + 1 ∧ d.net.q8run = 0)
      (¬ slave → leads (.delayReq p sub) s (· = s.dev)) ∧
      (slave → leads (.delayReq p sub) s (fun d => sends d 1 1 ∧ stamps d ∧
        d.tm = { tm with req := some (p.val, net.seqs.pick 0 (4 * p + 1),
          s.dev.time16 sub + ((s.dev.get (EN_P_LAT_TX_LAT p) * 65536 : Nat) : Int)) })) ∧
      (¬ master → leads (.syncTransmit p sub) s (· = s.dev) ∧ leads (.announceTransmit p) s (· = s.dev)) ∧
      (master → leads (.syncTransmit p sub) s (fun d => sends d 0 2 ∧ stamps d ∧ d.tm = tm)) ∧
      (master → leads (.announceTransmit p) s (fun d => sends d 2 1 ∧ { d with net := net, regs := s.dev.regs } = s.dev ∧
        sameRegs s.dev d (· = EN_P_TXF p))))

/-! ### The Lanifer protocol (R477–R500) -/

namespace Sys2Proof.Claims

/-- A command reaches an open session straight from its frame: no entry of the session waits on its queue, none on Q0
where that is to be served first, requests are answered, and its SEQ is new (R478–R481, R498, R499). -/
def arrives (d : Device) (q k seq cmd : Nat) : Prop :=
  d.lnEntry q k cmd seq = none ∧ d.lnAnswers = true ∧ k ≠ 0 ∧ (d.ses k).sid ≠ 0 ∧ (d.ses k).isOpen = true ∧ (d.ses k).judge seq = 0

/-- The block once the request's SEQ is accepted; its reply answers the session as it stands. -/
def admitted (d : Device) (k seq : Nat) : Device := ((d.lnDirect k).sesTouch k).sesAccept k seq

/-- A reply left on a port for the sender of the latest request, under a session's identifier. -/
def sent (d : Device) (port sid cmd seq status : Nat) (pl : List (BitVec 8)) : Prop :=
  ∃ r, d.ln.reply = some r ∧ r.port = port ∧ r.dst = d.ln.asked.src ∧ r.tag = d.ln.asked.tag ∧ r.sid = sid ∧ r.cmd = cmd ∧ r.seq = seq ∧ r.status = status ∧ r.payload = pl

/-- The reply was sent, counted, and kept for its SEQ; beside it the block is `e` (R481, R492). -/
def replied (e d : Device) (port k cmd seq status : Nat) (pl : List (BitVec 8)) : Prop :=
  sent d port (e.ses k).sid cmd seq status pl ∧
    (∀ c ∈ (d.ses k).cache, c.1 = seq → c.2 = d.ln.reply) ∧ (d.ses k).placed = (e.ses k).placed + 1 ∧
    { d with ln := e.ln, regs := e.regs, bulk := e.bulk, bulkErr := e.bulkErr } = e ∧
    d.rdN (EN_P_TXF port) = (e.rdN (EN_P_TXF port) + 1) % 2 ^ 32 ∧ sameRegs e d (fun a => a = EN_P_TXF port ∨ a = QU_SEQ 4)

/-- The command is carried out with the status, the reply and the block that its operation gives, and that reply is sent. -/
def serves (s : State) (c : Instr) (port k cmd seq : Nat) (r : Nat × List (BitVec 8) × Device) : Prop :=
  r.2.2.clk = s.dev.clk → (r.2.2.ses k).isOpen = true → (r.2.2.ses k).sid = r.2.2.ln.asked.sid → leads c s (fun d => replied r.2.2 d port k cmd seq r.1 r.2.1)

/-- A DETAIL of four bytes. -/
def four (n : Nat) : List (BitVec 8) := leBytes n 4

/-- What an operation with a refusal code answers: the reply `ok`, or UNIT with the code (R478). -/
def byCode (r : Res) (off : Nat) (ok : Device → List (BitVec 8)) : Nat × List (BitVec 8) × Device :=
  if r.1 = 0 then (0, ok r.2, r.2) else (14, four (r.1 + off), r.2)

/-- What a MOVE with limits answers: the limits' refusal, or what the operation answers with the limits in force (R486). -/
def byLimits (on : Bool) (lim : Res) (a : Device) (off : Nat) (op : Device → Res) (ok : Device → List (BitVec 8)) :
    Nat × List (BitVec 8) × Device :=
  if on then (if lim.1 = 0 then byCode (op lim.2) off ok else (14, four (lim.1 + off), lim.2)) else byCode (op a) off ok

/-- The reply to an accepted MOVE of an axis: STAMP, GEN and ARRIVE, which reads 0 for a jog. -/
def moved_ (k : Nat) (d : Device) : List (BitVec 8) :=
  leBytes d.stamp 8 ++ leBytes ((d.pl k).gen % 65536) 2 ++ leBytes 0 2 ++ leBytes (if (d.pl k).mode = 2 then 0 else d.rdN (AX_PL_ARRIVE k)) 4

/-- The reply to an accepted MOVE of a convoy: STAMP and the GEN of its members. -/
def movedConvoy (c : Nat) (d : Device) : List (BitVec 8) :=
  leBytes d.stamp 8 ++ leBytes (match d.cyMembers c with | [] => 0 | x :: _ => (d.pl x.2).gen % 65536) 2 ++ leBytes 0 2 ++ leBytes 0 4

end Sys2Proof.Claims

/-- Sessions (R479–R482, R495). HELLO takes a free session for a handshake, and is refused BUSY, KEY or BLOCKED; OPEN
opens it for the right proof and else ends it with KEY; a handshake ends after 1 s, an open session after SESSION_TMO, by
CLOSE or by CLOSE_SESSION, and its claims end with it; CLEAR_CNT clears the counts.
Where the rules leave a point open the clause is the model's choice: notes/assumptions/47. -/
def Obligations.LaniferSessionsOpenAndClose : Prop :=
  ∀ s : State, s.dev.inReset = false →
    let now := s.dev.clk.now
    let gone := fun (d : Device) (k : Nat) => d.ses k = {} ∧ d.has QU_LN_EVENT_CLOSED = true ∧
      (∀ q < 16, s.dev.get (QU_STATUS_CLAIM q) = k → d.get (QU_STATUS_CLAIM q) = 0) ∧ ∀ j, j ≠ k → d.ses j = s.dev.ses j
    (∀ (port : Fin 2) (src : BitVec 48) (seq : BitVec 32) (keyId : BitVec 8) (nh : List (BitVec 8)),
      let c := Instr.hello port src seq keyId nh
      let free := [1, 2, 3, 4].find? (fun k => (s.dev.ses k).sid == 0)
      let key := Store.get (fun _ => []) s.dev.ln.keys keyId.toNat
      s.dev.lnEntry 2 0 1 seq.toNat = none → s.dev.lnAnswers = true → (s.dev.ses 0).isOpen = false →
        (free = none → leads c s (fun d => Claims.sent d port 0 1 seq.toNat 11 (Claims.four 0) ∧ d.ln.sessions = s.dev.ln.sessions)) ∧
        (free ≠ none → key = [] → leads c s (fun d => Claims.sent d port 0 1 seq.toNat 12 (Claims.four keyId.toNat) ∧
          d.ln.sessions = s.dev.ln.sessions ∧ d.get QU_LN_CNT_KEY_FAIL = satU 16 (s.dev.get QU_LN_CNT_KEY_FAIL + 1))) ∧
        (free ≠ none → key ≠ [] → 0 < s.dev.lnBlocked src.toNat → leads c s (fun d =>
          Claims.sent d port 0 1 seq.toNat 13 (Claims.four (cdiv (s.dev.lnBlocked src.toNat) 100000000)) ∧
          d.ln.sessions = s.dev.ln.sessions)) ∧
        (∀ k, free = some k → key ≠ [] → s.dev.lnBlocked src.toNat = 0 → leads c s (fun d =>
          Claims.sent d port 0 1 seq.toNat 0 (leBytes (d.ses k).sid 4 ++ (d.ses k).nd) ∧ (d.ses k).sid ≠ 0 ∧ (d.ses k).nd.length = 16 ∧
          (d.ses k).isOpen = false ∧ (d.ses k).key = keyId.toNat ∧ (d.ses k).nh = nh ∧ (d.ses k).at_ = now ∧
          (∀ j ∈ [1, 2, 3, 4], j ≠ k → (s.dev.ses j).sid ≠ 0 → (d.ses k).sid ≠ (s.dev.ses j).sid) ∧ ∀ j, j ≠ k → d.ses j = s.dev.ses j))) ∧
    (∀ (port : Fin 2) (src : BitVec 48) (k : Fin 5) (seq : BitVec 32) (proof : List (BitVec 8)),
      let c := Instr.openSession port src k seq proof
      let q := s.dev.ses k
      let key := Store.get (fun _ => []) s.dev.ln.keys q.key
      let right := proof = hmac key (label "LNF-H" ++ q.nd ++ q.nh ++ leBytes q.sid 4)
      k.val ≠ 0 → s.dev.lnEntry 2 k 2 seq.toNat = none → s.dev.lnAnswers = true →
        (q.sid = 0 ∨ q.isOpen = true → leads c s (fun d => Claims.sent d port 0 2 seq.toNat 3 (Claims.four q.sid) ∧
          d.ln.sessions = s.dev.ln.sessions)) ∧
        (q.sid ≠ 0 → q.isOpen = false → ¬ right → leads c s (fun d => Claims.sent d port 0 2 seq.toNat 12 (Claims.four q.key) ∧
          d.ses k = {} ∧ d.get QU_LN_CNT_KEY_FAIL = satU 16 (s.dev.get QU_LN_CNT_KEY_FAIL + 1) ∧ d.has QU_LN_EVENT_AUTH_FAIL = true ∧
          Claims.waits d 13 0x30 5 (src.toNat % 2 ^ 32))) ∧
        (q.sid ≠ 0 → q.isOpen = false → right → leads c s (fun d => d.has QU_LN_EVENT_OPENED = true ∧
          d.ses k = { q with isOpen := true, ks := hmac key (label "LNF-S" ++ q.nh ++ q.nd ++ leBytes q.sid 4), at_ := now } ∧
          d.hold.pick {} k = {} ∧ (∀ j, j ≠ k.val → d.ses j = s.dev.ses j) ∧
          Claims.sent d port q.sid 2 seq.toNat 0 (hmac key (label "LNF-D" ++ q.nh ++ q.nd ++ leBytes q.sid 4))))) ∧
    (∀ (port : Fin 2) (k : Fin 5) (seq : BitVec 32), Claims.arrives s.dev 2 k seq.toNat 3 → leads (.close port k seq) s (fun d =>
      gone d k ∧ Claims.sent d port (s.dev.ses k).sid 3 seq.toNat 0 [])) ∧
    (∀ k : Fin 5,
      let q := s.dev.ses k
      let late := q.sid ≠ 0 ∧ q.isOpen = false ∧ q.at_ + 100000000 ≤ now
      let idle := q.isOpen = true ∧ q.at_ + max 1 (s.dev.get QU_LN_CTRL_SESSION_TMO) * 100000000 ≤ now
      k.val ≠ 0 →
        (late → leads (.handshakeTimeout k) s (fun d => d.ses k = {} ∧ ∀ j, j ≠ k.val → d.ses j = s.dev.ses j)) ∧
        (¬ late → leads (.handshakeTimeout k) s (· = s.dev)) ∧
        (idle → leads (.sessionTimeout k) s (gone · k)) ∧ (¬ idle → leads (.sessionTimeout k) s (· = s.dev))) ∧
    (∀ k : BitVec 4,
      let live := 1 ≤ k.toNat ∧ k.toNat ≤ 4 ∧ (s.dev.ses k.toNat).isOpen = true
      (live → leads (.closeSession k) s (gone · k.toNat)) ∧ (¬ live → leads (.closeSession k) s (· = s.dev))) ∧
    leads .lnClearCnt s (fun d => d.rd QU_LN_CNT = 0 ∧ (∀ q < 16, d.rd (QU_LOST q) = 0) ∧
      onlyRegs s.dev d (fun a => a = QU_LN_CNT ∨ ∃ q < 16, a = QU_LOST q))

/-- Access, tables, flash and queues (R484, R485, R489–R491, R559). In an open session each command does what its
operation on the block gives: the words read or written one by one in rising order within one region, a table's shadow
bytes or its commit, a flash operation, the entries pulled, freed or placed; its reply carries the status and is sent,
counted and kept. Session 0 may only read.
Where the rules leave a point open the clause is the model's choice: notes/assumptions/46, notes/assumptions/47. -/
def Obligations.LaniferAccessTablesAndQueues : Prop :=
  ∀ s : State, s.dev.inReset = false → ∀ (port : Fin 2) (k : Fin 5) (seq : BitVec 32),
    let n := seq.toNat
    let a := Claims.admitted s.dev k n
    (∀ ad : BitVec 32, Claims.arrives s.dev 2 k n 0x10 →
      let r := a.busRead k ad.toNat
      (r.2.1 = 0 → Claims.serves s (.read port k seq ad) port k 0x10 n (0, leBytes ad.toNat 4 ++ leBytes r.1.toNat 4, r.2.2)) ∧
      (r.2.1 = 1 → Claims.serves s (.read port k seq ad) port k 0x10 n (11, Claims.four 0, r.2.2)) ∧
      (r.2.1 = 2 → Claims.serves s (.read port k seq ad) port k 0x10 n (8, Claims.four ad.toNat, r.2.2)) ∧
      (r.2.1 = 3 → Claims.serves s (.read port k seq ad) port k 0x10 n (9, Claims.four ad.toNat, r.2.2))) ∧
    (∀ ad : BitVec 32, k = 0 → s.dev.lnEntry 2 0 0x10 n = none → s.dev.lnAnswers = true → s.dev.has QU_LN_CTRL_OPEN_READ = false →
      leads (.read port k seq ad) s (fun d => Claims.sent d port 0 0x10 n 6 (Claims.four 0) ∧ d.ln.sessions = s.dev.ln.sessions ∧
        d.bulk = s.dev.bulk)) ∧
    (∀ ad v : BitVec 32, Claims.arrives s.dev 2 k n 0x11 →
      let r := a.busWrite k ad.toNat v
      (r.1 = 0 → Claims.serves s (.write port k seq ad v) port k 0x11 n (0, leBytes ad.toNat 4, r.2)) ∧
      (r.1 = 2 → Claims.serves s (.write port k seq ad v) port k 0x11 n (8, Claims.four ad.toNat, r.2))) ∧
    (∀ (ad : BitVec 32) (count : BitVec 16), Claims.arrives s.dev 3 k n 0x12 →
      let c := Instr.readBlock port k seq ad count
      let m := count.toNat
      let r := a.lnReads k ad.toNat m
      let data := leBytes ad.toNat 4 ++ leBytes m 2 ++ leBytes 0 2 ++ leBytes r.2.2.2.2.stamp 8 ++ r.1.flatMap (fun v => leBytes v.toNat 4)
      let fits := 1 ≤ m ∧ m ≤ 363
      (¬ fits → Claims.serves s c port k 0x12 n (7, Claims.four 4, a)) ∧
      (fits → a.lnBlockOk ad.toNat m = false → Claims.serves s c port k 0x12 n (7, Claims.four 0, a)) ∧
      (fits → a.lnBlockOk ad.toNat m = true → ad.toNat % 4 ≠ 0 → Claims.serves s c port k 0x12 n (8, Claims.four ad.toNat, a)) ∧
      (fits → a.lnBlockOk ad.toNat m = true → ad.toNat % 4 = 0 → r.2.1 = none → r.2.2.1 = none → r.2.2.2.1 = false →
        Claims.serves s c port k 0x12 n (0, data, r.2.2.2.2)) ∧
      (∀ x, fits → a.lnBlockOk ad.toNat m = true → ad.toNat % 4 = 0 → r.2.1 = some x →
        Claims.serves s c port k 0x12 n (8, Claims.four x ++ data, r.2.2.2.2))) ∧
    (∀ (ad : BitVec 32) (vs : List (BitVec 32)), Claims.arrives s.dev 3 k n 0x13 → 1 ≤ vs.length → vs.length ≤ 365 →
      let c := Instr.writeBlock port k seq ad vs
      let r := a.lnWrites k ad.toNat vs
      let done := leBytes ad.toNat 4 ++ leBytes vs.length 2
      (a.lnBlockOk ad.toNat vs.length = false → Claims.serves s c port k 0x13 n (7, Claims.four 0, a)) ∧
      (a.lnBlockOk ad.toNat vs.length = true → ad.toNat % 4 ≠ 0 → Claims.serves s c port k 0x13 n (8, Claims.four ad.toNat, a)) ∧
      (a.lnBlockOk ad.toNat vs.length = true → ad.toNat % 4 = 0 →
        (r.1 = none → Claims.serves s c port k 0x13 n (0, done, r.2)) ∧
        (∀ x, r.1 = some x → Claims.serves s c port k 0x13 n (8, Claims.four x ++ done, r.2)))) ∧
    (∀ (table : BitVec 16) (off : BitVec 32) (bs : List (BitVec 8)), Claims.arrives s.dev 3 k n 0x20 →
      let c := Instr.tableLoad port k seq table off bs
      let i := table.toNat
      let fits := i < tableCount ∧ off.toNat + bs.length ≤ a.rdN (GL_TD_SIZE i)
      let busy := a.has (GL_TD_STATE_PENDING i) = true ∨ a.has (GL_TD_STATE_DEFERRED i) = true
      (¬ fits → Claims.serves s c port k 0x20 n (7, Claims.four (if tableCount ≤ i then 0 else 4), a)) ∧
      (fits → busy → Claims.serves s c port k 0x20 n (11, Claims.four 0, a)) ∧
      (fits → ¬ busy → Claims.serves s c port k 0x20 n (0, [], a.poke (a.tblShadow i + off.toNat) bs))) ∧
    (∀ table : BitVec 16, Claims.arrives s.dev 2 k n 0x21 →
      let c := Instr.tableCommit port k seq table
      let i := table.toNat
      let r := a.tblRequest i
      (tableCount ≤ i → Claims.serves s c port k 0x21 n (7, Claims.four 0, a)) ∧
      (i < tableCount → r.1 = .next → Claims.serves s c port k 0x21 n (0, [1], r.2)) ∧
      (i < tableCount → r.1 = .deferred → Claims.serves s c port k 0x21 n (0, [2], r.2)) ∧
      (i < tableCount → r.1 = .bad → Claims.serves s c port k 0x21 n (14, Claims.four 1, r.2)) ∧
      (i < tableCount → r.1 = .busy → Claims.serves s c port k 0x21 n (11, Claims.four 0, r.2))) ∧
    (∀ (flash : BitVec 8) (ad sectors : BitVec 32) (bs : List (BitVec 8)),
      (Claims.arrives s.dev 3 k n 0x50 → 1 < flash.toNat → Claims.serves s (.flashWrite port k seq flash ad bs) port k 0x50 n (7, Claims.four 0, a)) ∧
      (Claims.arrives s.dev 3 k n 0x50 → flash.toNat ≤ 1 →
        Claims.serves s (.flashWrite port k seq flash ad bs) port k 0x50 n (Claims.byCode (a.flWrite flash.toNat ad.toNat bs) 0 (fun _ => []))) ∧
      (Claims.arrives s.dev 3 k n 0x51 → 1 < flash.toNat →
        Claims.serves s (.flashErase port k seq flash ad sectors) port k 0x51 n (7, Claims.four 0, a)) ∧
      (Claims.arrives s.dev 3 k n 0x51 → flash.toNat ≤ 1 → Claims.serves s (.flashErase port k seq flash ad sectors) port k 0x51 n
        (Claims.byCode (a.flEraseOp flash.toNat ad.toNat sectors.toNat) 0 (fun _ => [])))) ∧
    (∀ (queue : BitVec 8) (claim : Bool) (most : BitVec 16) (first : BitVec 32), Claims.arrives s.dev 2 k n 0x40 →
      let c := Instr.pull port k seq queue claim most first
      let q := queue.toNat
      let known := q ∈ [5, 6, 7, 8, 11, 12, 14, 15]
      let fits := 1 ≤ most.toNat ∧ most.toNat ≤ 64
      let holder := a.get (QU_STATUS_CLAIM q)
      let d0 := if claim then a.put (QU_STATUS_CLAIM q) k else a
      (¬ known → Claims.serves s c port k 0x40 n (7, Claims.four 0, a)) ∧
      (known → ¬ fits → Claims.serves s c port k 0x40 n (7, Claims.four 2, a)) ∧
      (known → fits → claim = true → holder ≠ 0 → holder ≠ k → Claims.serves s c port k 0x40 n (11, Claims.four 0, a)) ∧
      (known → fits → (claim = true → holder = 0 ∨ holder = k) → d0.hostEntries q = [] → first.toNat ≠ 0xFFFFFFFF →
        Claims.serves s c port k 0x40 n (0, leBytes 0 2 ++ leBytes 0 2 ++ leBytes first.toNat 4, d0)) ∧
      (∀ i, known → fits → (claim = true → holder = 0 ∨ holder = k) → d0.hostEntries q = [i] → first.toNat = 0xFFFFFFFF →
        let e := d0.pullEntry q i
        e.1.length ≤ 1460 → Claims.serves s c port k 0x40 n
          (0, leBytes 1 2 ++ leBytes 0 2 ++ leBytes (d0.peekN (d0.qBase q + 32 * i + 4) 4 + 1) 4 ++ e.1, e.2))) ∧
    (∀ (queue : BitVec 8) (upto : BitVec 32), Claims.arrives s.dev 2 k n 0x41 →
      let c := Instr.ack port k seq queue upto
      let q := queue.toNat
      let known := q ∈ [5, 6, 7, 8, 11, 12, 14, 15]
      (¬ known → Claims.serves s c port k 0x41 n (7, Claims.four 0, a)) ∧
      (known → a.get (QU_STATUS_CLAIM q) ≠ k → Claims.serves s c port k 0x41 n (11, Claims.four 0, a)) ∧
      (known → a.get (QU_STATUS_CLAIM q) = k → a.hostEntries q = [] → Claims.serves s c port k 0x41 n (0, [], a)) ∧
      (∀ i, known → q ≠ 6 → a.get (QU_STATUS_CLAIM q) = k → a.hostEntries q = [i] →
        a.peekN (a.qBase q + 32 * i + 4) 4 = upto.toNat → Claims.serves s c port k 0x41 n (0, [], a.qFree q i))) ∧
    (∀ (queue : BitVec 8) (target : BitVec 32) (pl : List (BitVec 8)), Claims.arrives s.dev 2 k n 0x42 →
      let c := Instr.push port k seq queue target pl
      let q := queue.toNat
      let sized := (q = 9 ∨ q = 10 → pl.length = 72) ∧ (q = 15 → pl.length = 16) ∧
        (q = 13 → 8 ≤ pl.length ∧ pl.length ≤ 1032 ∧ pl.length % 8 = 0)
      (q ∉ [9, 10, 13, 15] → Claims.serves s c port k 0x42 n (7, Claims.four 0, a)) ∧
      (q ∈ [9, 10, 13, 15] → ¬ sized → Claims.serves s c port k 0x42 n (7, Claims.four 2, a)) ∧
      (q ∈ [9, 10, 13] → sized → target.toNat ≠ 0 → Claims.serves s c port k 0x42 n (7, Claims.four 4, a)) ∧
      (q ∈ [9, 10, 13] → sized → target.toNat = 0 → a.qFull q = true → Claims.serves s c port k 0x42 n (10, Claims.four q, a)) ∧
      (q ∈ [9, 10, 13] → sized → target.toNat = 0 → a.qFull q = false →
        Claims.serves s c port k 0x42 n (0, leBytes (a.rdN (QU_SEQ q)) 4, a.qAddAny q 0 0 pl)))

/-- MOVE, STOP and ITIN (R486–R488). In an open session a MOVE with LIMITS first brings the masked limits into force, at
the rank of the operation that carries them, and then does what the planner's or the convoy's operation does, answering
STAMP, GEN and ARRIVE or the refusal's code; a STOP does what HOLD, STOP or QSTOP of its target does, for all targets at
once with their number; ITIN changes the flags and then acts as IT_CMD.
Where the rules leave a point open the clause is the model's choice: notes/assumptions/47. -/
def Obligations.LaniferMovesStopsAndItineraries : Prop :=
  ∀ s : State, s.dev.inReset = false → ∀ (port : Fin 2) (k : Fin 5) (seq : BitVec 32),
    let n := seq.toNat
    let a := Claims.admitted s.dev k n
    (∀ (id : BitVec 8) (rel on : Bool) (v : BitVec 64) (mask : BitVec 16) (lims : BitVec 512), Claims.arrives s.dev 1 k n 0x30 →
      let x := id.toNat
      let lim := fun (rank : Nat) => (a.limAxis x ⟨on, mask.toNat, lims.toNat⟩).plLimits x rank
      let bad := fun (c : Instr) => Claims.serves s c port k 0x30 n (7, Claims.four 1, a)
      let does := fun (c : Instr) (rank : Nat) (op : Device → Res) =>
        Claims.serves s c port k 0x30 n (Claims.byLimits on (lim rank) a 0 op (Claims.moved_ x))
      (191 < x → bad (.moveGo port k seq id rel v on mask lims) ∧ bad (.moveJog port k seq id v on mask lims) ∧
        bad (.moveShift port k seq id v on mask lims) ∧ bad (.moveResume port k seq false id on mask lims)) ∧
      (x ≤ 191 → does (.moveGo port k seq id rel v on mask lims) 8
          (fun d => d.plGo x (if rel then toS 64 (ofS 64 ((d.pl x).cur.posOut + v.toInt)) else v.toInt)) ∧
        does (.moveJog port k seq id v on mask lims) 8 (fun d => d.plJog x v.toInt) ∧
        does (.moveShift port k seq id v on mask lims) 7 (fun d => d.plShift x v.toInt) ∧
        does (.moveResume port k seq false id on mask lims) 5 (fun d => d.plResume x))) ∧
    (∀ (id : BitVec 8) (on : Bool) (mask : BitVec 16) (lims : BitVec 512) (bs : List (BitVec 8)), Claims.arrives s.dev 1 k n 0x30 →
      let x := id.toNat
      let lim := (a.limConvoy x ⟨on, mask.toNat, lims.toNat⟩).cyLimits x
      let segs := (List.range (bs.length / 208)).map (fun i => segOf (slice bs (208 * i) 208))
      (31 < x → Claims.serves s (.moveResume port k seq true id on mask lims) port k 0x30 n (7, Claims.four 1, a)) ∧
      (x ≤ 31 → Claims.serves s (.moveResume port k seq true id on mask lims) port k 0x30 n
        (Claims.byLimits on lim a 256 (fun d => d.cyResume x) (Claims.movedConvoy x))) ∧
      (1 ≤ bs.length / 208 → bs.length / 208 ≤ 6 → x ≤ 31 → Claims.serves s (.moveSegments port k seq id bs on mask lims) port k 0x30 n
        (Claims.byLimits on lim a 256 (fun d => d.cySegments x segs) (Claims.movedConvoy x))) ∧
      (¬ (1 ≤ bs.length / 208 ∧ bs.length / 208 ≤ 6) →
        Claims.serves s (.moveSegments port k seq id bs on mask lims) port k 0x30 n (7, Claims.four 6, a))) ∧
    (∀ (tgt id : BitVec 8), Claims.arrives s.dev 0 k n 0x31 →
      let x := id.toNat
      let axes := (List.range 192).filter (fun j => [plMOVING, plJOGGING, plHOLDING, plHELD].contains (a.plState j))
      let cys := (List.range 32).filter (fun j => [cyRUNNING, cyHOLDING, cyHELD].contains (a.cyState j))
      let stops := fun (c : Instr) (op : Nat) =>
        (2 < tgt.toNat → Claims.serves s c port k 0x31 n (7, Claims.four 0, a)) ∧
        ((tgt = 0 ∧ 191 < x) ∨ (tgt = 1 ∧ 31 < x) → Claims.serves s c port k 0x31 n (7, Claims.four 1, a)) ∧
        (tgt = 0 → x ≤ 191 → Claims.serves s c port k 0x31 n (Claims.byCode (a.plStopOp op x) 0 (fun _ => []))) ∧
        (tgt = 1 → x ≤ 31 → Claims.serves s c port k 0x31 n (Claims.byCode (a.cyStopOp op x) 256 (fun _ => []))) ∧
        (tgt = 2 → axes = [] → cys = [] → Claims.serves s c port k 0x31 n (0, leBytes 0 2, a)) ∧
        (∀ j, tgt = 2 → axes = [j] → cys = [] → Claims.serves s c port k 0x31 n (0, leBytes 1 2, (a.plStopOp op j).2))
      stops (.stopCmdHold port k seq tgt id) 4 ∧ stops (.stopCmdStop port k seq tgt id) 6 ∧ stops (.stopCmdQstop port k seq tgt id) 7) ∧
    (∀ (id st : BitVec 8) (atState : Bool) (set clr : BitVec 32),
      let x := id.toNat
      let w := (a.rd (IT_FLAGS x) ||| set) &&& ~~~clr
      let b := (a.wr (IT_FLAGS x) w).put (IT_STATUS_REFUSE_LAST x) 0
      let old := a.get (IT_STATUS_REFUSE_LAST x)
      let does := fun (c : Instr) (q : Nat) (after : Device) => Claims.arrives s.dev q k n 0x38 →
        (63 < x → Claims.serves s c port k 0x38 n (7, Claims.four 0, a)) ∧
        (x ≤ 63 → after.get (IT_STATUS_REFUSE_LAST x) = 0 →
          Claims.serves s c port k 0x38 n (0, [], after.put (IT_STATUS_REFUSE_LAST x) old)) ∧
        (x ≤ 63 → after.get (IT_STATUS_REFUSE_LAST x) ≠ 0 →
          Claims.serves s c port k 0x38 n (14, Claims.four (after.get (IT_STATUS_REFUSE_LAST x)), after))
      does (.itinFlags port k seq id set clr) 1 (b.itCmdWrite x 0) ∧
      does (.itinStart port k seq id st atState set clr) 1 (b.itCmdWrite x (1 + b2n atState * 16 + st.toNat * 256)) ∧
      does (.itinPause port k seq id set clr) 0 (b.itCmdWrite x 2) ∧
      does (.itinContinue port k seq id set clr) 1 (b.itCmdWrite x 4) ∧
      does (.itinAbort port k seq id set clr) 0 (b.itCmdWrite x 8))

/-! ### Flash ports and key-hash slots (R515–R522, R538, R539) -/

namespace Sys2Proof.Claims

/-- A command of a flash port refused with a code. -/
def portRefused_ (d e : Device) (p code : Nat) : Prop :=
  e.get (XS_STATUS_REFUSE_LAST p) = code ∧ e.has (XS_EVENT_REFUSED p) = true ∧ onlyRegs d e (fun a => a = XS_STATUS p ∨ a = XS_EVENT p)

/-- Nothing but the flash store, its ports and buffer and registers `A` differs. -/
def onlyBoot (d e : Device) (A : Nat → Prop) : Prop := { e with boot := d.boot, regs := d.regs } = d ∧ sameRegs d e A

/-- The registers of flash port `p` that an operation writes. -/
def opRegs (p : Nat) (a : Nat) : Prop := a ∈ [XS_STATUS p, XS_EVENT p, XS_OP p, XS_OP_ADDR p]

/-- An operation of a flash port ended with a RESULT (R520). -/
def opEnded (d e : Device) (p result : Nat) : Prop :=
  e.fl p = { d.fl p with op := 0, data := [] } ∧ e.get (XS_STATUS_OP p) = 0 ∧ e.get (XS_OP_RESULT p) = result ∧ e.get (XS_OP_REMAIN p) = 0 ∧
    (if result = 2 then e.has (XS_EVENT_DONE p) = true else e.has (XS_EVENT_FAILED p) = true) ∧ e.fl (1 - p) = d.fl (1 - p)

/-- An operation of a flash port began (R520, R522, R538). -/
def opBegins (d e : Device) (p units : Nat) (q : FlPort) : Prop :=
  e.fl p = q ∧ e.get (XS_STATUS_OP p) = min 3 q.op ∧ e.get (XS_OP_RESULT p) = 1 ∧ e.get (XS_OP_REMAIN p) = units ∧
    e.has (XS_STATUS_CONT_ACTIVE p) = false ∧ e.fl (1 - p) = d.fl (1 - p) ∧ (∀ a, e.flByte 0 a = d.flByte 0 a ∧ e.flByte 1 a = d.flByte 1 a) ∧
    onlyBoot d e (opRegs p)

end Sys2Proof.Claims

/-- The flash ports (R518–R522, R538, R539). A mapped read touches its line or starts a fill, which ends with the line's
64 bytes or a read error; a program or erase that is done leaves its bytes in flash, a failed one gives the place, and it
times out only after its time; STAGE and VERIFY start unless refused, and end with the CRC's or the check's result; a
key-hash slot is programmed once and revoked only when programmed.
Where the rules leave a point open the clause is the model's choice: notes/assumptions/33, notes/assumptions/34, notes/assumptions/35. -/
def Obligations.FlashReadsOperationsAndSlots : Prop :=
  ∀ s : State, s.dev.inReset = false →
    (∀ p : Fin 2,
      let q := s.dev.fl p
      let lines := s.dev.boot.lines
      (∀ (result : Fin 5) (at_ : BitVec 32), q.op ≠ 1 → q.op ≠ 2 → leads (.flashOpDone p result at_) s (· = s.dev)) ∧
      (∀ at_ : BitVec 32, q.op = 1 → q.data.length = q.count → q.addr + q.count ≤ flWindow → leads (.flashOpDone p 2 at_) s (fun d =>
        Claims.opEnded s.dev d p 2 ∧ d.flBytes p q.addr q.count = q.data ∧ (∀ x ∈ d.boot.lines, x.port ≠ p) ∧
        (∀ a, a < q.addr ∨ q.addr + q.count ≤ a → d.flByte p a = s.dev.flByte p a) ∧ Claims.onlyBoot s.dev d (Claims.opRegs p))) ∧
      (∀ at_ : BitVec 32, q.op = 2 → q.addr + q.count ≤ flWindow → leads (.flashOpDone p 2 at_) s (fun d =>
        Claims.opEnded s.dev d p 2 ∧ (∀ i < q.count, d.flByte p (q.addr + i) = 0xFF) ∧
        (∀ a < flWindow, a < q.addr ∨ q.addr + q.count ≤ a → d.flByte p a = s.dev.flByte p a) ∧ Claims.onlyBoot s.dev d (Claims.opRegs p))) ∧
      (∀ at_ : BitVec 32, q.op = 1 ∨ q.op = 2 → leads (.flashOpDone p 3 at_) s (fun d => Claims.opEnded s.dev d p 3 ∧
        d.rdN (XS_OP_ADDR p) = (q.addr + min q.count (at_.toNat - q.addr)) % 2 ^ 32)) ∧
      (∀ (result : Fin 5) (at_ : BitVec 32), result.val ≠ 2 → result.val ≠ 3 → s.dev.clk.now < q.startAt + flLimit q.op →
        leads (.flashOpDone p result at_) s (· = s.dev)) ∧
      (∀ at_ : BitVec 32, q.op = 1 ∨ q.op = 2 → q.startAt + flLimit q.op ≤ s.dev.clk.now → leads (.flashOpDone p 4 at_) s (fun d => Claims.opEnded s.dev d p 4 ∧
        d.rdN (XS_OP_ADDR p) = at_.toNat)) ∧
      (∀ a : BitVec 26,
        let r := s.dev.flServing p
        let base := a.toNat / 64 * 64
        let hit := ∃ x ∈ lines, x.port = r ∧ x.addr = base
        let works := (s.dev.fl r).op = 1 ∨ (s.dev.fl r).op = 2
        let fills := fun (d : Device) => d.boot.lines = lineRoom lines ++ [⟨r, base, false, [], s.dev.clk.now, true⟩]
        (hit → leads (.mappedRead p a) s (fun d => d.boot.lines.map (fun x => (x.port, x.addr, x.valid, x.data)) =
          lines.map (fun x => (x.port, x.addr, x.valid, x.data)) ∧ (∀ x ∈ d.boot.lines, x.port = r → x.addr = base → x.used = s.dev.clk.now) ∧
          { d with boot := s.dev.boot } = s.dev)) ∧
        (¬ hit → works → s.dev.has (XS_CTRL_SUSPEND r) = false → leads (.mappedRead p a) s (· = s.dev)) ∧
        (¬ hit → works → s.dev.has (XS_CTRL_SUSPEND r) = true → leads (.mappedRead p a) s (fun d => fills d ∧
          d.has (XS_EVENT_SUSPENDED r) = true ∧ Claims.onlyBoot s.dev d (· = XS_EVENT r))) ∧
        (¬ hit → ¬ works → leads (.mappedRead p a) s (fun d => fills d ∧ { d with boot := s.dev.boot } = s.dev))) ∧
      (∀ (a : BitVec 26) (err : Bool), (∀ x ∈ lines, x.port = p → x.addr = a.toNat → x.valid = true) →
        leads (.lineFill p a err) s (· = s.dev)) ∧
      (∀ (a : BitVec 26) (x : FlLine), lines = [x] → x.port = p → x.addr = a.toNat → x.valid = false → s.dev.injPending 14 (0x10 + p) 5 = false →
        let next := x.miss = true ∧ q.op = 0 ∧ a.toNat + 64 < flWindow
        let more : List FlLine := if x.miss && q.op == 0 && decide (a.toNat + 64 < flWindow) then [⟨p, a.toNat + 64, false, [], s.dev.clk.now, false⟩] else []
        (s.dev.has (XS_CTRL_EN p) = true → leads (.lineFill p a false) s (fun d => d.boot.lines = { x with valid := true, data := s.dev.flBytes p a.toNat 64 } :: more ∧
          (next → more.length = 1) ∧ Claims.onlyBoot s.dev d (· = XS_STATUS p))) ∧
        (∀ err : Bool, (s.dev.has (XS_CTRL_EN p) = true → err = true) → leads (.lineFill p a err) s (fun d => d.boot.lines = more ∧ d.has (XS_EVENT_READ_ERR p) = true ∧
          Claims.waits d 14 (0x10 + p) 5 a.toNat ∧ sameRegs s.dev d (fun b => b = XS_STATUS p ∨ b = XS_EVENT p)))) ∧
      (let i := s.dev.get XS_STAGE_TBL_INDEX
       let len := s.dev.rdN XS_STAGE_LEN
       let pend := i < tableCount ∧ (s.dev.has (GL_TD_STATE_PENDING i) = true ∨ s.dev.has (GL_TD_STATE_DEFERRED i) = true)
       let bad := tableCount ≤ i ∨ s.dev.rdN (GL_TD_SIZE i) < len
       (q.op ≠ 0 ∨ pend → leads (.xsStage p) s (Claims.portRefused_ s.dev · p 1)) ∧
       (q.op = 0 → ¬ pend → bad → leads (.xsStage p) s (Claims.portRefused_ s.dev · p 3)) ∧
       (q.op = 0 → ¬ pend → ¬ bad → q.fenced = true → leads (.xsStage p) s (Claims.portRefused_ s.dev · p 5)) ∧
       (q.op = 0 → ¬ pend → ¬ bad → q.fenced = false → leads (.xsStage p) s (fun d => Claims.opBegins s.dev d p 0
         { q with op := 3, addr := s.dev.rdN XS_STAGE_SRC, count := len, table := i, crc := s.dev.rdN XS_STAGE_CRC, startAt := s.dev.clk.now }))) ∧
      (q.op ≠ 3 → leads (.xsStageDone p) s (· = s.dev)) ∧
      (q.op = 3 →
        let bs := s.dev.flBytes p q.addr q.count
        leads (.xsStageDone p) s (fun d => Claims.opEnded s.dev d p (if crc32 bs = q.crc then 2 else 5) ∧
          d.bulk = (s.dev.poke (s.dev.tblShadow q.table) bs).bulk ∧ sameRegs s.dev d (Claims.opRegs p))) ∧
      (q.op ≠ 0 → leads (.verify p) s (Claims.portRefused_ s.dev · p 1)) ∧
      (q.op = 0 → leads (.verify p) s (fun d => Claims.opBegins s.dev d p 0 { q with op := 4, startAt := s.dev.clk.now } ∧ d.boot.lines = lines)) ∧
      (∀ (err : Bool) (at_ : BitVec 32),
        (q.op ≠ 4 → leads (.verifyDone p err at_) s (· = s.dev)) ∧
        (q.op = 4 → leads (.verifyDone p err at_) s (fun d => Claims.opEnded s.dev d p 2 ∧
          d.get XS_VERIFY_RESULT = (s.dev.mfCheck p err).code % 256 ∧ d.get XS_VERIFY_GEN = mfGen (s.dev.mfHeader p) % 65536 ∧
          (err = true → d.has (XS_EVENT_READ_ERR p) = true ∧ Claims.waits d 14 (0x10 + p) 5 at_.toNat) ∧
          (err = false → Claims.onlyBoot s.dev d (fun b => Claims.opRegs p b ∨ b = XS_VERIFY)))))) ∧
    (∀ k : Fin 4,
      let written := bit (s.dev.get XS_OTP_STATE_PROGRAMMED) k
      (written = true → leads (.program k) s (Claims.portRefused_ s.dev · 0 1)) ∧
      (written = false → leads (.program k) s (fun d => bit (d.get XS_OTP_STATE_PROGRAMMED) k = true ∧
        (∀ j < 8, ∀ i < 4, Store.get (fun _ => (0 : BitVec 8)) d.boot.otp (32 * k + (4 * j + i)) =
          (leBytes (Store.get (fun _ => (0 : BitVec 32)) s.dev.boot.otpData j).toNat 4).getD i 0) ∧
        (∀ a, a < 32 * k.val ∨ 32 * k.val + 32 ≤ a → Store.get (fun _ => (0 : BitVec 8)) d.boot.otp a = Store.get (fun _ => (0 : BitVec 8)) s.dev.boot.otp a) ∧
        { d with boot := { d.boot with otp := s.dev.boot.otp }, regs := s.dev.regs } = s.dev ∧ sameRegs s.dev d (· = XS_OTP_STATE))) ∧
      (written = false → leads (.revoke k) s (Claims.portRefused_ s.dev · 0 1)) ∧
      (written = true → leads (.revoke k) s (fun d => bit (d.get XS_OTP_STATE_REVOKED) k = true ∧
        d.get XS_OTP_STATE_PROGRAMMED = s.dev.get XS_OTP_STATE_PROGRAMMED ∧ onlyRegs s.dev d (· = XS_OTP_STATE))))

/-! ### The message bus (R501–R513) -/

namespace Sys2Proof.Claims

/-- A command of a controller refused with a code. -/
def canRefused (d e : Device) (b code : Nat) : Prop :=
  e.get (CF_STATUS_REFUSE_LAST b) = code ∧ e.has (CF_EVENT_REFUSED b) = true ∧ onlyRegs d e (fun a => a = CF_STATUS b ∨ a = CF_EVENT b)

/-- Nothing but controller `b`, its registers and messages to the ledger differs. -/
def onlyCan (d e : Device) (b : Nat) : Prop :=
  (∀ j, j ≠ b → e.can j = d.can j) ∧ { e with cans := d.cans, regs := d.regs, ledger := d.ledger } = d ∧
    sameRegs d e (fun a => CF_CTRL b ≤ a ∧ a < CF_CTRL b + 0x800)

/-- No injection waits for controller `b`. -/
def canCalm (d : Device) (b : Nat) : Prop := ∀ k ∈ [1, 2, 3], d.injPending 14 b k = false

/-- STATE by the error counters (R513): bus-off above 255, error passive above 127. -/
def stateBy (tec rec_ : Nat) : Nat := if 255 < tec then 4 else if 127 < tec ∨ 127 < rec_ then 3 else 2

end Sys2Proof.Claims

/-- Enabling and the states of a controller (R502, R504, R505, R513).  EN = 1 with good timing starts integration, which ends
error active; a frame in progress aside, EN = 0 discards FIFO and reference message; RECOVER acts in bus-off, whose end clears the
error counters; an error while receiving and a protocol exception act by the counters and FD_EN; CLEAR_CNT clears the counts.
Where the rules leave a point open the clause is the model's choice: notes/assumptions/31, notes/assumptions/32. -/
def Obligations.CanControllerStates : Prop :=
  ∀ s : State, s.dev.inReset = false → ∀ b : Fin 2,
    let q := s.dev.can b
    let st := s.dev.canState b
    let on := st = 2 ∨ st = 3
    let tec := s.dev.get (CF_ERRC_TEC b)
    let rec_ := s.dev.get (CF_ERRC_REC b)
    (∀ rest : BitVec 31,
      let w := (1 + 2 * rest.toNat) &&& 0x7B
      (s.dev.has (CF_CTRL_EN b) = true → w / 2 = s.dev.rdN (CF_CTRL b) / 2 → leads (.canEnable b rest) s (· = s.dev)) ∧
      (s.dev.has (CF_CTRL_EN b) = true → w / 2 ≠ s.dev.rdN (CF_CTRL b) / 2 → leads (.canEnable b rest) s (Claims.canRefused s.dev · b 1)) ∧
      (s.dev.has (CF_CTRL_EN b) = false → s.dev.canTimingOk b = true → q.fenced = false → leads (.canEnable b rest) s (fun d =>
        d.rdN (CF_CTRL b) = w ∧ d.canState b = 1 ∧ d.rdN (CF_ERRC b) = 0 ∧ d.ledger = s.dev.ledger ∧ Claims.onlyCan s.dev d b)) ∧
      (s.dev.has (CF_CTRL_EN b) = false → s.dev.canTimingOk b = false → leads (.canEnable b rest) s (fun d =>
        d.rdN (CF_CTRL b) = w / 2 * 2 ∧ d.canState b = st ∧ d.get (CF_STATUS_REFUSE_LAST b) = 2 ∧ d.cans = s.dev.cans))) ∧
    (∀ rest : BitVec 31,
      let w := (2 * rest.toNat) &&& 0x7B
      (s.dev.has (CF_CTRL_EN b) = false → leads (.canDisable b rest) s (fun d => d.rdN (CF_CTRL b) = w ∧ onlyRegs s.dev d (· = CF_CTRL b))) ∧
      (s.dev.has (CF_CTRL_EN b) = true → q.fenced = false → leads (.canDisable b rest) s (fun d => d.has (CF_CTRL_EN b) = false ∧
        d.canState b = 0 ∧ (d.can b).fifo.length ≤ 1 ∧ (∀ x ∈ (d.can b).fifo, q.fifo.head? = some x) ∧ (d.can b).flying = none ∧
        (st ≠ 2 → st ≠ 3 → (d.can b).fifo = [] ∧ (d.can b).ref = none) ∧ ((d.can b).fifo.length < q.fifo.length →
          d.has (CF_EVENT_FLUSHED b) = true ∧ d.get (CF_TX_DROP_FLUSHED b) =
            satU 16 (s.dev.get (CF_TX_DROP_FLUSHED b) + (q.fifo.length - (d.can b).fifo.length))) ∧
        ∀ j, j ≠ b.val → d.can j = s.dev.can j))) ∧
    (st ≠ 1 → leads (.integrationDone b) s (· = s.dev)) ∧
    (st = 1 → Claims.canCalm s.dev b → leads (.integrationDone b) s (fun d => d.canState b = Claims.stateBy tec rec_ ∧
      (Claims.stateBy tec rec_ = 2 → onlyRegs s.dev d (· = CF_STATUS b)))) ∧
    (st = 4 → leads (.canRecover b) s (fun d => d.can b = { q with recovering := true } ∧ { d with cans := s.dev.cans } = s.dev)) ∧
    (st ≠ 4 → leads (.canRecover b) s (Claims.canRefused s.dev · b 4)) ∧
    (st = 4 → q.recovering = true → leads (.busOffRecovered b) s (fun d => d.canState b = 2 ∧ d.has (CF_EVENT_RECOVERED b) = true ∧
      d.rdN (CF_ERRC b) = 0 ∧ d.can b = { q with recovering := false } ∧ Claims.onlyCan s.dev d b)) ∧
    (st ≠ 4 ∨ q.recovering = false → leads (.busOffRecovered b) s (· = s.dev)) ∧
    leads (.cfClearCnt b) s (fun d => d.rd (CF_RX_DROP b) = 0 ∧ d.rd (CF_TX_DROP b) = 0 ∧ d.rd (CF_TX_WAIT b) = 0 ∧ d.get (CF_REF_CNT_LATE b) = 0 ∧
      d.get (CF_REF_CNT_SENT b) = s.dev.get (CF_REF_CNT_SENT b) ∧ (∀ f < 64, d.rd (CF_FLT_CNT b f) = 0) ∧
      onlyRegs s.dev d (fun a => a ∈ [CF_RX_DROP b, CF_TX_DROP b, CF_TX_WAIT b, CF_REF_CNT b] ∨ ∃ f < 64, a = CF_FLT_CNT b f)) ∧
    (on → s.dev.has (CF_CTRL_FD_EN b) = true → leads (.protocolException b) s (fun d => d.canState b = 1 ∧
      d.has (CF_EVENT_PROTOCOL_EXC b) = true ∧ onlyRegs s.dev d (fun a => a = CF_STATUS b ∨ a = CF_EVENT b))) ∧
    (¬ on ∨ s.dev.has (CF_CTRL_FD_EN b) = false → leads (.protocolException b) s (· = s.dev)) ∧
    (∀ eight : Bool,
      let r := min 65535 (rec_ + if eight then 8 else 1)
      (¬ on → leads (.canRxError b eight) s (· = s.dev)) ∧
      (on → Claims.canCalm s.dev b → leads (.canRxError b eight) s (fun d => d.get (CF_ERRC_REC b) = r ∧ d.get (CF_ERRC_TEC b) = tec ∧
        d.canState b = Claims.stateBy tec r ∧
        (st = 2 → Claims.stateBy tec r = 3 → d.has (CF_EVENT_ERR_PASSIVE b) = true ∧ Claims.waits d 14 b 1 (d.rdN (CF_ERRC b))) ∧
        (Claims.stateBy tec r = 4 → d.has (CF_EVENT_BUS_OFF b) = true ∧ Claims.waits d 14 b 2 (d.rdN (CF_ERRC b))))))

/-- Frames and cycles (R506–R512). The oldest entry of the queue is copied behind the FIFO and freed, or dropped; the head
that was sent is counted and leaves; the reference message becomes pending at each new cycle and records its start when
sent; a received frame goes with its stamp to the queue of the lowest filter that matches it, or is dropped and counted.
Where the rules leave a point open the clause is the model's choice: notes/assumptions/31, notes/assumptions/32. -/
def Obligations.CanFramesAndCycles : Prop :=
  ∀ s : State, s.dev.inReset = false → ∀ b : Fin 2,
    let q := s.dev.can b
    let now := s.dev.clk.now
    let on := s.dev.canOn b = true
    let sends := s.dev.canSends b = true
    (¬ sends ∨ 32 ≤ q.fifo.length ∨ s.dev.qLive (9 + b) = [] → leads (.txCopy b) s (· = s.dev)) ∧
    (∀ i is, sends → q.fifo.length < 32 → s.dev.qLive (9 + b) = i :: is →
      let e := (s.dev.qRead (9 + b) i).1
      let id := leAt e.payload 0 4
      let info := leAt e.payload 4 4
      let bad := info / 16 ≠ 0 ∨ (bit id 30 = true ∧ s.dev.has (CF_CTRL_FD_EN b) = false)
      (e.ok = true → bad → leads (.txCopy b) s (fun d => d.cans = s.dev.cans ∧ d.has (CF_EVENT_REFUSED b) = true ∧
        d.get (CF_TX_DROP_BAD b) = satU 16 (s.dev.get (CF_TX_DROP_BAD b) + 1))) ∧
      (e.ok = true → ¬ bad → leads (.txCopy b) s (fun d => d.can b = { q with fifo := q.fifo ++ [⟨id, info, slice e.payload 8 64, now⟩] } ∧
        d.get (CF_STATUS_FIFO b) = q.fifo.length + 1 ∧ ∀ j, j ≠ b.val → d.can j = s.dev.can j))) ∧
    (∀ (ok : Bool) (sof : BitVec 32) (tdcv : BitVec 8), q.wire = 0 →
      (¬ sends ∨ q.fifo = [] → leads (.canFrameSent b false ok sof tdcv) s (· = s.dev)) ∧
      (∀ x xs, sends → q.fifo = x :: xs → Claims.canCalm s.dev b → Claims.stateBy (s.dev.get (CF_ERRC_TEC b) + 8) (s.dev.get (CF_ERRC_REC b)) ≠ 4 →
        (ok = true → leads (.canFrameSent b false ok sof tdcv) s (fun d => (d.can b).fifo = headNow now xs ∧
          d.rdN (CF_TX_CNT b) = (s.dev.rdN (CF_TX_CNT b) + 1) % 2 ^ 32 ∧ d.get (CF_ERRC_TEC b) = s.dev.get (CF_ERRC_TEC b) - 1 ∧
          d.get (CF_TX_WAIT_MAX_US b) = min 65535 (max ((now - sof.toNat - x.headAt) / 100) (s.dev.get (CF_TX_WAIT_MAX_US b))) ∧
          Claims.onlyCan s.dev d b)) ∧
        (ok = false → leads (.canFrameSent b false ok sof tdcv) s (fun d => d.can b = q ∧
          d.get (CF_ERRC_TEC b) = s.dev.get (CF_ERRC_TEC b) + 8 ∧ Claims.onlyCan s.dev d b))) ∧
      (∀ bs, sends → q.ref = some bs → q.flying = none → Claims.canCalm s.dev b → ok = true → leads (.canFrameSent b true ok sof tdcv) s (fun d =>
        (d.can b).ref = none ∧ (d.can b).delay = some (s.dev.timeNs - 10 * sof.toNat - q.cycleAt) ∧ (d.can b).fifo = q.fifo ∧
        d.get (CF_REF_CNT_SENT b) = (s.dev.get (CF_REF_CNT_SENT b) + 1) % 65536 ∧
        d.rdN (CF_TX_CNT b) = (s.dev.rdN (CF_TX_CNT b) + 1) % 2 ^ 32 ∧ d.has (CF_STATUS_REF_PEND b) = false))) ∧
    (∀ started : BitVec 32,
      let us := s.dev.get (CF_CYCLE_CYCLE_US b)
      let start := s.dev.timeNs / (us * 1000) * (us * 1000)
      let st := s.dev.canState b
      let may := us ≠ 0 ∧ q.cycleAt < start ∧ q.stepNs ≤ start ∧ s.dev.has (CF_CTRL_REF_EN b) = true ∧ s.dev.has (CF_CTRL_LISTEN b) = false ∧
        1 ≤ st ∧ st ≤ 4
      (¬ may → leads (.cycleStart b started) s (· = s.dev)) ∧
      (may → q.ref = none → leads (.cycleStart b started) s (fun d =>
        d.can b = { q with ref := some (s.dev.refPayload b start q.stepped q.delay), cycleAt := start, delay := none, flying := none } ∧
        d.has (CF_STATUS_REF_PEND b) = true ∧ d.rd (CF_REF_CNT b) = s.dev.rd (CF_REF_CNT b) ∧ Claims.onlyCan s.dev d b)) ∧
      (∀ bs, may → on → q.ref = some bs → started = 0 → leads (.cycleStart b started) s (fun d => (d.can b).cycleAt = start ∧
        (d.can b).ref = some (s.dev.refPayload b start q.stepped q.delay) ∧ d.has (CF_EVENT_REF_LATE b) = true ∧
        d.get (CF_REF_CNT_LATE b) = satU 16 (s.dev.get (CF_REF_CNT_LATE b) + 1) ∧ Claims.onlyCan s.dev d b))) ∧
    (∀ (id : BitVec 32) (dlc : Fin 16) (esi rtr : Bool) (data : List (BitVec 8)) (sof : BitVec 32),
      let c := Instr.canFrameReceived b id dlc esi rtr data sof
      let n := id.toNat
      let fd := bit n 30
      let ident := if bit n 29 then bits n 0 29 else bits n 0 11
      let hit := s.dev.canFilter b (bit n 29) ident
      let counted := fun (d : Device) => d.rdN (CF_RX_CNT b) = (s.dev.rdN (CF_RX_CNT b) + 1) % 2 ^ 32
      let takes := on ∧ (fd = true → s.dev.has (CF_CTRL_FD_EN b) = true) ∧ s.dev.get (CF_ERRC_REC b) = 0 ∧ Claims.canCalm s.dev b
      (¬ on → q.stoppedAt = none → leads c s (· = s.dev)) ∧
      (takes → rtr = true ∨ hit = none → leads c s (fun d => counted d ∧ d.cans = s.dev.cans ∧
        d.get (CF_RX_DROP_NO_MATCH b) = satU 16 (s.dev.get (CF_RX_DROP_NO_MATCH b) + 1) ∧ d.qOcc = s.dev.qOcc)) ∧
      (∀ f, takes → rtr = false → hit = some f → s.dev.get (CF_FLT_DEST_KIND b f) < 2 →
        (s.dev.qFull (11 + b) = false → leads c s (fun d => counted d ∧ d.qOcc.pick 0 (11 + b) = s.dev.qOcc.pick 0 (11 + b) + 1 ∧
          d.get (CF_FLT_CNT_HITS b f) = (s.dev.get (CF_FLT_CNT_HITS b f) + 1) % 2 ^ 32 ∧ (d.can b).lossRun = false ∧ d.ledger = s.dev.ledger)) ∧
        (s.dev.qFull (11 + b) = true → leads c s (fun d => counted d ∧ d.has (CF_EVENT_RX_OVF b) = true ∧ (d.can b).lossRun = true ∧
          d.get (CF_RX_DROP_OVF b) = satU 16 (s.dev.get (CF_RX_DROP_OVF b) + 1) ∧ d.qOcc = s.dev.qOcc ∧
          (q.lossRun = false → Claims.waits d 14 b 3 (s.dev.rdN (CF_ERRC b))) ∧ (q.lossRun = true → d.ledger = s.dev.ledger)))))

/-! ### Measurements and the JTAG port (R544, R554, R557, R558) -/

namespace Sys2Proof.Claims

/-- A TAP instruction is in effect: the boundary cells drive the pins, or leave them, only under EXTEST, CLAMP and HIGHZ, and
DEVICE_RESET's hold lasts only under those three and itself. -/
def tapHas (d e : Device) (code : Nat) : Prop :=
  e.pkg.ir = code ∧ e.pkg.driven = (code == 0 || code == 3) ∧ e.pkg.highz = (code == 4) ∧
    e.pkg.jtagHold = (d.pkg.jtagHold && [0, 3, 4, 0x10].contains code)

/-- Nothing but the package differs. -/
def onlyPkg (d e : Device) : Prop := { e with pkg := d.pkg } = d

/-- A TAP instruction completes: the waiting commands stay, and time goes on but for a reset. -/
def taps (c : Instr) (s : State) (P : Device → Prop) : Prop := ∃ t, exec c s = .next t ∧ t.pending = s.pending ∧ P t.dev

end Sys2Proof.Claims

/-- Supplies, temperature and JTAG (R544, R554, R557, R558). Each measurement is shown, an excursion is reported at its
first measurement and ends by its hysteresis. Each TAP instruction selects its data register; EXTEST, CLAMP and HIGHZ act
under DEVICE_RESET alone and are BYPASS otherwise; DEVICE_RESET resets and holds the logic side; REG_ACCESS shifts out the
access before and carries out the next.
Where the rules leave a point open the clause is the model's choice: notes/assumptions/49. -/
def Obligations.MeasurementsAndJtag : Prop :=
  ∀ s : State,
    let pk := s.dev.pkg
    (∀ (vcore vddpll : BitVec 16) (low : BitVec 9), s.dev.inReset = false → s.dev.injPending 0 0 1 = false → s.dev.injPending 0 0 2 = false →
      let bad := vcore.toNat < 720 ∨ 880 < vcore.toNat
      leads (.vmonMeasure vcore vddpll low) s (fun d => d.get GL_VMON_VCORE = vcore.toNat ∧ d.get GL_VMON_VDDPLL = vddpll.toNat ∧
        d.get GL_IO_BANK_LOW = low.toNat ∧
        (bad → d.pkg.vcoreOut = true ∧ d.pkg.vcoreRun = 0) ∧
        (bad → pk.vcoreOut = false → d.has GL_HEALTH_EVENT_VCORE = true ∧ Claims.waits d 0 0 1 vcore.toNat) ∧
        (¬ bad → d.pkg.vcoreRun = min 10 (pk.vcoreRun + 1) ∧ d.pkg.vcoreOut = (pk.vcoreOut && decide (pk.vcoreRun + 1 < 10))) ∧
        (∀ b < 9, bit d.pkg.bankLow b = (bit low.toNat b || (bit pk.bankLow b && decide (pk.bankRun.pick 0 b + 1 < 10)))) ∧
        ((∃ b < 9, bit low.toNat b = true ∧ bit pk.bankLow b = false) → d.has GL_HEALTH_EVENT_VDDIO = true ∧
          ∃ m ∈ d.ledger.waiting, m.cls = 0 ∧ m.inst = 0 ∧ m.kind = 2) ∧
        (low = 0 → ¬ bad → d.ledger = s.dev.ledger))) ∧
    (∀ tj : BitVec 16, s.dev.inReset = false → s.dev.injPending 0 0 3 = false → s.dev.injPending 0 0 4 = false →
      let t := tj.toInt
      let high := 105 * 128 < t ∨ (pk.tempHigh = true ∧ 103 * 128 < t)
      let crit := 115 * 128 < t ∨ (pk.tempCrit = true ∧ 113 * 128 < t)
      leads (.tempMeasure tj) s (fun d => d.get GL_TEMP_TJ = tj.toNat ∧ d.pkg.tempSeen = true ∧
        d.getS GL_TEMP_PEAK = (if pk.tempSeen then max t (s.dev.getS GL_TEMP_PEAK) else t) ∧
        (d.pkg.tempHigh = true ↔ high) ∧ (d.pkg.tempCrit = true ↔ crit) ∧
        (high → pk.tempHigh = false → d.has GL_HEALTH_EVENT_TEMP_HIGH = true ∧ Claims.waits d 0 0 3 (ofS 32 t)) ∧
        (crit → pk.tempCrit = false → d.has GL_HEALTH_EVENT_TEMP_CRIT = true ∧ Claims.waits d 0 0 4 (ofS 32 t)) ∧
        ((high → pk.tempHigh = true) → (crit → pk.tempCrit = true) → d.ledger = s.dev.ledger))) ∧
    (let identifies := fun (d : Device) => Claims.tapHas s.dev d 2 ∧ d.pkg.dr = BitVec.ofNat 317 0x1C192B4F ∧ Claims.onlyPkg s.dev d
     Claims.taps .tapReset s identifies ∧ Claims.taps .idcode s identifies) ∧
    Claims.taps .bypass s (fun d => Claims.tapHas s.dev d 0xFF ∧ d.pkg.dr = 0 ∧ Claims.onlyPkg s.dev d) ∧
    (∀ pins scan : BitVec 317,
      Claims.taps (.samplePreload pins scan) s (fun d => Claims.tapHas s.dev d 1 ∧ d.pkg.dr = pins ∧ d.pkg.bsr = scan &&& ~~~stoCells ∧
        Claims.onlyPkg s.dev d) ∧
      (pk.jtagHold = true → Claims.taps (.extest pins scan) s (fun d => Claims.tapHas s.dev d 0 ∧ d.pkg.dr = pins &&& ~~~stoCells ∧
        d.pkg.bsr = scan &&& ~~~stoCells ∧ Claims.onlyPkg s.dev d)) ∧
      (pk.jtagHold = false → Claims.taps (.extest pins scan) s (fun d => Claims.tapHas s.dev d 0xFF ∧ d.pkg.dr = 0 ∧ d.pkg.bsr = pk.bsr ∧
        Claims.onlyPkg s.dev d))) ∧
    (let held := fun (code : Nat) (d : Device) => Claims.tapHas s.dev d code ∧ d.pkg.dr = 0 ∧ d.pkg.bsr = pk.bsr ∧ Claims.onlyPkg s.dev d
     (pk.jtagHold = true → Claims.taps .jtagClamp s (held 3) ∧ Claims.taps .highz s (held 4)) ∧
     (pk.jtagHold = false → Claims.taps .jtagClamp s (held 0xFF) ∧ Claims.taps .highz s (held 0xFF))) ∧
    (pk.jtagHold = true → Claims.taps .deviceReset s (fun d => Claims.tapHas s.dev d 0x10 ∧ Claims.onlyPkg s.dev d)) ∧
    (pk.jtagHold = false → Claims.taps .deviceReset s (fun d => d.pkg.ir = 0x10 ∧ d.pkg.jtagHold = true ∧ d.inReset = true ∧
      d.get XS_RESET_CAUSE_CAUSE = causeAfter (s.dev.get XS_RESET_CAUSE_CAUSE) 8 ∧ d.clk = {} ∧ d.engines = [] ∧ d.planners = [] ∧ d.bulk = [])) ∧
    (∀ word : BitVec 66,
      let op := bits word.toNat 64 2
      let ad := bits word.toNat 32 32
      let v : BitVec 32 := word.setWidth 32
      let base := { s.dev with pkg := { pk with ir := 0x11, jtagHold := false, driven := false, highz := false, dr := pk.acc.setWidth 317 } }
      let r := base.busRead 5 ad
      let w := base.busWrite 5 ad v
      (pk.porHold = true ∨ pk.testEn = true ∨ (op ≠ 1 ∧ op ≠ 2) → Claims.taps (.regAccess word) s (fun d => d = base)) ∧
      (pk.porHold = false → pk.testEn = false → op = 1 → r.2.1 ≠ 1 → r.2.2.clk = s.dev.clk → Claims.taps (.regAccess word) s (fun d =>
        d.pkg.acc = accWord r.2.1 ad r.1 ∧ { d with pkg := r.2.2.pkg } = r.2.2 ∧ d.pkg.dr = r.2.2.pkg.dr)) ∧
      (pk.porHold = false → pk.testEn = false → op = 2 → w.2.clk = s.dev.clk → Claims.taps (.regAccess word) s (fun d =>
        bits d.pkg.acc.toNat 64 2 = w.1 % 4 ∧ bits d.pkg.acc.toNat 32 32 = ad ∧
        { d with pkg := w.2.pkg, free := w.2.free } = w.2)))
end

