-- ==== Sys2Proof/Laws/State.lean ====
section
/-! SUPPORT. What each update of the block leaves alone: one lemma per field and update, each true by definition. -/

namespace Sys2Proof.Machine

/-! still -/
@[simp] theorem Device.still_clk (d : Device) (f : Device → Device) : (d.still f).clk = d.clk := rfl

/-! setClk -/
@[simp] theorem Device.setClk_regs (d : Device) (f : Clock → Clock) : (d.setClk f).regs = d.regs := rfl
@[simp] theorem Device.setClk_hold (d : Device) (f : Clock → Clock) : (d.setClk f).hold = d.hold := rfl
@[simp] theorem Device.setClk_bulk (d : Device) (f : Clock → Clock) : (d.setClk f).bulk = d.bulk := rfl
@[simp] theorem Device.setClk_bulkErr (d : Device) (f : Clock → Clock) : (d.setClk f).bulkErr = d.bulkErr := rfl
@[simp] theorem Device.setClk_mem (d : Device) (f : Clock → Clock) : (d.setClk f).mem = d.mem := rfl
@[simp] theorem Device.setClk_ledger (d : Device) (f : Clock → Clock) : (d.setClk f).ledger = d.ledger := rfl
@[simp] theorem Device.setClk_test (d : Device) (f : Clock → Clock) : (d.setClk f).test = d.test := rfl
@[simp] theorem Device.setClk_tables (d : Device) (f : Clock → Clock) : (d.setClk f).tables = d.tables := rfl
@[simp] theorem Device.setClk_qOcc (d : Device) (f : Clock → Clock) : (d.setClk f).qOcc = d.qOcc := rfl
@[simp] theorem Device.setClk_qGap (d : Device) (f : Clock → Clock) : (d.setClk f).qGap = d.qGap := rfl
@[simp] theorem Device.setClk_free (d : Device) (f : Clock → Clock) : (d.setClk f).free = d.free := rfl
@[simp] theorem Device.setClk_planners (d : Device) (f : Clock → Clock) : (d.setClk f).planners = d.planners := rfl
@[simp] theorem Device.setClk_plTicks (d : Device) (f : Clock → Clock) : (d.setClk f).plTicks = d.plTicks := rfl
@[simp] theorem Device.setClk_live (d : Device) (f : Clock → Clock) : (d.setClk f).live = d.live := rfl
@[simp] theorem Device.setClk_miles (d : Device) (f : Clock → Clock) : (d.setClk f).miles = d.miles := rfl
@[simp] theorem Device.setClk_latches (d : Device) (f : Clock → Clock) : (d.setClk f).latches = d.latches := rfl
@[simp] theorem Device.setClk_convoys (d : Device) (f : Clock → Clock) : (d.setClk f).convoys = d.convoys := rfl
@[simp] theorem Device.setClk_gantries (d : Device) (f : Clock → Clock) : (d.setClk f).gantries = d.gantries := rfl
@[simp] theorem Device.setClk_gens (d : Device) (f : Clock → Clock) : (d.setClk f).gens = d.gens := rfl
@[simp] theorem Device.setClk_ports (d : Device) (f : Clock → Clock) : (d.setClk f).ports = d.ports := rfl
@[simp] theorem Device.setClk_fbs (d : Device) (f : Clock → Clock) : (d.setClk f).fbs = d.fbs := rfl
@[simp] theorem Device.setClk_axes (d : Device) (f : Clock → Clock) : (d.setClk f).axes = d.axes := rfl
@[simp] theorem Device.setClk_lp (d : Device) (f : Clock → Clock) : (d.setClk f).lp = d.lp := rfl
@[simp] theorem Device.setClk_lpPend (d : Device) (f : Clock → Clock) : (d.setClk f).lpPend = d.lpPend := rfl
@[simp] theorem Device.setClk_engines (d : Device) (f : Clock → Clock) : (d.setClk f).engines = d.engines := rfl
@[simp] theorem Device.setClk_chains (d : Device) (f : Clock → Clock) : (d.setClk f).chains = d.chains := rfl
@[simp] theorem Device.setClk_pairs (d : Device) (f : Clock → Clock) : (d.setClk f).pairs = d.pairs := rfl
@[simp] theorem Device.setClk_md (d : Device) (f : Clock → Clock) : (d.setClk f).md = d.md := rfl
@[simp] theorem Device.setClk_fioCh (d : Device) (f : Clock → Clock) : (d.setClk f).fioCh = d.fioCh := rfl
@[simp] theorem Device.setClk_fioGrp (d : Device) (f : Clock → Clock) : (d.setClk f).fioGrp = d.fioGrp := rfl
@[simp] theorem Device.setClk_field (d : Device) (f : Clock → Clock) : (d.setClk f).field = d.field := rfl
@[simp] theorem Device.setClk_itins (d : Device) (f : Clock → Clock) : (d.setClk f).itins = d.itins := rfl
@[simp] theorem Device.setClk_it (d : Device) (f : Clock → Clock) : (d.setClk f).it = d.it := rfl
@[simp] theorem Device.setClk_cv (d : Device) (f : Clock → Clock) : (d.setClk f).cv = d.cv := rfl
@[simp] theorem Device.setClk_tg (d : Device) (f : Clock → Clock) : (d.setClk f).tg = d.tg := rfl
@[simp] theorem Device.setClk_tm (d : Device) (f : Clock → Clock) : (d.setClk f).tm = d.tm := rfl
@[simp] theorem Device.setClk_net (d : Device) (f : Clock → Clock) : (d.setClk f).net = d.net := rfl
@[simp] theorem Device.setClk_cans (d : Device) (f : Clock → Clock) : (d.setClk f).cans = d.cans := rfl
@[simp] theorem Device.setClk_boot (d : Device) (f : Clock → Clock) : (d.setClk f).boot = d.boot := rfl
@[simp] theorem Device.setClk_ln (d : Device) (f : Clock → Clock) : (d.setClk f).ln = d.ln := rfl
@[simp] theorem Device.setClk_rc (d : Device) (f : Clock → Clock) : (d.setClk f).rc = d.rc := rfl
@[simp] theorem Device.setClk_pkg (d : Device) (f : Clock → Clock) : (d.setClk f).pkg = d.pkg := rfl

/-! wr -/
@[simp] theorem Device.wr_clk (d : Device) (a : Nat) (v : BitVec 32) : (d.wr a v).clk = d.clk := rfl
@[simp] theorem Device.wr_hold (d : Device) (a : Nat) (v : BitVec 32) : (d.wr a v).hold = d.hold := rfl
@[simp] theorem Device.wr_bulk (d : Device) (a : Nat) (v : BitVec 32) : (d.wr a v).bulk = d.bulk := rfl
@[simp] theorem Device.wr_bulkErr (d : Device) (a : Nat) (v : BitVec 32) : (d.wr a v).bulkErr = d.bulkErr := rfl
@[simp] theorem Device.wr_mem (d : Device) (a : Nat) (v : BitVec 32) : (d.wr a v).mem = d.mem := rfl
@[simp] theorem Device.wr_ledger (d : Device) (a : Nat) (v : BitVec 32) : (d.wr a v).ledger = d.ledger := rfl
@[simp] theorem Device.wr_test (d : Device) (a : Nat) (v : BitVec 32) : (d.wr a v).test = d.test := rfl
@[simp] theorem Device.wr_tables (d : Device) (a : Nat) (v : BitVec 32) : (d.wr a v).tables = d.tables := rfl
@[simp] theorem Device.wr_qOcc (d : Device) (a : Nat) (v : BitVec 32) : (d.wr a v).qOcc = d.qOcc := rfl
@[simp] theorem Device.wr_qGap (d : Device) (a : Nat) (v : BitVec 32) : (d.wr a v).qGap = d.qGap := rfl
@[simp] theorem Device.wr_free (d : Device) (a : Nat) (v : BitVec 32) : (d.wr a v).free = d.free := rfl
@[simp] theorem Device.wr_planners (d : Device) (a : Nat) (v : BitVec 32) : (d.wr a v).planners = d.planners := rfl
@[simp] theorem Device.wr_plTicks (d : Device) (a : Nat) (v : BitVec 32) : (d.wr a v).plTicks = d.plTicks := rfl
@[simp] theorem Device.wr_live (d : Device) (a : Nat) (v : BitVec 32) : (d.wr a v).live = d.live := rfl
@[simp] theorem Device.wr_miles (d : Device) (a : Nat) (v : BitVec 32) : (d.wr a v).miles = d.miles := rfl
@[simp] theorem Device.wr_latches (d : Device) (a : Nat) (v : BitVec 32) : (d.wr a v).latches = d.latches := rfl
@[simp] theorem Device.wr_convoys (d : Device) (a : Nat) (v : BitVec 32) : (d.wr a v).convoys = d.convoys := rfl
@[simp] theorem Device.wr_gantries (d : Device) (a : Nat) (v : BitVec 32) : (d.wr a v).gantries = d.gantries := rfl
@[simp] theorem Device.wr_gens (d : Device) (a : Nat) (v : BitVec 32) : (d.wr a v).gens = d.gens := rfl
@[simp] theorem Device.wr_ports (d : Device) (a : Nat) (v : BitVec 32) : (d.wr a v).ports = d.ports := rfl
@[simp] theorem Device.wr_fbs (d : Device) (a : Nat) (v : BitVec 32) : (d.wr a v).fbs = d.fbs := rfl
@[simp] theorem Device.wr_axes (d : Device) (a : Nat) (v : BitVec 32) : (d.wr a v).axes = d.axes := rfl
@[simp] theorem Device.wr_lp (d : Device) (a : Nat) (v : BitVec 32) : (d.wr a v).lp = d.lp := rfl
@[simp] theorem Device.wr_lpPend (d : Device) (a : Nat) (v : BitVec 32) : (d.wr a v).lpPend = d.lpPend := rfl
@[simp] theorem Device.wr_engines (d : Device) (a : Nat) (v : BitVec 32) : (d.wr a v).engines = d.engines := rfl
@[simp] theorem Device.wr_chains (d : Device) (a : Nat) (v : BitVec 32) : (d.wr a v).chains = d.chains := rfl
@[simp] theorem Device.wr_pairs (d : Device) (a : Nat) (v : BitVec 32) : (d.wr a v).pairs = d.pairs := rfl
@[simp] theorem Device.wr_md (d : Device) (a : Nat) (v : BitVec 32) : (d.wr a v).md = d.md := rfl
@[simp] theorem Device.wr_fioCh (d : Device) (a : Nat) (v : BitVec 32) : (d.wr a v).fioCh = d.fioCh := rfl
@[simp] theorem Device.wr_fioGrp (d : Device) (a : Nat) (v : BitVec 32) : (d.wr a v).fioGrp = d.fioGrp := rfl
@[simp] theorem Device.wr_field (d : Device) (a : Nat) (v : BitVec 32) : (d.wr a v).field = d.field := rfl
@[simp] theorem Device.wr_itins (d : Device) (a : Nat) (v : BitVec 32) : (d.wr a v).itins = d.itins := rfl
@[simp] theorem Device.wr_it (d : Device) (a : Nat) (v : BitVec 32) : (d.wr a v).it = d.it := rfl
@[simp] theorem Device.wr_cv (d : Device) (a : Nat) (v : BitVec 32) : (d.wr a v).cv = d.cv := rfl
@[simp] theorem Device.wr_tg (d : Device) (a : Nat) (v : BitVec 32) : (d.wr a v).tg = d.tg := rfl
@[simp] theorem Device.wr_tm (d : Device) (a : Nat) (v : BitVec 32) : (d.wr a v).tm = d.tm := rfl
@[simp] theorem Device.wr_net (d : Device) (a : Nat) (v : BitVec 32) : (d.wr a v).net = d.net := rfl
@[simp] theorem Device.wr_cans (d : Device) (a : Nat) (v : BitVec 32) : (d.wr a v).cans = d.cans := rfl
@[simp] theorem Device.wr_boot (d : Device) (a : Nat) (v : BitVec 32) : (d.wr a v).boot = d.boot := rfl
@[simp] theorem Device.wr_ln (d : Device) (a : Nat) (v : BitVec 32) : (d.wr a v).ln = d.ln := rfl
@[simp] theorem Device.wr_rc (d : Device) (a : Nat) (v : BitVec 32) : (d.wr a v).rc = d.rc := rfl
@[simp] theorem Device.wr_pkg (d : Device) (a : Nat) (v : BitVec 32) : (d.wr a v).pkg = d.pkg := rfl

/-! wrN -/
@[simp] theorem Device.wrN_clk (d : Device) (a n : Nat) : (d.wrN a n).clk = d.clk := rfl
@[simp] theorem Device.wrN_hold (d : Device) (a n : Nat) : (d.wrN a n).hold = d.hold := rfl
@[simp] theorem Device.wrN_bulk (d : Device) (a n : Nat) : (d.wrN a n).bulk = d.bulk := rfl
@[simp] theorem Device.wrN_bulkErr (d : Device) (a n : Nat) : (d.wrN a n).bulkErr = d.bulkErr := rfl
@[simp] theorem Device.wrN_mem (d : Device) (a n : Nat) : (d.wrN a n).mem = d.mem := rfl
@[simp] theorem Device.wrN_ledger (d : Device) (a n : Nat) : (d.wrN a n).ledger = d.ledger := rfl
@[simp] theorem Device.wrN_test (d : Device) (a n : Nat) : (d.wrN a n).test = d.test := rfl
@[simp] theorem Device.wrN_tables (d : Device) (a n : Nat) : (d.wrN a n).tables = d.tables := rfl
@[simp] theorem Device.wrN_qOcc (d : Device) (a n : Nat) : (d.wrN a n).qOcc = d.qOcc := rfl
@[simp] theorem Device.wrN_qGap (d : Device) (a n : Nat) : (d.wrN a n).qGap = d.qGap := rfl
@[simp] theorem Device.wrN_free (d : Device) (a n : Nat) : (d.wrN a n).free = d.free := rfl
@[simp] theorem Device.wrN_planners (d : Device) (a n : Nat) : (d.wrN a n).planners = d.planners := rfl
@[simp] theorem Device.wrN_plTicks (d : Device) (a n : Nat) : (d.wrN a n).plTicks = d.plTicks := rfl
@[simp] theorem Device.wrN_live (d : Device) (a n : Nat) : (d.wrN a n).live = d.live := rfl
@[simp] theorem Device.wrN_miles (d : Device) (a n : Nat) : (d.wrN a n).miles = d.miles := rfl
@[simp] theorem Device.wrN_latches (d : Device) (a n : Nat) : (d.wrN a n).latches = d.latches := rfl
@[simp] theorem Device.wrN_convoys (d : Device) (a n : Nat) : (d.wrN a n).convoys = d.convoys := rfl
@[simp] theorem Device.wrN_gantries (d : Device) (a n : Nat) : (d.wrN a n).gantries = d.gantries := rfl
@[simp] theorem Device.wrN_gens (d : Device) (a n : Nat) : (d.wrN a n).gens = d.gens := rfl
@[simp] theorem Device.wrN_ports (d : Device) (a n : Nat) : (d.wrN a n).ports = d.ports := rfl
@[simp] theorem Device.wrN_fbs (d : Device) (a n : Nat) : (d.wrN a n).fbs = d.fbs := rfl
@[simp] theorem Device.wrN_axes (d : Device) (a n : Nat) : (d.wrN a n).axes = d.axes := rfl
@[simp] theorem Device.wrN_lp (d : Device) (a n : Nat) : (d.wrN a n).lp = d.lp := rfl
@[simp] theorem Device.wrN_lpPend (d : Device) (a n : Nat) : (d.wrN a n).lpPend = d.lpPend := rfl
@[simp] theorem Device.wrN_engines (d : Device) (a n : Nat) : (d.wrN a n).engines = d.engines := rfl
@[simp] theorem Device.wrN_chains (d : Device) (a n : Nat) : (d.wrN a n).chains = d.chains := rfl
@[simp] theorem Device.wrN_pairs (d : Device) (a n : Nat) : (d.wrN a n).pairs = d.pairs := rfl
@[simp] theorem Device.wrN_md (d : Device) (a n : Nat) : (d.wrN a n).md = d.md := rfl
@[simp] theorem Device.wrN_fioCh (d : Device) (a n : Nat) : (d.wrN a n).fioCh = d.fioCh := rfl
@[simp] theorem Device.wrN_fioGrp (d : Device) (a n : Nat) : (d.wrN a n).fioGrp = d.fioGrp := rfl
@[simp] theorem Device.wrN_field (d : Device) (a n : Nat) : (d.wrN a n).field = d.field := rfl
@[simp] theorem Device.wrN_itins (d : Device) (a n : Nat) : (d.wrN a n).itins = d.itins := rfl
@[simp] theorem Device.wrN_it (d : Device) (a n : Nat) : (d.wrN a n).it = d.it := rfl
@[simp] theorem Device.wrN_cv (d : Device) (a n : Nat) : (d.wrN a n).cv = d.cv := rfl
@[simp] theorem Device.wrN_tg (d : Device) (a n : Nat) : (d.wrN a n).tg = d.tg := rfl
@[simp] theorem Device.wrN_tm (d : Device) (a n : Nat) : (d.wrN a n).tm = d.tm := rfl
@[simp] theorem Device.wrN_net (d : Device) (a n : Nat) : (d.wrN a n).net = d.net := rfl
@[simp] theorem Device.wrN_cans (d : Device) (a n : Nat) : (d.wrN a n).cans = d.cans := rfl
@[simp] theorem Device.wrN_boot (d : Device) (a n : Nat) : (d.wrN a n).boot = d.boot := rfl
@[simp] theorem Device.wrN_ln (d : Device) (a n : Nat) : (d.wrN a n).ln = d.ln := rfl
@[simp] theorem Device.wrN_rc (d : Device) (a n : Nat) : (d.wrN a n).rc = d.rc := rfl
@[simp] theorem Device.wrN_pkg (d : Device) (a n : Nat) : (d.wrN a n).pkg = d.pkg := rfl

/-! wr64 -/
@[simp] theorem Device.wr64_clk (d : Device) (a n : Nat) : (d.wr64 a n).clk = d.clk := rfl
@[simp] theorem Device.wr64_hold (d : Device) (a n : Nat) : (d.wr64 a n).hold = d.hold := rfl
@[simp] theorem Device.wr64_bulk (d : Device) (a n : Nat) : (d.wr64 a n).bulk = d.bulk := rfl
@[simp] theorem Device.wr64_bulkErr (d : Device) (a n : Nat) : (d.wr64 a n).bulkErr = d.bulkErr := rfl
@[simp] theorem Device.wr64_mem (d : Device) (a n : Nat) : (d.wr64 a n).mem = d.mem := rfl
@[simp] theorem Device.wr64_ledger (d : Device) (a n : Nat) : (d.wr64 a n).ledger = d.ledger := rfl
@[simp] theorem Device.wr64_test (d : Device) (a n : Nat) : (d.wr64 a n).test = d.test := rfl
@[simp] theorem Device.wr64_tables (d : Device) (a n : Nat) : (d.wr64 a n).tables = d.tables := rfl
@[simp] theorem Device.wr64_qOcc (d : Device) (a n : Nat) : (d.wr64 a n).qOcc = d.qOcc := rfl
@[simp] theorem Device.wr64_qGap (d : Device) (a n : Nat) : (d.wr64 a n).qGap = d.qGap := rfl
@[simp] theorem Device.wr64_free (d : Device) (a n : Nat) : (d.wr64 a n).free = d.free := rfl
@[simp] theorem Device.wr64_planners (d : Device) (a n : Nat) : (d.wr64 a n).planners = d.planners := rfl
@[simp] theorem Device.wr64_plTicks (d : Device) (a n : Nat) : (d.wr64 a n).plTicks = d.plTicks := rfl
@[simp] theorem Device.wr64_live (d : Device) (a n : Nat) : (d.wr64 a n).live = d.live := rfl
@[simp] theorem Device.wr64_miles (d : Device) (a n : Nat) : (d.wr64 a n).miles = d.miles := rfl
@[simp] theorem Device.wr64_latches (d : Device) (a n : Nat) : (d.wr64 a n).latches = d.latches := rfl
@[simp] theorem Device.wr64_convoys (d : Device) (a n : Nat) : (d.wr64 a n).convoys = d.convoys := rfl
@[simp] theorem Device.wr64_gantries (d : Device) (a n : Nat) : (d.wr64 a n).gantries = d.gantries := rfl
@[simp] theorem Device.wr64_gens (d : Device) (a n : Nat) : (d.wr64 a n).gens = d.gens := rfl
@[simp] theorem Device.wr64_ports (d : Device) (a n : Nat) : (d.wr64 a n).ports = d.ports := rfl
@[simp] theorem Device.wr64_fbs (d : Device) (a n : Nat) : (d.wr64 a n).fbs = d.fbs := rfl
@[simp] theorem Device.wr64_axes (d : Device) (a n : Nat) : (d.wr64 a n).axes = d.axes := rfl
@[simp] theorem Device.wr64_lp (d : Device) (a n : Nat) : (d.wr64 a n).lp = d.lp := rfl
@[simp] theorem Device.wr64_lpPend (d : Device) (a n : Nat) : (d.wr64 a n).lpPend = d.lpPend := rfl
@[simp] theorem Device.wr64_engines (d : Device) (a n : Nat) : (d.wr64 a n).engines = d.engines := rfl
@[simp] theorem Device.wr64_chains (d : Device) (a n : Nat) : (d.wr64 a n).chains = d.chains := rfl
@[simp] theorem Device.wr64_pairs (d : Device) (a n : Nat) : (d.wr64 a n).pairs = d.pairs := rfl
@[simp] theorem Device.wr64_md (d : Device) (a n : Nat) : (d.wr64 a n).md = d.md := rfl
@[simp] theorem Device.wr64_fioCh (d : Device) (a n : Nat) : (d.wr64 a n).fioCh = d.fioCh := rfl
@[simp] theorem Device.wr64_fioGrp (d : Device) (a n : Nat) : (d.wr64 a n).fioGrp = d.fioGrp := rfl
@[simp] theorem Device.wr64_field (d : Device) (a n : Nat) : (d.wr64 a n).field = d.field := rfl
@[simp] theorem Device.wr64_itins (d : Device) (a n : Nat) : (d.wr64 a n).itins = d.itins := rfl
@[simp] theorem Device.wr64_it (d : Device) (a n : Nat) : (d.wr64 a n).it = d.it := rfl
@[simp] theorem Device.wr64_cv (d : Device) (a n : Nat) : (d.wr64 a n).cv = d.cv := rfl
@[simp] theorem Device.wr64_tg (d : Device) (a n : Nat) : (d.wr64 a n).tg = d.tg := rfl
@[simp] theorem Device.wr64_tm (d : Device) (a n : Nat) : (d.wr64 a n).tm = d.tm := rfl
@[simp] theorem Device.wr64_net (d : Device) (a n : Nat) : (d.wr64 a n).net = d.net := rfl
@[simp] theorem Device.wr64_cans (d : Device) (a n : Nat) : (d.wr64 a n).cans = d.cans := rfl
@[simp] theorem Device.wr64_boot (d : Device) (a n : Nat) : (d.wr64 a n).boot = d.boot := rfl
@[simp] theorem Device.wr64_ln (d : Device) (a n : Nat) : (d.wr64 a n).ln = d.ln := rfl
@[simp] theorem Device.wr64_rc (d : Device) (a n : Nat) : (d.wr64 a n).rc = d.rc := rfl
@[simp] theorem Device.wr64_pkg (d : Device) (a n : Nat) : (d.wr64 a n).pkg = d.pkg := rfl

/-! wrS64 -/
@[simp] theorem Device.wrS64_clk (d : Device) (a : Nat) (i : Int) : (d.wrS64 a i).clk = d.clk := rfl
@[simp] theorem Device.wrS64_hold (d : Device) (a : Nat) (i : Int) : (d.wrS64 a i).hold = d.hold := rfl
@[simp] theorem Device.wrS64_bulk (d : Device) (a : Nat) (i : Int) : (d.wrS64 a i).bulk = d.bulk := rfl
@[simp] theorem Device.wrS64_bulkErr (d : Device) (a : Nat) (i : Int) : (d.wrS64 a i).bulkErr = d.bulkErr := rfl
@[simp] theorem Device.wrS64_mem (d : Device) (a : Nat) (i : Int) : (d.wrS64 a i).mem = d.mem := rfl
@[simp] theorem Device.wrS64_ledger (d : Device) (a : Nat) (i : Int) : (d.wrS64 a i).ledger = d.ledger := rfl
@[simp] theorem Device.wrS64_test (d : Device) (a : Nat) (i : Int) : (d.wrS64 a i).test = d.test := rfl
@[simp] theorem Device.wrS64_tables (d : Device) (a : Nat) (i : Int) : (d.wrS64 a i).tables = d.tables := rfl
@[simp] theorem Device.wrS64_qOcc (d : Device) (a : Nat) (i : Int) : (d.wrS64 a i).qOcc = d.qOcc := rfl
@[simp] theorem Device.wrS64_qGap (d : Device) (a : Nat) (i : Int) : (d.wrS64 a i).qGap = d.qGap := rfl
@[simp] theorem Device.wrS64_free (d : Device) (a : Nat) (i : Int) : (d.wrS64 a i).free = d.free := rfl
@[simp] theorem Device.wrS64_planners (d : Device) (a : Nat) (i : Int) : (d.wrS64 a i).planners = d.planners := rfl
@[simp] theorem Device.wrS64_plTicks (d : Device) (a : Nat) (i : Int) : (d.wrS64 a i).plTicks = d.plTicks := rfl
@[simp] theorem Device.wrS64_live (d : Device) (a : Nat) (i : Int) : (d.wrS64 a i).live = d.live := rfl
@[simp] theorem Device.wrS64_miles (d : Device) (a : Nat) (i : Int) : (d.wrS64 a i).miles = d.miles := rfl
@[simp] theorem Device.wrS64_latches (d : Device) (a : Nat) (i : Int) : (d.wrS64 a i).latches = d.latches := rfl
@[simp] theorem Device.wrS64_convoys (d : Device) (a : Nat) (i : Int) : (d.wrS64 a i).convoys = d.convoys := rfl
@[simp] theorem Device.wrS64_gantries (d : Device) (a : Nat) (i : Int) : (d.wrS64 a i).gantries = d.gantries := rfl
@[simp] theorem Device.wrS64_gens (d : Device) (a : Nat) (i : Int) : (d.wrS64 a i).gens = d.gens := rfl
@[simp] theorem Device.wrS64_ports (d : Device) (a : Nat) (i : Int) : (d.wrS64 a i).ports = d.ports := rfl
@[simp] theorem Device.wrS64_fbs (d : Device) (a : Nat) (i : Int) : (d.wrS64 a i).fbs = d.fbs := rfl
@[simp] theorem Device.wrS64_axes (d : Device) (a : Nat) (i : Int) : (d.wrS64 a i).axes = d.axes := rfl
@[simp] theorem Device.wrS64_lp (d : Device) (a : Nat) (i : Int) : (d.wrS64 a i).lp = d.lp := rfl
@[simp] theorem Device.wrS64_lpPend (d : Device) (a : Nat) (i : Int) : (d.wrS64 a i).lpPend = d.lpPend := rfl
@[simp] theorem Device.wrS64_engines (d : Device) (a : Nat) (i : Int) : (d.wrS64 a i).engines = d.engines := rfl
@[simp] theorem Device.wrS64_chains (d : Device) (a : Nat) (i : Int) : (d.wrS64 a i).chains = d.chains := rfl
@[simp] theorem Device.wrS64_pairs (d : Device) (a : Nat) (i : Int) : (d.wrS64 a i).pairs = d.pairs := rfl
@[simp] theorem Device.wrS64_md (d : Device) (a : Nat) (i : Int) : (d.wrS64 a i).md = d.md := rfl
@[simp] theorem Device.wrS64_fioCh (d : Device) (a : Nat) (i : Int) : (d.wrS64 a i).fioCh = d.fioCh := rfl
@[simp] theorem Device.wrS64_fioGrp (d : Device) (a : Nat) (i : Int) : (d.wrS64 a i).fioGrp = d.fioGrp := rfl
@[simp] theorem Device.wrS64_field (d : Device) (a : Nat) (i : Int) : (d.wrS64 a i).field = d.field := rfl
@[simp] theorem Device.wrS64_itins (d : Device) (a : Nat) (i : Int) : (d.wrS64 a i).itins = d.itins := rfl
@[simp] theorem Device.wrS64_it (d : Device) (a : Nat) (i : Int) : (d.wrS64 a i).it = d.it := rfl
@[simp] theorem Device.wrS64_cv (d : Device) (a : Nat) (i : Int) : (d.wrS64 a i).cv = d.cv := rfl
@[simp] theorem Device.wrS64_tg (d : Device) (a : Nat) (i : Int) : (d.wrS64 a i).tg = d.tg := rfl
@[simp] theorem Device.wrS64_tm (d : Device) (a : Nat) (i : Int) : (d.wrS64 a i).tm = d.tm := rfl
@[simp] theorem Device.wrS64_net (d : Device) (a : Nat) (i : Int) : (d.wrS64 a i).net = d.net := rfl
@[simp] theorem Device.wrS64_cans (d : Device) (a : Nat) (i : Int) : (d.wrS64 a i).cans = d.cans := rfl
@[simp] theorem Device.wrS64_boot (d : Device) (a : Nat) (i : Int) : (d.wrS64 a i).boot = d.boot := rfl
@[simp] theorem Device.wrS64_ln (d : Device) (a : Nat) (i : Int) : (d.wrS64 a i).ln = d.ln := rfl
@[simp] theorem Device.wrS64_rc (d : Device) (a : Nat) (i : Int) : (d.wrS64 a i).rc = d.rc := rfl
@[simp] theorem Device.wrS64_pkg (d : Device) (a : Nat) (i : Int) : (d.wrS64 a i).pkg = d.pkg := rfl

/-! put -/
@[simp] theorem Device.put_clk (d : Device) (f : Fld) (v : Nat) : (d.put f v).clk = d.clk := rfl
@[simp] theorem Device.put_hold (d : Device) (f : Fld) (v : Nat) : (d.put f v).hold = d.hold := rfl
@[simp] theorem Device.put_bulk (d : Device) (f : Fld) (v : Nat) : (d.put f v).bulk = d.bulk := rfl
@[simp] theorem Device.put_bulkErr (d : Device) (f : Fld) (v : Nat) : (d.put f v).bulkErr = d.bulkErr := rfl
@[simp] theorem Device.put_mem (d : Device) (f : Fld) (v : Nat) : (d.put f v).mem = d.mem := rfl
@[simp] theorem Device.put_ledger (d : Device) (f : Fld) (v : Nat) : (d.put f v).ledger = d.ledger := rfl
@[simp] theorem Device.put_test (d : Device) (f : Fld) (v : Nat) : (d.put f v).test = d.test := rfl
@[simp] theorem Device.put_tables (d : Device) (f : Fld) (v : Nat) : (d.put f v).tables = d.tables := rfl
@[simp] theorem Device.put_qOcc (d : Device) (f : Fld) (v : Nat) : (d.put f v).qOcc = d.qOcc := rfl
@[simp] theorem Device.put_qGap (d : Device) (f : Fld) (v : Nat) : (d.put f v).qGap = d.qGap := rfl
@[simp] theorem Device.put_free (d : Device) (f : Fld) (v : Nat) : (d.put f v).free = d.free := rfl
@[simp] theorem Device.put_planners (d : Device) (f : Fld) (v : Nat) : (d.put f v).planners = d.planners := rfl
@[simp] theorem Device.put_plTicks (d : Device) (f : Fld) (v : Nat) : (d.put f v).plTicks = d.plTicks := rfl
@[simp] theorem Device.put_live (d : Device) (f : Fld) (v : Nat) : (d.put f v).live = d.live := rfl
@[simp] theorem Device.put_miles (d : Device) (f : Fld) (v : Nat) : (d.put f v).miles = d.miles := rfl
@[simp] theorem Device.put_latches (d : Device) (f : Fld) (v : Nat) : (d.put f v).latches = d.latches := rfl
@[simp] theorem Device.put_convoys (d : Device) (f : Fld) (v : Nat) : (d.put f v).convoys = d.convoys := rfl
@[simp] theorem Device.put_gantries (d : Device) (f : Fld) (v : Nat) : (d.put f v).gantries = d.gantries := rfl
@[simp] theorem Device.put_gens (d : Device) (f : Fld) (v : Nat) : (d.put f v).gens = d.gens := rfl
@[simp] theorem Device.put_ports (d : Device) (f : Fld) (v : Nat) : (d.put f v).ports = d.ports := rfl
@[simp] theorem Device.put_fbs (d : Device) (f : Fld) (v : Nat) : (d.put f v).fbs = d.fbs := rfl
@[simp] theorem Device.put_axes (d : Device) (f : Fld) (v : Nat) : (d.put f v).axes = d.axes := rfl
@[simp] theorem Device.put_lp (d : Device) (f : Fld) (v : Nat) : (d.put f v).lp = d.lp := rfl
@[simp] theorem Device.put_lpPend (d : Device) (f : Fld) (v : Nat) : (d.put f v).lpPend = d.lpPend := rfl
@[simp] theorem Device.put_engines (d : Device) (f : Fld) (v : Nat) : (d.put f v).engines = d.engines := rfl
@[simp] theorem Device.put_chains (d : Device) (f : Fld) (v : Nat) : (d.put f v).chains = d.chains := rfl
@[simp] theorem Device.put_pairs (d : Device) (f : Fld) (v : Nat) : (d.put f v).pairs = d.pairs := rfl
@[simp] theorem Device.put_md (d : Device) (f : Fld) (v : Nat) : (d.put f v).md = d.md := rfl
@[simp] theorem Device.put_fioCh (d : Device) (f : Fld) (v : Nat) : (d.put f v).fioCh = d.fioCh := rfl
@[simp] theorem Device.put_fioGrp (d : Device) (f : Fld) (v : Nat) : (d.put f v).fioGrp = d.fioGrp := rfl
@[simp] theorem Device.put_field (d : Device) (f : Fld) (v : Nat) : (d.put f v).field = d.field := rfl
@[simp] theorem Device.put_itins (d : Device) (f : Fld) (v : Nat) : (d.put f v).itins = d.itins := rfl
@[simp] theorem Device.put_it (d : Device) (f : Fld) (v : Nat) : (d.put f v).it = d.it := rfl
@[simp] theorem Device.put_cv (d : Device) (f : Fld) (v : Nat) : (d.put f v).cv = d.cv := rfl
@[simp] theorem Device.put_tg (d : Device) (f : Fld) (v : Nat) : (d.put f v).tg = d.tg := rfl
@[simp] theorem Device.put_tm (d : Device) (f : Fld) (v : Nat) : (d.put f v).tm = d.tm := rfl
@[simp] theorem Device.put_net (d : Device) (f : Fld) (v : Nat) : (d.put f v).net = d.net := rfl
@[simp] theorem Device.put_cans (d : Device) (f : Fld) (v : Nat) : (d.put f v).cans = d.cans := rfl
@[simp] theorem Device.put_boot (d : Device) (f : Fld) (v : Nat) : (d.put f v).boot = d.boot := rfl
@[simp] theorem Device.put_ln (d : Device) (f : Fld) (v : Nat) : (d.put f v).ln = d.ln := rfl
@[simp] theorem Device.put_rc (d : Device) (f : Fld) (v : Nat) : (d.put f v).rc = d.rc := rfl
@[simp] theorem Device.put_pkg (d : Device) (f : Fld) (v : Nat) : (d.put f v).pkg = d.pkg := rfl

/-! raise -/
@[simp] theorem Device.raise_clk (d : Device) (f : Fld) : (d.raise f).clk = d.clk := rfl
@[simp] theorem Device.raise_hold (d : Device) (f : Fld) : (d.raise f).hold = d.hold := rfl
@[simp] theorem Device.raise_bulk (d : Device) (f : Fld) : (d.raise f).bulk = d.bulk := rfl
@[simp] theorem Device.raise_bulkErr (d : Device) (f : Fld) : (d.raise f).bulkErr = d.bulkErr := rfl
@[simp] theorem Device.raise_mem (d : Device) (f : Fld) : (d.raise f).mem = d.mem := rfl
@[simp] theorem Device.raise_ledger (d : Device) (f : Fld) : (d.raise f).ledger = d.ledger := rfl
@[simp] theorem Device.raise_test (d : Device) (f : Fld) : (d.raise f).test = d.test := rfl
@[simp] theorem Device.raise_tables (d : Device) (f : Fld) : (d.raise f).tables = d.tables := rfl
@[simp] theorem Device.raise_qOcc (d : Device) (f : Fld) : (d.raise f).qOcc = d.qOcc := rfl
@[simp] theorem Device.raise_qGap (d : Device) (f : Fld) : (d.raise f).qGap = d.qGap := rfl
@[simp] theorem Device.raise_free (d : Device) (f : Fld) : (d.raise f).free = d.free := rfl
@[simp] theorem Device.raise_planners (d : Device) (f : Fld) : (d.raise f).planners = d.planners := rfl
@[simp] theorem Device.raise_plTicks (d : Device) (f : Fld) : (d.raise f).plTicks = d.plTicks := rfl
@[simp] theorem Device.raise_live (d : Device) (f : Fld) : (d.raise f).live = d.live := rfl
@[simp] theorem Device.raise_miles (d : Device) (f : Fld) : (d.raise f).miles = d.miles := rfl
@[simp] theorem Device.raise_latches (d : Device) (f : Fld) : (d.raise f).latches = d.latches := rfl
@[simp] theorem Device.raise_convoys (d : Device) (f : Fld) : (d.raise f).convoys = d.convoys := rfl
@[simp] theorem Device.raise_gantries (d : Device) (f : Fld) : (d.raise f).gantries = d.gantries := rfl
@[simp] theorem Device.raise_gens (d : Device) (f : Fld) : (d.raise f).gens = d.gens := rfl
@[simp] theorem Device.raise_ports (d : Device) (f : Fld) : (d.raise f).ports = d.ports := rfl
@[simp] theorem Device.raise_fbs (d : Device) (f : Fld) : (d.raise f).fbs = d.fbs := rfl
@[simp] theorem Device.raise_axes (d : Device) (f : Fld) : (d.raise f).axes = d.axes := rfl
@[simp] theorem Device.raise_lp (d : Device) (f : Fld) : (d.raise f).lp = d.lp := rfl
@[simp] theorem Device.raise_lpPend (d : Device) (f : Fld) : (d.raise f).lpPend = d.lpPend := rfl
@[simp] theorem Device.raise_engines (d : Device) (f : Fld) : (d.raise f).engines = d.engines := rfl
@[simp] theorem Device.raise_chains (d : Device) (f : Fld) : (d.raise f).chains = d.chains := rfl
@[simp] theorem Device.raise_pairs (d : Device) (f : Fld) : (d.raise f).pairs = d.pairs := rfl
@[simp] theorem Device.raise_md (d : Device) (f : Fld) : (d.raise f).md = d.md := rfl
@[simp] theorem Device.raise_fioCh (d : Device) (f : Fld) : (d.raise f).fioCh = d.fioCh := rfl
@[simp] theorem Device.raise_fioGrp (d : Device) (f : Fld) : (d.raise f).fioGrp = d.fioGrp := rfl
@[simp] theorem Device.raise_field (d : Device) (f : Fld) : (d.raise f).field = d.field := rfl
@[simp] theorem Device.raise_itins (d : Device) (f : Fld) : (d.raise f).itins = d.itins := rfl
@[simp] theorem Device.raise_it (d : Device) (f : Fld) : (d.raise f).it = d.it := rfl
@[simp] theorem Device.raise_cv (d : Device) (f : Fld) : (d.raise f).cv = d.cv := rfl
@[simp] theorem Device.raise_tg (d : Device) (f : Fld) : (d.raise f).tg = d.tg := rfl
@[simp] theorem Device.raise_tm (d : Device) (f : Fld) : (d.raise f).tm = d.tm := rfl
@[simp] theorem Device.raise_net (d : Device) (f : Fld) : (d.raise f).net = d.net := rfl
@[simp] theorem Device.raise_cans (d : Device) (f : Fld) : (d.raise f).cans = d.cans := rfl
@[simp] theorem Device.raise_boot (d : Device) (f : Fld) : (d.raise f).boot = d.boot := rfl
@[simp] theorem Device.raise_ln (d : Device) (f : Fld) : (d.raise f).ln = d.ln := rfl
@[simp] theorem Device.raise_rc (d : Device) (f : Fld) : (d.raise f).rc = d.rc := rfl
@[simp] theorem Device.raise_pkg (d : Device) (f : Fld) : (d.raise f).pkg = d.pkg := rfl

/-! incSat -/
@[simp] theorem Device.incSat_clk (d : Device) (f : Fld) (n : Nat) : (d.incSat f n).clk = d.clk := rfl
@[simp] theorem Device.incSat_hold (d : Device) (f : Fld) (n : Nat) : (d.incSat f n).hold = d.hold := rfl
@[simp] theorem Device.incSat_bulk (d : Device) (f : Fld) (n : Nat) : (d.incSat f n).bulk = d.bulk := rfl
@[simp] theorem Device.incSat_bulkErr (d : Device) (f : Fld) (n : Nat) : (d.incSat f n).bulkErr = d.bulkErr := rfl
@[simp] theorem Device.incSat_mem (d : Device) (f : Fld) (n : Nat) : (d.incSat f n).mem = d.mem := rfl
@[simp] theorem Device.incSat_ledger (d : Device) (f : Fld) (n : Nat) : (d.incSat f n).ledger = d.ledger := rfl
@[simp] theorem Device.incSat_test (d : Device) (f : Fld) (n : Nat) : (d.incSat f n).test = d.test := rfl
@[simp] theorem Device.incSat_tables (d : Device) (f : Fld) (n : Nat) : (d.incSat f n).tables = d.tables := rfl
@[simp] theorem Device.incSat_qOcc (d : Device) (f : Fld) (n : Nat) : (d.incSat f n).qOcc = d.qOcc := rfl
@[simp] theorem Device.incSat_qGap (d : Device) (f : Fld) (n : Nat) : (d.incSat f n).qGap = d.qGap := rfl
@[simp] theorem Device.incSat_free (d : Device) (f : Fld) (n : Nat) : (d.incSat f n).free = d.free := rfl
@[simp] theorem Device.incSat_planners (d : Device) (f : Fld) (n : Nat) : (d.incSat f n).planners = d.planners := rfl
@[simp] theorem Device.incSat_plTicks (d : Device) (f : Fld) (n : Nat) : (d.incSat f n).plTicks = d.plTicks := rfl
@[simp] theorem Device.incSat_live (d : Device) (f : Fld) (n : Nat) : (d.incSat f n).live = d.live := rfl
@[simp] theorem Device.incSat_miles (d : Device) (f : Fld) (n : Nat) : (d.incSat f n).miles = d.miles := rfl
@[simp] theorem Device.incSat_latches (d : Device) (f : Fld) (n : Nat) : (d.incSat f n).latches = d.latches := rfl
@[simp] theorem Device.incSat_convoys (d : Device) (f : Fld) (n : Nat) : (d.incSat f n).convoys = d.convoys := rfl
@[simp] theorem Device.incSat_gantries (d : Device) (f : Fld) (n : Nat) : (d.incSat f n).gantries = d.gantries := rfl
@[simp] theorem Device.incSat_gens (d : Device) (f : Fld) (n : Nat) : (d.incSat f n).gens = d.gens := rfl
@[simp] theorem Device.incSat_ports (d : Device) (f : Fld) (n : Nat) : (d.incSat f n).ports = d.ports := rfl
@[simp] theorem Device.incSat_fbs (d : Device) (f : Fld) (n : Nat) : (d.incSat f n).fbs = d.fbs := rfl
@[simp] theorem Device.incSat_axes (d : Device) (f : Fld) (n : Nat) : (d.incSat f n).axes = d.axes := rfl
@[simp] theorem Device.incSat_lp (d : Device) (f : Fld) (n : Nat) : (d.incSat f n).lp = d.lp := rfl
@[simp] theorem Device.incSat_lpPend (d : Device) (f : Fld) (n : Nat) : (d.incSat f n).lpPend = d.lpPend := rfl
@[simp] theorem Device.incSat_engines (d : Device) (f : Fld) (n : Nat) : (d.incSat f n).engines = d.engines := rfl
@[simp] theorem Device.incSat_chains (d : Device) (f : Fld) (n : Nat) : (d.incSat f n).chains = d.chains := rfl
@[simp] theorem Device.incSat_pairs (d : Device) (f : Fld) (n : Nat) : (d.incSat f n).pairs = d.pairs := rfl
@[simp] theorem Device.incSat_md (d : Device) (f : Fld) (n : Nat) : (d.incSat f n).md = d.md := rfl
@[simp] theorem Device.incSat_fioCh (d : Device) (f : Fld) (n : Nat) : (d.incSat f n).fioCh = d.fioCh := rfl
@[simp] theorem Device.incSat_fioGrp (d : Device) (f : Fld) (n : Nat) : (d.incSat f n).fioGrp = d.fioGrp := rfl
@[simp] theorem Device.incSat_field (d : Device) (f : Fld) (n : Nat) : (d.incSat f n).field = d.field := rfl
@[simp] theorem Device.incSat_itins (d : Device) (f : Fld) (n : Nat) : (d.incSat f n).itins = d.itins := rfl
@[simp] theorem Device.incSat_it (d : Device) (f : Fld) (n : Nat) : (d.incSat f n).it = d.it := rfl
@[simp] theorem Device.incSat_cv (d : Device) (f : Fld) (n : Nat) : (d.incSat f n).cv = d.cv := rfl
@[simp] theorem Device.incSat_tg (d : Device) (f : Fld) (n : Nat) : (d.incSat f n).tg = d.tg := rfl
@[simp] theorem Device.incSat_tm (d : Device) (f : Fld) (n : Nat) : (d.incSat f n).tm = d.tm := rfl
@[simp] theorem Device.incSat_net (d : Device) (f : Fld) (n : Nat) : (d.incSat f n).net = d.net := rfl
@[simp] theorem Device.incSat_cans (d : Device) (f : Fld) (n : Nat) : (d.incSat f n).cans = d.cans := rfl
@[simp] theorem Device.incSat_boot (d : Device) (f : Fld) (n : Nat) : (d.incSat f n).boot = d.boot := rfl
@[simp] theorem Device.incSat_ln (d : Device) (f : Fld) (n : Nat) : (d.incSat f n).ln = d.ln := rfl
@[simp] theorem Device.incSat_rc (d : Device) (f : Fld) (n : Nat) : (d.incSat f n).rc = d.rc := rfl
@[simp] theorem Device.incSat_pkg (d : Device) (f : Fld) (n : Nat) : (d.incSat f n).pkg = d.pkg := rfl

/-! inc -/
@[simp] theorem Device.inc_clk (d : Device) (f : Fld) : (d.inc f).clk = d.clk := rfl
@[simp] theorem Device.inc_hold (d : Device) (f : Fld) : (d.inc f).hold = d.hold := rfl
@[simp] theorem Device.inc_bulk (d : Device) (f : Fld) : (d.inc f).bulk = d.bulk := rfl
@[simp] theorem Device.inc_bulkErr (d : Device) (f : Fld) : (d.inc f).bulkErr = d.bulkErr := rfl
@[simp] theorem Device.inc_mem (d : Device) (f : Fld) : (d.inc f).mem = d.mem := rfl
@[simp] theorem Device.inc_ledger (d : Device) (f : Fld) : (d.inc f).ledger = d.ledger := rfl
@[simp] theorem Device.inc_test (d : Device) (f : Fld) : (d.inc f).test = d.test := rfl
@[simp] theorem Device.inc_tables (d : Device) (f : Fld) : (d.inc f).tables = d.tables := rfl
@[simp] theorem Device.inc_qOcc (d : Device) (f : Fld) : (d.inc f).qOcc = d.qOcc := rfl
@[simp] theorem Device.inc_qGap (d : Device) (f : Fld) : (d.inc f).qGap = d.qGap := rfl
@[simp] theorem Device.inc_free (d : Device) (f : Fld) : (d.inc f).free = d.free := rfl
@[simp] theorem Device.inc_planners (d : Device) (f : Fld) : (d.inc f).planners = d.planners := rfl
@[simp] theorem Device.inc_plTicks (d : Device) (f : Fld) : (d.inc f).plTicks = d.plTicks := rfl
@[simp] theorem Device.inc_live (d : Device) (f : Fld) : (d.inc f).live = d.live := rfl
@[simp] theorem Device.inc_miles (d : Device) (f : Fld) : (d.inc f).miles = d.miles := rfl
@[simp] theorem Device.inc_latches (d : Device) (f : Fld) : (d.inc f).latches = d.latches := rfl
@[simp] theorem Device.inc_convoys (d : Device) (f : Fld) : (d.inc f).convoys = d.convoys := rfl
@[simp] theorem Device.inc_gantries (d : Device) (f : Fld) : (d.inc f).gantries = d.gantries := rfl
@[simp] theorem Device.inc_gens (d : Device) (f : Fld) : (d.inc f).gens = d.gens := rfl
@[simp] theorem Device.inc_ports (d : Device) (f : Fld) : (d.inc f).ports = d.ports := rfl
@[simp] theorem Device.inc_fbs (d : Device) (f : Fld) : (d.inc f).fbs = d.fbs := rfl
@[simp] theorem Device.inc_axes (d : Device) (f : Fld) : (d.inc f).axes = d.axes := rfl
@[simp] theorem Device.inc_lp (d : Device) (f : Fld) : (d.inc f).lp = d.lp := rfl
@[simp] theorem Device.inc_lpPend (d : Device) (f : Fld) : (d.inc f).lpPend = d.lpPend := rfl
@[simp] theorem Device.inc_engines (d : Device) (f : Fld) : (d.inc f).engines = d.engines := rfl
@[simp] theorem Device.inc_chains (d : Device) (f : Fld) : (d.inc f).chains = d.chains := rfl
@[simp] theorem Device.inc_pairs (d : Device) (f : Fld) : (d.inc f).pairs = d.pairs := rfl
@[simp] theorem Device.inc_md (d : Device) (f : Fld) : (d.inc f).md = d.md := rfl
@[simp] theorem Device.inc_fioCh (d : Device) (f : Fld) : (d.inc f).fioCh = d.fioCh := rfl
@[simp] theorem Device.inc_fioGrp (d : Device) (f : Fld) : (d.inc f).fioGrp = d.fioGrp := rfl
@[simp] theorem Device.inc_field (d : Device) (f : Fld) : (d.inc f).field = d.field := rfl
@[simp] theorem Device.inc_itins (d : Device) (f : Fld) : (d.inc f).itins = d.itins := rfl
@[simp] theorem Device.inc_it (d : Device) (f : Fld) : (d.inc f).it = d.it := rfl
@[simp] theorem Device.inc_cv (d : Device) (f : Fld) : (d.inc f).cv = d.cv := rfl
@[simp] theorem Device.inc_tg (d : Device) (f : Fld) : (d.inc f).tg = d.tg := rfl
@[simp] theorem Device.inc_tm (d : Device) (f : Fld) : (d.inc f).tm = d.tm := rfl
@[simp] theorem Device.inc_net (d : Device) (f : Fld) : (d.inc f).net = d.net := rfl
@[simp] theorem Device.inc_cans (d : Device) (f : Fld) : (d.inc f).cans = d.cans := rfl
@[simp] theorem Device.inc_boot (d : Device) (f : Fld) : (d.inc f).boot = d.boot := rfl
@[simp] theorem Device.inc_ln (d : Device) (f : Fld) : (d.inc f).ln = d.ln := rfl
@[simp] theorem Device.inc_rc (d : Device) (f : Fld) : (d.inc f).rc = d.rc := rfl
@[simp] theorem Device.inc_pkg (d : Device) (f : Fld) : (d.inc f).pkg = d.pkg := rfl

/-! refuse -/
@[simp] theorem Device.refuse_clk (d : Device) (last ev : Fld) (code : Nat) : (d.refuse last ev code).clk = d.clk := rfl
@[simp] theorem Device.refuse_hold (d : Device) (last ev : Fld) (code : Nat) : (d.refuse last ev code).hold = d.hold := rfl
@[simp] theorem Device.refuse_bulk (d : Device) (last ev : Fld) (code : Nat) : (d.refuse last ev code).bulk = d.bulk := rfl
@[simp] theorem Device.refuse_bulkErr (d : Device) (last ev : Fld) (code : Nat) : (d.refuse last ev code).bulkErr = d.bulkErr := rfl
@[simp] theorem Device.refuse_mem (d : Device) (last ev : Fld) (code : Nat) : (d.refuse last ev code).mem = d.mem := rfl
@[simp] theorem Device.refuse_ledger (d : Device) (last ev : Fld) (code : Nat) : (d.refuse last ev code).ledger = d.ledger := rfl
@[simp] theorem Device.refuse_test (d : Device) (last ev : Fld) (code : Nat) : (d.refuse last ev code).test = d.test := rfl
@[simp] theorem Device.refuse_tables (d : Device) (last ev : Fld) (code : Nat) : (d.refuse last ev code).tables = d.tables := rfl
@[simp] theorem Device.refuse_qOcc (d : Device) (last ev : Fld) (code : Nat) : (d.refuse last ev code).qOcc = d.qOcc := rfl
@[simp] theorem Device.refuse_qGap (d : Device) (last ev : Fld) (code : Nat) : (d.refuse last ev code).qGap = d.qGap := rfl
@[simp] theorem Device.refuse_free (d : Device) (last ev : Fld) (code : Nat) : (d.refuse last ev code).free = d.free := rfl
@[simp] theorem Device.refuse_planners (d : Device) (last ev : Fld) (code : Nat) : (d.refuse last ev code).planners = d.planners := rfl
@[simp] theorem Device.refuse_plTicks (d : Device) (last ev : Fld) (code : Nat) : (d.refuse last ev code).plTicks = d.plTicks := rfl
@[simp] theorem Device.refuse_live (d : Device) (last ev : Fld) (code : Nat) : (d.refuse last ev code).live = d.live := rfl
@[simp] theorem Device.refuse_miles (d : Device) (last ev : Fld) (code : Nat) : (d.refuse last ev code).miles = d.miles := rfl
@[simp] theorem Device.refuse_latches (d : Device) (last ev : Fld) (code : Nat) : (d.refuse last ev code).latches = d.latches := rfl
@[simp] theorem Device.refuse_convoys (d : Device) (last ev : Fld) (code : Nat) : (d.refuse last ev code).convoys = d.convoys := rfl
@[simp] theorem Device.refuse_gantries (d : Device) (last ev : Fld) (code : Nat) : (d.refuse last ev code).gantries = d.gantries := rfl
@[simp] theorem Device.refuse_gens (d : Device) (last ev : Fld) (code : Nat) : (d.refuse last ev code).gens = d.gens := rfl
@[simp] theorem Device.refuse_ports (d : Device) (last ev : Fld) (code : Nat) : (d.refuse last ev code).ports = d.ports := rfl
@[simp] theorem Device.refuse_fbs (d : Device) (last ev : Fld) (code : Nat) : (d.refuse last ev code).fbs = d.fbs := rfl
@[simp] theorem Device.refuse_axes (d : Device) (last ev : Fld) (code : Nat) : (d.refuse last ev code).axes = d.axes := rfl
@[simp] theorem Device.refuse_lp (d : Device) (last ev : Fld) (code : Nat) : (d.refuse last ev code).lp = d.lp := rfl
@[simp] theorem Device.refuse_lpPend (d : Device) (last ev : Fld) (code : Nat) : (d.refuse last ev code).lpPend = d.lpPend := rfl
@[simp] theorem Device.refuse_engines (d : Device) (last ev : Fld) (code : Nat) : (d.refuse last ev code).engines = d.engines := rfl
@[simp] theorem Device.refuse_chains (d : Device) (last ev : Fld) (code : Nat) : (d.refuse last ev code).chains = d.chains := rfl
@[simp] theorem Device.refuse_pairs (d : Device) (last ev : Fld) (code : Nat) : (d.refuse last ev code).pairs = d.pairs := rfl
@[simp] theorem Device.refuse_md (d : Device) (last ev : Fld) (code : Nat) : (d.refuse last ev code).md = d.md := rfl
@[simp] theorem Device.refuse_fioCh (d : Device) (last ev : Fld) (code : Nat) : (d.refuse last ev code).fioCh = d.fioCh := rfl
@[simp] theorem Device.refuse_fioGrp (d : Device) (last ev : Fld) (code : Nat) : (d.refuse last ev code).fioGrp = d.fioGrp := rfl
@[simp] theorem Device.refuse_field (d : Device) (last ev : Fld) (code : Nat) : (d.refuse last ev code).field = d.field := rfl
@[simp] theorem Device.refuse_itins (d : Device) (last ev : Fld) (code : Nat) : (d.refuse last ev code).itins = d.itins := rfl
@[simp] theorem Device.refuse_it (d : Device) (last ev : Fld) (code : Nat) : (d.refuse last ev code).it = d.it := rfl
@[simp] theorem Device.refuse_cv (d : Device) (last ev : Fld) (code : Nat) : (d.refuse last ev code).cv = d.cv := rfl
@[simp] theorem Device.refuse_tg (d : Device) (last ev : Fld) (code : Nat) : (d.refuse last ev code).tg = d.tg := rfl
@[simp] theorem Device.refuse_tm (d : Device) (last ev : Fld) (code : Nat) : (d.refuse last ev code).tm = d.tm := rfl
@[simp] theorem Device.refuse_net (d : Device) (last ev : Fld) (code : Nat) : (d.refuse last ev code).net = d.net := rfl
@[simp] theorem Device.refuse_cans (d : Device) (last ev : Fld) (code : Nat) : (d.refuse last ev code).cans = d.cans := rfl
@[simp] theorem Device.refuse_boot (d : Device) (last ev : Fld) (code : Nat) : (d.refuse last ev code).boot = d.boot := rfl
@[simp] theorem Device.refuse_ln (d : Device) (last ev : Fld) (code : Nat) : (d.refuse last ev code).ln = d.ln := rfl
@[simp] theorem Device.refuse_rc (d : Device) (last ev : Fld) (code : Nat) : (d.refuse last ev code).rc = d.rc := rfl
@[simp] theorem Device.refuse_pkg (d : Device) (last ev : Fld) (code : Nat) : (d.refuse last ev code).pkg = d.pkg := rfl

/-! livePut -/
@[simp] theorem Device.livePut_clk (d : Device) (f : Fld) (v : Nat) : (d.livePut f v).clk = d.clk := rfl
@[simp] theorem Device.livePut_regs (d : Device) (f : Fld) (v : Nat) : (d.livePut f v).regs = d.regs := rfl
@[simp] theorem Device.livePut_hold (d : Device) (f : Fld) (v : Nat) : (d.livePut f v).hold = d.hold := rfl
@[simp] theorem Device.livePut_bulk (d : Device) (f : Fld) (v : Nat) : (d.livePut f v).bulk = d.bulk := rfl
@[simp] theorem Device.livePut_bulkErr (d : Device) (f : Fld) (v : Nat) : (d.livePut f v).bulkErr = d.bulkErr := rfl
@[simp] theorem Device.livePut_mem (d : Device) (f : Fld) (v : Nat) : (d.livePut f v).mem = d.mem := rfl
@[simp] theorem Device.livePut_ledger (d : Device) (f : Fld) (v : Nat) : (d.livePut f v).ledger = d.ledger := rfl
@[simp] theorem Device.livePut_test (d : Device) (f : Fld) (v : Nat) : (d.livePut f v).test = d.test := rfl
@[simp] theorem Device.livePut_tables (d : Device) (f : Fld) (v : Nat) : (d.livePut f v).tables = d.tables := rfl
@[simp] theorem Device.livePut_qOcc (d : Device) (f : Fld) (v : Nat) : (d.livePut f v).qOcc = d.qOcc := rfl
@[simp] theorem Device.livePut_qGap (d : Device) (f : Fld) (v : Nat) : (d.livePut f v).qGap = d.qGap := rfl
@[simp] theorem Device.livePut_free (d : Device) (f : Fld) (v : Nat) : (d.livePut f v).free = d.free := rfl
@[simp] theorem Device.livePut_planners (d : Device) (f : Fld) (v : Nat) : (d.livePut f v).planners = d.planners := rfl
@[simp] theorem Device.livePut_plTicks (d : Device) (f : Fld) (v : Nat) : (d.livePut f v).plTicks = d.plTicks := rfl
@[simp] theorem Device.livePut_miles (d : Device) (f : Fld) (v : Nat) : (d.livePut f v).miles = d.miles := rfl
@[simp] theorem Device.livePut_latches (d : Device) (f : Fld) (v : Nat) : (d.livePut f v).latches = d.latches := rfl
@[simp] theorem Device.livePut_convoys (d : Device) (f : Fld) (v : Nat) : (d.livePut f v).convoys = d.convoys := rfl
@[simp] theorem Device.livePut_gantries (d : Device) (f : Fld) (v : Nat) : (d.livePut f v).gantries = d.gantries := rfl
@[simp] theorem Device.livePut_gens (d : Device) (f : Fld) (v : Nat) : (d.livePut f v).gens = d.gens := rfl
@[simp] theorem Device.livePut_ports (d : Device) (f : Fld) (v : Nat) : (d.livePut f v).ports = d.ports := rfl
@[simp] theorem Device.livePut_fbs (d : Device) (f : Fld) (v : Nat) : (d.livePut f v).fbs = d.fbs := rfl
@[simp] theorem Device.livePut_axes (d : Device) (f : Fld) (v : Nat) : (d.livePut f v).axes = d.axes := rfl
@[simp] theorem Device.livePut_lp (d : Device) (f : Fld) (v : Nat) : (d.livePut f v).lp = d.lp := rfl
@[simp] theorem Device.livePut_lpPend (d : Device) (f : Fld) (v : Nat) : (d.livePut f v).lpPend = d.lpPend := rfl
@[simp] theorem Device.livePut_engines (d : Device) (f : Fld) (v : Nat) : (d.livePut f v).engines = d.engines := rfl
@[simp] theorem Device.livePut_chains (d : Device) (f : Fld) (v : Nat) : (d.livePut f v).chains = d.chains := rfl
@[simp] theorem Device.livePut_pairs (d : Device) (f : Fld) (v : Nat) : (d.livePut f v).pairs = d.pairs := rfl
@[simp] theorem Device.livePut_md (d : Device) (f : Fld) (v : Nat) : (d.livePut f v).md = d.md := rfl
@[simp] theorem Device.livePut_fioCh (d : Device) (f : Fld) (v : Nat) : (d.livePut f v).fioCh = d.fioCh := rfl
@[simp] theorem Device.livePut_fioGrp (d : Device) (f : Fld) (v : Nat) : (d.livePut f v).fioGrp = d.fioGrp := rfl
@[simp] theorem Device.livePut_field (d : Device) (f : Fld) (v : Nat) : (d.livePut f v).field = d.field := rfl
@[simp] theorem Device.livePut_itins (d : Device) (f : Fld) (v : Nat) : (d.livePut f v).itins = d.itins := rfl
@[simp] theorem Device.livePut_it (d : Device) (f : Fld) (v : Nat) : (d.livePut f v).it = d.it := rfl
@[simp] theorem Device.livePut_cv (d : Device) (f : Fld) (v : Nat) : (d.livePut f v).cv = d.cv := rfl
@[simp] theorem Device.livePut_tg (d : Device) (f : Fld) (v : Nat) : (d.livePut f v).tg = d.tg := rfl
@[simp] theorem Device.livePut_tm (d : Device) (f : Fld) (v : Nat) : (d.livePut f v).tm = d.tm := rfl
@[simp] theorem Device.livePut_net (d : Device) (f : Fld) (v : Nat) : (d.livePut f v).net = d.net := rfl
@[simp] theorem Device.livePut_cans (d : Device) (f : Fld) (v : Nat) : (d.livePut f v).cans = d.cans := rfl
@[simp] theorem Device.livePut_boot (d : Device) (f : Fld) (v : Nat) : (d.livePut f v).boot = d.boot := rfl
@[simp] theorem Device.livePut_ln (d : Device) (f : Fld) (v : Nat) : (d.livePut f v).ln = d.ln := rfl
@[simp] theorem Device.livePut_rc (d : Device) (f : Fld) (v : Nat) : (d.livePut f v).rc = d.rc := rfl
@[simp] theorem Device.livePut_pkg (d : Device) (f : Fld) (v : Nat) : (d.livePut f v).pkg = d.pkg := rfl

/-! snapshot -/
@[simp] theorem Device.snapshot_clk (d : Device) : (d.snapshot ).clk = d.clk := rfl
@[simp] theorem Device.snapshot_hold (d : Device) : (d.snapshot ).hold = d.hold := rfl
@[simp] theorem Device.snapshot_bulk (d : Device) : (d.snapshot ).bulk = d.bulk := rfl
@[simp] theorem Device.snapshot_bulkErr (d : Device) : (d.snapshot ).bulkErr = d.bulkErr := rfl
@[simp] theorem Device.snapshot_mem (d : Device) : (d.snapshot ).mem = d.mem := rfl
@[simp] theorem Device.snapshot_ledger (d : Device) : (d.snapshot ).ledger = d.ledger := rfl
@[simp] theorem Device.snapshot_test (d : Device) : (d.snapshot ).test = d.test := rfl
@[simp] theorem Device.snapshot_tables (d : Device) : (d.snapshot ).tables = d.tables := rfl
@[simp] theorem Device.snapshot_qOcc (d : Device) : (d.snapshot ).qOcc = d.qOcc := rfl
@[simp] theorem Device.snapshot_qGap (d : Device) : (d.snapshot ).qGap = d.qGap := rfl
@[simp] theorem Device.snapshot_free (d : Device) : (d.snapshot ).free = d.free := rfl
@[simp] theorem Device.snapshot_planners (d : Device) : (d.snapshot ).planners = d.planners := rfl
@[simp] theorem Device.snapshot_plTicks (d : Device) : (d.snapshot ).plTicks = d.plTicks := rfl
@[simp] theorem Device.snapshot_live (d : Device) : (d.snapshot ).live = d.live := rfl
@[simp] theorem Device.snapshot_miles (d : Device) : (d.snapshot ).miles = d.miles := rfl
@[simp] theorem Device.snapshot_latches (d : Device) : (d.snapshot ).latches = d.latches := rfl
@[simp] theorem Device.snapshot_convoys (d : Device) : (d.snapshot ).convoys = d.convoys := rfl
@[simp] theorem Device.snapshot_gantries (d : Device) : (d.snapshot ).gantries = d.gantries := rfl
@[simp] theorem Device.snapshot_gens (d : Device) : (d.snapshot ).gens = d.gens := rfl
@[simp] theorem Device.snapshot_ports (d : Device) : (d.snapshot ).ports = d.ports := rfl
@[simp] theorem Device.snapshot_fbs (d : Device) : (d.snapshot ).fbs = d.fbs := rfl
@[simp] theorem Device.snapshot_axes (d : Device) : (d.snapshot ).axes = d.axes := rfl
@[simp] theorem Device.snapshot_lp (d : Device) : (d.snapshot ).lp = d.lp := rfl
@[simp] theorem Device.snapshot_lpPend (d : Device) : (d.snapshot ).lpPend = d.lpPend := rfl
@[simp] theorem Device.snapshot_engines (d : Device) : (d.snapshot ).engines = d.engines := rfl
@[simp] theorem Device.snapshot_chains (d : Device) : (d.snapshot ).chains = d.chains := rfl
@[simp] theorem Device.snapshot_pairs (d : Device) : (d.snapshot ).pairs = d.pairs := rfl
@[simp] theorem Device.snapshot_md (d : Device) : (d.snapshot ).md = d.md := rfl
@[simp] theorem Device.snapshot_fioCh (d : Device) : (d.snapshot ).fioCh = d.fioCh := rfl
@[simp] theorem Device.snapshot_fioGrp (d : Device) : (d.snapshot ).fioGrp = d.fioGrp := rfl
@[simp] theorem Device.snapshot_field (d : Device) : (d.snapshot ).field = d.field := rfl
@[simp] theorem Device.snapshot_itins (d : Device) : (d.snapshot ).itins = d.itins := rfl
@[simp] theorem Device.snapshot_it (d : Device) : (d.snapshot ).it = d.it := rfl
@[simp] theorem Device.snapshot_cv (d : Device) : (d.snapshot ).cv = d.cv := rfl
@[simp] theorem Device.snapshot_tg (d : Device) : (d.snapshot ).tg = d.tg := rfl
@[simp] theorem Device.snapshot_tm (d : Device) : (d.snapshot ).tm = d.tm := rfl
@[simp] theorem Device.snapshot_net (d : Device) : (d.snapshot ).net = d.net := rfl
@[simp] theorem Device.snapshot_cans (d : Device) : (d.snapshot ).cans = d.cans := rfl
@[simp] theorem Device.snapshot_boot (d : Device) : (d.snapshot ).boot = d.boot := rfl
@[simp] theorem Device.snapshot_ln (d : Device) : (d.snapshot ).ln = d.ln := rfl
@[simp] theorem Device.snapshot_rc (d : Device) : (d.snapshot ).rc = d.rc := rfl
@[simp] theorem Device.snapshot_pkg (d : Device) : (d.snapshot ).pkg = d.pkg := rfl

/-! note -/
@[simp] theorem Device.note_clk (d : Device) (kind id : Nat) (arg : Int) : (d.note kind id arg).clk = d.clk := rfl
@[simp] theorem Device.note_regs (d : Device) (kind id : Nat) (arg : Int) : (d.note kind id arg).regs = d.regs := rfl
@[simp] theorem Device.note_hold (d : Device) (kind id : Nat) (arg : Int) : (d.note kind id arg).hold = d.hold := rfl
@[simp] theorem Device.note_bulk (d : Device) (kind id : Nat) (arg : Int) : (d.note kind id arg).bulk = d.bulk := rfl
@[simp] theorem Device.note_bulkErr (d : Device) (kind id : Nat) (arg : Int) : (d.note kind id arg).bulkErr = d.bulkErr := rfl
@[simp] theorem Device.note_mem (d : Device) (kind id : Nat) (arg : Int) : (d.note kind id arg).mem = d.mem := rfl
@[simp] theorem Device.note_ledger (d : Device) (kind id : Nat) (arg : Int) : (d.note kind id arg).ledger = d.ledger := rfl
@[simp] theorem Device.note_test (d : Device) (kind id : Nat) (arg : Int) : (d.note kind id arg).test = d.test := rfl
@[simp] theorem Device.note_tables (d : Device) (kind id : Nat) (arg : Int) : (d.note kind id arg).tables = d.tables := rfl
@[simp] theorem Device.note_qOcc (d : Device) (kind id : Nat) (arg : Int) : (d.note kind id arg).qOcc = d.qOcc := rfl
@[simp] theorem Device.note_qGap (d : Device) (kind id : Nat) (arg : Int) : (d.note kind id arg).qGap = d.qGap := rfl
@[simp] theorem Device.note_free (d : Device) (kind id : Nat) (arg : Int) : (d.note kind id arg).free = d.free := rfl
@[simp] theorem Device.note_planners (d : Device) (kind id : Nat) (arg : Int) : (d.note kind id arg).planners = d.planners := rfl
@[simp] theorem Device.note_plTicks (d : Device) (kind id : Nat) (arg : Int) : (d.note kind id arg).plTicks = d.plTicks := rfl
@[simp] theorem Device.note_live (d : Device) (kind id : Nat) (arg : Int) : (d.note kind id arg).live = d.live := rfl
@[simp] theorem Device.note_miles (d : Device) (kind id : Nat) (arg : Int) : (d.note kind id arg).miles = d.miles := rfl
@[simp] theorem Device.note_latches (d : Device) (kind id : Nat) (arg : Int) : (d.note kind id arg).latches = d.latches := rfl
@[simp] theorem Device.note_convoys (d : Device) (kind id : Nat) (arg : Int) : (d.note kind id arg).convoys = d.convoys := rfl
@[simp] theorem Device.note_gantries (d : Device) (kind id : Nat) (arg : Int) : (d.note kind id arg).gantries = d.gantries := rfl
@[simp] theorem Device.note_gens (d : Device) (kind id : Nat) (arg : Int) : (d.note kind id arg).gens = d.gens := rfl
@[simp] theorem Device.note_ports (d : Device) (kind id : Nat) (arg : Int) : (d.note kind id arg).ports = d.ports := rfl
@[simp] theorem Device.note_fbs (d : Device) (kind id : Nat) (arg : Int) : (d.note kind id arg).fbs = d.fbs := rfl
@[simp] theorem Device.note_axes (d : Device) (kind id : Nat) (arg : Int) : (d.note kind id arg).axes = d.axes := rfl
@[simp] theorem Device.note_lp (d : Device) (kind id : Nat) (arg : Int) : (d.note kind id arg).lp = d.lp := rfl
@[simp] theorem Device.note_lpPend (d : Device) (kind id : Nat) (arg : Int) : (d.note kind id arg).lpPend = d.lpPend := rfl
@[simp] theorem Device.note_engines (d : Device) (kind id : Nat) (arg : Int) : (d.note kind id arg).engines = d.engines := rfl
@[simp] theorem Device.note_chains (d : Device) (kind id : Nat) (arg : Int) : (d.note kind id arg).chains = d.chains := rfl
@[simp] theorem Device.note_pairs (d : Device) (kind id : Nat) (arg : Int) : (d.note kind id arg).pairs = d.pairs := rfl
@[simp] theorem Device.note_md (d : Device) (kind id : Nat) (arg : Int) : (d.note kind id arg).md = d.md := rfl
@[simp] theorem Device.note_fioCh (d : Device) (kind id : Nat) (arg : Int) : (d.note kind id arg).fioCh = d.fioCh := rfl
@[simp] theorem Device.note_fioGrp (d : Device) (kind id : Nat) (arg : Int) : (d.note kind id arg).fioGrp = d.fioGrp := rfl
@[simp] theorem Device.note_field (d : Device) (kind id : Nat) (arg : Int) : (d.note kind id arg).field = d.field := rfl
@[simp] theorem Device.note_itins (d : Device) (kind id : Nat) (arg : Int) : (d.note kind id arg).itins = d.itins := rfl
@[simp] theorem Device.note_cv (d : Device) (kind id : Nat) (arg : Int) : (d.note kind id arg).cv = d.cv := rfl
@[simp] theorem Device.note_tg (d : Device) (kind id : Nat) (arg : Int) : (d.note kind id arg).tg = d.tg := rfl
@[simp] theorem Device.note_tm (d : Device) (kind id : Nat) (arg : Int) : (d.note kind id arg).tm = d.tm := rfl
@[simp] theorem Device.note_net (d : Device) (kind id : Nat) (arg : Int) : (d.note kind id arg).net = d.net := rfl
@[simp] theorem Device.note_cans (d : Device) (kind id : Nat) (arg : Int) : (d.note kind id arg).cans = d.cans := rfl
@[simp] theorem Device.note_boot (d : Device) (kind id : Nat) (arg : Int) : (d.note kind id arg).boot = d.boot := rfl
@[simp] theorem Device.note_ln (d : Device) (kind id : Nat) (arg : Int) : (d.note kind id arg).ln = d.ln := rfl
@[simp] theorem Device.note_rc (d : Device) (kind id : Nat) (arg : Int) : (d.note kind id arg).rc = d.rc := rfl
@[simp] theorem Device.note_pkg (d : Device) (kind id : Nat) (arg : Int) : (d.note kind id arg).pkg = d.pkg := rfl

/-! msg -/
@[simp] theorem Device.msg_clk (d : Device) (cls inst kind detail : Nat) (injected runcnt : Bool) : (d.msg cls inst kind detail injected runcnt).clk = d.clk := rfl
@[simp] theorem Device.msg_regs (d : Device) (cls inst kind detail : Nat) (injected runcnt : Bool) : (d.msg cls inst kind detail injected runcnt).regs = d.regs := rfl
@[simp] theorem Device.msg_hold (d : Device) (cls inst kind detail : Nat) (injected runcnt : Bool) : (d.msg cls inst kind detail injected runcnt).hold = d.hold := rfl
@[simp] theorem Device.msg_bulk (d : Device) (cls inst kind detail : Nat) (injected runcnt : Bool) : (d.msg cls inst kind detail injected runcnt).bulk = d.bulk := rfl
@[simp] theorem Device.msg_bulkErr (d : Device) (cls inst kind detail : Nat) (injected runcnt : Bool) : (d.msg cls inst kind detail injected runcnt).bulkErr = d.bulkErr := rfl
@[simp] theorem Device.msg_mem (d : Device) (cls inst kind detail : Nat) (injected runcnt : Bool) : (d.msg cls inst kind detail injected runcnt).mem = d.mem := rfl
@[simp] theorem Device.msg_test (d : Device) (cls inst kind detail : Nat) (injected runcnt : Bool) : (d.msg cls inst kind detail injected runcnt).test = d.test := rfl
@[simp] theorem Device.msg_tables (d : Device) (cls inst kind detail : Nat) (injected runcnt : Bool) : (d.msg cls inst kind detail injected runcnt).tables = d.tables := rfl
@[simp] theorem Device.msg_qOcc (d : Device) (cls inst kind detail : Nat) (injected runcnt : Bool) : (d.msg cls inst kind detail injected runcnt).qOcc = d.qOcc := rfl
@[simp] theorem Device.msg_qGap (d : Device) (cls inst kind detail : Nat) (injected runcnt : Bool) : (d.msg cls inst kind detail injected runcnt).qGap = d.qGap := rfl
@[simp] theorem Device.msg_free (d : Device) (cls inst kind detail : Nat) (injected runcnt : Bool) : (d.msg cls inst kind detail injected runcnt).free = d.free := rfl
@[simp] theorem Device.msg_planners (d : Device) (cls inst kind detail : Nat) (injected runcnt : Bool) : (d.msg cls inst kind detail injected runcnt).planners = d.planners := rfl
@[simp] theorem Device.msg_plTicks (d : Device) (cls inst kind detail : Nat) (injected runcnt : Bool) : (d.msg cls inst kind detail injected runcnt).plTicks = d.plTicks := rfl
@[simp] theorem Device.msg_live (d : Device) (cls inst kind detail : Nat) (injected runcnt : Bool) : (d.msg cls inst kind detail injected runcnt).live = d.live := rfl
@[simp] theorem Device.msg_miles (d : Device) (cls inst kind detail : Nat) (injected runcnt : Bool) : (d.msg cls inst kind detail injected runcnt).miles = d.miles := rfl
@[simp] theorem Device.msg_latches (d : Device) (cls inst kind detail : Nat) (injected runcnt : Bool) : (d.msg cls inst kind detail injected runcnt).latches = d.latches := rfl
@[simp] theorem Device.msg_convoys (d : Device) (cls inst kind detail : Nat) (injected runcnt : Bool) : (d.msg cls inst kind detail injected runcnt).convoys = d.convoys := rfl
@[simp] theorem Device.msg_gantries (d : Device) (cls inst kind detail : Nat) (injected runcnt : Bool) : (d.msg cls inst kind detail injected runcnt).gantries = d.gantries := rfl
@[simp] theorem Device.msg_gens (d : Device) (cls inst kind detail : Nat) (injected runcnt : Bool) : (d.msg cls inst kind detail injected runcnt).gens = d.gens := rfl
@[simp] theorem Device.msg_ports (d : Device) (cls inst kind detail : Nat) (injected runcnt : Bool) : (d.msg cls inst kind detail injected runcnt).ports = d.ports := rfl
@[simp] theorem Device.msg_fbs (d : Device) (cls inst kind detail : Nat) (injected runcnt : Bool) : (d.msg cls inst kind detail injected runcnt).fbs = d.fbs := rfl
@[simp] theorem Device.msg_axes (d : Device) (cls inst kind detail : Nat) (injected runcnt : Bool) : (d.msg cls inst kind detail injected runcnt).axes = d.axes := rfl
@[simp] theorem Device.msg_lp (d : Device) (cls inst kind detail : Nat) (injected runcnt : Bool) : (d.msg cls inst kind detail injected runcnt).lp = d.lp := rfl
@[simp] theorem Device.msg_lpPend (d : Device) (cls inst kind detail : Nat) (injected runcnt : Bool) : (d.msg cls inst kind detail injected runcnt).lpPend = d.lpPend := rfl
@[simp] theorem Device.msg_engines (d : Device) (cls inst kind detail : Nat) (injected runcnt : Bool) : (d.msg cls inst kind detail injected runcnt).engines = d.engines := rfl
@[simp] theorem Device.msg_chains (d : Device) (cls inst kind detail : Nat) (injected runcnt : Bool) : (d.msg cls inst kind detail injected runcnt).chains = d.chains := rfl
@[simp] theorem Device.msg_pairs (d : Device) (cls inst kind detail : Nat) (injected runcnt : Bool) : (d.msg cls inst kind detail injected runcnt).pairs = d.pairs := rfl
@[simp] theorem Device.msg_md (d : Device) (cls inst kind detail : Nat) (injected runcnt : Bool) : (d.msg cls inst kind detail injected runcnt).md = d.md := rfl
@[simp] theorem Device.msg_fioCh (d : Device) (cls inst kind detail : Nat) (injected runcnt : Bool) : (d.msg cls inst kind detail injected runcnt).fioCh = d.fioCh := rfl
@[simp] theorem Device.msg_fioGrp (d : Device) (cls inst kind detail : Nat) (injected runcnt : Bool) : (d.msg cls inst kind detail injected runcnt).fioGrp = d.fioGrp := rfl
@[simp] theorem Device.msg_field (d : Device) (cls inst kind detail : Nat) (injected runcnt : Bool) : (d.msg cls inst kind detail injected runcnt).field = d.field := rfl
@[simp] theorem Device.msg_itins (d : Device) (cls inst kind detail : Nat) (injected runcnt : Bool) : (d.msg cls inst kind detail injected runcnt).itins = d.itins := rfl
@[simp] theorem Device.msg_it (d : Device) (cls inst kind detail : Nat) (injected runcnt : Bool) : (d.msg cls inst kind detail injected runcnt).it = d.it := rfl
@[simp] theorem Device.msg_cv (d : Device) (cls inst kind detail : Nat) (injected runcnt : Bool) : (d.msg cls inst kind detail injected runcnt).cv = d.cv := rfl
@[simp] theorem Device.msg_tg (d : Device) (cls inst kind detail : Nat) (injected runcnt : Bool) : (d.msg cls inst kind detail injected runcnt).tg = d.tg := rfl
@[simp] theorem Device.msg_tm (d : Device) (cls inst kind detail : Nat) (injected runcnt : Bool) : (d.msg cls inst kind detail injected runcnt).tm = d.tm := rfl
@[simp] theorem Device.msg_net (d : Device) (cls inst kind detail : Nat) (injected runcnt : Bool) : (d.msg cls inst kind detail injected runcnt).net = d.net := rfl
@[simp] theorem Device.msg_cans (d : Device) (cls inst kind detail : Nat) (injected runcnt : Bool) : (d.msg cls inst kind detail injected runcnt).cans = d.cans := rfl
@[simp] theorem Device.msg_boot (d : Device) (cls inst kind detail : Nat) (injected runcnt : Bool) : (d.msg cls inst kind detail injected runcnt).boot = d.boot := rfl
@[simp] theorem Device.msg_ln (d : Device) (cls inst kind detail : Nat) (injected runcnt : Bool) : (d.msg cls inst kind detail injected runcnt).ln = d.ln := rfl
@[simp] theorem Device.msg_rc (d : Device) (cls inst kind detail : Nat) (injected runcnt : Bool) : (d.msg cls inst kind detail injected runcnt).rc = d.rc := rfl
@[simp] theorem Device.msg_pkg (d : Device) (cls inst kind detail : Nat) (injected runcnt : Bool) : (d.msg cls inst kind detail injected runcnt).pkg = d.pkg := rfl

/-! setCell -/
@[simp] theorem Device.setCell_clk (d : Device) (key : Nat) (v : BitVec 8) (e : Nat) : (d.setCell key v e).clk = d.clk := rfl
@[simp] theorem Device.setCell_regs (d : Device) (key : Nat) (v : BitVec 8) (e : Nat) : (d.setCell key v e).regs = d.regs := rfl
@[simp] theorem Device.setCell_hold (d : Device) (key : Nat) (v : BitVec 8) (e : Nat) : (d.setCell key v e).hold = d.hold := rfl
@[simp] theorem Device.setCell_mem (d : Device) (key : Nat) (v : BitVec 8) (e : Nat) : (d.setCell key v e).mem = d.mem := rfl
@[simp] theorem Device.setCell_ledger (d : Device) (key : Nat) (v : BitVec 8) (e : Nat) : (d.setCell key v e).ledger = d.ledger := rfl
@[simp] theorem Device.setCell_test (d : Device) (key : Nat) (v : BitVec 8) (e : Nat) : (d.setCell key v e).test = d.test := rfl
@[simp] theorem Device.setCell_tables (d : Device) (key : Nat) (v : BitVec 8) (e : Nat) : (d.setCell key v e).tables = d.tables := rfl
@[simp] theorem Device.setCell_qOcc (d : Device) (key : Nat) (v : BitVec 8) (e : Nat) : (d.setCell key v e).qOcc = d.qOcc := rfl
@[simp] theorem Device.setCell_qGap (d : Device) (key : Nat) (v : BitVec 8) (e : Nat) : (d.setCell key v e).qGap = d.qGap := rfl
@[simp] theorem Device.setCell_free (d : Device) (key : Nat) (v : BitVec 8) (e : Nat) : (d.setCell key v e).free = d.free := rfl
@[simp] theorem Device.setCell_planners (d : Device) (key : Nat) (v : BitVec 8) (e : Nat) : (d.setCell key v e).planners = d.planners := rfl
@[simp] theorem Device.setCell_plTicks (d : Device) (key : Nat) (v : BitVec 8) (e : Nat) : (d.setCell key v e).plTicks = d.plTicks := rfl
@[simp] theorem Device.setCell_live (d : Device) (key : Nat) (v : BitVec 8) (e : Nat) : (d.setCell key v e).live = d.live := rfl
@[simp] theorem Device.setCell_miles (d : Device) (key : Nat) (v : BitVec 8) (e : Nat) : (d.setCell key v e).miles = d.miles := rfl
@[simp] theorem Device.setCell_latches (d : Device) (key : Nat) (v : BitVec 8) (e : Nat) : (d.setCell key v e).latches = d.latches := rfl
@[simp] theorem Device.setCell_convoys (d : Device) (key : Nat) (v : BitVec 8) (e : Nat) : (d.setCell key v e).convoys = d.convoys := rfl
@[simp] theorem Device.setCell_gantries (d : Device) (key : Nat) (v : BitVec 8) (e : Nat) : (d.setCell key v e).gantries = d.gantries := rfl
@[simp] theorem Device.setCell_gens (d : Device) (key : Nat) (v : BitVec 8) (e : Nat) : (d.setCell key v e).gens = d.gens := rfl
@[simp] theorem Device.setCell_ports (d : Device) (key : Nat) (v : BitVec 8) (e : Nat) : (d.setCell key v e).ports = d.ports := rfl
@[simp] theorem Device.setCell_fbs (d : Device) (key : Nat) (v : BitVec 8) (e : Nat) : (d.setCell key v e).fbs = d.fbs := rfl
@[simp] theorem Device.setCell_axes (d : Device) (key : Nat) (v : BitVec 8) (e : Nat) : (d.setCell key v e).axes = d.axes := rfl
@[simp] theorem Device.setCell_lp (d : Device) (key : Nat) (v : BitVec 8) (e : Nat) : (d.setCell key v e).lp = d.lp := rfl
@[simp] theorem Device.setCell_lpPend (d : Device) (key : Nat) (v : BitVec 8) (e : Nat) : (d.setCell key v e).lpPend = d.lpPend := rfl
@[simp] theorem Device.setCell_engines (d : Device) (key : Nat) (v : BitVec 8) (e : Nat) : (d.setCell key v e).engines = d.engines := rfl
@[simp] theorem Device.setCell_chains (d : Device) (key : Nat) (v : BitVec 8) (e : Nat) : (d.setCell key v e).chains = d.chains := rfl
@[simp] theorem Device.setCell_pairs (d : Device) (key : Nat) (v : BitVec 8) (e : Nat) : (d.setCell key v e).pairs = d.pairs := rfl
@[simp] theorem Device.setCell_md (d : Device) (key : Nat) (v : BitVec 8) (e : Nat) : (d.setCell key v e).md = d.md := rfl
@[simp] theorem Device.setCell_fioCh (d : Device) (key : Nat) (v : BitVec 8) (e : Nat) : (d.setCell key v e).fioCh = d.fioCh := rfl
@[simp] theorem Device.setCell_fioGrp (d : Device) (key : Nat) (v : BitVec 8) (e : Nat) : (d.setCell key v e).fioGrp = d.fioGrp := rfl
@[simp] theorem Device.setCell_field (d : Device) (key : Nat) (v : BitVec 8) (e : Nat) : (d.setCell key v e).field = d.field := rfl
@[simp] theorem Device.setCell_itins (d : Device) (key : Nat) (v : BitVec 8) (e : Nat) : (d.setCell key v e).itins = d.itins := rfl
@[simp] theorem Device.setCell_it (d : Device) (key : Nat) (v : BitVec 8) (e : Nat) : (d.setCell key v e).it = d.it := rfl
@[simp] theorem Device.setCell_cv (d : Device) (key : Nat) (v : BitVec 8) (e : Nat) : (d.setCell key v e).cv = d.cv := rfl
@[simp] theorem Device.setCell_tg (d : Device) (key : Nat) (v : BitVec 8) (e : Nat) : (d.setCell key v e).tg = d.tg := rfl
@[simp] theorem Device.setCell_tm (d : Device) (key : Nat) (v : BitVec 8) (e : Nat) : (d.setCell key v e).tm = d.tm := rfl
@[simp] theorem Device.setCell_net (d : Device) (key : Nat) (v : BitVec 8) (e : Nat) : (d.setCell key v e).net = d.net := rfl
@[simp] theorem Device.setCell_cans (d : Device) (key : Nat) (v : BitVec 8) (e : Nat) : (d.setCell key v e).cans = d.cans := rfl
@[simp] theorem Device.setCell_boot (d : Device) (key : Nat) (v : BitVec 8) (e : Nat) : (d.setCell key v e).boot = d.boot := rfl
@[simp] theorem Device.setCell_ln (d : Device) (key : Nat) (v : BitVec 8) (e : Nat) : (d.setCell key v e).ln = d.ln := rfl
@[simp] theorem Device.setCell_rc (d : Device) (key : Nat) (v : BitVec 8) (e : Nat) : (d.setCell key v e).rc = d.rc := rfl
@[simp] theorem Device.setCell_pkg (d : Device) (key : Nat) (v : BitVec 8) (e : Nat) : (d.setCell key v e).pkg = d.pkg := rfl

/-! poke1 -/
@[simp] theorem Device.poke1_clk (d : Device) (a : Nat) (v : BitVec 8) : (d.poke1 a v).clk = d.clk := rfl
@[simp] theorem Device.poke1_regs (d : Device) (a : Nat) (v : BitVec 8) : (d.poke1 a v).regs = d.regs := rfl
@[simp] theorem Device.poke1_hold (d : Device) (a : Nat) (v : BitVec 8) : (d.poke1 a v).hold = d.hold := rfl
@[simp] theorem Device.poke1_mem (d : Device) (a : Nat) (v : BitVec 8) : (d.poke1 a v).mem = d.mem := rfl
@[simp] theorem Device.poke1_ledger (d : Device) (a : Nat) (v : BitVec 8) : (d.poke1 a v).ledger = d.ledger := rfl
@[simp] theorem Device.poke1_test (d : Device) (a : Nat) (v : BitVec 8) : (d.poke1 a v).test = d.test := rfl
@[simp] theorem Device.poke1_tables (d : Device) (a : Nat) (v : BitVec 8) : (d.poke1 a v).tables = d.tables := rfl
@[simp] theorem Device.poke1_qOcc (d : Device) (a : Nat) (v : BitVec 8) : (d.poke1 a v).qOcc = d.qOcc := rfl
@[simp] theorem Device.poke1_qGap (d : Device) (a : Nat) (v : BitVec 8) : (d.poke1 a v).qGap = d.qGap := rfl
@[simp] theorem Device.poke1_free (d : Device) (a : Nat) (v : BitVec 8) : (d.poke1 a v).free = d.free := rfl
@[simp] theorem Device.poke1_planners (d : Device) (a : Nat) (v : BitVec 8) : (d.poke1 a v).planners = d.planners := rfl
@[simp] theorem Device.poke1_plTicks (d : Device) (a : Nat) (v : BitVec 8) : (d.poke1 a v).plTicks = d.plTicks := rfl
@[simp] theorem Device.poke1_live (d : Device) (a : Nat) (v : BitVec 8) : (d.poke1 a v).live = d.live := rfl
@[simp] theorem Device.poke1_miles (d : Device) (a : Nat) (v : BitVec 8) : (d.poke1 a v).miles = d.miles := rfl
@[simp] theorem Device.poke1_latches (d : Device) (a : Nat) (v : BitVec 8) : (d.poke1 a v).latches = d.latches := rfl
@[simp] theorem Device.poke1_convoys (d : Device) (a : Nat) (v : BitVec 8) : (d.poke1 a v).convoys = d.convoys := rfl
@[simp] theorem Device.poke1_gantries (d : Device) (a : Nat) (v : BitVec 8) : (d.poke1 a v).gantries = d.gantries := rfl
@[simp] theorem Device.poke1_gens (d : Device) (a : Nat) (v : BitVec 8) : (d.poke1 a v).gens = d.gens := rfl
@[simp] theorem Device.poke1_ports (d : Device) (a : Nat) (v : BitVec 8) : (d.poke1 a v).ports = d.ports := rfl
@[simp] theorem Device.poke1_fbs (d : Device) (a : Nat) (v : BitVec 8) : (d.poke1 a v).fbs = d.fbs := rfl
@[simp] theorem Device.poke1_axes (d : Device) (a : Nat) (v : BitVec 8) : (d.poke1 a v).axes = d.axes := rfl
@[simp] theorem Device.poke1_lp (d : Device) (a : Nat) (v : BitVec 8) : (d.poke1 a v).lp = d.lp := rfl
@[simp] theorem Device.poke1_lpPend (d : Device) (a : Nat) (v : BitVec 8) : (d.poke1 a v).lpPend = d.lpPend := rfl
@[simp] theorem Device.poke1_engines (d : Device) (a : Nat) (v : BitVec 8) : (d.poke1 a v).engines = d.engines := rfl
@[simp] theorem Device.poke1_chains (d : Device) (a : Nat) (v : BitVec 8) : (d.poke1 a v).chains = d.chains := rfl
@[simp] theorem Device.poke1_pairs (d : Device) (a : Nat) (v : BitVec 8) : (d.poke1 a v).pairs = d.pairs := rfl
@[simp] theorem Device.poke1_md (d : Device) (a : Nat) (v : BitVec 8) : (d.poke1 a v).md = d.md := rfl
@[simp] theorem Device.poke1_fioCh (d : Device) (a : Nat) (v : BitVec 8) : (d.poke1 a v).fioCh = d.fioCh := rfl
@[simp] theorem Device.poke1_fioGrp (d : Device) (a : Nat) (v : BitVec 8) : (d.poke1 a v).fioGrp = d.fioGrp := rfl
@[simp] theorem Device.poke1_field (d : Device) (a : Nat) (v : BitVec 8) : (d.poke1 a v).field = d.field := rfl
@[simp] theorem Device.poke1_itins (d : Device) (a : Nat) (v : BitVec 8) : (d.poke1 a v).itins = d.itins := rfl
@[simp] theorem Device.poke1_it (d : Device) (a : Nat) (v : BitVec 8) : (d.poke1 a v).it = d.it := rfl
@[simp] theorem Device.poke1_cv (d : Device) (a : Nat) (v : BitVec 8) : (d.poke1 a v).cv = d.cv := rfl
@[simp] theorem Device.poke1_tg (d : Device) (a : Nat) (v : BitVec 8) : (d.poke1 a v).tg = d.tg := rfl
@[simp] theorem Device.poke1_tm (d : Device) (a : Nat) (v : BitVec 8) : (d.poke1 a v).tm = d.tm := rfl
@[simp] theorem Device.poke1_net (d : Device) (a : Nat) (v : BitVec 8) : (d.poke1 a v).net = d.net := rfl
@[simp] theorem Device.poke1_cans (d : Device) (a : Nat) (v : BitVec 8) : (d.poke1 a v).cans = d.cans := rfl
@[simp] theorem Device.poke1_boot (d : Device) (a : Nat) (v : BitVec 8) : (d.poke1 a v).boot = d.boot := rfl
@[simp] theorem Device.poke1_ln (d : Device) (a : Nat) (v : BitVec 8) : (d.poke1 a v).ln = d.ln := rfl
@[simp] theorem Device.poke1_rc (d : Device) (a : Nat) (v : BitVec 8) : (d.poke1 a v).rc = d.rc := rfl
@[simp] theorem Device.poke1_pkg (d : Device) (a : Nat) (v : BitVec 8) : (d.poke1 a v).pkg = d.pkg := rfl

/-! setHold -/
@[simp] theorem Device.setHold_clk (d : Device) (p : Nat) (f : Hold → Hold) : (d.setHold p f).clk = d.clk := rfl
@[simp] theorem Device.setHold_regs (d : Device) (p : Nat) (f : Hold → Hold) : (d.setHold p f).regs = d.regs := rfl
@[simp] theorem Device.setHold_bulk (d : Device) (p : Nat) (f : Hold → Hold) : (d.setHold p f).bulk = d.bulk := rfl
@[simp] theorem Device.setHold_bulkErr (d : Device) (p : Nat) (f : Hold → Hold) : (d.setHold p f).bulkErr = d.bulkErr := rfl
@[simp] theorem Device.setHold_mem (d : Device) (p : Nat) (f : Hold → Hold) : (d.setHold p f).mem = d.mem := rfl
@[simp] theorem Device.setHold_ledger (d : Device) (p : Nat) (f : Hold → Hold) : (d.setHold p f).ledger = d.ledger := rfl
@[simp] theorem Device.setHold_test (d : Device) (p : Nat) (f : Hold → Hold) : (d.setHold p f).test = d.test := rfl
@[simp] theorem Device.setHold_tables (d : Device) (p : Nat) (f : Hold → Hold) : (d.setHold p f).tables = d.tables := rfl
@[simp] theorem Device.setHold_qOcc (d : Device) (p : Nat) (f : Hold → Hold) : (d.setHold p f).qOcc = d.qOcc := rfl
@[simp] theorem Device.setHold_qGap (d : Device) (p : Nat) (f : Hold → Hold) : (d.setHold p f).qGap = d.qGap := rfl
@[simp] theorem Device.setHold_free (d : Device) (p : Nat) (f : Hold → Hold) : (d.setHold p f).free = d.free := rfl
@[simp] theorem Device.setHold_planners (d : Device) (p : Nat) (f : Hold → Hold) : (d.setHold p f).planners = d.planners := rfl
@[simp] theorem Device.setHold_plTicks (d : Device) (p : Nat) (f : Hold → Hold) : (d.setHold p f).plTicks = d.plTicks := rfl
@[simp] theorem Device.setHold_live (d : Device) (p : Nat) (f : Hold → Hold) : (d.setHold p f).live = d.live := rfl
@[simp] theorem Device.setHold_miles (d : Device) (p : Nat) (f : Hold → Hold) : (d.setHold p f).miles = d.miles := rfl
@[simp] theorem Device.setHold_latches (d : Device) (p : Nat) (f : Hold → Hold) : (d.setHold p f).latches = d.latches := rfl
@[simp] theorem Device.setHold_convoys (d : Device) (p : Nat) (f : Hold → Hold) : (d.setHold p f).convoys = d.convoys := rfl
@[simp] theorem Device.setHold_gantries (d : Device) (p : Nat) (f : Hold → Hold) : (d.setHold p f).gantries = d.gantries := rfl
@[simp] theorem Device.setHold_gens (d : Device) (p : Nat) (f : Hold → Hold) : (d.setHold p f).gens = d.gens := rfl
@[simp] theorem Device.setHold_ports (d : Device) (p : Nat) (f : Hold → Hold) : (d.setHold p f).ports = d.ports := rfl
@[simp] theorem Device.setHold_fbs (d : Device) (p : Nat) (f : Hold → Hold) : (d.setHold p f).fbs = d.fbs := rfl
@[simp] theorem Device.setHold_axes (d : Device) (p : Nat) (f : Hold → Hold) : (d.setHold p f).axes = d.axes := rfl
@[simp] theorem Device.setHold_lp (d : Device) (p : Nat) (f : Hold → Hold) : (d.setHold p f).lp = d.lp := rfl
@[simp] theorem Device.setHold_lpPend (d : Device) (p : Nat) (f : Hold → Hold) : (d.setHold p f).lpPend = d.lpPend := rfl
@[simp] theorem Device.setHold_engines (d : Device) (p : Nat) (f : Hold → Hold) : (d.setHold p f).engines = d.engines := rfl
@[simp] theorem Device.setHold_chains (d : Device) (p : Nat) (f : Hold → Hold) : (d.setHold p f).chains = d.chains := rfl
@[simp] theorem Device.setHold_pairs (d : Device) (p : Nat) (f : Hold → Hold) : (d.setHold p f).pairs = d.pairs := rfl
@[simp] theorem Device.setHold_md (d : Device) (p : Nat) (f : Hold → Hold) : (d.setHold p f).md = d.md := rfl
@[simp] theorem Device.setHold_fioCh (d : Device) (p : Nat) (f : Hold → Hold) : (d.setHold p f).fioCh = d.fioCh := rfl
@[simp] theorem Device.setHold_fioGrp (d : Device) (p : Nat) (f : Hold → Hold) : (d.setHold p f).fioGrp = d.fioGrp := rfl
@[simp] theorem Device.setHold_field (d : Device) (p : Nat) (f : Hold → Hold) : (d.setHold p f).field = d.field := rfl
@[simp] theorem Device.setHold_itins (d : Device) (p : Nat) (f : Hold → Hold) : (d.setHold p f).itins = d.itins := rfl
@[simp] theorem Device.setHold_it (d : Device) (p : Nat) (f : Hold → Hold) : (d.setHold p f).it = d.it := rfl
@[simp] theorem Device.setHold_cv (d : Device) (p : Nat) (f : Hold → Hold) : (d.setHold p f).cv = d.cv := rfl
@[simp] theorem Device.setHold_tg (d : Device) (p : Nat) (f : Hold → Hold) : (d.setHold p f).tg = d.tg := rfl
@[simp] theorem Device.setHold_tm (d : Device) (p : Nat) (f : Hold → Hold) : (d.setHold p f).tm = d.tm := rfl
@[simp] theorem Device.setHold_net (d : Device) (p : Nat) (f : Hold → Hold) : (d.setHold p f).net = d.net := rfl
@[simp] theorem Device.setHold_cans (d : Device) (p : Nat) (f : Hold → Hold) : (d.setHold p f).cans = d.cans := rfl
@[simp] theorem Device.setHold_boot (d : Device) (p : Nat) (f : Hold → Hold) : (d.setHold p f).boot = d.boot := rfl
@[simp] theorem Device.setHold_ln (d : Device) (p : Nat) (f : Hold → Hold) : (d.setHold p f).ln = d.ln := rfl
@[simp] theorem Device.setHold_rc (d : Device) (p : Nat) (f : Hold → Hold) : (d.setHold p f).rc = d.rc := rfl
@[simp] theorem Device.setHold_pkg (d : Device) (p : Nat) (f : Hold → Hold) : (d.setHold p f).pkg = d.pkg := rfl

/-! setAx -/
@[simp] theorem Device.setAx_clk (d : Device) (k : Nat) (f : AxisCtl → AxisCtl) : (d.setAx k f).clk = d.clk := rfl
@[simp] theorem Device.setAx_regs (d : Device) (k : Nat) (f : AxisCtl → AxisCtl) : (d.setAx k f).regs = d.regs := rfl
@[simp] theorem Device.setAx_hold (d : Device) (k : Nat) (f : AxisCtl → AxisCtl) : (d.setAx k f).hold = d.hold := rfl
@[simp] theorem Device.setAx_bulk (d : Device) (k : Nat) (f : AxisCtl → AxisCtl) : (d.setAx k f).bulk = d.bulk := rfl
@[simp] theorem Device.setAx_bulkErr (d : Device) (k : Nat) (f : AxisCtl → AxisCtl) : (d.setAx k f).bulkErr = d.bulkErr := rfl
@[simp] theorem Device.setAx_mem (d : Device) (k : Nat) (f : AxisCtl → AxisCtl) : (d.setAx k f).mem = d.mem := rfl
@[simp] theorem Device.setAx_ledger (d : Device) (k : Nat) (f : AxisCtl → AxisCtl) : (d.setAx k f).ledger = d.ledger := rfl
@[simp] theorem Device.setAx_test (d : Device) (k : Nat) (f : AxisCtl → AxisCtl) : (d.setAx k f).test = d.test := rfl
@[simp] theorem Device.setAx_tables (d : Device) (k : Nat) (f : AxisCtl → AxisCtl) : (d.setAx k f).tables = d.tables := rfl
@[simp] theorem Device.setAx_qOcc (d : Device) (k : Nat) (f : AxisCtl → AxisCtl) : (d.setAx k f).qOcc = d.qOcc := rfl
@[simp] theorem Device.setAx_qGap (d : Device) (k : Nat) (f : AxisCtl → AxisCtl) : (d.setAx k f).qGap = d.qGap := rfl
@[simp] theorem Device.setAx_free (d : Device) (k : Nat) (f : AxisCtl → AxisCtl) : (d.setAx k f).free = d.free := rfl
@[simp] theorem Device.setAx_planners (d : Device) (k : Nat) (f : AxisCtl → AxisCtl) : (d.setAx k f).planners = d.planners := rfl
@[simp] theorem Device.setAx_plTicks (d : Device) (k : Nat) (f : AxisCtl → AxisCtl) : (d.setAx k f).plTicks = d.plTicks := rfl
@[simp] theorem Device.setAx_live (d : Device) (k : Nat) (f : AxisCtl → AxisCtl) : (d.setAx k f).live = d.live := rfl
@[simp] theorem Device.setAx_miles (d : Device) (k : Nat) (f : AxisCtl → AxisCtl) : (d.setAx k f).miles = d.miles := rfl
@[simp] theorem Device.setAx_latches (d : Device) (k : Nat) (f : AxisCtl → AxisCtl) : (d.setAx k f).latches = d.latches := rfl
@[simp] theorem Device.setAx_convoys (d : Device) (k : Nat) (f : AxisCtl → AxisCtl) : (d.setAx k f).convoys = d.convoys := rfl
@[simp] theorem Device.setAx_gantries (d : Device) (k : Nat) (f : AxisCtl → AxisCtl) : (d.setAx k f).gantries = d.gantries := rfl
@[simp] theorem Device.setAx_gens (d : Device) (k : Nat) (f : AxisCtl → AxisCtl) : (d.setAx k f).gens = d.gens := rfl
@[simp] theorem Device.setAx_ports (d : Device) (k : Nat) (f : AxisCtl → AxisCtl) : (d.setAx k f).ports = d.ports := rfl
@[simp] theorem Device.setAx_fbs (d : Device) (k : Nat) (f : AxisCtl → AxisCtl) : (d.setAx k f).fbs = d.fbs := rfl
@[simp] theorem Device.setAx_lp (d : Device) (k : Nat) (f : AxisCtl → AxisCtl) : (d.setAx k f).lp = d.lp := rfl
@[simp] theorem Device.setAx_lpPend (d : Device) (k : Nat) (f : AxisCtl → AxisCtl) : (d.setAx k f).lpPend = d.lpPend := rfl
@[simp] theorem Device.setAx_engines (d : Device) (k : Nat) (f : AxisCtl → AxisCtl) : (d.setAx k f).engines = d.engines := rfl
@[simp] theorem Device.setAx_chains (d : Device) (k : Nat) (f : AxisCtl → AxisCtl) : (d.setAx k f).chains = d.chains := rfl
@[simp] theorem Device.setAx_pairs (d : Device) (k : Nat) (f : AxisCtl → AxisCtl) : (d.setAx k f).pairs = d.pairs := rfl
@[simp] theorem Device.setAx_md (d : Device) (k : Nat) (f : AxisCtl → AxisCtl) : (d.setAx k f).md = d.md := rfl
@[simp] theorem Device.setAx_fioCh (d : Device) (k : Nat) (f : AxisCtl → AxisCtl) : (d.setAx k f).fioCh = d.fioCh := rfl
@[simp] theorem Device.setAx_fioGrp (d : Device) (k : Nat) (f : AxisCtl → AxisCtl) : (d.setAx k f).fioGrp = d.fioGrp := rfl
@[simp] theorem Device.setAx_field (d : Device) (k : Nat) (f : AxisCtl → AxisCtl) : (d.setAx k f).field = d.field := rfl
@[simp] theorem Device.setAx_itins (d : Device) (k : Nat) (f : AxisCtl → AxisCtl) : (d.setAx k f).itins = d.itins := rfl
@[simp] theorem Device.setAx_it (d : Device) (k : Nat) (f : AxisCtl → AxisCtl) : (d.setAx k f).it = d.it := rfl
@[simp] theorem Device.setAx_cv (d : Device) (k : Nat) (f : AxisCtl → AxisCtl) : (d.setAx k f).cv = d.cv := rfl
@[simp] theorem Device.setAx_tg (d : Device) (k : Nat) (f : AxisCtl → AxisCtl) : (d.setAx k f).tg = d.tg := rfl
@[simp] theorem Device.setAx_tm (d : Device) (k : Nat) (f : AxisCtl → AxisCtl) : (d.setAx k f).tm = d.tm := rfl
@[simp] theorem Device.setAx_net (d : Device) (k : Nat) (f : AxisCtl → AxisCtl) : (d.setAx k f).net = d.net := rfl
@[simp] theorem Device.setAx_cans (d : Device) (k : Nat) (f : AxisCtl → AxisCtl) : (d.setAx k f).cans = d.cans := rfl
@[simp] theorem Device.setAx_boot (d : Device) (k : Nat) (f : AxisCtl → AxisCtl) : (d.setAx k f).boot = d.boot := rfl
@[simp] theorem Device.setAx_ln (d : Device) (k : Nat) (f : AxisCtl → AxisCtl) : (d.setAx k f).ln = d.ln := rfl
@[simp] theorem Device.setAx_rc (d : Device) (k : Nat) (f : AxisCtl → AxisCtl) : (d.setAx k f).rc = d.rc := rfl
@[simp] theorem Device.setAx_pkg (d : Device) (k : Nat) (f : AxisCtl → AxisCtl) : (d.setAx k f).pkg = d.pkg := rfl

/-! setCan -/
@[simp] theorem Device.setCan_clk (d : Device) (b : Nat) (f : Can → Can) : (d.setCan b f).clk = d.clk := rfl
@[simp] theorem Device.setCan_regs (d : Device) (b : Nat) (f : Can → Can) : (d.setCan b f).regs = d.regs := rfl
@[simp] theorem Device.setCan_hold (d : Device) (b : Nat) (f : Can → Can) : (d.setCan b f).hold = d.hold := rfl
@[simp] theorem Device.setCan_bulk (d : Device) (b : Nat) (f : Can → Can) : (d.setCan b f).bulk = d.bulk := rfl
@[simp] theorem Device.setCan_bulkErr (d : Device) (b : Nat) (f : Can → Can) : (d.setCan b f).bulkErr = d.bulkErr := rfl
@[simp] theorem Device.setCan_mem (d : Device) (b : Nat) (f : Can → Can) : (d.setCan b f).mem = d.mem := rfl
@[simp] theorem Device.setCan_ledger (d : Device) (b : Nat) (f : Can → Can) : (d.setCan b f).ledger = d.ledger := rfl
@[simp] theorem Device.setCan_test (d : Device) (b : Nat) (f : Can → Can) : (d.setCan b f).test = d.test := rfl
@[simp] theorem Device.setCan_tables (d : Device) (b : Nat) (f : Can → Can) : (d.setCan b f).tables = d.tables := rfl
@[simp] theorem Device.setCan_qOcc (d : Device) (b : Nat) (f : Can → Can) : (d.setCan b f).qOcc = d.qOcc := rfl
@[simp] theorem Device.setCan_qGap (d : Device) (b : Nat) (f : Can → Can) : (d.setCan b f).qGap = d.qGap := rfl
@[simp] theorem Device.setCan_free (d : Device) (b : Nat) (f : Can → Can) : (d.setCan b f).free = d.free := rfl
@[simp] theorem Device.setCan_planners (d : Device) (b : Nat) (f : Can → Can) : (d.setCan b f).planners = d.planners := rfl
@[simp] theorem Device.setCan_plTicks (d : Device) (b : Nat) (f : Can → Can) : (d.setCan b f).plTicks = d.plTicks := rfl
@[simp] theorem Device.setCan_live (d : Device) (b : Nat) (f : Can → Can) : (d.setCan b f).live = d.live := rfl
@[simp] theorem Device.setCan_miles (d : Device) (b : Nat) (f : Can → Can) : (d.setCan b f).miles = d.miles := rfl
@[simp] theorem Device.setCan_latches (d : Device) (b : Nat) (f : Can → Can) : (d.setCan b f).latches = d.latches := rfl
@[simp] theorem Device.setCan_convoys (d : Device) (b : Nat) (f : Can → Can) : (d.setCan b f).convoys = d.convoys := rfl
@[simp] theorem Device.setCan_gantries (d : Device) (b : Nat) (f : Can → Can) : (d.setCan b f).gantries = d.gantries := rfl
@[simp] theorem Device.setCan_gens (d : Device) (b : Nat) (f : Can → Can) : (d.setCan b f).gens = d.gens := rfl
@[simp] theorem Device.setCan_ports (d : Device) (b : Nat) (f : Can → Can) : (d.setCan b f).ports = d.ports := rfl
@[simp] theorem Device.setCan_fbs (d : Device) (b : Nat) (f : Can → Can) : (d.setCan b f).fbs = d.fbs := rfl
@[simp] theorem Device.setCan_axes (d : Device) (b : Nat) (f : Can → Can) : (d.setCan b f).axes = d.axes := rfl
@[simp] theorem Device.setCan_lp (d : Device) (b : Nat) (f : Can → Can) : (d.setCan b f).lp = d.lp := rfl
@[simp] theorem Device.setCan_lpPend (d : Device) (b : Nat) (f : Can → Can) : (d.setCan b f).lpPend = d.lpPend := rfl
@[simp] theorem Device.setCan_engines (d : Device) (b : Nat) (f : Can → Can) : (d.setCan b f).engines = d.engines := rfl
@[simp] theorem Device.setCan_chains (d : Device) (b : Nat) (f : Can → Can) : (d.setCan b f).chains = d.chains := rfl
@[simp] theorem Device.setCan_pairs (d : Device) (b : Nat) (f : Can → Can) : (d.setCan b f).pairs = d.pairs := rfl
@[simp] theorem Device.setCan_md (d : Device) (b : Nat) (f : Can → Can) : (d.setCan b f).md = d.md := rfl
@[simp] theorem Device.setCan_fioCh (d : Device) (b : Nat) (f : Can → Can) : (d.setCan b f).fioCh = d.fioCh := rfl
@[simp] theorem Device.setCan_fioGrp (d : Device) (b : Nat) (f : Can → Can) : (d.setCan b f).fioGrp = d.fioGrp := rfl
@[simp] theorem Device.setCan_field (d : Device) (b : Nat) (f : Can → Can) : (d.setCan b f).field = d.field := rfl
@[simp] theorem Device.setCan_itins (d : Device) (b : Nat) (f : Can → Can) : (d.setCan b f).itins = d.itins := rfl
@[simp] theorem Device.setCan_it (d : Device) (b : Nat) (f : Can → Can) : (d.setCan b f).it = d.it := rfl
@[simp] theorem Device.setCan_cv (d : Device) (b : Nat) (f : Can → Can) : (d.setCan b f).cv = d.cv := rfl
@[simp] theorem Device.setCan_tg (d : Device) (b : Nat) (f : Can → Can) : (d.setCan b f).tg = d.tg := rfl
@[simp] theorem Device.setCan_tm (d : Device) (b : Nat) (f : Can → Can) : (d.setCan b f).tm = d.tm := rfl
@[simp] theorem Device.setCan_net (d : Device) (b : Nat) (f : Can → Can) : (d.setCan b f).net = d.net := rfl
@[simp] theorem Device.setCan_boot (d : Device) (b : Nat) (f : Can → Can) : (d.setCan b f).boot = d.boot := rfl
@[simp] theorem Device.setCan_ln (d : Device) (b : Nat) (f : Can → Can) : (d.setCan b f).ln = d.ln := rfl
@[simp] theorem Device.setCan_rc (d : Device) (b : Nat) (f : Can → Can) : (d.setCan b f).rc = d.rc := rfl
@[simp] theorem Device.setCan_pkg (d : Device) (b : Nat) (f : Can → Can) : (d.setCan b f).pkg = d.pkg := rfl

/-! setChain -/
@[simp] theorem Device.setChain_clk (d : Device) (c : Nat) (f : Chain → Chain) : (d.setChain c f).clk = d.clk := rfl
@[simp] theorem Device.setChain_regs (d : Device) (c : Nat) (f : Chain → Chain) : (d.setChain c f).regs = d.regs := rfl
@[simp] theorem Device.setChain_hold (d : Device) (c : Nat) (f : Chain → Chain) : (d.setChain c f).hold = d.hold := rfl
@[simp] theorem Device.setChain_bulk (d : Device) (c : Nat) (f : Chain → Chain) : (d.setChain c f).bulk = d.bulk := rfl
@[simp] theorem Device.setChain_bulkErr (d : Device) (c : Nat) (f : Chain → Chain) : (d.setChain c f).bulkErr = d.bulkErr := rfl
@[simp] theorem Device.setChain_mem (d : Device) (c : Nat) (f : Chain → Chain) : (d.setChain c f).mem = d.mem := rfl
@[simp] theorem Device.setChain_ledger (d : Device) (c : Nat) (f : Chain → Chain) : (d.setChain c f).ledger = d.ledger := rfl
@[simp] theorem Device.setChain_test (d : Device) (c : Nat) (f : Chain → Chain) : (d.setChain c f).test = d.test := rfl
@[simp] theorem Device.setChain_tables (d : Device) (c : Nat) (f : Chain → Chain) : (d.setChain c f).tables = d.tables := rfl
@[simp] theorem Device.setChain_qOcc (d : Device) (c : Nat) (f : Chain → Chain) : (d.setChain c f).qOcc = d.qOcc := rfl
@[simp] theorem Device.setChain_qGap (d : Device) (c : Nat) (f : Chain → Chain) : (d.setChain c f).qGap = d.qGap := rfl
@[simp] theorem Device.setChain_free (d : Device) (c : Nat) (f : Chain → Chain) : (d.setChain c f).free = d.free := rfl
@[simp] theorem Device.setChain_planners (d : Device) (c : Nat) (f : Chain → Chain) : (d.setChain c f).planners = d.planners := rfl
@[simp] theorem Device.setChain_plTicks (d : Device) (c : Nat) (f : Chain → Chain) : (d.setChain c f).plTicks = d.plTicks := rfl
@[simp] theorem Device.setChain_live (d : Device) (c : Nat) (f : Chain → Chain) : (d.setChain c f).live = d.live := rfl
@[simp] theorem Device.setChain_miles (d : Device) (c : Nat) (f : Chain → Chain) : (d.setChain c f).miles = d.miles := rfl
@[simp] theorem Device.setChain_latches (d : Device) (c : Nat) (f : Chain → Chain) : (d.setChain c f).latches = d.latches := rfl
@[simp] theorem Device.setChain_convoys (d : Device) (c : Nat) (f : Chain → Chain) : (d.setChain c f).convoys = d.convoys := rfl
@[simp] theorem Device.setChain_gantries (d : Device) (c : Nat) (f : Chain → Chain) : (d.setChain c f).gantries = d.gantries := rfl
@[simp] theorem Device.setChain_gens (d : Device) (c : Nat) (f : Chain → Chain) : (d.setChain c f).gens = d.gens := rfl
@[simp] theorem Device.setChain_ports (d : Device) (c : Nat) (f : Chain → Chain) : (d.setChain c f).ports = d.ports := rfl
@[simp] theorem Device.setChain_fbs (d : Device) (c : Nat) (f : Chain → Chain) : (d.setChain c f).fbs = d.fbs := rfl
@[simp] theorem Device.setChain_axes (d : Device) (c : Nat) (f : Chain → Chain) : (d.setChain c f).axes = d.axes := rfl
@[simp] theorem Device.setChain_lp (d : Device) (c : Nat) (f : Chain → Chain) : (d.setChain c f).lp = d.lp := rfl
@[simp] theorem Device.setChain_lpPend (d : Device) (c : Nat) (f : Chain → Chain) : (d.setChain c f).lpPend = d.lpPend := rfl
@[simp] theorem Device.setChain_engines (d : Device) (c : Nat) (f : Chain → Chain) : (d.setChain c f).engines = d.engines := rfl
@[simp] theorem Device.setChain_pairs (d : Device) (c : Nat) (f : Chain → Chain) : (d.setChain c f).pairs = d.pairs := rfl
@[simp] theorem Device.setChain_md (d : Device) (c : Nat) (f : Chain → Chain) : (d.setChain c f).md = d.md := rfl
@[simp] theorem Device.setChain_fioCh (d : Device) (c : Nat) (f : Chain → Chain) : (d.setChain c f).fioCh = d.fioCh := rfl
@[simp] theorem Device.setChain_fioGrp (d : Device) (c : Nat) (f : Chain → Chain) : (d.setChain c f).fioGrp = d.fioGrp := rfl
@[simp] theorem Device.setChain_field (d : Device) (c : Nat) (f : Chain → Chain) : (d.setChain c f).field = d.field := rfl
@[simp] theorem Device.setChain_itins (d : Device) (c : Nat) (f : Chain → Chain) : (d.setChain c f).itins = d.itins := rfl
@[simp] theorem Device.setChain_it (d : Device) (c : Nat) (f : Chain → Chain) : (d.setChain c f).it = d.it := rfl
@[simp] theorem Device.setChain_cv (d : Device) (c : Nat) (f : Chain → Chain) : (d.setChain c f).cv = d.cv := rfl
@[simp] theorem Device.setChain_tg (d : Device) (c : Nat) (f : Chain → Chain) : (d.setChain c f).tg = d.tg := rfl
@[simp] theorem Device.setChain_tm (d : Device) (c : Nat) (f : Chain → Chain) : (d.setChain c f).tm = d.tm := rfl
@[simp] theorem Device.setChain_net (d : Device) (c : Nat) (f : Chain → Chain) : (d.setChain c f).net = d.net := rfl
@[simp] theorem Device.setChain_cans (d : Device) (c : Nat) (f : Chain → Chain) : (d.setChain c f).cans = d.cans := rfl
@[simp] theorem Device.setChain_boot (d : Device) (c : Nat) (f : Chain → Chain) : (d.setChain c f).boot = d.boot := rfl
@[simp] theorem Device.setChain_ln (d : Device) (c : Nat) (f : Chain → Chain) : (d.setChain c f).ln = d.ln := rfl
@[simp] theorem Device.setChain_rc (d : Device) (c : Nat) (f : Chain → Chain) : (d.setChain c f).rc = d.rc := rfl
@[simp] theorem Device.setChain_pkg (d : Device) (c : Nat) (f : Chain → Chain) : (d.setChain c f).pkg = d.pkg := rfl

/-! setCv -/
@[simp] theorem Device.setCv_clk (d : Device) (f : Caravan → Caravan) : (d.setCv f).clk = d.clk := rfl
@[simp] theorem Device.setCv_regs (d : Device) (f : Caravan → Caravan) : (d.setCv f).regs = d.regs := rfl
@[simp] theorem Device.setCv_hold (d : Device) (f : Caravan → Caravan) : (d.setCv f).hold = d.hold := rfl
@[simp] theorem Device.setCv_bulk (d : Device) (f : Caravan → Caravan) : (d.setCv f).bulk = d.bulk := rfl
@[simp] theorem Device.setCv_bulkErr (d : Device) (f : Caravan → Caravan) : (d.setCv f).bulkErr = d.bulkErr := rfl
@[simp] theorem Device.setCv_mem (d : Device) (f : Caravan → Caravan) : (d.setCv f).mem = d.mem := rfl
@[simp] theorem Device.setCv_ledger (d : Device) (f : Caravan → Caravan) : (d.setCv f).ledger = d.ledger := rfl
@[simp] theorem Device.setCv_test (d : Device) (f : Caravan → Caravan) : (d.setCv f).test = d.test := rfl
@[simp] theorem Device.setCv_tables (d : Device) (f : Caravan → Caravan) : (d.setCv f).tables = d.tables := rfl
@[simp] theorem Device.setCv_qOcc (d : Device) (f : Caravan → Caravan) : (d.setCv f).qOcc = d.qOcc := rfl
@[simp] theorem Device.setCv_qGap (d : Device) (f : Caravan → Caravan) : (d.setCv f).qGap = d.qGap := rfl
@[simp] theorem Device.setCv_free (d : Device) (f : Caravan → Caravan) : (d.setCv f).free = d.free := rfl
@[simp] theorem Device.setCv_planners (d : Device) (f : Caravan → Caravan) : (d.setCv f).planners = d.planners := rfl
@[simp] theorem Device.setCv_plTicks (d : Device) (f : Caravan → Caravan) : (d.setCv f).plTicks = d.plTicks := rfl
@[simp] theorem Device.setCv_live (d : Device) (f : Caravan → Caravan) : (d.setCv f).live = d.live := rfl
@[simp] theorem Device.setCv_miles (d : Device) (f : Caravan → Caravan) : (d.setCv f).miles = d.miles := rfl
@[simp] theorem Device.setCv_latches (d : Device) (f : Caravan → Caravan) : (d.setCv f).latches = d.latches := rfl
@[simp] theorem Device.setCv_convoys (d : Device) (f : Caravan → Caravan) : (d.setCv f).convoys = d.convoys := rfl
@[simp] theorem Device.setCv_gantries (d : Device) (f : Caravan → Caravan) : (d.setCv f).gantries = d.gantries := rfl
@[simp] theorem Device.setCv_gens (d : Device) (f : Caravan → Caravan) : (d.setCv f).gens = d.gens := rfl
@[simp] theorem Device.setCv_ports (d : Device) (f : Caravan → Caravan) : (d.setCv f).ports = d.ports := rfl
@[simp] theorem Device.setCv_fbs (d : Device) (f : Caravan → Caravan) : (d.setCv f).fbs = d.fbs := rfl
@[simp] theorem Device.setCv_axes (d : Device) (f : Caravan → Caravan) : (d.setCv f).axes = d.axes := rfl
@[simp] theorem Device.setCv_lp (d : Device) (f : Caravan → Caravan) : (d.setCv f).lp = d.lp := rfl
@[simp] theorem Device.setCv_lpPend (d : Device) (f : Caravan → Caravan) : (d.setCv f).lpPend = d.lpPend := rfl
@[simp] theorem Device.setCv_engines (d : Device) (f : Caravan → Caravan) : (d.setCv f).engines = d.engines := rfl
@[simp] theorem Device.setCv_chains (d : Device) (f : Caravan → Caravan) : (d.setCv f).chains = d.chains := rfl
@[simp] theorem Device.setCv_pairs (d : Device) (f : Caravan → Caravan) : (d.setCv f).pairs = d.pairs := rfl
@[simp] theorem Device.setCv_md (d : Device) (f : Caravan → Caravan) : (d.setCv f).md = d.md := rfl
@[simp] theorem Device.setCv_fioCh (d : Device) (f : Caravan → Caravan) : (d.setCv f).fioCh = d.fioCh := rfl
@[simp] theorem Device.setCv_fioGrp (d : Device) (f : Caravan → Caravan) : (d.setCv f).fioGrp = d.fioGrp := rfl
@[simp] theorem Device.setCv_field (d : Device) (f : Caravan → Caravan) : (d.setCv f).field = d.field := rfl
@[simp] theorem Device.setCv_itins (d : Device) (f : Caravan → Caravan) : (d.setCv f).itins = d.itins := rfl
@[simp] theorem Device.setCv_it (d : Device) (f : Caravan → Caravan) : (d.setCv f).it = d.it := rfl
@[simp] theorem Device.setCv_tg (d : Device) (f : Caravan → Caravan) : (d.setCv f).tg = d.tg := rfl
@[simp] theorem Device.setCv_tm (d : Device) (f : Caravan → Caravan) : (d.setCv f).tm = d.tm := rfl
@[simp] theorem Device.setCv_net (d : Device) (f : Caravan → Caravan) : (d.setCv f).net = d.net := rfl
@[simp] theorem Device.setCv_cans (d : Device) (f : Caravan → Caravan) : (d.setCv f).cans = d.cans := rfl
@[simp] theorem Device.setCv_boot (d : Device) (f : Caravan → Caravan) : (d.setCv f).boot = d.boot := rfl
@[simp] theorem Device.setCv_ln (d : Device) (f : Caravan → Caravan) : (d.setCv f).ln = d.ln := rfl
@[simp] theorem Device.setCv_rc (d : Device) (f : Caravan → Caravan) : (d.setCv f).rc = d.rc := rfl
@[simp] theorem Device.setCv_pkg (d : Device) (f : Caravan → Caravan) : (d.setCv f).pkg = d.pkg := rfl

/-! setCy -/
@[simp] theorem Device.setCy_clk (d : Device) (c : Nat) (f : Convoy → Convoy) : (d.setCy c f).clk = d.clk := rfl
@[simp] theorem Device.setCy_regs (d : Device) (c : Nat) (f : Convoy → Convoy) : (d.setCy c f).regs = d.regs := rfl
@[simp] theorem Device.setCy_hold (d : Device) (c : Nat) (f : Convoy → Convoy) : (d.setCy c f).hold = d.hold := rfl
@[simp] theorem Device.setCy_bulk (d : Device) (c : Nat) (f : Convoy → Convoy) : (d.setCy c f).bulk = d.bulk := rfl
@[simp] theorem Device.setCy_bulkErr (d : Device) (c : Nat) (f : Convoy → Convoy) : (d.setCy c f).bulkErr = d.bulkErr := rfl
@[simp] theorem Device.setCy_mem (d : Device) (c : Nat) (f : Convoy → Convoy) : (d.setCy c f).mem = d.mem := rfl
@[simp] theorem Device.setCy_ledger (d : Device) (c : Nat) (f : Convoy → Convoy) : (d.setCy c f).ledger = d.ledger := rfl
@[simp] theorem Device.setCy_test (d : Device) (c : Nat) (f : Convoy → Convoy) : (d.setCy c f).test = d.test := rfl
@[simp] theorem Device.setCy_tables (d : Device) (c : Nat) (f : Convoy → Convoy) : (d.setCy c f).tables = d.tables := rfl
@[simp] theorem Device.setCy_qOcc (d : Device) (c : Nat) (f : Convoy → Convoy) : (d.setCy c f).qOcc = d.qOcc := rfl
@[simp] theorem Device.setCy_qGap (d : Device) (c : Nat) (f : Convoy → Convoy) : (d.setCy c f).qGap = d.qGap := rfl
@[simp] theorem Device.setCy_free (d : Device) (c : Nat) (f : Convoy → Convoy) : (d.setCy c f).free = d.free := rfl
@[simp] theorem Device.setCy_planners (d : Device) (c : Nat) (f : Convoy → Convoy) : (d.setCy c f).planners = d.planners := rfl
@[simp] theorem Device.setCy_plTicks (d : Device) (c : Nat) (f : Convoy → Convoy) : (d.setCy c f).plTicks = d.plTicks := rfl
@[simp] theorem Device.setCy_live (d : Device) (c : Nat) (f : Convoy → Convoy) : (d.setCy c f).live = d.live := rfl
@[simp] theorem Device.setCy_miles (d : Device) (c : Nat) (f : Convoy → Convoy) : (d.setCy c f).miles = d.miles := rfl
@[simp] theorem Device.setCy_latches (d : Device) (c : Nat) (f : Convoy → Convoy) : (d.setCy c f).latches = d.latches := rfl
@[simp] theorem Device.setCy_gantries (d : Device) (c : Nat) (f : Convoy → Convoy) : (d.setCy c f).gantries = d.gantries := rfl
@[simp] theorem Device.setCy_gens (d : Device) (c : Nat) (f : Convoy → Convoy) : (d.setCy c f).gens = d.gens := rfl
@[simp] theorem Device.setCy_ports (d : Device) (c : Nat) (f : Convoy → Convoy) : (d.setCy c f).ports = d.ports := rfl
@[simp] theorem Device.setCy_fbs (d : Device) (c : Nat) (f : Convoy → Convoy) : (d.setCy c f).fbs = d.fbs := rfl
@[simp] theorem Device.setCy_axes (d : Device) (c : Nat) (f : Convoy → Convoy) : (d.setCy c f).axes = d.axes := rfl
@[simp] theorem Device.setCy_lp (d : Device) (c : Nat) (f : Convoy → Convoy) : (d.setCy c f).lp = d.lp := rfl
@[simp] theorem Device.setCy_lpPend (d : Device) (c : Nat) (f : Convoy → Convoy) : (d.setCy c f).lpPend = d.lpPend := rfl
@[simp] theorem Device.setCy_engines (d : Device) (c : Nat) (f : Convoy → Convoy) : (d.setCy c f).engines = d.engines := rfl
@[simp] theorem Device.setCy_chains (d : Device) (c : Nat) (f : Convoy → Convoy) : (d.setCy c f).chains = d.chains := rfl
@[simp] theorem Device.setCy_pairs (d : Device) (c : Nat) (f : Convoy → Convoy) : (d.setCy c f).pairs = d.pairs := rfl
@[simp] theorem Device.setCy_md (d : Device) (c : Nat) (f : Convoy → Convoy) : (d.setCy c f).md = d.md := rfl
@[simp] theorem Device.setCy_fioCh (d : Device) (c : Nat) (f : Convoy → Convoy) : (d.setCy c f).fioCh = d.fioCh := rfl
@[simp] theorem Device.setCy_fioGrp (d : Device) (c : Nat) (f : Convoy → Convoy) : (d.setCy c f).fioGrp = d.fioGrp := rfl
@[simp] theorem Device.setCy_field (d : Device) (c : Nat) (f : Convoy → Convoy) : (d.setCy c f).field = d.field := rfl
@[simp] theorem Device.setCy_itins (d : Device) (c : Nat) (f : Convoy → Convoy) : (d.setCy c f).itins = d.itins := rfl
@[simp] theorem Device.setCy_it (d : Device) (c : Nat) (f : Convoy → Convoy) : (d.setCy c f).it = d.it := rfl
@[simp] theorem Device.setCy_cv (d : Device) (c : Nat) (f : Convoy → Convoy) : (d.setCy c f).cv = d.cv := rfl
@[simp] theorem Device.setCy_tg (d : Device) (c : Nat) (f : Convoy → Convoy) : (d.setCy c f).tg = d.tg := rfl
@[simp] theorem Device.setCy_tm (d : Device) (c : Nat) (f : Convoy → Convoy) : (d.setCy c f).tm = d.tm := rfl
@[simp] theorem Device.setCy_net (d : Device) (c : Nat) (f : Convoy → Convoy) : (d.setCy c f).net = d.net := rfl
@[simp] theorem Device.setCy_cans (d : Device) (c : Nat) (f : Convoy → Convoy) : (d.setCy c f).cans = d.cans := rfl
@[simp] theorem Device.setCy_boot (d : Device) (c : Nat) (f : Convoy → Convoy) : (d.setCy c f).boot = d.boot := rfl
@[simp] theorem Device.setCy_ln (d : Device) (c : Nat) (f : Convoy → Convoy) : (d.setCy c f).ln = d.ln := rfl
@[simp] theorem Device.setCy_rc (d : Device) (c : Nat) (f : Convoy → Convoy) : (d.setCy c f).rc = d.rc := rfl
@[simp] theorem Device.setCy_pkg (d : Device) (c : Nat) (f : Convoy → Convoy) : (d.setCy c f).pkg = d.pkg := rfl

/-! setEng -/
@[simp] theorem Device.setEng_clk (d : Device) (e : Nat) (f : Engine → Engine) : (d.setEng e f).clk = d.clk := rfl
@[simp] theorem Device.setEng_regs (d : Device) (e : Nat) (f : Engine → Engine) : (d.setEng e f).regs = d.regs := rfl
@[simp] theorem Device.setEng_hold (d : Device) (e : Nat) (f : Engine → Engine) : (d.setEng e f).hold = d.hold := rfl
@[simp] theorem Device.setEng_bulk (d : Device) (e : Nat) (f : Engine → Engine) : (d.setEng e f).bulk = d.bulk := rfl
@[simp] theorem Device.setEng_bulkErr (d : Device) (e : Nat) (f : Engine → Engine) : (d.setEng e f).bulkErr = d.bulkErr := rfl
@[simp] theorem Device.setEng_mem (d : Device) (e : Nat) (f : Engine → Engine) : (d.setEng e f).mem = d.mem := rfl
@[simp] theorem Device.setEng_ledger (d : Device) (e : Nat) (f : Engine → Engine) : (d.setEng e f).ledger = d.ledger := rfl
@[simp] theorem Device.setEng_test (d : Device) (e : Nat) (f : Engine → Engine) : (d.setEng e f).test = d.test := rfl
@[simp] theorem Device.setEng_tables (d : Device) (e : Nat) (f : Engine → Engine) : (d.setEng e f).tables = d.tables := rfl
@[simp] theorem Device.setEng_qOcc (d : Device) (e : Nat) (f : Engine → Engine) : (d.setEng e f).qOcc = d.qOcc := rfl
@[simp] theorem Device.setEng_qGap (d : Device) (e : Nat) (f : Engine → Engine) : (d.setEng e f).qGap = d.qGap := rfl
@[simp] theorem Device.setEng_free (d : Device) (e : Nat) (f : Engine → Engine) : (d.setEng e f).free = d.free := rfl
@[simp] theorem Device.setEng_planners (d : Device) (e : Nat) (f : Engine → Engine) : (d.setEng e f).planners = d.planners := rfl
@[simp] theorem Device.setEng_plTicks (d : Device) (e : Nat) (f : Engine → Engine) : (d.setEng e f).plTicks = d.plTicks := rfl
@[simp] theorem Device.setEng_live (d : Device) (e : Nat) (f : Engine → Engine) : (d.setEng e f).live = d.live := rfl
@[simp] theorem Device.setEng_miles (d : Device) (e : Nat) (f : Engine → Engine) : (d.setEng e f).miles = d.miles := rfl
@[simp] theorem Device.setEng_latches (d : Device) (e : Nat) (f : Engine → Engine) : (d.setEng e f).latches = d.latches := rfl
@[simp] theorem Device.setEng_convoys (d : Device) (e : Nat) (f : Engine → Engine) : (d.setEng e f).convoys = d.convoys := rfl
@[simp] theorem Device.setEng_gantries (d : Device) (e : Nat) (f : Engine → Engine) : (d.setEng e f).gantries = d.gantries := rfl
@[simp] theorem Device.setEng_gens (d : Device) (e : Nat) (f : Engine → Engine) : (d.setEng e f).gens = d.gens := rfl
@[simp] theorem Device.setEng_ports (d : Device) (e : Nat) (f : Engine → Engine) : (d.setEng e f).ports = d.ports := rfl
@[simp] theorem Device.setEng_fbs (d : Device) (e : Nat) (f : Engine → Engine) : (d.setEng e f).fbs = d.fbs := rfl
@[simp] theorem Device.setEng_axes (d : Device) (e : Nat) (f : Engine → Engine) : (d.setEng e f).axes = d.axes := rfl
@[simp] theorem Device.setEng_lp (d : Device) (e : Nat) (f : Engine → Engine) : (d.setEng e f).lp = d.lp := rfl
@[simp] theorem Device.setEng_lpPend (d : Device) (e : Nat) (f : Engine → Engine) : (d.setEng e f).lpPend = d.lpPend := rfl
@[simp] theorem Device.setEng_chains (d : Device) (e : Nat) (f : Engine → Engine) : (d.setEng e f).chains = d.chains := rfl
@[simp] theorem Device.setEng_pairs (d : Device) (e : Nat) (f : Engine → Engine) : (d.setEng e f).pairs = d.pairs := rfl
@[simp] theorem Device.setEng_md (d : Device) (e : Nat) (f : Engine → Engine) : (d.setEng e f).md = d.md := rfl
@[simp] theorem Device.setEng_fioCh (d : Device) (e : Nat) (f : Engine → Engine) : (d.setEng e f).fioCh = d.fioCh := rfl
@[simp] theorem Device.setEng_fioGrp (d : Device) (e : Nat) (f : Engine → Engine) : (d.setEng e f).fioGrp = d.fioGrp := rfl
@[simp] theorem Device.setEng_field (d : Device) (e : Nat) (f : Engine → Engine) : (d.setEng e f).field = d.field := rfl
@[simp] theorem Device.setEng_itins (d : Device) (e : Nat) (f : Engine → Engine) : (d.setEng e f).itins = d.itins := rfl
@[simp] theorem Device.setEng_it (d : Device) (e : Nat) (f : Engine → Engine) : (d.setEng e f).it = d.it := rfl
@[simp] theorem Device.setEng_cv (d : Device) (e : Nat) (f : Engine → Engine) : (d.setEng e f).cv = d.cv := rfl
@[simp] theorem Device.setEng_tg (d : Device) (e : Nat) (f : Engine → Engine) : (d.setEng e f).tg = d.tg := rfl
@[simp] theorem Device.setEng_tm (d : Device) (e : Nat) (f : Engine → Engine) : (d.setEng e f).tm = d.tm := rfl
@[simp] theorem Device.setEng_net (d : Device) (e : Nat) (f : Engine → Engine) : (d.setEng e f).net = d.net := rfl
@[simp] theorem Device.setEng_cans (d : Device) (e : Nat) (f : Engine → Engine) : (d.setEng e f).cans = d.cans := rfl
@[simp] theorem Device.setEng_boot (d : Device) (e : Nat) (f : Engine → Engine) : (d.setEng e f).boot = d.boot := rfl
@[simp] theorem Device.setEng_ln (d : Device) (e : Nat) (f : Engine → Engine) : (d.setEng e f).ln = d.ln := rfl
@[simp] theorem Device.setEng_rc (d : Device) (e : Nat) (f : Engine → Engine) : (d.setEng e f).rc = d.rc := rfl
@[simp] theorem Device.setEng_pkg (d : Device) (e : Nat) (f : Engine → Engine) : (d.setEng e f).pkg = d.pkg := rfl

/-! setFb -/
@[simp] theorem Device.setFb_clk (d : Device) (k : Nat) (f : FbUnit → FbUnit) : (d.setFb k f).clk = d.clk := rfl
@[simp] theorem Device.setFb_regs (d : Device) (k : Nat) (f : FbUnit → FbUnit) : (d.setFb k f).regs = d.regs := rfl
@[simp] theorem Device.setFb_hold (d : Device) (k : Nat) (f : FbUnit → FbUnit) : (d.setFb k f).hold = d.hold := rfl
@[simp] theorem Device.setFb_bulk (d : Device) (k : Nat) (f : FbUnit → FbUnit) : (d.setFb k f).bulk = d.bulk := rfl
@[simp] theorem Device.setFb_bulkErr (d : Device) (k : Nat) (f : FbUnit → FbUnit) : (d.setFb k f).bulkErr = d.bulkErr := rfl
@[simp] theorem Device.setFb_mem (d : Device) (k : Nat) (f : FbUnit → FbUnit) : (d.setFb k f).mem = d.mem := rfl
@[simp] theorem Device.setFb_ledger (d : Device) (k : Nat) (f : FbUnit → FbUnit) : (d.setFb k f).ledger = d.ledger := rfl
@[simp] theorem Device.setFb_test (d : Device) (k : Nat) (f : FbUnit → FbUnit) : (d.setFb k f).test = d.test := rfl
@[simp] theorem Device.setFb_tables (d : Device) (k : Nat) (f : FbUnit → FbUnit) : (d.setFb k f).tables = d.tables := rfl
@[simp] theorem Device.setFb_qOcc (d : Device) (k : Nat) (f : FbUnit → FbUnit) : (d.setFb k f).qOcc = d.qOcc := rfl
@[simp] theorem Device.setFb_qGap (d : Device) (k : Nat) (f : FbUnit → FbUnit) : (d.setFb k f).qGap = d.qGap := rfl
@[simp] theorem Device.setFb_free (d : Device) (k : Nat) (f : FbUnit → FbUnit) : (d.setFb k f).free = d.free := rfl
@[simp] theorem Device.setFb_planners (d : Device) (k : Nat) (f : FbUnit → FbUnit) : (d.setFb k f).planners = d.planners := rfl
@[simp] theorem Device.setFb_plTicks (d : Device) (k : Nat) (f : FbUnit → FbUnit) : (d.setFb k f).plTicks = d.plTicks := rfl
@[simp] theorem Device.setFb_live (d : Device) (k : Nat) (f : FbUnit → FbUnit) : (d.setFb k f).live = d.live := rfl
@[simp] theorem Device.setFb_miles (d : Device) (k : Nat) (f : FbUnit → FbUnit) : (d.setFb k f).miles = d.miles := rfl
@[simp] theorem Device.setFb_latches (d : Device) (k : Nat) (f : FbUnit → FbUnit) : (d.setFb k f).latches = d.latches := rfl
@[simp] theorem Device.setFb_convoys (d : Device) (k : Nat) (f : FbUnit → FbUnit) : (d.setFb k f).convoys = d.convoys := rfl
@[simp] theorem Device.setFb_gantries (d : Device) (k : Nat) (f : FbUnit → FbUnit) : (d.setFb k f).gantries = d.gantries := rfl
@[simp] theorem Device.setFb_gens (d : Device) (k : Nat) (f : FbUnit → FbUnit) : (d.setFb k f).gens = d.gens := rfl
@[simp] theorem Device.setFb_ports (d : Device) (k : Nat) (f : FbUnit → FbUnit) : (d.setFb k f).ports = d.ports := rfl
@[simp] theorem Device.setFb_axes (d : Device) (k : Nat) (f : FbUnit → FbUnit) : (d.setFb k f).axes = d.axes := rfl
@[simp] theorem Device.setFb_lp (d : Device) (k : Nat) (f : FbUnit → FbUnit) : (d.setFb k f).lp = d.lp := rfl
@[simp] theorem Device.setFb_lpPend (d : Device) (k : Nat) (f : FbUnit → FbUnit) : (d.setFb k f).lpPend = d.lpPend := rfl
@[simp] theorem Device.setFb_engines (d : Device) (k : Nat) (f : FbUnit → FbUnit) : (d.setFb k f).engines = d.engines := rfl
@[simp] theorem Device.setFb_chains (d : Device) (k : Nat) (f : FbUnit → FbUnit) : (d.setFb k f).chains = d.chains := rfl
@[simp] theorem Device.setFb_pairs (d : Device) (k : Nat) (f : FbUnit → FbUnit) : (d.setFb k f).pairs = d.pairs := rfl
@[simp] theorem Device.setFb_md (d : Device) (k : Nat) (f : FbUnit → FbUnit) : (d.setFb k f).md = d.md := rfl
@[simp] theorem Device.setFb_fioCh (d : Device) (k : Nat) (f : FbUnit → FbUnit) : (d.setFb k f).fioCh = d.fioCh := rfl
@[simp] theorem Device.setFb_fioGrp (d : Device) (k : Nat) (f : FbUnit → FbUnit) : (d.setFb k f).fioGrp = d.fioGrp := rfl
@[simp] theorem Device.setFb_field (d : Device) (k : Nat) (f : FbUnit → FbUnit) : (d.setFb k f).field = d.field := rfl
@[simp] theorem Device.setFb_itins (d : Device) (k : Nat) (f : FbUnit → FbUnit) : (d.setFb k f).itins = d.itins := rfl
@[simp] theorem Device.setFb_it (d : Device) (k : Nat) (f : FbUnit → FbUnit) : (d.setFb k f).it = d.it := rfl
@[simp] theorem Device.setFb_cv (d : Device) (k : Nat) (f : FbUnit → FbUnit) : (d.setFb k f).cv = d.cv := rfl
@[simp] theorem Device.setFb_tg (d : Device) (k : Nat) (f : FbUnit → FbUnit) : (d.setFb k f).tg = d.tg := rfl
@[simp] theorem Device.setFb_tm (d : Device) (k : Nat) (f : FbUnit → FbUnit) : (d.setFb k f).tm = d.tm := rfl
@[simp] theorem Device.setFb_net (d : Device) (k : Nat) (f : FbUnit → FbUnit) : (d.setFb k f).net = d.net := rfl
@[simp] theorem Device.setFb_cans (d : Device) (k : Nat) (f : FbUnit → FbUnit) : (d.setFb k f).cans = d.cans := rfl
@[simp] theorem Device.setFb_boot (d : Device) (k : Nat) (f : FbUnit → FbUnit) : (d.setFb k f).boot = d.boot := rfl
@[simp] theorem Device.setFb_ln (d : Device) (k : Nat) (f : FbUnit → FbUnit) : (d.setFb k f).ln = d.ln := rfl
@[simp] theorem Device.setFb_rc (d : Device) (k : Nat) (f : FbUnit → FbUnit) : (d.setFb k f).rc = d.rc := rfl
@[simp] theorem Device.setFb_pkg (d : Device) (k : Nat) (f : FbUnit → FbUnit) : (d.setFb k f).pkg = d.pkg := rfl

/-! setFio -/
@[simp] theorem Device.setFio_clk (d : Device) (c : Nat) (f : FioCh → FioCh) : (d.setFio c f).clk = d.clk := rfl
@[simp] theorem Device.setFio_regs (d : Device) (c : Nat) (f : FioCh → FioCh) : (d.setFio c f).regs = d.regs := rfl
@[simp] theorem Device.setFio_hold (d : Device) (c : Nat) (f : FioCh → FioCh) : (d.setFio c f).hold = d.hold := rfl
@[simp] theorem Device.setFio_bulk (d : Device) (c : Nat) (f : FioCh → FioCh) : (d.setFio c f).bulk = d.bulk := rfl
@[simp] theorem Device.setFio_bulkErr (d : Device) (c : Nat) (f : FioCh → FioCh) : (d.setFio c f).bulkErr = d.bulkErr := rfl
@[simp] theorem Device.setFio_mem (d : Device) (c : Nat) (f : FioCh → FioCh) : (d.setFio c f).mem = d.mem := rfl
@[simp] theorem Device.setFio_ledger (d : Device) (c : Nat) (f : FioCh → FioCh) : (d.setFio c f).ledger = d.ledger := rfl
@[simp] theorem Device.setFio_test (d : Device) (c : Nat) (f : FioCh → FioCh) : (d.setFio c f).test = d.test := rfl
@[simp] theorem Device.setFio_tables (d : Device) (c : Nat) (f : FioCh → FioCh) : (d.setFio c f).tables = d.tables := rfl
@[simp] theorem Device.setFio_qOcc (d : Device) (c : Nat) (f : FioCh → FioCh) : (d.setFio c f).qOcc = d.qOcc := rfl
@[simp] theorem Device.setFio_qGap (d : Device) (c : Nat) (f : FioCh → FioCh) : (d.setFio c f).qGap = d.qGap := rfl
@[simp] theorem Device.setFio_free (d : Device) (c : Nat) (f : FioCh → FioCh) : (d.setFio c f).free = d.free := rfl
@[simp] theorem Device.setFio_planners (d : Device) (c : Nat) (f : FioCh → FioCh) : (d.setFio c f).planners = d.planners := rfl
@[simp] theorem Device.setFio_plTicks (d : Device) (c : Nat) (f : FioCh → FioCh) : (d.setFio c f).plTicks = d.plTicks := rfl
@[simp] theorem Device.setFio_live (d : Device) (c : Nat) (f : FioCh → FioCh) : (d.setFio c f).live = d.live := rfl
@[simp] theorem Device.setFio_miles (d : Device) (c : Nat) (f : FioCh → FioCh) : (d.setFio c f).miles = d.miles := rfl
@[simp] theorem Device.setFio_latches (d : Device) (c : Nat) (f : FioCh → FioCh) : (d.setFio c f).latches = d.latches := rfl
@[simp] theorem Device.setFio_convoys (d : Device) (c : Nat) (f : FioCh → FioCh) : (d.setFio c f).convoys = d.convoys := rfl
@[simp] theorem Device.setFio_gantries (d : Device) (c : Nat) (f : FioCh → FioCh) : (d.setFio c f).gantries = d.gantries := rfl
@[simp] theorem Device.setFio_gens (d : Device) (c : Nat) (f : FioCh → FioCh) : (d.setFio c f).gens = d.gens := rfl
@[simp] theorem Device.setFio_ports (d : Device) (c : Nat) (f : FioCh → FioCh) : (d.setFio c f).ports = d.ports := rfl
@[simp] theorem Device.setFio_fbs (d : Device) (c : Nat) (f : FioCh → FioCh) : (d.setFio c f).fbs = d.fbs := rfl
@[simp] theorem Device.setFio_axes (d : Device) (c : Nat) (f : FioCh → FioCh) : (d.setFio c f).axes = d.axes := rfl
@[simp] theorem Device.setFio_lp (d : Device) (c : Nat) (f : FioCh → FioCh) : (d.setFio c f).lp = d.lp := rfl
@[simp] theorem Device.setFio_lpPend (d : Device) (c : Nat) (f : FioCh → FioCh) : (d.setFio c f).lpPend = d.lpPend := rfl
@[simp] theorem Device.setFio_engines (d : Device) (c : Nat) (f : FioCh → FioCh) : (d.setFio c f).engines = d.engines := rfl
@[simp] theorem Device.setFio_chains (d : Device) (c : Nat) (f : FioCh → FioCh) : (d.setFio c f).chains = d.chains := rfl
@[simp] theorem Device.setFio_pairs (d : Device) (c : Nat) (f : FioCh → FioCh) : (d.setFio c f).pairs = d.pairs := rfl
@[simp] theorem Device.setFio_md (d : Device) (c : Nat) (f : FioCh → FioCh) : (d.setFio c f).md = d.md := rfl
@[simp] theorem Device.setFio_fioGrp (d : Device) (c : Nat) (f : FioCh → FioCh) : (d.setFio c f).fioGrp = d.fioGrp := rfl
@[simp] theorem Device.setFio_field (d : Device) (c : Nat) (f : FioCh → FioCh) : (d.setFio c f).field = d.field := rfl
@[simp] theorem Device.setFio_itins (d : Device) (c : Nat) (f : FioCh → FioCh) : (d.setFio c f).itins = d.itins := rfl
@[simp] theorem Device.setFio_it (d : Device) (c : Nat) (f : FioCh → FioCh) : (d.setFio c f).it = d.it := rfl
@[simp] theorem Device.setFio_cv (d : Device) (c : Nat) (f : FioCh → FioCh) : (d.setFio c f).cv = d.cv := rfl
@[simp] theorem Device.setFio_tg (d : Device) (c : Nat) (f : FioCh → FioCh) : (d.setFio c f).tg = d.tg := rfl
@[simp] theorem Device.setFio_tm (d : Device) (c : Nat) (f : FioCh → FioCh) : (d.setFio c f).tm = d.tm := rfl
@[simp] theorem Device.setFio_net (d : Device) (c : Nat) (f : FioCh → FioCh) : (d.setFio c f).net = d.net := rfl
@[simp] theorem Device.setFio_cans (d : Device) (c : Nat) (f : FioCh → FioCh) : (d.setFio c f).cans = d.cans := rfl
@[simp] theorem Device.setFio_boot (d : Device) (c : Nat) (f : FioCh → FioCh) : (d.setFio c f).boot = d.boot := rfl
@[simp] theorem Device.setFio_ln (d : Device) (c : Nat) (f : FioCh → FioCh) : (d.setFio c f).ln = d.ln := rfl
@[simp] theorem Device.setFio_rc (d : Device) (c : Nat) (f : FioCh → FioCh) : (d.setFio c f).rc = d.rc := rfl
@[simp] theorem Device.setFio_pkg (d : Device) (c : Nat) (f : FioCh → FioCh) : (d.setFio c f).pkg = d.pkg := rfl

/-! setFl -/
@[simp] theorem Device.setFl_clk (d : Device) (p : Nat) (f : FlPort → FlPort) : (d.setFl p f).clk = d.clk := rfl
@[simp] theorem Device.setFl_regs (d : Device) (p : Nat) (f : FlPort → FlPort) : (d.setFl p f).regs = d.regs := rfl
@[simp] theorem Device.setFl_hold (d : Device) (p : Nat) (f : FlPort → FlPort) : (d.setFl p f).hold = d.hold := rfl
@[simp] theorem Device.setFl_bulk (d : Device) (p : Nat) (f : FlPort → FlPort) : (d.setFl p f).bulk = d.bulk := rfl
@[simp] theorem Device.setFl_bulkErr (d : Device) (p : Nat) (f : FlPort → FlPort) : (d.setFl p f).bulkErr = d.bulkErr := rfl
@[simp] theorem Device.setFl_mem (d : Device) (p : Nat) (f : FlPort → FlPort) : (d.setFl p f).mem = d.mem := rfl
@[simp] theorem Device.setFl_ledger (d : Device) (p : Nat) (f : FlPort → FlPort) : (d.setFl p f).ledger = d.ledger := rfl
@[simp] theorem Device.setFl_test (d : Device) (p : Nat) (f : FlPort → FlPort) : (d.setFl p f).test = d.test := rfl
@[simp] theorem Device.setFl_tables (d : Device) (p : Nat) (f : FlPort → FlPort) : (d.setFl p f).tables = d.tables := rfl
@[simp] theorem Device.setFl_qOcc (d : Device) (p : Nat) (f : FlPort → FlPort) : (d.setFl p f).qOcc = d.qOcc := rfl
@[simp] theorem Device.setFl_qGap (d : Device) (p : Nat) (f : FlPort → FlPort) : (d.setFl p f).qGap = d.qGap := rfl
@[simp] theorem Device.setFl_free (d : Device) (p : Nat) (f : FlPort → FlPort) : (d.setFl p f).free = d.free := rfl
@[simp] theorem Device.setFl_planners (d : Device) (p : Nat) (f : FlPort → FlPort) : (d.setFl p f).planners = d.planners := rfl
@[simp] theorem Device.setFl_plTicks (d : Device) (p : Nat) (f : FlPort → FlPort) : (d.setFl p f).plTicks = d.plTicks := rfl
@[simp] theorem Device.setFl_live (d : Device) (p : Nat) (f : FlPort → FlPort) : (d.setFl p f).live = d.live := rfl
@[simp] theorem Device.setFl_miles (d : Device) (p : Nat) (f : FlPort → FlPort) : (d.setFl p f).miles = d.miles := rfl
@[simp] theorem Device.setFl_latches (d : Device) (p : Nat) (f : FlPort → FlPort) : (d.setFl p f).latches = d.latches := rfl
@[simp] theorem Device.setFl_convoys (d : Device) (p : Nat) (f : FlPort → FlPort) : (d.setFl p f).convoys = d.convoys := rfl
@[simp] theorem Device.setFl_gantries (d : Device) (p : Nat) (f : FlPort → FlPort) : (d.setFl p f).gantries = d.gantries := rfl
@[simp] theorem Device.setFl_gens (d : Device) (p : Nat) (f : FlPort → FlPort) : (d.setFl p f).gens = d.gens := rfl
@[simp] theorem Device.setFl_ports (d : Device) (p : Nat) (f : FlPort → FlPort) : (d.setFl p f).ports = d.ports := rfl
@[simp] theorem Device.setFl_fbs (d : Device) (p : Nat) (f : FlPort → FlPort) : (d.setFl p f).fbs = d.fbs := rfl
@[simp] theorem Device.setFl_axes (d : Device) (p : Nat) (f : FlPort → FlPort) : (d.setFl p f).axes = d.axes := rfl
@[simp] theorem Device.setFl_lp (d : Device) (p : Nat) (f : FlPort → FlPort) : (d.setFl p f).lp = d.lp := rfl
@[simp] theorem Device.setFl_lpPend (d : Device) (p : Nat) (f : FlPort → FlPort) : (d.setFl p f).lpPend = d.lpPend := rfl
@[simp] theorem Device.setFl_engines (d : Device) (p : Nat) (f : FlPort → FlPort) : (d.setFl p f).engines = d.engines := rfl
@[simp] theorem Device.setFl_chains (d : Device) (p : Nat) (f : FlPort → FlPort) : (d.setFl p f).chains = d.chains := rfl
@[simp] theorem Device.setFl_pairs (d : Device) (p : Nat) (f : FlPort → FlPort) : (d.setFl p f).pairs = d.pairs := rfl
@[simp] theorem Device.setFl_md (d : Device) (p : Nat) (f : FlPort → FlPort) : (d.setFl p f).md = d.md := rfl
@[simp] theorem Device.setFl_fioCh (d : Device) (p : Nat) (f : FlPort → FlPort) : (d.setFl p f).fioCh = d.fioCh := rfl
@[simp] theorem Device.setFl_fioGrp (d : Device) (p : Nat) (f : FlPort → FlPort) : (d.setFl p f).fioGrp = d.fioGrp := rfl
@[simp] theorem Device.setFl_field (d : Device) (p : Nat) (f : FlPort → FlPort) : (d.setFl p f).field = d.field := rfl
@[simp] theorem Device.setFl_itins (d : Device) (p : Nat) (f : FlPort → FlPort) : (d.setFl p f).itins = d.itins := rfl
@[simp] theorem Device.setFl_it (d : Device) (p : Nat) (f : FlPort → FlPort) : (d.setFl p f).it = d.it := rfl
@[simp] theorem Device.setFl_cv (d : Device) (p : Nat) (f : FlPort → FlPort) : (d.setFl p f).cv = d.cv := rfl
@[simp] theorem Device.setFl_tg (d : Device) (p : Nat) (f : FlPort → FlPort) : (d.setFl p f).tg = d.tg := rfl
@[simp] theorem Device.setFl_tm (d : Device) (p : Nat) (f : FlPort → FlPort) : (d.setFl p f).tm = d.tm := rfl
@[simp] theorem Device.setFl_net (d : Device) (p : Nat) (f : FlPort → FlPort) : (d.setFl p f).net = d.net := rfl
@[simp] theorem Device.setFl_cans (d : Device) (p : Nat) (f : FlPort → FlPort) : (d.setFl p f).cans = d.cans := rfl
@[simp] theorem Device.setFl_ln (d : Device) (p : Nat) (f : FlPort → FlPort) : (d.setFl p f).ln = d.ln := rfl
@[simp] theorem Device.setFl_rc (d : Device) (p : Nat) (f : FlPort → FlPort) : (d.setFl p f).rc = d.rc := rfl
@[simp] theorem Device.setFl_pkg (d : Device) (p : Nat) (f : FlPort → FlPort) : (d.setFl p f).pkg = d.pkg := rfl

/-! setGen -/
@[simp] theorem Device.setGen_clk (d : Device) (g : Nat) (f : StepGen → StepGen) : (d.setGen g f).clk = d.clk := rfl
@[simp] theorem Device.setGen_regs (d : Device) (g : Nat) (f : StepGen → StepGen) : (d.setGen g f).regs = d.regs := rfl
@[simp] theorem Device.setGen_hold (d : Device) (g : Nat) (f : StepGen → StepGen) : (d.setGen g f).hold = d.hold := rfl
@[simp] theorem Device.setGen_bulk (d : Device) (g : Nat) (f : StepGen → StepGen) : (d.setGen g f).bulk = d.bulk := rfl
@[simp] theorem Device.setGen_bulkErr (d : Device) (g : Nat) (f : StepGen → StepGen) : (d.setGen g f).bulkErr = d.bulkErr := rfl
@[simp] theorem Device.setGen_mem (d : Device) (g : Nat) (f : StepGen → StepGen) : (d.setGen g f).mem = d.mem := rfl
@[simp] theorem Device.setGen_ledger (d : Device) (g : Nat) (f : StepGen → StepGen) : (d.setGen g f).ledger = d.ledger := rfl
@[simp] theorem Device.setGen_test (d : Device) (g : Nat) (f : StepGen → StepGen) : (d.setGen g f).test = d.test := rfl
@[simp] theorem Device.setGen_tables (d : Device) (g : Nat) (f : StepGen → StepGen) : (d.setGen g f).tables = d.tables := rfl
@[simp] theorem Device.setGen_qOcc (d : Device) (g : Nat) (f : StepGen → StepGen) : (d.setGen g f).qOcc = d.qOcc := rfl
@[simp] theorem Device.setGen_qGap (d : Device) (g : Nat) (f : StepGen → StepGen) : (d.setGen g f).qGap = d.qGap := rfl
@[simp] theorem Device.setGen_free (d : Device) (g : Nat) (f : StepGen → StepGen) : (d.setGen g f).free = d.free := rfl
@[simp] theorem Device.setGen_planners (d : Device) (g : Nat) (f : StepGen → StepGen) : (d.setGen g f).planners = d.planners := rfl
@[simp] theorem Device.setGen_plTicks (d : Device) (g : Nat) (f : StepGen → StepGen) : (d.setGen g f).plTicks = d.plTicks := rfl
@[simp] theorem Device.setGen_live (d : Device) (g : Nat) (f : StepGen → StepGen) : (d.setGen g f).live = d.live := rfl
@[simp] theorem Device.setGen_miles (d : Device) (g : Nat) (f : StepGen → StepGen) : (d.setGen g f).miles = d.miles := rfl
@[simp] theorem Device.setGen_latches (d : Device) (g : Nat) (f : StepGen → StepGen) : (d.setGen g f).latches = d.latches := rfl
@[simp] theorem Device.setGen_convoys (d : Device) (g : Nat) (f : StepGen → StepGen) : (d.setGen g f).convoys = d.convoys := rfl
@[simp] theorem Device.setGen_gantries (d : Device) (g : Nat) (f : StepGen → StepGen) : (d.setGen g f).gantries = d.gantries := rfl
@[simp] theorem Device.setGen_ports (d : Device) (g : Nat) (f : StepGen → StepGen) : (d.setGen g f).ports = d.ports := rfl
@[simp] theorem Device.setGen_fbs (d : Device) (g : Nat) (f : StepGen → StepGen) : (d.setGen g f).fbs = d.fbs := rfl
@[simp] theorem Device.setGen_axes (d : Device) (g : Nat) (f : StepGen → StepGen) : (d.setGen g f).axes = d.axes := rfl
@[simp] theorem Device.setGen_lp (d : Device) (g : Nat) (f : StepGen → StepGen) : (d.setGen g f).lp = d.lp := rfl
@[simp] theorem Device.setGen_lpPend (d : Device) (g : Nat) (f : StepGen → StepGen) : (d.setGen g f).lpPend = d.lpPend := rfl
@[simp] theorem Device.setGen_engines (d : Device) (g : Nat) (f : StepGen → StepGen) : (d.setGen g f).engines = d.engines := rfl
@[simp] theorem Device.setGen_chains (d : Device) (g : Nat) (f : StepGen → StepGen) : (d.setGen g f).chains = d.chains := rfl
@[simp] theorem Device.setGen_pairs (d : Device) (g : Nat) (f : StepGen → StepGen) : (d.setGen g f).pairs = d.pairs := rfl
@[simp] theorem Device.setGen_md (d : Device) (g : Nat) (f : StepGen → StepGen) : (d.setGen g f).md = d.md := rfl
@[simp] theorem Device.setGen_fioCh (d : Device) (g : Nat) (f : StepGen → StepGen) : (d.setGen g f).fioCh = d.fioCh := rfl
@[simp] theorem Device.setGen_fioGrp (d : Device) (g : Nat) (f : StepGen → StepGen) : (d.setGen g f).fioGrp = d.fioGrp := rfl
@[simp] theorem Device.setGen_field (d : Device) (g : Nat) (f : StepGen → StepGen) : (d.setGen g f).field = d.field := rfl
@[simp] theorem Device.setGen_itins (d : Device) (g : Nat) (f : StepGen → StepGen) : (d.setGen g f).itins = d.itins := rfl
@[simp] theorem Device.setGen_it (d : Device) (g : Nat) (f : StepGen → StepGen) : (d.setGen g f).it = d.it := rfl
@[simp] theorem Device.setGen_cv (d : Device) (g : Nat) (f : StepGen → StepGen) : (d.setGen g f).cv = d.cv := rfl
@[simp] theorem Device.setGen_tg (d : Device) (g : Nat) (f : StepGen → StepGen) : (d.setGen g f).tg = d.tg := rfl
@[simp] theorem Device.setGen_tm (d : Device) (g : Nat) (f : StepGen → StepGen) : (d.setGen g f).tm = d.tm := rfl
@[simp] theorem Device.setGen_net (d : Device) (g : Nat) (f : StepGen → StepGen) : (d.setGen g f).net = d.net := rfl
@[simp] theorem Device.setGen_cans (d : Device) (g : Nat) (f : StepGen → StepGen) : (d.setGen g f).cans = d.cans := rfl
@[simp] theorem Device.setGen_boot (d : Device) (g : Nat) (f : StepGen → StepGen) : (d.setGen g f).boot = d.boot := rfl
@[simp] theorem Device.setGen_ln (d : Device) (g : Nat) (f : StepGen → StepGen) : (d.setGen g f).ln = d.ln := rfl
@[simp] theorem Device.setGen_rc (d : Device) (g : Nat) (f : StepGen → StepGen) : (d.setGen g f).rc = d.rc := rfl
@[simp] theorem Device.setGen_pkg (d : Device) (g : Nat) (f : StepGen → StepGen) : (d.setGen g f).pkg = d.pkg := rfl

/-! setItin -/
@[simp] theorem Device.setItin_clk (d : Device) (k : Nat) (f : ItInst → ItInst) : (d.setItin k f).clk = d.clk := rfl
@[simp] theorem Device.setItin_regs (d : Device) (k : Nat) (f : ItInst → ItInst) : (d.setItin k f).regs = d.regs := rfl
@[simp] theorem Device.setItin_hold (d : Device) (k : Nat) (f : ItInst → ItInst) : (d.setItin k f).hold = d.hold := rfl
@[simp] theorem Device.setItin_bulk (d : Device) (k : Nat) (f : ItInst → ItInst) : (d.setItin k f).bulk = d.bulk := rfl
@[simp] theorem Device.setItin_bulkErr (d : Device) (k : Nat) (f : ItInst → ItInst) : (d.setItin k f).bulkErr = d.bulkErr := rfl
@[simp] theorem Device.setItin_mem (d : Device) (k : Nat) (f : ItInst → ItInst) : (d.setItin k f).mem = d.mem := rfl
@[simp] theorem Device.setItin_ledger (d : Device) (k : Nat) (f : ItInst → ItInst) : (d.setItin k f).ledger = d.ledger := rfl
@[simp] theorem Device.setItin_test (d : Device) (k : Nat) (f : ItInst → ItInst) : (d.setItin k f).test = d.test := rfl
@[simp] theorem Device.setItin_tables (d : Device) (k : Nat) (f : ItInst → ItInst) : (d.setItin k f).tables = d.tables := rfl
@[simp] theorem Device.setItin_qOcc (d : Device) (k : Nat) (f : ItInst → ItInst) : (d.setItin k f).qOcc = d.qOcc := rfl
@[simp] theorem Device.setItin_qGap (d : Device) (k : Nat) (f : ItInst → ItInst) : (d.setItin k f).qGap = d.qGap := rfl
@[simp] theorem Device.setItin_free (d : Device) (k : Nat) (f : ItInst → ItInst) : (d.setItin k f).free = d.free := rfl
@[simp] theorem Device.setItin_planners (d : Device) (k : Nat) (f : ItInst → ItInst) : (d.setItin k f).planners = d.planners := rfl
@[simp] theorem Device.setItin_plTicks (d : Device) (k : Nat) (f : ItInst → ItInst) : (d.setItin k f).plTicks = d.plTicks := rfl
@[simp] theorem Device.setItin_live (d : Device) (k : Nat) (f : ItInst → ItInst) : (d.setItin k f).live = d.live := rfl
@[simp] theorem Device.setItin_miles (d : Device) (k : Nat) (f : ItInst → ItInst) : (d.setItin k f).miles = d.miles := rfl
@[simp] theorem Device.setItin_latches (d : Device) (k : Nat) (f : ItInst → ItInst) : (d.setItin k f).latches = d.latches := rfl
@[simp] theorem Device.setItin_convoys (d : Device) (k : Nat) (f : ItInst → ItInst) : (d.setItin k f).convoys = d.convoys := rfl
@[simp] theorem Device.setItin_gantries (d : Device) (k : Nat) (f : ItInst → ItInst) : (d.setItin k f).gantries = d.gantries := rfl
@[simp] theorem Device.setItin_gens (d : Device) (k : Nat) (f : ItInst → ItInst) : (d.setItin k f).gens = d.gens := rfl
@[simp] theorem Device.setItin_ports (d : Device) (k : Nat) (f : ItInst → ItInst) : (d.setItin k f).ports = d.ports := rfl
@[simp] theorem Device.setItin_fbs (d : Device) (k : Nat) (f : ItInst → ItInst) : (d.setItin k f).fbs = d.fbs := rfl
@[simp] theorem Device.setItin_axes (d : Device) (k : Nat) (f : ItInst → ItInst) : (d.setItin k f).axes = d.axes := rfl
@[simp] theorem Device.setItin_lp (d : Device) (k : Nat) (f : ItInst → ItInst) : (d.setItin k f).lp = d.lp := rfl
@[simp] theorem Device.setItin_lpPend (d : Device) (k : Nat) (f : ItInst → ItInst) : (d.setItin k f).lpPend = d.lpPend := rfl
@[simp] theorem Device.setItin_engines (d : Device) (k : Nat) (f : ItInst → ItInst) : (d.setItin k f).engines = d.engines := rfl
@[simp] theorem Device.setItin_chains (d : Device) (k : Nat) (f : ItInst → ItInst) : (d.setItin k f).chains = d.chains := rfl
@[simp] theorem Device.setItin_pairs (d : Device) (k : Nat) (f : ItInst → ItInst) : (d.setItin k f).pairs = d.pairs := rfl
@[simp] theorem Device.setItin_md (d : Device) (k : Nat) (f : ItInst → ItInst) : (d.setItin k f).md = d.md := rfl
@[simp] theorem Device.setItin_fioCh (d : Device) (k : Nat) (f : ItInst → ItInst) : (d.setItin k f).fioCh = d.fioCh := rfl
@[simp] theorem Device.setItin_fioGrp (d : Device) (k : Nat) (f : ItInst → ItInst) : (d.setItin k f).fioGrp = d.fioGrp := rfl
@[simp] theorem Device.setItin_field (d : Device) (k : Nat) (f : ItInst → ItInst) : (d.setItin k f).field = d.field := rfl
@[simp] theorem Device.setItin_it (d : Device) (k : Nat) (f : ItInst → ItInst) : (d.setItin k f).it = d.it := rfl
@[simp] theorem Device.setItin_cv (d : Device) (k : Nat) (f : ItInst → ItInst) : (d.setItin k f).cv = d.cv := rfl
@[simp] theorem Device.setItin_tg (d : Device) (k : Nat) (f : ItInst → ItInst) : (d.setItin k f).tg = d.tg := rfl
@[simp] theorem Device.setItin_tm (d : Device) (k : Nat) (f : ItInst → ItInst) : (d.setItin k f).tm = d.tm := rfl
@[simp] theorem Device.setItin_net (d : Device) (k : Nat) (f : ItInst → ItInst) : (d.setItin k f).net = d.net := rfl
@[simp] theorem Device.setItin_cans (d : Device) (k : Nat) (f : ItInst → ItInst) : (d.setItin k f).cans = d.cans := rfl
@[simp] theorem Device.setItin_boot (d : Device) (k : Nat) (f : ItInst → ItInst) : (d.setItin k f).boot = d.boot := rfl
@[simp] theorem Device.setItin_ln (d : Device) (k : Nat) (f : ItInst → ItInst) : (d.setItin k f).ln = d.ln := rfl
@[simp] theorem Device.setItin_rc (d : Device) (k : Nat) (f : ItInst → ItInst) : (d.setItin k f).rc = d.rc := rfl
@[simp] theorem Device.setItin_pkg (d : Device) (k : Nat) (f : ItInst → ItInst) : (d.setItin k f).pkg = d.pkg := rfl

/-! setLg -/
@[simp] theorem Device.setLg_clk (d : Device) (f : Ledger → Ledger) : (d.setLg f).clk = d.clk := rfl
@[simp] theorem Device.setLg_regs (d : Device) (f : Ledger → Ledger) : (d.setLg f).regs = d.regs := rfl
@[simp] theorem Device.setLg_hold (d : Device) (f : Ledger → Ledger) : (d.setLg f).hold = d.hold := rfl
@[simp] theorem Device.setLg_bulk (d : Device) (f : Ledger → Ledger) : (d.setLg f).bulk = d.bulk := rfl
@[simp] theorem Device.setLg_bulkErr (d : Device) (f : Ledger → Ledger) : (d.setLg f).bulkErr = d.bulkErr := rfl
@[simp] theorem Device.setLg_mem (d : Device) (f : Ledger → Ledger) : (d.setLg f).mem = d.mem := rfl
@[simp] theorem Device.setLg_test (d : Device) (f : Ledger → Ledger) : (d.setLg f).test = d.test := rfl
@[simp] theorem Device.setLg_tables (d : Device) (f : Ledger → Ledger) : (d.setLg f).tables = d.tables := rfl
@[simp] theorem Device.setLg_qOcc (d : Device) (f : Ledger → Ledger) : (d.setLg f).qOcc = d.qOcc := rfl
@[simp] theorem Device.setLg_qGap (d : Device) (f : Ledger → Ledger) : (d.setLg f).qGap = d.qGap := rfl
@[simp] theorem Device.setLg_free (d : Device) (f : Ledger → Ledger) : (d.setLg f).free = d.free := rfl
@[simp] theorem Device.setLg_planners (d : Device) (f : Ledger → Ledger) : (d.setLg f).planners = d.planners := rfl
@[simp] theorem Device.setLg_plTicks (d : Device) (f : Ledger → Ledger) : (d.setLg f).plTicks = d.plTicks := rfl
@[simp] theorem Device.setLg_live (d : Device) (f : Ledger → Ledger) : (d.setLg f).live = d.live := rfl
@[simp] theorem Device.setLg_miles (d : Device) (f : Ledger → Ledger) : (d.setLg f).miles = d.miles := rfl
@[simp] theorem Device.setLg_latches (d : Device) (f : Ledger → Ledger) : (d.setLg f).latches = d.latches := rfl
@[simp] theorem Device.setLg_convoys (d : Device) (f : Ledger → Ledger) : (d.setLg f).convoys = d.convoys := rfl
@[simp] theorem Device.setLg_gantries (d : Device) (f : Ledger → Ledger) : (d.setLg f).gantries = d.gantries := rfl
@[simp] theorem Device.setLg_gens (d : Device) (f : Ledger → Ledger) : (d.setLg f).gens = d.gens := rfl
@[simp] theorem Device.setLg_ports (d : Device) (f : Ledger → Ledger) : (d.setLg f).ports = d.ports := rfl
@[simp] theorem Device.setLg_fbs (d : Device) (f : Ledger → Ledger) : (d.setLg f).fbs = d.fbs := rfl
@[simp] theorem Device.setLg_axes (d : Device) (f : Ledger → Ledger) : (d.setLg f).axes = d.axes := rfl
@[simp] theorem Device.setLg_lp (d : Device) (f : Ledger → Ledger) : (d.setLg f).lp = d.lp := rfl
@[simp] theorem Device.setLg_lpPend (d : Device) (f : Ledger → Ledger) : (d.setLg f).lpPend = d.lpPend := rfl
@[simp] theorem Device.setLg_engines (d : Device) (f : Ledger → Ledger) : (d.setLg f).engines = d.engines := rfl
@[simp] theorem Device.setLg_chains (d : Device) (f : Ledger → Ledger) : (d.setLg f).chains = d.chains := rfl
@[simp] theorem Device.setLg_pairs (d : Device) (f : Ledger → Ledger) : (d.setLg f).pairs = d.pairs := rfl
@[simp] theorem Device.setLg_md (d : Device) (f : Ledger → Ledger) : (d.setLg f).md = d.md := rfl
@[simp] theorem Device.setLg_fioCh (d : Device) (f : Ledger → Ledger) : (d.setLg f).fioCh = d.fioCh := rfl
@[simp] theorem Device.setLg_fioGrp (d : Device) (f : Ledger → Ledger) : (d.setLg f).fioGrp = d.fioGrp := rfl
@[simp] theorem Device.setLg_field (d : Device) (f : Ledger → Ledger) : (d.setLg f).field = d.field := rfl
@[simp] theorem Device.setLg_itins (d : Device) (f : Ledger → Ledger) : (d.setLg f).itins = d.itins := rfl
@[simp] theorem Device.setLg_it (d : Device) (f : Ledger → Ledger) : (d.setLg f).it = d.it := rfl
@[simp] theorem Device.setLg_cv (d : Device) (f : Ledger → Ledger) : (d.setLg f).cv = d.cv := rfl
@[simp] theorem Device.setLg_tg (d : Device) (f : Ledger → Ledger) : (d.setLg f).tg = d.tg := rfl
@[simp] theorem Device.setLg_tm (d : Device) (f : Ledger → Ledger) : (d.setLg f).tm = d.tm := rfl
@[simp] theorem Device.setLg_net (d : Device) (f : Ledger → Ledger) : (d.setLg f).net = d.net := rfl
@[simp] theorem Device.setLg_cans (d : Device) (f : Ledger → Ledger) : (d.setLg f).cans = d.cans := rfl
@[simp] theorem Device.setLg_boot (d : Device) (f : Ledger → Ledger) : (d.setLg f).boot = d.boot := rfl
@[simp] theorem Device.setLg_ln (d : Device) (f : Ledger → Ledger) : (d.setLg f).ln = d.ln := rfl
@[simp] theorem Device.setLg_rc (d : Device) (f : Ledger → Ledger) : (d.setLg f).rc = d.rc := rfl
@[simp] theorem Device.setLg_pkg (d : Device) (f : Ledger → Ledger) : (d.setLg f).pkg = d.pkg := rfl

/-! setLn -/
@[simp] theorem Device.setLn_clk (d : Device) (f : Lanifer → Lanifer) : (d.setLn f).clk = d.clk := rfl
@[simp] theorem Device.setLn_regs (d : Device) (f : Lanifer → Lanifer) : (d.setLn f).regs = d.regs := rfl
@[simp] theorem Device.setLn_hold (d : Device) (f : Lanifer → Lanifer) : (d.setLn f).hold = d.hold := rfl
@[simp] theorem Device.setLn_bulk (d : Device) (f : Lanifer → Lanifer) : (d.setLn f).bulk = d.bulk := rfl
@[simp] theorem Device.setLn_bulkErr (d : Device) (f : Lanifer → Lanifer) : (d.setLn f).bulkErr = d.bulkErr := rfl
@[simp] theorem Device.setLn_mem (d : Device) (f : Lanifer → Lanifer) : (d.setLn f).mem = d.mem := rfl
@[simp] theorem Device.setLn_ledger (d : Device) (f : Lanifer → Lanifer) : (d.setLn f).ledger = d.ledger := rfl
@[simp] theorem Device.setLn_test (d : Device) (f : Lanifer → Lanifer) : (d.setLn f).test = d.test := rfl
@[simp] theorem Device.setLn_tables (d : Device) (f : Lanifer → Lanifer) : (d.setLn f).tables = d.tables := rfl
@[simp] theorem Device.setLn_qOcc (d : Device) (f : Lanifer → Lanifer) : (d.setLn f).qOcc = d.qOcc := rfl
@[simp] theorem Device.setLn_qGap (d : Device) (f : Lanifer → Lanifer) : (d.setLn f).qGap = d.qGap := rfl
@[simp] theorem Device.setLn_free (d : Device) (f : Lanifer → Lanifer) : (d.setLn f).free = d.free := rfl
@[simp] theorem Device.setLn_planners (d : Device) (f : Lanifer → Lanifer) : (d.setLn f).planners = d.planners := rfl
@[simp] theorem Device.setLn_plTicks (d : Device) (f : Lanifer → Lanifer) : (d.setLn f).plTicks = d.plTicks := rfl
@[simp] theorem Device.setLn_live (d : Device) (f : Lanifer → Lanifer) : (d.setLn f).live = d.live := rfl
@[simp] theorem Device.setLn_miles (d : Device) (f : Lanifer → Lanifer) : (d.setLn f).miles = d.miles := rfl
@[simp] theorem Device.setLn_latches (d : Device) (f : Lanifer → Lanifer) : (d.setLn f).latches = d.latches := rfl
@[simp] theorem Device.setLn_convoys (d : Device) (f : Lanifer → Lanifer) : (d.setLn f).convoys = d.convoys := rfl
@[simp] theorem Device.setLn_gantries (d : Device) (f : Lanifer → Lanifer) : (d.setLn f).gantries = d.gantries := rfl
@[simp] theorem Device.setLn_gens (d : Device) (f : Lanifer → Lanifer) : (d.setLn f).gens = d.gens := rfl
@[simp] theorem Device.setLn_ports (d : Device) (f : Lanifer → Lanifer) : (d.setLn f).ports = d.ports := rfl
@[simp] theorem Device.setLn_fbs (d : Device) (f : Lanifer → Lanifer) : (d.setLn f).fbs = d.fbs := rfl
@[simp] theorem Device.setLn_axes (d : Device) (f : Lanifer → Lanifer) : (d.setLn f).axes = d.axes := rfl
@[simp] theorem Device.setLn_lp (d : Device) (f : Lanifer → Lanifer) : (d.setLn f).lp = d.lp := rfl
@[simp] theorem Device.setLn_lpPend (d : Device) (f : Lanifer → Lanifer) : (d.setLn f).lpPend = d.lpPend := rfl
@[simp] theorem Device.setLn_engines (d : Device) (f : Lanifer → Lanifer) : (d.setLn f).engines = d.engines := rfl
@[simp] theorem Device.setLn_chains (d : Device) (f : Lanifer → Lanifer) : (d.setLn f).chains = d.chains := rfl
@[simp] theorem Device.setLn_pairs (d : Device) (f : Lanifer → Lanifer) : (d.setLn f).pairs = d.pairs := rfl
@[simp] theorem Device.setLn_md (d : Device) (f : Lanifer → Lanifer) : (d.setLn f).md = d.md := rfl
@[simp] theorem Device.setLn_fioCh (d : Device) (f : Lanifer → Lanifer) : (d.setLn f).fioCh = d.fioCh := rfl
@[simp] theorem Device.setLn_fioGrp (d : Device) (f : Lanifer → Lanifer) : (d.setLn f).fioGrp = d.fioGrp := rfl
@[simp] theorem Device.setLn_field (d : Device) (f : Lanifer → Lanifer) : (d.setLn f).field = d.field := rfl
@[simp] theorem Device.setLn_itins (d : Device) (f : Lanifer → Lanifer) : (d.setLn f).itins = d.itins := rfl
@[simp] theorem Device.setLn_it (d : Device) (f : Lanifer → Lanifer) : (d.setLn f).it = d.it := rfl
@[simp] theorem Device.setLn_cv (d : Device) (f : Lanifer → Lanifer) : (d.setLn f).cv = d.cv := rfl
@[simp] theorem Device.setLn_tg (d : Device) (f : Lanifer → Lanifer) : (d.setLn f).tg = d.tg := rfl
@[simp] theorem Device.setLn_tm (d : Device) (f : Lanifer → Lanifer) : (d.setLn f).tm = d.tm := rfl
@[simp] theorem Device.setLn_net (d : Device) (f : Lanifer → Lanifer) : (d.setLn f).net = d.net := rfl
@[simp] theorem Device.setLn_cans (d : Device) (f : Lanifer → Lanifer) : (d.setLn f).cans = d.cans := rfl
@[simp] theorem Device.setLn_boot (d : Device) (f : Lanifer → Lanifer) : (d.setLn f).boot = d.boot := rfl
@[simp] theorem Device.setLn_rc (d : Device) (f : Lanifer → Lanifer) : (d.setLn f).rc = d.rc := rfl
@[simp] theorem Device.setLn_pkg (d : Device) (f : Lanifer → Lanifer) : (d.setLn f).pkg = d.pkg := rfl

/-! setNet -/
@[simp] theorem Device.setNet_clk (d : Device) (f : Net → Net) : (d.setNet f).clk = d.clk := rfl
@[simp] theorem Device.setNet_regs (d : Device) (f : Net → Net) : (d.setNet f).regs = d.regs := rfl
@[simp] theorem Device.setNet_hold (d : Device) (f : Net → Net) : (d.setNet f).hold = d.hold := rfl
@[simp] theorem Device.setNet_bulk (d : Device) (f : Net → Net) : (d.setNet f).bulk = d.bulk := rfl
@[simp] theorem Device.setNet_bulkErr (d : Device) (f : Net → Net) : (d.setNet f).bulkErr = d.bulkErr := rfl
@[simp] theorem Device.setNet_mem (d : Device) (f : Net → Net) : (d.setNet f).mem = d.mem := rfl
@[simp] theorem Device.setNet_ledger (d : Device) (f : Net → Net) : (d.setNet f).ledger = d.ledger := rfl
@[simp] theorem Device.setNet_test (d : Device) (f : Net → Net) : (d.setNet f).test = d.test := rfl
@[simp] theorem Device.setNet_tables (d : Device) (f : Net → Net) : (d.setNet f).tables = d.tables := rfl
@[simp] theorem Device.setNet_qOcc (d : Device) (f : Net → Net) : (d.setNet f).qOcc = d.qOcc := rfl
@[simp] theorem Device.setNet_qGap (d : Device) (f : Net → Net) : (d.setNet f).qGap = d.qGap := rfl
@[simp] theorem Device.setNet_free (d : Device) (f : Net → Net) : (d.setNet f).free = d.free := rfl
@[simp] theorem Device.setNet_planners (d : Device) (f : Net → Net) : (d.setNet f).planners = d.planners := rfl
@[simp] theorem Device.setNet_plTicks (d : Device) (f : Net → Net) : (d.setNet f).plTicks = d.plTicks := rfl
@[simp] theorem Device.setNet_live (d : Device) (f : Net → Net) : (d.setNet f).live = d.live := rfl
@[simp] theorem Device.setNet_miles (d : Device) (f : Net → Net) : (d.setNet f).miles = d.miles := rfl
@[simp] theorem Device.setNet_latches (d : Device) (f : Net → Net) : (d.setNet f).latches = d.latches := rfl
@[simp] theorem Device.setNet_convoys (d : Device) (f : Net → Net) : (d.setNet f).convoys = d.convoys := rfl
@[simp] theorem Device.setNet_gantries (d : Device) (f : Net → Net) : (d.setNet f).gantries = d.gantries := rfl
@[simp] theorem Device.setNet_gens (d : Device) (f : Net → Net) : (d.setNet f).gens = d.gens := rfl
@[simp] theorem Device.setNet_ports (d : Device) (f : Net → Net) : (d.setNet f).ports = d.ports := rfl
@[simp] theorem Device.setNet_fbs (d : Device) (f : Net → Net) : (d.setNet f).fbs = d.fbs := rfl
@[simp] theorem Device.setNet_axes (d : Device) (f : Net → Net) : (d.setNet f).axes = d.axes := rfl
@[simp] theorem Device.setNet_lp (d : Device) (f : Net → Net) : (d.setNet f).lp = d.lp := rfl
@[simp] theorem Device.setNet_lpPend (d : Device) (f : Net → Net) : (d.setNet f).lpPend = d.lpPend := rfl
@[simp] theorem Device.setNet_engines (d : Device) (f : Net → Net) : (d.setNet f).engines = d.engines := rfl
@[simp] theorem Device.setNet_chains (d : Device) (f : Net → Net) : (d.setNet f).chains = d.chains := rfl
@[simp] theorem Device.setNet_pairs (d : Device) (f : Net → Net) : (d.setNet f).pairs = d.pairs := rfl
@[simp] theorem Device.setNet_md (d : Device) (f : Net → Net) : (d.setNet f).md = d.md := rfl
@[simp] theorem Device.setNet_fioCh (d : Device) (f : Net → Net) : (d.setNet f).fioCh = d.fioCh := rfl
@[simp] theorem Device.setNet_fioGrp (d : Device) (f : Net → Net) : (d.setNet f).fioGrp = d.fioGrp := rfl
@[simp] theorem Device.setNet_field (d : Device) (f : Net → Net) : (d.setNet f).field = d.field := rfl
@[simp] theorem Device.setNet_itins (d : Device) (f : Net → Net) : (d.setNet f).itins = d.itins := rfl
@[simp] theorem Device.setNet_it (d : Device) (f : Net → Net) : (d.setNet f).it = d.it := rfl
@[simp] theorem Device.setNet_cv (d : Device) (f : Net → Net) : (d.setNet f).cv = d.cv := rfl
@[simp] theorem Device.setNet_tg (d : Device) (f : Net → Net) : (d.setNet f).tg = d.tg := rfl
@[simp] theorem Device.setNet_tm (d : Device) (f : Net → Net) : (d.setNet f).tm = d.tm := rfl
@[simp] theorem Device.setNet_cans (d : Device) (f : Net → Net) : (d.setNet f).cans = d.cans := rfl
@[simp] theorem Device.setNet_boot (d : Device) (f : Net → Net) : (d.setNet f).boot = d.boot := rfl
@[simp] theorem Device.setNet_ln (d : Device) (f : Net → Net) : (d.setNet f).ln = d.ln := rfl
@[simp] theorem Device.setNet_rc (d : Device) (f : Net → Net) : (d.setNet f).rc = d.rc := rfl
@[simp] theorem Device.setNet_pkg (d : Device) (f : Net → Net) : (d.setNet f).pkg = d.pkg := rfl

/-! setPair -/
@[simp] theorem Device.setPair_clk (d : Device) (k : Nat) (f : Pair → Pair) : (d.setPair k f).clk = d.clk := rfl
@[simp] theorem Device.setPair_regs (d : Device) (k : Nat) (f : Pair → Pair) : (d.setPair k f).regs = d.regs := rfl
@[simp] theorem Device.setPair_hold (d : Device) (k : Nat) (f : Pair → Pair) : (d.setPair k f).hold = d.hold := rfl
@[simp] theorem Device.setPair_bulk (d : Device) (k : Nat) (f : Pair → Pair) : (d.setPair k f).bulk = d.bulk := rfl
@[simp] theorem Device.setPair_bulkErr (d : Device) (k : Nat) (f : Pair → Pair) : (d.setPair k f).bulkErr = d.bulkErr := rfl
@[simp] theorem Device.setPair_mem (d : Device) (k : Nat) (f : Pair → Pair) : (d.setPair k f).mem = d.mem := rfl
@[simp] theorem Device.setPair_ledger (d : Device) (k : Nat) (f : Pair → Pair) : (d.setPair k f).ledger = d.ledger := rfl
@[simp] theorem Device.setPair_test (d : Device) (k : Nat) (f : Pair → Pair) : (d.setPair k f).test = d.test := rfl
@[simp] theorem Device.setPair_tables (d : Device) (k : Nat) (f : Pair → Pair) : (d.setPair k f).tables = d.tables := rfl
@[simp] theorem Device.setPair_qOcc (d : Device) (k : Nat) (f : Pair → Pair) : (d.setPair k f).qOcc = d.qOcc := rfl
@[simp] theorem Device.setPair_qGap (d : Device) (k : Nat) (f : Pair → Pair) : (d.setPair k f).qGap = d.qGap := rfl
@[simp] theorem Device.setPair_free (d : Device) (k : Nat) (f : Pair → Pair) : (d.setPair k f).free = d.free := rfl
@[simp] theorem Device.setPair_planners (d : Device) (k : Nat) (f : Pair → Pair) : (d.setPair k f).planners = d.planners := rfl
@[simp] theorem Device.setPair_plTicks (d : Device) (k : Nat) (f : Pair → Pair) : (d.setPair k f).plTicks = d.plTicks := rfl
@[simp] theorem Device.setPair_live (d : Device) (k : Nat) (f : Pair → Pair) : (d.setPair k f).live = d.live := rfl
@[simp] theorem Device.setPair_miles (d : Device) (k : Nat) (f : Pair → Pair) : (d.setPair k f).miles = d.miles := rfl
@[simp] theorem Device.setPair_latches (d : Device) (k : Nat) (f : Pair → Pair) : (d.setPair k f).latches = d.latches := rfl
@[simp] theorem Device.setPair_convoys (d : Device) (k : Nat) (f : Pair → Pair) : (d.setPair k f).convoys = d.convoys := rfl
@[simp] theorem Device.setPair_gantries (d : Device) (k : Nat) (f : Pair → Pair) : (d.setPair k f).gantries = d.gantries := rfl
@[simp] theorem Device.setPair_gens (d : Device) (k : Nat) (f : Pair → Pair) : (d.setPair k f).gens = d.gens := rfl
@[simp] theorem Device.setPair_ports (d : Device) (k : Nat) (f : Pair → Pair) : (d.setPair k f).ports = d.ports := rfl
@[simp] theorem Device.setPair_fbs (d : Device) (k : Nat) (f : Pair → Pair) : (d.setPair k f).fbs = d.fbs := rfl
@[simp] theorem Device.setPair_axes (d : Device) (k : Nat) (f : Pair → Pair) : (d.setPair k f).axes = d.axes := rfl
@[simp] theorem Device.setPair_lp (d : Device) (k : Nat) (f : Pair → Pair) : (d.setPair k f).lp = d.lp := rfl
@[simp] theorem Device.setPair_lpPend (d : Device) (k : Nat) (f : Pair → Pair) : (d.setPair k f).lpPend = d.lpPend := rfl
@[simp] theorem Device.setPair_engines (d : Device) (k : Nat) (f : Pair → Pair) : (d.setPair k f).engines = d.engines := rfl
@[simp] theorem Device.setPair_chains (d : Device) (k : Nat) (f : Pair → Pair) : (d.setPair k f).chains = d.chains := rfl
@[simp] theorem Device.setPair_md (d : Device) (k : Nat) (f : Pair → Pair) : (d.setPair k f).md = d.md := rfl
@[simp] theorem Device.setPair_fioCh (d : Device) (k : Nat) (f : Pair → Pair) : (d.setPair k f).fioCh = d.fioCh := rfl
@[simp] theorem Device.setPair_fioGrp (d : Device) (k : Nat) (f : Pair → Pair) : (d.setPair k f).fioGrp = d.fioGrp := rfl
@[simp] theorem Device.setPair_field (d : Device) (k : Nat) (f : Pair → Pair) : (d.setPair k f).field = d.field := rfl
@[simp] theorem Device.setPair_itins (d : Device) (k : Nat) (f : Pair → Pair) : (d.setPair k f).itins = d.itins := rfl
@[simp] theorem Device.setPair_it (d : Device) (k : Nat) (f : Pair → Pair) : (d.setPair k f).it = d.it := rfl
@[simp] theorem Device.setPair_cv (d : Device) (k : Nat) (f : Pair → Pair) : (d.setPair k f).cv = d.cv := rfl
@[simp] theorem Device.setPair_tg (d : Device) (k : Nat) (f : Pair → Pair) : (d.setPair k f).tg = d.tg := rfl
@[simp] theorem Device.setPair_tm (d : Device) (k : Nat) (f : Pair → Pair) : (d.setPair k f).tm = d.tm := rfl
@[simp] theorem Device.setPair_net (d : Device) (k : Nat) (f : Pair → Pair) : (d.setPair k f).net = d.net := rfl
@[simp] theorem Device.setPair_cans (d : Device) (k : Nat) (f : Pair → Pair) : (d.setPair k f).cans = d.cans := rfl
@[simp] theorem Device.setPair_boot (d : Device) (k : Nat) (f : Pair → Pair) : (d.setPair k f).boot = d.boot := rfl
@[simp] theorem Device.setPair_ln (d : Device) (k : Nat) (f : Pair → Pair) : (d.setPair k f).ln = d.ln := rfl
@[simp] theorem Device.setPair_rc (d : Device) (k : Nat) (f : Pair → Pair) : (d.setPair k f).rc = d.rc := rfl
@[simp] theorem Device.setPair_pkg (d : Device) (k : Nat) (f : Pair → Pair) : (d.setPair k f).pkg = d.pkg := rfl

/-! setPkg -/
@[simp] theorem Device.setPkg_clk (d : Device) (f : Package → Package) : (d.setPkg f).clk = d.clk := rfl
@[simp] theorem Device.setPkg_regs (d : Device) (f : Package → Package) : (d.setPkg f).regs = d.regs := rfl
@[simp] theorem Device.setPkg_hold (d : Device) (f : Package → Package) : (d.setPkg f).hold = d.hold := rfl
@[simp] theorem Device.setPkg_bulk (d : Device) (f : Package → Package) : (d.setPkg f).bulk = d.bulk := rfl
@[simp] theorem Device.setPkg_bulkErr (d : Device) (f : Package → Package) : (d.setPkg f).bulkErr = d.bulkErr := rfl
@[simp] theorem Device.setPkg_mem (d : Device) (f : Package → Package) : (d.setPkg f).mem = d.mem := rfl
@[simp] theorem Device.setPkg_ledger (d : Device) (f : Package → Package) : (d.setPkg f).ledger = d.ledger := rfl
@[simp] theorem Device.setPkg_test (d : Device) (f : Package → Package) : (d.setPkg f).test = d.test := rfl
@[simp] theorem Device.setPkg_tables (d : Device) (f : Package → Package) : (d.setPkg f).tables = d.tables := rfl
@[simp] theorem Device.setPkg_qOcc (d : Device) (f : Package → Package) : (d.setPkg f).qOcc = d.qOcc := rfl
@[simp] theorem Device.setPkg_qGap (d : Device) (f : Package → Package) : (d.setPkg f).qGap = d.qGap := rfl
@[simp] theorem Device.setPkg_free (d : Device) (f : Package → Package) : (d.setPkg f).free = d.free := rfl
@[simp] theorem Device.setPkg_planners (d : Device) (f : Package → Package) : (d.setPkg f).planners = d.planners := rfl
@[simp] theorem Device.setPkg_plTicks (d : Device) (f : Package → Package) : (d.setPkg f).plTicks = d.plTicks := rfl
@[simp] theorem Device.setPkg_live (d : Device) (f : Package → Package) : (d.setPkg f).live = d.live := rfl
@[simp] theorem Device.setPkg_miles (d : Device) (f : Package → Package) : (d.setPkg f).miles = d.miles := rfl
@[simp] theorem Device.setPkg_latches (d : Device) (f : Package → Package) : (d.setPkg f).latches = d.latches := rfl
@[simp] theorem Device.setPkg_convoys (d : Device) (f : Package → Package) : (d.setPkg f).convoys = d.convoys := rfl
@[simp] theorem Device.setPkg_gantries (d : Device) (f : Package → Package) : (d.setPkg f).gantries = d.gantries := rfl
@[simp] theorem Device.setPkg_gens (d : Device) (f : Package → Package) : (d.setPkg f).gens = d.gens := rfl
@[simp] theorem Device.setPkg_ports (d : Device) (f : Package → Package) : (d.setPkg f).ports = d.ports := rfl
@[simp] theorem Device.setPkg_fbs (d : Device) (f : Package → Package) : (d.setPkg f).fbs = d.fbs := rfl
@[simp] theorem Device.setPkg_axes (d : Device) (f : Package → Package) : (d.setPkg f).axes = d.axes := rfl
@[simp] theorem Device.setPkg_lp (d : Device) (f : Package → Package) : (d.setPkg f).lp = d.lp := rfl
@[simp] theorem Device.setPkg_lpPend (d : Device) (f : Package → Package) : (d.setPkg f).lpPend = d.lpPend := rfl
@[simp] theorem Device.setPkg_engines (d : Device) (f : Package → Package) : (d.setPkg f).engines = d.engines := rfl
@[simp] theorem Device.setPkg_chains (d : Device) (f : Package → Package) : (d.setPkg f).chains = d.chains := rfl
@[simp] theorem Device.setPkg_pairs (d : Device) (f : Package → Package) : (d.setPkg f).pairs = d.pairs := rfl
@[simp] theorem Device.setPkg_md (d : Device) (f : Package → Package) : (d.setPkg f).md = d.md := rfl
@[simp] theorem Device.setPkg_fioCh (d : Device) (f : Package → Package) : (d.setPkg f).fioCh = d.fioCh := rfl
@[simp] theorem Device.setPkg_fioGrp (d : Device) (f : Package → Package) : (d.setPkg f).fioGrp = d.fioGrp := rfl
@[simp] theorem Device.setPkg_field (d : Device) (f : Package → Package) : (d.setPkg f).field = d.field := rfl
@[simp] theorem Device.setPkg_itins (d : Device) (f : Package → Package) : (d.setPkg f).itins = d.itins := rfl
@[simp] theorem Device.setPkg_it (d : Device) (f : Package → Package) : (d.setPkg f).it = d.it := rfl
@[simp] theorem Device.setPkg_cv (d : Device) (f : Package → Package) : (d.setPkg f).cv = d.cv := rfl
@[simp] theorem Device.setPkg_tg (d : Device) (f : Package → Package) : (d.setPkg f).tg = d.tg := rfl
@[simp] theorem Device.setPkg_tm (d : Device) (f : Package → Package) : (d.setPkg f).tm = d.tm := rfl
@[simp] theorem Device.setPkg_net (d : Device) (f : Package → Package) : (d.setPkg f).net = d.net := rfl
@[simp] theorem Device.setPkg_cans (d : Device) (f : Package → Package) : (d.setPkg f).cans = d.cans := rfl
@[simp] theorem Device.setPkg_boot (d : Device) (f : Package → Package) : (d.setPkg f).boot = d.boot := rfl
@[simp] theorem Device.setPkg_ln (d : Device) (f : Package → Package) : (d.setPkg f).ln = d.ln := rfl
@[simp] theorem Device.setPkg_rc (d : Device) (f : Package → Package) : (d.setPkg f).rc = d.rc := rfl

/-! setPl -/
@[simp] theorem Device.setPl_clk (d : Device) (k : Nat) (f : Planner → Planner) : (d.setPl k f).clk = d.clk := rfl
@[simp] theorem Device.setPl_regs (d : Device) (k : Nat) (f : Planner → Planner) : (d.setPl k f).regs = d.regs := rfl
@[simp] theorem Device.setPl_hold (d : Device) (k : Nat) (f : Planner → Planner) : (d.setPl k f).hold = d.hold := rfl
@[simp] theorem Device.setPl_bulk (d : Device) (k : Nat) (f : Planner → Planner) : (d.setPl k f).bulk = d.bulk := rfl
@[simp] theorem Device.setPl_bulkErr (d : Device) (k : Nat) (f : Planner → Planner) : (d.setPl k f).bulkErr = d.bulkErr := rfl
@[simp] theorem Device.setPl_mem (d : Device) (k : Nat) (f : Planner → Planner) : (d.setPl k f).mem = d.mem := rfl
@[simp] theorem Device.setPl_ledger (d : Device) (k : Nat) (f : Planner → Planner) : (d.setPl k f).ledger = d.ledger := rfl
@[simp] theorem Device.setPl_test (d : Device) (k : Nat) (f : Planner → Planner) : (d.setPl k f).test = d.test := rfl
@[simp] theorem Device.setPl_tables (d : Device) (k : Nat) (f : Planner → Planner) : (d.setPl k f).tables = d.tables := rfl
@[simp] theorem Device.setPl_qOcc (d : Device) (k : Nat) (f : Planner → Planner) : (d.setPl k f).qOcc = d.qOcc := rfl
@[simp] theorem Device.setPl_qGap (d : Device) (k : Nat) (f : Planner → Planner) : (d.setPl k f).qGap = d.qGap := rfl
@[simp] theorem Device.setPl_free (d : Device) (k : Nat) (f : Planner → Planner) : (d.setPl k f).free = d.free := rfl
@[simp] theorem Device.setPl_plTicks (d : Device) (k : Nat) (f : Planner → Planner) : (d.setPl k f).plTicks = d.plTicks := rfl
@[simp] theorem Device.setPl_live (d : Device) (k : Nat) (f : Planner → Planner) : (d.setPl k f).live = d.live := rfl
@[simp] theorem Device.setPl_miles (d : Device) (k : Nat) (f : Planner → Planner) : (d.setPl k f).miles = d.miles := rfl
@[simp] theorem Device.setPl_latches (d : Device) (k : Nat) (f : Planner → Planner) : (d.setPl k f).latches = d.latches := rfl
@[simp] theorem Device.setPl_convoys (d : Device) (k : Nat) (f : Planner → Planner) : (d.setPl k f).convoys = d.convoys := rfl
@[simp] theorem Device.setPl_gantries (d : Device) (k : Nat) (f : Planner → Planner) : (d.setPl k f).gantries = d.gantries := rfl
@[simp] theorem Device.setPl_gens (d : Device) (k : Nat) (f : Planner → Planner) : (d.setPl k f).gens = d.gens := rfl
@[simp] theorem Device.setPl_ports (d : Device) (k : Nat) (f : Planner → Planner) : (d.setPl k f).ports = d.ports := rfl
@[simp] theorem Device.setPl_fbs (d : Device) (k : Nat) (f : Planner → Planner) : (d.setPl k f).fbs = d.fbs := rfl
@[simp] theorem Device.setPl_axes (d : Device) (k : Nat) (f : Planner → Planner) : (d.setPl k f).axes = d.axes := rfl
@[simp] theorem Device.setPl_lp (d : Device) (k : Nat) (f : Planner → Planner) : (d.setPl k f).lp = d.lp := rfl
@[simp] theorem Device.setPl_lpPend (d : Device) (k : Nat) (f : Planner → Planner) : (d.setPl k f).lpPend = d.lpPend := rfl
@[simp] theorem Device.setPl_engines (d : Device) (k : Nat) (f : Planner → Planner) : (d.setPl k f).engines = d.engines := rfl
@[simp] theorem Device.setPl_chains (d : Device) (k : Nat) (f : Planner → Planner) : (d.setPl k f).chains = d.chains := rfl
@[simp] theorem Device.setPl_pairs (d : Device) (k : Nat) (f : Planner → Planner) : (d.setPl k f).pairs = d.pairs := rfl
@[simp] theorem Device.setPl_md (d : Device) (k : Nat) (f : Planner → Planner) : (d.setPl k f).md = d.md := rfl
@[simp] theorem Device.setPl_fioCh (d : Device) (k : Nat) (f : Planner → Planner) : (d.setPl k f).fioCh = d.fioCh := rfl
@[simp] theorem Device.setPl_fioGrp (d : Device) (k : Nat) (f : Planner → Planner) : (d.setPl k f).fioGrp = d.fioGrp := rfl
@[simp] theorem Device.setPl_field (d : Device) (k : Nat) (f : Planner → Planner) : (d.setPl k f).field = d.field := rfl
@[simp] theorem Device.setPl_itins (d : Device) (k : Nat) (f : Planner → Planner) : (d.setPl k f).itins = d.itins := rfl
@[simp] theorem Device.setPl_it (d : Device) (k : Nat) (f : Planner → Planner) : (d.setPl k f).it = d.it := rfl
@[simp] theorem Device.setPl_cv (d : Device) (k : Nat) (f : Planner → Planner) : (d.setPl k f).cv = d.cv := rfl
@[simp] theorem Device.setPl_tg (d : Device) (k : Nat) (f : Planner → Planner) : (d.setPl k f).tg = d.tg := rfl
@[simp] theorem Device.setPl_tm (d : Device) (k : Nat) (f : Planner → Planner) : (d.setPl k f).tm = d.tm := rfl
@[simp] theorem Device.setPl_net (d : Device) (k : Nat) (f : Planner → Planner) : (d.setPl k f).net = d.net := rfl
@[simp] theorem Device.setPl_cans (d : Device) (k : Nat) (f : Planner → Planner) : (d.setPl k f).cans = d.cans := rfl
@[simp] theorem Device.setPl_boot (d : Device) (k : Nat) (f : Planner → Planner) : (d.setPl k f).boot = d.boot := rfl
@[simp] theorem Device.setPl_ln (d : Device) (k : Nat) (f : Planner → Planner) : (d.setPl k f).ln = d.ln := rfl
@[simp] theorem Device.setPl_rc (d : Device) (k : Nat) (f : Planner → Planner) : (d.setPl k f).rc = d.rc := rfl
@[simp] theorem Device.setPl_pkg (d : Device) (k : Nat) (f : Planner → Planner) : (d.setPl k f).pkg = d.pkg := rfl

/-! setTable -/
@[simp] theorem Device.setTable_clk (d : Device) (i : Nat) (f : Table → Table) : (d.setTable i f).clk = d.clk := rfl
@[simp] theorem Device.setTable_regs (d : Device) (i : Nat) (f : Table → Table) : (d.setTable i f).regs = d.regs := rfl
@[simp] theorem Device.setTable_hold (d : Device) (i : Nat) (f : Table → Table) : (d.setTable i f).hold = d.hold := rfl
@[simp] theorem Device.setTable_bulk (d : Device) (i : Nat) (f : Table → Table) : (d.setTable i f).bulk = d.bulk := rfl
@[simp] theorem Device.setTable_bulkErr (d : Device) (i : Nat) (f : Table → Table) : (d.setTable i f).bulkErr = d.bulkErr := rfl
@[simp] theorem Device.setTable_mem (d : Device) (i : Nat) (f : Table → Table) : (d.setTable i f).mem = d.mem := rfl
@[simp] theorem Device.setTable_ledger (d : Device) (i : Nat) (f : Table → Table) : (d.setTable i f).ledger = d.ledger := rfl
@[simp] theorem Device.setTable_test (d : Device) (i : Nat) (f : Table → Table) : (d.setTable i f).test = d.test := rfl
@[simp] theorem Device.setTable_qOcc (d : Device) (i : Nat) (f : Table → Table) : (d.setTable i f).qOcc = d.qOcc := rfl
@[simp] theorem Device.setTable_qGap (d : Device) (i : Nat) (f : Table → Table) : (d.setTable i f).qGap = d.qGap := rfl
@[simp] theorem Device.setTable_free (d : Device) (i : Nat) (f : Table → Table) : (d.setTable i f).free = d.free := rfl
@[simp] theorem Device.setTable_planners (d : Device) (i : Nat) (f : Table → Table) : (d.setTable i f).planners = d.planners := rfl
@[simp] theorem Device.setTable_plTicks (d : Device) (i : Nat) (f : Table → Table) : (d.setTable i f).plTicks = d.plTicks := rfl
@[simp] theorem Device.setTable_live (d : Device) (i : Nat) (f : Table → Table) : (d.setTable i f).live = d.live := rfl
@[simp] theorem Device.setTable_miles (d : Device) (i : Nat) (f : Table → Table) : (d.setTable i f).miles = d.miles := rfl
@[simp] theorem Device.setTable_latches (d : Device) (i : Nat) (f : Table → Table) : (d.setTable i f).latches = d.latches := rfl
@[simp] theorem Device.setTable_convoys (d : Device) (i : Nat) (f : Table → Table) : (d.setTable i f).convoys = d.convoys := rfl
@[simp] theorem Device.setTable_gantries (d : Device) (i : Nat) (f : Table → Table) : (d.setTable i f).gantries = d.gantries := rfl
@[simp] theorem Device.setTable_gens (d : Device) (i : Nat) (f : Table → Table) : (d.setTable i f).gens = d.gens := rfl
@[simp] theorem Device.setTable_ports (d : Device) (i : Nat) (f : Table → Table) : (d.setTable i f).ports = d.ports := rfl
@[simp] theorem Device.setTable_fbs (d : Device) (i : Nat) (f : Table → Table) : (d.setTable i f).fbs = d.fbs := rfl
@[simp] theorem Device.setTable_axes (d : Device) (i : Nat) (f : Table → Table) : (d.setTable i f).axes = d.axes := rfl
@[simp] theorem Device.setTable_lp (d : Device) (i : Nat) (f : Table → Table) : (d.setTable i f).lp = d.lp := rfl
@[simp] theorem Device.setTable_lpPend (d : Device) (i : Nat) (f : Table → Table) : (d.setTable i f).lpPend = d.lpPend := rfl
@[simp] theorem Device.setTable_engines (d : Device) (i : Nat) (f : Table → Table) : (d.setTable i f).engines = d.engines := rfl
@[simp] theorem Device.setTable_chains (d : Device) (i : Nat) (f : Table → Table) : (d.setTable i f).chains = d.chains := rfl
@[simp] theorem Device.setTable_pairs (d : Device) (i : Nat) (f : Table → Table) : (d.setTable i f).pairs = d.pairs := rfl
@[simp] theorem Device.setTable_md (d : Device) (i : Nat) (f : Table → Table) : (d.setTable i f).md = d.md := rfl
@[simp] theorem Device.setTable_fioCh (d : Device) (i : Nat) (f : Table → Table) : (d.setTable i f).fioCh = d.fioCh := rfl
@[simp] theorem Device.setTable_fioGrp (d : Device) (i : Nat) (f : Table → Table) : (d.setTable i f).fioGrp = d.fioGrp := rfl
@[simp] theorem Device.setTable_field (d : Device) (i : Nat) (f : Table → Table) : (d.setTable i f).field = d.field := rfl
@[simp] theorem Device.setTable_itins (d : Device) (i : Nat) (f : Table → Table) : (d.setTable i f).itins = d.itins := rfl
@[simp] theorem Device.setTable_it (d : Device) (i : Nat) (f : Table → Table) : (d.setTable i f).it = d.it := rfl
@[simp] theorem Device.setTable_cv (d : Device) (i : Nat) (f : Table → Table) : (d.setTable i f).cv = d.cv := rfl
@[simp] theorem Device.setTable_tg (d : Device) (i : Nat) (f : Table → Table) : (d.setTable i f).tg = d.tg := rfl
@[simp] theorem Device.setTable_tm (d : Device) (i : Nat) (f : Table → Table) : (d.setTable i f).tm = d.tm := rfl
@[simp] theorem Device.setTable_net (d : Device) (i : Nat) (f : Table → Table) : (d.setTable i f).net = d.net := rfl
@[simp] theorem Device.setTable_cans (d : Device) (i : Nat) (f : Table → Table) : (d.setTable i f).cans = d.cans := rfl
@[simp] theorem Device.setTable_boot (d : Device) (i : Nat) (f : Table → Table) : (d.setTable i f).boot = d.boot := rfl
@[simp] theorem Device.setTable_ln (d : Device) (i : Nat) (f : Table → Table) : (d.setTable i f).ln = d.ln := rfl
@[simp] theorem Device.setTable_rc (d : Device) (i : Nat) (f : Table → Table) : (d.setTable i f).rc = d.rc := rfl
@[simp] theorem Device.setTable_pkg (d : Device) (i : Nat) (f : Table → Table) : (d.setTable i f).pkg = d.pkg := rfl

/-! setTg -/
@[simp] theorem Device.setTg_clk (d : Device) (f : Tollgate → Tollgate) : (d.setTg f).clk = d.clk := rfl
@[simp] theorem Device.setTg_regs (d : Device) (f : Tollgate → Tollgate) : (d.setTg f).regs = d.regs := rfl
@[simp] theorem Device.setTg_hold (d : Device) (f : Tollgate → Tollgate) : (d.setTg f).hold = d.hold := rfl
@[simp] theorem Device.setTg_bulk (d : Device) (f : Tollgate → Tollgate) : (d.setTg f).bulk = d.bulk := rfl
@[simp] theorem Device.setTg_bulkErr (d : Device) (f : Tollgate → Tollgate) : (d.setTg f).bulkErr = d.bulkErr := rfl
@[simp] theorem Device.setTg_mem (d : Device) (f : Tollgate → Tollgate) : (d.setTg f).mem = d.mem := rfl
@[simp] theorem Device.setTg_ledger (d : Device) (f : Tollgate → Tollgate) : (d.setTg f).ledger = d.ledger := rfl
@[simp] theorem Device.setTg_test (d : Device) (f : Tollgate → Tollgate) : (d.setTg f).test = d.test := rfl
@[simp] theorem Device.setTg_tables (d : Device) (f : Tollgate → Tollgate) : (d.setTg f).tables = d.tables := rfl
@[simp] theorem Device.setTg_qOcc (d : Device) (f : Tollgate → Tollgate) : (d.setTg f).qOcc = d.qOcc := rfl
@[simp] theorem Device.setTg_qGap (d : Device) (f : Tollgate → Tollgate) : (d.setTg f).qGap = d.qGap := rfl
@[simp] theorem Device.setTg_free (d : Device) (f : Tollgate → Tollgate) : (d.setTg f).free = d.free := rfl
@[simp] theorem Device.setTg_planners (d : Device) (f : Tollgate → Tollgate) : (d.setTg f).planners = d.planners := rfl
@[simp] theorem Device.setTg_plTicks (d : Device) (f : Tollgate → Tollgate) : (d.setTg f).plTicks = d.plTicks := rfl
@[simp] theorem Device.setTg_live (d : Device) (f : Tollgate → Tollgate) : (d.setTg f).live = d.live := rfl
@[simp] theorem Device.setTg_miles (d : Device) (f : Tollgate → Tollgate) : (d.setTg f).miles = d.miles := rfl
@[simp] theorem Device.setTg_latches (d : Device) (f : Tollgate → Tollgate) : (d.setTg f).latches = d.latches := rfl
@[simp] theorem Device.setTg_convoys (d : Device) (f : Tollgate → Tollgate) : (d.setTg f).convoys = d.convoys := rfl
@[simp] theorem Device.setTg_gantries (d : Device) (f : Tollgate → Tollgate) : (d.setTg f).gantries = d.gantries := rfl
@[simp] theorem Device.setTg_gens (d : Device) (f : Tollgate → Tollgate) : (d.setTg f).gens = d.gens := rfl
@[simp] theorem Device.setTg_ports (d : Device) (f : Tollgate → Tollgate) : (d.setTg f).ports = d.ports := rfl
@[simp] theorem Device.setTg_fbs (d : Device) (f : Tollgate → Tollgate) : (d.setTg f).fbs = d.fbs := rfl
@[simp] theorem Device.setTg_axes (d : Device) (f : Tollgate → Tollgate) : (d.setTg f).axes = d.axes := rfl
@[simp] theorem Device.setTg_lp (d : Device) (f : Tollgate → Tollgate) : (d.setTg f).lp = d.lp := rfl
@[simp] theorem Device.setTg_lpPend (d : Device) (f : Tollgate → Tollgate) : (d.setTg f).lpPend = d.lpPend := rfl
@[simp] theorem Device.setTg_engines (d : Device) (f : Tollgate → Tollgate) : (d.setTg f).engines = d.engines := rfl
@[simp] theorem Device.setTg_chains (d : Device) (f : Tollgate → Tollgate) : (d.setTg f).chains = d.chains := rfl
@[simp] theorem Device.setTg_pairs (d : Device) (f : Tollgate → Tollgate) : (d.setTg f).pairs = d.pairs := rfl
@[simp] theorem Device.setTg_md (d : Device) (f : Tollgate → Tollgate) : (d.setTg f).md = d.md := rfl
@[simp] theorem Device.setTg_fioCh (d : Device) (f : Tollgate → Tollgate) : (d.setTg f).fioCh = d.fioCh := rfl
@[simp] theorem Device.setTg_fioGrp (d : Device) (f : Tollgate → Tollgate) : (d.setTg f).fioGrp = d.fioGrp := rfl
@[simp] theorem Device.setTg_field (d : Device) (f : Tollgate → Tollgate) : (d.setTg f).field = d.field := rfl
@[simp] theorem Device.setTg_itins (d : Device) (f : Tollgate → Tollgate) : (d.setTg f).itins = d.itins := rfl
@[simp] theorem Device.setTg_it (d : Device) (f : Tollgate → Tollgate) : (d.setTg f).it = d.it := rfl
@[simp] theorem Device.setTg_cv (d : Device) (f : Tollgate → Tollgate) : (d.setTg f).cv = d.cv := rfl
@[simp] theorem Device.setTg_tm (d : Device) (f : Tollgate → Tollgate) : (d.setTg f).tm = d.tm := rfl
@[simp] theorem Device.setTg_net (d : Device) (f : Tollgate → Tollgate) : (d.setTg f).net = d.net := rfl
@[simp] theorem Device.setTg_cans (d : Device) (f : Tollgate → Tollgate) : (d.setTg f).cans = d.cans := rfl
@[simp] theorem Device.setTg_boot (d : Device) (f : Tollgate → Tollgate) : (d.setTg f).boot = d.boot := rfl
@[simp] theorem Device.setTg_ln (d : Device) (f : Tollgate → Tollgate) : (d.setTg f).ln = d.ln := rfl
@[simp] theorem Device.setTg_rc (d : Device) (f : Tollgate → Tollgate) : (d.setTg f).rc = d.rc := rfl
@[simp] theorem Device.setTg_pkg (d : Device) (f : Tollgate → Tollgate) : (d.setTg f).pkg = d.pkg := rfl

/-! setTm -/
@[simp] theorem Device.setTm_clk (d : Device) (f : Tm → Tm) : (d.setTm f).clk = d.clk := rfl
@[simp] theorem Device.setTm_regs (d : Device) (f : Tm → Tm) : (d.setTm f).regs = d.regs := rfl
@[simp] theorem Device.setTm_hold (d : Device) (f : Tm → Tm) : (d.setTm f).hold = d.hold := rfl
@[simp] theorem Device.setTm_bulk (d : Device) (f : Tm → Tm) : (d.setTm f).bulk = d.bulk := rfl
@[simp] theorem Device.setTm_bulkErr (d : Device) (f : Tm → Tm) : (d.setTm f).bulkErr = d.bulkErr := rfl
@[simp] theorem Device.setTm_mem (d : Device) (f : Tm → Tm) : (d.setTm f).mem = d.mem := rfl
@[simp] theorem Device.setTm_ledger (d : Device) (f : Tm → Tm) : (d.setTm f).ledger = d.ledger := rfl
@[simp] theorem Device.setTm_test (d : Device) (f : Tm → Tm) : (d.setTm f).test = d.test := rfl
@[simp] theorem Device.setTm_tables (d : Device) (f : Tm → Tm) : (d.setTm f).tables = d.tables := rfl
@[simp] theorem Device.setTm_qOcc (d : Device) (f : Tm → Tm) : (d.setTm f).qOcc = d.qOcc := rfl
@[simp] theorem Device.setTm_qGap (d : Device) (f : Tm → Tm) : (d.setTm f).qGap = d.qGap := rfl
@[simp] theorem Device.setTm_free (d : Device) (f : Tm → Tm) : (d.setTm f).free = d.free := rfl
@[simp] theorem Device.setTm_planners (d : Device) (f : Tm → Tm) : (d.setTm f).planners = d.planners := rfl
@[simp] theorem Device.setTm_plTicks (d : Device) (f : Tm → Tm) : (d.setTm f).plTicks = d.plTicks := rfl
@[simp] theorem Device.setTm_live (d : Device) (f : Tm → Tm) : (d.setTm f).live = d.live := rfl
@[simp] theorem Device.setTm_miles (d : Device) (f : Tm → Tm) : (d.setTm f).miles = d.miles := rfl
@[simp] theorem Device.setTm_latches (d : Device) (f : Tm → Tm) : (d.setTm f).latches = d.latches := rfl
@[simp] theorem Device.setTm_convoys (d : Device) (f : Tm → Tm) : (d.setTm f).convoys = d.convoys := rfl
@[simp] theorem Device.setTm_gantries (d : Device) (f : Tm → Tm) : (d.setTm f).gantries = d.gantries := rfl
@[simp] theorem Device.setTm_gens (d : Device) (f : Tm → Tm) : (d.setTm f).gens = d.gens := rfl
@[simp] theorem Device.setTm_ports (d : Device) (f : Tm → Tm) : (d.setTm f).ports = d.ports := rfl
@[simp] theorem Device.setTm_fbs (d : Device) (f : Tm → Tm) : (d.setTm f).fbs = d.fbs := rfl
@[simp] theorem Device.setTm_axes (d : Device) (f : Tm → Tm) : (d.setTm f).axes = d.axes := rfl
@[simp] theorem Device.setTm_lp (d : Device) (f : Tm → Tm) : (d.setTm f).lp = d.lp := rfl
@[simp] theorem Device.setTm_lpPend (d : Device) (f : Tm → Tm) : (d.setTm f).lpPend = d.lpPend := rfl
@[simp] theorem Device.setTm_engines (d : Device) (f : Tm → Tm) : (d.setTm f).engines = d.engines := rfl
@[simp] theorem Device.setTm_chains (d : Device) (f : Tm → Tm) : (d.setTm f).chains = d.chains := rfl
@[simp] theorem Device.setTm_pairs (d : Device) (f : Tm → Tm) : (d.setTm f).pairs = d.pairs := rfl
@[simp] theorem Device.setTm_md (d : Device) (f : Tm → Tm) : (d.setTm f).md = d.md := rfl
@[simp] theorem Device.setTm_fioCh (d : Device) (f : Tm → Tm) : (d.setTm f).fioCh = d.fioCh := rfl
@[simp] theorem Device.setTm_fioGrp (d : Device) (f : Tm → Tm) : (d.setTm f).fioGrp = d.fioGrp := rfl
@[simp] theorem Device.setTm_field (d : Device) (f : Tm → Tm) : (d.setTm f).field = d.field := rfl
@[simp] theorem Device.setTm_itins (d : Device) (f : Tm → Tm) : (d.setTm f).itins = d.itins := rfl
@[simp] theorem Device.setTm_it (d : Device) (f : Tm → Tm) : (d.setTm f).it = d.it := rfl
@[simp] theorem Device.setTm_cv (d : Device) (f : Tm → Tm) : (d.setTm f).cv = d.cv := rfl
@[simp] theorem Device.setTm_tg (d : Device) (f : Tm → Tm) : (d.setTm f).tg = d.tg := rfl
@[simp] theorem Device.setTm_net (d : Device) (f : Tm → Tm) : (d.setTm f).net = d.net := rfl
@[simp] theorem Device.setTm_cans (d : Device) (f : Tm → Tm) : (d.setTm f).cans = d.cans := rfl
@[simp] theorem Device.setTm_boot (d : Device) (f : Tm → Tm) : (d.setTm f).boot = d.boot := rfl
@[simp] theorem Device.setTm_ln (d : Device) (f : Tm → Tm) : (d.setTm f).ln = d.ln := rfl
@[simp] theorem Device.setTm_rc (d : Device) (f : Tm → Tm) : (d.setTm f).rc = d.rc := rfl
@[simp] theorem Device.setTm_pkg (d : Device) (f : Tm → Tm) : (d.setTm f).pkg = d.pkg := rfl

end Sys2Proof.Machine
end

