-- ==== Sys2Proof/Laws/Store.lean ====
section
/-! SUPPORT. Sparse maps: a read after a write, what a write leaves alone, and the canonical form that every write keeps. -/

namespace Sys2Proof.Machine

@[simp] theorem Store.get_nil {α : Type} (dflt : Nat → α) (a : Nat) : Store.get dflt [] a = dflt a := rfl

theorem Store.get_ins_same {α : Type} (dflt : Nat → α) (m : Store α) (a : Nat) (v : α) :
    Store.get dflt (m.ins a v) a = v := by
  induction m with
  | nil => simp [Store.ins, Store.get]
  | cons e m ih =>
    obtain ⟨b, w⟩ := e
    by_cases h1 : a < b
    · simp [Store.ins, Store.get, h1]
    · by_cases h2 : a = b
      · simp [Store.ins, Store.get, h2]
      · simp [Store.ins, Store.get, h1, h2, ih]

theorem Store.get_ins_other {α : Type} (dflt : Nat → α) (m : Store α) (a c : Nat) (v : α) (hne : c ≠ a) :
    Store.get dflt (m.ins a v) c = Store.get dflt m c := by
  induction m with
  | nil => simp [Store.ins, Store.get, hne]
  | cons e m ih =>
    obtain ⟨b, w⟩ := e
    by_cases h1 : a < b
    · simp [Store.ins, Store.get, h1, hne]
    · by_cases h2 : a = b
      · subst h2; simp [Store.ins, Store.get, hne]
      · simp [Store.ins, Store.get, h1, h2, ih]

theorem Store.get_filter_same {α : Type} (dflt : Nat → α) (m : Store α) (a : Nat) :
    Store.get dflt (m.filter (fun e => e.1 != a)) a = dflt a := by
  induction m with
  | nil => rfl
  | cons e m ih =>
    obtain ⟨b, w⟩ := e
    by_cases h : b = a
    · simpa [List.filter, h] using ih
    · have h2 : a ≠ b := fun x => h x.symm
      simpa [List.filter_cons, h, Store.get, h2] using ih

theorem Store.get_filter_other {α : Type} (dflt : Nat → α) (m : Store α) (a c : Nat) (hne : c ≠ a) :
    Store.get dflt (m.filter (fun e => e.1 != a)) c = Store.get dflt m c := by
  induction m with
  | nil => rfl
  | cons e m ih =>
    obtain ⟨b, w⟩ := e
    by_cases h : b = a
    · subst h; simpa [List.filter_cons, Store.get, hne] using ih
    · simp [h, Store.get, ih]

variable {α : Type} [DecidableEq α]

/-- A read of the key just written. -/
@[simp] theorem Store.get_set_same (dflt : Nat → α) (m : Store α) (a : Nat) (v : α) :
    Store.get dflt (Store.set dflt m a v) a = v := by
  by_cases h : v = dflt a
  · simp [Store.set, h, Store.get_filter_same]
  · simp [Store.set, h, Store.get_ins_same]

/-- A read of another key. -/
theorem Store.get_set_other (dflt : Nat → α) (m : Store α) (a c : Nat) (v : α) (hne : c ≠ a) :
    Store.get dflt (Store.set dflt m a v) c = Store.get dflt m c := by
  by_cases h : v = dflt a
  · simp [Store.set, h, Store.get_filter_other _ _ _ _ hne]
  · simp [Store.set, h, Store.get_ins_other _ _ _ _ _ hne]

/-- A read after a write. -/
theorem Store.get_set (dflt : Nat → α) (m : Store α) (a c : Nat) (v : α) :
    Store.get dflt (Store.set dflt m a v) c = if c = a then v else Store.get dflt m c := by
  by_cases h : c = a
  · subst h; simp
  · simp [h, Store.get_set_other _ _ _ _ _ h]

/-- One structure changed is read back. -/
@[simp] theorem Store.pick_upd_same (m : Store α) (x : α) (k : Nat) (f : α → α) : (m.upd x k f).pick x k = f (m.pick x k) :=
  Store.get_set_same _ m k _

/-- Another structure is unchanged. -/
theorem Store.pick_upd_other (m : Store α) (x : α) (k c : Nat) (f : α → α) (hne : c ≠ k) :
    (m.upd x k f).pick x c = m.pick x c := Store.get_set_other _ m k c _ hne

/-- A canonical form from a bound is one from every lower bound. -/
theorem Store.wfFrom_mono (dflt : Nat → α) (m : Store α) (lo lo' : Nat) (h : Store.wfFrom dflt lo m = true) (hle : lo' ≤ lo) :
    Store.wfFrom dflt lo' m = true := by
  cases m with
  | nil => rfl
  | cons e m =>
    simp only [Store.wfFrom, Bool.and_eq_true, decide_eq_true_eq] at h ⊢
    exact ⟨⟨by omega, h.1.2⟩, h.2⟩

theorem Store.wfFrom_filter (dflt : Nat → α) (m : Store α) (a : Nat) :
    ∀ lo, Store.wfFrom dflt lo m = true → Store.wfFrom dflt lo (m.filter (fun e => e.1 != a)) = true := by
  induction m with
  | nil => intro lo _; rfl
  | cons e m ih =>
    obtain ⟨b, w⟩ := e
    intro lo h
    simp only [Store.wfFrom, Bool.and_eq_true, decide_eq_true_eq] at h
    by_cases hb : b = a
    · simpa [List.filter, hb] using Store.wfFrom_mono dflt _ (b + 1) lo (ih _ h.2) (by omega)
    · have hb' : (b != a) = true := by simpa using hb
      simp only [List.filter, hb', Store.wfFrom, Bool.and_eq_true, decide_eq_true_eq]
      exact ⟨h.1, ih _ h.2⟩

theorem Store.wfFrom_ins (dflt : Nat → α) (m : Store α) (a : Nat) (v : α) (hv : v ≠ dflt a) :
    ∀ lo, Store.wfFrom dflt lo m = true → lo ≤ a → Store.wfFrom dflt lo (m.ins a v) = true := by
  induction m with
  | nil => intro lo _ hle; simp [Store.ins, Store.wfFrom, hv, hle]
  | cons e m ih =>
    obtain ⟨b, w⟩ := e
    intro lo h hle
    simp only [Store.wfFrom, Bool.and_eq_true, decide_eq_true_eq] at h
    by_cases h1 : a < b
    · simp only [Store.ins, h1, if_true, Store.wfFrom, Bool.and_eq_true, decide_eq_true_eq]
      exact ⟨⟨hle, hv⟩, ⟨by omega, h.1.2⟩, h.2⟩
    · by_cases h2 : a = b
      · subst h2
        simp only [Store.ins, lt_irrefl, if_false, if_true, Store.wfFrom, Bool.and_eq_true, decide_eq_true_eq]
        exact ⟨⟨hle, hv⟩, h.2⟩
      · simp only [Store.ins, h1, h2, if_false, Store.wfFrom, Bool.and_eq_true, decide_eq_true_eq]
        exact ⟨h.1, ih (b + 1) h.2 (by omega)⟩

/-- A write keeps a map canonical. -/
theorem Store.wf_set (dflt : Nat → α) (m : Store α) (a : Nat) (v : α) (h : Store.wf dflt m = true) :
    Store.wf dflt (Store.set dflt m a v) = true := by
  by_cases hv : v = dflt a
  · simpa [Store.set, hv, Store.wf] using Store.wfFrom_filter dflt m a 0 h
  · simpa [Store.set, hv, Store.wf] using Store.wfFrom_ins dflt m a v hv 0 h (Nat.zero_le a)

end Sys2Proof.Machine
end

