-- ==== Sys2Proof/Laws/Registers.lean ====
section
/-! SUPPORT. Registers and their fields: a read after a write, and what a write of one field leaves alone. -/

namespace Sys2Proof.Machine

@[simp] theorem Device.rd_wr_same (d : Device) (a : Nat) (v : BitVec 32) : (d.wr a v).rd a = v :=
  Store.get_set_same resetWord d.regs a v

theorem Device.rd_wr_other (d : Device) (a b : Nat) (v : BitVec 32) (h : b ≠ a) : (d.wr a v).rd b = d.rd b :=
  Store.get_set_other resetWord d.regs a b v h

theorem testBit_bits (n lo w i : Nat) : (bits n lo w).testBit i = (decide (i < w) && n.testBit (lo + i)) := by
  rw [bits, Nat.testBit_mod_two_pow, Nat.testBit_div_two_pow, Nat.add_comm]

/-- A field inserted is read back modulo its width. -/
theorem bits_insBits_same (x : BitVec 32) (lo w v : Nat) (h : lo + w ≤ 32) : bits (insBits x lo w v).toNat lo w = v % 2 ^ w := by
  apply Nat.eq_of_testBit_eq
  intro i
  rw [testBit_bits, Nat.testBit_mod_two_pow]
  by_cases hi : i < w
  · have h32 : lo + i < 32 := by omega
    simp only [hi, decide_true, Bool.true_and]
    simp only [insBits, BitVec.testBit_toNat, BitVec.getLsbD_or, BitVec.getLsbD_and, BitVec.getLsbD_not, BitVec.getLsbD_ofNat, h32,
      decide_true, Bool.true_and]
    have e1 : ((2 ^ w - 1) * 2 ^ lo).testBit (lo + i) = true := by
      rw [Nat.testBit_mul_two_pow]; simp [Nat.testBit_two_pow_sub_one, hi]
    have e2 : (v % 2 ^ w * 2 ^ lo).testBit (lo + i) = v.testBit i := by
      rw [Nat.testBit_mul_two_pow]; simp [Nat.testBit_mod_two_pow, hi]
    simp [e1, e2]
  · simp [hi]

/-- A field that shares no bit with the one inserted is unchanged. -/
theorem bits_insBits_other (x : BitVec 32) (lo w v lo' w' : Nat) (h : lo' + w' ≤ lo ∨ lo + w ≤ lo') (h' : lo' + w' ≤ 32) :
    bits (insBits x lo w v).toNat lo' w' = bits x.toNat lo' w' := by
  apply Nat.eq_of_testBit_eq
  intro i
  rw [testBit_bits, testBit_bits]
  by_cases hi : i < w'
  · have h32 : lo' + i < 32 := by omega
    simp only [hi, decide_true, Bool.true_and]
    simp only [insBits, BitVec.testBit_toNat, BitVec.getLsbD_or, BitVec.getLsbD_and, BitVec.getLsbD_not, BitVec.getLsbD_ofNat, h32,
      decide_true, Bool.true_and]
    have e1 : ((2 ^ w - 1) * 2 ^ lo).testBit (lo' + i) = false := by
      rw [Nat.testBit_mul_two_pow]
      by_cases hl : lo ≤ lo' + i
      · have : ¬ lo' + i - lo < w := by omega
        simp [Nat.testBit_two_pow_sub_one, hl, this]
      · simp [hl]
    simp [e1]
  · simp [hi]

/-- A field just written. -/
theorem Device.get_put_same (d : Device) (f : Fld) (v : Nat) (h : f.lo + f.width ≤ 32) : (d.put f v).get f = v % 2 ^ f.width := by
  simp only [Device.get, Device.put, Device.rd_wr_same]
  exact bits_insBits_same _ _ _ _ h

/-- A field of another register. -/
theorem Device.get_put_addr (d : Device) (f g : Fld) (v : Nat) (h : g.addr ≠ f.addr) : (d.put f v).get g = d.get g := by
  simp only [Device.get, Device.put, Device.rd_wr_other _ _ _ _ h]

/-- A field of the same register that shares no bit with the one written. -/
theorem Device.get_put_disjoint (d : Device) (f g : Fld) (v : Nat) (ha : g.addr = f.addr)
    (h : g.lo + g.width ≤ f.lo ∨ f.lo + f.width ≤ g.lo) (h' : g.lo + g.width ≤ 32) : (d.put f v).get g = d.get g := by
  simp only [Device.get, Device.put, ha, Device.rd_wr_same]
  exact bits_insBits_other _ _ _ _ _ _ h h'

/-- Another register keeps its word when a field is written. -/
theorem Device.rd_put_other (d : Device) (f : Fld) (v a : Nat) (h : a ≠ f.addr) : (d.put f v).rd a = d.rd a :=
  Device.rd_wr_other d f.addr a _ h

/-- A field's value fits its width. -/
theorem Device.get_lt (d : Device) (f : Fld) : d.get f < 2 ^ f.width := Nat.mod_lt _ (Nat.two_pow_pos _)

/-- A snapshot field just written, as its unit sees it. -/
theorem Device.liveGet_livePut_same (d : Device) (f : Fld) (v : Nat) (h : f.lo + f.width ≤ 32) :
    (d.livePut f v).liveGet f = v % 2 ^ f.width := by
  simp only [Device.liveGet, Device.livePut, Store.get_set_same]
  exact bits_insBits_same _ _ _ _ h

/-- Another register's snapshot field. -/
theorem Device.liveGet_livePut_addr (d : Device) (f g : Fld) (v : Nat) (h : g.addr ≠ f.addr) :
    (d.livePut f v).liveGet g = d.liveGet g := by
  simp only [Device.liveGet, Device.livePut, Store.get_set_other _ _ _ _ _ h]

/-- A snapshot field of the same register that shares no bit with the one written. -/
theorem Device.liveGet_livePut_disjoint (d : Device) (f g : Fld) (v : Nat) (ha : g.addr = f.addr)
    (h : g.lo + g.width ≤ f.lo ∨ f.lo + f.width ≤ g.lo) (h' : g.lo + g.width ≤ 32) :
    (d.livePut f v).liveGet g = d.liveGet g := by
  simp only [Device.liveGet, Device.livePut, ha, Store.get_set_same]
  exact bits_insBits_other _ _ _ _ _ _ h h'

@[simp] theorem Device.rd_livePut (d : Device) (f : Fld) (v a : Nat) : (d.livePut f v).rd a = d.rd a := rfl
@[simp] theorem Device.get_livePut (d : Device) (f g : Fld) (v : Nat) : (d.livePut f v).get g = d.get g := rfl
@[simp] theorem Device.liveGet_put (d : Device) (f g : Fld) (v : Nat) : (d.put f v).liveGet g = d.liveGet g := rfl

/-- The register file keeps its canonical form. -/
theorem Device.regs_wf_wr (d : Device) (a : Nat) (v : BitVec 32) (h : Store.wf resetWord d.regs = true) :
    Store.wf resetWord (d.wr a v).regs = true := Store.wf_set resetWord d.regs a v h

end Sys2Proof.Machine
end

