-- ==== Sys2Proof/Laws/Clock.lean ====
section
/-! SUPPORT. The clock: what each gate of a command and each passing of ticks does to it. -/

namespace Sys2Proof.Machine

@[simp] theorem State.onDev_pending (s : State) (f : Device → Device) : (s.onDev f).pending = s.pending := by
  unfold State.onDev; split <;> rfl
@[simp] theorem State.onTime_pending (s : State) (f : Device → Device) : (s.onTime f).pending = s.pending := by
  unfold State.onTime; split <;> rfl
@[simp] theorem State.onWrite_pending (s : State) (f : Device → Device) : (s.onWrite f).pending = s.pending := by
  unfold State.onWrite; split <;> rfl
@[simp] theorem State.onPins_pending (s : State) (f : Device → Device) : (s.onPins f).pending = s.pending := rfl

/-- A command gated by `onDev` moves no time. -/
@[simp] theorem State.onDev_clk (s : State) (f : Device → Device) : (s.onDev f).dev.clk = s.dev.clk := by
  unfold State.onDev; split <;> rfl

/-- Work that may reset the device leaves the clock, or starts it anew. -/
theorem Device.orReset_clk (d : Device) (f : Device → Device) : (d.orReset f).clk = d.clk ∨ (d.orReset f).clk = {} := by
  simp only [Device.orReset]; split <;> simp

theorem State.onWrite_clk (s : State) (f : Device → Device) : (s.onWrite f).dev.clk = s.dev.clk ∨ (s.onWrite f).dev.clk = {} := by
  unfold State.onWrite; split
  · exact .inl rfl
  · exact Device.orReset_clk _ _

theorem State.onPins_clk (s : State) (f : Device → Device) : (s.onPins f).dev.clk = s.dev.clk ∨ (s.onPins f).dev.clk = {} :=
  Device.orReset_clk _ _

/-- A command that `onDev` gates, where no reset holds the device. -/
theorem State.onDev_run (s : State) (f : Device → Device) (h : s.dev.inReset = false) : s.onDev f = { s with dev := s.dev.still f } := by
  simp [State.onDev, h]

/-- While reset holds the device such a command has no effect. -/
theorem State.onDev_held (s : State) (f : Device → Device) (h : s.dev.inReset = true) : s.onDev f = s := by
  simp [State.onDev, h]

theorem State.onTime_run (s : State) (f : Device → Device) (h : s.dev.inReset = false) : s.onTime f = { s with dev := f s.dev } := by
  simp [State.onTime, h]

theorem State.onTime_held (s : State) (f : Device → Device) (h : s.dev.inReset = true) : s.onTime f = s := by
  simp [State.onTime, h]

/-- The clock after `n` ticks within a beat. -/
def Clock.adv (c : Clock) (n : Nat) : Clock := { c with now := c.now + n, tick := if c.running then c.tick + n else c.tick }

@[simp] theorem Clock.adv_zero (c : Clock) : c.adv 0 = c := by cases c; simp [Clock.adv]
@[simp] theorem Clock.adv_now (c : Clock) (n : Nat) : (c.adv n).now = c.now + n := rfl
@[simp] theorem Clock.adv_running (c : Clock) (n : Nat) : (c.adv n).running = c.running := rfl
theorem Clock.adv_tick (c : Clock) (n : Nat) (h : c.running = true) : (c.adv n).tick = c.tick + n := by simp [Clock.adv, h]
@[simp] theorem Clock.adv_adv (c : Clock) (m n : Nat) : (c.adv m).adv n = c.adv (m + n) := by
  unfold Clock.adv
  by_cases h : c.running <;> simp [h, Nat.add_assoc]

theorem Device.tickRun_clk (d : Device) (n : Nat) : (d.tickRun n).clk = d.clk.adv n := by
  unfold Device.tickRun
  split
  · subst_vars; simp
  · rfl

@[simp] theorem Device.lgDue_clk (n : Nat) : ∀ d : Device, (d.lgDue n).clk = d.clk := by
  induction n with
  | zero => intro d; rfl
  | succ n ih =>
    intro d
    unfold Device.lgDue
    split
    · split
      · exact ih _
      · rfl
    · rfl

theorem Device.tickUntil_clk (d : Device) (n t : Nat) :
    (d.tickUntil n t).1 ≤ n ∧ (d.tickUntil n t).2.clk = d.clk.adv (n - (d.tickUntil n t).1) := by
  have hk : min n (t + 64 - d.clk.now) ≤ n := Nat.min_le_left _ _
  refine ⟨Nat.sub_le _ _, ?_⟩
  simp only [Device.tickUntil, Device.lgDue_clk, Device.tickRun_clk, Nat.sub_sub_self hk]

theorem Device.ticksOn_clk (d : Device) (n : Nat) : (d.ticksOn n).clk = d.clk.adv n := by
  have all : ∀ (ms : List LMsg) (m : Nat) (e : Device),
      let x := ms.foldl (fun (x : Nat × Device) w => x.2.tickUntil x.1 w.at_) (m, e)
      x.1 ≤ m ∧ x.2.clk = e.clk.adv (m - x.1) := by
    intro ms
    induction ms with
    | nil => intro m e; simp
    | cons w ws ih =>
      intro m e
      have a := Device.tickUntil_clk e m w.at_
      have b := ih (e.tickUntil m w.at_).1 (e.tickUntil m w.at_).2
      simp only [List.foldl_cons, Prod.mk.eta] at b ⊢
      refine ⟨b.1.trans a.1, ?_⟩
      rw [b.2, a.2, Clock.adv_adv]
      congr 1; have := b.1; have := a.1; omega
  have h := all d.ledger.waiting n d
  simp only [Device.ticksOn, Device.lgDue_clk, Device.tickRun_clk]
  rw [h.2, Clock.adv_adv, Nat.sub_add_cancel h.1]

/-- Instants of the recorder that lie within the ticks that pass. -/
theorem Device.rcSteps_clk (T : Nat) (l : List Nat) : ∀ d : Device, (∀ t ∈ l, t ≤ T) → d.clk.tick ≤ T → d.clk.running = true →
    ∃ k, d.clk.tick + k ≤ T ∧
      (l.foldl (fun (d : Device) t => (d.ticksOn (t - d.clk.tick)).still Device.recorderFrame) d).clk = d.clk.adv k := by
  induction l with
  | nil => intro d _ h _; exact ⟨0, h, by simp⟩
  | cons t ts ih =>
    intro d hl hd hr
    have hc : ((d.ticksOn (t - d.clk.tick)).still Device.recorderFrame).clk = d.clk.adv (t - d.clk.tick) := Device.ticksOn_clk d _
    have ht : t ≤ T := hl t (List.mem_cons_self ..)
    obtain ⟨k, hk, he⟩ := ih ((d.ticksOn (t - d.clk.tick)).still Device.recorderFrame) (fun x hx => hl x (List.mem_cons_of_mem _ hx))
      (by rw [hc, Clock.adv_tick _ _ hr]; omega) (by rw [hc]; exact hr)
    rw [hc, Clock.adv_tick _ _ hr] at hk
    exact ⟨t - d.clk.tick + k, by omega, by simpa only [List.foldl_cons, hc, Clock.adv_adv] using he⟩

/-- The recorder takes frames only while the scheduler runs, and at instants up to the tick given. -/
theorem Device.rcUpTo_spec (d : Device) (T : Nat) : (d.rcUpTo T = [] ∨ d.clk.running = true) ∧ ∀ t ∈ d.rcUpTo T, t ≤ T := by
  unfold Device.rcUpTo
  split
  · simp
  · next h =>
    refine ⟨.inr ?_, fun t ht => ?_⟩
    · simp only [Device.rcRuns, Bool.or_eq_true, not_or] at h
      simp_all
    · simp only [List.mem_filter, Bool.and_eq_true, decide_eq_true_eq] at ht
      exact ht.2.1.2

/-- Ticks pass: `now` advances, the tick while the scheduler runs, and nothing else of the clock. -/
theorem Device.ticksPass_clk (d : Device) (n : Nat) : (d.ticksPass n).clk =
    { d.clk with now := d.clk.now + n, tick := if d.clk.running then d.clk.tick + n else d.clk.tick } := by
  change _ = d.clk.adv n
  have hs := Device.rcUpTo_spec d (d.clk.tick + n)
  simp only [Device.ticksPass, Device.ticksOn_clk]
  rcases hs.1 with h | h
  · simp [h]
  · obtain ⟨k, hk, he⟩ := Device.rcSteps_clk _ _ d hs.2 (Nat.le_add_right _ _) h
    rw [he, Clock.adv_now, Clock.adv_adv]
    congr 1; omega

theorem Device.passTo_clk (d : Device) (t : Nat) : (d.passTo t).clk =
    { d.clk with now := d.clk.now + (t - d.clk.tick), tick := if d.clk.running then d.clk.tick + (t - d.clk.tick) else d.clk.tick } :=
  Device.ticksPass_clk d _

/-- The latch phase passes to tick L and is done; nothing else of the clock changes. -/
theorem Device.latchPhase_clk (d : Device) : d.latchPhase.clk = { (d.passTo d.clk.latch).clk with latched := true } := by
  simp [Device.latchPhase, Device.setClk]

/-- The deadline passes to tick D and is done; nothing else of the clock changes. -/
theorem Device.deadlinePhase_clk (d : Device) : d.deadlinePhase.clk = { (d.passTo d.clk.deadline).clk with closed := true } := by
  simp [Device.deadlinePhase, Device.setClk]

/-- The length of the beat that begins: LEN less what alignment cuts. -/
theorem Device.alignBoundary_clk (d : Device) (r : Nat) : ∃ cut, cut < 16 ∧ (d.alignBoundary r).clk = { d.clk with curLen := d.clk.len - cut } := by
  refine ⟨_, ?_, rfl⟩
  unfold Device.alignCut
  split
  · exact Nat.lt_of_le_of_lt (Nat.min_le_left _ _) (Device.get_lt _ _)
  · decide

@[simp] theorem Device.settingsApply_clk (d : Device) (len l dl : Nat) :
    (d.settingsApply len l dl).clk = { d.clk with len := len, latch := l, deadline := dl, curLen := len } := rfl
@[simp] theorem Device.settingsRefuse_clk (d : Device) (c : Nat) : (d.settingsRefuse c).clk = d.clk := rfl

/-- An injection taken touches registers only. -/
theorem Device.injTake_clk (d : Device) (c i k : Nat) (x : Nat × Device) (h : d.injTake c i k = some x) : x.2.clk = d.clk := by
  simp only [Device.injTake] at h
  split at h
  · cases h
  · cases h; rfl

/-- At a boundary the clock keeps its settings, or takes shadow settings that pass every check of R31. -/
theorem Device.settingsBoundary_clk (d : Device) : d.settingsBoundary.1.clk = d.clk ∨
    ∃ len l dl, (d.put TB_STATUS_COMMIT_PEND 0).settingsCode len l dl = 1 ∧
      d.settingsBoundary.1.clk = { d.clk with len := len, latch := l, deadline := dl, curLen := len } := by
  unfold Device.settingsBoundary
  split
  · exact .inl rfl
  · simp only
    split
    · next dt d1 h => exact .inl (Device.injTake_clk _ _ _ _ _ h)
    · split
      · exact .inl rfl
      · next hc =>
        refine .inr ⟨_, _, _, Decidable.not_not.mp hc, ?_⟩
        simp only
        split <;> rfl

/-- What the settings checks of R14, R17 and R18 give. -/
theorem Device.settingsCode_ok (d : Device) (len l dl : Nat) (h : d.settingsCode len l dl = 1 ∨ d.settingsCode len l dl = 6) :
    permittedLens.contains len = true ∧ latchOk d.longestF len l (d.get TB_TRIM_TRIM_MAX) = true ∧
      deadlineOk d.longestF len dl (d.get TB_TRIM_TRIM_MAX) = true := by
  unfold Device.settingsCode at h
  simp only at h
  split at h
  · simp at h
  · next h1 =>
    split at h
    · simp at h
    · split at h
      · simp at h
      · next h2 =>
        split at h
        · simp at h
        · next h3 =>
          refine ⟨?_, ?_, ?_⟩
          · simpa using h1
          · simpa using h2
          · simpa using h3

end Sys2Proof.Machine
end

