-- ==== Sys2Proof/Laws/Memory.lean ====
section
/-! SUPPORT. Bulk memory: a read after a write, what a write leaves alone, and its canonical form. -/

namespace Sys2Proof.Machine

/-- The canonical form of bulk memory and of its check-bit errors. -/
abbrev Memory.wf (d : Device) : Prop := Store.wf bulkDefault d.bulk = true ∧ Store.wf (fun _ => 0) d.bulkErr = true

/-- Every write of a kept byte keeps the canonical form. -/
theorem Memory.wf_setCell (d : Device) (key : Nat) (v : BitVec 8) (e : Nat) (h : Memory.wf d) : Memory.wf (d.setCell key v e) :=
  ⟨Store.wf_set bulkDefault d.bulk key v h.1, Store.wf_set (fun _ => 0) d.bulkErr key _ h.2⟩

theorem Memory.wf_poke1 (d : Device) (a : Nat) (v : BitVec 8) (h : Memory.wf d) : Memory.wf (d.poke1 a v) :=
  Memory.wf_setCell d _ v 0 h

theorem Memory.wf_poke (bs : List (BitVec 8)) : ∀ (d : Device) (a : Nat), Memory.wf d → Memory.wf (d.poke a bs) := by
  induction bs with
  | nil => intro d a h; exact h
  | cons b bs ih => intro d a h; exact ih _ _ (Memory.wf_poke1 d a b h)

/-- Updates that touch neither the bytes nor their check bits keep the form. -/
theorem Memory.wf_of_same (d e : Device) (h1 : e.bulk = d.bulk) (h2 : e.bulkErr = d.bulkErr) (h : Memory.wf d) : Memory.wf e := by
  simp only [Memory.wf, h1, h2]; exact h

@[simp] theorem Device.cell_setCell_same (d : Device) (k : Nat) (v : BitVec 8) (e : Nat) : (d.setCell k v e).cell k = v :=
  Store.get_set_same bulkDefault d.bulk k v
theorem Device.cell_setCell_other (d : Device) (k c : Nat) (v : BitVec 8) (e : Nat) (h : c ≠ k) :
    (d.setCell k v e).cell c = d.cell c := Store.get_set_other bulkDefault d.bulk k c v h
@[simp] theorem Device.cellErr_setCell_same (d : Device) (k : Nat) (v : BitVec 8) (e : Nat) :
    (d.setCell k v e).cellErr k = e ^^^ d.mem.hard.pick 0 k :=
  Store.get_set_same (fun _ => 0) d.bulkErr k _
theorem Device.cellErr_setCell_other (d : Device) (k c : Nat) (v : BitVec 8) (e : Nat) (h : c ≠ k) :
    (d.setCell k v e).cellErr c = d.cellErr c := Store.get_set_other (fun _ => 0) d.bulkErr k c _ h

@[simp] theorem Device.bulkKey_setCell (d : Device) (k a : Nat) (v : BitVec 8) (e : Nat) : (d.setCell k v e).bulkKey a = d.bulkKey a := rfl
@[simp] theorem Device.bulkKey_poke1 (d : Device) (b a : Nat) (v : BitVec 8) : (d.poke1 b v).bulkKey a = d.bulkKey a := rfl

/-- A byte just written where no bit is stuck reads back without error (R376, R379). -/
theorem Device.peek1_poke1_same (d : Device) (a : Nat) (v : BitVec 8) (h : d.mem.hard.pick 0 (d.bulkKey a) = 0) :
    (d.poke1 a v).peek1 a = (v, 0) := by
  simp only [Device.peek1, Device.bulkKey_poke1]
  simp only [Device.poke1, Device.cellErr_setCell_same, Device.cell_setCell_same, h]
  rfl

/-- A byte kept elsewhere reads as before. -/
theorem Device.peek1_poke1_other (d : Device) (a c : Nat) (v : BitVec 8) (h : d.bulkKey c ≠ d.bulkKey a) :
    (d.poke1 a v).peek1 c = d.peek1 c := by
  simp only [Device.peek1, Device.bulkKey_poke1]
  simp only [Device.poke1, Device.cellErr_setCell_other _ _ _ _ _ h, Device.cell_setCell_other _ _ _ _ _ h]

@[simp] theorem Device.peek1_wr (d : Device) (a b : Nat) (v : BitVec 32) : (d.wr a v).peek1 b = d.peek1 b := rfl
@[simp] theorem Device.peek1_put (d : Device) (f : Fld) (v b : Nat) : (d.put f v).peek1 b = d.peek1 b := rfl

end Sys2Proof.Machine
end

