-- ==== Sys2Proof/Laws/Report.lean ====
section
/-! SUPPORT. What reporting leaves alone: events, ledger messages, queue entries and memory reads touch registers, memory and
queues, and never a unit's own state. -/

namespace Sys2Proof

open Sys2Proof.Machine

/-! ### Same units -/

theorem sameUnits.refl (d : Device) : sameUnits d d := rfl

theorem sameUnits.trans {d e f : Device} (h : sameUnits d e) (g : sameUnits e f) : sameUnits d f := Eq.trans g h

@[simp] theorem unitsOf_wr (d : Device) (a : Nat) (v : BitVec 32) : unitsOf (d.wr a v) = unitsOf d := rfl
@[simp] theorem unitsOf_wrN (d : Device) (a n : Nat) : unitsOf (d.wrN a n) = unitsOf d := rfl
@[simp] theorem unitsOf_put (d : Device) (f : Fld) (v : Nat) : unitsOf (d.put f v) = unitsOf d := rfl
@[simp] theorem unitsOf_raise (d : Device) (f : Fld) : unitsOf (d.raise f) = unitsOf d := rfl
@[simp] theorem unitsOf_incSat (d : Device) (f : Fld) (n : Nat) : unitsOf (d.incSat f n) = unitsOf d := rfl
@[simp] theorem unitsOf_inc (d : Device) (f : Fld) : unitsOf (d.inc f) = unitsOf d := rfl
@[simp] theorem unitsOf_refuse (d : Device) (f g : Fld) (c : Nat) : unitsOf (d.refuse f g c) = unitsOf d := rfl
@[simp] theorem unitsOf_msg (d : Device) (c i k x : Nat) (j r : Bool) : unitsOf (d.msg c i k x j r) = unitsOf d := rfl
@[simp] theorem unitsOf_note (d : Device) (k i : Nat) (x : Int) : unitsOf (d.note k i x) = unitsOf d := rfl
@[simp] theorem unitsOf_setCell (d : Device) (k : Nat) (v : BitVec 8) (e : Nat) : unitsOf (d.setCell k v e) = unitsOf d := rfl
@[simp] theorem unitsOf_poke1 (d : Device) (a : Nat) (v : BitVec 8) : unitsOf (d.poke1 a v) = unitsOf d := rfl
@[simp] theorem unitsOf_fresh (d : Device) : unitsOf d.fresh.2 = unitsOf d := rfl
@[simp] theorem unitsOf_queues (d : Device) (x y : Store Nat) : unitsOf { d with qOcc := x, qGap := y } = unitsOf d := rfl
@[simp] theorem unitsOf_qOcc (d : Device) (x : Store Nat) : unitsOf { d with qOcc := x } = unitsOf d := rfl
@[simp] theorem unitsOf_qGap (d : Device) (x : Store Nat) : unitsOf { d with qGap := x } = unitsOf d := rfl
@[simp] theorem unitsOf_mem (d : Device) (x : MemMgr) : unitsOf { d with mem := x } = unitsOf d := rfl

@[simp] theorem unitsOf_poke (bs : List (BitVec 8)) : ∀ (d : Device) (a : Nat), unitsOf (d.poke a bs) = unitsOf d := by
  induction bs with
  | nil => intro d a; rfl
  | cons b bs ih => intro d a; simp only [Device.poke, ih, unitsOf_poke1]

theorem unitsOf_ite (p : Prop) [Decidable p] (d e f : Device) (h : unitsOf e = unitsOf d) (g : unitsOf f = unitsOf d) :
    unitsOf (if p then e else f) = unitsOf d := by split <;> assumption

@[simp] theorem unitsOf_qLose (d : Device) (q : Nat) : unitsOf (d.qLose q) = unitsOf d := by
  simp only [Device.qLose, unitsOf_qGap, unitsOf_raise, unitsOf_incSat]

@[simp] theorem unitsOf_qAdd (d : Device) (q kind src ref : Nat) (pl : List (BitVec 8)) : unitsOf (d.qAdd q kind src ref pl) = unitsOf d := by
  simp only [Device.qAdd]
  split <;> split <;> simp only [unitsOf_raise, unitsOf_wrN, unitsOf_put, unitsOf_queues, unitsOf_poke]

@[simp] theorem unitsOf_qPut (d : Device) (q kind src ref : Nat) (pl : List (BitVec 8)) : unitsOf (d.qPut q kind src ref pl) = unitsOf d := by
  simp only [Device.qPut]; split <;> simp only [unitsOf_qLose, unitsOf_qAdd]

@[simp] theorem unitsOf_qAddAny (d : Device) (q src ref : Nat) (pl : List (BitVec 8)) : unitsOf (d.qAddAny q src ref pl) = unitsOf d := by
  unfold Device.qAddAny; exact (unitsOf_qAdd _ _ _ _ _ _).trans (unitsOf_fresh d)

@[simp] theorem unitsOf_q5 (d : Device) (kind ref : Nat) (pl : List (BitVec 8)) : unitsOf (d.q5 kind pl ref) = unitsOf d :=
  unitsOf_qPut d 5 kind 0 ref _

theorem unitsOf_injTake (d : Device) (c i k : Nat) (x : Nat × Device) (h : d.injTake c i k = some x) : unitsOf x.2 = unitsOf d := by
  simp only [Device.injTake] at h
  split at h
  · cases h
  · cases h; exact unitsOf_put _ _ _

/-- A detection whose local effects touch no unit. -/
theorem unitsOf_detect (d : Device) (c i k : Nat) (real : Bool) (x : Nat) (eff : Device → Device) (r : Bool)
    (he : ∀ e, unitsOf (eff e) = unitsOf e) : unitsOf (d.detect c i k real x eff r) = unitsOf d := by
  unfold Device.detect
  split
  · rw [unitsOf_msg, he]
  · split
    · next dt d1 h => rw [unitsOf_msg, he]; exact unitsOf_injTake d c i k _ h
    · rfl

@[simp] theorem unitsOf_pageSuspect (d : Device) (p : Nat) : unitsOf (d.pageSuspect p) = unitsOf d := by
  simp only [Device.pageSuspect]; split
  · rfl
  · simp only [unitsOf_msg, unitsOf_raise, unitsOf_mem]

@[simp] theorem unitsOf_pageRead (d : Device) (p : Nat) : unitsOf (d.pageRead p) = unitsOf d := by
  simp only [Device.pageRead]; split <;> simp only [unitsOf_pageSuspect, unitsOf_mem]

@[simp] theorem unitsOf_fix1 (d : Device) (a : Nat) : unitsOf (d.fix1 a) = unitsOf d := unitsOf_setCell _ _ _ _

@[simp] theorem unitsOf_memError (d : Device) (u b p : Bool) (n l s x : Nat) : unitsOf (d.memError u b p n l s x) = unitsOf d := by
  unfold Device.memError
  extract_lets d1 d2
  have h : unitsOf d2 = unitsOf d := (unitsOf_wrN _ _ _).trans (unitsOf_wrN _ _ _)
  exact unitsOf_ite _ _ _ _ (((unitsOf_raise _ _).trans (unitsOf_incSat _ _ _)).trans h)
    (((unitsOf_raise _ _).trans (unitsOf_incSat _ _ _)).trans h)

theorem unitsOf_foldl {α : Type} (f : Device → α → Device) (hf : ∀ d x, unitsOf (f d x) = unitsOf d) (l : List α) :
    ∀ d, unitsOf (l.foldl f d) = unitsOf d := by
  induction l with
  | nil => intro d; rfl
  | cons x l ih => intro d; simp only [List.foldl, ih, hf]

@[simp] theorem unitsOf_accessErrors (d : Device) (a n : Nat) : unitsOf (d.accessErrors a n) = unitsOf d := by
  simp only [Device.accessErrors]
  split
  · rfl
  · rw [unitsOf_msg, unitsOf_memError]
    have h1 := fun l : List Nat => unitsOf_foldl (fun (d : Device) i => d.fix1 (a + i)) (fun d i => unitsOf_fix1 d _) l d
    have h2 := fun (l : List Nat) (c : Bool) => unitsOf_ite (c = true) d (l.foldl (fun (d : Device) i => d.fix1 (a + i)) d)
      ((l.foldl (fun (d : Device) i => d.fix1 (a + i)) d).pageRead (a / 4096)) (h1 l) ((unitsOf_pageRead _ _).trans (h1 l))
    exact unitsOf_ite _ _ _ _ ((unitsOf_pageSuspect _ _).trans (h2 _ _)) (h2 _ _)

@[simp] theorem unitsOf_readErrors (d : Device) (a n : Nat) : unitsOf (d.readErrors a n) = unitsOf d := by
  simp only [Device.readErrors]
  split
  · rfl
  · exact unitsOf_foldl _ (fun d w => unitsOf_accessErrors d _ _) _ d

@[simp] theorem unitsOf_bulkRead (d : Device) (a n : Nat) : unitsOf (d.bulkRead a n).2.2 = unitsOf d := by
  have hs : unitsOf ((d.readErrors a n).detect 10 (64 + bankOf a) 5 false 0 fun d => d.raise GL_MEM_EVENT_SUSPECT) = unitsOf d :=
    (unitsOf_detect _ _ _ _ _ _ _ _ fun e => unitsOf_raise e _).trans (unitsOf_readErrors d a n)
  simp only [Device.bulkRead]
  split
  · next dt d2 h => rw [unitsOf_msg, unitsOf_memError]; exact (unitsOf_injTake _ _ _ _ _ h).trans hs
  · next h0 =>
    simp only
    split
    · next dt d2 h => rw [unitsOf_msg, unitsOf_memError]; exact (unitsOf_pageRead _ _).trans ((unitsOf_injTake _ _ _ _ _ h).trans hs)
    · exact hs

@[simp] theorem unitsOf_qRead (d : Device) (q i : Nat) : unitsOf (d.qRead q i).2 = unitsOf d := by
  simp only [Device.qRead]
  split <;> simp only [unitsOf_bulkRead]

@[simp] theorem unitsOf_qShrink (q : Nat) : ∀ (f : Nat) (d : Device), unitsOf (d.qShrink q f) = unitsOf d := by
  intro f
  induction f with
  | zero => intro d; rfl
  | succ f ih =>
    intro d
    simp only [Device.qShrink]
    split
    · rfl
    · split
      · rfl
      · simp only [ih, unitsOf_put, unitsOf_qOcc]

@[simp] theorem unitsOf_qFree (d : Device) (q i : Nat) : unitsOf (d.qFree q i) = unitsOf d := by
  simp only [Device.qFree, unitsOf_qShrink, unitsOf_put, unitsOf_poke1]

@[simp] theorem unitsOf_tblEvent (d : Device) (i c b : Nat) : unitsOf (d.tblEvent i c b) = unitsOf d := unitsOf_q5 d _ _ _

/-! A unit's state read off `unitsOf`. -/

/-- A part of the block that `unitsOf` keeps is the same between blocks with the same units. -/
theorem sameUnits.part {α : Type} {d e : Device} (p : Device → α) (hp : ∀ x, p (unitsOf x) = p x) (h : sameUnits d e) : p e = p d := by
  rw [← hp e, ← hp d, show unitsOf e = unitsOf d from h]

theorem sameUnits.planners {d e : Device} (h : sameUnits d e) : e.planners = d.planners := h.part Device.planners fun _ => rfl
theorem sameUnits.live {d e : Device} (h : sameUnits d e) : e.live = d.live := h.part Device.live fun _ => rfl

/-! ### Registers that reporting leaves alone -/

theorem sameRegs.refl (d : Device) (A : Nat → Prop) : sameRegs d d A := fun _ _ => rfl

theorem sameRegs.trans {d e f : Device} {A : Nat → Prop} (h : sameRegs d e A) (g : sameRegs e f A) : sameRegs d f A :=
  fun a ha => (g a ha).trans (h a ha)

theorem sameRegs.mono {d e : Device} {A B : Nat → Prop} (h : sameRegs d e A) (hAB : ∀ a, A a → B a) : sameRegs d e B :=
  fun a ha => h a (fun x => ha (hAB a x))

theorem sameRegs.wr (d : Device) (b : Nat) (v : BitVec 32) (A : Nat → Prop) (h : A b) : sameRegs d (d.wr b v) A :=
  fun a ha => Device.rd_wr_other d b a v (fun e => ha (e ▸ h))

theorem sameRegs.put (d : Device) (f : Fld) (v : Nat) (A : Nat → Prop) (h : A f.addr) : sameRegs d (d.put f v) A :=
  sameRegs.wr d f.addr _ A h

theorem sameRegs.regs {d e : Device} (A : Nat → Prop) (h : e.regs = d.regs) : sameRegs d e A :=
  fun a _ => by simp only [Device.rd, h]

theorem Machine.Device.poke_regs (bs : List (BitVec 8)) : ∀ (d : Device) (a : Nat), (d.poke a bs).regs = d.regs := by
  induction bs with
  | nil => intro d a; rfl
  | cons b bs ih => intro d a; simp only [Device.poke]; rw [ih]; rfl

theorem sameRegs.qAdd (d : Device) (q kind src ref : Nat) (pl : List (BitVec 8)) (hq : q < 16) :
    sameRegs d (d.qAdd q kind src ref pl) queueReg := by
  intro a ha
  unfold queueReg at ha
  have h1 : a ≠ QU_PROD q := by simp only [QU_PROD]; omega
  have h2 : a ≠ QU_STATUS q := by simp only [QU_STATUS]; omega
  have h3 : a ≠ QU_SEQ q := by simp only [QU_SEQ]; omega
  have h4 : a ≠ QU_EVENT q := by simp only [QU_EVENT]; omega
  have hr : ∀ (e : Device) (x : Store Nat) (y : Store Nat), Device.rd { e with qOcc := x, qGap := y } a = e.rd a := fun _ _ _ => rfl
  have g1 : ∀ (e : Device) (v : Nat), (e.put (QU_PROD_INDEX q) v).rd a = e.rd a := fun e v => Device.rd_put_other e (QU_PROD_INDEX q) v a h1
  have g2 : ∀ (e : Device) (v : Nat), (e.put (QU_STATUS_FILL q) v).rd a = e.rd a := fun e v => Device.rd_put_other e (QU_STATUS_FILL q) v a h2
  have g3 : ∀ (e : Device) (v : Nat), (e.wrN (QU_SEQ q) v).rd a = e.rd a := fun e v => Device.rd_wr_other e (QU_SEQ q) a _ h3
  have g4 : ∀ (e : Device), (e.raise (QU_EVENT_FULL q)).rd a = e.rd a := fun e => Device.rd_put_other e (QU_EVENT_FULL q) 1 a h4
  have hp : ∀ (e : Device) (b : Nat) (bs : List (BitVec 8)), (e.poke b bs).rd a = e.rd a :=
    fun e b bs => by simp only [Device.rd, Device.poke_regs]
  simp only [Device.qAdd]
  split <;> split <;> simp only [g1, g2, g3, g4, hr, hp]

theorem sameRegs.qLose (d : Device) (q : Nat) (hq : q < 16) : sameRegs d (d.qLose q) queueReg := by
  intro a ha
  unfold queueReg at ha
  have h1 : a ≠ QU_LOST q := by simp only [QU_LOST]; omega
  have h4 : a ≠ QU_EVENT q := by simp only [QU_EVENT]; omega
  have hr : ∀ (e : Device) (y : Store Nat), Device.rd { e with qGap := y } a = e.rd a := fun _ _ => rfl
  have g1 : ∀ e : Device, (e.incSat (QU_LOST_COUNT q)).rd a = e.rd a := fun e => Device.rd_put_other e (QU_LOST_COUNT q) _ a h1
  have g4 : ∀ e : Device, (e.raise (QU_EVENT_LOST q)).rd a = e.rd a := fun e => Device.rd_put_other e (QU_EVENT_LOST q) 1 a h4
  simp only [Device.qLose, hr, g1, g4]

theorem sameRegs.qPut (d : Device) (q kind src ref : Nat) (pl : List (BitVec 8)) (hq : q < 16) :
    sameRegs d (d.qPut q kind src ref pl) queueReg := by
  unfold Device.qPut
  split
  · exact sameRegs.qLose d q hq
  · exact sameRegs.qAdd d q kind src ref pl hq

theorem sameRegs.q5 (d : Device) (kind ref : Nat) (pl : List (BitVec 8)) : sameRegs d (d.q5 kind pl ref) queueReg :=
  sameRegs.qPut d 5 kind 0 ref _ (by decide)

/-- A register outside the queues keeps its word when an event goes to Q5. -/
theorem Machine.Device.rd_q5 (d : Device) (kind ref : Nat) (pl : List (BitVec 8)) (a : Nat) (h : ¬ queueReg a) :
    (d.q5 kind pl ref).rd a = d.rd a := sameRegs.q5 d kind ref pl a h

/-- A field of a register outside the queues is unchanged by an event on Q5. -/
theorem Machine.Device.get_q5 (d : Device) (kind ref : Nat) (pl : List (BitVec 8)) (f : Fld) (h : ¬ queueReg f.addr) :
    (d.q5 kind pl ref).get f = d.get f := by simp only [Device.get, Device.rd_q5 _ _ _ _ _ h]

/-- Snapshot registers are the unit's own state. -/
theorem sameUnits.liveGet {d e : Device} (h : sameUnits d e) (f : Fld) : e.liveGet f = d.liveGet f := by
  simp only [Device.liveGet, sameUnits.live h]

@[simp] theorem Machine.Device.rd_msg (d : Device) (c i k x : Nat) (j r : Bool) (a : Nat) : (d.msg c i k x j r).rd a = d.rd a := rfl
@[simp] theorem Machine.Device.get_msg (d : Device) (c i k x : Nat) (j r : Bool) (f : Fld) : (d.msg c i k x j r).get f = d.get f := rfl
@[simp] theorem Machine.Device.rd_note (d : Device) (k i : Nat) (x : Int) (a : Nat) : (d.note k i x).rd a = d.rd a := rfl
@[simp] theorem Machine.Device.get_note (d : Device) (k i : Nat) (x : Int) (f : Fld) : (d.note k i x).get f = d.get f := rfl
@[simp] theorem Machine.Device.rd_still (d : Device) (g : Device → Device) (a : Nat) : (d.still g).rd a = (g d).rd a := rfl
@[simp] theorem Machine.Device.get_still (d : Device) (g : Device → Device) (f : Fld) : (d.still g).get f = (g d).get f := rfl
@[simp] theorem Machine.Device.liveGet_still (d : Device) (g : Device → Device) (f : Fld) : (d.still g).liveGet f = (g d).liveGet f := rfl

/-- A command that `onDev` gates completes with its effect where no reset holds the device. -/
theorem leads_onDev (c : Instr) (s : State) (f : Device → Device) (P : Device → Prop) (hc : exec c s = .next (s.onDev f))
    (h : s.dev.inReset = false) (hP : P (s.dev.still f)) : leads c s P :=
  ⟨_, hc, State.onDev_pending s f, State.onDev_clk s f, by rw [State.onDev_run s f h]; exact hP⟩

end Sys2Proof
end

