-- ==== Sys2Proof/Tests/Slice0.lean ====
section
/-! SUPPORT. Our own tests: the ill-formed terms that each check of WellFormed refuses, what single commands do on small states
(expected values from the rules named), and for each statement with hypotheses states that meet them. -/

open Sys2Proof
open Sys2Proof.Machine

namespace Sys2Proof.Tests

set_option Elab.async false

/-- The state after reset with the block changed. -/
def made (f : Device → Device) : State := { State.reset with dev := f State.reset.dev }

/-- The block after a command that answers a next state; the block of reset otherwise. -/
def after (c : Instr) (s : State) : Device :=
  match exec c s with
  | .next t => t.dev
  | .fault _ => {}
  | .refused _ => {}

/-! ### Well-formed terms -/

theorem test_wf_session_refused : (Instr.writeBlock 0 0 0 0x10000 [1]).wf = false ∧ sessionOk (.writeBlock 0 0 0 0x10000 [1]) = false := by decide
theorem test_wf_length_refused : (Instr.echoFrame 0 [] 0).wf = false ∧ lengthOk (.echoFrame 0 [] 0) = false := by decide
theorem test_wf_code_refused : (Instr.flashOpDone 0 1 0).wf = false ∧ codeOk (.flashOpDone 0 1 0) = false := by decide
theorem test_wf_word_refused : (Instr.add 0 1 2 3 0xFFFFF 0).wf = false ∧ wordOk (.add 0 1 2 3 0xFFFFF 0) = false := by decide
theorem test_wf_accepts : (Instr.add 0 1 2 3 0 0).wf = true ∧ (Instr.echoFrame 0 [1] 0).wf = true ∧ (Instr.flashOpDone 0 2 0).wf = true := by decide

/-- The table gives no row bits. -/
theorem test_decode_none : decodeTableWord 32 0 = none := by decide

/-! ### Hypotheses that can be met: the machine, the beat, power and start-up -/

/-- The scheduler runs at a tick of the present beat. -/
def ticking (t : Nat) (d : Device) : Device := { d with clk := { d.clk with running := true, tick := t } }

theorem witness_EmptyQueuePassesOneTick :
    let held := made fun d => { d with pkg := { d.pkg with porHold := true } }
    let last := made (ticking 1599)
    held.pending = [] ∧ held.dev.inReset = true ∧
    last.pending = [] ∧ last.dev.inReset = false ∧ last.dev.clk.running = true ∧ last.dev.clk.curLen ≤ last.dev.clk.tick + 1 ∧
    State.reset.pending = [] ∧ State.reset.dev.inReset = false ∧ ¬ (State.reset.dev.clk.running = true) ∧
    ¬ ((made (ticking 1598)).dev.clk.curLen ≤ (made (ticking 1598)).dev.clk.tick + 1) := by decide

theorem witness_EveryStepKeepsTheClockInOrder :
    let s := made (ticking 1598)
    Claims.clockOk s.dev.clk ∧ ∃ t, step s = .next t := ⟨by unfold Claims.clockOk; decide, _, rfl⟩

theorem witness_TimeNeverGoesBack :
    let s := made (ticking 0)
    s.dev.clk.running = true ∧ ∃ t, step s = .next t := ⟨rfl, _, rfl⟩

theorem witness_SettingsPassExactlyTheirChecks :
    let d := (made (ticking 0)).dev
    d.clk.running = true ∧ d.settingsCode 1600 800 1550 = 1 ∧ d.settingsCode 6400 800 1550 = 1 ∧ d.settingsCode 1601 800 1550 ≠ 1 ∧
    d.settingsCode 1600 800 1551 ≠ 1 := by decide

theorem witness_CommitTakesEffectAtTheBoundary :
    let d := (made fun d => (ticking 0 d).put TB_STATUS_COMMIT_PEND 1).dev
    let e := d.put TB_BEAT_LEN_LEN 1601
    State.reset.dev.has TB_STATUS_COMMIT_PEND = false ∧ d.has TB_STATUS_COMMIT_PEND = true ∧ d.injPending 1 0xFF 2 = false ∧
    (d.put TB_STATUS_COMMIT_PEND 0).settingsCode 1600 (d.get TB_PHASE_LATCH) (d.get TB_PHASE_DEADLINE) = 1 ∧
    e.injPending 1 0xFF 2 = false ∧ (e.put TB_STATUS_COMMIT_PEND 0).settingsCode 1601 (e.get TB_PHASE_LATCH) (e.get TB_PHASE_DEADLINE) ≠ 1 := by
  decide

theorem witness_BoundaryBeginsAnAlignedBeat :
    let d := (made (ticking 0)).dev
    let s := made (ticking 1599)
    Claims.clockOk d.clk ∧ d.clk.tick = 0 ∧ (d.alignBoundary 0).has TB_STATUS_TRIMMING = false ∧
    s.dev.inReset = false ∧ Claims.clockOk s.dev.clk ∧ s.dev.clk.running = true ∧
    Claims.clockOk State.reset.dev.clk ∧ State.reset.dev.clk.running = false := by
  unfold Claims.clockOk; decide

theorem witness_LatchAndDeadlineOfABeat :
    let s := made (ticking 0)
    let late := made fun d => { ticking 801 d with clk := { (ticking 801 d).clk with latched := true } }
    let done := made fun d => { ticking 1551 d with clk := { (ticking 1551 d).clk with latched := true, closed := true } }
    s.dev.inReset = false ∧ s.dev.clk.running = true ∧ s.dev.clk.latched = false ∧ s.dev.clk.closed = false ∧
    s.dev.clk.latch ≤ s.dev.clk.deadline ∧
    late.dev.inReset = false ∧ late.dev.clk.running = true ∧ late.dev.clk.latched = true ∧ late.dev.clk.closed = false ∧
    done.dev.inReset = false ∧ done.dev.clk.latched = true ∧ done.dev.clk.closed = true ∧ State.reset.dev.clk.running = false := by decide

theorem witness_OverrunsAndBeatCommands :
    let s := State.reset
    let v := made fun d => { ticking 5 d with clk := { (ticking 5 d).clk with now := 200000000 } }
    (65535 : Nat) < 65536 ∧ s.dev.inReset = false ∧
    (s.dev.longestF + 40 ≤ s.dev.clk.latch ∧ s.dev.clk.latch + 40 + 15 ≤ s.dev.clk.len ∧
      s.dev.longestF + 40 < s.dev.clk.deadline ∧ s.dev.clk.deadline + 48 + 2 ≤ s.dev.clk.len) ∧
    ¬ (s.dev.clk.deadline + 48 + 3 ≤ s.dev.clk.len) ∧
    v.dev.inReset = false ∧ v.dev.clk.running = true ∧ v.dev.slackEnd.isSome = true := by decide

theorem witness_ResetsAndWhatTheyHold :
    let held := made fun d => { d with pkg := { d.pkg with porHold := true } }
    let test := made fun d => { d with pkg := { d.pkg with testEn := true } }
    test.dev.pkg.testEn = true ∧ test.dev.inReset = true ∧ held.dev.pkg.porHold = true ∧ held.dev.inReset = true ∧ State.reset.dev.pkg.porHold = false ∧ State.reset.dev.inReset = false ∧
    (1 : Fin 36).val ≤ 5 ∧ (5 : Fin 36).val ≤ 5 ∧ 5 < (6 : Fin 36).val ∧ (0 : Fin 36).val = 0 ∧
    (0xB0070001 : BitVec 32).toNat / 65536 = 0xB007 ∧ (0xB0070001 : BitVec 32).toNat % 2 = 1 ∧
    (0xB0070000 : BitVec 32).toNat / 65536 = 0xB007 ∧ (0xB0070000 : BitVec 32).toNat % 2 = 0 ∧
    (0xB0080001 : BitVec 32).toNat / 65536 ≠ 0xB007 := by decide

theorem witness_RegisterWritesByAccessPath :
    State.reset.dev.inReset = false ∧ (0xFFFFFC : BitVec 32).toNat % 4 = 0 ∧ (0xFFFFFC : BitVec 32).toNat < 0x1000000 ∧
    regRow (0xFFFFFC : BitVec 32).toNat = none ∧ (0 : Fin 36).val = 0 ∧ (35 : Fin 36).val ≠ 0 ∧
    (BitVec.ofNat 32 bulkBase).toNat % 4 = 0 ∧ bulkBase ≤ (BitVec.ofNat 32 bulkBase).toNat ∧ (BitVec.ofNat 32 bulkBase).toNat < bulkEnd ∧
    (BitVec.ofNat 32 (bulkEnd - 4)).toNat % 4 = 0 ∧ bulkBase ≤ (BitVec.ofNat 32 (bulkEnd - 4)).toNat ∧
    (BitVec.ofNat 32 (bulkEnd - 4)).toNat < bulkEnd := by decide

/-- A manifest header of length 136 with a GEN at the start of both flash ports, ready for the loader. -/
def headers (g0 g1 : Nat) (d : Device) : Device :=
  let h := fun (g : Nat) => leBytes 0x4D445343 4 ++ leBytes 1 4 ++ leBytes g 4 ++ leBytes 136 4
  { (d.flProgram 0 0 (h g0)).flProgram 1 0 (h g1) with clk := { d.clk with now := 10000 } }

theorem witness_LoaderChecksTheCopies :
    let blank := made fun d => { d with clk := { d.clk with now := 10000 } }
    let s := made (headers 1 2)
    let r := made (headers 7 7)
    let c := made fun d => { d with boot := { d.boot with checking := some 1 } }
    State.reset.dev.inReset = false ∧ State.reset.dev.clk.now < 10000 ∧
    blank.dev.inReset = false ∧ blank.dev.boot.started = false ∧ blank.dev.clk.running = false ∧ 10000 ≤ blank.dev.clk.now ∧
    (blank.dev.fl 0).fenced = false ∧ (blank.dev.fl 1).fenced = false ∧
    mfHeaderOk (blank.dev.mfHeader 0) = false ∧ mfHeaderOk (blank.dev.mfHeader 1) = false ∧
    s.dev.boot.started = false ∧ s.dev.clk.running = false ∧ 10000 ≤ s.dev.clk.now ∧ (s.dev.fl 0).fenced = false ∧
    (s.dev.fl 1).fenced = false ∧ mfHeaderOk (s.dev.mfHeader 0) = true ∧ mfHeaderOk (s.dev.mfHeader 1) = true ∧
    mfGen (s.dev.mfHeader 0) < mfGen (s.dev.mfHeader 1) ∧ mfHeaderOk (r.dev.mfHeader 0) = true ∧ mfHeaderOk (r.dev.mfHeader 1) = true ∧
    ¬ mfGen (r.dev.mfHeader 0) < mfGen (r.dev.mfHeader 1) ∧
    c.dev.inReset = false ∧ c.dev.boot.checking = some 1 ∧ c.dev.clk.running = false ∧ (c.dev.mfCheck 1 false).code ≠ 1 ∧
    (1 : Nat) < 2 ∧ (255 : Nat) < 256 ∧ c.dev.boot.todo = [] := by decide +kernel

theorem witness_LoaderSequenceEndsWithTheScheduler :
    let f := made fun d => { d with boot := { d.boot with filling := true } }
    let b := made fun d => ({ d with boot := { d.boot with booted := some 0 } }.put XS_BOOT_STEP 5)
    let all := made fun d => (List.range 28).foldl (fun d e => d.put (DV_STATUS_ROLE e) rlACTIVE) (({ d with boot := { d.boot with booted := some 0 } }).put XS_BOOT_STEP 5)
    let test := made fun d => d.put (DV_STATUS_ROLE 27) rlSELFTEST
    let six := made fun d => d.put XS_BOOT_STEP 6
    f.dev.inReset = false ∧ f.dev.boot.filling = true ∧ f.dev.ledger.waiting = [] ∧ bulkBase ≤ bulkEnd - 1 ∧ bulkEnd - 1 < bulkEnd ∧
    b.dev.inReset = false ∧ b.dev.boot.filling = false ∧
    all.dev.inReset = false ∧ all.dev.boot.booted.isSome = true ∧ all.dev.get XS_BOOT_STEP = 5 ∧
    (∀ e < 28, all.dev.role e ≠ 0 ∧ all.dev.role e ≠ rlSELFTEST) ∧
    test.dev.inReset = false ∧ test.dev.role 27 = rlSELFTEST ∧
    six.dev.inReset = false ∧ six.dev.clk.running = false ∧ six.dev.get XS_BOOT_STEP = 6 ∧ b.dev.get XS_BOOT_STEP ≠ 6 := by decide +kernel

/-! ### Hypotheses that can be met: the planner -/

/-- The planner of an axis in a state, with limits, and what `f` sets. -/
def planner (k st : Nat) (f : Planner → Planner) (d : Device) : Device :=
  let l : Limits := { vmax := 6000, amax := 60, dmax := 60, jmax := 6, qdec := 60, qjrk := some 6, smin := -600, smax := 600 }
  (d.setPl k fun p => f { p with lim := l }).setPlState k st

theorem witness_PlannerMovesHoldsAndStops :
    let at_ := fun st => made (planner 191 st id)
    let lim0 := made (planner 191 plIDLE fun p => { p with lim := {} })
    let soft := made fun d => (planner 191 plHELD id d).put (AX_PL_CTRL_SOFT_EN 191) 1
    let quick := made (planner 191 plSTOPPING fun p => { p with stop := 2 })
    let long := made (planner 191 plIDLE fun p => { p with lim := { p.lim with vmax := 1 } })
    let fast := made (planner 191 plMOVING fun p => { p with next := { p3 := 0, v := 2 ^ 60, a := 0 } })
    (∀ st ∈ [plOFF, plIDLE, plMOVING, plJOGGING, plHOLDING, plHELD, plSTOPPING, plFOLLOWING, plDISABLING],
      (at_ st).dev.inReset = false ∧ (at_ st).dev.plHist 191 = [] ∧ (at_ st).dev.plState 191 = st ∧
      ((at_ st).dev.pl 191).lim.zero = false ∧ ((at_ st).dev.pl 191).stop ≠ 2) ∧
    (lim0.dev.plState 191 = plIDLE ∧ (lim0.dev.pl 191).lim.zero = true) ∧
    (soft.dev.plState 191 = plHELD ∧ soft.dev.has (AX_PL_CTRL_SOFT_EN 191) = true ∧ (soft.dev.pl 191).lim.smax ≤ 600 ∧
      (soft.dev.pl 191).lim.smin ≤ posIn 200 ∧ posIn 0 ≤ (soft.dev.pl 191).lim.smax ∧ ¬ posIn 70000 ≤ (soft.dev.pl 191).lim.smax) ∧
    (quick.dev.plState 191 = plSTOPPING ∧ (quick.dev.pl 191).stop = 2) ∧
    ¬ Claims.tooLong (at_ plIDLE).dev 191 (Claims.moved 1 600 0) ∧ ¬ Claims.tooLong (at_ plHELD).dev 191 (fun p => { p with stop := 0 }) ∧
    ¬ Claims.tooLong (at_ plMOVING).dev 191 (Claims.moved 2 0 60) ∧ (∀ n < 4, ¬ Claims.tooLong (at_ plMOVING).dev 191 (fun p => { p with stop := n })) ∧
    (∀ n < 3, ¬ Claims.tooLong (at_ plSTOPPING).dev 191 (fun p => { p with stop := n, mode := 0 })) ∧
    (∀ n < 3, Claims.tooLong fast.dev 191 (fun p => { p with stop := n + 1, mode := 0 })) ∧ Claims.tooLong fast.dev 191 (fun p => { p with stop := 3 }) ∧
    Claims.tooLong fast.dev 191 (fun p => { p with stop := 0 }) ∧ Claims.tooLong long.dev 191 (Claims.moved 1 (6 * 2 ^ 41) 0) := by
  unfold Claims.tooLong; decide +kernel

theorem witness_LimitsShiftAndDepth :
    let at_ := fun st => made (planner 0 st id)
    let neg := made fun d => (planner 0 plIDLE id d).wrN (AX_PL_VMAX 0 + 4) 0x80000000
    let shadow := fun st => made fun d => ((((planner 0 st id d).wrN (AX_PL_VMAX 0 + 4) 1).wrN (AX_PL_AMAX 0 + 4) 1).wrN
      (AX_PL_DMAX 0 + 4) 1).wrN (AX_PL_JMAX 0 + 4) 1
    let fastAhead := fun (p : Planner) => { p with mode := 1, target := 60 * 2 ^ 60, next := { p3 := 0, v := 2 ^ 60, a := 0 } }
    let wide : Limits := { vmax := 2 ^ 61, amax := 2 ^ 58, dmax := 2 ^ 58, jmax := 2 ^ 58 }
    let crossing := fun (n : Nat) => made fun d => (((((planner 0 plMOVING fastAhead d).setPl 0 fun p => { p with lim := wide }).wrN
      (AX_PL_VMAX 0 + 4) 1).wrN (AX_PL_AMAX 0 + 4) 1).wrN (AX_PL_DMAX 0 + 4) 1).wrN (AX_PL_JMAX 0 + 4) 1 |>.put (AX_PL_CTRL_NO_OVERSHOOT 0) n
    (∀ st ∈ [plOFF, plIDLE, plMOVING, plJOGGING, plHOLDING, plHELD, plSTOPPING, plFOLLOWING, plDISABLING],
      (at_ st).dev.inReset = false ∧ (at_ st).dev.plHist 0 = [] ∧ (at_ st).dev.plState 0 = st) ∧
    (∀ n < 2, (crossing n).dev.inReset = false ∧ (crossing n).dev.plHist 0 = [] ∧ (crossing n).dev.plState 0 = plMOVING ∧
      (crossing n).dev.get (AX_PL_CTRL_NO_OVERSHOOT 0) = n ∧ ∃ l, (crossing n).dev.plShadow 0 = some l ∧ l.zero = false ∧
      ((crossing n).dev.pl 0).overshoots (((crossing n).dev.pl 0).start (crossing n).dev.clk.beat) l = true ∧
      ¬ Claims.tooLong (crossing n).dev 0 (fun p =>
        if n = 1 then { p with lim := { l with dmax := max l.dmax p.lim.dmax, jmax := max l.jmax p.lim.jmax }, defer := some (l.dmax, l.jmax) }
        else { p with lim := l, defer := none })) ∧
    neg.dev.plState 0 ≠ plDISABLING ∧ neg.dev.plShadow 0 = none ∧
    (∃ l, (at_ plMOVING).dev.plShadow 0 = some l ∧ l.zero = true) ∧
    (∀ st ∈ [plJOGGING, plHOLDING, plSTOPPING], (shadow st).dev.plState 0 = st ∧ ∃ l, (shadow st).dev.plShadow 0 = some l ∧
      l.zero = false ∧ ¬ Claims.tooLong (shadow st).dev 0 (fun p => { p with lim := l, defer := none })) ∧
    (at_ plIDLE).dev.rdS64 (AX_PL_TARGET 0) % 2 ^ 16 = 0 ∧
    ((at_ plHELD).dev.wrN (AX_PL_TARGET 0) 0xFFFF).rdS64 (AX_PL_TARGET 0) % 2 ^ 16 ≠ 0 ∧
    (0x80000001 : BitVec 32).toNat % 128 = 1 ∧ (64 : BitVec 32).toNat % 128 = 64 ∧ 64 < (65 : BitVec 32).toNat % 128 ∧
    (128 : BitVec 32).toNat % 128 = 0 := by
  unfold Claims.tooLong
  refine ⟨by decide, ?_, by decide, by decide, ⟨_, rfl, by decide⟩, ?_, by decide, by decide, by decide, by decide, by decide, by decide⟩
  · intro n h
    interval_cases n <;> exact ⟨by decide, by decide, by decide, by decide, _, rfl, by decide +kernel, by decide +kernel, by decide +kernel⟩
  · intro st h
    fin_cases h <;> exact ⟨by decide, _, rfl, by decide, by decide +kernel⟩

/-! ### Hypotheses that can be met: the engines -/

/-- Engine `e` ACTIVE in the stock image, in a program, with what `f` sets of it. -/
def active (e : Nat) (f : Engine → Engine) (d : Device) : Device :=
  ((d.setEng e fun s => f { s with running := true }).put (DV_STATUS_ROLE e) rlACTIVE)

/-- `Claims.sound` as a computation. -/
def soundB (d : Device) (e : Nat) : Bool :=
  decide ((d.eng e).perr = []) && decide ((d.eng e).derr = []) && (List.range 6).all (fun k => !d.injPending 10 e k) &&
    !d.injPending 2 e 1 && !d.injPending 2 e 2 && !d.injPending 3 e 4

theorem sound_iff (d : Device) (e : Nat) : Claims.sound d e ↔ soundB d e = true := by
  simp [Claims.sound, soundB, and_assoc]

/-- `Claims.issues` as a computation. -/
def issuesB (d : Device) (e : Nat) (w : BitVec 64) : Bool :=
  soundB d e && d.engLive e && !d.eventDue e && d.fetches e w && decide ((d.engLand e).haltCode e w = 0) && (d.engLand e).engCan e w

theorem issues_iff (d : Device) (e : Nat) (w : BitVec 64) : Claims.issues d e w ↔ issuesB d e w = true := by
  simp [Claims.issues, issuesB, sound_iff, and_assoc]

/-- The word `w` stands where engine `e` fetches its next one. -/
def placed (e : Nat) (w : BitVec 64) (d : Device) : Device :=
  d.setEng e fun x => { x with prog := Store.set (fun _ => 0) x.prog x.pc w }

/-- In the state with the word where it is fetched, the word issues, and no branch waits. -/
def canIssue (s : BitVec 64 → State) (e : Nat) (w : BitVec 64) : Prop :=
  (s w).dev.inReset = false ∧ Claims.issues (s w).dev e w ∧ (Claims.atIssue (s w).dev e).branch = none

theorem witness_AluAndNarrowingResults :
    let s := fun w => made fun d => placed 27 w (active 27 id d)
    let full := fun w => made fun d => placed 27 w (active 27 (fun x => { x with g := Store.set (fun _ => 0) [] 31 48 }) d)
    let nrwr := wordOf 0 (nrwSlot 18 31 3 31 3) 0
    (∀ op < 15, canIssue s 27 (wordOf 0 (aluSlot (op + 1) (if op = 14 then 0 else 31) 31 (if op = 13 then 0 else 31)) 0)) ∧
    canIssue s 27 (wordOf 0 (addiSlot 31 1023) 0) ∧ canIssue s 27 (wordOf 0 (nrwSlot 17 31 3 63 2) 0) ∧
    canIssue full 27 nrwr ∧ 47 < (Claims.reg (full nrwr) 27 31).toNat % 64 ∧ 47 < (48 : Fin 64).val ∧
    canIssue s 27 (wordOf (macSlot 1 3 31 30 1 1) (aluSlot 1 31 30 29) (ldiSlot 5 16383)) := by
  simp only [canIssue, issues_iff]; decide +kernel

theorem witness_ControlFlowOfABeatProgram :
    let s := fun w => made fun d => placed 0 w (active 0 id d)
    let h := fun w => made fun d => placed 0 w (active 0 (fun x => { x with bank := 1 }) d)
    let r := fun w => made fun d => placed 0 w ((active 0 (fun x => { x with ready := 0x80 }) d).wrN (DV_SLOT_B 0) 0x00FFFFFF)
    let w := fun w => made fun d => placed 0 w ((active 0 id d).wrN (DV_SLOT_A 0) 0xFFFFFF00)
    let waits := wordOf 0 (aluSlot 26 31 0 0) 0
    (∀ op ∈ [19, 20, 21, 22, 23, 24], canIssue s 0 (wordOf 0 (tgtSlot op 16383) 0)) ∧
    canIssue s 0 (wordOf 0 (lowSlot 25 0) 0) ∧ canIssue h 0 (wordOf 0 (lowSlot 28 0) 0) ∧
    canIssue s 0 waits ∧ ((s waits).dev.engLand 0).waitable 0 = 0 ∧
    canIssue r 0 waits ∧ bit (((r waits).dev.engLand 0).waitable 0) 7 = true ∧
    (∀ i < 7, bit (((r waits).dev.engLand 0).waitable 0) i = false) ∧
    ((w waits).dev.inReset = false ∧ Claims.sound (w waits).dev 0 ∧ (w waits).dev.engLive 0 = true ∧ (w waits).dev.eventDue 0 = false ∧
      (w waits).dev.fetches 0 waits = true ∧ ((w waits).dev.engLand 0).haltCode 0 waits = 0 ∧
      ((w waits).dev.engLand 0).engCan 0 waits = false) ∧
    canIssue s 0 (wordOf 0 (lowSlot 29 1) 0) ∧ canIssue s 0 (wordOf 0 (lowSlot 30 15) 0) ∧ canIssue s 0 0 ∧
    canIssue s 0 (wordOf (macSlot 0 3 31 31 1 1) 0 0) ∧ canIssue s 0 (wordOf 0 (lowSlot 27 0) 0) := by
  simp only [canIssue, issues_iff, sound_iff]; decide +kernel

theorem witness_MacSlotAccumulates :
    let s := fun w => made fun d => placed 1 w (active 1 id d)
    (∀ op < 8, canIssue s 1 (wordOf (macSlot (op + 1) 3 31 31 1 1) 0 0)) ∧
    canIssue s 1 (wordOf (macSlot 1 0 0 0 0 0) (aluSlot 1 31 30 29) (ldiSlot 5 16383)) := by
  simp only [canIssue, issues_iff]; decide +kernel

theorem witness_LoadsStoresAndRegisterMoves :
    let s := fun w => made fun d => placed 27 w (active 27 id d)
    (∀ op < 6, canIssue s 27 (wordOf 0 0 (ldSlot (op + 1) 31 7 255))) ∧
    canIssue s 27 (wordOf 0 (aluSlot 1 1 1 1) (ldSlot 6 31 7 128)) ∧ aluOp (aluSlot 1 1 1 1) ≠ 27 ∧
    canIssue s 27 (wordOf 0 0 (ldxySlot 7 7 7 7 7 7)) ∧ canIssue s 27 (wordOf 0 0 (ldiSlot 31 16383)) ∧
    (∀ cl < 3, canIssue s 27 (wordOf 0 0 (mvaSlot cl 7 31)) ∧ canIssue s 27 (wordOf 0 0 (mvgSlot 31 cl 7))) := by
  simp only [canIssue, issues_iff]; decide +kernel

theorem witness_UnitOperationsOfTheMoveSlot :
    let g7 := fun (x : Engine) => { x with g := Store.set (fun _ => 0) [] 31 7 }
    let s := fun w => made fun d => placed 0 w (((active 0 g7 d).wrN (DV_SLOT_B 0) 0xBFFFFFFF).put (CV_ENG_STATE_IMAGE 0) 3)
    let own := fun w => made fun d => placed 0 w (({ (active 0 id d) with clk := { d.clk with running := true } }.put (AX_CTRL_VARIANT 191) 7).wrN
      (DV_SLOT_A 0) 0xFFFFFFBF)
    let full := fun w => made fun d => placed 0 w ({ (active 0 id d) with qOcc := Store.set (fun _ => 0) [] 15 4096 })
    let b := fun w => made fun d => placed 0 w (active 0 (fun x => { x with bulk := some { load := true, mem := [0], dev := bulkBase, data := [] } }) d)
    let bulkArgs := fun w => made fun d => placed 0 w (active 0 (fun x => { x with g := Store.set (fun _ => 0) (Store.set (fun _ => 0) [] 1 (BitVec.ofNat 32 bulkBase)) 2 1 }) d)
    let ledg := fun w => made fun d => placed 0 w (active 0 (fun x => { x with g := Store.set (fun _ => 0) [] 31 0x20001000 }) d)
    let bsync := wordOf 0 0 (srcSlot 16 0)
    let stage := wordOf 0 0 (srcSlot 11 31)
    let stage0 := wordOf 0 0 (srcSlot 11 0)
    let send := wordOf 0 0 (srcSlot 17 31)
    let mbxs := wordOf 0 0 (srcSlot 18 0)
    canIssue s 0 stage ∧ (s stage).dev.slotAxis 0 7 = 191 ∧ (Claims.reg (s stage) 0 31).toNat % 8 = 7 ∧
    bit (Claims.atIssue (s stage).dev 0).staged 7 = false ∧ bit (Claims.atIssue (s stage).dev 0).carry 7 = false ∧
    (s stage).dev.engImage 0 ≠ 0 ∧ aluOp 0 ≠ 27 ∧
    canIssue own 0 stage0 ∧ (own stage0).dev.slotAxis 0 0 = 191 ∧ 3 < (own stage0).dev.variant 191 ∧
    (Claims.atIssue (own stage0).dev 0).beatOf = (own stage0).dev.clk.beat ∧ (own stage0).dev.clk.tick < (own stage0).dev.clk.deadline ∧
    (∀ op ∈ [12, 13, 17], canIssue s 0 (wordOf 0 0 (srcSlot op 31))) ∧
    canIssue s 0 mbxs ∧ (s mbxs).dev.qFull 15 = false ∧ canIssue full 0 mbxs ∧ (full mbxs).dev.qFull 15 = true ∧
    canIssue bulkArgs 0 (wordOf 0 0 (bulkSlot 14 7 1 2)) ∧ canIssue bulkArgs 0 (wordOf 0 0 (bulkSlot 15 7 1 2)) ∧
    canIssue s 0 bsync ∧
    ((b bsync).dev.inReset = false ∧ Claims.sound (b bsync).dev 0 ∧ (b bsync).dev.engLive 0 = true ∧ (b bsync).dev.eventDue 0 = false ∧
      (b bsync).dev.fetches 0 bsync = true ∧ ((b bsync).dev.engLand 0).haltCode 0 bsync = 0 ∧
      (Claims.atIssue (b bsync).dev 0).bulk.isSome = true) ∧
    canIssue ledg 0 send ∧ bits (Claims.reg (ledg send) 0 31).toNat 12 8 = 1 ∧ 1 ≤ lgKinds (bits (Claims.reg (ledg send) 0 31).toNat 28 4) ∧
    canIssue s 0 send ∧ ¬ 1 ≤ bits (Claims.reg (s send) 0 31).toNat 12 8 := by
  simp only [canIssue, issues_iff, sound_iff]; decide +kernel

theorem witness_EventsTransfersAndHalts :
    let ev := made fun d => ((active 27 id d).put (DV_EV_PEND 27) 4)
    let b := made (active 27 fun x => { x with bulk := some { load := true, mem := [16383], dev := bulkEnd - 4, data := [] } })
    let ck := made (active 27 fun x => { x with ckpts := [⟨0, 0, 0, [], false, 0, 0⟩] })
    let all := fun (d : Device) => d.setFb 191 fun u => { u with pri := { u.pri with evaluated := true }, sec := { u.sec with evaluated := true } }
    let fb := made fun d => (all (active 27 id d)).wrN (DV_SLOT_B 27) 0xBFFFFFFF
    let bad := wordOf 0 (lowSlot 31 0) 0
    let ill := made fun d => placed 27 bad (active 27 id d)
    ev.dev.inReset = false ∧ (active 27 id ev.dev).eventDue 26 = false ∧ ev.dev.role 27 = rlACTIVE ∧ ev.dev.get (DV_STATUS_EXEC 27) ≠ exHALTED ∧
    ev.dev.eventDue 27 = true ∧ bit (ev.dev.get (DV_EV_PEND 27)) 2 = true ∧ (∀ j < 2, bit (ev.dev.get (DV_EV_PEND 27)) j = false) ∧
    Claims.sound ev.dev 27 ∧ (ev.dev.eng 27).prog.pick 0 16 = 0 ∧ (ev.dev.eng 27).prog.pick 0 16 ≠ 1 ∧
    (ev.dev.eng 27).bulk = none ∧ (Claims.sound b.dev 27 ∧ (b.dev.eng 27).waiting = none ∧ bulkBase ≤ bulkEnd - 4 ∧ (bulkEnd - 4) % 4 = 0 ∧
      (∀ i < 4, (b.dev.peek1 (bulkEnd - 4 + i)).2 = 0) ∧ (∀ c < 16, ∀ k < 6, b.dev.injPending 10 (0x40 + c) k = false)) ∧
    (ev.dev.eng 27).ckpts = [] ∧ (ck.dev.eng 27).ckpts = [⟨0, 0, 0, [], false, 0, 0⟩] ∧
    ev.dev.axisChannels 191 = [] ∧ ev.dev.fbComplete 191 = false ∧
    (fb.dev.axisChannels 191 = [] ∧ fb.dev.fbComplete 191 = true ∧ fb.dev.slotOf 191 = some (27, 7) ∧ fb.dev.role 27 = rlACTIVE ∧ (fb.dev.eng 27).waiting = none ∧ fb.dev.inReset = false) ∧
    wordLegal 0 = true ∧ wordLegal bad = false ∧ ill.dev.inReset = false ∧ Claims.sound ill.dev 27 ∧ ill.dev.engLive 27 = true ∧ ill.dev.eventDue 27 = false ∧
    ill.dev.fetches 27 bad = true := by
  simp only [sound_iff]; decide +kernel

/-! ### Hypotheses that can be met: enabling, convoys, pairs and generators -/

/-- Axis `k` in a STATE, with what `f` sets of its control. -/
def axisIn (k st : Nat) (f : AxisCtl → AxisCtl) (d : Device) : Device := (d.setAx k f).setAxState k st

/-- Axis 191 ready to be enabled, if it is in OFF: variant 7 with a valid source, in slot 7 of engine 27. -/
def ready191 (d : Device) : Device :=
  ((d.put (AX_CTRL_VARIANT 191) 7).livePut (AX_FB_STATUS_PRI_VALID 191) 1).wrN (DV_SLOT_B 27) 0xBFFFFFFF

theorem witness_EnableAndDisableRequests :
    let off := made ready191
    let run := made fun d => (axisIn 191 axRUN id d).setPlState 191 plIDLE
    let pend := made (axisIn 191 axOFF fun x => { x with enPend := some 0 })
    let pair := made fun d => (axisIn 0 axRUN id (axisIn 191 axRUN id d)).wrN (GL_GP_CTRL 15) 0x100BF
    (∀ st ∈ [axENABLING, axRUN, axDISABLING, axRIDE, axOFF], (made (axisIn 191 st id)).dev.inReset = false ∧
      (made (axisIn 191 st id)).dev.axState 191 = st ∧ ((made (axisIn 191 st id)).dev.ax 191).enPend = none ∧
      (made (axisIn 191 st id)).dev.plHist 191 = [] ∧ (made (axisIn 191 st id)).dev.pairOf 191 = [191] ∧ (made (axisIn 191 st id)).dev.cyOf 191 = none) ∧
    off.dev.inReset = false ∧ off.dev.axState 191 = axOFF ∧ off.dev.enableCode 191 = 0 ∧ State.reset.dev.enableCode 191 ≠ 0 ∧
    run.dev.inReset = false ∧ run.dev.axState 191 = axRUN ∧ run.dev.plState 191 ≠ plOFF ∧ run.dev.plHist 191 = [] ∧
    pend.dev.inReset = false ∧ pend.dev.pairOf 191 = [191] ∧ (pend.dev.ax 191).enPend.isSome = true ∧
    pair.dev.inReset = false ∧ (pair.dev.ax 0).enPend = none ∧ pair.dev.pairOf 0 = [191, 0] ∧
    (∀ a ∈ pair.dev.pairOf 0, a < 192 ∧ pair.dev.axState a = axRUN ∧ pair.dev.cyOf a = none) := by decide +kernel

theorem witness_AxisTimedStepsAndParameters :
    let rel := made (axisIn 191 axENABLING fun x => { x with relAt := some 0 })
    let relC := made fun d => (axisIn 191 axENABLING (fun x => { x with relAt := some 0 }) d).put (AX_CTRL_COMM_MODE 191) 1
    let soon := made (axisIn 191 axENABLING fun x => { x with relAt := some 1, alignAt := some 1 })
    let stop_ := made fun d => { axisIn 191 axENABLING (fun x => { x with alignAt := some 0 }) d with clk := { d.clk with beat := 70000 } }
    let rest := fun (n : Nat) => made fun d => { axisIn 191 axDISABLING (fun x => { x with rest := some 0 }) d with clk := { d.clk with beat := n, tick := 800 } }
    let sh := made fun d => d.wrN (AX_LP_SH3 0) 48
    let step := made fun d => (d.put (AX_CTRL_VARIANT 0) 3).put (AX_LP_SH3_SH_STEP 0) 15
    let ok := made fun d => d.wrN (AX_LP_CTRL 0) 0xFFFF0000
    let div := made fun d => d.wrN (AX_LP_CTRL 0) 0xFFFF000C
    let ct := made fun d => d.wrN (AX_LP_CTRL 0) 0xFF800000
    let ap := (made fun d => d.setAx 0 fun x => { x with commit := true }).dev
    rel.dev.inReset = false ∧ (rel.dev.ax 191).relAt = some 0 ∧ rel.dev.axState 191 = axENABLING ∧ 0 ≤ rel.dev.clk.beat ∧
    rel.dev.get (AX_CTRL_COMM_MODE 191) ≠ 1 ∧ (rel.dev.ax 191).alignAt = none ∧ (rel.dev.ax 191).rest = none ∧
    (relC.dev.commutates 191 = true ∧ relC.dev.get (AX_CTRL_COMM_MODE 191) = 1 ∧ relC.dev.liveHas (AX_STATUS_COMM_VALID 191) = false) ∧
    soon.dev.clk.beat < 1 ∧ (soon.dev.ax 191).relAt = some 1 ∧ soon.dev.clk.beat < 1 + soon.dev.lpGet (AX_LP_ALIGN_ALIGN_BEATS 191) ∧
    ((stop_.dev.ax 191).alignAt = some 0 ∧ (stop_.dev.ax 191).relAt = none ∧ stop_.dev.axState 191 = axENABLING ∧
      0 + stop_.dev.lpGet (AX_LP_ALIGN_ALIGN_BEATS 191) ≤ stop_.dev.clk.beat) ∧
    (((rest 1).dev.ax 191).rest = some 0 ∧ 0 + ((rest 1).dev.ax 191).offDelay + 1 = (rest 1).dev.clk.beat ∧
      (rest 1).dev.clk.latch ≤ (rest 1).dev.clk.tick) ∧ (rest 0).dev.clk.beat < 0 + ((rest 0).dev.ax 191).offDelay + 1 ∧
    ((∃ x ∈ sh.dev.lpShifts 0, 47 < x) ∧ step.dev.variant 0 = 3 ∧ step.dev.get (AX_LP_SH3_SH_STEP 0) < 16) ∧
    ((∀ x ∈ ok.dev.lpShifts 0, ¬ 47 < x) ∧ ok.dev.variant 0 ≠ 3 ∧ ok.dev.slotOf 0 = none ∧
      bits (ok.dev.rdN (AX_LP_CTRL 0)) 2 2 ≤ bits (ok.dev.rdN (AX_LP_CTRL 0)) 0 2 ∧ ok.dev.contourOk 0xFF = true) ∧
    (bits (div.dev.rdN (AX_LP_CTRL 0)) 2 2 = 3 ∧ ∀ x ∈ div.dev.lpShifts 0, ¬ 47 < x) ∧
    (bits (ct.dev.rdN (AX_LP_CTRL 0)) 16 8 = 128 ∧ ct.dev.contourOk 128 = false) ∧
    ((ap.ax 0).commit = true ∧ ap.slotOf 0 = none) := by decide +kernel

/-- Convoy `c` in a STATE, with its first member axis 191. -/
def convoy (c st : Nat) (f : Convoy → Convoy) (d : Device) : Device :=
  ((d.setCy c f).setCyState c st).wrN (GL_CY_MSEL c 0) 0x1BF

theorem witness_FormAndDissolveConvoys :
    let idle := made fun d => (convoy 31 cyFREE id d).setPlState 191 plIDLE
    let busy := made (convoy 31 cyFREE id)
    let kind := made fun d => (convoy 31 cyFREE id d).put (GL_CY_CTRL_KIND 31) 3
    let twice := made fun d => (convoy 31 cyFREE id d).wrN (GL_CY_MSEL 31 1) 0x1BF
    let eng := made (convoy 31 cyENGAGED id)
    let run := made (convoy 31 cyRUNNING id)
    idle.dev.inReset = false ∧ idle.dev.cyState 31 = cyFREE ∧ idle.dev.get (GL_CY_CTRL_KIND 31) ≠ 3 ∧ idle.dev.get (GL_CY_CTRL_MASTER_KIND 31) ≤ 3 ∧
    (idle.dev.cyMembers 31 = [(0, 191)] ∧ idle.dev.cyOf 191 = none ∧ idle.dev.gpTwin 191 = none ∧ idle.dev.plState 191 = plIDLE) ∧
    (busy.dev.cyMembers 31 = [(0, 191)] ∧ busy.dev.cyOf 191 = none ∧ busy.dev.gpTwin 191 = none ∧ busy.dev.plState 191 ≠ plIDLE) ∧
    kind.dev.get (GL_CY_CTRL_KIND 31) = 3 ∧ ¬ ((twice.dev.cyMembers 31).map (·.2)).Nodup ∧
    (eng.dev.cyState 31 = cyENGAGED ∧ eng.dev.cyAtRest 31 = true) ∧ (made (convoy 31 cyIDLE id)).dev.cyState 31 = cyIDLE ∧
    (run.dev.cyState 31 ≠ cyFREE ∧ run.dev.cyState 31 ≠ cyIDLE ∧ run.dev.cyState 31 ≠ cyENGAGED) := by decide +kernel

theorem witness_ConvoysHoldStopAndLimit :
    let at_ := fun st => made fun d => (((convoy 31 st id d).setPlState 191 plFOLLOWING).setAxState 191 axRUN)
    let still := fun st => made fun d => (((convoy 31 st (fun v => { v with feed := 0 }) d).setPlState 191 plFOLLOWING).setAxState 191 axRUN)
    let quick := made (convoy 31 cySTOPPING fun v => { v with stop := 2 })
    let blocked := made fun d => ((convoy 31 cyHELD id d).setPlState 191 plDISABLING)
    let neg := made fun d => (convoy 31 cyRUNNING id d).wrN (GL_CY_QDEC 31 + 4) 0x80000000
    let lims := fun st => made fun d => ((((convoy 31 st id d).wrN (GL_CY_VMAX 31 + 4) 1).wrN (GL_CY_AMAX 31 + 4) 1).wrN
      (GL_CY_DMAX 31 + 4) 1).wrN (GL_CY_JMAX 31 + 4) 1
    let feed0 := (lims cyRUNNING).dev.put (GL_CY_FEED_FEED 31) 0
    (∀ st ∈ [cyFREE, cyIDLE, cyRUNNING, cyHOLDING, cyHELD, cySTOPPING, cyENGAGED], (at_ st).dev.inReset = false ∧ (at_ st).dev.cyState 31 = st) ∧
    (∀ st ∈ [cyHOLDING, cyHELD], (at_ st).dev.cyBlocked 31 = false ∧ ((at_ st).dev.cy 31).feed ≠ 0 ∧
      (still st).dev.cyState 31 = st ∧ (still st).dev.cyBlocked 31 = false ∧ ((still st).dev.cy 31).feed = 0) ∧
    ( ((at_ cySTOPPING).dev.cy 31).stop ≠ 2 ∧ (quick.dev.cy 31).stop = 2 ∧
      quick.dev.cyState 31 = cySTOPPING) ∧
    (blocked.dev.cyState 31 = cyHELD ∧ blocked.dev.cyBlocked 31 = true) ∧ neg.dev.rdS64 (GL_CY_QDEC 31) < 0 ∧
    (Claims.shadowLimits (at_ cyHELD).dev 31).zero = true ∧ ¬ (at_ cyHELD).dev.rdS64 (GL_CY_QDEC 31) < 0 ∧
    (∀ st ∈ [cyHOLDING, cySTOPPING, cyRUNNING], (lims st).dev.cyState 31 = st ∧ (Claims.shadowLimits (lims st).dev 31).zero = false ∧
      min 2048 ((lims st).dev.get (GL_CY_FEED_FEED 31)) ≠ 0) ∧
    (min 2048 (feed0.get (GL_CY_FEED_FEED 31)) = 0 ∧ feed0.cyState 31 = cyRUNNING ∧ (Claims.shadowLimits feed0 31).zero = false) := by
  decide +kernel

theorem witness_FollowersEngageAndDisengage :
    let s := fun (f : Convoy → Convoy) => made fun d => ((((convoy 31 cyIDLE f d).put (GL_CY_CTRL_KIND 31) 1).setPlState 191 plFOLLOWING).wrN (GL_CY_DEN 31 0) 1)
    let noDen := (s id).dev.wrN (GL_CY_DEN 31 0) 0
    let noCam := (s id).dev.put (GL_CY_CTRL_KIND 31) 2
    let moving := made fun _ => (s id).dev.setPl 191 fun p => { p with next := { p3 := 0, v := 1, a := 0 } }
    let on := s fun v => { v with slots := v.slots.upd {} 0 fun t => { t with mode := 1 } }
    (s id).dev.inReset = false ∧ (s id).dev.cyState 31 ≠ cyFREE ∧ (s id).dev.get (GL_CY_CTRL_KIND 31) = 1 ∧
    (s id).dev.has (GL_CY_MSEL_USED 31 0) = true ∧ (s id).dev.plState ((s id).dev.get (GL_CY_MSEL_AXIS 31 0)) = plFOLLOWING ∧
    (s id).dev.rdN (GL_CY_DEN 31 0) ≠ 0 ∧ (((s id).dev.cy 31).slots.pick {} 0).mode = 0 ∧ ((s id).dev.pl 191).next.v = 0 ∧
    ((s id).dev.cyMaster 31).v = 0 ∧ noCam.get (GL_CY_CTRL_KIND 31) = 2 ∧ noCam.has (GL_TD_STATE_DEFINED (noCam.get (GL_CY_CAM_TABLE 31 0))) = false ∧
    (moving.dev.cyState 31 ≠ cyFREE ∧ moving.dev.plState 191 = plFOLLOWING ∧ (moving.dev.pl 191).next.v ≠ 0) ∧ ((s id).dev.pl 191).topCap = none ∧ noDen.rdN (GL_CY_DEN 31 0) = 0 ∧
    State.reset.dev.cyState 31 = cyFREE ∧ (on.dev.cyState 31 ≠ cyFREE ∧ ((on.dev.cy 31).slots.pick {} 0).mode = 1) ∧
    (made fun d => (convoy 31 cyENGAGED id d).put (GL_CY_CTRL_MASTER_KIND 31) 1).dev.get (GL_CY_CTRL_MASTER_KIND 31) = 1 := by decide +kernel

theorem witness_GantryPairsAndStepGenerators :
    let idle := made fun d => (d.setPlState 0 plIDLE).setPlState 191 plIDLE
    let run := made fun d => (d.setPlState 0 plMOVING).wrN (GL_GP_CTRL 15) 0x1BF00
    let bound := made fun d => ((d.setPlState 0 plIDLE).setPlState 191 plFOLLOWING).wrN (GL_GP_CTRL 15) 0x1BF00
    let split := made fun d => d.setTg fun t => { t with cfg := Store.set resetWord t.cfg (TG_Z_AXES_AXES 7 5).addr 0x80000000 }
    let en := made fun d => d.put (ST_MODE_EN 15) 1
    let due := fun (q : StepGen → StepGen) => made fun d => d.setGen 15 fun g => q { g with due := [-1], dirFwd := false }
    let busy := (due fun g => { g with stepped := true, pulseEnd := 1 }).dev
    let wait := ((due fun g => { g with dirFwd := true }).dev.put (ST_MODE_MODE 15) 0)
    idle.dev.inReset = false ∧ idle.dev.has (GL_GP_CTRL_EN 15) = false ∧ bit (0x1BF00 : BitVec 32).toNat 16 = true ∧
    bits (0x1BF00 : BitVec 32).toNat 8 8 = 191 ∧ bits (0x1BF00 : BitVec 32).toNat 0 8 = 0 ∧ idle.dev.plState 191 = plIDLE ∧
    idle.dev.tgZoneOf 0 = idle.dev.tgZoneOf 191 ∧ split.dev.inReset = false ∧ split.dev.tgZoneOf 0 ≠ split.dev.tgZoneOf 191 ∧ 191 < bits (0x1C000 : BitVec 32).toNat 8 8 ∧
    (run.dev.has (GL_GP_CTRL_EN 15) = true ∧ run.dev.get (GL_GP_CTRL_PRIMARY 15) = 0 ∧ run.dev.plState 0 = plMOVING ∧
      run.dev.get (GL_GP_CTRL_TWIN 15) = 191) ∧
    (bound.dev.has (GL_GP_CTRL_EN 15) = true ∧ bound.dev.plState 0 = plIDLE ∧ bit (0xBF00 : BitVec 32).toNat 16 = false ∧
      bound.dev.plState 191 = plFOLLOWING ∧ bound.dev.cyOf 191 = none ∧ bound.dev.get (GL_GP_CTRL_PRIMARY 15) = 0 ∧
      bound.dev.get (GL_GP_CTRL_TWIN 15) = 191 ∧ (∀ h < 16, h ≠ 15 → bound.dev.has (GL_GP_CTRL_EN h) = false) ∧
      bits (0x10100 : BitVec 32).toNat 8 8 = 1 ∧ bound.dev.plState 1 = plOFF ∧ bound.dev.tgZoneOf 0 = bound.dev.tgZoneOf 1) ∧
    en.dev.has (ST_MODE_EN 15) = true ∧ idle.dev.has (ST_MODE_EN 15) = false ∧ (idle.dev.gen 15).due = [] ∧
    (((due id).dev.gen 15).due ≠ [] ∧ (due id).dev.genWaits 15 = false ∧ ((due id).dev.gen 15).stepped = false) ∧
    ((busy.gen 15).due ≠ [] ∧ busy.genWaits 15 = false ∧ (busy.gen 15).stepped = true ∧ busy.clk.now < (busy.gen 15).pulseEnd + busy.genWidth 15) ∧
    (∀ m < 16, (due id).dev.ms m = {}) ∧ wait.genWaits 15 = true ∧ (wait.gen 15).due ≠ [] := by decide +kernel

/-! ### Hypotheses that can be met: feedback -/

/-- Port 15 in a mode, with what `f` sets. -/
def port15 (mode : Nat) (f : FbPort → FbPort) (d : Device) : Device :=
  d.setPort 15 fun q => f { q with ctrl := BitVec.ofNat 32 mode }

/-- A frame-format table of the fields named, without CRC. -/
def table (fs : List Nat) : List (BitVec 8) := leBytes (256 * fs.length) 4 ++ List.replicate 28 0 ++ fs.flatMap (leBytes · 4)

theorem witness_SetposRideEndAndEmulation :
    let st := fun ax pl => made fun d => (axisIn 191 ax id d).setPlState 191 pl
    let ride := made (axisIn 191 axRIDE id)
    let moving := made fun d => (axisIn 191 axRIDE id d).setPl 191 fun q => { q with cur := { q.cur with v := 1 } }
    let emu := made fun d => { port15 7 (fun q => { q with emuTarget := 1 }) d with clk := { d.clk with tick := 1600, now := 1600 } }
    let early := made (port15 7 fun q => { q with emuTarget := 1, emuNext := 2 })
    let close := emu.dev.setPort 15 fun q => { q with emuLast := 1599 }
    (∀ x ∈ [plIDLE, plHELD, plMOVING], (st axRUN x).dev.inReset = false ∧ (st axRUN x).dev.axState 191 ≠ axOFF ∧ (st axRUN x).dev.plState 191 = x) ∧
    State.reset.dev.axState 191 = axOFF ∧
    (ride.dev.inReset = false ∧ ride.dev.axState 191 = axRIDE ∧ (ride.dev.ax 191).rest = none ∧ (ride.dev.pl 191).cur.v = 0 ∧
      (ride.dev.pl 191).cur.a = 0 ∧ (ride.dev.pl 191).next.v = 0) ∧
    ((moving.dev.pl 191).cur.v ≠ 0 ∧ ¬ min 1000 (max 1 (moving.dev.get (AX_FB_LOSS_RIDE_TIME 191))) * 10000 ≤
      (moving.dev.clk.beat - (moving.dev.fb 191).rideStart) * moving.dev.clk.len) ∧
    (emu.dev.inReset = false ∧ emu.dev.portMode 15 = 7 ∧ (emu.dev.port 15).emuE ≠ (emu.dev.port 15).emuTarget ∧
      ((emu.dev.port 15).emuE - (emu.dev.port 15).emuNext).natAbs * emu.dev.clk.len /
        max 1 ((emu.dev.port 15).emuTarget - (emu.dev.port 15).emuNext).natAbs ≤ emu.dev.clk.tick ∧ (emu.dev.port 15).emuLast = 0) ∧
    (early.dev.clk.tick < ((early.dev.port 15).emuE - (early.dev.port 15).emuNext).natAbs * early.dev.clk.len /
      max 1 ((early.dev.port 15).emuTarget - (early.dev.port 15).emuNext).natAbs) ∧
    ¬ ((close.port 15).emuLast = 0 ∨ (close.port 15).emuLast + max 2 (close.get (FB_EMU_MINSP 15)) ≤ close.clk.now) := by decide +kernel

theorem witness_PortEdgesAndSettings :
    let q := made (port15 1 id)
    let z := made (port15 1 fun q => { q with ctrl := 0x401 })
    let h := fun lines => made (port15 2 fun q => { q with lines := lines })
    let used := made fun d => axisIn 191 axRUN id ((d.put (AX_FB_SRC_PRI_KIND 191) 2).put (AX_FB_SRC_PRI_ID 191) 15)
    let busy := made (port15 3 fun q => { q with busy := true })
    let ssi := made (port15 3 id)
    q.dev.inReset = false ∧ q.dev.portMode 15 = 1 ∧ (q.dev.port 15).lines < 4 ∧ Claims.quadNext (q.dev.port 15).lines = 1 ∧
    Claims.quadNext 2 = (q.dev.port 15).lines ∧ 3 + (q.dev.port 15).lines = 3 ∧
    ((h 4).dev.inReset = false ∧ (h 4).dev.portMode 15 = 2 ∧ ((h 4).dev.port 15).lines = 4 ∧ Claims.hallNext 4 = 6 ∧ Claims.hallNext 5 = 4 ∧
      Claims.hallNext 3 ≠ 4 ∧ ((h 7).dev.port 15).lines = 7 ∧ (h 7).dev.portMode 15 = 2) ∧
    (z.dev.portMode 15 = 1 ∧ bit (z.dev.port 15).ctrl.toNat 10 = true ∧ bit (q.dev.port 15).ctrl.toNat 10 = false) ∧
    q.dev.portMode 15 ≠ 2 ∧ (h 7).dev.portMode 15 ≠ 1 ∧
    (q.dev.portInUse 15 = false ∧ q.dev.serialOk 1 (q.dev.rdN (FB_SER 15)) (q.dev.rdN (FB_TIMING 15)) [] = true ∧ used.dev.portInUse 15 = true ∧
      used.dev.inReset = false) ∧
    (bits (0x00080004 : BitVec 32).toNat 16 6 = 8 ∧ bits (0x00080004 : BitVec 32).toNat 0 9 = 4 ∧ bits (0x00080004 : BitVec 32).toNat 14 2 ≠ 3 ∧
      bits (0x003001F3 : BitVec 32).toNat 16 6 = 48 ∧ bits (0x003001F3 : BitVec 32).toNat 0 9 = 499 ∧ ¬ 8 ≤ bits (0x00070004 : BitVec 32).toNat 16 6) ∧
    ((busy.dev.port 15).busy = true ∧ busy.dev.portUsers 15 = [] ∧ (ssi.dev.port 15).busy = false) ∧
    (q.dev.axState 191 = axOFF ∧ bits (0x40004000 : BitVec 32).toNat 12 3 = 4 ∧ bits (0x40004000 : BitVec 32).toNat 28 3 = 4 ∧
      ¬ bits (0x5000 : BitVec 32).toNat 12 3 ≤ 4) := by decide +kernel

theorem witness_SerialTransfersAndSamples :
    let p := fun mode (t : List (BitVec 8)) => made (port15 mode fun q => { q with busy := true, table := t })
    let at_ := fun mode t => made fun d => { port15 mode (fun q => { q with busy := true }) d with clk := { d.clk with tick := t } }
    let crc := fun (w : Nat) => crcBits 6 3 0 (msbBits 10 (bits w 6 10)) = 63 - bits w 0 6
    let pos := table [0x00010800]
    let con := table [0xAA080800]
    let err := table [0x00030808]
    let life := table [0x00010800, 0x00090808]
    let odd := made (port15 3 fun q => { q with busy := true, ser := 0x0208C004 - 0x4000 })
    let one := made fun d => (port15 3 (fun q => { q with busy := true }) d).wrN (AX_FB_SRC 191) (0x200F)
    let late1 := { one.dev with clk := { one.dev.clk with tick := 400 } }.put (AX_FB_LOSS_MISS_LIMIT 191) 2
    let one2 := one.dev.put (AX_FB_LOSS_MISS_LIMIT 191) 2
    (∀ mode ∈ [3, 4, 5], (p mode []).dev.inReset = false ∧ (p mode []).dev.portMode 15 = mode ∧ ((p mode []).dev.port 15).busy = true ∧
      (p mode []).dev.portUsers 15 = [] ∧ (p mode []).dev.frameLate 15 = false ∧ (at_ mode 401).dev.frameLate 15 = true ∧
      (at_ mode 401).dev.inReset = false ∧ (at_ mode 401).dev.portTimeout 15 ≤ (at_ mode 401).dev.clk.tick) ∧ Claims.noneAwaits (p 3 []).dev ∧
    (∀ mode ∈ [3, 4], (at_ mode 100).dev.clk.tick < (at_ mode 100).dev.portTimeout 15 ∧ (at_ mode 100).dev.clk.tick ≠ 0 ∧
      (at_ mode 100).dev.clk.tick ≤ 3 * (bits ((at_ mode 100).dev.port 15).ser.toNat 0 9 + 1) + 1 + (at_ mode 100).dev.ackTicks 15) ∧
    (p 4 []).dev.ackTicks 15 < (65535 : BitVec 16).toNat ∧ (0 : BitVec 16).toNat ≤ (p 4 []).dev.ackTicks 15 ∧ bits (((p 3 []).dev.port 15).ser.toNat) 14 2 = 0 ∧
    (bits ((odd.dev.port 15).ser.toNat) 14 2 = 2 ∧ bits ((odd.dev.port 15).ser.toNat) 25 3 ≠ 0 ∧ parity 8 0 = false ∧ bit (1 : BitVec 64).toNat 0 = true) ∧
    (crc 63 ∧ ¬ crc 0 ∧ ∃ x < 64, crc (128 + x)) ∧
    (frameCrcOk pos 5 = true ∧ (∀ f ∈ frameFields pos, f.kind ≠ 8 ∧ f.kind ≠ 3 ∧ f.kind ≠ 4) ∧ fieldOf (frameFields pos) 9 = none) ∧
    (∃ f ∈ frameFields con, f.kind = 8 ∧ f.read 0xAA = f.value ∧ f.read 0 ≠ f.value) ∧
    (frameCrcOk err 256 = true ∧ ∃ f ∈ frameFields err, f.kind = 3 ∧ f.read 256 ≠ 0) ∧
    (∃ f, fieldOf (frameFields life) 9 = some f ∧ f.read 0x100 = 1 ∧ f.read 0x200 = 2) ∧ State.reset.dev.portUsers 15 = [] ∧
    (State.reset.dev.port 15).busy = false ∧
    (one.dev.inReset = false ∧ Claims.soleUser one.dev 15 191 ∧ one.dev.portMode 15 = 3 ∧ (one.dev.port 15).busy = true ∧
      (one.dev.fb 191).pri.miss + 1 < max 1 (one2.get (AX_FB_LOSS_MISS_LIMIT 191)) ∧ (one2.fb 191).pri.miss = 0 ∧ Claims.soleUser one2 15 191 ∧
      Claims.soleUser late1 15 191 ∧ late1.inReset = false ∧ late1.portMode 15 = 3 ∧ (late1.port 15).busy = true ∧ late1.portTimeout 15 ≤ late1.clk.tick ∧
      one.dev.frameLate 15 = false) := by
  unfold Claims.soleUser Claims.noneAwaits
  refine ⟨by decide +kernel, by decide +kernel, by decide +kernel, by decide +kernel, by decide +kernel, by decide +kernel, by decide +kernel, by decide +kernel, by decide +kernel, by decide +kernel, by decide +kernel,
    ⟨_, rfl, by decide +kernel, by decide +kernel⟩, by decide +kernel, by decide +kernel, by decide +kernel⟩

/-! ### Hypotheses that can be met: milestones and latch units -/

theorem witness_MilestoneListsAndPulses :
    let e : MsEntry := ⟨-1, 2, true, 7, 0xFFFFFFFF⟩
    let one := made fun d => d.setMs 15 fun q => { q with list := [e] }
    let fire := made fun d => d.setMs 15 fun q => { q with list := [e], sched := [⟨0xFFFFFFFF, 0, false, 0⟩] }
    let later := made fun d => d.setMs 15 fun q => { q with list := [e], sched := [⟨0xFFFFFFFF, 1, false, 0⟩], active := true, endAt := 1 }
    let pulse := made fun d => d.setMs 15 fun q => { q with active := true }
    let en := made fun d => d.put (MS_CTRL_EN 15) 1
    let rec' := fun (w : Nat) => made fun d => d.qAdd 13 0 0 0 (leBytes w 8 ++ leBytes 5 8 ++ leBytes 0 8)
    one.dev.inReset = false ∧ (one.dev.ms 15).list = [e] ∧ (State.reset.dev.ms 15).list = [] ∧ one.dev.has (MS_CTRL_EN 15) = false ∧
    en.dev.inReset = false ∧ en.dev.has (MS_CTRL_EN 15) = true ∧ bit (0x11 : BitVec 32).toNat 0 = true ∧ bit (0 : BitVec 32).toNat 0 = false ∧
    one.dev.msSourceOk 1 191 = true ∧ one.dev.msSourceOk 1 192 = false ∧ (one.dev.ms 15).armed = false ∧ fire.dev.msMethod 15 ≠ 2 ∧ (fire.dev.put (AX_FB_SRC_PRI_KIND 0) 1).msMethod 15 = 2 ∧ (e.behind (one.dev.msPos 15)).1 = false ∧
    ((fire.dev.ms 15).sched = [⟨0xFFFFFFFF, 0, false, 0⟩] ∧ (0 : Nat) ≤ fire.dev.stamp) ∧ (∀ p ∈ (later.dev.ms 15).sched, later.dev.stamp < p.at_) ∧
    ((pulse.dev.ms 15).active = true ∧ (pulse.dev.ms 15).endAt ≤ pulse.dev.clk.now ∧ later.dev.clk.now < (later.dev.ms 15).endAt) ∧
    State.reset.dev.qLive 13 = [] ∧
    ((rec' 0x1010F).dev.inReset = false ∧ (rec' 0x1010F).dev.qLive 13 = [0] ∧ ((rec' 0x1010F).dev.qRead 13 0).1.ok = true ∧
      Claims.refillCode (rec' 0x1010F).dev ((rec' 0x1010F).dev.qRead 13 0).1.payload = 0) ∧
    ((rec' 0x0000F).dev.qLive 13 = [0] ∧ ((rec' 0x0000F).dev.qRead 13 0).1.ok = true ∧
      Claims.refillCode (rec' 0x0000F).dev ((rec' 0x0000F).dev.qRead 13 0).1.payload = 2) := by decide +kernel

theorem witness_LatchUnitsCaptureEdges :
    let c : Capture := ⟨0, false, 0, [], []⟩
    let on := made fun d => (d.put (LT_CTRL_EN 15) 1).setLt 15 fun q => { q with armed := true }
    let full := on.dev.setLt 15 fun q => { q with caps := [c, c, c, c] }
    let three := on.dev.setLt 15 fun q => { q with caps := [c, c, c] }
    let wait := on.dev.setLt 15 fun q => { q with caps := [⟨0, false, 0, [], [(0, none, false, false)]⟩] }
    let q14 := { full with qOcc := Store.set (fun _ => 0) [] 14 4096 }
    on.dev.inReset = false ∧ on.dev.get (LT_CTRL_SRC_KIND 15) = 0 ∧ (on.dev.lt 15).armed = true ∧ on.dev.get (LT_CTRL_EDGE 15) = 0 ∧
    (three.lt 15).caps.length < 4 ∧
    4 ≤ (full.lt 15).caps.length ∧ (State.reset.dev.lt 15).caps = [] ∧
    ((wait.lt 15).caps = [⟨0, false, 0, [], [(0, none, false, false)]⟩] ∧
      (∃ v ∈ (wait.ltFill ⟨0, false, 0, [], [(0, none, false, false)]⟩).vals, v.2.1 = none)) ∧
    (three.inReset = false ∧ (three.lt 15).caps = [c, c, c] ∧ (∀ v ∈ (three.ltFill c).vals, v.2.1 ≠ none) ∧
      three.injPending 5 (0x10 + 15) 2 = false ∧ three.qFull 14 = false) ∧
    ((q14.lt 15).caps = [c, c, c, c] ∧ q14.qFull 14 = true) ∧
    on.dev.has (LT_CTRL_EN 15) = true ∧ State.reset.dev.has (LT_CTRL_EN 15) = false ∧
    (bit (1 : BitVec 32).toNat 0 = true ∧ ¬ 5 ≤ bits (0x401 : BitVec 32).toNat 8 3 ∧ 5 ≤ bits (0x501 : BitVec 32).toNat 8 3 ∧
      bits (0xD : BitVec 32).toNat 2 2 = 3) := by decide +kernel

/-! ### Hypotheses that can be met: chains -/

/-- A layout of one node of TYPE 7 with a slot of two words. -/
def layout1 : List (BitVec 8) := leBytes 1 4 ++ List.replicate 12 0 ++ leBytes (7 + 2 * 2 ^ 24) 4

/-- Chain 15 in a STATE, with that layout and what `f` sets. -/
def chain15 (st : Nat) (f : Chain → Chain) (d : Device) : Device := (d.setChain 15 fun s => f { s with layout := layout1 }).tkSet 15 st

/-- The identity word of a node of TYPE 7 with one channel. -/
def idWord7 : Nat :=
  let w := 0x5C * 2 ^ 56 + 7 * 2 ^ 40 + 1 * 2 ^ 36 + 7 * 2 ^ 32
  w + censusCrc w

theorem witness_ChainFramesAndSettings :
    let on := made (chain15 tkRUNNING fun s => { s with inFrame := true })
    let late := made (chain15 tkRUNNING fun s => { s with inFrame := true, latched := true })
    let good : List (BitVec 16) := [0, BitVec.ofNat 16 (slotCrc [0])]
    let ready := made (chain15 tkREADY id)
    let tight := ready.dev.put TB_TRIM_TRIM_MAX 3
    let at_ := fun st => made (chain15 st id)
    let busy := made fun d => axisIn 191 axRUN id ((chain15 tkRUNNING id d).wrN (AX_FB_SRC 191) 0x13C0)
    on.dev.inReset = false ∧ on.dev.frameOn 15 = true ∧ 0 < layNodes (on.dev.chain 15).layout ∧ layNodes (on.dev.chain 15).layout ≤ 1 ∧
    Claims.chainQuiet on.dev 15 0 ∧ good.length = laySlotWords layout1 0 ∧ slotCrc good.dropLast = (good.getLastD 0).toNat ∧
    on.dev.clk.tick ≤ on.dev.nodeBudget 15 layout1 0 ∧ on.dev.clk.tick < 8192 ∧ bit (on.dev.chain 15).seen 0 = false ∧
    slotCrc [1] ≠ 0 ∧ (∀ k < 12, on.dev.injPending 6 (16 * 15) k = false) ∧ ready.dev.frameOn 15 = false ∧
    on.dev.has (TK_CTRL_RSTB_EN 15) = true ∧
    (ready.dev.inReset = false ∧ ready.dev.tkState 15 = tkREADY ∧ ready.dev.chainF 15 (ready.dev.chain 15).layout + 40 ≤ ready.dev.clk.latch ∧
      ready.dev.clk.latch + 40 + ready.dev.get TB_TRIM_TRIM_MAX ≤ ready.dev.clk.len ∧ ready.dev.chainF 15 (ready.dev.chain 15).layout + 40 < ready.dev.clk.deadline ∧
      ready.dev.clk.deadline + 48 + ready.dev.get TB_TRIM_TRIM_MAX ≤ ready.dev.clk.len ∧
      ready.dev.allFit ready.dev.laysInForce ready.dev.clk.deadline = true) ∧
    ¬ tight.clk.deadline + 48 + tight.get TB_TRIM_TRIM_MAX ≤ tight.clk.len ∧
    (∀ st ∈ [tkOFF, tkCENSUS, tkRUNNING, tkFAILED], (at_ st).dev.inReset = false ∧ (at_ st).dev.tkState 15 = st ∧ (at_ st).dev.chainBusy 15 = false) ∧
    (busy.dev.tkState 15 = tkRUNNING ∧ busy.dev.chainBusy 15 = true ∧ on.dev.frameHeld 15 = true ∧ late.dev.frameHeld 15 = false) ∧
    (bits (0x400104 : BitVec 32).toNat 0 3 = 4 ∧ bits (0x400104 : BitVec 32).toNat 16 7 = 64 ∧ bit (0x400104 : BitVec 32).toNat 8 = true ∧
      bit ((State.reset.dev.put GL_IO_BANK_V18 2).get GL_IO_BANK_V18) (15 / 8) = true ∧ ¬ bits (0x410100 : BitVec 32).toNat 16 7 ≤ 64) ∧
    (bits (0x414 : BitVec 32).toNat 8 5 = 4 ∧ bits (0x414 : BitVec 32).toNat 0 8 = 20 ∧ bits (0x1E14 : BitVec 32).toNat 8 5 = 30 ∧
      ¬ 20 ≤ bits (0x413 : BitVec 32).toNat 0 8) := by
  unfold Claims.chainQuiet; decide +kernel

theorem witness_CensusStepByStep :
    let at_ := fun n => made fun d => { chain15 tkCENSUS (fun s => { s with step := n }) d with clk := { d.clk with now := 500000 } }
    let soon := made (chain15 tkCENSUS fun s => { s with step := 1 })
    let run := made (chain15 tkRUNNING fun s => { s with inFrame := true })
    let off := made (chain15 tkOFF id)
    let bare := made fun d => d.tkSet 15 tkOFF
    let two := (at_ 2).dev
    let rx : BitVec 1120 := BitVec.ofNat 1120 (idWord7 * 2 ^ 1056 + censusMarker * 2 ^ 1024)
    let none' : BitVec 1120 := BitVec.ofNat 1120 (censusMarker * 2 ^ 1088)
    let w : BitVec 64 := 5
    let five := made (chain15 tkCENSUS fun s => { s with step := 5, cfg := [w] })
    off.dev.inReset = false ∧ off.dev.chainBusy 15 = false ∧ off.dev.tkState 15 ≠ tkCENSUS ∧ off.dev.tkState 15 ≠ tkRUNNING ∧
    (off.dev.chain 15).layout ≠ [] ∧ (bare.dev.chain 15).layout = [] ∧ soon.dev.tkState 15 = tkCENSUS ∧
    (run.dev.chainBusy 15 = false ∧ run.dev.tkState 15 = tkRUNNING ∧ run.dev.frameHeld 15 = true) ∧
    (∀ n ∈ [1, 2, 3, 4, 5], (at_ n).dev.inReset = false ∧ (at_ n).dev.tkState 15 = tkCENSUS ∧ ((at_ n).dev.chain 15).step = n ∧
      ((at_ n).dev.chain 15).waitFrom + 500000 ≤ (at_ n).dev.clk.now) ∧ soon.dev.clk.now < (soon.dev.chain 15).waitFrom + 12048 ∧
    (BitVec.allOnes 1120 = BitVec.allOnes 1120) ∧ 8 * two.get (TK_TIMING_LOOP_MAX 15) < (0xFFFF : BitVec 16).toNat ∧
    (rx ≠ 0 ∧ rx ≠ BitVec.allOnes 1120 ∧ markerAt rx = some (1, false) ∧ idSound (idWord rx 0) = true ∧ 1 = layNodes (two.chain 15).layout ∧
      bits idWord7 40 16 = layType (two.chain 15).layout 0 ∧ two.capsOk 15 0 1 idWord7 = true ∧ idWord rx 0 = idWord7) ∧
    (none' ≠ 0 ∧ markerAt none' = some (0, false) ∧ 0 ≠ layNodes (two.chain 15).layout) ∧
    (five.dev.tkState 15 = tkCENSUS ∧ (five.dev.chain 15).step = 5 ∧ (five.dev.chain 15).cfg = [w] ∧
      (BitVec.ofNat 64 (echoOf 5)).toNat = echoOf w.toNat ∧ (0 : BitVec 64).toNat ≠ echoOf w.toNat ∧
      five.dev.injPending 6 (16 * 15) 10 = false) := by decide +kernel

/-! ### Hypotheses that can be met: the modulator and itineraries -/

theorem witness_PairOutputsAndCommits :
    let s := State.reset
    let on := made fun d => d.setPair 11 fun p => { p with started := true, act := 1 }
    let half := made fun d => { d.setPair 11 (fun p => { p with started := true, active := { p.active with ctrl := 0x40 }, pending := some {} }) with
      clk := { d.clk with now := 1600 } }
    let chop := made fun d => (d.setPair 11 fun p => { p with started := true, act := 1, active := { p.active with ctrl := 6 } }).put (MD_TRIP_CTRL_EN 0) 1
    let bound := made fun d => (d.put (AX_MB_CTRL_KIND 191) 1).wrN (AX_MB_PAIRS 191) 0xBBBB
    let small := made fun d => d.wrN (MD_PAIR_PER 11) 1
    let unsync := made fun d => (d.wrN (MD_PAIR_PER 11) 7).wrN (MD_PAIR_CTRL 11) 0x20
    let keep := made fun d => (d.wrN (MD_PAIR_CTRL 11) 0x80).wrN (MD_PAIR_PER 11) 7
    let chain := made fun d => (d.put (AX_MB_CTRL_KIND 191) 2).wrN (AX_MB_CARRIER 191) 0x08000C80
    let us := made fun d => d.wrN (AX_MB_CARRIER 191) 0x80000007
    let run := made fun d => axisIn 191 axRUN id d
    s.dev.inReset = false ∧ s.dev.periodDue 11 = true ∧ on.dev.periodDue 11 = false ∧ (on.dev.pair 11).started = true ∧
    (s.dev.pair 11).started = false ∧
    ((half.dev.pair 11).active.half = true ∧ (half.dev.pair 11).start + (half.dev.pair 11).perLen / 2 ≤ half.dev.clk.now ∧
      (half.dev.pair 11).pending.isSome = true) ∧
    ((chop.dev.pair 11).active.carrier = 3 ∧ bits (chop.dev.pair 11).active.ctrl.toNat 24 8 ≤ chop.dev.clk.now - (chop.dev.pair 11).start ∧
      chop.dev.clk.now - (chop.dev.pair 11).start < (chop.dev.pair 11).act ∧
      chop.dev.has (MD_TRIP_CTRL_EN (bits (chop.dev.pair 11).active.ctrl.toNat 8 3)) = true) ∧
    (small.dev.rd (MD_PAIR_PER 11)).toNat % 65536 < 2 ∧
    (bit (unsync.dev.rd (MD_PAIR_CTRL 11)).toNat 5 = true ∧ syncFits unsync.dev.clk.len ((unsync.dev.rd (MD_PAIR_PER 11)).toNat % 65536) = false) ∧
    bound.dev.pairBound 11 = true ∧ s.dev.pairBound 11 = false ∧
    (bit (keep.dev.rd (MD_PAIR_CTRL 11)).toNat 7 = true ∧ (keep.dev.pair 11).cmpWritten = false ∧
      (keep.dev.rd (MD_PAIR_PER 11)).toNat % 65536 ≠ (keep.dev.pair 11).latest.PER) ∧
    (2 ≤ bits (chain.dev.rdN (AX_MB_CARRIER 191)) 26 2 ∧ chain.dev.get (AX_MB_CTRL_KIND 191) = 2) ∧
    (bit (us.dev.rdN (AX_MB_CARRIER 191)) 31 = true ∧ syncFits us.dev.clk.len (us.dev.rdN (AX_MB_CARRIER 191) % 65536) = false) ∧
    run.dev.axState 191 ≠ axOFF ∧ s.dev.axState 191 = axOFF ∧ (3 : BitVec 32).toNat % 4 = 3 ∧ (2 : BitVec 32).toNat % 4 ≠ 3 := by decide +kernel

theorem witness_TripsLatchForceAndClear :
    let en := made fun d => d.put (MD_TRIP_CTRL_EN 7) 1
    let chop := en.dev.setPair 0 fun p => { p with active := { p.active with ctrl := 0x706 } }
    let latched := en.dev.put MD_TRIP_LATCH_LATCHED 0x8080
    let held := latched.put (MD_TRIP_STATUS_LEVEL 7) 1
    let row := en.dev.put MD_TRIP_LATCH_LATCHED 0
    en.dev.inReset = false ∧ en.dev.has (MD_TRIP_CTRL_EN 7) = true ∧ State.reset.dev.has (MD_TRIP_CTRL_EN 7) = false ∧ en.dev.isChop 7 = false ∧
    chop.isChop 7 = true ∧ bit (latched.get MD_TRIP_LATCH_LATCHED) 7 = true ∧ bit (row.get MD_TRIP_LATCH_LATCHED) 7 = false ∧
    bit (0xFFFF : BitVec 32).toNat 15 = true ∧ bit (row.get MD_TRIP_LATCH_LATCHED) 15 = false ∧
    (bit (held.get MD_TRIP_LATCH_LATCHED) 7 = true ∧ Claims.tripHeld held 7 = true ∧ Claims.tripHeld latched 7 = false ∧
      bit (latched.get MD_TRIP_LATCH_LATCHED) 15 = true ∧ Claims.tripHeld latched 15 = false) := by decide +kernel

/-- Instance 63 runs table 0 of two states: `w` is the first condition of state 0, `v` its value. -/
def itin63 (run : Nat) (w v : Nat) (f : ItInst → ItInst) (d : Device) : Device :=
  let t := leBytes 1 4 ++ List.replicate 20 0 ++ leBytes w 4 ++ leBytes v 4 ++ List.replicate 64 0
  { ((d.setItin 63 f).put (IT_STATUS_RUN 63) run).put (GL_TD_STATE_DEFINED 0xE0) 1 with
    tables := d.tables.upd {} 0xE0 (fun x => { x with work := t }), clk := { d.clk with running := true, beat := 1 } }

theorem witness_ItinerariesRunByRounds :
    let at_ := fun run => made (itin63 run 0 0 id)
    let start := made (itin63 1 0 0 fun i => { i with starting := some 1 })
    let sel := made (itin63 1 0x101 0 id)
    let seen := { sel.dev with it := { sel.dev.it with lastRound := some sel.dev.clk.beat, inRound := true } }
    let held := made (itin63 1 0 0 fun i => { i with entered := true })
    let moved := made fun d => ((planner 191 plMOVING id (itin63 1 0 0 (fun i => { i with moved := [191] }) d)).put (IT_CTRL_ABORT_REACT 63) 2)
    let stop := made fun d => (itin63 1 0 0 id d).put (IT_CTRL_ABORT_REACT 63) 0
    let t76 := made fun d => (itin63 0 0 0 id d).put (IT_CTRL_TABLE 63) 76
    (∀ run ∈ [1, 2], (at_ run).dev.inReset = false ∧ (at_ run).dev.itLive 63 = true ∧ (at_ run).dev.itRun 63 = run) ∧
    ((at_ 0).dev.itLive 63 = false ∧ (at_ 0).dev.get (IT_CTRL_TABLE 63) < 64 ∧ (at_ 0).dev.has (GL_TD_STATE_DEFINED 0xE0) = true ∧
      itInitial ((at_ 0).dev.itTable 63) < itStates ((at_ 0).dev.itTable 63) ∧ itStates ((at_ 0).dev.itTable 63) ≤ (2 : BitVec 8).toNat) ∧
    (t76.dev.itLive 63 = false ∧ ¬ t76.dev.get (IT_CTRL_TABLE 63) < 76) ∧ stop.dev.get (IT_CTRL_ABORT_REACT 63) = 0 ∧
    (moved.dev.itLive 63 = true ∧ moved.dev.get (IT_CTRL_ABORT_REACT 63) = 2 ∧ (moved.dev.itin 63).moved = [191] ∧ moved.dev.plState 191 = plMOVING ∧
      moved.dev.plHist 191 = [] ∧ ¬ Claims.tooLong moved.dev 191 (fun p => { p with stop := 2, mode := 0 })) ∧
    State.reset.dev.clk.running = false ∧
    (Claims.lone start.dev 63 ∧ (start.dev.itin 63).starting = some 1 ∧ Claims.plainState start.dev 63 1) ∧
    (Claims.lone sel.dev 63 ∧ (sel.dev.itin 63).starting = none ∧ (sel.dev.itin 63).entered = false ∧ seen.itSelect 63 = some 1 ∧
      Claims.plainState sel.dev 63 1) ∧
    (Claims.lone held.dev 63 ∧ (held.dev.itin 63).starting = none ∧ (held.dev.itin 63).entered = true) := by
  unfold Claims.lone Claims.plainState Claims.tooLong; dsimp only
  repeat' apply And.intro
  all_goals decide +kernel

/-! ### Hypotheses that can be met: the caravanserai -/

/-- Device time: the scheduler runs in beat 1 at tick 1500. -/
def beat1 (d : Device) : Device := { d with clk := { d.clk with running := true, beat := 1, tick := 1500, now := 100000000000 } }

/-- An image at the start of bulk memory: one program word, and its signature or the next number. -/
def image1 (off : Nat) (d : Device) : Device :=
  let body := List.replicate 8 (0 : BitVec 8)
  let h := leBytes 0x46434D49 4 ++ leBytes (crc32 body + off) 4 ++ leBytes 1 4 ++ List.replicate 20 0 ++ leBytes 64 4 ++ leBytes 64 4 ++ List.replicate 24 0
  (d.poke bulkBase (h ++ body)).wrN (CV_IMG_BASE 7) bulkBase

theorem witness_EngineVerdictsLoadsAndTests :
    let all := made beat1
    let act := made fun d => beat1 (d.put (DV_STATUS_ROLE 27) rlACTIVE)
    let met := act.dev.setEng 27 fun x => { x with hbs := [(0, 1)], ends := [0] }
    let slot := act.dev.wrN (DV_SLOT_B 27) 0xBFFFFFFF
    let load := fun (img off : Nat) => made fun d => let d1 := image1 off (d.put (DV_STATUS_ROLE 27) rlLOADING)
      { d1 with cv := { d1.cv with loads := Store.set (fun _ => {}) [] 27 { image := img } } }
    let test := made fun d => d.put (DV_STATUS_ROLE 27) rlSELFTEST
    let swap := { all.dev with cv := { all.dev.cv with swap := some ⟨0, 1, 1, 0, 0, 1⟩ } }
    let rider := ((act.dev.put (DV_STATUS_ROLE 0) rlRELAY).put (DV_STATUS_ROLE 1) rlRELAY).put CV_CTRL_OUTRIDER_EN 1
    (State.reset.dev.inReset = false ∧ State.reset.dev.clk.running = false) ∧
    (all.dev.inReset = false ∧ all.dev.clk.running = true ∧ all.dev.clk.beat ≠ 0 ∧ all.dev.hbLate ≤ all.dev.clk.tick ∧ all.dev.cv.judged ≠ all.dev.clk.beat) ∧
    (met.enginesIn rlACTIVE = [27] ∧ (met.eng 27).running = false ∧ (0, 1) ∈ (met.eng 27).hbs ∧ 0 ∈ (met.eng 27).ends ∧
      ∀ k < 16, met.injPending 3 27 k = false) ∧
    (act.dev.inReset = false ∧ act.dev.enginesIn rlACTIVE = [27] ∧ act.dev.cv.active.pick 0 27 ≤ 0 ∧ (act.dev.eng 27).hbs = [] ∧ (act.dev.eng 27).ends = [] ∧
      Claims.calm act.dev 27 ∧ Claims.idleCaravan act.dev) ∧ (∃ j < 8, slot.slotAxis 27 j < 192) ∧
    all.dev.role 27 ≠ rlLOADING ∧
    ((load 7 0).dev.role 27 = rlLOADING ∧ ((load 7 0).dev.cv.loads.pick {} 27).image = 7 ∧ ((load 7 0).dev.cv.loads.pick {} 27).done = false ∧
      Claims.loadSound (load 7 0).dev 7 ∧ ¬ Claims.loadSound (load 7 1).dev 7 ∧ (load 7 1).dev.role 27 = rlLOADING ∧
      Claims.idleCaravan (load 7 0).dev ∧ Claims.calm (load 7 0).dev 27) ∧
    (test.dev.role 27 = rlSELFTEST ∧ Claims.idleCaravan test.dev ∧ Claims.calm test.dev 27 ∧ act.dev.role 27 ≠ rlSELFTEST ∧ act.dev.role 27 ≠ 0 ∧
      ¬ 400 < (400 : BitVec 16).toNat ∧ 400 < (401 : BitVec 16).toNat) ∧
    (swap.clk.running = true ∧ swap.cv.outAt + min 60000 (max 1 (swap.get CV_SWAP_SWAP_PERIOD)) * 100000 ≤ swap.clk.now ∧ swap.cv.swap.isSome = true) ∧
    (rider.clk.running = true ∧ rider.cv.outAt + min 60000 (max 1 (rider.get CV_SWAP_SWAP_PERIOD)) * 100000 ≤ rider.clk.now ∧
      rider.has CV_CTRL_OUTRIDER_EN = true ∧ Claims.idleCaravan rider ∧ Claims.calm rider 0xFF ∧ rider.enginesIn rlACTIVE ≠ [] ∧
      2 ≤ (rider.enginesIn rlRELAY).length) := by
  unfold Claims.calm Claims.idleCaravan Claims.loadSound; dsimp only
  repeat' apply And.intro
  all_goals decide +kernel

theorem witness_SwapsUpdatesAndImages :
    let act := made fun d => ((d.put (DV_STATUS_ROLE 27) rlACTIVE).put CV_UPD_MASK_MASK 0x8000000).put (CV_IMG_STATE_VALID 7) 1
    let two := act.dev.put (DV_STATUS_ROLE 0) rlRELAY
    let swap := { two with cv := { two.cv with swap := some ⟨0, 1, 1, 0, 0, 1⟩ } }
    let upd := two.put CV_STATUS_UPDATE 1
    let due := { upd with clk := { upd.clk with beat := 70000 }, cv := { upd.cv with swap := some ⟨0, 1, 1, 0, 0, 1⟩ } }
    let use' := two.put (CV_IMG_STATE_IN_USE 7) 1
    let axis := axisIn 191 axRUN id ((two.put (CV_IMG_STATE_SFMT 7) 1).wrN (DV_SLOT_B 27) 0xBFFFFFFF)
    let heavy := (two.wrN (CV_IMG_BASE 7) bulkBase).poke (bulkBase + 0x0E) (leBytes 101 2)
    let go := { (two.put (DV_STATUS_ROLE 1) rlRELAY) with clk := { two.clk with beat := 70000 }, cv := { two.cv with updLeft := [27], updImage := 7 } }
    let next := go.put CV_STATUS_UPDATE 1
    let img := made (image1 0)
    let r := ((img.dev.wrN (CV_IMG_BASE 7) bulkBase).bulkRead bulkBase 64)
    (act.dev.inReset = false ∧ act.dev.cv.swap = none ∧ act.dev.role 27 = rlACTIVE ∧ act.dev.enginesIn rlRELAY = [] ∧ act.dev.role 26 ≠ rlACTIVE ∧
      28 ≤ (28 : Fin 32).val) ∧
    (two.inReset = false ∧ two.enginesIn rlRELAY = [0] ∧ two.role 27 = rlACTIVE ∧ Claims.calm two 27) ∧ swap.cv.swap.isSome = true ∧
    (two.cv.swap = none ∧ two.get CV_STATUS_UPDATE ≠ 1 ∧ two.has (CV_IMG_STATE_VALID 7) = true ∧ two.has (CV_IMG_STATE_VALID 6) = false ∧ Claims.calm two 0xFF) ∧
    ((onesOf 28 (two.get CV_UPD_MASK_MASK)).filter (fun e => two.role e == rlACTIVE) = [27] ∧
      (onesOf 28 ((two.put CV_UPD_MASK_MASK 0).get CV_UPD_MASK_MASK)) = []) ∧
    (Claims.calm swap 0xFF ∧ swap.get CV_STATUS_UPDATE ≠ 1 ∧ ¬ Claims.formatDiffers swap 7 ∧ ¬ Claims.needsMore swap 7 ∧ swap.cv.swap.isSome = true) ∧
    Claims.formatDiffers axis 7 ∧ (¬ Claims.formatDiffers heavy 7 ∧ Claims.needsMore heavy 7) ∧
    (go.inReset = false ∧ go.get CV_STATUS_UPDATE ≠ 1 ∧ go.has (CV_IMG_STATE_VALID 7) = true ∧ ¬ Claims.formatDiffers go 7 ∧ ¬ Claims.needsMore go 7 ∧
      Claims.calm go 0xFF ∧ Claims.masked go = [27] ∧ go.cv.swap = none ∧ go.cv.queue = [] ∧ 2 ≤ (go.enginesIn rlRELAY).length) ∧
    (next.get CV_STATUS_UPDATE = 1 ∧ next.cv.updAt + max 1 (next.get CV_SWAP_UPD_PERIOD) ≤ next.clk.beat ∧ next.cv.swap = none ∧ next.cv.queue = [] ∧
      next.cv.updLeft.filter (fun e => next.role e == rlACTIVE) = [27] ∧ 2 ≤ (next.enginesIn rlRELAY).length ∧ Claims.calm next 0xFF) ∧
    upd.get CV_STATUS_UPDATE = 1 ∧ upd.clk.beat < upd.cv.updAt + max 1 (upd.get CV_SWAP_UPD_PERIOD) ∧
    (due.get CV_STATUS_UPDATE = 1 ∧ due.cv.updAt + max 1 (due.get CV_SWAP_UPD_PERIOD) ≤ due.clk.beat ∧ due.cv.swap.isSome = true) ∧
    (use'.has (CV_IMG_STATE_IN_USE 7) = true ∧ two.has (CV_IMG_STATE_IN_USE 7) = false) ∧
    (inBulk 0 64 = false ∧ inBulk (bulkEnd - 64) 64 = true ∧ inBulk bulkBase 64 = true ∧ bulkBase / 64 * 64 = bulkBase) ∧
    (r.2.1 = none ∧ hdrOk bulkBase r.1 = true) ∧ hdrOk bulkBase (List.replicate 64 0) = false := by
  unfold Claims.calm Claims.formatDiffers Claims.needsMore; dsimp only
  repeat' apply And.intro
  all_goals decide +kernel

/-! ### Hypotheses that can be met: the ledger and its test space -/

/-- A message of a class, instance and kind. -/
def msgOf (c i k : Nat) : LMsg := ⟨c, i, k, 0, false, false, false, 0, 0⟩

/-- The ledger takes messages, and one waits. -/
def oneWaits (m : LMsg) (d : Device) : Device :=
  { d with ledger := { d.ledger with waiting := [m] }, boot := { d.boot with filling := false, checking := none } }

theorem witness_LedgerTakesItsMessages :
    let at_ := fun (c i k : Nat) => (made (oneWaits (msgOf c i k))).dev
    let full := { at_ 1 0 1 with qOcc := [(7, 100000)] }
    let held := (at_ 12 39 6).setLgSrc 0xC27 fun x => { x with state := 1 }
    let fill := { at_ 0 0 4 with boot := { (at_ 0 0 4).boot with filling := true } }
    let tbl := { at_ 4 191 1 with tables := [(0x121, { work := List.replicate 0x2008 0 ++ [6, 1, 3, 0, 1, 0, 0, 0] })] }
    (∀ c ∈ [0, 1, 3, 12, 15], (at_ c 0 1).inReset = false ∧ (at_ c 0 1).ledger.waiting = [msgOf c 0 1] ∧ (at_ c 0 1).boot.filling = false ∧
      (at_ c 0 1).boot.checking = none) ∧
    (fill.ledger.waiting ≠ [] ∧ fill.boot.filling = true) ∧ Claims.reaction (at_ 15 0 1) (msgOf 15 0 1) = 0 ∧
    (¬ Claims.reaches (at_ 1 0 1) (msgOf 1 0 1) ∧ Claims.reaction (at_ 1 0 1) (msgOf 1 0 1) ≠ 2) ∧ Claims.quietHeld held (msgOf 12 39 6) 0xC27 ∧
    (Claims.reaches (at_ 0 0 1) (msgOf 0 0 1) ∧ Claims.reaction (at_ 0 0 1) (msgOf 0 0 1) = 1) ∧
    (Claims.reaches (at_ 3 63 1) (msgOf 3 63 1) ∧ Claims.reaction (at_ 3 63 1) (msgOf 3 63 1) = 2 ∧ lgUnit 3 63 = none) ∧
    ((at_ 1 0 1).qFull 7 = false ∧ (at_ 1 0 1).injPending 15 0 2 = false) ∧
    (¬ Claims.reaches full (msgOf 1 0 1) ∧ full.qFull 7 = true ∧ full.ledger.q7gap = false ∧ full.mem.hard = []) ∧
    (Claims.reaches tbl (msgOf 4 191 1) ∧ Claims.reaction tbl (msgOf 4 191 1) = 6 ∧ tbl.has LG_STATUS_SAFE = false) ∧
    (Claims.reaches (at_ 0 0 4) (msgOf 0 0 4) ∧ Claims.reaction (at_ 0 0 4) (msgOf 0 0 4) = 7) ∧
    (Claims.reaches (at_ 12 39 6) (msgOf 12 39 6) ∧ Claims.reaction (at_ 12 39 6) (msgOf 12 39 6) = 2 ∧ lgUnit 12 39 = some 0xC27 ∧
      ((at_ 12 39 6).lgSrc 0xC27).state = 0 ∧ (at_ 12 39 6).recovNow 0xC27 < bits ((at_ 12 39 6).lgEntry 12 6).1 16 8) := by
  unfold Claims.quietHeld Claims.reaches; dsimp only
  repeat' apply And.intro
  all_goals decide +kernel

/-- The two halves of a key word. -/
theorem key_halves (x : Nat) (h : x < 65536) :
    (BitVec.ofNat 32 (0x7E57 * 65536 + x)).toNat / 65536 = 0x7E57 ∧ (BitVec.ofNat 32 (0x7E57 * 65536 + x)).toNat % 65536 = x := by
  rw [BitVec.toNat_ofNat, Nat.mod_eq_of_lt (by omega)]; omega

theorem witness_LedgerCommandsAndTestSpace :
    let src := fun (st : Nat) (f : LSource → LSource) => (made fun d => beat1 (d.setLgSrc 0xD11 fun x => f { x with state := st })).dev
    let run := (made (axisIn 191 axRUN id)).dev
    let key := fun (p : Nat) => (made fun d => { d with test := { d.test with readPath := some p } }).dev
    let lock := (made fun d => { d with test := { d.test with lock := true } }).dev
    let open_ := (made fun d => d.put LG_STATUS_TEST_OPEN 1).dev
    let late := { open_ with clk := { open_.clk with now := 100000000 * 3600 * 24 * 366 } }
    let svc := open_.put TG_STATUS_SERVICE 1
    (lgUnit 0 0 = none ∧ lgUnit 13 0x11 = some 0xD11 ∧ State.reset.dev.inReset = false) ∧
    ((src 0 id).lgSrc 0xD11).state ≠ 1 ∧
    (((src 1 fun x => { x with quietEnd := 100000000000 }).lgSrc 0xD11).state = 1 ∧
      ((src 1 fun x => { x with quietEnd := 100000000000 }).lgSrc 0xD11).quietEnd ≤ (src 1 id).clk.now ∧
      (src 1 id).clk.now < ((src 1 fun x => { x with quietEnd := 100000000001 }).lgSrc 0xD11).quietEnd ∧ 12 ≤ (13 : BitVec 8).toNat) ∧
    (192 ≤ (192 : BitVec 8).toNat ∧ (191 : BitVec 8).toNat < 192 ∧ run.axState 191 ≠ axOFF ∧ State.reset.dev.axState 191 = axOFF) ∧
    (∀ k < 192, State.reset.dev.axState k = axOFF) ∧ (∃ k, k < 192 ∧ run.axState k ≠ axOFF) ∧
    State.reset.dev.ledger.sources.wf (fun _ => {}) = true ∧
    (lock.test.lock = true ∧ (key 5).test.lock = false ∧ (key 5).test.readPath = some 5 ∧ (key 5).clk.beat ≤ (key 5).test.readBeat + 1000) ∧
    (let v : BitVec 32 := BitVec.ofNat 32 (0x7E57 * 65536 + ((key 5).nonce ^^^ 0xA5A5))
     v.toNat / 65536 = 0x7E57 ∧ v.toNat % 65536 = (key 5).nonce ^^^ 0xA5A5) ∧
    (late.has LG_STATUS_TEST_OPEN = true ∧ late.test.lastWrite + max 1 (late.get LG_CTRL_TEST_TMO) * 100000000 ≤ late.clk.now) ∧
    State.reset.dev.has LG_STATUS_TEST_OPEN = false ∧
    (open_.has LG_STATUS_TEST_OPEN = true ∧ injPoint 11 0 1 = true ∧ injPoint 15 0 4 = false ∧ open_.has TG_STATUS_SERVICE = false ∧
      svc.has TG_STATUS_SERVICE = true ∧ svc.has LG_STATUS_TEST_OPEN = true) := by
  have hn : ∀ d : Device, (d.nonce ^^^ 0xA5A5) < 65536 := fun d => Nat.xor_lt_two_pow (n := 16) (Nat.mod_lt _ (by decide)) (by decide)
  dsimp only
  repeat' apply And.intro
  all_goals first | decide +kernel | exact (key_halves _ (hn _)).1 | exact (key_halves _ (hn _)).2
/-! ### Hypotheses that can be met: memory management -/

theorem witness_ScrubbingAndPageRetirement :
    let at_ := fun (pos : Nat) => (made fun d => ({ d with mem := { d.mem with scrubPos := pos } }).put GL_MEM_STATUS_SCRUBBING 1).dev
    let bank := at_ (28 * scrubTile)
    let a := Claims.scrubAddr (28 * scrubTile)
    let corr := { bank with bulkErr := Store.set (fun _ => 0) [] (bank.bulkKey (a + 7)) 1 }
    let page := fun (p : Nat) => State.reset.dev.put GL_MEM_PAGE_PAGE p
    let copy := (made fun d => ({ d with mem := { d.mem with copying := some (bulkBase / 4096, 0) } }).put (GL_MEM_BANK_LEFT 0) 4).dev
    (State.reset.dev.inReset = false ∧ State.reset.dev.has GL_MEM_STATUS_SCRUBBING = false ∧ State.reset.dev.mem.copying = none) ∧
    ((at_ 0).inReset = false ∧ (at_ 0).has GL_MEM_STATUS_SCRUBBING = true ∧ (at_ 0).mem.scrubPos + 8 < scrubTotal) ∧
    ((at_ (scrubTotal - 8)).has GL_MEM_STATUS_SCRUBBING = true ∧ 28 * scrubTile ≤ (at_ (scrubTotal - 8)).mem.scrubPos ∧
      scrubTotal ≤ (at_ (scrubTotal - 8)).mem.scrubPos + 8) ∧
    (bank.inReset = false ∧ bank.has GL_MEM_STATUS_SCRUBBING = true ∧ bank.mem.scrubPos = 28 * scrubTile ∧ 28 * scrubTile + 8 < scrubTotal ∧
      bank.mem.copying = none ∧ Claims.cleanBytes bank a 8) ∧
    (corr.inReset = false ∧ corr.has GL_MEM_STATUS_SCRUBBING = true ∧ corr.mem.scrubPos = 28 * scrubTile ∧ corr.mem.copying = none ∧
      (∀ j < 8, j ≠ 7 → (corr.peek1 (a + j)).2 = 0) ∧ (corr.peek1 (a + 7)).2 = 1 ∧ corr.mem.hard.pick 0 (corr.bulkKey (a + 7)) = 0 ∧
      ∀ k ∈ [1, 2, 5], corr.injPending 10 (0x40 + bankOf a) k = false) ∧
    (copy.inReset = false ∧ copy.mem.copying = some (bulkBase / 4096, 0) ∧
      (∀ i < 4096, copy.mem.hard.pick 0 (copy.bulkKey (bulkBase / 4096 * 4096 + i)) = 0 ∧
        copy.mem.hard.pick 0 (spareKey (bankOf (bulkBase / 4096 * 4096)) 0 i) = 0) ∧
      copy.get (GL_MEM_BANK_LEFT (bankOf (bulkBase / 4096 * 4096))) ≤ 4) ∧
    (inBulk ((page 0).get GL_MEM_PAGE_PAGE * 4096) 4096 = false ∧ (page 0).mem.copying = none) ∧
    (∀ p ∈ [bulkBase / 4096, bulkEnd / 4096 - 1], (page p).inReset = false ∧ (page p).mem.copying = none ∧
      inBulk ((page p).get GL_MEM_PAGE_PAGE * 4096) 4096 = true ∧
      (page p).get (GL_MEM_BANK_LEFT (bankOf ((page p).get GL_MEM_PAGE_PAGE * 4096))) ≠ 0 ∧
      (page p).freeSpare (bankOf ((page p).get GL_MEM_PAGE_PAGE * 4096)) = some 0) ∧
    ((page (bulkBase / 4096)).put (GL_MEM_BANK_LEFT 0) 0).get (GL_MEM_BANK_LEFT (bankOf bulkBase)) = 0 := by
  unfold Claims.cleanBytes; dsimp only
  repeat' apply And.intro
  all_goals first | exact fun _ _ => ⟨rfl, rfl⟩ | decide +kernel

/-! ### Hypotheses that can be met: the tollgate -/

/-- A field of the tollgate's configuration in force set. -/
def cfg (f : Fld) (v : Nat) (d : Device) : Device :=
  d.setTg fun t => { t with cfg := Store.set resetWord t.cfg f.addr (insBits (Store.get resetWord t.cfg f.addr) f.lo f.width v) }

/-- Zone 7, with axis 191, in a state since field time 0, now much later, with what `f` sets of it. -/
def zone7 (st : Nat) (f : TgZone → TgZone) (d : Device) : Device :=
  (cfg (TG_Z_AXES_AXES 7 5) 0x80000000 ((d.setZone 7 f).setTg fun t => { t with time := 10 ^ 12 })).put (TG_Z_STATUS_STATE 7) st

theorem witness_TollgateWatchesItsChannels :
    let en := cfg (TG_SI_CTRL_EN 7) 1 State.reset.dev
    let open_ := cfg (TG_SI_CTRL_FILT 7) 0 en
    let differ := fun (t : Nat) => (en.setIn 7 fun q => { q with differ := some (0, 0) }).setTg fun g => { g with time := t }
    let fault := (differ 50000).setIn 7 fun q => { q with fault := 1 }
    let pulse := cfg (TG_SI_CTRL_SRC_A 7) 3 en
    let off := pulse.setIn 7 fun q => { q with demand := true, demandAt := 10 ^ 12 }
    let closed := pulse.setTg fun t => { t with contacts := t.contacts.upd {} 14 fun c => { c with closed := true } }
    let ot := (cfg (TG_SO_CTRL_OT_EN 3) 1 State.reset.dev).put (TG_SO_STATUS_ON 3) 1
    let testing := ot.put (TG_SO_STATUS_TESTING 3) 1
    let stale := State.reset.dev.put (TG_STO_AGE_HOURS 15) 168
    (State.reset.dev.inReset = false ∧ (State.reset.dev.tgIn 7).differ = none ∧ State.reset.dev.tgGet (TG_SI_CTRL_EN 7) ≠ 1) ∧
    (open_.inReset = false ∧ open_.tgGet (TG_SI_CTRL_EN 7) = 1 ∧ open_.tgSrc 7 0 = 15 ∧ open_.tgSrc 7 1 = 15 ∧ open_.tgGet (TG_SI_CTRL_FILT 7) = 0 ∧
      bits (0 : BitVec 256).toNat (32 * 7) 32 = 0 ∧ bit ((cfg (TG_Z_IN_STO_IN 7) 0x80 open_).tgGet (TG_Z_IN_STO_IN 7)) 7 = true) ∧
    (fault.tgGet (TG_SI_CTRL_EN 7) = 1 ∧ (fault.tgIn 7).fault = 1) ∧
    ((differ 0).inReset = false ∧ ((differ 0).tgIn 7).differ = some (0, 0) ∧ (differ 0).tg.time < 0 + (differ 0).tgGet (TG_SI_CTRL_DISC 7) * 1000) ∧
    ((differ 50000).tgGet (TG_SI_CTRL_EN 7) = 1 ∧ ((differ 50000).tgIn 7).differ = some (0, 0) ∧ ((differ 50000).tgIn 7).fault ≠ 1 ∧
      0 + (differ 50000).tgGet (TG_SI_CTRL_DISC 7) * 1000 ≤ (differ 50000).tg.time) ∧
    (pulse.inReset = false ∧ (∀ i < 8, i ≠ 7 → pulse.tgGet (TG_SI_CTRL_EN i) = 0) ∧ pulse.tgGet (TG_SI_CTRL_EN 7) = 1 ∧ pulse.tgSrc 7 0 = 3 ∧
      pulse.tgSrc 7 1 ≠ 3 ∧ bit (0 : BitVec 16).toNat (2 * 7 + 1) = false ∧ (pulse.tgIn 7).demand = false ∧ (pulse.tgContact 7 0).closed = false) ∧
    (off.tgGet (TG_SI_CTRL_EN 7) = 1 ∧ off.tgSrc 7 0 = 3 ∧ off.tgSrc 7 1 ≠ 3 ∧ (off.tgIn 7).demand = true ∧
      off.tg.time - off.tgPulseAge 3 off.tg.time ≤ (off.tgIn 7).demandAt ∧ (off.tgIn 7).fault = 0) ∧
    ((closed.tgContact 7 0).closed = true ∧ (closed.tgIn 7).demand = false ∧ closed.tgSrc 7 0 = 3 ∧ bit (0x4000 : BitVec 16).toNat (2 * 7) = true) ∧
    (ot.inReset = false ∧ ot.tgGet (TG_SO_CTRL_OT_EN 3) = 1 ∧ ot.has (TG_SO_STATUS_ON 3) = true ∧ ot.has (TG_SO_STATUS_TESTING 3) = false ∧
      testing.inReset = false ∧ testing.has (TG_SO_STATUS_TESTING 3) = true ∧ State.reset.dev.has (TG_SO_STATUS_ON 3) = false) ∧
    (stale.inReset = false ∧ stale.tgGet TG_STO_TEST_STO_TEST_H ≤ stale.get (TG_STO_AGE_HOURS 15) ∧ bit (stale.get TG_STO_STALE_STALE) 15 = false ∧
      ¬ State.reset.dev.tgGet TG_STO_TEST_STO_TEST_H ≤ State.reset.dev.get (TG_STO_AGE_HOURS 15)) := by
  dsimp only
  repeat' apply And.intro
  all_goals decide +kernel

theorem witness_ZonesTimeMonitorAndHandOver :
    let at_ := fun (st : Nat) => (made (zone7 st id)).dev
    let limp := (made (zone7 zSLS fun z => { z with limp := true })).dev
    let mon := fun (viol miss : Nat) => (made fun d => (zone7 zSLS (fun z => { z with monitor := true }) { d with clk := { d.clk with running := true } }).setTg
      fun t => { t with speeds := t.speeds.upd {} 191 fun _ => ⟨viol, miss, 0⟩ }).dev.livePut (AX_FB_STATUS_PRI_VALID 191) 1
    let fast := fun (viol : Nat) => ((mon viol 0).wrN (AX_PL_SP_VEL 191 + 4) 1)
    let slow := ({ at_ zSLS with clk := { (at_ zSLS).clk with running := true } }).livePut (AX_FB_STATUS_PRI_VALID 191) 1
    (State.reset.dev.inReset = false ∧ State.reset.dev.tgState 7 ≠ zSS1 ∧ State.reset.dev.tgState 7 ≠ zSLS ∧ (State.reset.dev.tgZone 7).limp = false ∧
      State.reset.dev.tgZoneOf 191 = none ∧ (State.reset.dev.tgZone 7).accepted = State.reset.dev.tgState 7) ∧
    ((at_ zSS1).inReset = false ∧ (at_ zSS1).tgState 7 = zSS1 ∧
      ((at_ zSS1).tgZone 7).start + max 1 ((at_ zSS1).tgGet (TG_Z_TIME_SS1_TIME 7)) * 1000 ≤ (at_ zSS1).tg.time ∧
      (cfg (TG_Z_CTRL_RESTART 7) 1 (at_ zSS1)).tgGet (TG_Z_CTRL_RESTART 7) = 1) ∧
    ((at_ zSLS).tgState 7 = zSLS ∧ ((at_ zSLS).tgZone 7).start + (at_ zSLS).tgGet (TG_Z_TIME_SLS_RAMP 7) * 1000 ≤ (at_ zSLS).tg.time) ∧
    (limp.inReset = false ∧ (limp.tgZone 7).limp = true ∧
      (limp.tgZone 7).limpFrom + min 60 (max 1 (limp.tgGet (TG_Z_CTRL_LIMP_MIN 7))) * 60000000 ≤ limp.tg.time) ∧
    ((at_ zRUN).tgZoneOf 191 = some 7 ∧ (at_ zRUN).tgState 7 ≠ zSLS) ∧
    (slow.inReset = false ∧ slow.tgZoneOf 191 = some 7 ∧ slow.tgState 7 = zSLS ∧ Claims.speedFine slow 191 true ∧ (slow.tgZone 7).monitor = false ∧
      ¬ Claims.speedFine slow 191 false) ∧
    ((mon 0 0).tgZoneOf 191 = some 7 ∧ (mon 0 0).tgState 7 = zSLS ∧ ((mon 0 0).tgZone 7).monitor = true ∧ Claims.speedFine (mon 0 0) 191 true ∧
      ¬ Claims.tooFast (mon 0 0) 7 191 ∧ ((mon 0 0).tg.speeds.pick {} 191).miss = 0 ∧ ((mon 0 1).tg.speeds.pick {} 191).miss = 1 ∧
      (mon 0 1).tgState 7 = zSLS ∧ (mon 0 1).tgZoneOf 191 = some 7) ∧
    (∀ viol < 2, (fast viol).inReset = false ∧ (fast viol).tgZoneOf 191 = some 7 ∧ (fast viol).tgState 7 = zSLS ∧ ((fast viol).tgZone 7).monitor = true ∧
      Claims.speedFine (fast viol) 191 true ∧ Claims.tooFast (fast viol) 7 191 ∧ ((fast viol).tg.speeds.pick {} 191).viol = viol ∧
      max 1 ((fast viol).tgGet (TG_Z_CTRL_SLS_BEATS 7)) = 2) ∧
    ((at_ zRUN).inReset = false ∧ ((at_ zRUN).tgZone 7).accepted ≠ (at_ zRUN).tgState 7 ∧
      ((State.reset.dev.put (TG_Z_STATUS_STATE 7) zRUN).tgZone 7).accepted ≠ (State.reset.dev.put (TG_Z_STATUS_STATE 7) zRUN).tgState 7 ∧
      (State.reset.dev.put (TG_Z_STATUS_STATE 7) zRUN).tgAxes 7 = []) ∧
    (let sto := (made (zone7 zSTO fun z => { z with accepted := zRUN })).dev
     sto.inReset = false ∧ (sto.tgZone 7).accepted ≠ sto.tgState 7 ∧ sto.tgState 7 = zSTO) := by
  unfold Claims.speedFine Claims.tooFast; dsimp only
  repeat' apply And.intro
  all_goals decide +kernel

/-- A fold that evaluates its value in every step, for the kernel. -/
def strictFold (f : Nat → BitVec 8 → Nat) (c : Nat) : List (BitVec 8) → Nat
  | [] => c
  | b :: bs =>
    match f c b with
    | 0 => strictFold f 0 bs
    | n + 1 => strictFold f (n + 1) bs

theorem strictFold_eq (f : Nat → BitVec 8 → Nat) (bs : List (BitVec 8)) (c : Nat) : strictFold f c bs = bs.foldl f c := by
  induction bs generalizing c with
  | nil => rfl
  | cons b bs ih =>
    rw [strictFold, List.foldl_cons]
    split <;> rename_i h <;> rw [ih, h]

/-- The CRC of a configuration by that fold. -/
def strictCrc (d : Device) : Nat :=
  (strictFold (fun c b => [0, 1, 2, 3, 4, 5, 6, 7].foldl (fun c _ => if c % 2 = 1 then c / 2 ^^^ 0xEDB88320 else c / 2) (c ^^^ b.toNat)) 0xFFFFFFFF
    (tgCfgAddrs.flatMap (fun a => leBytes (d.rdN a) 4))) ^^^ 0xFFFFFFFF

theorem tgCrc_eq (d : Device) : d.tgCrc = strictCrc d := by
  unfold strictCrc
  rw [strictFold_eq]
  rfl

theorem witness_TollgateCommands :
    let lat := fun (chan bad : Nat) => ((made (zone7 zSTO fun z => { z with latched := [⟨chan, 10, true⟩] })).dev.setTg fun t => { t with outBad := t.outBad.upd 0 3 fun _ => bad })
    let svc := State.reset.dev.put TG_STATUS_SERVICE 1
    let good := svc.wrN TG_APPLY_CRC 2982859252
    let bad := (svc.put TG_TEST_TP_PERIOD 0).wrN TG_APPLY_CRC 946391840
    let other := svc.wrN TG_APPLY_CRC 2982859253
    (State.reset.dev.inReset = false ∧ (∀ z < 8, (State.reset.dev.tgZone z).latched = []) ∧ State.reset.dev.tgService = false) ∧
    ((lat 0 0).inReset = false ∧ ((lat 0 0).tgZone 7).latched = [⟨0, 10, true⟩] ∧ (128 : BitVec 8).toNat = 2 ^ 7) ∧
    (((lat 0x23 0).tgZone 7).latched = [⟨0x20 + 3, 10, true⟩] ∧ (lat 0x23 0).tg.outBad.pick 0 3 = 0 ∧ (lat 0x23 0).inReset = false) ∧
    (((lat 0x23 1).tgZone 7).latched = [⟨0x20 + 3, 10, true⟩] ∧ (lat 0x23 1).tg.outBad.pick 0 3 ≠ 0 ∧ (lat 0x23 1).inReset = false) ∧
    (5 < (6 : Fin 36).val ∧ 1 ≤ (5 : Fin 36).val ∧ (5 : Fin 36).val ≤ 5) ∧
    (other.inReset = false ∧ other.tgService = true ∧ other.rdN TG_APPLY_CRC ≠ other.tgCrc) ∧
    (bad.inReset = false ∧ bad.tgService = true ∧ bad.rdN TG_APPLY_CRC = bad.tgCrc ∧ bad.tgCfgOk = false) ∧
    (good.inReset = false ∧ good.tgService = true ∧ good.rdN TG_APPLY_CRC = good.tgCrc ∧ good.tgCfgOk = true) := by
  dsimp only
  simp only [tgCrc_eq]
  repeat' apply And.intro
  all_goals decide +kernel

/-! ### Hypotheses that can be met: field I/O -/

/-- Field channel 39 as an output, with what `f` sets of it. -/
def out39 (f : FioCh → FioCh) (d : Device) : Device := (d.put (FIO_CH_CTRL_MODE 39) 2).setFio 39 f

theorem witness_FieldLevelsAndOutputs :
    let s := State.reset.dev
    let old := s.setFio 39 fun q => { q with resetAt := 1 }
    let inv := s.put (FIO_CH_STATUS_INVALID 39) 1
    let rev := s.put FIO_STATUS_REVERSED 1
    let out := (made (out39 id)).dev
    (s.inReset = false ∧ ¬ (s.clk.now < (s.fio 39).resetAt ∨ s.has (FIO_CH_STATUS_INVALID 39) = true ∨ s.has FIO_STATUS_REVERSED = true) ∧
      s.fioLevel 39 = false) ∧
    (old.inReset = false ∧ old.clk.now < (old.fio 39).resetAt) ∧ (inv.inReset = false ∧ inv.has (FIO_CH_STATUS_INVALID 39) = true) ∧
    (rev.inReset = false ∧ rev.has FIO_STATUS_REVERSED = true) ∧
    (out.inReset = false ∧ Claims.isOut out 39 ∧ bit (0x80 : BitVec 32).toNat (39 - 32) = true ∧ ¬ Claims.isOut out 38 ∧
      bit (0x40 : BitVec 32).toNat (38 - 32) = true) ∧
    (bits (3 : BitVec 32).toNat 0 2 = 3 ∧ bits (2 : BitVec 32).toNat 0 2 ≠ 3 ∧ ¬ bits ((2 : BitVec 32).toNat &&& 0x0FFF031B) 0 2 = s.fioMode 39) ∧
    (bits ((0x0FFF0002 : BitVec 32).toNat &&& 0x0FFF031B) 0 2 = out.fioMode 39 ∧
      bits ((0x0FFF0002 : BitVec 32).toNat &&& 0x0FFF031B) 16 12 ≠ out.get (FIO_CH_CTRL_THRESH 39)) ∧
    (let w := (BitVec.ofNat 32 (out.rdN (FIO_CH_CTRL 39))).toNat &&& 0x0FFF031B
     bits w 0 2 = out.fioMode 39 ∧ bits w 3 1 = out.get (FIO_CH_CTRL_TYPE 39) ∧ bits w 16 12 = out.get (FIO_CH_CTRL_THRESH 39)) := by
  unfold Claims.isOut; decide +kernel

theorem witness_FieldFaultsAndWatchdog :
    let s := State.reset.dev
    let at_ := fun (f : FioCh → FioCh) => (made fun d => out39 f { d with clk := { d.clk with now := 10 ^ 12 } }).dev
    let on := at_ fun q => { q with on := true, cmd := true }
    let off := at_ fun q => { q with cmd := true }
    let retry := fun (d : Device) => d.put (FIO_CH_STATUS_RETRY 39) 1
    let inv := s.put (FIO_CH_STATUS_INVALID 39) 1
    let used := s.put (FIO_GRP_SPARE_USED 4) 1
    let some8001 : List (BitVec 16) := 8001 :: List.replicate 39 0
    let grp := fun (f : FioGrp → FioGrp) => { on with fioGrp := on.fioGrp.upd {} 4 f }
    let lost := grp fun q => { q with live := true }
    let late := grp fun q => { q with live := true, expired := true }
    let cut := at_ fun q => { q with on := true, cutAt := some 0 }
    let good := { on with field := { on.field with goodSince := some 0 } }
    (s.inReset = false ∧ s.fioChecked 39 2 = false ∧ ¬ (Claims.isOut s 39 ∧ (s.fio 39).on = true) ∧ s.has (FIO_CH_STATUS_RETRY 39) = false) ∧
    (on.inReset = false ∧ on.fioChecked 39 2 = true ∧ bit (on.fio 39).fault 2 = false ∧ Claims.isOut on 39 ∧ (on.fio 39).on = true) ∧
    (off.fioChecked 39 3 = true ∧ off.fioChecked 39 5 = true ∧ false ≠ (off.fio 39).cmd ∧ setBit (off.fio 39).fault 5 false = 0 ∧
      off.has (FIO_CH_STATUS_RETRY 39) = false) ∧
    bit ((at_ fun q => { q with fault := 8 }).fio 39).fault 3 = true ∧
    (∀ d ∈ [retry on, retry off], d.inReset = false ∧ d.has (FIO_CH_STATUS_RETRY 39) = true ∧ (d.fio 39).cmd = true ∧
      (d.fio 39).tryAt + 10000000 ≤ d.clk.now) ∧ ((retry on).fio 39).on = true ∧ ((retry off).fio 39).on = false ∧
    (inv.has (FIO_CH_STATUS_INVALID 39) = true ∧ s.has (FIO_CH_STATUS_INVALID 39) = false ∧ used.has (FIO_GRP_SPARE_USED 4) = true ∧
      s.has (FIO_GRP_SPARE_USED 4) = false ∧ (s.fioGrp.pick {} 4).spareBad = false ∧ (44 : Fin 45).val - 40 = 4 ∧ 40 ≤ (44 : Fin 45).val) ∧
    ((List.replicate 40 (200 : BitVec 16)).length = 40 ∧ ((List.replicate 40 (200 : BitVec 16)).map (·.toNat)).sum = 8000 ∧
      some8001.length = 40 ∧ (some8001.map (·.toNat)).sum = 8001) ∧
    (let dark := (List.range 40).foldl (fun (d : Device) c => (d.put (FIO_CH_CTRL_MODE c) 2).setFio c fun q => { q with on := true }) s
     ∀ c < 40, ((dark.fioMode c == 2) && (dark.fio c).on) = true) ∧
    (on.injPending 12 0 8 = false ∧ (19199 : BitVec 17).toInt < 19200 ∧ ¬ ((30000 : BitVec 17).toInt < 19200 ∨ 30000 < (30000 : BitVec 17).toInt) ∧
      on.field.warned = false ∧ (BitVec.ofInt 17 (-1)).toInt < 0 ∧ 17000 ≤ (17000 : BitVec 17).toInt ∧ 18000 < (18001 : BitVec 17).toInt ∧
      good.field.goodSince = some 0 ∧ 0 + 1000000 ≤ good.clk.now ∧ 32767 < (65535 : BitVec 17).toInt ∧ on.has FIO_STATUS_REVERSED = false) ∧
    (s.inReset = false ∧ (s.fioGrp.pick {} 4).live = false ∧ (∀ c ∈ groupCh 4, (s.fio c).cutAt = none) ∧ Claims.groupCalm s 4) ∧
    (cut.inReset = false ∧ (cut.fio 39).cutAt = some 0 ∧ 39 ∈ groupCh 4 ∧ 0 + min 10000 (max 1 (cut.fioGrp.pick {} 4).wdog) * 10000 ≤ cut.clk.now ∧
      (cut.fioGrp.pick {} 4).live = false) ∧
    (lost.inReset = false ∧ (lost.fioGrp.pick {} 4).live = true ∧ (lost.fioGrp.pick {} 4).expired = false ∧
      (lost.fioGrp.pick {} 4).lastFrame + min 10000 (max 1 (lost.fioGrp.pick {} 4).wdog) * 10000 ≤ lost.clk.now) ∧
    (late.inReset = false ∧ (late.fioGrp.pick {} 4).expired = true ∧ Claims.groupCalm late 4 ∧ (∀ c ∈ groupCh 4, (late.fio c).cutAt = none)) := by
  unfold Claims.isOut Claims.groupCalm; dsimp only
  repeat' apply And.intro
  all_goals decide +kernel

/-! ### Hypotheses that can be met: the recorder -/

/-- The block with channel 63 of the recorder from a source of kind `k`, a buffer of 4 frames, and a state. -/
def records (k st : Nat) (f : Rec → Rec) (d : Device) : Device :=
  ((((((({ d with clk := { d.clk with running := true, beat := 9, tick := 1599, deadline := 1598 } }.setRc f).put
    (RC_CH_SRC_KIND_BIT 63) k).wrN RC_BUF_BASE 0x02000000).wrN RC_BUF_SIZE 0x1000).wrN RC_FRAMES 4).wrN RC_PRE 1).put RC_STATUS_STATE st).put RC_COMB_MODE 0

theorem witness_RecorderArmsWritesAndSends :
    let d := fun (k st : Nat) (f : Rec → Rec) => (made (records k st f)).dev
    let cap := fun (r : Rec) => { r with period := 1600, cap := 4, bytes := 8 }
    let fast := fun (r : Rec) => { r with period := 100, cap := 4, bytes := 8 }
    let due := d 5 rcPOST fun r => { r with sendDue := true }
    let full := { due with qOcc := Store.set (fun _ => 0) due.qOcc 6 (due.qSize 6) }
    let early := fun (t : Nat) => let x := d 1 rcARMED cap; { x with clk := { x.clk with tick := t } }
    let mid := let x := d 5 rcARMED fast; { x with clk := { x.clk with tick := 150 }, rc := { x.rc with lastInst := some (9, 1) } }
    let off := { d 5 rcARMED cap with clk := { (d 5 rcARMED cap).clk with running := false } }
    (State.reset.dev.inReset = false ∧ State.reset.dev.injPending 15 0x10 3 = false ∧ State.reset.dev.rcState = rcIDLE ∧
      State.reset.dev.rcArmCode ≠ 0) ∧
    (∀ st < 4, (d 5 st id).inReset = false ∧ (d 5 st id).injPending 15 0x10 3 = false ∧ (d 5 st id).rcState = st) ∧
    ((d 5 rcIDLE id).rcState = rcIDLE ∧ (d 5 rcIDLE id).rcArmCode = 0) ∧ (d 5 rcHELD id).has RC_CTRL_REPEAT = false ∧
    (due.rcState = rcPOST ∧ due.rc.sendDue = true ∧ due.qFull 6 = false ∧ full.rc.sendDue = true ∧ full.qFull 6 = true) ∧
    ((d 5 rcARMED id).rc.sendDue = false ∧ (d 5 rcARMED id).rc.opened = [] ∧
      (d 5 rcARMED fun r => { r with opened := [⟨0, []⟩] }).rc.opened ≠ []) ∧
    (Claims.captures (d 5 rcARMED cap) ∧ (d 5 rcARMED cap).rcInstant = some 0 ∧ (d 5 rcARMED cap).rc.armedAt < mkStamp 9 0 ∧
      (d 5 rcARMED cap).rc.lastInst ≠ some (9, 0) ∧ (∀ c ∈ (d 5 rcARMED cap).rcChannels, (d 5 rcARMED cap).rcLate c = false) ∧
      (d 5 rcARMED cap).rc.trig = none ∧ (∀ u < 4, (d 5 rcARMED cap).get (RC_TRG_CTRL_KIND u) = 0) ∧
      (d 5 rcARMED cap).get RC_COMB_MODE = 0 ∧ 0 < (d 5 rcARMED cap).rdN RC_FRAMES ∧ (d 5 rcARMED cap).rc.force = false ∧
      (d 5 rcARMED fun r => { cap r with force := true }).rc.force = true) ∧
    (let x := d 5 rcARMED fun r => { cap r with period := 3200 }
     Claims.captures x ∧ x.rc.len ≤ x.rc.period ∧ x.rcInstant = some 0 ∧
      { x with clk := { x.clk with beat := 10 } }.rcInstant = none) ∧ ¬ Claims.captures off ∧ off.inReset = false ∧
    (Claims.captures (early 5) ∧ (early 5).rcInstant = some 0 ∧ 63 ∈ (early 5).rcChannels ∧ (early 5).rcLate 63 = true ∧
      (early 5).clk.tick < (early 5).clk.deadline) ∧
    (Claims.captures mid ∧ mid.rcInstant = some 1 ∧ mid.rc.lastInst = some (mid.clk.beat, 1) ∧ mid.rc.period < mid.rc.len ∧
      mid.clk.tick < 200 ∧ 200 < mid.clk.curLen) := by
  unfold Claims.captures; dsimp only
  repeat' apply And.intro
  all_goals decide +kernel
/-! ### Hypotheses that can be met: device time and the ports -/

/-- The block an hour after reset with the time clock in a state, its SOURCE, and what `f` sets of the time unit. -/
def timed (st src : Nat) (f : Tm → Tm) : Device :=
  let d := State.reset.dev
  ((({ d with clk := { d.clk with now := 360000000000 } }.setTm f).put TB_TM_STATUS_STATE st).put TB_TM_CTRL_SOURCE src)

theorem witness_DeviceTimeIsSetHeldAndAligned :
    let hold := fun (at_ : Nat) => (timed 3 1 fun t => { t with holdAt := at_ }).put TB_TM_STATUS_QUALIFIED 1
    let quick := fun (st src : Nat) => timed st src fun t => { t with syncAt := 359999999999, interval := 1000000000 }
    let sec := fun (off : Int) => { ((timed 2 1 fun t => { t with off := off }).put TB_TM_STATUS_QUALIFIED 1).put TB_TRIM_ALIGN_EN 1 with
      clk := { now := 360000000000, tick := 7, running := true } }
    (∀ st < 4, ∀ src < 3, (timed st src id).inReset = false ∧ (timed st src id).tmState = st ∧ (timed st src id).tmSource = src) ∧
    (∀ st ∈ [1, 2], ∀ src ∈ [0, 2], (timed st src id).sourceSilent = true ∧ (quick st src).sourceSilent = false ∧
      (quick st src).tmState = st ∧ (quick st src).tmSource = src ∧ (quick st src).inReset = false) ∧
    ((hold 0).inReset = false ∧ (hold 0).tmState = 3 ∧ (hold 0).has TB_TM_STATUS_QUALIFIED = true ∧
      0 + (hold 0).get TB_TM_QUAL_HOLD_QUAL * 100000000 ≤ (hold 0).clk.now) ∧
    ¬ 360000000000 + (hold 360000000000).get TB_TM_QUAL_HOLD_QUAL * 100000000 ≤ (hold 360000000000).clk.now ∧
    (State.reset.dev.timeNs / 1000000000 = State.reset.dev.tm.secDone) ∧
    ((sec 0).inReset = false ∧ (sec 0).timeNs / 1000000000 ≠ (sec 0).tm.secDone ∧ (sec 0).has TB_TRIM_ALIGN_EN = true ∧
      (sec 0).has TB_TM_STATUS_QUALIFIED = true ∧ (sec 0).clk.running = true ∧ (sec 0).phaseErr ≠ 0 ∧ (sec 70).phaseErr = 0 ∧
      (sec 70).timeNs / 1000000000 ≠ (sec 70).tm.secDone ∧ (sec 70).inReset = false) ∧
    ((timed 2 1 id).refUsable (1 - (timed 2 1 id).get TB_TM_STATUS_REF) = true ∧
      20000 < ((20001 : BitVec 16).toInt - (0 : BitVec 16).toInt).natAbs ∧ ¬ 20000 < ((20000 : BitVec 16).toInt - (0 : BitVec 16).toInt).natAbs) ∧
    (let b := ((timed 1 1 id).put TB_TM_CTRL_REVERT 1).put TB_TM_STATUS_REF 1
     b.inReset = false ∧ b.has TB_TM_CTRL_REVERT = true ∧ b.get TB_TM_STATUS_REF = 1 ∧ b.refUsable 0 = true) ∧
    ((timed 3 1 id).put TB_TM_CTRL_PPS_EN 1).has TB_TM_CTRL_PPS_EN = true := by
  dsimp only
  repeat' apply And.intro
  all_goals decide +kernel

theorem witness_PulsesAndReferences :
    let pps := fun (armed : Bool) => timed 0 2 fun t => { t with armed := armed }
    let match_ := (timed 2 1 id).put TB_SYNC_CTRL_OUT_MODE 2
    let pulse := fun (e : Nat) => timed 2 1 fun t => { t with ppsOut := true, ppsEnd := e, syncOut := true, syncEnd := e }
    let failed := fun (m : Nat) => timed 2 1 fun t => { t with refFailed := m }
    ((timed 0 1 id).inReset = false ∧ (timed 0 1 id).tmSource ≠ 2 ∧ (timed 0 1 id).has TB_SYNC_CTRL_IN_EN = false) ∧
    (∀ a : Bool, (pps a).inReset = false ∧ (pps a).tmSource = 2 ∧ (pps a).tmState = 0 ∧ (pps a).tm.armed = a) ∧
    ((timed 0 1 id).put TB_SYNC_CTRL_IN_EN 1).has TB_SYNC_CTRL_IN_EN = true ∧
    (match_.inReset = false ∧ match_.get TB_SYNC_CTRL_OUT_MODE = 2 ∧ match_.tm.matched = false ∧ match_.syncAtNs ≤ match_.timeNs ∧
      (timed 2 1 id).get TB_SYNC_CTRL_OUT_MODE ≠ 2) ∧
    ((pulse 360000000000).inReset = false ∧ (pulse 360000000000).tm.ppsOut = true ∧ (pulse 360000000000).tm.ppsEnd ≤ (pulse 360000000000).clk.now ∧
      (pulse 360000000000).tm.syncOut = true ∧ (pulse 360000000000).tm.syncEnd ≤ (pulse 360000000000).clk.now) ∧
    ((pulse 360000000001).clk.now < (pulse 360000000001).tm.ppsEnd ∧ (pulse 360000000001).clk.now < (pulse 360000000001).tm.syncEnd) ∧
    (bit (failed 1).tm.refFailed 0 = true ∧ bit (failed 1).tm.refFailed 1 = false ∧ (failed 1).refUsable (1 - (1 : Fin 2).val) = false ∧
      (failed 1).get TB_TM_STATUS_REF ≠ (1 : Fin 2).val ∧ bit (failed 2).tm.refFailed 0 = false ∧ (failed 2).refUsable 1 = false ∧
      (failed 2).get TB_TM_STATUS_REF = 0 ∧ (failed 0).refUsable 1 = true ∧ (failed 0).get TB_TM_STATUS_REF = 0 ∧ (failed 0).inReset = false) := by
  dsimp only
  repeat' apply And.intro
  all_goals decide +kernel

/-- A PTP message of a type as a frame from source 5, two steps or one. -/
def ptpFrame (kind : Nat) (two : Bool) : List (BitVec 8) :=
  [0x01, 0x1B, 0x19, 0, 0, 1, 2, 0, 0, 0, 0, 3, 0x88, 0xF7, BitVec.ofNat 8 kind, 2, 0, 44, 0, 0, if two then 2 else 0, 0] ++
    List.replicate 18 0 ++ [0, 5, 0, 1] ++ List.replicate 14 0

/-- Both ports in use and linked; port 0 in a PTP state with the parent 7, the time clock as `timed` has it. -/
def linked (st src ptp : Nat) (f : Tm → Tm) : Device :=
  let d := ((((((timed st src f).put (EN_P_CTRL_EN 0) 1).put (EN_P_CTRL_EN 1) 1).put (EN_P_STATUS_LINK 0) 1).put (EN_P_STATUS_LINK 1) 1).put
    (EN_P_STATUS_PTP_STATE 0) ptp).put TB_TM_STATUS_TRANSPARENT 1
  { d with net := { d.net with mac := 0x020000000001, parent := some (0, 7 * 65536 + 1) } }

theorem witness_PortsAndPtpMessages :
    let parent : BitVec 80 := 7 * 65536 + 1
    let d := linked 2 1 2 id
    let fast := fun (st : Nat) (l : List Int) => linked st 1 2 fun t => { t with delays := l }
    let qual := fun (on good bad : Nat) => (linked 2 1 2 fun t => { t with delays := [0], good := good, bad := bad }).put TB_TM_STATUS_QUALIFIED on
    let bad := ((d.put (EN_P_STATUS_DUPLEX_BAD 0) 1).put (EN_P_STATUS_DUPLEX_BAD 1) 1)
    let due := { d with net := { d.net with fwd := [⟨0, 0, 0x50001, 0, 9⟩] } }
    let two := fun (at_ : Nat) => linked 2 0 2 fun t => { t with two := some ⟨0, parent.toNat, 9, 0, 0, 1000000000, at_⟩ }
    let asked := linked 2 1 2 fun t => { t with req := some (0, 9, 3), sync := some (1, 2, 0) }
    let frame : List (BitVec 8) := [2, 0, 0, 0, 0, 9, 2, 0, 0, 0, 0, 3, 8, 0] ++ List.replicate 46 0
    (d.inReset = false ∧ d.injPending 13 (0x10 + 0) 2 = false ∧ d.injPending 13 (0x10 + 1) 2 = false ∧ d.has (EN_P_STATUS_LINK 0) = true ∧
      State.reset.dev.has (EN_P_STATUS_LINK 0) = false) ∧
    (bad.portUsed 0 = false ∧ bad.inReset = false ∧ d.portUsed 0 = true ∧ d.laniferFrame 0 true frame = none) ∧
    (((d.learn 0x020000000003 0).forwards 0 frame && d.portUsed 1 && d.has (EN_P_STATUS_LINK 1)) = true ∧ (etherType frame).1 ≠ 0x88F7 ∧
      ((d.learn 0x020000000003 0).forwards 0 frame && bad.portUsed 1) = false) ∧
    (∀ kind < 12, ∀ w : Bool, let fr := ptpFrame kind w
      d.laniferFrame 0 true fr = none ∧ (etherType fr).1 = 0x88F7 ∧ ptpType fr 14 = kind ∧ ptpTwoStep fr 14 = w ∧
      ((d.learn 0x020000000003 0).forwards 0 fr && d.portUsed 1 && d.has (EN_P_STATUS_LINK 1)) = true ∧ d.transitOf 0 fr = none) ∧
    (due.inReset = false ∧ due.transitOf 0 (ptpFrame 8 false) = some ⟨0, 0, 0x50001, 0, 9⟩ ∧
      ((due.learn 0x020000000003 0).forwards 0 (ptpFrame 8 false) && due.portUsed 1 && due.has (EN_P_STATUS_LINK 1)) = true) ∧
    (d.fromParent 0 parent.toNat = true ∧ (0 : BitVec 8).toNat = bits d.net.ctrl.toNat 8 7 ∧ d.fromParent 1 parent.toNat = false ∧
      d.tm.two = none ∧ d.tm.delays = [] ∧ d.inReset = false) ∧
    (Claims.servoRuns (fast 0 [0]) ∧ (fast 0 [0]).tmState = 0 ∧ (fast 0 [0]).tm.firsts.length < 3 ∧ (fast 0 [0]).inReset = false ∧
      (fast 0 [0]).fromParent 0 parent.toNat = true) ∧
    (Claims.servoRuns (qual 0 0 0) ∧ (qual 0 0 0).tmState ≠ 0 ∧ (qual 0 0 0).inReset = false ∧ (qual 0 0 0).fromParent 0 parent.toNat = true ∧
      (qual 0 0 0).has TB_TM_STATUS_QUALIFIED = false ∧ (qual 1 0 0).has TB_TM_STATUS_QUALIFIED = true ∧
      (qual 0 0 0).tmOffset ((qual 0 0 0).time16 0 - (((qual 0 0 0).get (EN_P_LAT_RX_LAT 0) * 65536 : Nat) : Int))
        ((qual 0 0 0).time16 0 - (((qual 0 0 0).get (EN_P_LAT_RX_LAT 0) * 65536 : Nat) : Int)) 0 = 0 ∧
      1 < max 1 ((qual 0 0 0).get TB_TM_CTRL_QUAL_CNT) ∧ max 1 ((qual 0 255 0).get TB_TM_CTRL_QUAL_CNT) ≤ 256 ∧
      4 * ((qual 1 0 255).get TB_TM_QUAL_QUAL_NS * offUnit) < ((qual 1 0 255).tmOffset 0 (10 ^ 12) 0).natAbs) ∧
    (∀ at_ ∈ [0, 360000000000], (two at_).inReset = false ∧ (two at_).tm.two = some ⟨0, parent.toNat, 9, 0, 0, 1000000000, at_⟩ ∧ (two at_).tmSource ≠ 1) ∧
    (1000000000 < 10 * ((two 0).clk.now - 0) ∧ 10 * ((two 360000000000).clk.now - 360000000000) ≤ 1000000000) ∧
    (asked.inReset = false ∧ asked.tm.req = some (0, 9, 3) ∧ asked.tm.sync = some (1, 2, 0) ∧ asked.fromParent 0 parent.toNat = true ∧
      asked.fromParent 0 0 = false) ∧
    (d.net.mac ≠ 0 ∧ parent.toNat / 65536 ≠ clockId d.net.mac ∧ State.reset.dev.net.mac = 0) ∧
    (d.get (EN_P_STATUS_PTP_STATE 0) = 2 ∧ (linked 2 1 3 id).get (EN_P_STATUS_PTP_STATE 0) = 3 ∧ (linked 2 1 3 id).portUsed 0 = true ∧
      (linked 2 1 3 id).inReset = false ∧ d.qFull 8 = false ∧ { d with qOcc := Store.set (fun _ => 0) d.qOcc 8 (d.qSize 8) }.qFull 8 = true) := by
  unfold Claims.servoRuns; dsimp only
  repeat' apply And.intro
  all_goals decide +kernel
/-! ### Hypotheses that can be met: Lanifer -/

/-- The protocol engine answers, with session 4 as `q` has it. -/
def answers (q : Session) (d : Device := State.reset.dev) : Device :=
  ({ d with clk := { d.clk with running := true, now := 10 ^ 12 }, ln := { d.ln with sessions := d.ln.sessions.upd {} 4 fun _ => q } }).put QU_LN_CTRL_EN 1

/-- Session 4 open. -/
def ses4 : Session := { sid := 9, isOpen := true, at_ := 10 ^ 12, top := some 3 }

/-- Its request with SEQ 4 accepted. -/
def admitted4 (d : Device) : Device := Claims.admitted d 4 4

theorem witness_LaniferSessionsOpenAndClose :
    let keyed := fun (l : List (Nat × Nat)) => let d := answers {}; { d with ln := { d.ln with keys := [(200, [1, 2])], blocked := l } }
    let all := let d := answers {}; { d with ln := { d.ln with sessions := [1, 2, 3, 4].foldl (fun m k => m.upd {} k fun _ => ses4) [] } }
    let free := fun (d : Device) => [1, 2, 3, 4].find? (fun k => (d.ses k).sid == 0)
    let half := answers { sid := 9, key := 200 }
    let idle := answers { ses4 with at_ := 0 }
    (all.inReset = false ∧ all.lnEntry 2 0 1 4 = none ∧ all.lnAnswers = true ∧ (all.ses 0).isOpen = false ∧ free all = none) ∧
    ((keyed []).inReset = false ∧ (keyed []).lnEntry 2 0 1 4 = none ∧ (keyed []).lnAnswers = true ∧ ((keyed []).ses 0).isOpen = false ∧
      free (keyed []) = some 1 ∧ Store.get (fun _ => []) (keyed []).ln.keys 200 ≠ [] ∧ Store.get (fun _ => []) (keyed []).ln.keys 201 = [] ∧
      (keyed []).lnBlocked 5 = 0 ∧ 0 < (keyed [(5, 10 ^ 12 + 1)]).lnBlocked 5) ∧
    (half.inReset = false ∧ half.lnEntry 2 4 2 4 = none ∧ half.lnAnswers = true ∧ (half.ses 4).sid ≠ 0 ∧ (half.ses 4).isOpen = false ∧
      ((answers {}).ses 4).sid = 0 ∧ (half.ses 4).at_ + 100000000 ≤ half.clk.now ∧
      ([] : List (BitVec 8)) ≠ hmac (Store.get (fun _ => []) half.ln.keys 200) (label "LNF-H" ++ (half.ses 4).nd ++ (half.ses 4).nh ++ leBytes 9 4)) ∧
    Claims.arrives (answers ses4) 2 4 4 3 ∧
    ((idle.ses 4).isOpen = true ∧ (idle.ses 4).at_ + max 1 (idle.get QU_LN_CTRL_SESSION_TMO) * 100000000 ≤ idle.clk.now ∧ idle.inReset = false ∧
      ¬ ((answers ses4).ses 4).at_ + max 1 ((answers ses4).get QU_LN_CTRL_SESSION_TMO) * 100000000 ≤ (answers ses4).clk.now) ∧
    (((answers ses4).ses (4 : BitVec 4).toNat).isOpen = true ∧ ((answers ses4).ses (5 : BitVec 4).toNat).isOpen = false) := by
  unfold Claims.arrives; dsimp only
  repeat' apply And.intro
  all_goals decide +kernel

theorem witness_LaniferAccessTablesAndQueues :
    let d := answers ses4
    let a := admitted4 d
    let shut := (answers {}).put QU_LN_CTRL_OPEN_READ 0
    let defined := fun (st : Fld) => admitted4 ((d.wrN (GL_TD_SIZE 0) 64).put st 1)
    let contour := admitted4 (((d.wrN (GL_TD_SIZE 0x40) 140).wrN (GL_TD_BUF1 0x40) 0x02000000).poke 0x02000000 (List.replicate 140 1))
    let later := admitted4 ((d.wrN (GL_TD_SIZE 0xD0) 1168).put (GL_TD_STATE_DEFERRED 0xD0) 1)
    let held := fun (q k : Nat) => admitted4 ((answers ses4 (State.reset.dev.qAdd q 0 0 0 [1])).put (QU_STATUS_CLAIM q) k)
    let full := admitted4 { d with qOcc := Store.set (fun _ => 0) d.qOcc 13 (d.qSize 13) }
    (d.inReset = false ∧ ∀ x ∈ [(2, 0x10), (2, 0x11), (3, 0x12), (3, 0x13), (3, 0x20), (2, 0x21), (3, 0x50), (3, 0x51), (2, 0x40), (2, 0x41), (2, 0x42)],
      Claims.arrives d x.1 4 4 x.2) ∧
    (a.clk = d.clk ∧ (a.ses 4).isOpen = true ∧ (a.ses 4).sid = a.ln.asked.sid) ∧
    ((a.busRead 4 RC_PRE).2.1 = 0 ∧ (a.busRead 4 RC_PRE).2.2.clk = d.clk ∧ ((a.busRead 4 RC_PRE).2.2.ses 4).isOpen = true ∧
      (a.busRead 4 0xFFFFFFFC).2.1 = 2 ∧ (a.busWrite 4 RC_PRE 5).1 = 0 ∧ (a.busWrite 4 RC_PRE 5).2.clk = d.clk ∧ (a.busWrite 4 0xFFFFFFFC 0).1 = 2) ∧
    (shut.inReset = false ∧ shut.lnEntry 2 0 0x10 4 = none ∧ shut.lnAnswers = true ∧ shut.has QU_LN_CTRL_OPEN_READ = false) ∧
    (a.lnBlockOk RC_PRE 1 = true ∧ RC_PRE % 4 = 0 ∧ (a.lnReads 4 RC_PRE 1).2.1 = none ∧ (a.lnReads 4 RC_PRE 1).2.2.1 = none ∧
      (a.lnReads 4 RC_PRE 1).2.2.2.1 = false ∧ a.lnBlockOk 0xFFFFFC 1 = true ∧ (a.lnReads 4 0xFFFFFC 1).2.1 = some 0xFFFFFC ∧
      a.lnBlockOk (bulkEnd - 4) 2 = false ∧ a.lnBlockOk 2 1 = true ∧ (a.lnWrites 4 RC_PRE [5]).1 = none ∧
      (a.lnWrites 4 0xFFFFFC [5]).1 = some 0xFFFFFC) ∧
    (0 + 64 ≤ (defined (GL_TD_STATE_ACTIVE 0)).rdN (GL_TD_SIZE 0) ∧ (defined (GL_TD_STATE_ACTIVE 0)).has (GL_TD_STATE_PENDING 0) = false ∧
      (defined (GL_TD_STATE_ACTIVE 0)).has (GL_TD_STATE_DEFERRED 0) = false ∧ (defined (GL_TD_STATE_PENDING 0)).has (GL_TD_STATE_PENDING 0) = true ∧
      ¬ 1 + 64 ≤ (defined (GL_TD_STATE_ACTIVE 0)).rdN (GL_TD_SIZE 0)) ∧
    ((defined (GL_TD_STATE_PENDING 0)).tblRequest 0).1 = .busy ∧ (later.tblRequest 0xD0).1 = .busy ∧ (a.tblRequest 0).1 = .bad ∧ (contour.tblRequest 0x40).1 = .next ∧
    ((a.flWrite 1 0 [1]).2.clk = d.clk ∧ (a.flEraseOp 1 0 1).2.clk = d.clk ∧ 1 < (2 : BitVec 8).toNat) ∧
    (∀ q ∈ [5, 7, 8], (held q 4).hostEntries q = [0] ∧ (held q 4).get (QU_STATUS_CLAIM q) = 4 ∧ (held q 3).get (QU_STATUS_CLAIM q) = 3 ∧
      a.hostEntries q = [] ∧ ((held q 4).pullEntry q 0).1.length ≤ 1460 ∧ (held q 4).peekN ((held q 4).qBase q + 32 * 0 + 4) 4 = 0) ∧
    (∀ q ∈ [9, 10, 13], a.qFull q = false) ∧ full.qFull 13 = true ∧ (List.replicate 72 (0 : BitVec 8)).length = 72 := by
  unfold Claims.arrives; dsimp only
  repeat' apply And.intro
  all_goals decide +kernel

theorem witness_LaniferMovesStopsAndItineraries :
    let d := answers ses4
    let a := admitted4 d
    let idle := admitted4 (answers ses4 (planner 191 plIDLE id State.reset.dev))
    let moves := admitted4 (answers ses4 (planner 191 plMOVING id State.reset.dev))
    let runs := admitted4 (answers ses4 (itin63 1 0 0 id State.reset.dev))
    (d.inReset = false ∧ Claims.arrives d 1 4 4 0x30 ∧ Claims.arrives d 0 4 4 0x31 ∧ Claims.arrives d 1 4 4 0x38 ∧ Claims.arrives d 0 4 4 0x38) ∧
    ((a.plGo 191 600).1 ≠ 0 ∧ (a.plGo 191 600).2.clk = d.clk ∧ ((a.plGo 191 600).2.ses 4).isOpen = true ∧
      ((a.plGo 191 600).2.ses 4).sid = (a.plGo 191 600).2.ln.asked.sid ∧ (idle.plGo 191 0).1 = 0 ∧ (idle.plGo 191 600).1 = 10 ∧ (idle.plStopOp 7 191).1 = 0 ∧ (idle.plStopOp 7 191).2.clk = d.clk) ∧
    ((a.cyResume 31).1 ≠ 0 ∧ (a.cyResume 31).2.clk = d.clk ∧ (List.replicate 208 (0 : BitVec 8)).length / 208 = 1 ∧
      ¬ (List.replicate 207 (0 : BitVec 8)).length / 208 = 1) ∧
    ((List.range 192).filter (fun j => [plMOVING, plJOGGING, plHOLDING, plHELD].contains (a.plState j)) = [] ∧
      (List.range 32).filter (fun j => [cyRUNNING, cyHOLDING, cyHELD].contains (a.cyState j)) = [] ∧
      (List.range 192).filter (fun j => [plMOVING, plJOGGING, plHOLDING, plHELD].contains (moves.plState j)) = [191] ∧
      (List.range 32).filter (fun j => [cyRUNNING, cyHOLDING, cyHELD].contains (moves.cyState j)) = []) ∧
    (let b := fun (x : Device) => (x.wr (IT_FLAGS 63) ((x.rd (IT_FLAGS 63) ||| 5) &&& ~~~1)).put (IT_STATUS_REFUSE_LAST 63) 0
     ((b a).itCmdWrite 63 0).get (IT_STATUS_REFUSE_LAST 63) = 0 ∧ ((b a).itCmdWrite 63 0).clk = d.clk ∧
     ((b a).itCmdWrite 63 1).get (IT_STATUS_REFUSE_LAST 63) ≠ 0 ∧ ((b runs).itCmdWrite 63 2).get (IT_STATUS_REFUSE_LAST 63) = 0 ∧
     ((b a).itCmdWrite 63 2).get (IT_STATUS_REFUSE_LAST 63) ≠ 0) := by
  unfold Claims.arrives; dsimp only
  repeat' apply And.intro
  all_goals decide +kernel
/-! ### Hypotheses that can be met: flash ports and key-hash slots -/

/-- Both flash ports with what `f` sets of them, the prefetch buffer's lines, hours after reset. -/
def flashed (f : FlPort → FlPort) (lines : List FlLine) (now : Nat := 10 ^ 12) : Device :=
  let d := State.reset.dev
  { d with clk := { d.clk with now := now }, boot := { d.boot with ports := [(0, f {}), (1, f {})], lines := lines } }

theorem witness_FlashReadsOperationsAndSlots :
    let idle := flashed id []
    let op := fun (k now : Nat) => flashed (fun q => { q with op := k, addr := 0x3FFFFFC, count := 4, data := [1, 2, 3, 4] }) [] now
    let line := fun (p : Nat) (v : Bool) => flashed id [⟨p, 0x3FFFF80, v, [], 0, true⟩]
    let fenced := flashed (fun q => { q with fenced := true }) []
    let staged := fun (i len : Nat) => (idle.put XS_STAGE_TBL_INDEX i).wrN XS_STAGE_LEN len
    let sized := fun (d : Device) => d.wrN (GL_TD_SIZE 0) 64
    let pends := (sized (staged 0 64)).put (GL_TD_STATE_PENDING 0) 1
    let burnt := idle.put XS_OTP_STATE_PROGRAMMED 8
    (∀ p : Fin 2, idle.inReset = false ∧ (idle.fl p).op = 0 ∧ (idle.fl p).fenced = false ∧ idle.flServing p = p ∧
      fenced.flServing p = 1 - p.val ∧ (fenced.fl p).fenced = true) ∧
    (∀ p : Fin 2, ∀ k < 5, (op k (10 ^ 12)).inReset = false ∧ ((op k (10 ^ 12)).fl p).op = k ∧ ((op k (10 ^ 12)).fl p).data.length = ((op k (10 ^ 12)).fl p).count ∧
      ((op k (10 ^ 12)).fl p).addr + ((op k (10 ^ 12)).fl p).count ≤ flWindow ∧ ((op k (10 ^ 12)).fl p).startAt + flLimit k ≤ (op k (10 ^ 12)).clk.now ∧
      (op k 0).clk.now < ((op k 0).fl p).startAt + flLimit k) ∧
    (∀ p : Fin 2, ∀ v : Bool, (line p v).inReset = false ∧ (line p v).boot.lines = [⟨p, 0x3FFFF80, v, [], 0, true⟩] ∧
      (line p v).flServing p = p ∧ (0x3FFFFBF : BitVec 26).toNat / 64 * 64 = 0x3FFFF80 ∧ (0x3FFFFC0 : BitVec 26).toNat / 64 * 64 ≠ 0x3FFFF80 ∧
      (line p v).injPending 14 (0x10 + p) 5 = false ∧ 0x3FFFF80 + 64 < flWindow ∧ ¬ 0x3FFFFC0 + 64 < flWindow ∧
      (idle.put (XS_CTRL_EN p) 1).has (XS_CTRL_EN p) = true ∧ (idle.put (XS_CTRL_EN p) 0).has (XS_CTRL_EN p) = false) ∧
    (∀ p : Fin 2, ((op 1 0).put (XS_CTRL_SUSPEND p) 1).has (XS_CTRL_SUSPEND p) = true ∧ ((op 1 0).put (XS_CTRL_SUSPEND p) 0).has (XS_CTRL_SUSPEND p) = false ∧
      (((op 1 0).put (XS_CTRL_SUSPEND p) 1).fl p).op = 1) ∧
    (pends.get XS_STAGE_TBL_INDEX < tableCount ∧ pends.has (GL_TD_STATE_PENDING 0) = true ∧ (sized (staged 0 64)).has (GL_TD_STATE_PENDING 0) = false ∧
      (sized (staged 0 64)).has (GL_TD_STATE_DEFERRED 0) = false) ∧
    (tableCount ≤ (staged 0x122 0).get XS_STAGE_TBL_INDEX ∧ (staged 0x122 0).inReset = false ∧
      (sized (staged 0 65)).rdN (GL_TD_SIZE 0) < (sized (staged 0 65)).rdN XS_STAGE_LEN ∧
      ¬ (sized (staged 0 64)).rdN (GL_TD_SIZE 0) < (sized (staged 0 64)).rdN XS_STAGE_LEN) ∧
    (bit (idle.get XS_OTP_STATE_PROGRAMMED) 3 = false ∧ bit (burnt.get XS_OTP_STATE_PROGRAMMED) 3 = true ∧ burnt.inReset = false) := by
  dsimp only
  repeat' apply And.intro
  all_goals decide +kernel
/-! ### Hypotheses that can be met: the message bus -/

/-- CAN controller 1 enabled, in a state, with what `f` sets of it. -/
def bused (st : Nat) (f : Can → Can) (d : Device := State.reset.dev) : Device :=
  (({ d with cans := Store.upd d.cans {} 1 f, clk := { d.clk with now := 10 ^ 12 } }).put (CF_CTRL_EN 1) 1).put (CF_STATUS_STATE 1) st

theorem witness_CanControllerStates :
    let off := State.reset.dev
    let timing := ((off.wrN (CF_NBT 1) 0x1E3CF800).wrN (CF_DBT 1) 0x11060000).put (CF_CYCLE_CYCLE_US 1) 1000
    let bad := (off.wrN (CF_NBT 1) 0).wrN (CF_DBT 1) 0
    let errs := fun (st tec rec_ : Nat) => ((bused st id).put (CF_ERRC_TEC 1) tec).put (CF_ERRC_REC 1) rec_
    let fd := fun (v : Nat) => (bused 2 id).put (CF_CTRL_FD_EN 1) v
    (off.inReset = false ∧ off.has (CF_CTRL_EN 1) = false ∧ (off.can 1).fenced = false) ∧
    (timing.inReset = false ∧ timing.has (CF_CTRL_EN 1) = false ∧ timing.canTimingOk 1 = true ∧ bad.canTimingOk 1 = false ∧
      bad.has (CF_CTRL_EN 1) = false ∧ bad.inReset = false) ∧
    ((bused 2 id).has (CF_CTRL_EN 1) = true ∧ ((1 + 2 * (1 : BitVec 31).toNat) &&& 0x7B) / 2 ≠ (fd 0).rdN (CF_CTRL 1) / 2 ∧
      ((1 + 2 * (0 : BitVec 31).toNat) &&& 0x7B) / 2 = ((bused 2 id).wrN (CF_CTRL 1) 1).rdN (CF_CTRL 1) / 2) ∧
    (∀ st < 5, (bused st id).inReset = false ∧ (bused st id).canState 1 = st ∧ (bused st id).has (CF_CTRL_EN 1) = true ∧
      ((bused st id).can 1).fenced = false ∧ Claims.canCalm (bused st id) 1) ∧
    (Claims.stateBy 0 0 = 2 ∧ Claims.stateBy 128 0 = 3 ∧ Claims.stateBy 256 0 = 4 ∧ Claims.stateBy 127 127 = 2) ∧
    (∀ r : Bool, ((bused 4 fun q => { q with recovering := r }).can 1).recovering = r ∧ (bused 4 fun q => { q with recovering := r }).canState 1 = 4) ∧
    ((fd 1).has (CF_CTRL_FD_EN 1) = true ∧ (fd 0).has (CF_CTRL_FD_EN 1) = false ∧ (fd 1).canState 1 = 2) ∧
    ((errs 2 0 127).canState 1 = 2 ∧ Claims.stateBy 0 (min 65535 (127 + 1)) = 3 ∧ (errs 2 0 127).get (CF_ERRC_REC 1) = 127 ∧
      Claims.canCalm (errs 2 0 127) 1 ∧ (errs 2 0 127).inReset = false) := by
  unfold Claims.canCalm; dsimp only
  repeat' apply And.intro
  all_goals decide +kernel

theorem witness_CanFramesAndCycles :
    let queued := fun (info : Nat) (st : Nat) => bused st id (State.reset.dev.qPut 10 0 0 0 (leBytes 0x123 4 ++ leBytes info 4 ++ List.replicate 8 7))
    let one : CanTx := ⟨0x123, 8, [1], 0⟩
    let heads := bused 2 fun q => { q with fifo := [one] }
    let full := bused 2 fun q => { q with fifo := List.replicate 32 one }
    let refs := bused 2 fun q => { q with ref := some [1] }
    let cyc := fun (x : Device) => (x.put (CF_CYCLE_CYCLE_US 1) 1000).put (CF_CTRL_REF_EN 1) 1
    let passes := fun (kind : Nat) => ((bused 2 id).put (CF_FLT_ID_EN 1 63) 1).put (CF_FLT_DEST_KIND 1 63) kind
    let qfull := { passes 1 with qOcc := Store.set (fun _ => 0) (passes 1).qOcc 12 ((passes 1).qSize 12) }
    ((bused 2 id).inReset = false ∧ (bused 2 id).canSends 1 = true ∧ (bused 2 id).qLive 10 = [] ∧ (bused 0 id).canSends 1 = false ∧
      (bused 0 id).canOn 1 = false ∧ ((bused 0 id).can 1).stoppedAt = none ∧ 32 ≤ (full.can 1).fifo.length ∧ full.inReset = false) ∧
    (∀ info ∈ [8, 16], (queued info 2).inReset = false ∧ (queued info 2).canSends 1 = true ∧ ((queued info 2).can 1).fifo.length < 32 ∧
      (queued info 2).qLive 10 = [0] ∧ ((queued info 2).qRead 10 0).1.ok = true ∧ leAt ((queued info 2).qRead 10 0).1.payload 0 4 = 0x123 ∧
      leAt ((queued info 2).qRead 10 0).1.payload 4 4 = info) ∧
    (heads.inReset = false ∧ heads.canSends 1 = true ∧ (heads.can 1).fifo = [one] ∧ (heads.can 1).wire = 0 ∧ Claims.canCalm heads 1 ∧
      Claims.stateBy (heads.get (CF_ERRC_TEC 1) + 8) (heads.get (CF_ERRC_REC 1)) ≠ 4) ∧
    (refs.inReset = false ∧ refs.canSends 1 = true ∧ (refs.can 1).ref = some [1] ∧ (refs.can 1).flying = none ∧ (refs.can 1).wire = 0 ∧
      Claims.canCalm refs 1) ∧
    (∀ x ∈ [bused 2 id, refs],
      let d := cyc x
      let start := d.timeNs / (1000 * 1000) * (1000 * 1000)
      d.inReset = false ∧ d.get (CF_CYCLE_CYCLE_US 1) = 1000 ∧ (d.can 1).cycleAt < start ∧ (d.can 1).stepNs ≤ start ∧
      d.has (CF_CTRL_REF_EN 1) = true ∧ d.has (CF_CTRL_LISTEN 1) = false ∧ d.canState 1 = 2 ∧ d.canOn 1 = true) ∧
    ((bused 2 id).put (CF_CTRL_REF_EN 1) 0).has (CF_CTRL_REF_EN 1) = false ∧
    ((bused 2 id).canOn 1 = true ∧ bit (0x123 : BitVec 32).toNat 30 = false ∧ (bused 2 id).get (CF_ERRC_REC 1) = 0 ∧ Claims.canCalm (bused 2 id) 1 ∧
      (bused 2 id).canFilter 1 false 0x123 = none) ∧
    (∀ kind < 2, (passes kind).inReset = false ∧ (passes kind).canOn 1 = true ∧ (passes kind).get (CF_FLT_DEST_KIND 1 63) = kind ∧
      (passes kind).canFilter 1 false 0x123 = some 63 ∧ (passes kind).qFull 12 = false ∧ Claims.canCalm (passes kind) 1) ∧
    (qfull.inReset = false ∧ qfull.qFull 12 = true ∧ (qfull.can 1).lossRun = false ∧ qfull.canFilter 1 false 0x123 = some 63) := by
  unfold Claims.canCalm; dsimp only
  repeat' apply And.intro
  all_goals decide +kernel
/-! ### Hypotheses that can be met: measurements and JTAG -/

theorem witness_MeasurementsAndJtag :
    let s := State.reset.dev
    let pk := fun (f : Package → Package) => { s with pkg := f s.pkg }
    let acc := (pk fun p => { p with ir := 0x11, jtagHold := false, driven := false, highz := false, dr := p.acc.setWidth 317 })
    let read : BitVec 66 := 0x10000000000000000
    let write : BitVec 66 := 0x20000000000000000
    (s.inReset = false ∧ (∀ k ∈ [1, 2, 3, 4], s.injPending 0 0 k = false) ∧ s.pkg.vcoreOut = false ∧ s.pkg.bankLow = 0 ∧
      s.pkg.tempHigh = false ∧ s.pkg.tempCrit = false ∧ s.pkg.jtagHold = false ∧ s.pkg.porHold = false ∧ s.pkg.testEn = false) ∧
    ((719 : BitVec 16).toNat < 720 ∧ ¬ ((880 : BitVec 16).toNat < 720 ∨ 880 < (880 : BitVec 16).toNat) ∧ 880 < (881 : BitVec 16).toNat) ∧
    (bit (0x100 : BitVec 9).toNat 8 = true ∧ bit s.pkg.bankLow 8 = false) ∧
    (105 * 128 < (13441 : BitVec 16).toInt ∧ ¬ 105 * 128 < (13440 : BitVec 16).toInt ∧ 115 * 128 < (14721 : BitVec 16).toInt ∧
      103 * 128 < (13440 : BitVec 16).toInt ∧ (pk fun p => { p with tempHigh := true, tempCrit := true }).inReset = false) ∧
    ((pk fun p => { p with jtagHold := true }).pkg.jtagHold = true ∧ (pk fun p => { p with porHold := true }).pkg.porHold = true ∧
      (pk fun p => { p with testEn := true }).pkg.testEn = true) ∧
    (bits read.toNat 64 2 = 1 ∧ (acc.busRead 5 (bits read.toNat 32 32)).2.1 ≠ 1 ∧
      (acc.busRead 5 (bits read.toNat 32 32)).2.2.clk = s.clk) ∧
    (bits write.toNat 64 2 = 2 ∧ (acc.busWrite 5 (bits write.toNat 32 32) (write.setWidth 32)).2.clk = s.clk) ∧
    bits (0x30000000000000000 : BitVec 66).toNat 64 2 ≠ 1 ∧ bits (0x30000000000000000 : BitVec 66).toNat 64 2 ≠ 2 := by
  dsimp only
  repeat' apply And.intro
  all_goals decide +kernel

end Sys2Proof.Tests
end

section
/-! Writes by an access path (R4–R7, R376). First the rules of the operations that a REG_WRITE is made of: the gate of a write,
the choice of the register row, the mask of a plain write, the bytes of a bulk memory word. Then the statement on REG_WRITE. -/

namespace Sys2Proof

open Sys2Proof.Machine

/-! ### The gate of a write -/

/-- Work that leaves the clock alone has not reset the device (R536), so it stands as it is. -/
theorem Machine.Device.orReset_of_clk {d : Device} {f : Device → Device} (h : (f d).clk = d.clk) : d.orReset f = f d := by
  simp only [Device.orReset, h, if_true]
  rw [← h]

/-- A command that `onWrite` gates completes with its effect where no reset holds the device and none follows. -/
theorem leads_onWrite {c : Instr} {s : State} {f : Device → Device} {P : Device → Prop} {e : Device}
    (hc : exec c s = .next (s.onWrite f)) (hr : s.dev.inReset = false) (he : f s.dev = e) (hclk : e.clk = s.dev.clk) (hP : P e) :
    leads c s P := by
  subst he
  have hrun : s.onWrite f = ⟨f s.dev, s.pending⟩ := by
    simp only [State.onWrite, hr, Bool.false_eq_true, if_false, Device.orReset_of_clk hclk]
  exact ⟨_, hc.trans (congrArg _ hrun), rfl, hclk, hP⟩

section RegWrite
variable {s : State} {path : Fin 36} {a v : BitVec 32}

/-- A REG_WRITE by a path other than session 0 completes with what the bus does, where that keeps the clock. -/
theorem leads_regWrite {P : Device → Prop} {n c : Nat} {e : Device} (hr : s.dev.inReset = false) (hp : path.val ≠ 0)
    (ha : a.toNat = n) (hw : s.dev.busWrite path n v = (c, e)) (hclk : e.clk = s.dev.clk) (hP : P e) :
    leads (.regWrite path a v) s P := by
  subst ha
  exact leads_onWrite rfl hr (by simp only [hp, if_false, hw]) hclk hP

/-- A REG_WRITE by session 0 has no effect (notes/assumptions/52). -/
theorem leads_regWrite_session0 (hr : s.dev.inReset = false) (hp : path.val = 0) : leads (.regWrite path a v) s (· = s.dev) :=
  leads_onWrite rfl hr (if_pos hp) rfl rfl

end RegWrite

/-! ### What a bus write does, by the kind of its address -/

namespace Machine

/-- A word of the register space that no register is assigned to is an address error (R5). -/
theorem Device.busWrite_unassigned (d : Device) (path : Nat) {a : Nat} (v : BitVec 32) (h4 : a % 4 = 0) (ha : a < 0x1000000)
    (hrow : regRow a = none) : d.busWrite path a v = (2, d) := by
  simp [Device.busWrite, h4, ha, hrow]

/-- A single register with a writable field takes the write by its block's rule. -/
theorem Device.busWrite_single (d : Device) (path : Nat) {a : Nat} {r : RegRow} (v : BitVec 32) (h4 : a % 4 = 0)
    (ha : a < 0x1000000) (hrow : regRow a = some r) (hrw : r.rw ≠ 0) (hpair : r.pair = false) :
    d.busWrite path a v = (0, d.regWrite path r a v) := by
  simp [Device.busWrite, h4, ha, hrow, hrw, hpair]

/-- The lower half of a pair waits in the path's holding register (R7). -/
theorem Device.busWrite_lo (d : Device) (path : Nat) {a : Nat} {r : RegRow} (v : BitVec 32) (h4 : a % 4 = 0)
    (ha : a < 0x1000000) (hrow : regRow a = some r) (hrw : r.rw ≠ 0) (hpair : r.pair = true) (hlo : r.isHi a = false) :
    d.busWrite path a v = (0, d.setHold path fun h => { h with wr := v }) := by
  simp [Device.busWrite, h4, ha, hrow, hrw, hpair, hlo]

/-- The upper half of a pair writes both halves, the lower from the path's holding register (R7). -/
theorem Device.busWrite_hi (d : Device) (path : Nat) {a : Nat} {r : RegRow} (v : BitVec 32) (h4 : (a + 4) % 4 = 0)
    (ha : a + 4 < 0x1000000) (hrow : regRow (a + 4) = some r) (hrw : r.rw ≠ 0) (hpair : r.pair = true)
    (hhi : r.isHi (a + 4) = true) :
    d.busWrite path (a + 4) v = (0, d.pairWrite r a (d.hold.pick {} path).wr v) := by
  rw [Nat.add_mod_right] at h4
  simp [Device.busWrite, h4, ha, hrow, hrw, hpair, hhi]

/-- An aligned word of bulk memory takes the four bytes, lowest first (R373). -/
theorem Device.busWrite_bulk (d : Device) (path : Nat) {a : Nat} (v : BitVec 32) (h4 : a % 4 = 0) (hlo : bulkBase ≤ a)
    (hhi : a < bulkEnd) : d.busWrite path a v = (0, d.poke a (leBytes v.toNat 4)) := by
  have hspace : ¬ (a < 0x1000000 ∨ (0x4000000 ≤ a ∧ a < 0x8000000)) := by
    simp only [bulkBase, bulkEnd] at hlo hhi
    omega
  simp [Device.busWrite, h4, hspace, hhi]

/-! ### Plain writes (R6) -/

/-- A field whose bits are all writable takes the bits written. -/
theorem bits_storeWord (old v rw w1c : BitVec 32) (lo w : Nat) (hrw : ∀ i < w, rw.getLsbD (lo + i) = true)
    (hw1c : ∀ i < w, w1c.getLsbD (lo + i) = false) : bits (storeWord old v rw w1c).toNat lo w = bits v.toNat lo w := by
  apply Nat.eq_of_testBit_eq
  intro i
  rw [testBit_bits, testBit_bits]
  by_cases hi : i < w
  · simp only [storeWord, BitVec.testBit_toNat, BitVec.getLsbD_or, BitVec.getLsbD_and, BitVec.getLsbD_not, hrw i hi, hw1c i hi]
    simp
  · simp [hi]

/-- A register whose bits are all writable takes the whole word. -/
theorem storeWord_all (old v : BitVec 32) : storeWord old v (BitVec.allOnes 32) 0#32 = v := by
  simp only [storeWord, BitVec.or_zero, BitVec.zero_or, BitVec.not_allOnes, BitVec.and_zero, BitVec.zero_and, BitVec.and_allOnes]

/-! ### The shadow beat length -/

/-- The row of TB_BEAT_LEN: thirteen writable bits, a shadow register. -/
def beatLenRow : RegRow := ⟨0x10000, 0x0, 1, 0x0, 1, false, 0x640, 0x1FFF, 0x0, 0x0, 3⟩

theorem regRow_TB_BEAT_LEN : regRow TB_BEAT_LEN = some beatLenRow := by decide

/-- TB_BEAT_LEN has no write rule of its own. -/
theorem Device.regWrite_TB_BEAT_LEN (d : Device) (path : Nat) (v : BitVec 32) :
    d.regWrite path beatLenRow TB_BEAT_LEN v = d.plainWrite beatLenRow TB_BEAT_LEN v := rfl

theorem Device.get_plainWrite_TB_BEAT_LEN (d : Device) (v : BitVec 32) :
    (d.plainWrite beatLenRow TB_BEAT_LEN v).get TB_BEAT_LEN_LEN = v.toNat % 2 ^ 13 := by
  have hmask : ∀ i < 13, (beatLenRow.half TB_BEAT_LEN beatLenRow.rw).getLsbD (0 + i) = true := by decide
  have hw1c : ∀ i < 13, (beatLenRow.half TB_BEAT_LEN beatLenRow.w1c).getLsbD (0 + i) = false := by decide
  calc (d.plainWrite beatLenRow TB_BEAT_LEN v).get TB_BEAT_LEN_LEN
      = bits (storeWord (d.rd TB_BEAT_LEN) v (beatLenRow.half TB_BEAT_LEN beatLenRow.rw)
          (beatLenRow.half TB_BEAT_LEN beatLenRow.w1c)).toNat 0 13 := by
        simp only [Device.get, Device.plainWrite, TB_BEAT_LEN_LEN, Device.rd_wr_same]
    _ = bits v.toNat 0 13 := bits_storeWord _ _ _ _ _ _ hmask hw1c
    _ = v.toNat % 2 ^ 13 := by simp [bits]

/-! ### The planner's target, a pair of every axis -/

/-- Does a row repeat once per axis, every 0x400 bytes (R11)? -/
def RegRow.perAxis (r : RegRow) : Bool := r.s1 == 0x400 && r.n1 == 192 && r.s2 == 0 && r.n2 == 1

/-- The words that a per-axis row covers, by their offset from the axis's own register. -/
theorem RegRow.covers_perAxis {r : RegRow} {a : Nat} (hr : r.perAxis = true) (k o : Nat) (hk : k < 192) (ho : o < 0x400)
    (ha : a = r.base + 0x400 * k + o) : r.covers a = (decide (o = 0) || (r.pair && decide (o = 4))) := by
  simp only [RegRow.perAxis, Bool.and_eq_true, beq_iff_eq] at hr
  obtain ⟨⟨⟨hs1, hn1⟩, hs2⟩, hn2⟩ := hr
  have hoff : a - r.base = 0x400 * k + o := by omega
  have hdiv : (0x400 * k + o) / 0x400 = k := by omega
  have hmod : (0x400 * k + o) % 0x400 = o := by omega
  have hbase : ¬ a < r.base := by omega
  simp [RegRow.covers, hbase, hs1, hn1, hs2, hn2, hoff, hdiv, hmod, hk]

/-- The upper half of a per-axis pair is the word at offset 4. -/
theorem RegRow.isHi_perAxis {r : RegRow} {a : Nat} (hr : r.perAxis = true) (k o : Nat) (ho : o < 0x400)
    (ha : a = r.base + 0x400 * k + o) : r.isHi a = decide (o = 4) := by
  simp only [RegRow.perAxis, Bool.and_eq_true, beq_iff_eq] at hr
  obtain ⟨⟨⟨hs1, -⟩, hs2⟩, -⟩ := hr
  have hoff : a - r.base = 0x400 * k + o := by omega
  have hmod : (0x400 * k + o) % 0x400 = o := by omega
  simp [RegRow.isHi, hs1, hs2, hoff, hmod]

/-- The planner's registers of an axis are found among the rows of its second 256 bytes. -/
theorem regRows_planner {a : Nat} (k o : Nat) (hk : k < 192) (ho : o < 0x100) (ha : a = 0x100100 + 0x400 * k + o) :
    regRows a = rowsAx1 := by
  have hblock : (a - 0x100000) % 0x400 / 0x100 = 1 := by omega
  simp (disch := omega) only [regRows, if_neg, if_pos, hblock]

/-- The row of AX_PL_TARGET: a pair of every axis, all bits writable. -/
def targetRow : RegRow := ⟨0x100110, 0x400, 192, 0x0, 1, true, 0x0, 0xFFFFFFFFFFFFFFFF, 0x0, 0x0, 0⟩

/-- Both halves of AX_PL_TARGET are of its row; the four rows before it in the table are single registers below it. -/
theorem regRow_AX_PL_TARGET {a : Nat} (k o : Nat) (hk : k < 192) (ho : o = 0 ∨ o = 4) (ha : a = AX_PL_TARGET k + o) :
    regRow a = some targetRow := by
  simp only [AX_PL_TARGET] at ha
  have htarget : targetRow.covers a = true := by
    rw [RegRow.covers_perAxis rfl k o hk (by omega) ha]
    simpa [targetRow] using ho
  have hbelow : ∀ r ∈ rowsAx1.take 4, r.perAxis = true ∧ r.pair = false ∧ 0x100100 ≤ r.base ∧ r.base < 0x100110 := by decide
  rw [regRow, regRows_planner k (o + 0x10) hk (by omega) (by omega)]
  refine List.find?_eq_some_iff_append.mpr ⟨htarget, rowsAx1.take 4, rowsAx1.drop 5, rfl, ?_⟩
  intro r hr
  obtain ⟨haxis, hsingle, hlo, hhi⟩ := hbelow r hr
  rw [RegRow.covers_perAxis haxis k (a - (r.base + 0x400 * k)) hk (by omega) (by omega), hsingle]
  simp only [Bool.false_and, Bool.or_false, Bool.not_eq_true', decide_eq_false_iff_not]
  omega

theorem targetRow_isHi (k o : Nat) (ho : o < 0x400) : targetRow.isHi (AX_PL_TARGET k + o) = decide (o = 4) :=
  RegRow.isHi_perAxis rfl k o ho rfl

/-- AX_PL_TARGET has no write rule of its own: it takes both halves. -/
theorem Device.pairWrite_AX_PL_TARGET (d : Device) (k : Nat) (lo hi : BitVec 32) :
    d.pairWrite targetRow (AX_PL_TARGET k) lo hi = (d.wr (AX_PL_TARGET k) lo).wr (AX_PL_TARGET k + 4) hi := by
  have hrw : ∀ a, targetRow.half a targetRow.rw = BitVec.allOnes 32 := by
    intro a
    unfold RegRow.half
    split <;> decide
  have hw1c : ∀ a, targetRow.half a targetRow.w1c = 0#32 := fun a => ite_self _
  have hsync : AX_PL_TARGET k ≠ TB_SYNC_AT_SEC_LO := by
    simp only [AX_PL_TARGET, TB_SYNC_AT_SEC_LO]
    omega
  have hitin : ¬ (0xD0000 ≤ AX_PL_TARGET k ∧ AX_PL_TARGET k < 0xD4000) := by
    simp only [AX_PL_TARGET]
    omega
  have hfb : ¬ (0x310 ≤ (AX_PL_TARGET k - 0x100000) % 0x400) := by
    simp only [AX_PL_TARGET]
    omega
  have hflag : ¬ targetRow.flag = 2 := by decide
  simp only [Device.pairWrite, hflag, hsync, hitin, hfb, if_false, false_and, and_false, Device.plainWrite64, Device.plainWrite,
    hrw, hw1c, storeWord_all]

/-! ### Holding registers (R7) -/

theorem Device.hold_setHold_same (d : Device) (p : Nat) (f : Hold → Hold) : (d.setHold p f).hold.pick {} p = f (d.hold.pick {} p) :=
  Store.pick_upd_same d.hold {} p f

/-- Every path has holding registers of its own. -/
theorem Device.hold_setHold_other (d : Device) (p q : Nat) (f : Hold → Hold) (h : q ≠ p) :
    (d.setHold p f).hold.pick {} q = d.hold.pick {} q := Store.pick_upd_other d.hold {} p q f h

/-! ### A word of bulk memory -/

theorem length_leBytes (n k : Nat) : (leBytes n k).length = k := by
  induction k generalizing n with
  | zero => rfl
  | succ k ih => simp [leBytes, ih]

theorem getElem?_leBytes (n k i : Nat) (hi : i < k) : (leBytes n k)[i]? = some (BitVec.ofNat 8 (n / 256 ^ i)) := by
  induction k generalizing n i with
  | zero => omega
  | succ k ih =>
    cases i with
    | zero => simp [leBytes]
    | succ i =>
      rw [leBytes, List.getElem?_cons_succ, ih _ _ (by omega), Nat.div_div_eq_div_mul, Nat.pow_succ']

/-- Bytes written change memory and its check bits alone. -/
theorem Device.poke_frame (bs : List (BitVec 8)) (d : Device) (a : Nat) :
    { d.poke a bs with bulk := d.bulk, bulkErr := d.bulkErr } = d := by
  induction bs generalizing d a with
  | nil => rfl
  | cons b bs ih => exact congrArg (fun e : Device => { e with bulk := d.bulk, bulkErr := d.bulkErr }) (ih (d.poke1 a b) (a + 1))

theorem Device.poke_clk (d : Device) (a : Nat) (bs : List (BitVec 8)) : (d.poke a bs).clk = d.clk := by
  have h := congrArg Device.clk (Device.poke_frame bs d a)
  exact h

/-- A byte kept apart from all those written reads as before. -/
theorem Device.peek1_poke_other (bs : List (BitVec 8)) (d : Device) (a c : Nat)
    (h : ∀ i < bs.length, d.bulkKey c ≠ d.bulkKey (a + i)) : (d.poke a bs).peek1 c = d.peek1 c := by
  induction bs generalizing d a with
  | nil => rfl
  | cons b bs ih =>
    have htail : ∀ i < bs.length, (d.poke1 a b).bulkKey c ≠ (d.poke1 a b).bulkKey (a + 1 + i) := by
      intro i hi
      simp only [Device.bulkKey_poke1, Nat.add_right_comm a 1 i]
      exact h (i + 1) (Nat.succ_lt_succ hi)
    rw [Device.poke, ih _ _ htail, Device.peek1_poke1_other d a c b (h 0 (Nat.succ_pos _))]

/-- Of bytes kept apart from each other, each reads as written where no bit is stuck (R376, R379). -/
theorem Device.peek1_poke_written (bs : List (BitVec 8)) (d : Device) (a i : Nat) (b : BitVec 8) (hb : bs[i]? = some b)
    (hinj : ∀ i < bs.length, ∀ j < bs.length, d.bulkKey (a + i) = d.bulkKey (a + j) → i = j)
    (hhard : d.mem.hard.pick 0 (d.bulkKey (a + i)) = 0) : (d.poke a bs).peek1 (a + i) = (b, 0) := by
  induction bs generalizing d a i with
  | nil => simp at hb
  | cons x xs ih =>
    have hshift : ∀ j, a + 1 + j = a + (j + 1) := by omega
    cases i with
    | zero =>
      obtain rfl : x = b := by simpa using hb
      have hfirst : ∀ j < xs.length, (d.poke1 a x).bulkKey a ≠ (d.poke1 a x).bulkKey (a + 1 + j) := by
        intro j hj heq
        rw [hshift] at heq
        exact absurd (hinj 0 (Nat.succ_pos _) (j + 1) (Nat.succ_lt_succ hj) heq) (Nat.succ_ne_zero j).symm
      rw [Nat.add_zero] at hhard ⊢
      rw [Device.poke, Device.peek1_poke_other _ _ _ _ hfirst, Device.peek1_poke1_same _ _ _ hhard]
    | succ i =>
      rw [Device.poke, ← hshift i]
      refine ih (d.poke1 a x) (a + 1) i (by simpa using hb) ?_ (by rwa [← hshift] at hhard)
      intro m hm j hj heq
      simp only [Device.bulkKey_poke1, hshift] at heq
      exact Nat.succ.inj (hinj (m + 1) (Nat.succ_lt_succ hm) (j + 1) (Nat.succ_lt_succ hj) heq)

/-- The bytes of an aligned word are kept side by side, in their page or in its spare (R390). -/
theorem Device.bulkKey_word (d : Device) {a i : Nat} (h4 : a % 4 = 0) (hlo : bulkBase ≤ a) (hi : i < 4) :
    d.bulkKey (a + i) = d.bulkKey a + i := by
  have hpage : (a + i) / 4096 = a / 4096 := by omega
  have hoff : (a + i) % 4096 = a % 4096 + i := by omega
  have hbank : bankOf (a + i) = bankOf a := by
    simp only [bankOf, bulkBase] at hlo ⊢
    omega
  simp only [Device.bulkKey, hpage, hoff, hbank, spareKey]
  split
  · rfl
  · omega

end Machine

/-! ### REG_WRITE -/

/-- The shadow beat length, a register for which its block has no write rule of its own. -/
theorem leads_regWrite_TB_BEAT_LEN {s : State} {path : Fin 36} (v : BitVec 32) (hr : s.dev.inReset = false) (hp : path.val ≠ 0) :
    leads (.regWrite path (BitVec.ofNat 32 TB_BEAT_LEN) v) s (fun d =>
      d.get TB_BEAT_LEN_LEN = v.toNat % 2 ^ 13 ∧ onlyRegs s.dev d (· = TB_BEAT_LEN)) := by
  have hw := Device.busWrite_single s.dev path.val v (by decide) (by decide) regRow_TB_BEAT_LEN (by decide) (by decide)
  rw [Device.regWrite_TB_BEAT_LEN] at hw
  exact leads_regWrite hr hp rfl hw rfl ⟨Device.get_plainWrite_TB_BEAT_LEN s.dev v, rfl, sameRegs.wr _ _ _ _ rfl⟩

section Target
variable {s : State} {path : Fin 36} (v : BitVec 32) (k : Fin 192)

/-- No address of an axis's target is cut by the 32 bits of an operand. -/
theorem toNat_AX_PL_TARGET (o : Nat) (ho : o < 8) : (BitVec.ofNat 32 (AX_PL_TARGET k + o)).toNat = AX_PL_TARGET k + o := by
  have hk := k.isLt
  rw [BitVec.toNat_ofNat, Nat.mod_eq_of_lt]
  simp only [AX_PL_TARGET]
  omega

/-- The lower half of a pair (R7), here the planner's target. -/
theorem leads_regWrite_target_lo (hr : s.dev.inReset = false) (hp : path.val ≠ 0) :
    leads (.regWrite path (BitVec.ofNat 32 (AX_PL_TARGET k)) v) s (fun d =>
      (d.hold.pick {} path).wr = v ∧ (∀ p, p ≠ path.val → d.hold.pick {} p = s.dev.hold.pick {} p) ∧
      { d with hold := s.dev.hold } = s.dev) := by
  have h4 : AX_PL_TARGET k % 4 = 0 := by simp only [AX_PL_TARGET]; omega
  have hspace : AX_PL_TARGET k < 0x1000000 := by simp only [AX_PL_TARGET]; omega
  have hw := Device.busWrite_lo s.dev path.val v h4 hspace (regRow_AX_PL_TARGET k 0 k.isLt (.inl rfl) rfl) (by decide) rfl
    (targetRow_isHi k 0 (by decide))
  refine leads_regWrite hr hp (toNat_AX_PL_TARGET k 0 (by decide)) hw rfl ⟨?_, ?_, rfl⟩
  · rw [Device.hold_setHold_same]
  · exact fun p hne => Device.hold_setHold_other _ _ _ _ hne

/-- The upper half of a pair (R7), here the planner's target. -/
theorem leads_regWrite_target_hi (hr : s.dev.inReset = false) (hp : path.val ≠ 0) :
    leads (.regWrite path (BitVec.ofNat 32 (AX_PL_TARGET k + 4)) v) s (fun d =>
      d.rd (AX_PL_TARGET k) = (s.dev.hold.pick {} path).wr ∧ d.rd (AX_PL_TARGET k + 4) = v ∧
      onlyRegs s.dev d (fun x => x = AX_PL_TARGET k ∨ x = AX_PL_TARGET k + 4)) := by
  have h4 : (AX_PL_TARGET k + 4) % 4 = 0 := by simp only [AX_PL_TARGET]; omega
  have hspace : AX_PL_TARGET k + 4 < 0x1000000 := by simp only [AX_PL_TARGET]; omega
  have hw := Device.busWrite_hi s.dev path.val v h4 hspace (regRow_AX_PL_TARGET k 4 k.isLt (.inr rfl) rfl) (by decide) rfl
    (targetRow_isHi k 4 (by decide))
  rw [Device.pairWrite_AX_PL_TARGET] at hw
  refine leads_regWrite hr hp (toNat_AX_PL_TARGET k 4 (by decide)) hw rfl ⟨?_, Device.rd_wr_same _ _ _, rfl, ?_⟩
  · rw [Device.rd_wr_other _ _ _ _ (by omega), Device.rd_wr_same]
  · exact (sameRegs.wr _ _ _ _ (.inl rfl)).trans (sameRegs.wr _ _ _ _ (.inr rfl))

end Target

/-- A word of bulk memory (R373, R376): no page map makes two of its bytes one, so none overwrites another. -/
theorem leads_regWrite_bulk {s : State} {path : Fin 36} {a : BitVec 32} (v : BitVec 32) (hr : s.dev.inReset = false)
    (hp : path.val ≠ 0) (h4 : a.toNat % 4 = 0) (hlo : bulkBase ≤ a.toNat) (hhi : a.toNat < bulkEnd) :
    leads (.regWrite path a v) s (fun d =>
      (∀ i < 4, Store.get (fun _ => 0) s.dev.mem.hard (s.dev.bulkKey (a.toNat + i)) = 0 →
        d.peek1 (a.toNat + i) = (BitVec.ofNat 8 (v.toNat / 256 ^ i), 0)) ∧
      (∀ b, (∀ i < 4, s.dev.bulkKey b ≠ s.dev.bulkKey (a.toNat + i)) → d.peek1 b = s.dev.peek1 b) ∧
      { d with bulk := s.dev.bulk, bulkErr := s.dev.bulkErr } = s.dev) := by
  refine leads_regWrite hr hp rfl (Device.busWrite_bulk s.dev path.val v h4 hlo hhi) (Device.poke_clk _ _ _)
    ⟨?_, ?_, Device.poke_frame _ _ _⟩
  · intro i hi hhard
    refine Device.peek1_poke_written _ _ _ _ _ (getElem?_leBytes _ _ _ hi) ?_ hhard
    simp only [length_leBytes]
    intro m hm j hj heq
    rw [Device.bulkKey_word _ h4 hlo hm, Device.bulkKey_word _ h4 hlo hj] at heq
    exact Nat.add_left_cancel heq
  · intro b hb
    exact Device.peek1_poke_other _ _ _ _ (by simpa only [length_leBytes] using hb)

/-- Settles O12: by the kinds of address that a bus write tells apart. -/
theorem registerWritesByAccessPath : Obligations.RegisterWritesByAccessPath := by
  unfold Obligations.RegisterWritesByAccessPath
  intro s path a v hr
  refine ⟨fun h4 hspace hrow => ?_, leads_regWrite_session0 hr, leads_regWrite_TB_BEAT_LEN v hr,
    fun hp k => ⟨leads_regWrite_target_lo v k hr hp, leads_regWrite_target_hi v k hr hp⟩, leads_regWrite_bulk v hr⟩
  by_cases hp : path.val = 0
  · exact leads_regWrite_session0 hr hp
  · exact leads_regWrite hr hp rfl (Device.busWrite_unassigned s.dev path.val v h4 hspace hrow) rfl rfl

end Sys2Proof
end

section
/-! The beat clock over every step (R3, R14, R17, R18). -/

namespace Sys2Proof

open Sys2Proof.Machine

namespace Machine

/-! ### The gates of the commands -/

/-- The work of the commands that move the clock by themselves: the phases of a beat, the recorder's next instant, and the
loader's settings and start of the scheduler. -/
def timeWork : Instr → Option (Device → Device)
  | .beatBoundary => some Device.boundaryNow
  | .latchPhase => some Device.latchNow
  | .dispatchDeadline => some Device.deadlineNow
  | .recorderFrame => some Device.recorderNow
  | .copyChecked err at_ => some fun d => d.copyChecked err at_.toNat
  | .loaderTgApply stuck failed => some fun d => d.loaderTgApply stuck.toNat failed.toNat
  | _ => none

/-- An outcome behind a gate that leaves the clock as it is, or starts it anew. -/
def Gated (s : State) (o : Host.Outcome State Fault Refusal) : Prop :=
  ∃ f : Device → Device, o = .next (s.onDev f) ∨ o = .next (s.onWrite f) ∨ o = .next (s.onPins f)

/-- Every command either moves the clock by its own work, or stands behind a gate that passes no time. -/
theorem exec_timeWork_or_gated (c : Instr) (s : State) :
    (∃ f, timeWork c = some f ∧ exec c s = .next (s.onTime f)) ∨ Gated s (exec c s) := by
  cases c
  case beatBoundary | latchPhase | dispatchDeadline | recorderFrame | copyChecked | loaderTgApply =>
    exact .inl ⟨_, rfl, rfl⟩
  case regWrite | xsReset | write | writeBlock =>
    exact .inr ⟨_, .inr (.inl rfl)⟩
  case powerOnRelease | supplyLow | resetN | tapReset | extest | samplePreload | idcode | jtagClamp | highz | deviceReset |
      regAccess | bypass =>
    exact .inr ⟨_, .inr (.inr rfl)⟩
  all_goals exact .inr ⟨_, .inl rfl⟩

theorem Gated.clk {s t : State} (h : Gated s (.next t)) : t.dev.clk = s.dev.clk ∨ t.dev.clk = {} := by
  obtain ⟨f, h | h | h⟩ := h <;> cases h
  · exact .inl (State.onDev_clk s f)
  · exact State.onWrite_clk s f
  · exact State.onPins_clk s f

/-! ### Later in the same beat -/

/-- The clock `e` is the clock `c` some ticks later in the same beat, whichever of its phases it has had. -/
def Clock.SameBeat (c e : Clock) : Prop :=
  ∃ n lat cls, e = { c.adv n with latched := lat, closed := cls } ∧ (c.running = true → c.tick + n < c.curLen)

theorem Clock.SameBeat.refl {c : Clock} (h : c.running = true → c.tick < c.curLen) : c.SameBeat c :=
  ⟨0, c.latched, c.closed, by simp, h⟩

theorem Clock.SameBeat.trans {c e g : Clock} (h : c.SameBeat e) (k : e.SameBeat g) : c.SameBeat g := by
  obtain ⟨m, l1, c1, rfl, -⟩ := h
  obtain ⟨n, lat, cls, rfl, hn⟩ := k
  refine ⟨m + n, lat, cls, ?_, fun hr => ?_⟩
  · rw [← Clock.adv_adv]
    rfl
  · have := hn hr
    simp only [Clock.adv, hr, if_true] at this
    omega

theorem Clock.SameBeat.running {c e : Clock} (h : c.SameBeat e) : e.running = c.running := by
  obtain ⟨n, lat, cls, rfl, -⟩ := h
  rfl

theorem Clock.SameBeat.settings {c e : Clock} (h : c.SameBeat e) :
    e.len = c.len ∧ e.latch = c.latch ∧ e.deadline = c.deadline ∧ e.curLen = c.curLen := by
  obtain ⟨n, lat, cls, rfl, -⟩ := h
  exact ⟨rfl, rfl, rfl, rfl⟩

theorem Clock.SameBeat.tick_lt {c e : Clock} (h : c.SameBeat e) (hr : c.running = true) : e.tick < c.curLen := by
  obtain ⟨n, lat, cls, rfl, hn⟩ := h
  simpa only [Clock.adv, hr, if_true] using hn hr

theorem Device.passTo_sameBeat {d : Device} {t : Nat} (ht : t < d.clk.curLen) (h : d.clk.running = true → d.clk.tick < d.clk.curLen) :
    d.clk.SameBeat (d.passTo t).clk :=
  ⟨t - d.clk.tick, d.clk.latched, d.clk.closed, Device.passTo_clk d t, fun hr => by have := h hr; omega⟩

end Machine

open Claims (clockOk)

/-- A clock in order stays so for the rest of its beat. -/
theorem clockOk_of_sameBeat {c e : Clock} (h : c.SameBeat e) (hc : clockOk c) : clockOk e := by
  obtain ⟨hlen, hlat, hdl, hcur⟩ := h.settings
  obtain ⟨h1, h2, h3, h4, h5, h6, h7, -⟩ := hc
  rw [clockOk, hlen, hlat, hdl, hcur]
  exact ⟨h1, h2, h3, h4, h5, h6, h7, fun hr => h.tick_lt (h.running ▸ hr)⟩

theorem Claims.clockOk.tick_lt {c : Clock} (h : clockOk c) : c.running = true → c.tick < c.curLen := by
  obtain ⟨-, -, -, -, -, -, -, htick⟩ := h
  exact htick

/-- Both phases of a beat lie inside it, however much alignment cuts. -/
theorem Claims.clockOk.phases_lt {c : Clock} (h : clockOk c) : c.latch < c.curLen ∧ c.deadline < c.curLen := by
  obtain ⟨-, -, hl, -, hd, -, hcur, -⟩ := h
  omega

namespace Machine
open Claims (clockOk)

/-! ### The phases of a beat -/

variable {d : Device}

theorem Device.latchPhase_sameBeat (h : clockOk d.clk) : d.clk.SameBeat d.latchPhase.clk := by
  obtain ⟨n, lat, cls, he, hn⟩ := Device.passTo_sameBeat h.phases_lt.1 h.tick_lt
  exact ⟨n, true, cls, by rw [Device.latchPhase_clk, he], hn⟩

theorem Device.deadlinePhase_sameBeat (h : clockOk d.clk) : d.clk.SameBeat d.deadlinePhase.clk := by
  obtain ⟨n, lat, cls, he, hn⟩ := Device.passTo_sameBeat h.phases_lt.2 h.tick_lt
  exact ⟨n, lat, true, by rw [Device.deadlinePhase_clk, he], hn⟩

theorem Device.latchNow_sameBeat (h : clockOk d.clk) : d.clk.SameBeat d.latchNow.clk := by
  have hd := Device.deadlinePhase_sameBeat h
  unfold Device.latchNow
  split
  · exact .refl h.tick_lt
  · dsimp only
    split
    · exact hd.trans (Device.latchPhase_sameBeat (clockOk_of_sameBeat hd h))
    · exact Device.latchPhase_sameBeat h

theorem Device.deadlineNow_sameBeat (h : clockOk d.clk) : d.clk.SameBeat d.deadlineNow.clk := by
  have hl := Device.latchPhase_sameBeat h
  unfold Device.deadlineNow
  split
  · exact .refl h.tick_lt
  · dsimp only
    split
    · exact hl.trans (Device.deadlinePhase_sameBeat (clockOk_of_sameBeat hl h))
    · exact Device.deadlinePhase_sameBeat h

/-- The recorder's instants lie inside the beat. -/
theorem Device.rcUpTo_lt_curLen {T t : Nat} (h : t ∈ d.rcUpTo T) : t < d.clk.curLen := by
  unfold Device.rcUpTo at h
  split at h
  · cases h
  · simp only [List.mem_filter, Bool.and_eq_true, decide_eq_true_eq] at h
    exact h.2.2

theorem Device.recorderNow_sameBeat (h : clockOk d.clk) : d.clk.SameBeat d.recorderNow.clk := by
  unfold Device.recorderNow
  split
  · exact .refl h.tick_lt
  · split
    · exact .refl h.tick_lt
    · split
      next t ts heq => exact Device.passTo_sameBeat (Device.rcUpTo_lt_curLen (heq ▸ List.mem_cons_self ..)) h.tick_lt
      next => exact .refl h.tick_lt

/-- An idle tick never passes the last one of a beat. -/
theorem Device.idleTick_sameBeat (h : clockOk d.clk) : d.clk.SameBeat d.idleTick.clk := by
  unfold Device.idleTick
  split
  · exact .refl h.tick_lt
  · next hlast =>
    refine ⟨1, d.clk.latched, d.clk.closed, Device.ticksPass_clk d 1, fun hr => ?_⟩
    simp only [hr, true_and, Nat.not_le] at hlast
    exact hlast

/-! ### Settings -/

/-- A permitted length (R14), and L and D with room for the beat's ends (R17, R18). -/
def settingsOk (len l dl : Nat) : Prop :=
  permittedLens.contains len = true ∧ 40 ≤ l ∧ l + 40 ≤ len ∧ 40 < dl ∧ dl + 48 ≤ len

theorem settingsOk_of_clockOk {c : Clock} (h : clockOk c) : settingsOk c.len c.latch c.deadline := by
  obtain ⟨h1, h2, h3, h4, h5, -⟩ := h
  exact ⟨h1, h2, h3, h4, h5⟩

theorem settingsOk_default : settingsOk 1600 800 1550 := by unfold settingsOk; decide

/-- Settings that pass the checks of R31, or fail that of R26 alone, are in order. -/
theorem Device.settingsOk_of_settingsCode {len l dl : Nat} (h : d.settingsCode len l dl = 1 ∨ d.settingsCode len l dl = 6) :
    settingsOk len l dl := by
  obtain ⟨hlen, hl, hd⟩ := Device.settingsCode_ok d len l dl h
  simp only [latchOk, deadlineOk, Bool.and_eq_true, decide_eq_true_eq] at hl hd
  exact ⟨hlen, by omega, by omega, by omega, by omega⟩

/-- A clock with other settings of the beat. -/
def Clock.withSettings (c : Clock) (len l dl cur : Nat) : Clock := { c with len := len, latch := l, deadline := dl, curLen := cur }

/-- With settings in order, a beat at its tick 0 or a scheduler that does not run has its clock in order. -/
theorem clockOk_withSettings {c : Clock} {len l dl cur : Nat} (h : settingsOk len l dl) (hle : cur ≤ len) (hcut : len < cur + 16)
    (ht : c.running = true → c.tick = 0) : clockOk (c.withSettings len l dl cur) := by
  obtain ⟨h1, h2, h3, h4, h5⟩ := h
  refine ⟨h1, h2, h3, h4, h5, hle, hcut, fun hr => ?_⟩
  simp only [Clock.withSettings, ht hr]
  omega

/-! ### The boundary -/

theorem Device.settingsBoundary_withSettings (h : settingsOk d.clk.len d.clk.latch d.clk.deadline) :
    ∃ len l dl cur, settingsOk len l dl ∧ d.settingsBoundary.1.clk = d.clk.withSettings len l dl cur := by
  obtain he | ⟨len, l, dl, hcode, he⟩ := Device.settingsBoundary_clk d
  · exact ⟨_, _, _, d.clk.curLen, h, he⟩
  · exact ⟨len, l, dl, len, Device.settingsOk_of_settingsCode (.inl hcode), he⟩

@[simp] theorem Device.lengthChecked_clk (d : Device) (old : Nat) : (d.lengthChecked old).clk = d.clk := by
  unfold Device.lengthChecked
  split <;> rfl

/-- The work of a boundary changes the beat's settings alone of the clock, and leaves them in order. -/
theorem Device.boundaryWork_withSettings (r : Nat) (h : settingsOk d.clk.len d.clk.latch d.clk.deadline) :
    ∃ len l dl cur, settingsOk len l dl ∧ cur ≤ len ∧ len < cur + 16 ∧ (d.boundaryWork r).clk = d.clk.withSettings len l dl cur := by
  obtain ⟨len, l, dl, cur, hok, he⟩ := Device.settingsBoundary_withSettings (d := d.still Device.boundaryFirst) h
  obtain ⟨cut, hcut, ha⟩ :=
    Device.alignBoundary_clk (((d.still Device.boundaryFirst).settingsBoundary).1.lengthChecked d.clk.len) r
  rw [Device.lengthChecked_clk, he] at ha
  exact ⟨len, l, dl, len - cut, hok, Nat.sub_le _ _, by omega, ha⟩

theorem Device.boundaryWork_clockOk (r : Nat) (h : settingsOk d.clk.len d.clk.latch d.clk.deadline)
    (ht : d.clk.running = true → d.clk.tick = 0) : clockOk (d.boundaryWork r).clk := by
  obtain ⟨len, l, dl, cur, hok, hle, hcut, he⟩ := Device.boundaryWork_withSettings r h
  rw [he]
  exact clockOk_withSettings hok hle hcut ht

/-- The block at the end of its beat: both phases had, and the beat's last tick passed. -/
def Device.beatEnd (d : Device) : Device :=
  let d1 := d.latchNow.deadlineNow
  let d2 := (d1.passTo (d1.clk.curLen - 1)).still Device.beatLeftovers
  d2.passTo d2.clk.curLen

/-- The clock when a beat ends. -/
def Clock.nextBeat (c : Clock) : Clock :=
  { c with beat := c.beat + 1, tick := 0, latched := false, closed := false, past := pushBeat c.curLen c.past }

/-- BEAT_BOUNDARY of a running scheduler: the rest of the beat passes, then the boundary's work is done at the next one's
tick 0. -/
theorem Device.boundaryNow_eq (hr : d.clk.running = true) :
    ∃ r, d.boundaryNow = (d.beatEnd.setClk Clock.nextBeat).boundaryWork r := by
  unfold Device.boundaryNow
  rw [if_neg (by simp [hr])]
  exact ⟨_, rfl⟩

/-- All ticks that the beat had left have passed at its end, and nothing else of the clock has changed but its phases. -/
theorem Device.beatEnd_clk (h : clockOk d.clk) (hr : d.clk.running = true) :
    ∃ lat cls, d.beatEnd.clk = { d.clk.adv (d.clk.curLen - d.clk.tick) with latched := lat, closed := cls } := by
  have h1 := Device.latchNow_sameBeat h
  have h2 := h1.trans (Device.deadlineNow_sameBeat (clockOk_of_sameBeat h1 h))
  have ok2 := clockOk_of_sameBeat h2 h
  have hpos := ok2.phases_lt
  obtain ⟨n, lat, cls, he, hn⟩ := h2.trans (Device.passTo_sameBeat
    (t := d.latchNow.deadlineNow.clk.curLen - 1) (by omega) ok2.tick_lt)
  have hn := hn hr
  refine ⟨lat, cls, ?_⟩
  simp only [Device.beatEnd]
  rw [Device.passTo_clk]
  simp only [Device.still_clk, he, Clock.adv, hr, if_true]
  congr 1 <;> omega

/-- The next beat begins when all ticks of the one before have passed, with settings in order. -/
theorem Device.boundaryNow_clk (h : clockOk d.clk) (hr : d.clk.running = true) :
    ∃ len l dl cur, settingsOk len l dl ∧ cur ≤ len ∧ len < cur + 16 ∧
      d.boundaryNow.clk = (d.clk.adv (d.clk.curLen - d.clk.tick)).nextBeat.withSettings len l dl cur := by
  obtain ⟨r, he⟩ := Device.boundaryNow_eq hr
  obtain ⟨lat, cls, hend⟩ := Device.beatEnd_clk h hr
  have hclk : (d.beatEnd.setClk Clock.nextBeat).clk = (d.clk.adv (d.clk.curLen - d.clk.tick)).nextBeat := by
    simp only [Device.setClk, hend]
    rfl
  have hw := Device.boundaryWork_withSettings (d := d.beatEnd.setClk Clock.nextBeat) r (by
    rw [hclk]
    exact settingsOk_of_clockOk (c := d.clk) h)
  rwa [← he, hclk] at hw

theorem Device.boundaryNow_stopped (hr : d.clk.running = false) : d.boundaryNow = d := by
  simp only [Device.boundaryNow, hr, if_true]

theorem Device.boundaryNow_clockOk (h : clockOk d.clk) : clockOk d.boundaryNow.clk := by
  by_cases hr : d.clk.running = true
  · obtain ⟨len, l, dl, cur, hok, hle, hcut, he⟩ := Device.boundaryNow_clk h hr
    rw [he]
    exact clockOk_withSettings hok hle hcut fun _ => rfl
  · rw [Device.boundaryNow_stopped (Bool.eq_false_iff.mpr hr)]
    exact h

/-! ### The loader -/

theorem Device.settingsCode_of_loadCode {fits : Nat → Bool} (h : d.loadCode fits = 1) :
    settingsOk d.shadowSettings.1 d.shadowSettings.2.1 d.shadowSettings.2.2 := by
  apply Device.settingsOk_of_settingsCode (d := d)
  simp only [Device.loadCode] at h
  split at h
  · next hc => exact hc.symm
  · exact .inl h

/-- The loader puts settings in force that are in order (R15). -/
theorem Device.settingsLoad_withSettings (fits : Nat → Bool) :
    ∃ len l dl, settingsOk len l dl ∧ (d.settingsLoad fits).2.clk = d.clk.withSettings len l dl len := by
  simp only [Device.settingsLoad]
  split
  · next hc => exact ⟨_, _, _, Device.settingsCode_of_loadCode hc, rfl⟩
  · exact ⟨1600, 800, 1550, settingsOk_default, rfl⟩

theorem Device.bootSettings_clk (rs : List MfRec) : ∃ fits, (d.bootSettings rs).clk = (d.settingsLoad fits).2.clk := by
  simp only [Device.bootSettings]
  split
  · exact ⟨_, rfl⟩
  · exact ⟨_, rfl⟩

theorem Device.bootCopy_clockOk (p : Nat) (c : MfCheck) (hr : d.clk.running = false) : clockOk (d.bootCopy p c).clk := by
  obtain ⟨fits, he⟩ := Device.bootSettings_clk (d := (d.still fun d => d.bootChosen p c).still fun d => d.bootFive c.recs) c.recs
  obtain ⟨len, l, dl, hok, hw⟩ := Device.settingsLoad_withSettings
    (d := (d.still fun d => d.bootChosen p c).still fun d => d.bootFive c.recs) fits
  rw [Device.bootCopy, Device.bootSteps, he, hw]
  exact clockOk_withSettings hok le_rfl (by omega) fun h => absurd (hr.symm.trans h) (by decide)

theorem Device.copyChecked_clockOk (err : Bool) (at_ : Nat) (h : clockOk d.clk) : clockOk (d.copyChecked err at_).clk := by
  unfold Device.copyChecked
  split
  · exact h
  · dsimp only
    split
    · exact h
    · next hr =>
      split
      · exact Device.bootCopy_clockOk _ _ (by simpa using hr)
      · exact h

theorem Device.loaderTgApply_clockOk (stuck failed : Nat) (h : clockOk d.clk) : clockOk (d.loaderTgApply stuck failed).clk := by
  unfold Device.loaderTgApply
  split
  · exact h
  · exact Device.boundaryWork_clockOk 0 (settingsOk_of_clockOk (c := d.clk) h) fun _ => rfl

/-! ### Every step -/

theorem timeWork_clockOk {c : Instr} {f : Device → Device} (hf : timeWork c = some f) (h : clockOk d.clk) : clockOk (f d).clk := by
  cases c
  case beatBoundary => cases hf; exact Device.boundaryNow_clockOk h
  case latchPhase => cases hf; exact clockOk_of_sameBeat (Device.latchNow_sameBeat h) h
  case dispatchDeadline => cases hf; exact clockOk_of_sameBeat (Device.deadlineNow_sameBeat h) h
  case recorderFrame => cases hf; exact clockOk_of_sameBeat (Device.recorderNow_sameBeat h) h
  case copyChecked err at_ => cases hf; exact Device.copyChecked_clockOk err _ h
  case loaderTgApply stuck failed => cases hf; exact Device.loaderTgApply_clockOk _ _ h
  all_goals cases hf

theorem State.onTime_clockOk {s : State} {f : Device → Device} (h : clockOk s.dev.clk) (hf : clockOk (f s.dev).clk) :
    clockOk (s.onTime f).dev.clk := by
  unfold State.onTime
  split
  · exact h
  · exact hf

/-- A reset starts the clock in order. -/
theorem clockOk_anew : clockOk {} := by
  unfold clockOk
  decide

theorem exec_clockOk {c : Instr} {s t : State} (h : clockOk s.dev.clk) (he : exec c s = .next t) : clockOk t.dev.clk := by
  obtain ⟨f, hf, hx⟩ | hg := exec_timeWork_or_gated c s
  · cases hx.symm.trans he
    exact State.onTime_clockOk h (timeWork_clockOk hf h)
  · rw [he] at hg
    obtain hc | hc := hg.clk <;> rw [hc]
    · exact h
    · exact clockOk_anew

theorem State.idle_clockOk {s : State} (h : clockOk s.dev.clk) : clockOk s.idle.dev.clk :=
  State.onTime_clockOk h (clockOk_of_sameBeat (Device.idleTick_sameBeat h) h)

end Machine

/-- Settles O5: a command's outcome stands behind a gate that passes no time, or is one of six that move the clock, each of
which keeps it in order. -/
theorem everyStepKeepsTheClockInOrder : Obligations.EveryStepKeepsTheClockInOrder := by
  unfold Obligations.EveryStepKeepsTheClockInOrder
  intro s t h hs
  unfold step at hs
  split at hs
  · cases hs
    exact State.idle_clockOk h
  · next rest _ => exact exec_clockOk (s := { s with pending := rest }) h hs

end Sys2Proof
end

section
/-! The beat settings (R14–R18, R26, R31–R34): what their check passes, and a pending commit at the boundary. -/

namespace Sys2Proof

open Sys2Proof.Machine

namespace Machine

variable (d : Device)

/-! ### The check of R31 -/

theorem Device.anyEnabled_eq_false_iff : d.anyEnabled = false ↔ ∀ k < 192, d.axState k = axOFF := by
  simp [Device.anyEnabled]

/-- The conditions of R31, in the order of their codes. -/
theorem Device.settingsCode_eq_one_iff (len l dl : Nat) : d.settingsCode len l dl = 1 ↔
    len ∈ permittedLens ∧ ¬ (len ≠ d.clk.len ∧ d.clk.running = true ∧ d.anyEnabled = true) ∧
    latchOk d.longestF len l (d.get TB_TRIM_TRIM_MAX) = true ∧ deadlineOk d.longestF len dl (d.get TB_TRIM_TRIM_MAX) = true ∧
    d.allFit d.laysInForce dl = true ∧ d.updFits d.laysInForce dl = true := by
  rw [Device.settingsCode, ← List.contains_iff_mem]
  split
  · next hlen =>
    rw [Bool.not_eq_true'] at hlen
    simp only [hlen, Bool.false_eq_true, false_and, OfNat.ofNat_ne_one]
  · next hlen =>
    split
    · next hrun => simp [hrun]
    · next hrun =>
      split
      · next hl => simp [hl]
      · next hl =>
        split
        · next hd => simp [hd]
        · split <;> simp_all

/-- COMMIT_RESULT has room for every code. -/
theorem Device.settingsCode_lt (len l dl : Nat) : d.settingsCode len l dl < 8 := by
  simp only [Device.settingsCode]
  repeat' split
  all_goals decide

end Machine

/-- Settles O7: the conditions of the check are those of R14, R32, R17, R18 and R26, one for one. -/
theorem settingsPassExactlyTheirChecks : Obligations.SettingsPassExactlyTheirChecks := by
  unfold Obligations.SettingsPassExactlyTheirChecks
  intro d len l dl hr
  rw [Device.settingsCode_eq_one_iff, ← Device.anyEnabled_eq_false_iff]
  simp only [hr, true_and, permittedLens, latchOk, deadlineOk, Bool.and_eq_true, decide_eq_true_eq, not_and, Bool.not_eq_true]

namespace Machine

variable {d : Device}

/-! ### A pending commit at the boundary (R31, R34) -/

theorem Device.settingsBoundary_idle (h : d.has TB_STATUS_COMMIT_PEND = false) : d.settingsBoundary = (d, false) := by
  simp only [Device.settingsBoundary, h, Bool.not_false, if_true]

theorem Device.shadowSettings_put_status (v : Nat) :
    (d.put TB_STATUS_COMMIT_PEND v).shadowSettings = d.shadowSettings := by
  simp (disch := decide) only [Device.shadowSettings, Device.get_put_addr]

theorem Device.injTake_eq_none {c i k : Nat} (h : d.injPending c i k = false) : d.injTake c i k = none := by
  have h0 : d.get (INJ_STATUS_REMAINING c i k) = 0 := by simpa [Device.injPending] using h
  simp only [Device.injTake, h0, if_true]

/-- No injection register is one of the beat's. -/
theorem Device.injPending_put (f : Fld) (v c i k : Nat) (hf : f.addr < 0xF000000) :
    (d.put f v).injPending c i k = d.injPending c i k := by
  have hne : (INJ_STATUS_REMAINING c i k).addr ≠ f.addr := by
    simp only [INJ_STATUS_REMAINING, INJ_STATUS]
    omega
  simp only [Device.injPending, Device.get_put_addr _ _ _ _ hne]

/-- The block with the settings taken at a boundary; a new length ends the alignment to whole seconds. -/
def Device.settingsSwap (d : Device) (len l dl : Nat) : Device :=
  let d1 := (d.settingsApply len l dl).put TB_STATUS_COMMIT_RESULT 1
  if len = d.clk.len then d1 else (d1.put TB_STATUS_ALIGNED 0).put TB_STATUS_TRIMMING 0

/-- A pending commit without an injection is judged by the shadow values of the moment. -/
theorem Device.settingsBoundary_pending (hp : d.has TB_STATUS_COMMIT_PEND = true) (hi : d.injPending 1 0xFF 2 = false) :
    let len := d.get TB_BEAT_LEN_LEN
    let l := d.get TB_PHASE_LATCH
    let dl := d.get TB_PHASE_DEADLINE
    let d0 := d.put TB_STATUS_COMMIT_PEND 0
    let c := d0.settingsCode len l dl
    d.settingsBoundary.1 = if c = 1 then d0.settingsSwap len l dl else d0.settingsRefuse c := by
  have hinj : (d.put TB_STATUS_COMMIT_PEND 0).injTake 1 0xFF 2 = none :=
    Device.injTake_eq_none ((Device.injPending_put _ _ _ _ _ (by decide)).trans hi)
  intro len l dl d0 c
  change _ = if d0.settingsCode d.shadowSettings.1 d.shadowSettings.2.1 d.shadowSettings.2.2 = 1 then
    d0.settingsSwap d.shadowSettings.1 d.shadowSettings.2.1 d.shadowSettings.2.2 else d0.settingsRefuse c
  simp only [Device.settingsBoundary, hp, hinj, Device.shadowSettings_put_status, Bool.not_true, Bool.false_eq_true, if_false]
  split
  · rfl
  · next hc =>
    rw [if_pos (Decidable.not_not.mp hc)]
    rfl

theorem Device.settingsSwap_clk (len l dl : Nat) :
    (d.settingsSwap len l dl).clk = { d.clk with len := len, latch := l, deadline := dl, curLen := len } := by
  simp only [Device.settingsSwap]
  split <;> rfl

theorem Device.settingsSwap_ledger (len l dl : Nat) : (d.settingsSwap len l dl).ledger = d.ledger := by
  simp only [Device.settingsSwap]
  split <;> rfl

theorem Device.get_settingsSwap_result (len l dl : Nat) : (d.settingsSwap len l dl).get TB_STATUS_COMMIT_RESULT = 1 := by
  simp only [Device.settingsSwap]
  split <;> simp (disch := decide) only [Device.get_put_disjoint, Device.get_put_same] <;> decide

/-- Settings taken leave COMMIT_PEND, which ALIGNED, TRIMMING and COMMIT_RESULT stand beside. -/
theorem Device.get_settingsSwap_pend (len l dl : Nat) :
    (d.settingsSwap len l dl).get TB_STATUS_COMMIT_PEND = d.get TB_STATUS_COMMIT_PEND := by
  simp only [Device.settingsSwap]
  split <;> simp (disch := decide) only [Device.get_put_disjoint, Device.settingsApply, Device.get_put_addr] <;> rfl

/-- The settings in force are those that the registers TB_ACTIVE show. -/
theorem Device.get_settingsSwap_active {len l dl : Nat} (hlen : len < 2 ^ 13) (hl : l < 2 ^ 13) (hdl : dl < 2 ^ 13) :
    (d.settingsSwap len l dl).get TB_ACTIVE_LEN_LEN = len ∧ (d.settingsSwap len l dl).get TB_ACTIVE_PHASE_LATCH = l ∧
      (d.settingsSwap len l dl).get TB_ACTIVE_PHASE_DEADLINE = dl := by
  simp only [Device.settingsSwap]
  split <;> simp (disch := decide) only [Device.get_put_addr, Device.settingsApply, Device.get_put_disjoint, Device.get_put_same] <;>
    exact ⟨Nat.mod_eq_of_lt hlen, Nat.mod_eq_of_lt hl, Nat.mod_eq_of_lt hdl⟩

end Machine

/-- Settles O8: by whether a commit is pending and whether its check passes. -/
theorem commitTakesEffectAtTheBoundary : Obligations.CommitTakesEffectAtTheBoundary := by
  unfold Obligations.CommitTakesEffectAtTheBoundary
  refine fun d => ⟨Device.settingsBoundary_idle, fun hp hi => ?_⟩
  intro len l dl c e
  have he : e = if c = 1 then (d.put TB_STATUS_COMMIT_PEND 0).settingsSwap len l dl
      else (d.put TB_STATUS_COMMIT_PEND 0).settingsRefuse c := Device.settingsBoundary_pending hp hi
  have hpend : (d.put TB_STATUS_COMMIT_PEND 0).get TB_STATUS_COMMIT_PEND = 0 := Device.get_put_same _ _ _ (by decide)
  by_cases hc : c = 1
  · rw [if_pos hc] at he
    obtain ⟨hlen, hl, hdl⟩ := Device.get_settingsSwap_active (d := d.put TB_STATUS_COMMIT_PEND 0)
      (d.get_lt TB_BEAT_LEN_LEN) (d.get_lt TB_PHASE_LATCH) (d.get_lt TB_PHASE_DEADLINE)
    rw [he]
    exact ⟨(Device.get_settingsSwap_pend _ _ _).trans hpend, (Device.get_settingsSwap_result _ _ _).trans hc.symm,
      fun _ => ⟨Device.settingsSwap_clk _ _ _, hlen, hl, hdl, Device.settingsSwap_ledger _ _ _⟩, fun h => absurd hc h⟩
  · rw [if_neg hc] at he
    rw [he]
    refine ⟨?_, ?_, fun h => absurd h hc, fun _ => ⟨rfl, ?_, ?_, ?_, rfl⟩⟩
    · simp (disch := decide) only [Device.settingsRefuse, Device.get_msg, Device.raise, Device.get_put_addr,
        Device.get_put_disjoint, hpend]
    · simp (disch := decide) only [Device.settingsRefuse, Device.get_msg, Device.raise, Device.get_put_addr, Device.get_put_same]
      exact Nat.mod_eq_of_lt (Device.settingsCode_lt _ _ _ _)
    · simp (disch := decide) only [Device.has, Device.settingsRefuse, Device.get_msg, Device.raise, Device.get_put_same]
      decide
    · simp (disch := decide) only [Device.settingsRefuse, Device.rd_msg, Device.raise, Device.rd_put_other]
    · simp (disch := decide) only [Device.settingsRefuse, Device.rd_msg, Device.raise, Device.rd_put_other]

end Sys2Proof
end

section
/-! The boundary (R16, R28, R29): alignment cuts a beat and never lengthens it, and BEAT_BOUNDARY begins the next one. -/

namespace Sys2Proof

open Sys2Proof.Machine
open Claims (clockOk)

/-- A field of a register that two blocks share. -/
theorem sameRegs.get {d e : Device} {A : Nat → Prop} (h : sameRegs d e A) {f : Fld} (hf : ¬ A f.addr) : e.get f = d.get f := by
  simp only [Device.get, h f.addr hf]

theorem sameRegs.ite {d e f : Device} {A : Nat → Prop} (p : Prop) [Decidable p] (h : sameRegs d e A) (g : sameRegs d f A) :
    sameRegs d (if p then e else f) A := by split <;> assumption

/-! ### Alignment -/

/-- The registers that alignment writes. -/
def alignReg (a : Nat) : Prop := a = TB_STATUS ∨ a = TB_PHASE_ERR ∨ a = TB_EVENT

theorem sameRegs.aligned (d : Device) : sameRegs d d.aligned alignReg := by
  have h := (sameRegs.put d TB_STATUS_TRIMMING 0 alignReg (.inl rfl)).trans (.put _ TB_PHASE_ERR_ERR 0 _ (.inr (.inl rfl)))
  exact .ite _ h ((h.trans (.put _ TB_STATUS_ALIGNED 1 _ (.inl rfl))).trans (.put _ TB_EVENT_ALIGN_DONE 1 _ (.inr (.inr rfl))))

theorem sameRegs.alignWork (d : Device) (removed : Nat) : sameRegs d (d.alignWork removed) alignReg := by
  have h := sameRegs.ite (A := alignReg) (d.has TB_STATUS_TRIMMING = true)
    (.ite (d.get TB_PHASE_ERR_ERR - removed = 0) (sameRegs.aligned d)
      (.put d TB_PHASE_ERR_ERR (d.get TB_PHASE_ERR_ERR - removed) _ (.inr (.inl rfl))))
    (sameRegs.refl d _)
  exact .ite _ h (h.trans (.put _ TB_STATUS_TRIMMING 0 _ (.inl rfl)))

namespace Machine

theorem Device.alignCut_le (d : Device) : d.alignCut ≤ d.get TB_TRIM_TRIM_MAX := by
  unfold Device.alignCut
  split
  · exact Nat.min_le_left _ _
  · exact Nat.zero_le _

theorem Device.alignCut_of_not_trimming {d : Device} (h : d.has TB_STATUS_TRIMMING = false) : d.alignCut = 0 := by
  simp only [Device.alignCut, h, Bool.false_eq_true, if_false]

/-- The beat that begins is LEN less the cut that follows from the remaining error. -/
theorem Device.alignBoundary_clk_eq (d : Device) (removed : Nat) :
    (d.alignBoundary removed).clk = { d.clk with curLen := d.clk.len - (d.alignBoundary removed).alignCut } := rfl

/-- Alignment leaves TRIM_MAX, so it cuts no more than TRIM_MAX. -/
theorem Device.alignBoundary_cut_le (d : Device) (removed : Nat) :
    (d.alignBoundary removed).alignCut ≤ d.get TB_TRIM_TRIM_MAX :=
  calc (d.alignBoundary removed).alignCut
      ≤ (d.alignWork removed).get TB_TRIM_TRIM_MAX := Device.alignCut_le _
    _ = d.get TB_TRIM_TRIM_MAX := (sameRegs.alignWork d removed).get (by unfold alignReg; decide)

end Machine

theorem alignmentNeverLengthensABeat : Claims.AlignmentNeverLengthensABeat := by
  intro d removed hok ht e
  have hcut : e.alignCut ≤ d.get TB_TRIM_TRIM_MAX := Device.alignBoundary_cut_le d removed
  have hmax : d.get TB_TRIM_TRIM_MAX < 16 := d.get_lt _
  obtain ⟨-, -, -, hd, hdl⟩ := settingsOk_of_clockOk hok
  have hclk : e.clk = { d.clk with curLen := d.clk.len - e.alignCut } := Device.alignBoundary_clk_eq d removed
  refine ⟨rfl, rfl, ?_, ?_, ?_, fun htrim => ?_⟩
  · rw [hclk]
    exact Nat.sub_le _ _
  · rw [hclk]
    show d.clk.len ≤ d.clk.len - e.alignCut + _
    omega
  · rw [hclk]
    show d.clk.tick + 1 ≤ d.clk.len - e.alignCut
    omega
  · rw [hclk, Device.alignCut_of_not_trimming htrim]
    rfl

theorem boundaryBeginsTheNextBeat : Claims.BoundaryBeginsTheNextBeat := by
  intro s hreset hok
  have hexec : exec .beatBoundary s = .next { s with dev := s.dev.boundaryNow } :=
    congrArg Host.Outcome.next (State.onTime_run s Device.boundaryNow hreset)
  refine ⟨_, hexec, rfl, fun hr => ?_, fun hr => ?_⟩
  · rw [Device.boundaryNow_stopped hr]
  · obtain ⟨len, l, dl, cur, -, -, -, he⟩ := Device.boundaryNow_clk hok hr
    simp only [he]
    exact ⟨hr, rfl, rfl, rfl, rfl, rfl⟩

/-- Settles O9: the cut of a beat is at most TRIM_MAX, which is less than the room after D, and the clock at the boundary is
that of the beat's end with the count one on and its tick 0. -/
theorem boundaryBeginsAnAlignedBeat : Obligations.BoundaryBeginsAnAlignedBeat :=
  ⟨alignmentNeverLengthensABeat, boundaryBeginsTheNextBeat⟩

end Sys2Proof
end

section
/-! Overruns (R22, R25), the commands on the beat's registers (R17, R18, R25, R31) and the intervals of TB_SLACK (R27). -/

namespace Sys2Proof

open Sys2Proof.Machine

namespace Machine

/-! ### One overrun -/

theorem satU_lt (w n : Nat) : satU w n < 2 ^ w := by
  unfold satU
  split
  · assumption
  · exact Nat.sub_lt (Nat.two_pow_pos w) Nat.one_pos

/-- A saturating count read back. -/
theorem Device.get_incSat_same (d : Device) (f : Fld) (n : Nat) (h : f.lo + f.width ≤ 32) :
    (d.incSat f n).get f = satU f.width (d.get f + n) :=
  (Device.get_put_same d f _ h).trans (Nat.mod_eq_of_lt (satU_lt _ _))

theorem Device.get_incSat_addr (d : Device) (f g : Fld) (n : Nat) (h : g.addr ≠ f.addr) : (d.incSat f n).get g = d.get g :=
  Device.get_put_addr d f g _ h

section Overrun
variable (d : Device) (e k consec : Nat)

/-- The registers that an overrun of an engine writes. -/
def ovrReg (e a : Nat) : Prop := a ∈ [TB_OVR_COUNT, TB_OVR_LAST, TB_EVENT, (DV_OVR_COUNT e).addr]

/-- The beat's own registers after an overrun. -/
def Device.overrunBeat : Device :=
  ((((d.incSat TB_OVR_COUNT_COUNT).put TB_OVR_LAST_CONSEC consec).put TB_OVR_LAST_ENGINE e).put TB_OVR_LAST_AXIS k).raise TB_EVENT_OVERRUN

theorem Device.get_overrunBeat (hc : consec < 2 ^ 16) (he : e < 2 ^ 5) (hk : k < 2 ^ 8) :
    (d.overrunBeat e k consec).get TB_OVR_COUNT_COUNT = satU 32 (d.get TB_OVR_COUNT_COUNT + 1) ∧
    (d.overrunBeat e k consec).get TB_OVR_LAST_CONSEC = consec ∧ (d.overrunBeat e k consec).get TB_OVR_LAST_ENGINE = e ∧
    (d.overrunBeat e k consec).get TB_OVR_LAST_AXIS = k ∧ (d.overrunBeat e k consec).get TB_EVENT_OVERRUN = 1 := by
  simp (disch := decide) only [Device.overrunBeat, Device.raise, Device.get_put_addr, Device.get_put_disjoint, Device.get_put_same,
    Device.get_incSat_same]
  exact ⟨rfl, Nat.mod_eq_of_lt hc, Nat.mod_eq_of_lt he, Nat.mod_eq_of_lt hk, rfl⟩

/-- An engine's registers lie above those of the beat. -/
theorem ovrCount_ne (f : Fld) (h : f.addr < 0x200000) : f.addr ≠ (DV_OVR_COUNT e).addr := by
  simp only [DV_OVR_COUNT, DV_OVR]
  omega

/-- The registers after an overrun: those of the beat, then the engine's count. -/
theorem Device.overrunAxis_regs :
    (d.overrunAxis e k consec none).regs = ((d.overrunBeat e k consec).incSat (DV_OVR_COUNT e)).regs := by
  simp only [Device.overrunAxis, Device.overrunBeat, Device.msg, Device.setAx_regs]

theorem Device.get_of_regs {a b : Device} (h : a.regs = b.regs) (f : Fld) : a.get f = b.get f := by
  simp only [Device.get, Device.rd, h]

/-- A field of the beat's registers is the same before and after the engine's count. -/
theorem Device.get_overrunAxis (f : Fld) (h : f.addr < 0x200000) :
    (d.overrunAxis e k consec none).get f = (d.overrunBeat e k consec).get f :=
  (Device.get_of_regs (d.overrunAxis_regs e k consec) f).trans (Device.get_incSat_addr _ _ _ _ (ovrCount_ne e f h))

theorem Device.get_overrunAxis_ovrCount :
    (d.overrunAxis e k consec none).get (DV_OVR_COUNT e) = satU (DV_OVR_COUNT e).width (d.get (DV_OVR_COUNT e) + 1) := by
  have hput : ∀ (f : Fld) (v : Nat) (b : Device), f.addr < 0x200000 → (b.put f v).get (DV_OVR_COUNT e) = b.get (DV_OVR_COUNT e) :=
    fun f v b h => Device.get_put_addr b f _ v (ovrCount_ne e f h).symm
  have hbeat : (d.overrunBeat e k consec).get (DV_OVR_COUNT e) = d.get (DV_OVR_COUNT e) := by
    simp (disch := decide) only [Device.overrunBeat, Device.raise, Device.incSat, hput]
  rw [Device.get_of_regs (d.overrunAxis_regs e k consec), Device.get_incSat_same _ _ _ (by simp only [DV_OVR_COUNT]; decide), hbeat]

theorem Device.sameRegs_overrunAxis : sameRegs d (d.overrunAxis e k consec none) (ovrReg e) := by
  have hc : ovrReg e TB_OVR_COUNT := by simp [ovrReg]
  have hl : ovrReg e TB_OVR_LAST := by simp [ovrReg]
  have hv : ovrReg e TB_EVENT := by simp [ovrReg]
  have hd : ovrReg e (DV_OVR_COUNT e).addr := by simp [ovrReg]
  have hbeat : sameRegs d (d.overrunBeat e k consec) (ovrReg e) :=
    ((((sameRegs.put _ TB_OVR_COUNT_COUNT _ _ hc).trans (.put _ TB_OVR_LAST_CONSEC _ _ hl)).trans
      (.put _ TB_OVR_LAST_ENGINE _ _ hl)).trans (.put _ TB_OVR_LAST_AXIS _ _ hl)).trans (.put _ TB_EVENT_OVERRUN _ _ hv)
  exact (hbeat.trans (.put _ (DV_OVR_COUNT e) _ _ hd)).trans (.regs _ (d.overrunAxis_regs e k consec))

/-- No result of the axis stands staged, and no other axis is touched. -/
theorem Device.overrunAxis_axes :
    (d.overrunAxis e k consec none).axes = d.axes.upd {} k fun a => { a with staged := none } := by
  simp only [Device.overrunAxis, Device.msg, Device.setAx, Device.incSat, Device.raise, Device.put_axes]

theorem Device.ax_overrunAxis_same : (d.overrunAxis e k consec none).ax k = { d.ax k with staged := none } := by
  rw [Device.ax, Device.overrunAxis_axes, Store.pick_upd_same]
  rfl

theorem Device.ax_overrunAxis_other {j : Nat} (h : j ≠ k) : (d.overrunAxis e k consec none).ax j = d.ax j := by
  rw [Device.ax, Device.overrunAxis_axes, Store.pick_upd_other _ _ _ _ _ h]
  rfl

end Overrun

end Machine

theorem overrunIsCountedAndReported : Claims.OverrunIsCountedAndReported := by
  intro d e k consec hc x
  have hget : ∀ f : Fld, f.addr < 0x200000 → x.get f = (d.overrunBeat e k consec).get f := d.get_overrunAxis e k consec
  obtain ⟨hcount, hconsec, hengine, haxis, hevent⟩ :=
    d.get_overrunBeat e k consec hc (Nat.lt_trans e.isLt (by decide)) (Nat.lt_trans k.isLt (by decide))
  refine ⟨(hget _ (by decide)).trans hcount, d.get_overrunAxis_ovrCount e k consec, (hget _ (by decide)).trans hconsec,
    (hget _ (by decide)).trans hengine, (hget _ (by decide)).trans haxis, ?_, ?_,
    fun j hj => d.ax_overrunAxis_other e k consec hj, rfl, d.sameRegs_overrunAxis e k consec, rfl⟩
  · rw [Device.has, hget _ (by decide), hevent]
    rfl
  · rw [d.ax_overrunAxis_same]

/-! ### The commands on the beat's registers -/

/-- R17 and R18 for L and D in force with a TRIM_MAX. -/
def trimFits (d : Device) (trim : Nat) : Prop :=
  d.longestF + 40 ≤ d.clk.latch ∧ d.clk.latch + 40 + trim ≤ d.clk.len ∧
    d.longestF + 40 < d.clk.deadline ∧ d.clk.deadline + 48 + trim ≤ d.clk.len

theorem latchOk_and_deadlineOk_iff (d : Device) (trim : Nat) :
    (latchOk d.longestF d.clk.len d.clk.latch trim && deadlineOk d.longestF d.clk.len d.clk.deadline trim) = true ↔
      trimFits d trim := by
  simp only [latchOk, deadlineOk, trimFits, Bool.and_eq_true, decide_eq_true_eq, and_assoc]

theorem ofNat_andN (v m : BitVec 32) : BitVec.ofNat 32 (andN v.toNat m.toNat) = v &&& m := by
  rw [andN, ← BitVec.toNat_and, BitVec.ofNat_toNat, BitVec.setWidth_eq]

section Commands
variable {s : State} (h : s.dev.inReset = false)
include h

theorem leads_beatCommit : leads .beatCommit s (fun d => d.get TB_STATUS_COMMIT_PEND = 1 ∧
    d.get TB_STATUS_COMMIT_RESULT = s.dev.get TB_STATUS_COMMIT_RESULT ∧ onlyRegs s.dev d (· = TB_STATUS)) :=
  leads_onDev _ s Device.commitRequest _ rfl h ⟨Device.get_put_same _ _ _ (by decide),
    Device.get_put_disjoint _ _ _ _ rfl (by decide) (by decide), rfl, sameRegs.put _ TB_STATUS_COMMIT_PEND 1 _ rfl⟩

theorem leads_clearOvr : leads .clearOvr s (fun d => d.rd TB_OVR_COUNT = 0 ∧ d.rd TB_OVR_LAST = 0 ∧
    onlyRegs s.dev d (fun a => a = TB_OVR_COUNT ∨ a = TB_OVR_LAST)) := by
  refine leads_onDev _ s Device.clearOvr _ rfl h ⟨?_, ?_, rfl, ?_⟩
  · exact (Device.rd_wr_other (s.dev.wrN TB_OVR_COUNT 0) TB_OVR_LAST TB_OVR_COUNT 0 (by decide)).trans (Device.rd_wr_same _ _ _)
  · exact Device.rd_wr_same (s.dev.wrN TB_OVR_COUNT 0) TB_OVR_LAST 0
  · exact (sameRegs.wr s.dev TB_OVR_COUNT 0 _ (.inl rfl)).trans (sameRegs.wr _ TB_OVR_LAST 0 _ (.inr rfl))

theorem leads_tbTrimWrite_fits (v : BitVec 32) (hf : trimFits s.dev (v.toNat % 16)) :
    leads (.tbTrimWrite v) s (fun d => d.rd TB_TRIM = v &&& 0x10F ∧ onlyRegs s.dev d (· = TB_TRIM)) := by
  have hw : s.dev.trimWrite v.toNat = s.dev.wrN TB_TRIM (andN v.toNat 0x10F) :=
    if_pos ((latchOk_and_deadlineOk_iff _ _).mpr hf)
  refine leads_onDev _ s (fun d => d.trimWrite v.toNat) _ rfl h ?_
  rw [Device.still, hw]
  exact ⟨(Device.rd_wr_same _ _ _).trans (ofNat_andN v 0x10F), rfl, sameRegs.wr _ _ _ _ rfl⟩

theorem leads_tbTrimWrite_ignored (v : BitVec 32) (hf : ¬ trimFits s.dev (v.toNat % 16)) :
    leads (.tbTrimWrite v) s (· = s.dev) := by
  have hw : s.dev.trimWrite v.toNat = s.dev := if_neg (mt (latchOk_and_deadlineOk_iff _ _).mp hf)
  refine leads_onDev _ s (fun d => d.trimWrite v.toNat) _ rfl h ?_
  rw [Device.still, hw]

end Commands

/-! ### What the pace check leaves alone -/

namespace Machine

/-- What SLACK_INTERVAL_END publishes and begins: the time unit, the engines' own measures and TB_SLACK. -/
def Device.slackPart (d : Device) : Tm × Store Engine × BitVec 32 := (d.tm, d.engines, d.rd TB_SLACK)

theorem Device.slackPart_put (d : Device) (f : Fld) (v : Nat) (h : TB_SLACK < f.addr) : (d.put f v).slackPart = d.slackPart := by
  simp only [Device.slackPart, Device.rd_put_other d f v TB_SLACK h.ne, Device.put_tm, Device.put_engines]

@[simp] theorem Device.slackPart_setCv (d : Device) (f : Caravan → Caravan) : (d.setCv f).slackPart = d.slackPart := rfl
@[simp] theorem Device.slackPart_msg (d : Device) (c i k x : Nat) (j r : Bool) : (d.msg c i k x j r).slackPart = d.slackPart := rfl
@[simp] theorem Device.slackPart_fresh (d : Device) : d.fresh.2.slackPart = d.slackPart := rfl

/-- A fold of operations that each keep a part of the block keeps it. -/
theorem foldl_part {α β : Type} (p : Device → β) {f : Device → α → Device} (hf : ∀ d x, p (f d x) = p d) (l : List α) :
    ∀ d, p (l.foldl f d) = p d := by
  induction l with
  | nil => exact fun d => rfl
  | cons x l ih => exact fun d => (ih _).trans (hf d x)

variable (d : Device)

theorem Device.slackPart_injTake {d : Device} {c i k : Nat} {x : Nat × Device} (h : d.injTake c i k = some x) : x.2.slackPart = d.slackPart := by
  simp only [Device.injTake] at h
  split at h
  · cases h
  · cases h
    exact Device.slackPart_put _ _ _ (by simp only [INJ_STATUS_REMAINING, INJ_STATUS, TB_SLACK]; omega)

theorem Device.slackPart_detect (c i k : Nat) (real : Bool) (x : Nat) (eff : Device → Device) (r : Bool)
    (he : ∀ b, (eff b).slackPart = b.slackPart) : (d.detect c i k real x eff r).slackPart = d.slackPart := by
  unfold Device.detect
  split
  · exact he d
  · split
    · next dt d1 h => exact (he d1).trans (Device.slackPart_injTake h)
    · rfl

@[simp] theorem Device.slackPart_cvShow : d.cvShow.slackPart = d.slackPart :=
  (Device.slackPart_put _ CV_STATUS_RELAY _ (by decide)).trans (Device.slackPart_put _ CV_STATUS_ACTIVE _ (by decide))

@[simp] theorem Device.slackPart_imgShow : d.imgShow.slackPart = d.slackPart :=
  foldl_part Device.slackPart (fun b i => Device.slackPart_put b (CV_IMG_STATE_IN_USE i) _
    (by simp only [CV_IMG_STATE_IN_USE, CV_IMG_STATE, TB_SLACK]; omega)) _ d

@[simp] theorem Device.slackPart_setRole (e r : Nat) : (d.setRole e r).slackPart = d.slackPart := by
  unfold Device.setRole
  refine (Device.slackPart_detect _ _ _ _ _ _ _ _ fun b => Device.slackPart_put b CV_EVENT_RELAY_LOW 1 (by decide)).trans ?_
  rw [Device.slackPart_imgShow, Device.slackPart_cvShow, Device.slackPart_setCv]
  exact Device.slackPart_put _ (DV_STATUS_ROLE e) _ (by simp only [DV_STATUS_ROLE, DV_STATUS, TB_SLACK]; omega)

@[simp] theorem Device.slackPart_cvLoad (e image : Nat) : (d.cvLoad e image).slackPart = d.slackPart := by
  unfold Device.cvLoad
  rw [Device.slackPart_setCv, Device.slackPart_setRole]
  exact Device.slackPart_put _ (CV_ENG_STATE_IMAGE e) _ (by simp only [CV_ENG_STATE_IMAGE, CV_ENG_STATE, TB_SLACK]; omega)

@[simp] theorem Device.slackPart_cvDecide : d.cvDecide.2.slackPart = d.slackPart := by
  have hput : ∀ (b : Device) (f : Fld) (v : Nat), f.addr = CV_VOTE ∨ f.addr = CV_EVENT ∨ f.addr = CV_STATUS →
      (b.put f v).slackPart = b.slackPart := by
    intro b f v h
    refine Device.slackPart_put b f v ?_
    obtain h | h | h := h <;> rw [h] <;> decide
  unfold Device.cvDecide
  extract_lets voters one out d1
  have hone : ∀ b r, (one b r).slackPart = b.slackPart := by
    intro b r
    simp only [one]
    split
    · next dt b1 h =>
      rw [Device.slackPart_msg]
      exact (hput _ CV_STATUS_REPLICAS _ (.inr (.inr rfl))).trans ((hput _ CV_EVENT_VOTE 1 (.inr (.inl rfl))).trans
        ((hput b1 ⟨CV_VOTE, 8 * r, 8⟩ _ (.inl rfl)).trans (Device.slackPart_injTake h)))
    · rfl
  have hd1 : d1.slackPart = d.slackPart := foldl_part Device.slackPart hone voters d
  clear_value d1 out
  split
  · cases out with
    | nil => exact hd1
    | cons r rs => exact hd1
  · split
    · next dt d2 h =>
      simp only [Device.slackPart_msg]
      rw [hput _ _ _ (.inr (.inr rfl))]
      exact (Device.slackPart_injTake h).trans hd1
    · exact hd1

@[simp] theorem Device.slackPart_cvStart (cause e image : Nat) : (d.cvStart cause e image).slackPart = d.slackPart := by
  unfold Device.cvStart
  simp only
  split
  · rw [Device.slackPart_cvLoad, Device.slackPart_setCv, Device.slackPart_cvDecide]
  · exact d.slackPart_cvDecide

@[simp] theorem Device.slackPart_updStart : d.updStart.slackPart = d.slackPart := by
  unfold Device.updStart
  simp only
  split
  · rfl
  · split
    · exact (Device.slackPart_put _ CV_EVENT_UPDATE_DONE 1 (by decide)).trans (Device.slackPart_put _ CV_STATUS_UPDATE 2 (by decide))
    · split
      · rfl
      · rw [Device.slackPart_cvStart, Device.slackPart_setCv]

@[simp] theorem Device.slackPart_cvService : d.cvService.slackPart = d.slackPart := by
  unfold Device.cvService
  simp only
  split
  · rfl
  · split
    · split
      · rfl
      · simp only [Device.slackPart_cvStart, Device.slackPart_setCv]
    · split
      · split
        · rfl
        · split
          · simp only [Device.slackPart_cvStart, Device.slackPart_setCv]
          · rfl
      · simp only [Device.slackPart_updStart, Device.slackPart_setCv]

theorem Device.slackPart_cvPaceCheck : d.cvPaceCheck.slackPart = d.slackPart := by
  unfold Device.cvPaceCheck
  rw [Device.slackPart_cvService]
  refine foldl_part Device.slackPart (fun b e => ?_) _ d
  extract_lets m warn low isNew b1 b2 busy
  have hb2 : b2.slackPart = b.slackPart :=
    (Device.slackPart_detect b1 3 e 9 isNew m id false fun _ => rfl).trans (Device.slackPart_setCv _ _)
  split
  · exact hb2
  · exact hb2

/-! ### The intervals of TB_SLACK (R27) -/

theorem least_cons_cons (f : Nat → Nat) (x y : Nat) (l : List Nat) :
    least f (x :: y :: l) = if f y < f x then least f (y :: l) else least f (x :: l) := by
  by_cases h : f y < f x <;> simp only [least, List.foldl_cons, h, if_true, if_false]

/-- Of a list that is not empty there is a member with the least measure. -/
theorem least_spec (f : Nat → Nat) (l : List Nat) :
    ∀ x, ∃ m ∈ x :: l, least f (x :: l) = some m ∧ ∀ y ∈ x :: l, f m ≤ f y := by
  induction l with
  | nil => exact fun x => ⟨x, List.mem_cons_self .., rfl, by simp⟩
  | cons z l ih =>
    intro x
    rw [least_cons_cons]
    by_cases h : f z < f x
    · obtain ⟨m, hm, he, hle⟩ := ih z
      refine ⟨m, List.mem_cons_of_mem _ hm, by rw [if_pos h, he], ?_⟩
      have hz := hle z (List.mem_cons_self ..)
      exact List.forall_mem_cons.mpr ⟨by omega, hle⟩
    · obtain ⟨m, hm, he, hle⟩ := ih x
      rw [List.forall_mem_cons] at hle
      refine ⟨m, ?_, by rw [if_neg h, he], ?_⟩
      · simp only [List.mem_cons] at hm ⊢
        tauto
      · simp only [List.forall_mem_cons]
        exact ⟨hle.1, by omega, hle.2⟩

/-- The least margin `m` of engine `best` published, and the next interval begun at `t`. -/
def Device.slackPublish (t m best : Nat) : Device :=
  let d2 := (d.put TB_SLACK_MIN_SLACK m).put TB_SLACK_ENGINE best
  (d2.wrN IT_ROUND (d2.rdN IT_ROUND % 65536)).setTm fun s => { s with slackAt := t }

variable {d}

/-- At the end of an interval the least margin of the engines is published. -/
theorem Device.slackInterval_eq {t : Nat} (hr : d.clk.running = true) (ht : d.slackEnd = some t) :
    ∃ e < 28, (∀ f < 28, (d.eng e).minSlack ≤ (d.eng f).minSlack) ∧
      d.slackInterval = (((List.range 28).foldl Device.engInterval d).slackPublish t (d.eng e).minSlack e).cvPaceCheck := by
  have hmin : ∀ e < 28, ((List.range 28).map fun e => (d.eng e).minSlack).getD e 0xFFFF = (d.eng e).minSlack := by
    intro e he
    simp [List.getD, he]
  obtain ⟨e, hmem, hleast, hle⟩ := least_spec (fun e => ((List.range 28).map fun e => (d.eng e).minSlack).getD e 0xFFFF) (List.range' 1 27) 0
  have hrange : 0 :: List.range' 1 27 = List.range 28 := by decide
  simp only [hrange, List.mem_range] at hmem hleast hle
  refine ⟨e, hmem, fun f hf => ?_, ?_⟩
  · simpa only [hmin e hmem, hmin f hf] using hle f hf
  · simp only [Device.slackInterval, hr, ht, hleast, Option.getD_some, hmin e hmem]
    rfl

/-- An engine whose next interval begins. -/
def Engine.nextInterval (s : Engine) : Engine := { s with minSlack := 0xFFFF, peakSteps := 0, pacePeak := 0 }

theorem Device.engInterval_engines (d : Device) (e : Nat) : (d.engInterval e).engines = d.engines.upd {} e Engine.nextInterval := by
  unfold Device.engInterval
  simp only [Device.setEng, Device.put_engines]
  rfl

theorem Device.minSlack_engInterval_same (d : Device) (e : Nat) : ((d.engInterval e).eng e).minSlack = 0xFFFF := by
  rw [Device.eng, Device.engInterval_engines, Store.pick_upd_same]
  rfl

theorem Device.minSlack_engInterval_kept (d : Device) (e x : Nat) (h : (d.eng e).minSlack = 0xFFFF) :
    ((d.engInterval x).eng e).minSlack = 0xFFFF := by
  by_cases hx : e = x
  · rw [hx]
    exact d.minSlack_engInterval_same x
  · rwa [Device.eng, Device.engInterval_engines, Store.pick_upd_other _ _ _ _ _ hx]

theorem Device.minSlack_foldl_kept (e : Nat) (l : List Nat) : ∀ d : Device, (d.eng e).minSlack = 0xFFFF →
    ((l.foldl Device.engInterval d).eng e).minSlack = 0xFFFF := by
  induction l with
  | nil => exact fun d h => h
  | cons x l ih => exact fun d h => ih _ (d.minSlack_engInterval_kept e x h)

/-- The next interval begins with no margin known of any engine treated. -/
theorem Device.minSlack_foldl_engInterval (e : Nat) (l : List Nat) : ∀ d : Device, e ∈ l →
    ((l.foldl Device.engInterval d).eng e).minSlack = 0xFFFF := by
  induction l with
  | nil => exact fun d h => absurd h List.not_mem_nil
  | cons x l ih =>
    intro d h
    by_cases hx : e = x
    · subst hx
      exact Device.minSlack_foldl_kept e l _ (d.minSlack_engInterval_same e)
    · exact ih _ ((List.mem_cons.mp h).resolve_left hx)

theorem Device.slackPublish_engines (d : Device) (t m best : Nat) : (d.slackPublish t m best).engines = d.engines := rfl

/-- The published margin and its engine. -/
theorem Device.get_slackPublish (d : Device) (t m best : Nat) :
    (d.slackPublish t m best).get TB_SLACK_MIN_SLACK = m % 65536 ∧ (d.slackPublish t m best).get TB_SLACK_ENGINE = best % 32 := by
  have hwr : ∀ (b : Device) (n : Nat) (f : Fld), f.addr ≠ IT_ROUND → (b.wrN IT_ROUND n).get f = b.get f := by
    intro b n f hf
    simp only [Device.get, Device.wrN, Device.rd_wr_other _ _ _ _ hf]
  have htm : ∀ (b : Device) (g : Tm → Tm) (f : Fld), (b.setTm g).get f = b.get f := fun _ _ _ => rfl
  simp (disch := decide) only [Device.slackPublish, htm, hwr, Device.get_put_disjoint, Device.get_put_same]
  exact ⟨rfl, rfl⟩

theorem Device.slackPart_eq {a b : Device} (h : a.slackPart = b.slackPart) :
    a.tm = b.tm ∧ a.engines = b.engines ∧ a.rd TB_SLACK = b.rd TB_SLACK := by
  simpa only [Device.slackPart, Prod.mk.injEq] using h

end Machine

theorem leads_slackIntervalEnd {s : State} (h : s.dev.inReset = false) {t : Nat} (hr : s.dev.clk.running = true)
    (ht : s.dev.slackEnd = some t) :
    leads .slackIntervalEnd s (fun d => d.tm.slackAt = t ∧ (∀ e < 28, (d.eng e).minSlack = 0xFFFF) ∧
      ∃ e < 28, d.get TB_SLACK_MIN_SLACK = (s.dev.eng e).minSlack % 65536 ∧ d.get TB_SLACK_ENGINE = e ∧
        ∀ f < 28, (s.dev.eng e).minSlack ≤ (s.dev.eng f).minSlack) := by
  obtain ⟨e, he, hle, heq⟩ := Device.slackInterval_eq hr ht
  have hslack : ∀ k < 28, (((List.range 28).foldl Device.engInterval s.dev).eng k).minSlack = 0xFFFF :=
    fun k hk => Device.minSlack_foldl_engInterval k _ s.dev (List.mem_range.mpr hk)
  generalize (List.range 28).foldl Device.engInterval s.dev = b at heq hslack
  obtain ⟨htm, heng, hrd⟩ := Device.slackPart_eq (Device.slackPart_cvPaceCheck (b.slackPublish t (s.dev.eng e).minSlack e))
  obtain ⟨hmargin, hengine⟩ := b.get_slackPublish t (s.dev.eng e).minSlack e
  rw [← heq] at htm heng hrd
  have hget : ∀ f : Fld, f.addr = TB_SLACK → s.dev.slackInterval.get f = (b.slackPublish t (s.dev.eng e).minSlack e).get f := by
    intro f hf
    simp only [Device.get, hf, hrd]
  refine leads_onDev _ s Device.slackInterval _ rfl h ⟨?_, fun k hk => ?_, e, he, ?_, ?_, hle⟩
  · exact congrArg Tm.slackAt htm
  · have hk' := hslack k hk
    rwa [Device.eng, ← b.slackPublish_engines t (s.dev.eng e).minSlack e, ← heng] at hk'
  · rw [Device.get_still, hget _ rfl, hmargin]
  · rw [Device.get_still, hget _ rfl, hengine, Nat.mod_eq_of_lt (by omega)]

theorem beatRegisterCommands : Claims.BeatRegisterCommands := by
  intro s h
  exact ⟨leads_beatCommit h, leads_clearOvr h, fun v => ⟨leads_tbTrimWrite_fits h v, leads_tbTrimWrite_ignored h v⟩,
    fun t hr ht => leads_slackIntervalEnd h hr ht⟩

/-- Settles O11: by what one overrun writes, and by each command's own operation; the pace check at the end of an interval
touches neither the published margin nor the engines' measures. -/
theorem overrunsAndBeatCommands : Obligations.OverrunsAndBeatCommands := ⟨overrunIsCountedAndReported, beatRegisterCommands⟩

end Sys2Proof
end

section
/-! Squashes (R61, R63, R84, R220): the pulses of milestones that a squash withdraws, the axes that it draws along, and what it
leaves of the block. -/

namespace Sys2Proof

open Sys2Proof.Machine

namespace Machine

/-! ### Registers by address and by bits -/

/-- A snapshot field that shares no bit with the one written, whatever its register. -/
theorem Device.liveGet_livePut_bits (d : Device) (f g : Fld) (v : Nat) (h : g.lo + g.width ≤ f.lo ∨ f.lo + f.width ≤ g.lo)
    (h' : g.lo + g.width ≤ 32) : (d.livePut f v).liveGet g = d.liveGet g := by
  by_cases ha : g.addr = f.addr
  · exact d.liveGet_livePut_disjoint f g v ha h h'
  · exact d.liveGet_livePut_addr f g v ha

/-- A field that shares no bit with the one written, whatever its register. -/
theorem Device.get_put_bits (d : Device) (f g : Fld) (v : Nat) (h : g.lo + g.width ≤ f.lo ∨ f.lo + f.width ≤ g.lo)
    (h' : g.lo + g.width ≤ 32) : (d.put f v).get g = d.get g := by
  by_cases ha : g.addr = f.addr
  · exact d.get_put_disjoint f g v ha h h'
  · exact d.get_put_addr f g v ha

theorem Device.pl_setPl_same (d : Device) (k : Nat) (f : Planner → Planner) : (d.setPl k f).pl k = f (d.pl k) :=
  Store.pick_upd_same d.planners {} k f

theorem Device.pl_setPl_other (d : Device) (k j : Nat) (f : Planner → Planner) (h : j ≠ k) : (d.setPl k f).pl j = d.pl j :=
  Store.pick_upd_other d.planners {} k j f h

end Machine

theorem sameRegs.wr64 (d : Device) (a n : Nat) (A : Nat → Prop) (h : A a) (h4 : A (a + 4)) : sameRegs d (d.wr64 a n) A :=
  (sameRegs.wr d a _ A h).trans (sameRegs.wr _ (a + 4) _ A h4)

theorem sameRegs.foldl {α : Type} {f : Device → α → Device} {A : Nat → Prop} (l : List α)
    (hf : ∀ d, ∀ x ∈ l, sameRegs d (f d x) A) : ∀ d, sameRegs d (l.foldl f d) A := by
  induction l with
  | nil => exact fun d => .refl d A
  | cons x l ih =>
    intro d
    exact (hf d x (List.mem_cons_self ..)).trans (ih (fun d y hy => hf d y (List.mem_cons_of_mem _ hy)) _)

namespace Machine

/-! ### Pulses withdrawn (R220) -/

/-- The units of the block but the milestones. -/
def unitsButMiles (d : Device) : Device := { unitsOf d with miles := [] }

/-- The registers that a withdrawal writes: those of the milestones and of the queues. -/
def msReg (a : Nat) : Prop := (0xC5000 ≤ a ∧ a < 0xC6000) ∨ queueReg a

/-- The block of a milestone. -/
theorem msReg_of_block {m a : Nat} (hm : m < 16) (h : 0xC5000 + 0x40 * m ≤ a) (h' : a < 0xC5040 + 0x40 * m) : msReg a := by
  exact .inl (by omega)

theorem unitsButMiles_of_sameUnits {d e : Device} (h : unitsOf e = unitsOf d) : unitsButMiles e = unitsButMiles d :=
  congrArg (fun x : Device => { x with miles := [] }) h

theorem unitsOf_wr64 (d : Device) (a n : Nat) : unitsOf (d.wr64 a n) = unitsOf d := (unitsOf_wrN _ _ _).trans (unitsOf_wrN _ _ _)

variable (d : Device)

theorem unitsButMiles_setMs (m : Nat) (f : Milestone → Milestone) : unitsButMiles (d.setMs m f) = unitsButMiles d := by
  unfold Device.setMs
  extract_lets d1 x d2 d3
  have h1 : unitsButMiles d1 = unitsButMiles d := rfl
  have h2 : unitsOf d2 = unitsOf d1 := by simp only [d2, unitsOf_put]
  have h3 : unitsOf d3 = unitsOf d1 := by simp only [d3]; split <;> exact (unitsOf_wr64 _ _ _).trans h2
  split
  · exact (unitsButMiles_of_sameUnits ((unitsOf_wr64 _ _ _).trans h3)).trans h1
  · exact (unitsButMiles_of_sameUnits h3).trans h1

theorem unitsButMiles_msEvent (m kind : Nat) (e : MsEntry) (stamp : Nat) (l sm mg : Bool) :
    unitsButMiles (d.msEvent m kind e stamp l sm mg) = unitsButMiles d := by
  refine unitsButMiles_of_sameUnits ?_
  unfold Device.msEvent
  extract_lets ctrl d0 d1 d2
  have h0 : unitsOf d0 = unitsOf d := by simp only [d0]; split <;> rfl
  have h2 : unitsOf d2 = unitsOf d := by
    simp only [d2, d1]
    split <;> simp only [unitsOf_raise, unitsOf_q5, h0]
  split <;> simp only [unitsOf_raise, h2]

theorem unitsButMiles_msWithdraw (m from_ : Nat) : unitsButMiles (d.msWithdraw m from_) = unitsButMiles d := by
  simp only [Device.msWithdraw]
  split
  · rfl
  · refine (foldl_part unitsButMiles (fun b p => ?_) _ _).trans (unitsButMiles_setMs d m _)
    split
    · exact unitsButMiles_msEvent ..
    · rfl

theorem unitsButMiles_msSquash (ms : List Nat) : unitsButMiles (d.msSquash ms) = unitsButMiles d :=
  foldl_part unitsButMiles (fun b _ => unitsButMiles_msWithdraw b _ _) ms d

theorem sameRegs_setMs {m : Nat} (hm : m < 16) (f : Milestone → Milestone) : sameRegs d (d.setMs m f) msReg := by
  have hblock : ∀ a, 0xC5000 + 0x40 * m ≤ a → a < 0xC5040 + 0x40 * m → msReg a := fun a => msReg_of_block hm
  have hput : ∀ (b : Device) (g : Fld) (v : Nat), g.addr = MS_STATUS m → sameRegs b (b.put g v) msReg :=
    fun b g v hg => .put b g v _ (hg ▸ hblock _ (by simp only [MS_STATUS]; omega) (by simp only [MS_STATUS]; omega))
  have h64 : ∀ (b : Device) (a v : Nat), a = MS_NEXT m ∨ a = MS_SCHED m → sameRegs b (b.wr64 a v) msReg := by
    intro b a v ha
    simp only [MS_NEXT, MS_SCHED] at ha
    exact .wr64 b a v _ (hblock _ (by omega) (by omega)) (hblock _ (by omega) (by omega))
  unfold Device.setMs
  extract_lets d1 x d2 d3
  have h2 : sameRegs d d2 msReg := by
    refine .trans (e := d1) (.regs _ rfl) ?_
    exact (((hput _ _ _ rfl).trans (hput _ _ _ rfl)).trans (hput _ _ _ rfl)).trans (hput _ _ _ rfl)
  have h3 : sameRegs d d3 msReg := by
    simp only [d3]
    split
    · exact h2.trans (h64 _ _ _ (.inl rfl))
    · exact h2.trans (h64 _ _ _ (.inl rfl))
  split
  · exact h3.trans (h64 _ _ _ (.inr rfl))
  · exact h3

theorem sameRegs_msEvent {m : Nat} (hm : m < 16) (kind : Nat) (e : MsEntry) (stamp : Nat) (l sm mg : Bool) :
    sameRegs d (d.msEvent m kind e stamp l sm mg) msReg := by
  have hput : ∀ (b : Device) (g : Fld), g.addr = MS_EVENT m → sameRegs b (b.raise g) msReg :=
    fun b g hg => .put b g 1 _ (hg ▸ msReg_of_block hm (by simp only [MS_EVENT]; omega) (by simp only [MS_EVENT]; omega))
  unfold Device.msEvent
  extract_lets ctrl d0 d1 d2
  have h0 : sameRegs d d0 msReg := by simp only [d0]; split <;> exact .regs _ rfl
  have h1 : sameRegs d d1 msReg := h0.trans ((sameRegs.q5 _ _ _ _).mono fun _ => .inr)
  have h2 : sameRegs d d2 msReg := by
    simp only [d2]
    split
    · exact h1.trans (hput _ _ rfl)
    · exact h1
  split
  · exact h2.trans (hput _ _ rfl)
  · exact h2.trans (hput _ _ rfl)
  · exact h2.trans (hput _ _ rfl)
  · exact h2.trans (hput _ _ rfl)
  · exact h2

theorem sameRegs_msWithdraw {m : Nat} (hm : m < 16) (from_ : Nat) : sameRegs d (d.msWithdraw m from_) msReg := by
  simp only [Device.msWithdraw]
  split
  · exact .refl d _
  · refine (sameRegs_setMs d hm _).trans (sameRegs.foldl _ (fun b p _ => ?_) _)
    split
    · exact sameRegs_msEvent b hm 3 _ _ _ _ _
    · exact .refl b _

theorem sameRegs_msSquash {ms : List Nat} (h : ∀ m ∈ ms, m < 16) : sameRegs d (d.msSquash ms) msReg :=
  sameRegs.foldl ms (fun b m hm => sameRegs_msWithdraw b (h m hm) _) d

/-- Where no pulse is scheduled, none is withdrawn. -/
theorem Device.msSquash_of_no_pulse {ms : List Nat} (h : ∀ m ∈ ms, (d.ms m).sched = []) : d.msSquash ms = d := by
  have hone : ∀ m ∈ ms, d.msWithdraw m (mkStamp (d.clk.beat + 1) 0) = d := by
    intro m hm
    simp only [Device.msWithdraw, h m hm, List.filter_nil, List.isEmpty_nil, if_true]
  unfold Device.msSquash
  induction ms with
  | nil => rfl
  | cons m ms ih =>
    rw [List.foldl_cons, hone m (List.mem_cons_self ..)]
    exact ih (fun x hx => h x (List.mem_cons_of_mem _ hx)) (fun x hx => hone x (List.mem_cons_of_mem _ hx))

theorem Device.lt_of_mem_msOfAxis {k m : Nat} (h : m ∈ d.msOfAxis k) : m < 16 :=
  List.mem_range.mp (List.mem_of_mem_filter h)

theorem Device.lt_of_mem_msOfConvoy {c m : Nat} (h : m ∈ d.msOfConvoy c) : m < 16 :=
  List.mem_range.mp (List.mem_of_mem_filter h)

/-- Which milestones rest on an axis is told by their MS_CTRL. -/
theorem Device.msOfAxis_congr {d e : Device} (h : ∀ m < 16, e.rd (MS_CTRL m) = d.rd (MS_CTRL m)) (k : Nat) :
    e.msOfAxis k = d.msOfAxis k := by
  refine List.filter_congr fun m hm => ?_
  have hget : ∀ f : Fld, f.addr = MS_CTRL m → e.get f = d.get f := by
    intro f hf
    simp only [Device.get, hf, h m (List.mem_range.mp hm)]
  rw [hget (MS_CTRL_SRC_KIND m) rfl, hget (MS_CTRL_SRC_ID m) rfl]

end Machine
end Sys2Proof
end

section
/-! Squashes (R61, R84): the axes that one draws along, and what the block is after it. -/

namespace Sys2Proof

open Sys2Proof.Machine

namespace Machine

/-! ### The axes drawn along (R84, R89) -/

section Reach
variable (d : Device)

/-- Each axis is reached once. -/
theorem Device.nodup_reach (n : Nat) : ∀ todo seen : List Nat, seen.Nodup → (d.reach n todo seen).Nodup := by
  induction n with
  | zero => exact fun todo seen h => h
  | succ n ih =>
    intro todo seen h
    cases todo with
    | nil => exact h
    | cons k todo =>
      unfold Device.reach
      split
      · exact ih _ _ h
      · next hk =>
        have hk' : k ∉ seen := by simpa using hk
        exact ih _ _ (List.nodup_append.mpr ⟨h, List.nodup_singleton k, by
          intro a ha b hb
          rw [List.mem_singleton.mp hb]
          exact fun e => hk' (e ▸ ha)⟩)

/-- What was reached stays reached. -/
theorem Device.subset_reach (n : Nat) : ∀ todo seen : List Nat, seen ⊆ d.reach n todo seen := by
  induction n with
  | zero => exact fun todo seen => List.Subset.refl _
  | succ n ih =>
    intro todo seen
    cases todo with
    | nil => exact List.Subset.refl _
    | cons k todo =>
      unfold Device.reach
      split
      · exact ih _ _
      · exact List.Subset.trans (List.subset_append_left _ _) (ih _ _)

theorem Device.nodup_drawn (ks : List Nat) : (d.drawn ks).Nodup := d.nodup_reach 512 ks [] List.nodup_nil

/-- An axis moves with itself. -/
theorem Device.mem_drawn_self (k : Nat) : k ∈ d.drawn [k] :=
  d.subset_reach 511 (d.drivenBy k ++ []) [k] (List.mem_singleton_self k)

variable {d} {e : Device}

/-- Two blocks with the same convoys and gantry pairs: their settings, the convoys' states and the followers' modes. -/
structure sameDrive (d e : Device) : Prop where
  regs : ∀ a, a < 0x40000 → e.rd a = d.rd a
  states : ∀ c < 32, e.cyState c = d.cyState c
  slots : ∀ c, (e.cy c).slots = (d.cy c).slots

theorem sameDrive.trans {f : Device} (h : sameDrive d e) (g : sameDrive e f) : sameDrive d f := by
  obtain ⟨hr, hs, hc⟩ := h
  obtain ⟨gr, gs, gc⟩ := g
  exact ⟨fun a ha => (gr a ha).trans (hr a ha), fun c hc => (gs c hc).trans (hs c hc), fun c => (gc c).trans (hc c)⟩

theorem sameDrive.get (h : sameDrive d e) {f : Fld} (hf : f.addr < 0x40000) : e.get f = d.get f := by
  simp only [Device.get, h.regs _ hf]

theorem Device.cyMembers_congr {c : Nat} (hc : c < 32) (h : ∀ a, a < 0x40000 → e.rd a = d.rd a) :
    e.cyMembers c = d.cyMembers c := by
  refine List.filterMap_congr fun j hj => ?_
  have hget : ∀ f : Fld, f.addr = GL_CY_MSEL c j → e.get f = d.get f := by
    intro f hf
    have hj' := List.mem_range.mp hj
    simp only [Device.get, hf, h (GL_CY_MSEL c j) (by simp only [GL_CY_MSEL]; omega)]
  rw [Device.has, hget (GL_CY_MSEL_USED c j) rfl, hget (GL_CY_MSEL_AXIS c j) rfl]
  rfl

theorem Device.cyFollowersOf_congr (h : sameDrive d e) (mk id : Nat) : e.cyFollowersOf mk id = d.cyFollowersOf mk id := by
  refine List.flatMap_congr fun c hc => ?_
  have hc' := List.mem_range.mp hc
  have hget : ∀ f : Fld, f.addr = GL_CY_CTRL c → e.get f = d.get f :=
    fun f hf => h.get (hf ▸ by simp only [GL_CY_CTRL]; omega)
  obtain ⟨hr, hs, hslots⟩ := h
  simp only [hs c hc', hslots c, hget (GL_CY_CTRL_KIND c) rfl, hget (GL_CY_CTRL_MASTER_KIND c) rfl,
    hget (GL_CY_CTRL_MASTER_ID c) rfl, Device.cyMembers_congr hc' hr]

theorem Device.drivenBy_congr (h : sameDrive d e) (k : Nat) : e.drivenBy k = d.drivenBy k := by
  refine congrArg₂ (· ++ ·) (List.filterMap_congr fun g hg => ?_) (Device.cyFollowersOf_congr h 0 k)
  have hget : ∀ f : Fld, f.addr = GL_GP_CTRL g → e.get f = d.get f := by
    intro f hf
    have hg' := List.mem_range.mp hg
    exact h.get (hf ▸ by simp only [GL_GP_CTRL]; omega)
  rw [Device.has, hget (GL_GP_CTRL_EN g) rfl, hget (GL_GP_CTRL_PRIMARY g) rfl, hget (GL_GP_CTRL_TWIN g) rfl]
  rfl

/-- The same convoys and pairs draw the same axes along. -/
theorem Device.drawn_congr (h : sameDrive d e) (ks : List Nat) : e.drawn ks = d.drawn ks := by
  have hreach : ∀ n todo seen, e.reach n todo seen = d.reach n todo seen := by
    intro n
    induction n with
    | zero => exact fun _ _ => rfl
    | succ n ih =>
      intro todo seen
      cases todo with
      | nil => rfl
      | cons k todo => simp only [Device.reach, Device.drivenBy_congr h, ih]
  exact hreach 512 ks []

end Reach

/-! ### The block after a squash -/

/-- A planner whose road ahead was squashed. -/
def Planner.squashed (p : Planner) : Planner := { p with gen := p.gen + 1, age := 0 }

/-- The registers that a squash of the axes `ks` writes. -/
def squashReg (ks : List Nat) (a : Nat) : Prop := (∃ j ∈ ks, a = AX_PL_SQUASHES j ∨ a = AX_PL_EVENT j) ∨ msReg a

/-- The units but planners, snapshot registers and milestones. -/
def otherUnits (d : Device) : Device := { unitsOf d with planners := [], live := [], miles := [] }

/-- `e` is `d` with the road ahead of each axis in `ks` squashed once. -/
structure Squashed (d e : Device) (ks : List Nat) : Prop where
  pl : ∀ j, e.pl j = if j ∈ ks then (d.pl j).squashed else d.pl j
  live : ∀ f : Fld, (∀ j ∈ ks, f.addr ≠ AX_PL_STATUS j) → e.liveGet f = d.liveGet f
  low : ∀ f : Fld, f.lo + f.width ≤ 16 → e.liveGet f = d.liveGet f
  valid : ∀ j ∈ ks, e.liveGet (AX_PL_STATUS_DEPTH_VALID j) = 0
  regs : sameRegs d e (squashReg ks)
  raised : ∀ j ∈ ks, e.has (AX_PL_EVENT_SQUASHED j) = true
  count : ∀ j ∈ ks, e.get (AX_PL_SQUASHES_COUNT j) = (d.get (AX_PL_SQUASHES_COUNT j) + 1) % 2 ^ 32
  overshoot : ∀ j, e.get (AX_PL_EVENT_OVERSHOOT j) = d.get (AX_PL_EVENT_OVERSHOOT j)
  units : otherUnits e = otherUnits d
  quiet : (∀ j ∈ ks, ∀ m ∈ d.msOfAxis j, (d.ms m).sched = []) →
    e.bulk = d.bulk ∧ e.bulkErr = d.bulkErr ∧ e.ledger = d.ledger ∧ e.miles = d.miles ∧ ∀ j, e.msOfAxis j = d.msOfAxis j

theorem not_msReg_axis {k o : Nat} : ¬ msReg (0x100000 + 0x400 * k + o) := by
  unfold msReg queueReg
  omega

theorem Squashed.nil (d : Device) : Squashed d d [] where
  pl := by simp
  live _ _ := rfl
  low _ _ := rfl
  valid := by simp
  regs := .refl d _
  raised := by simp
  count := by simp
  overshoot _ := rfl
  units := rfl
  quiet _ := ⟨rfl, rfl, rfl, rfl, fun _ => rfl⟩

/-- A register of an axis is outside what the squash of others writes. -/
theorem not_squashReg {ks : List Nat} {k o : Nat} (hk : k ∉ ks) (h : o < 0x400) : ¬ squashReg ks (0x100000 + 0x400 * k + o) := by
  rintro (⟨j, hj, ha⟩ | ha)
  · simp only [AX_PL_SQUASHES, AX_PL_EVENT] at ha
    have : j = k := by omega
    exact hk (this ▸ hj)
  · exact not_msReg_axis ha

/-- One axis squashed, and then others. -/
theorem Squashed.cons {d e f : Device} {k : Nat} {ks : List Nat} (h : Squashed d e [k]) (g : Squashed e f ks) (hk : k ∉ ks) :
    Squashed d f (k :: ks) where
  pl j := by
    rw [g.pl, h.pl]
    by_cases hj : j = k
    · subst hj
      simp [hk]
    · simp [hj]
  live x hx := by
    rw [List.forall_mem_cons] at hx
    rw [g.live x hx.2, h.live x (by simpa using hx.1)]
  low x hx := (g.low x hx).trans (h.low x hx)
  valid := by
    refine List.forall_mem_cons.mpr ⟨?_, g.valid⟩
    rw [g.live]
    · exact h.valid k (List.mem_singleton_self k)
    · intro j hj he
      simp only [AX_PL_STATUS_DEPTH_VALID, AX_PL_STATUS] at he
      have : j = k := by omega
      exact hk (this ▸ hj)
  regs := by
    refine (h.regs.mono ?_).trans (g.regs.mono ?_)
    · exact fun _ ha => ha.imp_left fun ⟨j, hj, hr⟩ => ⟨j, by rw [List.mem_singleton.mp hj]; exact List.mem_cons_self .., hr⟩
    · exact fun _ ha => ha.imp_left fun ⟨j, hj, hr⟩ => ⟨j, List.mem_cons_of_mem _ hj, hr⟩
  raised := by
    refine List.forall_mem_cons.mpr ⟨?_, g.raised⟩
    have hk' : ¬ squashReg ks (AX_PL_EVENT_SQUASHED k).addr := by
      have := not_squashReg (o := 0x10C) hk (by decide)
      simpa only [AX_PL_EVENT_SQUASHED, AX_PL_EVENT, Nat.add_right_comm] using this
    rw [Device.has, g.regs.get hk']
    exact h.raised k (List.mem_singleton_self k)
  count := by
    have hk' : ∀ j, j ∉ ks → ¬ squashReg ks (AX_PL_SQUASHES_COUNT j).addr := by
      intro j hj
      have := not_squashReg (o := 0x190) hj (by decide)
      simpa only [AX_PL_SQUASHES_COUNT, AX_PL_SQUASHES, Nat.add_right_comm] using this
    refine List.forall_mem_cons.mpr ⟨?_, fun j hj => ?_⟩
    · rw [g.regs.get (hk' k hk)]
      exact h.count k (List.mem_singleton_self k)
    · have hjk : j ∉ [k] := by
        rw [List.mem_singleton]
        exact fun e => hk (e ▸ hj)
      have hjk' : ¬ squashReg [k] (AX_PL_SQUASHES_COUNT j).addr := by
        have := not_squashReg (o := 0x190) hjk (by decide)
        simpa only [AX_PL_SQUASHES_COUNT, AX_PL_SQUASHES, Nat.add_right_comm] using this
      rw [g.count j hj, h.regs.get hjk']
  overshoot j := (g.overshoot j).trans (h.overshoot j)
  units := g.units.trans h.units
  quiet hq := by
    rw [List.forall_mem_cons] at hq
    obtain ⟨hb, he, hl, hm, hms⟩ := h.quiet (by simpa using hq.1)
    have hq' : ∀ j ∈ ks, ∀ m ∈ e.msOfAxis j, (e.ms m).sched = [] := by
      intro j hj m hmj
      rw [hms] at hmj
      rw [Device.ms, hm]
      exact hq.2 j hj m hmj
    obtain ⟨gb, ge, gl, gm, gms⟩ := g.quiet hq'
    exact ⟨gb.trans hb, ge.trans he, gl.trans hl, gm.trans hm, fun j => (gms j).trans (hms j)⟩

/-! ### The squash of one axis -/

/-- A squash of one axis without the withdrawal of pulses. -/
def Device.plSquash0 (d : Device) (k : Nat) : Device :=
  (((d.setPl k Planner.squashed).inc (AX_PL_SQUASHES_COUNT k)).raise (AX_PL_EVENT_SQUASHED k)).livePut (AX_PL_STATUS_DEPTH_VALID k) 0

theorem Device.sameRegs_plSquash0 (d : Device) (k : Nat) :
    sameRegs d (d.plSquash0 k) (fun a => a = AX_PL_SQUASHES k ∨ a = AX_PL_EVENT k) := by
  let d1 := d.setPl k Planner.squashed
  have hcount : sameRegs d1 (d1.inc (AX_PL_SQUASHES_COUNT k)) (fun a => a = AX_PL_SQUASHES k ∨ a = AX_PL_EVENT k) :=
    .put _ _ _ _ (.inl rfl)
  exact hcount.trans ((sameRegs.put _ (AX_PL_EVENT_SQUASHED k) 1 _ (.inr rfl)).trans (.regs _ rfl))

theorem Device.msOfAxis_plSquash0 (d : Device) (k j : Nat) : (d.plSquash0 k).msOfAxis j = d.msOfAxis j := by
  refine Device.msOfAxis_congr (fun m hm => d.sameRegs_plSquash0 k _ ?_) j
  simp only [MS_CTRL, AX_PL_SQUASHES, AX_PL_EVENT]
  omega

theorem Device.plSquash1_eq (d : Device) (k : Nat) : d.plSquash1 k = (d.plSquash0 k).msSquash (d.msOfAxis k) := rfl

theorem Device.squashed_plSquash0 (d : Device) (k : Nat) : Squashed d (d.plSquash0 k) [k] := by
  have hregs : sameRegs d (d.plSquash0 k) (squashReg [k]) :=
    (d.sameRegs_plSquash0 k).mono fun a ha => .inl ⟨k, List.mem_singleton_self k, ha⟩
  have hone : ∀ {P : Nat → Prop}, P k → ∀ j ∈ [k], P j := by simp
  have hne : (AX_PL_SQUASHES_COUNT k).addr ≠ (AX_PL_EVENT_SQUASHED k).addr := by
    simp only [AX_PL_SQUASHES_COUNT, AX_PL_SQUASHES, AX_PL_EVENT_SQUASHED, AX_PL_EVENT]; omega
  refine ⟨fun j => ?_, fun f hf => ?_, fun f hf => ?_, hone ?_, hregs, hone ?_, hone ?_, fun j => ?_, rfl, fun _ => ?_⟩
  · by_cases hj : j = k
    · subst hj
      simp only [List.mem_singleton, if_true]
      exact d.pl_setPl_same j Planner.squashed
    · simp only [List.mem_singleton, hj, if_false]
      exact d.pl_setPl_other k j Planner.squashed hj
  · exact Device.liveGet_livePut_addr _ _ _ _ (hf k (List.mem_singleton_self k))
  · refine Device.liveGet_livePut_bits _ (AX_PL_STATUS_DEPTH_VALID k) f 0 (.inl ?_) (by omega)
    simpa only [AX_PL_STATUS_DEPTH_VALID] using hf
  · exact Device.liveGet_livePut_same _ (AX_PL_STATUS_DEPTH_VALID k) 0 (by simp only [AX_PL_STATUS_DEPTH_VALID]; decide)
  · rw [Device.has, Device.plSquash0, Device.get_livePut, Device.raise,
      Device.get_put_same _ _ _ (by simp only [AX_PL_EVENT_SQUASHED]; decide)]
    rfl
  · rw [Device.plSquash0, Device.get_livePut, Device.raise, Device.get_put_addr _ _ _ _ hne, Device.inc,
      Device.get_put_same _ _ _ (by simp only [AX_PL_SQUASHES_COUNT]; decide)]
    rfl
  · have hj : (AX_PL_EVENT_OVERSHOOT j).addr ≠ (AX_PL_SQUASHES_COUNT k).addr := by
      simp only [AX_PL_SQUASHES_COUNT, AX_PL_SQUASHES, AX_PL_EVENT_OVERSHOOT, AX_PL_EVENT]; omega
    rw [Device.plSquash0, Device.get_livePut, Device.raise, Device.get_put_bits, Device.inc, Device.get_put_addr _ _ _ _ hj]
    · rfl
    · simp only [AX_PL_EVENT_OVERSHOOT, AX_PL_EVENT_SQUASHED]; omega
    · simp only [AX_PL_EVENT_OVERSHOOT]; omega
  · exact ⟨rfl, rfl, rfl, rfl, d.msOfAxis_plSquash0 k⟩

theorem Device.pl_msSquash (d : Device) (ms : List Nat) (j : Nat) : (d.msSquash ms).pl j = d.pl j := by
  have h := congrArg Device.planners (unitsButMiles_msSquash d ms)
  exact congrArg (fun x : Store Planner => x.pick {} j) h

theorem Device.liveGet_msSquash (d : Device) (ms : List Nat) (f : Fld) : (d.msSquash ms).liveGet f = d.liveGet f := by
  have h := congrArg Device.live (unitsButMiles_msSquash d ms)
  exact congrArg (fun x : Store (BitVec 32) => bits (Store.get resetWord x f.addr).toNat f.lo f.width) h

/-- The withdrawal of pulses that rest on squashed axes leaves the axes squashed. -/
theorem Squashed.msSquash {d e : Device} {ks ms : List Nat} (h : Squashed d e ks) (hlt : ∀ m ∈ ms, m < 16)
    (hms : ∀ m ∈ ms, ∃ j ∈ ks, m ∈ d.msOfAxis j) : Squashed d (e.msSquash ms) ks := by
  have hu := unitsButMiles_msSquash e ms
  have hr := sameRegs_msSquash e hlt
  have hlive := e.liveGet_msSquash ms
  have hget : ∀ f : Fld, ¬ msReg f.addr → (e.msSquash ms).get f = e.get f := fun f => hr.get
  have hevent : ∀ k, ¬ msReg (AX_PL_EVENT k) := by
    intro k
    simpa only [AX_PL_EVENT, Nat.add_right_comm] using not_msReg_axis (k := k) (o := 0x10C)
  have hcount : ∀ k, ¬ msReg (AX_PL_SQUASHES k) := by
    intro k
    simpa only [AX_PL_SQUASHES, Nat.add_right_comm] using not_msReg_axis (k := k) (o := 0x190)
  refine ⟨fun j => ?_, fun f hf => ?_, fun f hf => ?_, fun j hj => ?_, ?_, fun j hj => ?_, fun j hj => ?_, fun j => ?_, ?_, fun hq => ?_⟩
  · rw [Device.pl_msSquash, h.pl j]
  · rw [hlive, h.live f hf]
  · rw [hlive, h.low f hf]
  · rw [hlive, h.valid j hj]
  · exact h.regs.trans (hr.mono fun a => .inr)
  · rw [Device.has, hget _ (hevent j)]
    exact h.raised j hj
  · rw [hget _ (hcount j), h.count j hj]
  · rw [hget _ (hevent j), h.overshoot j]
  · exact (congrArg (fun x : Device => { x with planners := [], live := [] }) hu).trans h.units
  · obtain ⟨hb, he, hl, hm, hax⟩ := h.quiet hq
    have hnone : ∀ m ∈ ms, (e.ms m).sched = [] := by
      intro m hmem
      obtain ⟨j, hj, hmj⟩ := hms m hmem
      rw [Device.ms, hm]
      exact hq j hj m hmj
    rw [e.msSquash_of_no_pulse hnone]
    exact ⟨hb, he, hl, hm, hax⟩

theorem Device.squashed_plSquash1 (d : Device) (k : Nat) : Squashed d (d.plSquash1 k) [k] := by
  rw [Device.plSquash1_eq]
  exact (d.squashed_plSquash0 k).msSquash (fun m hm => d.lt_of_mem_msOfAxis hm) fun m hm => ⟨k, List.mem_singleton_self k, hm⟩

/-- A squash of several axes squashes each that they draw along (R61, R84). -/
theorem Device.squashed_plSquashes (d : Device) (ks : List Nat) : Squashed d (d.plSquashes ks) (d.drawn ks) := by
  have hfold : ∀ (l : List Nat), l.Nodup → ∀ b : Device, Squashed b (l.foldl Device.plSquash1 b) l := by
    intro l
    induction l with
    | nil => exact fun _ b => Squashed.nil b
    | cons k l ih =>
      intro hl b
      obtain ⟨hk, hl'⟩ := List.nodup_cons.mp hl
      exact (b.squashed_plSquash1 k).cons (ih hl' _) hk
  exact hfold _ (d.nodup_drawn ks) d

end Machine
end Sys2Proof
end

section
/-! The planner's commands (R41–R60): what an operation on one planner leaves alone, what a plan put in force does, and how a
change is taken in its turn of the tick (R48). -/

namespace Sys2Proof

open Sys2Proof.Machine
open Claims (plannerFrame replanned plannerRefused inTurn takes tooLong)

namespace Machine

/-! ### Changes of one planner's own state -/

/-- The report of a plan writes AX_PL_ARRIVE, AX_PL_VCAP and CLAMPED. -/
theorem Device.plReport_eq (d : Device) (k : Nat) : ∃ n v c, d.plReport k =
    ((d.wr64 (AX_PL_ARRIVE k) n).wr64 (AX_PL_VCAP k) v).livePut (AX_PL_STATUS_CLAMPED k) c := ⟨_, _, _, rfl⟩

/-- The planner's registers of axis `k`. -/
def plannerReg (k a : Nat) : Prop := AX_PL_CTRL k ≤ a ∧ a < AX_PL_CTRL k + 0x100

/-- Between the blocks only the planner of axis `k`, its AX_PL_STATUS and its registers differ. -/
structure PlannerOnly (d e : Device) (k : Nat) : Prop where
  pl : ∀ j, j ≠ k → e.pl j = d.pl j
  live : ∀ f : Fld, f.addr ≠ AX_PL_STATUS k → e.liveGet f = d.liveGet f
  regs : sameRegs d e (plannerReg k)
  rest : { e with planners := d.planners, live := d.live, regs := d.regs } = d

namespace PlannerOnly
variable {d e f : Device} {k : Nat}

/-- A part of the block apart from planners, snapshot registers and registers is the same. -/
theorem part {α : Type} (h : PlannerOnly d e k) (p : Device → α)
    (hp : ∀ (x : Device) pl lv rg, p { x with planners := pl, live := lv, regs := rg } = p x) : p e = p d :=
  (hp e _ _ _).symm.trans (congrArg p h.rest)

theorem refl (d : Device) (k : Nat) : PlannerOnly d d k := ⟨fun _ _ => rfl, fun _ _ => rfl, .refl d _, rfl⟩

theorem trans (h : PlannerOnly d e k) (g : PlannerOnly e f k) : PlannerOnly d f k where
  pl j hj := (g.pl j hj).trans (h.pl j hj)
  live x hx := (g.live x hx).trans (h.live x hx)
  regs := h.regs.trans g.regs
  rest := (congrArg (fun x : Device => { x with planners := d.planners, live := d.live, regs := d.regs }) g.rest).trans h.rest

theorem setPl (d : Device) (k : Nat) (f : Planner → Planner) : PlannerOnly d (d.setPl k f) k where
  pl j hj := d.pl_setPl_other k j f hj
  live _ _ := rfl
  regs := .regs _ rfl
  rest := rfl

theorem livePut (d : Device) (k : Nat) (f : Fld) (v : Nat) (hf : f.addr = AX_PL_STATUS k) : PlannerOnly d (d.livePut f v) k where
  pl _ _ := rfl
  live g hg := d.liveGet_livePut_addr f g v (hf ▸ hg)
  regs := .regs _ rfl
  rest := rfl

theorem wr (d : Device) (k a : Nat) (v : BitVec 32) (ha : plannerReg k a) : PlannerOnly d (d.wr a v) k where
  pl _ _ := rfl
  live _ _ := rfl
  regs := .wr d a v _ ha
  rest := rfl

theorem put (d : Device) (k : Nat) (f : Fld) (v : Nat) (hf : plannerReg k f.addr) : PlannerOnly d (d.put f v) k :=
  wr d k f.addr _ hf

theorem wr64 (d : Device) (k a n : Nat) (ha : plannerReg k a) (ha4 : plannerReg k (a + 4)) : PlannerOnly d (d.wr64 a n) k :=
  (wr d k a _ ha).trans (wr _ k (a + 4) _ ha4)

theorem plReport (d : Device) (k : Nat) : PlannerOnly d (d.plReport k) k := by
  obtain ⟨n, v, c, h⟩ := d.plReport_eq k
  rw [h]
  refine ((wr64 d k (AX_PL_ARRIVE k) n ?_ ?_).trans (wr64 _ k (AX_PL_VCAP k) v ?_ ?_)).trans (livePut _ _ _ _ rfl) <;>
    simp only [plannerReg, AX_PL_ARRIVE, AX_PL_VCAP, AX_PL_CTRL] <;> omega

theorem get (h : PlannerOnly d e k) {g : Fld} (hg : ¬ plannerReg k g.addr) : e.get g = d.get g := h.regs.get hg

/-- The convoys and pairs are not a planner's own. -/
theorem sameDrive (h : PlannerOnly d e k) : sameDrive d e := by
  refine ⟨fun a ha => h.regs a ?_, fun c hc => h.live _ ?_, fun c => ?_⟩
  · simp only [plannerReg, AX_PL_CTRL]
    omega
  · simp only [GL_CY_STATUS_STATE, GL_CY_STATUS, AX_PL_STATUS]
    omega
  · exact h.part (fun x => (x.cy c).slots) fun _ _ _ _ => rfl

theorem msOfAxis (h : PlannerOnly d e k) (j : Nat) : e.msOfAxis j = d.msOfAxis j := by
  refine Device.msOfAxis_congr (fun m hm => h.regs _ ?_) j
  simp only [plannerReg, AX_PL_CTRL, MS_CTRL]
  omega

theorem otherUnits (h : PlannerOnly d e k) : otherUnits e = otherUnits d := h.part _ fun _ _ _ _ => rfl

end PlannerOnly

/-! ### The frame of a command to one planner -/

section Frame
variable {d d1 e1 e : Device} {k : Nat}

theorem squashReg_inFrame {ks : List Nat} {a : Nat} (h : squashReg ks a) :
    (∃ j ∈ ks, AX_PL_CTRL j ≤ a ∧ a < AX_PL_CTRL j + 0x100) ∨ (0xC5000 ≤ a ∧ a < 0xC6000) ∨ queueReg a := by
  obtain ⟨j, hj, ha⟩ | ha := h
  · refine .inl ⟨j, hj, ?_⟩
    simp only [AX_PL_SQUASHES, AX_PL_EVENT, AX_PL_CTRL] at ha ⊢
    omega
  · exact .inr ha

theorem unitsOf_of_otherUnits (h : otherUnits e = otherUnits d) :
    { unitsOf e with planners := d.planners, live := d.live, miles := d.miles } = unitsOf d :=
  congrArg (fun x : Device => { x with planners := d.planners, live := d.live, miles := d.miles }) h

/-- Planners and snapshot registers that are not squashed stay, and a later change of planner `k` alone is in the frame. -/
theorem plannerFrame_andThen (h : plannerFrame d e1 k) (g : PlannerOnly e1 e k) : plannerFrame d e k := by
  obtain ⟨hpl, hlive, hu, hregs, hq⟩ := h
  have hk := d.mem_drawn_self k
  refine ⟨fun j hj => ?_, fun f hf => ?_, ?_, hregs.trans (g.regs.mono fun _ ha => .inl ⟨k, hk, ha⟩), fun hs => ?_⟩
  · rw [g.pl j hj]
    exact hpl j hj
  · rw [g.live f (hf k hk), hlive f hf]
  · exact (g.part (fun x => { unitsOf x with planners := d.planners, live := d.live, miles := d.miles }) fun _ _ _ _ => rfl).trans hu
  · obtain ⟨hb, he, hl, hm⟩ := hq hs
    exact ⟨(g.part Device.bulk fun _ _ _ _ => rfl).trans hb, (g.part Device.bulkErr fun _ _ _ _ => rfl).trans he,
      (g.part Device.ledger fun _ _ _ _ => rfl).trans hl, (g.part Device.miles fun _ _ _ _ => rfl).trans hm⟩

/-- A change of one planner's own state alone. -/
theorem PlannerOnly.plannerFrame (h : PlannerOnly d e k) : plannerFrame d e k :=
  plannerFrame_andThen (e1 := d) ⟨fun _ _ => .inl rfl, fun _ _ => rfl, rfl, .refl d _, fun _ => ⟨rfl, rfl, rfl, rfl⟩⟩ h

/-- A change of one planner's own state and the squash of the axes drawn along. -/
theorem plannerFrame_of_squashed (h : PlannerOnly d d1 k) (hs : Squashed d1 e (d1.drawn [k])) : Claims.plannerFrame d e k := by
  rw [Device.drawn_congr h.sameDrive] at hs
  have hk := d.mem_drawn_self k
  refine ⟨fun j hj => ?_, fun f hf => ?_, unitsOf_of_otherUnits (hs.units.trans h.otherUnits), ?_, fun hq => ?_⟩
  · rw [hs.pl j, h.pl j hj]
    by_cases hjd : j ∈ d.drawn [k]
    · rw [if_pos hjd]
      exact .inr ⟨hjd, rfl⟩
    · exact .inl (if_neg hjd)
  · rw [hs.live f hf, h.live f (hf k hk)]
  · exact (h.regs.mono fun _ ha => .inl ⟨k, hk, ha⟩).trans (hs.regs.mono fun _ => squashReg_inFrame)
  · have hms : d1.miles = d.miles := h.part _ fun _ _ _ _ => rfl
    have hq' : ∀ j ∈ d.drawn [k], ∀ m ∈ d1.msOfAxis j, (d1.ms m).sched = [] := by
      intro j hj m hm
      rw [h.msOfAxis] at hm
      rw [Device.ms, hms]
      exact hq j hj m hm
    obtain ⟨hb, he, hl, hm, -⟩ := hs.quiet hq'
    exact ⟨hb.trans (h.part Device.bulk fun _ _ _ _ => rfl), he.trans (h.part Device.bulkErr fun _ _ _ _ => rfl),
      hl.trans (h.part Device.ledger fun _ _ _ _ => rfl), hm.trans hms⟩

@[simp] theorem clk_unitsOf (d : Device) : (unitsOf d).clk = d.clk := rfl
@[simp] theorem pkg_unitsOf (d : Device) : (unitsOf d).pkg = d.pkg := rfl
@[simp] theorem plTicks_unitsOf (d : Device) : (unitsOf d).plTicks = d.plTicks := rfl

theorem clk_of_plannerFrame (h : Claims.plannerFrame d e k) : e.clk = d.clk := by
  obtain ⟨-, -, hu, -, -⟩ := h
  simpa only [clk_unitsOf] using congrArg Device.clk hu

theorem pkg_of_plannerFrame (h : Claims.plannerFrame d e k) : e.pkg = d.pkg := by
  obtain ⟨-, -, hu, -, -⟩ := h
  simpa only [pkg_unitsOf] using congrArg Device.pkg hu

theorem plTicks_of_plannerFrame (h : Claims.plannerFrame d e k) : e.plTicks = d.plTicks := by
  obtain ⟨-, -, hu, -, -⟩ := h
  simpa only [plTicks_unitsOf] using congrArg Device.plTicks hu

end Frame

/-! ### A plan reported and put in force -/

section Install
variable (d : Device) (k : Nat)

@[simp] theorem Device.pl_plReport (j : Nat) : (d.plReport k).pl j = d.pl j := by
  obtain ⟨n, v, c, h⟩ := d.plReport_eq k
  rw [h]
  rfl

/-- The report of a plan shows in AX_PL_STATUS as CLAMPED alone. -/
theorem Device.liveGet_plReport (f : Fld) (h : f.lo + f.width ≤ 5 ∨ 6 ≤ f.lo) (h' : f.lo + f.width ≤ 32) :
    (d.plReport k).liveGet f = d.liveGet f := by
  obtain ⟨n, v, c, heq⟩ := d.plReport_eq k
  rw [heq, Device.liveGet_livePut_bits _ (AX_PL_STATUS_CLAMPED k) f _ h h']
  rfl

@[simp] theorem Device.plState_plReport : (d.plReport k).plState k = d.plState k :=
  d.liveGet_plReport k _ (.inl (by simp only [AX_PL_STATUS_STATE]; decide)) (by simp only [AX_PL_STATUS_STATE]; decide)

/-- The registers of AX_PL_ARRIVE and AX_PL_VCAP. -/
def reportReg (k a : Nat) : Prop := a ∈ [AX_PL_ARRIVE k, AX_PL_ARRIVE k + 4, AX_PL_VCAP k, AX_PL_VCAP k + 4]

theorem not_reportReg_count : ¬ reportReg k (AX_PL_SQUASHES k) := by
  simp only [reportReg, AX_PL_SQUASHES, AX_PL_ARRIVE, AX_PL_VCAP, List.mem_cons, List.not_mem_nil, or_false]
  omega

theorem not_reportReg_event : ¬ reportReg k (AX_PL_EVENT k) := by
  simp only [reportReg, AX_PL_EVENT, AX_PL_ARRIVE, AX_PL_VCAP, List.mem_cons, List.not_mem_nil, or_false]
  omega

theorem Device.sameRegs_plReport : sameRegs d (d.plReport k) (reportReg k) := by
  obtain ⟨n, v, c, h⟩ := d.plReport_eq k
  rw [h]
  refine (sameRegs.wr64 d (AX_PL_ARRIVE k) n _ ?_ ?_).trans ((sameRegs.wr64 _ (AX_PL_VCAP k) v _ ?_ ?_).trans (.regs _ rfl))
    <;> simp [reportReg]

/-- The plan of a planner from the commit point. -/
def Device.planOf (p : Planner) : Profile := p.replan (d.has (AX_PL_CTRL_SOFT_EN k)) (p.start d.clk.beat)

/-- `e` is `d` with the plan of axis `k` put in force. -/
structure Installed (d e : Device) (k : Nat) : Prop where
  pl : e.pl k = { d.pl k with prof := d.planOf k (d.pl k), origin := d.clk.beat + 1, gen := (d.pl k).gen + 1, age := 0 }
  low : ∀ f : Fld, f.lo + f.width ≤ 5 → e.liveGet f = d.liveGet f
  valid : e.liveGet (AX_PL_STATUS_DEPTH_VALID k) = 0
  raised : e.has (AX_PL_EVENT_SQUASHED k) = true
  count : e.get (AX_PL_SQUASHES_COUNT k) = (d.get (AX_PL_SQUASHES_COUNT k) + 1) % 2 ^ 32
  overshoot : e.get (AX_PL_EVENT_OVERSHOOT k) = d.get (AX_PL_EVENT_OVERSHOOT k)
  regs : sameRegs d e (fun a => squashReg (d.drawn [k]) a ∨ reportReg k a)

/-- The planner of axis `k` with its new plan, before the squash. -/
def Device.plPlanned : Device :=
  d.setPl k fun p => { p with prof := d.planOf k (d.pl k), origin := d.clk.beat + 1 }

theorem Device.plInstall_eq : d.plInstall k = ((d.plPlanned k).plSquash k).plReport k := rfl

theorem Device.squashed_plInstall : Squashed (d.plPlanned k) ((d.plPlanned k).plSquash k) ((d.plPlanned k).drawn [k]) :=
  Device.squashed_plSquashes _ _

theorem Device.plannerFrame_plInstall {d0 : Device} (h : PlannerOnly d0 d k) : plannerFrame d0 (d.plInstall k) k :=
  plannerFrame_andThen (plannerFrame_of_squashed (h.trans (.setPl d k _)) (d.squashed_plInstall k)) (.plReport _ k)

theorem Device.installed_plInstall : Installed d (d.plInstall k) k := by
  have hs := d.squashed_plInstall k
  have hk := (d.plPlanned k).mem_drawn_self k
  have hr := Device.sameRegs_plReport ((d.plPlanned k).plSquash k) k
  rw [← d.plInstall_eq k] at hr
  have hdrawn : (d.plPlanned k).drawn [k] = d.drawn [k] := Device.drawn_congr (PlannerOnly.setPl d k _).sameDrive _
  refine ⟨?_, fun f hf => ?_, ?_, ?_, ?_, ?_, ?_⟩
  · rw [Device.plInstall_eq, Device.pl_plReport, hs.pl, if_pos hk, Device.plPlanned, Device.pl_setPl_same]
    rfl
  · rw [Device.plInstall_eq, Device.liveGet_plReport _ _ f (.inl hf) (by omega), hs.low f (by omega)]
    rfl
  · rw [Device.plInstall_eq, Device.liveGet_plReport, hs.valid k hk]
    · simp only [AX_PL_STATUS_DEPTH_VALID]; decide
    · simp only [AX_PL_STATUS_DEPTH_VALID]; decide
  · rw [Device.has, hr.get (not_reportReg_event k)]
    exact hs.raised k hk
  · rw [hr.get (not_reportReg_count k), hs.count k hk]
    rfl
  · rw [hr.get (not_reportReg_event k), hs.overshoot k]
    rfl
  · rw [hdrawn] at hs
    exact (sameRegs.trans (e := d.plPlanned k) (.regs _ rfl) (hs.regs.mono fun _ => .inl)).trans (hr.mono fun _ => .inr)

theorem Installed.plState {d e : Device} {k : Nat} (h : Installed d e k) : e.plState k = d.plState k :=
  h.low _ (by simp only [AX_PL_STATUS_STATE]; decide)

/-- A planner changed by `f` and its plan put in force is re-planned. -/
theorem Installed.replanned {d0 d e : Device} {k : Nat} {f : Planner → Planner} (h : Installed d e k) (hp : PlannerOnly d0 d k)
    (hpl : d.pl k = f (d0.pl k)) (hsoft : d.has (AX_PL_CTRL_SOFT_EN k) = d0.has (AX_PL_CTRL_SOFT_EN k))
    (hcount : d.get (AX_PL_SQUASHES_COUNT k) = d0.get (AX_PL_SQUASHES_COUNT k)) : Claims.replanned d0 e k f := by
  have hclk : d.clk = d0.clk := hp.part _ fun _ _ _ _ => rfl
  refine ⟨?_, ?_, h.raised, h.valid⟩
  · rw [h.pl, Device.planOf, hpl, hsoft, hclk]
  · rw [h.count, hcount]

/-- Is the new plan too long (R41)? -/
theorem Device.plTooLong_iff {d0 d : Device} {k : Nat} {f : Planner → Planner} (hp : PlannerOnly d0 d k)
    (hpl : d.pl k = f (d0.pl k)) (hsoft : d.has (AX_PL_CTRL_SOFT_EN k) = d0.has (AX_PL_CTRL_SOFT_EN k)) :
    d.plTooLong k = true ↔ Claims.tooLong d0 k f := by
  have hclk : d.clk = d0.clk := hp.part _ fun _ _ _ _ => rfl
  simp only [Device.plTooLong, Claims.tooLong, decide_eq_true_eq, hpl, hsoft, hclk]

end Install
end Machine
end Sys2Proof
end

section
/-! A change in its turn of the tick (R48), refusals, and GO and JOG (R41, R42, R48, R51, R53, R54). -/

namespace Sys2Proof

open Sys2Proof.Machine
open Claims (plannerFrame plannerRefused inTurn takes tooLong moved)

namespace Machine

/-- Work that leaves the clock alone stands as it is. -/
theorem Device.still_of_clk {d e : Device} {g : Device → Device} (he : g d = e) (hclk : e.clk = d.clk) : d.still g = e := by
  simp only [Device.still, he, ← hclk]

/-! ### A change in its turn (R48) -/

/-- What axis `k` notes of the changes of this tick when it takes the change `r` from `d` to `e`. -/
def Device.tickOf (d e : Device) (k : Nat) (r : PlReq) : PlTick :=
  let t := d.plTicks.pick {} k
  let base := if (d.plHist k).isEmpty then (d.pl k, Store.get resetWord d.live (AX_PL_STATUS k)) else (t.base, t.baseSt)
  { at_ := d.clk.now + 1, reqs := insReq r (d.plHist k), base := base.1, baseSt := base.2, after := (e.pl k).asked, afterSt := e.plState k }

/-- The block with the note `t` of axis `k`. -/
def Device.noted (e : Device) (k : Nat) (t : PlTick) : Device := { e with plTicks := e.plTicks.upd {} k fun _ => t }

/-- A change in its turn is taken as the planner stands. -/
theorem Device.plAsk_inTurn {d : Device} {k : Nat} {r : PlReq} (h : inTurn d k r) :
    d.plAsk k r = ((d.plDo k r).1, (d.plDo k r).2.noted k (d.tickOf (d.plDo k r).2 k r)) := by
  have hany : ¬ ((d.plHist k).any fun q => decide (r.rank < q.rank)) = true := by
    simp only [List.any_eq_true, decide_eq_true_eq, not_exists, not_and, not_lt]
    exact h
  simp only [Device.plAsk, hany]
  rfl

/-- Command `c` brings the change `r` to the planner of axis `k`, in its turn of the tick. -/
structure Asks (c : Instr) (s : State) (k : Nat) (r : PlReq) : Prop where
  run : ∃ g, exec c s = .next (s.onDev g) ∧ g s.dev = (s.dev.plAsk k r).2
  awake : s.dev.inReset = false
  turn : inTurn s.dev k r

/-- A refused change says so, and nothing else changes. -/
theorem Device.plannerRefused_plRefuse (d : Device) (k : Nat) {code : Nat} (h : code < 256) :
    plannerRefused d (d.plRefuse k code) k code := by
  refine ⟨?_, ?_, ?_, rfl, fun f hf => ?_, ?_⟩
  · exact (Device.liveGet_livePut_same d (AX_PL_STATUS_REFUSE_LAST k) code (by simp only [AX_PL_STATUS_REFUSE_LAST]; decide)).trans
      (Nat.mod_eq_of_lt h)
  · rw [Device.has, Device.plRefuse, Device.raise, Device.get_put_same _ _ _ (by simp only [AX_PL_EVENT_REFUSED]; decide)]
    rfl
  · refine Device.liveGet_livePut_bits d (AX_PL_STATUS_REFUSE_LAST k) _ code ?_ ?_ <;>
      simp only [AX_PL_STATUS_REFUSE_LAST, AX_PL_STATUS_STATE] <;> decide
  · exact Device.liveGet_livePut_addr d (AX_PL_STATUS_REFUSE_LAST k) f code hf
  · exact sameRegs.trans (e := d.livePut (AX_PL_STATUS_REFUSE_LAST k) code) (.regs _ rfl) (.put _ (AX_PL_EVENT_REFUSED k) 1 _ rfl)

namespace Asks
variable {c : Instr} {s : State} {k : Nat} {r : PlReq}

/-- A command whose change keeps the clock and the notes of the tick completes with that change. -/
theorem leads_plDo {P : Device → Prop} (h : Asks c s k r) {code : Nat} {e : Device} (hdo : s.dev.plDo k r = (code, e))
    (hclk : e.clk = s.dev.clk) (htick : e.plTicks = s.dev.plTicks) (hP : P e) : takes c s k P := by
  obtain ⟨g, hexec, hg⟩ := h.run
  rw [Device.plAsk_inTurn h.turn, hdo] at hg
  refine leads_onDev c s g _ hexec h.awake ⟨fun j hj => ?_, ?_⟩
  · have hnote : (s.dev.still g).plTicks = e.plTicks.upd {} k fun _ => s.dev.tickOf e k r := by
      rw [Device.still, hg]
      rfl
    rw [hnote, Store.pick_upd_other _ _ _ _ _ hj, htick]
  · have heq : { s.dev.still g with plTicks := s.dev.plTicks } = e := by
      simp only [Device.still, hg, Device.noted, ← hclk, ← htick]
    rw [heq]
    exact hP

theorem refused (h : Asks c s k r) {code : Nat} (hdo : s.dev.plDo k r = s.dev.plNo k code) (hcode : code < 256) :
    takes c s k (plannerRefused s.dev · k code) :=
  h.leads_plDo hdo rfl rfl (s.dev.plannerRefused_plRefuse k hcode)

theorem unchanged (h : Asks c s k r) (hdo : s.dev.plDo k r = (0, s.dev)) : takes c s k (· = s.dev) :=
  h.leads_plDo hdo rfl rfl rfl

/-- A change accepted within the frame of its planner. -/
theorem accepted {P : Device → Prop} (h : Asks c s k r) {e : Device} (hdo : s.dev.plDo k r = (0, e)) (hf : plannerFrame s.dev e k)
    (hP : P e) : takes c s k P :=
  h.leads_plDo hdo (clk_of_plannerFrame hf) (plTicks_of_plannerFrame hf) hP

end Asks

/-! ### The states in which a move is refused -/

section Codes
variable {st : Nat}

theorem plMoveCode_off (h : st = plOFF ∨ st = plDISABLING) : plMoveCode st = 4 := if_pos h

theorem plMoveCode_following (h : st = plFOLLOWING) : plMoveCode st = 5 := by
  subst h
  rfl

theorem plMoveCode_stopping (h : st = plSTOPPING) : plMoveCode st = 3 := by
  subst h
  rfl

theorem plMoveCode_free (h : st = plIDLE ∨ st = plMOVING ∨ st = plJOGGING ∨ st = plHOLDING ∨ st = plHELD) : plMoveCode st = 0 := by
  obtain rfl | rfl | rfl | rfl | rfl := h <;> rfl

end Codes

/-! ### A new plan in a new state -/

/-- The planner of axis `k` changed and its state set. -/
def Device.prepared (d : Device) (k : Nat) (f : Planner → Planner) (st : Nat) : Device := (d.setPl k f).setPlState k st

section Prepared
variable (d : Device) (k : Nat) (f : Planner → Planner) (st : Nat)

theorem PlannerOnly.prepared : PlannerOnly d (d.prepared k f st) k := (PlannerOnly.setPl d k f).trans (.livePut _ _ _ _ rfl)

theorem Device.pl_prepared : (d.prepared k f st).pl k = f (d.pl k) := d.pl_setPl_same k f

theorem Device.plState_setPlState (h : st < 16) : (d.setPlState k st).plState k = st :=
  (Device.liveGet_livePut_same d (AX_PL_STATUS_STATE k) st (by simp only [AX_PL_STATUS_STATE]; decide)).trans (Nat.mod_eq_of_lt h)

end Prepared

/-- A change of a planner by `f` with a new plan: refused with DURATION where that is too long (R41).  `d1` is the block in which
the plan's length is judged, `d2` the one in which it is put in force. -/
theorem Asks.plansFrom {c : Instr} {s : State} {k : Nat} {r : PlReq} {f : Planner → Planner} {d1 d2 : Device} {P : Device → Prop}
    (h : Asks c s k r) (hdo : s.dev.plDo k r = if d1.plTooLong k then s.dev.plNo k 10 else (0, d2.plInstall k))
    (h1 : PlannerOnly s.dev d1 k) (hpl1 : d1.pl k = f (s.dev.pl k)) (hsoft1 : d1.has (AX_PL_CTRL_SOFT_EN k) = s.dev.has (AX_PL_CTRL_SOFT_EN k))
    (h2 : PlannerOnly s.dev d2 k) (hpl2 : d2.pl k = f (s.dev.pl k)) (hsoft2 : d2.has (AX_PL_CTRL_SOFT_EN k) = s.dev.has (AX_PL_CTRL_SOFT_EN k))
    (hcount : d2.get (AX_PL_SQUASHES_COUNT k) = s.dev.get (AX_PL_SQUASHES_COUNT k))
    (hP : ∀ e, Installed d2 e k → Claims.replanned s.dev e k f → plannerFrame s.dev e k → P e) :
    (tooLong s.dev k f → takes c s k (plannerRefused s.dev · k 10)) ∧ (¬ tooLong s.dev k f → takes c s k P) := by
  rw [← Device.plTooLong_iff h1 hpl1 hsoft1]
  refine ⟨fun hl => h.refused (hdo.trans (if_pos hl)) (by decide), fun hl => ?_⟩
  have hi := d2.installed_plInstall k
  have hf := Device.plannerFrame_plInstall d2 k h2
  exact h.accepted (hdo.trans (if_neg hl)) hf (hP _ hi (hi.replanned h2 hpl2 hsoft2 hcount) hf)

/-- A change of a planner into state `st` with a new plan. -/
theorem Asks.plans {c : Instr} {s : State} {k : Nat} {r : PlReq} {f : Planner → Planner} {st : Nat} {P : Device → Prop}
    (h : Asks c s k r) (hdo : s.dev.plDo k r = if (s.dev.setPl k f).plTooLong k then s.dev.plNo k 10
      else (0, (s.dev.prepared k f st).plInstall k)) (hst : st < 16)
    (hP : ∀ e, Claims.replanned s.dev e k f → e.plState k = st → plannerFrame s.dev e k → P e) :
    (tooLong s.dev k f → takes c s k (plannerRefused s.dev · k 10)) ∧ (¬ tooLong s.dev k f → takes c s k P) :=
  h.plansFrom hdo (.setPl s.dev k f) (s.dev.pl_setPl_same k f) rfl (.prepared s.dev k f st) (s.dev.pl_prepared k f st) rfl rfl
    fun e hi hr hf => hP e hr (hi.plState.trans (Device.plState_setPlState _ k st hst)) hf

/-! ### GO and JOG -/

section Start
variable {d : Device} {k mode : Nat} {target jog : Int}

/-- GO and JOG in the terms of `Claims.moved`. -/
theorem Device.plStart_eq : d.plStart k mode target jog =
    if plMoveCode (d.plState k) ≠ 0 then d.plNo k (plMoveCode (d.plState k))
    else if (d.pl k).lim.zero = true then d.plNo k 2
    else if mode = 1 ∧ d.has (AX_PL_CTRL_SOFT_EN k) = true ∧ (target < (d.pl k).lim.smin ∨ (d.pl k).lim.smax < target) then d.plNo k 1
    else if d.plState k = plHOLDING ∨ d.plState k = plHELD then (0, (d.setPl k (moved mode target jog)).plReport k)
    else if (d.setPl k (moved mode target jog)).plTooLong k then d.plNo k 10
    else (0, (d.prepared k (moved mode target jog) (if mode = 1 then plMOVING else plJOGGING)).plInstall k) := rfl

theorem Device.plStart_refused {code : Nat} (hc : plMoveCode (d.plState k) = code) (h0 : code ≠ 0) :
    d.plStart k mode target jog = d.plNo k code := by
  rw [Device.plStart_eq, hc, if_pos h0]

theorem Device.plStart_zero (hc : plMoveCode (d.plState k) = 0) (hz : (d.pl k).lim.zero = true) :
    d.plStart k mode target jog = d.plNo k 2 := by
  rw [Device.plStart_eq, hc, if_neg (not_not_intro rfl), if_pos hz]

/-- Is a target between the soft limits, where these hold (R51)? -/
def Device.inSoft (d : Device) (k mode : Nat) (target : Int) : Prop :=
  mode = 1 → d.has (AX_PL_CTRL_SOFT_EN k) = true → (d.pl k).lim.smin ≤ target ∧ target ≤ (d.pl k).lim.smax

theorem Device.not_inSoft_iff : ¬ d.inSoft k mode target ↔
    mode = 1 ∧ d.has (AX_PL_CTRL_SOFT_EN k) = true ∧ (target < (d.pl k).lim.smin ∨ (d.pl k).lim.smax < target) := by
  simp only [Device.inSoft, Classical.not_imp, not_and_or, not_le]

theorem Device.plStart_outside (hc : plMoveCode (d.plState k) = 0) (hz : (d.pl k).lim.zero = false) (hs : ¬ d.inSoft k mode target) :
    d.plStart k mode target jog = d.plNo k 1 := by
  rw [Device.plStart_eq, hc, if_neg (not_not_intro rfl), if_neg (by simp [hz]), if_pos (Device.not_inSoft_iff.mp hs)]

theorem Device.plStart_inside (hc : plMoveCode (d.plState k) = 0) (hz : (d.pl k).lim.zero = false) (hs : d.inSoft k mode target) :
    d.plStart k mode target jog =
      if d.plState k = plHOLDING ∨ d.plState k = plHELD then (0, (d.setPl k (moved mode target jog)).plReport k)
      else if (d.setPl k (moved mode target jog)).plTooLong k then d.plNo k 10
      else (0, (d.prepared k (moved mode target jog) (if mode = 1 then plMOVING else plJOGGING)).plInstall k) := by
  rw [Device.plStart_eq, hc, if_neg (not_not_intro rfl), if_neg (by simp [hz]), if_neg fun h => Device.not_inSoft_iff.mpr h hs]

end Start

/-- GO and JOG by the planner's state. -/
theorem Asks.moveTaken {c : Instr} {s : State} {k : Fin 192} {r : PlReq} {mode : Nat} {target jog : Int} (h : Asks c s k r)
    (hdo : s.dev.plDo k r = s.dev.plStart k mode target jog) : Claims.moveTaken c s k mode target jog := by
  have hno : ∀ code, code < 256 → s.dev.plStart k mode target jog = s.dev.plNo k code →
      takes c s k (plannerRefused s.dev · k code) := fun code hcode he => h.refused (hdo.trans he) hcode
  refine ⟨fun hst => ?_, fun hst => ?_, fun hst => ?_, fun hst hz => ?_, fun hst hz hs => ?_, fun hst hz hs => ?_, fun hst hz hs => ?_⟩
  · exact hno 4 (by decide) (Device.plStart_refused (plMoveCode_off hst) (by decide))
  · exact hno 5 (by decide) (Device.plStart_refused (plMoveCode_following hst) (by decide))
  · exact hno 3 (by decide) (Device.plStart_refused (plMoveCode_stopping hst) (by decide))
  · exact hno 2 (by decide) (Device.plStart_zero (plMoveCode_free hst) (by simpa using hz))
  · exact hno 1 (by decide) (Device.plStart_outside (plMoveCode_free hst) hz hs)
  · have hp : PlannerOnly s.dev ((s.dev.setPl k (moved mode target jog)).plReport k) k := (PlannerOnly.setPl _ _ _).trans (.plReport _ _)
    have he := Device.plStart_inside (jog := jog) (plMoveCode_free (.inr (.inr (.inr hst)))) hz hs
    refine h.accepted (hdo.trans (he.trans (if_pos hst))) hp.plannerFrame ⟨?_, ?_, ?_, hp.plannerFrame⟩
    · rw [Device.pl_plReport]
      exact s.dev.pl_setPl_same k _
    · rw [Device.plState_plReport]
      rfl
    · exact (Device.sameRegs_plReport _ _).get (not_reportReg_count k)
  · have hst' : ¬ (s.dev.plState k = plHOLDING ∨ s.dev.plState k = plHELD) := by
      obtain e | e | e := hst <;> rw [e] <;> decide
    have hfree : plMoveCode (s.dev.plState k) = 0 := plMoveCode_free (hst.imp_right (Or.imp_right .inl))
    have he := Device.plStart_inside (jog := jog) hfree hz hs
    refine h.plans (f := moved mode target jog) (st := if mode = 1 then plMOVING else plJOGGING)
      (hdo.trans (he.trans (if_neg hst'))) ?_ fun _ hr hs hf => ⟨hr, hs, hf⟩
    split <;> decide

end Machine

theorem goAndJogByPlannerState : Claims.GoAndJogByPlannerState := by
  refine fun s k hr => ⟨fun ht => ?_, fun ht => ?_⟩
  · have h : Asks (.go k) s k (.go (s.dev.rdS64 (AX_PL_TARGET k))) := ⟨⟨_, rfl, rfl⟩, hr, ht⟩
    exact h.moveTaken rfl
  · have h : Asks (.jog k) s k (.jog (s.dev.rdS64 (AX_PL_JOG_VEL k))) := ⟨⟨_, rfl, rfl⟩, hr, ht⟩
    exact h.moveTaken rfl

end Sys2Proof
end

section
/-! HOLD, RESUME, STOP and QSTOP of one axis (R52–R54). -/

namespace Sys2Proof

open Sys2Proof.Machine
open Claims (plannerFrame plannerRefused inTurn takes tooLong)

namespace Machine
section Equations
variable {d : Device} {k : Nat}

/-! ### HOLD and RESUME -/

theorem Device.plDoHold_refused {code : Nat} (hc : plMoveCode (d.plState k) = code) (h0 : code ≠ 0) :
    d.plDoHold k = d.plNo k code := by
  unfold Device.plDoHold
  simp only [hc]
  exact if_pos h0

theorem Device.plDoHold_still (h : d.plState k = plIDLE ∨ d.plState k = plHOLDING ∨ d.plState k = plHELD) :
    d.plDoHold k = (0, d) := by
  unfold Device.plDoHold
  obtain h | h | h := h <;> rw [h] <;> rfl

theorem Device.plDoHold_moving (h : d.plState k = plMOVING ∨ d.plState k = plJOGGING) :
    d.plDoHold k = if (d.setPl k fun p => { p with stop := 3 }).plTooLong k then d.plNo k 10
      else (0, (d.prepared k (fun p => { p with stop := 3 }) plHOLDING).plInstall k) := by
  unfold Device.plDoHold
  obtain h | h := h <;> rw [h] <;> rfl

theorem Device.plDoResume_refused {code : Nat} (hc : plMoveCode (d.plState k) = code) (h0 : code ≠ 0) :
    d.plDoResume k = d.plNo k code := by
  unfold Device.plDoResume
  simp only [hc]
  exact if_pos h0

theorem Device.plDoResume_not_held (h : d.plState k = plIDLE ∨ d.plState k = plMOVING ∨ d.plState k = plJOGGING) :
    d.plDoResume k = d.plNo k 6 := by
  unfold Device.plDoResume
  obtain h | h | h := h <;> rw [h] <;> rfl

/-- The block with the plan toward the kept target or velocity. -/
def Device.resumed (d : Device) (k : Nat) : Device :=
  (d.prepared k (fun p => { p with stop := 0 }) (if (d.pl k).mode = 2 then plJOGGING else plMOVING)).plInstall k

theorem Device.plDoResume_held (h : d.plState k = plHOLDING ∨ d.plState k = plHELD) :
    d.plDoResume k = if (d.setPl k fun p => { p with stop := 0 }).plTooLong k then d.plNo k 10
      else (0, (d.resumed k).setPl k fun p => { p with resGen := p.gen }) := by
  unfold Device.plDoResume
  obtain h | h := h <;> rw [h] <;> rfl

/-! ### STOP and QSTOP -/

theorem Device.plDoStop_off (h : d.plState k = plOFF ∨ d.plState k = plDISABLING) : d.plDoStop k = d.plNo k 4 := if_pos h

theorem Device.plDoStop_following (h : d.plState k = plFOLLOWING) : d.plDoStop k = d.plNo k 5 := by
  unfold Device.plDoStop
  rw [h]
  rfl

theorem Device.plDoStop_still (h : d.plState k = plIDLE ∨ d.plState k = plSTOPPING) : d.plDoStop k = (0, d) := by
  unfold Device.plDoStop
  obtain h | h := h <;> rw [h] <;> rfl

/-- The axis is under way: it moves, jogs, or holds a motion. -/
def underWay (st : Nat) : Prop := st = plMOVING ∨ st = plJOGGING ∨ st = plHOLDING ∨ st = plHELD

theorem Device.plDoStop_underWay (h : underWay (d.plState k)) : d.plDoStop k = d.plAskStop k 1 := by
  unfold Device.plDoStop
  obtain h | h | h | h := h <;> rw [h] <;> rfl

theorem Device.plDoQstop_off (h : d.plState k = plOFF ∨ d.plState k = plDISABLING) : d.plDoQstop k = d.plNo k 4 := if_pos h

theorem Device.plDoQstop_following (h : d.plState k = plFOLLOWING) : d.plDoQstop k = d.plNo k 5 := by
  unfold Device.plDoQstop
  rw [h]
  rfl

theorem Device.plDoQstop_still (h : d.plState k = plIDLE ∨ (d.plState k = plSTOPPING ∧ (d.pl k).stop = 2)) : d.plDoQstop k = (0, d) := by
  unfold Device.plDoQstop
  obtain h | ⟨h, hs⟩ := h
  · rw [h]
    rfl
  · rw [h, hs]
    rfl

theorem Device.plDoQstop_underWay (h : underWay (d.plState k)) : d.plDoQstop k = d.plAskStop k 2 := by
  unfold Device.plDoQstop
  obtain h | h | h | h := h <;> rw [h] <;> rfl

theorem Device.plDoQstop_stopping (h : d.plState k = plSTOPPING) (hs : (d.pl k).stop ≠ 2) : d.plDoQstop k = d.plAskStop k 2 := by
  have hn : ¬ (plSTOPPING = plIDLE ∨ (plSTOPPING = plSTOPPING ∧ (d.pl k).stop = 2)) := by
    rintro (h | ⟨-, h⟩)
    · exact absurd h (by decide)
    · exact hs h
  unfold Device.plDoQstop
  rw [h, if_neg (by decide), if_neg (by decide), if_neg hn]

end Equations

/-- A stop of a kind that a command asks for. -/
theorem Asks.stops {c : Instr} {s : State} {k : Nat} {r : PlReq} {n : Nat} (h : Asks c s k r) (hdo : s.dev.plDo k r = s.dev.plAskStop k n) :
    (tooLong s.dev k (fun p => { p with stop := n, mode := 0 }) → takes c s k (plannerRefused s.dev · k 10)) ∧
    (¬ tooLong s.dev k (fun p => { p with stop := n, mode := 0 }) → takes c s k (fun d =>
      Claims.replanned s.dev d k (fun p => { p with stop := n, mode := 0 }) ∧ d.plState k = plSTOPPING ∧ plannerFrame s.dev d k)) :=
  h.plans hdo (by decide) fun _ hr hs hf => ⟨hr, hs, hf⟩

theorem Device.plState_setPl (d : Device) (k j : Nat) (f : Planner → Planner) : (d.setPl k f).plState j = d.plState j := rfl

/-- A RESUME of a held axis. -/
theorem Asks.resumes {c : Instr} {s : State} {k : Nat} (h : Asks c s k .resume)
    (hst : s.dev.plState k = plHOLDING ∨ s.dev.plState k = plHELD) (hl : ¬ tooLong s.dev k (fun p => { p with stop := 0 })) :
    takes c s k (fun d =>
      (d.pl k).prof = ({ s.dev.pl k with stop := 0 } : Planner).replan (s.dev.has (AX_PL_CTRL_SOFT_EN k)) ((s.dev.pl k).start s.dev.clk.beat) ∧
      (d.pl k).origin = s.dev.clk.beat + 1 ∧ (d.pl k).stop = 0 ∧ (d.pl k).target = (s.dev.pl k).target ∧
      (d.pl k).gen = (s.dev.pl k).gen + 1 ∧ d.plState k = (if (s.dev.pl k).mode = 2 then plJOGGING else plMOVING) ∧
      plannerFrame s.dev d k) := by
  rw [← Device.plTooLong_iff (PlannerOnly.setPl s.dev k _) (s.dev.pl_setPl_same k _) rfl] at hl
  have hi : Installed _ (s.dev.resumed k) k := Device.installed_plInstall _ k
  have hf : plannerFrame s.dev (s.dev.resumed k) k := Device.plannerFrame_plInstall _ k (.prepared s.dev k _ _)
  obtain ⟨hpl, -, -, -⟩ := hi.replanned (f := fun p => { p with stop := 0 }) (.prepared s.dev k _ _) (s.dev.pl_prepared k _ _) rfl rfl
  have hf' := plannerFrame_andThen hf (.setPl _ k fun p => { p with resGen := p.gen })
  refine h.accepted ((Device.plDoResume_held hst).trans (if_neg hl)) hf' ?_
  rw [Device.pl_setPl_same, hpl, Device.plState_setPl]
  refine ⟨rfl, rfl, rfl, rfl, rfl, ?_, hf'⟩
  refine hi.plState.trans (Device.plState_setPlState _ k _ ?_)
  split <;> decide

end Machine

theorem holdAndResumeKeepTheTarget : Claims.HoldAndResumeKeepTheTarget := by
  intro s k hr ht st
  have hh : Asks (.hold k) s k .hold := ⟨⟨_, rfl, rfl⟩, hr, ht⟩
  have hm : Asks (.resume k) s k .resume := ⟨⟨_, rfl, rfl⟩, hr, ht⟩
  have hcode : ∀ {code : Nat}, plMoveCode (s.dev.plState k) = code → code ≠ 0 → code < 256 →
      takes (.hold k) s k (plannerRefused s.dev · k code) ∧ takes (.resume k) s k (plannerRefused s.dev · k code) :=
    fun hc h0 hlt => ⟨hh.refused (Device.plDoHold_refused hc h0) hlt, hm.refused (Device.plDoResume_refused hc h0) hlt⟩
  have hplan : st = plMOVING ∨ st = plJOGGING → _ := fun hst =>
    hh.plans (P := fun d => Claims.replanned s.dev d k (fun p => { p with stop := 3 }) ∧ d.plState k = plHOLDING ∧
      (d.pl k).target = (s.dev.pl k).target ∧ (d.pl k).jogVel = (s.dev.pl k).jogVel ∧ (d.pl k).mode = (s.dev.pl k).mode ∧
      plannerFrame s.dev d k) (Device.plDoHold_moving hst) (by decide)
      fun e hre hs hf => ⟨hre, hs, by rw [hre.1], by rw [hre.1], by rw [hre.1], hf⟩
  refine ⟨fun hst => hh.unchanged (Device.plDoHold_still hst), fun hst => (hplan hst).1, fun hst => (hplan hst).2,
    fun hst => hcode (plMoveCode_stopping hst) (by decide) (by decide), fun hst => hcode (plMoveCode_off hst) (by decide) (by decide),
    fun hst => hcode (plMoveCode_following hst) (by decide) (by decide),
    fun hst => hm.refused (Device.plDoResume_not_held hst) (by decide), fun hst hl => ?_, fun hst hl => hm.resumes hst hl⟩
  rw [← Device.plTooLong_iff (PlannerOnly.setPl s.dev k _) (s.dev.pl_setPl_same k _) rfl] at hl
  exact hm.refused ((Device.plDoResume_held hst).trans (if_pos hl)) (by decide)

theorem stopAndQuickStop : Claims.StopAndQuickStop := by
  intro s k hr ht st stops
  have hq : Asks (.qstop k) s k .qstop := ⟨⟨_, rfl, rfl⟩, hr, ht⟩
  have hs : Asks (.stop k) s k .stop := ⟨⟨_, rfl, rfl⟩, hr, fun q hq => (ht q hq).trans (by decide)⟩
  refine ⟨fun hst => ⟨hs.stops (Device.plDoStop_underWay hst), hq.stops (Device.plDoQstop_underWay hst)⟩,
    fun hst => hs.unchanged (Device.plDoStop_still hst), fun hst hn => hq.stops (Device.plDoQstop_stopping hst hn),
    fun hst => hq.unchanged (Device.plDoQstop_still hst), fun hst => ⟨?_, ?_⟩, fun hst => ⟨?_, ?_⟩⟩
  · exact hs.refused (Device.plDoStop_off hst) (by decide)
  · exact hq.refused (Device.plDoQstop_off hst) (by decide)
  · exact hs.refused (Device.plDoStop_following hst) (by decide)
  · exact hq.refused (Device.plDoQstop_following hst) (by decide)

end Sys2Proof
end

section
/-! Two changes of one tick on one axis (R48), here a GO and a QSTOP: the earlier of them in rank is taken from the planner as it
stood before the tick's changes. -/

namespace Sys2Proof

open Sys2Proof.Machine
open Claims (plannerFrame plannerRefused inTurn moved)

namespace Machine

/-! ### What the next change of an axis depends on -/

/-- A planner without its generation and the age of its predictions, on which no plan rests. -/
def Planner.bare (p : Planner) : Planner := { p with gen := 0, age := 0 }

/-- The clock, the package and the planner's own settings of axis `k` are the same. -/
structure sameSetting (d e : Device) (k : Nat) : Prop where
  clk : e.clk = d.clk
  pkg : e.pkg = d.pkg
  regs : ∀ a ∈ [AX_PL_CTRL k, AX_PL_TARGET k, AX_PL_TARGET k + 4], e.rd a = d.rd a

/-- A change of axis `k` meets the same planner in both blocks, but for its generation and its age. -/
structure Alike (d e : Device) (k : Nat) : Prop where
  setting : sameSetting d e k
  pl : (e.pl k).bare = (d.pl k).bare
  state : e.plState k = d.plState k

section Setting
variable {d e f : Device} {k : Nat}

theorem sameSetting.refl (d : Device) (k : Nat) : sameSetting d d k := ⟨rfl, rfl, fun _ _ => rfl⟩

theorem sameSetting.symm (h : sameSetting d e k) : sameSetting e d k :=
  ⟨h.clk.symm, h.pkg.symm, fun a ha => (h.regs a ha).symm⟩

theorem sameSetting.trans (h : sameSetting d e k) (g : sameSetting e f k) : sameSetting d f k :=
  ⟨g.clk.trans h.clk, g.pkg.trans h.pkg, fun a ha => (g.regs a ha).trans (h.regs a ha)⟩

theorem sameSetting.soft (h : sameSetting d e k) : e.has (AX_PL_CTRL_SOFT_EN k) = d.has (AX_PL_CTRL_SOFT_EN k) := by
  have hrd := h.regs (AX_PL_CTRL k) (by simp)
  simp only [Device.has, Device.get, AX_PL_CTRL_SOFT_EN, hrd]

theorem sameSetting.target (h : sameSetting d e k) : e.rdS64 (AX_PL_TARGET k) = d.rdS64 (AX_PL_TARGET k) := by
  have hlo := h.regs (AX_PL_TARGET k) (by simp)
  have hhi := h.regs (AX_PL_TARGET k + 4) (by simp)
  simp only [Device.rdS64, Device.rd64, hlo, hhi]

theorem sameSetting.awake (h : sameSetting d e k) (hr : d.inReset = false) : e.inReset = false := by
  rwa [Device.inReset, h.pkg]

theorem sameSetting.noted (d : Device) (k : Nat) (t : PlTick) : sameSetting d (d.noted k t) k := ⟨rfl, rfl, fun _ _ => rfl⟩

theorem sameSetting.setPl (d : Device) (k : Nat) (f : Planner → Planner) : sameSetting d (d.setPl k f) k := ⟨rfl, rfl, fun _ _ => rfl⟩

theorem sameSetting.livePut (d : Device) (k : Nat) (f : Fld) (v : Nat) : sameSetting d (d.livePut f v) k := ⟨rfl, rfl, fun _ _ => rfl⟩

theorem not_reportReg_setting {a : Nat} (ha : a ∈ [AX_PL_CTRL k, AX_PL_TARGET k, AX_PL_TARGET k + 4]) : ¬ reportReg k a := by
  simp only [reportReg, AX_PL_CTRL, AX_PL_TARGET, AX_PL_ARRIVE, AX_PL_VCAP, List.mem_cons, List.not_mem_nil, or_false] at ha ⊢
  omega

theorem sameSetting.plReport (d : Device) (k : Nat) : sameSetting d (d.plReport k) k :=
  ⟨(PlannerOnly.plReport d k).part Device.clk fun _ _ _ _ => rfl, (PlannerOnly.plReport d k).part Device.pkg fun _ _ _ _ => rfl,
    fun _ ha => d.sameRegs_plReport k _ (not_reportReg_setting ha)⟩

theorem sameSetting.plRefuse (d : Device) (k code : Nat) : sameSetting d (d.plRefuse k code) k := by
  refine ⟨rfl, rfl, fun a ha => ?_⟩
  have hne : a ≠ (AX_PL_EVENT_REFUSED k).addr := by
    simp only [AX_PL_CTRL, AX_PL_TARGET, AX_PL_EVENT_REFUSED, AX_PL_EVENT, List.mem_cons, List.not_mem_nil, or_false] at ha ⊢
    omega
  rw [Device.plRefuse, Device.raise, Device.rd_put_other _ _ _ _ hne, Device.rd_livePut]

theorem sameSetting.plInstall (d : Device) (k : Nat) : sameSetting d (d.plInstall k) k := by
  have hf := d.plannerFrame_plInstall k (.refl d k)
  refine ⟨clk_of_plannerFrame hf, pkg_of_plannerFrame hf, fun a ha => (d.installed_plInstall k).regs a ?_⟩
  rintro (hs | hs)
  · obtain ⟨j, -, hj⟩ | hm := hs
    · simp only [AX_PL_CTRL, AX_PL_TARGET, AX_PL_SQUASHES, AX_PL_EVENT, List.mem_cons, List.not_mem_nil, or_false] at ha hj
      omega
    · simp only [msReg, queueReg, AX_PL_CTRL, AX_PL_TARGET, List.mem_cons, List.not_mem_nil, or_false] at ha hm
      omega
  · exact not_reportReg_setting ha hs

end Setting

/-! ### Blocks that are alike stay alike -/

namespace Alike
variable {d e : Device} {k : Nat}

theorem bare_field {α : Type} (h : Alike d e k) (p : Planner → α) (hp : ∀ x : Planner, p x.bare = p x) : p (e.pl k) = p (d.pl k) :=
  (hp _).symm.trans ((congrArg p h.pl).trans (hp _))

/-- Outcomes of changes by the same condition. -/
theorem ite {p : Prop} [Decidable p] {a b x y : Res} (h : Alike a.2 x.2 k) (g : Alike b.2 y.2 k) :
    Alike (if p then a else b).2 (if p then x else y).2 k := by
  split
  · exact h
  · exact g

theorem plNo (h : Alike d e k) (code : Nat) : Alike (d.plNo k code).2 (e.plNo k code).2 k := by
  have hstate : ∀ b : Device, (b.plNo k code).2.plState k = b.plState k := by
    intro b
    refine Device.liveGet_livePut_bits b (AX_PL_STATUS_REFUSE_LAST k) _ code ?_ ?_ <;>
      simp only [AX_PL_STATUS_REFUSE_LAST, AX_PL_STATUS_STATE] <;> decide
  exact ⟨(sameSetting.plRefuse d k code).symm.trans (h.setting.trans (.plRefuse e k code)), h.pl,
    (hstate e).trans (h.state.trans (hstate d).symm)⟩

theorem setPl (h : Alike d e k) {f : Planner → Planner} (hf : ∀ p, (f p).bare = (f p.bare).bare) : Alike (d.setPl k f) (e.setPl k f) k where
  setting := (sameSetting.setPl d k f).symm.trans (h.setting.trans (.setPl e k f))
  pl := by rw [Device.pl_setPl_same, Device.pl_setPl_same, hf, h.pl, ← hf]
  state := h.state

theorem setPlState (h : Alike d e k) {st : Nat} (hst : st < 16) : Alike (d.setPlState k st) (e.setPlState k st) k where
  setting := (sameSetting.livePut d k _ _).symm.trans (h.setting.trans (.livePut e k _ _))
  pl := h.pl
  state := by rw [Device.plState_setPlState _ _ _ hst, Device.plState_setPlState _ _ _ hst]

theorem plReport (h : Alike d e k) : Alike (d.plReport k) (e.plReport k) k where
  setting := (sameSetting.plReport d k).symm.trans (h.setting.trans (.plReport e k))
  pl := by rw [Device.pl_plReport, Device.pl_plReport, h.pl]
  state := by rw [Device.plState_plReport, Device.plState_plReport, h.state]

theorem planOf (h : Alike d e k) : e.planOf k (e.pl k) = d.planOf k (d.pl k) := by
  rw [Device.planOf, Device.planOf, h.setting.soft, h.setting.clk]
  exact h.bare_field (fun p => p.replan (d.has (AX_PL_CTRL_SOFT_EN k)) (p.start d.clk.beat)) fun _ => rfl

theorem plTooLong (h : Alike d e k) : e.plTooLong k = d.plTooLong k :=
  congrArg (fun p : Profile => decide (2 ^ 40 < p.dur)) h.planOf

theorem plInstall (h : Alike d e k) : Alike (d.plInstall k) (e.plInstall k) k where
  setting := (sameSetting.plInstall d k).symm.trans (h.setting.trans (.plInstall e k))
  pl := by
    rw [(d.installed_plInstall k).pl, (e.installed_plInstall k).pl, h.planOf, h.setting.clk]
    exact congrArg (fun p : Planner => { p with prof := d.planOf k (d.pl k), origin := d.clk.beat + 1 }) h.pl
  state := by rw [(e.installed_plInstall k).plState, (d.installed_plInstall k).plState, h.state]

theorem plStart (h : Alike d e k) (mode : Nat) (target jog : Int) :
    Alike (d.plStart k mode target jog).2 (e.plStart k mode target jog).2 k := by
  have hlim := h.bare_field Planner.lim fun _ => rfl
  have hm : Alike (d.setPl k (moved mode target jog)) (e.setPl k (moved mode target jog)) k := h.setPl fun _ => rfl
  rw [Device.plStart_eq, Device.plStart_eq, h.state, hlim, h.setting.soft, hm.plTooLong]
  refine .ite (h.plNo _) (.ite (h.plNo _) (.ite (h.plNo _) (.ite hm.plReport (.ite (h.plNo _) (hm.setPlState ?_).plInstall))))
  split <;> decide

theorem plAskStop (h : Alike d e k) (kind : Nat) : Alike (d.plAskStop k kind).2 (e.plAskStop k kind).2 k := by
  have hs := h.setPl (f := fun p => { p with stop := kind, mode := 0 }) fun _ => rfl
  unfold Device.plAskStop
  rw [hs.plTooLong]
  exact .ite (h.plNo _) (hs.setPlState (by decide)).plInstall

theorem plDoQstop (h : Alike d e k) : Alike (d.plDoQstop k).2 (e.plDoQstop k).2 k := by
  have hstop := h.bare_field Planner.stop fun _ => rfl
  unfold Device.plDoQstop
  rw [h.state, hstop]
  exact .ite (h.plNo _) (.ite (h.plNo _) (.ite h (h.plAskStop 2)))

end Alike

/-! ### A GO or QSTOP keeps the planner's settings -/

section Keeps
variable (d : Device) (k : Nat)

theorem sameSetting.ite {p : Prop} [Decidable p] {a b : Res} (h : sameSetting d a.2 k) (g : sameSetting d b.2 k) :
    sameSetting d (if p then a else b).2 k := by
  split
  · exact h
  · exact g

theorem sameSetting.plStart (mode : Nat) (target jog : Int) : sameSetting d (d.plStart k mode target jog).2 k := by
  have hno : ∀ code, sameSetting d (d.plNo k code).2 k := .plRefuse d k
  rw [Device.plStart_eq]
  refine .ite d k (hno _) (.ite d k (hno _) (.ite d k (hno _) (.ite d k ?_ (.ite d k (hno _) ?_))))
  · exact (sameSetting.setPl d k _).trans (.plReport _ k)
  · exact ((sameSetting.setPl d k _).trans (.livePut _ k _ _)).trans (.plInstall _ k)

theorem sameSetting.plDoQstop : sameSetting d (d.plDoQstop k).2 k := by
  have hno : ∀ code, sameSetting d (d.plNo k code).2 k := .plRefuse d k
  unfold Device.plDoQstop
  refine .ite d k (hno _) (.ite d k (hno _) (.ite d k (.refl d k) (.ite d k (hno _) ?_)))
  exact ((sameSetting.setPl d k _).trans (.livePut _ k _ _)).trans (.plInstall _ k)

/-- The generation at the commit point and the caps of a planner, which the changes of a tick leave. -/
def Planner.kept (p : Planner) : Nat × Option Nat × Option Nat := (p.cpGen, p.cap, p.mcap)

theorem kept_ite {p : Prop} [Decidable p] {a b : Res} {x : Nat × Option Nat × Option Nat} (h : (a.2.pl k).kept = x) (g : (b.2.pl k).kept = x) :
    ((if p then a else b).2.pl k).kept = x := by
  split
  · exact h
  · exact g

theorem kept_plStart (mode : Nat) (target jog : Int) : ((d.plStart k mode target jog).2.pl k).kept = (d.pl k).kept := by
  rw [Device.plStart_eq]
  refine kept_ite k rfl (kept_ite k rfl (kept_ite k rfl (kept_ite k ?_ (kept_ite k rfl ?_))))
  · rw [Device.pl_plReport, Device.pl_setPl_same]
    rfl
  · rw [(Device.installed_plInstall _ k).pl, Device.pl_prepared]
    rfl

/-! ### The planner before the changes of the tick -/

theorem Device.pl_plBack : (d.plBack k).pl k =
    { (d.plTicks.pick {} k).base with gen := (d.pl k).gen, cpGen := (d.pl k).cpGen, age := (d.pl k).age, cap := (d.pl k).cap, mcap := (d.pl k).mcap } := by
  unfold Device.plBack
  rw [Device.pl_plReport, Device.pl_setPl_same]
  rfl

theorem sameSetting.plBack : sameSetting d (d.plBack k) k := by
  unfold Device.plBack
  extract_lets t d1 d2
  have h1 : sameSetting d d1 k := ⟨rfl, rfl, fun _ _ => rfl⟩
  have h2 : sameSetting d d2 k := (h1.trans (.livePut _ k _ _)).trans (.livePut _ k _ _)
  exact (h2.trans (.setPl _ k _)).trans (.plReport _ k)

theorem Device.plState_plBack : (d.plBack k).plState k = bits (d.plTicks.pick {} k).baseSt.toNat 0 4 := by
  unfold Device.plBack
  extract_lets t d1 d2
  have h1 : d1.plState k = bits t.baseSt.toNat 0 4 := by
    simp only [Device.plState, Device.liveGet, d1, AX_PL_STATUS_STATE, Store.get_set_same]
  rw [Device.plState_plReport, Device.plState_setPl, ← h1]
  refine (Device.liveGet_livePut_bits _ (AX_PL_STATUS_SLS_CAP k) _ _ ?_ ?_).trans
    (Device.liveGet_livePut_bits _ (AX_PL_STATUS_DEPTH_VALID k) _ _ ?_ ?_) <;>
    simp only [AX_PL_STATUS_SLS_CAP, AX_PL_STATUS_DEPTH_VALID, AX_PL_STATUS_STATE] <;> decide

end Keeps

/-! ### Two changes of a tick -/

section Tick
variable {d e : Device} {k : Nat} {q r : PlReq}

theorem Device.plTicks_noted (e : Device) (k : Nat) (t : PlTick) : (e.noted k t).plTicks.pick {} k = t :=
  Store.pick_upd_same e.plTicks {} k fun _ => t

/-- The first change of a tick is the one change noted. -/
theorem Device.plHist_noted (hd : d.plHist k = []) (hclk : e.clk = d.clk) : (e.noted k (d.tickOf e k r)).plHist k = [r] := by
  simp only [Device.plHist, Device.plTicks_noted]
  have hcond : (d.tickOf e k r).at_ = (e.noted k (d.tickOf e k r)).clk.now + 1 ∧
      (d.tickOf e k r).after = ((e.noted k (d.tickOf e k r)).pl k).asked ∧
      (d.tickOf e k r).afterSt = (e.noted k (d.tickOf e k r)).plState k := by
    refine ⟨?_, rfl, rfl⟩
    show d.clk.now + 1 = e.clk.now + 1
    rw [hclk]
  rw [if_pos hcond]
  simp only [Device.tickOf, hd, insReq]

/-- With no change before it, the note holds the planner and its status as they stand. -/
theorem Device.tickOf_base (hd : d.plHist k = []) : (d.tickOf e k r).base = d.pl k ∧
    (d.tickOf e k r).baseSt = Store.get resetWord d.live (AX_PL_STATUS k) := by
  simp only [Device.tickOf, hd]
  exact ⟨rfl, rfl⟩

/-- A change of a lower rank than the one change of the tick is taken before that, which follows again. -/
theorem Device.plAsk_before (hd : d.plHist k = [q]) (hrank : r.rank < q.rank) :
    ∃ t, (d.plAsk k r).2 = (((d.plBack k).plDo k r).2.plDo k q).2.noted k t := by
  have hins : insReq r [q] = [r, q] := if_pos hrank
  simp only [Device.plAsk, hd, hins, List.any_cons, List.any_nil, Bool.or_false, decide_eq_true hrank, if_true, Device.plRun,
    List.foldl_cons, List.foldl_nil]
  exact ⟨_, rfl⟩

/-- A planner put back to where it stood before the one change of the tick. -/
theorem Device.alike_plBack (hd : d.plHist k = []) (hs : sameSetting d e k) (hkept : (e.pl k).kept = (d.pl k).kept) :
    Alike d ((e.noted k (d.tickOf e k r)).plBack k) k := by
  obtain ⟨hbase, hbaseSt⟩ := Device.tickOf_base (e := e) (r := r) hd
  simp only [Planner.kept, Prod.mk.injEq] at hkept
  obtain ⟨hcp, hcap, hmcap⟩ := hkept
  have hpl : (e.noted k (d.tickOf e k r)).pl k = e.pl k := rfl
  refine ⟨(hs.trans (.noted e k _)).trans (.plBack _ k), ?_, ?_⟩
  · rw [Device.pl_plBack, Device.plTicks_noted, hbase, hpl, hcp, hcap, hmcap]
    rfl
  · rw [Device.plState_plBack, Device.plTicks_noted, hbaseSt]
    rfl

theorem Alike.noted (h : Alike d e k) (t u : PlTick) : Alike (d.noted k t) (e.noted k u) k :=
  ⟨(sameSetting.noted d k t).symm.trans (h.setting.trans (.noted e k u)), h.pl, h.state⟩

end Tick

/-- A command that `onDev` gates, whose effect keeps the clock. -/
theorem exec_onDev {c : Instr} {s : State} {g : Device → Device} {e : Device} (hc : exec c s = .next (s.onDev g))
    (hr : s.dev.inReset = false) (he : g s.dev = e) (hclk : e.clk = s.dev.clk) : exec c s = .next ⟨e, s.pending⟩ := by
  rw [hc, State.onDev_run s g hr, Device.still_of_clk he hclk]

end Machine

theorem changesOfOneTickInOrder : Claims.ChangesOfOneTickInOrder := by
  intro s k hr hd
  let go : PlReq := .go (s.dev.rdS64 (AX_PL_TARGET k))
  have hturn : ∀ r, inTurn s.dev k r := fun r q hq => absurd (hd ▸ hq) List.not_mem_nil
  -- the GO, and then the QSTOP, which is taken before it
  obtain ⟨e, he⟩ : ∃ e, e = (s.dev.plDo k go).2 := ⟨_, rfl⟩
  have hse : sameSetting s.dev e k := he ▸ .plStart s.dev k 1 _ 0
  let t : State := ⟨e.noted k (s.dev.tickOf e k go), s.pending⟩
  have hst : sameSetting s.dev t.dev k := hse.trans (.noted e k _)
  have hgo : exec (.go k) s = .next t := by
    refine exec_onDev rfl hr ?_ hse.clk
    show (s.dev.plAsk k go).2 = _
    rw [Device.plAsk_inTurn (hturn go), ← he]
  have hback : Alike s.dev (t.dev.plBack k) k := Device.alike_plBack hd hse (he ▸ kept_plStart s.dev k 1 _ 0)
  obtain ⟨n, hn⟩ := Device.plAsk_before (d := t.dev) (r := .qstop) (Device.plHist_noted (r := go) hd hse.clk) (show 3 < 8 by decide)
  -- the QSTOP, and then the GO in its turn
  obtain ⟨f, hf⟩ : ∃ f, f = (s.dev.plDo k .qstop).2 := ⟨_, rfl⟩
  have hsf : sameSetting s.dev f k := hf ▸ .plDoQstop s.dev k
  let v : State := ⟨f.noted k (s.dev.tickOf f k .qstop), s.pending⟩
  have hsv : sameSetting s.dev v.dev k := hsf.trans (.noted f k _)
  have hqstop : exec (.qstop k) s = .next v := by
    refine exec_onDev rfl hr ?_ hsf.clk
    show (s.dev.plAsk k .qstop).2 = _
    rw [Device.plAsk_inTurn (hturn .qstop), ← hf]
  have hturn' : inTurn v.dev k go := by
    intro q hq
    rw [Device.plHist_noted hd hsf.clk, List.mem_singleton] at hq
    rw [hq]
    exact show 3 ≤ 8 by decide
  have hw : ∃ m, (v.dev.plAsk k (.go (v.dev.rdS64 (AX_PL_TARGET k)))).2 = (v.dev.plDo k go).2.noted k m := by
    rw [hsv.target, Device.plAsk_inTurn hturn']
    exact ⟨_, rfl⟩
  obtain ⟨m, hm⟩ := hw
  -- both take the QSTOP and then the GO from alike planners
  have hq : Alike f ((t.dev.plBack k).plDo k .qstop).2 k := hf ▸ hback.plDoQstop
  have hq : Alike v.dev ((t.dev.plBack k).plDo k .qstop).2 k := ⟨(sameSetting.noted f k _).symm.trans hq.setting, hq.pl, hq.state⟩
  have hu := (hq.plStart 1 (posIn (s.dev.rdS64 (AX_PL_TARGET k))) 0).noted m n
  have hsw : sameSetting s.dev ((v.dev.plDo k go).2.noted k m) k := (hsv.trans (.plStart v.dev k 1 _ 0)).trans (.noted _ k m)
  refine ⟨t, ⟨_, _⟩, v, ⟨_, _⟩, hgo, exec_onDev rfl (hst.awake hr) hn ?_, hqstop, exec_onDev rfl (hsv.awake hr) hm ?_,
    hu.state, ?_, hu.pl⟩
  · exact (hsw.trans hu.setting).clk.trans hst.clk.symm
  · exact hsw.clk.trans hsv.clk.symm
  · exact (hsw.trans hu.setting).clk

/-- Settles O17: one rule says what a plan put in force leaves of the block, and each command is that rule, a report or a
refusal by the planner's state; two changes of a tick meet planners that differ in their squashes alone. -/
theorem plannerMovesHoldsAndStops : Obligations.PlannerMovesHoldsAndStops :=
  ⟨goAndJogByPlannerState, holdAndResumeKeepTheTarget, stopAndQuickStop, changesOfOneTickInOrder⟩

end Sys2Proof
end

section
/-! LIMITS, SHIFT and the depth of the road ahead (R42, R45, R58, R60, R66). -/

namespace Sys2Proof

open Sys2Proof.Machine
open Claims (plannerFrame plannerRefused inTurn takes tooLong)

namespace Machine

/-! ### LIMITS -/

/-- The planner with the limits `l` in force and what waits for rest (R45). -/
def Planner.limited (l : Limits) (defer : Option (Nat × Nat)) (p : Planner) : Planner := { p with lim := l, defer := defer }

/-- The block with the limits `l` of axis `k` in force; LIMIT_DEFERRED says whether some wait for rest. -/
def Device.limited (d : Device) (k : Nat) (l : Limits) (defer : Option (Nat × Nat)) : Device :=
  (d.setPl k (Planner.limited l defer)).livePut (AX_PL_STATUS_LIMIT_DEFERRED k) (b2n defer.isSome)

section Limited
variable {d : Device} {k : Nat} {l : Limits} {defer : Option (Nat × Nat)}

theorem PlannerOnly.limited (d : Device) (k : Nat) (l : Limits) (defer : Option (Nat × Nat)) : PlannerOnly d (d.limited k l defer) k :=
  (PlannerOnly.setPl d k _).trans (.livePut _ _ _ _ rfl)

theorem Device.pl_limited : (d.limited k l defer).pl k = (d.pl k).limited l defer := d.pl_setPl_same k _

theorem Device.plState_limited : (d.limited k l defer).plState k = d.plState k := by
  refine Device.liveGet_livePut_bits (d.setPl k (Planner.limited l defer)) (AX_PL_STATUS_LIMIT_DEFERRED k) _ _ ?_ ?_ <;>
    simp only [AX_PL_STATUS_LIMIT_DEFERRED, AX_PL_STATUS_STATE] <;> decide

theorem Device.deferred_limited : (d.limited k l defer).liveGet (AX_PL_STATUS_LIMIT_DEFERRED k) = b2n defer.isSome := by
  refine (Device.liveGet_livePut_same _ (AX_PL_STATUS_LIMIT_DEFERRED k) _ (by simp only [AX_PL_STATUS_LIMIT_DEFERRED]; decide)).trans ?_
  cases defer <;> rfl

/-- The block with OVERSHOOT raised where the axis will pass its target (R45). -/
def Device.overshooting (d : Device) (k : Nat) (beyond : Bool) : Device := if beyond then d.raise (AX_PL_EVENT_OVERSHOOT k) else d

section Overshooting
variable (d : Device) (k : Nat) (beyond : Bool)

theorem PlannerOnly.overshooting : PlannerOnly d (d.overshooting k beyond) k := by
  cases beyond
  · exact .refl d k
  · refine .put d k (AX_PL_EVENT_OVERSHOOT k) 1 ?_
    simp only [plannerReg, AX_PL_EVENT_OVERSHOOT, AX_PL_EVENT, AX_PL_CTRL]
    omega

theorem Device.planners_overshooting : (d.overshooting k beyond).planners = d.planners := by cases beyond <;> rfl

theorem Device.liveGet_overshooting (f : Fld) : (d.overshooting k beyond).liveGet f = d.liveGet f := by cases beyond <;> rfl

theorem Device.sameRegs_overshooting : sameRegs d (d.overshooting k beyond) (· = AX_PL_EVENT k) := by
  cases beyond
  · exact .refl d _
  · exact .put d (AX_PL_EVENT_OVERSHOOT k) 1 _ rfl

theorem Device.get_overshooting : (d.overshooting k true).get (AX_PL_EVENT_OVERSHOOT k) = 1 :=
  Device.get_put_same d (AX_PL_EVENT_OVERSHOOT k) 1 (by simp only [AX_PL_EVENT_OVERSHOOT]; decide)

end Overshooting

/-! What LIMITS does by the planner's state and by whether the axis would pass its target. -/

theorem Device.plDoLimits_disabling {new : Option Limits} (h : d.plState k = plDISABLING) : d.plDoLimits k new = d.plNo k 4 := if_pos h

theorem Device.plDoLimits_following {new : Option Limits} (h : d.plState k = plFOLLOWING) : d.plDoLimits k new = d.plNo k 5 := by
  unfold Device.plDoLimits
  rw [h]
  rfl

section Taken
variable (h1 : d.plState k ≠ plDISABLING) (h2 : d.plState k ≠ plFOLLOWING)
include h1 h2

theorem Device.plDoLimits_negative : d.plDoLimits k none = d.plNo k 7 := by
  unfold Device.plDoLimits
  dsimp only
  rw [if_neg h1, if_neg h2]

theorem Device.plDoLimits_zero (hz : l.zero = true) (h3 : d.plState k ≠ plIDLE) (h4 : d.plState k ≠ plOFF) :
    d.plDoLimits k (some l) = d.plNo k 2 := by
  unfold Device.plDoLimits
  dsimp only
  rw [if_neg h1, if_neg h2, if_pos (by simp [hz, h3, h4])]

/-- LIMITS accepted: `beyond` says whether a moving axis would now pass its target, `noOver` whether that is to be avoided. -/
theorem Device.plDoLimits_taken {beyond noOver : Bool} (hz : l.zero = false ∨ d.plState k = plIDLE ∨ d.plState k = plOFF)
    (hb : (decide (d.plState k = plMOVING) && (d.pl k).overshoots ((d.pl k).start d.clk.beat) l) = beyond)
    (hn : d.has (AX_PL_CTRL_NO_OVERSHOOT k) = noOver) :
    let l2 := if beyond && noOver then { l with dmax := max l.dmax (d.pl k).lim.dmax, jmax := max l.jmax (d.pl k).lim.jmax } else l
    let x := d.limited k l2 (if beyond && noOver then some (l.dmax, l.jmax) else none)
    d.plDoLimits k (some l) = if d.plState k = plOFF ∨ d.plState k = plIDLE ∨ d.plState k = plHELD then (0, x.plReport k)
      else if x.plTooLong k then d.plNo k 10
      else (0, (x.overshooting k (beyond && !noOver)).plInstall k) := by
  have hzero : ¬ (l.zero && decide (d.plState k ≠ plIDLE) && decide (d.plState k ≠ plOFF)) = true := by
    rcases hz with h | h | h <;> simp [h]
  unfold Device.plDoLimits
  dsimp only
  rw [if_neg h1, if_neg h2, if_neg hzero, hb, hn]
  cases beyond <;> cases noOver <;> rfl

end Taken
end Limited

section Limits
variable {s : State} {k : Fin 192}

/-- LIMITS in force without a re-plan in IDLE, OFF and HELD. -/
theorem Asks.limitsAtRest {l : Limits} (h : Asks (.limits k) s k (.limits (s.dev.plShadow k) 6))
    (hst : s.dev.plState k = plIDLE ∨ s.dev.plState k = plOFF ∨ (s.dev.plState k = plHELD ∧ l.zero = false))
    (hl : s.dev.plShadow k = some l) : takes (.limits k) s k (fun d =>
      d.pl k = { s.dev.pl k with lim := l, defer := none } ∧ d.plState k = s.dev.plState k ∧
      d.get (AX_PL_SQUASHES_COUNT k) = s.dev.get (AX_PL_SQUASHES_COUNT k) ∧ plannerFrame s.dev d k) := by
  have h1 : s.dev.plState k ≠ plDISABLING := by rcases hst with e | e | ⟨e, -⟩ <;> rw [e] <;> decide
  have h2 : s.dev.plState k ≠ plFOLLOWING := by rcases hst with e | e | ⟨e, -⟩ <;> rw [e] <;> decide
  have h3 : decide (s.dev.plState k = plMOVING) = false := by rcases hst with e | e | ⟨e, -⟩ <;> rw [e] <;> decide
  have hz : l.zero = false ∨ s.dev.plState k = plIDLE ∨ s.dev.plState k = plOFF := by tauto
  have hrest : s.dev.plState k = plOFF ∨ s.dev.plState k = plIDLE ∨ s.dev.plState k = plHELD := by tauto
  have hdo : s.dev.plDo k (.limits (s.dev.plShadow k) 6) = (0, (s.dev.limited k l none).plReport k) := by
    rw [hl]
    exact (Device.plDoLimits_taken h1 h2 hz (beyond := false) (by rw [h3, Bool.false_and]) rfl).trans (if_pos hrest)
  have hp : PlannerOnly s.dev ((s.dev.limited k l none).plReport k) k := (PlannerOnly.limited _ _ _ _).trans (.plReport _ _)
  refine h.accepted hdo hp.plannerFrame ⟨?_, ?_, ?_, hp.plannerFrame⟩
  · rw [Device.pl_plReport, Device.pl_limited]
    rfl
  · rw [Device.plState_plReport, Device.plState_limited]
  · exact (Device.sameRegs_plReport _ _).get (not_reportReg_count k)

/-- LIMITS that re-plans an axis under way: `beyond` says whether a moving axis would now pass its target, `noOver` whether that is
to be avoided. -/
theorem Asks.limitsUnderWay {l l2 : Limits} {defer : Option (Nat × Nat)} {beyond noOver : Bool} {P : Device → Prop}
    (h : Asks (.limits k) s k (.limits (s.dev.plShadow k) 6))
    (hst : s.dev.plState k = plMOVING ∨ s.dev.plState k = plJOGGING ∨ s.dev.plState k = plHOLDING ∨ s.dev.plState k = plSTOPPING)
    (hl : s.dev.plShadow k = some l) (hz : l.zero = false)
    (hb : (decide (s.dev.plState k = plMOVING) && (s.dev.pl k).overshoots ((s.dev.pl k).start s.dev.clk.beat) l) = beyond)
    (hn : s.dev.has (AX_PL_CTRL_NO_OVERSHOOT k) = noOver)
    (hl2 : l2 = if beyond && noOver then { l with dmax := max l.dmax (s.dev.pl k).lim.dmax, jmax := max l.jmax (s.dev.pl k).lim.jmax } else l)
    (hdefer : defer = if beyond && noOver then some (l.dmax, l.jmax) else none)
    (hP : ∀ e, Claims.replanned s.dev e k (Planner.limited l2 defer) → e.plState k = s.dev.plState k →
      e.liveGet (AX_PL_STATUS_LIMIT_DEFERRED k) = b2n defer.isSome →
      ((beyond && !noOver) = true → e.has (AX_PL_EVENT_OVERSHOOT k) = true) → plannerFrame s.dev e k → P e) :
    (tooLong s.dev k (Planner.limited l2 defer) → takes (.limits k) s k (plannerRefused s.dev · k 10)) ∧
    (¬ tooLong s.dev k (Planner.limited l2 defer) → takes (.limits k) s k P) := by
  have h1 : s.dev.plState k ≠ plDISABLING := by rcases hst with e | e | e | e <;> rw [e] <;> decide
  have h2 : s.dev.plState k ≠ plFOLLOWING := by rcases hst with e | e | e | e <;> rw [e] <;> decide
  have hrest : ¬ (s.dev.plState k = plOFF ∨ s.dev.plState k = plIDLE ∨ s.dev.plState k = plHELD) := by
    rcases hst with e | e | e | e <;> rw [e] <;> decide
  have hdo : s.dev.plDo k (.limits (s.dev.plShadow k) 6) = if (s.dev.limited k l2 defer).plTooLong k then s.dev.plNo k 10
      else (0, ((s.dev.limited k l2 defer).overshooting k (beyond && !noOver)).plInstall k) := by
    rw [hl, hl2, hdefer]
    exact (Device.plDoLimits_taken h1 h2 (.inl hz) hb hn).trans (if_neg hrest)
  have hx : PlannerOnly s.dev (s.dev.limited k l2 defer) k := .limited s.dev k l2 defer
  have hy := Device.sameRegs_overshooting (s.dev.limited k l2 defer) k (beyond && !noOver)
  refine h.plansFrom hdo hx Device.pl_limited rfl (hx.trans (.overshooting _ k _)) ?_ ?_ ?_
    fun e hi hr hf => hP e hr ?_ ?_ (fun hc => ?_) hf
  · rw [Device.pl, Device.planners_overshooting]
    exact Device.pl_limited
  · rw [Device.has, hy.get]
    · rfl
    · simp only [AX_PL_CTRL_SOFT_EN, AX_PL_CTRL, AX_PL_EVENT]; omega
  · rw [hy.get]
    · rfl
    · simp only [AX_PL_SQUASHES_COUNT, AX_PL_SQUASHES, AX_PL_EVENT]; omega
  · rw [hi.plState, Device.plState, Device.liveGet_overshooting]
    exact Device.plState_limited
  · rw [hi.low _ (by simp only [AX_PL_STATUS_LIMIT_DEFERRED]; decide), Device.liveGet_overshooting, Device.deferred_limited]
  · rw [Device.has, hi.overshoot, hc, Device.get_overshooting]
    rfl

/-- LIMITS on an axis that does not move toward a target, or that will not pass it. -/
theorem Asks.limitsWithin {l : Limits} (h : Asks (.limits k) s k (.limits (s.dev.plShadow k) 6))
    (hst : s.dev.plState k = plJOGGING ∨ s.dev.plState k = plHOLDING ∨ s.dev.plState k = plSTOPPING ∨
      (s.dev.plState k = plMOVING ∧ (s.dev.pl k).overshoots ((s.dev.pl k).start s.dev.clk.beat) l = false))
    (hl : s.dev.plShadow k = some l) (hz : l.zero = false) :
    (tooLong s.dev k (Planner.limited l none) → takes (.limits k) s k (plannerRefused s.dev · k 10)) ∧
    (¬ tooLong s.dev k (Planner.limited l none) → takes (.limits k) s k (fun d =>
      Claims.replanned s.dev d k (Planner.limited l none) ∧ d.plState k = s.dev.plState k ∧
      d.liveGet (AX_PL_STATUS_LIMIT_DEFERRED k) = 0 ∧ plannerFrame s.dev d k)) := by
  have hb : (decide (s.dev.plState k = plMOVING) && (s.dev.pl k).overshoots ((s.dev.pl k).start s.dev.clk.beat) l) = false := by
    rcases hst with e | e | e | ⟨-, e⟩ <;> rw [e]
    case inr.inr.inr => exact Bool.and_false _
    all_goals rfl
  exact h.limitsUnderWay (by tauto) hl hz hb rfl rfl rfl fun e hr hs hdefer _ hf => ⟨hr, hs, hdefer, hf⟩

/-- LIMITS under which a moving axis would pass its target, where NO_OVERSHOOT has them wait (R45). -/
theorem Asks.limitsDeferred {l : Limits} (h : Asks (.limits k) s k (.limits (s.dev.plShadow k) 6)) (hst : s.dev.plState k = plMOVING)
    (hb : (s.dev.pl k).overshoots ((s.dev.pl k).start s.dev.clk.beat) l = true) (hn : s.dev.has (AX_PL_CTRL_NO_OVERSHOOT k) = true)
    (hl : s.dev.plShadow k = some l) (hz : l.zero = false) :
    let f := Planner.limited { l with dmax := max l.dmax (s.dev.pl k).lim.dmax, jmax := max l.jmax (s.dev.pl k).lim.jmax }
      (some (l.dmax, l.jmax))
    ¬ tooLong s.dev k f → takes (.limits k) s k (fun d => Claims.replanned s.dev d k f ∧ d.plState k = s.dev.plState k ∧
      d.liveGet (AX_PL_STATUS_LIMIT_DEFERRED k) = 1 ∧ plannerFrame s.dev d k) := by
  have hb' : (decide (s.dev.plState k = plMOVING) && (s.dev.pl k).overshoots ((s.dev.pl k).start s.dev.clk.beat) l) = true := by
    rw [hst, hb]
    rfl
  exact (h.limitsUnderWay (.inl hst) hl hz hb' hn rfl rfl fun e hr hs hdefer _ hf => ⟨hr, hs, hdefer, hf⟩).2

/-- LIMITS under which a moving axis will pass its target. -/
theorem Asks.limitsBeyond {l : Limits} (h : Asks (.limits k) s k (.limits (s.dev.plShadow k) 6)) (hst : s.dev.plState k = plMOVING)
    (hb : (s.dev.pl k).overshoots ((s.dev.pl k).start s.dev.clk.beat) l = true) (hn : s.dev.has (AX_PL_CTRL_NO_OVERSHOOT k) = false)
    (hl : s.dev.plShadow k = some l) (hz : l.zero = false) :
    ¬ tooLong s.dev k (Planner.limited l none) → takes (.limits k) s k (fun d => Claims.replanned s.dev d k (Planner.limited l none) ∧
      d.plState k = s.dev.plState k ∧ d.has (AX_PL_EVENT_OVERSHOOT k) = true ∧ plannerFrame s.dev d k) := by
  have hb' : (decide (s.dev.plState k = plMOVING) && (s.dev.pl k).overshoots ((s.dev.pl k).start s.dev.clk.beat) l) = true := by
    rw [hst, hb]
    rfl
  exact (h.limitsUnderWay (.inl hst) hl hz hb' hn rfl rfl fun e hr hs _ hover hf => ⟨hr, hs, hover rfl, hf⟩).2

end Limits

/-! ### SHIFT -/

/-- The planner with its target and its rest shifted by `off`, due two boundaries on (R58). -/
def Planner.shifted (beat : Nat) (off : Int) (p : Planner) : Planner :=
  { p with prof := restAt ((p.start beat).p3 + posIn off), origin := beat + 1, target := p.target + posIn off,
           shifts := p.shifts ++ [(beat + 2, off)] }

section Shift
variable {d : Device} {k : Nat} {off : Int}

theorem Device.plDoShift_off (h : d.plState k = plOFF ∨ d.plState k = plDISABLING) : d.plDoShift k off = d.plNo k 4 := if_pos h

theorem Device.plDoShift_following (h : d.plState k = plFOLLOWING) : d.plDoShift k off = d.plNo k 5 := by
  unfold Device.plDoShift
  rw [h]
  rfl

theorem Device.plDoShift_stopping (h : d.plState k = plSTOPPING) : d.plDoShift k off = d.plNo k 3 := by
  unfold Device.plDoShift
  rw [h]
  rfl

theorem Device.plDoShift_underWay (h : d.plState k = plMOVING ∨ d.plState k = plJOGGING ∨ d.plState k = plHOLDING) :
    d.plDoShift k off = d.plNo k 9 := by
  unfold Device.plDoShift
  obtain e | e | e := h <;> rw [e] <;> rfl

/-- SHIFT at rest. -/
theorem Device.plDoShift_atRest (h : d.plState k = plIDLE ∨ d.plState k = plHELD) : d.plDoShift k off =
    if off % 2 ^ 16 ≠ 0 then d.plNo k 8 else (0, (d.setPl k (Planner.shifted d.clk.beat off)).plSquash k) := by
  unfold Device.plDoShift
  obtain e | e := h <;> rw [e] <;> rfl

/-- SHIFT taken: the shifted planner squashed. -/
theorem Asks.shiftTaken {s : State} {k : Fin 192} {off : Int} (h : Asks (.shift k) s k (.shift off))
    (hst : s.dev.plState k = plIDLE ∨ s.dev.plState k = plHELD) (hoff : off % 2 ^ 16 = 0) :
    takes (.shift k) s k (fun d =>
      (d.pl k).shifts = (s.dev.pl k).shifts ++ [(s.dev.clk.beat + 2, off)] ∧ (d.pl k).gen = (s.dev.pl k).gen + 1 ∧
      (d.pl k).target = (s.dev.pl k).target + posIn off ∧
      (d.pl k).prof = restAt (((s.dev.pl k).start s.dev.clk.beat).p3 + posIn off) ∧ (d.pl k).origin = s.dev.clk.beat + 1 ∧
      d.plState k = s.dev.plState k ∧ d.has (AX_PL_EVENT_SQUASHED k) = true ∧ plannerFrame s.dev d k) := by
  let d1 := s.dev.setPl k (Planner.shifted s.dev.clk.beat off)
  have hs : Squashed d1 (d1.plSquash k) (d1.drawn [k]) := Device.squashed_plSquashes d1 [k]
  have hk := d1.mem_drawn_self k
  have hf := plannerFrame_of_squashed (PlannerOnly.setPl s.dev k _) hs
  have hst' : (d1.plSquash k).plState k = s.dev.plState k := hs.low _ (by simp only [AX_PL_STATUS_STATE]; decide)
  have hpl : (d1.plSquash k).pl k = ((s.dev.pl k).shifted s.dev.clk.beat off).squashed :=
    ((hs.pl k).trans (if_pos hk)).trans (congrArg Planner.squashed (s.dev.pl_setPl_same k _))
  refine h.accepted ((Device.plDoShift_atRest hst).trans (if_neg (not_not_intro hoff))) hf ?_
  rw [hpl]
  exact ⟨rfl, rfl, rfl, rfl, rfl, hst', hs.raised k hk, hf⟩

end Shift

/-! ### The depth of the road ahead -/

section Depth
variable {d : Device} {k v : Nat}

theorem Device.plDepth_ignored (h : v % 128 = 0 ∨ 64 < v % 128) : d.plDepth k v = d := if_pos h

theorem Device.plDepth_taken (h1 : 1 ≤ v % 128) (h2 : v % 128 ≤ 64) : d.plDepth k v = (d.put (AX_PL_DEPTH_DEPTH k) (v % 128)).plSquash k :=
  if_neg (by omega)

end Depth

theorem leads_depth {s : State} (k : Fin 192) (v : BitVec 32) (hr : s.dev.inReset = false) (h1 : 1 ≤ v.toNat % 128) (h2 : v.toNat % 128 ≤ 64) :
    leads (.plDepthWrite k v) s (fun d => d.get (AX_PL_DEPTH_DEPTH k) = v.toNat % 128 ∧ (d.pl k).gen = (s.dev.pl k).gen + 1 ∧
      (d.pl k).prof = (s.dev.pl k).prof ∧ d.has (AX_PL_EVENT_SQUASHED k) = true ∧ plannerFrame s.dev d k) := by
  let d1 := s.dev.put (AX_PL_DEPTH_DEPTH k) (v.toNat % 128)
  have hs : Squashed d1 (d1.plSquash k) (d1.drawn [k]) := Device.squashed_plSquashes d1 [k]
  have hk := d1.mem_drawn_self k
  have hput : PlannerOnly s.dev d1 k := by
    refine .put _ _ _ _ ?_
    simp only [plannerReg, AX_PL_DEPTH_DEPTH, AX_PL_DEPTH, AX_PL_CTRL]
    omega
  have hf := plannerFrame_of_squashed hput hs
  refine leads_onDev (.plDepthWrite k v) s (Device.plDepth · k v.toNat) _ rfl hr ?_
  rw [Device.still_of_clk (Device.plDepth_taken h1 h2) (clk_of_plannerFrame hf)]
  have hpl : (d1.plSquash k).pl k = (s.dev.pl k).squashed := (hs.pl k).trans (if_pos hk)
  refine ⟨?_, ?_, ?_, hs.raised k hk, hf⟩
  · rw [hs.regs.get, Device.get_put_same _ _ _ (by simp only [AX_PL_DEPTH_DEPTH]; decide)]
    · exact Nat.mod_eq_of_lt (by simp only [AX_PL_DEPTH_DEPTH]; omega)
    · rintro (⟨j, -, ha⟩ | ha)
      · simp only [AX_PL_DEPTH_DEPTH, AX_PL_DEPTH, AX_PL_SQUASHES, AX_PL_EVENT] at ha
        omega
      · exact not_msReg_axis (k := k) (o := 0x160) (by simpa only [AX_PL_DEPTH_DEPTH, AX_PL_DEPTH, Nat.add_right_comm] using ha)
  · rw [hpl]
    rfl
  · rw [hpl]
    rfl

theorem leads_depth_ignored {s : State} (k : Fin 192) (v : BitVec 32) (hr : s.dev.inReset = false)
    (h : v.toNat % 128 = 0 ∨ 64 < v.toNat % 128) : leads (.plDepthWrite k v) s (· = s.dev) :=
  leads_onDev (.plDepthWrite k v) s (fun d => d.plDepth k v.toNat) _ rfl hr (Device.still_of_clk (Device.plDepth_ignored h) rfl)

end Machine

/-- Settles O16: LIMITS and SHIFT in their turn are one change of the planner each, taken by its state; a re-plan puts the new plan
in force and squashes, and a shift and a new depth squash alone. -/
theorem limitsShiftAndDepth : Obligations.LimitsShiftAndDepth := by
  refine fun s k hr => ⟨fun ht => ?_, fun ht => ?_, fun v => leads_depth k v hr, fun v => leads_depth_ignored k v hr⟩
  · have h : Asks (.limits k) s k (.limits (s.dev.plShadow k) 6) := ⟨⟨_, rfl, rfl⟩, hr, ht⟩
    refine ⟨fun hst => h.refused (Device.plDoLimits_disabling hst) (by decide),
      fun hst => h.refused (Device.plDoLimits_following hst) (by decide), fun h1 h2 hn => ?_, fun l h1 h2 hl hz h3 h4 => ?_,
      fun l => h.limitsAtRest, fun l => h.limitsWithin, fun l => h.limitsDeferred, fun l => h.limitsBeyond⟩
    · rw [hn] at h
      exact h.refused (Device.plDoLimits_negative h1 h2) (by decide)
    · rw [hl] at h
      exact h.refused (Device.plDoLimits_zero h1 h2 hz h3 h4) (by decide)
  · have h : Asks (.shift k) s k (.shift (s.dev.rdS64 (AX_PL_TARGET k))) := ⟨⟨_, rfl, rfl⟩, hr, ht⟩
    refine ⟨h.shiftTaken, fun hst hoff => ?_, fun hst => h.refused (Device.plDoShift_underWay hst) (by decide),
      fun hst => h.refused (Device.plDoShift_stopping hst) (by decide), fun hst => h.refused (Device.plDoShift_off hst) (by decide),
      fun hst => h.refused (Device.plDoShift_following hst) (by decide)⟩
    · exact h.refused ((Device.plDoShift_atRest hst).trans (if_pos hoff)) (by decide)

end Sys2Proof
end

section
/-! HOLD, RESUME, STOP, QSTOP, LIMITS and FLUSH of a path convoy (R52–R54, R70, R76–R78). -/

namespace Sys2Proof

open Sys2Proof.Machine
open Claims (convoyRefused otherConvoys pathReplanned shadowLimits)

namespace Machine

/-! ### A convoy changed, and its state -/

section Rules
variable (d : Device) (c : Nat) (f : Convoy → Convoy) (st : Nat)

theorem Device.cy_setCy_same : (d.setCy c f).cy c = f (d.cy c) := Store.pick_upd_same d.convoys {} c f

theorem Device.cy_setCy_other {i : Nat} (h : i ≠ c) : (d.setCy c f).cy i = d.cy i := Store.pick_upd_other d.convoys {} c i f h

theorem Device.cyState_setCyState_same (h : st < 16) : (d.setCyState c st).cyState c = st :=
  (d.liveGet_livePut_same (GL_CY_STATUS_STATE c) st (by simp only [GL_CY_STATUS_STATE]; decide)).trans (Nat.mod_eq_of_lt h)

theorem Device.cyState_setCyState_other {i : Nat} (h : i ≠ c) : (d.setCyState c st).cyState i = d.cyState i := by
  refine d.liveGet_livePut_addr (GL_CY_STATUS_STATE c) (GL_CY_STATUS_STATE i) st ?_
  simp only [GL_CY_STATUS_STATE, GL_CY_STATUS]
  omega

/-- Convoy `c` changed by `f` and in state `st`. -/
def Device.steered : Device := (d.setCy c f).setCyState c st

theorem Device.cy_steered_same : (d.steered c f st).cy c = f (d.cy c) := d.cy_setCy_same c f

theorem Device.otherConvoys_steered : otherConvoys d (d.steered c f st) c := fun _ hi =>
  ⟨d.cy_setCy_other c f hi, (d.setCy c f).cyState_setCyState_other c st hi⟩

theorem Device.cyState_setCy (i : Nat) : (d.setCy c f).cyState i = d.cyState i := rfl

/-- A change of a convoy's own state alone. -/
theorem Device.otherConvoys_setCy : otherConvoys d (d.setCy c f) c := fun _ hi => ⟨d.cy_setCy_other c f hi, d.cyState_setCy c f _⟩

end Rules

theorem otherConvoys_trans {d e f : Device} {c : Nat} (h : otherConvoys d e c) (g : otherConvoys e f c) : otherConvoys d f c := by
  intro i hi
  obtain ⟨hcy, hst⟩ := h i hi
  obtain ⟨gcy, gst⟩ := g i hi
  exact ⟨gcy.trans hcy, gst.trans hst⟩

/-! ### A refusal -/

/-- A refused command says so, an event goes to Q5, and nothing else changes. -/
theorem Device.convoyRefused_cyRefuse (d : Device) (c : Fin 32) {code : Nat} (h : code < 256) :
    convoyRefused d (d.cyRefuse c code) c code := by
  let d1 := d.livePut (GL_CY_STATUS_REFUSE_LAST c) code
  let d2 := d1.raise (GL_CY_EVENT_REFUSED c)
  have hq5 : ∃ pl, d.cyRefuse c code = d2.q5 2 pl := ⟨_, rfl⟩
  obtain ⟨pl, heq⟩ := hq5
  rw [heq]
  have hunits : sameUnits d1 (d2.q5 2 pl) := (unitsOf_q5 d2 2 0 pl).trans (unitsOf_raise d1 _)
  have hlive : ∀ f, (d2.q5 2 pl).liveGet f = d1.liveGet f := hunits.liveGet
  refine ⟨?_, ?_, ?_, ?_, fun f hf => ?_, ?_⟩
  · rw [hlive, Device.liveGet_livePut_same _ _ _ (by simp only [GL_CY_STATUS_REFUSE_LAST]; decide)]
    exact Nat.mod_eq_of_lt h
  · have hput : d2.get (GL_CY_EVENT_REFUSED c) = 1 :=
      Device.get_put_same d1 (GL_CY_EVENT_REFUSED c) 1 (by simp only [GL_CY_EVENT_REFUSED]; decide)
    rw [Device.has, Device.get_q5, hput]
    · rfl
    · have := c.isLt
      simp only [queueReg, GL_CY_EVENT_REFUSED, GL_CY_EVENT]
      omega
  · rw [Device.cyState, hlive]
    refine Device.liveGet_livePut_bits d (GL_CY_STATUS_REFUSE_LAST c) _ code ?_ ?_ <;>
      simp only [GL_CY_STATUS_REFUSE_LAST, GL_CY_STATUS_STATE] <;> decide
  · exact congrArg (fun x : Device => { x with live := d.live }) hunits
  · rw [hlive]
    exact d.liveGet_livePut_addr (GL_CY_STATUS_REFUSE_LAST c) f code hf
  · have hraise : sameRegs d1 d2 (fun a => a = GL_CY_EVENT c ∨ queueReg a) := .put d1 (GL_CY_EVENT_REFUSED c) 1 _ (.inl rfl)
    exact (sameRegs.trans (e := d1) (.regs _ rfl) hraise).trans ((sameRegs.q5 d2 2 0 pl).mono fun _ => .inr)

/-! ### The plan of s put in force (R76, R84) -/

/-- The members `ms` given the generation `n`. -/
def Device.gaveGen (n : Nat) (ms : List (Nat × Nat)) (d : Device) : Device :=
  ms.foldl (fun d m => d.setPl m.2 fun p => { p with gen := n }) d

theorem Device.gen_gaveGen {n : Nat} (ms : List (Nat × Nat)) : ∀ (d : Device) (k : Nat), k ∈ ms.map (·.2) ∨ (d.pl k).gen = n →
    ((d.gaveGen n ms).pl k).gen = n := by
  induction ms with
  | nil => simp [Device.gaveGen]
  | cons m ms ih =>
    intro d k hk
    refine ih _ k ?_
    by_cases hm : k = m.2
    · subst hm
      exact .inr (congrArg Planner.gen (d.pl_setPl_same m.2 _))
    · rw [Device.pl_setPl_other _ _ _ _ hm]
      exact hk.imp_left fun h => (List.mem_cons.mp h).resolve_left hm

section Install
variable (d : Device) (c : Nat)

/-- The greatest generation among the members. -/
def Device.topGen : Nat := ((d.cyMembers c).map fun m => (d.pl m.2).gen).foldl max 0

theorem Device.cyGen_eq : d.cyGen c = d.gaveGen (d.topGen c) (d.cyMembers c) := rfl

theorem Device.gen_cyGen {m : Nat × Nat} (hm : m ∈ d.cyMembers c) : ((d.cyGen c).pl m.2).gen = d.topGen c :=
  Device.gen_gaveGen _ d m.2 (.inl (List.mem_map_of_mem hm))

/-- What planners do not show in is unchanged. -/
theorem Device.part_cyGen {α : Type} (p : Device → α) (hp : ∀ (x : Device) k f, p (x.setPl k f) = p x) : p (d.cyGen c) = p d := by
  rw [Device.cyGen_eq]
  exact foldl_part p (fun x (m : Nat × Nat) => hp x m.2 _) _ d

theorem Device.otherUnits_msSquash (ms : List Nat) : otherUnits (d.msSquash ms) = otherUnits d :=
  congrArg (fun x : Device => { x with planners := [], live := [] }) (unitsButMiles_msSquash d ms)

@[simp] theorem clk_otherUnits : (otherUnits d).clk = d.clk := rfl
@[simp] theorem convoys_otherUnits : (otherUnits d).convoys = d.convoys := rfl

/-- The axes whose road a new plan of convoy `c` squashes, before what moves with them. -/
def Device.roadOf : List Nat := (d.cyMembers c).map (·.2) ++ d.cyFollowersOf 3 c

/-- `e` is `d` with the plan of convoy `c` put in force. -/
structure PathInstalled (d e : Device) (c : Nat) : Prop where
  clk : e.clk = d.clk
  own : e.cy c = { d.cy c with prof := d.cyReplan c, origin := d.clk.beat + 1 }
  state : e.cyState c = d.cyState c
  others : otherConvoys d e c
  squashed : ∀ k ∈ d.drawn (d.roadOf c), e.has (AX_PL_EVENT_SQUASHED k) = true ∧ e.liveGet (AX_PL_STATUS_DEPTH_VALID k) = 0
  gens : ∀ m ∈ d.cyMembers c, ∀ m' ∈ d.cyMembers c, (e.pl m.2).gen = (e.pl m'.2).gen

/-- A new plan alone changes no coupling. -/
theorem Device.sameDrive_cyPlan : sameDrive d (d.cyPlan c) := by
  refine ⟨fun _ _ => rfl, fun _ _ => rfl, fun i => ?_⟩
  by_cases hi : i = c
  · subst hi
    exact (congrArg Convoy.slots (d.cy_setCy_same i _)).trans rfl
  · exact congrArg Convoy.slots (d.cy_setCy_other c _ hi)

theorem not_squashReg_of_lt {ks : List Nat} {a : Nat} (h : a < 0x40000) : ¬ squashReg ks a := by
  rintro (⟨j, -, hj⟩ | hms)
  · simp only [AX_PL_SQUASHES, AX_PL_EVENT] at hj
    omega
  · simp only [msReg, queueReg] at hms
    omega

theorem Device.pathInstalled_cyInstall (hc : c < 32) : PathInstalled d (d.cyInstall c) c := by
  let d1 := d.cyPlan c
  let d2 := d1.plSquashes (d1.roadOf c)
  let d3 := d2.cyGen c
  have heq : d.cyInstall c = d3.msSquash (d3.msOfConvoy c) := rfl
  have hs : Squashed d1 d2 (d1.drawn (d1.roadOf c)) := d1.squashed_plSquashes _
  have hdrive := d.sameDrive_cyPlan c
  have hmembers : d1.cyMembers c = d.cyMembers c := rfl
  have hroad : d1.drawn (d1.roadOf c) = d.drawn (d.roadOf c) := by
    rw [Device.drawn_congr hdrive, Device.roadOf, hmembers, Device.cyFollowersOf_congr hdrive]
    rfl
  have hunits : otherUnits (d.cyInstall c) = otherUnits d1 :=
    ((d3.otherUnits_msSquash _).trans (d2.part_cyGen c otherUnits fun _ _ _ => rfl)).trans hs.units
  have hconvoys : (d.cyInstall c).convoys = d1.convoys := by
    simpa only [convoys_otherUnits] using congrArg Device.convoys hunits
  have hcy : ∀ i, (d.cyInstall c).cy i = d1.cy i := fun i => congrArg (fun x : Store Convoy => x.pick {} i) hconvoys
  have hlive : ∀ f, (d.cyInstall c).liveGet f = d2.liveGet f := by
    intro f
    rw [heq, Device.liveGet_msSquash, Device.liveGet, d2.part_cyGen c Device.live fun _ _ _ => rfl]
    rfl
  have hstate : ∀ i, (d.cyInstall c).cyState i = d.cyState i := by
    intro i
    rw [Device.cyState, hlive, hs.low _ (by simp only [GL_CY_STATUS_STATE]; decide)]
    rfl
  have hmembers2 : d2.cyMembers c = d.cyMembers c := Device.cyMembers_congr hc fun a ha => hs.regs a (not_squashReg_of_lt ha)
  have hclk : (d.cyInstall c).clk = d1.clk := by simpa only [clk_otherUnits] using congrArg Device.clk hunits
  refine ⟨hclk, ?_, hstate c, fun i hi => ⟨?_, hstate i⟩, fun k hk => ⟨?_, ?_⟩, fun m hm m' hm' => ?_⟩
  · rw [hcy]
    exact d.cy_setCy_same c _
  · rw [hcy]
    exact d.cy_setCy_other c _ hi
  · have hms : ¬ msReg (AX_PL_EVENT_SQUASHED k).addr := by
      simpa only [AX_PL_EVENT_SQUASHED, AX_PL_EVENT, Nat.add_right_comm] using not_msReg_axis (k := k) (o := 0x10C)
    rw [heq, Device.has, (sameRegs_msSquash d3 fun m hm => d3.lt_of_mem_msOfConvoy hm).get hms,
      Device.get, Device.rd, d2.part_cyGen c Device.regs fun _ _ _ => rfl]
    exact hs.raised k (hroad ▸ hk)
  · rw [hlive]
    exact hs.valid k (hroad ▸ hk)
  · rw [heq, Device.pl_msSquash, Device.pl_msSquash, d2.gen_cyGen c (hmembers2 ▸ hm), d2.gen_cyGen c (hmembers2 ▸ hm')]

/-- A path changed by `f`, in state `st`, with its plan put in force is re-planned. -/
theorem Device.pathReplanned_cyInstall (hc : c < 32) (f : Convoy → Convoy) {st : Nat} (hst : st < 16) :
    pathReplanned d ((d.steered c f st).cyInstall c) c st f := by
  have hi := (d.steered c f st).pathInstalled_cyInstall c hc
  refine ⟨?_, ?_, otherConvoys_trans (d.otherConvoys_steered c f st) hi.others, hi.squashed, hi.gens⟩
  · rw [hi.own, Device.cy_steered_same]
    rfl
  · exact hi.state.trans ((d.setCy c f).cyState_setCyState_same c st hst)

end Install

/-! ### A command to a convoy -/

/-- Command `i` has the device do `g`, and no reset holds it. -/
structure Orders (i : Instr) (s : State) (g : Device → Res) : Prop where
  run : exec i s = .next (s.onDev fun d => (g d).2)
  awake : s.dev.inReset = false

namespace Orders
variable {i : Instr} {s : State} {g : Device → Res} {c : Fin 32}

theorem leads_to {P : Device → Prop} (h : Orders i s g) {code : Nat} {e : Device} (he : g s.dev = (code, e)) (hclk : e.clk = s.dev.clk)
    (hP : P e) : leads i s P := by
  refine leads_onDev i s _ P h.run h.awake ?_
  rw [Device.still_of_clk (g := fun d => (g d).2) (congrArg Prod.snd he) hclk]
  exact hP

theorem clk_of_convoyRefused {d e : Device} {k code : Nat} (h : convoyRefused d e k code) : e.clk = d.clk := by
  obtain ⟨-, -, -, hu, -, -⟩ := h
  simpa only [clk_unitsOf] using congrArg Device.clk hu

theorem refused (h : Orders i s g) {code : Nat} (he : g s.dev = s.dev.cyNo c code) (hcode : code < 256) :
    leads i s (convoyRefused s.dev · c code) := by
  have hr := s.dev.convoyRefused_cyRefuse c hcode
  exact h.leads_to he (clk_of_convoyRefused hr) hr

theorem unchanged (h : Orders i s g) (he : g s.dev = (0, s.dev)) : leads i s (· = s.dev) := h.leads_to he rfl rfl

theorem replans (h : Orders i s g) {f : Convoy → Convoy} {st : Nat} (he : g s.dev = (0, (s.dev.steered c f st).cyInstall c))
    (hst : st < 16) : leads i s (pathReplanned s.dev · c st f) :=
  h.leads_to he ((s.dev.steered c f st).pathInstalled_cyInstall c c.isLt).clk (s.dev.pathReplanned_cyInstall c c.isLt f hst)

end Orders

/-! ### What each command does by the convoy's state -/

/-- A convoy with the stop `n` of s, 0 for none. -/
def Convoy.stopping (n : Nat) (v : Convoy) : Convoy := { v with stop := n }

section ByState
variable {d : Device} {c : Nat}

theorem Device.cyHold_busy (h : d.cyState c = cyFREE ∨ d.cyState c = cySTOPPING ∨ d.cyState c = cyENGAGED) :
    d.cyHold c = d.cyNo c 1 := if_pos h

theorem Device.cyHold_running (h : d.cyState c = cyRUNNING) :
    d.cyHold c = (0, (d.steered c (Convoy.stopping 3) cyHOLDING).cyInstall c) := by
  unfold Device.cyHold
  rw [h]
  rfl

theorem Device.cyHold_idle (h : d.cyState c = cyIDLE ∨ d.cyState c = cyHOLDING ∨ d.cyState c = cyHELD) : d.cyHold c = (0, d) := by
  unfold Device.cyHold
  obtain e | e | e := h <;> rw [e] <;> rfl

theorem Device.cyResume_busy (h1 : d.cyState c ≠ cyHOLDING) (h2 : d.cyState c ≠ cyHELD) : d.cyResume c = d.cyNo c 1 := if_pos ⟨h1, h2⟩

/-- RESUME in HOLDING and HELD. -/
theorem Device.cyResume_held (h : d.cyState c = cyHOLDING ∨ d.cyState c = cyHELD) : d.cyResume c =
    if d.cyBlocked c then d.cyNo c 1 else if (d.cy c).feed = 0 then (0, d)
    else (0, (d.steered c (Convoy.stopping 0) cyRUNNING).cyInstall c) := if_neg (by tauto)

theorem Device.cyStop_busy (h : d.cyState c = cyFREE ∨ d.cyState c = cyENGAGED) : d.cyStop c = d.cyNo c 1 := if_pos h

theorem Device.cyStop_idle (h : d.cyState c = cyIDLE ∨ d.cyState c = cySTOPPING) : d.cyStop c = (0, d) := by
  unfold Device.cyStop
  obtain e | e := h <;> rw [e] <;> rfl

theorem Device.cyStop_underWay (h : d.cyState c = cyRUNNING ∨ d.cyState c = cyHOLDING ∨ d.cyState c = cyHELD) :
    d.cyStop c = (0, (d.steered c (Convoy.stopping 1) cySTOPPING).cyInstall c) := by
  unfold Device.cyStop
  obtain e | e | e := h <;> rw [e] <;> rfl

theorem Device.cyQstop_busy (h : d.cyState c = cyFREE ∨ d.cyState c = cyENGAGED) : d.cyQstop c = d.cyNo c 1 := if_pos h

theorem Device.cyQstop_idle (h : d.cyState c = cyIDLE ∨ (d.cyState c = cySTOPPING ∧ (d.cy c).stop = 2)) : d.cyQstop c = (0, d) := by
  have h1 : ¬ (d.cyState c = cyFREE ∨ d.cyState c = cyENGAGED) := by obtain e | ⟨e, -⟩ := h <;> rw [e] <;> decide
  exact (if_neg h1).trans (if_pos h)

theorem Device.cyQstop_underWay (h : d.cyState c = cyRUNNING ∨ d.cyState c = cyHOLDING ∨ d.cyState c = cyHELD ∨
    (d.cyState c = cySTOPPING ∧ (d.cy c).stop ≠ 2)) :
    d.cyQstop c = (0, (d.steered c (Convoy.stopping 2) cySTOPPING).cyInstall c) := by
  have h1 : ¬ (d.cyState c = cyFREE ∨ d.cyState c = cyENGAGED) := by obtain e | e | e | ⟨e, -⟩ := h <;> rw [e] <;> decide
  have h2 : ¬ (d.cyState c = cyIDLE ∨ (d.cyState c = cySTOPPING ∧ (d.cy c).stop = 2)) := by
    obtain e | e | e | ⟨e, hs⟩ := h <;> rw [e]
    case inr.inr.inr => simp [hs, cyIDLE, cySTOPPING]
    all_goals exact fun hn => hn.elim (by decide) fun hn => absurd hn.1 (by decide)
  exact (if_neg h1).trans (if_neg h2)

end ByState
end Machine

theorem pathConvoyHoldsAndStops : Claims.PathConvoyHoldsAndStops := by
  intro s c hr
  have hold : Orders (.cyHold c) s (Device.cyHold · c) := ⟨rfl, hr⟩
  have resume : Orders (.cyResume c) s (Device.cyResume · c) := ⟨rfl, hr⟩
  have stop : Orders (.cyStop c) s (Device.cyStop · c) := ⟨rfl, hr⟩
  have qstop : Orders (.cyQstop c) s (Device.cyQstop · c) := ⟨rfl, hr⟩
  refine ⟨fun h => hold.replans (Device.cyHold_running h) (by decide), fun h => hold.unchanged (Device.cyHold_idle h),
    fun h => hold.refused (Device.cyHold_busy h) (by decide), fun h => ⟨fun hb hf => ?_, fun hb hf => ?_, fun hb => ?_⟩,
    fun h1 h2 => resume.refused (Device.cyResume_busy h1 h2) (by decide), fun h => ⟨?_, ?_⟩,
    fun h => stop.unchanged (Device.cyStop_idle h), fun h hs => ?_,
    fun h => qstop.unchanged (Device.cyQstop_idle h),
    fun h => ⟨stop.refused (Device.cyStop_busy h) (by decide), qstop.refused (Device.cyQstop_busy h) (by decide)⟩⟩
  · have he := (Device.cyResume_held h).trans ((if_neg (by simp [hb])).trans (if_neg hf))
    exact resume.replans he (by decide)
  · exact resume.unchanged ((Device.cyResume_held h).trans ((if_neg (by simp [hb])).trans (if_pos hf)))
  · exact resume.refused ((Device.cyResume_held h).trans (if_pos hb)) (by decide)
  · exact stop.replans (Device.cyStop_underWay h) (by decide)
  · exact qstop.replans (Device.cyQstop_underWay (by tauto)) (by decide)
  · exact qstop.replans (Device.cyQstop_underWay (.inr (.inr (.inr ⟨h, hs⟩)))) (by decide)

namespace Machine

/-- A negative shadow limit of convoy `c` (R77). -/
def Device.cyNegative (d : Device) (c : Nat) : Prop :=
  d.rdS64 (GL_CY_VMAX c) < 0 ∨ d.rdS64 (GL_CY_AMAX c) < 0 ∨ d.rdS64 (GL_CY_DMAX c) < 0 ∨ d.rdS64 (GL_CY_QDEC c) < 0

/-- FEED as LIMITS takes it. -/
def Device.cyFeed (d : Device) (c : Nat) : Nat := min 2048 (d.get (GL_CY_FEED_FEED c))

/-- A convoy with limits, a feed and a blend in use. -/
def Convoy.limited (l : Limits) (feed blend : Nat) (v : Convoy) : Convoy := { v with lim := l, feed := feed, blend := blend }

/-- A limited convoy with a new plan. -/
theorem Convoy.limited_planned {l : Limits} {feed blend : Nat} {v : Convoy} {prof : Profile} {origin : Nat} :
    let w := { v.limited l feed blend with prof := prof, origin := origin }
    w.lim = l ∧ w.feed = feed ∧ w.blend = (v.limited l feed blend).blend ∧ w.segs = v.segs ∧ w.stop = v.stop ∧ w.origin = origin :=
  ⟨rfl, rfl, rfl, rfl, rfl, rfl⟩

/-- A convoy with the shadow limits, BLEND and FEED of the block in use. -/
def Device.cyTaken (d : Device) (c : Nat) : Convoy → Convoy :=
  Convoy.limited (shadowLimits d c) (d.cyFeed c) (q48Of (d.rdS64 (GL_CY_BLEND c))).toNat

section Limits
variable {d : Device} {c : Nat}

theorem Device.cyLimits_negative (h : d.cyNegative c) : d.cyLimits c = d.cyNo c 9 := if_pos h

/-- LIMITS without a negative limit. -/
theorem Device.cyLimits_nonnegative (h : ¬ d.cyNegative c) : d.cyLimits c =
    if (shadowLimits d c).zero ∧ d.cyState c ≠ cyFREE ∧ d.cyState c ≠ cyIDLE then d.cyNo c 9
    else if d.cyState c = cyRUNNING ∧ d.cyFeed c = 0 then
      (0, ((d.setCy c (d.cyTaken c)).steered c (Convoy.stopping 3) cyHOLDING).cyInstall c)
    else if d.cyState c = cyRUNNING ∨ d.cyState c = cyHOLDING ∨ d.cyState c = cySTOPPING then
      (0, (d.setCy c (d.cyTaken c)).cyInstall c)
    else (0, d.setCy c (d.cyTaken c)) := if_neg h

theorem Device.cyLimits_zero (h : ¬ d.cyNegative c) (hz : (shadowLimits d c).zero = true) (h1 : d.cyState c ≠ cyFREE)
    (h2 : d.cyState c ≠ cyIDLE) : d.cyLimits c = d.cyNo c 9 :=
  (Device.cyLimits_nonnegative h).trans (if_pos ⟨hz, h1, h2⟩)

theorem Device.cyLimits_atRest (h : ¬ d.cyNegative c) (hst : d.cyState c = cyFREE ∨ d.cyState c = cyIDLE ∨
    ((shadowLimits d c).zero = false ∧ (d.cyState c = cyHELD ∨ d.cyState c = cyENGAGED))) :
    d.cyLimits c = (0, d.setCy c (d.cyTaken c)) := by
  have h1 : ¬ ((shadowLimits d c).zero ∧ d.cyState c ≠ cyFREE ∧ d.cyState c ≠ cyIDLE) := by
    rintro ⟨hz, hf, hi⟩
    obtain e | e | ⟨e, -⟩ := hst
    · exact hf e
    · exact hi e
    · exact Bool.false_ne_true (e.symm.trans hz)
  have h2 : d.cyState c ≠ cyRUNNING ∧ d.cyState c ≠ cyHOLDING ∧ d.cyState c ≠ cySTOPPING := by
    obtain e | e | ⟨-, e | e⟩ := hst <;> rw [e] <;> decide
  rw [Device.cyLimits_nonnegative h, if_neg h1, if_neg (by tauto), if_neg (by tauto)]

theorem Device.cyLimits_underWay (h : ¬ d.cyNegative c) (hz : (shadowLimits d c).zero = false)
    (hst : d.cyState c = cyHOLDING ∨ d.cyState c = cySTOPPING ∨ (d.cyState c = cyRUNNING ∧ d.cyFeed c ≠ 0)) :
    d.cyLimits c = (0, (d.setCy c (d.cyTaken c)).cyInstall c) := by
  have h2 : ¬ (d.cyState c = cyRUNNING ∧ d.cyFeed c = 0) := by
    rintro ⟨hs, hf⟩
    obtain e | e | ⟨-, e⟩ := hst
    · exact absurd (e.symm.trans hs) (by decide)
    · exact absurd (e.symm.trans hs) (by decide)
    · exact e hf
  rw [Device.cyLimits_nonnegative h, if_neg (by simp [hz]), if_neg h2, if_pos (by tauto)]

/-- A FEED of 0 on a running path is a HOLD (R77). -/
theorem Device.cyLimits_halting (h : ¬ d.cyNegative c) (hz : (shadowLimits d c).zero = false) (hst : d.cyState c = cyRUNNING)
    (hf : d.cyFeed c = 0) :
    d.cyLimits c = (0, ((d.setCy c (d.cyTaken c)).steered c (Convoy.stopping 3) cyHOLDING).cyInstall c) := by
  rw [Device.cyLimits_nonnegative h, if_neg (by simp [hz]), if_pos ⟨hst, hf⟩]

/-- A convoy without segments, at rest where s is. -/
def Convoy.flushed (v : Convoy) : Convoy :=
  { v with segs := [], prev := none, stop := 0, sEnd := v.next.q48.toNat, prof := restAt v.next.p3 }

/-- The block with the queue of convoy `c` emptied and the convoy IDLE. -/
def Device.cyFlushed (d : Device) (c : Nat) : Device :=
  ((d.setCy c Convoy.flushed).livePut (GL_CY_STATUS_QUEUE_FILL c) 0).setCyState c cyIDLE

theorem Device.cyFlush_atRest (h : d.cyState c = cyIDLE ∨ d.cyState c = cyHELD) : d.cyFlush c = (0, d.cyFlushed c) := if_pos h

theorem Device.cyFlush_moving (h1 : d.cyState c ≠ cyIDLE) (h2 : d.cyState c ≠ cyHELD) : d.cyFlush c = d.cyNo c 6 :=
  if_neg (by tauto)

theorem Device.cy_cyFlushed : (d.cyFlushed c).cy c = (d.cy c).flushed := d.cy_setCy_same c _

theorem Device.cyState_cyFlushed : (d.cyFlushed c).cyState c = cyIDLE := Device.cyState_setCyState_same _ c cyIDLE (by decide)

theorem Device.fill_cyFlushed : (d.cyFlushed c).liveGet (GL_CY_STATUS_QUEUE_FILL c) = 0 := by
  refine (Device.liveGet_livePut_bits _ (GL_CY_STATUS_STATE c) _ _ ?_ ?_).trans (Device.liveGet_livePut_same _ _ 0 ?_) <;>
    simp only [GL_CY_STATUS_STATE, GL_CY_STATUS_QUEUE_FILL] <;> decide

theorem Device.rest_cyFlushed : { d.cyFlushed c with convoys := d.convoys, live := d.live } = d := by
  have hput : ∀ (x : Device) (f : Fld) (v : Nat), { x.livePut f v with convoys := d.convoys, live := d.live } =
      { x with convoys := d.convoys, live := d.live } := fun _ _ _ => rfl
  exact (hput _ _ _).trans ((hput (d.setCy c Convoy.flushed) _ _).trans rfl)

theorem Device.otherConvoys_cyFlushed : otherConvoys d (d.cyFlushed c) c := by
  refine fun i hi => ⟨d.cy_setCy_other c _ hi, (Device.cyState_setCyState_other _ c cyIDLE hi).trans ?_⟩
  refine Device.liveGet_livePut_addr (d.setCy c Convoy.flushed) (GL_CY_STATUS_QUEUE_FILL c) _ 0 ?_
  simp only [GL_CY_STATUS_STATE, GL_CY_STATUS_QUEUE_FILL, GL_CY_STATUS]
  omega

end Limits

section LimitsTaken
variable {s : State} {c : Fin 32} (h : Orders (.cyLimits c) s (Device.cyLimits · c)) (hneg : ¬ s.dev.cyNegative c)
include h hneg

/-- LIMITS on a convoy with no plan of s under way. -/
theorem Orders.limitsAtRest (hst : s.dev.cyState c = cyFREE ∨ s.dev.cyState c = cyIDLE ∨
    ((shadowLimits s.dev c).zero = false ∧ (s.dev.cyState c = cyHELD ∨ s.dev.cyState c = cyENGAGED))) :
    leads (.cyLimits c) s (fun d => d.cy c = s.dev.cyTaken c (s.dev.cy c) ∧ otherConvoys s.dev d c ∧
      { d with convoys := s.dev.convoys } = s.dev) :=
  h.leads_to (Device.cyLimits_atRest hneg hst) rfl ⟨s.dev.cy_setCy_same c _, s.dev.otherConvoys_setCy c _, rfl⟩

/-- LIMITS that re-plans a path. -/
theorem Orders.limitsUnderWay (hz : (shadowLimits s.dev c).zero = false) (hst : s.dev.cyState c = cyHOLDING ∨
    s.dev.cyState c = cySTOPPING ∨ (s.dev.cyState c = cyRUNNING ∧ s.dev.cyFeed c ≠ 0)) :
    leads (.cyLimits c) s (fun d => (d.cy c).lim = shadowLimits s.dev c ∧ (d.cy c).feed = s.dev.cyFeed c ∧
      (d.cy c).blend = (s.dev.cyTaken c (s.dev.cy c)).blend ∧ (d.cy c).segs = (s.dev.cy c).segs ∧ (d.cy c).stop = (s.dev.cy c).stop ∧
      (d.cy c).origin = s.dev.clk.beat + 1 ∧ d.cyState c = s.dev.cyState c ∧ otherConvoys s.dev d c) := by
  have hi := (s.dev.setCy c (s.dev.cyTaken c)).pathInstalled_cyInstall c c.isLt
  have hst' := hi.state.trans (s.dev.cyState_setCy c (s.dev.cyTaken c) c)
  refine h.leads_to (Device.cyLimits_underWay hneg hz hst) hi.clk ?_
  rw [hi.own, Device.cy_setCy_same]
  obtain ⟨hl, hfeed, hblend, hsegs, hstop, horigin⟩ := Convoy.limited_planned (v := s.dev.cy c)
  exact ⟨hl, hfeed, hblend, hsegs, hstop, horigin, hst', otherConvoys_trans (s.dev.otherConvoys_setCy c _) hi.others⟩

/-- LIMITS with a FEED of 0 on a running path. -/
theorem Orders.limitsHalting (hz : (shadowLimits s.dev c).zero = false) (hst : s.dev.cyState c = cyRUNNING)
    (hf : s.dev.cyFeed c = 0) :
    leads (.cyLimits c) s (fun d => (d.cy c).lim = shadowLimits s.dev c ∧ (d.cy c).feed = 0 ∧ (d.cy c).stop = 3 ∧
      d.cyState c = cyHOLDING ∧ (d.cy c).origin = s.dev.clk.beat + 1 ∧ otherConvoys s.dev d c) := by
  let d1 := s.dev.setCy c (s.dev.cyTaken c)
  have hi := (d1.steered c (Convoy.stopping 3) cyHOLDING).pathInstalled_cyInstall c c.isLt
  have hst' := (d1.setCy c (Convoy.stopping 3)).cyState_setCyState_same c cyHOLDING (by decide)
  have hothers := otherConvoys_trans (s.dev.otherConvoys_setCy c (s.dev.cyTaken c))
    (otherConvoys_trans (d1.otherConvoys_steered c (Convoy.stopping 3) cyHOLDING) hi.others)
  refine h.leads_to (Device.cyLimits_halting hneg hz hst hf) hi.clk ?_
  rw [hi.own, Device.cy_steered_same, Device.cy_setCy_same]
  exact ⟨rfl, hf, rfl, hi.state.trans hst', rfl, hothers⟩

end LimitsTaken
end Machine

theorem convoyLimitsAndFlush : Claims.ConvoyLimitsAndFlush := by
  intro s c hr
  have limits : Orders (.cyLimits c) s (Device.cyLimits · c) := ⟨rfl, hr⟩
  have flush : Orders (.cyFlush c) s (Device.cyFlush · c) := ⟨rfl, hr⟩
  refine ⟨fun hneg => limits.refused (Device.cyLimits_negative hneg) (by decide),
    fun hneg hz h1 h2 => limits.refused (Device.cyLimits_zero hneg hz h1 h2) (by decide), limits.limitsAtRest,
    limits.limitsUnderWay, limits.limitsHalting, fun h => ?_,
    fun h1 h2 => flush.refused (Device.cyFlush_moving h1 h2) (by decide)⟩
  refine flush.leads_to (Device.cyFlush_atRest h) rfl ?_
  rw [Device.cy_cyFlushed]
  exact ⟨rfl, rfl, Device.cyState_cyFlushed, rfl, Device.fill_cyFlushed, Device.otherConvoys_cyFlushed, Device.rest_cyFlushed⟩

/-- Settles O28: each command of a convoy is taken by the convoy's state, and those that re-plan s put one plan in force, which
squashes the road of the members and of what moves with them. -/
theorem convoysHoldStopAndLimit : Obligations.ConvoysHoldStopAndLimit := ⟨pathConvoyHoldsAndStops, convoyLimitsAndFlush⟩

end Sys2Proof
end

section
/-! Step generators (R92–R96): what the edge of a step leaves of the block, a write of ST_MODE, and the emission of one step. -/

namespace Sys2Proof

open Sys2Proof.Machine

namespace Machine

/-! ### Words and pairs read back -/

theorem Device.rdN_wrN_same (d : Device) (a : Nat) {n : Nat} (h : n < 2 ^ 32) : (d.wrN a n).rdN a = n := by
  rw [Device.rdN, Device.wrN, Device.rd_wr_same, BitVec.toNat_ofNat, Nat.mod_eq_of_lt h]

/-- A field of a register just set to a number. -/
theorem Device.get_wrN_same (d : Device) (f : Fld) {n : Nat} (h : n < 2 ^ 32) : (d.wrN f.addr n).get f = bits n f.lo f.width := by
  rw [Device.get, Device.wrN, Device.rd_wr_same, BitVec.toNat_ofNat, Nat.mod_eq_of_lt h]

theorem ofS_lt (w : Nat) (i : Int) : ofS w i < 2 ^ w := by
  have hpos : (0 : Int) < ((2 ^ w : Nat) : Int) := by positivity
  have := Int.emod_nonneg i hpos.ne'
  have := Int.emod_lt_of_pos i hpos
  unfold ofS
  omega

/-- A pair just set to an integer. -/
theorem Device.rdS64_wrS64_same (d : Device) (a : Nat) (i : Int) : (d.wrS64 a i).rdS64 a = toS 64 (ofS 64 i) := by
  have h := ofS_lt 64 i
  have hlo : (d.wrS64 a i).rd a = BitVec.ofNat 32 (ofS 64 i) := by
    rw [Device.wrS64, Device.wr64, Device.wrN, Device.rd_wr_other _ _ _ _ (by omega), Device.wrN, Device.rd_wr_same]
  have hhi : (d.wrS64 a i).rd (a + 4) = BitVec.ofNat 32 (ofS 64 i / 2 ^ 32) := Device.rd_wr_same _ _ _
  rw [Device.rdS64, Device.rd64, hlo, hhi, BitVec.toNat_ofNat, BitVec.toNat_ofNat]
  congr 1
  omega

end Machine

theorem sameRegs.rdS64 {d e : Device} {A : Nat → Prop} (h : sameRegs d e A) {a : Nat} (ha : ¬ A a) (ha4 : ¬ A (a + 4)) :
    e.rdS64 a = d.rdS64 a := by
  simp only [Device.rdS64, Device.rd64, h a ha, h (a + 4) ha4]

namespace Machine

/-! ### What an edge leaves alone (R214, R227) -/

/-- The registers that milestones, latch units and queues write. -/
def edgeReg (a : Nat) : Prop := msReg a ∨ (0xC6000 ≤ a ∧ a < 0xC6400)

/-- A change of milestones, latch units, queues and reports: the step generators and every other register stay. -/
structure EdgeOnly (d e : Device) : Prop where
  gens : e.gens = d.gens
  regs : sameRegs d e edgeReg

namespace EdgeOnly
variable {d e f : Device}

theorem refl (d : Device) : EdgeOnly d d := ⟨rfl, .refl d _⟩

theorem trans (h : EdgeOnly d e) (g : EdgeOnly e f) : EdgeOnly d f := ⟨g.gens.trans h.gens, h.regs.trans g.regs⟩

theorem ite {p : Prop} [Decidable p] (h : EdgeOnly d e) (g : EdgeOnly d f) : EdgeOnly d (if p then e else f) := by
  split <;> assumption

theorem foldl {α : Type} {h : Device → α → Device} (l : List α) (hl : ∀ d, ∀ x ∈ l, EdgeOnly d (h d x)) :
    ∀ d, EdgeOnly d (l.foldl h d) := by
  induction l with
  | nil => exact refl
  | cons x l ih =>
    intro d
    exact (hl d x (List.mem_cons_self ..)).trans (ih (fun b y hy => hl b y (List.mem_cons_of_mem _ hy)) _)

theorem put (d : Device) (g : Fld) (v : Nat) (h : edgeReg g.addr) : EdgeOnly d (d.put g v) := ⟨rfl, .put d g v _ h⟩

theorem wr64 (d : Device) (a n : Nat) (h : edgeReg a) (h4 : edgeReg (a + 4)) : EdgeOnly d (d.wr64 a n) := ⟨rfl, .wr64 d a n _ h h4⟩

theorem withClk (d : Device) (c : Clock) : EdgeOnly d { d with clk := c } := ⟨rfl, .regs _ rfl⟩

theorem of_ms (hu : unitsButMiles e = unitsButMiles d) (hr : sameRegs d e msReg) : EdgeOnly d e := by
  have hgens := congrArg Device.gens hu
  exact ⟨hgens, hr.mono fun _ => .inl⟩

/-- A register of a milestone. -/
theorem msReg_lt {m o : Nat} (hm : m < 16) (ho : o < 0x40) : edgeReg (0xC5000 + o + 0x40 * m) :=
  .inl (msReg_of_block hm (by omega) (by omega))

/-- A register of a latch unit. -/
theorem ltReg_lt {u o : Nat} (hu : u < 16) (ho : o < 0x40) : edgeReg (0xC6000 + o + 0x40 * u) := .inr (by omega)

section Latch
variable {u : Nat} (hu : u < 16)
include hu

theorem setLt (d : Device) (f : Latch → Latch) : EdgeOnly d (d.setLt u f) :=
  trans (e := { d with latches := d.latches.upd {} u f }) ⟨rfl, .regs _ rfl⟩
    ((put _ (LT_STATUS_ARMED u) _ (ltReg_lt hu (o := 0xC) (by decide))).trans
      (put _ (LT_STATUS_PENDING u) _ (ltReg_lt hu (o := 0xC) (by decide))))

theorem ltEdge (d : Device) (falling : Bool) (age : Nat) : EdgeOnly d (d.ltEdge u falling age) := by
  unfold Device.ltEdge
  refine ite (refl d) ?_
  extract_lets st d0 vals
  have h0 : EdgeOnly d d0 :=
    (wr64 d (LT_LAST u) st (ltReg_lt hu (o := 0x1C) (by decide)) (.inr (by simp only [LT_LAST]; omega))).trans (setLt hu _ _)
  refine ite ?_ (h0.trans (setLt hu _ _))
  have hdrop : EdgeOnly d0 (d0.incSat (LT_DROP_DROPPED u)) := put _ (LT_DROP_DROPPED u) _ (ltReg_lt hu (o := 0x18) (by decide))
  exact h0.trans (hdrop.trans ((put _ (LT_EVENT_DROPPED u) 1 (ltReg_lt hu (o := 0x10) (by decide))).trans (setLt hu _ _)))

end Latch

theorem ltSource (d : Device) (kind id : Nat) (falling : Bool) (age : Nat) : EdgeOnly d (d.ltSource kind id falling age) :=
  foldl _ (fun b _ hu => ltEdge (List.mem_range.mp (List.mem_of_mem_filter hu)) b falling _) d

section Milestone
variable {m : Nat} (hm : m < 16)
include hm

theorem setMs (d : Device) (f : Milestone → Milestone) : EdgeOnly d (d.setMs m f) :=
  of_ms (unitsButMiles_setMs d m f) (sameRegs_setMs d hm f)

theorem msEvent (d : Device) (kind : Nat) (e : MsEntry) (stamp : Nat) (l sm mg : Bool) : EdgeOnly d (d.msEvent m kind e stamp l sm mg) :=
  of_ms (unitsButMiles_msEvent d m kind e stamp l sm mg) (sameRegs_msEvent d hm kind e stamp l sm mg)

theorem raiseEvent (d : Device) (g : Fld) (hg : g.addr = MS_EVENT m) : EdgeOnly d (d.raise g) :=
  put d g 1 (hg ▸ msReg_lt hm (o := 0x14) (by decide))

theorem msDrop (d : Device) (seq : Nat) : EdgeOnly d (d.msDrop m seq) := by
  unfold Device.msDrop
  extract_lets s l d1 d2
  have h1 : EdgeOnly d d1 := setMs hm d _
  have h2 : EdgeOnly d d2 := ite (h1.trans (raiseEvent hm _ (MS_EVENT_LOW m) rfl)) h1
  exact ite (h2.trans (raiseEvent hm _ (MS_EVENT_EMPTY m) rfl)) h2

theorem msPulse (d : Device) : EdgeOnly d (d.msPulse m) := by
  unfold Device.msPulse
  extract_lets d1
  have h1 : EdgeOnly d d1 := setMs hm d _
  have hlast : EdgeOnly d1 (d1.wr64 (MS_LAST m) d1.stamp) :=
    wr64 _ _ _ (msReg_lt hm (o := 0x30) (by decide)) (.inl (msReg_of_block hm (by simp only [MS_LAST]; omega) (by simp only [MS_LAST]; omega)))
  exact h1.trans (hlast.trans ((put _ (MS_FIRED_COUNT m) _ (msReg_lt hm (o := 0x1C) (by decide))).trans (ltSource _ 3 m false 0)))

theorem msFire (d : Device) (e : MsEntry) (falling late sampled verify : Bool) :
    EdgeOnly d (d.msFire m e falling late sampled verify) := by
  unfold Device.msFire
  extract_lets merged d1 d2 d3
  have h1 : EdgeOnly d d1 := (msPulse hm d).trans (raiseEvent hm _ (MS_EVENT_FIRED m) rfl)
  have h2 : EdgeOnly d d2 := ite (h1.trans (raiseEvent hm _ (MS_EVENT_LATE m) rfl)) h1
  have h3 : EdgeOnly d d3 := ite (h2.trans (setMs hm _ _)) (ite (h2.trans (msEvent hm _ 1 e _ _ _ _)) h2)
  exact h3.trans (msDrop hm d3 e.seq)

theorem msArm (n : Nat) : ∀ d : Device, EdgeOnly d (d.msArm m n) := by
  induction n with
  | zero => exact refl
  | succ n ih =>
    intro d
    unfold Device.msArm
    refine ite (refl d) ?_
    split
    · exact refl d
    · next e es hl =>
      refine ite (ite ?_ ?_) (setMs hm d _)
      · exact (msFire hm d e _ _ _ _).trans (ih _)
      · exact ((msEvent hm d 2 e _ _ _ _).trans (msDrop hm _ _)).trans (ih _)

theorem msSchedule (d : Device) (e : MsEntry) (falling : Bool) (t : Int) (cross : Nat) (late : Bool) :
    EdgeOnly d (d.msSchedule m e falling t cross late) := ite (msFire hm d e _ _ _ _) (setMs hm d _)

theorem msExact (d : Device) : EdgeOnly d (d.msExact m) := by
  unfold Device.msExact
  refine ite (refl d) ?_
  extract_lets s
  split
  · exact ite ((msSchedule hm d _ _ _ _ _).trans (msArm hm _ _)) (refl d)
  · exact refl d

end Milestone

theorem msEdge (d : Device) : EdgeOnly d d.msEdge :=
  foldl _ (fun b _ hm => ite (refl b) (msExact (List.mem_range.mp hm) b)) d

end EdgeOnly

/-- Where no milestone is in use, an edge changes nothing. -/
theorem Device.msEdge_of_idle {d : Device} (h : ∀ m < 16, d.ms m = {}) : d.msEdge = d := by
  have hfold : ∀ l : List Nat, (∀ m ∈ l, m < 16) →
      l.foldl (fun (d : Device) m => if d.ms m = {} then d else d.msExact m) d = d := by
    intro l
    induction l with
    | nil => exact fun _ => rfl
    | cons m l ih =>
      intro hl
      rw [List.foldl_cons, if_pos (h m (hl m (List.mem_cons_self ..)))]
      exact ih fun x hx => hl x (List.mem_cons_of_mem _ hx)
  exact hfold _ fun m hm => List.mem_range.mp hm

end Machine
end Sys2Proof
end

section
/-! Step generators (R92–R96): a write of ST_MODE and the emission of one step. -/

namespace Sys2Proof

open Sys2Proof.Machine

namespace Machine

/-! ### A write of ST_MODE (R96) -/

/-- The lowest bit of a number replaced. -/
theorem setBit_zero (n : Nat) (b : Bool) : setBit n 0 b = n / 2 * 2 + b2n b := by
  obtain h | h : n % 2 = 0 ∨ n % 2 = 1 := by omega
  all_goals
    cases b <;> simp only [setBit, bit, b2n, Nat.pow_zero, Nat.div_one, h] <;> simp <;> omega

/-- A generator whose velocity is zeroed at the next tick, without its staged command. -/
def StepGen.halted (q : StepGen) : StepGen := { q with stopNext := true, staged := false }

section Rules
variable (d : Device) (g : Nat) (f : StepGen → StepGen)

theorem Device.gen_setGen_same : (d.setGen g f).gen g = f (d.gen g) := Store.pick_upd_same d.gens {} g f

theorem Device.gen_setGen_other {i : Nat} (h : i ≠ g) : (d.setGen g f).gen i = d.gen i := Store.pick_upd_other d.gens {} g i f h

end Rules

section Mode
variable {d : Device} {g v : Nat}

/-- The word that ST_MODE takes with EN 1: MODE keeps its value. -/
def Device.modeWord (d : Device) (g v : Nat) : Nat := setBit (v % 16) 0 (d.has (ST_MODE_MODE g))

theorem Device.modeWord_eq : d.modeWord g v = v % 16 / 2 * 2 + d.get (ST_MODE_MODE g) := by
  have hlt : d.get (ST_MODE_MODE g) < 2 := d.get_lt _
  have hb : b2n (d.has (ST_MODE_MODE g)) = d.get (ST_MODE_MODE g) := by
    rw [Device.has]
    obtain h | h : d.get (ST_MODE_MODE g) = 0 ∨ d.get (ST_MODE_MODE g) = 1 := by omega
    all_goals simp [h, b2n]
  rw [Device.modeWord, setBit_zero, hb]

/-- The block with the word of a write of ST_MODE with EN 1 stored. -/
def Device.modeStored (d : Device) (g v : Nat) : Device := d.wrN (ST_MODE g) (d.modeWord g v)

theorem Device.stModeWrite_stopped (h : d.has (ST_MODE_EN g) = false) : d.stModeWrite g v = d.wrN (ST_MODE g) (v % 16) := by
  simp [Device.stModeWrite, h]

/-- EN of the word stored is EN of the word written. -/
theorem Device.bit_modeWord : bit (d.modeWord g v) 3 = bit v 3 := by
  have hlt : d.get (ST_MODE_MODE g) < 2 := d.get_lt _
  have hdiv : d.modeWord g v / 8 % 2 = v / 8 % 2 := by rw [Device.modeWord_eq]; omega
  simp only [bit, Nat.reducePow, hdiv]

theorem Device.stModeWrite_kept (h : d.has (ST_MODE_EN g) = true) (hv : bit v 3 = true) : d.stModeWrite g v = d.modeStored g v := by
  have hw := (d.bit_modeWord (g := g)).trans hv
  simp only [Device.modeWord] at hw
  simp only [Device.stModeWrite, h, if_true, hw, Bool.not_true, Bool.and_false, Bool.false_eq_true, if_false]
  rfl

theorem Device.stModeWrite_cleared (h : d.has (ST_MODE_EN g) = true) (hv : bit v 3 = false) :
    d.stModeWrite g v = ((d.modeStored g v).setGen g StepGen.halted).put (ST_STATUS_RUNNING g) 0 := by
  have hw := (d.bit_modeWord (g := g)).trans hv
  simp only [Device.modeWord] at hw
  simp only [Device.stModeWrite, h, if_true, hw, Bool.not_false, Bool.and_true]
  rfl

/-- The fields of ST_MODE after a write with EN 1: all but MODE are as written. -/
theorem Device.get_modeStored (d : Device) (g v : Nat) : (d.modeStored g v).get (ST_MODE_MODE g) = d.get (ST_MODE_MODE g) ∧
    (d.modeStored g v).get (ST_MODE_DIR_POL g) = bits v 2 1 ∧ (d.modeStored g v).get (ST_MODE_STEP_POL g) = bits v 1 1 ∧
    (d.modeStored g v).get (ST_MODE_EN g) = bits v 3 1 := by
  have hlt : d.get (ST_MODE_MODE g) < 2 := d.get_lt _
  have hword := d.modeWord_eq (g := g) (v := v)
  have hfield : ∀ lo w, (d.modeStored g v).get ⟨ST_MODE g, lo, w⟩ = bits (d.modeWord g v) lo w :=
    fun lo w => d.get_wrN_same ⟨ST_MODE g, lo, w⟩ (by omega)
  refine ⟨(hfield 0 1).trans ?_, (hfield 2 1).trans ?_, (hfield 1 1).trans ?_, (hfield 3 1).trans ?_⟩ <;>
    simp only [bits, hword] <;> omega

end Mode
end Machine

/-- A command that `onDev` gates completes with its effect where that keeps the clock. -/
theorem leads_onDev_of_clk {c : Instr} {s : State} {f : Device → Device} {P : Device → Prop} {e : Device}
    (hc : exec c s = .next (s.onDev f)) (hr : s.dev.inReset = false) (he : f s.dev = e) (hclk : e.clk = s.dev.clk) (hP : P e) :
    leads c s P := by
  refine leads_onDev c s f P hc hr ?_
  rw [Device.still_of_clk he hclk]
  exact hP

section Write
variable {s : State} {g : Fin 16} (v : BitVec 32) (hr : s.dev.inReset = false)
include hr

theorem leads_stModeWrite_stopped (hen : s.dev.has (ST_MODE_EN g) = false) : leads (.stModeWrite g v) s (fun d =>
    d.rdN (ST_MODE g) = v.toNat % 16 ∧ onlyRegs s.dev d (· = ST_MODE g)) := by
  exact leads_onDev_of_clk rfl hr (Device.stModeWrite_stopped hen) rfl ⟨s.dev.rdN_wrN_same _ (by omega), rfl, .wr _ _ _ _ rfl⟩

theorem leads_stModeWrite_running (hen : s.dev.has (ST_MODE_EN g) = true) : leads (.stModeWrite g v) s (fun d =>
    d.get (ST_MODE_MODE g) = s.dev.get (ST_MODE_MODE g) ∧ d.get (ST_MODE_DIR_POL g) = bits v.toNat 2 1 ∧
    d.get (ST_MODE_STEP_POL g) = bits v.toNat 1 1 ∧ d.get (ST_MODE_EN g) = bits v.toNat 3 1 ∧
    d.gen g = (if bit v.toNat 3 then s.dev.gen g else (s.dev.gen g).halted) ∧
    (bit v.toNat 3 = false → d.has (ST_STATUS_RUNNING g) = false) ∧
    (∀ i, i ≠ g.val → d.gen i = s.dev.gen i) ∧ sameRegs s.dev d (fun a => a = ST_MODE g ∨ a = ST_STATUS g)) := by
  have hstored : sameRegs s.dev (s.dev.modeStored g v.toNat) (fun a => a = ST_MODE g ∨ a = ST_STATUS g) := .wr _ _ _ _ (.inl rfl)
  cases hv : bit v.toNat 3 with
  | true =>
    obtain ⟨hmode, hdir, hstep, henw⟩ := s.dev.get_modeStored g v.toNat
    exact leads_onDev_of_clk rfl hr (Device.stModeWrite_kept hen hv) rfl
      ⟨hmode, hdir, hstep, henw, rfl, nofun, fun _ _ => rfl, hstored⟩
  | false =>
    let d1 := (s.dev.modeStored g v.toNat).setGen g StepGen.halted
    have hfield : ∀ f : Fld, f.addr = ST_MODE g → (d1.put (ST_STATUS_RUNNING g) 0).get f = (s.dev.modeStored g v.toNat).get f := by
      intro f hf
      refine d1.get_put_addr (ST_STATUS_RUNNING g) f 0 ?_
      rw [hf]
      simp only [ST_MODE, ST_STATUS_RUNNING, ST_STATUS]
      omega
    obtain ⟨hmode, hdir, hstep, henw⟩ := s.dev.get_modeStored g v.toNat
    refine leads_onDev_of_clk rfl hr (Device.stModeWrite_cleared hen hv) rfl ⟨(hfield _ rfl).trans hmode, (hfield _ rfl).trans hdir,
      (hfield _ rfl).trans hstep, (hfield _ rfl).trans henw, s.dev.gen_setGen_same g _, fun _ => ?_,
      fun i hi => s.dev.gen_setGen_other g _ hi, hstored.trans (sameRegs.trans (e := d1) (.regs _ rfl) (.put _ _ _ _ (.inr rfl)))⟩
    rw [Device.has, Device.get_put_same _ _ _ (by simp only [ST_STATUS_RUNNING]; decide)]
    rfl

end Write

namespace Machine

/-! ### The emission of one step (R94, R95) -/

/-- A generator that has emitted the oldest step due, at tick `now`, with a pulse of `w` ticks. -/
def StepGen.emits (now w : Nat) (c : Int) (q : StepGen) : StepGen :=
  { q with due := popDue q.due, lastStep := now, pulseEnd := now + w, stepped := true, emitted := keepEdges now ((now, c) :: q.emitted) }

/-- The step that DIRk shows: forward or back. -/
def StepGen.step (q : StepGen) : Int := if q.dirNext then 1 else -1

section Emit
variable {d : Device} {g : Nat}

/-- The registers that show a generator's count, velocity and status. -/
def genReg (g a : Nat) : Prop := a = ST_STATUS g ∨ a ∈ [ST_COUNT g, ST_COUNT g + 4, ST_VEL g, ST_VEL g + 4]

/-- The registers of a generator's velocity and status follow its state. -/
theorem Device.genShow_eq (d : Device) (g : Nat) : ∃ v c w, d.genShow g =
    ((d.wrS64 (ST_VEL g) v).put (ST_STATUS_RATE_CLAMP g) c).put (ST_STATUS_DIR_WAIT g) w := ⟨_, _, _, rfl⟩

theorem Device.sameRegs_genShow (d : Device) (g : Nat) :
    sameRegs d (d.genShow g) (fun a => a ∈ [ST_STATUS g, ST_VEL g, ST_VEL g + 4]) := by
  obtain ⟨v, c, w, h⟩ := d.genShow_eq g
  rw [h]
  exact (sameRegs.wr64 d (ST_VEL g) _ _ (by simp) (by simp)).trans ((sameRegs.put _ (ST_STATUS_RATE_CLAMP g) c _ (.head _)).trans
    (.put _ (ST_STATUS_DIR_WAIT g) w _ (.head _)))

/-- The block after generator `g` emitted one step. -/
def Device.emitted (d : Device) (g : Nat) : Device :=
  ((d.setGen g (StepGen.emits d.clk.now (d.genWidth g) (d.gen g).step)).wrS64 (ST_COUNT g)
    (d.rdS64 (ST_COUNT g) + (d.gen g).step)).genShow g

theorem Device.genEmit_none (h : (d.gen g).due = []) : d.genEmit g = d := if_pos (by simp [h])

theorem Device.genEmit_waits (h : (d.gen g).due ≠ []) (hw : d.genWaits g = true) : d.genEmit g = d.put (ST_STATUS_DIR_WAIT g) 1 :=
  (if_neg (by simp [h])).trans (if_pos hw)

theorem Device.genEmit_pulse (h : (d.gen g).due ≠ []) (hw : d.genWaits g = false)
    (hp : (d.gen g).stepped = true ∧ d.clk.now < (d.gen g).pulseEnd + d.genWidth g) : d.genEmit g = d :=
  (if_neg (by simp [h])).trans ((if_neg (by simp [hw])).trans (if_pos hp))

theorem Device.genEmit_step (h : (d.gen g).due ≠ []) (hw : d.genWaits g = false)
    (hp : ¬ ((d.gen g).stepped = true ∧ d.clk.now < (d.gen g).pulseEnd + d.genWidth g)) : d.genEmit g = d.emitted g :=
  (if_neg (by simp [h])).trans ((if_neg (by simp [hw])).trans (if_neg hp))

theorem Device.rest_genShow (d : Device) (g : Nat) (ge : Store StepGen) (re : Store (BitVec 32)) :
    { d.genShow g with gens := ge, regs := re } = { d with gens := ge, regs := re } := by
  obtain ⟨v, c, w, h⟩ := d.genShow_eq g
  rw [h]
  rfl

@[simp] theorem Device.gens_genShow (d : Device) (g : Nat) : (d.genShow g).gens = d.gens := rfl

/-- Only generators and registers differ after the emission. -/
theorem Device.rest_emitted : { d.emitted g with gens := d.gens, regs := d.regs } = d := (Device.rest_genShow _ g _ _).trans rfl

theorem Device.clk_emitted : (d.emitted g).clk = d.clk := by
  obtain ⟨v, c, w, h⟩ := Device.genShow_eq ((d.setGen g (StepGen.emits d.clk.now (d.genWidth g) (d.gen g).step)).wrS64 (ST_COUNT g)
    (d.rdS64 (ST_COUNT g) + (d.gen g).step)) g
  rw [Device.emitted, h]
  rfl

theorem Device.gens_emitted :
    (d.emitted g).gens = (d.setGen g (StepGen.emits d.clk.now (d.genWidth g) (d.gen g).step)).gens := Device.gens_genShow _ g

theorem Device.count_emitted : (d.emitted g).rdS64 (ST_COUNT g) = toS 64 (ofS 64 (d.rdS64 (ST_COUNT g) + (d.gen g).step)) := by
  refine ((Device.sameRegs_genShow _ g).rdS64 ?_ ?_).trans (Device.rdS64_wrS64_same _ _ _) <;>
    simp only [ST_COUNT, ST_STATUS, ST_VEL, List.mem_cons, List.not_mem_nil, or_false] <;> omega

theorem Device.sameRegs_emitted : sameRegs d (d.emitted g) (genReg g) := by
  refine (sameRegs.wr64 (d.setGen g _) (ST_COUNT g) _ _ (.inr (by simp)) (.inr (by simp))).trans
    ((Device.sameRegs_genShow _ g).mono fun a ha => ?_)
  simp only [genReg, List.mem_cons] at ha ⊢
  tauto

/-- A generator's own registers are none of those that an edge writes. -/
theorem not_edgeReg {g o : Nat} (hg : g < 16) (ho : o < 0x40) : ¬ edgeReg (0xC4000 + o + 0x40 * g) := by
  simp only [edgeReg, msReg, queueReg]
  omega

end Emit
end Machine

section Emission
variable {s : State} {g : Fin 16}

/-- STEP_EMIT is the emission and then the edge that milestones see. -/
theorem leads_stepEmit {P : Device → Prop} {e : Device} (hr : s.dev.inReset = false) (he : s.dev.genEmit g = e)
    (hclk : e.clk = s.dev.clk) (hP : ∀ f : Device, EdgeOnly e f → ((∀ m < 16, e.ms m = {}) → f = e) → P f) :
    leads (.stepEmit g) s P := by
  have hstill : (s.dev.still fun d => (d.genEmit g).msEdge) = { e.msEdge with clk := s.dev.clk } := by simp only [Device.still, he]
  refine leads_onDev _ s _ _ rfl hr ?_
  rw [hstill]
  refine hP _ ((EdgeOnly.msEdge e).trans (.withClk _ _)) fun h => ?_
  rw [Device.msEdge_of_idle h, ← hclk]

end Emission

theorem stepGeneratorsEmitDueSteps : Claims.StepGeneratorsEmitDueSteps := by
  intro s g hr
  refine ⟨fun v => leads_stModeWrite_stopped v hr, fun v => leads_stModeWrite_running v hr, fun hdue => ?_, fun hdue hw => ?_,
    fun hdue hw hp => ?_, fun hdue hw hp => ?_⟩
  · exact leads_stepEmit hr (Device.genEmit_none hdue) rfl fun f hf hidle => ⟨hf.gens, hidle⟩
  · refine leads_stepEmit hr (Device.genEmit_waits hdue hw) rfl fun f hf hidle => ⟨?_, hf.gens, fun h => ?_⟩
    · rw [Device.has, hf.regs.get (not_edgeReg g.isLt (o := 8) (by decide)),
        Device.get_put_same _ _ _ (by simp only [ST_STATUS_DIR_WAIT]; decide)]
      rfl
    · rw [hidle h]
      exact ⟨rfl, .put _ _ _ _ rfl⟩
  · exact leads_stepEmit hr (Device.genEmit_pulse hdue hw hp) rfl fun f hf hidle => ⟨hf.gens, hidle⟩
  · refine leads_stepEmit hr (Device.genEmit_step hdue hw hp) Device.clk_emitted fun f hf hidle => ⟨?_, ?_, fun i hi => ?_, fun h => ?_⟩
    · have hcount : ¬ edgeReg (ST_COUNT g + 4) := by
        simpa only [ST_COUNT, Nat.add_right_comm] using not_edgeReg g.isLt (o := 0x14) (by decide)
      exact (hf.regs.rdS64 (a := ST_COUNT g) (not_edgeReg g.isLt (o := 0x10) (by decide)) hcount).trans Device.count_emitted
    · rw [Device.gen, hf.gens, Device.gens_emitted]
      exact s.dev.gen_setGen_same g _
    · rw [Device.gen, hf.gens, Device.gens_emitted]
      exact s.dev.gen_setGen_other g _ hi
    · rw [hidle h]
      exact ⟨Device.rest_emitted, Device.sameRegs_emitted⟩

end Sys2Proof
end

section
/-! A write of GL_GP_CTRL (R89, R91): when a pair is bound, when it is refused, and what becomes of the twin that was bound. -/

namespace Sys2Proof

open Sys2Proof.Machine
open Claims (onlyShown)

namespace Machine

section Rules
variable (d : Device)

theorem Device.plState_setPlState_other (k st : Nat) {j : Nat} (h : j ≠ k) : (d.setPlState k st).plState j = d.plState j := by
  refine d.liveGet_livePut_addr (AX_PL_STATUS_STATE k) (AX_PL_STATUS_STATE j) st ?_
  simp only [AX_PL_STATUS_STATE, AX_PL_STATUS]
  omega

/-- An axis's convoy and slot are told by the convoys' states and members. -/
theorem Device.cyOf_congr {d e : Device} (hs : ∀ c < 32, e.cyState c = d.cyState c) (hm : ∀ c < 32, e.cyMembers c = d.cyMembers c)
    (k : Nat) : e.cyOf k = d.cyOf k := by
  have hfind : ∀ l : List Nat, (∀ c ∈ l, c < 32) → ∀ {f g : Nat → Option (Nat × Nat)}, (∀ c < 32, f c = g c) →
      l.findSome? f = l.findSome? g := by
    intro l hl f g hfg
    induction l with
    | nil => rfl
    | cons c l ih =>
      rw [List.findSome?_cons, List.findSome?_cons, hfg c (hl c (List.mem_cons_self ..)), ih fun x hx => hl x (List.mem_cons_of_mem _ hx)]
  exact hfind _ (fun c hc => List.mem_range.mp hc) fun c hc => by rw [hs c hc, hm c hc]

/-- Of no pair is axis `k` the twin. -/
theorem Device.gpTwin_eq_none_iff (k : Nat) : d.gpTwin k = none ↔
    ∀ h < 16, d.has (GL_GP_CTRL_EN h) = true → d.get (GL_GP_CTRL_TWIN h) ≠ k := by
  simp only [Device.gpTwin, List.find?_eq_none, List.mem_range, Bool.and_eq_true, beq_iff_eq, not_and, ne_eq]

end Rules

/-! ### The axes of a pair (R91) -/

section Pair
variable (d : Device) (g v : Nat)

/-- Is axis `k` OFF or IDLE, or the twin that pair `g` binds? -/
def Device.gpFree (k : Nat) : Prop :=
  (191 < k ∨ d.plState k = plOFF ∨ d.plState k = plIDLE) ∨ (d.has (GL_GP_CTRL_EN g) = true ∧ k = d.get (GL_GP_CTRL_TWIN g))

/-- May pair `g` be written: it binds none, or the primary that it binds is free? -/
def Device.gpMay : Prop := d.has (GL_GP_CTRL_EN g) = true → d.gpFree g (d.get (GL_GP_CTRL_PRIMARY g))

/-- Do the axes of the word `v` make a pair: two axes that are free? -/
def Device.gpPair : Prop :=
  bits v 0 8 < 192 ∧ bits v 8 8 < 192 ∧ bits v 0 8 ≠ bits v 8 8 ∧ d.gpFree g (bits v 0 8) ∧ d.gpFree g (bits v 8 8)

/-- The block with the word `v` in GL_GP_CTRL. -/
def Device.gpStored : Device := d.wrN (GL_GP_CTRL g) (v % 2 ^ 17)

/-- The block with the word `v` stored and the twin that was bound let go. -/
def Device.gpLoosed : Device :=
  if d.has (GL_GP_CTRL_EN g) then (d.gpStored g v).gpRelease (d.get (GL_GP_CTRL_TWIN g)) else d.gpStored g v

/-- The block with the word `v` stored, what was bound let go and the new twin following. -/
def Device.gpBound : Device :=
  if (d.gpLoosed g v).plState (bits v 8 8) = plOFF then d.gpLoosed g v else (d.gpLoosed g v).setPlState (bits v 8 8) plFOLLOWING

/-- The test of `gpWrite` for a free axis. -/
def Device.gpIsFree (k : Nat) : Bool :=
  decide (191 < k) || decide (d.plState k = plOFF) || decide (d.plState k = plIDLE) ||
    (d.has (GL_GP_CTRL_EN g) && decide (k = d.get (GL_GP_CTRL_TWIN g)))

variable {d g v}

theorem Device.gpIsFree_iff (k : Nat) : d.gpIsFree g k = true ↔ d.gpFree g k := by
  simp only [Device.gpIsFree, Bool.or_eq_true, Bool.and_eq_true, decide_eq_true_eq, Device.gpFree, or_assoc]

/-- The twin that a pair binds is free to be bound again, so its primary alone may stand in the way. -/
theorem Device.not_gpMay_iff : ¬ d.gpMay g ↔ d.has (GL_GP_CTRL_EN g) = true ∧
    ¬ (d.gpIsFree g (d.get (GL_GP_CTRL_PRIMARY g)) = true ∧ d.gpIsFree g (d.get (GL_GP_CTRL_TWIN g)) = true) := by
  have htwin : d.has (GL_GP_CTRL_EN g) = true → d.gpFree g (d.get (GL_GP_CTRL_TWIN g)) := fun h => .inr ⟨h, rfl⟩
  simp only [Device.gpIsFree_iff, Device.gpMay]
  tauto

theorem Device.not_gpPair_iff : ¬ d.gpPair g v ↔ ¬ (d.gpIsFree g (bits v 0 8) = true ∧ d.gpIsFree g (bits v 8 8) = true) ∨
    191 < bits v 0 8 ∨ 191 < bits v 8 8 ∨ bits v 0 8 = bits v 8 8 := by
  have hp : bits v 0 8 < 192 ↔ ¬ 191 < bits v 0 8 := by omega
  have ht : bits v 8 8 < 192 ↔ ¬ 191 < bits v 8 8 := by omega
  simp only [Device.gpIsFree_iff, Device.gpPair, hp, ht]
  tauto

section Cases
variable {zoneOf : Nat → Option Nat}

theorem Device.gpWrite_blocked (h : ¬ d.gpMay g) : d.gpWrite g v zoneOf = d := if_pos (Device.not_gpMay_iff.mp h)

theorem Device.gpWrite_unpaired (hv : bit v 16 = true) (h : ¬ d.gpPair g v) : d.gpWrite g v zoneOf = d := by
  by_cases hmay : d.gpMay g
  · exact (if_neg fun hn => Device.not_gpMay_iff.mpr hn hmay).trans ((if_pos hv).trans (if_pos (Device.not_gpPair_iff.mp h)))
  · exact Device.gpWrite_blocked hmay

theorem Device.gpWrite_paired (hv : bit v 16 = true) (hmay : d.gpMay g) (h : d.gpPair g v) : d.gpWrite g v zoneOf =
    if zoneOf (bits v 0 8) ≠ zoneOf (bits v 8 8) then d.raise (GL_GP_EVENT_ZONE_SPLIT g) else d.gpBound g v :=
  (if_neg fun hn => Device.not_gpMay_iff.mpr hn hmay).trans
    ((if_pos hv).trans (if_neg fun hn => Device.not_gpPair_iff.mpr hn h))

theorem Device.gpWrite_unbinds (hv : bit v 16 = false) (hmay : d.gpMay g) : d.gpWrite g v zoneOf = d.gpLoosed g v :=
  (if_neg fun hn => Device.not_gpMay_iff.mpr hn hmay).trans (if_neg (by simp [hv]))

end Cases

/-! ### The word stored, and the twin let go (R89) -/

/-- A field of the word stored. -/
theorem Device.get_gpStored (lo w : Nat) : (d.gpStored g v).get ⟨GL_GP_CTRL g, lo, w⟩ = bits (v % 2 ^ 17) lo w :=
  d.get_wrN_same ⟨GL_GP_CTRL g, lo, w⟩ (by omega)

theorem Device.sameRegs_gpStored : sameRegs d (d.gpStored g v) (· = GL_GP_CTRL g) := .wr _ _ _ _ rfl

theorem Device.rdN_gpStored : (d.gpStored g v).rdN (GL_GP_CTRL g) = v % 2 ^ 17 := d.rdN_wrN_same _ (by omega)

/-- No convoy's setting is in GL_GP_CTRL. -/
theorem Device.cyOf_gpStored (hg : g < 16) (k : Nat) : (d.gpStored g v).cyOf k = d.cyOf k := by
  refine Device.cyOf_congr (d := d) (e := d.gpStored g v) (fun _ _ => rfl) (fun c hc => List.filterMap_congr fun j hj => ?_) k
  have hj' := List.mem_range.mp hj
  have hget : ∀ f : Fld, f.addr = GL_CY_MSEL c j → (d.gpStored g v).get f = d.get f := by
    intro f hf
    refine d.sameRegs_gpStored.get ?_
    rw [hf]
    simp only [GL_CY_MSEL, GL_GP_CTRL]
    omega
  rw [Device.has, hget (GL_CY_MSEL_USED c j) rfl, hget (GL_CY_MSEL_AXIS c j) rfl]
  rfl

/-- The twin of pair `g` alone is no twin once the word names another, or none. -/
theorem Device.gpTwin_gpStored {k : Nat} (hg : g < 16)
    (hlone : ∀ h < 16, h ≠ g → d.has (GL_GP_CTRL_EN h) = true → d.get (GL_GP_CTRL_TWIN h) ≠ k)
    (hv : bit v 16 = true → bits v 8 8 ≠ k) : (d.gpStored g v).gpTwin k = none := by
  rw [Device.gpTwin_eq_none_iff]
  intro h hh hen
  by_cases hhg : h = g
  · subst hhg
    have htwin : (d.gpStored h v).get (GL_GP_CTRL_TWIN h) = bits v 8 8 := by
      refine (Device.get_gpStored 8 8).trans ?_
      simp only [bits]
      omega
    have hbit : bit v 16 = true := by
      rw [Device.has, show (d.gpStored h v).get (GL_GP_CTRL_EN h) = bits (v % 2 ^ 17) 16 1 from Device.get_gpStored 16 1] at hen
      simp only [bits, bit, beq_iff_eq] at hen ⊢
      omega
    rw [htwin]
    exact hv hbit
  · have hget : ∀ f : Fld, f.addr = GL_GP_CTRL h → (d.gpStored g v).get f = d.get f := by
      intro f hf
      refine d.sameRegs_gpStored.get ?_
      rw [hf]
      simp only [GL_GP_CTRL]
      omega
    rw [Device.has, hget (GL_GP_CTRL_EN h) rfl] at hen
    rw [hget (GL_GP_CTRL_TWIN h) rfl]
    exact hlone h hh hhg hen

/-- A twin that is bound no more, at rest at its commit point. -/
def Planner.released (beat : Nat) (p : Planner) : Planner := { p with prof := restAt p.next.p3, origin := beat + 1, mode := 0 }

/-- The block with axis `k` let go by its pair. -/
def Device.gpFreed (d : Device) (k : Nat) : Device := d.prepared k (Planner.released d.clk.beat) plIDLE

theorem Device.gpRelease_following {k : Nat} (hst : d.plState k = plFOLLOWING) (hcy : d.cyOf k = none) (hgp : d.gpTwin k = none) :
    d.gpRelease k = d.gpFreed k := if_pos ⟨hst, by rw [hcy]; rfl, by rw [hgp]; rfl⟩

theorem Device.gpLoosed_unbound (h : ¬ d.has (GL_GP_CTRL_EN g) = true) : d.gpLoosed g v = d.gpStored g v := if_neg h

/-- The twin that pair `g` alone binds is let go by a word that binds another, or none. -/
theorem Device.gpLoosed_bound (hg : g < 16) (h : d.has (GL_GP_CTRL_EN g) = true) (hst : d.plState (d.get (GL_GP_CTRL_TWIN g)) = plFOLLOWING)
    (hcy : d.cyOf (d.get (GL_GP_CTRL_TWIN g)) = none)
    (hlone : ∀ h < 16, h ≠ g → d.has (GL_GP_CTRL_EN h) = true → d.get (GL_GP_CTRL_TWIN h) ≠ d.get (GL_GP_CTRL_TWIN g))
    (hv : bit v 16 = true → bits v 8 8 ≠ d.get (GL_GP_CTRL_TWIN g)) :
    d.gpLoosed g v = (d.gpStored g v).gpFreed (d.get (GL_GP_CTRL_TWIN g)) :=
  (if_pos h).trans (Device.gpRelease_following hst ((Device.cyOf_gpStored hg _).trans hcy) (Device.gpTwin_gpStored hg hlone hv))

end Pair

/-! ### The twin that is bound -/

section Twin
variable (d : Device) (k : Nat)

/-- The block with axis `k` following, unless it is OFF. -/
def Device.bindTwin : Device := if d.plState k = plOFF then d else d.setPlState k plFOLLOWING

theorem Device.plState_bindTwin : (d.bindTwin k).plState k = if d.plState k = plOFF then plOFF else plFOLLOWING := by
  unfold Device.bindTwin
  split
  · assumption
  · exact d.plState_setPlState k plFOLLOWING (by decide)

theorem Device.liveGet_bindTwin (f : Fld) (h : f.addr ≠ AX_PL_STATUS k) : (d.bindTwin k).liveGet f = d.liveGet f := by
  unfold Device.bindTwin
  split
  · rfl
  · exact d.liveGet_livePut_addr (AX_PL_STATUS_STATE k) f plFOLLOWING h

theorem Device.plState_bindTwin_other {j : Nat} (h : j ≠ k) : (d.bindTwin k).plState j = d.plState j := by
  refine d.liveGet_bindTwin k _ ?_
  simp only [AX_PL_STATUS_STATE, AX_PL_STATUS]
  omega

theorem Device.rest_bindTwin : { d.bindTwin k with live := d.live } = d := by
  unfold Device.bindTwin
  split <;> rfl

theorem Device.regs_bindTwin : (d.bindTwin k).regs = d.regs := by
  unfold Device.bindTwin
  split <;> rfl

theorem Device.pl_bindTwin (j : Nat) : (d.bindTwin k).pl j = d.pl j := by
  unfold Device.bindTwin
  split <;> rfl

theorem Device.clk_bindTwin : (d.bindTwin k).clk = d.clk := by
  unfold Device.bindTwin
  split <;> rfl

theorem Device.plState_gpFreed : (d.gpFreed k).plState k = plIDLE := Device.plState_setPlState _ k plIDLE (by decide)

theorem Device.plState_gpFreed_other {j : Nat} (h : j ≠ k) : (d.gpFreed k).plState j = d.plState j :=
  Device.plState_setPlState_other _ k plIDLE h

theorem Device.pl_gpFreed : (d.gpFreed k).pl k = (d.pl k).released d.clk.beat := d.pl_prepared k _ plIDLE

theorem Device.pl_gpFreed_other {j : Nat} (h : j ≠ k) : (d.gpFreed k).pl j = d.pl j := d.pl_setPl_other k j _ h

end Twin
end Machine

theorem gantryPairsBindAtRest : Claims.GantryPairsBindAtRest := by
  intro s g v hr
  have run : ∀ {P : Device → Prop} {e : Device}, s.dev.gpWrite g v.toNat s.dev.tgZoneOf = e → e.clk = s.dev.clk → P e →
      leads (.gpCtrlWrite g v) s P := fun he hclk hP => leads_onDev_of_clk rfl hr he hclk hP
  refine ⟨fun hv hmay hpair hzone => ⟨fun hb => ?_, fun hb hst hlone hne => ?_⟩, fun hv hmay hpair hzone => ?_,
    fun hv hpair => run (Device.gpWrite_unpaired hv hpair) rfl rfl, fun hmay => run (Device.gpWrite_blocked hmay) rfl rfl,
    fun hb hmay hv hst hlone => ?_⟩
  · have he := (Device.gpWrite_paired (zoneOf := s.dev.tgZoneOf) hv hmay hpair).trans ((if_neg (not_not_intro hzone)).trans
      (congrArg (Device.bindTwin · (bits v.toNat 8 8)) (Device.gpLoosed_unbound hb)))
    obtain ⟨-, -, hkk, -, -⟩ := hpair
    let d1 := s.dev.gpStored g v.toNat
    refine run he (d1.clk_bindTwin _) ⟨?_, d1.plState_bindTwin _, d1.plState_bindTwin_other _ hkk, ?_, ?_, fun f hf => d1.liveGet_bindTwin _ f hf⟩
    · rw [Device.rdN, Device.rd, Device.regs_bindTwin]
      exact Device.rdN_gpStored
    · exact (congrArg (fun x : Device => { x with regs := s.dev.regs, live := s.dev.live }) (d1.rest_bindTwin _)).trans rfl
    · exact s.dev.sameRegs_gpStored.trans (.regs _ (d1.regs_bindTwin _))
  · obtain ⟨hcy, hother⟩ := hlone
    have he := (Device.gpWrite_paired (zoneOf := s.dev.tgZoneOf) hv hmay hpair).trans ((if_neg (not_not_intro hzone)).trans
      (congrArg (Device.bindTwin · (bits v.toNat 8 8)) (Device.gpLoosed_bound g.isLt hb hst hcy hother fun _ => Ne.symm hne)))
    let d1 := s.dev.gpStored g v.toNat
    let d2 := d1.gpFreed (s.dev.get (GL_GP_CTRL_TWIN g))
    refine run he (d2.clk_bindTwin _) ⟨?_, ?_, ?_, ?_, fun j hj => ?_⟩
    · rw [Device.rdN, Device.rd, Device.regs_bindTwin]
      exact Device.rdN_gpStored
    · refine (d2.plState_bindTwin _).trans ?_
      rw [d1.plState_gpFreed_other _ (Ne.symm hne)]
      rfl
    · exact (d2.plState_bindTwin_other _ hne).trans (d1.plState_gpFreed _)
    · rw [Device.pl_bindTwin, Device.pl_gpFreed]
      rfl
    · rw [Device.pl_bindTwin]
      exact d1.pl_gpFreed_other _ hj
  · refine run ((Device.gpWrite_paired hv hmay hpair).trans (if_pos hzone)) rfl ⟨?_, rfl, .put _ _ _ _ rfl⟩
    rw [Device.has, Device.raise, Device.get_put_same _ _ _ (by simp only [GL_GP_EVENT_ZONE_SPLIT]; decide)]
    rfl
  · obtain ⟨hcy, hother⟩ := hlone
    have he := (Device.gpWrite_unbinds (zoneOf := s.dev.tgZoneOf) hv hmay).trans
      (Device.gpLoosed_bound g.isLt hb hst hcy hother fun h => absurd (hv.symm.trans h) (by decide))
    let d1 := s.dev.gpStored g v.toNat
    refine run he rfl ⟨?_, d1.plState_gpFreed _, ?_, fun j hj => d1.pl_gpFreed_other _ hj⟩
    · have hen : d1.get (GL_GP_CTRL_EN g) = 0 := by
        refine (Device.get_gpStored 16 1).trans ?_
        simp only [bit, beq_eq_false_iff_ne] at hv
        simp only [bits]
        omega
      exact beq_eq_false_iff_ne.mpr (hen ▸ by decide)
    · rw [Device.pl_gpFreed]
      rfl

/-- Settles O29: a write of GL_GP_CTRL is one of five outcomes by the axes of the pair, and the emission of a step is followed by
the edge that milestones and latch units see, which leaves the generators and their registers alone. -/
theorem gantryPairsAndStepGenerators : Obligations.GantryPairsAndStepGenerators := ⟨gantryPairsBindAtRest, stepGeneratorsEmitDueSteps⟩

end Sys2Proof
end

section
/-! FORM of a convoy (R65, R66) against its statement, whose "every other convoy" ranges over all numbers. -/

namespace Sys2Proof

open Sys2Proof.Machine

namespace Machine

/-- The convoy number whose status register, by the address arithmetic of the register map, is AX_PL_STATUS of axis `k`.  No convoy
has it: there are 32. -/
def aliasConvoy (k : Nat) : Nat := 0xFF1 + 4 * k

theorem cyStatus_aliasConvoy (k : Nat) : GL_CY_STATUS (aliasConvoy k) = AX_PL_STATUS k := by
  simp only [GL_CY_STATUS, aliasConvoy, AX_PL_STATUS]
  omega

/-- The state of that convoy is the state of the axis's planner: both stand in bits 0 to 3. -/
theorem Device.cyState_aliasConvoy (d : Device) (k : Nat) : d.cyState (aliasConvoy k) = d.plState k := by
  simp only [Device.cyState, Device.plState, Device.liveGet, GL_CY_STATUS_STATE, AX_PL_STATUS_STATE, cyStatus_aliasConvoy]

end Machine

/-- Refutes O26: FORM makes its members follow, and the statement's other convoys, which are all numbers but `c`, include the one
whose status register would be a member's AX_PL_STATUS, so its state would have to stay as it was.  The state is the reset with axis
0 IDLE and named by slot 0 of convoy 0: FORM takes the planner of axis 0 from IDLE (0) to FOLLOWING (7), and with it the state that
stands at the address of convoy 4081. -/
theorem not_formAndDissolveConvoys : ¬ Obligations.FormAndDissolveConvoys := by
  unfold Obligations.FormAndDissolveConvoys
  intro h
  let s : State := { State.reset with dev := (State.reset.dev.wrN (GL_CY_MSEL 0 0) 0x100).setPlState 0 plIDLE }
  have hfree : s.dev.cyState 0 = cyFREE := by decide +kernel
  have hkinds : s.dev.get (GL_CY_CTRL_KIND 0) ≠ 3 ∧ s.dev.get (GL_CY_CTRL_MASTER_KIND 0) ≤ 3 := by decide +kernel
  have hmembers : s.dev.cyMembers 0 = [(0, 0)] := by decide +kernel
  have hidle : s.dev.plState 0 = plIDLE := by decide +kernel
  have haxis : s.dev.cyOf 0 = none ∧ s.dev.gpTwin 0 = none := by decide +kernel
  have hformable : Claims.formable s.dev 0 := by
    simp [Claims.formable, hmembers, haxis, hidle]
  obtain ⟨-, -, -, -, hforms, -, -⟩ := h s 0 (by decide +kernel)
  obtain ⟨t, -, -, -, -, -, -, hothers, hfollow, -, -⟩ := hforms hfree hkinds hformable
  have hmember : t.dev.plState 0 = plFOLLOWING := (hfollow (0, 0) (hmembers ▸ List.mem_singleton_self _)).1
  have hkept : t.dev.cyState (aliasConvoy 0) = s.dev.cyState (aliasConvoy 0) := (hothers (aliasConvoy 0) (by decide)).2
  rw [Device.cyState_aliasConvoy, Device.cyState_aliasConvoy, hmember, hidle] at hkept
  exact absurd hkept (by decide)

end Sys2Proof
end

section
/-! The cap that followers put on their master (R85): what forming it anew leaves of the block, whatever plans it makes anew and
whichever followers of a measured master it disengages on the way. -/

namespace Sys2Proof

open Sys2Proof.Machine

namespace Machine

/-- Slot `j` of a convoy is stopping under its own limits, off its ramp. -/
def Convoy.dropped (v : Convoy) (j : Nat) : Prop := (v.slots.pick {} j).mode = 2 ∧ (v.slots.pick {} j).ramp = none

/-- A change of plans and couplings that leaves the committed set-points, the planners' states and FREE convoys alone, and undoes
neither a disengagement nor a squash. -/
structure Recapped (d e : Device) : Prop where
  clk : e.clk = d.clk
  cur : ∀ k, (e.pl k).cur = (d.pl k).cur
  state : ∀ k, e.plState k = d.plState k
  free : ∀ c < 32, d.cyState c = cyFREE → e.cy c = d.cy c ∧ ∀ f : Fld, f.addr = GL_CY_STATUS c → e.liveGet f = d.liveGet f
  dropped : ∀ c j, (d.cy c).dropped j → (e.cy c).dropped j
  raised : ∀ k, d.has (AX_PL_EVENT_SQUASHED k) = true → e.has (AX_PL_EVENT_SQUASHED k) = true

/-- The status register of a convoy is no axis's. -/
theorem cyStatus_ne_plStatus {c : Nat} (hc : c < 32) (k : Nat) : GL_CY_STATUS c ≠ AX_PL_STATUS k := by
  simp only [GL_CY_STATUS, AX_PL_STATUS]
  omega

theorem convoys_of_otherUnits {d e : Device} (h : otherUnits e = otherUnits d) : e.convoys = d.convoys := by
  simpa only [convoys_otherUnits] using congrArg Device.convoys h

theorem clk_of_otherUnits {d e : Device} (h : otherUnits e = otherUnits d) : e.clk = d.clk := by
  simpa only [clk_otherUnits] using congrArg Device.clk h

theorem not_msReg_event (k : Nat) : ¬ msReg (AX_PL_EVENT k) := by
  simpa only [AX_PL_EVENT, Nat.add_right_comm] using not_msReg_axis (k := k) (o := 0x10C)

theorem not_squashReg_event {ks : List Nat} {k : Nat} (hk : k ∉ ks) : ¬ squashReg ks (AX_PL_EVENT k) := by
  simpa only [AX_PL_EVENT, Nat.add_right_comm] using not_squashReg (o := 0x10C) hk (by decide)

namespace Recapped
variable {d e f : Device}

theorem refl (d : Device) : Recapped d d :=
  ⟨rfl, fun _ => rfl, fun _ => rfl, fun _ _ _ => ⟨rfl, fun _ _ => rfl⟩, fun _ _ h => h, fun _ h => h⟩

theorem trans (h : Recapped d e) (g : Recapped e f) : Recapped d f where
  clk := g.clk.trans h.clk
  cur k := (g.cur k).trans (h.cur k)
  state k := (g.state k).trans (h.state k)
  free c hc hst := by
    obtain ⟨hcy, hlive⟩ := h.free c hc hst
    obtain ⟨gcy, glive⟩ := g.free c hc ((hlive _ rfl).trans hst)
    exact ⟨gcy.trans hcy, fun x hx => (glive x hx).trans (hlive x hx)⟩
  dropped c j hj := g.dropped c j (h.dropped c j hj)
  raised k hk := g.raised k (h.raised k hk)

theorem ite {p : Prop} [Decidable p] (h : p → Recapped d e) (g : ¬ p → Recapped d f) : Recapped d (if p then e else f) := by
  split
  · exact h ‹_›
  · exact g ‹_›

theorem foldl {α : Type} {h : Device → α → Device} (hf : ∀ d x, Recapped d (h d x)) (l : List α) : ∀ d, Recapped d (l.foldl h d) := by
  induction l with
  | nil => exact refl
  | cons x l ih => exact fun d => (hf d x).trans (ih _)

theorem msg (d : Device) (cls inst kind detail : Nat) : Recapped d (d.msg cls inst kind detail) :=
  ⟨rfl, fun _ => rfl, fun _ => rfl, fun _ _ _ => ⟨rfl, fun _ _ => rfl⟩, fun _ _ h => h, fun _ h => h⟩

/-- A planner changed but for its committed set-point. -/
theorem setPl (d : Device) (k : Nat) {p : Planner → Planner} (hp : ∀ x, (p x).cur = x.cur) : Recapped d (d.setPl k p) where
  clk := rfl
  cur j := by
    by_cases hj : j = k
    · subst hj
      rw [Device.pl_setPl_same, hp]
    · rw [Device.pl_setPl_other _ _ _ _ hj]
  state _ := rfl
  free _ _ _ := ⟨rfl, fun _ _ => rfl⟩
  dropped _ _ h := h
  raised _ h := h

/-- A convoy in use changed, without a disengagement undone. -/
theorem setCy (d : Device) {c : Nat} {v : Convoy → Convoy} (hc : d.cyState c ≠ cyFREE)
    (hv : ∀ x j, Convoy.dropped x j → (v x).dropped j) : Recapped d (d.setCy c v) where
  clk := rfl
  cur _ := rfl
  state _ := rfl
  free i _ hi := ⟨d.cy_setCy_other c v fun h => hc (h ▸ hi), fun _ _ => rfl⟩
  dropped i j hj := by
    by_cases hi : i = c
    · subst hi
      rw [Device.cy_setCy_same]
      exact hv _ j hj
    · rw [Device.cy_setCy_other _ _ _ hi]
      exact hj
  raised _ h := h

/-- The status of a convoy in use changed. -/
theorem livePut (d : Device) {c : Nat} (f : Fld) (v : Nat) (hc : c < 32) (hst : d.cyState c ≠ cyFREE) (hf : f.addr = GL_CY_STATUS c) :
    Recapped d (d.livePut f v) where
  clk := rfl
  cur _ := rfl
  state k := d.liveGet_livePut_addr f (AX_PL_STATUS_STATE k) v fun h => cyStatus_ne_plStatus hc k (hf.symm.trans h.symm)
  free i _ hi := by
    refine ⟨rfl, fun x hx => d.liveGet_livePut_addr f x v ?_⟩
    have hic : i ≠ c := fun h => hst (h ▸ hi)
    simp only [hx, hf, GL_CY_STATUS]
    omega
  dropped _ _ h := h
  raised _ h := h

theorem of_squashed {ks : List Nat} (h : Squashed d e ks) : Recapped d e where
  clk := clk_of_otherUnits h.units
  cur k := by
    rw [h.pl k]
    split <;> rfl
  state k := h.low _ (by simp only [AX_PL_STATUS_STATE]; decide)
  free c hc _ := by
    refine ⟨congrArg (fun x : Store Convoy => x.pick {} c) (convoys_of_otherUnits h.units), fun f hf => h.live f fun j _ => ?_⟩
    rw [hf]
    exact cyStatus_ne_plStatus hc j
  dropped c j hj := by
    rw [Device.cy, convoys_of_otherUnits h.units]
    exact hj
  raised k hk := by
    by_cases hks : k ∈ ks
    · exact h.raised k hks
    · rw [Device.has, h.regs.get (not_squashReg_event hks)]
      exact hk

theorem plSquashes (d : Device) (ks : List Nat) : Recapped d (d.plSquashes ks) := of_squashed (d.squashed_plSquashes ks)

theorem msSquash (d : Device) {ms : List Nat} (hms : ∀ m ∈ ms, m < 16) : Recapped d (d.msSquash ms) := by
  have hunits := d.otherUnits_msSquash ms
  have hcy : ∀ c, (d.msSquash ms).cy c = d.cy c := fun c => congrArg (fun x : Store Convoy => x.pick {} c) (convoys_of_otherUnits hunits)
  refine ⟨clk_of_otherUnits hunits, fun k => by rw [d.pl_msSquash ms k], fun k => d.liveGet_msSquash ms _,
    fun c _ _ => ⟨hcy c, fun f _ => d.liveGet_msSquash ms f⟩, fun c j hj => (hcy c).symm ▸ hj, fun k hk => ?_⟩
  rw [Device.has, (sameRegs_msSquash d hms).get (not_msReg_event k)]
  exact hk

theorem plReport (d : Device) (k : Nat) : Recapped d (d.plReport k) := by
  have hp := PlannerOnly.plReport d k
  have hcy : ∀ c, (d.plReport k).cy c = d.cy c := fun c => hp.part (fun x => x.cy c) fun _ _ _ _ => rfl
  refine ⟨hp.part Device.clk fun _ _ _ _ => rfl, fun j => by rw [d.pl_plReport k j], fun j => ?_,
    fun c hc _ => ⟨hcy c, fun f hf => hp.live f (hf ▸ cyStatus_ne_plStatus hc k)⟩, fun c j hj => (hcy c).symm ▸ hj, fun j hj => ?_⟩
  · refine d.liveGet_plReport k _ (.inl ?_) ?_ <;> simp only [AX_PL_STATUS_STATE] <;> decide
  · have hreg : ¬ reportReg k (AX_PL_EVENT j) := by
      simp only [reportReg, AX_PL_EVENT, AX_PL_ARRIVE, AX_PL_VCAP, List.mem_cons, List.not_mem_nil, or_false]
      omega
    rw [Device.has, (d.sameRegs_plReport k).get hreg]
    exact hj

/-- A plan of one axis put in force. -/
theorem plInstall (d : Device) (k : Nat) : Recapped d (d.plInstall k) := by
  have hplan : Recapped d (d.plPlanned k) := setPl d k fun _ => rfl
  rw [Device.plInstall_eq]
  exact (hplan.trans (plSquashes _ [k])).trans (plReport _ k)

/-- A cap on a master (R85). -/
theorem capped (d : Device) (k : Nat) (cap : Option Nat) : Recapped d (d.setPl k fun p => { p with mcap := cap }) :=
  setPl d k fun _ => rfl

theorem cyGen (d : Device) (c : Nat) : Recapped d (d.cyGen c) := by
  have hgive : ∀ (b : Device) (m : Nat × Nat), Recapped b (b.setPl m.2 fun p => { p with gen := d.topGen c }) :=
    fun b m => setPl b m.2 fun _ => rfl
  exact foldl hgive (d.cyMembers c) d

/-- A plan of s put in force. -/
theorem cyInstall (d : Device) {c : Nat} (hc : d.cyState c ≠ cyFREE) : Recapped d (d.cyInstall c) := by
  have hplan : Recapped d (d.cyPlan c) := setCy d hc fun _ _ h => h
  exact ((hplan.trans (plSquashes _ _)).trans (cyGen _ c)).trans (msSquash _ fun m hm => Device.lt_of_mem_msOfConvoy _ hm)

/-- ENGAGED and the state of a convoy in use formed anew. -/
theorem cyCount (d : Device) {c : Nat} (hc : c < 32) (hst : d.cyState c ≠ cyFREE) : Recapped d (d.cyCount c) := by
  refine (livePut d (GL_CY_STATUS_ENGAGED c) _ hc hst rfl).trans (livePut _ (GL_CY_STATUS_STATE c) _ hc ?_ rfl)
  rw [Device.cyState, Device.liveGet_livePut_bits]
  · exact hst
  · simp only [GL_CY_STATUS_STATE, GL_CY_STATUS_ENGAGED]; decide
  · simp only [GL_CY_STATUS_STATE]; decide

end Recapped

/-! ### A follower disengaged (R82) -/

/-- A slot that stops under its own limits. -/
def CySlot.drop (s : CySlot) : CySlot := { s with mode := 2, ramp := none }

/-- A convoy with slot `j` changed. -/
def Convoy.withSlot (j : Nat) (f : CySlot → CySlot) (v : Convoy) : Convoy := { v with slots := v.slots.upd {} j f }

theorem Convoy.slot_withSlot_same (v : Convoy) (j : Nat) (f : CySlot → CySlot) :
    (v.withSlot j f).slots.pick {} j = f (v.slots.pick {} j) := Store.pick_upd_same v.slots {} j f

theorem Convoy.slot_withSlot_other (v : Convoy) {i j : Nat} (f : CySlot → CySlot) (h : i ≠ j) :
    (v.withSlot j f).slots.pick {} i = v.slots.pick {} i := Store.pick_upd_other v.slots {} j i f h

theorem Convoy.dropped_withSlot_same (v : Convoy) (j : Nat) : (v.withSlot j CySlot.drop).dropped j := by
  rw [Convoy.dropped, Convoy.slot_withSlot_same]
  exact ⟨rfl, rfl⟩

/-- A disengagement undoes none. -/
theorem Convoy.dropped_withSlot {v : Convoy} {i : Nat} (h : v.dropped i) (j : Nat) : (v.withSlot j CySlot.drop).dropped i := by
  by_cases hi : i = j
  · subst hi
    exact v.dropped_withSlot_same i
  · rw [Convoy.dropped, Convoy.slot_withSlot_other _ _ hi]
    exact h

/-- A planner that stops from its commit point. -/
def Planner.stopsOwn (beat kind : Nat) (p : Planner) : Planner := { p with prof := p.planStop p.next kind, origin := beat + 1, stop := kind }

section Drop
variable (d : Device) (c j kind : Nat)

/-- The axis of slot `j`. -/
def Device.cyAxis : Nat := d.get (GL_CY_MSEL_AXIS c j)

/-- The block with the follower of slot `j` stopping, before the squash of its road. -/
def Device.cyLoosed : Device :=
  (d.setPl (d.cyAxis c j) (Planner.stopsOwn d.clk.beat kind)).setCy c (Convoy.withSlot j CySlot.drop)

theorem Device.cyDrop_eq : d.cyDrop c j kind = ((d.cyLoosed c j kind).plSquash (d.cyAxis c j)).cyCount c := rfl

end Drop

theorem Recapped.cyLoosed (d : Device) {c : Nat} (j kind : Nat) (hst : d.cyState c ≠ cyFREE) : Recapped d (d.cyLoosed c j kind) := by
  have hstop : Recapped d (d.setPl (d.cyAxis c j) (Planner.stopsOwn d.clk.beat kind)) := .setPl d _ fun _ => rfl
  exact hstop.trans (.setCy _ hst fun _ _ h => Convoy.dropped_withSlot h j)

theorem Device.cyState_plSquash (d : Device) {c : Nat} (hc : c < 32) (k : Nat) : (d.plSquash k).cyState c = d.cyState c :=
  (d.squashed_plSquashes [k]).live _ fun j _ => cyStatus_ne_plStatus hc j

theorem Recapped.cyDrop (d : Device) {c : Nat} (j kind : Nat) (hc : c < 32) (hst : d.cyState c ≠ cyFREE) :
    Recapped d (d.cyDrop c j kind) := by
  rw [Device.cyDrop_eq]
  refine ((Recapped.cyLoosed d j kind hst).trans (.plSquashes _ _)).trans (.cyCount _ hc ?_)
  exact (Device.cyState_plSquash (d.cyLoosed c j kind) hc (d.cyAxis c j)).trans_ne hst

/-! ### The cap formed anew (R85) -/

/-- A member's convoy is one that is in use. -/
theorem Device.cyOf_some {d : Device} {k : Nat} {x : Nat × Nat} (h : d.cyOf k = some x) : x.1 < 32 ∧ d.cyState x.1 ≠ cyFREE := by
  obtain ⟨c, hc, hx⟩ := List.exists_of_findSome?_eq_some h
  split at hx
  · cases hx
  · next hst =>
    obtain ⟨m, -, rfl⟩ := Option.map_eq_some_iff.mp hx
    exact ⟨List.mem_range.mp hc, hst⟩

theorem cyRUNNING_ne_cyFREE : cyRUNNING ≠ cyFREE := by decide

theorem Recapped.cyInstall_running {d : Device} {c : Nat} (h : d.cyState c = cyRUNNING) : Recapped d (d.cyInstall c) :=
  .cyInstall d (h ▸ cyRUNNING_ne_cyFREE)

theorem Recapped.capChanged (n : Nat) : ∀ (d : Device) (k : Nat), Recapped d (d.capChanged n k) := by
  induction n with
  | zero => exact fun d _ => .refl d
  | succ n ih =>
    intro d k
    unfold Device.capChanged
    split
    · exact .ite (fun _ => .plInstall d k) fun _ => .plReport d k
    · next c j hcy =>
      obtain ⟨hc, hst⟩ := Device.cyOf_some hcy
      refine .ite (fun _ => .ite .cyInstall_running fun _ => .refl d) fun _ => .ite (fun _ => .refl d) fun _ => ?_
      split
      · exact .ite (fun _ => .refl d) fun _ => (Recapped.capped d _ _).trans (ih _ _)
      · exact .ite .cyInstall_running fun _ => .refl d
      · exact .ite (fun _ => (Recapped.cyDrop d j 2 hc hst).trans (.msg _ _ _ _ _)) fun _ => .refl d

theorem Recapped.cyRecap (d : Device) (c : Nat) : Recapped d (d.cyRecap c) := by
  unfold Device.cyRecap
  exact .ite (fun _ => .ite (fun _ => .refl d) fun _ => (Recapped.capped d _ _).trans (.capChanged _ _ _))
    fun _ => .ite (fun h => .cyInstall_running h.2.1) fun _ => .refl d

end Machine
end Sys2Proof
end

section
/-! ENGAGE and DISENGAGE of a follower (R80–R83). -/

namespace Sys2Proof

open Sys2Proof.Machine
open Claims (convoyRefused otherConvoys)

namespace Machine

/-! ### Followers counted -/

/-- A list without repetition in which one more element is taken counts one more. -/
theorem countP_succ_of_taken {α : Type} {p q : α → Bool} {x : α} (hp : p x = false) (hq : q x = true)
    (hother : ∀ y, y ≠ x → q y = p y) (l : List α) (hl : l.Nodup) (hx : x ∈ l) : l.countP q = l.countP p + 1 := by
  induction l with
  | nil => cases hx
  | cons y l ih =>
    obtain ⟨hy, hl'⟩ := List.nodup_cons.mp hl
    obtain rfl | hx' := List.mem_cons.mp hx
    · have hrest : l.countP q = l.countP p := List.countP_congr fun z hz => by rw [hother z fun e => hy (e ▸ hz)]
      rw [List.countP_cons_of_pos hq, List.countP_cons_of_neg (by simp [hp]), hrest]
    · have hyx : y ≠ x := fun e => hy (e ▸ hx')
      rw [List.countP_cons, List.countP_cons, ih hl' hx', hother y hyx, Nat.add_right_comm]

section Count
variable (d : Device) (c : Nat)

/-- Is slot `j` in use, with a follower that is engaged? -/
def Device.cyEngagedAt (j : Nat) : Bool := d.has (GL_CY_MSEL_USED c j) && ((d.cy c).slots.pick {} j).mode == 1

/-- The engaged followers are counted slot by slot. -/
theorem Device.cyEngaged_eq : d.cyEngaged c = (List.range 8).countP (d.cyEngagedAt c) := by
  have hcount : ∀ l : List Nat, ((l.filterMap fun j => if d.has (GL_CY_MSEL_USED c j) then some (j, d.get (GL_CY_MSEL_AXIS c j))
      else none).filter fun m => ((d.cy c).slots.pick {} m.1).mode == 1).length = l.countP (d.cyEngagedAt c) := by
    intro l
    induction l with
    | nil => rfl
    | cons j l ih =>
      rw [List.filterMap_cons, List.countP_cons, ← ih, Device.cyEngagedAt]
      cases d.has (GL_CY_MSEL_USED c j) <;> cases hm : ((d.cy c).slots.pick {} j).mode == 1 <;> simp [hm]
  exact hcount (List.range 8)

theorem Device.cyEngaged_le : d.cyEngaged c ≤ 8 := by
  rw [Device.cyEngaged_eq]
  exact List.countP_le_length

@[simp] theorem Device.clk_cyCount : (d.cyCount c).clk = d.clk := rfl
@[simp] theorem Device.cy_cyCount (i : Nat) : (d.cyCount c).cy i = d.cy i := rfl
@[simp] theorem Device.pl_cyCount (k : Nat) : (d.cyCount c).pl k = d.pl k := rfl
@[simp] theorem Device.rd_cyCount (a : Nat) : (d.cyCount c).rd a = d.rd a := rfl
@[simp] theorem Device.has_cyCount (f : Fld) : (d.cyCount c).has f = d.has f := rfl

theorem Device.engaged_cyCount : (d.cyCount c).liveGet (GL_CY_STATUS_ENGAGED c) = d.cyEngaged c := by
  have hle := d.cyEngaged_le c
  refine (Device.liveGet_livePut_bits _ (GL_CY_STATUS_STATE c) _ _ ?_ ?_).trans
    ((d.liveGet_livePut_same (GL_CY_STATUS_ENGAGED c) (d.cyEngaged c) ?_).trans (Nat.mod_eq_of_lt ?_))
  · simp only [GL_CY_STATUS_STATE, GL_CY_STATUS_ENGAGED]; decide
  · simp only [GL_CY_STATUS_ENGAGED]; decide
  · simp only [GL_CY_STATUS_ENGAGED]; decide
  · simp only [GL_CY_STATUS_ENGAGED]; omega

theorem Device.cyState_cyCount : (d.cyCount c).cyState c = if d.cyEngaged c = 0 then cyIDLE else cyENGAGED := by
  refine Device.cyState_setCyState_same _ c _ ?_
  split <;> decide

theorem Device.otherConvoys_cyCount : otherConvoys d (d.cyCount c) c := by
  refine fun i hi => ⟨rfl, (Device.cyState_setCyState_other _ c _ hi).trans ?_⟩
  refine d.liveGet_livePut_addr (GL_CY_STATUS_ENGAGED c) (GL_CY_STATUS_STATE i) _ ?_
  simp only [GL_CY_STATUS_ENGAGED, GL_CY_STATUS_STATE, GL_CY_STATUS]
  omega

end Count

/-! ### A coupling changed and the road of its follower squashed -/

/-- `e` is `d` with the couplings of convoy `c` counted anew and the road of axis `k`, and of what moves with it, squashed. -/
structure Recoupled (d e : Device) (c k : Nat) : Prop where
  clk : e.clk = d.clk
  cy : ∀ i, e.cy i = d.cy i
  others : otherConvoys d e c
  engaged : e.liveGet (GL_CY_STATUS_ENGAGED c) = d.cyEngaged c
  state : e.cyState c = if d.cyEngaged c = 0 then cyIDLE else cyENGAGED
  raised : e.has (AX_PL_EVENT_SQUASHED k) = true
  pl : ∀ j, (e.pl j).prof = (d.pl j).prof ∧ (e.pl j).origin = (d.pl j).origin
  low : ∀ a, a < 0x40000 → e.rd a = d.rd a

theorem Device.recoupled (d : Device) {c : Nat} (hc : c < 32) (k : Nat) : Recoupled d ((d.plSquash k).cyCount c) c k := by
  have hs : Squashed d (d.plSquash k) (d.drawn [k]) := d.squashed_plSquashes [k]
  have hconvoys := convoys_of_otherUnits hs.units
  have hcy : ∀ i, (d.plSquash k).cy i = d.cy i := fun i => congrArg (fun x : Store Convoy => x.pick {} i) hconvoys
  have hlow : ∀ a, a < 0x40000 → (d.plSquash k).rd a = d.rd a := fun a ha => hs.regs a (not_squashReg_of_lt ha)
  have hcount : (d.plSquash k).cyEngaged c = d.cyEngaged c := by
    rw [Device.cyEngaged, Device.cyEngaged, hcy c, Device.cyMembers_congr hc hlow]
  refine ⟨?_, fun i => ?_, ?_, ?_, ?_, ?_, fun j => ?_, fun a ha => ?_⟩
  · rw [Device.clk_cyCount, clk_of_otherUnits hs.units]
  · rw [Device.cy_cyCount, hcy]
  · refine otherConvoys_trans (fun i _ => ⟨hcy i, hs.low _ ?_⟩) ((d.plSquash k).otherConvoys_cyCount c)
    simp only [GL_CY_STATUS_STATE]; decide
  · rw [Device.engaged_cyCount, hcount]
  · rw [Device.cyState_cyCount, hcount]
  · rw [Device.has_cyCount, hs.raised k (d.mem_drawn_self k)]
  · rw [Device.pl_cyCount, hs.pl j]
    split <;> exact ⟨rfl, rfl⟩
  · rw [Device.rd_cyCount, hlow a ha]

/-! ### ENGAGE: the conditions in their order (R80, R82, R86) -/

section Engage
variable (d : Device) (c j : Nat)

/-- Is slot `j` one of a gear or cam convoy in use, with an axis that follows? -/
def Device.slotFollows : Prop := d.cyState c ≠ cyFREE ∧ d.get (GL_CY_CTRL_KIND c) ≠ 0 ∧ d.has (GL_CY_MSEL_USED c j) = true ∧
  d.plState (d.cyAxis c j) = plFOLLOWING

/-- Is the follower's law one: a ratio with a denominator, or a table that is defined? -/
def Device.slotLaw : Prop := (d.get (GL_CY_CTRL_KIND c) = 1 → d.rdN (GL_CY_DEN c j) ≠ 0) ∧
  (d.get (GL_CY_CTRL_KIND c) = 2 → d.has (GL_TD_STATE_DEFINED (d.get (GL_CY_CAM_TABLE c j))) = true)

/-- Does the follower stand, and without a ramp its master? -/
def Device.slotRests : Prop := ((d.cy c).slots.pick {} j).mode = 0 ∧ (d.pl (d.cyAxis c j)).next.v = 0 ∧
  (d.engageLen c = 0 → (d.cyMaster c).v = 0)

/-- The ramp of an ENGAGE: none without ENGAGE_LEN. -/
def Device.engageRamp : Option Ramp :=
  if d.engageLen c = 0 then none else some { len := d.engageLen c, f0 := (d.pl (d.cyAxis c j)).next.posOut }

/-- The coupling that an ENGAGE makes: from where master and follower stand. -/
def Device.engageSlot : CySlot :=
  { mode := 1, num := toS 32 (d.rdN (GL_CY_NUM c j)), den := d.rdN (GL_CY_DEN c j), cam := d.get (GL_CY_CAM_TABLE c j),
    m0 := (d.cyMaster c).posOut, f0 := (d.pl (d.cyAxis c j)).next.posOut, ramp := d.engageRamp c j, elen := d.engageLen c,
    fresh := (d.cy c).await }

/-- A convoy with slot `j` coupled. -/
def Device.engageIn (v : Convoy) : Convoy :=
  { v.withSlot j (fun _ => d.engageSlot c j) with mprev := if d.cyEngaged c = 0 then (d.cyMaster c).posOut else v.mprev }

/-- The block with slot `j` of convoy `c` coupled, before the squash of the follower's road. -/
def Device.engageMade : Device := d.setCy c (d.engageIn c j)

variable {d c j}

theorem Device.cyEngage_idle (h : ¬ d.slotFollows c j) : d.cyEngage c j = d.cyNo c 1 := by
  by_cases h1 : d.cyState c = cyFREE ∨ d.get (GL_CY_CTRL_KIND c) = 0
  · exact if_pos h1
  · refine (if_neg h1).trans (if_pos ?_)
    rw [← Bool.not_eq_true]
    by_contra h2
    rw [not_or] at h1 h2
    exact h ⟨h1.1, h1.2, not_not.mp h2.1, not_not.mp h2.2⟩

/-- ENGAGE of a slot whose axis follows. -/
theorem Device.cyEngage_follows (h : d.slotFollows c j) : d.cyEngage c j =
    if d.get (GL_CY_CTRL_KIND c) = 1 ∧ d.rdN (GL_CY_DEN c j) = 0 then d.cyNo c 7
    else if d.get (GL_CY_CTRL_KIND c) = 2 ∧ d.has (GL_TD_STATE_DEFINED (d.get (GL_CY_CAM_TABLE c j))) = false then d.cyNo c 8
    else if ((d.cy c).slots.pick {} j).mode ≠ 0 ∨ (d.pl (d.cyAxis c j)).next.v ≠ 0 then d.cyNo c 6
    else if d.engageLen c = 0 ∧ (d.cyMaster c).v ≠ 0 then d.cyNo c 6
    else (0, if (d.pl (d.cyAxis c j)).topCap.isSome then
        (((d.engageMade c j).plSquash (d.cyAxis c j)).cyCount c).capChanged 64 (d.cyAxis c j)
      else ((d.engageMade c j).plSquash (d.cyAxis c j)).cyCount c) := by
  obtain ⟨hst, hk, hu, hf⟩ := h
  exact (if_neg (not_or.mpr ⟨hst, hk⟩)).trans (if_neg (not_or.mpr ⟨by rw [hu]; decide, not_not_intro hf⟩))

theorem Device.cyEngage_lawless (h : d.slotFollows c j) (hl : ¬ d.slotLaw c j) :
    d.cyEngage c j = d.cyNo c (6 + d.get (GL_CY_CTRL_KIND c)) := by
  rw [Device.cyEngage_follows h]
  by_cases h1 : d.get (GL_CY_CTRL_KIND c) = 1 ∧ d.rdN (GL_CY_DEN c j) = 0
  · rw [if_pos h1, h1.1]
  · have h2 : d.get (GL_CY_CTRL_KIND c) = 2 ∧ d.has (GL_TD_STATE_DEFINED (d.get (GL_CY_CAM_TABLE c j))) = false := by
      rw [← Bool.not_eq_true]
      unfold Device.slotLaw at hl
      tauto
    rw [if_neg h1, if_pos h2, h2.1]

/-- ENGAGE of a slot whose axis follows by a law. -/
theorem Device.cyEngage_law (h : d.slotFollows c j) (hl : d.slotLaw c j) : d.cyEngage c j =
    if ((d.cy c).slots.pick {} j).mode ≠ 0 ∨ (d.pl (d.cyAxis c j)).next.v ≠ 0 then d.cyNo c 6
    else if d.engageLen c = 0 ∧ (d.cyMaster c).v ≠ 0 then d.cyNo c 6
    else (0, if (d.pl (d.cyAxis c j)).topCap.isSome then
        (((d.engageMade c j).plSquash (d.cyAxis c j)).cyCount c).capChanged 64 (d.cyAxis c j)
      else ((d.engageMade c j).plSquash (d.cyAxis c j)).cyCount c) := by
  obtain ⟨hratio, hcam⟩ := hl
  refine (Device.cyEngage_follows h).trans ((if_neg fun hn => hratio hn.1 hn.2).trans (if_neg fun hn => ?_))
  exact Bool.false_ne_true (hn.2.symm.trans (hcam hn.1))

theorem Device.cyEngage_moving (h : d.slotFollows c j) (hl : d.slotLaw c j) (hr : ¬ d.slotRests c j) : d.cyEngage c j = d.cyNo c 6 := by
  rw [Device.cyEngage_law h hl]
  by_cases h1 : ((d.cy c).slots.pick {} j).mode ≠ 0 ∨ (d.pl (d.cyAxis c j)).next.v ≠ 0
  · exact if_pos h1
  · refine (if_neg h1).trans (if_pos ?_)
    unfold Device.slotRests at hr
    tauto

/-- ENGAGE at rest, without a cap on the follower. -/
theorem Device.cyEngage_rests (h : d.slotFollows c j) (hl : d.slotLaw c j) (hr : d.slotRests c j)
    (hcap : (d.pl (d.cyAxis c j)).topCap = none) :
    d.cyEngage c j = (0, ((d.engageMade c j).plSquash (d.cyAxis c j)).cyCount c) := by
  obtain ⟨hmode, hv, hm⟩ := hr
  have h1 : ¬ (((d.cy c).slots.pick {} j).mode ≠ 0 ∨ (d.pl (d.cyAxis c j)).next.v ≠ 0) := by tauto
  have h2 : ¬ (d.engageLen c = 0 ∧ (d.cyMaster c).v ≠ 0) := by tauto
  rw [Device.cyEngage_law h hl, if_neg h1, if_neg h2, hcap]
  rfl

theorem Device.cy_engageMade : (d.engageMade c j).cy c = d.engageIn c j (d.cy c) := d.cy_setCy_same c _

theorem Device.slot_engageMade_same : ((d.engageMade c j).cy c).slots.pick {} j = d.engageSlot c j := by
  rw [Device.cy_engageMade]
  exact Convoy.slot_withSlot_same (d.cy c) j fun _ => d.engageSlot c j

theorem Device.slot_engageMade_other {i : Nat} (h : i ≠ j) :
    ((d.engageMade c j).cy c).slots.pick {} i = (d.cy c).slots.pick {} i := by
  rw [Device.cy_engageMade]
  exact Convoy.slot_withSlot_other (d.cy c) (fun _ => d.engageSlot c j) h

/-- An ENGAGE adds one follower. -/
theorem Device.cyEngaged_engageMade (hj : j < 8) (hu : d.has (GL_CY_MSEL_USED c j) = true) (hm : ((d.cy c).slots.pick {} j).mode = 0) :
    (d.engageMade c j).cyEngaged c = d.cyEngaged c + 1 := by
  have hused : ∀ i, (d.engageMade c j).has (GL_CY_MSEL_USED c i) = d.has (GL_CY_MSEL_USED c i) := fun _ => rfl
  rw [Device.cyEngaged_eq, Device.cyEngaged_eq]
  refine countP_succ_of_taken (x := j) ?_ ?_ (fun i hi => ?_) _ List.nodup_range (List.mem_range.mpr hj)
  · rw [Device.cyEngagedAt, hm]
    exact Bool.and_false _
  · rw [Device.cyEngagedAt, Device.slot_engageMade_same, hused, hu]
    rfl
  · rw [Device.cyEngagedAt, Device.cyEngagedAt, Device.slot_engageMade_other hi, hused]

/-- The ramp runs from 0 over ENGAGE_LEN of master travel. -/
theorem Device.engageRamp_isSome : (d.engageRamp c j).isSome = decide (d.engageLen c ≠ 0) := by
  unfold Device.engageRamp
  by_cases h : d.engageLen c = 0 <;> simp [h]

theorem Device.of_engageRamp {r : Ramp} (h : d.engageRamp c j = some r) : r.x = 0 ∧ r.len = d.engageLen c := by
  unfold Device.engageRamp at h
  split at h
  · cases h
  · cases h
    exact ⟨rfl, rfl⟩

end Engage

/-! ### DISENGAGE (R82) -/

section Disengage
variable {d : Device} {c j : Nat}

theorem Device.cyDisengage_idle (h : d.cyState c = cyFREE ∨ ((d.cy c).slots.pick {} j).mode ≠ 1) : d.cyDisengage c j = d.cyNo c 1 :=
  if_pos h

theorem Device.cyDisengage_engaged (hst : d.cyState c ≠ cyFREE) (hm : ((d.cy c).slots.pick {} j).mode = 1) :
    d.cyDisengage c j = (0, (d.cyDrop c j 1).cyRecap c) := if_neg (not_or.mpr ⟨hst, not_not_intro hm⟩)

/-- A measured master is not slowed by its followers (R85). -/
theorem Device.cyRecap_measured (h : d.get (GL_CY_CTRL_MASTER_KIND c) = 1 ∨ d.get (GL_CY_CTRL_MASTER_KIND c) = 2) : d.cyRecap c = d := by
  refine (if_neg ?_).trans (if_neg ?_)
  · omega
  · rintro ⟨h3, -⟩
    omega

theorem Device.recoupled_cyDrop (d : Device) {c : Nat} (hc : c < 32) (j kind : Nat) :
    Recoupled (d.cyLoosed c j kind) (d.cyDrop c j kind) c (d.cyAxis c j) := (d.cyLoosed c j kind).recoupled hc _

theorem Device.dropped_cyLoosed (d : Device) (c j kind : Nat) : ((d.cyLoosed c j kind).cy c).dropped j := by
  have hcy : (d.cyLoosed c j kind).cy c = (d.cy c).withSlot j CySlot.drop :=
    (d.setPl (d.cyAxis c j) (Planner.stopsOwn d.clk.beat kind)).cy_setCy_same c _
  rw [hcy]
  exact (d.cy c).dropped_withSlot_same j

theorem Device.pl_cyLoosed (d : Device) (c j kind : Nat) :
    (d.cyLoosed c j kind).pl (d.cyAxis c j) = (d.pl (d.cyAxis c j)).stopsOwn d.clk.beat kind := d.pl_setPl_same _ _

end Disengage
end Machine

section Followers
variable {s : State} {c : Fin 32} {j : Fin 8}

theorem Machine.Orders.engages (h : Orders (.engage c j) s (Device.cyEngage · c j)) (hf : s.dev.slotFollows c j) (hl : s.dev.slotLaw c j)
    (hr : s.dev.slotRests c j) (hcap : (s.dev.pl (s.dev.cyAxis c j)).topCap = none) :
    leads (.engage c j) s (fun d => (d.cy c).slots.pick {} j = s.dev.engageSlot c j ∧ d.cyState c = cyENGAGED ∧
      d.liveGet (GL_CY_STATUS_ENGAGED c) = s.dev.cyEngaged c + 1 ∧
      (∀ i, i ≠ j.val → (d.cy c).slots.pick {} i = (s.dev.cy c).slots.pick {} i) ∧
      d.has (AX_PL_EVENT_SQUASHED (s.dev.cyAxis c j)) = true ∧ otherConvoys s.dev d c) := by
  have hd := (s.dev.engageMade c j).recoupled c.isLt (s.dev.cyAxis c j)
  obtain ⟨-, -, hused, -⟩ := id hf
  obtain ⟨hmode, -, -⟩ := id hr
  have hcount := Device.cyEngaged_engageMade j.isLt hused hmode
  refine h.leads_to (Device.cyEngage_rests hf hl hr hcap) hd.clk ⟨?_, ?_, ?_, fun i hi => ?_, hd.raised, ?_⟩
  · rw [hd.cy, Device.slot_engageMade_same]
  · rw [hd.state, hcount, if_neg (Nat.succ_ne_zero _)]
  · rw [hd.engaged, hcount]
  · rw [hd.cy, Device.slot_engageMade_other hi]
  · exact otherConvoys_trans (s.dev.otherConvoys_setCy c _) hd.others

theorem Machine.Orders.disengages (h : Orders (.disengage c j) s (Device.cyDisengage · c j)) (hst : s.dev.cyState c ≠ cyFREE)
    (hm : ((s.dev.cy c).slots.pick {} j).mode = 1) :
    leads (.disengage c j) s (fun d => ((d.cy c).slots.pick {} j).mode = 2 ∧ ((d.cy c).slots.pick {} j).ramp = none ∧
      d.has (AX_PL_EVENT_SQUASHED (s.dev.cyAxis c j)) = true ∧
      (s.dev.get (GL_CY_CTRL_MASTER_KIND c) = 1 ∨ s.dev.get (GL_CY_CTRL_MASTER_KIND c) = 2 →
        (d.pl (s.dev.cyAxis c j)).prof = (s.dev.pl (s.dev.cyAxis c j)).planStop (s.dev.pl (s.dev.cyAxis c j)).next 1 ∧
        (d.pl (s.dev.cyAxis c j)).origin = s.dev.clk.beat + 1 ∧ otherConvoys s.dev d c)) := by
  let d1 := s.dev.cyLoosed c j 1
  let d2 := s.dev.cyDrop c j 1
  have hd : Recoupled d1 d2 c (s.dev.cyAxis c j) := s.dev.recoupled_cyDrop c.isLt j 1
  have hcap : Recapped d2 (d2.cyRecap c) := .cyRecap d2 c
  have hdropped : (d2.cy c).dropped j := by
    rw [hd.cy]
    exact s.dev.dropped_cyLoosed c j 1
  obtain ⟨hmode, hramp⟩ := hcap.dropped c j hdropped
  refine h.leads_to (Device.cyDisengage_engaged hst hm) (hcap.clk.trans hd.clk) ⟨hmode, hramp, hcap.raised _ hd.raised, fun hk => ?_⟩
  have hkind : d2.get (GL_CY_CTRL_MASTER_KIND c) = s.dev.get (GL_CY_CTRL_MASTER_KIND c) := by
    have hlow := hd.low (GL_CY_CTRL c) (by simp only [GL_CY_CTRL]; omega)
    simp only [Device.get, GL_CY_CTRL_MASTER_KIND, hlow]
    rfl
  obtain ⟨hprof, horigin⟩ := hd.pl (s.dev.cyAxis c j)
  rw [Device.cyRecap_measured (hkind ▸ hk)]
  refine ⟨hprof.trans ?_, horigin.trans ?_, otherConvoys_trans (s.dev.otherConvoys_setCy c _) hd.others⟩
  · rw [Device.pl_cyLoosed]
    rfl
  · rw [Device.pl_cyLoosed]
    rfl

end Followers

/-- Settles O27: ENGAGE is taken by its conditions in their order and adds one coupling, and DISENGAGE drops one, which nothing that
the new cap on the master brings about undoes. -/
theorem followersEngageAndDisengage : Obligations.FollowersEngageAndDisengage := by
  intro s c j hr
  have engage : Orders (.engage c j) s (Device.cyEngage · c j) := ⟨rfl, hr⟩
  have disengage : Orders (.disengage c j) s (Device.cyDisengage · c j) := ⟨rfl, hr⟩
  have hkind : s.dev.get (GL_CY_CTRL_KIND c) < 4 := s.dev.get_lt _
  refine ⟨fun hf => engage.refused (Device.cyEngage_idle hf) (by decide),
    fun hf hl => engage.refused (Device.cyEngage_lawless hf hl) (by omega),
    fun hf hl hn => engage.refused (Device.cyEngage_moving hf hl hn) (by decide), fun hf hl hn hcap => ?_,
    fun h => disengage.refused (Device.cyDisengage_idle h) (by decide), disengage.disengages⟩
  obtain ⟨t, hexec, hpending, hclk, hslot, hstate, hengaged, hslots, hraised, hothers⟩ := engage.engages hf hl hn hcap
  refine ⟨t, hexec, hpending, hclk, ?_⟩
  dsimp only
  rw [hslot]
  exact ⟨rfl, rfl, rfl, rfl, rfl, rfl, rfl, rfl, Device.engageRamp_isSome, fun r => Device.of_engageRamp, hstate, hengaged, hslots,
    hraised, hothers⟩

end Sys2Proof
end

section
/-! What leaves the control of every axis alone (R121–R126): a change of the planners' plans, in their turn of the tick or not (R48,
R55), and the bindings of the local pairs shown anew (R272). -/

namespace Sys2Proof

open Sys2Proof.Machine

namespace Machine

/-- Between the blocks the clock and the control of every axis are the same; of the registers at most those in `R` differ, of the
snapshot registers at most those in `L`. -/
structure Aside (R L : Nat → Prop) (d e : Device) : Prop where
  clk : e.clk = d.clk
  axes : e.axes = d.axes
  regs : sameRegs d e R
  live : ∀ f : Fld, ¬ L f.addr → e.liveGet f = d.liveGet f

namespace Aside
variable {R L : Nat → Prop} {d e f : Device}

theorem same (hclk : e.clk = d.clk) (haxes : e.axes = d.axes) (hregs : e.regs = d.regs) (hlive : e.live = d.live) : Aside R L d e :=
  ⟨hclk, haxes, .regs _ hregs, fun _ _ => by simp only [Device.liveGet, hlive]⟩

theorem refl (d : Device) : Aside R L d d := same rfl rfl rfl rfl

theorem trans (h : Aside R L d e) (g : Aside R L e f) : Aside R L d f :=
  ⟨g.clk.trans h.clk, g.axes.trans h.axes, h.regs.trans g.regs, fun x hx => (g.live x hx).trans (h.live x hx)⟩

theorem mono {R' L' : Nat → Prop} (h : Aside R L d e) (hR : ∀ a, R a → R' a) (hL : ∀ a, L a → L' a) : Aside R' L' d e :=
  ⟨h.clk, h.axes, h.regs.mono hR, fun x hx => h.live x fun hl => hx (hL _ hl)⟩

theorem ite {p : Prop} [Decidable p] (h : Aside R L d e) (g : Aside R L d f) : Aside R L d (if p then e else f) := by
  split
  · exact h
  · exact g

theorem foldl {α : Type} {h : Device → α → Device} (l : List α) (hl : ∀ d, ∀ x ∈ l, Aside R L d (h d x)) :
    ∀ d, Aside R L d (l.foldl h d) := by
  induction l with
  | nil => exact refl
  | cons x l ih =>
    exact fun d => (hl d x (List.mem_cons_self ..)).trans (ih (fun b y hy => hl b y (List.mem_cons_of_mem _ hy)) _)

theorem put (d : Device) (g : Fld) (v : Nat) (hg : R g.addr) : Aside R L d (d.put g v) := ⟨rfl, rfl, .put d g v _ hg, fun _ _ => rfl⟩

theorem livePut (d : Device) (g : Fld) (v : Nat) (hg : L g.addr) : Aside R L d (d.livePut g v) :=
  ⟨rfl, rfl, .regs _ rfl, fun x hx => d.liveGet_livePut_addr g x v fun h => hx (h ▸ hg)⟩

theorem ax (h : Aside R L d e) (k : Nat) : e.ax k = d.ax k := by
  simp only [Device.ax, h.axes]

theorem axState (h : Aside R L d e) {k : Nat} (hk : ¬ L (AX_STATUS k)) : e.axState k = d.axState k := h.live _ hk

theorem get (h : Aside R L d e) {g : Fld} (hg : ¬ R g.addr) : e.get g = d.get g := h.regs.get hg

theorem has (h : Aside R L d e) {g : Fld} (hg : ¬ R g.addr) : e.has g = d.has g := by
  rw [Device.has, h.get hg, Device.has]

section Couplings
variable (h : Aside R L d e) (hR : ∀ a < 0x40000, ¬ R a)
include h hR

/-- An axis's convoy and slot are told by the registers and states of the convoys. -/
theorem cyOf (hL : ∀ a < 0x40000, ¬ L a) (k : Nat) : e.cyOf k = d.cyOf k := by
  refine Device.cyOf_congr (fun c hc => h.live _ (hL _ ?_)) (fun c hc => Device.cyMembers_congr hc fun a ha => h.regs a (hR a ha)) k
  simp only [GL_CY_STATUS_STATE, GL_CY_STATUS]
  omega

/-- The pairs of an axis are told by their GL_GP_CTRL. -/
theorem get_gpCtrl {g : Nat} (hg : g < 16) {x : Fld} (hx : x.addr = GL_GP_CTRL g) : e.get x = d.get x :=
  h.get (hR _ (by rw [hx]; simp only [GL_GP_CTRL]; omega))

theorem gpTwin (k : Nat) : e.gpTwin k = d.gpTwin k := by
  refine List.find?_congr fun g hg => ?_
  have hg' := List.mem_range.mp hg
  simp only [Device.has, h.get_gpCtrl hR hg' (x := GL_GP_CTRL_EN g) rfl, h.get_gpCtrl hR hg' (x := GL_GP_CTRL_TWIN g) rfl]

theorem gpPrimary (k : Nat) : e.gpPrimary k = d.gpPrimary k := by
  refine List.find?_congr fun g hg => ?_
  have hg' := List.mem_range.mp hg
  simp only [Device.has, h.get_gpCtrl hR hg' (x := GL_GP_CTRL_EN g) rfl, h.get_gpCtrl hR hg' (x := GL_GP_CTRL_PRIMARY g) rfl]

end Couplings
end Aside

/-! ### The planners (R48, R55) -/

/-- The registers that a change of the planners may write. -/
def planReg (a : Nat) : Prop := (∃ j, plannerReg j a) ∨ msReg a

/-- The snapshot registers that a change of the planners may write. -/
def planLive (a : Nat) : Prop := ∃ j, a = AX_PL_STATUS j

theorem not_planReg {k o a : Nat} (ha : a = 0x100000 + 0x400 * k + o) (ho : o < 0x400) (ho' : o < 0x100 ∨ 0x200 ≤ o) : ¬ planReg a := by
  subst ha
  rintro (⟨j, hj⟩ | hm)
  · simp only [plannerReg, AX_PL_CTRL] at hj
    omega
  · simp only [msReg, queueReg] at hm
    omega

theorem not_planReg_of_lt {a : Nat} (ha : a < 0x40000) : ¬ planReg a := by
  rintro (⟨j, hj⟩ | hm)
  · simp only [plannerReg, AX_PL_CTRL] at hj
    omega
  · simp only [msReg, queueReg] at hm
    omega

theorem not_planLive_axStatus (k : Nat) : ¬ planLive (AX_STATUS k) := by
  rintro ⟨j, hj⟩
  simp only [AX_STATUS, AX_PL_STATUS] at hj
  omega

theorem not_planLive_of_lt {a : Nat} (ha : a < 0x40000) : ¬ planLive a := by
  rintro ⟨j, rfl⟩
  simp only [AX_PL_STATUS] at ha
  omega

/-- A change of plans leaves the control of every axis alone. -/
abbrev Plans (d e : Device) : Prop := Aside planReg planLive d e

@[simp] theorem axes_unitsOf (d : Device) : (unitsOf d).axes = d.axes := rfl

theorem PlannerOnly.plans {d e : Device} {k : Nat} (h : PlannerOnly d e k) : Plans d e :=
  ⟨h.part Device.clk fun _ _ _ _ => rfl, h.part Device.axes fun _ _ _ _ => rfl, h.regs.mono fun _ ha => .inl ⟨k, ha⟩,
    fun f hf => h.live f fun ha => hf ⟨k, ha⟩⟩

theorem plans_of_plannerFrame {d e : Device} {k : Nat} (h : Claims.plannerFrame d e k) : Plans d e := by
  have hclk := clk_of_plannerFrame h
  obtain ⟨-, hlive, hunits, hregs, -⟩ := h
  refine ⟨hclk, by simpa only [axes_unitsOf] using congrArg Device.axes hunits, hregs.mono ?_,
    fun f hf => hlive f fun j _ ha => hf ⟨j, ha⟩⟩
  rintro a (⟨j, -, ha⟩ | ha)
  · exact .inl ⟨j, ha⟩
  · exact .inr ha

namespace Plans
variable (d : Device) (k : Nat)

theorem setPl (f : Planner → Planner) : Plans d (d.setPl k f) := .same rfl rfl rfl rfl

theorem setPlState (st : Nat) : Plans d (d.setPlState k st) := .livePut d _ _ ⟨k, rfl⟩

theorem plReport : Plans d (d.plReport k) := (PlannerOnly.plReport d k).plans

theorem plSquash : Plans d (d.plSquash k) :=
  plans_of_plannerFrame (plannerFrame_of_squashed (.refl d k) (d.squashed_plSquashes [k]))

theorem plInstall : Plans d (d.plInstall k) := plans_of_plannerFrame (Device.plannerFrame_plInstall d k (.refl d k))

theorem raise (g : Fld) (hg : g.addr = AX_PL_EVENT k) : Plans d (d.raise g) :=
  .put d g 1 (.inl ⟨k, by simp only [plannerReg, hg, AX_PL_EVENT, AX_PL_CTRL]; omega⟩)

theorem plNo (code : Nat) : Plans d (d.plNo k code).2 :=
  (Aside.livePut d (AX_PL_STATUS_REFUSE_LAST k) code ⟨k, rfl⟩).trans (raise _ k _ rfl)

theorem plBeginStop (kind st : Nat) : Plans d (d.plBeginStop k kind st) :=
  ((setPl d k _).trans (setPlState _ k st)).trans (plInstall _ k)

variable {d k}

/-- The two outcomes of a change that is accepted or not. -/
theorem res_ite {p : Prop} [Decidable p] {a b : Res} (h : Plans d a.2) (g : Plans d b.2) : Plans d (if p then a else b).2 := by
  split
  · exact h
  · exact g

variable (d k)

theorem plStart (mode : Nat) (target jog : Int) : Plans d (d.plStart k mode target jog).2 := by
  unfold Device.plStart
  refine res_ite (plNo d k _) (res_ite (plNo d k _) (res_ite (plNo d k _) (res_ite ?_ (res_ite (plNo d k _) ?_))))
  · exact (setPl d k _).trans (plReport _ k)
  · exact ((setPl d k _).trans (setPlState _ k _)).trans (plInstall _ k)

theorem plAskStop (kind : Nat) : Plans d (d.plAskStop k kind).2 := res_ite (plNo d k _) (plBeginStop d k kind _)

theorem plDoLimits (new : Option Limits) : Plans d (d.plDoLimits k new).2 := by
  unfold Device.plDoLimits
  refine res_ite (plNo d k _) (res_ite (plNo d k _) ?_)
  cases new with
  | none => exact plNo d k _
  | some l =>
    refine res_ite (plNo d k _) ?_
    extract_lets beyond noOver l2 defer d1 d2 d3
    have h2 : Plans d d2 := (setPl d k _).trans (.livePut _ _ _ ⟨k, rfl⟩)
    exact res_ite (h2.trans (plReport _ k)) (res_ite (plNo d k _) ((h2.trans (.ite (raise _ k _ rfl) (.refl d2))).trans (plInstall _ k)))

theorem plDoHold : Plans d (d.plDoHold k).2 := by
  unfold Device.plDoHold
  exact res_ite (plNo d k _) (res_ite (.refl d) (res_ite (plNo d k _) (((setPl d k _).trans (setPlState _ k _)).trans (plInstall _ k))))

theorem plDoResume : Plans d (d.plDoResume k).2 := by
  unfold Device.plDoResume
  exact res_ite (plNo d k _) (res_ite (plNo d k _) (res_ite (plNo d k _)
    ((((setPl d k _).trans (setPlState _ k _)).trans (plInstall _ k)).trans (setPl _ k _))))

theorem plDoStop : Plans d (d.plDoStop k).2 := by
  unfold Device.plDoStop
  exact res_ite (plNo d k _) (res_ite (plNo d k _) (res_ite (.refl d) (plAskStop d k 1)))

theorem plDoQstop : Plans d (d.plDoQstop k).2 := by
  unfold Device.plDoQstop
  exact res_ite (plNo d k _) (res_ite (plNo d k _) (res_ite (.refl d) (plAskStop d k 2)))

theorem plDoShift (off : Int) : Plans d (d.plDoShift k off).2 := by
  unfold Device.plDoShift
  exact res_ite (plNo d k _) (res_ite (plNo d k _) (res_ite (plNo d k _) (res_ite (plNo d k _) (res_ite (plNo d k _)
    ((setPl d k _).trans (plSquash _ k))))))

theorem plDoQuick : Plans d (d.plDoQuick k) := by
  unfold Device.plDoQuick
  exact .ite (.refl d) (.ite (.refl d) (plBeginStop d k 2 _))

theorem plDoSlow : Plans d (d.plDoSlow k) := by
  unfold Device.plDoSlow
  exact .ite (.refl d) (plBeginStop d k 1 _)

theorem plDoDisable : Plans d (d.plDoDisable k) := by
  unfold Device.plDoDisable
  extract_lets st p d1 ctl
  have h1 : Plans d d1 := setPl d k _
  exact .ite (.refl d) (.ite ((h1.trans (setPl _ k _)).trans (setPlState _ k _)) (.ite (h1.trans (setPlState _ k _))
    (.ite ((h1.trans (setPl _ k _)).trans (setPlState _ k _)) (h1.trans (plBeginStop _ k _ _)))))

theorem plDo (r : PlReq) : Plans d (d.plDo k r).2 := by
  cases r with
  | quick r => exact plDoQuick d k
  | slow => exact plDoSlow d k
  | disable => exact plDoDisable d k
  | qstop => exact plDoQstop d k
  | stop => exact plDoStop d k
  | hold => exact plDoHold d k
  | resume => exact plDoResume d k
  | limits l r => exact plDoLimits d k l
  | shift off => exact plDoShift d k off
  | go target => exact plStart d k 1 _ _
  | jog vel => exact plStart d k 2 _ _

theorem plBack : Plans d (d.plBack k) := by
  unfold Device.plBack
  extract_lets t d1 d2
  have h1 : Plans d d1 := ⟨rfl, rfl, .regs _ rfl, fun f hf => by
    simp only [Device.liveGet, d1, Store.get_set_other _ _ _ _ _ fun ha => hf ⟨k, ha⟩]⟩
  have h2 : Plans d d2 := (h1.trans (.livePut _ _ _ ⟨k, rfl⟩)).trans (.livePut _ _ _ ⟨k, rfl⟩)
  exact (h2.trans (setPl _ k _)).trans (plReport _ k)

theorem plRun (r : PlReq) (rs : List PlReq) : Plans d (d.plRun k r rs).2 := by
  have hstep : ∀ (rs : List PlReq) (a : Res), Plans d a.2 → Plans d (rs.foldl (fun (a : Res) q =>
      let (c, e) := a.2.plDo k q
      (if q = r then c else a.1, e)) a).2 := by
    intro rs
    induction rs with
    | nil => exact fun _ h => h
    | cons q rs ih => exact fun a h => ih _ (h.trans (plDo a.2 k q))
  exact hstep rs (0, d) (.refl d)

/-- A change of a planner in whatever turn of the tick (R48). -/
theorem plAsk (r : PlReq) : Plans d (d.plAsk k r).2 := by
  unfold Device.plAsk
  extract_lets hist reqs t base
  split
  next c e he =>
  have hdone : Plans d (if hist.any (fun q => decide (r.rank < q.rank)) then (d.plBack k).plRun k r reqs else d.plDo k r).2 :=
    res_ite ((plBack d k).trans (plRun _ k r reqs)) (plDo d k r)
  rw [he] at hdone
  exact hdone.trans (.same rfl rfl rfl rfl)

theorem plDisable : Plans d (d.plDisable k) := plAsk d k .disable

end Plans

/-! ### The disable reaction (R55) -/

theorem Device.plState_plBeginStop (d : Device) (k kind : Nat) {st : Nat} (hst : st < 16) : (d.plBeginStop k kind st).plState k = st :=
  (Device.installed_plInstall _ k).plState.trans (Device.plState_setPlState _ k st hst)

/-- The disable reaction brings a planner that is not OFF to DISABLING. -/
theorem Device.plState_plDoDisable {d : Device} {k : Nat} (h : d.plState k ≠ plOFF) : (d.plDoDisable k).plState k = plDISABLING := by
  have hset : ∀ e : Device, (e.setPlState k plDISABLING).plState k = plDISABLING := fun e => e.plState_setPlState k _ (by decide)
  unfold Device.plDoDisable
  extract_lets st p d1 ctl
  by_cases hd : st = plOFF ∨ st = plDISABLING
  · rw [if_pos hd]
    exact hd.resolve_left h
  · rw [if_neg hd]
    split
    · exact hset _
    · split
      · exact hset _
      · split
        · exact hset _
        · exact Device.plState_plBeginStop _ k _ (by decide)

/-- In its turn of the tick a disable is taken as the planner stands. -/
theorem Device.plState_plDisable {d : Device} {k : Nat} (h : d.plState k ≠ plOFF) (hturn : Claims.inTurn d k .disable) :
    (d.plDisable k).plState k = plDISABLING := by
  rw [Device.plDisable, Device.plAsk_inTurn hturn]
  exact Device.plState_plDoDisable h

end Machine
end Sys2Proof
end

section
/-! A write of AX_CTRL (R120–R124): what its fields become, what the conditions of an enable depend on, and the outcomes of the
enable request. -/

namespace Sys2Proof

open Sys2Proof.Machine

namespace Machine

/-! ### The bindings shown anew (R272) -/

/-- The registers in which the pairs' bindings stand. -/
def bindReg (a : Nat) : Prop := ∃ p < 12, a = MD_PAIR_STATUS p

/-- The snapshot registers in which the axes' bindings stand. -/
def bindLive (a : Nat) : Prop := ∃ j, a = AX_MB_STATUS j

theorem not_bindReg {a : Nat} (ha : a < 0xB0000 ∨ 0x100000 ≤ a) : ¬ bindReg a := by
  rintro ⟨p, hp, rfl⟩
  simp only [MD_PAIR_STATUS] at ha
  omega

theorem not_bindLive {k o a : Nat} (ha : a = 0x100000 + 0x400 * k + o) (ho : o < 0x300) : ¬ bindLive a := by
  rintro ⟨j, hj⟩
  simp only [AX_MB_STATUS] at hj
  omega

theorem Aside.bindShow (d : Device) : Aside bindReg bindLive d d.bindShow := by
  unfold Device.bindShow
  extract_lets d1
  have h1 : Aside bindReg bindLive d d1 := Aside.foldl _ (fun b j _ => .livePut b _ _ ⟨j, rfl⟩) d
  refine h1.trans (Aside.foldl _ (fun b p hp => ?_) d1)
  extract_lets a sto
  have hput : Aside bindReg bindLive b (b.put (MD_PAIR_STATUS_BOUND p) (b2n a.isSome)) := .put b _ _ ⟨p, List.mem_range.mp hp, rfl⟩
  exact hput.trans (.same rfl rfl rfl rfl)

/-- The block without what shows bindings. -/
def Device.unbound (d : Device) : Device := { d with regs := [], live := [], pairs := [] }

theorem Device.unbound_bindShow (d : Device) : d.bindShow.unbound = d.unbound := by
  unfold Device.bindShow
  refine (foldl_part Device.unbound ?_ _ _).trans (foldl_part Device.unbound ?_ _ _)
  · intro b p
    rfl
  · intro b j
    rfl

theorem planners_of_unbound {d e : Device} (h : e.unbound = d.unbound) : e.planners = d.planners := by
  have hpart : e.unbound.planners = d.unbound.planners := by rw [h]
  exact hpart
theorem plTicks_of_unbound {d e : Device} (h : e.unbound = d.unbound) : e.plTicks = d.plTicks := by
  have hpart : e.unbound.plTicks = d.unbound.plTicks := by rw [h]
  exact hpart

/-! ### The fields of AX_CTRL -/

section Stored
variable (d : Device) (k v : Nat)

/-- VARIANT, STEP_CL and COMM_MODE written. -/
def Device.modePut : Device :=
  ((d.put (AX_CTRL_VARIANT k) (bits v 5 3)).put (AX_CTRL_STEP_CL k) (bits v 4 1)).put (AX_CTRL_COMM_MODE k) (bits v 2 2)

/-- VARIANT, STEP_CL and COMM_MODE taken in OFF (R120), with COMM_VALID lost by a new COMM_MODE (R123). -/
def Device.modeTaken : Device :=
  if bits v 2 2 = d.get (AX_CTRL_COMM_MODE k) then d.modePut k v else (d.modePut k v).livePut (AX_STATUS_COMM_VALID k) 0

/-- EN written, with VALID of the axis's own binding. -/
def Device.enPut : Device := (d.put (AX_CTRL_EN k) (v % 2)).livePut (AX_MB_STATUS_VALID k) (b2n (d.mbValid k))

/-- The fields of a write of AX_CTRL, before the request that it makes. -/
def Device.ctrlStored : Device := ((if d.axState k = axOFF then d.modeTaken k v else d).enPut k v).bindShow

theorem Device.axCtrlWrite_eq :
    d.axCtrlWrite k v = if bit v 0 then (d.ctrlStored k v).enableReq k else (d.ctrlStored k v).disableReq k := by
  unfold Device.axCtrlWrite Device.ctrlStored Device.modeTaken Device.modePut Device.enPut
  by_cases hst : d.axState k = axOFF
  · by_cases hc : bits v 2 2 = d.get (AX_CTRL_COMM_MODE k)
    · simp only [hst, hc, ne_eq, not_true_eq_false, decide_true, decide_false, Bool.and_false, Bool.false_eq_true, if_true, if_false]
    · simp only [hst, hc, ne_eq, not_false_eq_true, decide_true, Bool.and_true, if_true, if_false]
  · simp only [hst, decide_false, Bool.false_and, Bool.false_eq_true, if_false]

theorem Device.aside_modePut : Aside (· = AX_CTRL k) (· = AX_STATUS k) d (d.modePut k v) := by
  have hput : ∀ (b : Device) (f : Fld) (n : Nat), f.addr = AX_CTRL k → Aside (· = AX_CTRL k) (· = AX_STATUS k) b (b.put f n) :=
    fun b f n hf => .put b f n hf
  exact ((hput d _ _ rfl).trans (hput _ _ _ rfl)).trans (hput _ _ _ rfl)

theorem Device.aside_modeTaken : Aside (· = AX_CTRL k) (· = AX_STATUS k) d (d.modeTaken k v) := by
  unfold Device.modeTaken
  exact .ite (d.aside_modePut k v) ((d.aside_modePut k v).trans (.livePut _ (AX_STATUS_COMM_VALID k) 0 rfl))

theorem Device.get_modePut : (d.modePut k v).variant k = bits v 5 3 ∧ (d.modePut k v).get (AX_CTRL_STEP_CL k) = bits v 4 1 ∧
    (d.modePut k v).get (AX_CTRL_COMM_MODE k) = bits v 2 2 := by
  unfold Device.modePut Device.variant
  refine ⟨?_, ?_, ?_⟩
  · rw [Device.get_put_bits, Device.get_put_bits, Device.get_put_same, Nat.mod_eq_of_lt] <;>
      simp only [AX_CTRL_VARIANT, AX_CTRL_STEP_CL, AX_CTRL_COMM_MODE, bits] <;> omega
  · rw [Device.get_put_bits, Device.get_put_same, Nat.mod_eq_of_lt] <;>
      simp only [AX_CTRL_STEP_CL, AX_CTRL_COMM_MODE, bits] <;> omega
  · rw [Device.get_put_same, Nat.mod_eq_of_lt] <;> simp only [AX_CTRL_COMM_MODE, bits] <;> omega

theorem Device.get_modeTaken (f : Fld) : (d.modeTaken k v).get f = (d.modePut k v).get f := by
  unfold Device.modeTaken
  split
  · rfl
  · exact Device.get_livePut _ _ _ _

@[simp] theorem Device.liveGet_modePut (f : Fld) : (d.modePut k v).liveGet f = d.liveGet f := by
  simp only [Device.modePut, Device.liveGet_put]

/-- Of AX_STATUS only COMM_VALID may change. -/
theorem Device.liveGet_modeTaken (f : Fld) (h : f.lo + f.width ≤ 17) : (d.modeTaken k v).liveGet f = d.liveGet f := by
  unfold Device.modeTaken
  split
  · exact d.liveGet_modePut k v f
  · exact (Device.liveGet_livePut_bits _ (AX_STATUS_COMM_VALID k) f 0 (.inl h) (by omega)).trans (d.liveGet_modePut k v f)

theorem Device.liveHas_modeTaken : (d.modeTaken k v).liveHas (AX_STATUS_COMM_VALID k) =
    (d.liveHas (AX_STATUS_COMM_VALID k) && decide (bits v 2 2 = d.get (AX_CTRL_COMM_MODE k))) := by
  unfold Device.modeTaken
  by_cases h : bits v 2 2 = d.get (AX_CTRL_COMM_MODE k)
  · rw [if_pos h, decide_eq_true h, Bool.and_true, Device.liveHas, Device.liveGet_modePut, Device.liveHas]
  · rw [if_neg h, decide_eq_false h, Bool.and_false, Device.liveHas, Device.liveGet_livePut_same]
    · rfl
    · simp only [AX_STATUS_COMM_VALID]; decide

theorem Device.unbound_modeTaken : (d.modeTaken k v).unbound = d.unbound := by
  unfold Device.modeTaken
  split <;> rfl

/-- The registers that a write of AX_CTRL changes by itself. -/
def storedReg (k a : Nat) : Prop := a = AX_CTRL k ∨ bindReg a

theorem not_bindReg_ctrl : ¬ bindReg (AX_CTRL k) := not_bindReg (.inr (by simp only [AX_CTRL]; omega))

theorem not_bindLive_axStatus : ¬ bindLive (AX_STATUS k) := not_bindLive (k := k) (o := 4) (by simp only [AX_STATUS]; omega) (by decide)

theorem Device.aside_enPut : Aside (· = AX_CTRL k) bindLive d (d.enPut k v) := by
  have hen : Aside (· = AX_CTRL k) bindLive d (d.put (AX_CTRL_EN k) (v % 2)) := .put _ _ _ rfl
  exact hen.trans (.livePut _ (AX_MB_STATUS_VALID k) _ ⟨k, rfl⟩)

theorem Device.get_enPut_en : (d.enPut k v).get (AX_CTRL_EN k) = v % 2 := by
  rw [Device.enPut, Device.get_livePut, Device.get_put_same _ _ _ (by simp only [AX_CTRL_EN]; decide)]
  exact Nat.mod_mod v 2

theorem Device.get_enPut_other {f : Fld} (h : 1 ≤ f.lo) (h' : f.lo + f.width ≤ 32) : (d.enPut k v).get f = d.get f := by
  rw [Device.enPut, Device.get_livePut]
  exact d.get_put_bits (AX_CTRL_EN k) f _ (.inr h) h'

theorem Device.unbound_ctrlStored : (d.ctrlStored k v).unbound = d.unbound := by
  unfold Device.ctrlStored
  rw [Device.unbound_bindShow]
  split
  · exact d.unbound_modeTaken k v
  · rfl

/-- What a write of AX_CTRL leaves of the block before its request. -/
theorem Device.aside_ctrlStored : Aside (storedReg k) (fun a => a = AX_STATUS k ∨ bindLive a) d (d.ctrlStored k v) := by
  have hmode : Aside (storedReg k) (fun a => a = AX_STATUS k ∨ bindLive a) d (if d.axState k = axOFF then d.modeTaken k v else d) :=
    .ite ((d.aside_modeTaken k v).mono (fun _ => .inl) fun _ => .inl) (.refl d)
  exact (hmode.trans ((Device.aside_enPut _ k v).mono (fun _ => .inl) fun _ => .inr)).trans
    ((Aside.bindShow _).mono (fun _ => .inr) fun _ => .inr)

/-- A field of AX_CTRL but EN is the one taken in OFF, and as it was elsewhere. -/
theorem Device.get_ctrlStored {f : Fld} (hf : f.addr = AX_CTRL k) (h : 1 ≤ f.lo) (h' : f.lo + f.width ≤ 32) :
    (d.ctrlStored k v).get f = (if d.axState k = axOFF then d.modeTaken k v else d).get f :=
  ((Aside.bindShow _).get (hf ▸ not_bindReg_ctrl k)).trans (Device.get_enPut_other _ k v h h')

theorem Device.get_ctrlStored_en : (d.ctrlStored k v).get (AX_CTRL_EN k) = v % 2 :=
  ((Aside.bindShow _).get (not_bindReg_ctrl k)).trans (Device.get_enPut_en _ k v)

theorem Device.liveGet_ctrlStored {f : Fld} (hf : ∃ j, f.addr = AX_STATUS j) :
    (d.ctrlStored k v).liveGet f = (if d.axState k = axOFF then d.modeTaken k v else d).liveGet f := by
  obtain ⟨j, hj⟩ := hf
  have hb : ¬ bindLive f.addr := hj ▸ not_bindLive_axStatus j
  exact ((Aside.bindShow _).live f hb).trans ((Device.aside_enPut _ k v).live f hb)

/-- Every axis is in the STATE it was in. -/
theorem Device.axState_ctrlStored (j : Nat) : (d.ctrlStored k v).axState j = d.axState j := by
  refine (d.liveGet_ctrlStored k v (f := AX_STATUS_STATE j) ⟨j, rfl⟩).trans ?_
  split
  · exact d.liveGet_modeTaken k v _ (by simp only [AX_STATUS_STATE]; decide)
  · rfl

theorem Device.ax_ctrlStored (j : Nat) : (d.ctrlStored k v).ax j = d.ax j := (d.aside_ctrlStored k v).ax j

theorem Device.planners_ctrlStored : (d.ctrlStored k v).planners = d.planners := planners_of_unbound (d.unbound_ctrlStored k v)

theorem Device.plTicks_ctrlStored : (d.ctrlStored k v).plTicks = d.plTicks := plTicks_of_unbound (d.unbound_ctrlStored k v)

end Stored

/-! ### The enable conditions (R121) -/

/-- The engine slot of an axis is told by the slot registers. -/
theorem Device.slotOf_congr {d e : Device} (h : ∀ a, 0x200000 ≤ a → e.rd a = d.rd a) (k : Nat) : e.slotOf k = d.slotOf k := by
  have hA : ∀ x, e.rd (DV_SLOT_A x) = d.rd (DV_SLOT_A x) := fun x => h _ (by simp only [DV_SLOT_A]; omega)
  have hB : ∀ x, e.rd (DV_SLOT_B x) = d.rd (DV_SLOT_B x) := fun x => h _ (by simp only [DV_SLOT_B]; omega)
  simp only [Device.slotOf, Device.slotAxis, Device.rdN, hA, hB]

section Conditions
variable {d e : Device} {k : Nat} (hregs : sameRegs d e (· = AX_EVENT k))
include hregs

theorem Device.mbValid_congr (j : Nat) : e.mbValid j = d.mbValid j := by
  have hne : ∀ (i o a : Nat), a = 0x100000 + 0x400 * i + o → o < 0x400 → o ≠ 8 → e.rd a = d.rd a := by
    rintro i o a rfl ho h8
    refine hregs _ ?_
    simp only [AX_EVENT]
    omega
  have hctrl : ∀ i, e.rd (AX_CTRL i) = d.rd (AX_CTRL i) := fun i => hne i 0 _ (by simp only [AX_CTRL]; omega) (by decide) (by decide)
  have hkind : ∀ i, e.rd (AX_MB_CTRL i) = d.rd (AX_MB_CTRL i) := fun i =>
    hne i 0x3C0 _ (by simp only [AX_MB_CTRL]; omega) (by decide) (by decide)
  have hpairs : ∀ i, e.rd (AX_MB_PAIRS i) = d.rd (AX_MB_PAIRS i) := fun i =>
    hne i 0x3C4 _ (by simp only [AX_MB_PAIRS]; omega) (by decide) (by decide)
  have hchan : ∀ i, e.rd (AX_MB_CHAN i) = d.rd (AX_MB_CHAN i) := fun i =>
    hne i 0x3C8 _ (by simp only [AX_MB_CHAN]; omega) (by decide) (by decide)
  have hv : ∀ i, e.variant i = d.variant i := fun i => by simp only [Device.variant, Device.get, AX_CTRL_VARIANT, hctrl]
  have hk : ∀ i, e.get (AX_MB_CTRL_KIND i) = d.get (AX_MB_CTRL_KIND i) := fun i => by simp only [Device.get, AX_MB_CTRL_KIND, hkind]
  have hclaims : e.claims = d.claims := by
    funext i
    have hp : e.get (AX_MB_PAIRS_PAIRS i) = d.get (AX_MB_PAIRS_PAIRS i) := by simp only [Device.get, AX_MB_PAIRS_PAIRS, hpairs]
    unfold Device.claims
    rw [hk i, hv i, hp]
  have hbound : e.boundAxes = d.boundAxes := by
    funext n
    simp only [Device.boundAxes, hk]
  have hc : ∀ i, e.get (AX_MB_CHAN_CHAN i) = d.get (AX_MB_CHAN_CHAN i) := fun i => by simp only [Device.get, AX_MB_CHAN_CHAN, hchan]
  unfold Device.mbValid
  rw [hv j, hk j, hclaims, hbound]
  simp only [hc]

/-- The conditions depend neither on AX_EVENT nor on what AX_STATUS holds of requests. -/
theorem Device.enableCode_congr (hk : k < 192) (hlive : ∀ f : Fld, f.lo + f.width ≤ 8 ∨ 16 ≤ f.lo → f.lo + f.width ≤ 32 →
    e.liveGet f = d.liveGet f) (hports : e.ports = d.ports) (hsto : (e.ax k).sto = (d.ax k).sto) (hss1 : (e.ax k).ss1 = (d.ax k).ss1) :
    e.enableCode k = d.enableCode k := by
  have hget : ∀ f : Fld, f.addr ≠ AX_EVENT k → e.get f = d.get f := fun f hf => hregs.get hf
  have hst : e.axState k = d.axState k := hlive _ (.inl (by simp only [AX_STATUS_STATE]; decide)) (by simp only [AX_STATUS_STATE]; decide)
  have hpri : e.liveHas (AX_FB_STATUS_PRI_VALID k) = d.liveHas (AX_FB_STATUS_PRI_VALID k) := by
    rw [Device.liveHas, hlive _ (by simp only [AX_FB_STATUS_PRI_VALID]; decide) (by simp only [AX_FB_STATUS_PRI_VALID]; decide), Device.liveHas]
  have hsec : e.liveHas (AX_FB_STATUS_SEC_VALID k) = d.liveHas (AX_FB_STATUS_SEC_VALID k) := by
    rw [Device.liveHas, hlive _ (by simp only [AX_FB_STATUS_SEC_VALID]; decide) (by simp only [AX_FB_STATUS_SEC_VALID]; decide), Device.liveHas]
  have hcomm : e.liveHas (AX_STATUS_COMM_VALID k) = d.liveHas (AX_STATUS_COMM_VALID k) := by
    rw [Device.liveHas, hlive _ (by simp only [AX_STATUS_COMM_VALID]; decide) (by simp only [AX_STATUS_COMM_VALID]; decide), Device.liveHas]
  have hctrl : ∀ f : Fld, f.addr = AX_CTRL k → e.get f = d.get f := fun f hf => hget f (by simp only [hf, AX_CTRL, AX_EVENT]; omega)
  have hsrc : ∀ f : Fld, f.addr = AX_FB_SRC k → e.get f = d.get f := fun f hf => hget f (by simp only [hf, AX_FB_SRC, AX_EVENT]; omega)
  have hgens : e.gensOf k = d.gensOf k := List.filter_congr fun g hg => by
    rw [hget (ST_CTRL_AXIS g) (by simp only [ST_CTRL_AXIS, ST_CTRL, AX_EVENT]; have := List.mem_range.mp hg; omega)]
  have hoff : e.has (holdOff k) = d.has (holdOff k) := by
    rw [Device.has, hget _ (by simp only [holdOff, LG_HOLDOFF, AX_EVENT]; omega), Device.has]
  have hslot : e.slotOf k = d.slotOf k := Device.slotOf_congr (fun a ha => hregs a (by simp only [AX_EVENT]; omega)) k
  have hv : e.variant k = d.variant k := hctrl _ rfl
  have hcommutes : e.commutates k = d.commutates k := by
    unfold Device.commutates Device.has
    rw [hv, hctrl (AX_CTRL_STEP_CL k) rfl]
  have hready : e.fbReady k = d.fbReady k := by
    unfold Device.fbReady Device.portMute Device.port Device.has
    rw [hv, hpri, hsec, hports, hsrc (AX_FB_SRC_PRI_KIND k) rfl, hsrc (AX_FB_SRC_DUAL k) rfl, hsrc (AX_FB_SRC_PRI_ID k) rfl,
      hsrc (AX_FB_SRC_SEC_KIND k) rfl, hsrc (AX_FB_SRC_SEC_ID k) rfl]
  unfold Device.enableCode
  extract_lets v s v' s'
  have hv' : v = v' := hv
  have hsto' : s.sto = s'.sto := hsto
  have hss1' : s.ss1 = s'.ss1 := hss1
  rw [hst, hv', hready, hsto', hss1', Device.mbValid_congr hregs k, hgens, hslot, hcommutes, hcomm, hctrl (AX_CTRL_COMM_MODE k) rfl, hoff]

end Conditions

/-- A first condition that fails has a code of its own. -/
theorem ite_code_eq_zero {p : Prop} [Decidable p] {n x : Nat} (hn : n ≠ 0) : (if p then n else x) = 0 ↔ ¬ p ∧ x = 0 := by
  by_cases h : p <;> simp [h, hn]

/-- The code is 0 exactly where every condition of R121 holds. -/
theorem Device.enableCode_eq_zero_iff (d : Device) (k : Nat) : d.enableCode k = 0 ↔
    (d.axState k = axOFF ∧ (d.variant k ≤ 3 ∨ d.variant k = 7) ∧ d.fbReady k = true ∧ (d.ax k).sto = false ∧ (d.ax k).ss1 = false ∧
      (d.mbValid k = true ∨ ∃ g < 16, d.get (ST_CTRL_AXIS g) = k) ∧ (d.slotOf k).isSome = true ∧
      (d.commutates k = true → d.liveHas (AX_STATUS_COMM_VALID k) = true ∨ d.get (AX_CTRL_COMM_MODE k) = 1) ∧
      d.has (holdOff k) = false) := by
  have hgens : (d.gensOf k).isEmpty = true ↔ ¬ ∃ g < 16, d.get (ST_CTRL_AXIS g) = k := by
    simp [Device.gensOf]
  unfold Device.enableCode
  extract_lets v s
  have hvar : ¬ (¬ v ≤ 3 ∧ ¬ v = 7) ↔ v ≤ 3 ∨ v = 7 := by tauto
  have hbind : ¬ (d.mbValid k = false ∧ ¬ ∃ g < 16, d.get (ST_CTRL_AXIS g) = k) ↔
      d.mbValid k = true ∨ ∃ g < 16, d.get (ST_CTRL_AXIS g) = k := by
    rw [not_and_or, not_not, Bool.not_eq_false]
  have hcomm : ¬ (d.commutates k = true ∧ d.liveHas (AX_STATUS_COMM_VALID k) = false ∧ ¬ d.get (AX_CTRL_COMM_MODE k) = 1) ↔
      (d.commutates k = true → d.liveHas (AX_STATUS_COMM_VALID k) = true ∨ d.get (AX_CTRL_COMM_MODE k) = 1) := by
    rw [not_and, not_and_or, not_not, Bool.not_eq_false]
  simp only [ite_code_eq_zero, ne_eq, OfNat.ofNat_ne_zero, one_ne_zero, not_false_eq_true, not_not, not_or, Bool.and_eq_true, Bool.not_eq_true',
    Bool.not_eq_true, Bool.not_eq_false, hgens, and_true, Option.isNone_eq_false_iff]
  rw [hvar, hbind, hcomm, and_assoc]

/-- On the way to OFF the axis is busy. -/
theorem Device.enableCode_not_off {d : Device} {k : Nat} (h : d.axState k ≠ axOFF) : d.enableCode k = 7 := if_pos h

theorem Device.enableCode_le (d : Device) (k : Nat) : d.enableCode k ≤ 8 := by
  unfold Device.enableCode
  extract_lets v s
  split_ifs <;> decide

/-! ### The outcomes of an enable request (R121, R122) -/

section Request
variable (d : Device) (k : Nat)

theorem Aside.axRefuse (code : Nat) : Aside (· = AX_EVENT k) (· = AX_STATUS k) d (d.axRefuse k code) := by
  have hlast : Aside (· = AX_EVENT k) (· = AX_STATUS k) d (d.livePut (AX_STATUS_REFUSE_LAST k) code) := .livePut _ _ _ rfl
  exact hlast.trans (.put _ (AX_EVENT_REFUSED k) 1 rfl)

theorem Device.liveGet_axRefuse_code {code : Nat} (h : code < 256) : (d.axRefuse k code).liveGet (AX_STATUS_REFUSE_LAST k) = code := by
  rw [Device.axRefuse, Device.raise, Device.liveGet_put, Device.liveGet_livePut_same _ _ _ (by simp only [AX_STATUS_REFUSE_LAST]; decide)]
  exact Nat.mod_eq_of_lt h

theorem Device.liveGet_axRefuse_other (code : Nat) {f : Fld} (h : f.lo + f.width ≤ 8 ∨ 16 ≤ f.lo) (h' : f.lo + f.width ≤ 32) :
    (d.axRefuse k code).liveGet f = d.liveGet f := by
  rw [Device.axRefuse, Device.raise, Device.liveGet_put]
  exact d.liveGet_livePut_bits (AX_STATUS_REFUSE_LAST k) f code h h'

theorem Device.has_axRefuse (code : Nat) : (d.axRefuse k code).has (AX_EVENT_REFUSED k) = true := by
  rw [Device.has, Device.axRefuse, Device.raise, Device.get_put_same _ _ _ (by simp only [AX_EVENT_REFUSED]; decide)]
  rfl

theorem Device.ax_setAx_same (f : AxisCtl → AxisCtl) : (d.setAx k f).ax k = f (d.ax k) := Store.pick_upd_same d.axes {} k f

theorem Device.ax_setAx_other (f : AxisCtl → AxisCtl) {j : Nat} (h : j ≠ k) : (d.setAx k f).ax j = d.ax j :=
  Store.pick_upd_other d.axes {} k j f h

variable {d k}

theorem Device.enableReq_busy (h : d.axState k = axENABLING ∨ d.axState k = axRUN) : d.enableReq k = d := if_pos h

theorem Device.enableReq_refused (h : ¬ (d.axState k = axENABLING ∨ d.axState k = axRUN)) (hc : d.enableCode k ≠ 0) :
    d.enableReq k = d.axRefuse k (d.enableCode k) := (if_neg h).trans (if_pos hc)

/-- An enable that pends since a beat. -/
def AxisCtl.pending (n : Nat) (s : AxisCtl) : AxisCtl := { s with enPend := some n }

section Accepted
variable (h : d.axState k = axOFF) (hc : d.enableCode k = 0)
include h hc

theorem Device.enableReq_off : d.enableReq k = if (d.ax k).enPend.isSome then d else d.setAx k (AxisCtl.pending d.clk.beat) := by
  have hst : ¬ (d.axState k = axENABLING ∨ d.axState k = axRUN) := by rw [h]; decide
  exact (if_neg hst).trans (if_neg (not_not_intro hc))

/-- An enable that pends already goes on as it was. -/
theorem Device.enableReq_again {b : Nat} (hp : (d.ax k).enPend = some b) : d.enableReq k = d :=
  (Device.enableReq_off h hc).trans (if_pos (by rw [hp]; rfl))

theorem Device.enableReq_new (hp : (d.ax k).enPend = none) : d.enableReq k = d.setAx k (AxisCtl.pending d.clk.beat) :=
  (Device.enableReq_off h hc).trans (if_neg (by rw [hp]; decide))

end Accepted

/-- `e` is `d` after an enable request to axis `k` in OFF. -/
structure Requested (d e : Device) (k : Nat) : Prop where
  clk : e.clk = d.clk
  regs : sameRegs d e (· = AX_EVENT k)
  live : ∀ f : Fld, f.lo + f.width ≤ 8 ∨ 16 ≤ f.lo → f.lo + f.width ≤ 32 → e.liveGet f = d.liveGet f
  others : Claims.otherAxes d e k
  code : e.enableCode k = d.enableCode k
  accepted : d.enableCode k = 0 →
    (e.ax k).enPend = some ((d.ax k).enPend.getD d.clk.beat) ∧ e.has (AX_EVENT_REFUSED k) = d.has (AX_EVENT_REFUSED k)
  refused : d.enableCode k ≠ 0 →
    e.ax k = d.ax k ∧ e.liveGet (AX_STATUS_REFUSE_LAST k) = d.enableCode k ∧ e.has (AX_EVENT_REFUSED k) = true

theorem Device.requested_enableReq (hk : k < 192) (h : d.axState k = axOFF) : Requested d (d.enableReq k) k := by
  by_cases hc : d.enableCode k = 0
  · cases hp : (d.ax k).enPend with
    | some b =>
      rw [Device.enableReq_again h hc hp]
      exact ⟨rfl, .refl d _, fun _ _ _ => rfl, fun _ _ => rfl, rfl, fun _ => ⟨by rw [hp]; rfl, rfl⟩, fun hn => absurd hc hn⟩
    | none =>
      rw [Device.enableReq_new h hc hp]
      have hax := d.ax_setAx_same k (AxisCtl.pending d.clk.beat)
      refine ⟨rfl, .regs _ rfl, fun _ _ _ => rfl, fun _ hj => d.ax_setAx_other k _ hj, ?_, fun _ => ⟨?_, rfl⟩, fun hn => absurd hc hn⟩
      · exact Device.enableCode_congr (.regs _ rfl) hk (fun _ _ _ => rfl) rfl (by rw [hax]; rfl) (by rw [hax]; rfl)
      · rw [hax, hp]
        rfl
  · have hst : ¬ (d.axState k = axENABLING ∨ d.axState k = axRUN) := by rw [h]; decide
    rw [Device.enableReq_refused hst hc]
    have ha := Aside.axRefuse d k (d.enableCode k)
    have hlive := fun (f : Fld) => d.liveGet_axRefuse_other k (d.enableCode k) (f := f)
    have hcode : (d.axRefuse k (d.enableCode k)).enableCode k = d.enableCode k :=
      Device.enableCode_congr ha.regs hk hlive rfl (by rw [ha.ax]) (by rw [ha.ax])
    exact ⟨ha.clk, ha.regs, hlive, fun j _ => ha.ax j, hcode, fun h0 => absurd h0 hc, fun _ =>
      ⟨ha.ax k, d.liveGet_axRefuse_code k ((d.enableCode_le k).trans_lt (by decide)), d.has_axRefuse k _⟩⟩

end Request
end Machine

/-! ### ENABLE_REQUEST -/

section Enable
variable {s : State} (k : Fin 192) (rest : BitVec 31)

/-- The word that an ENABLE_REQUEST writes. -/
theorem bits_enableWord (n lo w : Nat) : bits (1 + 2 * n) (lo + 1) w = bits n lo w := by
  rw [bits, bits, pow_succ', ← Nat.div_div_eq_div_mul]
  congr 2
  omega

theorem Machine.Device.axCtrlWrite_enable (d : Device) (k n : Nat) :
    d.axCtrlWrite k (1 + 2 * n) = (d.ctrlStored k (1 + 2 * n)).enableReq k := by
  rw [Device.axCtrlWrite_eq, if_pos]
  simp [bit]

theorem storedReg_ctrlRegs {k a : Nat} (h : storedReg k a) : Claims.ctrlRegs k a := by
  obtain h | ⟨p, -, h⟩ := h
  · exact .inl h
  · exact .inr (.inr ⟨p, h⟩)

theorem not_storedReg_event (k : Nat) : ¬ storedReg k (AX_EVENT k) := by
  rintro (h | h)
  · simp only [AX_EVENT, AX_CTRL] at h
    omega
  · exact not_bindReg (.inr (by simp only [AX_EVENT]; omega)) h

theorem sameRegs_ctrlRegs {d e f : Device} {k : Nat} (h : sameRegs d e (storedReg k)) (g : sameRegs e f (· = AX_EVENT k)) :
    sameRegs d f (Claims.ctrlRegs k) :=
  (h.mono fun _ => storedReg_ctrlRegs).trans (g.mono fun _ ha => .inr (.inl ha))

section Cases
variable (hr : s.dev.inReset = false)
include hr

/-- An ENABLE_REQUEST completes with its request to the block in which its fields stand. -/
theorem leads_enableRequest {P : Device → Prop} {e : Device} (he : (s.dev.ctrlStored k (1 + 2 * rest.toNat)).enableReq k = e)
    (hclk : e.clk = (s.dev.ctrlStored k (1 + 2 * rest.toNat)).clk) (hP : P e) : leads (.enableRequest k rest) s P :=
  leads_onDev_of_clk rfl hr ((s.dev.axCtrlWrite_enable k rest.toNat).trans he) (hclk.trans (s.dev.aside_ctrlStored k _).clk) hP

theorem leads_enableRequest_busy (hst : s.dev.axState k = axENABLING ∨ s.dev.axState k = axRUN) :
    leads (.enableRequest k rest) s (fun d => d.get (AX_CTRL_EN k) = 1 ∧ d.axState k = s.dev.axState k ∧
      d.variant k = s.dev.variant k ∧ d.axes = s.dev.axes ∧ sameRegs s.dev d (fun a => Claims.ctrlRegs k a ∧ a ≠ AX_EVENT k)) := by
  let n := 1 + 2 * rest.toNat
  have hstored := s.dev.aside_ctrlStored k n
  have hstate := s.dev.axState_ctrlStored k n k
  have hoff : s.dev.axState k ≠ axOFF := by rintro h; rw [h] at hst; revert hst; decide
  refine leads_enableRequest k rest hr (Device.enableReq_busy (hstate.symm ▸ hst)) rfl ⟨?_, hstate, ?_, hstored.axes, ?_⟩
  · exact (s.dev.get_ctrlStored_en k n).trans (by omega)
  · have hv := s.dev.get_ctrlStored k n (f := AX_CTRL_VARIANT k) rfl (by simp only [AX_CTRL_VARIANT]; decide)
      (by simp only [AX_CTRL_VARIANT]; decide)
    rwa [if_neg hoff] at hv
  · refine hstored.regs.mono fun a ha => ⟨storedReg_ctrlRegs ha, ?_⟩
    rintro rfl
    exact not_storedReg_event k ha

theorem leads_enableRequest_stopping (hst : s.dev.axState k = axDISABLING ∨ s.dev.axState k = axRIDE) :
    leads (.enableRequest k rest) s (fun d => d.axState k = s.dev.axState k ∧ d.axes = s.dev.axes ∧
      d.liveGet (AX_STATUS_REFUSE_LAST k) = 7 ∧ d.has (AX_EVENT_REFUSED k) = true ∧ d.variant k = s.dev.variant k ∧
      sameRegs s.dev d (Claims.ctrlRegs k)) := by
  let n := 1 + 2 * rest.toNat
  let e := s.dev.ctrlStored k n
  have hstored : Aside _ _ s.dev e := s.dev.aside_ctrlStored k n
  have hstate : e.axState k = s.dev.axState k := s.dev.axState_ctrlStored k n k
  have hbusy : ¬ (e.axState k = axENABLING ∨ e.axState k = axRUN) ∧ e.axState k ≠ axOFF := by
    rw [hstate]
    obtain h | h := hst <;> rw [h] <;> decide
  have hcode : e.enableCode k = 7 := Device.enableCode_not_off hbusy.2
  have hrefused := Device.enableReq_refused hbusy.1 (by rw [hcode]; decide)
  have ha := Aside.axRefuse e k (e.enableCode k)
  rw [hcode] at hrefused ha
  have hv : e.variant k = s.dev.variant k := by
    have hv := s.dev.get_ctrlStored k n (f := AX_CTRL_VARIANT k) rfl (by simp only [AX_CTRL_VARIANT]; decide)
      (by simp only [AX_CTRL_VARIANT]; decide)
    rwa [if_neg (hstate ▸ hbusy.2)] at hv
  refine leads_enableRequest k rest hr hrefused ha.clk ⟨?_, ha.axes.trans hstored.axes, e.liveGet_axRefuse_code k (by decide),
    e.has_axRefuse k 7, (ha.get ?_).trans hv, sameRegs_ctrlRegs hstored.regs ha.regs⟩
  · exact (e.liveGet_axRefuse_other k 7 (.inl (by simp only [AX_STATUS_STATE]; decide)) (by simp only [AX_STATUS_STATE]; decide)).trans hstate
  · simp only [AX_CTRL_VARIANT, AX_CTRL, AX_EVENT]
    omega

theorem leads_enableRequest_off (hst : s.dev.axState k = axOFF) : leads (.enableRequest k rest) s (fun d =>
    d.get (AX_CTRL_EN k) = 1 ∧ d.variant k = bits rest.toNat 4 3 ∧ d.get (AX_CTRL_STEP_CL k) = bits rest.toNat 3 1 ∧
    d.get (AX_CTRL_COMM_MODE k) = bits rest.toNat 1 2 ∧ d.axState k = axOFF ∧
    d.liveHas (AX_STATUS_COMM_VALID k) =
      (s.dev.liveHas (AX_STATUS_COMM_VALID k) && decide (bits rest.toNat 1 2 = s.dev.get (AX_CTRL_COMM_MODE k))) ∧
    (d.enableCode k = 0 → (d.ax k).enPend = some ((s.dev.ax k).enPend.getD s.dev.clk.beat) ∧
      d.has (AX_EVENT_REFUSED k) = s.dev.has (AX_EVENT_REFUSED k)) ∧
    (d.enableCode k ≠ 0 → d.ax k = s.dev.ax k ∧ d.liveGet (AX_STATUS_REFUSE_LAST k) = d.enableCode k ∧
      d.has (AX_EVENT_REFUSED k) = true) ∧
    Claims.otherAxes s.dev d k ∧ sameRegs s.dev d (Claims.ctrlRegs k)) := by
  let n := 1 + 2 * rest.toNat
  let e := s.dev.ctrlStored k n
  have hstored : Aside _ _ s.dev e := s.dev.aside_ctrlStored k n
  have hstate : e.axState k = axOFF := (s.dev.axState_ctrlStored k n k).trans hst
  have hreq : Requested e (e.enableReq k) k := Device.requested_enableReq k.isLt hstate
  obtain ⟨hvariant, hstep, hmode⟩ := s.dev.get_modePut k n
  -- a field of AX_CTRL as the word gives it
  have hfield : ∀ f : Fld, f.addr = AX_CTRL k → 1 ≤ f.lo → f.lo + f.width ≤ 32 →
      (e.enableReq k).get f = (s.dev.modePut k n).get f := by
    intro f hf h h'
    rw [hreq.regs.get (by simp only [hf, AX_CTRL, AX_EVENT]; omega), s.dev.get_ctrlStored k n hf h h', if_pos hst, Device.get_modeTaken]
  have hevent : e.has (AX_EVENT_REFUSED k) = s.dev.has (AX_EVENT_REFUSED k) := hstored.has (not_storedReg_event k)
  have hvalid : e.liveHas (AX_STATUS_COMM_VALID k) = (s.dev.modeTaken k n).liveHas (AX_STATUS_COMM_VALID k) := by
    rw [Device.liveHas, s.dev.liveGet_ctrlStored k n ⟨k, rfl⟩, if_pos hst, Device.liveHas]
  refine leads_enableRequest k rest hr rfl hreq.clk ⟨?_, ?_, ?_, ?_, ?_, ?_, ?_, ?_, ?_, sameRegs_ctrlRegs hstored.regs hreq.regs⟩
  · rw [hreq.regs.get (by simp only [AX_CTRL_EN, AX_CTRL, AX_EVENT]; omega), s.dev.get_ctrlStored_en]
    omega
  · exact (hfield _ rfl (by simp only [AX_CTRL_VARIANT]; decide) (by simp only [AX_CTRL_VARIANT]; decide)).trans
      (hvariant.trans (bits_enableWord _ 4 3))
  · exact (hfield _ rfl (by simp only [AX_CTRL_STEP_CL]; decide) (by simp only [AX_CTRL_STEP_CL]; decide)).trans
      (hstep.trans (bits_enableWord _ 3 1))
  · exact (hfield _ rfl (by simp only [AX_CTRL_COMM_MODE]; decide) (by simp only [AX_CTRL_COMM_MODE]; decide)).trans
      (hmode.trans (bits_enableWord _ 1 2))
  · exact (hreq.live _ (.inl (by simp only [AX_STATUS_STATE]; decide)) (by simp only [AX_STATUS_STATE]; decide)).trans hstate
  · rw [Device.liveHas, hreq.live _ (.inr (by simp only [AX_STATUS_COMM_VALID]; decide)) (by simp only [AX_STATUS_COMM_VALID]; decide),
      ← Device.liveHas, hvalid, Device.liveHas_modeTaken, bits_enableWord]
  · intro hc
    obtain ⟨hpend, hnone⟩ := hreq.accepted (hreq.code ▸ hc)
    rw [hstored.ax, hstored.clk] at hpend
    exact ⟨hpend, hnone.trans hevent⟩
  · intro hc
    obtain ⟨hax, hlast, hraised⟩ := hreq.refused (hreq.code ▸ hc)
    exact ⟨hax.trans (hstored.ax k), hlast.trans hreq.code.symm, hraised⟩
  · exact fun j hj => (hreq.others j hj).trans (hstored.ax j)

end Cases
end Enable

theorem enableRequestChecksItsConditions : Claims.EnableRequestChecksItsConditions :=
  ⟨Device.enableCode_eq_zero_iff, fun _ k rest hr =>
    ⟨leads_enableRequest_busy k rest hr, leads_enableRequest_off k rest hr, leads_enableRequest_stopping k rest hr⟩⟩

end Sys2Proof
end

section
/-! A write of EN = 0 (R91, R122, R124): the outcomes of a disable request by the axis's STATE, alone and in a gantry pair. -/

namespace Sys2Proof

open Sys2Proof.Machine

namespace Machine

/-! ### The axes of a request (R91) -/

/-- The axes that a disable concerns are told by the pairs' GL_GP_CTRL. -/
theorem Aside.pairOf {R L : Nat → Prop} {d e : Device} (h : Aside R L d e) (hR : ∀ a < 0x40000, ¬ R a) (k : Nat) :
    e.pairOf k = d.pairOf k := by
  have hfound : ∀ {p : Nat → Bool} {g : Nat}, (List.range 16).find? p = some g → g < 16 := fun hg =>
    List.mem_range.mp (List.mem_of_find?_eq_some hg)
  unfold Device.pairOf
  rw [h.gpTwin hR, h.gpPrimary hR]
  cases ht : d.gpTwin k with
  | some g => simp only [h.get_gpCtrl hR (hfound ht) (x := GL_GP_CTRL_PRIMARY g) rfl]
  | none =>
    cases hp : d.gpPrimary k with
    | some g => simp only [h.get_gpCtrl hR (hfound hp) (x := GL_GP_CTRL_TWIN g) rfl]
    | none => rfl

/-- An axis that is disabled alone is no twin. -/
theorem Device.gpTwin_of_pairOf {d : Device} {k : Nat} (h : d.pairOf k = [k]) : d.gpTwin k = none := by
  cases ht : d.gpTwin k with
  | none => rfl
  | some g => simp [Device.pairOf, ht] at h

/-! ### A disable of one axis (R124) -/

/-- The way to OFF from RUN, with the beats of OFF_DELAY to come. -/
def AxisCtl.stopping (delay : Nat) (s : AxisCtl) : AxisCtl := { s with rest := none, offDelay := delay, cause := 1 }

/-- The way to OFF from an enable in progress. -/
def AxisCtl.abandoned (delay : Nat) (s : AxisCtl) : AxisCtl :=
  { s with rest := none, offDelay := delay, cause := 1, brakeAt := none, relAt := none, alignAt := none }

/-- No enable pends. -/
def AxisCtl.withdrawn (s : AxisCtl) : AxisCtl := { s with enPend := none }

/-- Axis `k` in DISABLING with its control changed by `f`. -/
def Device.disabling (d : Device) (k : Nat) (f : AxisCtl → AxisCtl) : Device := (d.setAx k f).setAxState k axDISABLING

section Disabling
variable (d : Device) (k : Nat) (f : AxisCtl → AxisCtl)

/-- STATE changed leaves everything but AX_STATUS alone. -/
theorem Aside.setAxState (st : Nat) : Aside (fun _ => False) (· = AX_STATUS k) d (d.setAxState k st) := .livePut d _ _ rfl

theorem Device.axState_setAxState {st : Nat} (h : st < 8) : (d.setAxState k st).axState k = st :=
  (d.liveGet_livePut_same (AX_STATUS_STATE k) st (by simp only [AX_STATUS_STATE]; decide)).trans (Nat.mod_eq_of_lt h)

theorem Device.axState_setAxState_other (st : Nat) {j : Nat} (h : j ≠ k) : (d.setAxState k st).axState j = d.axState j := by
  refine (Aside.setAxState d k st).axState ?_
  simp only [AX_STATUS]
  omega

theorem Device.axState_disabling : (d.disabling k f).axState k = axDISABLING := Device.axState_setAxState _ k (by decide)

theorem Device.axState_disabling_other {j : Nat} (h : j ≠ k) : (d.disabling k f).axState j = d.axState j :=
  Device.axState_setAxState_other (d.setAx k f) k _ h

theorem Device.ax_disabling : (d.disabling k f).ax k = f (d.ax k) := d.ax_setAx_same k f

theorem Device.ax_disabling_other {j : Nat} (h : j ≠ k) : (d.disabling k f).ax j = d.ax j := d.ax_setAx_other k f h

theorem Device.clk_disabling : (d.disabling k f).clk = d.clk := rfl

theorem Device.planners_disabling : (d.disabling k f).planners = d.planners := rfl

theorem Device.plTicks_disabling : (d.disabling k f).plTicks = d.plTicks := rfl

theorem Device.axState_setAx (j : Nat) : (d.setAx k f).axState j = d.axState j := rfl

theorem Device.get_disabling (g : Fld) : (d.disabling k f).get g = d.get g := rfl

/-- The planner's own state is no part of STATE. -/
theorem Device.plState_disabling (j : Nat) : (d.disabling k f).plState j = d.plState j := by
  refine (Aside.setAxState (d.setAx k f) k axDISABLING).live _ ?_
  simp only [AX_PL_STATUS_STATE, AX_PL_STATUS, AX_STATUS]
  omega

theorem Device.cyOf_disabling (j : Nat) : (d.disabling k f).cyOf j = d.cyOf j := by
  refine (Aside.setAxState (d.setAx k f) k axDISABLING).cyOf (fun _ _ => id) (fun a ha => ?_) j
  simp only [AX_STATUS]
  omega

theorem Device.gpTwin_disabling (j : Nat) : (d.disabling k f).gpTwin j = d.gpTwin j := rfl

/-- Blocks whose planner `k` stands the same have taken the same changes of it in this tick. -/
theorem Device.plHist_congr {d e : Device} {k : Nat} (hclk : e.clk = d.clk) (hpl : e.planners = d.planners) (htick : e.plTicks = d.plTicks)
    (hst : e.plState k = d.plState k) : e.plHist k = d.plHist k := by
  unfold Device.plHist Device.pl
  rw [hclk, hpl, htick, hst]

end Disabling

section Outcomes
variable {d : Device} {k delay : Nat}

theorem Device.disable1_pending (h : (d.ax k).enPend.isSome = true) : d.disable1 k 1 delay = d.setAx k AxisCtl.withdrawn := if_pos h

section Settled
variable (h : (d.ax k).enPend = none)
include h

theorem Device.disable1_settled : d.disable1 k 1 delay =
    if d.axState k = axRUN then (d.disabling k (AxisCtl.stopping delay)).axReact k
    else if d.axState k = axENABLING then d.disabling k (AxisCtl.abandoned delay) else d := if_neg (by rw [h]; decide)

theorem Device.disable1_run (hst : d.axState k = axRUN) :
    d.disable1 k 1 delay = (d.disabling k (AxisCtl.stopping delay)).axReact k := (Device.disable1_settled h).trans (if_pos hst)

theorem Device.disable1_enabling (hst : d.axState k = axENABLING) : d.disable1 k 1 delay = d.disabling k (AxisCtl.abandoned delay) :=
  (Device.disable1_settled h).trans ((if_neg (by rw [hst]; decide)).trans (if_pos hst))

theorem Device.disable1_stopped (h1 : d.axState k ≠ axRUN) (h2 : d.axState k ≠ axENABLING) : d.disable1 k 1 delay = d :=
  (Device.disable1_settled h).trans ((if_neg h1).trans (if_neg h2))

end Settled

/-- The disable reaction of an axis in no convoy: none of a twin, which waits for its primary (R91). -/
theorem Device.axReact_of_cyOf (h : d.cyOf k = none) : d.axReact k = if (d.gpTwin k).isSome then d else d.plDisable k :=
  if_neg (by rw [h]; decide)

theorem Device.axReact_alone (h : d.cyOf k = none) (ht : d.gpTwin k = none) : d.axReact k = d.plDisable k :=
  (Device.axReact_of_cyOf h).trans (if_neg (by rw [ht]; decide))

theorem Plans.axReact (h : d.cyOf k = none) : Plans d (d.axReact k) := by
  rw [Device.axReact_of_cyOf h]
  exact .ite (.refl d) (Plans.plDisable d k)

end Outcomes

/-! ### Both axes of a pair (R91) -/

/-- Axis `a` is in DISABLING with an OFF_DELAY. -/
def Device.stopsAfter (d : Device) (delay a : Nat) : Prop := d.axState a = axDISABLING ∧ (d.ax a).offDelay = delay

/-- Axis `a`, in no convoy and without a pending enable, is in RUN or already on its way to OFF. -/
def Device.stoppable (d : Device) (delay a : Nat) : Prop :=
  (d.ax a).enPend = none ∧ d.cyOf a = none ∧ (d.axState a = axRUN ∨ d.stopsAfter delay a)

/-- What a request to another axis keeps of axis `a`. -/
def Device.sameAxis (d e : Device) (a : Nat) : Prop := e.ax a = d.ax a ∧ e.axState a = d.axState a ∧ e.cyOf a = d.cyOf a

theorem Device.sameAxis.stopsAfter {d e : Device} {delay a : Nat} (h : sameAxis d e a) (hs : d.stopsAfter delay a) : e.stopsAfter delay a := by
  obtain ⟨hax, hst, -⟩ := h
  rwa [Device.stopsAfter, hst, hax]

theorem Device.sameAxis.stoppable {d e : Device} {delay a : Nat} (h : sameAxis d e a) (hs : d.stoppable delay a) : e.stoppable delay a := by
  obtain ⟨hpend, hcy, hst⟩ := hs
  obtain ⟨hax, hstate, hcyOf⟩ := id h
  exact ⟨hax ▸ hpend, hcyOf.trans hcy, hst.imp hstate.trans h.stopsAfter⟩

/-- A disable brings its axis on its way to OFF and keeps every other. -/
theorem Device.disable1_stops {d : Device} {delay b : Nat} (h : d.stoppable delay b) : (d.disable1 b 1 delay).clk = d.clk ∧
    (d.disable1 b 1 delay).stopsAfter delay b ∧ (d.disable1 b 1 delay).stoppable delay b ∧
    ∀ a, a ≠ b → sameAxis d (d.disable1 b 1 delay) a := by
  obtain ⟨hpend, hcy, hst⟩ := id h
  cases hst with
  | inl hrun =>
    rw [Device.disable1_run hpend hrun]
    let e := d.disabling b (AxisCtl.stopping delay)
    have hcye : ∀ a, e.cyOf a = d.cyOf a := d.cyOf_disabling b _
    have hplans : Plans e (e.axReact b) := .axReact ((hcye b).trans hcy)
    have hcyr : ∀ a, (e.axReact b).cyOf a = d.cyOf a := fun a =>
      (hplans.cyOf (fun _ => not_planReg_of_lt) (fun _ => not_planLive_of_lt) a).trans (hcye a)
    have hstate : ∀ a, (e.axReact b).axState a = e.axState a := fun a => hplans.axState (not_planLive_axStatus a)
    have hstops : (e.axReact b).stopsAfter delay b := by
      refine ⟨(hstate b).trans (d.axState_disabling b _), ?_⟩
      rw [hplans.ax, d.ax_disabling]
      rfl
    refine ⟨hplans.clk, hstops, ⟨?_, (hcyr b).trans hcy, .inr hstops⟩, fun a ha =>
      ⟨(hplans.ax a).trans (d.ax_disabling_other b _ ha), (hstate a).trans (d.axState_disabling_other b _ ha), hcyr a⟩⟩
    rw [hplans.ax, d.ax_disabling]
    exact hpend
  | inr hstop =>
    obtain ⟨hdis, -⟩ := id hstop
    rw [Device.disable1_stopped hpend (by rw [hdis]; decide) (by rw [hdis]; decide)]
    exact ⟨rfl, hstop, h, fun _ _ => ⟨rfl, rfl, rfl⟩⟩

/-- A disable of several axes brings each on its way to OFF, and keeps those that are. -/
theorem Device.foldl_disable1_stops (delay : Nat) (ks : List Nat) : ∀ d : Device, (∀ a ∈ ks, d.stoppable delay a) →
    (ks.foldl (fun d a => d.disable1 a 1 delay) d).clk = d.clk ∧
    (∀ a, d.stopsAfter delay a → d.stoppable delay a → (ks.foldl (fun d a => d.disable1 a 1 delay) d).stopsAfter delay a) ∧
    ∀ a ∈ ks, (ks.foldl (fun d a => d.disable1 a 1 delay) d).stopsAfter delay a := by
  induction ks with
  | nil => exact fun d _ => ⟨rfl, fun _ h _ => h, fun _ h => absurd h List.not_mem_nil⟩
  | cons b ks ih =>
    intro d h
    obtain ⟨hclk, hstops, hmay, hothers⟩ := Device.disable1_stops (h b (List.mem_cons_self ..))
    obtain ⟨ihclk, ihkeeps, ihstops⟩ := ih (d.disable1 b 1 delay) fun a ha => by
      by_cases hab : a = b
      · exact hab ▸ hmay
      · exact (hothers a hab).stoppable (h a (List.mem_cons_of_mem _ ha))
    refine ⟨ihclk.trans hclk, fun a ha hma => ?_, fun a ha => ?_⟩
    · by_cases hab : a = b
      · exact hab ▸ ihkeeps b hstops hmay
      · exact ihkeeps a ((hothers a hab).stopsAfter ha) ((hothers a hab).stoppable hma)
    · cases ha with
      | head => exact ihkeeps b hstops hmay
      | tail _ ha => exact ihstops a ha

end Machine

/-! ### DISABLE_REQUEST -/

section Disable
variable {s : State} (k : Fin 192) (rest : BitVec 31)

theorem not_storedReg_of_lt {k a : Nat} (ha : a < 0x40000) : ¬ storedReg k a := by
  rintro (rfl | h)
  · simp only [AX_CTRL] at ha
    omega
  · exact not_bindReg (.inl (by omega)) h

theorem Machine.Device.axCtrlWrite_disable (d : Device) (k n : Nat) :
    d.axCtrlWrite k (2 * n) = (d.ctrlStored k (2 * n)).disableReq k := by
  rw [Device.axCtrlWrite_eq, if_neg]
  simp [bit]

theorem Machine.Device.pairOf_ctrlStored (d : Device) (k v j : Nat) : (d.ctrlStored k v).pairOf j = d.pairOf j :=
  (d.aside_ctrlStored k v).pairOf (fun _ => not_storedReg_of_lt) j

theorem Machine.Device.cyOf_ctrlStored (d : Device) (k v j : Nat) : (d.ctrlStored k v).cyOf j = d.cyOf j := by
  refine (d.aside_ctrlStored k v).cyOf (fun _ => not_storedReg_of_lt) (fun a ha => ?_) j
  rintro (rfl | ⟨i, rfl⟩)
  · simp only [AX_STATUS] at ha
    omega
  · simp only [AX_MB_STATUS] at ha
    omega

theorem Machine.Device.plState_ctrlStored (d : Device) (k v j : Nat) : (d.ctrlStored k v).plState j = d.plState j := by
  refine (d.aside_ctrlStored k v).live _ ?_
  rintro (h | ⟨i, h⟩)
  · simp only [AX_PL_STATUS_STATE, AX_PL_STATUS, AX_STATUS] at h
    omega
  · simp only [AX_PL_STATUS_STATE, AX_PL_STATUS, AX_MB_STATUS] at h
    omega

theorem Machine.Device.offDelay_ctrlStored (d : Device) (k v j : Nat) :
    (d.ctrlStored k v).get (AX_PL_OFF_DELAY_BEATS j) = d.get (AX_PL_OFF_DELAY_BEATS j) := by
  refine (d.aside_ctrlStored k v).get ?_
  rintro (h | h)
  · simp only [AX_PL_OFF_DELAY_BEATS, AX_PL_OFF_DELAY, AX_CTRL] at h
    omega
  · exact not_bindReg (.inr (by simp only [AX_PL_OFF_DELAY_BEATS, AX_PL_OFF_DELAY]; omega)) h

/-- An axis that is disabled alone takes its own OFF_DELAY. -/
theorem Machine.Device.disableReq_alone {d : Device} {k : Nat} (h : d.pairOf k = [k]) :
    d.disableReq k = d.disable1 k 1 (d.get (AX_PL_OFF_DELAY_BEATS k)) := by
  simp only [Device.disableReq, h, List.foldl_cons, List.foldl_nil, List.headD_cons]

section Cases
variable (hr : s.dev.inReset = false)
include hr

/-- A DISABLE_REQUEST completes with its request to the block in which its fields stand. -/
theorem leads_disableRequest {P : Device → Prop} {e : Device} (he : (s.dev.ctrlStored k (2 * rest.toNat)).disableReq k = e)
    (hclk : e.clk = (s.dev.ctrlStored k (2 * rest.toNat)).clk) (hP : P e) : leads (.disableRequest k rest) s P :=
  leads_onDev_of_clk rfl hr ((s.dev.axCtrlWrite_disable k rest.toNat).trans he) (hclk.trans (s.dev.aside_ctrlStored k _).clk) hP

/-- Both axes of a pair stop with the primary's OFF_DELAY. -/
theorem leads_disableRequest_pair
    (h : ∀ a ∈ s.dev.pairOf k, a < 192 ∧ (s.dev.ax a).enPend = none ∧ s.dev.axState a = axRUN ∧ s.dev.cyOf a = none) :
    leads (.disableRequest k rest) s (fun d => ∀ a ∈ s.dev.pairOf k, d.axState a = axDISABLING ∧
      (d.ax a).offDelay = s.dev.get (AX_PL_OFF_DELAY_BEATS ((s.dev.pairOf k).headD k))) := by
  let n := 2 * rest.toNat
  let e := s.dev.ctrlStored k n
  let delay := s.dev.get (AX_PL_OFF_DELAY_BEATS ((s.dev.pairOf k).headD k))
  have hreq : e.disableReq k = (s.dev.pairOf k).foldl (fun d a => d.disable1 a 1 delay) e := by
    simp only [Device.disableReq, e, delay, s.dev.pairOf_ctrlStored k n, s.dev.offDelay_ctrlStored k n]
  obtain ⟨hclk, -, hstops⟩ := Device.foldl_disable1_stops delay (s.dev.pairOf k) e fun a ha => by
    obtain ⟨-, hpend, hrun, hcy⟩ := h a ha
    exact ⟨(congrArg AxisCtl.enPend (s.dev.ax_ctrlStored k n a)).trans hpend, (s.dev.cyOf_ctrlStored k n a).trans hcy,
      .inl ((s.dev.axState_ctrlStored k n a).trans hrun)⟩
  exact leads_disableRequest k rest hr hreq hclk hstops

section Alone
variable (hpair : s.dev.pairOf k = [k.val])
include hpair

/-- A DISABLE_REQUEST to an axis of its own disables that axis. -/
theorem leads_disableRequest_alone {P : Device → Prop} {e : Device}
    (he : (s.dev.ctrlStored k (2 * rest.toNat)).disable1 k 1 (s.dev.get (AX_PL_OFF_DELAY_BEATS k)) = e)
    (hclk : e.clk = (s.dev.ctrlStored k (2 * rest.toNat)).clk) (hP : P e) : leads (.disableRequest k rest) s P := by
  refine leads_disableRequest k rest hr ?_ hclk hP
  rw [Device.disableReq_alone ((s.dev.pairOf_ctrlStored k _ k).trans hpair), s.dev.offDelay_ctrlStored]
  exact he

theorem leads_disableRequest_pending (h : (s.dev.ax k).enPend.isSome = true) :
    leads (.disableRequest k rest) s (fun d => d.ax k = { s.dev.ax k with enPend := none } ∧ d.axState k = s.dev.axState k ∧
      d.planners = s.dev.planners ∧ Claims.otherAxes s.dev d k) := by
  let e := s.dev.ctrlStored k (2 * rest.toNat)
  have hax : ∀ j, e.ax j = s.dev.ax j := s.dev.ax_ctrlStored k _
  have hpend : (e.ax k).enPend.isSome = true := by rw [hax]; exact h
  refine leads_disableRequest_alone k rest hr hpair (Device.disable1_pending hpend) (e.setAx_clk k _) ⟨?_, ?_, ?_, fun j hj => ?_⟩
  · rw [Device.ax_setAx_same, hax]
    rfl
  · rw [Device.axState_setAx]
    exact s.dev.axState_ctrlStored k _ k
  · rw [Device.setAx_planners]
    exact s.dev.planners_ctrlStored k _
  · rw [e.ax_setAx_other k _ hj]
    exact hax j

section Settled
variable (h : (s.dev.ax k).enPend = none)
include h

theorem leads_disableRequest_run (hst : s.dev.axState k = axRUN) (hcy : s.dev.cyOf k = none) :
    leads (.disableRequest k rest) s (fun d => d.axState k = axDISABLING ∧
      d.ax k = { s.dev.ax k with rest := none, offDelay := s.dev.get (AX_PL_OFF_DELAY_BEATS k), cause := 1 } ∧ d.get (AX_CTRL_EN k) = 0 ∧
      (s.dev.plState k ≠ plOFF → Claims.inTurn s.dev k .disable → d.plState k = plDISABLING) ∧ Claims.otherAxes s.dev d k) := by
  let n := 2 * rest.toNat
  let e := s.dev.ctrlStored k n
  let d := e.disabling k (AxisCtl.stopping (s.dev.get (AX_PL_OFF_DELAY_BEATS k)))
  have hax : ∀ j, e.ax j = s.dev.ax j := s.dev.ax_ctrlStored k n
  have hcyd : d.cyOf k = none := (e.cyOf_disabling k _ k).trans ((s.dev.cyOf_ctrlStored k n k).trans hcy)
  have htwin : d.gpTwin k = none :=
    (e.gpTwin_disabling k _ k).trans (Device.gpTwin_of_pairOf ((s.dev.pairOf_ctrlStored k n k).trans hpair))
  have hst' : d.plState k = s.dev.plState k := (e.plState_disabling k _ k).trans (s.dev.plState_ctrlStored k n k)
  have hhist : d.plHist k = s.dev.plHist k := Device.plHist_congr ((e.clk_disabling k _).trans (s.dev.aside_ctrlStored k n).clk)
    ((e.planners_disabling k _).trans (s.dev.planners_ctrlStored k n)) ((e.plTicks_disabling k _).trans (s.dev.plTicks_ctrlStored k n)) hst'
  have hrun : e.disable1 k 1 (s.dev.get (AX_PL_OFF_DELAY_BEATS k)) = d.plDisable k :=
    (Device.disable1_run ((congrArg AxisCtl.enPend (hax k)).trans h) ((s.dev.axState_ctrlStored k n k).trans hst)).trans
      (Device.axReact_alone hcyd htwin)
  have hplans := Plans.plDisable d k
  refine leads_disableRequest_alone k rest hr hpair hrun (hplans.clk.trans (e.clk_disabling k _))
    ⟨?_, ?_, ?_, fun hoff hturn => ?_, fun j hj => ?_⟩
  · exact (hplans.axState (not_planLive_axStatus k)).trans (e.axState_disabling k _)
  · rw [hplans.ax, e.ax_disabling, hax]
    rfl
  · rw [hplans.get (not_planReg (k := k) (o := 0) (by simp only [AX_CTRL_EN, AX_CTRL]; omega) (by decide) (.inl (by decide))),
      e.get_disabling, s.dev.get_ctrlStored_en]
    omega
  · exact Device.plState_plDisable (hst' ▸ hoff) (by rwa [Claims.inTurn, hhist])
  · exact (hplans.ax j).trans ((e.ax_disabling_other k _ hj).trans (hax j))

theorem leads_disableRequest_enabling (hst : s.dev.axState k = axENABLING) :
    leads (.disableRequest k rest) s (fun d => d.axState k = axDISABLING ∧
      d.ax k = { s.dev.ax k with rest := none, offDelay := s.dev.get (AX_PL_OFF_DELAY_BEATS k), cause := 1, brakeAt := none, relAt := none,
                                 alignAt := none } ∧
      d.planners = s.dev.planners ∧ Claims.otherAxes s.dev d k) := by
  let n := 2 * rest.toNat
  let e := s.dev.ctrlStored k n
  have hax : ∀ j, e.ax j = s.dev.ax j := s.dev.ax_ctrlStored k n
  refine leads_disableRequest_alone k rest hr hpair
    (Device.disable1_enabling ((congrArg AxisCtl.enPend (hax k)).trans h) ((s.dev.axState_ctrlStored k n k).trans hst)) (e.clk_disabling k _)
    ⟨e.axState_disabling k _, ?_, (e.planners_disabling k _).trans (s.dev.planners_ctrlStored k n),
      fun j hj => (e.ax_disabling_other k _ hj).trans (hax j)⟩
  rw [e.ax_disabling, hax]
  rfl

theorem leads_disableRequest_stopped (hst : s.dev.axState k = axOFF ∨ s.dev.axState k = axDISABLING ∨ s.dev.axState k = axRIDE) :
    leads (.disableRequest k rest) s (fun d => d.axState k = s.dev.axState k ∧ d.axes = s.dev.axes ∧ d.planners = s.dev.planners ∧
      d.get (AX_CTRL_EN k) = 0) := by
  let n := 2 * rest.toNat
  let e := s.dev.ctrlStored k n
  have hstate : e.axState k = s.dev.axState k := s.dev.axState_ctrlStored k n k
  have hstops : e.axState k ≠ axRUN ∧ e.axState k ≠ axENABLING := by
    rw [hstate]
    obtain hs | hs | hs := hst <;> rw [hs] <;> decide
  refine leads_disableRequest_alone k rest hr hpair
    (Device.disable1_stopped ((congrArg AxisCtl.enPend (s.dev.ax_ctrlStored k n k)).trans h) hstops.1 hstops.2) rfl
    ⟨hstate, (s.dev.aside_ctrlStored k n).axes, s.dev.planners_ctrlStored k n, ?_⟩
  rw [s.dev.get_ctrlStored_en]
  omega

end Settled
end Alone
end Cases
end Disable

theorem disableRequestByState : Claims.DisableRequestByState := fun _ k rest hr =>
  ⟨fun hpair => ⟨leads_disableRequest_pending k rest hr hpair, fun h => ⟨leads_disableRequest_run k rest hr hpair h,
    leads_disableRequest_enabling k rest hr hpair h, leads_disableRequest_stopped k rest hr hpair h⟩⟩,
    leads_disableRequest_pair k rest hr⟩

/-- Settles O24: a request works on the block in which the written fields stand; what an enable makes of it is told by the first
condition that fails, and a disable by the axis's STATE, with the planner's reaction where the axis is in RUN. -/
theorem enableAndDisableRequests : Obligations.EnableAndDisableRequests := ⟨enableRequestChecksItsConditions, disableRequestByState⟩

end Sys2Proof
end

section
/-! The RUN transition of an axis (R122, R192, R201): what the feedback unit, the planner and the slot window make of it. -/

namespace Sys2Proof

open Sys2Proof.Machine

namespace Machine

/-! ### The inputs of a boundary formed anew (R122, R129) -/

/-- Of the block only engines and the loop inputs of one axis differ. -/
structure Refreshed (k : Nat) (d e : Device) : Prop where
  block : { e with axes := d.axes, engines := d.engines } = d
  others : Claims.otherAxes d e k
  own : ∃ i w, e.ax k = { d.ax k with inNow := i, inWin := w }

namespace Refreshed
variable {k : Nat} {d e f : Device}

theorem trans (h : Refreshed k d e) (g : Refreshed k e f) : Refreshed k d f := by
  obtain ⟨hblock, hothers, i, w, hown⟩ := h
  obtain ⟨gblock, gothers, i', w', gown⟩ := g
  refine ⟨?_, fun j hj => (gothers j hj).trans (hothers j hj), i', w', by rw [gown, hown]⟩
  have hparts := congrArg (fun x : Device => { x with axes := d.axes, engines := d.engines }) gblock
  exact hparts.trans hblock

/-- A change of the loop inputs. -/
theorem setAx (d : Device) {g : AxisCtl → AxisCtl} {i w : AxisCtl → LoopIn} (hg : ∀ s, g s = { s with inNow := i s, inWin := w s }) :
    Refreshed k d (d.setAx k g) :=
  ⟨rfl, fun _ hj => d.ax_setAx_other k g hj, i (d.ax k), w (d.ax k), (d.ax_setAx_same k g).trans (hg _)⟩

theorem setEng (d : Device) (n : Nat) (g : Engine → Engine) : Refreshed k d (d.setEng n g) :=
  ⟨rfl, fun _ _ => rfl, (d.ax k).inNow, (d.ax k).inWin, rfl⟩

theorem axInput (d : Device) : Refreshed k d (d.axInput k) := setAx (w := AxisCtl.inWin) d fun _ => rfl

theorem winInputs (d : Device) (n j : Nat) : Refreshed k d (d.winInputs n j k) :=
  (setEng d n _).trans (setAx (i := AxisCtl.inNow) (w := AxisCtl.inNow) _ fun _ => rfl)

theorem axRefresh (d : Device) : Refreshed k d (d.axRefresh k) := by
  unfold Device.axRefresh
  extract_lets d1
  have h1 : Refreshed k d d1 := axInput d
  split
  next n j _ =>
    split
    · exact h1.trans ((winInputs d1 n j).trans (setAx (i := AxisCtl.inNow) _ fun _ => rfl))
    · exact h1
  next => exact h1

section Parts
variable (h : Refreshed k d e)
include h

theorem part {β : Type} (p : Device → β) (hp : ∀ x axes engines, p { x with axes := axes, engines := engines } = p x) : p e = p d :=
  (hp e _ _).symm.trans (congrArg p h.block)

theorem clk : e.clk = d.clk := h.part Device.clk fun _ _ _ => rfl
theorem lp : e.lp = d.lp := h.part Device.lp fun _ _ _ => rfl
theorem regs : e.regs = d.regs := h.part Device.regs fun _ _ _ => rfl
theorem live : e.live = d.live := h.part Device.live fun _ _ _ => rfl
theorem planners : e.planners = d.planners := h.part Device.planners fun _ _ _ => rfl

theorem liveGet (f : Fld) : e.liveGet f = d.liveGet f := by simp only [Device.liveGet, h.live]

theorem rd (a : Nat) : e.rd a = d.rd a := by simp only [Device.rd, h.regs]

theorem get (f : Fld) : e.get f = d.get f := by simp only [Device.get, h.rd]

theorem pl (j : Nat) : e.pl j = d.pl j := by simp only [Device.pl, h.planners]

end Parts
end Refreshed

/-! ### The feedback unit at the RUN transition (R192, R201, R203) -/

section Feedback
variable (d : Device) (k : Nat)

theorem Device.unitsButMiles_msRethresh (m : Nat) : unitsButMiles (d.msRethresh m) = unitsButMiles d := by
  unfold Device.msRethresh
  extract_lets d1
  have h1 : unitsButMiles d1 = unitsButMiles d := unitsButMiles_of_sameUnits (unitsOf_put d _ _)
  split
  · split
    · exact (unitsButMiles_setMs d1 m _).trans h1
    · exact h1
  · exact h1

theorem Device.sameRegs_msRethresh {m : Nat} (hm : m < 16) : sameRegs d (d.msRethresh m) msReg := by
  unfold Device.msRethresh
  extract_lets d1
  have h1 : sameRegs d d1 msReg :=
    .put d _ _ _ (msReg_of_block hm (by simp only [MS_STATUS_EXACT, MS_STATUS]; omega) (by simp only [MS_STATUS_EXACT, MS_STATUS]; omega))
  split
  · split
    · exact h1.trans (sameRegs_setMs d1 hm _)
    · exact h1
  · exact h1

theorem Device.unitsButMiles_msSourceMoved : unitsButMiles (d.msSourceMoved k) = unitsButMiles d :=
  foldl_part unitsButMiles (fun b m => b.unitsButMiles_msRethresh m) _ d

theorem Device.sameRegs_msSourceMoved : sameRegs d (d.msSourceMoved k) msReg :=
  sameRegs.foldl _ (fun b _ hm => b.sameRegs_msRethresh (List.mem_range.mp (List.mem_of_mem_filter hm))) d

/-- A new source of the position loop changes milestones and their registers only. -/
theorem Aside.msSourceMoved {L : Nat → Prop} : Aside msReg L d (d.msSourceMoved k) := by
  have hunits := d.unitsButMiles_msSourceMoved k
  have hclk := congrArg Device.clk hunits
  have haxes := congrArg Device.axes hunits
  have hlive := congrArg Device.live hunits
  exact ⟨hclk, haxes, d.sameRegs_msSourceMoved k,
    fun f _ => congrArg (fun m => bits (Store.get resetWord m f.addr).toNat f.lo f.width) hlive⟩

theorem Device.fbs_msSourceMoved : (d.msSourceMoved k).fbs = d.fbs := by
  have hfbs := congrArg Device.fbs (d.unitsButMiles_msSourceMoved k)
  exact hfbs

theorem Device.lp_msSourceMoved : (d.msSourceMoved k).lp = d.lp := by
  have hlp := congrArg Device.lp (d.unitsButMiles_msSourceMoved k)
  exact hlp

/-- Fallback ended on axis `k` (R201). -/
def Device.ownSource : Device := d.setFb k fun u => { u with fallback := false }

/-- The milestones follow the axis's own source where fallback ends. -/
def Device.sourceKept : Device := if (d.fb k).fallback then (d.ownSource k).msSourceMoved k else d.ownSource k

/-- The feedback unit without its observation of faults, from the RUN transition on. -/
def FbUnit.running (obs : Bool) (p : Int) (u : FbUnit) : FbUnit :=
  { u with d0 := some (u.sec.p - u.pri.p), dualOver := false, warned := false, devCnt := 0, laCnt := 0, obs := obs, obsX := p,
           obsV := u.pri.vel }

/-- The two warnings of AX_FB_STATUS that the RUN transition clears. -/
def Device.fbCleared : Device := (d.livePut (AX_FB_STATUS_SEC_LOST k) 0).livePut (AX_FB_STATUS_STALL k) 0

theorem Device.fbRun_eq : ∃ obs p, d.fbRun k = ((d.sourceKept k).setFb k (FbUnit.running obs p)).fbCleared k := ⟨_, _, rfl⟩

theorem Aside.setFb {R L : Nat → Prop} (f : FbUnit → FbUnit) : Aside R L d (d.setFb k f) := .same rfl rfl rfl rfl

theorem Aside.fbCleared : Aside msReg (· = AX_FB_STATUS k) d (d.fbCleared k) := by
  have h : ∀ (e : Device) (g : Fld), g.addr = AX_FB_STATUS k → Aside msReg (· = AX_FB_STATUS k) e (e.livePut g 0) :=
    fun e g hg => .livePut e g 0 hg
  exact (h d (AX_FB_STATUS_SEC_LOST k) rfl).trans (h _ (AX_FB_STATUS_STALL k) rfl)

theorem Aside.sourceKept {L : Nat → Prop} : Aside msReg L d (d.sourceKept k) :=
  .ite ((Aside.setFb d k _).trans (.msSourceMoved _ k)) (.setFb d k _)

theorem Device.fb_setFb_same (f : FbUnit → FbUnit) : (d.setFb k f).fb k = f (d.fb k) := Store.pick_upd_same d.fbs {} k f

theorem Device.fb_sourceKept : (d.sourceKept k).fb k = { d.fb k with fallback := false } := by
  have hown : (d.ownSource k).fb k = { d.fb k with fallback := false } := d.fb_setFb_same k _
  unfold Device.sourceKept
  split
  · rw [Device.fb, Device.fbs_msSourceMoved]
    exact hown
  · exact hown

theorem Device.fb_fbCleared (j : Nat) : (d.fbCleared k).fb j = d.fb j := rfl

theorem Device.lp_sourceKept : (d.sourceKept k).lp = d.lp := by
  unfold Device.sourceKept
  split
  · exact (d.ownSource k).lp_msSourceMoved k
  · rfl

theorem Device.lp_setFb (f : FbUnit → FbUnit) : (d.setFb k f).lp = d.lp := rfl

theorem Device.lp_fbCleared : (d.fbCleared k).lp = d.lp := rfl

theorem Aside.fbRun : Aside msReg (· = AX_FB_STATUS k) d (d.fbRun k) := by
  obtain ⟨obs, p, h⟩ := d.fbRun_eq k
  rw [h]
  exact ((Aside.sourceKept d k).trans (.setFb _ k _)).trans (.fbCleared _ k)

theorem Device.lp_fbRun : (d.fbRun k).lp = d.lp := by
  obtain ⟨obs, p, h⟩ := d.fbRun_eq k
  rw [h, Device.lp_fbCleared, Device.lp_setFb, Device.lp_sourceKept]

/-- An axis that is not in fallback uses the position of its own source. -/
theorem Device.fbPos_own (h : (d.fb k).fallback = false) :
    d.fbPos k = if d.has (AX_FB_SRC_DUAL k) then (d.fb k).sec.p else (d.fb k).pri.p := by
  simp only [Device.fbPos, h, Bool.false_eq_true, if_false]

theorem not_msReg_fbSrc : ¬ msReg (AX_FB_SRC k) := by
  simp only [msReg, queueReg, AX_FB_SRC]
  omega

/-- The measured position after the RUN transition is that of the axis's own source. -/
theorem Device.fbPos_fbRun : (d.fbRun k).fbPos k = (d.ownSource k).fbPos k := by
  have hown : (d.ownSource k).fb k = { d.fb k with fallback := false } := d.fb_setFb_same k _
  have hdual : (d.fbRun k).has (AX_FB_SRC_DUAL k) = (d.ownSource k).has (AX_FB_SRC_DUAL k) := (Aside.fbRun d k).has (not_msReg_fbSrc k)
  have hrun : ∃ obs p, (d.fbRun k).fb k = FbUnit.running obs p { d.fb k with fallback := false } := by
    obtain ⟨obs, p, h⟩ := d.fbRun_eq k
    exact ⟨obs, p, by rw [h, Device.fb_fbCleared, Device.fb_setFb_same, Device.fb_sourceKept]⟩
  obtain ⟨obs, p, hfb⟩ := hrun
  rw [Device.fbPos_own _ k (by rw [hfb]; rfl), Device.fbPos_own _ k (by rw [hown]), hdual, hfb, hown]
  rfl

end Feedback

end Machine
end Sys2Proof
end

section
/-! STATE becomes RUN (R122): ENABLED, the planner from the measured position, and the ends of BRAKE_REL and of the alignment that
bring it. -/

namespace Sys2Proof

open Sys2Proof.Machine

namespace Machine

/-- An axis whose enable sequence is over. -/
def AxisCtl.enabled (s : AxisCtl) : AxisCtl := { s with relAt := none, alignAt := none, brakeAt := none }

/-- The registers that the RUN transition may write. -/
def runReg (k a : Nat) : Prop := a = AX_EVENT k ∨ planReg a

theorem not_runReg_of_lt {k a : Nat} (ha : a < 0x40000) : ¬ runReg k a := by
  rintro (rfl | h)
  · simp only [AX_EVENT] at ha
    omega
  · exact not_planReg_of_lt ha h

/-- The snapshot registers that follow the RUN transition. -/
def runLive (k a : Nat) : Prop := a = AX_FB_STATUS k ∨ planLive a

theorem not_runLive_axStatus (k : Nat) : ¬ runLive k (AX_STATUS k) := by
  rintro (h | h)
  · simp only [AX_FB_STATUS, AX_STATUS] at h
    omega
  · exact not_planLive_axStatus k h

section Run
variable (d : Device) (k : Nat)

/-- STATE in RUN and ENABLED raised. -/
def Device.shownRun : Device := ((d.setAx k AxisCtl.enabled).setAxState k axRUN).raise (AX_EVENT_ENABLED k)

/-- The planner started from the measured position. -/
def Device.planned : Device := d.plEnable k (d.fbPos k)

/-- The planner of an axis of a convoy or of a twin follows. -/
def Device.following : Device := if (d.gpTwin k).isSome || (d.cyOf k).isSome then d.setPlState k plFOLLOWING else d

theorem Device.axRun_eq : d.axRun k = ((((d.shownRun k).fbRun k).planned k).following k).axRefresh k := rfl

/-- A planner starts at rest where the axis is. -/
theorem Device.plEnable_cur (p : Int) : ((d.plEnable k p).pl k).cur = { p3 := posIn p } := by
  have hpl : ∀ f st, ((d.setPl k f).setPlState k st).pl k = f (d.pl k) := fun f _ => d.pl_setPl_same k f
  unfold Device.plEnable
  rw [hpl]

theorem Device.plState_planned : (d.planned k).plState k = plIDLE := Device.plState_setPlState _ k _ (by decide)

theorem Device.lp_planned : (d.planned k).lp = d.lp := rfl

theorem Plans.planned : Plans d (d.planned k) := (Plans.setPl d k _).trans (Plans.setPlState _ k _)

theorem Plans.following : Plans d (d.following k) := .ite (Plans.setPlState d k _) (.refl d)

theorem Device.plState_following (h : d.plState k = plIDLE) :
    (d.following k).plState k = if (d.gpTwin k).isSome || (d.cyOf k).isSome then plFOLLOWING else plIDLE := by
  unfold Device.following
  split
  · exact Device.plState_setPlState d k _ (by decide)
  · exact h

theorem Device.pl_following (j : Nat) : (d.following k).pl j = d.pl j := by
  unfold Device.following
  split <;> rfl

theorem Device.lp_following : (d.following k).lp = d.lp := by
  unfold Device.following
  split <;> rfl

/-- STATE and ENABLED are no part of what the couplings of axes are told by. -/
theorem Aside.shownRun : Aside (· = AX_EVENT k) (· = AX_STATUS k) (d.setAx k AxisCtl.enabled) (d.shownRun k) :=
  ((Aside.setAxState _ k axRUN).mono (fun _ => False.elim) fun _ => id).trans (.put _ _ _ rfl)

theorem Aside.run : Aside planReg (runLive k) (d.shownRun k) ((((d.shownRun k).fbRun k).planned k).following k) := by
  have hfb := (Aside.fbRun (d.shownRun k) k).mono (R' := planReg) (L' := runLive k) (fun _ => .inr) fun _ => .inl
  have hplan := (Plans.planned ((d.shownRun k).fbRun k) k).trans (Plans.following _ k)
  exact hfb.trans (hplan.mono (fun _ => id) fun _ => .inr)

theorem Device.gpTwin_planned : (((d.shownRun k).fbRun k).planned k).gpTwin k = d.gpTwin k := by
  have hset : (d.setAx k AxisCtl.enabled).gpTwin k = d.gpTwin k := rfl
  have hshown := (Aside.shownRun d k).gpTwin (fun a ha h => not_runReg_of_lt ha (.inl h)) k
  have hfb := (Aside.fbRun (d.shownRun k) k).gpTwin (fun a ha h => not_planReg_of_lt ha (.inr h)) k
  have hplan := (Plans.planned ((d.shownRun k).fbRun k) k).gpTwin (fun _ => not_planReg_of_lt) k
  exact ((hplan.trans hfb).trans hshown).trans hset

theorem Device.cyOf_planned : (((d.shownRun k).fbRun k).planned k).cyOf k = d.cyOf k := by
  have hset : (d.setAx k AxisCtl.enabled).cyOf k = d.cyOf k := rfl
  have hshown := (Aside.shownRun d k).cyOf (fun a ha h => not_runReg_of_lt ha (.inl h)) (fun a ha h => by
    simp only [h, AX_STATUS] at ha; omega) k
  have hfb := (Aside.fbRun (d.shownRun k) k).cyOf (fun a ha h => not_planReg_of_lt ha (.inr h)) (fun a ha h => by
    simp only [h, AX_FB_STATUS] at ha; omega) k
  have hplan := (Plans.planned ((d.shownRun k).fbRun k) k).cyOf (fun _ => not_planReg_of_lt)
    (fun _ => not_planLive_of_lt) k
  exact ((hplan.trans hfb).trans hshown).trans hset

/-- The position of an axis's own source is told by its feedback unit and AX_FB_SRC. -/
theorem Device.fbPos_ownSource_congr {d e : Device} {k : Nat} (hfb : e.fb k = d.fb k)
    (hdual : e.has (AX_FB_SRC_DUAL k) = d.has (AX_FB_SRC_DUAL k)) :
    (e.ownSource k).fbPos k = (d.ownSource k).fbPos k := by
  have hown : ∀ x : Device, (x.ownSource k).fb k = { x.fb k with fallback := false } := fun x => x.fb_setFb_same k _
  have hreg : ∀ x : Device, (x.ownSource k).has (AX_FB_SRC_DUAL k) = x.has (AX_FB_SRC_DUAL k) := fun _ => rfl
  rw [Device.fbPos_own _ k (by rw [hown]), Device.fbPos_own _ k (by rw [hown]), hown, hown, hreg, hreg, hdual, hfb]

theorem Device.fbPos_shownRun : ((d.shownRun k).fbRun k).fbPos k = (d.ownSource k).fbPos k := by
  refine (Device.fbPos_fbRun _ k).trans (Device.fbPos_ownSource_congr rfl ?_)
  have hset : (d.setAx k AxisCtl.enabled).has (AX_FB_SRC_DUAL k) = d.has (AX_FB_SRC_DUAL k) := rfl
  refine ((Aside.shownRun d k).has ?_).trans hset
  simp only [AX_FB_SRC_DUAL, AX_FB_SRC, AX_EVENT]
  omega

end Run

/-- Axis `k` of the block came to RUN. -/
structure Runs (d e : Device) (k : Nat) : Prop where
  clk : e.clk = d.clk
  lp : e.lp = d.lp
  state : e.axState k = axRUN
  raised : e.has (AX_EVENT_ENABLED k) = true
  own : ∃ i w, e.ax k = { AxisCtl.enabled (d.ax k) with inNow := i, inWin := w }
  cur : (e.pl k).cur = { p3 := posIn ((d.ownSource k).fbPos k) }
  plState : e.plState k = if (d.gpTwin k).isSome || (d.cyOf k).isSome then plFOLLOWING else plIDLE
  others : Claims.otherAxes d e k
  regs : sameRegs d e (runReg k)
  event : ∀ g : Fld, g.addr = AX_EVENT k → 1 ≤ g.lo → g.lo + g.width ≤ 32 → e.get g = d.get g
  status : ∀ f : Fld, f.addr = AX_STATUS k → 3 ≤ f.lo → f.lo + f.width ≤ 32 → e.liveGet f = d.liveGet f

theorem Device.runs_axRun (d : Device) (k : Nat) : Runs d (d.axRun k) k := by
  let e := d.shownRun k
  let f := (((d.shownRun k).fbRun k).planned k).following k
  have href : Refreshed k f (d.axRun k) := by
    rw [d.axRun_eq]
    exact .axRefresh f
  have hrun : Aside planReg (runLive k) e f := .run d k
  have hshown : Aside (· = AX_EVENT k) (· = AX_STATUS k) (d.setAx k AxisCtl.enabled) e := .shownRun d k
  have hlive : ∀ x : Fld, x.addr = AX_STATUS k → (d.axRun k).liveGet x = e.liveGet x := fun x hx =>
    (href.liveGet x).trans (hrun.live x (hx ▸ not_runLive_axStatus k))
  have hevent : ∀ g : Fld, g.addr = AX_EVENT k → (d.axRun k).get g = e.get g := fun g hg =>
    (href.get g).trans (hrun.get (not_planReg (k := k) (o := 8) (by rw [hg]; simp only [AX_EVENT]; omega) (by decide) (.inl (by decide))))
  have hax : ∀ j, f.ax j = (d.setAx k AxisCtl.enabled).ax j := fun j => (hrun.ax j).trans (hshown.ax j)
  refine ⟨?_, ?_, ?_, ?_, ?_, ?_, ?_, ?_, ?_, ?_, ?_⟩
  · exact href.clk.trans (hrun.clk.trans hshown.clk)
  · have hset : e.lp = d.lp := rfl
    exact href.lp.trans ((Device.lp_following _ k).trans ((Device.lp_planned _ k).trans ((Device.lp_fbRun _ k).trans hset)))
  · exact (hlive _ rfl).trans (Device.axState_setAxState _ k (by decide))
  · have hraised : e.get (AX_EVENT_ENABLED k) = 1 := Device.get_put_same _ _ 1 (by simp only [AX_EVENT_ENABLED]; decide)
    rw [Device.has, hevent _ rfl, hraised]
    decide
  · obtain ⟨i, w, hown⟩ := href.own
    exact ⟨i, w, by rw [hown, hax, Device.ax_setAx_same]⟩
  · rw [href.pl, Device.pl_following]
    exact (Device.plEnable_cur _ k _).trans (by rw [Device.fbPos_shownRun])
  · refine (href.liveGet _).trans ((Device.plState_following _ k (Device.plState_planned _ k)).trans ?_)
    rw [Device.gpTwin_planned, Device.cyOf_planned]
  · exact fun j hj => (href.others j hj).trans ((hax j).trans (d.ax_setAx_other k _ hj))
  · have hset : sameRegs d (d.setAx k AxisCtl.enabled) (runReg k) := .regs _ rfl
    exact ((hset.trans (hshown.regs.mono fun _ => .inl)).trans (hrun.regs.mono fun _ => .inr)).trans (.regs _ href.regs)
  · intro g hg hlo hw
    have hset : ((d.setAx k AxisCtl.enabled).setAxState k axRUN).get g = d.get g := rfl
    exact ((hevent g hg).trans (Device.get_put_bits _ (AX_EVENT_ENABLED k) g 1 (.inr hlo) hw)).trans hset
  · intro x hx hlo hw
    have hset : (d.setAx k AxisCtl.enabled).liveGet x = d.liveGet x := rfl
    exact ((hlive x hx).trans (Device.liveGet_livePut_bits _ (AX_STATUS_STATE k) x axRUN (.inr hlo) hw)).trans hset

end Machine
end Sys2Proof
end

section
/-! The ends of BRAKE_REL and of the alignment (R122, R123). -/

namespace Sys2Proof

open Sys2Proof.Machine

namespace Machine

section Outcomes
variable {d : Device} {k : Nat}

theorem Device.brakeRel_none (h : (d.ax k).relAt = none) : d.brakeRel k = d := by
  unfold Device.brakeRel
  rw [h]

theorem Device.alignEnd_none (h : (d.ax k).alignAt = none) : d.alignEnd k = d := by
  unfold Device.alignEnd
  rw [h]

theorem Device.brakeRel_early {r : Nat} (h : (d.ax k).relAt = some r) (ht : d.clk.beat < r) : d.brakeRel k = d := by
  unfold Device.brakeRel
  rw [h]
  exact if_pos (.inr ht)

theorem Device.alignEnd_early {a : Nat} (h : (d.ax k).alignAt = some a) (ht : d.clk.beat < a + d.lpGet (AX_LP_ALIGN_ALIGN_BEATS k)) :
    d.alignEnd k = d := by
  unfold Device.alignEnd
  rw [h]
  exact if_pos (.inr ht)

/-- The alignment of an axis from beat `b` on. -/
def AxisCtl.aligning (b : Nat) (s : AxisCtl) : AxisCtl := { s with relAt := none, alignAt := some b }

/-- An axis that commutates without COMM_VALID in COMM_MODE 1 aligns (R123). -/
def Device.mustAlign (d : Device) (k : Nat) : Prop :=
  d.commutates k = true ∧ d.get (AX_CTRL_COMM_MODE k) = 1 ∧ d.liveHas (AX_STATUS_COMM_VALID k) = false

/-- The end of BRAKE_REL of an axis that is still to be enabled. -/
theorem Device.brakeRel_due {r : Nat} (h : (d.ax k).relAt = some r) (hst : d.axState k = axENABLING) (ht : r ≤ d.clk.beat) :
    d.brakeRel k = if d.commutates k && d.get (AX_CTRL_COMM_MODE k) == 1 && !d.liveHas (AX_STATUS_COMM_VALID k) then
      (d.setAx k (AxisCtl.aligning d.clk.beat)).axRefresh k else d.axRun k := by
  unfold Device.brakeRel
  rw [h]
  exact if_neg (not_or.mpr ⟨not_not.mpr hst, Nat.not_lt.mpr ht⟩)

theorem Device.mustAlign_iff : d.mustAlign k ↔
    (d.commutates k && d.get (AX_CTRL_COMM_MODE k) == 1 && !d.liveHas (AX_STATUS_COMM_VALID k)) = true := by
  simp only [Device.mustAlign, Bool.and_eq_true, beq_iff_eq, Bool.not_eq_true', and_assoc]

/-! ### COMM_OFF at the end of the alignment (R123) -/

variable (d k)

/-- COMM_OFF in force and in its shadow. -/
def Device.commOff (c : BitVec 32) : Device := { d.wr (AX_LP_COMM_OFF k) c with lp := Store.set resetWord d.lp (AX_LP_COMM_OFF k) c }

/-- COMM_OFF in the window of the axis's slot. -/
def Device.commOffSlot (c : BitVec 32) : Device :=
  match d.slotOf k with
  | some (e, j) => d.setDm e (winAddr j (prmWord (AX_LP_COMM_OFF k))) c
  | none => d

/-- The end of the alignment shown: COMM_VALID and ALIGN_DONE. -/
def Device.shownAligned : Device := (d.livePut (AX_STATUS_COMM_VALID k) 1).raise (AX_EVENT_ALIGN_DONE k)

/-- The commutation aligned with an offset. -/
def Device.alignedBy (c : BitVec 32) : Device := ((d.commOff k c).commOffSlot k c).shownAligned k

variable {d k} in
theorem Device.alignEnd_due {a : Nat} (h : (d.ax k).alignAt = some a) (hst : d.axState k = axENABLING)
    (ht : a + d.lpGet (AX_LP_ALIGN_ALIGN_BEATS k) ≤ d.clk.beat) :
    d.alignEnd k = (d.alignedBy k (BitVec.ofNat 32 (ofS 32 (-(d.commAngle k))))).axRun k := by
  unfold Device.alignEnd
  rw [h]
  exact if_neg (not_or.mpr ⟨not_not.mpr hst, Nat.not_lt.mpr ht⟩)

theorem Device.commOffSlot_engines (c : BitVec 32) : { d.commOffSlot k c with engines := d.engines } = d := by
  unfold Device.commOffSlot
  split
  · rfl
  · rfl

/-- A part of the block that is no engine is unchanged in the window's write. -/
theorem Device.commOffSlot_part {β : Type} (p : Device → β) (hp : ∀ x engines, p { x with engines := engines } = p x) (c : BitVec 32) :
    p (d.commOffSlot k c) = p d := (hp _ _).symm.trans (congrArg p (d.commOffSlot_engines k c))

/-- The registers that the end of the alignment writes. -/
def alignedReg (k a : Nat) : Prop := a = AX_LP_COMM_OFF k ∨ a = AX_EVENT k

theorem not_alignedReg_of_lt {k a : Nat} (ha : a < 0x40000) : ¬ alignedReg k a := by
  simp only [alignedReg, AX_LP_COMM_OFF, AX_EVENT]
  omega

section Aligned
variable (c : BitVec 32)

theorem Aside.commOff : Aside (alignedReg k) (· = AX_STATUS k) d (d.commOff k c) :=
  ⟨rfl, rfl, .wr d (AX_LP_COMM_OFF k) c _ (.inl rfl), fun _ _ => rfl⟩

theorem Aside.commOffSlot : Aside (alignedReg k) (· = AX_STATUS k) d (d.commOffSlot k c) :=
  .same (d.commOffSlot_part k Device.clk (fun _ _ => rfl) c) (d.commOffSlot_part k Device.axes (fun _ _ => rfl) c)
    (d.commOffSlot_part k Device.regs (fun _ _ => rfl) c) (d.commOffSlot_part k Device.live (fun _ _ => rfl) c)

theorem Aside.shownAligned : Aside (alignedReg k) (· = AX_STATUS k) d (d.shownAligned k) := by
  have hvalid : Aside (alignedReg k) (· = AX_STATUS k) d (d.livePut (AX_STATUS_COMM_VALID k) 1) := .livePut d _ _ rfl
  exact hvalid.trans (.put _ (AX_EVENT_ALIGN_DONE k) 1 (.inr rfl))

theorem Aside.alignedBy : Aside (alignedReg k) (· = AX_STATUS k) d (d.alignedBy k c) :=
  ((Aside.commOff d k c).trans (.commOffSlot _ k c)).trans (.shownAligned _ k)

theorem Device.fbs_alignedBy : (d.alignedBy k c).fbs = d.fbs := by
  have hshown : ∀ x : Device, (x.shownAligned k).fbs = x.fbs := fun _ => rfl
  have hoff : (d.commOff k c).fbs = d.fbs := rfl
  exact (hshown _).trans (((d.commOff k c).commOffSlot_part k Device.fbs (fun _ _ => rfl) c).trans hoff)

/-- The new offset is in force. -/
theorem Device.lpRd_alignedBy : (d.alignedBy k c).lpRd (AX_LP_COMM_OFF k) = c := by
  have hshown : ∀ x : Device, (x.shownAligned k).lp = x.lp := fun _ => rfl
  have hlp : (d.alignedBy k c).lp = Store.set resetWord d.lp (AX_LP_COMM_OFF k) c :=
    (hshown _).trans ((d.commOff k c).commOffSlot_part k Device.lp (fun _ _ => rfl) c)
  rw [Device.lpRd, hlp, Store.get_set_same]

/-- The new offset stands in the shadow. -/
theorem Device.rd_alignedBy : (d.alignedBy k c).rd (AX_LP_COMM_OFF k) = c := by
  have hoff : (d.commOff k c).rd (AX_LP_COMM_OFF k) = c := Device.rd_wr_same d _ c
  have hslot : ((d.commOff k c).commOffSlot k c).rd (AX_LP_COMM_OFF k) = (d.commOff k c).rd (AX_LP_COMM_OFF k) :=
    (d.commOff k c).commOffSlot_part k (Device.rd · (AX_LP_COMM_OFF k)) (fun _ _ => rfl) c
  refine (Device.rd_put_other _ (AX_EVENT_ALIGN_DONE k) _ _ ?_).trans (hslot.trans hoff)
  simp only [AX_EVENT_ALIGN_DONE, AX_EVENT, AX_LP_COMM_OFF]
  omega

theorem Device.liveGet_alignedBy : (d.alignedBy k c).liveGet (AX_STATUS_COMM_VALID k) = 1 :=
  Device.liveGet_livePut_same _ (AX_STATUS_COMM_VALID k) 1 (by simp only [AX_STATUS_COMM_VALID]; decide)

theorem Device.get_alignedBy : (d.alignedBy k c).get (AX_EVENT_ALIGN_DONE k) = 1 :=
  Device.get_put_same _ (AX_EVENT_ALIGN_DONE k) 1 (by simp only [AX_EVENT_ALIGN_DONE]; decide)

end Aligned
end Outcomes

/-! ### What is seen of the RUN transition -/

/-- An axis that came to RUN, against the block before its enable sequence's last step. -/
def Device.running (d e : Device) (k : Nat) : Prop := e.axState k = axRUN ∧ e.has (AX_EVENT_ENABLED k) = true ∧ (e.ax k).relAt = none ∧
  (e.ax k).alignAt = none ∧ (e.pl k).cur = { p3 := posIn ((d.ownSource k).fbPos k) } ∧
  e.plState k = (if (d.gpTwin k).isSome || (d.cyOf k).isSome then plFOLLOWING else plIDLE) ∧ Claims.otherAxes d e k

theorem Runs.running {d e : Device} {k : Nat} (h : Runs d e k) : d.running e k := by
  obtain ⟨i, w, hown⟩ := h.own
  exact ⟨h.state, h.raised, congrArg AxisCtl.relAt hown, congrArg AxisCtl.alignAt hown, h.cur, h.plState, h.others⟩

/-- The end of the alignment is told to the planner and the other axes as the RUN transition is. -/
theorem Device.running_alignedBy {d e : Device} {k : Nat} {c : BitVec 32} (h : (d.alignedBy k c).running e k) : d.running e k := by
  obtain ⟨hstate, hraised, hrel, halign, hcur, hpl, hothers⟩ := h
  have haside := Aside.alignedBy d k c
  have hdual : (d.alignedBy k c).has (AX_FB_SRC_DUAL k) = d.has (AX_FB_SRC_DUAL k) := haside.has (by
    simp only [alignedReg, AX_FB_SRC_DUAL, AX_FB_SRC, AX_LP_COMM_OFF, AX_EVENT]
    omega)
  have hfb : (d.alignedBy k c).fb k = d.fb k := by simp only [Device.fb, d.fbs_alignedBy]
  rw [Device.fbPos_ownSource_congr hfb hdual] at hcur
  rw [haside.gpTwin (fun _ => not_alignedReg_of_lt), haside.cyOf (fun _ => not_alignedReg_of_lt) fun a ha h => by
    simp only [h, AX_STATUS] at ha
    omega] at hpl
  exact ⟨hstate, hraised, hrel, halign, hcur, hpl, fun j hj => (hothers j hj).trans (haside.ax j)⟩

end Machine

section Timed
variable {s : State} (k : Fin 192) (hr : s.dev.inReset = false)
include hr

theorem leads_brakeRelElapsed_idle (h : s.dev.brakeRel k = s.dev) : leads (.brakeRelElapsed k) s (· = s.dev) :=
  leads_onDev_of_clk rfl hr h rfl rfl

theorem leads_alignmentEnd_idle (h : s.dev.alignEnd k = s.dev) : leads (.alignmentEnd k) s (· = s.dev) :=
  leads_onDev_of_clk rfl hr h rfl rfl

section Due
variable {r : Nat} (h : (s.dev.ax k).relAt = some r) (hst : s.dev.axState k = axENABLING) (ht : r ≤ s.dev.clk.beat)
include h hst ht

theorem leads_brakeRelElapsed_aligns (hmust : s.dev.mustAlign k) : leads (.brakeRelElapsed k) s (fun d => d.axState k = axENABLING ∧
    (d.ax k).alignAt = some s.dev.clk.beat ∧ (d.ax k).relAt = none ∧ Claims.otherAxes s.dev d k ∧
    { d with axes := s.dev.axes, engines := s.dev.engines } = s.dev) := by
  have hset : Refreshed k (s.dev.setAx k (AxisCtl.aligning s.dev.clk.beat))
      ((s.dev.setAx k (AxisCtl.aligning s.dev.clk.beat)).axRefresh k) := .axRefresh _
  obtain ⟨i, w, hown⟩ := id hset.own
  have hax := (Device.ax_setAx_same s.dev k (AxisCtl.aligning s.dev.clk.beat))
  rw [hax] at hown
  refine leads_onDev_of_clk rfl hr ((Device.brakeRel_due h hst ht).trans (if_pos (Device.mustAlign_iff.mp hmust))) hset.clk
    ⟨(hset.liveGet _).trans hst, congrArg AxisCtl.alignAt hown, congrArg AxisCtl.relAt hown, fun j hj => ?_, ?_⟩
  · exact (hset.others j hj).trans (s.dev.ax_setAx_other k _ hj)
  · have hblock := congrArg (fun x : Device => { x with axes := s.dev.axes }) hset.block
    exact hblock

theorem leads_brakeRelElapsed_runs (hmust : ¬ s.dev.mustAlign k) : leads (.brakeRelElapsed k) s (s.dev.running · k) := by
  have hruns := s.dev.runs_axRun k
  exact leads_onDev_of_clk rfl hr ((Device.brakeRel_due h hst ht).trans (if_neg (Device.mustAlign_iff.not.mp hmust))) hruns.clk hruns.running

end Due

theorem leads_alignmentEnd_due {a : Nat} (h : (s.dev.ax k).alignAt = some a) (hst : s.dev.axState k = axENABLING)
    (ht : a + s.dev.lpGet (AX_LP_ALIGN_ALIGN_BEATS k) ≤ s.dev.clk.beat) {c : BitVec 32}
    (hc : c = BitVec.ofNat 32 (ofS 32 (-(s.dev.commAngle k)))) :
    leads (.alignmentEnd k) s (fun d => s.dev.running d k ∧ d.liveHas (AX_STATUS_COMM_VALID k) = true ∧
      d.has (AX_EVENT_ALIGN_DONE k) = true ∧ d.rd (AX_LP_COMM_OFF k) = c ∧ d.lpRd (AX_LP_COMM_OFF k) = c) := by
  let e := s.dev.alignedBy k c
  have hruns : Runs e (e.axRun k) k := e.runs_axRun k
  have hclk : e.clk = s.dev.clk := (Aside.alignedBy s.dev k c).clk
  refine leads_onDev_of_clk rfl hr ((Device.alignEnd_due h hst ht).trans (by rw [← hc])) (hruns.clk.trans hclk)
    ⟨Device.running_alignedBy hruns.running, ?_, ?_, ?_, ?_⟩
  · have hvalid := (hruns.status (AX_STATUS_COMM_VALID k) rfl (by simp only [AX_STATUS_COMM_VALID]; decide)
      (by simp only [AX_STATUS_COMM_VALID]; decide)).trans (s.dev.liveGet_alignedBy k c)
    rw [Device.liveHas, hvalid]
    decide
  · have hdone := (hruns.event (AX_EVENT_ALIGN_DONE k) rfl (by simp only [AX_EVENT_ALIGN_DONE]; decide)
      (by simp only [AX_EVENT_ALIGN_DONE]; decide)).trans (s.dev.get_alignedBy k c)
    rw [Device.has, hdone]
    decide
  · refine (hruns.regs _ ?_).trans (s.dev.rd_alignedBy k c)
    rintro (hoff | hoff)
    · simp only [AX_LP_COMM_OFF, AX_EVENT] at hoff
      omega
    · exact not_planReg (k := k) (o := 0x298) (by simp only [AX_LP_COMM_OFF]; omega) (by decide) (.inr (by decide)) hoff
  · rw [Device.lpRd, hruns.lp]
    exact s.dev.lpRd_alignedBy k c

end Timed
end Sys2Proof
end

section
/-! The end of OFF_DELAY (R125): STATE becomes OFF with the cause of the disable. -/

namespace Sys2Proof

open Sys2Proof.Machine

namespace Machine

section Off
variable (d : Device) (k : Nat)

/-- Of an axis's control and the clock nothing differs. -/
abbrev Unheard (d e : Device) : Prop := Aside (fun _ => True) (fun _ => True) d e

theorem Unheard.fioCommand (c : Nat) (on : Bool) : Unheard d (d.fioCommand c on) := by
  have hput : ∀ (e : Device) (g : Fld) (v : Nat), Unheard e (e.put g v) := fun e g v => .put e g v trivial
  have hfio : ∀ (e : Device) (f : FioCh → FioCh), Unheard e (e.setFio c f) := fun _ _ => .same rfl rfl rfl rfl
  have hdrive : ∀ e : Device, Unheard e (e.fioDrive c) := fun e => .ite (.refl e) (hfio e _)
  unfold Device.fioCommand
  refine .ite ((hput d _ _).trans (hput _ _ _)) ?_
  extract_lets d1 d2
  have h1 : Unheard d d1 := ((hput d _ _).trans (hput _ _ _)).trans (hput _ _ _)
  have h2 : Unheard d1 d2 := .ite (.refl d1) (hput d1 _ _)
  exact (h1.trans h2).trans ((hfio d2 _).trans (hdrive _))

theorem Unheard.brake (on : Bool) : Unheard d (d.brake k on) := by
  unfold Device.brake
  exact .ite (Aside.trans (.livePut d _ _ trivial) (fioCommand _ _ on)) (.refl d)

/-- A word of data memory belongs to its engine. -/
theorem Aside.setDm {R L : Nat → Prop} (e a : Nat) (v : BitVec 32) : Aside R L d (d.setDm e a v) := .same rfl rfl rfl rfl

theorem Unheard.vecClear : Unheard d (d.vecClear k) := by
  unfold Device.vecClear
  split
  · exact .refl d
  · exact Aside.foldl _ (fun b i _ => .ite (.refl b) (.setDm b _ _ _)) d

theorem Plans.plRest : Plans d (d.plRest k) := by
  unfold Device.plRest
  split
  · exact .refl d
  · exact (Plans.setPl d k _).trans (.livePut _ _ _ ⟨k, rfl⟩)

theorem Plans.plOff : Plans d (d.plOff k) :=
  (((Plans.plRest d k).trans (Plans.setPl _ k _)).trans (Plans.setPlState _ k _)).trans (Plans.plReport _ k)

theorem Device.plState_plOff : (d.plOff k).plState k = plOFF :=
  (Device.plState_plReport _ k).trans (Device.plState_setPlState _ k _ (by decide))

/-- An axis without torque. -/
def AxisCtl.dead (s : AxisCtl) : AxisCtl :=
  { s with enPend := none, brakeAt := none, relAt := none, alignAt := none, rest := none, staged := none, out := offOutbox,
           applied := offOutbox, stagedSince := false }

/-- STATE in OFF with its cause. -/
def Device.shownOff (cause : Nat) : Device := (d.setAxState k axOFF).livePut (AX_STATUS_OFF_CAUSE k) cause

/-- Feedback unit and planner of an axis in OFF, and its event. -/
def Device.settledOff : Device :=
  (((d.setFb k fun u => { u with obs := false }).livePut (AX_FB_STATUS_OBSERVER k) 0).plOff k).raise (AX_EVENT_OFF k)

theorem Device.axOffNow_eq (cause : Nat) :
    d.axOffNow k cause = ((((d.brake k false).vecClear k).shownOff k cause).setAx k AxisCtl.dead).settledOff k := rfl

theorem Aside.settledOff : Aside (runReg k) (runLive k) d (d.settledOff k) := by
  have hfb : Aside (runReg k) (runLive k) d ((d.setFb k fun u => { u with obs := false }).livePut (AX_FB_STATUS_OBSERVER k) 0) :=
    (Aside.setFb d k _).trans (.livePut _ _ _ (.inl rfl))
  have hpl := (Plans.plOff ((d.setFb k fun u => { u with obs := false }).livePut (AX_FB_STATUS_OBSERVER k) 0) k).mono
    (R' := runReg k) (L' := runLive k) (fun _ => .inr) fun _ => .inr
  exact (hfb.trans hpl).trans (.put _ _ _ (.inl rfl))

theorem Device.plState_settledOff : (d.settledOff k).plState k = plOFF := by
  have hraise : ∀ (e : Device) (g : Fld), (e.raise g).plState k = e.plState k := fun _ _ => rfl
  exact (hraise _ _).trans (Device.plState_plOff _ k)

theorem Device.get_settledOff : (d.settledOff k).get (AX_EVENT_OFF k) = 1 :=
  Device.get_put_same _ (AX_EVENT_OFF k) 1 (by simp only [AX_EVENT_OFF]; decide)

theorem Device.axState_shownOff (cause : Nat) : (d.shownOff k cause).axState k = axOFF :=
  (Device.liveGet_livePut_bits _ (AX_STATUS_OFF_CAUSE k) (AX_STATUS_STATE k) cause
    (.inl (by simp only [AX_STATUS_STATE, AX_STATUS_OFF_CAUSE]; decide)) (by simp only [AX_STATUS_STATE]; decide)).trans (Device.axState_setAxState d k (by decide))

theorem Device.offCause_shownOff (cause : Nat) : (d.shownOff k cause).liveGet (AX_STATUS_OFF_CAUSE k) = cause % 16 :=
  Device.liveGet_livePut_same _ (AX_STATUS_OFF_CAUSE k) cause (by simp only [AX_STATUS_OFF_CAUSE]; decide)

theorem Unheard.shownOff (cause : Nat) : Unheard d (d.shownOff k cause) :=
  (Aside.livePut d _ _ trivial).trans (.livePut _ _ _ trivial)

/-- The block of axis `k` in OFF since its torque was removed with a cause. -/
def Device.offBy (d e : Device) (k cause : Nat) : Prop := e.axState k = axOFF ∧ e.liveGet (AX_STATUS_OFF_CAUSE k) = cause % 16 ∧
  e.has (AX_EVENT_OFF k) = true ∧ e.plState k = plOFF ∧ (e.ax k).out = offOutbox ∧ (e.ax k).rest = none ∧ (e.ax k).staged = none ∧
  Claims.otherAxes d e k

variable {d k} in
theorem Device.offBy_settledOff {e : Device} {cause : Nat} (h : Unheard d e) (hst : e.axState k = axOFF)
    (hcause : e.liveGet (AX_STATUS_OFF_CAUSE k) = cause % 16) :
    ((e.setAx k AxisCtl.dead).settledOff k).clk = d.clk ∧ d.offBy ((e.setAx k AxisCtl.dead).settledOff k) k cause := by
  have hend : Aside (runReg k) (runLive k) (e.setAx k AxisCtl.dead) ((e.setAx k AxisCtl.dead).settledOff k) := .settledOff _ k
  have hlive : ∀ x : Fld, x.addr = AX_STATUS k → ((e.setAx k AxisCtl.dead).settledOff k).liveGet x = e.liveGet x := fun x hx =>
    hend.live x (hx ▸ not_runLive_axStatus k)
  have hax : ((e.setAx k AxisCtl.dead).settledOff k).ax k = AxisCtl.dead (e.ax k) := (hend.ax k).trans (e.ax_setAx_same k _)
  refine ⟨hend.clk.trans h.clk, (hlive _ rfl).trans hst, (hlive _ rfl).trans hcause, ?_, Device.plState_settledOff _ k,
    congrArg AxisCtl.out hax, congrArg AxisCtl.rest hax, congrArg AxisCtl.staged hax, fun j hj => ?_⟩
  · rw [Device.has, Device.get_settledOff]
    decide
  · exact (hend.ax j).trans ((e.ax_setAx_other k _ hj).trans (h.ax j))

theorem Device.offBy_axOffNow (cause : Nat) : (d.axOffNow k cause).clk = d.clk ∧ d.offBy (d.axOffNow k cause) k cause := by
  rw [Device.axOffNow_eq]
  have hclear : Unheard d ((d.brake k false).vecClear k) := (Unheard.brake d k false).trans (Unheard.vecClear _ k)
  exact Device.offBy_settledOff (hclear.trans (Unheard.shownOff _ k cause)) (Device.axState_shownOff _ k cause)
    (Device.offCause_shownOff _ k cause)

variable {d k}

theorem Device.offDelay_none (h : (d.ax k).rest = none) : d.offDelay k = d := by
  unfold Device.offDelay
  extract_lets s
  rw [show s.rest = none from h]

/-- The end of OFF_DELAY at L of the beat after bridge-off was computed. -/
theorem Device.offDelay_some {m : Nat} (h : (d.ax k).rest = some m) : d.offDelay k =
    if m + (d.ax k).offDelay + 1 < d.clk.beat ∨ (m + (d.ax k).offDelay + 1 = d.clk.beat ∧ d.clk.latch ≤ d.clk.tick) then
      d.axOffNow k (d.ax k).cause else d := by
  unfold Device.offDelay
  extract_lets s
  rw [show s.rest = some m from h]

end Off
end Machine

section Timed
variable {s : State} (k : Fin 192) (hr : s.dev.inReset = false)
include hr

theorem leads_offDelayElapsed_idle (h : s.dev.offDelay k = s.dev) : leads (.offDelayElapsed k) s (· = s.dev) :=
  leads_onDev_of_clk rfl hr h rfl rfl

theorem leads_offDelayElapsed_off (h : s.dev.offDelay k = s.dev.axOffNow k (s.dev.ax k).cause) :
    leads (.offDelayElapsed k) s (s.dev.offBy · k (s.dev.ax k).cause) := by
  obtain ⟨hclk, hoff⟩ := s.dev.offBy_axOffNow k (s.dev.ax k).cause
  exact leads_onDev_of_clk rfl hr h hclk hoff

end Timed

theorem timedStepsOfEnableAndDisable : Claims.TimedStepsOfEnableAndDisable := by
  intro s k hr
  extract_lets runs aligns
  refine ⟨fun r h => ⟨fun hst ht => ⟨leads_brakeRelElapsed_aligns k hr h hst ht, leads_brakeRelElapsed_runs k hr h hst ht⟩,
    fun ht => ?_⟩,
    fun h => leads_brakeRelElapsed_idle k hr (Device.brakeRel_none h), fun a h => ?_,
    fun h => leads_alignmentEnd_idle k hr (Device.alignEnd_none h), fun m h => ?_,
    fun h => leads_offDelayElapsed_idle k hr (Device.offDelay_none h)⟩
  · exact leads_brakeRelElapsed_idle k hr (Device.brakeRel_early h ht)
  · exact ⟨fun hst ht => leads_alignmentEnd_due k hr h hst ht rfl, fun ht => leads_alignmentEnd_idle k hr (Device.alignEnd_early h ht)⟩
  · extract_lets at_
    refine ⟨fun ht => leads_offDelayElapsed_off k hr ((Device.offDelay_some h).trans (if_pos ht)), fun ht => ?_⟩
    refine leads_offDelayElapsed_idle k hr ((Device.offDelay_some h).trans (if_neg ?_))
    simp only [at_] at ht
    omega

end Sys2Proof
end

section
/-! Loop parameters (R119, R120): a commit is refused by the first check that fails or pends with every shadow word, and the
boundary puts the pending words in force. -/

namespace Sys2Proof

open Sys2Proof.Machine

namespace Machine

/-- A sparse map in which the keys of a list are set in turn. -/
theorem Store.get_foldl_set {α : Type} [DecidableEq α] (dflt v : Nat → α) (l : List Nat) (a : Nat) : ∀ m : Store α,
    Store.get dflt (l.foldl (fun m b => Store.set dflt m b (v b)) m) a = if a ∈ l then v a else Store.get dflt m a := by
  induction l with
  | nil => exact fun m => rfl
  | cons b l ih =>
    intro m
    rw [List.foldl_cons, ih, Store.get_set]
    by_cases hb : a = b
    · simp [hb]
    · simp [hb]

section Commit
variable {d : Device} {k : Nat}

/-- A shift that is too long, or too short for a step position (R119). -/
def Device.badShift (d : Device) (k : Nat) : Prop :=
  (∃ x ∈ d.lpShifts k, 47 < x) ∨ (d.variant k = 3 ∧ d.get (AX_LP_SH3_SH_STEP k) < 16)

/-- A divisor that is none, or a velocity loop slower than the position loop's rule allows (R119). -/
def Device.badDivisors (d : Device) (k : Nat) : Prop :=
  bits (d.rdN (AX_LP_CTRL k)) 2 2 = 3 ∨ bits (d.rdN (AX_LP_CTRL k)) 0 2 < bits (d.rdN (AX_LP_CTRL k)) 2 2

/-- Both contours can be followed (R116, R119). -/
def Device.goodContours (d : Device) (k : Nat) : Prop :=
  d.contourOk (bits (d.rdN (AX_LP_CTRL k)) 16 8) = true ∧ d.contourOk (bits (d.rdN (AX_LP_CTRL k)) 24 8) = true

theorem Device.badShift_iff : d.badShift k ↔
    (d.lpShifts k).any (fun s => decide (47 < s)) ∨ (d.variant k = 3 ∧ d.get (AX_LP_SH3_SH_STEP k) < 16) := by
  simp only [Device.badShift, List.any_eq_true, decide_eq_true_eq]

theorem Device.paramCommit_badShift (h : d.badShift k) : d.paramCommit k = d.lpRefuse k 1 := if_pos (Device.badShift_iff.mp h)

theorem Device.paramCommit_badDivisors (h : ¬ d.badShift k) (hdiv : d.badDivisors k) : d.paramCommit k = d.lpRefuse k 2 :=
  (if_neg (Device.badShift_iff.not.mp h)).trans (if_pos hdiv)

theorem Device.paramCommit_badContours (h : ¬ d.badShift k) (hdiv : ¬ d.badDivisors k) (hct : ¬ d.goodContours k) :
    d.paramCommit k = d.lpRefuse k 3 := (if_neg (Device.badShift_iff.not.mp h)).trans ((if_neg hdiv).trans (if_pos hct))

/-- A refusal of a commit shows its code and changes nothing else. -/
theorem Device.lpRefused_lpRefuse {code : Nat} (h : code < 256) : Claims.lpRefused d (d.lpRefuse k code) k code := by
  have hput : Aside (fun _ => False) (· = AX_LP_STATUS k) d (d.livePut (AX_LP_STATUS_REFUSE_LAST k) code) := .livePut d _ _ rfl
  refine ⟨?_, ?_, rfl, .put _ (AX_EVENT_PARAM_REFUSED k) 1 _ rfl, hput.live⟩
  · exact (Device.liveGet_livePut_same d (AX_LP_STATUS_REFUSE_LAST k) code (by simp only [AX_LP_STATUS_REFUSE_LAST]; decide)).trans
      (Nat.mod_eq_of_lt h)
  · have hraised : (d.lpRefuse k code).get (AX_EVENT_PARAM_REFUSED k) = 1 :=
      Device.get_put_same _ (AX_EVENT_PARAM_REFUSED k) 1 (by simp only [AX_EVENT_PARAM_REFUSED]; decide)
    rw [Device.has, hraised]
    decide

/-- An axis with a commit pending or not. -/
def AxisCtl.withCommit (on : Bool) (s : AxisCtl) : AxisCtl := { s with commit := on }

variable (d k)

/-- The pending words with those of axis `k` from the shadow. -/
def Device.shadowPend : Store (BitVec 32) := (lpAddrs k).foldl (fun m a => Store.set resetWord m a (d.rd a)) d.lpPend

section Pended
variable (p : Store (BitVec 32))

/-- A commit accepted with its pending words. -/
def Device.committing : Device := ({ d with lpPend := p }.setAx k (AxisCtl.withCommit true)).livePut (AX_LP_STATUS_COMMIT_PEND k) 1

theorem Device.clk_committing : (d.committing k p).clk = d.clk := rfl

theorem Device.lpPend_committing : (d.committing k p).lpPend = p := rfl

theorem Device.commit_committing : ((d.committing k p).ax k).commit = true :=
  congrArg AxisCtl.commit (Device.ax_setAx_same { d with lpPend := p } k (AxisCtl.withCommit true))

theorem Device.otherAxes_committing : Claims.otherAxes d (d.committing k p) k := fun _ hj =>
  Device.ax_setAx_other { d with lpPend := p } k (AxisCtl.withCommit true) hj

theorem Device.liveGet_committing : (d.committing k p).liveGet (AX_LP_STATUS_COMMIT_PEND k) = 1 :=
  Device.liveGet_livePut_same _ (AX_LP_STATUS_COMMIT_PEND k) 1 (by simp only [AX_LP_STATUS_COMMIT_PEND]; decide)

theorem Device.onlyShown_committing :
    Claims.onlyShown { d with lpPend := (d.committing k p).lpPend, axes := (d.committing k p).axes } (d.committing k p) (fun _ => False)
      (· = AX_LP_STATUS k) := by
  have hput : Aside (fun _ => False) (· = AX_LP_STATUS k) ({ d with lpPend := p }.setAx k (AxisCtl.withCommit true)) (d.committing k p) :=
    .livePut _ (AX_LP_STATUS_COMMIT_PEND k) 1 rfl
  have hshown : ∀ f, ({ d with lpPend := p }.setAx k (AxisCtl.withCommit true)).liveGet f =
      Device.liveGet { d with lpPend := (d.committing k p).lpPend, axes := (d.committing k p).axes } f := fun _ => rfl
  have hblock : { d.committing k p with regs := d.regs, live := d.live } =
      { d with lpPend := (d.committing k p).lpPend, axes := (d.committing k p).axes } := by
    simp only [Device.committing, Device.livePut, Device.setAx]
  have hregs : (d.committing k p).regs = d.regs := rfl
  exact ⟨hblock, .regs _ hregs, fun f hf => (hput.live f hf).trans (hshown f)⟩

end Pended

variable {d k}

theorem Device.get_shadowPend {a : Nat} (ha : a ∈ lpAddrs k) : Store.get resetWord (d.shadowPend k) a = d.rd a := by
  rw [Device.shadowPend, Store.get_foldl_set, if_pos ha]

/-- The commit of an axis without a slot has no engine to fit. -/
theorem Device.paramCommit_accepted (h : ¬ d.badShift k) (hdiv : ¬ d.badDivisors k) (hct : d.goodContours k) (hslot : d.slotOf k = none) :
    d.paramCommit k = d.committing k (d.shadowPend k) := by
  refine (if_neg (Device.badShift_iff.not.mp h)).trans ((if_neg hdiv).trans ((if_neg (not_not.mpr hct)).trans (if_neg ?_)))
  rw [hslot]
  exact Bool.noConfusion

end Commit

/-! ### The boundary -/

/-- An axis whose integrators are to be cleared no more. -/
def AxisCtl.intCleared (s : AxisCtl) : AxisCtl := { s with clearInt := false }

section Boundary
variable (d : Device) (k : Nat)

/-- The words in force with the pending ones of axis `k`. -/
def Device.lpTaken : Store (BitVec 32) := (lpAddrs k).foldl (fun m a => Store.set resetWord m a (Store.get resetWord d.lpPend a)) d.lp

/-- The pending words without those of axis `k`. -/
def Device.lpDropped : Store (BitVec 32) := (lpAddrs k).foldl (fun m a => Store.set resetWord m a (resetWord a)) d.lpPend

theorem Device.get_lpTaken {a : Nat} (ha : a ∈ lpAddrs k) : Store.get resetWord (d.lpTaken k) a = Store.get resetWord d.lpPend a := by
  rw [Device.lpTaken, Store.get_foldl_set, if_pos ha]

/-- A clearing of the integrators taken where it was asked for, for an axis without a slot. -/
def Device.intTaken (asked : Bool) : Device := if asked then d.setAx k AxisCtl.intCleared else d

/-- A clearing of the integrators is an axis's own. -/
theorem Device.intTaken_block (asked : Bool) : { d.intTaken k asked with axes := d.axes } = d := by
  cases asked <;> rfl

theorem Device.intTaken_part {β : Type} (f : Device → β) (hf : ∀ x axes, f { x with axes := axes } = f x) (asked : Bool) :
    f (d.intTaken k asked) = f d := (hf _ _).symm.trans (congrArg f (d.intTaken_block k asked))

theorem Device.commit_intTaken (asked : Bool) : ((d.intTaken k asked).ax k).commit = (d.ax k).commit := by
  cases asked
  case false => rfl
  case true =>
    have hax : (d.intTaken k true).ax k = AxisCtl.intCleared (d.ax k) := d.ax_setAx_same k _
    rw [hax]
    rfl

theorem Device.otherAxes_intTaken (asked : Bool) : Claims.otherAxes d (d.intTaken k asked) k := by
  cases asked
  case false => exact fun _ _ => rfl
  case true => exact fun _ hj => d.ax_setAx_other k AxisCtl.intCleared hj

section Words
variable (p q : Store (BitVec 32))

/-- The words of a commit in force, with what shows it. -/
def Device.applying : Device :=
  (({ d with lp := p, lpPend := q }.setAx k (AxisCtl.withCommit false)).livePut (AX_LP_STATUS_COMMIT_PEND k) 0).raise
    (AX_EVENT_PARAM_APPLIED k)

theorem Device.lpRd_applying {a : Nat} (ha : a ∈ lpAddrs k) :
    (d.applying k (d.lpTaken k) q).lpRd a = Store.get resetWord d.lpPend a := by
  have hlp : ∀ p, (d.applying k p q).lp = p := fun _ => rfl
  rw [Device.lpRd, hlp, d.get_lpTaken k ha]

theorem Device.commit_applying : ((d.applying k p q).ax k).commit = false :=
  congrArg AxisCtl.commit (Device.ax_setAx_same { d with lp := p, lpPend := q } k (AxisCtl.withCommit false))

theorem Device.otherAxes_applying : Claims.otherAxes d (d.applying k p q) k := fun _ hj =>
  Device.ax_setAx_other { d with lp := p, lpPend := q } k (AxisCtl.withCommit false) hj

theorem Device.liveGet_applying : (d.applying k p q).liveGet (AX_LP_STATUS_COMMIT_PEND k) = 0 :=
  Device.liveGet_livePut_same _ (AX_LP_STATUS_COMMIT_PEND k) 0 (by simp only [AX_LP_STATUS_COMMIT_PEND]; decide)

theorem Device.get_applying : (d.applying k p q).get (AX_EVENT_PARAM_APPLIED k) = 1 :=
  Device.get_put_same _ (AX_EVENT_PARAM_APPLIED k) 1 (by simp only [AX_EVENT_PARAM_APPLIED]; decide)

/-- The slots of the engines are told by registers above those of the axes. -/
theorem Device.slotOf_applying {k : Nat} (hk : k < 192) : (d.applying k p q).slotOf k = d.slotOf k := by
  refine Device.slotOf_congr (fun a ha => Device.rd_put_other _ (AX_EVENT_PARAM_APPLIED k) 1 a ?_) k
  simp only [AX_EVENT_PARAM_APPLIED, AX_EVENT]
  omega

end Words

/-- The boundary's part of a commit of an axis without a slot. -/
theorem Device.lpBoundary_eq {k : Nat} (hk : k < 192) (hc : (d.ax k).commit = true) (hslot : d.slotOf k = none) :
    d.lpBoundary k = (d.applying k (d.lpTaken k) (d.lpDropped k)).intTaken k (d.ax k).clearInt := by
  unfold Device.lpBoundary
  extract_lets s lp pend d1 d2
  have h1 : d1 = d.applying k (d.lpTaken k) (d.lpDropped k) := if_pos hc
  have hslot1 : d1.slotOf k = none := by rw [h1, d.slotOf_applying _ _ hk, hslot]
  have h2 : d2 = d1.intTaken k s.clearInt := by
    simp only [d2]
    rw [hslot1]
    rfl
  have hslot2 : d2.slotOf k = none := by
    rw [h2, d1.intTaken_part k (Device.slotOf · k) (fun _ _ => rfl), hslot1]
  rw [if_pos hc, hslot2, h2, h1]

end Boundary
end Machine

section Parameters
variable {s : State} (k : Fin 192) (hr : s.dev.inReset = false)
include hr

theorem leads_paramCommit_refused {code : Nat} (hcode : code < 256) (h : s.dev.paramCommit k = s.dev.lpRefuse k code) :
    leads (.paramCommit k) s (Claims.lpRefused s.dev · k code) := by
  have hclk : (s.dev.lpRefuse k code).clk = s.dev.clk := rfl
  exact leads_onDev_of_clk rfl hr h hclk (Device.lpRefused_lpRefuse hcode)

theorem leads_paramCommit_accepted (h : s.dev.paramCommit k = s.dev.committing k (s.dev.shadowPend k)) :
    leads (.paramCommit k) s (fun d => (d.ax k).commit = true ∧ d.liveGet (AX_LP_STATUS_COMMIT_PEND k) = 1 ∧
      (∀ a ∈ lpAddrs k, Store.get resetWord d.lpPend a = s.dev.rd a) ∧ Claims.otherAxes s.dev d k ∧
      Claims.onlyShown { s.dev with lpPend := d.lpPend, axes := d.axes } d (fun _ => False) (· = AX_LP_STATUS k)) :=
  leads_onDev_of_clk rfl hr h (s.dev.clk_committing k _) ⟨s.dev.commit_committing k _, s.dev.liveGet_committing k _,
    fun _ ha => (congrArg (Store.get resetWord · _) (s.dev.lpPend_committing k _)).trans (Device.get_shadowPend ha),
    s.dev.otherAxes_committing k _, s.dev.onlyShown_committing k _⟩

theorem leads_clearInt : leads (.clearInt k) s (fun d => d.ax k = { s.dev.ax k with clearInt := true } ∧
    Claims.otherAxes s.dev d k ∧ { d with axes := s.dev.axes } = s.dev) :=
  leads_onDev_of_clk (f := (Device.clearInt · k)) rfl hr rfl rfl ⟨s.dev.ax_setAx_same k _, fun _ hj => s.dev.ax_setAx_other k _ hj, rfl⟩

end Parameters

theorem parameterCommitChecksAndApplies : Claims.ParameterCommitChecksAndApplies := by
  refine ⟨fun s k hr => ?_, fun d k hc hslot => ?_⟩
  · extract_lets w shifts divs contours
    refine ⟨fun hs => ?_, fun hs hd => ?_, fun hs hd hct => ?_, fun hs hd hct hslot => ?_, leads_clearInt k hr⟩
    · exact leads_paramCommit_refused k hr (by decide) (Device.paramCommit_badShift hs)
    · exact leads_paramCommit_refused k hr (by decide) (Device.paramCommit_badDivisors hs hd)
    · exact leads_paramCommit_refused k hr (by decide) (Device.paramCommit_badContours hs hd hct)
    · exact leads_paramCommit_accepted k hr (Device.paramCommit_accepted hs hd hct hslot)
  · let b := d.applying k (d.lpTaken k) (d.lpDropped k)
    extract_lets e
    have he : e = b.intTaken k (d.ax k).clearInt := d.lpBoundary_eq k.isLt hc hslot
    have hpart := fun {β : Type} (f : Device → β) (hf : ∀ x axes, f { x with axes := axes } = f x) =>
      (congrArg f he).trans (b.intTaken_part k f hf (d.ax k).clearInt)
    have happlied : e.get (AX_EVENT_PARAM_APPLIED k) = 1 := (hpart (Device.get · _) fun _ _ => rfl).trans (d.get_applying k _ _)
    refine ⟨fun a ha => ?_, ?_, ?_, ?_, fun j hj => ?_⟩
    · exact (hpart (Device.lpRd · a) fun _ _ => rfl).trans (d.lpRd_applying k _ ha)
    · rw [he, b.commit_intTaken]
      exact d.commit_applying k _ _
    · exact (hpart (Device.liveGet · _) fun _ _ => rfl).trans (d.liveGet_applying k _ _)
    · rw [Device.has, happlied]
      decide
    · rw [he]
      exact (b.otherAxes_intTaken k _ j hj).trans (d.otherAxes_applying k _ _ j hj)

/-- Settles O25: each timed step is its own outcome by time and STATE, followed through the feedback unit, the planner and the slot
window; a commit is the first refusal that applies or pends, and the boundary takes its words. -/
theorem axisTimedStepsAndParameters : Obligations.AxisTimedStepsAndParameters :=
  ⟨timedStepsOfEnableAndDisable, parameterCommitChecksAndApplies⟩

end Sys2Proof
end

section
/-! Bits of a number, and the slots of an instruction word (R138–R143): each layout is read back where its slot is read. -/

namespace Sys2Proof

open Sys2Proof.Machine

namespace Machine

/-! ### Bits -/

theorem bit_eq_testBit (n i : Nat) : bit n i = n.testBit i := by
  rw [Nat.testBit_eq_decide_div_mod_eq]
  rfl

/-- A bit replaced is the lowest bit replaced of what stands from it on. -/
theorem setBit_eq (n i : Nat) (b : Bool) : setBit n i b = 2 ^ i * setBit (n / 2 ^ i) 0 b + n % 2 ^ i := by
  have hbit : bit (n / 2 ^ i) 0 = bit n i := by simp only [bit, Nat.pow_zero, Nat.div_one]
  have hn := Nat.div_add_mod n (2 ^ i)
  simp only [setBit, hbit, Nat.pow_zero]
  cases hb : bit n i <;> cases b <;> simp only [Bool.false_eq_true, if_true, if_false, Nat.mul_add, Nat.mul_one, hn]
  · rw [Nat.add_right_comm, hn]
  · obtain ⟨q, hq⟩ : ∃ q, n / 2 ^ i = q + 1 := Nat.exists_eq_succ_of_ne_zero fun h0 => by simp [bit, h0] at hb
    rw [hq, Nat.mul_add, Nat.mul_one] at hn
    rw [hq, Nat.add_sub_cancel]
    omega

/-- A bit replaced, and no other bit with it. -/
theorem bit_setBit (n i j : Nat) (b : Bool) : bit (setBit n i b) j = if j = i then b else bit n j := by
  rw [setBit_eq, setBit_zero, bit_eq_testBit, bit_eq_testBit, Nat.testBit_two_pow_mul_add _ (Nat.mod_lt n (Nat.two_pow_pos i))]
  obtain hlt | rfl | hgt := Nat.lt_trichotomy j i
  · simp [hlt, Nat.ne_of_lt hlt]
  · cases b <;> simp [b2n, Nat.testBit_zero]
  · obtain ⟨k, rfl⟩ : ∃ k, j = k + 1 + i := ⟨j - i - 1, by omega⟩
    have hhalf : (n / 2 ^ i / 2 * 2 + b2n b) / 2 = n / 2 ^ i / 2 := by
      have : b2n b < 2 := by cases b <;> decide
      omega
    simp [Nat.testBit_add_one, hhalf, ← Nat.testBit_div_two_pow]

theorem bit_setBit_same (n i : Nat) (b : Bool) : bit (setBit n i b) i = b := by rw [bit_setBit, if_pos rfl]

theorem bit_setBit_other (n : Nat) {i j : Nat} (b : Bool) (h : j ≠ i) : bit (setBit n i b) j = bit n j := by
  rw [bit_setBit, if_neg h]

/-! ### The slots of a word (R138) -/

section Slots
variable {m a v : Nat}

theorem toNat_wordOf (hm : m < 2 ^ 20) (ha : a < 2 ^ 20) (hv : v < 2 ^ 24) :
    (wordOf m a v).toNat = m * 2 ^ 44 + a * 2 ^ 24 + v := by
  rw [wordOf, BitVec.toNat_ofNat, Nat.mod_eq_of_lt]
  omega

theorem macOf_wordOf (hm : m < 2 ^ 20) (ha : a < 2 ^ 20) (hv : v < 2 ^ 24) : macOf (wordOf m a v) = m := by
  rw [macOf, toNat_wordOf hm ha hv, bits]
  omega

theorem aluOf_wordOf (hm : m < 2 ^ 20) (ha : a < 2 ^ 20) (hv : v < 2 ^ 24) : aluOf (wordOf m a v) = a := by
  rw [aluOf, toNat_wordOf hm ha hv, bits]
  omega

theorem mvOf_wordOf (hm : m < 2 ^ 20) (ha : a < 2 ^ 20) (hv : v < 2 ^ 24) : mvOf (wordOf m a v) = v := by
  rw [mvOf, toNat_wordOf hm ha hv, bits]
  omega

end Slots

theorem b2n_lt (b : Bool) : b2n b < 2 := by cases b <;> decide

theorem bit_eq_of_mod {n i : Nat} {b : Bool} (h : n / 2 ^ i % 2 = b2n b) : bit n i = b := by
  rw [bit, h]
  cases b <;> rfl

/-! Each layout holds its fields where the slot is read. -/

theorem macSlot_fields {op : Nat} (hop : op < 16) (k : Fin 4) (x y : Fin 32) (clr neg : Bool) :
    let m := macSlot op k x y (b2n clr) (b2n neg)
    m < 2 ^ 20 ∧ macOp m = op ∧ bits m 14 2 = k ∧ bits m 9 5 = x ∧ bits m 4 5 = y ∧ bit m 3 = clr ∧ bit m 2 = neg := by
  have hclr := b2n_lt clr
  have hneg := b2n_lt neg
  simp only [macSlot, macOp, bits]
  refine ⟨?_, ?_, ?_, ?_, ?_, bit_eq_of_mod ?_, bit_eq_of_mod ?_⟩ <;> omega

theorem aluSlot_fields {op : Nat} (hop : op < 32) (rd rs rt : Fin 32) :
    let a := aluSlot op rd rs rt
    a < 2 ^ 20 ∧ aluOp a = op ∧ bits a 10 5 = rd ∧ bits a 5 5 = rs ∧ bits a 0 5 = rt := by
  simp only [aluSlot, aluOp, bits]
  omega

theorem addiSlot_fields (rd : Fin 32) (imm : BitVec 10) :
    let a := addiSlot rd imm.toNat
    a < 2 ^ 20 ∧ aluOp a = 16 ∧ bits a 10 5 = rd ∧ bits a 0 10 = imm.toNat := by
  have := imm.isLt
  simp only [addiSlot, aluOp, bits]
  omega

theorem nrwSlot_fields_imm (rd : Fin 32) (acc : Fin 4) (sh : Fin 64) :
    let a := nrwSlot 17 rd acc sh 2
    a < 2 ^ 20 ∧ aluOp a = 17 ∧ bits a 10 5 = rd ∧ bits a 8 2 = acc ∧ bits a 2 6 = sh := by
  simp only [nrwSlot, aluOp, bits]
  omega

theorem nrwSlot_fields_reg (rd : Fin 32) (acc : Fin 4) (rs : Fin 32) :
    let a := nrwSlot 18 rd acc rs 3
    a < 2 ^ 20 ∧ aluOp a = 18 ∧ bits a 10 5 = rd ∧ bits a 8 2 = acc ∧ bits a 3 5 = rs := by
  simp only [nrwSlot, aluOp, bits]
  omega

theorem tgtSlot_fields {op : Nat} (hop : op < 32) (t : BitVec 14) :
    let a := tgtSlot op t.toNat
    a < 2 ^ 20 ∧ aluOp a = op ∧ bits a 0 14 = t.toNat := by
  have := t.isLt
  simp only [tgtSlot, aluOp, bits]
  omega

theorem lowSlot_fields {op v : Nat} (hop : op < 32) (hv : v < 2 ^ 15) :
    let a := lowSlot op v
    a < 2 ^ 20 ∧ aluOp a = op ∧ ∀ i, i < 15 → bit a i = bit v i := by
  simp only [lowSlot, aluOp, bits]
  refine ⟨by omega, by omega, fun i hi => ?_⟩
  rw [bit_eq_testBit, bit_eq_testBit, Nat.mul_comm, Nat.testBit_two_pow_mul_add _ hv, if_pos hi]

theorem ldSlot_fields {op : Nat} (hop : op < 32) (r : Fin 32) (k : Fin 8) (inc : BitVec 8) :
    let v := ldSlot op r k inc.toNat
    v < 2 ^ 24 ∧ mvOp v = op ∧ bits v 14 5 = r ∧ bits v 11 3 = k ∧ bits v 3 8 = inc.toNat := by
  have := inc.isLt
  simp only [ldSlot, mvOp, bits]
  omega

theorem ldxySlot_fields (qx pa qy pb ia ib : Fin 8) :
    let v := ldxySlot qx pa qy pb ia ib
    v < 2 ^ 24 ∧ mvOp v = 7 ∧ bits v 16 3 = qx ∧ bits v 13 3 = pa ∧ bits v 10 3 = qy ∧ bits v 7 3 = pb ∧ bits v 4 3 = ia ∧
      bits v 1 3 = ib := by
  simp only [ldxySlot, mvOp, bits]
  omega

theorem ldiSlot_fields (r : Fin 32) (imm : BitVec 14) :
    let v := ldiSlot r imm.toNat
    v < 2 ^ 24 ∧ mvOp v = 8 ∧ bits v 14 5 = r ∧ bits v 0 14 = imm.toNat := by
  have := imm.isLt
  simp only [ldiSlot, mvOp, bits]
  omega

theorem mvaSlot_fields (cl : Fin 3) (k : Fin 8) (r : Fin 32) :
    let v := mvaSlot cl k r
    v < 2 ^ 24 ∧ mvOp v = 9 ∧ bits v 17 2 = cl ∧ bits v 14 3 = k ∧ bits v 9 5 = r := by
  simp only [mvaSlot, mvOp, bits]
  omega

theorem mvgSlot_fields (r : Fin 32) (cl : Fin 3) (k : Fin 8) :
    let v := mvgSlot r cl k
    v < 2 ^ 24 ∧ mvOp v = 10 ∧ bits v 14 5 = r ∧ bits v 12 2 = cl ∧ bits v 9 3 = k := by
  simp only [mvgSlot, mvOp, bits]
  omega

theorem srcSlot_fields {op : Nat} (hop : op < 32) (r : Fin 32) :
    let v := srcSlot op r
    v < 2 ^ 24 ∧ mvOp v = op ∧ bits v 14 5 = r := by
  simp only [srcSlot, mvOp, bits]
  omega

theorem bulkSlot_fields {op : Nat} (hop : op < 32) (p : Fin 8) (r rl : Fin 32) :
    let v := bulkSlot op p r rl
    v < 2 ^ 24 ∧ mvOp v = op ∧ bits v 16 3 = p ∧ bits v 11 5 = r ∧ bits v 6 5 = rl := by
  simp only [bulkSlot, mvOp, bits]
  omega

end Machine
end Sys2Proof
end

section
/-! One engine changed: its flags (R134), and what the work of an engine keeps of the engine, of the block and of the registers. -/

namespace Sys2Proof

open Sys2Proof.Machine

namespace Machine

/-! ### Flags (R134) -/

section Flags
variable (s : Engine) (b i : Nat)

/-- Every flag but BBUSY and BANK is a bit of the bank's word. -/
theorem Engine.flag_eq (h8 : i ≠ 8) (h10 : i ≠ 10) : s.flag b i = bit (s.sf.pick 0 b) i := by
  rw [Engine.flag, Engine.status, bit_setBit_other _ _ h10, bit_setBit_other _ _ h8]

theorem Engine.pick_setFlag (v : Bool) (b' : Nat) :
    (s.setFlag b i v).sf.pick 0 b' = if b' = b then setBit (s.sf.pick 0 b) i v else s.sf.pick 0 b' := by
  split
  next h => rw [h]; exact Store.pick_upd_same s.sf 0 b fun w => setBit w i v
  next h => exact Store.pick_upd_other s.sf 0 b b' (fun w => setBit w i v) h

theorem Engine.flag_setFlag_same (v : Bool) (h8 : i ≠ 8) (h10 : i ≠ 10) : (s.setFlag b i v).flag b i = v := by
  rw [Engine.flag_eq _ _ _ h8 h10, s.pick_setFlag, if_pos rfl, bit_setBit_same]

/-- A flag of another bank or another bit is unchanged. -/
theorem Engine.flag_setFlag_other (v : Bool) {b' j : Nat} (h : ¬ (b' = b ∧ j = i)) : (s.setFlag b i v).flag b' j = s.flag b' j := by
  have hbit : bit ((s.setFlag b i v).sf.pick 0 b') j = bit (s.sf.pick 0 b') j := by
    rw [s.pick_setFlag]
    split
    next hb => rw [hb, bit_setBit_other _ v fun hj => h ⟨hb, hj⟩]
    next => rfl
  simp only [Engine.flag, Engine.status, bit_setBit, hbit]
  rfl

theorem Engine.flag_setFlag_true {b' j : Nat} (h : s.flag b' j = true) (h8 : i ≠ 8) (h10 : i ≠ 10) :
    (s.setFlag b i true).flag b' j = true := by
  by_cases hij : b' = b ∧ j = i
  · obtain ⟨rfl, rfl⟩ := hij
    exact s.flag_setFlag_same _ _ true h8 h10
  · rw [s.flag_setFlag_other _ _ true hij, h]

end Flags

/-! ### One engine changed -/

section Engines
variable (d : Device) (e : Nat) (f : Engine → Engine)

@[simp] theorem Device.eng_setEng_same : (d.setEng e f).eng e = f (d.eng e) := Store.pick_upd_same d.engines {} e f

theorem Device.eng_setEng_other {j : Nat} (h : j ≠ e) : (d.setEng e f).eng j = d.eng j := Store.pick_upd_other d.engines {} e j f h

@[simp] theorem Device.eng_fly (lat bank dst : Nat) (v : Int) : (d.fly e lat bank dst v).eng e =
    { d.eng e with flight := (d.eng e).flight ++ [⟨(d.eng e).issued + lat, bank, dst, v⟩] } := d.eng_setEng_same e _

@[simp] theorem Device.eng_sticky (bank i : Nat) : (d.sticky e bank i).eng e = (d.eng e).setFlag bank i true :=
  d.eng_setEng_same e fun s => s.setFlag bank i true

@[simp] theorem Device.eng_branchTo (t : Nat) : (d.branchTo e t).eng e = { d.eng e with branch := some (2, t) } := d.eng_setEng_same e _

@[simp] theorem Device.eng_engShow (j : Nat) : (d.engShow e).eng j = d.eng j := rfl

/-- The block without the registers, and of its engines all but engine `e`. -/
def Device.besides : (Nat → Engine) × Device := (fun j => if j = e then {} else d.eng j, { d with engines := [], regs := [] })

@[simp] theorem Device.besides_setEng : (d.setEng e f).besides e = d.besides e := by
  refine Prod.ext (funext fun j => ?_) rfl
  by_cases hj : j = e
  · simp only [Device.besides, hj, if_true]
  · simp only [Device.besides, hj, if_false, d.eng_setEng_other e f hj]

end Engines

/-! ### What a part of a word keeps -/

/-- A register in which engine `e` shows what it does: DV_STATUS and DV_STICKY. -/
def shownReg (e a : Nat) : Prop := a = DV_STATUS e ∨ a = DV_STICKY e

/-- An injection's count is told by its register. -/
theorem Device.injPending_of_regs {d d' : Device} {R : Nat → Prop} (h : sameRegs d d' R) {c i k : Nat} (hR : ¬ R (INJ_STATUS c i k)) :
    d'.injPending c i k = d.injPending c i k := by
  rw [Device.injPending, h.get (f := INJ_STATUS_REMAINING c i k) hR, ← Device.injPending]

theorem not_shownReg_injStatus (e c i k : Nat) : ¬ shownReg e (INJ_STATUS c i k) := by
  simp only [INJ_STATUS, shownReg, DV_STATUS, DV_STICKY]
  omega

/-- Work of engine `e` keeps the part `p` of the engine, the part `u` of the block and every register outside `R`. -/
structure Frame {β γ : Type} (p : Engine → β) (u : Device → γ) (R : Nat → Prop) (e : Nat) (d d' : Device) : Prop where
  own : p (d'.eng e) = p (d.eng e)
  block : u d' = u d
  regs : sameRegs d d' R

/-- Besides, its results on their way stay on their way and its sticky flags stay set. -/
structure Keeps {β γ : Type} (p : Engine → β) (u : Device → γ) (R : Nat → Prop) (e : Nat) (d d' : Device) : Prop
    extends Frame p u R e d d' where
  flight : ∀ f ∈ (d.eng e).flight, f ∈ (d'.eng e).flight
  stuck : ∀ b i, 4 ≤ i → i < 8 → (d.eng e).flag b i = true → (d'.eng e).flag b i = true

/-- Engines that agree in a view of them agree in what the view tells. -/
theorem coarser {β : Type} {p : Engine → Engine} {q : Engine → β} (hq : ∀ s, q (p s) = q s) (s t : Engine)
    (h : p s = p t) : q s = q t := by
  rw [← hq s, h, hq t]

namespace Frame
variable {β γ : Type} {p : Engine → β} {u : Device → γ} {R : Nat → Prop} {e : Nat} {d d' d'' : Device}

theorem refl (d : Device) : Frame p u R e d d := ⟨rfl, rfl, .refl _ _⟩

theorem trans (h : Frame p u R e d d') (g : Frame p u R e d' d'') : Frame p u R e d d'' :=
  ⟨g.own.trans h.own, g.block.trans h.block, h.regs.trans g.regs⟩

theorem mono {β' γ' : Type} {p' : Engine → β'} {u' : Device → γ'} {R' : Nat → Prop} (h : Frame p u R e d d')
    (hp : ∀ s t, p s = p t → p' s = p' t) (hu : ∀ a b, u a = u b → u' a = u' b) (hR : ∀ a, R a → R' a) : Frame p' u' R' e d d' :=
  ⟨hp _ _ h.own, hu _ _ h.block, h.regs.mono hR⟩

theorem setEng {f : Engine → Engine} (hu : u (d.setEng e f) = u d) (hp : p (f (d.eng e)) = p (d.eng e)) :
    Frame p u R e d (d.setEng e f) := ⟨by rw [d.eng_setEng_same, hp], hu, .regs _ rfl⟩

/-- What the view kept tells of the engine is kept. -/
theorem part {α : Type} {p : Engine → Engine} (h : Frame p u R e d d') (q : Engine → α) (hq : ∀ s, q (p s) = q s) :
    q (d'.eng e) = q (d.eng e) :=
  coarser hq _ _ h.own

end Frame

namespace Keeps
variable {β γ : Type} {p : Engine → β} {u : Device → γ} {R : Nat → Prop} {e : Nat} {d d' d'' : Device}

theorem refl (d : Device) : Keeps p u R e d d := ⟨.refl d, fun _ h => h, fun _ _ _ _ h => h⟩

theorem trans (h : Keeps p u R e d d') (g : Keeps p u R e d' d'') : Keeps p u R e d d'' :=
  ⟨h.toFrame.trans g.toFrame, fun f hf => g.flight f (h.flight f hf),
    fun b i hlo hhi hb => g.stuck b i hlo hhi (h.stuck b i hlo hhi hb)⟩

theorem mono {β' γ' : Type} {p' : Engine → β'} {u' : Device → γ'} {R' : Nat → Prop} (h : Keeps p u R e d d')
    (hp : ∀ s t, p s = p t → p' s = p' t) (hu : ∀ a b, u a = u b → u' a = u' b) (hR : ∀ a, R a → R' a) : Keeps p' u' R' e d d' :=
  ⟨h.toFrame.mono hp hu hR, h.flight, h.stuck⟩

theorem ite {c : Prop} [Decidable c] (h : Keeps p u R e d d') (g : Keeps p u R e d d'') : Keeps p u R e d (if c then d' else d'') := by
  split
  · exact h
  · exact g

theorem foldl {α : Type} {h : Device → α → Device} (hf : ∀ d x, Keeps p u R e d (h d x)) (l : List α) :
    ∀ d, Keeps p u R e d (l.foldl h d) := by
  induction l with
  | nil => exact refl
  | cons x l ih => exact fun d => (hf d x).trans (ih _)

/-- Engine `e` changed, its results on their way and its flags kept. -/
theorem setEng {f : Engine → Engine} (hu : u (d.setEng e f) = u d) (hp : p (f (d.eng e)) = p (d.eng e))
    (hfl : (f (d.eng e)).flight = (d.eng e).flight) (hsf : (f (d.eng e)).sf = (d.eng e).sf) : Keeps p u R e d (d.setEng e f) := by
  refine ⟨.setEng hu hp, by rw [d.eng_setEng_same, hfl]; exact fun _ h => h, fun b i hlo hhi hb => ?_⟩
  rw [d.eng_setEng_same, Engine.flag_eq _ _ _ (by omega) (by omega), hsf, ← Engine.flag_eq _ _ _ (by omega) (by omega), hb]

theorem put {g : Fld} {v : Nat} (hu : u (d.put g v) = u d) (hg : R g.addr) : Keeps p u R e d (d.put g v) :=
  ⟨⟨rfl, hu, .put _ _ _ _ hg⟩, fun _ h => h, fun _ _ _ _ h => h⟩

theorem fly {lat bank dst : Nat} {v : Int} (hp : ∀ s fl, p { s with flight := fl } = p s) :
    Keeps p (Device.besides · e) R e d (d.fly e lat bank dst v) := by
  refine ⟨.setEng (d.besides_setEng e _) (hp _ _), ?_, fun b i _ _ hb => ?_⟩
  · rw [d.eng_fly]
    exact fun _ => List.mem_append_left _
  · rw [d.eng_fly]
    exact hb

theorem flag {bank i : Nat} {v : Bool} (hp : ∀ s sf, p { s with sf := sf } = p s) (hv : i < 4 ∨ 8 < i ∨ (i ≠ 8 ∧ v = true))
    (h10 : i ≠ 10) : Keeps p (Device.besides · e) R e d (d.setEng e fun s => s.setFlag bank i v) := by
  refine ⟨.setEng (d.besides_setEng e _) (hp _ _), ?_, fun b j hlo hhi hb => ?_⟩
  · rw [d.eng_setEng_same]
    exact fun _ h => h
  · rw [d.eng_setEng_same]
    by_cases hj : b = bank ∧ j = i
    · obtain ⟨rfl, rfl⟩ := hj
      rw [Engine.flag_setFlag_same _ _ _ _ (by omega) h10]
      exact (hv.resolve_left (by omega)).resolve_left (by omega) |>.2
    · rw [Engine.flag_setFlag_other _ _ _ _ hj, hb]

theorem sticky {bank i : Nat} (hp : ∀ s sf, p { s with sf := sf } = p s) (h8 : i ≠ 8) (h10 : i ≠ 10) (hR : R (DV_STICKY e)) :
    Keeps p (Device.besides · e) R e d (d.sticky e bank i) := by
  refine (flag hp (.inr (.inr ⟨h8, rfl⟩)) h10).trans (put rfl ?_)
  split <;> exact hR

end Keeps

end Machine
end Sys2Proof
end

section
/-! The MAC slot and the ALU slot (R139, R141) keep everything but their accumulators, their flags and what they send on its way. -/

namespace Sys2Proof

open Sys2Proof.Machine

namespace Machine

/-! ### The MAC and the ALU slot, the end of a word -/

/-- An engine without what a MAC slot changes. -/
def Engine.offMac (s : Engine) : Engine := { s with acc := [], flight := [], sf := [] }

/-- An engine without what an ALU slot changes. -/
def Engine.offAlu (s : Engine) : Engine := { s with flight := [], sf := [], branch := none, returned := 0 }

/-- An engine without what the MAC and the ALU slot change. -/
def Engine.offCalc (s : Engine) : Engine := { s with acc := [], flight := [], sf := [], branch := none, returned := 0 }

/-- An engine without what the end of a word changes: its program counters, its step, and a program that ends or starts. -/
def Engine.offEnd (s : Engine) : Engine :=
  { s with issued := 0, stepCnt := 0, pc := 0, branch := none, bank := 0, idleBelow := false, running := false, startDue := false,
           beatOf := 0, returned := 0, staged := 0, dmem := [], derr := [], wire := false, ends := [], peakSteps := 0 }

/-- One sum of the MAC slot added to its accumulator. -/
def Device.macAdd (d : Device) (e bank : Nat) (clr neg : Bool) (t : Nat × Int) : Device :=
  let r := accSum ((d.eng e).acc.pick 0 (bank * 4 + t.1)) t.2 clr neg
  let d1 := (d.setEng e fun s => { s with acc := s.acc.upd 0 (bank * 4 + t.1) fun _ => r.1 }).fly e 3 bank (64 + t.1) r.1
  if r.2 then d1.sticky e bank 5 else d1

theorem Device.doMac_eq (d : Device) (e bank m : Nat) (g : Nat → BitVec 32) : d.doMac e bank m g =
    (macSums (macOp m) (bits m 14 2) (bits m 9 5) (bits m 4 5) g).foldl (fun d t => d.macAdd e bank (bit m 3) (bit m 2) t) d := rfl

namespace Keeps
variable {e bank : Nat}

theorem macAdd (d : Device) (clr neg : Bool) (t : Nat × Int) :
    Keeps Engine.offMac (Device.besides · e) (· = DV_STICKY e) e d (d.macAdd e bank clr neg t) := by
  unfold Device.macAdd
  extract_lets r d1
  have h1 : Keeps Engine.offMac (Device.besides · e) (· = DV_STICKY e) e d d1 :=
    (setEng (d.besides_setEng e _) rfl rfl rfl).trans (fly fun _ _ => rfl)
  exact ite (h1.trans (sticky (fun _ _ => rfl) (by decide) (by decide) rfl)) h1

theorem doMac (d : Device) (m : Nat) (g : Nat → BitVec 32) :
    Keeps Engine.offMac (Device.besides · e) (· = DV_STICKY e) e d (d.doMac e bank m g) :=
  foldl (fun d t => macAdd d (bit m 3) (bit m 2) t) _ d

theorem aluPut (d : Device) (dst lat : Nat) (o : AluOut) (write : Bool) :
    Keeps Engine.offAlu (Device.besides · e) (shownReg e) e d (d.aluPut e bank dst lat o write) := by
  unfold Device.aluPut
  extract_lets d1 d2 d3
  have h1 : Keeps Engine.offAlu (Device.besides · e) (shownReg e) e d d1 := ite (fly fun _ _ => rfl) (refl d)
  have h2 : Keeps Engine.offAlu (Device.besides · e) (shownReg e) e d d2 := h1.trans (fly fun _ _ => rfl)
  have h3 : Keeps Engine.offAlu (Device.besides · e) (shownReg e) e d d3 := by
    unfold d3
    split
    · exact h2.trans (fly fun _ _ => rfl)
    · exact h2
  exact ite (h3.trans (sticky (fun _ _ => rfl) (by decide) (by decide) (.inr rfl))) h3

theorem branchTo (d : Device) (t : Nat) : Keeps Engine.offAlu (Device.besides · e) (shownReg e) e d (d.branchTo e t) :=
  setEng (d.besides_setEng e _) rfl rfl rfl

theorem doAlu (d : Device) (a : Nat) (s : Engine) :
    Keeps Engine.offAlu (Device.besides · e) (shownReg e) e d (d.doAlu e bank a s) := by
  unfold Device.doAlu
  extract_lets g op dd fl tgt sh w d1
  have hfly (lat dst : Nat) (v : Int) (d : Device) : Keeps Engine.offAlu (Device.besides · e) (shownReg e) e d
    (d.fly e lat bank dst v) :=
    fly fun _ _ => rfl
  have hbr := branchTo (e := e) d
  have hnarrow (sh : Nat) : Keeps Engine.offAlu (Device.besides · e) (shownReg e) e d
      (match narrow (s.accN.pick 0 (bank * 4 + bits a 8 2)) sh with
        | (v, sat, shf) => if shf then (d.aluPut e bank dd 2 { val := v, sat := sat } true).sticky e bank 6
          else d.aluPut e bank dd 2 { val := v, sat := sat } true) :=
    ite ((aluPut d _ _ _ _).trans (sticky (fun _ _ => rfl) (by decide) (by decide) (.inr rfl))) (aluPut d _ _ _ _)
  have hwaits : Keeps Engine.offAlu (Device.besides · e) (shownReg e) e d
      (match (List.range 8).find? (fun j => bit w j) with
        | some j => (d.setEng e fun s => { s with returned := setBit s.returned j true }).fly e 1 bank dd (j : Int)
        | none => d.fly e 1 bank dd 8) := by
    split
    · exact (setEng (d.besides_setEng e _) rfl rfl rfl).trans (hfly ..)
    · exact hfly ..
  have hmask : Keeps Engine.offAlu (Device.besides · e) (shownReg e) e d d1 :=
    flag (fun _ _ => rfl) (.inr (.inl (by decide))) (by decide)
  exact ite (refl d) <| ite (aluPut ..) <| ite (aluPut ..) <| ite (aluPut ..) <| ite (hnarrow _) <| ite (hbr _) <|
    ite (ite (hbr _) (refl d)) <| ite (ite (refl d) (hbr _)) <| ite (ite (hbr _) (refl d)) <| ite (ite (hbr _) (refl d)) <|
    ite ((hfly ..).trans (branchTo _ _)) <| ite (hbr _) <| ite hwaits <| ite (hbr _) <|
    ite (ite (hmask.trans (put rfl (.inl rfl))) hmask) (refl d)

end Keeps

end Machine
end Sys2Proof
end

section
/-! From a word's fetch to its issue: tile memories without errors read as they are (R375–R381), results due land (R145, R146), and the
word issues or waits (R147). -/

namespace Sys2Proof

open Sys2Proof.Machine

namespace Machine

/-! ### Reads of sound tile memories (R375–R381) -/

theorem ofLe_leBytes (k : Nat) : ∀ n, ofLe (leBytes n k) = n % 256 ^ k := by
  induction k with
  | zero => intro n; rw [Nat.pow_zero, Nat.mod_one]; rfl
  | succ k ih =>
    intro n
    rw [leBytes, ofLe, ih, Nat.pow_succ', Nat.mod_mul, BitVec.toNat_ofNat]

/-- No check bit of the tile memories of engine `e` is wrong, and no injection is pending for a read of them. -/
structure Readable (d : Device) (e : Nat) : Prop where
  perr : (d.eng e).perr = []
  derr : (d.eng e).derr = []
  inj : ∀ k < 6, d.injPending 10 e k = false

section Sound
variable {d : Device} {e : Nat} (h : Claims.sound d e)
include h

theorem Readable.of_sound : Readable d e := by
  obtain ⟨hperr, hderr, hinj, -⟩ := h
  exact ⟨hperr, hderr, hinj⟩

/-! No halt, no count of a program's steps and no check of a heartbeat is to be reported by an injection. -/

theorem injPending_halt : d.injPending 2 e 1 = false := by
  obtain ⟨-, -, -, hhalt, -⟩ := h
  exact hhalt

theorem injPending_steps : d.injPending 2 e 2 = false := by
  obtain ⟨-, -, -, -, hsteps, -⟩ := h
  exact hsteps

theorem injPending_heartbeat : d.injPending 3 e 4 = false := by
  obtain ⟨-, -, -, -, -, hheartbeat⟩ := h
  exact hheartbeat

end Sound

namespace Readable
variable {d : Device} {e : Nat} (h : Readable d e)
include h

theorem tileBytes_status (prog a : Nat) : ∀ b ∈ d.tileBytes e prog a, b.2 = 0 := by
  intro b hb
  unfold Device.tileBytes at hb
  extract_lets s at hb
  split at hb
  all_goals
    obtain ⟨i, -, hi⟩ := List.mem_map.mp (List.of_mem_zip hb).2
    rw [← hi]
  · rw [show s.perr = [] from h.perr]
    rfl
  · rw [show s.derr = [] from h.derr]
    rfl

theorem tileAccess (prog a : Nat) : d.tileAccess e prog a = (false, d) := by
  have hworst : maxL ((d.tileBytes e prog a).map (fun b => codeStatus b.2)) = 0 := by
    have hzero : ∀ l : List (BitVec 8 × Nat), (∀ b ∈ l, b.2 = 0) → (l.map (fun b => codeStatus b.2)).foldl max 0 = 0 := by
      intro l
      induction l with
      | nil => exact fun _ => rfl
      | cons b l ih =>
        intro hl
        rw [List.map_cons, List.foldl_cons, hl b (List.mem_cons_self ..)]
        exact ih fun c hc => hl c (List.mem_cons_of_mem _ hc)
    exact hzero _ (h.tileBytes_status prog a)
  simp only [Device.tileAccess, hworst, if_true]

theorem tileRead (prog : Nat) (as : List Nat) : d.tileRead e prog as = (false, d) := by
  have hfold : as.foldl (fun (x : Bool × Device) a => let y := x.2.tileAccess e prog a; (x.1 || y.1, y.2)) (false, d) = (false, d) := by
    induction as with
    | nil => rfl
    | cons a as ih => simpa only [List.foldl_cons, h.tileAccess, Bool.or_false] using ih
  have hremap (k : Nat) (hk : k < 6) : d.tileRemapInj e prog k = d := by
    rw [Device.tileRemapInj, h.inj k hk]
    rfl
  simp only [Device.tileRead, hfold, h.inj 1 (by decide), h.inj 2 (by decide), Bool.false_and, Bool.false_eq_true, if_false,
    hremap 3 (by decide), hremap 4 (by decide), Bool.or_self]

/-- A data memory word as a program reads it. -/
theorem dmVal (a : Nat) : d.dmVal e a = (d.eng e).dmem.pick 0 a := by
  have hword : tileWord (d.tileBytes e 0 a) = ofLe (leBytes ((d.eng e).dmem.pick 0 a).toNat 4) := by
    unfold tileWord
    rw [List.map_congr_left (g := Prod.fst) fun b hb => by rw [h.tileBytes_status 0 a b hb]; rfl]
    rfl
  have hlt : ((d.eng e).dmem.pick 0 a).toNat < 256 ^ 4 := ((d.eng e).dmem.pick 0 a).isLt
  rw [Device.dmVal, hword, ofLe_leBytes, Nat.mod_eq_of_lt hlt, BitVec.ofNat_toNat, BitVec.setWidth_eq]

end Readable

/-- The same memories and injections are as readable. -/
theorem Readable.of_frame {γ : Type} {p : Engine → Engine} {u : Device → γ} {R : Nat → Prop} {e : Nat} {d d' : Device}
    (h : Readable d e)
    (hf : Frame p u R e d d') (hperr : ∀ s, (p s).perr = s.perr) (hderr : ∀ s, (p s).derr = s.derr)
    (hR : ∀ k, ¬ R (INJ_STATUS 10 e k)) : Readable d' e :=
  ⟨(hf.part _ hperr).trans h.perr, (hf.part _ hderr).trans h.derr,
    fun k hk => (Device.injPending_of_regs hf.regs (hR k)).trans (h.inj k hk)⟩

/-! ### Results land (R145, R146) -/

/-- An engine without what landing results change. -/
def Engine.offLand (s : Engine) : Engine := { s with g := [], accN := [], sf := [], flight := [] }

theorem Engine.offLand_put (s : Engine) (f : Flight) : (s.put f).offLand = s.offLand := by
  unfold Engine.put
  split
  · rfl
  · split
    · rfl
    · split <;> rfl

theorem Engine.offLand_foldl_put (l : List Flight) : ∀ s : Engine, (l.foldl Engine.put s).offLand = s.offLand := by
  induction l with
  | nil => exact fun _ => rfl
  | cons f l ih => exact fun s => (ih _).trans (s.offLand_put f)

theorem Frame.engLand (d : Device) (e : Nat) : Frame Engine.offLand (Device.besides · e) (· = DV_STICKY e) e d (d.engLand e) := by
  unfold Device.engLand
  extract_lets s due rest d1
  have h1 : Frame Engine.offLand (Device.besides · e) (· = DV_STICKY e) e d d1 :=
    .setEng (d.besides_setEng e _) (Engine.offLand_foldl_put due s)
  have hcoll (d : Device) (b : Nat) : Keeps Engine.offLand (Device.besides · e) (· = DV_STICKY e) e d (d.sticky e b 7) :=
    .sticky (fun _ _ => rfl) (by decide) (by decide) rfl
  exact h1.trans (Keeps.foldl hcoll (collisions due) d1).toFrame

/-! ### A word issues -/

/-- The results due have landed, and the word waits. -/
def Device.holdWord (d : Device) (e : Nat) (w : BitVec 64) : Device :=
  ((d.engLand e).setEng e fun s => { s with waiting := some w }).engShow e

section Issue
variable {d : Device} {e : Nat} {w : BitVec 64}

theorem Device.injPending_engLand (c i k : Nat) : (d.engLand e).injPending c i k = d.injPending c i k :=
  Device.injPending_of_regs (Frame.engLand d e).regs fun h => not_shownReg_injStatus e c i k (.inr h)

theorem sound_engLand (h : Claims.sound d e) : Claims.sound (d.engLand e) e := by
  have hland := Frame.engLand d e
  obtain ⟨hperr, hderr, hinj⟩ := h
  simp only [Claims.sound, Device.injPending_engLand]
  exact ⟨(hland.part Engine.perr fun _ => rfl).trans hperr, (hland.part Engine.derr fun _ => rfl).trans hderr, hinj⟩

/-- A word that issues is carried out by the engine whose results due have landed; its memory reads change nothing. -/
theorem Device.issue_of_issues (h : Claims.issues d e w) : d.issue e w = (d.engLand e).engIssue e w := by
  obtain ⟨hsound, hlive, hevent, hfetch, hhalt, hcan⟩ := h
  have hland := sound_engLand hsound
  have hinj : (d.engLand e).injTake 2 e 1 = none := Device.injTake_eq_none (injPending_halt hland)
  have hgo : (d.engLand e).engGo e w = (d.engLand e).engIssue e w := by
    simp only [Device.engGo, (Readable.of_sound hland).tileRead, ite_self, Bool.false_eq_true, if_false]
  simp only [Device.issue, hlive, hevent, hfetch, Device.engWord, (Readable.of_sound hsound).tileRead, hinj, hhalt, hcan, hgo,
    Bool.not_false, Bool.and_self, Bool.not_true, Bool.false_eq_true, if_true, if_false]

theorem haltCode_of_issues (h : Claims.issues d e w) : (d.engLand e).haltCode e w = 0 := by
  obtain ⟨-, -, -, -, hhalt, -⟩ := h
  exact hhalt

theorem engCan_of_issues (h : Claims.issues d e w) : (d.engLand e).engCan e w = true := by
  obtain ⟨-, -, -, -, -, hcan⟩ := h
  exact hcan

/-- A word that may not issue yet waits (R147). -/
theorem Device.issue_waits (hsound : Claims.sound d e) (hlive : d.engLive e = true) (hevent : d.eventDue e = false)
    (hfetch : d.fetches e w = true) (hhalt : (d.engLand e).haltCode e w = 0) (hcan : (d.engLand e).engCan e w = false) :
    d.issue e w = d.holdWord e w := by
  have hland := sound_engLand hsound
  have hinj : (d.engLand e).injTake 2 e 1 = none := Device.injTake_eq_none (injPending_halt hland)
  simp only [Device.issue, hlive, hevent, hfetch, Device.engWord, (Readable.of_sound hsound).tileRead, hinj, hhalt, hcan,
    Bool.not_false, Bool.and_self, Bool.false_eq_true, if_true, if_false]
  rfl

theorem Device.eng_holdWord : (d.holdWord e w).eng e = { (d.engLand e).eng e with waiting := some w } := by
  rw [Device.holdWord, Device.eng_engShow, Device.eng_setEng_same]

end Issue

end Machine
end Sys2Proof
end

section
/-! A word slot by slot, and its end (R145, R148, R154, R164). -/

namespace Sys2Proof

open Sys2Proof.Machine

namespace Machine

/-! ### The slots of a word in their turn (R145) -/

/-- The block after CLRF and the MAC slot of a word. -/
def Device.summed (d : Device) (e : Nat) (w : BitVec 64) : Device :=
  let s := d.eng e
  (d.doClrf e s.bank (aluOf w)).doMac e s.bank (macOf w) (fun r => s.reg s.bank r)

/-- The block after the ALU slot. -/
def Device.calculated (d : Device) (e : Nat) (w : BitVec 64) : Device :=
  (d.summed e w).doAlu e (d.eng e).bank (aluOf w) (d.eng e)

/-- The block after the move slot. -/
def Device.moved (d : Device) (e : Nat) (w : BitVec 64) : Device :=
  (d.calculated e w).doMove e (d.eng e).bank (mvOf w) (d.eng e)

/-- The block after the program counter has moved on. -/
def Device.advanced (d : Device) (e : Nat) (w : BitVec 64) : Device := (d.moved e w).engAdvance e (d.eng e).branch

theorem Device.engIssue_eq (d : Device) (e : Nat) (w : BitVec 64) :
    d.engIssue e w = (if aluOp (aluOf w) = 27 then (d.advanced e w).progEnd e else d.advanced e w).engShow e := rfl

/-- An engine one word further. -/
def Engine.next (s : Engine) : Engine :=
  { s with issued := s.issued + 1, stepCnt := if s.running then s.stepCnt + 1 else s.stepCnt, pc := (s.pc + 1) % 16384 }

/-- Where no branch is in its delay slots and the word is no END, the engine moves on by one word. -/
theorem Device.engIssue_next {d : Device} {e : Nat} {w : BitVec 64} (hb : (d.eng e).branch = none) (hop : aluOp (aluOf w) ≠ 27) :
    d.engIssue e w = ((d.moved e w).setEng e Engine.next).engShow e := by
  rw [Device.engIssue_eq, if_neg hop, Device.advanced, hb]
  rfl

theorem Device.eng_engIssue_next {d : Device} {e : Nat} {w : BitVec 64} (hb : (d.eng e).branch = none) (hop : aluOp (aluOf w) ≠ 27) :
    (d.engIssue e w).eng e = ((d.moved e w).eng e).next := by
  rw [Device.engIssue_next hb hop, Device.eng_engShow, Device.eng_setEng_same]

/-! ### The end of a word -/

namespace Keeps
variable {e : Nat}

theorem engShow {β : Type} {p : Engine → β} (d : Device) : Keeps p (Device.besides · e) (· = DV_STATUS e) e d (d.engShow e) := by
  have hput (d : Device) {g : Fld} (v : Nat) (hg : g.addr = DV_STATUS e) :
      Keeps p (Device.besides · e) (· = DV_STATUS e) e d (d.put g v) := put rfl hg
  unfold Device.engShow
  extract_lets s x
  exact (hput d x rfl).trans (hput _ _ rfl)

theorem progStart (d : Device) : Keeps Engine.offEnd (Device.besides · e) (· = DV_STATUS e) e d (d.progStart e) := by
  unfold Device.progStart
  extract_lets n d1
  have h1 : Keeps Engine.offEnd (Device.besides · e) (· = DV_STATUS e) e d d1 := setEng (d.besides_setEng e _) rfl rfl rfl
  exact (h1.trans (setEng (d1.besides_setEng e _) rfl rfl rfl)).trans (engShow _)

theorem engAdvance (d : Device) (b : Option (Nat × Nat)) :
    Keeps Engine.offEnd (Device.besides · e) (· = DV_STATUS e) e d (d.engAdvance e b) := by
  have hset {f : Engine → Engine} (hp : (f (d.eng e)).offEnd = (d.eng e).offEnd) (hfl : (f (d.eng e)).flight = (d.eng e).flight)
      (hsf : (f (d.eng e)).sf = (d.eng e).sf) : Keeps Engine.offEnd (Device.besides · e) (· = DV_STATUS e) e d (d.setEng e f) :=
    setEng (d.besides_setEng e f) hp hfl hsf
  unfold Device.engAdvance
  extract_lets step d1
  split
  · refine ite (hset rfl rfl rfl) ?_
    have h1 : Keeps Engine.offEnd (Device.besides · e) (· = DV_STATUS e) e d d1 := hset rfl rfl rfl
    exact ite (h1.trans (progStart d1)) h1
  · exact hset rfl rfl rfl
  · exact hset rfl rfl rfl

theorem msg {β : Type} {p : Engine → β} {R : Nat → Prop} (d : Device) (c i k x : Nat) (j r : Bool) :
    Keeps p Device.clk R e d (d.msg c i k x j r) := ⟨⟨rfl, rfl, .regs _ rfl⟩, fun _ h => h, fun _ _ _ _ h => h⟩

/-- What leaves the rest of the block alone leaves the clock alone. -/
theorem toClk {β : Type} {p : Engine → β} {R : Nat → Prop} {d d' : Device} (h : Keeps p (Device.besides · e) R e d d') :
    Keeps p Device.clk R e d d' := h.mono (fun _ _ => id) (fun _ _ h => congrArg (fun x => x.2.clk) h) (fun _ => id)

/-- END where no injection stands for the count of its steps (R170). -/
theorem progEnd {d : Device} (h : d.injPending 2 e 2 = false) : Keeps Engine.offEnd Device.clk (· = DV_STATUS e) e d (d.progEnd e) := by
  unfold Device.progEnd
  extract_lets s d1 d2
  have h1 : Keeps Engine.offEnd Device.clk (· = DV_STATUS e) e d d1 := setEng rfl rfl rfl rfl
  have h2 : Keeps Engine.offEnd Device.clk (· = DV_STATUS e) e d d2 := by
    have hnone : d1.injTake 2 e 2 = none := Device.injTake_eq_none h
    unfold d2 Device.detect
    rw [hnone]
    exact ite (h1.trans (msg ..)) h1
  exact ite (h2.trans (progStart d2).toClk) h2

/-- What a word's end keeps of what its slots left. -/
theorem ended {d : Device} {w : BitVec 64} (h : (d.moved e w).injPending 2 e 2 = false) :
    Keeps Engine.offEnd Device.clk (· = DV_STATUS e) e (d.moved e w) (d.engIssue e w) := by
  have hadv : Keeps Engine.offEnd (Device.besides · e) (· = DV_STATUS e) e (d.moved e w) (d.advanced e w) := engAdvance _ _
  have hinj : (d.advanced e w).injPending 2 e 2 = false :=
    (Device.injPending_of_regs hadv.regs fun h => not_shownReg_injStatus e 2 e 2 (.inl h)).trans h
  rw [Device.engIssue_eq]
  exact (hadv.toClk.trans (ite (progEnd hinj) (refl _))).trans (engShow _).toClk

/-- A word that is no END leaves the rest of the block alone when it ends. -/
theorem ended_besides {d : Device} {w : BitVec 64} (hop : aluOp (aluOf w) ≠ 27) :
    Keeps Engine.offEnd (Device.besides · e) (· = DV_STATUS e) e (d.moved e w) (d.engIssue e w) := by
  rw [Device.engIssue_eq, if_neg hop]
  exact (engAdvance _ _).trans (engShow _)

end Keeps

end Machine
end Sys2Proof
end

section
/-! The move slot (R142) keeps the clock, the flags, the results on their way and the program counters, the stock loop's run (R98) included. -/

namespace Sys2Proof

open Sys2Proof.Machine

namespace Machine

/-! ### CLRF, and the slots before the move slot -/

/-- An engine without its flags. -/
def Engine.offFlags (s : Engine) : Engine := { s with sf := [] }

theorem Engine.offFlags_clrf (bank : Nat) (l : List Nat) :
    ∀ s : Engine, (l.foldl (fun s i => s.setFlag bank (4 + i) false) s).offFlags = s.offFlags := by
  induction l with
  | nil => exact fun _ => rfl
  | cons i l ih => exact fun s => ih (s.setFlag bank (4 + i) false)

theorem Frame.doClrf {R : Nat → Prop} (d : Device) (e bank a : Nat) :
    Frame Engine.offFlags (Device.besides · e) R e d (d.doClrf e bank a) := by
  unfold Device.doClrf
  split
  · exact .setEng (d.besides_setEng e _) (Engine.offFlags_clrf bank _ _)
  · exact .refl d

theorem Frame.summed (d : Device) (e : Nat) (w : BitVec 64) :
    Frame Engine.offMac (Device.besides · e) (shownReg e) e d (d.summed e w) :=
  ((Frame.doClrf d e _ _).mono (coarser fun _ => rfl) (fun _ _ => id) fun _ => id).trans
    ((Keeps.doMac _ _ _).toFrame.mono (fun _ _ => id) (fun _ _ => id) fun _ => .inr)

theorem Frame.calculated (d : Device) (e : Nat) (w : BitVec 64) :
    Frame Engine.offCalc (Device.besides · e) (shownReg e) e d (d.calculated e w) :=
  ((Frame.summed d e w).mono (coarser fun _ => rfl) (fun _ _ => id) fun _ => id).trans
    ((Keeps.doAlu _ _ _).toFrame.mono (coarser fun _ => rfl) (fun _ _ => id) fun _ => id)

/-! ### The move slot (R142), the stock loop's run (R98) included -/

/-- An engine without what a move slot changes. -/
def Engine.offMove (s : Engine) : Engine :=
  { s with flight := [], p := [], b := [], n := [], dmem := [], derr := [], staged := 0, carry := 0, carried := 0, minSlack := 0,
           bulk := none, ckpts := [], hbs := [] }

/-- A register that a move slot of engine `e` may write: its heartbeat word, the queues', the axes'. -/
def moveReg (e a : Nat) : Prop := a = DV_HB e ∨ a = DV_HB e + 4 ∨ queueReg a ∨ (0x100000 ≤ a ∧ a < 0x200000)

theorem not_moveReg_injStatus (e c i k : Nat) : ¬ moveReg e (INJ_STATUS c i k) := by
  simp only [INJ_STATUS, moveReg, DV_HB, queueReg]
  omega

/-- Work of a move slot. -/
abbrev Moves (e : Nat) (d d' : Device) : Prop := Keeps Engine.offMove Device.clk (moveReg e) e d d'

namespace Moves
variable {e : Nat}

/-- Work that leaves the engines and the clock alone. -/
theorem aside {d d' : Device} (heng : d'.engines = d.engines) (hclk : d'.clk = d.clk) (hregs : sameRegs d d' (moveReg e)) :
    Moves e d d' := by
  have hown : d'.eng e = d.eng e := by rw [Device.eng, heng, Device.eng]
  exact ⟨⟨by rw [hown], hclk, hregs⟩, by rw [hown]; exact fun _ => id, by rw [hown]; exact fun _ _ _ _ => id⟩

theorem setAx (d : Device) (k : Nat) (f : AxisCtl → AxisCtl) : Moves e d (d.setAx k f) := aside rfl rfl (.regs _ rfl)

theorem setEng (d : Device) {f : Engine → Engine} (hp : ∀ s, (f s).offMove = s.offMove) (hfl : ∀ s, (f s).flight = s.flight) :
    Moves e d (d.setEng e f) :=
  Keeps.setEng rfl (hp _) (hfl _) (coarser (p := Engine.offMove) (q := Engine.sf) (fun _ => rfl) _ _ (hp _))

theorem setDm (d : Device) (a : Nat) (v : BitVec 32) : Moves e d (d.setDm e a v) := setEng d (fun _ => rfl) fun _ => rfl

theorem setDms (d : Device) (a : Nat) (ws : List Nat) : Moves e d (d.setDms e a ws) := setEng d (fun _ => rfl) fun _ => rfl

theorem winParams (d : Device) (j k : Nat) : Moves e d (d.winParams e j k) :=
  ((setDms d _ _).trans (setDms _ _ _)).trans (setDms _ _ _)

theorem winBoundary (d : Device) (j k : Nat) (carry : Bool) : Moves e d (d.winBoundary e j k carry) :=
  ((setDm d _ _).trans (setDms _ _ _)).trans (setAx _ _ _)

theorem slotFill (d : Device) (j k : Nat) : Moves e d (d.slotFill e j k) := by
  have hfeed : Moves e d (d.winFeedback e j k) := by
    unfold Device.winFeedback
    extract_lets u ride p v d1 d2 r
    have h2 : Moves e d d2 := (setDms d _ _).trans (setAx _ _ _)
    split
    · exact h2.trans (setDms ..)
    · exact h2.trans (setDms ..)
  unfold Device.slotFill Device.slotStatus
  extract_lets late
  exact hfeed.trans (setDm ..)

theorem slotCarry (d : Device) (j k : Nat) : Moves e d (d.slotCarry e j k) := by
  unfold Device.slotCarry
  extract_lets d1
  have h1 : Moves e d d1 :=
    ((winBoundary d j k true).trans (winParams _ j k)).trans (setEng _ (fun _ => rfl) fun _ => rfl)
  exact Keeps.ite (h1.trans (slotFill d1 j k)) h1

theorem fresh (d : Device) : Moves e d d.fresh.2 := aside rfl rfl (.regs _ rfl)

theorem runOf (d : Device) (j k : Nat) : Moves e d (d.runOf e j k).2 := by
  unfold Device.runOf
  extract_lets w one i3 needed
  have hone (c : Prop) [Decidable c] (d : Device) (ph : Nat) : Moves e d (if c then one d ph else (0, d)).2 := by
    unfold one
    split
    · split
      · exact Keeps.refl d
      · exact fresh d
    · exact Keeps.refl d
  exact ((hone _ d 0).trans (hone _ _ 1)).trans (hone _ _ 2)

theorem livePut (d : Device) (f : Fld) (v : Nat) : Moves e d (d.livePut f v) := aside rfl rfl (.regs _ rfl)

theorem satFlags (d : Device) {k : Nat} (fl : Nat) (hk : k < 192) : Moves e d (d.satFlags k fl) := by
  refine aside rfl rfl (.wr _ _ _ _ (.inr (.inr (.inr ?_))))
  simp only [AX_LP_SAT]
  omega

theorem stepRun (d : Device) (j : Nat) {k : Nat} (hk : k < 192) : Moves e d (d.stepRun e j k) := by
  have hrun := runOf (e := e) d j k
  unfold Device.stepRun
  split
  next r d0 hd =>
    rw [hd] at hrun
    split
    · exact hrun.trans (setDms ..)
    · extract_lets s expected
      split
      next v dv fl _ =>
        extract_lets d1
        have h1 : Moves e d d1 := (hrun.trans (setDms ..)).trans (satFlags _ fl hk)
        exact (h1.trans (setDms ..)).trans (setAx ..)

theorem servoRun (d : Device) (j : Nat) {k : Nat} (hk : k < 192) : Moves e d (d.servoRun e j k) := by
  have hrun := runOf (e := e) d j k
  unfold Device.servoRun
  split
  next r d0 hd =>
    rw [hd] at hrun
    extract_lets v cl align openLoop rest0 rest stages act put al cnt th
    split
    next vref vo ep c fl _ =>
      extract_lets iref d1 d2 held d3 d4 d5
      have hput (l : List (Nat × Int)) (d : Device) : Moves e d (l.foldl put d) := Keeps.foldl (fun d x => setDm d _ _) l d
      have h1 : Moves e d d1 := hrun.trans (hput _ d0)
      have h2 : Moves e d d2 := by
        unfold d2
        split
        · exact h1.trans (hput _ d1)
        · exact h1
      have h3 : Moves e d d3 := ((h2.trans (setDms ..)).trans (setDm ..)).trans (setDm ..)
      have h4 : Moves e d d4 := (h3.trans (setDms ..)).trans (satFlags _ fl hk)
      have h5 : Moves e d d5 := ((h4.trans (livePut ..)).trans (livePut ..)).trans (livePut ..)
      exact h5.trans (setAx ..)

theorem stockRun (d : Device) (j : Nat) : Moves e d (d.stockRun e j) := by
  unfold Device.stockRun
  extract_lets k v
  split
  · exact Keeps.refl d
  next hk =>
    exact Keeps.ite (Keeps.refl d) <| Keeps.ite (setDms ..) <| Keeps.ite (stepRun d j (by omega)) (servoRun d j (by omega))

theorem stageSlot (d : Device) (j : Nat) : Moves e d (d.stageSlot e j) := by
  unfold Device.stageSlot
  extract_lets k s stock d1 d2 out d3
  have h1 : Moves e d d1 := Keeps.ite (stockRun d j) (Keeps.refl d)
  have h2 : Moves e d d2 := h1.trans (setEng _ (fun _ => rfl) fun _ => rfl)
  have h3 : Moves e d d3 := Keeps.ite ((h2.trans (setAx ..)).trans (setEng _ (fun _ => rfl) fun _ => rfl)) h2
  exact Keeps.ite (Keeps.refl d) (Keeps.ite (h3.trans (slotCarry ..)) h3)

theorem ckptSlot {d : Device} (h : Readable d e) (j : Nat) : Moves e d (d.ckptSlot e j) := by
  unfold Device.ckptSlot
  extract_lets k as
  rw [h.tileRead]
  exact Keeps.ite (Keeps.refl d) (setEng _ (fun _ => rfl) fun _ => rfl)

theorem hbeat {d : Device} (h : d.injPending 3 e 4 = false) (lo hi : BitVec 32) : Moves e d (d.hbeat e lo hi) := by
  unfold Device.hbeat
  extract_lets n good d1
  have h1 : Moves e d d1 := by
    have hword : Moves e d ((d.wr (DV_HB e) lo).wr (DV_HB e + 4) hi) :=
      aside rfl rfl ((sameRegs.wr _ _ _ _ (.inl rfl)).trans (.wr _ _ _ _ (.inr (.inl rfl))))
    exact hword.trans (setEng _ (fun _ => rfl) fun _ => rfl)
  have hpend : d1.injPending 3 e 4 = false := (Device.injPending_of_regs h1.regs (not_moveReg_injStatus e 3 e 4)).trans h
  unfold Device.detect
  rw [Device.injTake_eq_none hpend]
  refine Keeps.ite (Keeps.trans (d' := d1.setEng e fun s => { s with hbs := ((n, 0) :: s.hbs.drop 1).take 2 }) ?_ (Keeps.msg ..)) h1
  exact h1.trans (setEng _ (fun _ => rfl) fun _ => rfl)

theorem bulkStart (d : Device) (bank v : Nat) (s : Engine) : Moves e d (d.bulkStart e bank v s) :=
  setEng d (fun _ => rfl) fun _ => rfl

theorem fly (d : Device) (lat bank dst : Nat) (v : Int) : Moves e d (d.fly e lat bank dst v) := (Keeps.fly fun _ _ => rfl).toClk

theorem loadTo (d : Device) (bank r : Nat) (as : List Nat) : Moves e d (d.loadTo e bank r as) :=
  Keeps.foldl (fun _ _ => fly ..) _ d

theorem mbxSend (d : Device) : Moves e d (d.mbxSend e) := by
  unfold Device.mbxSend
  extract_lets w len data
  have hunits : sameUnits d (d.qPut 15 (bits (w 0) 8 8) (e + 256) (w 3) data) := unitsOf_qPut ..
  exact aside (hunits.part Device.engines fun _ => rfl) (hunits.part Device.clk fun _ => rfl)
    ((sameRegs.qPut _ _ _ _ _ _ (by decide)).mono fun _ h => .inr (.inr (.inl h)))

theorem ledgSend (d : Device) (lo hi : BitVec 32) : Moves e d (d.ledgSend lo hi) := by
  unfold Device.ledgSend
  extract_lets h m
  exact Keeps.ite (Keeps.refl d) (aside rfl rfl (.regs _ rfl))

theorem doMove {d : Device} (h : Readable d e) (hinj : d.injPending 3 e 4 = false) (bank v : Nat) (s : Engine) :
    Moves e d (d.doMove e bank v s) := by
  unfold Device.doMove
  extract_lets g op r pk inc n as stored a b loaded k x k' x'
  have hbump (d : Device) (pk : Nat) (inc : Int) : Moves e d (d.setEng e fun s => s.bump bank pk inc) :=
    setEng d (fun _ => rfl) fun _ => rfl
  have hstored : Moves e d stored := Keeps.foldl (fun d (x : Nat × Nat) => setDm d x.1 _) _ d
  have hloaded : Moves e d loaded := (loadTo d ..).trans (loadTo ..)
  have hldxy := setEng (e := e) loaded (f := fun s =>
    let s1 := s.bump bank a (incCode (bits v 4 3))
    if a = b then s1 else s1.bump bank b (incCode (bits v 1 3)))
    (fun s => by dsimp only; split <;> rfl) (fun s => by dsimp only; split <;> rfl)
  refine Keeps.ite (Keeps.refl d) <| Keeps.ite ((loadTo d ..).trans (hbump ..)) <| Keeps.ite (hstored.trans (hbump ..)) <|
    Keeps.ite (hloaded.trans hldxy) <| Keeps.ite (fly d ..) <| Keeps.ite (setEng d (fun s => ?_) fun s => ?_) <|
    Keeps.ite (fly d ..) <| Keeps.ite (stageSlot d _) <| Keeps.ite (ckptSlot h _) <| Keeps.ite (hbeat hinj _ _) <|
    Keeps.ite (bulkStart d ..) <| Keeps.ite (ledgSend d ..) <| Keeps.ite (mbxSend d) (Keeps.refl d)
  · split
    · rfl
    · split <;> rfl
  · split
    · rfl
    · split <;> rfl

end Moves

end Machine
end Sys2Proof
end

section
/-! What an issued word leaves: results on their way and flags come through the later slots and the word's end, and a word without MAC
and move operation is quiet. -/

namespace Sys2Proof

open Sys2Proof.Machine

namespace Machine

/-! ### A word from its issue to its end -/

section Word
variable {d : Device} {e : Nat} (w : BitVec 64) (h : Claims.sound d e)
include h

theorem Readable.calculated : Readable (d.calculated e w) e :=
  (Readable.of_sound h).of_frame (Frame.calculated d e w) (fun _ => rfl) (fun _ => rfl) fun k => not_shownReg_injStatus e 10 e k

theorem Moves.calculated_moved : Moves e (d.calculated e w) (d.moved e w) :=
  Moves.doMove (Readable.calculated w h)
    ((Device.injPending_of_regs (Frame.calculated d e w).regs (not_shownReg_injStatus e 3 e 4)).trans (injPending_heartbeat h)) _ _ _

theorem Device.injPending_moved : (d.moved e w).injPending 2 e 2 = false :=
  (Device.injPending_of_regs (Moves.calculated_moved w h).regs (not_moveReg_injStatus e 2 e 2)).trans <|
    (Device.injPending_of_regs (Frame.calculated d e w).regs (not_shownReg_injStatus e 2 e 2)).trans (injPending_steps h)

theorem Keeps.moved_engIssue : Keeps Engine.offEnd Device.clk (· = DV_STATUS e) e (d.moved e w) (d.engIssue e w) :=
  Keeps.ended (Device.injPending_moved w h)

/-- A result on its way after the MAC and the ALU slot is so when the word has ended. -/
theorem flight_engIssue {f : Flight} (hf : f ∈ ((d.calculated e w).eng e).flight) : f ∈ ((d.engIssue e w).eng e).flight :=
  (Keeps.moved_engIssue w h).flight f ((Moves.calculated_moved w h).flight f hf)

/-- The flags after the MAC and the ALU slot are those when the word has ended. -/
theorem sf_engIssue : ((d.engIssue e w).eng e).sf = ((d.calculated e w).eng e).sf :=
  ((Keeps.moved_engIssue w h).part Engine.sf fun _ => rfl).trans ((Moves.calculated_moved w h).part Engine.sf fun _ => rfl)

theorem flag_engIssue (b : Nat) {i : Nat} (h8 : i ≠ 8) (h10 : i ≠ 10) :
    ((d.engIssue e w).eng e).flag b i = ((d.calculated e w).eng e).flag b i := by
  rw [Engine.flag_eq _ _ _ h8 h10, Engine.flag_eq _ _ _ h8 h10, sf_engIssue w h]

theorem clk_engIssue : (d.engIssue e w).clk = d.clk :=
  ((Keeps.moved_engIssue w h).block.trans (Moves.calculated_moved w h).block).trans
    (congrArg (fun x => x.2.clk) (Frame.calculated d e w).block)

end Word

/-! ### The word's slots, one by one -/

section Slots
variable (d : Device) (e : Nat)

theorem Device.doClrf_other (bank : Nat) {a : Nat} (h : aluOp a ≠ 30) : d.doClrf e bank a = d := if_neg h

theorem Device.doMac_nop (bank : Nat) {m : Nat} (g : Nat → BitVec 32) (h : macOp m = 0) : d.doMac e bank m g = d := by
  rw [Device.doMac_eq, h]
  rfl

theorem Device.doAlu_nop (bank : Nat) {a : Nat} (s : Engine) (h : aluOp a = 0) : d.doAlu e bank a s = d := if_pos h

theorem Device.doMove_nop (bank : Nat) {v : Nat} (s : Engine) (h : mvOp v = 0) : d.doMove e bank v s = d := if_pos h

variable {d e}
variable {w : BitVec 64}

theorem Device.summed_nop (hmac : macOp (macOf w) = 0) (hclrf : aluOp (aluOf w) ≠ 30) : d.summed e w = d := by
  rw [Device.summed, Device.doClrf_other _ _ _ hclrf, Device.doMac_nop _ _ _ _ hmac]

theorem Device.calculated_nop (hmac : macOp (macOf w) = 0) (halu : aluOp (aluOf w) = 0) : d.calculated e w = d := by
  rw [Device.calculated, Device.summed_nop hmac (by omega), Device.doAlu_nop _ _ _ _ halu]

theorem Device.moved_nop (hmv : mvOp (mvOf w) = 0) : d.moved e w = d.calculated e w := by
  rw [Device.moved, Device.doMove_nop _ _ _ _ hmv]

/-- A word with an ALU operation alone. -/
theorem Device.moved_alu {alu : Nat} (hlt : alu < 2 ^ 20) (hclrf : aluOp alu ≠ 30) :
    d.moved e (wordOf 0 alu 0) = d.doAlu e (d.eng e).bank alu (d.eng e) := by
  have halu : aluOf (wordOf 0 alu 0) = alu := aluOf_wordOf (by decide) hlt (by decide)
  have hmac : macOf (wordOf 0 alu 0) = 0 := macOf_wordOf (by decide) hlt (by decide)
  have hmv : mvOf (wordOf 0 alu 0) = 0 := mvOf_wordOf (by decide) hlt (by decide)
  rw [Device.moved_nop (by rw [hmv]; rfl), Device.calculated, Device.summed_nop (by rw [hmac]; rfl) (by rwa [halu]), halu]

end Slots

end Machine

/-! ### The statements' terms -/

section Claims
variable {c : Instr} {s : State} {e : Fin 28} {w : BitVec 64}

/-- A word that issues is carried out by the engine whose results due have landed. -/
theorem leads_issue {P : Device → Prop} (hc : exec c s = .next (s.onDev fun d => d.issue e w)) (hr : s.dev.inReset = false)
    (hi : Claims.issues s.dev e w) (hP : P ((s.dev.engLand e).engIssue e w)) : leads c s P := by
  refine leads_onDev_of_clk hc hr (Device.issue_of_issues hi) ?_ hP
  exact (clk_engIssue w (sound_engLand hi.1)).trans (congrArg (fun x => x.2.clk) (Frame.engLand s.dev e).block)

/-- A word that may not issue yet waits (R147). -/
theorem leads_waiting {P : Device → Prop} (hc : exec c s = .next (s.onDev fun d => d.issue e w)) (hr : s.dev.inReset = false)
    (hsound : Claims.sound s.dev e) (hlive : s.dev.engLive e = true) (hevent : s.dev.eventDue e = false)
    (hfetch : s.dev.fetches e w = true) (hhalt : (s.dev.engLand e).haltCode e w = 0) (hcan : (s.dev.engLand e).engCan e w = false)
    (hP : P (s.dev.holdWord e w)) : leads c s P :=
  leads_onDev_of_clk hc hr (Device.issue_waits hsound hlive hevent hfetch hhalt hcan)
    (congrArg (fun x => x.2.clk) (Frame.engLand s.dev e).block) hP

theorem leads.mono {P Q : Device → Prop} (h : leads c s P) (hPQ : ∀ d, P d → Q d) : leads c s Q := by
  obtain ⟨t, hexec, hpend, hclk, hP⟩ := h
  exact ⟨t, hexec, hpend, hclk, hPQ _ hP⟩

end Claims

namespace Machine

theorem Device.eng_of_besides {d d' : Device} {e j : Nat} (h : d'.besides e = d.besides e) (hj : j ≠ e) : d'.eng j = d.eng j := by
  have hfun := congrFun (congrArg Prod.fst h) j
  simpa only [Device.besides, hj, if_false] using hfun

theorem Device.rest_of_besides {d d' : Device} {e : Nat} (h : d'.besides e = d.besides e) :
    { d' with engines := d.engines, regs := d.regs } = d :=
  congrArg (fun x : (Nat → Engine) × Device => { x.2 with engines := d.engines, regs := d.regs }) h

end Machine

section Alone
variable {s : State} {e : Fin 28} {w : BitVec 64} (hop : aluOp (aluOf w) ≠ 27)
include hop

/-- A word that is no END, and whose slots change engine `e` and the registers that show it alone. -/
theorem moveAlone_engIssue {p : Engine → Engine}
    (hm : Frame p (Device.besides · e) (shownReg e) e (s.dev.engLand e) ((s.dev.engLand e).moved e w)) :
    Claims.moveAlone s e ((s.dev.engLand e).engIssue e w) := by
  have hland := Frame.engLand s.dev e
  have hend := Keeps.ended_besides (d := s.dev.engLand e) (e := e) (w := w) hop
  have hbesides := hend.block.trans (hm.block.trans hland.block)
  exact ⟨fun j hj => Device.eng_of_besides hbesides hj, Device.rest_of_besides hbesides,
    ((hland.regs.mono fun _ => .inr).trans hm.regs).trans (hend.regs.mono fun _ => .inl)⟩

/-- Such a word without MAC and move operation, behind no branch, is quiet. -/
theorem quietWord_engIssue (hb : (Claims.atIssue s.dev e).branch = none) {set : Nat → Prop}
    (hm : Frame Engine.offAlu (Device.besides · e) (shownReg e) e (s.dev.engLand e) ((s.dev.engLand e).moved e w))
    (hfl : ∀ f ∈ (Claims.atIssue s.dev e).flight, f ∈ (((s.dev.engLand e).moved e w).eng e).flight)
    (hset : ∀ b i, i ≠ 9 → ¬ set i → (((s.dev.engLand e).moved e w).eng e).flag b i = (Claims.atIssue s.dev e).flag b i) :
    Claims.quietWord s e ((s.dev.engLand e).engIssue e w) set := by
  obtain ⟨hothers, hrest, hregs⟩ := moveAlone_engIssue hop hm
  have heng := Device.eng_engIssue_next hb hop
  have hown {β : Type} (q : Engine → β) (hq : ∀ x, q x.offAlu = q x) (hn : ∀ x, q (Engine.next x) = q x) :
      q (((s.dev.engLand e).engIssue e w).eng e) = q (Claims.atIssue s.dev e) := by
    rw [heng, hn]
    exact hm.part q hq
  refine ⟨hothers, hown Engine.g (fun _ => rfl) fun _ => rfl, hown Engine.acc (fun _ => rfl) fun _ => rfl,
    hown Engine.accN (fun _ => rfl) fun _ => rfl, hown Engine.p (fun _ => rfl) fun _ => rfl, hown Engine.b (fun _ => rfl) fun _ => rfl,
    hown Engine.n (fun _ => rfl) fun _ => rfl, hown Engine.dmem (fun _ => rfl) fun _ => rfl,
    hown Engine.prog (fun _ => rfl) fun _ => rfl,
    hown Engine.bulk (fun _ => rfl) fun _ => rfl, hown Engine.ckpts (fun _ => rfl) fun _ => rfl, ?_, ?_, ?_, ?_, hrest, hregs⟩
  · rw [heng]
    exact hset
  · rw [heng]
    exact hfl
  · rw [heng]
    exact congrArg (· + 1) (hm.part Engine.issued fun _ => rfl)
  · rw [heng]
    exact congrArg (fun n => (n + 1) % 16384) (hm.part Engine.pc fun _ => rfl)

end Alone

end Sys2Proof
end

section
/-! The ALU operations that give a result (R134, R136, R141): what they send on its way, and the flags they set at once. -/

namespace Sys2Proof

open Sys2Proof.Machine

namespace Machine

/-! ### The result of an ALU operation (R134, R141) -/

/-- The results that an ALU operation sends on their way: its register's, Z and N, and C and V where the operation names them. -/
def AluOut.flights (o : AluOut) (due bank : Nat) (rd : Option Nat) : List Flight :=
  rd.toList.map (fun r => ⟨due, bank, r, o.val.toInt⟩) ++
  [⟨due, bank, 32, (b2n (flagZ o.val) + 2 * b2n (flagN o.val) : Nat)⟩] ++
  o.cv.toList.map (fun x => ⟨due, bank, 33, (b2n x.1 + 2 * b2n x.2 : Nat)⟩)

/-- The engine after the operation. -/
def AluOut.after (o : AluOut) (s : Engine) (lat bank : Nat) (rd : Option Nat) (shf : Bool) : Engine :=
  let s1 := { s with flight := s.flight ++ o.flights (s.issued + lat) bank rd }
  let s2 := if o.sat then s1.setFlag bank 4 true else s1
  if shf then s2.setFlag bank 6 true else s2

/-- An ALU result that is sent on its way, with SAT where it saturated and SHF where its shift was taken as 47. -/
def Device.aluSend (d : Device) (e bank lat : Nat) (rd : Option Nat) (o : AluOut) (shf : Bool) : Device :=
  let d1 := d.aluPut e bank (rd.getD 0) lat o rd.isSome
  if shf then d1.sticky e bank 6 else d1

theorem Device.eng_aluSend (d : Device) (e bank lat : Nat) (rd : Option Nat) (o : AluOut) (shf : Bool) :
    (d.aluSend e bank lat rd o shf).eng e = o.after (d.eng e) lat bank rd shf := by
  have hput : (d.aluPut e bank (rd.getD 0) lat o rd.isSome).eng e = o.after (d.eng e) lat bank rd false := by
    obtain ⟨val, cv, sat⟩ := o
    cases rd <;> cases cv <;> cases sat <;> simp [Device.aluPut, AluOut.after, AluOut.flights]
  cases shf
  · exact hput
  · simp [Device.aluSend, hput, AluOut.after]

section After
variable (o : AluOut) (s : Engine) (lat bank : Nat) (rd : Option Nat) (shf : Bool)

theorem AluOut.flight_after : (o.after s lat bank rd shf).flight = s.flight ++ o.flights (s.issued + lat) bank rd := by
  unfold AluOut.after
  split <;> split <;> rfl

theorem AluOut.branch_after : (o.after s lat bank rd shf).branch = s.branch := by
  unfold AluOut.after
  split <;> split <;> rfl

/-- Only SAT and SHF change at once, SAT where the operation saturated. -/
theorem AluOut.flag_after {b i : Nat} (hi : ¬ ((i = 4 ∧ o.sat = true) ∨ i = 6)) :
    (o.after s lat bank rd shf).flag b i = s.flag b i := by
  unfold AluOut.after
  extract_lets s1 s2
  have h2 : s2.flag b i = s.flag b i := by
    unfold s2
    split
    next h => exact s1.flag_setFlag_other bank 4 true fun hb => hi (.inl ⟨hb.2, h⟩)
    next => rfl
  split
  · rw [s2.flag_setFlag_other bank 6 true fun hb => hi (.inr hb.2), h2]
  · exact h2

theorem AluOut.flag_after_sat (h : o.sat = true) : (o.after s lat bank rd shf).flag bank 4 = true := by
  have h4 (x : Engine) : (x.setFlag bank 4 true).flag bank 4 = true := x.flag_setFlag_same bank 4 true (by decide) (by decide)
  simp only [AluOut.after, h, if_true]
  split
  · exact Engine.flag_setFlag_true _ _ _ (h4 _) (by decide) (by decide)
  · exact h4 _

theorem AluOut.flag_after_shf (h : shf = true) : (o.after s lat bank rd shf).flag bank 6 = true := by
  simp only [AluOut.after, h, if_true]
  exact Engine.flag_setFlag_same _ bank 6 true (by decide) (by decide)

end After

theorem Keeps.aluSend (d : Device) (e bank lat : Nat) (rd : Option Nat) (o : AluOut) (shf : Bool) :
    Keeps Engine.offAlu (Device.besides · e) (shownReg e) e d (d.aluSend e bank lat rd o shf) :=
  Keeps.ite ((Keeps.aluPut ..).trans (Keeps.sticky (fun _ _ => rfl) (by decide) (by decide) (.inr rfl))) (Keeps.aluPut ..)

/-- The engine after the ALU slot, where its operation gives a result. -/
theorem Device.eng_calculated_aluSend {d : Device} {e lat : Nat} {w : BitVec 64} {rd : Option Nat} {o : AluOut} {shf : Bool}
    (hdo : ∀ x : Device, x.doAlu e (d.eng e).bank (aluOf w) (d.eng e) = x.aluSend e (d.eng e).bank lat rd o shf) :
    (d.calculated e w).eng e = o.after ((d.summed e w).eng e) lat (d.eng e).bank rd shf := by
  rw [Device.calculated, hdo, Device.eng_aluSend]

/-! ### The operations that give a result -/

section Ops
variable (d : Device) (e bank : Nat) {a : Nat} (s : Engine)

theorem Device.doAlu_two (h0 : aluOp a ≠ 0) (h14 : aluOp a ≤ 14) : d.doAlu e bank a s =
    d.aluSend e bank 1 (some (bits a 10 5)) (aluTwo (aluOp a) (s.reg bank (bits a 5 5)) (s.reg bank (bits a 0 5))) false := by
  unfold Device.doAlu
  extract_lets
  rw [if_neg h0, if_pos h14]
  rfl

theorem Device.doAlu_cmp (h : aluOp a = 15) : d.doAlu e bank a s =
    d.aluSend e bank 1 none (aluSub (s.reg bank (bits a 5 5)) (s.reg bank (bits a 0 5))) false := by
  simp only [Device.doAlu, h]
  rfl

theorem Device.doAlu_addi (h : aluOp a = 16) : d.doAlu e bank a s =
    d.aluSend e bank 1 (some (bits a 10 5)) (aluAdd (s.reg bank (bits a 10 5)) (BitVec.ofInt 32 (toS 10 (bits a 0 10)))) false := by
  simp only [Device.doAlu, h]
  rfl

/-- A narrowing's result and flags. -/
def narrowOut (acc : Int) (sh : Nat) : AluOut := { val := (narrow acc sh).1, sat := (narrow acc sh).2.1 }

theorem Device.doAlu_nrw (h : aluOp a = 17) : d.doAlu e bank a s =
    d.aluSend e bank 2 (some (bits a 10 5)) (narrowOut (s.accN.pick 0 (bank * 4 + bits a 8 2)) (bits a 2 6))
      (decide (47 < bits a 2 6)) := by
  simp only [Device.doAlu, h]
  rfl

theorem Device.doAlu_nrwr (h : aluOp a = 18) : d.doAlu e bank a s =
    d.aluSend e bank 2 (some (bits a 10 5))
      (narrowOut (s.accN.pick 0 (bank * 4 + bits a 8 2)) ((s.reg bank (bits a 3 5)).toNat % 64))
      (decide (47 < (s.reg bank (bits a 3 5)).toNat % 64)) := by
  simp only [Device.doAlu, h]
  rfl

end Ops

end Machine
end Sys2Proof
end

section
/-! The results and flags of the ALU slot and of narrowing (R134, R136, R141). -/

namespace Sys2Proof

open Sys2Proof.Machine

namespace Machine

/-! ### Saturation and sign extension -/

theorem satS_eq (w : Nat) (i : Int) : satS (w + 1) i = max (-(2 ^ w)) (min (2 ^ w - 1) i) := by
  have hpos : (0 : Int) < 2 ^ w := by positivity
  simp only [satS, Nat.add_sub_cancel, Nat.cast_pow, Nat.cast_ofNat]
  split
  · omega
  · split <;> omega

theorem satS_ne_iff (w : Nat) (i : Int) : satS (w + 1) i ≠ i ↔ i < -2 ^ w ∨ 2 ^ w ≤ i := by
  have hpos : (0 : Int) < 2 ^ w := by positivity
  rw [satS_eq]
  omega

theorem satW_eq (i : Int) : satW i = BitVec.ofInt 32 (max (-2 ^ 31) (min (2 ^ 31 - 1) i)) := congrArg (BitVec.ofInt 32) (satS_eq 31 i)

theorem addV_eq (a b : BitVec 32) : addV a b = decide (a.toInt + b.toInt < -2 ^ 31 ∨ 2 ^ 31 ≤ a.toInt + b.toInt) :=
  (Bool.decide_or ..).symm

theorem subV_eq (a b : BitVec 32) : subV a b = decide (a.toInt - b.toInt < -2 ^ 31 ∨ 2 ^ 31 ≤ a.toInt - b.toInt) :=
  (Bool.decide_or ..).symm

theorem toS_toNat {w : Nat} (x : BitVec w) : toS w x.toNat = x.toInt := by
  simp only [toS, Nat.mod_eq_of_lt x.isLt, BitVec.toInt]

theorem signExtend_eq_ofInt_toS {w : Nat} (x : BitVec w) : BitVec.ofInt 32 (toS w x.toNat) = x.signExtend 32 := by
  rw [toS_toNat]
  rfl

end Machine

/-! ### Operations of the ALU slot that give a result (R134, R136, R141) -/

section Results
variable {s : State} {e : Fin 28} {alu lat : Nat} {rd : Option Nat} {o : AluOut} {shf : Bool} {c : BitVec 20 → BitVec 24 → Instr}
  (hlt : alu < 2 ^ 20)
  (hdo : ∀ d : Device, d.doAlu e (Claims.atIssue s.dev e).bank alu (Claims.atIssue s.dev e) =
    d.aluSend e (Claims.atIssue s.dev e).bank lat rd o shf)
include hlt hdo

/-- The engine after the ALU slot, whatever the MAC slot did before it. -/
theorem eng_calculated_result (mac : BitVec 20) (mv : BitVec 24) :
    ((s.dev.engLand e).calculated e (wordOf mac.toNat alu mv.toNat)).eng e =
      o.after (((s.dev.engLand e).summed e (wordOf mac.toNat alu mv.toNat)).eng e) lat (Claims.atIssue s.dev e).bank rd shf := by
  refine Device.eng_calculated_aluSend fun x => ?_
  rw [aluOf_wordOf mac.isLt hlt mv.isLt]
  exact hdo x

variable (hr : s.dev.inReset = false)
  (hc : ∀ mac mv, exec (c mac mv) s = .next (s.onDev fun d => d.issue e (wordOf mac.toNat alu mv.toNat)))
include hr hc

theorem leads_result_lands (mac : BitVec 20) (mv : BitVec 24) (hi : Claims.issues s.dev e (wordOf mac.toNat alu mv.toNat)) :
    leads (c mac mv) s (fun d => (∀ f ∈ o.flights ((Claims.atIssue s.dev e).issued + lat) (Claims.atIssue s.dev e).bank rd,
      f ∈ (d.eng e).flight) ∧ (o.sat = true → Claims.stuck s e d 4) ∧ (shf = true → Claims.stuck s e d 6)) := by
  have hsound := sound_engLand hi.1
  have heng := eng_calculated_result hlt hdo mac mv
  have hissued := (Frame.summed (s.dev.engLand e) e (wordOf mac.toNat alu mv.toNat)).part Engine.issued fun _ => rfl
  refine leads_issue (hc mac mv) hr hi ⟨fun f hf => flight_engIssue _ hsound ?_, fun hs => ?_, fun hs => ?_⟩
  · rw [heng, AluOut.flight_after, hissued]
    exact List.mem_append_right _ hf
  · rw [Claims.stuck, flag_engIssue _ hsound _ (by decide) (by decide), heng]
    exact AluOut.flag_after_sat _ _ _ _ _ _ hs
  · rw [Claims.stuck, flag_engIssue _ hsound _ (by decide) (by decide), heng]
    exact AluOut.flag_after_shf _ _ _ _ _ _ hs

variable (hop : aluOp alu < 19)
include hop

theorem leads_result_quiet (hi : Claims.issues s.dev e (wordOf 0 alu 0)) (hb : (Claims.atIssue s.dev e).branch = none) :
    leads (c 0 0) s (fun d => Claims.quietWord s e d (fun i => (i = 4 ∧ o.sat = true) ∨ i = 6) ∧ (d.eng e).branch = none) := by
  have halu : aluOf (wordOf 0 alu 0) = alu := aluOf_wordOf (by decide) hlt (by decide)
  have hmoved : (s.dev.engLand e).moved e (wordOf 0 alu 0) = (s.dev.engLand e).aluSend e (Claims.atIssue s.dev e).bank lat rd o shf :=
    (Device.moved_alu hlt (by omega)).trans (hdo _)
  have h27 : aluOp (aluOf (wordOf 0 alu 0)) ≠ 27 := by
    rw [halu]
    omega
  refine leads_issue (w := wordOf 0 alu 0) (hc 0 0) hr hi ⟨quietWord_engIssue h27 hb ?_ ?_ ?_, ?_⟩
  · rw [hmoved]
    exact (Keeps.aluSend ..).toFrame
  · rw [hmoved]
    exact (Keeps.aluSend ..).flight
  · intro b i _ hset
    rw [hmoved, Device.eng_aluSend, AluOut.flag_after _ _ _ _ _ _ hset]
    rfl
  · rw [Device.eng_engIssue_next hb h27, hmoved, Device.eng_aluSend]
    exact (AluOut.branch_after ..).trans hb

/-- An operation of the ALU slot that sends a result. -/
theorem aluGives_of_aluSend : Claims.aluGives c s e alu lat rd o.val o.cv o.sat := by
  refine ⟨fun mac mv hi => (leads_result_lands hlt hdo hr hc mac mv hi).mono ?_,
    fun hi hb => leads_result_quiet hlt hdo hr hc hop hi hb⟩
  rintro d ⟨hlands, hsat, -⟩
  refine ⟨fun r hrd => hlands _ ?_, hlands _ ?_, fun x y hcv => hlands _ ?_, hsat⟩
  · simp [AluOut.flights, hrd]
  · simp [AluOut.flights, flagZ, flagN]
  · simp [AluOut.flights, hcv]

end Results

/-- Two operands of general registers (R141). -/
theorem aluGives_two {s : State} {e : Fin 28} {c : BitVec 20 → BitVec 24 → Instr} {op : Nat} {rd rs rt : Fin 32} {v : BitVec 32}
    {cv : Option (Bool × Bool)} {sat : Bool} (hr : s.dev.inReset = false) (h0 : op ≠ 0) (h14 : op ≤ 14)
    (hc : ∀ mac mv, exec (c mac mv) s = .next (s.onDev fun d => d.issue e (wordOf mac.toNat (aluSlot op rd rs rt) mv.toNat)))
    (ho : aluTwo op (Claims.reg s e rs) (Claims.reg s e rt) = ⟨v, cv, sat⟩) :
    Claims.aluGives c s e (aluSlot op rd rs rt) 1 (some rd) v cv sat := by
  obtain ⟨hlt, hop, hrd, hrs, hrt⟩ := aluSlot_fields (op := op) (by omega) rd rs rt
  refine aluGives_of_aluSend (o := ⟨v, cv, sat⟩) (shf := false) hlt (fun d => ?_) hr hc (by omega)
  rw [Device.doAlu_two _ _ _ _ (by omega) (by omega), hop, hrd, hrs, hrt, ← ho]
  rfl

section Single
variable {s : State} {e : Fin 28} {c : BitVec 20 → BitVec 24 → Instr} (hr : s.dev.inReset = false)
include hr

/-- CMP gives flags alone (R141). -/
theorem aluGives_cmp {rs rt : Fin 32} {v : BitVec 32} {cv : Option (Bool × Bool)}
    (hc : ∀ mac mv, exec (c mac mv) s = .next (s.onDev fun d => d.issue e (wordOf mac.toNat (aluSlot 15 0 rs rt) mv.toNat)))
    (ho : aluSub (Claims.reg s e rs) (Claims.reg s e rt) = ⟨v, cv, false⟩) :
    Claims.aluGives c s e (aluSlot 15 0 rs rt) 1 none v cv false := by
  obtain ⟨hlt, hop, -, hrs, hrt⟩ := aluSlot_fields (op := 15) (by decide) 0 rs rt
  refine aluGives_of_aluSend (o := ⟨v, cv, false⟩) (shf := false) hlt (fun d => ?_) hr hc (lt_of_eq_of_lt hop (by decide))
  refine (d.doAlu_cmp _ _ _ hop).trans ?_
  rw [← ho]
  exact congrArg₂ (fun i j => d.aluSend e _ 1 none (aluSub (Engine.reg _ _ i) (Engine.reg _ _ j)) false) hrs hrt

/-- ADDI adds its sign-extended immediate to its register (R141). -/
theorem aluGives_addi {rd : Fin 32} {imm : BitVec 10} {v : BitVec 32} {cv : Option (Bool × Bool)}
    (hc : ∀ mac mv, exec (c mac mv) s = .next (s.onDev fun d => d.issue e (wordOf mac.toNat (addiSlot rd imm.toNat) mv.toNat)))
    (ho : aluAdd (Claims.reg s e rd) (imm.signExtend 32) = ⟨v, cv, false⟩) :
    Claims.aluGives c s e (addiSlot rd imm.toNat) 1 (some rd) v cv false := by
  obtain ⟨hlt, hop, hrd, himm⟩ := addiSlot_fields rd imm
  refine aluGives_of_aluSend (o := ⟨v, cv, false⟩) (shf := false) hlt (fun d => ?_) hr hc (lt_of_eq_of_lt hop (by decide))
  rw [d.doAlu_addi _ _ _ hop, hrd, himm, signExtend_eq_ofInt_toS, ← ho]
  rfl

end Single

theorem aluArithmeticLandsOneStepLater : Claims.AluArithmeticLandsOneStepLater := by
  intro s e rd rs rt hr a b sum diff ovf carry noBorrow sat m
  have two {c : BitVec 20 → BitVec 24 → Instr} {v : BitVec 32} {cv : Option (Bool × Bool)} {sat : Bool} (op : Nat) (h0 : op ≠ 0)
      (h14 : op ≤ 14) (hc : ∀ mac mv, exec (c mac mv) s = .next (s.onDev
        fun d => d.issue e (wordOf mac.toNat (aluSlot op rd rs rt) mv.toNat)))
      (ho : aluTwo op a b = ⟨v, cv, sat⟩) : Claims.aluGives c s e (aluSlot op rd rs rt) 1 (some rd) v cv sat :=
    aluGives_two hr h0 h14 hc ho
  refine ⟨two 1 (by decide) (by decide) (fun _ _ => rfl) ?_, two 2 (by decide) (by decide) (fun _ _ => rfl) ?_,
    two 3 (by decide) (by decide) (fun _ _ => rfl) ?_, two 4 (by decide) (by decide) (fun _ _ => rfl) ?_,
    two 5 (by decide) (by decide) (fun _ _ => rfl) rfl, two 6 (by decide) (by decide) (fun _ _ => rfl) rfl,
    two 7 (by decide) (by decide) (fun _ _ => rfl) rfl, two 8 (by decide) (by decide) (fun _ _ => rfl) rfl,
    two 9 (by decide) (by decide) (fun _ _ => rfl) rfl, two 10 (by decide) (by decide) (fun _ _ => rfl) rfl,
    two 11 (by decide) (by decide) (fun _ _ => rfl) rfl, two 12 (by decide) (by decide) (fun _ _ => rfl) rfl,
    two 13 (by decide) (by decide) (fun _ _ => rfl) rfl,
    aluGives_two (rt := 0) hr (by decide) (by decide) (fun _ _ => rfl) ?_, ?_, fun imm => ?_⟩
  · simp only [aluTwo, aluAdd, addV_eq]
    rfl
  · simp only [aluTwo, aluSub, subV_eq]
    rfl
  · simp only [aluTwo, aluSadd, addV_eq, satW_eq]
    rfl
  · simp only [aluTwo, aluSsub, subV_eq, satW_eq]
    rfl
  · simp only [aluTwo, aluAbs, satW_eq]
    rfl
  · refine aluGives_cmp hr (fun _ _ => rfl) ?_
    simp only [aluSub, subV_eq]
    rfl
  · refine aluGives_addi hr (fun _ _ => rfl) ?_
    simp only [aluAdd, addV_eq]
    rfl

/-- The narrowing of an accumulator by a shift (R136). -/
theorem narrowOut_eq (acc : Int) (sh : Nat) :
    let q := acc / ((2 ^ min 47 sh : Nat) : Int)
    narrowOut acc sh = ⟨BitVec.ofInt 32 (max (-2 ^ 31) (min (2 ^ 31 - 1) q)), none, decide (q < -2 ^ 31 ∨ 2 ^ 31 ≤ q)⟩ := by
  simp only [narrowOut, narrow, fdiv, satW_eq, satS_ne_iff 31]

/-- A narrowing sends its result, and sets SHF where its shift was taken as 47 (R136). -/
theorem aluGives_narrow {s : State} {e : Fin 28} {c : BitVec 20 → BitVec 24 → Instr} {alu rd sh : Nat} {acc : Int}
    (hr : s.dev.inReset = false)
    (hc : ∀ mac mv, exec (c mac mv) s = .next (s.onDev fun d => d.issue e (wordOf mac.toNat alu mv.toNat)))
    (hlt : alu < 2 ^ 20) (hop : aluOp alu < 19)
    (hdo : ∀ d : Device, d.doAlu e (Claims.atIssue s.dev e).bank alu (Claims.atIssue s.dev e) =
      d.aluSend e (Claims.atIssue s.dev e).bank 2 (some rd) (narrowOut acc sh) (decide (47 < sh))) :
    let q := acc / ((2 ^ min 47 sh : Nat) : Int)
    Claims.aluGives c s e alu 2 (some rd) (BitVec.ofInt 32 (max (-2 ^ 31) (min (2 ^ 31 - 1) q))) none
        (decide (q < -2 ^ 31 ∨ 2 ^ 31 ≤ q)) ∧
      (∀ mac mv, 47 < sh → Claims.issues s.dev e (wordOf mac.toNat alu mv.toNat) → leads (c mac mv) s
        (fun d => Claims.stuck s e d 6)) := by
  intro q
  refine ⟨?_, fun mac mv h hi => (leads_result_lands hlt hdo hr hc mac mv hi).mono fun _ hd => hd.2.2 (decide_eq_true h)⟩
  rw [narrowOut_eq] at hdo
  exact aluGives_of_aluSend hlt hdo hr hc hop

theorem narrowingShiftsAndSaturates : Claims.NarrowingShiftsAndSaturates := by
  intro s e rd acc hr x q v sat
  refine ⟨fun sh => ?_, fun rs => ?_⟩
  · obtain ⟨hlt, hop, hrd, hacc, hsh⟩ := nrwSlot_fields_imm rd acc sh
    refine aluGives_narrow hr (fun _ _ => rfl) hlt (lt_of_eq_of_lt hop (by decide)) fun d => ?_
    rw [d.doAlu_nrw _ _ _ hop, hrd, hacc, hsh]
  · obtain ⟨hlt, hop, hrd, hacc, hrs⟩ := nrwSlot_fields_reg rd acc rs
    refine aluGives_narrow hr (fun _ _ => rfl) hlt (lt_of_eq_of_lt hop (by decide)) fun d => ?_
    rw [d.doAlu_nrwr _ _ _ hop, hrd, hacc, hrs]
    rfl

/-- Settles O23: an operation that sends its result is followed through the later slots and the end of its word. -/
theorem aluAndNarrowingResults : Obligations.AluAndNarrowingResults :=
  ⟨aluArithmeticLandsOneStepLater, narrowingShiftsAndSaturates⟩

end Sys2Proof
end

section
/-! The sums of the MAC slot (R135, R139). -/

namespace Sys2Proof

open Sys2Proof.Machine

namespace Machine

/-! ### The sums of a MAC slot (R135, R139) -/

section Sums
variable (e bank : Nat) (clr neg : Bool)

/-- The sum of an accumulator, and whether it saturated. -/
def Engine.macVal (s : Engine) (t : Nat × Int) : Int × Bool := accSum (s.acc.pick 0 (bank * 4 + t.1)) t.2 clr neg

/-- The engine with the sum in its accumulator and on its way to NRW. -/
def Engine.macSent (s : Engine) (t : Nat × Int) : Engine :=
  { s with acc := s.acc.upd 0 (bank * 4 + t.1) fun _ => (s.macVal bank clr neg t).1
           flight := s.flight ++ [⟨s.issued + 3, bank, 64 + t.1, (s.macVal bank clr neg t).1⟩] }

theorem Device.eng_macAdd (d : Device) (t : Nat × Int) : (d.macAdd e bank clr neg t).eng e =
    if ((d.eng e).macVal bank clr neg t).2 then ((d.eng e).macSent bank clr neg t).setFlag bank 5 true
    else (d.eng e).macSent bank clr neg t := by
  unfold Device.macAdd
  extract_lets r d1
  have h1 : d1.eng e = (d.eng e).macSent bank clr neg t := by
    rw [Device.eng_fly, Device.eng_setEng_same]
    rfl
  change (if r.2 then d1.sticky e bank 5 else d1).eng e =
    if r.2 then ((d.eng e).macSent bank clr neg t).setFlag bank 5 true else (d.eng e).macSent bank clr neg t
  split
  · rw [Device.eng_sticky, h1]
  · exact h1

theorem Device.acc_macAdd (d : Device) (t : Nat × Int) : ((d.macAdd e bank clr neg t).eng e).acc =
    (d.eng e).acc.upd 0 (bank * 4 + t.1) fun _ => ((d.eng e).macVal bank clr neg t).1 := by
  rw [Device.eng_macAdd]
  split <;> rfl

theorem Device.flight_macAdd (d : Device) (t : Nat × Int) : ((d.macAdd e bank clr neg t).eng e).flight =
    (d.eng e).flight ++ [⟨(d.eng e).issued + 3, bank, 64 + t.1, ((d.eng e).macVal bank clr neg t).1⟩] := by
  rw [Device.eng_macAdd]
  split <;> rfl

/-- What is so of the sum `t` once the engine `s'` has added it: `s` is the engine before. -/
structure Summed (s s' : Engine) (t : Nat × Int) : Prop where
  acc : s'.acc.pick 0 (bank * 4 + t.1) = (s.macVal bank clr neg t).1
  flight : (⟨s.issued + 3, bank, 64 + t.1, (s.macVal bank clr neg t).1⟩ : Flight) ∈ s'.flight
  aov : (s.macVal bank clr neg t).2 = true → s'.flag bank 5 = true

theorem Summed.macAdd (d : Device) (t : Nat × Int) : Summed bank clr neg (d.eng e) ((d.macAdd e bank clr neg t).eng e) t := by
  refine ⟨?_, ?_, fun h => ?_⟩
  · rw [Device.acc_macAdd]
    exact Store.pick_upd_same ..
  · rw [Device.flight_macAdd]
    exact List.mem_append_right _ (List.mem_singleton.mpr rfl)
  · rw [Device.eng_macAdd]
    simp only [h, if_true]
    exact Engine.flag_setFlag_same _ bank 5 true (by decide) (by decide)

/-- Sums into different accumulators are each added as if alone, and no other accumulator changes. -/
theorem summed_foldl (l : List (Nat × Int)) (hl : (l.map Prod.fst).Nodup) : ∀ d : Device,
    let d' := l.foldl (fun d t => d.macAdd e bank clr neg t) d
    (∀ t ∈ l, Summed bank clr neg (d.eng e) (d'.eng e) t) ∧
      ∀ j, (∀ t ∈ l, bank * 4 + t.1 ≠ j) → (d'.eng e).acc.pick 0 j = (d.eng e).acc.pick 0 j := by
  induction l with
  | nil => exact fun d => ⟨nofun, fun _ _ => rfl⟩
  | cons t l ih =>
    intro d d'
    obtain ⟨ht, hnd⟩ := List.nodup_cons.mp hl
    let d1 := d.macAdd e bank clr neg t
    obtain ⟨hsums, hothers⟩ := ih hnd d1
    have hrest : Keeps Engine.offMac (Device.besides · e) (· = DV_STICKY e) e d1 d' := Keeps.foldl (fun d t => .macAdd d clr neg t) l d1
    have hissued : (d1.eng e).issued = (d.eng e).issued := (Keeps.macAdd d clr neg t).part Engine.issued fun _ => rfl
    have hacc (j : Nat) (hj : bank * 4 + t.1 ≠ j) : (d1.eng e).acc.pick 0 j = (d.eng e).acc.pick 0 j := by
      rw [Device.acc_macAdd]
      exact Store.pick_upd_other _ _ _ _ _ hj.symm
    have hne (u : Nat × Int) (hu : u ∈ l) : bank * 4 + u.1 ≠ bank * 4 + t.1 := fun h =>
      ht (List.mem_map.mpr ⟨u, hu, Nat.add_left_cancel h⟩)
    refine ⟨fun u hu => ?_, fun j hj => ?_⟩
    · obtain rfl | hu := List.mem_cons.mp hu
      · have hfirst := Summed.macAdd e bank clr neg d u
        exact ⟨(hothers _ hne).trans hfirst.acc, hrest.flight _ hfirst.flight,
          fun h => hrest.stuck _ _ (by decide) (by decide) (hfirst.aov h)⟩
      · have hval : (d1.eng e).macVal bank clr neg u = (d.eng e).macVal bank clr neg u := by
          simp only [Engine.macVal, hacc _ (hne u hu).symm]
        have hlater := hsums u hu
        exact ⟨hval ▸ hlater.acc, hval ▸ hissued ▸ hlater.flight, hval ▸ hlater.aov⟩
    · exact (hothers j fun u hu => hj u (List.mem_cons_of_mem _ hu)).trans (hacc j (hj t (List.mem_cons_self ..)))

end Sums

end Machine
end Sys2Proof
end

section
/-! The operations of the MAC slot (R139, R140). -/

namespace Sys2Proof

open Sys2Proof.Machine

namespace Machine

/-- After the MAC slot of a word each of its sums is in its accumulator and on its way, and no other accumulator has changed. -/
theorem Device.summed_sums {d : Device} {e : Nat} {w : BitVec 64} {clr neg : Bool} {sums : List (Nat × Int)}
    (hclr : bit (macOf w) 3 = clr) (hneg : bit (macOf w) 2 = neg) (hnd : (sums.map Prod.fst).Nodup)
    (hsums : macSums (macOp (macOf w)) (bits (macOf w) 14 2) (bits (macOf w) 9 5) (bits (macOf w) 4 5)
      (fun r => (d.eng e).reg (d.eng e).bank r) = sums) :
    (∀ t ∈ sums, Summed (d.eng e).bank clr neg (d.eng e) ((d.summed e w).eng e) t) ∧
      ∀ j, (∀ t ∈ sums, (d.eng e).bank * 4 + t.1 ≠ j) → ((d.summed e w).eng e).acc.pick 0 j = (d.eng e).acc.pick 0 j := by
  have hclrf : Frame Engine.offFlags (Device.besides · e) (shownReg e) e d (d.doClrf e (d.eng e).bank (aluOf w)) := Frame.doClrf ..
  have hacc : ((d.doClrf e (d.eng e).bank (aluOf w)).eng e).acc = (d.eng e).acc := hclrf.part Engine.acc fun _ => rfl
  have hissued : ((d.doClrf e (d.eng e).bank (aluOf w)).eng e).issued = (d.eng e).issued := hclrf.part Engine.issued fun _ => rfl
  have hval (t : Nat × Int) : ((d.doClrf e (d.eng e).bank (aluOf w)).eng e).macVal (d.eng e).bank clr neg t =
      (d.eng e).macVal (d.eng e).bank clr neg t := by
    simp only [Engine.macVal, hacc]
  have hsummed : d.summed e w =
      sums.foldl (fun d' t => d'.macAdd e (d.eng e).bank clr neg t) (d.doClrf e (d.eng e).bank (aluOf w)) := by
    rw [Device.summed, Device.doMac_eq, hclr, hneg, hsums]
  obtain ⟨hsum, hothers⟩ := summed_foldl e (d.eng e).bank clr neg sums hnd (d.doClrf e (d.eng e).bank (aluOf w))
  rw [hsummed]
  refine ⟨fun t ht => ?_, fun j hj => (hothers j hj).trans (by rw [hacc])⟩
  obtain ⟨h1, h2, h3⟩ := hsum t ht
  rw [hval] at h1 h2 h3
  exact ⟨h1, hissued ▸ h2, h3⟩

/-- A sum saturates to 72 bits (R135). -/
theorem Engine.macVal_eq (s : Engine) (bank : Nat) (clr neg : Bool) (t : Nat × Int) :
    s.macVal bank clr neg t =
      (max (-2 ^ 71) (min (2 ^ 71 - 1) ((if clr then 0 else s.acc.pick 0 (bank * 4 + t.1)) + (if neg then -t.2 else t.2))),
        decide (max (-2 ^ 71) (min (2 ^ 71 - 1) ((if clr then 0 else s.acc.pick 0 (bank * 4 + t.1)) + (if neg then -t.2 else t.2))) ≠
          (if clr then 0 else s.acc.pick 0 (bank * 4 + t.1)) + (if neg then -t.2 else t.2))) := by
  simp only [Engine.macVal, accSum, satS_eq 71]

end Machine

/-! ### Operations of the MAC slot (R139, R140) -/

section Sums
variable {s : State} {e : Fin 28} {mac : Nat} {clr neg : Bool} {sums : List (Nat × Int)} {c : BitVec 20 → BitVec 24 → Instr}

/-- The sums stand when the word has ended, and the other accumulators of the bank are as they were. -/
theorem sums_engIssue {w : BitVec 64} (hsound : Claims.sound s.dev e) (hclr : bit (macOf w) 3 = clr) (hneg : bit (macOf w) 2 = neg)
    (hnd : (sums.map Prod.fst).Nodup)
    (hsums : macSums (macOp (macOf w)) (bits (macOf w) 14 2) (bits (macOf w) 9 5) (bits (macOf w) 4 5)
      (fun r => (Claims.atIssue s.dev e).reg (Claims.atIssue s.dev e).bank r) = sums) :
    (∀ t ∈ sums, Summed (Claims.atIssue s.dev e).bank clr neg (Claims.atIssue s.dev e) (((s.dev.engLand e).engIssue e w).eng e) t) ∧
      ∀ i, (∀ t ∈ sums, t.1 ≠ i) → (((s.dev.engLand e).engIssue e w).eng e).acc.pick 0 ((Claims.atIssue s.dev e).bank * 4 + i) =
        (Claims.atIssue s.dev e).acc.pick 0 ((Claims.atIssue s.dev e).bank * 4 + i) := by
  obtain ⟨hin, hothers⟩ := Device.summed_sums hclr hneg hnd hsums
  have hland := sound_engLand hsound
  have halu : Keeps Engine.offAlu (Device.besides · e) (shownReg e) e ((s.dev.engLand e).summed e w)
      ((s.dev.engLand e).calculated e w) :=
    Keeps.doAlu ..
  have hacc : (((s.dev.engLand e).engIssue e w).eng e).acc = (((s.dev.engLand e).summed e w).eng e).acc :=
    ((Keeps.moved_engIssue w hland).part Engine.acc fun _ => rfl).trans <|
      ((Moves.calculated_moved w hland).part Engine.acc fun _ => rfl).trans (halu.part Engine.acc fun _ => rfl)
  refine ⟨fun t ht => ?_, fun i hi => ?_⟩
  · obtain ⟨hval, hfly, haov⟩ := hin t ht
    refine ⟨(by rw [hacc]; exact hval), flight_engIssue w hland (halu.flight _ hfly), fun h => ?_⟩
    rw [flag_engIssue w hland _ (by decide) (by decide)]
    exact halu.stuck _ _ (by decide) (by decide) (haov h)
  · rw [hacc]
    exact hothers _ fun t ht => fun h => hi t ht (Nat.add_left_cancel h)

/-- A word with a MAC operation alone, behind no branch. -/
theorem sumsAlone_engIssue {w : BitVec 64} (halu : aluOp (aluOf w) = 0) (hmv : mvOp (mvOf w) = 0)
    (hb : (Claims.atIssue s.dev e).branch = none) :
    let a := Claims.atIssue s.dev e
    let d := (s.dev.engLand e).engIssue e w
    (d.eng e).g = a.g ∧ (d.eng e).p = a.p ∧ (d.eng e).dmem = a.dmem ∧ (d.eng e).pc = (a.pc + 1) % 16384 ∧
      { d with engines := s.dev.engines, regs := s.dev.regs } = s.dev ∧
      sameRegs s.dev d (fun y => y = DV_STATUS e ∨ y = DV_STICKY e) := by
  intro a d
  have hmoved : (s.dev.engLand e).moved e w = (s.dev.engLand e).summed e w := by
    rw [Device.moved_nop hmv, Device.calculated, Device.doAlu_nop _ _ _ _ halu]
  have hop : aluOp (aluOf w) ≠ 27 := by omega
  have hsum : Frame Engine.offMac (Device.besides · e) (shownReg e) e (s.dev.engLand e) ((s.dev.engLand e).moved e w) :=
    hmoved ▸ Frame.summed (s.dev.engLand e) e w
  obtain ⟨-, hrest, hregs⟩ := moveAlone_engIssue hop hsum
  have hown {β : Type} (q : Engine → β) (hq : ∀ x, q x.offMac = q x) (hn : ∀ x, q (Engine.next x) = q x) : q (d.eng e) = q a := by
    rw [show d.eng e = _ from Device.eng_engIssue_next hb hop, hn]
    exact hsum.part q hq
  refine ⟨hown Engine.g (fun _ => rfl) fun _ => rfl, hown Engine.p (fun _ => rfl) fun _ => rfl,
    hown Engine.dmem (fun _ => rfl) fun _ => rfl, ?_, hrest, hregs⟩
  rw [show d.eng e = _ from Device.eng_engIssue_next hb hop]
  exact congrArg (fun n => (n + 1) % 16384) (hsum.part Engine.pc fun _ => rfl)

/-- An operation of the MAC slot that adds to different accumulators. -/
theorem macGives_of_sums (hlt : mac < 2 ^ 20) (hclr : bit mac 3 = clr) (hneg : bit mac 2 = neg) (hnd : (sums.map Prod.fst).Nodup)
    (hsums : macSums (macOp mac) (bits mac 14 2) (bits mac 9 5) (bits mac 4 5)
      (fun r => (Claims.atIssue s.dev e).reg (Claims.atIssue s.dev e).bank r) = sums)
    (hr : s.dev.inReset = false)
    (hc : ∀ alu mv, exec (c alu mv) s = .next (s.onDev fun d => d.issue e (wordOf mac alu.toNat mv.toNat))) :
    Claims.macGives c s e mac clr neg sums := by
  unfold Claims.macGives
  intro a x v
  refine ⟨fun alu mv hi => leads_issue (hc alu mv) hr hi ?_, fun hi hb => leads_issue (w := wordOf mac 0 0) (hc 0 0) hr hi ?_⟩
  · have hmac : macOf (wordOf mac alu.toNat mv.toNat) = mac := macOf_wordOf hlt alu.isLt mv.isLt
    obtain ⟨hin, hothers⟩ := sums_engIssue (w := wordOf mac alu.toNat mv.toNat) hi.1 (by rw [hmac, hclr]) (by rw [hmac, hneg]) hnd
      (by rw [hmac, hsums])
    refine ⟨fun t ht => ?_, fun i _ hi => hothers i hi⟩
    obtain ⟨hval, hfly, haov⟩ := hin t ht
    rw [Engine.macVal_eq] at hval hfly haov
    exact ⟨hval, hfly, fun h => haov (decide_eq_true h)⟩
  · have hmac : macOf (wordOf mac 0 0) = mac := macOf_wordOf hlt (by decide) (by decide)
    have halu : aluOf (wordOf mac 0 0) = 0 := aluOf_wordOf hlt (by decide) (by decide)
    have hmv : mvOf (wordOf mac 0 0) = 0 := mvOf_wordOf hlt (by decide) (by decide)
    exact sumsAlone_engIssue (w := wordOf mac 0 0) (by rw [halu]; rfl) (by rw [hmv]; rfl) hb

/-- A MAC slot, with the sums of its fields. -/
theorem macGives_of_slot {op : Nat} {k : Fin 4} {x y : Fin 32} (hop : op < 16) (hnd : (sums.map Prod.fst).Nodup)
    (hsums : macSums op k x y (fun r => (Claims.atIssue s.dev e).reg (Claims.atIssue s.dev e).bank r) = sums)
    (hr : s.dev.inReset = false)
    (hc : ∀ alu mv, exec (c alu mv) s =
      .next (s.onDev fun d => d.issue e (wordOf (macSlot op k x y (b2n clr) (b2n neg)) alu.toNat mv.toNat))) :
    Claims.macGives c s e (macSlot op k x y (b2n clr) (b2n neg)) clr neg sums := by
  obtain ⟨hlt, hmop, hk, hx, hy, hclr, hneg⟩ := macSlot_fields hop k x y clr neg
  exact macGives_of_sums hlt hclr hneg hnd (by rw [hmop, hk, hx, hy, hsums]) hr hc

end Sums

theorem align_eq (n r : Nat) : align n r = r / n * n := by
  rw [align]
  have := Nat.div_add_mod' r n
  omega

/-- Settles O19: each operation's sums are those of `macSums`, and go to different accumulators. -/
theorem macSlotAccumulates : Obligations.MacSlotAccumulates := by
  unfold Obligations.MacSlotAccumulates
  intro s e k x y clr neg hr g x2 y2 x4 y4 k2 slot
  refine ⟨?_, ?_, ?_, ?_, ?_, ?_, ?_, ?_⟩
  · exact macGives_of_slot (op := 1) (by decide) (by simp) rfl hr fun _ _ => rfl
  · exact macGives_of_slot (op := 2) (by decide) (by simp) rfl hr fun _ _ => rfl
  · exact macGives_of_slot (op := 3) (by decide) (by simp) (by simp only [macSums, align_eq]; rfl) hr fun _ _ => rfl
  · exact macGives_of_slot (op := 4) (by decide) (by simp) (by simp only [macSums, align_eq]; rfl) hr fun _ _ => rfl
  · exact macGives_of_slot (op := 5) (by decide) (by simp) (by simp only [macSums, align_eq]; rfl) hr fun _ _ => rfl
  · exact macGives_of_slot (op := 6) (by decide) (by simp) (by simp only [macSums, align_eq]; rfl) hr fun _ _ => rfl
  · exact macGives_of_slot (op := 7) (by decide) (by simp) (by simp only [macSums, align_eq]; rfl) hr fun _ _ => rfl
  · exact macGives_of_slot (op := 8) (by decide) (by simp) rfl hr fun _ _ => rfl

end Sys2Proof
end

section
/-! Control operations: branches, CALL and the returns (R148, R154). -/

namespace Sys2Proof

open Sys2Proof.Machine

namespace Machine

/-! ### Control operations (R148, R154) -/

/-- Flags tell the bank's word and whether a transfer is in progress. -/
theorem Engine.flag_congr {s t : Engine} (hsf : s.sf = t.sf) (hbulk : s.bulk = t.bulk) (b i : Nat) : s.flag b i = t.flag b i := by
  simp only [Engine.flag, Engine.status, hsf, hbulk]

/-- A control operation does not issue in a delay slot. -/
theorem Device.branch_eq_none {d : Device} {e : Nat} {w : BitVec 64} (h : d.haltCode e w = 0)
    (hop : isControl (aluOp (aluOf w)) = true) :
    (d.eng e).branch = none := by
  unfold Device.haltCode at h
  extract_lets s op mv at h
  rw [Option.eq_none_iff_forall_ne_some]
  intro b hb
  have hdelay : (s.branch.isSome && isControl op) = true := by
    rw [show s.branch = some b from hb, show isControl op = true from hop]
    rfl
  rw [hdelay] at h
  revert h
  split
  · exact (by decide : ¬ 1 = 0)
  · exact (by decide : ¬ 2 = 0)

theorem isControl_of {op : Nat} (h19 : 19 ≤ op) (h28 : op ≤ 28) : isControl op = true := by
  rw [isControl, decide_eq_true h19, decide_eq_true h28, Bool.and_self]

section Ops
variable (d : Device) (e bank : Nat) {a : Nat} (s : Engine)

theorem Device.doAlu_bne (h : aluOp a = 21) : d.doAlu e bank a s = if s.flag bank 0 then d else d.branchTo e (bits a 0 14) := by
  simp only [Device.doAlu, h]
  rfl

theorem Device.doAlu_bge (h : aluOp a = 23) :
    d.doAlu e bank a s = if s.flag bank 1 == s.flag bank 3 then d.branchTo e (bits a 0 14) else d := by
  simp only [Device.doAlu, h]
  rfl

theorem Device.doAlu_call (h : aluOp a = 24) :
    d.doAlu e bank a s = (d.fly e 1 bank 31 (((s.pc + 3) % 16384 : Nat) : Int)).branchTo e (bits a 0 14) := by
  simp only [Device.doAlu, h]
  rfl

theorem Device.doAlu_ret (h : aluOp a = 25) : d.doAlu e bank a s = d.branchTo e ((s.reg bank 31).toNat % 16384) := by
  simp only [Device.doAlu, h]
  rfl

/-- WAITS returns the lowest slot that it may, or 8. -/
theorem Device.doAlu_waits (h : aluOp a = 26) : d.doAlu e bank a s =
    match (List.range 8).find? (fun j => bit (d.waitable e) j) with
    | some j => (d.setEng e fun s => { s with returned := setBit s.returned j true }).fly e 1 bank (bits a 10 5) (j : Int)
    | none => d.fly e 1 bank (bits a 10 5) 8 := by
  simp only [Device.doAlu, h]
  rfl

theorem Device.doAlu_rete (h : aluOp a = 28) : d.doAlu e bank a s = d.branchTo e 0x4000 := by
  simp only [Device.doAlu, h]
  rfl

theorem Device.doAlu_emask (h : aluOp a = 29) : d.doAlu e bank a s =
    if bank = 0 then (d.setEng e fun s => s.setFlag bank 9 (bit a 0)).put (DV_STATUS_EMASK e) (b2n (bit a 0))
    else d.setEng e fun s => s.setFlag bank 9 (bit a 0) := by
  simp only [Device.doAlu, h]
  rfl

/-- CLRF's and END's work is done before and after the slot. -/
theorem Device.doAlu_none (h : aluOp a = 27 ∨ aluOp a = 30) : d.doAlu e bank a s = d := by
  obtain h | h := h <;>
  · simp only [Device.doAlu, h]
    rfl

end Ops

section Word
variable {d : Device} {e : Nat} (w : BitVec 64) (h : Claims.sound d e) (hb : (d.eng e).branch = none) (hop : aluOp (aluOf w) ≠ 27)
include h hb hop

/-- A part of the engine that neither the move slot nor the end of a word that is no END changes. -/
theorem part_engIssue {α : Type} (q : Engine → α) (hmove : ∀ s, q s.offMove = q s) (hnext : ∀ s, q (Engine.next s) = q s) :
    q ((d.engIssue e w).eng e) = q ((d.calculated e w).eng e) := by
  rw [Device.eng_engIssue_next hb hop, hnext]
  exact (Moves.calculated_moved w h).part q hmove

theorem pc_engIssue : ((d.engIssue e w).eng e).pc = ((d.eng e).pc + 1) % 16384 := by
  rw [Device.eng_engIssue_next hb hop]
  exact congrArg (fun n => (n + 1) % 16384) <|
    ((Moves.calculated_moved w h).part Engine.pc fun _ => rfl).trans ((Frame.calculated d e w).part Engine.pc fun _ => rfl)

end Word

end Machine

section Branches
variable {s : State} {e : Fin 28} {alu : Nat} {b : Option (Nat × Nat)} {c : BitVec 20 → BitVec 24 → Instr}

/-- A transfer of control, or a control operation that transfers none. -/
theorem branchGives_of_doAlu (hlt : alu < 2 ^ 20) (h19 : 19 ≤ aluOp alu) (h28 : aluOp alu ≤ 28) (h27 : aluOp alu ≠ 27)
    (hdo : ∀ d : Device, (d.eng e).branch = none →
      ((d.doAlu e (Claims.atIssue s.dev e).bank alu (Claims.atIssue s.dev e)).eng e).branch = b ∧
      ((d.doAlu e (Claims.atIssue s.dev e).bank alu (Claims.atIssue s.dev e)).eng e).sf = (d.eng e).sf)
    (hr : s.dev.inReset = false)
    (hc : ∀ mac mv, exec (c mac mv) s = .next (s.onDev fun d => d.issue e (wordOf mac.toNat alu mv.toNat))) :
    Claims.branchGives c s e alu b := by
  have hnone {w : BitVec 64} (hw : aluOf w = alu) (hi : Claims.issues s.dev e w) : (Claims.atIssue s.dev e).branch = none :=
    Device.branch_eq_none (haltCode_of_issues hi) (by rw [hw]; exact isControl_of h19 h28)
  refine ⟨fun mac mv hi => leads_issue (hc mac mv) hr hi ?_, fun hi => leads_issue (w := wordOf 0 alu 0) (hc 0 0) hr hi ?_⟩
  · have hw : aluOf (wordOf mac.toNat alu mv.toNat) = alu := aluOf_wordOf mac.isLt hlt mv.isLt
    have hb := hnone hw hi
    have hsound := sound_engLand hi.1
    refine ⟨?_, pc_engIssue _ hsound hb (by rwa [hw])⟩
    rw [part_engIssue _ hsound hb (by rwa [hw]) Engine.branch (fun _ => rfl) fun _ => rfl, Device.calculated, hw]
    exact (hdo _ (((Frame.summed _ e _).part Engine.branch fun _ => rfl).trans hb)).1
  · have hw : aluOf (wordOf 0 alu 0) = alu := aluOf_wordOf (by decide) hlt (by decide)
    have hb := hnone hw hi
    have halu : Keeps Engine.offAlu (Device.besides · e) (shownReg e) e (s.dev.engLand e)
        ((s.dev.engLand e).moved e (wordOf 0 alu 0)) := by
      rw [Device.moved_alu hlt (by omega)]
      exact Keeps.doAlu ..
    refine quietWord_engIssue (by rwa [hw]) hb halu.toFrame halu.flight fun b i _ _ => Engine.flag_congr ?_
      (halu.part Engine.bulk fun _ => rfl) b i
    rw [Device.moved_alu hlt (by omega)]
    exact (hdo _ hb).2

/-- A branch to a target where its condition holds. -/
theorem branchGives_of_cond {p : Bool} {t : Nat} (hlt : alu < 2 ^ 20) (h19 : 19 ≤ aluOp alu) (h28 : aluOp alu ≤ 28)
    (h27 : aluOp alu ≠ 27) (hdo : ∀ d : Device, d.doAlu e (Claims.atIssue s.dev e).bank alu (Claims.atIssue s.dev e) = if p then d.branchTo e t else d)
    (hr : s.dev.inReset = false)
    (hc : ∀ mac mv, exec (c mac mv) s = .next (s.onDev fun d => d.issue e (wordOf mac.toNat alu mv.toNat))) :
    Claims.branchGives c s e alu (if p then some (2, t) else none) := by
  refine branchGives_of_doAlu hlt h19 h28 h27 (fun d hb => ?_) hr hc
  rw [hdo]
  cases p
  · exact ⟨hb, rfl⟩
  · simp only [if_true, Device.eng_branchTo, and_self]

/-- A branch to the target in its slot. -/
theorem branchGives_tgt {op : Nat} {p : Bool} {t : BitVec 14} (h19 : 19 ≤ op) (h28 : op ≤ 28) (h27 : op ≠ 27)
    (hdo : ∀ (d : Device) (a : Nat), aluOp a = op →
      d.doAlu e (Claims.atIssue s.dev e).bank a (Claims.atIssue s.dev e) = if p then d.branchTo e (bits a 0 14) else d)
    (hr : s.dev.inReset = false)
    (hc : ∀ mac mv, exec (c mac mv) s = .next (s.onDev fun d => d.issue e (wordOf mac.toNat (tgtSlot op t.toNat) mv.toNat))) :
    Claims.branchGives c s e (tgtSlot op t.toNat) (if p then some (2, t.toNat) else none) := by
  obtain ⟨hlt, hop, htgt⟩ := tgtSlot_fields (op := op) (by omega) t
  exact branchGives_of_cond hlt (by omega) (by omega) (by omega) (fun d => by rw [hdo d _ hop, htgt]) hr hc

end Branches

section Branch
variable {s : State} {e : Fin 28} (hr : s.dev.inReset = false)
include hr

/-- The branches of R148. -/
theorem branchGives_branches (t : BitVec 14) :
    let hop := fun (p : Bool) => if p then some (2, t.toNat) else none
    let z := Claims.flag s e 0
    let lt := Claims.flag s e 1 != Claims.flag s e 3
    Claims.branchGives (.bra e t) s e (tgtSlot 19 t.toNat) (hop true) ∧ Claims.branchGives (.beq e t) s e (tgtSlot 20 t.toNat) (hop z) ∧
    Claims.branchGives (.bne e t) s e (tgtSlot 21 t.toNat) (hop (!z)) ∧
    Claims.branchGives (.blt e t) s e (tgtSlot 22 t.toNat) (hop lt) ∧
    Claims.branchGives (.bge e t) s e (tgtSlot 23 t.toNat) (hop (!lt)) := by
  intro hop z lt
  refine ⟨?_, ?_, ?_, ?_, ?_⟩
  · refine branchGives_tgt (by decide) (by decide) (by decide) (fun d a h => ?_) hr fun _ _ => rfl
    simp only [Device.doAlu, h]
    rfl
  · refine branchGives_tgt (by decide) (by decide) (by decide) (fun d a h => ?_) hr fun _ _ => rfl
    simp only [Device.doAlu, h]
    rfl
  · refine branchGives_tgt (by decide) (by decide) (by decide) (fun d a h => ?_) hr fun _ _ => rfl
    rw [d.doAlu_bne _ _ _ h, ← ite_not]
    simp only [Bool.not_eq_true, Bool.not_eq_true', z, Claims.flag]
  · refine branchGives_tgt (by decide) (by decide) (by decide) (fun d a h => ?_) hr fun _ _ => rfl
    simp only [Device.doAlu, h]
    rfl
  · refine branchGives_tgt (by decide) (by decide) (by decide) (fun d a h => ?_) hr fun _ _ => rfl
    simp only [d.doAlu_bge _ _ _ h, Bool.not_eq_true', lt, Claims.flag, bne_eq_false_iff_eq, beq_iff_eq]

/-- CALL branches, and its return address is on its way to g31. -/
theorem branchGives_call (t : BitVec 14) :
    Claims.branchGives (.call e t) s e (tgtSlot 24 t.toNat) (some (2, t.toNat)) ∧
    (∀ mac mv, Claims.issues s.dev e (wordOf mac.toNat (tgtSlot 24 t.toNat) mv.toNat) →
      leads (.call e t mac mv) s (fun d => Claims.lands s e d 1 31 ((((Claims.atIssue s.dev e).pc + 3) % 16384 : Nat) : Int))) := by
  obtain ⟨hlt, hop, htgt⟩ := tgtSlot_fields (op := 24) (by decide) t
  constructor
  · refine branchGives_of_doAlu hlt (by omega) (by omega) (by omega) (fun d _ => ?_) hr fun _ _ => rfl
    rw [d.doAlu_call _ _ _ hop, Device.eng_branchTo, Device.eng_fly, htgt]
    exact ⟨rfl, rfl⟩
  · intro mac mv hi
    refine leads_issue (w := wordOf mac.toNat (tgtSlot 24 t.toNat) mv.toNat) rfl hr hi (flight_engIssue _ (sound_engLand hi.1) ?_)
    rw [Device.calculated, aluOf_wordOf mac.isLt hlt mv.isLt, Device.doAlu_call _ _ _ _ hop, Device.eng_branchTo, Device.eng_fly,
      (Frame.summed _ e _).part Engine.issued fun _ => rfl]
    exact List.mem_append_right _ (List.mem_singleton.mpr rfl)

theorem branchGives_ret : Claims.branchGives (.ret e) s e (lowSlot 25 0) (some (2, (Claims.reg s e 31).toNat % 16384)) := by
  obtain ⟨hlt, hop, -⟩ := lowSlot_fields (op := 25) (v := 0) (by decide) (by decide)
  exact branchGives_of_cond (p := true) hlt (by omega) (by omega) (by omega) (fun d => d.doAlu_ret _ _ _ hop) hr fun _ _ => rfl

theorem branchGives_rete : Claims.branchGives (.rete e) s e (lowSlot 28 0) (some (2, 0x4000)) := by
  obtain ⟨hlt, hop, -⟩ := lowSlot_fields (op := 28) (v := 0) (by decide) (by decide)
  exact branchGives_of_cond (p := true) hlt (by omega) (by omega) (by omega) (fun d => d.doAlu_rete _ _ _ hop) hr fun _ _ => rfl

end Branch

end Sys2Proof
end

section
/-! WAITS (R147, R161). -/

namespace Sys2Proof

open Sys2Proof.Machine

namespace Machine

/-! ### WAITS (R161) -/

/-- The slot assignment is told by the registers DV_SLOT. -/
theorem Device.slotMask_of_regs {d d' : Device} {e : Nat} {R : Nat → Prop} (h : sameRegs d d' R) (hA : ¬ R (DV_SLOT_A e))
    (hB : ¬ R (DV_SLOT_B e)) : d'.slotMask e = d.slotMask e := by
  have haxis (j : Nat) : d'.slotAxis e j = d.slotAxis e j := by
    simp only [Device.slotAxis, Device.rdN, h _ hA, h _ hB]
  simp only [Device.slotMask, haxis]

/-- What the MAC slot does leaves alone which slots WAITS may return. -/
theorem Device.waitable_summed (d : Device) (e : Nat) (w : BitVec 64) : (d.summed e w).waitable e = d.waitable e := by
  have hsum := Frame.summed d e w
  have hmask : (d.summed e w).slotMask e = d.slotMask e := Device.slotMask_of_regs hsum.regs
    (by simp only [shownReg, DV_SLOT_A, DV_STATUS, DV_STICKY]; omega) (by simp only [shownReg, DV_SLOT_B, DV_STATUS, DV_STICKY]; omega)
  have hclk : (d.summed e w).clk = d.clk := congrArg (fun x => x.2.clk) hsum.block
  simp only [Device.waitable, hmask, hclk, hsum.part Engine.beatOf fun _ => rfl, hsum.part Engine.ready fun _ => rfl,
    hsum.part Engine.returned fun _ => rfl]

/-- The lowest slot of a mask. -/
theorem find?_lowest {m j : Nat} (hj : j < 8) (hset : bit m j = true) (hlow : ∀ i < j, bit m i = false) :
    (List.range 8).find? (fun j => bit m j) = some j := by
  rw [List.find?_range_eq_some]
  exact ⟨hset, List.mem_range.mpr hj, fun i hi => by rw [hlow i hi]; rfl⟩

section Waits
variable {d : Device} {e : Nat} {w : BitVec 64} (hop : aluOp (aluOf w) = 26)
include hop

theorem Device.eng_calculated_waits_none (h : d.waitable e = 0) : (d.calculated e w).eng e =
    { (d.summed e w).eng e with
      flight := ((d.summed e w).eng e).flight ++ [⟨((d.summed e w).eng e).issued + 1, (d.eng e).bank, bits (aluOf w) 10 5, 8⟩] } := by
  have hnone : (List.range 8).find? (fun j => bit 0 j) = none := rfl
  rw [Device.calculated, Device.doAlu_waits _ _ _ _ hop, Device.waitable_summed, h, hnone]
  exact Device.eng_fly ..

theorem Device.eng_calculated_waits {j : Nat} (hj : j < 8) (hset : bit (d.waitable e) j = true)
    (hlow : ∀ i < j, bit (d.waitable e) i = false) : (d.calculated e w).eng e =
    { (d.summed e w).eng e with
      returned := setBit ((d.summed e w).eng e).returned j true
      flight := ((d.summed e w).eng e).flight ++ [⟨((d.summed e w).eng e).issued + 1, (d.eng e).bank,
        bits (aluOf w) 10 5, (j : Int)⟩] } := by
  rw [Device.calculated, Device.doAlu_waits _ _ _ _ hop, Device.waitable_summed, find?_lowest hj hset hlow]
  exact (Device.eng_fly ..).trans (by rw [Device.eng_setEng_same])

end Waits

/-- EXEC of an engine that waits in WAITS. -/
theorem Device.exec_engShow_waits {d : Device} {e : Nat} {w : BitVec 64} (hw : (d.eng e).waiting = some w) (hop : aluOp (aluOf w) = 26)
    (hlive : d.get (DV_STATUS_EXEC e) ≠ exHALTED) : (d.engShow e).get (DV_STATUS_EXEC e) = exWSLOT := by
  unfold Device.engShow
  extract_lets s x
  have hx : x = exWSLOT := by
    simp only [x, if_neg hlive, show s.waiting = some w from hw, if_pos hop]
  rw [Device.get_put_bits _ _ _ _ (.inl (by simp only [DV_STATUS_EXEC, DV_STATUS_BANK]; decide))
    (by simp only [DV_STATUS_EXEC]; decide),
    Device.get_put_same _ _ _ (by simp only [DV_STATUS_EXEC]; decide), hx]
  rfl

end Machine

/-! ### Control operations in their words -/

section Waits
variable {s : State} {e : Fin 28} {c : Instr} {w : BitVec 64} {rd : Nat} (hop : aluOp (aluOf w) = 26)
  (hr : s.dev.inReset = false) (hc : exec c s = .next (s.onDev fun d => d.issue e w))
include hop hr hc

/-- WAITS returns the lowest slot that it may, or 8 (R161). -/
theorem leads_waits_returns (hdst : bits (aluOf w) 10 5 = rd) (hi : Claims.issues s.dev e w) :
    leads c s (fun d =>
      ((s.dev.engLand e).waitable e = 0 → Claims.lands s e d 1 rd 8 ∧ (d.eng e).returned = (Claims.atIssue s.dev e).returned) ∧
      (∀ j, j < 8 → bit ((s.dev.engLand e).waitable e) j = true → (∀ i < j, bit ((s.dev.engLand e).waitable e) i = false) →
        Claims.lands s e d 1 rd (j : Int) ∧ (d.eng e).returned = setBit (Claims.atIssue s.dev e).returned j true)) := by
  have hsound := sound_engLand hi.1
  have hb := Device.branch_eq_none (haltCode_of_issues hi) (by rw [hop]; rfl)
  have hissued : (((s.dev.engLand e).summed e w).eng e).issued = (Claims.atIssue s.dev e).issued :=
    (Frame.summed _ e _).part Engine.issued fun _ => rfl
  have hreturned : (((s.dev.engLand e).summed e w).eng e).returned = (Claims.atIssue s.dev e).returned :=
    (Frame.summed _ e _).part Engine.returned fun _ => rfl
  have hkept := part_engIssue w hsound hb (by omega) Engine.returned (fun _ => rfl) fun _ => rfl
  refine leads_issue hc hr hi ⟨fun h0 => ⟨flight_engIssue _ hsound ?_, ?_⟩, fun j hj hset hlow => ⟨flight_engIssue _ hsound ?_, ?_⟩⟩
  · rw [Device.eng_calculated_waits_none hop h0, hissued, hdst]
    exact List.mem_append_right _ (List.mem_singleton.mpr rfl)
  · rw [hkept, Device.eng_calculated_waits_none hop h0]
    exact hreturned
  · rw [Device.eng_calculated_waits hop hj hset hlow, hissued, hdst]
    exact List.mem_append_right _ (List.mem_singleton.mpr rfl)
  · rw [hkept, Device.eng_calculated_waits hop hj hset hlow, ← hreturned]

/-- WAITS that may not issue yet waits (R147). -/
theorem leads_waits_waits (hsound : Claims.sound s.dev e) (hlive : s.dev.engLive e = true) (hevent : s.dev.eventDue e = false)
    (hfetch : s.dev.fetches e w = true) (hhalt : (s.dev.engLand e).haltCode e w = 0) (hcan : (s.dev.engLand e).engCan e w = false) :
    leads c s (fun d => d.eng e = { Claims.atIssue s.dev e with waiting := some w } ∧ d.get (DV_STATUS_EXEC e) = exWSLOT) := by
  refine leads_waiting hc hr hsound hlive hevent hfetch hhalt hcan ⟨Device.eng_holdWord, ?_⟩
  refine Device.exec_engShow_waits (w := w) (by rw [Device.eng_setEng_same]) hop ?_
  have hexec : (s.dev.engLand e).get (DV_STATUS_EXEC e) = s.dev.get (DV_STATUS_EXEC e) := (Frame.engLand s.dev e).regs.get <| by
    simp only [DV_STATUS_EXEC, DV_STATUS, DV_STICKY]
    omega
  simp only [Device.engLive, Bool.and_eq_true, bne_iff_ne] at hlive
  obtain ⟨⟨⟨-, hhalted⟩, -⟩, -⟩ := hlive
  exact hexec ▸ hhalted

end Waits

end Sys2Proof
end

section
/-! EMASK (R152) and CLRF (R134). -/

namespace Sys2Proof

open Sys2Proof.Machine

namespace Machine

/-! ### EMASK (R152) -/

section Emask
variable (d : Device) (e : Nat)

theorem Device.emask_engShow : (d.engShow e).get (DV_STATUS_EMASK e) = d.get (DV_STATUS_EMASK e) := by
  have hput (d : Device) {f : Fld} (v : Nat) (h : f.lo + f.width ≤ 4 ∨ 5 ≤ f.lo) :
      (d.put f v).get (DV_STATUS_EMASK e) = d.get (DV_STATUS_EMASK e) := by
    refine Device.get_put_bits _ _ _ _ ?_ ?_ <;> simp only [DV_STATUS_EMASK] <;> omega
  unfold Device.engShow
  extract_lets s x
  exact (hput _ _ (.inr (by simp only [DV_STATUS_BANK]; decide))).trans (hput _ _ (.inl (by simp only [DV_STATUS_EXEC]; decide)))

theorem Device.emask_progStart : (d.progStart e).get (DV_STATUS_EMASK e) = d.get (DV_STATUS_EMASK e) := by
  unfold Device.progStart
  extract_lets n d1
  exact Device.emask_engShow _ e

theorem Device.emask_engAdvance (b : Option (Nat × Nat)) : (d.engAdvance e b).get (DV_STATUS_EMASK e) = d.get (DV_STATUS_EMASK e) := by
  unfold Device.engAdvance
  extract_lets step
  split
  · split
    · rfl
    · split
      · exact Device.emask_progStart _ e
      · rfl
  · rfl
  · rfl

/-- A word's end leaves EMASK alone. -/
theorem Device.emask_engIssue {d : Device} {w : BitVec 64} (hop : aluOp (aluOf w) ≠ 27) :
    (d.engIssue e w).get (DV_STATUS_EMASK e) = (d.moved e w).get (DV_STATUS_EMASK e) := by
  rw [Device.engIssue_eq, if_neg hop, Device.emask_engShow]
  exact Device.emask_engAdvance _ _ _

section Calculated
variable {d e} {w : BitVec 64} (hop : aluOp (aluOf w) = 29)
include hop

theorem Device.flag_calculated_emask : ((d.calculated e w).eng e).flag (d.eng e).bank 9 = bit (aluOf w) 0 := by
  have hflag (x : Device) (b : Nat) (v : Bool) : ((x.setEng e fun s => s.setFlag b 9 v).eng e).flag b 9 = v := by
    rw [Device.eng_setEng_same]
    exact Engine.flag_setFlag_same _ b 9 v (by decide) (by decide)
  rw [Device.calculated, Device.doAlu_emask _ _ _ _ hop]
  split
  · exact hflag ..
  · exact hflag ..

theorem Device.emask_calculated (hbank : (d.eng e).bank = 0) : (d.calculated e w).get (DV_STATUS_EMASK e) = b2n (bit (aluOf w) 0) := by
  rw [Device.calculated, Device.doAlu_emask _ _ _ _ hop, if_pos hbank, Device.get_put_same _ _ _
    (by simp only [DV_STATUS_EMASK]; decide)]
  exact Nat.mod_eq_of_lt (b2n_lt _)

end Calculated

end Emask

/-! ### CLRF (R134) -/

section Clear
variable (bank : Nat) (l : List Nat)

theorem Engine.flag_foldl_clear_other {b j : Nat} (h : ¬ (4 ≤ j ∧ j - 4 ∈ l)) : ∀ s : Engine,
    (l.foldl (fun s i => s.setFlag bank (4 + i) false) s).flag b j = s.flag b j := by
  induction l with
  | nil => exact fun _ => rfl
  | cons i l ih =>
    intro s
    have hi : ¬ (b = bank ∧ j = 4 + i) := fun hj => h ⟨by omega, by simp [hj.2]⟩
    exact (ih (fun hj => h ⟨hj.1, List.mem_cons_of_mem _ hj.2⟩) _).trans (s.flag_setFlag_other bank (4 + i) false hi)

/-- A flag cleared among others, of which each has its own bit. -/
theorem Engine.flag_foldl_clear {i : Nat} (hi : i ∈ l) (hlt : i < 4) : ∀ s : Engine,
    (l.foldl (fun s i => s.setFlag bank (4 + i) false) s).flag bank (4 + i) = false := by
  induction l with
  | nil => exact absurd hi List.not_mem_nil
  | cons k l ih =>
    intro s
    by_cases hl : i ∈ l
    · exact ih hl _
    · obtain rfl : i = k := (List.mem_cons.mp hi).resolve_right hl
      refine (Engine.flag_foldl_clear_other bank l (by simpa using hl) _).trans ?_
      exact s.flag_setFlag_same bank (4 + i) false (by omega) (by omega)

end Clear

theorem mem_onesOf {n i : Nat} : i ∈ onesOf 4 n ↔ i < 4 ∧ bit n i = true := by
  rw [onesOf, List.mem_filter, List.mem_range]

end Machine

section Words
variable {s : State} {e : Fin 28} {c : Instr} {w : BitVec 64} (hr : s.dev.inReset = false)
  (hc : exec c s = .next (s.onDev fun d => d.issue e w)) (hi : Claims.issues s.dev e w)
include hr hc hi

/-- EMASK writes its bank's mask (R152). -/
theorem leads_emask {m : Bool} (hop : aluOp (aluOf w) = 29) (hm : bit (aluOf w) 0 = m) :
    leads c s (fun d => (d.eng e).flag (Claims.atIssue s.dev e).bank 9 = m ∧
      ((Claims.atIssue s.dev e).bank = 0 → d.has (DV_STATUS_EMASK e) = m)) := by
  have hsound := sound_engLand hi.1
  refine leads_issue hc hr hi ⟨?_, fun hbank => ?_⟩
  · rw [flag_engIssue w hsound _ (by decide) (by decide), ← hm]
    exact Device.flag_calculated_emask hop
  · have hmove : ((s.dev.engLand e).moved e w).get (DV_STATUS_EMASK e) = ((s.dev.engLand e).calculated e w).get (DV_STATUS_EMASK e) :=
      (Moves.calculated_moved w hsound).regs.get <| by
        simp only [DV_STATUS_EMASK, moveReg, DV_STATUS, DV_HB, queueReg]
        omega
    rw [Device.has, Device.emask_engIssue e (by omega), hmove, Device.emask_calculated hop hbank, hm]
    cases m <;> rfl

/-- A word with CLRF alone clears the flags named (R134). -/
theorem leads_clrf {mask : Nat} (hop : aluOp (aluOf w) = 30) (hmac : macOp (macOf w) = 0) (hmv : mvOp (mvOf w) = 0)
    (hmask : ∀ i < 4, bit (aluOf w) i = bit mask i) (hb : (Claims.atIssue s.dev e).branch = none) :
    leads c s (fun d => (∀ i < 4, bit mask i = true → (d.eng e).flag (Claims.atIssue s.dev e).bank (4 + i) = false) ∧
      Claims.quietWord s e d (fun i => 4 ≤ i ∧ i < 8 ∧ bit mask (i - 4) = true)) := by
  have hmoved : (s.dev.engLand e).moved e w = (s.dev.engLand e).doClrf e (Claims.atIssue s.dev e).bank (aluOf w) := by
    rw [Device.moved_nop hmv, Device.calculated, Device.doAlu_none _ _ _ _ (.inr hop), Device.summed, Device.doMac_nop _ _ _ _ hmac]
    rfl
  have heng : ((s.dev.engLand e).moved e w).eng e =
      (onesOf 4 (aluOf w)).foldl (fun x i => x.setFlag (Claims.atIssue s.dev e).bank (4 + i) false) (Claims.atIssue s.dev e) := by
    rw [hmoved, Device.doClrf, if_pos hop]
    exact Device.eng_setEng_same ..
  have hclrf : Frame Engine.offFlags (Device.besides · e) (shownReg e) e (s.dev.engLand e) ((s.dev.engLand e).moved e w) :=
    hmoved ▸ Frame.doClrf ..
  have h27 : aluOp (aluOf w) ≠ 27 := by omega
  refine leads_issue hc hr hi ⟨fun i h4 hbit => ?_,
    quietWord_engIssue h27 hb (hclrf.mono (coarser fun _ => rfl) (fun _ _ => id) fun _ => id) ?_ fun b i _ hset => ?_⟩
  · rw [Device.eng_engIssue_next hb h27, heng]
    exact Engine.flag_foldl_clear _ _ (mem_onesOf.mpr ⟨h4, by rw [hmask i h4, hbit]⟩) h4 _
  · rw [hclrf.part Engine.flight fun _ => rfl]
    exact fun _ => id
  · rw [heng]
    refine Engine.flag_foldl_clear_other _ _ (fun h => hset ?_) _
    obtain ⟨hlo, hmem⟩ := h
    obtain ⟨hlt, hbit⟩ := mem_onesOf.mp hmem
    exact ⟨hlo, by omega, by rw [← hmask _ hlt, hbit]⟩

end Words

end Sys2Proof
end

section
/-! END (R164) and the words without operation; the control operations of a beat program. -/

namespace Sys2Proof

open Sys2Proof.Machine

namespace Machine

/-! ### END (R164) -/

/-- A program starts: what it leaves of the engine, and where it starts. -/
theorem Device.eng_progStart (d : Device) (e : Nat) :
    ((d.progStart e).eng e).wire = (d.eng e).wire ∧ ((d.progStart e).eng e).ends = (d.eng e).ends ∧
    ((d.progStart e).eng e).running = true ∧ ((d.progStart e).eng e).startDue = false ∧
    ((d.progStart e).eng e).beatOf = d.clk.beat ∧ ((d.progStart e).eng e).pc = 0 := by
  unfold Device.progStart Device.setDms
  extract_lets n d1
  rw [Device.eng_engShow, Device.eng_setEng_same, show d1.eng e = _ from Device.eng_setEng_same ..]
  exact ⟨rfl, rfl, rfl, rfl, rfl, rfl⟩

/-- A program ends, and one that is due starts. -/
theorem Device.eng_progEnd {d : Device} {e : Nat} (h : d.injPending 2 e 2 = false) :
    let s := d.eng e
    let t := (d.progEnd e).eng e
    t.wire = !s.wire ∧ t.ends = (if d.hbInTime s.beatOf then (s.beatOf :: s.ends).take 2 else s.ends) ∧ t.running = s.startDue ∧
      t.startDue = false ∧ (s.startDue = true → t.beatOf = d.clk.beat ∧ t.pc = 0) := by
  intro s t
  unfold t Device.progEnd
  extract_lets d1 d2
  have hnone : d1.injTake 2 e 2 = none := Device.injTake_eq_none h
  have heng : d2.eng e = d1.eng e ∧ d2.clk = d.clk := by
    unfold d2 Device.detect
    rw [hnone]
    split <;> exact ⟨rfl, rfl⟩
  obtain ⟨hown, hclk⟩ := heng
  have hended : d2.eng e = _ := hown.trans (Device.eng_setEng_same ..)
  by_cases hdue : s.startDue = true
  · rw [if_pos hdue]
    obtain ⟨hwire, hends, hrun, hstart, hbeat, hpc⟩ := d2.eng_progStart e
    rw [hended] at hwire hends
    exact ⟨hwire, hends, hrun.trans hdue.symm, hstart, fun _ => ⟨hbeat.trans (by rw [hclk]), hpc⟩⟩
  · rw [if_neg hdue, hended]
    exact ⟨rfl, rfl, (Bool.eq_false_of_not_eq_true hdue).symm, Bool.eq_false_of_not_eq_true hdue, fun h => absurd h hdue⟩

/-- The time for a heartbeat is told by the clock and CV_CTRL. -/
theorem Device.hbInTime_of_regs {d d' : Device} {R : Nat → Prop} (hclk : d'.clk = d.clk) (h : sameRegs d d' R)
    (hR : ¬ R CV_CTRL) (n : Nat) :
    d'.hbInTime n = d.hbInTime n := by
  have hlate : d'.hbLate = d.hbLate := by rw [Device.hbLate, hclk, h.get (f := CV_CTRL_HB_LATE) hR, Device.hbLate]
  rw [Device.hbInTime, hlate, hclk, Device.hbInTime]

end Machine

section Words
variable {s : State} {e : Fin 28} {c : Instr} {w : BitVec 64} (hr : s.dev.inReset = false)
  (hc : exec c s = .next (s.onDev fun d => d.issue e w)) (hi : Claims.issues s.dev e w)
include hr hc hi

/-- A word whose slots do nothing is quiet. -/
theorem leads_still (hmoved : (s.dev.engLand e).moved e w = s.dev.engLand e) (hop : aluOp (aluOf w) ≠ 27)
    (hb : (Claims.atIssue s.dev e).branch = none) : leads c s (Claims.quietWord s e · (fun _ => False)) := by
  refine leads_issue hc hr hi (quietWord_engIssue hop hb ?_ ?_ ?_)
  · rw [hmoved]
    exact .refl _
  · rw [hmoved]
    exact fun _ => id
  · rw [hmoved]
    exact fun _ _ _ _ => rfl

/-- A word without operations is quiet. -/
theorem leads_nop (hmac : macOp (macOf w) = 0) (halu : aluOp (aluOf w) = 0) (hmv : mvOp (mvOf w) = 0)
    (hb : (Claims.atIssue s.dev e).branch = none) : leads c s (Claims.quietWord s e · (fun _ => False)) :=
  leads_still hr hc hi (by rw [Device.moved_nop hmv, Device.calculated_nop hmac halu]) (by omega) hb

/-- END ends the program, whatever else its word does (R164). -/
theorem leads_end (hop : aluOp (aluOf w) = 27) :
    let a := Claims.atIssue s.dev e
    leads c s (fun d => (d.eng e).wire = !a.wire ∧
      (d.eng e).ends = (if s.dev.hbInTime a.beatOf then (a.beatOf :: a.ends).take 2 else a.ends) ∧ (d.eng e).running = a.startDue ∧
      (d.eng e).startDue = false ∧ (a.startDue = true → (d.eng e).beatOf = s.dev.clk.beat ∧ (d.eng e).pc = 0)) := by
  intro a
  have hland := Frame.engLand s.dev e
  have hcalc := Frame.calculated (s.dev.engLand e) e w
  have hmove := Moves.calculated_moved w (sound_engLand hi.1)
  have hb := Device.branch_eq_none (haltCode_of_issues hi) (by rw [hop]; rfl)
  have hadv : (s.dev.engLand e).advanced e w = ((s.dev.engLand e).moved e w).setEng e Engine.next := by
    rw [Device.advanced, hb]
    rfl
  have hown {α : Type} (q : Engine → α) (hmv : ∀ x, q x.offMove = q x) (hcalc' : ∀ x, q x.offCalc = q x)
      (hn : ∀ x, q (Engine.next x) = q x) :
      q (((s.dev.engLand e).advanced e w).eng e) = q a := by
    rw [hadv, Device.eng_setEng_same, hn]
    exact (hmove.part q hmv).trans (hcalc.part q hcalc')
  have hclk : ((s.dev.engLand e).advanced e w).clk = s.dev.clk := by
    rw [hadv]
    exact hmove.block.trans (congrArg (fun x => x.2.clk) (hcalc.block.trans hland.block))
  have hregs : sameRegs s.dev ((s.dev.engLand e).advanced e w) (fun x => shownReg e x ∨ moveReg e x) := by
    rw [hadv]
    exact ((hland.regs.mono fun _ h => .inl (.inr h)).trans (hcalc.regs.mono fun _ => .inl)).trans (hmove.regs.mono fun _ => .inr)
  have hinj : ((s.dev.engLand e).advanced e w).injPending 2 e 2 = false :=
    (Device.injPending_of_regs hregs fun h => h.elim (not_shownReg_injStatus e 2 e 2) (not_moveReg_injStatus e 2 e 2)).trans
      (injPending_steps hi.1)
  have htime (n : Nat) : ((s.dev.engLand e).advanced e w).hbInTime n = s.dev.hbInTime n := Device.hbInTime_of_regs hclk hregs (by
    simp only [CV_CTRL, shownReg, moveReg, DV_STATUS, DV_STICKY, DV_HB, queueReg]
    omega) n
  have hended := Device.eng_progEnd hinj
  simp only [htime, hclk, hown Engine.wire (fun _ => rfl) (fun _ => rfl) fun _ => rfl,
    hown Engine.ends (fun _ => rfl) (fun _ => rfl) fun _ => rfl, hown Engine.beatOf (fun _ => rfl) (fun _ => rfl) fun _ => rfl,
    hown Engine.startDue (fun _ => rfl) (fun _ => rfl) fun _ => rfl] at hended
  refine leads_issue hc hr hi ?_
  rw [Device.engIssue_eq, if_pos hop, Device.eng_engShow]
  exact hended

end Words

/-- Settles O18: each control operation by what its ALU slot does, which the rest of its word keeps. -/
theorem controlFlowOfABeatProgram : Obligations.ControlFlowOfABeatProgram := by
  unfold Obligations.ControlFlowOfABeatProgram
  intro s e hr a z lt
  refine ⟨fun t => ?_, branchGives_ret hr, branchGives_rete hr, fun rd mac mv => ?_, fun m mac mv hi => ?_,
    fun mask hi hb => ?_, fun hi hb => ?_, fun k x y clr neg hi hb => ?_, fun mac mv hi => ?_⟩
  · obtain ⟨hbra, hbeq, hbne, hblt, hbge⟩ := branchGives_branches (e := e) hr t
    obtain ⟨hcall, hlands⟩ := branchGives_call (e := e) hr t
    exact ⟨hbra, hbeq, hbne, hblt, hbge, hcall, hlands⟩
  · intro w open'
    obtain ⟨hlt, hop, hrd, -⟩ := aluSlot_fields (op := 26) (by decide) rd 0 0
    have halu : aluOf w = aluSlot 26 rd 0 0 := aluOf_wordOf mac.isLt hlt mv.isLt
    have hop' : aluOp (aluOf w) = 26 := by rw [halu]; exact hop
    exact ⟨fun hi => leads_waits_returns hop' hr rfl (by rw [halu]; exact hrd) hi, leads_waits_waits hop' hr rfl⟩
  · obtain ⟨hlt, hop, hbits⟩ := lowSlot_fields (op := 29) (v := b2n m) (by decide) (Nat.lt_of_lt_of_le (b2n_lt m) (by decide))
    have halu : aluOf (wordOf mac.toNat (lowSlot 29 (b2n m)) mv.toNat) = lowSlot 29 (b2n m) := aluOf_wordOf mac.isLt hlt mv.isLt
    refine leads_emask (w := wordOf mac.toNat (lowSlot 29 (b2n m)) mv.toNat) hr rfl hi (by rw [halu, hop]) ?_
    rw [halu, hbits 0 (by decide)]
    cases m <;> rfl
  · obtain ⟨hlt, hop, hbits⟩ := lowSlot_fields (op := 30) (v := mask.toNat) (by decide) (Nat.lt_of_lt_of_le mask.isLt (by decide))
    have halu : aluOf (wordOf 0 (lowSlot 30 mask.toNat) 0) = lowSlot 30 mask.toNat := aluOf_wordOf (by decide) hlt (by decide)
    have hmac : macOf (wordOf 0 (lowSlot 30 mask.toNat) 0) = 0 := macOf_wordOf (by decide) hlt (by decide)
    have hmv : mvOf (wordOf 0 (lowSlot 30 mask.toNat) 0) = 0 := mvOf_wordOf (by decide) hlt (by decide)
    exact leads_clrf (w := wordOf 0 (lowSlot 30 mask.toNat) 0) hr rfl hi (by rw [halu, hop]) (by rw [hmac]; rfl) (by rw [hmv]; rfl)
      (fun i hi => by rw [halu, hbits i (by omega)]) hb
  · exact ⟨leads_nop hr rfl hi rfl rfl rfl hb, leads_nop hr rfl hi rfl rfl rfl hb⟩
  · obtain ⟨hlt, hop, -⟩ := macSlot_fields (op := 0) (by decide) k x y clr neg
    have hmac : macOf (wordOf (macSlot 0 k x y (b2n clr) (b2n neg)) 0 0) = macSlot 0 k x y (b2n clr) (b2n neg) :=
      macOf_wordOf hlt (by decide) (by decide)
    have halu : aluOf (wordOf (macSlot 0 k x y (b2n clr) (b2n neg)) 0 0) = 0 := aluOf_wordOf hlt (by decide) (by decide)
    have hmv : mvOf (wordOf (macSlot 0 k x y (b2n clr) (b2n neg)) 0 0) = 0 := mvOf_wordOf hlt (by decide) (by decide)
    exact leads_nop (w := wordOf (macSlot 0 k x y (b2n clr) (b2n neg)) 0 0) hr rfl hi (by rw [hmac, hop]) (by rw [halu]; rfl)
      (by rw [hmv]; rfl) hb
  · obtain ⟨hlt, hop, -⟩ := lowSlot_fields (op := 27) (v := 0) (by decide) (by decide)
    have halu : aluOf (wordOf mac.toNat (lowSlot 27 0) mv.toNat) = lowSlot 27 0 := aluOf_wordOf mac.isLt hlt mv.isLt
    exact leads_end (w := wordOf mac.toNat (lowSlot 27 0) mv.toNat) hr rfl hi (by rw [halu, hop])

end Sys2Proof
end

section
/-! The operations of the move slot that name no unit, and the data memory words that loads read and stores write (R137, R142, R143). -/

namespace Sys2Proof

open Sys2Proof.Machine

namespace Machine

/-! ### Loads, stores and register moves (R137, R142, R143) -/

/-- How many words an access of an operation has. -/
def accessWords (op : Nat) : Nat := if op = 1 ∨ op = 4 then 1 else if op = 2 ∨ op = 5 then 2 else 4

section Ops
variable (d : Device) (e bank : Nat) {v : Nat} (s : Engine)

theorem Device.doMove_load (h0 : mvOp v ≠ 0) (h3 : mvOp v ≤ 3) : d.doMove e bank v s =
    (d.loadTo e bank (align (accessWords (mvOp v)) (bits v 14 5)) (s.addrs bank (bits v 11 3) (accessWords (mvOp v)))).setEng e
      fun s => s.bump bank (bits v 11 3) (toS 8 (bits v 3 8)) := by
  unfold Device.doMove
  extract_lets
  rw [if_neg h0, if_pos h3]
  rfl

theorem Device.doMove_store (h3 : 3 < mvOp v) (h6 : mvOp v ≤ 6) : d.doMove e bank v s =
    (((s.addrs bank (bits v 11 3) (accessWords (mvOp v))).zip (List.range (accessWords (mvOp v)))).foldl
      (fun d x => d.setDm e x.1 (s.reg bank (align (accessWords (mvOp v)) (bits v 14 5) + x.2))) d).setEng e
      fun s => s.bump bank (bits v 11 3) (toS 8 (bits v 3 8)) := by
  unfold Device.doMove
  extract_lets
  rw [if_neg (by omega), if_neg (by omega), if_pos h6]
  rfl

/-- The pointers after LDXY: one that serves both loads moves once. -/
def Engine.bumpTwo (s : Engine) (bank a b : Nat) (ia ib : Int) : Engine :=
  if a = b then s.bump bank a ia else (s.bump bank a ia).bump bank b ib

theorem Device.doMove_ldxy (h : mvOp v = 7) : d.doMove e bank v s =
    ((d.loadTo e bank (4 * bits v 16 3) (s.addrs bank (bits v 13 3) 4)).loadTo e bank (4 * bits v 10 3)
      (s.addrs bank (bits v 7 3) 4)).setEng e
      fun s => s.bumpTwo bank (bits v 13 3) (bits v 7 3) (incCode (bits v 4 3)) (incCode (bits v 1 3)) := by
  simp only [Device.doMove, h]
  rfl

theorem Device.doMove_ldi (h : mvOp v = 8) : d.doMove e bank v s = d.fly e 1 bank (bits v 14 5) (toS 14 (bits v 0 14)) := by
  simp only [Device.doMove, h]
  rfl

/-- A pointer, base or length register written. -/
def Engine.setPtr (s : Engine) (bank cl k x : Nat) : Engine :=
  if cl = 0 then { s with p := s.p.upd 0 (bank * 8 + k) fun _ => x }
  else if cl = 1 then { s with b := s.b.upd 0 k fun _ => x }
  else { s with n := s.n.upd 0 k fun _ => x }

theorem Device.doMove_mva (h : mvOp v = 9) : d.doMove e bank v s =
    d.setEng e fun x => x.setPtr bank (bits v 17 2) (bits v 14 3) ((s.reg bank (bits v 9 5)).toNat % 16384) := by
  simp only [Device.doMove, h]
  rfl

/-- A pointer, base or length register read. -/
def Engine.getPtr (s : Engine) (bank cl k : Nat) : Nat :=
  if cl = 0 then s.p.pick 0 (bank * 8 + k) else if cl = 1 then s.b.pick 0 k else s.n.pick 0 k

theorem Device.doMove_mvg (h : mvOp v = 10) : d.doMove e bank v s =
    d.fly e 1 bank (bits v 14 5) (s.getPtr bank (bits v 12 2) (bits v 9 3) : Nat) := by
  simp only [Device.doMove, h]
  rfl

end Ops

/-! Loads -/

theorem zip_range_map {α : Type} (f : Nat → α) (n : Nat) :
    ((List.range n).map f).zip (List.range n) = (List.range n).map fun i => (f i, i) := by
  have h := @List.zip_map' _ _ _ f id (List.range n)
  rwa [List.map_id] at h

section Load
variable {e : Nat}

/-- A load keeps everything but what it sends on its way. -/
theorem Keeps.loadTo {β : Type} {p : Engine → β} (hp : ∀ s fl, p { s with flight := fl } = p s) {R : Nat → Prop}
    (d : Device) (bank r : Nat) (as : List Nat) : Keeps p (Device.besides · e) R e d (d.loadTo e bank r as) :=
  Keeps.foldl (fun _ _ => .fly hp) _ d

/-- Each loaded word is on its way. -/
theorem flight_loads (bank r : Nat) (l : List (Nat × Nat)) : ∀ d : Device, Readable d e → ∀ x ∈ l,
    (⟨(d.eng e).issued + 2, bank, (r + x.2) % 32, ((d.eng e).dmem.pick 0 x.1).toInt⟩ : Flight) ∈
      ((l.foldl (fun d x => d.fly e 2 bank ((r + x.2) % 32) (d.dmVal e x.1).toInt) d).eng e).flight := by
  induction l with
  | nil => exact fun _ _ _ => nofun
  | cons y l ih =>
    intro d h x hx
    have hfly : Keeps (fun s => { s with flight := [] }) (Device.besides · e) (fun _ => False) e d
        (d.fly e 2 bank ((r + y.2) % 32) (d.dmVal e y.1).toInt) := .fly fun _ _ => rfl
    obtain rfl | hx := List.mem_cons.mp hx
    · have hrest := Keeps.foldl (p := fun s => s.dmem) (u := (Device.besides · e)) (R := fun _ => False) (e := e)
        (h := fun d x => d.fly e 2 bank ((r + x.2) % 32) (d.dmVal e x.1).toInt) (fun _ _ => .fly fun _ _ => rfl) l
      refine (hrest _).flight _ ?_
      rw [Device.eng_fly, h.dmVal]
      exact List.mem_append_right _ (List.mem_singleton.mpr rfl)
    · have hsame := ih _ (h.of_frame hfly.toFrame (fun _ => rfl) (fun _ => rfl) fun _ => id) x hx
      rwa [hfly.part Engine.issued fun _ => rfl, hfly.part Engine.dmem fun _ => rfl] at hsame

theorem flight_loadTo {d : Device} (h : Readable d e) (s : Engine) (bank bk r k : Nat) {n i : Nat} (hi : i < n) :
    (⟨(d.eng e).issued + 2, bank, (r + i) % 32,
      ((d.eng e).dmem.pick 0 (wordAddr (s.p.pick 0 (bk * 8 + k)) (s.b.pick 0 k) (s.n.pick 0 k) i)).toInt⟩ : Flight) ∈
      ((d.loadTo e bank r (s.addrs bk k n)).eng e).flight := by
  unfold Device.loadTo
  rw [Engine.addrs, List.length_map, List.length_range, zip_range_map]
  exact flight_loads bank r _ d h _ (List.mem_map.mpr ⟨i, List.mem_range.mpr hi, rfl⟩)

end Load

/-! Stores -/

/-- The words of an access stored one after another: each stands unless a later one has its address. -/
theorem dmem_stores (e : Nat) (f : Nat → Nat) (g : Nat → BitVec 32) (d : Device) (n : Nat) :
    let dmem := ((((List.range n).map fun i => (f i, i)).foldl (fun d x => d.setDm e x.1 (g x.2)) d).eng e).dmem
    (∀ i < n, (∀ j, i < j → j < n → f j ≠ f i) → dmem.pick 0 (f i) = g i) ∧
      ∀ x, (∀ i < n, x ≠ f i) → dmem.pick 0 x = (d.eng e).dmem.pick 0 x := by
  induction n with
  | zero => exact ⟨nofun, fun _ _ => rfl⟩
  | succ n ih =>
    intro dmem
    obtain ⟨hown, hother⟩ := ih
    have hstep : dmem = ((((List.range n).map fun i => (f i, i)).foldl (fun d x => d.setDm e x.1 (g x.2)) d).eng e).dmem.upd 0 (f n)
        fun _ => g n := by
      simp only [dmem, List.range_succ, List.map_append, List.foldl_append, List.map_cons, List.map_nil, List.foldl_cons,
        List.foldl_nil]
      exact congrArg Engine.dmem (Device.eng_setEng_same ..)
    constructor
    · intro i hi hlater
      rw [hstep]
      by_cases hin : i = n
      · rw [hin]
        exact Store.pick_upd_same ..
      · rw [Store.pick_upd_other _ _ _ _ _ (hlater n (by omega) (by omega)).symm]
        exact hown i (by omega) fun j hj hjn => hlater j hj (by omega)
    · intro x hx
      rw [hstep, Store.pick_upd_other _ _ _ _ _ (hx n (by omega))]
      exact hother x fun i hi => hx i (by omega)

end Machine
end Sys2Proof
end

section
/-! Loads and stores from their issue to the end of their word (R137, R142). -/

namespace Sys2Proof

open Sys2Proof.Machine

namespace Machine

theorem Engine.p_bump_same (s : Engine) (bank k : Nat) (inc : Int) : (s.bump bank k inc).p.pick 0 (bank * 8 + k) =
    stepPtr (s.p.pick 0 (bank * 8 + k)) (s.b.pick 0 k) (s.n.pick 0 k) inc :=
  Store.pick_upd_same s.p 0 (bank * 8 + k) fun p => stepPtr p (s.b.pick 0 k) (s.n.pick 0 k) inc

theorem Engine.p_bump_other (s : Engine) (bank k : Nat) (inc : Int) {j : Nat} (hj : j ≠ bank * 8 + k) :
    (s.bump bank k inc).p.pick 0 j = s.p.pick 0 j :=
  Store.pick_upd_other s.p 0 (bank * 8 + k) j (fun p => stepPtr p (s.b.pick 0 k) (s.n.pick 0 k) inc) hj

/-- An engine's pointers, with their bases and lengths. -/
def Engine.ptrs (s : Engine) : Store Nat × Store Nat × Store Nat := (s.p, s.b, s.n)

theorem Engine.of_ptrs {s t : Engine} (h : s.ptrs = t.ptrs) : s.p = t.p ∧ s.b = t.b ∧ s.n = t.n :=
  ⟨congrArg Prod.fst h, congrArg (fun y => y.2.1) h, congrArg (fun y => y.2.2) h⟩

/-- Pointers, general registers and accumulators after the move slot are those when the word has ended. -/
theorem part_moved_engIssue {d : Device} {e : Nat} (w : BitVec 64) (h : Claims.sound d e) {α : Type} (q : Engine → α)
    (hq : ∀ s, q s.offEnd = q s) : q ((d.engIssue e w).eng e) = q ((d.moved e w).eng e) :=
  (Keeps.moved_engIssue w h).part q hq

/-- General registers are as they were. -/
theorem g_engIssue {d : Device} {e : Nat} (w : BitVec 64) (h : Claims.sound d e) : ((d.engIssue e w).eng e).g = (d.eng e).g :=
  (part_moved_engIssue w h Engine.g fun _ => rfl).trans <|
    ((Moves.calculated_moved w h).part Engine.g fun _ => rfl).trans ((Frame.calculated d e w).part Engine.g fun _ => rfl)

/-- Work of a move slot that names no unit: it changes its engine alone. -/
abbrev OwnMoves (e : Nat) (d d' : Device) : Prop := Keeps Engine.offMove (Device.besides · e) (fun _ => False) e d d'

namespace OwnMoves
variable {e : Nat}

theorem setEng (d : Device) {f : Engine → Engine} (hp : ∀ s, (f s).offMove = s.offMove) (hfl : ∀ s, (f s).flight = s.flight) :
    OwnMoves e d (d.setEng e f) :=
  Keeps.setEng (d.besides_setEng e f) (hp _) (hfl _) (coarser (p := Engine.offMove) (q := Engine.sf) (fun _ => rfl) _ _ (hp _))

theorem fly (d : Device) (lat bank dst : Nat) (v : Int) : OwnMoves e d (d.fly e lat bank dst v) :=
  Keeps.fly fun _ _ => rfl

theorem load (d : Device) (bank : Nat) {v : Nat} (s : Engine) (h0 : mvOp v ≠ 0) (h3 : mvOp v ≤ 3) :
    OwnMoves e d (d.doMove e bank v s) := by
  rw [Device.doMove_load _ _ _ _ h0 h3]
  exact (Keeps.loadTo (fun _ _ => rfl) d _ _ _).trans (setEng _ (fun _ => rfl) fun _ => rfl)

theorem store (d : Device) (bank : Nat) {v : Nat} (s : Engine) (h3 : 3 < mvOp v) (h6 : mvOp v ≤ 6) :
    OwnMoves e d (d.doMove e bank v s) := by
  rw [Device.doMove_store _ _ _ _ h3 h6]
  have hword (d : Device) (a : Nat) (v : BitVec 32) : OwnMoves e d (d.setDm e a v) := setEng d (fun _ => rfl) fun _ => rfl
  exact (Keeps.foldl (fun d _ => hword d _ _) _ d).trans (setEng _ (fun _ => rfl) fun _ => rfl)

end OwnMoves

end Machine

/-! ### Accesses in their words -/

section Access
variable {s : State} {e : Fin 28} {w : BitVec 64}

/-- A word with a move operation alone that names no unit. -/
theorem moveAlone_of_ownMoves (hmac : macOp (macOf w) = 0) (halu : aluOp (aluOf w) = 0)
    (h : OwnMoves e (s.dev.engLand e) ((s.dev.engLand e).doMove e (Claims.atIssue s.dev e).bank (mvOf w) (Claims.atIssue s.dev e))) :
    Claims.moveAlone s e ((s.dev.engLand e).engIssue e w) := by
  have hmoved : (s.dev.engLand e).moved e w = _ := congrArg (fun d : Device => d.doMove e _ (mvOf w) _)
    (Device.calculated_nop hmac halu)
  refine moveAlone_engIssue (p := Engine.offMove) (by omega) (.mono ?_ (fun _ _ => id) (fun _ _ => id) fun _ => False.elim)
  rw [hmoved]
  exact h.toFrame

theorem ptrs_calculated : (((s.dev.engLand e).calculated e w).eng e).ptrs = (Claims.atIssue s.dev e).ptrs :=
  (Frame.calculated (s.dev.engLand e) e w).part Engine.ptrs fun _ => rfl

/-- An engine's pointers after a pointer has moved. -/
theorem bumped_of_eng {d : Device} {x : Engine} {k : Nat} {inc : Int} (hx : x.ptrs = (Claims.atIssue s.dev e).ptrs)
    (h : (d.eng e).p = (x.bump (Claims.atIssue s.dev e).bank k inc).p) : Claims.bumped s e d k inc := by
  obtain ⟨hp, hb, hn⟩ := Engine.of_ptrs hx
  unfold Claims.bumped
  rw [h]
  exact ⟨by rw [Engine.p_bump_same, hp, hb, hn], fun j hj => by rw [Engine.p_bump_other _ _ _ _ hj, hp]⟩

/-- The word's move slot is an access `op` of `n` words from register `r` on through pointer `k`. -/
structure IsAccess (w : BitVec 64) (op n r k : Nat) (inc : Int) : Prop where
  opcode : mvOp (mvOf w) = op
  words : accessWords op = n
  reg : bits (mvOf w) 14 5 = r
  ptr : bits (mvOf w) 11 3 = k
  step : toS 8 (bits (mvOf w) 3 8) = inc

variable {op n r k : Nat} {inc : Int} (hw : IsAccess w op n r k inc)
include hw

section Load
variable (h0 : op ≠ 0) (h3 : op ≤ 3)
include h0 h3

theorem moved_load (d : Device) : d.moved e w =
    ((d.calculated e w).loadTo e (d.eng e).bank (r / n * n) ((d.eng e).addrs (d.eng e).bank k n)).setEng e
      fun x => x.bump (d.eng e).bank k inc := by
  rw [Device.moved, Device.doMove_load _ _ _ _ (by rwa [hw.opcode]) (by rwa [hw.opcode]), hw.opcode, hw.words, hw.reg, hw.ptr,
    hw.step, align_eq]

/-- Loaded words are on their way when the word has ended, and the pointer has moved. -/
theorem load_engIssue (hfit : r / n * n + n ≤ 32) (hsound : Claims.sound s.dev e) :
    (∀ i < n, Claims.lands s e ((s.dev.engLand e).engIssue e w) 2 (r / n * n + i)
      ((Claims.atIssue s.dev e).dmem.pick 0 (Claims.wordAt s e k i)).toInt) ∧
    Claims.bumped s e ((s.dev.engLand e).engIssue e w) k inc := by
  have hland := sound_engLand hsound
  have hmoved := moved_load hw h0 h3 (e := e) (s.dev.engLand e)
  have heng := (congrArg (fun d => d.eng e) hmoved).trans (Device.eng_setEng_same ..)
  have hcalc := Frame.calculated (s.dev.engLand e) e w
  constructor
  · intro i hi
    have hfly := flight_loadTo (Readable.calculated w hland) (Claims.atIssue s.dev e) (Claims.atIssue s.dev e).bank
      (Claims.atIssue s.dev e).bank (r / n * n) k hi
    rw [hcalc.part Engine.issued fun _ => rfl, hcalc.part Engine.dmem fun _ => rfl, Nat.mod_eq_of_lt (by omega)] at hfly
    refine (Keeps.moved_engIssue w hland).flight _ ?_
    rw [heng]
    exact hfly
  · have hptrs := (Keeps.loadTo (e := e) (p := Engine.ptrs) (R := fun _ => False) (fun _ _ => rfl)
      ((s.dev.engLand e).calculated e w) (Claims.atIssue s.dev e).bank (r / n * n)
      ((Claims.atIssue s.dev e).addrs (Claims.atIssue s.dev e).bank k n)).own.trans ptrs_calculated
    refine bumped_of_eng hptrs ?_
    rw [part_moved_engIssue w hland Engine.p fun _ => rfl, heng]
    rfl

/-- A load leaves data memory as it was. -/
theorem dmem_load (hop : aluOp (aluOf w) ≠ 27) (hb : (Claims.atIssue s.dev e).branch = none) :
    (((s.dev.engLand e).engIssue e w).eng e).dmem = (Claims.atIssue s.dev e).dmem := by
  have heng := (congrArg (fun d => d.eng e) (moved_load hw h0 h3 (e := e) (s.dev.engLand e))).trans (Device.eng_setEng_same ..)
  have hsame := (Keeps.loadTo (e := e) (p := Engine.dmem) (R := fun _ => False) (fun _ _ => rfl)
      ((s.dev.engLand e).calculated e w) (Claims.atIssue s.dev e).bank (r / n * n)
      ((Claims.atIssue s.dev e).addrs (Claims.atIssue s.dev e).bank k n)).own
  rw [Device.eng_engIssue_next hb hop, heng]
  exact hsame.trans ((Frame.calculated (s.dev.engLand e) e w).part Engine.dmem fun _ => rfl)

end Load

section Store
variable (h3 : 3 < op) (h6 : op ≤ 6)
include h3 h6

theorem moved_store (d : Device) : d.moved e w =
    (((List.range n).map fun i =>
        (wordAddr ((d.eng e).p.pick 0 ((d.eng e).bank * 8 + k)) ((d.eng e).b.pick 0 k) ((d.eng e).n.pick 0 k) i, i)).foldl
      (fun x y => x.setDm e y.1 ((d.eng e).reg (d.eng e).bank (r / n * n + y.2))) (d.calculated e w)).setEng e
      fun x => x.bump (d.eng e).bank k inc := by
  rw [Device.moved, Device.doMove_store _ _ _ _ (by rwa [hw.opcode]) (by rwa [hw.opcode]), hw.opcode, hw.words, hw.reg, hw.ptr,
    hw.step, align_eq, Engine.addrs, zip_range_map]

/-- Stored words stand in data memory, the other words are as they were, and the pointer has moved. -/
theorem store_engIssue (hop : aluOp (aluOf w) ≠ 27) (hb : (Claims.atIssue s.dev e).branch = none) :
    let d := (s.dev.engLand e).engIssue e w
    (∀ i < n, (∀ j, i < j → j < n → Claims.wordAt s e k j ≠ Claims.wordAt s e k i) →
      (d.eng e).dmem.pick 0 (Claims.wordAt s e k i) = Claims.reg s e (r / n * n + i)) ∧
    (∀ x, (∀ i < n, x ≠ Claims.wordAt s e k i) → (d.eng e).dmem.pick 0 x = (Claims.atIssue s.dev e).dmem.pick 0 x) ∧
    Claims.bumped s e d k inc := by
  intro d
  have hmoved := moved_store hw h3 h6 (e := e) (s.dev.engLand e)
  have heng : ((s.dev.engLand e).moved e w).eng e = _ := (congrArg (fun d => d.eng e) hmoved).trans (Device.eng_setEng_same ..)
  have hcalc := Frame.calculated (s.dev.engLand e) e w
  obtain ⟨hwords, hothers⟩ := dmem_stores e (Claims.wordAt s e k) (fun i => Claims.reg s e (r / n * n + i))
    ((s.dev.engLand e).calculated e w) n
  have hd : d.eng e = (((s.dev.engLand e).moved e w).eng e).next := Device.eng_engIssue_next hb hop
  refine ⟨fun i hi hlater => ?_, fun x hx => ?_, ?_⟩
  · rw [hd, heng]
    exact hwords i hi hlater
  · rw [hd, heng]
    exact (hothers x hx).trans (by rw [hcalc.part Engine.dmem fun _ => rfl]; rfl)
  · have hptrs := (Keeps.foldl (p := Engine.ptrs) (u := (Device.besides · e)) (R := fun _ => False) (e := e)
      (h := fun (x : Device) (y : Nat × Nat) => x.setDm e y.1 (Claims.reg s e (r / n * n + y.2)))
      (fun x _ => Keeps.setEng (x.besides_setEng e _) rfl rfl rfl)
      ((List.range n).map fun i => (Claims.wordAt s e k i, i)) ((s.dev.engLand e).calculated e w)).own.trans ptrs_calculated
    refine bumped_of_eng hptrs ?_
    rw [hd, heng]
    rfl

end Store

end Access

end Sys2Proof
end

section
/-! Loads, stores and register moves in their words (R142, R143). -/

namespace Sys2Proof

open Sys2Proof.Machine


/-! ### Loads and stores in their words -/

/-- A word with a move operation alone. -/
theorem moveWord_fields {v : Nat} (hv : v < 2 ^ 24) :
    macOp (macOf (wordOf 0 0 v)) = 0 ∧ aluOp (aluOf (wordOf 0 0 v)) = 0 ∧ mvOf (wordOf 0 0 v) = v := by
  rw [macOf_wordOf (by decide) (by decide) hv, aluOf_wordOf (by decide) (by decide) hv, mvOf_wordOf (by decide) (by decide) hv]
  exact ⟨rfl, rfl, rfl⟩

section Accesses
variable {s : State} {e : Fin 28} {op n : Nat} {c : BitVec 20 → BitVec 20 → Instr} {r : Fin 32} {k : Fin 8} {inc : BitVec 8}

theorem isAccess_wordOf {m a : Nat} (hm : m < 2 ^ 20) (ha : a < 2 ^ 20) (hop : op < 32) (hn : accessWords op = n) :
    IsAccess (wordOf m a (ldSlot op r k inc.toNat)) op n r k inc.toInt := by
  obtain ⟨hlt, hmop, hreg, hk, hinc⟩ := ldSlot_fields hop r k inc
  have hmv : mvOf (wordOf m a (ldSlot op r k inc.toNat)) = ldSlot op r k inc.toNat := mvOf_wordOf hm ha hlt
  exact ⟨by rw [hmv, hmop], hn, by rw [hmv, hreg], by rw [hmv, hk], by rw [hmv, hinc, toS_toNat]⟩

variable (hr : s.dev.inReset = false) (hn : accessWords op = n)
  (hc : ∀ mac alu, exec (c mac alu) s = .next (s.onDev fun d => d.issue e (wordOf mac.toNat alu.toNat (ldSlot op r k inc.toNat))))
include hr hn hc

theorem loadGives_of_op (h0 : op ≠ 0) (h3 : op ≤ 3) (hfit : ∀ i < 32, i / n * n + n ≤ 32) : Claims.loadGives c s e op n r k inc := by
  refine ⟨fun mac alu hi => ?_, fun hi hb => ?_⟩
  · have hw := isAccess_wordOf (r := r) (k := k) (inc := inc) mac.isLt alu.isLt (by omega) hn
    obtain ⟨hlands, hbumped⟩ := load_engIssue hw h0 h3 (hfit r r.isLt) hi.1
    exact leads_issue (hc mac alu) hr hi ⟨hlands, g_engIssue _ (sound_engLand hi.1), hbumped⟩
  · have hw := isAccess_wordOf (m := 0) (a := 0) (r := r) (k := k) (inc := inc) (by decide) (by decide) (by omega) hn
    obtain ⟨hmac, halu, -⟩ := moveWord_fields (ldSlot_fields (op := op) (by omega) r k inc).1
    refine leads_issue (w := wordOf 0 0 (ldSlot op r k inc.toNat)) (hc 0 0) hr hi ⟨moveAlone_of_ownMoves hmac halu ?_, ?_⟩
    · exact OwnMoves.load _ _ _ (by rwa [hw.opcode]) (by rwa [hw.opcode])
    · exact dmem_load hw h0 h3 (by rw [halu]; decide) hb

theorem storeGives_of_op (h3 : 3 < op) (h6 : op ≤ 6) : Claims.storeGives c s e op n r k inc := by
  refine ⟨fun mac alu hi h27 hb => ?_, fun hi hb => ?_⟩
  · have hw := isAccess_wordOf (r := r) (k := k) (inc := inc) mac.isLt alu.isLt (by omega) hn
    have halu := aluOf_wordOf mac.isLt alu.isLt (ldSlot_fields (op := op) (by omega) r k inc).1
    obtain ⟨hwords, -, hbumped⟩ := store_engIssue hw h3 h6 (by rwa [halu]) hb
    exact leads_issue (hc mac alu) hr hi ⟨hwords, hbumped⟩
  · have hw := isAccess_wordOf (m := 0) (a := 0) (r := r) (k := k) (inc := inc) (by decide) (by decide) (by omega) hn
    obtain ⟨hmac, halu, -⟩ := moveWord_fields (ldSlot_fields (op := op) (by omega) r k inc).1
    obtain ⟨-, hothers, -⟩ := store_engIssue hw h3 h6 (by rw [halu]; decide) hb
    refine leads_issue (w := wordOf 0 0 (ldSlot op r k inc.toNat)) (hc 0 0) hr hi ⟨moveAlone_of_ownMoves hmac halu ?_, hothers⟩
    exact OwnMoves.store _ _ _ (by rwa [hw.opcode]) (by rwa [hw.opcode])

end Accesses

/-! ### LDXY -/

namespace Machine

section Pointers
variable (s : Engine) (bank : Nat) {a b : Nat} (ia ib : Int)

theorem Engine.p_bumpTwo_first : (s.bumpTwo bank a b ia ib).p.pick 0 (bank * 8 + a) =
    stepPtr (s.p.pick 0 (bank * 8 + a)) (s.b.pick 0 a) (s.n.pick 0 a) ia := by
  unfold Engine.bumpTwo
  split
  · exact s.p_bump_same bank a ia
  next hab =>
    rw [Engine.p_bump_other _ _ _ _ (by omega)]
    exact s.p_bump_same bank a ia

theorem Engine.p_bumpTwo_second (hab : b ≠ a) : (s.bumpTwo bank a b ia ib).p.pick 0 (bank * 8 + b) =
    stepPtr (s.p.pick 0 (bank * 8 + b)) (s.b.pick 0 b) (s.n.pick 0 b) ib := by
  rw [Engine.bumpTwo, if_neg hab.symm, Engine.p_bump_same, Engine.p_bump_other _ _ _ _ (by omega)]
  rfl

theorem Engine.flight_bumpTwo : (s.bumpTwo bank a b ia ib).flight = s.flight := by
  unfold Engine.bumpTwo
  split <;> rfl

section Written
variable (k x : Nat)

theorem Engine.p_setPtr : (s.setPtr bank 0 k x).p.pick 0 (bank * 8 + k) = x := Store.pick_upd_same s.p 0 (bank * 8 + k) fun _ => x

theorem Engine.b_setPtr : (s.setPtr bank 1 k x).b.pick 0 k = x := Store.pick_upd_same s.b 0 k fun _ => x

theorem Engine.n_setPtr : (s.setPtr bank 2 k x).n.pick 0 k = x := Store.pick_upd_same s.n 0 k fun _ => x

end Written

end Pointers

/-- Two loads one after the other are both on their way, and nothing else of their engine has changed. -/
theorem flight_loadTo_two {d : Device} {e : Nat} (h : Readable d e) (s : Engine) (bank bk x y a b : Nat) :
    let d' := (d.loadTo e bank x (s.addrs bk a 4)).loadTo e bank y (s.addrs bk b 4)
    let word := fun k i => ((d.eng e).dmem.pick 0 (wordAddr (s.p.pick 0 (bk * 8 + k)) (s.b.pick 0 k) (s.n.pick 0 k) i)).toInt
    (∀ i < 4, (⟨(d.eng e).issued + 2, bank, (x + i) % 32, word a i⟩ : Flight) ∈ (d'.eng e).flight ∧
      (⟨(d.eng e).issued + 2, bank, (y + i) % 32, word b i⟩ : Flight) ∈ (d'.eng e).flight) ∧ (d'.eng e).ptrs = (d.eng e).ptrs := by
  intro d' word
  have hfirst : OwnMoves e d (d.loadTo e bank x (s.addrs bk a 4)) := Keeps.loadTo (fun _ _ => rfl) ..
  have hview {β : Type} (p : Engine → β) (hp : ∀ s fl, p { s with flight := fl } = p s) :
      p ((d.loadTo e bank x (s.addrs bk a 4)).eng e) = p (d.eng e) :=
    (Keeps.loadTo (R := fun _ => False) hp d bank x (s.addrs bk a 4)).own
  have hsecond {β : Type} (p : Engine → β) (hp : ∀ s fl, p { s with flight := fl } = p s) :
      Keeps p (Device.besides · e) (fun _ => False) e (d.loadTo e bank x (s.addrs bk a 4)) d' := Keeps.loadTo hp ..
  have hreadable : Readable (d.loadTo e bank x (s.addrs bk a 4)) e :=
    ⟨(hview Engine.perr fun _ _ => rfl).trans h.perr, (hview Engine.derr fun _ _ => rfl).trans h.derr,
      fun k hk => (Device.injPending_of_regs hfirst.regs id).trans (h.inj k hk)⟩
  refine ⟨fun i hi => ⟨(hsecond Engine.p fun _ _ => rfl).flight _ (flight_loadTo h s bank bk x a hi), ?_⟩, ?_⟩
  · have hfly := flight_loadTo hreadable s bank bk y b hi
    rwa [hview Engine.issued fun _ _ => rfl, hview Engine.dmem fun _ _ => rfl] at hfly
  · exact (hsecond Engine.ptrs fun _ _ => rfl).own.trans (hview Engine.ptrs fun _ _ => rfl)

end Machine

section Words
variable {s : State} {e : Fin 28} {w : BitVec 64}

/-- LDXY sends both loads on their way, and each pointer that it names moves once (R142). -/
theorem ldxy_engIssue {qx pa qy pb ia ib : Fin 8} (hmv : mvOf w = ldxySlot qx pa qy pb ia ib) (hsound : Claims.sound s.dev e) :
    let a := Claims.atIssue s.dev e
    let d := (s.dev.engLand e).engIssue e w
    (∀ i < 4, Claims.lands s e d 2 (4 * qx.val + i) (a.dmem.pick 0 (Claims.wordAt s e pa i)).toInt ∧
      Claims.lands s e d 2 (4 * qy.val + i) (a.dmem.pick 0 (Claims.wordAt s e pb i)).toInt) ∧
    (d.eng e).p.pick 0 (a.bank * 8 + pa) = stepPtr (a.p.pick 0 (a.bank * 8 + pa)) (a.b.pick 0 pa) (a.n.pick 0 pa) (incCode ia) ∧
    (pb ≠ pa → (d.eng e).p.pick 0 (a.bank * 8 + pb) =
      stepPtr (a.p.pick 0 (a.bank * 8 + pb)) (a.b.pick 0 pb) (a.n.pick 0 pb) (incCode ib)) := by
  intro a d
  have hland := sound_engLand hsound
  obtain ⟨-, hop, hqx, hpa, hqy, hpb, hia, hib⟩ := ldxySlot_fields qx pa qy pb ia ib
  have hcalc := Frame.calculated (s.dev.engLand e) e w
  obtain ⟨hfly, hptrs⟩ := flight_loadTo_two (Readable.calculated w hland) a a.bank a.bank (4 * qx) (4 * qy) pa pb
  have hmoved := Device.doMove_ldxy ((s.dev.engLand e).calculated e w) e a.bank a (v := mvOf w) (by rw [hmv]; exact hop)
  rw [hmv, hqx, hpa, hqy, hpb, hia, hib] at hmoved
  have heng : ((s.dev.engLand e).moved e w).eng e = _ :=
    (congrArg (fun d : Device => d.eng e) (by rw [Device.moved, hmv]; exact hmoved)).trans (Device.eng_setEng_same ..)
  rw [hcalc.part Engine.issued fun _ => rfl, hcalc.part Engine.dmem fun _ => rfl] at hfly
  obtain ⟨hp, hb, hn⟩ := Engine.of_ptrs (hptrs.trans ptrs_calculated)
  have hd : (d.eng e).p = _ := (part_moved_engIssue w hland Engine.p fun _ => rfl).trans (congrArg Engine.p heng)
  refine ⟨fun i hi => ?_, ?_, fun hne => ?_⟩
  · obtain ⟨hx, hy⟩ := hfly i hi
    rw [Nat.mod_eq_of_lt (by omega)] at hx hy
    refine ⟨(Keeps.moved_engIssue w hland).flight _ ?_, (Keeps.moved_engIssue w hland).flight _ ?_⟩
    · rw [heng, Engine.flight_bumpTwo]
      exact hx
    · rw [heng, Engine.flight_bumpTwo]
      exact hy
  · rw [hd, Engine.p_bumpTwo_first, hp, hb, hn]
  · rw [hd, Engine.p_bumpTwo_second _ _ _ _ (Fin.val_ne_of_ne hne), hp, hb, hn]

/-- A value that a move slot alone sends to a register (R142). -/
theorem setGives_of_fly {c : BitVec 20 → BitVec 20 → Instr} {mv r : Nat} {v : Int} (hlt : mv < 2 ^ 24)
    (hdo : ∀ d : Device, d.doMove e (Claims.atIssue s.dev e).bank mv (Claims.atIssue s.dev e) =
      d.fly e 1 (Claims.atIssue s.dev e).bank r v)
    (hr : s.dev.inReset = false)
    (hc : ∀ mac alu, exec (c mac alu) s = .next (s.onDev fun d => d.issue e (wordOf mac.toNat alu.toNat mv))) :
    Claims.setGives c s e mv r v := by
  refine ⟨fun mac alu hi => leads_issue (hc mac alu) hr hi ?_, fun hi hb => leads_issue (w := wordOf 0 0 mv) (hc 0 0) hr hi ?_⟩
  · have hmv : mvOf (wordOf mac.toNat alu.toNat mv) = mv := mvOf_wordOf mac.isLt alu.isLt hlt
    refine (Keeps.moved_engIssue _ (sound_engLand hi.1)).flight _ ?_
    have hmoved : (s.dev.engLand e).moved e (wordOf mac.toNat alu.toNat mv) =
        ((s.dev.engLand e).calculated e (wordOf mac.toNat alu.toNat mv)).fly e 1 (Claims.atIssue s.dev e).bank r v := by
      rw [Device.moved, hmv]
      exact hdo _
    rw [hmoved, Device.eng_fly, (Frame.calculated _ e _).part Engine.issued fun _ => rfl]
    exact List.mem_append_right _ (List.mem_singleton.mpr rfl)
  · obtain ⟨hmac, halu, hmv⟩ := moveWord_fields hlt
    have hmoved : (s.dev.engLand e).moved e (wordOf 0 0 mv) = (s.dev.engLand e).fly e 1 (Claims.atIssue s.dev e).bank r v := by
      rw [Device.moved, Device.calculated_nop hmac halu, hmv]
      exact hdo _
    have hfly : Keeps Engine.offAlu (Device.besides · e) (shownReg e) e (s.dev.engLand e)
        ((s.dev.engLand e).moved e (wordOf 0 0 mv)) := by
      rw [hmoved]
      exact .fly fun _ _ => rfl
    refine quietWord_engIssue (w := wordOf 0 0 mv) (by rw [halu]; decide) hb hfly.toFrame hfly.flight fun b i _ _ => ?_
    rw [hmoved, Device.eng_fly]
    rfl

/-- MVA writes one pointer, base or length register (R142). -/
theorem mva_engIssue {cl : Fin 3} {k : Fin 8} {r : Fin 32} (hmv : mvOf w = mvaSlot cl k r) (hsound : Claims.sound s.dev e) :
    ((((s.dev.engLand e).engIssue e w).eng e).ptrs =
      ((Claims.atIssue s.dev e).setPtr (Claims.atIssue s.dev e).bank cl k ((Claims.reg s e r).toNat % 16384)).ptrs) := by
  have hland := sound_engLand hsound
  obtain ⟨-, hop, hcl, hk, hreg⟩ := mvaSlot_fields cl k r
  have hmoved := Device.doMove_mva ((s.dev.engLand e).calculated e w) e (Claims.atIssue s.dev e).bank (Claims.atIssue s.dev e)
    (v := mvOf w) (by rw [hmv]; exact hop)
  rw [hmv, hcl, hk, hreg] at hmoved
  have heng : ((s.dev.engLand e).moved e w).eng e = _ :=
    (congrArg (fun d : Device => d.eng e) (by rw [Device.moved, hmv]; exact hmoved)).trans (Device.eng_setEng_same ..)
  obtain ⟨hp, hb, hn⟩ := Engine.of_ptrs (ptrs_calculated (s := s) (e := e) (w := w))
  rw [part_moved_engIssue w hland Engine.ptrs fun _ => rfl, heng]
  unfold Engine.setPtr
  split
  · simp only [Engine.ptrs, hp, hb, hn, Claims.reg]
  · split
    · simp only [Engine.ptrs, hp, hb, hn, Claims.reg]
    · simp only [Engine.ptrs, hp, hb, hn, Claims.reg]

end Words

/-- Settles O20: each access and each move by what its move slot does, which the end of its word keeps. -/
theorem loadsStoresAndRegisterMoves : Obligations.LoadsStoresAndRegisterMoves := by
  unfold Obligations.LoadsStoresAndRegisterMoves
  intro s e r k inc hr a
  refine ⟨loadGives_of_op hr rfl (fun _ _ => rfl) (by decide) (by decide) (by omega),
    loadGives_of_op hr rfl (fun _ _ => rfl) (by decide) (by decide) (by omega),
    loadGives_of_op hr rfl (fun _ _ => rfl) (by decide) (by decide) (by omega),
    storeGives_of_op hr rfl (fun _ _ => rfl) (by decide) (by decide), storeGives_of_op hr rfl (fun _ _ => rfl) (by decide) (by decide),
    storeGives_of_op hr rfl (fun _ _ => rfl) (by decide) (by decide), fun qx pa qy pb ia ib mac alu hi => ?_, fun imm => ?_,
    fun cl mac alu hi => ?_, fun cl => ?_⟩
  · have hmv : mvOf (wordOf mac.toNat alu.toNat (ldxySlot qx pa qy pb ia ib)) = ldxySlot qx pa qy pb ia ib :=
      mvOf_wordOf mac.isLt alu.isLt (ldxySlot_fields qx pa qy pb ia ib).1
    exact leads_issue (w := wordOf mac.toNat alu.toNat (ldxySlot qx pa qy pb ia ib)) rfl hr hi (ldxy_engIssue hmv hi.1)
  · obtain ⟨hlt, hop, hreg, himm⟩ := ldiSlot_fields r imm
    refine setGives_of_fly hlt (fun d => ?_) hr fun _ _ => rfl
    rw [d.doMove_ldi _ _ _ hop, hreg, himm, toS_toNat]
  · have hmv : mvOf (wordOf mac.toNat alu.toNat (mvaSlot cl k r)) = mvaSlot cl k r :=
      mvOf_wordOf mac.isLt alu.isLt (mvaSlot_fields cl k r).1
    obtain ⟨hp, hb, hn⟩ := Engine.of_ptrs (mva_engIssue hmv hi.1)
    intro v
    refine leads_issue (w := wordOf mac.toNat alu.toNat (mvaSlot cl k r)) rfl hr hi
      ⟨fun h => ?_, fun h => ?_, fun h => ?_, g_engIssue _ (sound_engLand hi.1)⟩
    · subst h
      exact ⟨by rw [hp]; exact Engine.p_setPtr .., hb, hn⟩
    · subst h
      exact ⟨by rw [hb]; exact Engine.b_setPtr .., hp, hn⟩
    · subst h
      exact ⟨by rw [hn]; exact Engine.n_setPtr .., hp, hb⟩
  · obtain ⟨hlt, hop, hreg, hcl, hk⟩ := mvgSlot_fields r cl k
    refine setGives_of_fly hlt (fun d => ?_) hr fun _ _ => rfl
    rw [d.doMove_mvg _ _ _ hop, hreg, hcl, hk]
    rfl

end Sys2Proof
end

section
/-! STAGE (R162): the operations of the move slot on units, and what stands of the block when the move slot begins. -/

namespace Sys2Proof

open Sys2Proof.Machine

namespace Machine

/-! ### The operations of the move slot on units (R142) -/

section Ops
variable (d : Device) (e bank : Nat) {v : Nat} (s : Engine)

theorem Device.doMove_stage (h : mvOp v = 11) : d.doMove e bank v s = d.stageSlot e ((s.reg bank (bits v 14 5)).toNat % 8) := by
  simp only [Device.doMove, h]
  rfl

theorem Device.doMove_ckpt (h : mvOp v = 12) : d.doMove e bank v s = d.ckptSlot e ((s.reg bank (bits v 14 5)).toNat % 8) := by
  simp only [Device.doMove, h]
  rfl

theorem Device.doMove_hbeat (h : mvOp v = 13) :
    d.doMove e bank v s = d.hbeat e (s.reg bank (align 2 (bits v 14 5))) (s.reg bank (align 2 (bits v 14 5) + 1)) := by
  simp only [Device.doMove, h]
  rfl

theorem Device.doMove_bulk (h : mvOp v = 14 ∨ mvOp v = 15) : d.doMove e bank v s = d.bulkStart e bank v s := by
  obtain h | h := h <;>
  · simp only [Device.doMove, h]
    rfl

theorem Device.doMove_bsync (h : mvOp v = 16) : d.doMove e bank v s = d := by
  simp only [Device.doMove, h]
  rfl

theorem Device.doMove_ledg (h : mvOp v = 17) :
    d.doMove e bank v s = d.ledgSend (s.reg bank (align 2 (bits v 14 5))) (s.reg bank (align 2 (bits v 14 5) + 1)) := by
  simp only [Device.doMove, h]
  rfl

theorem Device.doMove_mbxs (h : mvOp v = 18) : d.doMove e bank v s = d.mbxSend e := by
  simp only [Device.doMove, h]
  rfl

end Ops

section Besides
variable {d d' : Device} {e : Nat} (h : d'.besides e = d.besides e)
include h

theorem Device.clk_of_besides : d'.clk = d.clk := congrArg (fun x => x.2.clk) h

theorem Device.axes_of_besides : d'.axes = d.axes := congrArg (fun x => x.2.axes) h

theorem Device.bulk_of_besides : d'.bulk = d.bulk := congrArg (fun x => x.2.bulk) h

theorem Device.ledger_of_besides : d'.ledger = d.ledger := congrArg (fun x => x.2.ledger) h

end Besides

/-! ### STAGE (R162) -/

/-- A slot counted as staged. -/
def Engine.markStaged (s : Engine) (j : Nat) : Engine := { s with staged := setBit s.staged j true }

/-- The slack before D noted with a result (R27). -/
def Engine.noteSlack (s : Engine) (slack : Nat) : Engine := { s with minSlack := min s.minSlack slack }

/-- The outbox of a slot. -/
def Engine.outbox (s : Engine) (j : Nat) : List Nat := (List.range 64).map fun i => (s.dmem.pick 0 (winAddr j (0x180 + i))).toNat

/-- A result staged before D: the slot counts as staged, its result and its slack are noted. -/
def Device.stageNow (d : Device) (e j k : Nat) (out : List Nat) (slack : Nat) : Device :=
  ((d.setEng e (Engine.markStaged · j)).setAx k fun a => { a with staged := some out }).setEng e (Engine.noteSlack · slack)

theorem Device.eng_setAx (d : Device) (k : Nat) (f : AxisCtl → AxisCtl) (i : Nat) : (d.setAx k f).eng i = d.eng i := rfl

section StageNow
variable (d : Device) (e j k : Nat) (out : List Nat) (slack : Nat)

theorem Device.eng_stageNow : (d.stageNow e j k out slack).eng e =
    ((d.eng e).markStaged j).noteSlack slack := by
  unfold Device.stageNow
  rw [Device.eng_setEng_same, Device.eng_setAx, Device.eng_setEng_same]

theorem Device.ax_stageNow_same : ((d.stageNow e j k out slack).ax k).staged = some out :=
  congrArg AxisCtl.staged (Device.ax_setAx_same (d.setEng e (Engine.markStaged · j)) k fun a => { a with staged := some out })

theorem Device.ax_stageNow_other {i : Nat} (hi : i ≠ k) : (d.stageNow e j k out slack).ax i = d.ax i :=
  Device.ax_setAx_other (d.setEng e (Engine.markStaged · j)) k (fun a => { a with staged := some out }) hi

theorem Device.bulk_stageNow : (d.stageNow e j k out slack).bulk = d.bulk := by
  unfold Device.stageNow Device.setEng Device.setAx
  with_reducible rfl

end StageNow

theorem Device.ax_of_axes {d d' : Device} (h : d'.axes = d.axes) (i : Nat) : d'.ax i = d.ax i := by rw [Device.ax, h, Device.ax]

theorem Device.slotAxis_lt (d : Device) (e j : Nat) : d.slotAxis e j < 256 := Nat.mod_lt _ (by decide)

/-- STAGE of a slot that runs a program image: its outbox is the result before D of its beat, none is taken later (R23). -/
theorem Device.stageSlot_program {d : Device} {e j k : Nat} (hk : d.slotAxis e j = k) (hnone : k ≠ 0xFF)
    (hstaged : bit (d.eng e).staged j = false) (hcarry : bit (d.eng e).carry j = false) (himage : d.engImage e ≠ 0 ∨ 3 < d.variant k) :
    d.stageSlot e j = if (d.eng e).beatOf = d.clk.beat ∧ d.clk.tick < d.clk.deadline then
        d.stageNow e j k ((d.eng e).outbox j) (d.clk.deadline - d.clk.tick)
      else d.setEng e (Engine.markStaged · j) := by
  have hstock : ¬ (d.engImage e = 0 ∧ d.variant k ≤ 3) := by omega
  have hout : (List.range 64).map (fun i => ((d.setEng e (Engine.markStaged · j)).dm e (winAddr j (0x180 + i))).toNat) =
      (d.eng e).outbox j := by
    simp only [Device.dm, Device.eng_setEng_same]
    rfl
  rw [← hout]
  subst hk
  unfold Device.stageSlot
  extract_lets k s stock d1 d2 out d3
  have hd1 : d1 = d := if_neg hstock
  rw [if_neg (by simp only [s, hstaged, hnone, k]; decide), if_neg (by simp only [s, hcarry]; decide)]
  simp only [d3, out, d2, hd1]
  rfl

end Machine

section Unit
variable {s : State} {e : Fin 28} {w : BitVec 64}

theorem besides_calculated : ((s.dev.engLand e).calculated e w).besides e = s.dev.besides e :=
  (Frame.calculated _ e w).block.trans (Frame.engLand s.dev e).block

theorem regs_calculated : sameRegs s.dev ((s.dev.engLand e).calculated e w) (shownReg e) :=
  ((Frame.engLand s.dev e).regs.mono fun _ => .inr).trans (Frame.calculated _ e w).regs

theorem clk_calculated : ((s.dev.engLand e).calculated e w).clk = s.dev.clk := Device.clk_of_besides besides_calculated

theorem slotAxis_calculated (j : Nat) : ((s.dev.engLand e).calculated e w).slotAxis e j = s.dev.slotAxis e j := by
  have hregs := regs_calculated (s := s) (e := e) (w := w)
  simp only [Device.slotAxis, Device.rdN,
    hregs (DV_SLOT_A e) (by simp only [shownReg, DV_SLOT_A, DV_STATUS, DV_STICKY]; omega),
    hregs (DV_SLOT_B e) (by simp only [shownReg, DV_SLOT_B, DV_STATUS, DV_STICKY]; omega)]

/-- A part of the engine that the MAC and the ALU slot leave alone. -/
theorem own_calculated {α : Type} (q : Engine → α) (hq : ∀ x, q x.offCalc = q x) :
    q (((s.dev.engLand e).calculated e w).eng e) = q (Claims.atIssue s.dev e) := (Frame.calculated _ e w).part q hq

theorem axes_calculated : ((s.dev.engLand e).calculated e w).axes = s.dev.axes := Device.axes_of_besides besides_calculated

theorem bulk_calculated : ((s.dev.engLand e).calculated e w).bulk = s.dev.bulk := Device.bulk_of_besides besides_calculated

theorem program_calculated {k : Nat} (hk : k < 256) (h : s.dev.engImage e ≠ 0 ∨ 3 < s.dev.variant k) :
    ((s.dev.engLand e).calculated e w).engImage e ≠ 0 ∨ 3 < ((s.dev.engLand e).calculated e w).variant k := by
  have himage : ((s.dev.engLand e).calculated e w).engImage e = s.dev.engImage e := regs_calculated.get <| by
    simp only [shownReg, CV_ENG_STATE_IMAGE, CV_ENG_STATE, DV_STATUS, DV_STICKY]
    omega
  have hvariant : ((s.dev.engLand e).calculated e w).variant k = s.dev.variant k := regs_calculated.get <| by
    simp only [shownReg, AX_CTRL_VARIANT, AX_CTRL, DV_STATUS, DV_STICKY]
    omega
  rw [himage, hvariant]
  exact h

/-- STAGE of a slot that runs a program image (R162, R23). -/
theorem stage_engIssue {r : Nat} (hop : aluOp (aluOf w) ≠ 27) (hb : (Claims.atIssue s.dev e).branch = none) (hmv : mvOp (mvOf w) = 11)
    (hreg : bits (mvOf w) 14 5 = r) :
    let a := Claims.atIssue s.dev e
    let j := (Claims.reg s e r).toNat % 8
    let k := s.dev.slotAxis e j
    let d := (s.dev.engLand e).engIssue e w
    k ≠ 0xFF → bit a.staged j = false → bit a.carry j = false → (s.dev.engImage e ≠ 0 ∨ 3 < s.dev.variant k) →
      bit (d.eng e).staged j = true ∧
      (a.beatOf = s.dev.clk.beat ∧ s.dev.clk.tick < s.dev.clk.deadline →
        (d.ax k).staged = some (a.outbox j) ∧ (d.eng e).minSlack = min a.minSlack (s.dev.clk.deadline - s.dev.clk.tick)) ∧
      (¬ (a.beatOf = s.dev.clk.beat ∧ s.dev.clk.tick < s.dev.clk.deadline) → d.axes = s.dev.axes) ∧
      (∀ i, i ≠ k → d.ax i = s.dev.ax i) ∧ d.bulk = s.dev.bulk := by
  intro a j k d hnone hstaged hcarry himage
  have hmoved : (s.dev.engLand e).moved e w = ((s.dev.engLand e).calculated e w).stageSlot e j := by
    rw [Device.moved, Device.doMove_stage _ _ _ _ hmv, hreg]
    rfl
  rw [Device.stageSlot_program (slotAxis_calculated j) hnone (by rwa [own_calculated Engine.staged fun _ => rfl])
    (by rwa [own_calculated Engine.carry fun _ => rfl]) (program_calculated (Device.slotAxis_lt ..) himage), clk_calculated,
    own_calculated Engine.beatOf fun _ => rfl] at hmoved
  have hrest := (Keeps.ended_besides (d := s.dev.engLand e) (e := e) hop).block
  have heng : d.eng e = (((s.dev.engLand e).moved e w).eng e).next := Device.eng_engIssue_next hb hop
  have haxes : d.axes = ((s.dev.engLand e).moved e w).axes := Device.axes_of_besides hrest
  have hax (i : Nat) : d.ax i = ((s.dev.engLand e).moved e w).ax i := Device.ax_of_axes haxes i
  have hbulk : d.bulk = ((s.dev.engLand e).moved e w).bulk := Device.bulk_of_besides hrest
  have hcax (i : Nat) : ((s.dev.engLand e).calculated e w).ax i = s.dev.ax i := Device.ax_of_axes axes_calculated i
  by_cases htime : a.beatOf = s.dev.clk.beat ∧ s.dev.clk.tick < s.dev.clk.deadline
  · rw [if_pos htime] at hmoved
    refine ⟨?_, fun _ => ⟨?_, ?_⟩, fun h => absurd htime h, fun i hi => ?_, ?_⟩
    · rw [heng, hmoved, Device.eng_stageNow]
      exact bit_setBit_same ..
    · rw [hax, hmoved, Device.ax_stageNow_same, own_calculated (Engine.outbox · j) fun _ => rfl]
    · rw [heng, hmoved, Device.eng_stageNow]
      exact congrArg (min · _) (own_calculated Engine.minSlack fun _ => rfl)
    · rw [hax, hmoved, Device.ax_stageNow_other _ _ _ _ _ _ hi, hcax]
    · rw [hbulk, hmoved, Device.bulk_stageNow, bulk_calculated]
  · rw [if_neg htime] at hmoved
    refine ⟨?_, fun h => absurd h htime, fun _ => ?_, fun i _ => ?_, ?_⟩
    · rw [heng, hmoved, Device.eng_setEng_same]
      exact bit_setBit_same ..
    · rw [haxes, hmoved]
      exact axes_calculated
    · rw [hax, hmoved]
      exact hcax i
    · rw [hbulk, hmoved]
      exact bulk_calculated

end Unit

end Sys2Proof
end

section
/-! HBEAT (R164), and the messages that wait (R352). -/

namespace Sys2Proof

open Sys2Proof.Machine

namespace Machine

/-! ### Messages that wait (R352) -/

/-- A message of a source and KIND waits. -/
def Device.waits (d : Device) (c i k : Nat) : Prop := ∃ m ∈ d.ledger.waiting, m.cls = c ∧ m.inst = i ∧ m.kind = k

theorem mem_addMsg_self (m : LMsg) (l : List LMsg) : ∃ x ∈ addMsg m l, x.cls = m.cls ∧ x.inst = m.inst ∧ x.kind = m.kind := by
  induction l with
  | nil => exact ⟨m, List.mem_singleton.mpr rfl, rfl, rfl, rfl⟩
  | cons y l ih =>
    unfold addMsg
    split
    next h => exact ⟨_, List.mem_cons_self .., h⟩
    next =>
      obtain ⟨x, hx, hsame⟩ := ih
      exact ⟨x, List.mem_cons_of_mem _ hx, hsame⟩

theorem mem_addMsg_of_mem (m : LMsg) {l : List LMsg} {y : LMsg} (hy : y ∈ l) :
    ∃ x ∈ addMsg m l, x.cls = y.cls ∧ x.inst = y.inst ∧ x.kind = y.kind := by
  induction l with
  | nil => exact absurd hy List.not_mem_nil
  | cons z l ih =>
    unfold addMsg
    obtain rfl | hy := List.mem_cons.mp hy
    · split
      · exact ⟨_, List.mem_cons_self .., rfl, rfl, rfl⟩
      · exact ⟨y, List.mem_cons_self .., rfl, rfl, rfl⟩
    · split
      · exact ⟨y, List.mem_cons_of_mem _ hy, rfl, rfl, rfl⟩
      · obtain ⟨x, hx, hsame⟩ := ih hy
        exact ⟨x, List.mem_cons_of_mem _ hx, hsame⟩

theorem Device.waits_msg (d : Device) (c i k detail : Nat) (injected runcnt : Bool) :
    (d.msg c i k detail injected runcnt).waits c i k := mem_addMsg_self _ _

theorem Device.waits.msg {d : Device} {c i k : Nat} (h : d.waits c i k) (c' i' k' detail : Nat) (injected runcnt : Bool) :
    (d.msg c' i' k' detail injected runcnt).waits c i k := by
  obtain ⟨m, hm, rfl, rfl, rfl⟩ := h
  exact mem_addMsg_of_mem _ hm

theorem Device.waits.of_ledger {d d' : Device} {c i k : Nat} (h : d.waits c i k) (hl : d'.ledger = d.ledger) : d'.waits c i k := by
  rwa [Device.waits, hl]

/-- The end of a program leaves what waits waiting. -/
theorem Device.waits.progEnd {d : Device} {e c i k : Nat} (h : d.waits c i k) (hinj : d.injPending 2 e 2 = false) :
    (d.progEnd e).waits c i k := by
  unfold Device.progEnd
  extract_lets s d1 d2
  have h2 : d2.waits c i k := by
    have hnone : d1.injTake 2 e 2 = none := Device.injTake_eq_none hinj
    unfold d2 Device.detect
    rw [hnone]
    split
    · exact Device.waits.msg (d := d1) h ..
    · exact h
  split
  · exact h2.of_ledger (Device.ledger_of_besides (Keeps.progStart d2).block)
  · exact h2

/-- The end of a word leaves what waits waiting. -/
theorem Device.waits.engIssue {d : Device} {e c i k : Nat} {w : BitVec 64} (h : (d.moved e w).waits c i k)
    (hinj : (d.moved e w).injPending 2 e 2 = false) : (d.engIssue e w).waits c i k := by
  have hadv : Keeps Engine.offEnd (Device.besides · e) (· = DV_STATUS e) e (d.moved e w) (d.advanced e w) := Keeps.engAdvance _ _
  have hwaits : (d.advanced e w).waits c i k := h.of_ledger (Device.ledger_of_besides hadv.block)
  rw [Device.engIssue_eq]
  split
  · exact hwaits.progEnd ((Device.injPending_of_regs hadv.regs fun h => not_shownReg_injStatus e 2 e 2 (.inl h)).trans hinj)
  · exact hwaits

/-! ### HBEAT (R164) -/

/-- HBEAT's words are those of the beat's heartbeat. -/
def Device.hbGood (d : Device) (e : Nat) (seq sig : BitVec 32) : Bool :=
  decide (seq.toNat = (d.eng e).beatOf % 2 ^ 32) && decide (sig = d.rd (DV_SIG e))

/-- HBEAT where no injection stands for its check: the words, what is noted of them, and the message of wrong ones. -/
theorem Device.hbeat_words {d : Device} {e : Nat} (h : d.injPending 3 e 4 = false) (seq sig : BitVec 32) :
    let d' := d.hbeat e seq sig
    d'.rd (DV_HB e) = seq ∧ d'.rd (DV_HB e + 4) = sig ∧
      (d'.eng e).hbs.head? = some ((d.eng e).beatOf, b2n (d.hbGood e seq sig && d.hbInTime (d.eng e).beatOf)) ∧
      (d.hbGood e seq sig = false → d'.waits 3 e 4) := by
  intro d'
  unfold d' Device.hbeat
  extract_lets n good d1
  have hlo : d1.rd (DV_HB e) = seq :=
    (Device.rd_wr_other (d.wr (DV_HB e) seq) (DV_HB e + 4) (DV_HB e) sig (by omega)).trans (Device.rd_wr_same ..)
  have hhi : d1.rd (DV_HB e + 4) = sig := Device.rd_wr_same ..
  have hpend : d1.injPending 3 e 4 = false := by
    rw [← h]
    have hregs : sameRegs d d1 (fun a => a = DV_HB e ∨ a = DV_HB e + 4) :=
      (sameRegs.wr d (DV_HB e) seq _ (.inl rfl)).trans (sameRegs.wr _ _ sig _ (.inr rfl))
    exact Device.injPending_of_regs hregs (by simp only [INJ_STATUS, DV_HB]; omega)
  have hnoted : (d1.eng e).hbs.head? = some ((d.eng e).beatOf, b2n (d.hbGood e seq sig && d.hbInTime (d.eng e).beatOf)) :=
    congrArg (fun s : Engine => s.hbs.head?) (Device.eng_setEng_same ..)
  have hwrong : ((d1.setEng e fun s => { s with hbs := ((n, 0) :: s.hbs.drop 1).take 2 }).eng e).hbs.head? = some (n, 0) :=
    congrArg (fun s : Engine => s.hbs.head?) (Device.eng_setEng_same ..)
  unfold Device.detect
  rw [Device.injTake_eq_none hpend]
  split
  next hbad =>
    have hgood : d.hbGood e seq sig = false := (Bool.not_eq_true' _).mp hbad
    exact ⟨hlo, hhi, by rw [hgood]; exact hwrong, fun _ => Device.waits_msg ..⟩
  next hbad => exact ⟨hlo, hhi, hnoted, fun hgood => absurd (congrArg not hgood) hbad⟩

end Machine
end Sys2Proof
end

section
/-! CKPT, BLD and BST (R150, R163), entries on queues (R493–R495), and these operations to the end of their word. -/

namespace Sys2Proof

open Sys2Proof.Machine

namespace Machine

/-! ### CKPT, BLD and BST (R150, R163) -/

/-- CKPT copies the state vector of its slot's axis. -/
theorem Device.ckpts_ckptSlot {d : Device} {e j k : Nat} (h : Readable d e) (hk : d.slotAxis e j = k) (hnone : k ≠ 0xFF) :
    ((d.ckptSlot e j).eng e).ckpts = (d.eng e).ckpts ++ [⟨j, k, (d.eng e).beatOf,
      (List.range 30).map (fun i => (d.eng e).dmem.pick 0 (winAddr j (0x1C0 + i))), false, d.clk.now, (d.eng e).issued⟩] := by
  subst hk
  have hwords : (List.range 30).map (fun i => (d.eng e).dmem.pick 0 (winAddr j (0x1C0 + i))) =
      ((List.range 30).map fun i => winAddr j (0x1C0 + i)).map (d.dmVal e) := by
    rw [List.map_map]
    exact List.map_congr_left fun i _ => (h.dmVal _).symm
  rw [hwords]
  unfold Device.ckptSlot
  extract_lets k as
  rw [if_neg hnone, h.tileRead]
  exact congrArg Engine.ckpts (Device.eng_setEng_same ..)

theorem Device.bulk_bulkStart {d : Device} {e : Nat} (h : Readable d e) (bank v : Nat) (s : Engine) :
    let mem := s.addrs bank (bits v 16 3) ((s.reg bank (bits v 6 5)).toNat % 512)
    ((d.bulkStart e bank v s).eng e).bulk = some
      { load := mvOp v == 14, mem := mem, dev := (s.reg bank (bits v 11 5)).toNat,
        data := if mvOp v = 15 then mem.map (fun a => (d.eng e).dmem.pick 0 a) else [], at_ := d.clk.now } := by
  intro mem
  have hdata : mem.map (fun a => (d.eng e).dmem.pick 0 a) = mem.map (fun a => d.dmVal e a) :=
    List.map_congr_left fun a _ => (h.dmVal a).symm
  rw [hdata]
  exact congrArg Engine.bulk (Device.eng_setEng_same ..)

/-! ### Entries on queues (R493–R495) -/

section Queue
variable {d : Device} {q : Nat} (kind src ref : Nat) (data : List (BitVec 8))

theorem Device.bulk_qLose (q : Nat) : (d.qLose q).bulk = d.bulk := by
  simp only [Device.qLose, Device.raise_bulk, Device.incSat_bulk]

/-- An entry that finds its queue full is counted as lost. -/
theorem Device.get_lost_qLose : (d.qLose q).get (QU_LOST_COUNT q) = satU 32 (d.get (QU_LOST_COUNT q) + 1) := by
  have hraise : sameRegs (d.incSat (QU_LOST_COUNT q)) (d.qLose q) (· = QU_EVENT q) :=
    (sameRegs.put (d.incSat (QU_LOST_COUNT q)) (QU_EVENT_LOST q) 1 (· = QU_EVENT q) rfl).trans (sameRegs.regs (e := d.qLose q) _ rfl)
  rw [hraise.get (by simp only [QU_LOST_COUNT, QU_LOST, QU_EVENT]; omega),
    Device.get_incSat_same _ _ _ (by simp only [QU_LOST_COUNT]; decide)]
  rfl

/-- An entry that finds room is the queue's next and fills it by one. -/
theorem Device.qAdd_counts : (d.qAdd q kind src ref data).rdN (QU_SEQ q) = (d.rdN (QU_SEQ q) + 1) % 2 ^ 32 ∧
    (d.qAdd q kind src ref data).get (QU_STATUS_FILL q) = (d.get (QU_STATUS_FILL q) + 1) % 2 ^ 13 := by
  unfold Device.qAdd
  extract_lets i gap desc d1 d2 occ d3 d4
  have hseq : d4.rdN (QU_SEQ q) = (d.rdN (QU_SEQ q) + 1) % 2 ^ 32 := by
    have hword : d4.rd (QU_SEQ q) = BitVec.ofNat 32 (d.rdN (QU_SEQ q) + 1) := Device.rd_wr_same ..
    rw [Device.rdN, hword, BitVec.toNat_ofNat]
  have hfill : d4.get (QU_STATUS_FILL q) = (d.get (QU_STATUS_FILL q) + 1) % 2 ^ 13 :=
    ((sameRegs.wr _ (QU_SEQ q) _ (· = QU_SEQ q) rfl).get (by simp only [QU_STATUS_FILL, QU_STATUS, QU_SEQ]; omega)).trans
      (Device.get_put_same _ _ _ (by simp only [QU_STATUS_FILL]; decide))
  have hraise : sameRegs d4 (d4.raise (QU_EVENT_FULL q)) (· = QU_EVENT q) := .put _ _ _ _ rfl
  split
  · refine ⟨?_, (hraise.get (by simp only [QU_STATUS_FILL, QU_STATUS, QU_EVENT]; omega)).trans hfill⟩
    rw [Device.rdN, hraise _ (by simp only [QU_SEQ, QU_EVENT]; omega)]
    exact hseq
  · exact ⟨hseq, hfill⟩

/-- Whether a queue is full is told by its size and its occupancy. -/
theorem Device.qFull_congr {d' : Device} (hocc : d'.qOcc = d.qOcc)
    (hcfg : d'.rd (QU_CFG q) = d.rd (QU_CFG q)) : d'.qFull q = d.qFull q := by
  have hlog : d'.get (QU_CFG_LOG2 q) = d.get (QU_CFG_LOG2 q) := congrArg (fun x : BitVec 32 => bits x.toNat 0 4) hcfg
  have hsize : d'.qSize q = d.qSize q := by rw [Device.qSize, hlog, Device.qSize]
  rw [Device.qFull, hsize, hocc, Device.qFull]

end Queue

end Machine

section Unit
variable {s : State} {e : Fin 28} {w : BitVec 64}

/-- CKPT of an assigned slot (R163). -/
theorem ckpt_engIssue {r : Nat} (hmv : mvOp (mvOf w) = 12) (hreg : bits (mvOf w) 14 5 = r) (hsound : Claims.sound s.dev e) :
    let a := Claims.atIssue s.dev e
    let j := (Claims.reg s e r).toNat % 8
    let k := s.dev.slotAxis e j
    k ≠ 0xFF → (((s.dev.engLand e).engIssue e w).eng e).ckpts = a.ckpts ++ [⟨j, k, a.beatOf,
      (List.range 30).map (fun i => a.dmem.pick 0 (winAddr j (0x1C0 + i))), false, s.dev.clk.now, a.issued⟩] := by
  intro a j k hnone
  have hland := sound_engLand hsound
  have hmoved : (s.dev.engLand e).moved e w = ((s.dev.engLand e).calculated e w).ckptSlot e j := by
    rw [Device.moved, Device.doMove_ckpt _ _ _ _ hmv, hreg]
    rfl
  rw [part_moved_engIssue w hland Engine.ckpts fun _ => rfl, hmoved,
    Device.ckpts_ckptSlot (Readable.calculated w hland) (slotAxis_calculated j) hnone, own_calculated Engine.ckpts fun _ => rfl,
    own_calculated Engine.beatOf fun _ => rfl, own_calculated Engine.dmem fun _ => rfl, own_calculated Engine.issued fun _ => rfl,
    clk_calculated]

/-- BLD and BST start a transfer (R150). -/
theorem bulk_engIssue {op p r rl : Nat} (hop : op = 14 ∨ op = 15) (hmv : mvOp (mvOf w) = op) (hptr : bits (mvOf w) 16 3 = p)
    (hreg : bits (mvOf w) 11 5 = r) (hlen : bits (mvOf w) 6 5 = rl) (hsound : Claims.sound s.dev e) :
    let n := (Claims.reg s e rl).toNat % 512
    let mem := (List.range n).map (fun i => Claims.wordAt s e p i)
    (((s.dev.engLand e).engIssue e w).eng e).bulk = some
      { load := op == 14, mem := mem, dev := (Claims.reg s e r).toNat,
        data := if op = 15 then mem.map (fun x => (Claims.atIssue s.dev e).dmem.pick 0 x) else [], at_ := s.dev.clk.now } := by
  intro n mem
  have hland := sound_engLand hsound
  have hbulk := Device.bulk_bulkStart (Readable.calculated w hland) (Claims.atIssue s.dev e).bank (mvOf w) (Claims.atIssue s.dev e)
  rw [hmv, hptr, hreg, hlen, own_calculated Engine.dmem fun _ => rfl, clk_calculated] at hbulk
  rw [part_moved_engIssue w hland Engine.bulk fun _ => rfl, Device.moved, Device.doMove_bulk _ _ _ _ (by rwa [hmv])]
  exact hbulk

/-- HBEAT (R164): its words, what is noted of them, and the message of wrong ones. -/
theorem hbeat_engIssue {r : Nat} (hmv : mvOp (mvOf w) = 13) (hreg : bits (mvOf w) 14 5 = r) (hsound : Claims.sound s.dev e) :
    let a := Claims.atIssue s.dev e
    let lo := Claims.reg s e (r / 2 * 2)
    let hi := Claims.reg s e (r / 2 * 2 + 1)
    let d := (s.dev.engLand e).engIssue e w
    let good := decide (lo.toNat = a.beatOf % 2 ^ 32) && decide (hi = s.dev.rd (DV_SIG e))
    d.rd (DV_HB e) = lo ∧ d.rd (DV_HB e + 4) = hi ∧ (d.eng e).hbs.head? = some (a.beatOf, b2n (good && s.dev.hbInTime a.beatOf)) ∧
      (good = false → d.waits 3 e 4) := by
  intro a lo hi d good
  have hland := sound_engLand hsound
  have hmoved : (s.dev.engLand e).moved e w = ((s.dev.engLand e).calculated e w).hbeat e lo hi := by
    rw [Device.moved, Device.doMove_hbeat _ _ _ _ hmv, hreg, align_eq]
    rfl
  have hinj : ((s.dev.engLand e).calculated e w).injPending 3 e 4 = false :=
    (Device.injPending_of_regs regs_calculated (not_shownReg_injStatus e 3 e 4)).trans (injPending_heartbeat hsound)
  have hgood : ((s.dev.engLand e).calculated e w).hbGood e lo hi = good := by
    rw [Device.hbGood, own_calculated Engine.beatOf fun _ => rfl,
      regs_calculated (DV_SIG e) (by simp only [shownReg, DV_SIG, DV_STATUS, DV_STICKY]; omega)]
  have htime : ((s.dev.engLand e).calculated e w).hbInTime a.beatOf = s.dev.hbInTime a.beatOf :=
    Device.hbInTime_of_regs clk_calculated regs_calculated (by simp only [CV_CTRL, shownReg, DV_STATUS, DV_STICKY]; omega) _
  obtain ⟨hlo, hhi, hnoted, hwaits⟩ := Device.hbeat_words hinj lo hi
  rw [← hmoved] at hlo hhi hnoted hwaits
  rw [hgood, own_calculated Engine.beatOf fun _ => rfl, htime] at hnoted
  rw [hgood] at hwaits
  have hend := Keeps.moved_engIssue w hland
  refine ⟨?_, ?_, ?_, fun h => (hwaits h).engIssue (Device.injPending_moved w hland)⟩
  · exact (hend.regs _ (by simp only [DV_HB, DV_STATUS]; omega)).trans hlo
  · exact (hend.regs _ (by simp only [DV_HB, DV_STATUS]; omega)).trans hhi
  · rw [part_moved_engIssue w hland Engine.hbs fun _ => rfl]
    exact hnoted

end Unit

end Sys2Proof
end

section
/-! LEDG (R351) and MBXS (R497) to the end of their word. -/

namespace Sys2Proof

open Sys2Proof.Machine

namespace Machine

/-- The message of LEDG (R351). -/
def ledgMsg (lo : BitVec 32) (hi now : Nat) : LMsg :=
  ⟨bits hi 28 4, bits hi 20 8, bits hi 12 8, lo, bit hi 0, bit hi 1, bit hi 2, 0, now⟩

theorem Device.ledger_ledgSend (d : Device) (lo hi : BitVec 32) : (d.ledgSend lo hi).ledger =
    if 1 ≤ bits hi.toNat 12 8 ∧ bits hi.toNat 12 8 ≤ lgKinds (bits hi.toNat 28 4) then
      { d.ledger with waiting := addMsg (ledgMsg lo hi.toNat d.clk.now) d.ledger.waiting }
    else d.ledger := by
  unfold Device.ledgSend
  extract_lets h m
  by_cases hl : 1 ≤ bits hi.toNat 12 8 ∧ bits hi.toNat 12 8 ≤ lgKinds (bits hi.toNat 28 4)
  · have hsend : ¬ (m.kind = 0 ∨ lgKinds m.cls < m.kind) := by
      simp only [m, h]
      omega
    rw [if_pos hl, if_neg hsend]
    rfl
  · have hdrop : m.kind = 0 ∨ lgKinds m.cls < m.kind := by
      simp only [m, h]
      omega
    rw [if_neg hl, if_pos hdrop]

/-- A transfer in progress holds BSYNC (R147). -/
theorem Device.engCan_bsync {d : Device} {e : Nat} {w : BitVec 64} (hmv : mvOp (mvOf w) = 16) :
    d.engCan e w = true → (d.eng e).bulk = none := by
  intro h
  simp only [Device.engCan, hmv, Bool.and_eq_true] at h
  obtain ⟨-, hbulk⟩ := h
  simpa using hbulk

end Machine

section Unit
variable {s : State} {e : Fin 28} {w : BitVec 64}

/-- LEDG sends its message, if R354 lists its KIND (R351). -/
theorem ledg_engIssue {r : Nat} (hop : aluOp (aluOf w) ≠ 27) (hmv : mvOp (mvOf w) = 17) (hreg : bits (mvOf w) 14 5 = r) :
    let lo := Claims.reg s e (r / 2 * 2)
    let hi := Claims.reg s e (r / 2 * 2 + 1)
    ((s.dev.engLand e).engIssue e w).ledger =
      if 1 ≤ bits hi.toNat 12 8 ∧ bits hi.toNat 12 8 ≤ lgKinds (bits hi.toNat 28 4) then
        { s.dev.ledger with waiting := addMsg (ledgMsg lo hi.toNat s.dev.clk.now) s.dev.ledger.waiting }
      else s.dev.ledger := by
  intro lo hi
  have hmoved : (s.dev.engLand e).moved e w = ((s.dev.engLand e).calculated e w).ledgSend lo hi := by
    rw [Device.moved, Device.doMove_ledg _ _ _ _ hmv, hreg, align_eq]
    rfl
  have hend : ((s.dev.engLand e).engIssue e w).ledger = ((s.dev.engLand e).moved e w).ledger :=
    Device.ledger_of_besides (Keeps.ended_besides (d := s.dev.engLand e) (e := e) hop).block
  have hledger : ((s.dev.engLand e).calculated e w).ledger = s.dev.ledger := Device.ledger_of_besides besides_calculated
  rw [hend, hmoved, Device.ledger_ledgSend, clk_calculated, hledger]

/-- MBXS puts its descriptor on Q15, or loses it where the queue is full (R497). -/
theorem mbxs_engIssue (hop : aluOp (aluOf w) ≠ 27) (hmv : mvOp (mvOf w) = 18) :
    let d := (s.dev.engLand e).engIssue e w
    (s.dev.qFull 15 = true → d.get (QU_LOST_COUNT 15) = satU 32 (s.dev.get (QU_LOST_COUNT 15) + 1) ∧ d.bulk = s.dev.bulk) ∧
    (s.dev.qFull 15 = false → d.rdN (QU_SEQ 15) = (s.dev.rdN (QU_SEQ 15) + 1) % 2 ^ 32 ∧
      d.get (QU_STATUS_FILL 15) = (s.dev.get (QU_STATUS_FILL 15) + 1) % 2 ^ 13) ∧
    sameRegs s.dev d (fun x => x = DV_STATUS e ∨ x = DV_STICKY e ∨ queueReg x) := by
  intro d
  have hregs := regs_calculated (s := s) (e := e) (w := w)
  have hqueue {a : Nat} (ha : queueReg a) : ((s.dev.engLand e).calculated e w).rd a = s.dev.rd a := hregs a <| by
    simp only [queueReg] at ha
    simp only [shownReg, DV_STATUS, DV_STICKY]
    omega
  have hfull : ((s.dev.engLand e).calculated e w).qFull 15 = s.dev.qFull 15 := Device.qFull_congr
    (congrArg (fun x => x.2.qOcc) besides_calculated) (hqueue (by simp only [queueReg, QU_CFG]; omega))
  obtain ⟨kind, ref, data, hmoved⟩ : ∃ kind ref data, (s.dev.engLand e).moved e w =
      ((s.dev.engLand e).calculated e w).qPut 15 kind (e + 256) ref data :=
    ⟨_, _, _, Device.doMove_mbxs _ _ _ _ hmv⟩
  have hend := Keeps.ended_besides (d := s.dev.engLand e) (e := e) hop
  have hkept {a : Nat} (ha : queueReg a) : d.rd a = ((s.dev.engLand e).moved e w).rd a := hend.regs a <| by
    simp only [queueReg] at ha
    simp only [DV_STATUS]
    omega
  have hget {f : Fld} (hf : queueReg f.addr) : d.get f = ((s.dev.engLand e).moved e w).get f := by rw [Device.get, hkept hf, Device.get]
  have hget' {f : Fld} (hf : queueReg f.addr) : ((s.dev.engLand e).calculated e w).get f = s.dev.get f := by
    rw [Device.get, hqueue hf, Device.get]
  have hseq : queueReg (QU_SEQ 15) := by simp only [queueReg, QU_SEQ]; omega
  have hlost : queueReg (QU_LOST_COUNT 15).addr := by simp only [queueReg, QU_LOST_COUNT, QU_LOST]; omega
  have hfill : queueReg (QU_STATUS_FILL 15).addr := by simp only [queueReg, QU_STATUS_FILL, QU_STATUS]; omega
  refine ⟨fun h => ⟨?_, ?_⟩, fun h => ?_, ?_⟩
  · rw [hget hlost, hmoved, Device.qPut, if_pos (hfull.trans h), Device.get_lost_qLose, hget' hlost]
  · rw [show d.bulk = _ from Device.bulk_of_besides hend.block, hmoved, Device.qPut, if_pos (hfull.trans h), Device.bulk_qLose,
      bulk_calculated]
  · have hroom : ¬ ((s.dev.engLand e).calculated e w).qFull 15 = true := by
      rw [hfull, h]
      decide
    obtain ⟨hnext, hone⟩ := Device.qAdd_counts (d := (s.dev.engLand e).calculated e w) (q := 15) kind (e + 256) ref data
    rw [hget hfill, Device.rdN, hkept hseq, hmoved, Device.qPut, if_neg hroom]
    exact ⟨hnext.trans (by rw [Device.rdN, hqueue hseq, Device.rdN]), hone.trans (by rw [hget' hfill])⟩
  · have hput : sameRegs ((s.dev.engLand e).calculated e w) ((s.dev.engLand e).moved e w) queueReg :=
      hmoved ▸ sameRegs.qPut _ 15 _ _ _ _ (by decide)
    exact ((hregs.mono fun _ h => h.elim .inl fun h => .inr (.inl h)).trans (hput.mono fun _ h => .inr (.inr h))).trans
      (hend.regs.mono fun _ h => .inl h)

end Unit

end Sys2Proof
end

section
/-! BSYNC (R147, R150); the move slot's operations on units. -/

namespace Sys2Proof

open Sys2Proof.Machine


section Unit
variable {s : State} {e : Fin 28} {w : BitVec 64} {c : Instr} (hr : s.dev.inReset = false)
  (hc : exec c s = .next (s.onDev fun d => d.issue e w)) (hmv : mvOp (mvOf w) = 16)
include hr hc hmv

/-- BSYNC without a transfer in progress does nothing (R150). -/
theorem leads_bsync (hmac : macOp (macOf w) = 0) (halu : aluOp (aluOf w) = 0) (hi : Claims.issues s.dev e w)
    (hb : (Claims.atIssue s.dev e).branch = none) :
    (Claims.atIssue s.dev e).bulk = none ∧ leads c s (fun d => Claims.quietWord s e d (fun _ => False)) := by
  refine ⟨Device.engCan_bsync hmv (engCan_of_issues hi), leads_still hr hc hi ?_ (by omega) hb⟩
  rw [Device.moved, Device.doMove_bsync _ _ _ _ hmv, Device.calculated_nop hmac halu]

/-- BSYNC waits while a transfer is in progress (R147). -/
theorem leads_bsync_waits (hsound : Claims.sound s.dev e) (hlive : s.dev.engLive e = true) (hevent : s.dev.eventDue e = false)
    (hfetch : s.dev.fetches e w = true) (hhalt : (s.dev.engLand e).haltCode e w = 0)
    (hbulk : (Claims.atIssue s.dev e).bulk.isSome = true) :
    leads c s (fun d => d.eng e = { Claims.atIssue s.dev e with waiting := some w }) := by
  have hcan : (s.dev.engLand e).engCan e w = false := Bool.eq_false_iff.mpr fun h => by
    have hnone : (Claims.atIssue s.dev e).bulk = none := Device.engCan_bsync hmv h
    rw [hnone] at hbulk
    exact absurd hbulk (by decide)
  exact leads_waiting hc hr hsound hlive hevent hfetch hhalt hcan Device.eng_holdWord

end Unit

/-- Settles O21: each operation by what its move slot does, which the end of its word keeps. -/
theorem unitOperationsOfTheMoveSlot : Obligations.UnitOperationsOfTheMoveSlot := by
  unfold Obligations.UnitOperationsOfTheMoveSlot
  intro s e r hr a j k lo hi
  have hsrc {op x : Nat} (hop : op < 32) (hx : x < 32) (mac alu : BitVec 20) :
      aluOf (wordOf mac.toNat alu.toNat (srcSlot op x)) = alu.toNat ∧ mvOp (mvOf (wordOf mac.toNat alu.toNat (srcSlot op x))) = op ∧
        bits (mvOf (wordOf mac.toNat alu.toNat (srcSlot op x))) 14 5 = x := by
    obtain ⟨hlt, hmop, hreg⟩ := srcSlot_fields hop ⟨x, hx⟩
    rw [aluOf_wordOf mac.isLt alu.isLt hlt, mvOf_wordOf mac.isLt alu.isLt hlt]
    exact ⟨rfl, hmop, hreg⟩
  refine ⟨fun mac alu hi h27 hb hk hstaged hcarry himage => ?_, fun mac alu hi hk => ?_, fun mac alu hi => ?_, fun p rl mac alu => ?_,
    fun hi hb => ?_, fun mac alu hsound hlive hevent hfetch hhalt hbulk => ?_, fun mac alu hi h27 => ?_, fun mac alu hi h27 hb => ?_⟩
  · obtain ⟨halu, hmv, hreg⟩ := hsrc (op := 11) (by decide) r.isLt mac alu
    exact leads_issue (w := wordOf mac.toNat alu.toNat (srcSlot 11 r)) rfl hr hi
      (stage_engIssue (by rwa [halu]) hb hmv hreg hk hstaged hcarry himage)
  · obtain ⟨-, hmv, hreg⟩ := hsrc (op := 12) (by decide) r.isLt mac alu
    exact leads_issue (w := wordOf mac.toNat alu.toNat (srcSlot 12 r)) rfl hr hi (ckpt_engIssue hmv hreg hi.1 hk)
  · obtain ⟨-, hmv, hreg⟩ := hsrc (op := 13) (by decide) r.isLt mac alu
    exact leads_issue (w := wordOf mac.toNat alu.toNat (srcSlot 13 r)) rfl hr hi (hbeat_engIssue hmv hreg hi.1)
  · intro n mem
    have hslot {op : Nat} (hop : op < 32) : mvOp (mvOf (wordOf mac.toNat alu.toNat (bulkSlot op p r rl))) = op ∧
        bits (mvOf (wordOf mac.toNat alu.toNat (bulkSlot op p r rl))) 16 3 = p ∧
        bits (mvOf (wordOf mac.toNat alu.toNat (bulkSlot op p r rl))) 11 5 = r ∧
        bits (mvOf (wordOf mac.toNat alu.toNat (bulkSlot op p r rl))) 6 5 = rl := by
      obtain ⟨hlt, hfields⟩ := bulkSlot_fields hop p r rl
      rw [mvOf_wordOf mac.isLt alu.isLt hlt]
      exact hfields
    constructor
    · intro hi
      obtain ⟨hmv, hptr, hreg, hlen⟩ := hslot (op := 14) (by decide)
      exact leads_issue (w := wordOf mac.toNat alu.toNat (bulkSlot 14 p r rl)) rfl hr hi
        (bulk_engIssue (.inl rfl) hmv hptr hreg hlen hi.1)
    · intro hi
      obtain ⟨hmv, hptr, hreg, hlen⟩ := hslot (op := 15) (by decide)
      exact leads_issue (w := wordOf mac.toNat alu.toNat (bulkSlot 15 p r rl)) rfl hr hi
        (bulk_engIssue (.inr rfl) hmv hptr hreg hlen hi.1)
  · obtain ⟨hlt, hmop, -⟩ := srcSlot_fields (op := 16) (by decide) 0
    obtain ⟨hmac, halu, hmv⟩ := moveWord_fields hlt
    exact leads_bsync (w := wordOf 0 0 (srcSlot 16 0)) hr rfl (by rw [← hmop]; exact congrArg mvOp hmv) hmac halu hi hb
  · obtain ⟨-, hmv, -⟩ := hsrc (op := 16) (by decide) (x := 0) (by decide) mac alu
    exact leads_bsync_waits (w := wordOf mac.toNat alu.toNat (srcSlot 16 0)) hr rfl hmv hsound hlive hevent hfetch hhalt hbulk
  · obtain ⟨halu, hmv, hreg⟩ := hsrc (op := 17) (by decide) r.isLt mac alu
    have hledger := ledg_engIssue (s := s) (e := e) (w := wordOf mac.toNat alu.toNat (srcSlot 17 r)) (by rwa [halu]) hmv hreg
    intro listed
    refine ⟨fun hl => leads_issue (w := wordOf mac.toNat alu.toNat (srcSlot 17 r)) rfl hr hi ?_,
      fun hl => leads_issue (w := wordOf mac.toNat alu.toNat (srcSlot 17 r)) rfl hr hi ?_⟩
    · exact congrArg Ledger.waiting (hledger.trans (if_pos hl))
    · exact hledger.trans (if_neg hl)
  · obtain ⟨halu, hmv, -⟩ := hsrc (op := 18) (by decide) (x := 0) (by decide) mac alu
    exact leads_issue (w := wordOf mac.toNat alu.toNat (srcSlot 18 0)) rfl hr hi (mbxs_engIssue (by rwa [halu]) hmv)

end Sys2Proof
end

section
/-! Direct feedback ports (R178–R189): a port changed and read back, and the copies of its pins by the ports in MODE 6 (R188). -/

namespace Sys2Proof

open Sys2Proof.Machine
open Claims (samePorts)

namespace Machine

/-! ### A port changed -/

section Rules
variable (d : Device) (p : Nat) (f : FbPort → FbPort)

@[simp] theorem Device.get_setPort (g : Fld) : (d.setPort p f).get g = d.get g := rfl

@[simp] theorem Device.port_setPort_same : (d.setPort p f).port p = f (d.port p) := Store.pick_upd_same d.ports {} p f

theorem Device.port_setPort_other {j : Nat} (h : j ≠ p) : (d.setPort p f).port j = d.port j := Store.pick_upd_other d.ports {} p j f h

theorem Device.port_congr {d e : Device} (h : e.ports = d.ports) (j : Nat) : e.port j = d.port j := by
  simp only [Device.port, h]

end Rules

/-! ### The ports in MODE 6 copy (R188) -/

/-- Between the blocks only the lines of ports in MODE 6 differ. -/
structure Copies (d e : Device) : Prop where
  port : ∀ j, e.port j = { d.port j with lines := if d.portMode j = 6 then (e.port j).lines else (d.port j).lines }
  rest : { e with ports := d.ports } = d

namespace Copies
variable {d e f : Device}

theorem refl (d : Device) : Copies d d := ⟨fun j => by rw [ite_self], rfl⟩

theorem portMode (h : Copies d e) (j : Nat) : e.portMode j = d.portMode j := by
  rw [Device.portMode, h.port j, Device.portMode]

/-- A port in another mode is the same. -/
theorem port_of_mode (h : Copies d e) {j : Nat} (hj : d.portMode j ≠ 6) : e.port j = d.port j := by
  rw [h.port j, if_neg hj]

theorem trans (h : Copies d e) (g : Copies e f) : Copies d f where
  port j := by
    by_cases hj : d.portMode j = 6
    · rw [if_pos hj, g.port j, h.portMode, if_pos hj, h.port j]
    · rw [if_neg hj, g.port_of_mode (by rwa [h.portMode]), h.port_of_mode hj]
  rest := (congrArg (fun x : Device => { x with ports := d.ports }) g.rest).trans h.rest

theorem foldl {g : Device → Nat → Device} (hg : ∀ d i, Copies d (g d i)) (l : List Nat) : ∀ d, Copies d (l.foldl g d) := by
  induction l with
  | nil => exact refl
  | cons i l ih => exact fun d => (hg d i).trans (ih _)

/-- The pin levels of a port that copies none. -/
theorem pinLevels (h : Copies d e) {j : Nat} (hj : d.portMode j ≠ 6) : e.pinLevels j = d.pinLevels j := by
  rw [Device.pinLevels, h.portMode, h.port_of_mode hj, Device.pinLevels]

theorem samePorts (h : Copies d e) (p : Nat) : samePorts d e p := fun j _ => h.port j

end Copies

/-- Port `j` takes the levels of its source, if it is in MODE 6. -/
def Device.passOne (d : Device) (j : Nat) : Device :=
  if bits (d.port j).ctrl.toNat 0 3 = 6 ∧ bits (d.port j).ctrl.toNat 16 4 ≠ j ∧
      (d.port j).lines ≠ d.pinLevels (bits (d.port j).ctrl.toNat 16 4) then
    d.setPort j fun s => { s with lines := d.pinLevels (bits (d.port j).ctrl.toNat 16 4) }
  else d

theorem Device.passCopy_succ (d : Device) (n : Nat) : d.passCopy (n + 1) = ((List.range 16).foldl Device.passOne d).passCopy n := rfl

theorem Copies.passOne (d : Device) (i : Nat) : Copies d (d.passOne i) := by
  unfold Device.passOne
  split
  next h =>
    refine ⟨fun j => ?_, rfl⟩
    by_cases hj : j = i
    · subst hj
      have hmode : d.portMode j = 6 := h.1
      rw [Device.port_setPort_same, if_pos hmode]
    · rw [Device.port_setPort_other _ _ _ hj, ite_self]
  next => exact .refl d

theorem Copies.passCopy (n : Nat) : ∀ d : Device, Copies d (d.passCopy n) := by
  induction n with
  | zero => exact .refl
  | succ n ih => exact fun d => (Copies.foldl .passOne _ d).trans (ih _)

theorem Copies.passAll (d : Device) : Copies d d.passAll := by
  unfold Device.passAll
  split
  · exact .passCopy 16 d
  · exact .refl d

/-! A copy of a port that copies none stands after one round, and every later one keeps it. -/

section Source
variable {d e : Device} {j src : Nat} (hj : d.portMode j = 6) (hsrc : bits (d.port j).ctrl.toNat 16 4 = src)
  (hne : src ≠ j) (hmode : d.portMode src ≠ 6)
include hj hsrc hne hmode

theorem Device.lines_passOne_same (h : Copies d e) : ((e.passOne j).port j).lines = d.pinLevels src := by
  have hctrl : (e.port j).ctrl = (d.port j).ctrl := by rw [h.port j]
  have hm : bits (e.port j).ctrl.toNat 0 3 = 6 := (h.portMode j).trans hj
  have hpin := h.pinLevels hmode
  unfold Device.passOne
  rw [hctrl, hsrc, hpin]
  rw [hctrl] at hm
  by_cases hl : (e.port j).lines = d.pinLevels src
  · rw [if_neg (by simp [hl]), hl]
  · rw [if_pos ⟨hm, hne, hl⟩, Device.port_setPort_same]

theorem Device.lines_passOne (h : Copies d e) (he : (e.port j).lines = d.pinLevels src) (i : Nat) :
    ((e.passOne i).port j).lines = d.pinLevels src := by
  by_cases hi : i = j
  · subst hi
    exact Device.lines_passOne_same hj hsrc hne hmode h
  · unfold Device.passOne
    split
    · rw [Device.port_setPort_other _ _ _ (Ne.symm hi), he]
    · exact he

theorem Device.lines_foldl_passOne (l : List Nat) : ∀ e, Copies d e → (e.port j).lines = d.pinLevels src ∨ j ∈ l →
    ((l.foldl Device.passOne e).port j).lines = d.pinLevels src := by
  induction l with
  | nil => exact fun e _ h => h.resolve_right List.not_mem_nil
  | cons i l ih =>
    intro e h he
    refine ih _ (h.trans (.passOne e i)) ?_
    by_cases hi : j = i
    · subst hi
      exact .inl (Device.lines_passOne_same hj hsrc hne hmode h)
    · exact he.imp (fun he => Device.lines_passOne hj hsrc hne hmode h he i) fun he => (List.mem_cons.mp he).resolve_left hi

theorem Device.lines_passCopy (n : Nat) : ∀ e, Copies d e → (e.port j).lines = d.pinLevels src →
    ((e.passCopy n).port j).lines = d.pinLevels src := by
  induction n with
  | zero => exact fun _ _ he => he
  | succ n ih =>
    exact fun e h he => ih _ (h.trans (.foldl .passOne _ e)) (Device.lines_foldl_passOne hj hsrc hne hmode _ e h (.inl he))

/-- A port in MODE 6 shows the pin levels of a source that copies none. -/
theorem Device.lines_passAll (h16 : j < 16) : (d.passAll.port j).lines = d.pinLevels src := by
  have hany : (List.range 16).any (fun i => d.portMode i == 6) = true :=
    List.any_eq_true.mpr ⟨j, List.mem_range.mpr h16, by simp [hj]⟩
  have hround := Device.lines_foldl_passOne hj hsrc hne hmode (List.range 16) d (.refl d) (.inr (List.mem_range.mpr h16))
  rw [Device.passAll, if_pos hany, Device.passCopy_succ]
  exact Device.lines_passCopy hj hsrc hne hmode 15 _ (.foldl .passOne _ d) hround

end Source

/-! ### One port changed, and what copies it -/

/-- `e` is `d` with port `p` as `q`, and with the lines of the ports in MODE 6 that copy it. -/
structure PortAs (d e : Device) (p : Nat) (q : FbPort) : Prop where
  own : e.port p = q
  others : samePorts d e p
  rest : { e with ports := d.ports } = d

namespace PortAs
variable {d e : Device} {p : Nat} {q : FbPort}

theorem refl (d : Device) (p : Nat) : PortAs d d p (d.port p) := ⟨rfl, fun j _ => by rw [ite_self], rfl⟩

theorem setPort (h : PortAs d e p q) (f : FbPort → FbPort) : PortAs d (e.setPort p f) p (f q) where
  own := by rw [Device.port_setPort_same, h.own]
  others j hj := by
    rw [Device.port_setPort_other _ _ _ hj]
    exact h.others j hj
  rest := h.rest

/-- A port that copies none keeps its state while the others copy. -/
theorem passAll (h : PortAs d e p q) (hq : bits q.ctrl.toNat 0 3 ≠ 6) : PortAs d e.passAll p q where
  own := by rw [(Copies.passAll e).port_of_mode (by rwa [Device.portMode, h.own]), h.own]
  others j hj := by
    have hmode : e.portMode j = d.portMode j := by rw [Device.portMode, h.others j hj, Device.portMode]
    rw [(Copies.passAll e).port j, hmode, h.others j hj]
    split <;> rfl
  rest := (congrArg (fun x : Device => { x with ports := d.ports }) (Copies.passAll e).rest).trans h.rest

/-- The levels on a port's pins change where `mask` has a bit. -/
theorem pinsSet (h : PortAs d e p q) (hq : bits q.ctrl.toNat 0 3 ≠ 6) (mask levels : Nat) :
    PortAs d (e.pinsSet p mask levels) p { q with pins := andN q.pins (7 - mask) + andN levels mask } :=
  (h.setPort _).passAll hq

/-- A part of the block in which no port shows is the same. -/
theorem part {α : Type} (h : PortAs d e p q) (g : Device → α) (hg : ∀ x ports, g { x with ports := ports } = g x) : g e = g d :=
  (hg e _).symm.trans (congrArg g h.rest)

theorem clk (h : PortAs d e p q) : e.clk = d.clk := h.part Device.clk fun _ _ => rfl
theorem regs (h : PortAs d e p q) : e.regs = d.regs := h.part Device.regs fun _ _ => rfl

end PortAs

end Machine
end Sys2Proof
end

section
/-! The ports beside the commands that reach them: milestones, latch units and planners leave every port alone. -/

namespace Sys2Proof

open Sys2Proof.Machine

namespace Machine

/-- Between the blocks no port differs. -/
structure Apart (d e : Device) : Prop where
  ports : e.ports = d.ports

namespace Apart
variable {d e f : Device}

theorem refl (d : Device) : Apart d d := ⟨rfl⟩

theorem trans (h : Apart d e) (g : Apart e f) : Apart d f := ⟨g.ports.trans h.ports⟩

theorem ite {p : Prop} [Decidable p] (h : Apart d e) (g : Apart d f) : Apart d (if p then e else f) := by
  split
  · exact h
  · exact g

/-- The two outcomes of a change that is accepted or not. -/
theorem resIte {p : Prop} [Decidable p] {a b : Res} (h : Apart d a.2) (g : Apart d b.2) : Apart d (if p then a else b).2 := by
  split
  · exact h
  · exact g

theorem foldl {α : Type} {g : Device → α → Device} (hg : ∀ d x, Apart d (g d x)) (l : List α) (d : Device) : Apart d (l.foldl g d) :=
  ⟨foldl_part Device.ports (fun b x => (hg b x).ports) l d⟩

theorem of_units (h : unitsOf e = unitsOf d) : Apart d e := by
  have hports := congrArg Device.ports h
  exact ⟨hports⟩

theorem of_otherUnits (h : otherUnits e = otherUnits d) : Apart d e := by
  have hports := congrArg Device.ports h
  exact ⟨hports⟩

theorem of_unitsButMiles (h : unitsButMiles e = unitsButMiles d) : Apart d e := by
  have hports := congrArg Device.ports h
  exact ⟨hports⟩

/-! ### What each part of the block is changed by -/

section Parts
variable (d : Device)

theorem put (f : Fld) (v : Nat) : Apart d (d.put f v) := ⟨rfl⟩
theorem raise (f : Fld) : Apart d (d.raise f) := ⟨rfl⟩
theorem msg (c i k x : Nat) (j r : Bool) : Apart d (d.msg c i k x j r) := ⟨rfl⟩
theorem livePut (f : Fld) (v : Nat) : Apart d (d.livePut f v) := ⟨rfl⟩
theorem liveWrS64 (a : Nat) (i : Int) : Apart d (d.liveWrS64 a i) := ⟨rfl⟩
theorem liveWr (a n : Nat) : Apart d (d.liveWr a n) := ⟨rfl⟩
theorem setPl (k : Nat) (f : Planner → Planner) : Apart d (d.setPl k f) := ⟨rfl⟩
theorem setPlState (k st : Nat) : Apart d (d.setPlState k st) := ⟨rfl⟩
theorem setCy (c : Nat) (f : Convoy → Convoy) : Apart d (d.setCy c f) := ⟨rfl⟩
theorem setCyState (c st : Nat) : Apart d (d.setCyState c st) := ⟨rfl⟩
theorem setAx (k : Nat) (f : AxisCtl → AxisCtl) : Apart d (d.setAx k f) := ⟨rfl⟩
theorem setAxState (k st : Nat) : Apart d (d.setAxState k st) := ⟨rfl⟩
theorem setFb (k : Nat) (f : FbUnit → FbUnit) : Apart d (d.setFb k f) := ⟨rfl⟩
theorem setSrc (k w : Nat) (f : FbSrc → FbSrc) : Apart d (d.setSrc k w f) := ⟨rfl⟩
theorem setLt (u : Nat) (f : Latch → Latch) : Apart d (d.setLt u f) := ⟨rfl⟩

end Parts

/-! ### Injections, milestones and latch units -/

theorem injTake {c i k : Nat} {x : Nat × Device} (h : d.injTake c i k = some x) : Apart d x.2 := of_units (unitsOf_injTake d c i k x h)

/-- A detection whose local effects touch no port. -/
theorem detect (d : Device) (c i k : Nat) (real : Bool) (x : Nat) {eff : Device → Device} (r : Bool) (he : ∀ e, Apart e (eff e)) :
    Apart d (d.detect c i k real x eff r) := by
  unfold Device.detect
  split
  · exact (he d).trans (msg _ _ _ _ _ _ _)
  · split
    next dt d1 h => exact ((injTake h).trans (he d1)).trans (msg _ _ _ _ _ _ _)
    next => exact refl d

section Milestones
variable (d : Device) (m : Nat)

theorem setMs (f : Milestone → Milestone) : Apart d (d.setMs m f) := .of_unitsButMiles (unitsButMiles_setMs d m f)

theorem msEvent (kind : Nat) (e : MsEntry) (stamp : Nat) (l s g : Bool) : Apart d (d.msEvent m kind e stamp l s g) :=
  .of_unitsButMiles (unitsButMiles_msEvent d m kind e stamp l s g)

theorem msRethresh : Apart d (d.msRethresh m) := .of_unitsButMiles (d.unitsButMiles_msRethresh m)

theorem msSourceMoved (k : Nat) : Apart d (d.msSourceMoved k) := .of_unitsButMiles (d.unitsButMiles_msSourceMoved k)

theorem msLost (k : Nat) : Apart d (d.msLost k) :=
  .foldl (fun b m => .of_unitsButMiles (unitsButMiles_msWithdraw b m 0)) _ d

theorem ltEdge (u : Nat) (falling : Bool) (age : Nat) : Apart d (d.ltEdge u falling age) := by
  unfold Device.ltEdge
  extract_lets s e st d0 vals
  have h0 : Apart d d0 := ⟨rfl⟩
  exact .ite (.refl d) (.ite (h0.trans ⟨rfl⟩) (h0.trans (setLt d0 u _)))

theorem ltSource (kind id : Nat) (falling : Bool) (age : Nat) : Apart d (d.ltSource kind id falling age) :=
  .foldl (fun b u => ltEdge b u falling _) _ d

theorem msDrop (seq : Nat) : Apart d (d.msDrop m seq) := by
  unfold Device.msDrop
  extract_lets s l d1 d2
  have h1 : Apart d d1 := setMs d m _
  have h2 : Apart d d2 := .ite (h1.trans (raise d1 _)) h1
  exact .ite (h2.trans (raise d2 _)) h2

theorem msPulse : Apart d (d.msPulse m) := by
  unfold Device.msPulse
  extract_lets d1
  have h1 : Apart d d1 := setMs d m _
  have h2 : Apart d1 ((d1.wr64 (MS_LAST m) d1.stamp).put (MS_FIRED_COUNT m) (d1.get (MS_FIRED_COUNT m) + 1)) := ⟨rfl⟩
  exact (h1.trans h2).trans (ltSource _ 3 m false 0)

theorem msFire (e : MsEntry) (falling late sampled verify : Bool) : Apart d (d.msFire m e falling late sampled verify) := by
  unfold Device.msFire
  extract_lets merged d1 d2 d3
  have h1 : Apart d d1 := (msPulse d m).trans (raise _ _)
  have h2 : Apart d d2 := .ite (h1.trans (raise d1 _)) h1
  have h3 : Apart d d3 := .ite (h2.trans (setMs d2 m _)) (.ite (h2.trans (msEvent d2 m ..)) h2)
  exact h3.trans (msDrop d3 m _)

theorem msArm (n : Nat) : ∀ d : Device, Apart d (d.msArm m n) := by
  induction n with
  | zero => exact .refl
  | succ n ih =>
    intro d
    unfold Device.msArm
    extract_lets s
    refine .ite (.refl d) ?_
    split
    next => exact .refl d
    next e tl hl =>
      generalize e.behind (d.msPos m) = x
      exact .ite (.ite ((msFire d m ..).trans (ih _)) (((msEvent d m ..).trans (msDrop _ m _)).trans (ih _))) (setMs d m _)

theorem msArmAll : Apart d (d.msArmAll m) := msArm m 1025 d

theorem msSchedule (e : MsEntry) (falling : Bool) (t : Int) (cross : Nat) (late : Bool) :
    Apart d (d.msSchedule m e falling t cross late) := by
  unfold Device.msSchedule
  exact .ite (msFire d m ..) (setMs d m _)

theorem msExact : Apart d (d.msExact m) := by
  unfold Device.msExact
  refine .ite (.refl d) ?_
  extract_lets s
  split
  next => exact .ite ((msSchedule d m ..).trans (msArmAll _ m)) (.refl d)
  next => exact .refl d

theorem msEdge : Apart d d.msEdge := by
  refine .foldl (fun b m => ?_) _ d
  exact .ite (.refl b) (msExact b m)

theorem msVerify : Apart d (d.msVerify m) := by
  unfold Device.msVerify
  extract_lets x s
  refine (setMs d m _).trans (.foldl (fun b f => ?_) _ _)
  extract_lets lost
  have hlost : ∀ e, Apart e (lost e) := fun e => msEvent e m ..
  refine .ite ((hlost b).trans (msg _ _ _ _ _ _ _)) ?_
  split
  next dt d1 h => exact ((injTake h).trans (hlost d1)).trans (msg _ _ _ _ _ _ _)
  next => exact .ite (msEvent b m ..) (.refl b)

theorem msShown : Apart d (d.msShown m) := by
  unfold Device.msShown
  extract_lets s
  split
  · exact .ite ((msFire d m ..).trans (msArmAll _ m)) (.refl d)
  · exact .refl d

theorem msReplace (plan : List (MsEntry × Nat × Bool)) (keep : MsPulse → Bool) : Apart d (d.msReplace m plan keep) := by
  unfold Device.msReplace
  extract_lets s boundary gone d1 d2
  have h1 : Apart d d1 := by
    refine .foldl (fun b p => ?_) gone d
    split
    · exact msEvent b m ..
    · exact .refl b
  exact (h1.trans (setMs d1 m _)).trans (.foldl (fun b x => msSchedule b m ..) plan d2)

theorem msSample : Apart d (d.msSample m) := by
  unfold Device.msSample
  refine .ite (.refl d) ?_
  extract_lets d0 d1 s plan
  have h0 : Apart d d0 := msVerify d m
  have h1 : Apart d d1 := (h0.trans (msArmAll d0 m)).trans (msShown _ m)
  exact .ite h0 ((h1.trans (msReplace d1 m plan _)).trans (msArmAll _ m))

theorem msSamples (k : Nat) : Apart d (d.msSamples k) := .foldl (fun b m => msSample b m) _ d

theorem msShift (k : Nat) (off : Int) : Apart d (d.msShift k off) := by
  refine .foldl (fun b m => ?_) _ d
  exact .ite (.refl b) ((setMs b m _).trans (msRethresh _ m))

end Milestones

/-! ### Planners -/

section Planners
variable (d : Device) (k : Nat)

theorem plSquashes (ks : List Nat) : Apart d (d.plSquashes ks) := .of_otherUnits (d.squashed_plSquashes ks).units

theorem plSquash : Apart d (d.plSquash k) := plSquashes d [k]

theorem plReport : Apart d (d.plReport k) := ⟨(PlannerOnly.plReport d k).part Device.ports fun _ _ _ _ => rfl⟩

theorem plInstall : Apart d (d.plInstall k) := by
  have hplan : Apart d (d.plPlanned k) := setPl d k _
  rw [Device.plInstall_eq]
  exact (hplan.trans (plSquash _ k)).trans (plReport _ k)

theorem plNo (code : Nat) : Apart d (d.plNo k code).2 := ⟨rfl⟩

theorem plBeginStop (kind st : Nat) : Apart d (d.plBeginStop k kind st) :=
  ((setPl d k _).trans (setPlState _ k st)).trans (plInstall _ k)

theorem plStart (mode : Nat) (target jog : Int) : Apart d (d.plStart k mode target jog).2 := by
  unfold Device.plStart
  refine resIte (plNo d k _) (resIte (plNo d k _) (resIte (plNo d k _) (resIte ?_ (resIte (plNo d k _) ?_))))
  · exact (setPl d k _).trans (plReport _ k)
  · exact ((setPl d k _).trans (setPlState _ k _)).trans (plInstall _ k)

theorem plAskStop (kind : Nat) : Apart d (d.plAskStop k kind).2 := resIte (plNo d k _) (plBeginStop d k kind _)

theorem plDoLimits (new : Option Limits) : Apart d (d.plDoLimits k new).2 := by
  unfold Device.plDoLimits
  refine resIte (plNo d k _) (resIte (plNo d k _) ?_)
  cases new with
  | none => exact plNo d k _
  | some l =>
    refine resIte (plNo d k _) ?_
    extract_lets beyond noOver l2 defer d1 d2 d3
    have h2 : Apart d d2 := ⟨rfl⟩
    have h3 : Apart d d3 := .ite (h2.trans (raise d2 _)) h2
    exact resIte (h2.trans (plReport _ k)) (resIte (plNo d k _) (h3.trans (plInstall _ k)))

theorem plDoHold : Apart d (d.plDoHold k).2 := by
  unfold Device.plDoHold
  exact resIte (plNo d k _) (resIte (.refl d) (resIte (plNo d k _) (((setPl d k _).trans (setPlState _ k _)).trans (plInstall _ k))))

theorem plDoResume : Apart d (d.plDoResume k).2 := by
  unfold Device.plDoResume
  exact resIte (plNo d k _) (resIte (plNo d k _) (resIte (plNo d k _)
    ((((setPl d k _).trans (setPlState _ k _)).trans (plInstall _ k)).trans (setPl _ k _))))

theorem plDoStop : Apart d (d.plDoStop k).2 := by
  unfold Device.plDoStop
  exact resIte (plNo d k _) (resIte (plNo d k _) (resIte (.refl d) (plAskStop d k 1)))

theorem plDoQstop : Apart d (d.plDoQstop k).2 := by
  unfold Device.plDoQstop
  exact resIte (plNo d k _) (resIte (plNo d k _) (resIte (.refl d) (plAskStop d k 2)))

theorem plDoShift (off : Int) : Apart d (d.plDoShift k off).2 := by
  unfold Device.plDoShift
  exact resIte (plNo d k _) (resIte (plNo d k _) (resIte (plNo d k _) (resIte (plNo d k _) (resIte (plNo d k _)
    ((setPl d k _).trans (plSquash _ k))))))

theorem plDoQuick : Apart d (d.plDoQuick k) := by
  unfold Device.plDoQuick
  exact .ite (.refl d) (.ite (.refl d) (plBeginStop d k 2 _))

theorem plDoSlow : Apart d (d.plDoSlow k) := by
  unfold Device.plDoSlow
  exact .ite (.refl d) (plBeginStop d k 1 _)

theorem plDoDisable : Apart d (d.plDoDisable k) := by
  unfold Device.plDoDisable
  extract_lets st p d1 ctl
  have h1 : Apart d d1 := setPl d k _
  exact .ite (.refl d) (.ite ((h1.trans (setPl _ k _)).trans (setPlState _ k _)) (.ite (h1.trans (setPlState _ k _))
    (.ite ((h1.trans (setPl _ k _)).trans (setPlState _ k _)) (h1.trans (plBeginStop _ k _ _)))))

theorem plDo (r : PlReq) : Apart d (d.plDo k r).2 := by
  cases r with
  | quick r => exact plDoQuick d k
  | slow => exact plDoSlow d k
  | disable => exact plDoDisable d k
  | qstop => exact plDoQstop d k
  | stop => exact plDoStop d k
  | hold => exact plDoHold d k
  | resume => exact plDoResume d k
  | limits l r => exact plDoLimits d k l
  | shift off => exact plDoShift d k off
  | go target => exact plStart d k 1 _ _
  | jog vel => exact plStart d k 2 _ _

theorem plBack : Apart d (d.plBack k) := by
  unfold Device.plBack
  extract_lets t d1 d2
  have h2 : Apart d d2 := ⟨rfl⟩
  exact (h2.trans (setPl _ k _)).trans (plReport _ k)

theorem plRun (r : PlReq) (rs : List PlReq) : Apart d (d.plRun k r rs).2 := by
  have hstep : ∀ (rs : List PlReq) (a : Res), Apart d a.2 → Apart d (rs.foldl (fun (a : Res) q =>
      let (c, e) := a.2.plDo k q
      (if q = r then c else a.1, e)) a).2 := by
    intro rs
    induction rs with
    | nil => exact fun _ h => h
    | cons q rs ih => exact fun a h => ih _ (h.trans (plDo a.2 k q))
  exact hstep rs (0, d) (.refl d)

/-- A change of a planner in whatever turn of the tick (R48). -/
theorem plAsk (r : PlReq) : Apart d (d.plAsk k r).2 := by
  unfold Device.plAsk
  extract_lets hist reqs t base
  split
  next c e he =>
  have hdone : Apart d (if hist.any (fun q => decide (r.rank < q.rank)) then (d.plBack k).plRun k r reqs else d.plDo k r).2 :=
    resIte ((plBack d k).trans (plRun _ k r reqs)) (plDo d k r)
  rw [he] at hdone
  exact hdone.trans ⟨rfl⟩

theorem plShow : Apart d (d.plShow k) := ⟨rfl⟩

theorem plAge : Apart d (d.plAge k) := by
  unfold Device.plAge
  extract_lets p depth a d1
  exact .ite ⟨rfl⟩ (.ite ⟨rfl⟩ ⟨rfl⟩)

end Planners
end Apart

end Machine
end Sys2Proof
end

section
/-! The ports beside what a source's sample brings about: convoys, gantry pairs, axes and feedback units leave every port alone. -/

namespace Sys2Proof

open Sys2Proof.Machine

namespace Machine

namespace Apart
variable {d e f : Device}

/-! ### Planners committed after their sample -/

section Planners
variable (d : Device) (k : Nat)

theorem plRest : Apart d (d.plRest k) := by
  unfold Device.plRest
  split
  · exact .refl d
  · exact (setPl d k _).trans (livePut _ _ _)

theorem plEvent (code : Nat) : Apart d (d.plEvent k code) := by
  unfold Device.plEvent
  exact .ite (.of_units (unitsOf_q5 d _ _ _)) (.refl d)

theorem plEnded : Apart d (d.plEnded k) := by
  unfold Device.plEnded
  extract_lets st p rest mark d1
  have hmark : ∀ f, Apart d (mark f) := fun f => setPl d k f
  have hrest : ∀ e, Apart e (rest e) := fun e => (setPl e k _).trans (plRest _ k)
  have hends : ∀ (e : Device) (st code : Nat) (f : Fld), Apart e (((e.setPlState k st).raise f).plEvent k code) :=
    fun e st code f => ((setPlState e k st).trans (raise _ f)).trans (plEvent _ k code)
  have h1 : Apart d d1 := (setPl d k _).trans (plRest _ k)
  exact .ite ((((hmark _).trans (hrest _)).trans (hends _ _ _ _)).trans (plReport _ k))
    (.ite (((hmark _).trans (hrest _)).trans (hends _ _ _ _))
    (.ite ((hrest d).trans (hends _ _ _ _))
    (.ite ((plRest d k).trans (hends _ _ _ _))
    (.ite (.ite ((h1.trans (raise d1 _)).trans (plEvent _ k 3)) h1)
    (.ite (plRest d k) (.refl d))))))

theorem plCommit (pos : Int) : Apart d (d.plCommit k pos) := by
  unfold Device.plCommit
  extract_lets p b s nx d1 d2
  have h1 : Apart d d1 := (setPl d k _).trans (plAge _ k)
  have h2 : Apart d d2 := .ite (h1.trans (plEnded d1 k)) h1
  exact .ite ((setPl d k _).trans (plShow _ k)) (h2.trans (plShow d2 k))

theorem plMove (off : Int) : Apart d (d.plMove k off) := (setPl d k _).trans (plShow _ k)

end Planners

/-! ### Convoys and gantry pairs -/

section Convoys
variable (d : Device) (c : Nat)

theorem msSquash (ms : List Nat) : Apart d (d.msSquash ms) := .of_otherUnits (d.otherUnits_msSquash ms)

theorem cyGen : Apart d (d.cyGen c) := by
  have hgive : ∀ (b : Device) (m : Nat × Nat), Apart b (b.setPl m.2 fun p => { p with gen := d.topGen c }) := fun b m => setPl b m.2 _
  exact foldl hgive (d.cyMembers c) d

theorem cyInstall : Apart d (d.cyInstall c) := by
  have hplan : Apart d (d.cyPlan c) := setCy d c _
  exact ((hplan.trans (plSquashes _ _)).trans (cyGen _ c)).trans (msSquash _ _)

theorem cyStopAs (kind : Nat) : Apart d (d.cyStopAs c kind) := ((setCy d c _).trans (setCyState _ c _)).trans (cyInstall _ c)

theorem cyCount : Apart d (d.cyCount c) := (livePut d _ _).trans (setCyState _ c _)

theorem cyDrop (j kind : Nat) : Apart d (d.cyDrop c j kind) :=
  (((setPl d _ _).trans (setCy _ c _)).trans (plSquash _ _)).trans (cyCount _ c)

theorem capChanged (n : Nat) : ∀ (d : Device) (k : Nat), Apart d (d.capChanged n k) := by
  induction n with
  | zero => exact fun d _ => .refl d
  | succ n ih =>
    intro d k
    unfold Device.capChanged
    split
    · exact .ite (plInstall d k) (plReport d k)
    · next c j _ =>
      refine .ite (.ite (cyInstall d c) (.refl d)) (.ite (.refl d) ?_)
      split
      · exact .ite (.refl d) ((setPl d _ _).trans (ih _ _))
      · exact .ite (cyInstall d _) (.refl d)
      · exact .ite ((cyDrop d c j 2).trans (msg _ _ _ _ _ _ _)) (.refl d)

theorem cyRecap : Apart d (d.cyRecap c) := by
  unfold Device.cyRecap
  exact .ite (.ite (.refl d) ((setPl d _ _).trans (capChanged _ _ _))) (.ite (cyInstall d _) (.refl d))

theorem cyMemberStop (k kind : Nat) (report react : Bool) : Apart d (d.cyMemberStop k kind report react) := by
  unfold Device.cyMemberStop
  split
  · exact .refl d
  · next c j _ =>
    extract_lets s st d1
    have h1 : Apart d d1 := (cyDrop d c j kind).trans (cyRecap _ c)
    exact .ite (.ite (cyStopAs d c kind) (.refl d)) (.ite (.ite (h1.trans (msg d1 _ _ _ _ _ _)) h1) (.refl d))

theorem camRead (base : Nat) (x : Int) : Apart d (d.camRead base x).2 := by
  unfold Device.camRead
  extract_lets t
  generalize h1 : d.bulkRead base 0x20 = r1
  obtain ⟨x1, u1, d1⟩ := r1
  have hd1 : Apart d d1 := .of_units (by rw [show d1 = (d.bulkRead base 0x20).2.2 by rw [h1], unitsOf_bulkRead])
  dsimp only
  split
  · exact hd1
  · exact hd1.trans (.of_units (unitsOf_bulkRead _ _ _))

theorem cyEvent (b code : Nat) : Apart d (d.cyEvent c b code) := (raise d _).trans (.of_units (unitsOf_q5 _ _ _ _))

/-- An injection taken, and what it brings about. -/
theorem injected {i k n : Nat} {g : Nat × Device → Device} (hg : ∀ x, Apart x.2 (g x)) : Apart d (((d.injTake i k n).map g).getD d) := by
  cases h : d.injTake i k n with
  | none => exact .refl d
  | some x => exact (injTake h).trans (hg x)

theorem followStep (mk : Kin) (mprev : Int) (mem : Nat × Nat) : Apart d (d.followStep c mk mprev mem) := by
  obtain ⟨j, k⟩ := mem
  have hslot : ∀ (e : Device) (f : Convoy → Convoy), Apart e (e.setCy c f) := fun e f => setCy e c f
  have hdrop : ∀ (e : Device) (x : Nat) (i : Bool), Apart e ((e.cyDrop c j 2).msg 8 c 2 x i) :=
    fun e x i => (cyDrop e c j 2).trans (msg _ _ _ _ _ _ _)
  have hbeyond : ∀ (e : Device) (x : Nat) (i : Bool), Apart e ((e.cyEvent c 4).msg 8 c 1 x i) :=
    fun e x i => (cyEvent e c 4 0).trans (msg _ _ _ _ _ _ _)
  unfold Device.followStep
  dsimp -zeta only
  extract_lets
  next s p kind setSlot d0 d2' d1 wasOut beyond crossed d2 d3 nx e2 =>
  refine .ite (.ite (.refl d) (hslot d _)) (.ite (hslot d _) (.ite (injected d fun x => hdrop x.2 _ _) (.ite ?_ (.ite ?_ ?_))))
  · exact ((camRead d _ _).trans (setPl _ k _)).trans (hdrop _ _ _)
  · have h1 : Apart d d1 := .ite (camRead d _ _) (.refl d)
    have h2 : Apart d d2 := (h1.trans (setPl d1 k _)).trans (hslot _ _)
    have h3 : Apart d d3 := .ite (h2.trans (cyEvent d2 c 5 0)) h2
    exact .ite (h3.trans (hbeyond d3 _ _)) (.ite (h3.trans (injected d3 fun x => hbeyond x.2 _ _)) h3)
  · exact .ite ((setPl d k _).trans (hslot _ _)) (setPl d k _)

theorem cyFollow : Apart d (d.cyFollow c) := by
  unfold Device.cyFollow
  extract_lets mk v d1 d2 anyOver
  have h1 : Apart d d1 := .foldl (fun b mem => followStep b c mk v.mprev mem) _ d
  exact ((h1.trans (setCy d1 c _)).trans (livePut d2 _ _)).trans (cyCount _ c)

theorem cyFollowAll (n : Nat) : ∀ (todo : List Nat) (d : Device), Apart d (Device.cyFollowAll n todo d) := by
  induction n with
  | zero => exact fun todo d => .foldl cyFollow todo d
  | succ n ih =>
    intro todo d
    unfold Device.cyFollowAll
    exact .ite (.foldl cyFollow _ d) ((foldl cyFollow _ d).trans (ih _ _))

theorem gpFollow (cs : List Nat) : Apart d (d.gpFollow cs) := .foldl (fun b _ => .ite (setPl b _ _) (.refl b)) _ d

theorem cyCatchUp : Apart d d.cyCatchUp := by
  unfold Device.cyCatchUp
  exact .ite (.refl d) ((cyFollowAll 32 _ d).trans (gpFollow _ _))

theorem gpSkew (g : Nat) : Apart d (d.gpSkew g) := by
  unfold Device.gpSkew
  extract_lets skew gain cmax corr dt d1 d2 d3
  have h2 : Apart d d2 := ⟨rfl⟩
  have h3 : Apart d d3 := h2.trans (detect d2 _ _ _ _ _ _ fun e => raise e _)
  exact h3.trans (detect d3 _ _ _ _ _ _ fun e => raise e _)

theorem gpMeasured (k : Nat) : Apart d (d.gpMeasured k) := .foldl (fun b g => .ite (gpSkew b g) (.refl b)) _ d

end Convoys

/-! ### Axes -/

section Axes
variable (d : Device) (k : Nat)

theorem axForceStop (kind : Nat) (report : Bool) (rank : Nat) : Apart d (d.axForceStop k kind report rank) := by
  unfold Device.axForceStop
  exact .ite (cyMemberStop d k kind report false) (.ite (plAsk d _ _) (plAsk d _ _))

theorem fioDrive (c : Nat) : Apart d (d.fioDrive c) := .ite (.refl d) ⟨rfl⟩

theorem fioCommand (c : Nat) (level : Bool) : Apart d (d.fioCommand c level) := by
  unfold Device.fioCommand
  extract_lets d1 d2
  have h1 : Apart d d1 := ⟨rfl⟩
  have h2 : Apart d d2 := .ite h1 (h1.trans (put d1 _ _))
  have h3 : Apart d (d2.setFio c fun s => { s with cmd := level }) := h2.trans ⟨rfl⟩
  exact .ite ⟨rfl⟩ (h3.trans (fioDrive _ c))

theorem brake (on : Bool) : Apart d (d.brake k on) := by
  unfold Device.brake
  exact .ite ((livePut d _ _).trans (fioCommand _ _ on)) (.refl d)

theorem axRestAt : Apart d (d.axRestAt k) := (setAx d k _).trans (brake _ k false)

theorem axRide : Apart d (d.axRide k) := by
  unfold Device.axRide
  extract_lets st d1 d2 d3
  have h1 : Apart d d1 := (setAx d k _).trans (setAxState _ k _)
  have h2 : Apart d d2 := h1.trans (setFb d1 k _)
  have h3 : Apart d d3 := .ite (h2.trans (livePut d2 _ _)) h2
  exact .ite (((setAx d k _).trans (setAxState _ k _)).trans (axRestAt _ k)) (.ite (h3.trans (axForceStop d3 k 2 false 3)) (.refl d))

theorem winInputs (e j : Nat) : Apart d (d.winInputs e j k) := ⟨rfl⟩

theorem axRefresh : Apart d (d.axRefresh k) := by
  unfold Device.axRefresh
  extract_lets d1
  have h1 : Apart d d1 := setAx d k _
  split
  · exact .ite ((h1.trans (winInputs d1 k _ _)).trans (setAx _ k _)) h1
  · exact h1

end Axes

/-! ### Sources -/

section Sources
variable (d : Device) (k w : Nat)

theorem srcShow (valid extrap : Bool) : Apart d (d.srcShow k w valid extrap) := by
  unfold Device.srcShow
  exact .ite ((livePut d _ _).trans (livePut _ _ _)) ((livePut d _ _).trans (livePut _ _ _))

theorem commDrop : Apart d (d.commDrop k) := (livePut d _ _).trans (setAx _ k _)

theorem srcUnref : Apart d (d.srcUnref k w) := by
  unfold Device.srcUnref
  extract_lets d1
  have h1 : Apart d d1 := .ite (.refl d) (livePut d _ _)
  exact .ite (h1.trans (commDrop d1 k)) h1

theorem srcMute : Apart d (d.srcMute k w) := by
  unfold Device.srcMute
  extract_lets d1
  have h1 : Apart d d1 := livePut d _ _
  exact .ite (h1.trans (commDrop d1 k)) h1

theorem lostShow : Apart d (d.lostShow k) := livePut d _ _

theorem srcLost (froz : Bool) (inj : Option Nat) : Apart d (d.srcLost k w froz inj) := by
  unfold Device.srcLost
  extract_lets s used d1 d2 d3 d4 d5 d6
  have h1 : Apart d d1 := setSrc d k w _
  have h2 : Apart d d2 := (h1.trans (srcUnref d1 k w)).trans (lostShow _ k)
  have h3 : Apart d d3 := .ite ((h2.trans (raise d2 _)).trans (livePut _ _ _)) (h2.trans (raise d2 _))
  have h4 : Apart d d4 := h3.trans (srcShow d3 k w _ _)
  have h5 : Apart d d5 := h4.trans (setFb d4 k _)
  have h6 : Apart d d6 := .ite (h4.trans (raise d4 _)) h4
  exact .ite (.refl d) (.ite (((h5.trans (livePut d5 _ _)).trans (raise _ _)).trans (msg _ _ _ _ _ _ _)) (h6.trans (setFb d6 k _)))

theorem srcRecover : Apart d (d.srcRecover k w) := by
  unfold Device.srcRecover
  extract_lets s abs d1 d2 d3 d4 d5
  have h1 : Apart d d1 := (setSrc d k w _).trans (lostShow _ k)
  have h2 : Apart d d2 := .ite (h1.trans (raise d1 _)) h1
  have h3 : Apart d d3 := .ite (h2.trans (livePut d2 _ _)) h2
  have h4 : Apart d d4 := h3.trans (livePut d3 _ _)
  have h5 : Apart d d5 := h4.trans (setAx d4 k _)
  exact .ite (.ite (.ite (h5.trans (livePut d5 _ _)) h5) h4) h3

theorem speed (hasEdges : Bool) : Apart d (d.speed k w hasEdges) := by
  unfold Device.speed
  extract_lets
  next d1 =>
  have h1 : Apart d d1 := setSrc d k w _
  exact .ite (((h1.trans (livePut d1 _ _)).trans (livePut _ _ _)).trans (liveWr _ _ _)) h1

theorem srcSetPos (p : Int) : Apart d (d.srcSetPos k w p) := (setSrc d k w _).trans (liveWrS64 _ _ _)

theorem srcHist (x : Option Int) : Apart d (d.srcHist k w x) := setSrc d k w _

theorem srcMiss (cause : Nat) (r : Option Int) (inj : Option Nat) : Apart d (d.srcMiss k w cause r inj) := by
  unfold Device.srcMiss
  extract_lets s first d1 d2 kind d3 d4 d5 d6
  have h1 : Apart d d1 := setSrc d k w _
  have h2 : Apart d d2 := .ite (h1.trans (raise d1 _)) h1
  have h3 : Apart d d3 := by
    cases inj with
    | none => exact .ite (h2.trans (msg d2 _ _ _ _ _ _)) h2
    | some dt => exact h2.trans (msg d2 _ _ _ _ _ _)
  have h4 : Apart d d4 := .ite (h3.trans (livePut d3 _ _)) h3
  have h5 : Apart d d5 := by
    cases r with
    | none => exact (h4.trans (srcSetPos d4 k w _)).trans (srcShow _ k w _ _)
    | some r => exact ((h4.trans (setSrc d4 k w _)).trans (srcSetPos _ k w _)).trans (srcShow _ k w _ _)
  have h6 : Apart d d6 := h5.trans (srcHist d5 k w none)
  exact .ite ((h6.trans (srcLost d6 k w false none)).trans (msg _ _ _ _ _ _ _)) h6

theorem srcAbsent : Apart d (d.srcAbsent k w) := by
  unfold Device.srcAbsent
  extract_lets d1
  have h1 : Apart d d1 := (setSrc d k w _).trans (srcMute _ k w)
  exact ((h1.trans (srcSetPos d1 k w _)).trans (srcShow _ k w _ _)).trans (srcHist _ k w none)

theorem srcValid (r : Int) (moved hasEdges canFreeze : Bool) : Apart d (d.srcValid k w r moved hasEdges canFreeze) := by
  unfold Device.srcValid
  extract_lets s good down d1 d2 d3 d4 d5 vmin froz n d6
  have h1 : Apart d d1 := (setSrc d k w _).trans (srcHist _ k w _)
  have h2 : Apart d d2 := .ite (h1.trans (livePut d1 _ _)) h1
  have h3 : Apart d d3 := (h2.trans (speed d2 k w hasEdges)).trans (srcSetPos _ k w _)
  have h4 : Apart d d4 := h3.trans (srcShow d3 k w _ _)
  have h5 : Apart d d5 := .ite ((h4.trans (srcRecover d4 k w)).trans (srcShow _ k w _ _)) h4
  have h6 : Apart d d6 := h5.trans (setSrc d5 k w _)
  exact .ite ((h6.trans (srcLost d6 k w true none)).trans (msg _ _ _ _ _ _ _)) h6

theorem srcWord (raw width : Nat) (abs sgnd : Bool) (age : Option Nat) : Apart d (d.srcWord k w raw width abs sgnd age) := by
  unfold Device.srcWord
  extract_lets s down rv r moved t0 edges firstAbs d1 d2
  have h2 : Apart d d2 := (setSrc d k w _).trans (srcValid d1 k w r moved _ _)
  exact .ite (h2.trans (livePut d2 _ _)) h2

theorem srcEval (x : SrcIn) : Apart d (d.srcEval k w x) := by
  unfold Device.srcEval
  refine .ite (.refl d) ?_
  extract_lets inj d1 lose d2
  split
  next kind dt d1 h =>
    obtain ⟨kind', -, hk⟩ := Option.bind_eq_some_iff.mp h
    obtain ⟨y, hy, hyd⟩ := Option.map_eq_some_iff.mp hk
    cases hyd
    exact (injTake hy).trans (srcMiss d1 k w kind none (some dt))
  next =>
    have h1 : Apart d d1 := by
      cases x with
      | count r moved edges => exact (setSrc d k w _).trans (srcValid _ k w r moved _ _)
      | word raw width abs sgnd age => exact srcWord d k w raw width abs sgnd age
      | miss cause r => exact srcMiss d k w cause r none
      | absent => exact srcAbsent d k w
    have hlose : ∀ e kind, Apart e (lose e kind) := by
      intro e kind
      refine .ite ?_ (.refl e)
      split
      next dt e2 h => exact ((injTake h).trans (srcLost e2 k w _ none)).trans (msg _ _ _ _ _ _ _)
      next => exact .refl e
    have h2 : Apart d d2 := (h1.trans (hlose d1 5)).trans (hlose _ 6)
    refine .ite ?_ h2
    split
    next dt d3 h => exact (h2.trans (injTake h)).trans (srcLost d3 k 1 false (some dt))
    next => exact h2

end Sources

/-! ### The checks of an axis -/

section Checks
variable (d : Device) (k : Nat)

theorem masterLost (ws : List Nat) (rides : Bool) : Apart d (d.masterLost k ws rides) := by
  refine .foldl (fun b c => ?_) _ d
  have hstop : ∀ (e : Device) (m : Nat × Nat), Apart e (e.cyMemberStop m.2 2 true) := fun e m => cyMemberStop e m.2 2 true false
  exact .ite (foldl hstop _ b) (.refl b)

theorem fbReact : Apart d (d.fbReact k) := by
  unfold Device.fbReact
  extract_lets u d1 d2
  have h1 : Apart d d1 := setFb d k _
  have h2 : Apart d d2 := (Apart.ite (h1.trans ((msLost d1 k).trans (msSourceMoved _ k))) h1).trans (masterLost _ k _ _)
  exact .ite (.refl d) (.ite ((h2.trans (axRide d2 k)).trans (axRefresh _ k)) h2)

theorem dualCheck : Apart d (d.dualCheck k) := by
  unfold Device.dualCheck
  extract_lets u up
  split
  next =>
    extract_lets dev beyond d1
    have hup : ∀ e, Apart e (up e) := fun e => raise e _
    have h1 : Apart d d1 := (Apart.ite (hup d) (.refl d)).trans (detect _ _ _ _ _ _ _ hup)
    exact .ite (h1.trans (setFb d1 k _)) (.refl d)
  next => exact .refl d

theorem observe : Apart d (d.observe k) := by
  unfold Device.observe
  exact .ite (.refl d) (.ite (setFb d k _) (setFb d k _))

theorem followCheck : Apart d (d.followCheck k) := by
  unfold Device.followCheck
  extract_lets u dev dt warn beyond n lim d1 d2
  have h1 : Apart d d1 := setFb d k _
  have hwarn : ∀ e : Device, Apart e ((e.raise (AX_FB_EVENT_FOLLOW_WARN k)).note 21 k 0) := fun _ => ⟨rfl⟩
  have h2 : Apart d d2 := h1.trans (detect d1 _ _ _ _ _ _ hwarn)
  exact .ite (.refl d) (h2.trans (detect d2 _ _ _ _ _ _ fun e => (raise e _).trans (livePut _ _ _)))

theorem phaseNow : Apart d (d.phaseNow k) := by
  unfold Device.phaseNow
  extract_lets one
  have hone : ∀ e ph put, Apart e (one e ph put) := fun e ph put => .ite (.refl e) ⟨rfl⟩
  clear_value one
  exact (hone d 0 _).trans (hone _ 1 _)

theorem loadShow : Apart d (d.loadShow k).1 := by
  unfold Device.loadShow
  split
  · exact (liveWr d _ _).trans (livePut _ _ _)
  · extract_lets d0
    have h0 : Apart d d0 := phaseNow d k
    exact ((h0.trans (setFb d0 k _)).trans (liveWr _ _ _)).trans (livePut _ _ _)

theorem loadAngle : Apart d (d.loadAngle k) := by
  unfold Device.loadAngle
  refine .ite (.refl d) ?_
  have h1 := loadShow d k
  generalize d.loadShow k = r at h1
  obtain ⟨d1, δ, valid⟩ := r
  exact (h1.trans (setFb d1 k _)).trans (detect _ _ _ _ _ _ _ fun e => (raise e _).trans (livePut _ _ _))

theorem vecShift (counts : Int) : Apart d (d.vecShift k counts) := by
  unfold Device.vecShift
  split
  · exact .refl d
  · exact ⟨rfl⟩

theorem srcMove (off : Int) : Apart d (d.srcMove k off) := by
  refine .foldl (fun b w => ?_) _ d
  extract_lets d1
  have h1 : Apart b d1 := ⟨rfl⟩
  exact .ite h1 (h1.trans (srcSetPos d1 k w _))

theorem fbShift (off : Int) : Apart d (d.fbShift k off) :=
  (((srcMove d k off).trans (setFb _ k _)).trans (vecShift _ k _)).trans (msShift _ k off)

theorem setposNow (x : Nat × Bool × Int) : Apart d (d.setposNow k x) := by
  unfold Device.setposNow
  extract_lets off d1
  have h1 : Apart d d1 := .ite ((fbShift d k off).trans (plMove _ k off)) (srcMove d k _)
  exact (h1.trans (livePut d1 _ _)).trans (livePut _ _ _)

theorem setposDue : Apart d (d.setposDue k) := by
  unfold Device.setposDue
  exact .ite (.refl d) ((setFb d k _).trans (.foldl (fun b x => setposNow b k x) _ _))

theorem fbCommit : Apart d (d.fbCommit k) := by
  unfold Device.fbCommit
  extract_lets d1 d2
  have h1 : Apart d d1 := setposDue d k
  have h2 : Apart d d2 := .ite (h1.trans (plCommit d1 k _)) h1
  exact .ite h2 (h2.trans (axRefresh d2 k))

theorem corrShow : Apart d (d.corrShow k) := .foldl (fun b a => setAx b a _) _ d

/-- The checks of an axis whose sources are evaluated. -/
theorem fbFinish : Apart d (d.fbFinish k) := by
  unfold Device.fbFinish
  extract_lets u d1 u1 ok d2 d3 d4
  have h1 : Apart d d1 := (setFb d k _).trans (fbCommit _ k)
  have h2 : Apart d d2 := h1.trans (setFb d1 k _)
  have h3 : Apart d d3 := ((h2.trans (dualCheck d2 k)).trans (observe _ k)).trans (loadAngle _ k)
  have h4 : Apart d d4 := (((h3.trans (followCheck d3 k)).trans (gpMeasured _ k)).trans (corrShow _ k)).trans (fbReact _ k)
  exact .ite (fbReact d k) ((Apart.ite (h4.trans (msSamples d4 k)) h4).trans (cyCatchUp _))

theorem portDeliver (p : Nat) (x : SrcIn) : Apart d (d.portDeliver p x) := by
  have huser : ∀ (b : Device) (u : Nat × Nat), Apart b ((b.srcEval u.1 u.2 x).fbFinish u.1) :=
    fun b u => (srcEval b u.1 u.2 x).trans (fbFinish _ u.1)
  exact (foldl huser _ d).trans (cyCatchUp _)

end Checks
end Apart

end Machine
end Sys2Proof
end

section
/-! Edges of a direct port (R180–R182): the steps of quadrature and Hall levels, what a counted edge and an illegal transition leave,
and the capture by Z. -/

namespace Sys2Proof

open Sys2Proof.Machine
open Claims (pinsNow countsEdge illegalEdge levelsOnly samePorts quadNext hallNext)

theorem sameRegs.rd64 {d e : Device} {A : Nat → Prop} (h : sameRegs d e A) {a : Nat} (ha : ¬ A a) (ha4 : ¬ A (a + 4)) : e.rd64 a = d.rd64 a := by
  simp only [Device.rd64, h a ha, h (a + 4) ha4]

theorem sameRegs.has {d e : Device} {A : Nat → Prop} (h : sameRegs d e A) {f : Fld} (hf : ¬ A f.addr) : e.has f = d.has f := by
  rw [Device.has, h.get hf, Device.has]

namespace Machine

/-! ### Rules of registers -/

section Rules
variable (d : Device)

/-- A flag raised. -/
theorem Device.has_raise {f : Fld} (hf : f.lo + f.width ≤ 32) (hw : f.width = 1) : (d.raise f).has f = true := by
  rw [Device.has, Device.raise, Device.get_put_same _ _ _ hf, hw]
  rfl

theorem Device.rd64_wr64_same (a n : Nat) : (d.wr64 a n).rd64 a = n % 2 ^ 64 := by
  have hlo : (d.wr64 a n).rd a = BitVec.ofNat 32 n := (Device.rd_wr_other _ _ _ _ (by omega)).trans (Device.rd_wr_same _ _ _)
  have hhi : (d.wr64 a n).rd (a + 4) = BitVec.ofNat 32 (n / 2 ^ 32) := Device.rd_wr_same _ _ _
  rw [Device.rd64, hlo, hhi, BitVec.toNat_ofNat, BitVec.toNat_ofNat]
  omega

end Rules

/-! ### Levels -/

/-- Port `p` with the accepted levels `new` and the pins in `mask` at `levels`, and what copies them. -/
def Device.levelled (d : Device) (p new mask levels : Nat) : Device :=
  (d.setPort p fun s => { s with lines := new }).pinsSet p mask levels

/-- A port with its accepted levels and its pins changed. -/
def FbPort.levelled (q : FbPort) (new pins : Nat) : FbPort := { q with lines := new, pins := pins }

theorem PortAs.levelled {d : Device} {p : Nat} (hmode : d.portMode p ≠ 6) (new mask levels : Nat) :
    PortAs d (d.levelled p new mask levels) p ((d.port p).levelled new (pinsNow d p mask levels)) :=
  ((PortAs.refl d p).setPort fun s => { s with lines := new }).pinsSet hmode mask levels

theorem PortAs.levelsOnly {d e : Device} {p new pins : Nat} (h : PortAs d e p ((d.port p).levelled new pins)) : levelsOnly d e p new pins :=
  ⟨h.own, h.others, h.rest⟩

/-! ### A counted edge -/

/-- A port that counts an edge in direction `x`, accepted at tick `now` and stamped at `at_`. -/
def FbPort.counted (q : FbPort) (now at_ : Nat) (x : Int) : FbPort :=
  { q with r := q.r + x, edges := keepEdges now ((at_, x) :: q.edges), lastEdge := at_, moved := true }

/-- The block with an edge of port `p` counted at `at_`, before the milestones see it. -/
def Device.edgeCounted (d : Device) (p at_ stamp : Nat) (x : Int) : Device :=
  ((d.setPort p (·.counted d.clk.now at_ x)).wr64 (FB_EDGE p) stamp).put (FB_STATUS_DIR p) (b2n (decide (x < 0)))

theorem Device.portEdge_eq (d : Device) (p : Nat) (x : Int) : d.portEdge p x =
    (d.edgeCounted p (d.clk.now - bits (d.port p).ctrl.toNat 12 4) (d.stampAgo (bits (d.port p).ctrl.toNat 12 4)) x).msEdge := rfl

theorem Device.sameRegs_edgeCounted (d : Device) (p at_ stamp : Nat) (x : Int) :
    sameRegs d (d.edgeCounted p at_ stamp x) (fun a => a = FB_STATUS p ∨ a = FB_EDGE p ∨ a = FB_EDGE p + 4) :=
  ((sameRegs.regs _ rfl).trans (.wr64 _ _ _ _ (.inr (.inl rfl)) (.inr (.inr rfl)))).trans (.put _ _ _ _ (.inl rfl))

theorem Device.dir_edgeCounted (d : Device) (p at_ stamp : Nat) (x : Int) :
    (d.edgeCounted p at_ stamp x).get (FB_STATUS_DIR p) = if x < 0 then 1 else 0 := by
  rw [Device.edgeCounted, Device.get_put_same _ _ _ (by simp only [FB_STATUS_DIR]; decide)]
  split <;> simp [*, b2n, FB_STATUS_DIR]

theorem Device.edge_edgeCounted (d : Device) (p at_ stamp : Nat) (x : Int) :
    (d.edgeCounted p at_ stamp x).rd64 (FB_EDGE p) = stamp % 2 ^ 64 := by
  refine ((sameRegs.put _ (FB_STATUS_DIR p) _ (· = FB_STATUS p) rfl).rd64 ?_ ?_).trans (Device.rd64_wr64_same _ _ _) <;>
    simp only [FB_EDGE, FB_STATUS] <;> omega

theorem PortAs.countsEdge {d e b : Device} {p new pins : Nat} {x : Int} (h : PortAs d e p ((d.port p).levelled new pins))
    {f : Device} (hf : f = e.edgeCounted p (d.clk.now - bits (d.port p).ctrl.toNat 12 4) (d.stampAgo (bits (d.port p).ctrl.toNat 12 4)) x)
    (hb : b.ports = f.ports) (hidle : (∀ m < 16, d.ms m = {}) → b = f) : countsEdge d b p new pins x := by
  have hport := h.setPort (·.counted d.clk.now (d.clk.now - bits (d.port p).ctrl.toNat 12 4) x)
  have hports : b.ports = (e.setPort p (·.counted d.clk.now (d.clk.now - bits (d.port p).ctrl.toNat 12 4) x)).ports := by
    rw [hb, hf, ← h.clk]
    rfl
  refine ⟨(Device.port_congr hports p).trans hport.own, fun j hj => ?_, fun hms => ?_⟩
  · rw [Device.port_congr hports j]
    exact hport.others j hj
  · rw [hidle hms, hf]
    refine ⟨e.dir_edgeCounted .., e.edge_edgeCounted .., ?_, (sameRegs.regs _ h.regs).trans (e.sameRegs_edgeCounted _ _ _ _)⟩
    exact congrArg (fun y : Device => { y with regs := d.regs }) h.rest

/-- A command that counts an edge of port `p` whose levels are new. -/
theorem leads_portEdge {c : Instr} {s : State} {g : Device → Device} {e : Device} {p new pins : Nat} {x : Int}
    (hc : exec c s = .next (s.onDev g)) (hr : s.dev.inReset = false) (hg : g s.dev = e.portEdge p x)
    (h : PortAs s.dev e p ((s.dev.port p).levelled new pins)) : leads c s (Claims.countsEdge s.dev · p new pins x) := by
  have hctrl : (e.port p).ctrl = (s.dev.port p).ctrl := by rw [h.own]; rfl
  have hstamp : ∀ n, e.stampAgo n = s.dev.stampAgo n := fun n => h.part (Device.stampAgo · n) fun _ _ => rfl
  rw [Device.portEdge_eq, hctrl, h.clk, hstamp] at hg
  refine leads_onDev c s g _ hc hr (h.countsEdge rfl ((congrArg Device.ports hg).trans (Apart.msEdge _).ports) fun hidle => ?_)
  have hms : ∀ m < 16, e.ms m = {} := fun m hm => (h.part (Device.ms · m) fun _ _ => rfl).trans (hidle m hm)
  exact Device.still_of_clk (hg.trans (Device.msEdge_of_idle hms)) h.clk

/-! ### An illegal transition -/

/-- REF_DOUBT of the axes in `us`. -/
def Device.doubted (us : List (Nat × Nat)) (d : Device) : Device := us.foldl (fun d u => d.livePut (AX_FB_STATUS_REF_DOUBT u.1) 1) d

theorem Device.doubted_eq (us : List (Nat × Nat)) : ∀ d : Device, ∃ live, d.doubted us = { d with live := live } := by
  induction us with
  | nil => exact fun d => ⟨d.live, rfl⟩
  | cons u us ih => exact fun d => ih (d.livePut (AX_FB_STATUS_REF_DOUBT u.1) 1)

/-- An axis's reference is in doubt once it is put there, whichever others follow. -/
theorem Device.refDoubt_doubted (k : Nat) (us : List (Nat × Nat)) : ∀ d : Device,
    d.liveHas (AX_FB_STATUS_REF_DOUBT k) = true ∨ (∃ u ∈ us, u.1 = k) → (d.doubted us).liveHas (AX_FB_STATUS_REF_DOUBT k) = true := by
  have hput : ∀ b : Device, (b.livePut (AX_FB_STATUS_REF_DOUBT k) 1).liveHas (AX_FB_STATUS_REF_DOUBT k) = true := by
    intro b
    rw [Device.liveHas, Device.liveGet_livePut_same _ _ _ (by simp only [AX_FB_STATUS_REF_DOUBT]; decide)]
    rfl
  induction us with
  | nil => exact fun d h => h.resolve_right (by simp)
  | cons u us ih =>
    intro d h
    refine ih _ ?_
    by_cases hk : u.1 = k
    · exact .inl (hk ▸ hput d)
    · have haddr : AX_FB_STATUS k ≠ AX_FB_STATUS u.1 := by simp only [AX_FB_STATUS]; omega
      rw [Device.liveHas, Device.liveGet_livePut_addr _ _ _ _ haddr]
      exact h.imp_right fun ⟨v, hv, hvk⟩ => ⟨v, (List.mem_cons.mp hv).resolve_left (by rintro rfl; exact hk hvk), hvk⟩

/-- The axes on a port are told by AX_FB_SRC. -/
theorem Device.portUsers_congr {d e : Device} (h : ∀ k < 192, e.rd (AX_FB_SRC k) = d.rd (AX_FB_SRC k)) (p : Nat) :
    e.portUsers p = d.portUsers p := by
  have hget : ∀ k < 192, ∀ f : Fld, f.addr = AX_FB_SRC k → e.get f = d.get f := fun k hk f hf => by simp only [Device.get, hf, h k hk]
  refine List.flatMap_congr fun k hk => ?_
  have hk' := List.mem_range.mp hk
  have hkind : ∀ w, e.srcKind k w = d.srcKind k w := fun w => by
    simp only [Device.srcKind, hget k hk' (AX_FB_SRC_PRI_KIND k) rfl, hget k hk' (AX_FB_SRC_SEC_KIND k) rfl]
  have hid : ∀ w, e.srcId k w = d.srcId k w := fun w => by
    simp only [Device.srcId, hget k hk' (AX_FB_SRC_PRI_ID k) rfl, hget k hk' (AX_FB_SRC_SEC_ID k) rfl]
  simp only [hkind, hid]

/-- The block with the illegal transition of port `p`, before its axes' references are put in doubt. -/
def Device.illegalSeen (d : Device) (p : Nat) : Device :=
  ((d.setPort p fun s => { s with illegal := true }).raise (FB_EVENT_ILLEGAL p)).incSat (FB_ERRCNT_ILL p)

theorem Device.portIllegal_eq (d : Device) (p : Nat) : d.portIllegal p = (d.illegalSeen p).doubted ((d.illegalSeen p).portUsers p) := rfl

theorem Device.sameRegs_illegalSeen (d : Device) (p : Nat) : sameRegs d (d.illegalSeen p) (fun a => a = FB_EVENT p ∨ a = FB_ERRCNT p) :=
  ((sameRegs.regs _ rfl).trans (.put _ (FB_EVENT_ILLEGAL p) _ _ (.inl rfl))).trans (.put _ (FB_ERRCNT_ILL p) _ _ (.inr rfl))

theorem Device.illegal_illegalSeen (d : Device) (p : Nat) : (d.illegalSeen p).has (FB_EVENT_ILLEGAL p) = true := by
  have hraised : ((d.setPort p fun s => { s with illegal := true }).raise (FB_EVENT_ILLEGAL p)).has (FB_EVENT_ILLEGAL p) = true :=
    Device.has_raise _ (by simp only [FB_EVENT_ILLEGAL]; decide) rfl
  rw [Device.has, Device.illegalSeen, Device.get_incSat_addr _ _ _ _ (by simp only [FB_EVENT_ILLEGAL, FB_ERRCNT_ILL, FB_EVENT, FB_ERRCNT]; omega)]
  exact hraised

theorem Device.count_illegalSeen (d : Device) (p : Nat) :
    (d.illegalSeen p).get (FB_ERRCNT_ILL p) = satU 8 (d.get (FB_ERRCNT_ILL p) + 1) := by
  refine (Device.get_incSat_same _ _ _ (by simp only [FB_ERRCNT_ILL]; decide)).trans ?_
  rw [Device.raise, Device.get_put_addr _ _ _ _ (by simp only [FB_EVENT_ILLEGAL, FB_ERRCNT_ILL, FB_EVENT, FB_ERRCNT]; omega)]
  rfl

theorem PortAs.illegalEdge {d e : Device} {p new pins : Nat} (_hp : p < 16) (h : PortAs d e p ((d.port p).levelled new pins)) :
    illegalEdge d (e.portIllegal p) p new pins := by
  have hport := h.setPort fun s => { s with illegal := true }
  have hseen := (sameRegs.regs _ h.regs).trans (e.sameRegs_illegalSeen p)
  have husers : (e.illegalSeen p).portUsers p = d.portUsers p := Device.portUsers_congr (fun k hk => hseen _ (by
    simp only [AX_FB_SRC, FB_EVENT, FB_ERRCNT]; omega)) p
  obtain ⟨live, hlive⟩ := Device.doubted_eq (d.portUsers p) (e.illegalSeen p)
  have hregs : ((e.illegalSeen p).doubted (d.portUsers p)).regs = (e.illegalSeen p).regs := by rw [hlive]
  have hports : ((e.illegalSeen p).doubted (d.portUsers p)).ports = (e.setPort p fun s => { s with illegal := true }).ports := by
    rw [hlive]
    rfl
  rw [Device.portIllegal_eq, husers]
  refine ⟨(Device.port_congr hports p).trans hport.own, fun j hj => ?_, ?_, ?_, fun u hu => ?_, ?_, hseen.trans (.regs _ hregs)⟩
  · rw [Device.port_congr hports j]
    exact hport.others j hj
  · rw [Device.has, Device.get, Device.rd, hregs]
    exact e.illegal_illegalSeen p
  · rw [Device.get, Device.rd, hregs]
    refine (e.count_illegalSeen p).trans ?_
    rw [Device.get, Device.rd, h.regs]
    rfl
  · exact Device.refDoubt_doubted u.1 _ _ (.inr ⟨u, hu, rfl⟩)
  · rw [hlive]
    exact congrArg (fun y : Device => { y with regs := d.regs, live := d.live }) h.rest

/-- A command that finds an illegal transition of port `p` whose levels are new. -/
theorem leads_portIllegal {c : Instr} {s : State} {g : Device → Device} {e : Device} {p new pins : Nat} (hp : p < 16)
    (hc : exec c s = .next (s.onDev g)) (hr : s.dev.inReset = false) (hg : g s.dev = e.portIllegal p)
    (h : PortAs s.dev e p ((s.dev.port p).levelled new pins)) : leads c s (Claims.illegalEdge s.dev · p new pins) := by
  have hclk : (e.portIllegal p).clk = s.dev.clk := by
    obtain ⟨live, hlive⟩ := Device.doubted_eq ((e.illegalSeen p).portUsers p) (e.illegalSeen p)
    rw [Device.portIllegal_eq, hlive]
    exact h.clk
  exact leads_onDev_of_clk hc hr hg hclk (h.illegalEdge hp)

/-! ### Quadrature (R180) -/

section Quadrature
variable {d : Device} {p : Nat}

/-- The step of new levels: one forward or back, none of equal levels, and no step of a change of both. -/
theorem quadStep_cases : ∀ old new : Fin 4, (new.val = quadNext old → quadStep old new = some 1) ∧
    (old.val = quadNext new → quadStep old new = some (-1)) ∧ (new.val = old → quadStep old new = some 0) ∧
    (new.val + old.val = 3 → quadStep old new = none) := by decide

theorem Device.quadEdge_step {new : Nat} {x : Int} (hm : d.portMode p = 1) (hx : x ≠ 0) (h : quadStep (d.port p).lines new = some x) :
    d.quadEdge p new = (d.levelled p new 3 new).portEdge p x := by
  unfold Device.quadEdge
  rw [if_neg (by simp [hm])]
  extract_lets old d1
  have hstep : quadStep old new = some x := h
  split
  next h0 => exact nomatch hstep.symm.trans h0
  next h0 => exact absurd (Option.some.inj (hstep.symm.trans h0)) hx
  next h0 =>
    rw [← Option.some.inj (hstep.symm.trans h0)]
    rfl

theorem Device.quadEdge_same {new : Nat} (hm : d.portMode p = 1) (h : quadStep (d.port p).lines new = some 0) :
    d.quadEdge p new = d.levelled p new 3 new := by
  unfold Device.quadEdge
  rw [if_neg (by simp [hm])]
  extract_lets old d1
  rw [show quadStep old new = _ from h]
  rfl

theorem Device.quadEdge_illegal {new : Nat} (hm : d.portMode p = 1) (h : quadStep (d.port p).lines new = none) :
    d.quadEdge p new = (d.levelled p new 3 new).portIllegal p := by
  unfold Device.quadEdge
  rw [if_neg (by simp [hm])]
  extract_lets old d1
  rw [show quadStep old new = _ from h]
  rfl

end Quadrature

/-- Quadrature edges of a port in MODE 1. -/
theorem leads_quadEdge {s : State} {p : Fin 16} (hr : s.dev.inReset = false) (ab : Fin 4) (hm : s.dev.portMode p = 1)
    (hlines : (s.dev.port p).lines < 4) : let q := s.dev.port p; let pins := Claims.pinsNow s.dev p 3 ab
    (ab.val = quadNext q.lines → leads (.quadEdge p ab) s (Claims.countsEdge s.dev · p ab pins 1)) ∧
    (q.lines = quadNext ab → leads (.quadEdge p ab) s (Claims.countsEdge s.dev · p ab pins (-1))) ∧
    (ab.val = q.lines → leads (.quadEdge p ab) s (Claims.levelsOnly s.dev · p ab pins)) ∧
    (ab.val + q.lines = 3 → leads (.quadEdge p ab) s (Claims.illegalEdge s.dev · p ab pins)) := by
  have hq : PortAs s.dev (s.dev.levelled p ab 3 ab) p ((s.dev.port p).levelled ab (pinsNow s.dev p 3 ab)) :=
    .levelled (by rw [hm]; decide) _ _ _
  obtain ⟨hfwd, hback, hsame, hbad⟩ := quadStep_cases ⟨(s.dev.port p).lines, hlines⟩ ab
  exact ⟨fun h => leads_portEdge rfl hr (Device.quadEdge_step hm (by decide) (hfwd h)) hq,
    fun h => leads_portEdge rfl hr (Device.quadEdge_step hm (by decide) (hback h)) hq,
    fun h => leads_onDev_of_clk rfl hr (Device.quadEdge_same hm (hsame h)) hq.clk hq.levelsOnly,
    fun h => leads_portIllegal p.isLt rfl hr (Device.quadEdge_illegal hm (hbad h)) hq⟩

/-! ### Hall (R182) -/

section Hall
variable {d : Device} {p : Nat}

/-- How far on around the six states a Hall state lies from another; none where one of them is no state of a turn. -/
def hallTurn (old new : Nat) : Option Nat := (hallPlace old).bind fun a => (hallPlace new).map fun b => (b + 6 - a) % 6

/-- A valid Hall state after a valid one: one on, one back, the same or neither. -/
theorem hallTurn_cases : ∀ old new : Fin 8, new.val ≠ 0 → new.val ≠ 7 → old.val ≠ 0 → old.val ≠ 7 →
    (new.val = hallNext old → hallTurn old new = some 1) ∧ (old.val = hallNext new → hallTurn old new = some 5) ∧
    (new.val = old → hallTurn old new = some 0) ∧ (new.val ≠ hallNext old → old.val ≠ hallNext new → new.val ≠ old →
      hallTurn old new = some 2 ∨ hallTurn old new = some 3 ∨ hallTurn old new = some 4) := by
  decide

theorem hallPlace_eq_none : ∀ uvw : Fin 8, hallPlace uvw = none ↔ uvw.val = 0 ∨ uvw.val = 7 := by decide

theorem Device.hallEdge_turn {new t : Nat} (hm : d.portMode p = 2) (h : hallTurn (d.port p).lines new = some t) : d.hallEdge p new =
    if t = 0 then d.levelled p new 7 (hallPins new)
    else if t = 1 then (d.levelled p new 7 (hallPins new)).portEdge p (if bit (d.port p).ctrl.toNat 11 then -1 else 1)
    else if t = 5 then (d.levelled p new 7 (hallPins new)).portEdge p (if bit (d.port p).ctrl.toNat 11 then 1 else -1)
    else (d.levelled p new 7 (hallPins new)).portIllegal p := by
  obtain ⟨a, ha, hb⟩ := Option.bind_eq_some_iff.mp h
  obtain ⟨b, hb, ht⟩ := Option.map_eq_some_iff.mp hb
  unfold Device.hallEdge
  rw [if_neg (by simp [hm])]
  extract_lets old d1 rev
  rw [show hallPlace old = _ from ha, hb, ← ht]
  rfl

theorem Device.hallEdge_forward {new : Nat} (hm : d.portMode p = 2) (h : hallTurn (d.port p).lines new = some 1) :
    d.hallEdge p new = (d.levelled p new 7 (hallPins new)).portEdge p (if bit (d.port p).ctrl.toNat 11 then -1 else 1) := by
  rw [Device.hallEdge_turn hm h, if_neg (by decide), if_pos rfl]

theorem Device.hallEdge_back {new : Nat} (hm : d.portMode p = 2) (h : hallTurn (d.port p).lines new = some 5) :
    d.hallEdge p new = (d.levelled p new 7 (hallPins new)).portEdge p (if bit (d.port p).ctrl.toNat 11 then 1 else -1) := by
  rw [Device.hallEdge_turn hm h, if_neg (by decide), if_neg (by decide), if_pos rfl]

theorem Device.hallEdge_still {new : Nat} (hm : d.portMode p = 2) (h : hallTurn (d.port p).lines new = some 0) :
    d.hallEdge p new = d.levelled p new 7 (hallPins new) := by
  rw [Device.hallEdge_turn hm h, if_pos rfl]

theorem Device.hallEdge_far {new t : Nat} (hm : d.portMode p = 2) (h : hallTurn (d.port p).lines new = some t)
    (ht : t = 2 ∨ t = 3 ∨ t = 4) : d.hallEdge p new = (d.levelled p new 7 (hallPins new)).portIllegal p := by
  rw [Device.hallEdge_turn hm h, if_neg (by omega), if_neg (by omega), if_neg (by omega)]

theorem Device.hallEdge_none {new : Nat} (hm : d.portMode p = 2) (h : hallPlace new = none) : d.hallEdge p new =
    if (d.port p).lines = new then d.levelled p new 7 (hallPins new) else (d.levelled p new 7 (hallPins new)).portIllegal p := by
  unfold Device.hallEdge
  rw [if_neg (by simp [hm])]
  extract_lets old d1 rev
  rw [h]
  cases hallPlace old <;> rfl

theorem Device.hallEdge_resume {new a : Nat} (hm : d.portMode p = 2) (hold : hallPlace (d.port p).lines = none)
    (h : hallPlace new = some a) : d.hallEdge p new = d.levelled p new 7 (hallPins new) := by
  unfold Device.hallEdge
  rw [if_neg (by simp [hm])]
  extract_lets old d1 rev
  rw [show hallPlace old = _ from hold, h]
  rfl

end Hall

/-- Hall edges of a port in MODE 2. -/
theorem leads_hallEdge {s : State} {p : Fin 16} (hr : s.dev.inReset = false) (uvw : Fin 8) (hm : s.dev.portMode p = 2)
    (hlines : (s.dev.port p).lines < 8) : let q := s.dev.port p
    let rev : Int := if bit q.ctrl.toNat 11 then -1 else 1
    let pins := pinsNow s.dev p 7 (hallPins uvw)
    (uvw.val ≠ 0 → uvw.val ≠ 7 → q.lines ≠ 0 → q.lines ≠ 7 →
      (uvw.val = hallNext q.lines → leads (.hallEdge p uvw) s (Claims.countsEdge s.dev · p uvw pins rev)) ∧
      (q.lines = hallNext uvw → leads (.hallEdge p uvw) s (Claims.countsEdge s.dev · p uvw pins (-rev))) ∧
      (uvw.val ≠ hallNext q.lines → q.lines ≠ hallNext uvw → uvw.val ≠ q.lines →
        leads (.hallEdge p uvw) s (Claims.illegalEdge s.dev · p uvw pins))) ∧
    (uvw.val = q.lines → leads (.hallEdge p uvw) s (Claims.levelsOnly s.dev · p uvw pins)) ∧
    (uvw.val = 0 ∨ uvw.val = 7 → uvw.val ≠ q.lines → leads (.hallEdge p uvw) s (Claims.illegalEdge s.dev · p uvw pins)) ∧
    (q.lines = 0 ∨ q.lines = 7 → uvw.val ≠ 0 → uvw.val ≠ 7 → leads (.hallEdge p uvw) s (Claims.levelsOnly s.dev · p uvw pins)) := by
  intro q rev pins
  have hq : PortAs s.dev (s.dev.levelled p uvw 7 (hallPins uvw)) p (q.levelled uvw pins) := .levelled (by rw [hm]; decide) _ _ _
  have hlevels : s.dev.hallEdge p uvw = s.dev.levelled p uvw 7 (hallPins uvw) →
      leads (.hallEdge p uvw) s (Claims.levelsOnly s.dev · p uvw pins) :=
    fun h => leads_onDev_of_clk rfl hr h hq.clk hq.levelsOnly
  have hnone : ∀ u : Fin 8, u.val ≠ 0 → u.val ≠ 7 → ∃ a, hallPlace u = some a := fun u h0 h7 =>
    Option.ne_none_iff_exists'.mp fun h => ((hallPlace_eq_none u).mp h).elim h0 h7
  have hcases := hallTurn_cases ⟨q.lines, hlines⟩ uvw
  refine ⟨fun h0 h7 hq0 hq7 => ?_, fun h => hlevels ?_, fun hbad hne => ?_, fun hold h0 h7 => ?_⟩
  · obtain ⟨hfwd, hback, -, hfar⟩ := hcases h0 h7 hq0 hq7
    refine ⟨fun h => leads_portEdge rfl hr (Device.hallEdge_forward hm (hfwd h)) hq, fun h => ?_, fun hf hb hne => ?_⟩
    · have hrev : -rev = if bit q.ctrl.toNat 11 then 1 else -1 := by simp only [rev]; split <;> rfl
      rw [hrev]
      exact leads_portEdge rfl hr (Device.hallEdge_back hm (hback h)) hq
    · have hturn : ∃ t, hallTurn q.lines uvw = some t ∧ (t = 2 ∨ t = 3 ∨ t = 4) := by
        obtain ht | ht | ht := hfar hf hb hne
        · exact ⟨2, ht, .inl rfl⟩
        · exact ⟨3, ht, .inr (.inl rfl)⟩
        · exact ⟨4, ht, .inr (.inr rfl)⟩
      obtain ⟨t, ht, hfar⟩ := hturn
      exact leads_portIllegal p.isLt rfl hr (Device.hallEdge_far hm ht hfar) hq
  · by_cases hbad : uvw.val = 0 ∨ uvw.val = 7
    · exact (Device.hallEdge_none hm ((hallPlace_eq_none uvw).mpr hbad)).trans (if_pos h.symm)
    · have hv := not_or.mp hbad
      exact Device.hallEdge_still hm ((hcases hv.1 hv.2 (fun hz => hv.1 (h.trans hz)) (fun hz => hv.2 (h.trans hz))).2.2.1 h)
  · exact leads_portIllegal p.isLt rfl hr
      ((Device.hallEdge_none hm ((hallPlace_eq_none uvw).mpr hbad)).trans (if_neg (Ne.symm hne))) hq
  · obtain ⟨a, ha⟩ := hnone uvw h0 h7
    exact hlevels (Device.hallEdge_resume hm ((hallPlace_eq_none ⟨q.lines, hlines⟩).mpr hold) ha)

/-! ### Z (R181) -/

section Z
variable {d : Device} {p : Nat}

/-- Port `p` with the level of Z changed, and what copies it. -/
def Device.zLevelled (d : Device) (p : Nat) (rising : Bool) : Device :=
  (d.setPort p fun s => { s with z := rising }).pinsSet p 4 (4 * b2n rising)

/-- What a rising Z with ZMODE 1 captures. -/
def Device.zCaptured (d : Device) (p : Nat) (r : Int) : Device := ((d.wrS64 (FB_Z p) r).raise (FB_EVENT_Z_SEEN p)).note 20 p r

theorem Device.sameRegs_zCaptured (d : Device) (p : Nat) (r : Int) : sameRegs (d.wrS64 (FB_Z p) r) (d.zCaptured p r) (· = FB_EVENT p) :=
  sameRegs.trans (e := (d.wrS64 (FB_Z p) r).raise (FB_EVENT_Z_SEEN p)) (.put _ (FB_EVENT_Z_SEEN p) 1 _ rfl) (.regs _ rfl)

theorem Device.zEdge_unwatched (rising : Bool) (hm : d.portMode p = 1) (hz : bit (d.port p).ctrl.toNat 10 = false) :
    d.zEdge p rising = d.zLevelled p rising := by
  unfold Device.zEdge
  rw [if_neg (by simp [hm])]
  extract_lets d1 d2
  rw [hz]
  rfl

theorem Device.zEdge_watched (rising : Bool) (hm : d.portMode p = 1) (hz : bit (d.port p).ctrl.toNat 10 = true) : d.zEdge p rising =
    (if rising then (d.zLevelled p rising).zCaptured p (d.port p).r else d.zLevelled p rising).ltSource 4 p (!rising) 0 := by
  unfold Device.zEdge
  rw [if_neg (by simp [hm])]
  extract_lets d1 d2
  rw [hz]
  rfl

theorem PortAs.zLevelled (hmode : d.portMode p ≠ 6) (rising : Bool) : PortAs d (d.zLevelled p rising) p
    { d.port p with z := rising, pins := pinsNow d p 4 (if rising then 4 else 0) } := by
  have h := ((PortAs.refl d p).setPort fun s => { s with z := rising }).pinsSet hmode 4 (4 * b2n rising)
  cases rising <;> exact h

/-- A register of a port is none that latch units write. -/
theorem not_edgeReg_port (hp : p < 16) {o : Nat} (ho : o < 0x100) : ¬ edgeReg (0xC0000 + o + 0x100 * p) := by
  simp only [edgeReg, msReg, queueReg]
  omega

end Z

section ZEdges
variable {s : State} {p : Fin 16} (hr : s.dev.inReset = false) (hm : s.dev.portMode p = 1)
include hr hm

/-- An edge of Z that the port does not watch. -/
theorem leads_zEdge_unwatched (rising : Bool) (hz : bit (s.dev.port p).ctrl.toNat 10 = false) : leads (.zEdge p rising) s (fun d =>
    d.port p = { s.dev.port p with z := rising, pins := pinsNow s.dev p 4 (if rising then 4 else 0) } ∧ samePorts s.dev d p ∧
      { d with ports := s.dev.ports } = s.dev) := by
  have hq : PortAs s.dev (s.dev.zLevelled p rising) p _ := .zLevelled (by rw [hm]; decide) rising
  exact leads_onDev_of_clk rfl hr (Device.zEdge_unwatched rising hm hz) hq.clk ⟨hq.own, hq.others, hq.rest⟩

/-- An edge of Z that the port watches reaches the latch units; a rising one captures R. -/
theorem leads_zEdge_watched (rising : Bool) (hz : bit (s.dev.port p).ctrl.toNat 10 = true) : leads (.zEdge p rising) s (fun d =>
    d.port p = { s.dev.port p with z := rising, pins := pinsNow s.dev p 4 (if rising then 4 else 0) } ∧
      (rising = true → d.rdS64 (FB_Z p) = toS 64 (ofS 64 (s.dev.port p).r) ∧ d.has (FB_EVENT_Z_SEEN p) = true) ∧
      (rising = false → d.rdS64 (FB_Z p) = s.dev.rdS64 (FB_Z p))) := by
  have hq : PortAs s.dev (s.dev.zLevelled p rising) p _ := .zLevelled (by rw [hm]; decide) rising
  have hzReg : ¬ edgeReg (FB_Z p) := by
    simpa only [FB_Z, Nat.add_right_comm] using not_edgeReg_port p.isLt (o := 0x38) (by decide)
  have hzReg4 : ¬ edgeReg (FB_Z p + 4) := by
    simpa only [FB_Z, Nat.add_right_comm] using not_edgeReg_port p.isLt (o := 0x3C) (by decide)
  have hevent : ¬ edgeReg (FB_EVENT p) := by
    simpa only [FB_EVENT, Nat.add_right_comm] using not_edgeReg_port p.isLt (o := 0x1C) (by decide)
  have hz := Device.zEdge_watched rising hm hz
  generalize hf : (if rising = true then (s.dev.zLevelled p rising).zCaptured p (s.dev.port p).r else s.dev.zLevelled p rising) = f at hz
  have hstill : s.dev.still (fun d => d.zEdge p rising) = { f.ltSource 4 p (!rising) 0 with clk := s.dev.clk } := by
    simp only [Device.still, hz]
  have hregs : sameRegs f (s.dev.still fun d => d.zEdge p rising) edgeReg := by
    rw [hstill]
    exact (EdgeOnly.ltSource f 4 p (!rising) 0).regs
  have hports : (s.dev.still fun d => d.zEdge p rising).ports = f.ports := by
    rw [hstill]
    exact (Apart.ltSource f 4 p (!rising) 0).ports
  refine leads_onDev _ s (fun d => d.zEdge p rising) _ rfl hr ⟨(Device.port_congr hports p).trans ?_, fun h => ?_, fun h => ?_⟩
  · subst hf
    cases rising <;> exact hq.own
  · subst h hf
    have hput := Device.sameRegs_zCaptured (s.dev.zLevelled p true) p (s.dev.port p).r
    refine ⟨(hregs.rdS64 hzReg hzReg4).trans ((hput.rdS64 ?_ ?_).trans (Device.rdS64_wrS64_same _ _ _)), (hregs.has hevent).trans ?_⟩
    · simp only [FB_Z, FB_EVENT]; omega
    · simp only [FB_Z, FB_EVENT]; omega
    · exact Device.has_raise ((s.dev.zLevelled p true).wrS64 (FB_Z p) (s.dev.port p).r) (f := FB_EVENT_Z_SEEN p)
        (by simp only [FB_EVENT_Z_SEEN]; decide) rfl
  · subst h hf
    exact (hregs.rdS64 hzReg hzReg4).trans ((sameRegs.regs (fun _ => False) hq.regs).rdS64 id id)

end ZEdges

end Machine

theorem portEdgesCountByDirection : Claims.PortEdgesCountByDirection := by
  intro s p hr
  refine ⟨fun ab hm hl => leads_quadEdge hr ab hm hl, fun uvw hm hl => leads_hallEdge hr uvw hm hl,
    fun rising hm hz => leads_zEdge_watched hr hm rising hz, fun rising hm hz => leads_zEdge_unwatched hr hm rising hz,
    fun hm => ⟨fun ab => ?_, fun rising => ?_⟩, fun hm uvw => ?_⟩
  · exact leads_onDev_of_clk rfl hr (if_pos hm) rfl rfl
  · exact leads_onDev_of_clk rfl hr (if_pos hm) rfl rfl
  · exact leads_onDev_of_clk rfl hr (if_pos hm) rfl rfl

end Sys2Proof
end

section
/-! How a serial transfer ends (R174, R175, R197): a position taken or a miss, and that neither reaches anything but the port where no
axis and no convoy wait for it. -/

namespace Sys2Proof

open Sys2Proof.Machine
open Claims (portTakes portMisses noneAwaits)

namespace Machine

/-! ### Delivery -/

theorem Device.cyCatchUp_of_noneAwaits {d : Device} (h : noneAwaits d) : d.cyCatchUp = d := by
  have htodo : (List.range 32).filter (fun c => (d.cy c).await) = [] :=
    List.filter_eq_nil_iff.mpr fun c hc => by simp [h c (List.mem_range.mp hc)]
  unfold Device.cyCatchUp
  rw [htodo]
  rfl

/-- A port that feeds no axis, with no follower waiting. -/
theorem Device.portDeliver_of_unused {d : Device} {p : Nat} (hu : d.portUsers p = []) (ha : noneAwaits d) (x : SrcIn) :
    d.portDeliver p x = d := by
  unfold Device.portDeliver
  rw [hu]
  exact Device.cyCatchUp_of_noneAwaits ha

/-- A port's own registers name no source. -/
theorem portReg_ne_axFbSrc {p : Nat} (hp : p < 16) {o : Nat} (ho : o < 0x100) (k : Nat) : AX_FB_SRC k ≠ 0xC0000 + o + 0x100 * p := by
  have hp' := hp
  simp only [AX_FB_SRC]
  omega

/-! ### What stands before the outcome -/

/-- Between the blocks at most port `p` with its status and events differs, and not in its position. -/
structure Heard (d e : Device) (p : Nat) : Prop where
  raw : (e.port p).raw = (d.port p).raw
  r : (e.port p).r = (d.port p).r
  others : ∀ i, i ≠ p → e.port i = d.port i
  rest : { e with ports := d.ports, regs := d.regs } = d
  regs : sameRegs d e (fun a => a = FB_STATUS p ∨ a = FB_EVENT p)

namespace Heard
variable {d e : Device} {p : Nat}

theorem refl (d : Device) (p : Nat) : Heard d d p := ⟨rfl, rfl, fun _ _ => rfl, rfl, .refl d _⟩

theorem put (h : Heard d e p) (f : Fld) (v : Nat) (hf : f.addr = FB_STATUS p ∨ f.addr = FB_EVENT p) : Heard d (e.put f v) p :=
  ⟨h.raw, h.r, h.others, h.rest, h.regs.trans (.put e f v _ hf)⟩

theorem setPort (h : Heard d e p) (g : FbPort → FbPort) (hraw : ∀ q, (g q).raw = q.raw) (hr : ∀ q, (g q).r = q.r) :
    Heard d (e.setPort p g) p where
  raw := by rw [Device.port_setPort_same, hraw, h.raw]
  r := by rw [Device.port_setPort_same, hr, h.r]
  others i hi := (Device.port_setPort_other _ _ _ hi).trans (h.others i hi)
  rest := h.rest
  regs := h.regs.trans (.regs _ rfl)

/-- A part of the block in which neither ports nor registers show is the same. -/
theorem part {α : Type} (h : Heard d e p) (g : Device → α) (hg : ∀ x ports regs, g { x with ports := ports, regs := regs } = g x) : g e = g d :=
  (hg e _ _).symm.trans (congrArg g h.rest)

theorem clk (h : Heard d e p) : e.clk = d.clk := h.part Device.clk fun _ _ _ => rfl

end Heard

/-! ### A miss -/

/-- The block with the transfer of port `p` over. -/
def Device.over (d : Device) (p : Nat) : Device := (d.portBusy p false).put (FB_STATUS_LAST_OK p) 0

/-- The block with the transfer of port `p` over, the event `ev` raised and the counter `cnt`, if there is one, counted. -/
def Device.missed (d : Device) (p : Nat) (ev : Fld) : Option Fld → Device
  | some f => ((d.over p).raise ev).incSat f
  | none => (d.over p).raise ev

theorem Device.portMiss_crc (d : Device) (p : Nat) :
    d.portMiss p 1 = (d.missed p (FB_EVENT_CRC p) (some (FB_ERRCNT_CRC p))).portDeliver p (.miss 1 none) := rfl

theorem Device.portMiss_timeout (d : Device) (p : Nat) :
    d.portMiss p 2 = (d.missed p (FB_EVENT_TIMEOUT p) (some (FB_ERRCNT_TMO p))).portDeliver p (.miss 2 none) := rfl

theorem Device.portMiss_encErr (d : Device) (p : Nat) :
    d.portMiss p 4 = (d.missed p (FB_EVENT_ENC_ERR p) (some (FB_ERRCNT_ENC p))).portDeliver p (.miss 4 none) := rfl

theorem Device.portMiss_life (d : Device) (p : Nat) :
    d.portMiss p 5 = (d.missed p (FB_EVENT_LIFE p) none).portDeliver p (.miss 5 none) := rfl

theorem Device.portMiss_aborted (d : Device) (p : Nat) :
    d.portMiss p 7 = (d.missed p (FB_EVENT_ABORTED p) none).portDeliver p (.miss 7 none) := rfl

/-- A flag of the port's events. -/
def isEvent (p : Nat) (f : Fld) : Prop := f.addr = FB_EVENT p ∧ f.lo + f.width ≤ 32 ∧ f.width = 1

/-- A counter of the port's errors. -/
def isCounter (p : Nat) (f : Fld) : Prop := f.addr = FB_ERRCNT p ∧ f.lo + f.width ≤ 32 ∧ f.width = 8

/-- A field written changes the registers alone. -/
theorem Device.put_eq (d : Device) (f : Fld) (v : Nat) : ∃ regs, d.put f v = { d with regs := regs } := ⟨_, rfl⟩

section Over
variable (d : Device) (p : Nat)

theorem Device.over_eq : ∃ regs, d.over p = { d.setPort p fun s => { s with busy := false } with regs := regs } := by
  obtain ⟨regs, h⟩ := (d.setPort p fun s => { s with busy := false }).put_eq (FB_STATUS_BUSY p) 0
  obtain ⟨regs', h'⟩ := (d.portBusy p false).put_eq (FB_STATUS_LAST_OK p) 0
  exact ⟨regs', h'.trans (congrArg (fun y : Device => { y with regs := regs' }) h)⟩

theorem Device.port_over : (d.over p).port p = { d.port p with busy := false } :=
  d.port_setPort_same p fun s => { s with busy := false }

theorem Device.port_over_other {j : Nat} (h : j ≠ p) : (d.over p).port j = d.port j :=
  d.port_setPort_other p (fun s => { s with busy := false }) h

theorem Device.sameRegs_over : sameRegs d (d.over p) (· = FB_STATUS p) :=
  (sameRegs.trans (e := d.portBusy p false) ((sameRegs.regs _ rfl).trans (.put _ (FB_STATUS_BUSY p) _ _ rfl)) (.put _ (FB_STATUS_LAST_OK p) 0 _ rfl))

theorem Device.lastOk_over : (d.over p).has (FB_STATUS_LAST_OK p) = false := by
  rw [Device.has, Device.over, Device.get_put_same _ _ _ (by simp only [FB_STATUS_LAST_OK]; decide)]
  rfl

theorem Device.busy_over : (d.over p).has (FB_STATUS_BUSY p) = false := by
  rw [Device.has, Device.over, Device.get_put_bits _ _ _ _ (by simp only [FB_STATUS_LAST_OK, FB_STATUS_BUSY]; decide)
    (by simp only [FB_STATUS_BUSY]; decide), Device.portBusy, Device.get_put_same _ _ _ (by simp only [FB_STATUS_BUSY]; decide)]
  rfl

end Over

section Missed
variable {d e : Device} {p : Nat} {ev : Fld} {cnt : Option Fld}

theorem Device.sameRegs_missed (hev : isEvent p ev) (hcnt : ∀ f ∈ cnt, isCounter p f) :
    sameRegs (e.over p) (e.missed p ev cnt) (fun a => a = FB_EVENT p ∨ a = FB_ERRCNT p) := by
  have hraise : sameRegs (e.over p) ((e.over p).raise ev) (fun a => a = FB_EVENT p ∨ a = FB_ERRCNT p) := .put _ ev 1 _ (.inl hev.1)
  cases cnt with
  | none => exact hraise
  | some f => exact hraise.trans (.put _ f _ _ (.inr (hcnt f rfl).1))

theorem Device.raised_missed (hev : isEvent p ev) (hcnt : ∀ f ∈ cnt, isCounter p f) : (e.missed p ev cnt).has ev = true := by
  have hraise : ((e.over p).raise ev).has ev = true := Device.has_raise _ hev.2.1 hev.2.2
  cases cnt with
  | none => exact hraise
  | some f =>
    refine ((sameRegs.put _ f _ (· = FB_ERRCNT p) (hcnt f rfl).1).has ?_).trans hraise
    rw [hev.1]
    simp only [FB_EVENT, FB_ERRCNT]
    omega

theorem Device.counted_missed (hev : isEvent p ev) {f : Fld} (hf : isCounter p f) : (e.missed p ev (some f)).get f = satU 8 (e.get f + 1) := by
  obtain ⟨haddr, hfits, hw⟩ := hf
  have hother : ((e.over p).raise ev).get f = e.get f := by
    refine (Device.get_put_addr _ _ _ _ ?_).trans ((e.sameRegs_over p).get ?_)
    · rw [haddr, hev.1]
      simp only [FB_EVENT, FB_ERRCNT]
      omega
    · rw [haddr]
      simp only [FB_STATUS, FB_ERRCNT]
      omega
  refine (Device.get_incSat_same _ _ _ hfits).trans ?_
  rw [hw, hother]

theorem Device.missed_eq (e : Device) (p : Nat) (ev : Fld) (cnt : Option Fld) :
    ∃ regs, e.missed p ev cnt = { e.setPort p fun s => { s with busy := false } with regs := regs } := by
  obtain ⟨regs, h⟩ := e.over_eq p
  obtain ⟨regs1, h1⟩ := (e.over p).put_eq ev 1
  have hraise : (e.over p).raise ev = { e.setPort p fun s => { s with busy := false } with regs := regs1 } :=
    h1.trans (congrArg (fun y : Device => { y with regs := regs1 }) h)
  cases cnt with
  | none => exact ⟨regs1, hraise⟩
  | some f =>
    obtain ⟨regs2, h2⟩ := ((e.over p).raise ev).put_eq f (satU f.width (((e.over p).raise ev).get f + 1))
    exact ⟨regs2, h2.trans (congrArg (fun y : Device => { y with regs := regs2 }) hraise)⟩

theorem Device.ports_missed : (e.missed p ev cnt).ports = (e.over p).ports := by
  obtain ⟨regs, h⟩ := e.missed_eq p ev cnt
  rw [h]
  rfl

theorem Device.rest_missed : { e.missed p ev cnt with ports := d.ports, regs := d.regs } = { e with ports := d.ports, regs := d.regs } := by
  obtain ⟨regs, h⟩ := e.missed_eq p ev cnt
  rw [h]
  rfl

/-- A block with a transfer missed, whose ports are those of the miss and which is the miss where nobody waits for it. -/
theorem Heard.portMisses {b : Device} (h : Heard d e p) (hev : isEvent p ev) (hcnt : ∀ f ∈ cnt, isCounter p f)
    (hports : b.ports = (e.missed p ev cnt).ports) (hidle : d.portUsers p = [] → noneAwaits d → b = e.missed p ev cnt) :
    portMisses d b p ev cnt := by
  have hport : ∀ j, b.port j = (e.over p).port j := Device.port_congr (hports.trans Device.ports_missed)
  refine ⟨?_, ?_, ?_, fun i hi => ?_, fun hu ha => ?_⟩
  · rw [hport, Device.port_over]
  · rw [hport, Device.port_over]
    exact h.raw
  · rw [hport, Device.port_over]
    exact h.r
  · rw [hport]
    exact (e.port_over_other p hi).trans (h.others i hi)
  · rw [hidle hu ha]
    have hstatus : ∀ f : Fld, f.addr = FB_STATUS p → (e.missed p ev cnt).has f = (e.over p).has f := fun f hf =>
      (Device.sameRegs_missed hev hcnt).has (by simp only [hf, FB_STATUS, FB_EVENT, FB_ERRCNT]; omega)
    refine ⟨(hstatus _ rfl).trans (e.lastOk_over p), (hstatus _ rfl).trans (e.busy_over p), Device.raised_missed hev hcnt, fun f hf => ?_,
      Device.rest_missed.trans h.rest, ?_⟩
    · subst hf
      have hsame : e.get f = d.get f := h.regs.get (by
        rw [(hcnt f rfl).1]
        simp only [FB_STATUS, FB_EVENT, FB_ERRCNT]
        omega)
      rw [Device.counted_missed hev (hcnt f rfl), hsame]
    · refine (h.regs.mono ?_).trans (((e.sameRegs_over p).mono ?_).trans ((Device.sameRegs_missed hev hcnt).mono ?_)) <;>
        simp +contextual [or_imp]

end Missed

/-! ### Who waits for the outcome -/

/-- Between the blocks the convoys are the same, and of the registers at most those of port `p`. -/
structure Unshared (d e : Device) (p : Nat) : Prop where
  clk : e.clk = d.clk
  convoys : e.convoys = d.convoys
  regs : sameRegs d e (fun a => ∃ o < 0x100, a = 0xC0000 + o + 0x100 * p)

namespace Unshared
variable {d e : Device} {p : Nat}

theorem portUsers (h : Unshared d e p) (hp : p < 16) : e.portUsers p = d.portUsers p :=
  Device.portUsers_congr (fun k _ => h.regs _ fun ⟨_, ho, heq⟩ => portReg_ne_axFbSrc hp ho k heq) p

theorem noneAwaits (h : Unshared d e p) (ha : noneAwaits d) : Claims.noneAwaits e := fun c hc => by
  rw [Device.cy, h.convoys]
  exact ha c hc

end Unshared

/-- The registers that the outcome of a transfer of port `p` may write. -/
def overReg (p a : Nat) : Prop := a ∈ [FB_STATUS p, FB_EVENT p, FB_ERRCNT p, FB_RAW p, FB_RAW p + 4]

theorem portReg_of_overReg {p a : Nat} (h : overReg p a) : ∃ o < 0x100, a = 0xC0000 + o + 0x100 * p := by
  simp only [overReg, List.mem_cons, List.not_mem_nil, or_false] at h
  obtain rfl | rfl | rfl | rfl | rfl := h
  · exact ⟨0x18, by decide, rfl⟩
  · exact ⟨0x1C, by decide, rfl⟩
  · exact ⟨0x20, by decide, rfl⟩
  · exact ⟨0x28, by decide, rfl⟩
  · exact ⟨0x2C, by decide, by simp only [FB_RAW]; omega⟩

/-- A block with a transfer missed on the way. -/
theorem Heard.unshared_missed {d e : Device} {p : Nat} {ev : Fld} {cnt : Option Fld} (h : Heard d e p) (hev : isEvent p ev)
    (hcnt : ∀ f ∈ cnt, isCounter p f) : Unshared d (e.missed p ev cnt) p := by
  have hregs : sameRegs d (e.missed p ev cnt) (overReg p) := by
    refine (h.regs.mono ?_).trans (((e.sameRegs_over p).mono ?_).trans ((Device.sameRegs_missed hev hcnt).mono ?_)) <;>
      simp +contextual [or_imp, overReg]
  obtain ⟨regs, heq⟩ := e.missed_eq p ev cnt
  refine ⟨?_, ?_, hregs.mono fun _ => portReg_of_overReg⟩
  · rw [heq]
    exact h.clk
  · rw [heq]
    exact h.part Device.convoys fun _ _ _ => rfl

/-- A command that ends a transfer of port `p` with a miss, with what it does before. -/
theorem leads_missed {c : Instr} {s : State} {g : Device → Device} {d e : Device} {p : Nat} {ev : Fld} {cnt : Option Fld} {cause : Nat}
    (hp : p < 16) (hc : exec c s = .next (s.onDev g)) (hr : s.dev.inReset = false) (hd : d.clk = s.dev.clk) (h : Heard d e p)
    (hg : g s.dev = (e.missed p ev cnt).portDeliver p (.miss cause none)) (hev : isEvent p ev) (hcnt : ∀ f ∈ cnt, isCounter p f) :
    leads c s (portMisses d · p ev cnt) := by
  have hshared := h.unshared_missed hev hcnt
  refine leads_onDev c s g _ hc hr (h.portMisses hev hcnt ?_ fun hu ha => ?_)
  · exact (congrArg Device.ports hg).trans (Apart.portDeliver _ p _).ports
  · rw [Device.portDeliver_of_unused ((hshared.portUsers hp).trans hu) (hshared.noneAwaits ha)] at hg
    exact Device.still_of_clk hg (hshared.clk.trans hd)

/-! ### A position taken -/

/-- The extended count of a port after a raw position (R174). -/
def FbPort.takes (q : FbPort) (raw width : Nat) (sgnd : Bool) : Int :=
  match q.raw with
  | none => if sgnd then toS width raw else ((raw % 2 ^ width : Nat) : Int)
  | some old => q.r + toS width (raw + 2 ^ width - old % 2 ^ width)

/-- The block with a raw position of port `p` taken, before the axes on the port see it. -/
def Device.taken (d : Device) (p raw width : Nat) (sgnd : Bool) : Device :=
  (((d.portBusy p false).setPort p fun s => { s with raw := some (raw % 2 ^ width), r := (d.port p).takes raw width sgnd }).put
    (FB_STATUS_LAST_OK p) 1).wrS64 (FB_RAW p) ((d.port p).takes raw width sgnd)

theorem Device.portSample_eq (d : Device) (p raw width : Nat) (sgnd : Bool) :
    d.portSample p raw width sgnd = (d.taken p raw width sgnd).portDeliver p (.word raw width true sgnd none) := rfl

section Taken
variable (d : Device) (p raw width : Nat) (sgnd : Bool)

theorem Device.port_taken : (d.taken p raw width sgnd).port p =
    { d.port p with busy := false, raw := some (raw % 2 ^ width), r := (d.port p).takes raw width sgnd } := by
  have hset := (d.portBusy p false).port_setPort_same p fun s =>
    { s with raw := some (raw % 2 ^ width), r := (d.port p).takes raw width sgnd }
  have hbusy : (d.portBusy p false).port p = { d.port p with busy := false } := d.port_setPort_same p fun s => { s with busy := false }
  rw [hbusy] at hset
  exact hset

theorem Device.port_taken_other {j : Nat} (h : j ≠ p) : (d.taken p raw width sgnd).port j = d.port j :=
  ((d.portBusy p false).port_setPort_other p (fun s =>
    { s with raw := some (raw % 2 ^ width), r := (d.port p).takes raw width sgnd }) h).trans
    (d.port_setPort_other p (fun s => { s with busy := false }) h)

theorem Device.sameRegs_taken : sameRegs d (d.taken p raw width sgnd) (fun a => a ∈ [FB_STATUS p, FB_RAW p, FB_RAW p + 4]) := by
  have hbusy : sameRegs d (d.portBusy p false) (fun a => a ∈ [FB_STATUS p, FB_RAW p, FB_RAW p + 4]) :=
    (sameRegs.regs _ rfl).trans (.put _ (FB_STATUS_BUSY p) _ _ (by simp [FB_STATUS_BUSY]))
  refine ((hbusy.trans (.regs _ rfl)).trans (.put _ (FB_STATUS_LAST_OK p) 1 _ ?_)).trans (.wr64 _ _ _ _ ?_ ?_) <;>
    simp [FB_STATUS_LAST_OK]

theorem Device.rest_taken (x : Device) : { d.taken p raw width sgnd with ports := x.ports, regs := x.regs } =
    { d with ports := x.ports, regs := x.regs } := by
  obtain ⟨regs, h⟩ := (d.setPort p fun s => { s with busy := false }).put_eq (FB_STATUS_BUSY p) 0
  obtain ⟨regs', h'⟩ := ((d.portBusy p false).setPort p fun s =>
    { s with raw := some (raw % 2 ^ width), r := (d.port p).takes raw width sgnd }).put_eq (FB_STATUS_LAST_OK p) 1
  have hput := congrArg (fun y : Device => { y with ports := x.ports, regs := x.regs }) h'
  have hbusy := congrArg (fun y : Device => { y with ports := x.ports, regs := x.regs }) h
  exact hput.trans hbusy

/-- A field of the status that the outcome leaves alone. -/
theorem Device.status_taken {f : Fld} (hf : f.addr = FB_STATUS p) (hlo : 3 ≤ f.lo) (hfits : f.lo + f.width ≤ 32) :
    (d.taken p raw width sgnd).get f = d.get f := by
  have hraw : ∀ y : Device, (y.wrS64 (FB_RAW p) ((d.port p).takes raw width sgnd)).get f = y.get f := fun y =>
    (sameRegs.wr64 y _ _ (fun a => a = FB_RAW p ∨ a = FB_RAW p + 4) (.inl rfl) (.inr rfl)).get (by
      simp only [hf, FB_STATUS, FB_RAW]; omega)
  have hok : ∀ y : Device, (y.put (FB_STATUS_LAST_OK p) 1).get f = y.get f := fun y =>
    y.get_put_bits _ _ _ (.inr (by simp only [FB_STATUS_LAST_OK]; omega)) hfits
  have hbusy : ∀ y : Device, (y.put (FB_STATUS_BUSY p) 0).get f = y.get f := fun y =>
    y.get_put_bits _ _ _ (.inr (by simp only [FB_STATUS_BUSY]; omega)) hfits
  exact (hraw _).trans ((hok _).trans (hbusy _))

theorem Device.flags_taken : (d.taken p raw width sgnd).has (FB_STATUS_LAST_OK p) = true ∧
    (d.taken p raw width sgnd).has (FB_STATUS_BUSY p) = false := by
  have hraw : ∀ (y : Device) (f : Fld), f.addr = FB_STATUS p → (y.wrS64 (FB_RAW p) ((d.port p).takes raw width sgnd)).get f = y.get f :=
    fun y f hf => (sameRegs.wr64 y _ _ (fun a => a = FB_RAW p ∨ a = FB_RAW p + 4) (.inl rfl) (.inr rfl)).get (by
      simp only [hf, FB_STATUS, FB_RAW]; omega)
  refine ⟨?_, ?_⟩
  · rw [Device.has, Device.taken, hraw _ _ rfl]
    exact Device.has_raise _ (by simp only [FB_STATUS_LAST_OK]; decide) rfl
  · rw [Device.has, Device.taken, hraw _ _ rfl, Device.get_put_bits _ _ _ _ (by simp only [FB_STATUS_LAST_OK, FB_STATUS_BUSY]; decide)
      (by simp only [FB_STATUS_BUSY]; decide)]
    have hbusy := (d.setPort p fun s => { s with busy := false }).get_put_same (FB_STATUS_BUSY p) 0 (by simp only [FB_STATUS_BUSY]; decide)
    rw [Device.get_setPort, Device.portBusy, b2n, if_neg Bool.false_ne_true, hbusy]
    rfl

end Taken

/-- A block with a position taken, whose ports are those of the sample and which is the sample where nobody waits for it. -/
theorem Heard.portTakes {d e b : Device} {p raw width : Nat} {sgnd : Bool} (h : Heard d e p)
    (hports : b.ports = (e.taken p raw width sgnd).ports) (hidle : d.portUsers p = [] → noneAwaits d → b = e.taken p raw width sgnd) :
    portTakes d b p raw width sgnd := by
  have hport : ∀ j, b.port j = (e.taken p raw width sgnd).port j := Device.port_congr hports
  have hq := e.port_taken p raw width sgnd
  refine ⟨?_, ?_, fun i hi => ?_, fun hraw => ?_, fun old hold => ?_, fun hu ha => ?_⟩
  · rw [hport, hq]
  · rw [hport, hq]
  · rw [hport, e.port_taken_other p raw width sgnd hi, h.others i hi]
  · rw [hport, hq]
    simp only [FbPort.takes, h.raw, hraw]
  · rw [hport, hq]
    simp only [FbPort.takes, h.raw, hold, h.r]
  · rw [hidle hu ha, hq]
    obtain ⟨hok, hbusy⟩ := e.flags_taken p raw width sgnd
    refine ⟨hok, hbusy, Device.rdS64_wrS64_same _ _ _, (e.rest_taken p raw width sgnd d).trans h.rest, ?_⟩
    refine (h.regs.mono ?_).trans ((e.sameRegs_taken p raw width sgnd).mono ?_) <;> simp +contextual [or_imp]

theorem Heard.unshared_taken {d e : Device} {p : Nat} (h : Heard d e p) (raw width : Nat) (sgnd : Bool) :
    Unshared d (e.taken p raw width sgnd) p := by
  have hregs : sameRegs d (e.taken p raw width sgnd) (overReg p) := by
    refine (h.regs.mono ?_).trans ((e.sameRegs_taken p raw width sgnd).mono ?_) <;> simp +contextual [or_imp, overReg]
  have hrest := (e.rest_taken p raw width sgnd d).trans h.rest
  refine ⟨?_, ?_, hregs.mono fun _ => portReg_of_overReg⟩
  · have hclk := congrArg Device.clk hrest
    exact hclk
  · have hconvoys := congrArg Device.convoys hrest
    exact hconvoys

/-- A command that ends a transfer of port `p` with a position, and what else holds of the block with the position taken. -/
theorem leads_taken {c : Instr} {s : State} {g : Device → Device} {e : Device} {p raw width : Nat} {sgnd : Bool} {P : Device → Prop}
    (hp : p < 16) (hc : exec c s = .next (s.onDev g)) (hr : s.dev.inReset = false) (h : Heard s.dev e p)
    (hg : g s.dev = e.portSample p raw width sgnd)
    (hP : ∀ b : Device, b.ports = (e.taken p raw width sgnd).ports →
      (s.dev.portUsers p = [] → noneAwaits s.dev → b = e.taken p raw width sgnd) → P b) : leads c s P := by
  have hshared := h.unshared_taken raw width sgnd
  rw [Device.portSample_eq] at hg
  refine leads_onDev c s g _ hc hr (hP _ ?_ fun hu ha => ?_)
  · exact (congrArg Device.ports hg).trans (Apart.portDeliver _ p _).ports
  · rw [Device.portDeliver_of_unused ((hshared.portUsers hp).trans hu) (hshared.noneAwaits ha)] at hg
    exact Device.still_of_clk hg hshared.clk

end Machine
end Sys2Proof
end

section
/-! The settings of ports and sources (R172, R179, R183, R187). -/

namespace Sys2Proof

open Sys2Proof.Machine
open Claims (portSets portRefused portMisses noneAwaits)

namespace Machine

/-! ### The outcomes of a write -/

/-- A register that holds a setting of port `p`. -/
def settingReg (p a : Nat) : Prop := a = FB_CTRL p ∨ a = FB_SER p ∨ a = FB_TIMING p

section Setting
variable {c : Instr} {s : State} {g : Device → Device} {p : Nat} (hc : exec c s = .next (s.onDev g)) (hr : s.dev.inReset = false)
include hc hr

theorem leads_portRefuse (hg : g s.dev = s.dev.portRefuse p) : leads c s (portRefused s.dev · p) :=
  leads_onDev_of_clk hc hr hg rfl
    ⟨Device.has_raise _ (by simp only [FB_EVENT_REFUSED]; decide) rfl, rfl, .put _ (FB_EVENT_REFUSED p) 1 _ rfl⟩

/-- A setting that is accepted, with a transfer in progress aborted. -/
theorem leads_portSet (hp : p < 16) {a v : Nat} (ha : settingReg p a) (hv : v < 2 ^ 32) (hg : g s.dev = s.dev.portSet p a v) :
    leads c s (portSets s.dev · p a v) := by
  have hword : (s.dev.wrN a v).rdN a = v := s.dev.rdN_wrN_same a hv
  unfold Device.portSet at hg
  cases hbusy : (s.dev.port p).busy with
  | false =>
    rw [hbusy] at hg
    exact leads_onDev_of_clk hc hr hg rfl ⟨fun _ => ⟨hword, rfl, .wr _ _ _ _ rfl⟩, fun h => nomatch hbusy.symm.trans h⟩
  | true =>
    rw [hbusy] at hg
    have haborts : leads c s (portMisses (s.dev.wrN a v) · p (FB_EVENT_ABORTED p) none) :=
      leads_missed hp hc hr rfl (.refl _ p) (hg.trans (Device.portMiss_aborted _ p)) ⟨rfl, by simp only [FB_EVENT_ABORTED]; decide, rfl⟩ nofun
    refine haborts.mono fun b ⟨hover, _, _, _, hidle⟩ => ⟨fun h => (nomatch hbusy.symm.trans h), fun _ => ⟨hover, fun hu haw => ?_⟩⟩
    have husers : (s.dev.wrN a v).portUsers p = [] := by
      refine (Device.portUsers_congr (fun k _ => Device.rd_wr_other _ _ _ _ ?_) p).trans hu
      have hp' := hp
      simp only [settingReg, FB_CTRL, FB_SER, FB_TIMING] at ha
      simp only [AX_FB_SRC]
      omega
    obtain ⟨-, -, hev, -, -, hregs⟩ := hidle husers haw
    refine ⟨?_, hev⟩
    rw [Device.rdN, hregs a]
    · exact hword
    · simp only [settingReg, FB_CTRL, FB_SER, FB_TIMING] at ha
      simp only [List.mem_cons, List.not_mem_nil, or_false, FB_STATUS, FB_EVENT, FB_ERRCNT]
      omega

end Setting

/-! ### What a feedback unit shows -/

/-- Between the blocks at most feedback unit `k` and the snapshot registers in `A` differ. -/
structure Shown (A : Nat → Prop) (d e : Device) (k : Nat) : Prop where
  others : ∀ j, j ≠ k → e.fb j = d.fb j
  live : Claims.sameLive d e A
  rest : { e with fbs := d.fbs, live := d.live } = d

namespace Shown
variable {A : Nat → Prop} {d e f : Device} {k : Nat}

theorem refl (d : Device) (k : Nat) : Shown A d d k := ⟨fun _ _ => rfl, fun _ _ => rfl, rfl⟩

theorem trans (h : Shown A d e k) (g : Shown A e f k) : Shown A d f k where
  others j hj := (g.others j hj).trans (h.others j hj)
  live a ha := (g.live a ha).trans (h.live a ha)
  rest := (congrArg (fun x : Device => { x with fbs := d.fbs, live := d.live }) g.rest).trans h.rest

theorem ite {p : Prop} [Decidable p] (h : Shown A d e k) (g : Shown A d f k) : Shown A d (if p then e else f) k := by
  split
  · exact h
  · exact g

theorem setFb (d : Device) (u : FbUnit → FbUnit) : Shown A d (d.setFb k u) k :=
  ⟨fun _ hj => Store.pick_upd_other d.fbs {} k _ u hj, fun _ _ => rfl, rfl⟩

theorem setSrc (d : Device) (w : Nat) (u : FbSrc → FbSrc) : Shown A d (d.setSrc k w u) k := setFb d _

theorem livePut (d : Device) (g : Fld) (v : Nat) (hg : A g.addr) : Shown A d (d.livePut g v) k :=
  ⟨fun _ _ => rfl, fun _ ha => Store.get_set_other _ _ _ _ _ fun h => ha (h ▸ hg), rfl⟩

theorem liveWr (d : Device) (a n : Nat) (hA : A a) : Shown A d (d.liveWr a n) k :=
  ⟨fun _ _ => rfl, fun _ ha => Store.get_set_other _ _ _ _ _ fun h => ha (h ▸ hA), rfl⟩

theorem liveWrS64 (d : Device) (a : Nat) (i : Int) (hA : A a) (hA4 : A (a + 4)) : Shown A d (d.liveWrS64 a i) k :=
  (liveWr d a _ hA).trans (liveWr _ _ _ hA4)

/-- A part of the block in which neither feedback units nor snapshot registers show is the same. -/
theorem part {α : Type} (h : Shown A d e k) (g : Device → α) (hg : ∀ x fbs live, g { x with fbs := fbs, live := live } = g x) : g e = g d :=
  (hg e _ _).symm.trans (congrArg g h.rest)

theorem clk (h : Shown A d e k) : e.clk = d.clk := h.part Device.clk fun _ _ _ => rfl
theorem regs (h : Shown A d e k) : e.regs = d.regs := h.part Device.regs fun _ _ _ => rfl
theorem get (h : Shown A d e k) (f : Fld) : e.get f = d.get f := by simp only [Device.get, Device.rd, h.regs]
theorem rdN (h : Shown A d e k) (a : Nat) : e.rdN a = d.rdN a := by simp only [Device.rdN, Device.rd, h.regs]

end Shown

/-! ### AX_FB_SRC (R172) -/

/-- The snapshot registers of a feedback unit. -/
def fbLive (k a : Nat) : Prop := a ∈ [AX_FB_STATUS k, AX_FB_POS k, AX_FB_POS k + 4, AX_FB_POS2 k, AX_FB_POS2 k + 4, AX_FB_VEL k]

section Sources
variable (d : Device) (k w : Nat)

theorem Shown.srcShow (valid extrap : Bool) : Shown (fbLive k) d (d.srcShow k w valid extrap) k := by
  have hput : ∀ (b : Device) (f : Fld) (v : Nat), f.addr = AX_FB_STATUS k → Shown (fbLive k) b (b.livePut f v) k :=
    fun b f v hf => .livePut b f v (by simp [hf, fbLive])
  unfold Device.srcShow
  exact .ite ((hput d _ _ rfl).trans (hput _ _ _ rfl)) ((hput d _ _ rfl).trans (hput _ _ _ rfl))

theorem Shown.lostShow : Shown (fbLive k) d (d.lostShow k) k := .livePut d (AX_FB_STATUS_LOST k) _ (by simp [fbLive, AX_FB_STATUS_LOST])

theorem Shown.srcSetPos (p : Int) : Shown (fbLive k) d (d.srcSetPos k w p) k := by
  unfold Device.srcSetPos
  refine (Shown.setSrc d w _).trans (.liveWrS64 _ _ _ ?_ ?_) <;> split <;> simp [fbLive]

theorem Shown.srcFresh : Shown (fbLive k) d (d.srcFresh k w) k := by
  have hput : ∀ (b : Device) (f : Fld) (v : Nat), f.addr = AX_FB_STATUS k → Shown (fbLive k) b (b.livePut f v) k :=
    fun b f v hf => .livePut b f v (by simp [hf, fbLive])
  unfold Device.srcFresh
  extract_lets _ d1 d2 d3
  have h1 : Shown (fbLive k) d d1 k := (Shown.setSrc d w _).trans (.setFb _ _)
  have h2 : Shown (fbLive k) d d2 k := .ite (h1.trans (.srcSetPos d1 k w 0)) h1
  have h3 : Shown (fbLive k) d d3 k := (h2.trans (.srcShow d2 k w _ _)).trans (.lostShow _ k)
  exact .ite ((((h3.trans (hput d3 _ _ rfl)).trans (hput _ _ _ rfl)).trans (hput _ _ _ rfl)).trans
    (.liveWr _ _ _ (by simp [fbLive]))) h3

/-- A source without any sample that keeps the position, which is 0 without a kind. -/
def FbSrc.anew (s : FbSrc) (kind : Nat) : FbSrc := { p := if kind = 0 then 0 else s.p, evaluated := s.evaluated }

/-! Feedback units beside the snapshot registers. -/

theorem Device.fb_congr {d e : Device} (h : e.fbs = d.fbs) (j : Nat) : e.fb j = d.fb j := by simp only [Device.fb, h]

@[simp] theorem Device.fb_livePut (f : Fld) (v : Nat) (j : Nat) : (d.livePut f v).fb j = d.fb j := Device.fb_congr rfl j
@[simp] theorem Device.fb_liveWr (a n : Nat) (j : Nat) : (d.liveWr a n).fb j = d.fb j := Device.fb_congr rfl j
@[simp] theorem Device.fb_liveWrS64 (a : Nat) (i : Int) (j : Nat) : (d.liveWrS64 a i).fb j = d.fb j := Device.fb_congr rfl j
@[simp] theorem Device.fb_wrN (a n : Nat) (j : Nat) : (d.wrN a n).fb j = d.fb j := Device.fb_congr rfl j
@[simp] theorem Device.fb_raise (f : Fld) (j : Nat) : (d.raise f).fb j = d.fb j := Device.fb_congr rfl j
@[simp] theorem Device.fb_msg (c i k x : Nat) (t r : Bool) (j : Nat) : (d.msg c i k x t r).fb j = d.fb j := Device.fb_congr rfl j
@[simp] theorem Device.fb_lostShow (j : Nat) : (d.lostShow k).fb j = d.fb j := Device.fb_congr rfl j

@[simp] theorem Device.fb_srcShow (valid extrap : Bool) (j : Nat) : (d.srcShow k w valid extrap).fb j = d.fb j := by
  unfold Device.srcShow
  split <;> simp only [Device.fb_livePut]

theorem Device.fb_setSrc_pri (f : FbSrc → FbSrc) : (d.setSrc k 0 f).fb k = { d.fb k with pri := f (d.fb k).pri } := d.fb_setFb_same k _

theorem Device.fb_setSrc_sec (f : FbSrc → FbSrc) : (d.setSrc k 1 f).fb k = { d.fb k with sec := f (d.fb k).sec } := d.fb_setFb_same k _

/-- A source that starts anew, before it is shown. -/
def Device.srcAnew : Device :=
  (d.setSrc k w fun s => { ({} : FbSrc) with p := s.p, evaluated := s.evaluated }).setFb k fun u => { u with d0 := none }

/-- A source that starts anew, with the position that it keeps. -/
def Device.srcPlaced : Device := if d.srcKind k w = 0 then (d.srcAnew k w).srcSetPos k w 0 else d.srcAnew k w

theorem Device.srcFresh_pri : d.srcFresh k 0 =
    (((((((d.srcPlaced k 0).srcShow k 0 false false).lostShow k).livePut (AX_FB_STATUS_STILL k) 0).livePut
      (AX_FB_STATUS_SPEED_METHOD k) 0).livePut (AX_FB_STATUS_MISS_RUN k) 0).liveWr (AX_FB_VEL k) 0) := rfl

theorem Device.srcFresh_sec : d.srcFresh k 1 = ((d.srcPlaced k 1).srcShow k 1 false false).lostShow k := rfl

theorem Device.fb_srcPlaced_pri : (d.srcPlaced k 0).fb k = { d.fb k with pri := (d.fb k).pri.anew (d.srcKind k 0), d0 := none } := by
  have hanew : (d.srcAnew k 0).fb k = { d.fb k with
      pri := { p := (d.fb k).pri.p, evaluated := (d.fb k).pri.evaluated }, d0 := none } := by
    rw [Device.srcAnew, Device.fb_setFb_same, Device.fb_setSrc_pri]
  unfold Device.srcPlaced FbSrc.anew
  split
  · rw [Device.srcSetPos, Device.fb_liveWrS64, Device.fb_setSrc_pri, hanew]
  · exact hanew

theorem Device.fb_srcPlaced_sec : (d.srcPlaced k 1).fb k = { d.fb k with sec := (d.fb k).sec.anew (d.srcKind k 1), d0 := none } := by
  have hanew : (d.srcAnew k 1).fb k = { d.fb k with
      sec := { p := (d.fb k).sec.p, evaluated := (d.fb k).sec.evaluated }, d0 := none } := by
    rw [Device.srcAnew, Device.fb_setFb_same, Device.fb_setSrc_sec]
  unfold Device.srcPlaced FbSrc.anew
  split
  · rw [Device.srcSetPos, Device.fb_liveWrS64, Device.fb_setSrc_sec, hanew]
  · exact hanew

theorem Device.fb_srcFresh_pri : (d.srcFresh k 0).fb k = { d.fb k with pri := (d.fb k).pri.anew (d.srcKind k 0), d0 := none } := by
  simp only [Device.srcFresh_pri, Device.fb_liveWr, Device.fb_livePut, Device.fb_lostShow, Device.fb_srcShow, Device.fb_srcPlaced_pri]

theorem Device.fb_srcFresh_sec : (d.srcFresh k 1).fb k = { d.fb k with sec := (d.fb k).sec.anew (d.srcKind k 1), d0 := none } := by
  simp only [Device.srcFresh_sec, Device.fb_lostShow, Device.fb_srcShow, Device.fb_srcPlaced_sec]

/-! VALID of a source that starts anew. -/

theorem Device.liveGet_liveWr_addr {d : Device} {a : Nat} {f : Fld} (h : f.addr ≠ a) (n : Nat) : (d.liveWr a n).liveGet f = d.liveGet f := by
  simp only [Device.liveGet, Device.liveWr, Store.get_set_other _ _ _ _ _ h]

theorem Device.liveGet_congr {d e : Device} (h : e.live = d.live) (f : Fld) : e.liveGet f = d.liveGet f := by simp only [Device.liveGet, h]

/-- Bit 0 of a snapshot register beside fields above it. -/
theorem Device.priValid_livePut {f : Fld} (hf : 1 ≤ f.lo) (v : Nat) :
    (d.livePut f v).liveHas (AX_FB_STATUS_PRI_VALID k) = d.liveHas (AX_FB_STATUS_PRI_VALID k) := by
  rw [Device.liveHas, d.liveGet_livePut_bits f (AX_FB_STATUS_PRI_VALID k) v (.inl hf) (by simp only [AX_FB_STATUS_PRI_VALID]; decide),
    Device.liveHas]

theorem Device.priValid_liveWr {a : Nat} (ha : AX_FB_STATUS k ≠ a) (n : Nat) :
    (d.liveWr a n).liveHas (AX_FB_STATUS_PRI_VALID k) = d.liveHas (AX_FB_STATUS_PRI_VALID k) := by
  rw [Device.liveHas, Device.liveGet_liveWr_addr ha, Device.liveHas]

theorem Device.priValid_srcFresh_pri : (d.srcFresh k 0).liveHas (AX_FB_STATUS_PRI_VALID k) = false := by
  have hshow : ((d.srcPlaced k 0).srcShow k 0 false false).liveHas (AX_FB_STATUS_PRI_VALID k) = false := by
    rw [Device.srcShow, if_pos rfl, Device.priValid_livePut _ _ (by simp only [AX_FB_STATUS_PRI_EXTRAP]; decide), Device.liveHas,
      Device.liveGet_livePut_same _ _ _ (by simp only [AX_FB_STATUS_PRI_VALID]; decide)]
    rfl
  rw [Device.srcFresh_pri, Device.priValid_liveWr _ _ (by simp only [AX_FB_STATUS, AX_FB_VEL]; omega),
    Device.priValid_livePut _ _ (by simp only [AX_FB_STATUS_MISS_RUN]; decide),
    Device.priValid_livePut _ _ (by simp only [AX_FB_STATUS_SPEED_METHOD]; decide),
    Device.priValid_livePut _ _ (by simp only [AX_FB_STATUS_STILL]; decide), Device.lostShow,
    Device.priValid_livePut _ _ (by simp only [AX_FB_STATUS_LOST]; decide), hshow]

theorem Device.priValid_srcFresh_sec : (d.srcFresh k 1).liveHas (AX_FB_STATUS_PRI_VALID k) = d.liveHas (AX_FB_STATUS_PRI_VALID k) := by
  have hplaced : (d.srcPlaced k 1).liveHas (AX_FB_STATUS_PRI_VALID k) = d.liveHas (AX_FB_STATUS_PRI_VALID k) := by
    unfold Device.srcPlaced
    split
    · rw [Device.srcSetPos, if_neg (by decide), Device.liveWrS64, Device.priValid_liveWr _ _ (by simp only [AX_FB_STATUS, AX_FB_POS2]; omega),
        Device.priValid_liveWr _ _ (by simp only [AX_FB_STATUS, AX_FB_POS2]; omega)]
      exact congrArg (· == 1) (Device.liveGet_congr rfl _)
    · exact congrArg (· == 1) (Device.liveGet_congr rfl _)
  rw [Device.srcFresh_sec, Device.lostShow, Device.priValid_livePut _ _ (by simp only [AX_FB_STATUS_LOST]; decide), Device.srcShow,
    if_neg (by decide), Device.priValid_livePut _ _ (by simp only [AX_FB_STATUS_SEC_EXTRAP]; decide),
    Device.priValid_livePut _ _ (by simp only [AX_FB_STATUS_SEC_VALID]; decide), hplaced]

theorem Device.secValid_srcFresh_sec : (d.srcFresh k 1).liveHas (AX_FB_STATUS_SEC_VALID k) = false := by
  have hfits : (AX_FB_STATUS_SEC_VALID k).lo + (AX_FB_STATUS_SEC_VALID k).width ≤ 32 := by simp only [AX_FB_STATUS_SEC_VALID]; decide
  rw [Device.srcFresh_sec, Device.lostShow, Device.liveHas,
    Device.liveGet_livePut_bits _ _ _ _ (.inl (by simp only [AX_FB_STATUS_LOST, AX_FB_STATUS_SEC_VALID]; decide)) hfits, Device.srcShow,
    if_neg (by decide),
    Device.liveGet_livePut_bits _ _ _ _ (.inl (by simp only [AX_FB_STATUS_SEC_EXTRAP, AX_FB_STATUS_SEC_VALID]; decide)) hfits,
    Device.liveGet_livePut_same _ _ _ hfits]
  rfl

end Sources

/-! The write of AX_FB_SRC. -/

/-- AX_FB_SRC as the mask of its fields leaves it. -/
def fbSrcWord (n : Nat) : Nat := n &&& 0xF3FF73FF

theorem Device.fbSrcWrite_refused {d : Device} {k n : Nat} (h : ¬ (d.axState k = axOFF ∧ bits n 12 3 ≤ 4 ∧ bits n 28 3 ≤ 4)) :
    d.fbSrcWrite k n = d.raise (AX_FB_EVENT_REFUSED k) := by
  unfold Device.fbSrcWrite
  exact if_pos (by omega)

theorem Device.fbSrcWrite_taken {d : Device} {k n : Nat} (h : d.axState k = axOFF ∧ bits n 12 3 ≤ 4 ∧ bits n 28 3 ≤ 4) :
    d.fbSrcWrite k n =
      (if bits (d.rdN (AX_FB_SRC k)) 16 15 = bits (fbSrcWord n) 16 15 then
        if bits (d.rdN (AX_FB_SRC k)) 0 16 = bits (fbSrcWord n) 0 16 then d.wrN (AX_FB_SRC k) (fbSrcWord n)
        else (d.wrN (AX_FB_SRC k) (fbSrcWord n)).srcFresh k 0
      else (if bits (d.rdN (AX_FB_SRC k)) 0 16 = bits (fbSrcWord n) 0 16 then d.wrN (AX_FB_SRC k) (fbSrcWord n)
        else (d.wrN (AX_FB_SRC k) (fbSrcWord n)).srcFresh k 0).srcFresh k 1) := by
  unfold Device.fbSrcWrite
  exact if_neg (by omega)

/-- The mask keeps the kinds. -/
theorem bits_fbSrcWord (n : Nat) : bits (fbSrcWord n) 12 3 = bits n 12 3 ∧ bits (fbSrcWord n) 28 3 = bits n 28 3 := by
  have hmask : ∀ i < 3, Nat.testBit 0xF3FF73FF (12 + i) = true ∧ Nat.testBit 0xF3FF73FF (28 + i) = true := by decide
  refine ⟨Nat.eq_of_testBit_eq fun i => ?_, Nat.eq_of_testBit_eq fun i => ?_⟩ <;> rw [testBit_bits, testBit_bits] <;>
    by_cases hi : i < 3 <;> simp [hi, fbSrcWord, hmask]

theorem fbSrcWord_lt (n : Nat) : fbSrcWord n < 2 ^ 32 := Nat.lt_of_le_of_lt Nat.and_le_right (by decide)

section Taken
variable {d : Device} {k n : Nat}

theorem srcKind_wrFbSrc : (d.wrN (AX_FB_SRC k) (fbSrcWord n)).srcKind k 0 = bits n 12 3 ∧
    (d.wrN (AX_FB_SRC k) (fbSrcWord n)).srcKind k 1 = bits n 28 3 := by
  obtain ⟨hpri, hsec⟩ := bits_fbSrcWord n
  exact ⟨(d.get_wrN_same (AX_FB_SRC_PRI_KIND k) (fbSrcWord_lt n)).trans hpri, (d.get_wrN_same (AX_FB_SRC_SEC_KIND k) (fbSrcWord_lt n)).trans hsec⟩

/-- The block with AX_FB_SRC written and its primary source anew where its setting changed. -/
def Device.priTaken (d : Device) (k n : Nat) : Device :=
  if bits (d.rdN (AX_FB_SRC k)) 0 16 = bits (fbSrcWord n) 0 16 then d.wrN (AX_FB_SRC k) (fbSrcWord n)
  else (d.wrN (AX_FB_SRC k) (fbSrcWord n)).srcFresh k 0

/-- The block with AX_FB_SRC written and its sources anew where their settings changed. -/
def Device.srcTaken (d : Device) (k n : Nat) : Device :=
  if bits (d.rdN (AX_FB_SRC k)) 16 15 = bits (fbSrcWord n) 16 15 then d.priTaken k n else (d.priTaken k n).srcFresh k 1

theorem Shown.priTaken : Shown (fbLive k) (d.wrN (AX_FB_SRC k) (fbSrcWord n)) (d.priTaken k n) k := .ite (.refl _ k) (.srcFresh _ k 0)

theorem Shown.srcTaken : Shown (fbLive k) (d.wrN (AX_FB_SRC k) (fbSrcWord n)) (d.srcTaken k n) k :=
  .ite .priTaken (Shown.priTaken.trans (.srcFresh _ k 1))

theorem Device.fb_priTaken : (d.priTaken k n).fb k = { d.fb k with
    pri := Claims.srcAnew (d.fb k).pri (bits (d.rdN (AX_FB_SRC k)) 0 16 = bits (fbSrcWord n) 0 16) (bits n 12 3),
    d0 := if bits (d.rdN (AX_FB_SRC k)) 0 16 = bits (fbSrcWord n) 0 16 then (d.fb k).d0 else none } := by
  unfold Device.priTaken Claims.srcAnew
  split
  · exact Device.fb_wrN ..
  · rw [Device.fb_srcFresh_pri, Device.fb_wrN, srcKind_wrFbSrc.1, FbSrc.anew]

theorem Device.fb_srcTaken : (d.srcTaken k n).fb k = { d.fb k with
    pri := Claims.srcAnew (d.fb k).pri (bits (d.rdN (AX_FB_SRC k)) 0 16 = bits (fbSrcWord n) 0 16) (bits n 12 3),
    sec := Claims.srcAnew (d.fb k).sec (bits (d.rdN (AX_FB_SRC k)) 16 15 = bits (fbSrcWord n) 16 15) (bits n 28 3),
    d0 := if bits (d.rdN (AX_FB_SRC k)) 0 16 = bits (fbSrcWord n) 0 16 ∧ bits (d.rdN (AX_FB_SRC k)) 16 15 = bits (fbSrcWord n) 16 15
      then (d.fb k).d0 else none } := by
  have hkind : (d.priTaken k n).srcKind k 1 = bits n 28 3 := (Shown.priTaken.get (AX_FB_SRC_SEC_KIND k)).trans srcKind_wrFbSrc.2
  unfold Device.srcTaken
  by_cases hsec : bits (d.rdN (AX_FB_SRC k)) 16 15 = bits (fbSrcWord n) 16 15
  · rw [if_pos hsec, Device.fb_priTaken]
    simp only [Claims.srcAnew, hsec, and_true, if_true]
  · rw [if_neg hsec, Device.fb_srcFresh_sec, Device.fb_priTaken, hkind]
    simp only [Claims.srcAnew, hsec, and_false, if_false, FbSrc.anew]

theorem Device.priValid_srcTaken (h : bits (d.rdN (AX_FB_SRC k)) 0 16 ≠ bits (fbSrcWord n) 0 16) :
    (d.srcTaken k n).liveHas (AX_FB_STATUS_PRI_VALID k) = false := by
  have hpri : (d.priTaken k n).liveHas (AX_FB_STATUS_PRI_VALID k) = false := by
    rw [Device.priTaken, if_neg h, Device.priValid_srcFresh_pri]
  unfold Device.srcTaken
  split
  · exact hpri
  · rw [Device.priValid_srcFresh_sec, hpri]

theorem Device.secValid_srcTaken (h : bits (d.rdN (AX_FB_SRC k)) 16 15 ≠ bits (fbSrcWord n) 16 15) :
    (d.srcTaken k n).liveHas (AX_FB_STATUS_SEC_VALID k) = false := by
  rw [Device.srcTaken, if_neg h, Device.secValid_srcFresh_sec]

end Taken
end Machine

/-! ### The writes -/

/-- A write of AX_FB_SRC that is taken. -/
theorem leads_axFbSrcWrite_taken {s : State} {k : Fin 192} {v : BitVec 32} (hr : s.dev.inReset = false)
    (h : s.dev.axState k = axOFF ∧ bits v.toNat 12 3 ≤ 4 ∧ bits v.toNat 28 3 ≤ 4) :
    let d := s.dev
    let priSame := bits (d.rdN (AX_FB_SRC k)) 0 16 = bits (fbSrcWord v.toNat) 0 16
    let secSame := bits (d.rdN (AX_FB_SRC k)) 16 15 = bits (fbSrcWord v.toNat) 16 15
    leads (.axFbSrcWrite k v) s (fun e => e.rdN (AX_FB_SRC k) = fbSrcWord v.toNat ∧
      e.fb k = { d.fb k with pri := Claims.srcAnew (d.fb k).pri priSame (bits v.toNat 12 3),
                             sec := Claims.srcAnew (d.fb k).sec secSame (bits v.toNat 28 3),
                             d0 := if priSame ∧ secSame then (d.fb k).d0 else none } ∧
      (¬ priSame → e.liveHas (AX_FB_STATUS_PRI_VALID k) = false) ∧ (¬ secSame → e.liveHas (AX_FB_STATUS_SEC_VALID k) = false) ∧
      Claims.sameLive d e (fbLive k) ∧ (priSame → secSame → e.live = d.live) ∧ (∀ j, j ≠ k.val → e.fb j = d.fb j) ∧
      { e with fbs := d.fbs, regs := d.regs, live := d.live } = d ∧ sameRegs d e (· = AX_FB_SRC k)) := by
  intro d priSame secSame
  have hshown : Shown (fbLive k) (d.wrN (AX_FB_SRC k) (fbSrcWord v.toNat)) (d.srcTaken k v.toNat) k := .srcTaken
  refine leads_onDev_of_clk rfl hr (Device.fbSrcWrite_taken h) hshown.clk ⟨(hshown.rdN _).trans (d.rdN_wrN_same _ (fbSrcWord_lt _)),
    Device.fb_srcTaken, Device.priValid_srcTaken, Device.secValid_srcTaken, hshown.live, fun hpri hsec => ?_, hshown.others,
    congrArg (fun x : Device => { x with regs := d.regs }) hshown.rest, sameRegs.trans (.wr _ _ _ _ rfl) (.regs _ hshown.regs)⟩
  rw [if_pos hsec, if_pos hpri]
  rfl

theorem portAndSourceSettings : Claims.PortAndSourceSettings := by
  intro s p k v hr
  refine ⟨fun ⟨hfree, hloop, hfits⟩ => ?_, fun h => leads_portRefuse rfl hr (if_pos ?_),
    fun ⟨hfree, hn8, hn48, hpar, hdiv4, hdiv, hfits⟩ => ?_, fun h => leads_portRefuse rfl hr (if_pos ?_),
    fun ⟨hfree, hfits⟩ => ?_, fun h => leads_portRefuse rfl hr (if_pos ?_), ?_, fun h => ?_, leads_axFbSrcWrite_taken hr⟩
  · exact leads_portSet rfl hr p.isLt (.inl rfl) (Nat.lt_of_le_of_lt Nat.and_le_right (by decide)) (if_neg (by simp [hfree, hloop, hfits]))
  · simpa only [not_and_or, not_or, not_not, Bool.not_eq_false, Bool.not_eq_true] using h
  · refine leads_portSet rfl hr p.isLt (.inr (.inl rfl)) (Nat.lt_of_le_of_lt Nat.and_le_right (by decide)) (if_neg ?_)
    simp only [hfree, hfits, Bool.false_eq_true, Bool.true_eq_false, false_or, or_false]
    omega
  · simpa only [not_and_or, not_not, not_le, Bool.not_eq_false, Bool.not_eq_true] using h
  · exact leads_portSet rfl hr p.isLt (.inr (.inr rfl)) v.isLt (if_neg (by simp [hfree, hfits]))
  · simpa only [not_and_or, Bool.not_eq_false, Bool.not_eq_true] using h
  · exact leads_onDev_of_clk rfl hr rfl rfl ⟨Device.rd_wr_same _ _ _, rfl, .wr _ _ _ _ rfl⟩
  · exact leads_onDev_of_clk rfl hr (Device.fbSrcWrite_refused h) rfl
      ⟨Device.has_raise _ (by simp only [AX_FB_EVENT_REFUSED]; decide) rfl, rfl, .put _ (AX_FB_EVENT_REFUSED k) 1 _ rfl⟩

/-- Settles O32: an edge counts by the step from the levels before, and a setting is taken, with a transfer in progress aborted, or
refused by its conditions. -/
theorem portEdgesAndSettings : Obligations.PortEdgesAndSettings := ⟨portEdgesCountByDirection, portAndSourceSettings⟩

end Sys2Proof
end

section
/-! Serial transfers (R183–R187): what each command makes of a transfer in progress. -/

namespace Sys2Proof

open Sys2Proof.Machine
open Claims (portTakes portMisses noneAwaits)

namespace Machine

/-! ### The causes of a miss (R197) -/

section Causes
variable {c : Instr} {s : State} {g : Device → Device} {e : Device} {p : Nat} (hp : p < 16) (hc : exec c s = .next (s.onDev g))
  (hr : s.dev.inReset = false) (h : Heard s.dev e p)
include hp hc hr h

theorem leads_portMiss_crc (hg : g s.dev = e.portMiss p 1) : leads c s (portMisses s.dev · p (FB_EVENT_CRC p) (some (FB_ERRCNT_CRC p))) := by
  refine leads_missed hp hc hr rfl h (hg.trans (e.portMiss_crc p)) ⟨rfl, by simp only [FB_EVENT_CRC]; decide, rfl⟩ ?_
  intro f hf
  obtain rfl := Option.mem_some.mp hf
  exact ⟨rfl, by simp only [FB_ERRCNT_CRC]; decide, rfl⟩

theorem leads_portMiss_timeout (hg : g s.dev = e.portMiss p 2) :
    leads c s (portMisses s.dev · p (FB_EVENT_TIMEOUT p) (some (FB_ERRCNT_TMO p))) := by
  refine leads_missed hp hc hr rfl h (hg.trans (e.portMiss_timeout p)) ⟨rfl, by simp only [FB_EVENT_TIMEOUT]; decide, rfl⟩ ?_
  intro f hf
  obtain rfl := Option.mem_some.mp hf
  exact ⟨rfl, by simp only [FB_ERRCNT_TMO]; decide, rfl⟩

theorem leads_portMiss_encErr (hg : g s.dev = e.portMiss p 4) :
    leads c s (portMisses s.dev · p (FB_EVENT_ENC_ERR p) (some (FB_ERRCNT_ENC p))) := by
  refine leads_missed hp hc hr rfl h (hg.trans (e.portMiss_encErr p)) ⟨rfl, by simp only [FB_EVENT_ENC_ERR]; decide, rfl⟩ ?_
  intro f hf
  obtain rfl := Option.mem_some.mp hf
  exact ⟨rfl, by simp only [FB_ERRCNT_ENC]; decide, rfl⟩

theorem leads_portMiss_life (hg : g s.dev = e.portMiss p 5) : leads c s (portMisses s.dev · p (FB_EVENT_LIFE p) none) :=
  leads_missed hp hc hr rfl h (hg.trans (e.portMiss_life p)) ⟨rfl, by simp only [FB_EVENT_LIFE]; decide, rfl⟩ nofun

/-- A transfer that gives a position. -/
theorem leads_portSample {raw width : Nat} {sgnd : Bool} (hg : g s.dev = e.portSample p raw width sgnd) :
    leads c s (portTakes s.dev · p raw width sgnd) :=
  leads_taken hp hc hr h hg fun _ hports hidle => h.portTakes hports hidle

end Causes

/-! ### SSI (R183) -/

section Ssi
variable {d : Device} {p : Nat} (w : Nat)

theorem Device.ssiDone_idle (h : (d.port p).busy = false) : d.ssiDone p w = d := if_pos (.inr h)

variable (hm : d.portMode p = 3) (hb : (d.port p).busy = true)
include hm hb

theorem Device.ssiDone_late (hl : d.frameLate p = true) : d.ssiDone p w = d.portMiss p 2 := by
  unfold Device.ssiDone
  rw [if_neg (by simp [hm, hb])]
  exact if_pos hl

/-- The parity of an SSI word is judged where PARITY asks for it and a trailing bit holds it. -/
theorem Device.ssiDone_judged (hl : ¬ d.frameLate p = true) : let c := (d.port p).ser.toNat
    let n := bits c 16 6
    let pos := bits w (bits c 25 3) n
    d.ssiDone p w = if bits c 14 2 = 0 ∨ bits c 25 3 = 0 ∨ ((parity n pos != bit w 0) = true ↔ bits c 14 2 = 2) then
      d.portSample p (if bit c 12 then unGray n pos else pos) n (bit c 28) else d.portMiss p 1 := by
  intro c n pos
  unfold Device.ssiDone
  rw [if_neg (by simp [hm, hb])]
  refine (if_neg hl).trans ?_
  extract_lets trail n' pos' par odd ok
  have hok : ok = true ↔ (par = 0 ∨ trail = 0 ∨ (odd = true ↔ par = 2)) := by
    simp only [ok, Bool.or_eq_true, beq_iff_eq, or_assoc]
    cases odd <;> simp
  simp only [hok]
  rfl

end Ssi

/-! ### BiSS-C (R184) -/

section Biss
variable {d : Device} {p : Nat} (w dly : Nat)

theorem Device.bissDone_idle (h : (d.port p).busy = false) : d.bissDone p w dly = d := if_pos (.inr h)

/-- The block with what a BiSS word reports beside its position: the line delay, and nW. -/
def Device.bissHeard (d : Device) (p w dly : Nat) : Device :=
  if bit w 6 then d.put (FB_STATUS_MEAS_DLY p) dly else (d.put (FB_STATUS_MEAS_DLY p) dly).raise (FB_EVENT_ENC_WARN p)

theorem bit_bits (x : Nat) {lo n i : Nat} (hi : i < n) : bit (bits x lo n) i = bit x (lo + i) := by
  rw [bit_eq_testBit, bit_eq_testBit, testBit_bits, decide_eq_true hi, Bool.true_and]

theorem bits_bits (x lo n m : Nat) : bits (bits x lo (n + m)) m n = bits x (lo + m) n := by
  refine Nat.eq_of_testBit_eq fun i => ?_
  rw [testBit_bits, testBit_bits, testBit_bits]
  by_cases hi : i < n
  · have hm : m + i < n + m := by omega
    simp [hi, hm, Nat.add_assoc]
  · simp [hi]

variable (hm : d.portMode p = 4) (hb : (d.port p).busy = true)
include hm hb

theorem Device.bissDone_late (hl : d.frameLate p = true ∨ d.ackTicks p < dly) : d.bissDone p w dly = d.portMiss p 2 := by
  unfold Device.bissDone
  rw [if_neg (by simp [hm, hb])]
  exact if_pos (by simpa using hl)

/-- The CRC of a BiSS word is judged before nE. -/
theorem Device.bissDone_judged (hl : ¬ d.frameLate p = true) (ha : dly ≤ d.ackTicks p) : let c := (d.port p).ser.toNat
    let n := bits c 16 6
    d.bissDone p w dly = if crcBits 6 3 0 (msbBits (n + 2) (bits w 6 (n + 2))) ≠ 63 - bits w 0 6 then
        (d.put (FB_STATUS_MEAS_DLY p) dly).portMiss p 1
      else if bit w 7 = false then (d.bissHeard p w dly).portMiss p 4
      else (d.bissHeard p w dly).portSample p (bits w 8 n) n (bit c 28) := by
  intro c n
  unfold Device.bissDone
  rw [if_neg (by simp [hm, hb])]
  refine (if_neg (by simpa using ⟨by simpa using hl, ha⟩)).trans ?_
  extract_lets n' crc body d1 d2 pos
  have hnW : bit body 0 = bit w 6 := bit_bits w (by omega)
  have hnE : bit body 1 = bit w 7 := bit_bits w (by omega)
  have hpos : pos = bits w 8 n := bits_bits w 6 n 2
  have hheard : d2 = d.bissHeard p w dly := by
    simp only [d2, hnW]
    rfl
  rw [hnE, hpos, hheard]
  cases bit w 7 <;> rfl

end Biss

/-! ### Frame-format tables (R185, R186) -/

/-- A field of a response that reports an error of the encoder (kinds 3 and 4). -/
def FrameField.reportsError (resp : Nat) (f : FrameField) : Bool :=
  (f.kind == 3 && f.read resp != 0) || (f.kind == 4 && f.read resp != 2 ^ f.len - 1)

theorem FrameField.reportsError_iff (resp : Nat) (f : FrameField) : f.reportsError resp = true ↔
    (f.kind = 3 ∧ f.read resp ≠ 0) ∨ (f.kind = 4 ∧ f.read resp ≠ 2 ^ f.len - 1) := by
  simp [FrameField.reportsError]

section Frame
variable {d : Device} {p : Nat} (resp : Nat)

/-- Does a response report a warning of the encoder (kinds 5 and 6)? -/
def Device.frameWarns (d : Device) (p resp : Nat) : Bool :=
  (frameFields (d.port p).table).any fun f => (f.kind == 5 && f.read resp != 0) || (f.kind == 6 && f.read resp != 2 ^ f.len - 1)

/-- The block with the life counter and the warning of a response taken. -/
def Device.frameHeard (d : Device) (p resp : Nat) : Device :=
  if d.frameWarns p resp then
    (d.setPort p fun s => { s with life := (fieldOf (frameFields (d.port p).table) 9).map (·.read resp) }).raise (FB_EVENT_ENC_WARN p)
  else d.setPort p fun s => { s with life := (fieldOf (frameFields (d.port p).table) 9).map (·.read resp) }

theorem Device.frameDone_idle (h : (d.port p).busy = false) : d.frameDone p resp = d := if_pos (.inr h)

variable (hm : d.portMode p = 5) (hb : (d.port p).busy = true)
include hm hb

theorem Device.frameDone_late (hl : d.frameLate p = true) : d.frameDone p resp = d.portMiss p 2 := by
  unfold Device.frameDone
  rw [if_neg (by simp [hm, hb])]
  exact if_pos hl

/-- The CRC and the constants of a response are judged first, then the error bits, then the life counter. -/
theorem Device.frameDone_judged (hl : ¬ d.frameLate p = true) : let q := d.port p
    let fs := frameFields q.table
    let life := (fieldOf fs 9).map (·.read resp)
    d.frameDone p resp =
      if ¬ (frameCrcOk q.table resp = true ∧ ∀ f ∈ fs, f.kind = 8 → f.read resp = f.value) then d.portMiss p 1
      else if fs.any (·.reportsError resp) then (d.frameHeard p resp).portMiss p 4
      else if life.isSome = true ∧ life = q.life then (d.frameHeard p resp).portMiss p 5
      else (d.frameHeard p resp).portSample p (framePos q.table resp).2 (framePos q.table resp).1 (bit (leAt q.table 0 4) 4) := by
  intro q fs life
  unfold Device.frameDone
  rw [if_neg (by simp [hm, hb])]
  refine (if_neg hl).trans ?_
  extract_lets t fs' constOk life' d1 warn err d2
  have hall : constOk = true ↔ ∀ f ∈ fs, f.kind = 8 → f.read resp = f.value := by
    simp [constOk, fs, fs', t, q, ← imp_iff_not_or]
  have hok : (!(frameCrcOk t resp && constOk)) = true ↔
      ¬ (frameCrcOk q.table resp = true ∧ ∀ f ∈ fs, f.kind = 8 → f.read resp = f.value) := by
    rw [Bool.not_eq_true', ← Bool.not_eq_true, Bool.and_eq_true, hall]
  have hlife : (life'.isSome && life' == (d.port p).life) = true ↔ life.isSome = true ∧ life = q.life := by
    rw [Bool.and_eq_true, beq_iff_eq]
  simp only [hok, hlife]
  rfl

end Frame

/-! ### What a word reports beside its position -/

section Reports
variable (d : Device) (p : Nat)

theorem Heard.biss (w dly : Nat) : Heard d (d.bissHeard p w dly) p := by
  have hdelay : Heard d (d.put (FB_STATUS_MEAS_DLY p) dly) p := (Heard.refl d p).put _ _ (.inl rfl)
  unfold Device.bissHeard
  split
  · exact hdelay
  · exact hdelay.put (FB_EVENT_ENC_WARN p) 1 (.inr rfl)

theorem Device.delay_bissHeard (w dly : Nat) : (d.bissHeard p w dly).get (FB_STATUS_MEAS_DLY p) = dly % 256 := by
  have hdelay : (d.put (FB_STATUS_MEAS_DLY p) dly).get (FB_STATUS_MEAS_DLY p) = dly % 256 :=
    Device.get_put_same _ _ _ (by simp only [FB_STATUS_MEAS_DLY]; decide)
  unfold Device.bissHeard
  split
  · exact hdelay
  · exact (Device.get_put_addr _ _ _ _ (by simp only [FB_STATUS_MEAS_DLY, FB_EVENT_ENC_WARN, FB_STATUS, FB_EVENT]; omega)).trans hdelay

theorem Device.warned_bissHeard (w dly : Nat) :
    (d.bissHeard p w dly).has (FB_EVENT_ENC_WARN p) = (d.has (FB_EVENT_ENC_WARN p) || !bit w 6) := by
  have hkept : (d.put (FB_STATUS_MEAS_DLY p) dly).has (FB_EVENT_ENC_WARN p) = d.has (FB_EVENT_ENC_WARN p) :=
    (sameRegs.put d (FB_STATUS_MEAS_DLY p) dly (· = FB_STATUS p) rfl).has (by simp only [FB_EVENT_ENC_WARN, FB_STATUS, FB_EVENT]; omega)
  unfold Device.bissHeard
  cases bit w 6 with
  | true => simpa using hkept
  | false => simpa using Device.has_raise (d.put (FB_STATUS_MEAS_DLY p) dly) (f := FB_EVENT_ENC_WARN p) (by simp only [FB_EVENT_ENC_WARN]; decide) rfl

theorem Heard.frame (resp : Nat) : Heard d (d.frameHeard p resp) p := by
  have hlife := (Heard.refl d p).setPort (fun s => { s with life := (fieldOf (frameFields (d.port p).table) 9).map (·.read resp) })
    (fun _ => rfl) fun _ => rfl
  unfold Device.frameHeard
  split
  · exact hlife.put (FB_EVENT_ENC_WARN p) 1 (.inr rfl)
  · exact hlife

theorem Device.life_frameHeard (resp : Nat) :
    ((d.frameHeard p resp).port p).life = (fieldOf (frameFields (d.port p).table) 9).map (·.read resp) := by
  have hlife := d.port_setPort_same p fun s => { s with life := (fieldOf (frameFields (d.port p).table) 9).map (·.read resp) }
  unfold Device.frameHeard
  split
  · exact congrArg FbPort.life hlife
  · rw [hlife]

end Reports

/-! ### Timeouts (R183, R184, R186) -/

/-- Can the timeout of a transfer be due? -/
def Device.timeoutDue (d : Device) (p : Nat) : Prop :=
  d.portTimeout p ≤ d.clk.tick ∨ (d.clk.tick = 0 ∧ d.idleChecked p = true) ∨
    (d.portMode p = 4 ∧ 3 * (bits (d.port p).ser.toNat 0 9 + 1) + 1 + d.ackTicks p < d.clk.tick)

section Timeout
variable {d : Device} {p : Nat}

theorem Device.serialTimedOut_idle (h : (d.port p).busy = false) : d.serialTimedOut p = d := if_neg fun ⟨_, _, hb, _⟩ => nomatch h.symm.trans hb

theorem Device.serialTimedOut_due (hm : 3 ≤ d.portMode p) (hm5 : d.portMode p ≤ 5) (hb : (d.port p).busy = true) (h : d.timeoutDue p) :
    d.serialTimedOut p = d.portMiss p 2 := by
  refine if_pos ⟨hm, hm5, hb, ?_⟩
  simp only [Bool.or_eq_true, Bool.and_eq_true, decide_eq_true_eq]
  exact or_assoc.mpr (h.imp_right Or.symm)

theorem Device.serialTimedOut_early (h : ¬ d.timeoutDue p) : d.serialTimedOut p = d := by
  refine if_neg fun ⟨_, _, _, hnow⟩ => h ?_
  simp only [Bool.or_eq_true, Bool.and_eq_true, decide_eq_true_eq] at hnow
  exact (or_assoc.mp hnow).imp_right Or.symm

end Timeout
end Machine

/-! ### The commands -/

section Commands
variable {s : State} {p : Fin 16} (hr : s.dev.inReset = false)
include hr

theorem leads_bissTransferDone {w : BitVec 128} {dly : BitVec 16} (hm : s.dev.portMode p = 4) (hb : (s.dev.port p).busy = true)
    (hl : ¬ s.dev.frameLate p = true) (ha : dly.toNat ≤ s.dev.ackTicks p) : let c := (s.dev.port p).ser.toNat
    let n := bits c 16 6
    let crcOk := crcBits 6 3 0 (msbBits (n + 2) (bits w.toNat 6 (n + 2))) = 63 - bits w.toNat 0 6
    (¬ crcOk → leads (.bissTransferDone p w dly) s (portMisses s.dev · p (FB_EVENT_CRC p) (some (FB_ERRCNT_CRC p)))) ∧
    (crcOk → bit w.toNat 7 = false →
      leads (.bissTransferDone p w dly) s (portMisses s.dev · p (FB_EVENT_ENC_ERR p) (some (FB_ERRCNT_ENC p)))) ∧
    (crcOk → bit w.toNat 7 = true → leads (.bissTransferDone p w dly) s (fun d =>
      portTakes s.dev d p (bits w.toNat 8 n) n (bit c 28) ∧
      (s.dev.portUsers p = [] → noneAwaits s.dev → d.get (FB_STATUS_MEAS_DLY p) = dly.toNat % 256 ∧
        d.has (FB_EVENT_ENC_WARN p) = (s.dev.has (FB_EVENT_ENC_WARN p) || !bit w.toNat 6)))) := by
  intro c n crcOk
  have hjudged := Device.bissDone_judged w.toNat dly.toNat hm hb hl ha
  have hheard := Heard.biss s.dev p w.toNat dly.toNat
  refine ⟨fun hcrc => ?_, fun hcrc hnE => ?_, fun hcrc hnE => ?_⟩
  · exact leads_portMiss_crc p.isLt rfl hr ((Heard.refl _ _).put _ _ (.inl rfl)) (hjudged.trans (if_pos hcrc))
  · exact leads_portMiss_encErr p.isLt rfl hr hheard (hjudged.trans ((if_neg (not_not.mpr hcrc)).trans (if_pos hnE)))
  · refine leads_taken p.isLt rfl hr hheard (hjudged.trans ((if_neg (not_not.mpr hcrc)).trans (if_neg (by simp [hnE]))))
      fun b hports hidle => ⟨hheard.portTakes hports hidle, fun hu haw => ?_⟩
    rw [hidle hu haw]
    refine ⟨(Device.status_taken _ _ _ _ _ rfl (by simp only [FB_STATUS_MEAS_DLY]; decide) (by simp only [FB_STATUS_MEAS_DLY]; decide)).trans
      (Device.delay_bissHeard _ _ _ _), ((Device.sameRegs_taken _ _ _ _ _).has ?_).trans (Device.warned_bissHeard _ _ _ _)⟩
    simp only [List.mem_cons, List.not_mem_nil, or_false, FB_EVENT_ENC_WARN, FB_EVENT, FB_STATUS, FB_RAW]
    omega

theorem leads_frameFormatDone {resp : BitVec 1024} (hm : s.dev.portMode p = 5) (hb : (s.dev.port p).busy = true)
    (hl : ¬ s.dev.frameLate p = true) : let q := s.dev.port p
    let fs := frameFields q.table
    let bad := fun (f : FrameField) => (f.kind = 3 ∧ f.read resp.toNat ≠ 0) ∨ (f.kind = 4 ∧ f.read resp.toNat ≠ 2 ^ f.len - 1)
    let ok := frameCrcOk q.table resp.toNat = true ∧ ∀ f ∈ fs, f.kind = 8 → f.read resp.toNat = f.value
    let takes := fun d => portTakes s.dev d p (framePos q.table resp.toNat).2 (framePos q.table resp.toNat).1 (bit (leAt q.table 0 4) 4)
    (¬ ok → leads (.frameFormatDone p resp) s (portMisses s.dev · p (FB_EVENT_CRC p) (some (FB_ERRCNT_CRC p)))) ∧
    (ok → (∃ f ∈ fs, bad f) → leads (.frameFormatDone p resp) s (portMisses s.dev · p (FB_EVENT_ENC_ERR p) (some (FB_ERRCNT_ENC p)))) ∧
    (ok → (∀ f ∈ fs, ¬ bad f) → fieldOf fs 9 = none → leads (.frameFormatDone p resp) s takes) ∧
    (∀ f, ok → (∀ f ∈ fs, ¬ bad f) → fieldOf fs 9 = some f →
      (q.life = some (f.read resp.toNat) → leads (.frameFormatDone p resp) s (portMisses s.dev · p (FB_EVENT_LIFE p) none)) ∧
      (q.life ≠ some (f.read resp.toNat) → leads (.frameFormatDone p resp) s (fun d =>
        (d.port p).life = some (f.read resp.toNat) ∧ takes d))) := by
  intro q fs bad ok takes
  have hjudged := Device.frameDone_judged resp.toNat hm hb hl
  have hheard := Heard.frame s.dev p resp.toNat
  have hany : fs.any (·.reportsError resp.toNat) = true ↔ ∃ f ∈ fs, bad f := by
    simp only [List.any_eq_true, FrameField.reportsError_iff, bad]
  have hgood : ok → (∀ f ∈ fs, ¬ bad f) → s.dev.frameDone p resp.toNat = _ := fun hok hbad =>
    hjudged.trans ((if_neg (not_not.mpr hok)).trans (if_neg (mt hany.mp fun ⟨f, hf, hb⟩ => hbad f hf hb)))
  refine ⟨fun hok => ?_, fun hok hbad => ?_, fun hok hbad hlife => ?_, fun f hok hbad hlife => ⟨fun hsame => ?_, fun hnew => ?_⟩⟩
  · exact leads_portMiss_crc p.isLt rfl hr (.refl _ _) (hjudged.trans (if_pos hok))
  · exact leads_portMiss_encErr p.isLt rfl hr hheard (hjudged.trans ((if_neg (not_not.mpr hok)).trans (if_pos (hany.mpr hbad))))
  · refine leads_portSample p.isLt rfl hr hheard ((hgood hok hbad).trans (if_neg ?_))
    simp [show fieldOf (frameFields (s.dev.port p).table) 9 = none from hlife]
  · refine leads_portMiss_life p.isLt rfl hr hheard ((hgood hok hbad).trans (if_pos ?_))
    simp [show fieldOf (frameFields (s.dev.port p).table) 9 = some f from hlife, show (s.dev.port p).life = _ from hsame]
  · refine leads_taken p.isLt rfl hr hheard ((hgood hok hbad).trans (if_neg ?_)) fun b hports hidle => ⟨?_, hheard.portTakes hports hidle⟩
    · simpa [show fieldOf (frameFields (s.dev.port p).table) 9 = some f from hlife] using Ne.symm hnew
    · rw [Device.port_congr hports, Device.port_taken, Device.life_frameHeard, show fieldOf (frameFields (s.dev.port p).table) 9 = some f from hlife]
      rfl

end Commands

theorem serialTransfersTakeOrMiss : Claims.SerialTransfersTakeOrMiss := by
  intro s p hr
  refine ⟨fun hl hb => ⟨fun w hm => ?_, fun w dly hm => ?_, fun r hm => ?_⟩, fun w hm hb hl => ⟨fun hok => ?_, fun hok => ?_⟩,
    fun w dly hm hb ha => ?_, fun w dly hm hb hl ha => leads_bissTransferDone hr hm hb hl ha,
    fun resp hm hb hl => leads_frameFormatDone hr hm hb hl, fun hm hm5 hb => ⟨fun hdue => ?_, fun hdue => ?_⟩,
    fun hb => ⟨fun w => ?_, fun w dly => ?_, fun r => ?_, ?_⟩⟩
  · exact leads_portMiss_timeout p.isLt rfl hr (.refl _ _) (Device.ssiDone_late w.toNat hm hb hl)
  · exact leads_portMiss_timeout p.isLt rfl hr (.refl _ _) (Device.bissDone_late w.toNat dly.toNat hm hb (.inl hl))
  · exact leads_portMiss_timeout p.isLt rfl hr (.refl _ _) (Device.frameDone_late r.toNat hm hb hl)
  · exact leads_portSample p.isLt rfl hr (.refl _ _) ((Device.ssiDone_judged w.toNat hm hb hl).trans (if_pos hok))
  · exact leads_portMiss_crc p.isLt rfl hr (.refl _ _) ((Device.ssiDone_judged w.toNat hm hb hl).trans (if_neg hok))
  · exact leads_portMiss_timeout p.isLt rfl hr (.refl _ _) (Device.bissDone_late w.toNat dly.toNat hm hb (.inr ha))
  · exact leads_portMiss_timeout p.isLt rfl hr (.refl _ _) (Device.serialTimedOut_due hm hm5 hb hdue)
  · exact leads_onDev_of_clk rfl hr (Device.serialTimedOut_early hdue) rfl rfl
  · exact leads_onDev_of_clk rfl hr (Device.ssiDone_idle w.toNat hb) rfl rfl
  · exact leads_onDev_of_clk rfl hr (Device.bissDone_idle w.toNat dly.toNat hb) rfl rfl
  · exact leads_onDev_of_clk rfl hr (Device.frameDone_idle r.toNat hb) rfl rfl
  · exact leads_onDev_of_clk rfl hr (Device.serialTimedOut_idle hb) rfl rfl

end Sys2Proof
end

section
/-! What a serial sample and a miss do to the axis of the port (R173, R174, R197, R198). -/

namespace Sys2Proof

open Sys2Proof.Machine
open Claims (noneAwaits soleUser livePos sameLive)

namespace Machine

/-! ### One source evaluated -/

/-- Between the blocks, of the feedback units only unit `k` differs, of the registers at most those in `R`, and of the snapshot
registers at most those in `A`; no convoy differs. -/
structure Local (R A : Nat → Prop) (d e : Device) (k : Nat) : Prop where
  clk : e.clk = d.clk
  convoys : e.convoys = d.convoys
  others : ∀ j, j ≠ k → e.fb j = d.fb j
  regs : sameRegs d e R
  live : sameLive d e A

namespace Local
variable {R A : Nat → Prop} {d e f : Device} {k : Nat}

theorem refl (d : Device) (k : Nat) : Local R A d d k := ⟨rfl, rfl, fun _ _ => rfl, .refl d R, fun _ _ => rfl⟩

theorem trans (h : Local R A d e k) (g : Local R A e f k) : Local R A d f k :=
  ⟨g.clk.trans h.clk, g.convoys.trans h.convoys, fun j hj => (g.others j hj).trans (h.others j hj), h.regs.trans g.regs,
    fun a ha => (g.live a ha).trans (h.live a ha)⟩

theorem ite {p : Prop} [Decidable p] (h : Local R A d e k) (g : Local R A d f k) : Local R A d (if p then e else f) k := by
  split
  · exact h
  · exact g

theorem of_shown (h : Shown A d e k) : Local R A d e k :=
  ⟨h.clk, h.part Device.convoys fun _ _ _ => rfl, h.others, .regs R h.regs, h.live⟩

theorem put (d : Device) (g : Fld) (v : Nat) (hg : R g.addr) : Local R A d (d.put g v) k :=
  ⟨rfl, rfl, fun _ _ => rfl, .put d g v R hg, fun _ _ => rfl⟩

theorem msg (d : Device) (c i kind x : Nat) (t r : Bool) : Local R A d (d.msg c i kind x t r) k :=
  ⟨rfl, rfl, fun _ _ => rfl, .regs R rfl, fun _ _ => rfl⟩

end Local

/-- What a beat brings from a source, taken. -/
def Device.srcHeard (d : Device) (k w : Nat) : SrcIn → Device
  | .count r moved edges => (d.setSrc k w fun s => { s with edges := edges.getD [] }).srcValid k w r moved edges.isSome edges.isSome
  | .word raw width abs sgnd age => d.srcWord k w raw width abs sgnd age
  | .miss cause r => d.srcMiss k w cause r
  | .absent => d.srcAbsent k w

section Sole
variable {d : Device} {p k : Nat} {x : SrcIn}

/-- The evaluation of a primary source without injections. -/
theorem Device.srcEval_plain (he : (d.fb k).pri.evaluated = false) (hinj : ∀ kind < 8, d.injPending 4 k kind = false)
    (hinj' : ∀ kind < 8, (d.srcHeard k 0 x).injPending 4 k kind = false) : d.srcEval k 0 x = d.srcHeard k 0 x := by
  have hfind : [1, 2, 3, 4].find? (fun kind => d.injPending 4 k kind && d.rdN (INJ_DETAIL 4 k kind) % 2 == 0) = none := by
    refine List.find?_eq_none.mpr fun kind hkind => ?_
    have hlt : kind < 8 := by
      simp only [List.mem_cons, List.not_mem_nil, or_false] at hkind
      omega
    simp [hinj kind hlt]
  unfold Device.srcEval
  refine (if_neg (by simpa [FbUnit.src] using he)).trans ?_
  extract_lets inj d1 lose d2
  have hnone : inj = none := hfind
  have hlose : ∀ b kind, b.injPending 4 k kind = false → lose b kind = b := fun b kind h => if_neg (by simp [h])
  have h1 : d1 = d.srcHeard k 0 x := by cases x <;> rfl
  have h2 : d2 = d.srcHeard k 0 x := by
    simp only [d2]
    rw [h1, hlose _ 5 (hinj' 5 (by decide)), hlose _ 6 (hinj' 6 (by decide))]
  rw [hnone]
  exact (if_neg (by simp)).trans h2

/-- An axis whose secondary source is still to be evaluated, without a loss. -/
theorem Device.fbFinish_waiting (hs : (d.fb k).sec.evaluated = false) (hl : (d.fb k).lostNow = []) : d.fbFinish k = d := by
  unfold Device.fbFinish
  refine (if_pos (by simp [hs])).trans ?_
  unfold Device.fbReact
  exact if_pos (by simp [hl])

end Sole

/-! ### A sample of a source that is up (R173, R197) -/

/-- A source without what the speed estimate makes of it. -/
def FbSrc.unsped (s : FbSrc) : FbSrc := { s with vel := 0, since := 0, dir := 0, changeAt := 0, cut := none, ep := false, still := false }

/-- A unit with another primary source. -/
def FbUnit.withPri (u : FbUnit) (q : FbSrc) : FbUnit := { u with pri := q }

@[simp] theorem FbUnit.pri_withPri (u : FbUnit) (q : FbSrc) : (u.withPri q).pri = q := rfl
@[simp] theorem FbUnit.sec_withPri (u : FbUnit) (q : FbSrc) : (u.withPri q).sec = u.sec := rfl
@[simp] theorem FbUnit.lostNow_withPri (u : FbUnit) (q : FbSrc) : (u.withPri q).lostNow = u.lostNow := rfl
@[simp] theorem FbUnit.withPri_withPri (u : FbUnit) (q q' : FbSrc) : (u.withPri q).withPri q' = u.withPri q' := rfl

section Sample
variable (d : Device) (k : Nat)

theorem Shown.srcHist {A : Nat → Prop} (x : Option Int) : Shown A d (d.srcHist k 0 x) k := .setSrc d 0 _

theorem Device.live_setSrc (w : Nat) (f : FbSrc → FbSrc) : (d.setSrc k w f).live = d.live := rfl

theorem Device.live_srcHist (x : Option Int) : (d.srcHist k 0 x).live = d.live := rfl

theorem Device.fb_setPri (f : FbSrc → FbSrc) : (d.setSrc k 0 f).fb k = (d.fb k).withPri (f (d.fb k).pri) := d.fb_setSrc_pri k f

theorem Shown.speed (hasEdges : Bool) : Shown (fbLive k) d (d.speed k 0 hasEdges) k := by
  have hput : ∀ (b : Device) (f : Fld) (v : Nat), f.addr = AX_FB_STATUS k → Shown (fbLive k) b (b.livePut f v) k :=
    fun b f v hf => .livePut b f v (by simp [hf, fbLive])
  unfold Device.speed
  extract_lets
  next d1 =>
  have h1 : Shown (fbLive k) d d1 k := .setSrc d 0 _
  exact .ite (((h1.trans (hput d1 _ _ rfl)).trans (hput _ _ _ rfl)).trans (.liveWr _ _ _ (by simp [fbLive]))) h1

/-- The speed estimate changes nothing else of a source. -/
theorem Device.fb_speed (hasEdges : Bool) : ∃ q, (d.speed k 0 hasEdges).fb k = (d.fb k).withPri q ∧ q.unsped = (d.fb k).pri.unsped := by
  unfold Device.speed
  extract_lets
  next d1 =>
  have h1 : ∃ q, d1.fb k = (d.fb k).withPri q ∧ q.unsped = (d.fb k).pri.unsped := ⟨_, d.fb_setPri k _, rfl⟩
  rw [if_pos rfl, Device.fb_liveWr, Device.fb_livePut, Device.fb_livePut]
  exact h1

/-- The block with R taken and the history of the source, before its position follows. -/
def Device.sampleTaken (r : Int) : Device :=
  ((d.setSrc k 0 fun s => { s with r := r, miss := 0, good := (d.fb k).pri.good + 1, valid := true }).srcHist k 0 (some r)).livePut
    (AX_FB_STATUS_MISS_RUN k) 0

/-- The block with a sample taken, its position and its speed shown. -/
def Device.samplePlaced (r : Int) (hasEdges : Bool) : Device :=
  (((d.sampleTaken k r).speed k 0 hasEdges).srcSetPos k 0 (d.srcPos k 0 r)).srcShow k 0 true false

variable {d k}

theorem Shown.sampleTaken (r : Int) : Shown (fbLive k) d (d.sampleTaken k r) k :=
  ((Shown.setSrc d 0 _).trans (.setSrc _ 0 _)).trans (.livePut _ (AX_FB_STATUS_MISS_RUN k) 0 (by simp [fbLive, AX_FB_STATUS_MISS_RUN]))

/-- A position follows from the registers (R173). -/
theorem Device.srcPos_congr {d e : Device} (h : e.regs = d.regs) (k w : Nat) (r : Int) : e.srcPos k w r = d.srcPos k w r := by
  simp only [Device.srcPos, Device.srcScale, Device.rdS64, Device.rd64, Device.rd, h]

theorem Device.srcValid_plain (hl : (d.fb k).pri.lost = false) (ha : (d.fb k).pri.absent = false) (hv : d.rdN (AX_FB_FREEZE_VMIN k) = 0)
    (r : Int) (moved hasEdges canFreeze : Bool) :
    d.srcValid k 0 r moved hasEdges canFreeze = (d.samplePlaced k r hasEdges).setSrc k 0 fun s => { s with froze := 0 } := by
  unfold Device.srcValid
  extract_lets s good down d1 d2 d3 d4 d5 vmin froz n d6
  have hdown : down = false := by simp [down, s, FbUnit.src, hl, ha]
  have hfroz : froz = false := by simp [froz, vmin, hv]
  have hd2 : d2 = d.sampleTaken k r := by
    simp only [d2, d1, hdown, Bool.false_eq_true, if_false, if_true]
    rfl
  have hpos : d2.srcPos k 0 r = d.srcPos k 0 r := Device.srcPos_congr (hd2 ▸ (Shown.sampleTaken r).regs) k 0 r
  have hd5 : d5 = d.samplePlaced k r hasEdges := by
    simp only [d5, hdown, Bool.false_eq_true, false_and, if_false, d4, d3, hpos, Bool.not_false]
    rw [hd2, Device.samplePlaced]
  have hd6 : d6 = (d.samplePlaced k r hasEdges).setSrc k 0 fun s => { s with froze := 0 } := by
    simp only [d6, n, hfroz, hd5, Bool.false_eq_true, if_false]
  rw [hfroz]
  exact hd6

theorem Shown.samplePlaced (r : Int) (hasEdges : Bool) : Shown (fbLive k) d (d.samplePlaced k r hasEdges) k :=
  (((Shown.sampleTaken r).trans (.speed _ k hasEdges)).trans (.srcSetPos _ k 0 _)).trans (.srcShow _ k 0 true false)

theorem Device.fb_sampleTaken (r : Int) : ∃ q, (d.sampleTaken k r).fb k = (d.fb k).withPri q ∧
    q.r = r ∧ q.miss = 0 ∧ q.good = (d.fb k).pri.good + 1 ∧ q.valid = true ∧ q.evaluated = true := by
  rw [Device.sampleTaken, Device.fb_livePut, Device.srcHist, Device.fb_setPri, Device.fb_setPri, FbUnit.withPri_withPri, FbUnit.pri_withPri]
  exact ⟨_, rfl, rfl, rfl, rfl, rfl, rfl⟩

/-- A primary source after a valid sample `r` of a source that is up. -/
structure FbSrc.Sampled (s q : FbSrc) (r p : Int) : Prop where
  r : q.r = r
  p : q.p = p
  valid : q.valid = true
  miss : q.miss = 0
  good : q.good = s.good + 1
  evaluated : q.evaluated = true

theorem Device.fb_samplePlaced (r : Int) (hasEdges : Bool) : ∃ q, (d.samplePlaced k r hasEdges).fb k = (d.fb k).withPri q ∧
    (d.fb k).pri.Sampled q r (d.srcPos k 0 r) := by
  obtain ⟨q1, hfb1, hr, hmiss, hgood, hvalid, heval⟩ := Device.fb_sampleTaken (d := d) (k := k) r
  obtain ⟨q2, hfb2, hsame⟩ := (d.sampleTaken k r).fb_speed k hasEdges
  rw [hfb1, FbUnit.withPri_withPri] at hfb2
  rw [hfb1, FbUnit.pri_withPri] at hsame
  refine ⟨{ q2 with p := d.srcPos k 0 r }, ?_, (congrArg FbSrc.r hsame).trans hr, rfl, (congrArg FbSrc.valid hsame).trans hvalid,
    (congrArg FbSrc.miss hsame).trans hmiss, (congrArg FbSrc.good hsame).trans hgood, (congrArg FbSrc.evaluated hsame).trans heval⟩
  rw [Device.samplePlaced, Device.fb_srcShow, Device.srcSetPos, Device.fb_liveWrS64, Device.fb_setPri, hfb2]
  rfl

/-! What software sees of it. -/

theorem livePos_liveWrS64 (b : Device) (a : Nat) (i : Int) : livePos (b.liveWrS64 a i) a = toS 64 (ofS 64 i) := by
  have hlt := ofS_lt 64 i
  have hlo : Store.get resetWord (b.liveWrS64 a i).live a = BitVec.ofNat 32 (ofS 64 i) :=
    (Store.get_set_other _ _ _ _ _ (by omega)).trans (Store.get_set_same _ _ _ _)
  have hhi : Store.get resetWord (b.liveWrS64 a i).live (a + 4) = BitVec.ofNat 32 (ofS 64 i / 2 ^ 32) := Store.get_set_same _ _ _ _
  rw [livePos, hlo, hhi, BitVec.toNat_ofNat, BitVec.toNat_ofNat]
  congr 1
  omega

theorem livePos_of_sameLive {A : Nat → Prop} {b e : Device} {a : Nat} (h : sameLive b e A) (ha : ¬ A a) (ha4 : ¬ A (a + 4)) :
    livePos e a = livePos b a := by
  rw [livePos, h a ha, h (a + 4) ha4, livePos]

theorem sameLive_livePut (b : Device) (f : Fld) (v : Nat) : sameLive b (b.livePut f v) (· = f.addr) :=
  fun _ ha => Store.get_set_other _ _ _ _ _ ha

theorem livePos_livePut (b : Device) {f : Fld} (hf : f.addr = AX_FB_STATUS k) (v : Nat) :
    livePos (b.livePut f v) (AX_FB_POS k) = livePos b (AX_FB_POS k) := by
  refine livePos_of_sameLive (sameLive_livePut b f v) ?_ ?_ <;> rw [hf] <;> simp only [AX_FB_POS, AX_FB_STATUS] <;> omega

/-- VALID and EXTRAP of a primary source as they are shown. -/
theorem Device.priShown_srcShow (b : Device) (valid extrap : Bool) :
    (b.srcShow k 0 valid extrap).liveHas (AX_FB_STATUS_PRI_VALID k) = valid ∧
      (b.srcShow k 0 valid extrap).liveHas (AX_FB_STATUS_PRI_EXTRAP k) = extrap := by
  rw [Device.srcShow, if_pos rfl]
  refine ⟨?_, ?_⟩
  · rw [Device.priValid_livePut _ _ (by simp only [AX_FB_STATUS_PRI_EXTRAP]; decide), Device.liveHas,
      Device.liveGet_livePut_same _ _ _ (by simp only [AX_FB_STATUS_PRI_VALID]; decide)]
    cases valid <;> rfl
  · rw [Device.liveHas, Device.liveGet_livePut_same _ _ _ (by simp only [AX_FB_STATUS_PRI_EXTRAP]; decide)]
    cases extrap <;> rfl

/-- The position, VALID and EXTRAP of a primary source as software sees them. -/
def priSeen (d : Device) (k : Nat) : Int × Bool × Bool :=
  (livePos d (AX_FB_POS k), d.liveHas (AX_FB_STATUS_PRI_VALID k), d.liveHas (AX_FB_STATUS_PRI_EXTRAP k))

theorem priSeen_congr {b e : Device} (h : e.live = b.live) (k : Nat) : priSeen e k = priSeen b k := by
  simp only [priSeen, livePos, Device.liveHas, Device.liveGet, h]

theorem priSeen_placed (b : Device) (p : Int) (valid extrap : Bool) :
    priSeen ((b.srcSetPos k 0 p).srcShow k 0 valid extrap) k = (toS 64 (ofS 64 p), valid, extrap) := by
  obtain ⟨hvalid, hextrap⟩ := (b.srcSetPos k 0 p).priShown_srcShow (k := k) valid extrap
  have hpos : livePos ((b.srcSetPos k 0 p).srcShow k 0 valid extrap) (AX_FB_POS k) = toS 64 (ofS 64 p) := by
    rw [Device.srcShow, if_pos rfl, livePos_livePut _ rfl, livePos_livePut _ rfl, Device.srcSetPos, if_pos rfl, livePos_liveWrS64]
  rw [priSeen, hpos, hvalid, hextrap]

/-- REF_VALID is none of it. -/
theorem priSeen_refValid (b : Device) (v : Nat) : priSeen (b.livePut (AX_FB_STATUS_REF_VALID k) v) k = priSeen b k := by
  have hextrap : (b.livePut (AX_FB_STATUS_REF_VALID k) v).liveHas (AX_FB_STATUS_PRI_EXTRAP k) = b.liveHas (AX_FB_STATUS_PRI_EXTRAP k) := by
    rw [Device.liveHas, b.liveGet_livePut_bits _ _ v (.inl (by simp only [AX_FB_STATUS_PRI_EXTRAP, AX_FB_STATUS_REF_VALID]; decide))
      (by simp only [AX_FB_STATUS_PRI_EXTRAP]; decide), Device.liveHas]
  rw [priSeen, livePos_livePut _ rfl, Device.priValid_livePut _ _ (by simp only [AX_FB_STATUS_REF_VALID]; decide), hextrap, priSeen]

/-! ### A word of a serial port (R174) -/

/-- A source that is up, with its freeze check off. -/
structure Up (d : Device) (k : Nat) : Prop where
  lost : (d.fb k).pri.lost = false
  absent : (d.fb k).pri.absent = false
  vmin : d.rdN (AX_FB_FREEZE_VMIN k) = 0

theorem Device.srcWord_plain (h : Up d k) (raw width : Nat) (sgnd : Bool) : ∃ b : Device, ∃ first : Bool,
    Up b k ∧ Shown (fbLive k) d b k ∧ (∃ q, b.fb k = (d.fb k).withPri q ∧ q.good = (d.fb k).pri.good) ∧
    (∃ moved, d.srcWord k 0 raw width true sgnd none =
      if first then (b.srcValid k 0 ((d.fb k).pri.take raw width true sgnd) moved false true).livePut (AX_FB_STATUS_REF_VALID k) 1
      else b.srcValid k 0 ((d.fb k).pri.take raw width true sgnd) moved false true) := by
  unfold Device.srcWord
  extract_lets s down rv r moved t0 edges firstAbs d1 d2
  have hdown : down = false := by simp [down, s, FbUnit.src, h.lost, h.absent]
  have hr : r = (d.fb k).pri.take raw width true sgnd := by
    simp only [r, hdown, Bool.false_and, Bool.false_eq_true, if_false]
    rfl
  have h1 : d1.fb k = (d.fb k).withPri { (d.fb k).pri with raw := some (raw % 2 ^ width), edges := edges } := d.fb_setPri k _
  have hshown : Shown (fbLive k) d d1 k := .setSrc d 0 _
  refine ⟨d1, firstAbs && !down, ⟨?_, ?_, (hshown.rdN _).trans h.vmin⟩, hshown, ⟨_, h1, rfl⟩, moved, ?_⟩
  · rw [h1]
    exact h.lost
  · rw [h1]
    exact h.absent
  · rw [← hr]
    rfl

theorem Shown.srcValid (h : Up d k) (r : Int) (moved hasEdges canFreeze : Bool) :
    Shown (fbLive k) d (d.srcValid k 0 r moved hasEdges canFreeze) k := by
  rw [Device.srcValid_plain h.lost h.absent h.vmin]
  exact (Shown.samplePlaced r hasEdges).trans (.setSrc _ 0 _)

theorem Device.fb_srcValid (h : Up d k) (r : Int) (moved hasEdges canFreeze : Bool) : ∃ q,
    (d.srcValid k 0 r moved hasEdges canFreeze).fb k = (d.fb k).withPri q ∧ (d.fb k).pri.Sampled q r (d.srcPos k 0 r) := by
  obtain ⟨q, hfb, hr, hp, hvalid, hmiss, hgood, heval⟩ := Device.fb_samplePlaced (d := d) (k := k) r hasEdges
  refine ⟨{ q with froze := 0 }, ?_, hr, hp, hvalid, hmiss, hgood, heval⟩
  rw [Device.srcValid_plain h.lost h.absent h.vmin, Device.fb_setPri, hfb]
  rfl

theorem priSeen_srcValid (h : Up d k) (r : Int) (moved hasEdges canFreeze : Bool) :
    priSeen (d.srcValid k 0 r moved hasEdges canFreeze) k = (toS 64 (ofS 64 (d.srcPos k 0 r)), true, false) := by
  rw [Device.srcValid_plain h.lost h.absent h.vmin]
  exact (priSeen_congr (Device.live_setSrc _ _ _ _) k).trans (priSeen_placed _ _ true false)

/-- A word of a serial port gives a valid sample. -/
theorem Device.sampled_srcWord (h : Up d k) (raw width : Nat) (sgnd : Bool) : let r := (d.fb k).pri.take raw width true sgnd
    let e := d.srcWord k 0 raw width true sgnd none
    Shown (fbLive k) d e k ∧ (∃ q, e.fb k = (d.fb k).withPri q ∧ (d.fb k).pri.Sampled q r (d.srcPos k 0 r)) ∧
      priSeen e k = (toS 64 (ofS 64 (d.srcPos k 0 r)), true, false) := by
  intro r e
  obtain ⟨b, first, hup, hshown, ⟨q0, hb, hgood0⟩, moved, he⟩ := Device.srcWord_plain h raw width sgnd
  obtain ⟨q, hfb, hr, hp, hvalid, hmiss, hgood, heval⟩ := Device.fb_srcValid hup r moved false true
  have hpos : b.srcPos k 0 r = d.srcPos k 0 r := Device.srcPos_congr hshown.regs k 0 r
  have hseen := priSeen_srcValid hup r moved false true
  rw [hb, FbUnit.withPri_withPri] at hfb
  rw [hb, FbUnit.pri_withPri, hgood0] at hgood
  rw [hpos] at hp hseen
  have hq : (d.fb k).pri.Sampled q r (d.srcPos k 0 r) := ⟨hr, hp, hvalid, hmiss, hgood, heval⟩
  have hall := hshown.trans (Shown.srcValid hup r moved false true)
  rw [show e = _ from he]
  cases first with
  | false => exact ⟨hall, ⟨q, hfb, hq⟩, hseen⟩
  | true =>
    exact ⟨hall.trans (.livePut _ _ _ (by simp [fbLive, AX_FB_STATUS_REF_VALID])), ⟨q, (Device.fb_livePut ..).trans hfb, hq⟩,
      (priSeen_refValid _ 1).trans hseen⟩

end Sample

/-! ### A miss of a source that is up (R197, R198) -/

section Miss
variable (d : Device) (k : Nat)

/-- The block with a miss counted. -/
def Device.missReset : Device := d.setSrc k 0 fun s => { s with miss := (d.fb k).pri.miss + 1, good := 0, froze := 0 }

/-- The block with a TIMEOUT counted and shown, before the position is extrapolated. -/
def Device.missCounted : Device :=
  (if (d.fb k).pri.miss = 0 then ((d.missReset k).raise (AX_FB_EVENT_MISS k)).msg 4 k 2 0 else d.missReset k).livePut
    (AX_FB_STATUS_MISS_RUN k) (min 15 ((d.fb k).pri.miss + 1))

/-- The block with a TIMEOUT of a source that is not lost by it. -/
def Device.missTaken : Device :=
  (((d.missCounted k).srcSetPos k 0 ((d.fb k).pri.p + fdiv ((d.fb k).pri.vel * d.clk.len) (2 ^ 8))).srcShow k 0 (d.fb k).pri.valid true).srcHist
    k 0 none

theorem Local.missCounted : Local (· = AX_FB_EVENT k) (fbLive k) d (d.missCounted k) k := by
  have hreset : Local (· = AX_FB_EVENT k) (fbLive k) d (d.missReset k) k := .of_shown (.setSrc d 0 _)
  exact (ite ((hreset.trans (.put _ (AX_FB_EVENT_MISS k) 1 rfl)).trans (.msg _ _ _ _ _ _ _)) hreset).trans
    (.of_shown (.livePut _ (AX_FB_STATUS_MISS_RUN k) _ (by simp [fbLive, AX_FB_STATUS_MISS_RUN])))

theorem Device.fb_missCounted : (d.missCounted k).fb k =
    (d.fb k).withPri { (d.fb k).pri with miss := (d.fb k).pri.miss + 1, good := 0, froze := 0 } := by
  have hreset : (d.missReset k).fb k = _ := d.fb_setPri k _
  rw [Device.missCounted, Device.fb_livePut]
  split
  · rw [Device.fb_msg, Device.fb_raise, hreset]
  · exact hreset

theorem Local.missTaken : Local (· = AX_FB_EVENT k) (fbLive k) d (d.missTaken k) k :=
  (((Local.missCounted d k).trans (.of_shown (.srcSetPos _ k 0 _))).trans (.of_shown (.srcShow _ k 0 _ _))).trans
    (.of_shown (.srcHist _ k none))

/-- MISS is raised by the first miss. -/
theorem Device.miss_missTaken (h : (d.fb k).pri.miss = 0) : (d.missTaken k).has (AX_FB_EVENT_MISS k) = true := by
  have hcounted : (d.missCounted k).has (AX_FB_EVENT_MISS k) = true := by
    rw [Device.missCounted, if_pos h]
    exact Device.has_raise (d.missReset k) (f := AX_FB_EVENT_MISS k) (by simp only [AX_FB_EVENT_MISS]; decide) rfl
  have hshown : Shown (fbLive k) (d.missCounted k) (d.missTaken k) k :=
    ((Shown.srcSetPos _ k 0 _).trans (.srcShow _ k 0 _ _)).trans (.srcHist _ k none)
  rw [Device.has, hshown.get]
  exact hcounted

theorem Device.fb_missTaken : ∃ q, (d.missTaken k).fb k = (d.fb k).withPri q ∧ q.r = (d.fb k).pri.r ∧
    q.p = (d.fb k).pri.p + fdiv ((d.fb k).pri.vel * d.clk.len) (2 ^ 8) ∧ q.miss = (d.fb k).pri.miss + 1 ∧ q.good = 0 ∧
    q.valid = (d.fb k).pri.valid ∧ q.lost = (d.fb k).pri.lost ∧ q.evaluated = true := by
  rw [Device.missTaken, Device.srcHist, Device.fb_setPri, Device.fb_srcShow, Device.srcSetPos, Device.fb_liveWrS64, Device.fb_setPri,
    Device.fb_missCounted, FbUnit.withPri_withPri, FbUnit.withPri_withPri]
  exact ⟨_, rfl, rfl, rfl, rfl, rfl, rfl, rfl, rfl⟩

theorem priSeen_missTaken : (priSeen (d.missTaken k) k).2.2 = true := by
  rw [Device.missTaken, priSeen_congr (Device.live_srcHist _ _ _), priSeen_placed]

variable {d k}

/-- A TIMEOUT short of MISS_LIMIT. -/
theorem Device.srcMiss_plain (hlimit : (d.fb k).pri.miss + 1 < max 1 (d.get (AX_FB_LOSS_MISS_LIMIT k))) :
    d.srcMiss k 0 2 none = d.missTaken k := by
  unfold Device.srcMiss
  extract_lets s first d1 d2 kind d3 d4 d5 d6
  have h4 : d4 = d.missCounted k := by
    have h1 : d1 = d.missReset k := rfl
    have hkind : kind = 2 := rfl
    have hfirst : first = true ↔ (d.fb k).pri.miss = 0 := by simp [first, s, FbUnit.src]
    have h3 : d3 = if (d.fb k).pri.miss = 0 then ((d.missReset k).raise (AX_FB_EVENT_MISS k)).msg 4 k 2 0 else d.missReset k := by
      simp only [d3, d2, h1, hkind, hfirst]
      by_cases hm : (d.fb k).pri.miss = 0 <;> simp [hm]
    simp only [d4, h3, if_true]
    rfl
  have hvel : (d4.fb k).pri.vel = (d.fb k).pri.vel := by
    rw [h4, Device.fb_missCounted]
    rfl
  have hlen : d4.clk.len = d.clk.len := by rw [h4, (Local.missCounted d k).clk]
  have h6 : d6 = d.missTaken k := by
    simp only [d6, d5, hvel, hlen]
    rw [h4]
    rfl
  have hmiss : s.miss = (d.fb k).pri.miss := rfl
  rw [if_neg (by simp only [hmiss, Bool.and_eq_true, decide_eq_true_eq]; omega)]
  exact h6

end Miss

/-! ### The one user of a port -/

theorem not_injStatus (k kind : Nat) : ¬ INJ_STATUS 4 k kind = AX_FB_EVENT k := by
  simp only [INJ_STATUS, AX_FB_EVENT]
  omega

/-- What a port delivers to its one user, whose secondary source is still to come. -/
theorem Device.portDeliver_sole {d : Device} {p k : Nat} {x : SrcIn} (husers : d.portUsers p = [(k, 0)])
    (heval : (d.fb k).pri.evaluated = false) (hsec : (d.fb k).sec.evaluated = false) (hlost : (d.fb k).lostNow = [])
    (hinj : ∀ kind < 8, d.injPending 4 k kind = false) (ha : noneAwaits d)
    (hlocal : Local (· = AX_FB_EVENT k) (fbLive k) d (d.srcHeard k 0 x) k) {q : FbSrc} (hq : (d.srcHeard k 0 x).fb k = (d.fb k).withPri q) :
    d.portDeliver p x = d.srcHeard k 0 x := by
  have hplain : d.srcEval k 0 x = d.srcHeard k 0 x := Device.srcEval_plain heval hinj fun kind hkind =>
    (Device.injPending_of_regs hlocal.regs (not_injStatus k kind)).trans (hinj kind hkind)
  have hwaits : noneAwaits (d.srcHeard k 0 x) := fun c hc => by
    rw [Device.cy, hlocal.convoys]
    exact ha c hc
  unfold Device.portDeliver
  rw [husers, List.foldl_cons, List.foldl_nil, hplain,
    Device.fbFinish_waiting (by rw [hq, FbUnit.sec_withPri, hsec]) (by rw [hq, FbUnit.lostNow_withPri, hlost]),
    Device.cyCatchUp_of_noneAwaits hwaits]

section Port
variable {d e : Device} {p k : Nat}

/-- The port's registers and state beside its one user. -/
structure Beside (d e : Device) (p : Nat) : Prop extends Unshared d e p where
  fbs : e.fbs = d.fbs
  live : e.live = d.live

theorem Beside.fb (h : Beside d e p) (j : Nat) : e.fb j = d.fb j := Device.fb_congr h.fbs j

theorem Beside.rd (h : Beside d e p) (hp : p < 16) {a : Nat} (ha : 0x100000 ≤ a) : e.rd a = d.rd a :=
  h.regs a fun ⟨o, ho, heq⟩ => by omega

theorem Beside.rdS64 (h : Beside d e p) (hp : p < 16) {a : Nat} (ha : 0x100000 ≤ a) : e.rdS64 a = d.rdS64 a := by
  simp only [Device.rdS64, Device.rd64, h.rd hp ha, h.rd hp (show 0x100000 ≤ a + 4 by omega)]

theorem Beside.get (h : Beside d e p) (hp : p < 16) {f : Fld} (hf : 0x100000 ≤ f.addr) : e.get f = d.get f := by
  simp only [Device.get, h.rd hp hf]

theorem Beside.of_rest (h : Unshared d e p) (hrest : { e with ports := d.ports, regs := d.regs } = d) : Beside d e p := by
  have hfbs := congrArg Device.fbs hrest
  have hlive := congrArg Device.live hrest
  exact { h with fbs := hfbs, live := hlive }

theorem Beside.taken (d : Device) (p raw width : Nat) (sgnd : Bool) : Beside d (d.taken p raw width sgnd) p :=
  .of_rest ((Heard.refl d p).unshared_taken raw width sgnd) (d.rest_taken p raw width sgnd d)

theorem isEvent_timeout (p : Nat) : isEvent p (FB_EVENT_TIMEOUT p) := ⟨rfl, by simp only [FB_EVENT_TIMEOUT]; decide, rfl⟩

theorem isCounter_timeout (p : Nat) : ∀ f ∈ some (FB_ERRCNT_TMO p), isCounter p f := by
  intro f hf
  obtain rfl := Option.mem_some.mp hf
  exact ⟨rfl, by simp only [FB_ERRCNT_TMO]; decide, rfl⟩

theorem Beside.missed (d : Device) (p : Nat) : Beside d (d.missed p (FB_EVENT_TIMEOUT p) (some (FB_ERRCNT_TMO p))) p :=
  .of_rest ((Heard.refl d p).unshared_missed (isEvent_timeout p) (isCounter_timeout p)) Device.rest_missed

/-- What the port finds at its one user. -/
structure Reached (d e : Device) (p k : Nat) : Prop where
  users : e.portUsers p = [(k, 0)]
  fb : ∀ j, e.fb j = d.fb j
  up : Up e k
  inj : ∀ kind < 8, e.injPending 4 k kind = false
  awaits : noneAwaits e

theorem Beside.reached (h : Beside d e p) (hp : p < 16) (hs : soleUser d p k) : Reached d e p k := by
  obtain ⟨husers, -, -, hlost, habsent, -, -, hvmin, hinj, -, ha⟩ := hs
  refine ⟨(h.portUsers hp).trans husers, h.fb, ⟨?_, ?_, ?_⟩, fun kind hkind => ?_, h.noneAwaits ha⟩
  · rw [h.fb, hlost]
  · rw [h.fb, habsent]
  · rw [Device.rdN, h.rd hp (by simp only [AX_FB_FREEZE_VMIN]; omega)]
    exact hvmin
  · refine Eq.trans ?_ (hinj kind hkind)
    rw [Device.injPending, h.get hp (by simp only [INJ_STATUS_REMAINING, INJ_STATUS]; omega), Device.injPending]

end Port

/-- The sample that the one user of a port takes from a word. -/
theorem Device.portSample_sole {d : Device} {p k : Nat} (hp : p < 16) (hk : k < 192) (hs : soleUser d p k) (raw width : Nat) (sgnd : Bool) :
    let r := (d.fb k).pri.take raw width true sgnd
    let pos := fdiv (r * d.rdS64 (AX_FB_SCALE k)) (2 ^ 16) + d.rdS64 (AX_FB_OFFSET k)
    let e := d.portSample p raw width sgnd
    e.clk = d.clk ∧ (∃ q, e.fb k = (d.fb k).withPri q ∧ (d.fb k).pri.Sampled q r pos) ∧
      priSeen e k = (toS 64 (ofS 64 pos), true, false) ∧ ∀ j, j ≠ k → e.fb j = d.fb j := by
  intro r pos e
  have hbeside := Beside.taken d p raw width sgnd
  have hreached := hbeside.reached hp hs
  obtain ⟨-, heval, hsec, -, -, hlost, -, -, -, -, -⟩ := hs
  obtain ⟨hshown, ⟨q, hq, hsampled⟩, hseen⟩ := Device.sampled_srcWord hreached.up raw width sgnd
  have hpos : (d.taken p raw width sgnd).srcPos k 0 r = pos := by
    rw [Device.srcPos, Device.srcScale, if_pos rfl, srcOffset, if_pos rfl, hbeside.rdS64 hp (by simp only [AX_FB_SCALE]; omega),
      hbeside.rdS64 hp (by simp only [AX_FB_OFFSET]; omega)]
  have he : e = (d.taken p raw width sgnd).srcWord k 0 raw width true sgnd none :=
    (d.portSample_eq p raw width sgnd).trans (Device.portDeliver_sole hreached.users (by rw [hreached.fb, heval])
      (by rw [hreached.fb, hsec]) (by rw [hreached.fb, hlost]) hreached.inj hreached.awaits (.of_shown hshown) hq)
  rw [hreached.fb] at hq hsampled hseen
  rw [hpos] at hsampled hseen
  rw [he]
  exact ⟨hshown.clk.trans hbeside.clk, ⟨q, hq, hsampled⟩, hseen, fun j hj => (hshown.others j hj).trans (hreached.fb j)⟩

/-- The miss that the one user of a port takes from a TIMEOUT short of MISS_LIMIT. -/
theorem Device.portMiss_sole {d : Device} {p k : Nat} (hp : p < 16) (hk : k < 192) (hs : soleUser d p k)
    (hlimit : (d.fb k).pri.miss + 1 < max 1 (d.get (AX_FB_LOSS_MISS_LIMIT k))) :
    let u := (d.fb k).pri
    let e := d.portMiss p 2
    e.clk = d.clk ∧ (∃ q, e.fb k = (d.fb k).withPri q ∧ q.r = u.r ∧ q.p = u.p + fdiv (u.vel * d.clk.len) (2 ^ 8) ∧ q.miss = u.miss + 1 ∧
      q.good = 0 ∧ q.valid = u.valid ∧ q.lost = false ∧ q.evaluated = true) ∧ (priSeen e k).2.2 = true ∧
      (u.miss = 0 → e.has (AX_FB_EVENT_MISS k) = true) ∧ ∀ j, j ≠ k → e.fb j = d.fb j := by
  intro u e
  have hbeside := Beside.missed d p
  have hreached := hbeside.reached hp hs
  obtain ⟨-, heval, hsec, hlost0, -, hlost, -, -, -, -, -⟩ := hs
  generalize hb : d.missed p (FB_EVENT_TIMEOUT p) (some (FB_ERRCNT_TMO p)) = b at hbeside hreached
  have hplain : b.srcHeard k 0 (.miss 2 none) = b.missTaken k := Device.srcMiss_plain (by
    rw [hreached.fb, hbeside.get hp (by simp only [AX_FB_LOSS_MISS_LIMIT, AX_FB_LOSS]; omega)]
    exact hlimit)
  obtain ⟨q, hq, hr, hpos, hmiss, hgood, hvalid, hkept, hdone⟩ := b.fb_missTaken k
  have he : e = b.missTaken k := by
    refine (d.portMiss_timeout p).trans ?_
    rw [hb, Device.portDeliver_sole hreached.users (by rw [hreached.fb, heval]) (by rw [hreached.fb, hsec])
      (by rw [hreached.fb, hlost]) hreached.inj hreached.awaits (hplain ▸ Local.missTaken b k) (hplain ▸ hq), hplain]
  rw [hreached.fb] at hq hr hpos hmiss hvalid hkept
  rw [he]
  exact ⟨(Local.missTaken b k).clk.trans hbeside.clk,
    ⟨q, hq, hr, hpos.trans (by rw [hbeside.clk]), hmiss, hgood, hvalid, hkept.trans hlost0, hdone⟩, priSeen_missTaken b k,
    fun hm => b.miss_missTaken k (by rw [hreached.fb]; exact hm), fun j hj => ((Local.missTaken b k).others j hj).trans (hreached.fb j)⟩

end Machine

/-- A word of an SSI port without parity, taken by the port's one user. -/
theorem leads_ssiTransferDone_sole {s : State} {p : Fin 16} {k : Fin 192} (hr : s.dev.inReset = false) (hs : soleUser s.dev p k)
    {w : BitVec 64} {raw n : Nat} {sgnd : Bool} (hdone : s.dev.ssiDone p w.toNat = s.dev.portSample p raw n sgnd) :
    leads (.ssiTransferDone p w) s (fun d =>
      let t := (d.fb k).pri
      t.r = (s.dev.fb k).pri.take raw n true sgnd ∧ t.p = fdiv (t.r * s.dev.rdS64 (AX_FB_SCALE k)) (2 ^ 16) + s.dev.rdS64 (AX_FB_OFFSET k) ∧
      t.valid = true ∧ t.miss = 0 ∧ t.good = (s.dev.fb k).pri.good + 1 ∧ t.evaluated = true ∧
      livePos d (AX_FB_POS k) = toS 64 (ofS 64 t.p) ∧ d.liveHas (AX_FB_STATUS_PRI_VALID k) = true ∧
      d.liveHas (AX_FB_STATUS_PRI_EXTRAP k) = false ∧ (d.fb k).sec = (s.dev.fb k).sec ∧ ∀ j, j ≠ k.val → d.fb j = s.dev.fb j) := by
  obtain ⟨hclk, ⟨q, hq, hr', hp, hvalid, hmiss, hgood, heval⟩, hseen, hothers⟩ :=
    Device.portSample_sole p.isLt k.isLt hs raw n sgnd
  refine leads_onDev_of_clk rfl hr hdone hclk ?_
  simp only [priSeen, Prod.mk.injEq] at hseen
  obtain ⟨hpos, hshown, hextrap⟩ := hseen
  dsimp only
  rw [hq, FbUnit.pri_withPri, FbUnit.sec_withPri, hp, hr']
  exact ⟨rfl, rfl, hvalid, hmiss, hgood, heval, hpos, hshown, hextrap, rfl, hothers⟩

theorem sampleAndMissOfAnAxisSource : Claims.SampleAndMissOfAnAxisSource := by
  intro s p k hr hs hm hb
  refine ⟨fun w hpar hl => ?_, fun hlimit hdue => ?_⟩
  · exact leads_ssiTransferDone_sole hr hs ((Device.ssiDone_judged w.toNat hm hb (by simp [hl])).trans (if_pos (.inl hpar)))
  · obtain ⟨hclk, ⟨q, hq, hkept, hpos, hmiss, hgood, hvalid, hlost, hdone⟩, hextrap, hraised, hothers⟩ :=
      Device.portMiss_sole p.isLt k.isLt hs hlimit
    refine leads_onDev_of_clk rfl hr (Device.serialTimedOut_due (by rw [hm]) (by rw [hm]; decide) hb (.inl hdue)) hclk ?_
    dsimp only
    rw [hq, FbUnit.pri_withPri, FbUnit.sec_withPri]
    exact ⟨hkept, hpos, hmiss, hgood, hvalid, hlost, hdone, hextrap, hraised, rfl, hothers⟩

/-- Settles O31: a transfer ends with the position or the miss that its checks decide, and its one axis takes the sample or
extrapolates. -/
theorem serialTransfersAndSamples : Obligations.SerialTransfersAndSamples := ⟨serialTransfersTakeOrMiss, sampleAndMissOfAnAxisSource⟩

end Sys2Proof
end

section
/-! SETPOS, the end of a ride-through, levels passed through and emulated edges (R177, R188, R189, R202). -/

namespace Sys2Proof

open Sys2Proof.Machine
open Claims (samePorts)

namespace Machine

/-! ### SETPOS (R177, R178) -/

section SetPos
variable (d : Device) (k : Nat)

theorem Device.fb_setFb_other (f : FbUnit → FbUnit) {j : Nat} (h : j ≠ k) : (d.setFb k f).fb j = d.fb j :=
  Store.pick_upd_other d.fbs {} k j f h

/-- The block with a jump of the position waiting for a boundary `n` on. -/
def Device.setposWaits (n : Nat) (shift : Bool) : Device :=
  d.setFb k fun u => { u with setposs := u.setposs ++ [(d.clk.beat + n, shift, d.rdS64 (AX_FB_SETPOS k))] }

theorem Device.setpos_off {d : Device} {k : Nat} (h : d.axState k = axOFF) : d.setpos k = d.setposWaits k 1 false := if_pos h

theorem Device.setpos_rests {d : Device} {k : Nat} (h : d.axState k ≠ axOFF) (hst : d.plState k = plIDLE ∨ d.plState k = plHELD) :
    d.setpos k = (d.setposWaits k 2 true).plSquash k := (if_neg h).trans (if_pos hst)

theorem Device.setpos_refused {d : Device} {k : Nat} (h : d.axState k ≠ axOFF) (hi : d.plState k ≠ plIDLE) (hh : d.plState k ≠ plHELD) :
    d.setpos k = d.raise (AX_FB_EVENT_REFUSED k) := (if_neg h).trans (if_neg (not_or.mpr ⟨hi, hh⟩))

theorem Device.fb_setposWaits (n : Nat) (shift : Bool) : (d.setposWaits k n shift).fb k =
    { d.fb k with setposs := (d.fb k).setposs ++ [(d.clk.beat + n, shift, d.rdS64 (AX_FB_SETPOS k))] } :=
  d.fb_setFb_same k _

theorem Device.fb_setposWaits_other (n : Nat) (shift : Bool) {j : Nat} (h : j ≠ k) : (d.setposWaits k n shift).fb j = d.fb j :=
  d.fb_setFb_other k _ h

end SetPos

theorem fbs_of_otherUnits {d e : Device} (h : otherUnits e = otherUnits d) : e.fbs = d.fbs := by
  have hfbs := congrArg Device.fbs h
  exact hfbs

/-! ### The levels of a port (R188) -/

theorem andN_seven {n : Nat} (h : n < 8) : andN n 7 = n := Nat.and_two_pow_sub_one_of_lt_two_pow (n := 3) h

/-- Levels passed through stand on the pins whole. -/
theorem Device.passEdge_eq (d : Device) (p : Nat) {lv : Nat} (h : lv < 8) :
    d.passEdge p lv = (d.setPort p fun s => { s with pins := lv }).passAll := by
  have hpins : ∀ n, andN n (7 - 7) + andN lv 7 = lv := fun n => by
    rw [andN_seven h, andN, Nat.and_zero, Nat.zero_add]
  rw [Device.passEdge, Device.pinsSet]
  simp only [hpins]

/-! ### Emulated edges (R189) -/

section Emulation
variable (d : Device) (p : Nat)

/-- The tick of the beat at which the next emulated edge is in its place. -/
def Device.emuDue : Nat :=
  ((d.port p).emuE - (d.port p).emuNext).natAbs * d.clk.len / max 1 ((d.port p).emuTarget - (d.port p).emuNext).natAbs

/-- The least distance of an emulated edge from the one before is kept. -/
def Device.emuSpaced : Prop := (d.port p).emuLast = 0 ∨ (d.port p).emuLast + max 2 (d.get (FB_EMU_MINSP p)) ≤ d.clk.now

/-- A port one emulated count nearer to its target. -/
def FbPort.emulated (now zper : Nat) (q : FbPort) : FbPort :=
  { q with emuE := q.emuE + sgn (q.emuTarget - q.emuE), emuLast := now, lines := emuLines (q.emuE + sgn (q.emuTarget - q.emuE)) zper }

variable {d p}

theorem not_emuSpaced : ¬ d.emuSpaced p ↔
    (d.port p).emuLast ≠ 0 ∧ d.clk.now < (d.port p).emuLast + max 2 (d.get (FB_EMU_MINSP p)) := by
  rw [Device.emuSpaced, not_or, not_le]

theorem Device.emuEdge_idle (h : d.portMode p ≠ 7 ∨ (d.port p).emuE = (d.port p).emuTarget ∨ d.clk.tick < d.emuDue p ∨ ¬ d.emuSpaced p) :
    d.emuEdge p = d := by
  rw [not_emuSpaced] at h
  exact if_pos h

theorem Device.emuEdge_due (hmode : d.portMode p = 7) (hne : (d.port p).emuE ≠ (d.port p).emuTarget) (hdue : d.emuDue p ≤ d.clk.tick)
    (hsp : d.emuSpaced p) : PortAs d (d.emuEdge p) p ((d.port p).emulated d.clk.now (d.rdN (FB_EMU_ZPER p))) := by
  have hgo : ¬ (d.portMode p ≠ 7 ∨ (d.port p).emuE = (d.port p).emuTarget ∨ d.clk.tick < d.emuDue p ∨
      ((d.port p).emuLast ≠ 0 ∧ d.clk.now < (d.port p).emuLast + max 2 (d.get (FB_EMU_MINSP p)))) := by
    rw [← not_emuSpaced]
    simp [hmode, hne, hdue, hsp]
  have hedge : d.emuEdge p = (d.setPort p fun s => { s with
      emuE := ((d.port p).emulated d.clk.now (d.rdN (FB_EMU_ZPER p))).emuE, emuLast := d.clk.now,
      lines := ((d.port p).emulated d.clk.now (d.rdN (FB_EMU_ZPER p))).lines }).passAll := if_neg hgo
  rw [hedge]
  refine ((PortAs.refl d p).setPort _).passAll ?_
  change d.portMode p ≠ 6
  rw [hmode]
  decide

theorem sgn_toward {a b : Int} (h : a ≠ b) : sgn (b - a) = if a < b then 1 else -1 := by
  unfold sgn
  split_ifs <;> omega

end Emulation

/-! ### Convoys that stop with a member (R82, R84): of every axis's control nothing differs -/

/-- The snapshot registers that a change of the convoys may write. -/
def steerLive (a : Nat) : Prop := planLive a ∨ ∃ c < 32, a = GL_CY_STATUS c

theorem not_steerLive_axStatus (k : Nat) : ¬ steerLive (AX_STATUS k) := by
  rintro (h | ⟨c, hc, h⟩)
  · exact not_planLive_axStatus k h
  · simp only [AX_STATUS, GL_CY_STATUS] at h
    omega

/-- Between the blocks planners, convoys and what follows them alone differ. -/
abbrev Steers (d e : Device) : Prop := Aside planReg steerLive d e

namespace Steers
variable {d e : Device}

theorem of_plans (h : Plans d e) : Steers d e := h.mono (fun _ ha => ha) fun _ => .inl

theorem of_squashed {ks : List Nat} (h : Squashed d e ks) : Steers d e where
  clk := clk_of_otherUnits h.units
  axes := by
    have haxes := congrArg Device.axes h.units
    exact haxes
  regs := h.regs.mono fun _ ha => (squashReg_inFrame ha).imp (fun ⟨j, _, hj⟩ => ⟨j, hj⟩) id
  live f hf := h.live f fun j _ hj => hf (.inl ⟨j, hj⟩)

variable (d) (c : Nat)

theorem setPl (k : Nat) (f : Planner → Planner) : Steers d (d.setPl k f) := .same rfl rfl rfl rfl
theorem setCy (f : Convoy → Convoy) : Steers d (d.setCy c f) := .same rfl rfl rfl rfl
theorem msg (cls inst kind x : Nat) : Steers d (d.msg cls inst kind x) := .same rfl rfl rfl rfl
theorem plSquashes (ks : List Nat) : Steers d (d.plSquashes ks) := of_squashed (d.squashed_plSquashes ks)

theorem msSquash {ms : List Nat} (hms : ∀ m ∈ ms, m < 16) : Steers d (d.msSquash ms) where
  clk := clk_of_otherUnits (d.otherUnits_msSquash ms)
  axes := by
    have haxes := congrArg Device.axes (d.otherUnits_msSquash ms)
    exact haxes
  regs := (sameRegs_msSquash d hms).mono fun _ => .inr
  live f _ := d.liveGet_msSquash ms f

theorem cyGen : Steers d (d.cyGen c) := Aside.foldl (d.cyMembers c) (fun b m _ => setPl b m.2 _) d

theorem cyInstall : Steers d (d.cyInstall c) :=
  (((setCy d c _).trans (plSquashes _ _)).trans (cyGen _ c)).trans (msSquash _ fun _ hm => Device.lt_of_mem_msOfConvoy _ hm)

variable {c} (hc : c < 32)
include hc

theorem setCyState (st : Nat) : Steers d (d.setCyState c st) := .livePut d _ _ (.inr ⟨c, hc, rfl⟩)

theorem cyCount : Steers d (d.cyCount c) := (Aside.livePut d _ _ (.inr ⟨c, hc, rfl⟩)).trans (setCyState _ hc _)

theorem cyStopAs (kind : Nat) : Steers d (d.cyStopAs c kind) := ((setCy d c _).trans (setCyState _ hc _)).trans (cyInstall _ c)

theorem cyDrop (j kind : Nat) : Steers d (d.cyDrop c j kind) :=
  (((setPl d _ _).trans (setCy _ c _)).trans (plSquashes _ _)).trans (cyCount _ hc)

omit hc

theorem capChanged (n : Nat) : ∀ (d : Device) (k : Nat), Steers d (d.capChanged n k) := by
  induction n with
  | zero => exact fun d _ => .refl d
  | succ n ih =>
    intro d k
    unfold Device.capChanged
    split
    · exact .ite (of_plans (.plInstall d k)) (of_plans (.plReport d k))
    · next c j hcy =>
      obtain ⟨hc, -⟩ := Device.cyOf_some hcy
      refine .ite (.ite (cyInstall d c) (.refl d)) (.ite (.refl d) ?_)
      split
      · exact .ite (.refl d) ((setPl d _ _).trans (ih _ _))
      · exact .ite (cyInstall d _) (.refl d)
      · exact .ite ((cyDrop d hc j 2).trans (msg _ _ _ _ _)) (.refl d)

theorem cyRecap (c : Nat) : Steers d (d.cyRecap c) := by
  unfold Device.cyRecap
  exact .ite (.ite (.refl d) ((setPl d _ _).trans (capChanged _ _ _))) (.ite (cyInstall d _) (.refl d))

theorem cyMemberStop (k kind : Nat) (report react : Bool) : Steers d (d.cyMemberStop k kind report react) := by
  unfold Device.cyMemberStop
  split
  · exact .refl d
  · next c j hcy =>
    obtain ⟨hc, -⟩ := Device.cyOf_some hcy
    extract_lets s st d1
    have h1 : Steers d d1 := (cyDrop d hc j kind).trans (cyRecap _ c)
    exact .ite (.ite (cyStopAs d hc kind) (.refl d)) (.ite (.ite (h1.trans (msg d1 _ _ _ _)) h1) (.refl d))

theorem axReact (k : Nat) : Steers d (d.axReact k) := by
  unfold Device.axReact
  exact .ite (cyMemberStop d k _ _ _) (.ite (.refl d) (of_plans (.plDisable d k)))

end Steers

/-! ### The end of a ride-through (R202) -/

/-- Axis `k`'s control, its state and its feedback events are the same in both blocks. -/
structure AxisKept (k : Nat) (d e : Device) : Prop where
  ax : e.ax k = d.ax k
  state : e.axState k = d.axState k
  events : e.rd (AX_FB_EVENT k) = d.rd (AX_FB_EVENT k)

namespace AxisKept
variable {d e f : Device} {k : Nat}

theorem refl (d : Device) : AxisKept k d d := ⟨rfl, rfl, rfl⟩

theorem trans (h : AxisKept k d e) (g : AxisKept k e f) : AxisKept k d f :=
  ⟨g.ax.trans h.ax, g.state.trans h.state, g.events.trans h.events⟩

theorem ite {p : Prop} [Decidable p] (h : AxisKept k d e) (g : AxisKept k d f) : AxisKept k d (if p then e else f) := by
  split
  · exact h
  · exact g

theorem foldl {α : Type} {g : Device → α → Device} (hg : ∀ d x, AxisKept k d (g d x)) (l : List α) :
    ∀ d, AxisKept k d (l.foldl g d) := by
  induction l with
  | nil => exact refl
  | cons x l ih => exact fun d => (hg d x).trans (ih _)

theorem of_steers (h : Steers d e) : AxisKept k d e :=
  ⟨h.ax k, h.axState (not_steerLive_axStatus k),
    h.regs _ (not_planReg (k := k) (o := 0x30C) (by simp only [AX_FB_EVENT]; omega) (by decide) (.inr (by decide)))⟩

variable (d) {a : Nat} (ha : a ≠ k)
include ha

theorem setAx (g : AxisCtl → AxisCtl) : AxisKept k d (d.setAx a g) := ⟨d.ax_setAx_other a g (Ne.symm ha), rfl, rfl⟩

theorem livePut (g : Fld) (v : Nat) (hg : g.addr = AX_STATUS a) : AxisKept k d (d.livePut g v) := by
  refine ⟨rfl, d.liveGet_livePut_addr g _ v ?_, rfl⟩
  simp only [hg, AX_STATUS_STATE, AX_STATUS]
  omega

theorem setAxState (st : Nat) : AxisKept k d (d.setAxState a st) := livePut d ha _ _ rfl

theorem axWithdraw (cause : Option Nat) : AxisKept k d (d.axWithdraw a cause) := by
  cases cause with
  | none => exact setAx d ha _
  | some c => exact (setAx d ha _).trans (livePut _ ha _ _ rfl)

/-- A disable of another axis. -/
theorem disable1 (cause delay : Nat) : AxisKept k d (d.disable1 a cause delay) := by
  unfold Device.disable1
  exact .ite (axWithdraw d ha _) (.ite (((setAx d ha _).trans (setAxState _ ha _)).trans (of_steers (.axReact _ a)))
    (.ite ((setAx d ha _).trans (setAxState _ ha _)) (.refl d)))

omit ha

theorem axRefresh : (d.axRefresh k).axState k = d.axState k ∧ (d.axRefresh k).rd (AX_FB_EVENT k) = d.rd (AX_FB_EVENT k) ∧
    ((d.axRefresh k).ax k).rest = (d.ax k).rest := by
  have h := Refreshed.axRefresh (k := k) d
  obtain ⟨i, w, hown⟩ := h.own
  exact ⟨h.liveGet _, h.rd _, by rw [hown]⟩

end AxisKept

/-- The registers below the axes' blocks, those of the FIO channels among them. -/
def belowAxes (a : Nat) : Prop := a < 0x100000

section RideEnd
variable (d : Device) (k : Nat)

theorem belowAxes_fioOut (c : Nat) : belowAxes (fioOut c).addr := by
  unfold fioOut belowAxes
  split <;> simp only [FIO_OUT, FIO_OUT_HI] <;> decide

theorem Aside.fioCommand {L : Nat → Prop} {c : Nat} (hc : c < 40) (on : Bool) : Aside belowAxes L d (d.fioCommand c on) := by
  have hstatus : belowAxes (FIO_CH_STATUS c) := by simp only [belowAxes, FIO_CH_STATUS]; omega
  have hfio : ∀ (e : Device) (f : FioCh → FioCh), Aside belowAxes L e (e.setFio c f) := fun _ _ => .same rfl rfl rfl rfl
  unfold Device.fioCommand
  refine .ite ((Aside.put d FIO_STATUS_REFUSE_LAST 1 (by unfold belowAxes; decide)).trans (.put _ FIO_EVENT_REFUSED 1 (by unfold belowAxes; decide))) ?_
  extract_lets d1 d2
  have h1 : Aside belowAxes L d d1 := ((Aside.put d _ _ (belowAxes_fioOut c)).trans (.put _ _ _ hstatus)).trans (.put _ _ _ hstatus)
  have h2 : Aside belowAxes L d1 d2 := .ite (.refl d1) (.put d1 _ _ hstatus)
  exact (h1.trans h2).trans ((hfio d2 _).trans (.ite (.refl _) (hfio _ _)))

/-- The brake has its own bit of AX_STATUS, and its channel's registers. -/
theorem AxisKept.brake (on : Bool) : AxisKept k d (d.brake k on) := by
  unfold Device.brake
  extract_lets c
  split
  next hc =>
    have hfio : Aside belowAxes (fun _ => False) (d.livePut (AX_STATUS_BRAKE k) (b2n on)) ((d.livePut (AX_STATUS_BRAKE k) (b2n on)).fioCommand c on) :=
      .fioCommand _ hc on
    refine ⟨hfio.ax k, (hfio.axState id).trans ?_, hfio.regs _ (by simp only [belowAxes, AX_FB_EVENT]; omega)⟩
    exact d.liveGet_livePut_bits (AX_STATUS_BRAKE k) (AX_STATUS_STATE k) _
      (.inl (by simp only [AX_STATUS_BRAKE, AX_STATUS_STATE]; decide)) (by simp only [AX_STATUS_STATE]; decide)
  next => exact .refl d

/-- The set-point of axis `k` rests, or RIDE_TIME is over. -/
def Device.rideOver : Prop := ((d.pl k).cur.v = 0 ∧ (d.pl k).cur.a = 0 ∧ (d.pl k).next.v = 0) ∨
  min 1000 (max 1 (d.get (AX_FB_LOSS_RIDE_TIME k))) * 10000 ≤ (d.clk.beat - (d.fb k).rideStart) * d.clk.len

/-- Axis `k` at the rest of its ride, its event raised. -/
def Device.rideRests : Device := (d.raise (AX_FB_EVENT_RIDE_END k)).axRestAt k

/-- The other axis of a pair disabled with the axis `k` that rode. -/
def Device.pairStops (d1 : Device) (k : Nat) : Device :=
  (d1.pairOf k).foldl (fun d a => if a = k then d else d.disable1 a 4 (d1.get (AX_PL_OFF_DELAY_BEATS ((d1.pairOf k).headD k)))) d1

variable {d k}

theorem rideOver_iff : (decide ((d.pl k).cur.v = 0) && decide ((d.pl k).cur.a = 0) && decide ((d.pl k).next.v = 0) ||
    decide (min 1000 (max 1 (d.get (AX_FB_LOSS_RIDE_TIME k))) * 10000 ≤ (d.clk.beat - (d.fb k).rideStart) * d.clk.len)) = true ↔
    d.rideOver k := by
  simp only [Bool.or_eq_true, Bool.and_eq_true, decide_eq_true_eq, and_assoc, Device.rideOver]

theorem Device.rideEnd_rests (hst : d.axState k = axRIDE) (hrest : (d.ax k).rest = none) (hover : d.rideOver k) :
    d.rideEnd k = ((d.rideRests k).pairStops k).axRefresh k := if_pos ⟨hst, hrest, rideOver_iff.mpr hover⟩

theorem Device.rideEnd_idle (h : d.axState k ≠ axRIDE ∨ (d.ax k).rest ≠ none ∨ ¬ d.rideOver k) : d.rideEnd k = d := by
  rw [← rideOver_iff, ← not_and_or, ← not_and_or] at h
  exact if_neg h

variable (d k)

theorem AxisKept.pairStops : AxisKept k d (d.pairStops k) := by
  refine .foldl (fun b a => ?_) _ d
  split
  · exact .refl b
  · exact .disable1 b ‹_› _ _

theorem Device.rideEnd_shows : let e := ((d.rideRests k).pairStops k).axRefresh k
    e.has (AX_FB_EVENT_RIDE_END k) = true ∧ (e.ax k).rest = some d.clk.beat ∧ e.axState k = d.axState k := by
  intro e
  let rests := (d.raise (AX_FB_EVENT_RIDE_END k)).setAx k fun s => { s with rest := some d.clk.beat }
  have hkept : AxisKept k rests ((d.rideRests k).pairStops k) := (AxisKept.brake rests k false).trans (.pairStops _ k)
  obtain ⟨hstate, hevents, hrest⟩ := AxisKept.axRefresh (k := k) ((d.rideRests k).pairStops k)
  have hregs : sameRegs (d.raise (AX_FB_EVENT_RIDE_END k)) e (· ≠ AX_FB_EVENT k) := fun a ha => by
    rw [not_not.mp ha]
    exact hevents.trans hkept.events
  refine ⟨(hregs.has (f := AX_FB_EVENT_RIDE_END k) (not_not.mpr rfl)).trans (Device.has_raise d ?_ rfl), ?_, hstate.trans hkept.state⟩
  · simp only [AX_FB_EVENT_RIDE_END]
    decide
  · rw [hrest, hkept.ax, Device.ax_setAx_same]

end RideEnd

end Machine

/-! ### The commands -/

section Commands
variable {s : State} (hr : s.dev.inReset = false)
include hr

/-- SETPOS takes effect two boundaries on in IDLE and HELD, the road ahead squashed. -/
theorem leads_setpos_rests {k : Fin 192} (hoff : s.dev.axState k ≠ axOFF) (hst : s.dev.plState k = plIDLE ∨ s.dev.plState k = plHELD) :
    leads (.setpos k) s (fun d => d.fb k =
      { s.dev.fb k with setposs := (s.dev.fb k).setposs ++ [(s.dev.clk.beat + 2, true, s.dev.rdS64 (AX_FB_SETPOS k))] } ∧
      d.has (AX_PL_EVENT_SQUASHED k) = true ∧ (d.pl k).gen = (s.dev.pl k).gen + 1 ∧ d.plState k = s.dev.plState k) := by
  let e := s.dev.setposWaits k 2 true
  have hs : Squashed e (e.plSquash k) (e.drawn [k]) := e.squashed_plSquashes [k]
  have hk := e.mem_drawn_self k
  have hclk : (e.plSquash k).clk = s.dev.clk := by rw [clk_of_otherUnits hs.units]; rfl
  refine leads_onDev_of_clk rfl hr (Device.setpos_rests hoff hst) hclk
    ⟨(Device.fb_congr (fbs_of_otherUnits hs.units) k).trans (s.dev.fb_setposWaits k 2 true), hs.raised k hk, ?_,
      hs.low _ (by simp only [AX_PL_STATUS_STATE]; decide)⟩
  rw [hs.pl, if_pos hk]
  rfl

/-- Levels stand on their port's pins, and on the lines of what copies it. -/
theorem leads_passThroughEdge (p : Fin 16) (lv : Fin 8) : leads (.passThroughEdge p lv) s (fun d =>
    { d with ports := s.dev.ports } = s.dev ∧ Claims.samePorts s.dev d p ∧ (d.port p).pins = lv ∧
    d.port p = { s.dev.port p with pins := lv, lines := if s.dev.portMode p = 6 then (d.port p).lines else (s.dev.port p).lines } ∧
    ∀ j < 16, let src := bits (s.dev.port j).ctrl.toNat 16 4
      s.dev.portMode j = 6 → src ≠ j → s.dev.portMode src ≠ 6 → (d.port j).lines = d.pinLevels src) := by
  let e := s.dev.setPort p fun q => { q with pins := lv }
  have hset : PortAs s.dev e p { s.dev.port p with pins := lv } := (PortAs.refl s.dev p).setPort _
  have hcopies : Copies e e.passAll := .passAll e
  have hctrl : ∀ j, (e.port j).ctrl = (s.dev.port j).ctrl := fun j => by
    by_cases hj : j = p
    · rw [hj, hset.own]
    · rw [hset.others j hj]
  have hmode : ∀ j, e.portMode j = s.dev.portMode j := fun j => by rw [Device.portMode, hctrl, Device.portMode]
  have hown : e.passAll.port p =
      { s.dev.port p with pins := lv, lines := if s.dev.portMode p = 6 then (e.passAll.port p).lines else (s.dev.port p).lines } := by
    rw [hcopies.port p, hset.own, hmode]
    split <;> rfl
  have hrest : { e.passAll with ports := s.dev.ports } = s.dev :=
    (congrArg (fun x : Device => { x with ports := s.dev.ports }) hcopies.rest).trans hset.rest
  have hclk := congrArg Device.clk hrest
  refine leads_onDev_of_clk rfl hr (s.dev.passEdge_eq p lv.isLt) hclk
    ⟨hrest, fun j hj => ?_, by rw [hown], hown, fun j hj => ?_⟩
  · rw [hcopies.port j, hmode, hset.others j hj]
    split <;> rfl
  · intro src hj6 hne hsrc
    have hsrc' : e.portMode src ≠ 6 := (hmode src).trans_ne hsrc
    rw [hcopies.pinLevels hsrc']
    exact Device.lines_passAll ((hmode j).trans hj6) (by rw [hctrl]) hne hsrc' hj

end Commands

/-- Settles O30: a jump of the position waits for its boundary, a ride ends with the set-point at rest or with its time, the other axis
of a pair disabled on the way, and a port's new levels reach what copies it. -/
theorem setposRideEndAndEmulation : Obligations.SetposRideEndAndEmulation := by
  intro s k p hr st to_ pl over_ q due spaced
  refine ⟨fun hoff => ?_, leads_setpos_rests hr, fun hoff hidle hheld => ?_, fun hride hrest hover => ?_, fun h => ?_,
    leads_passThroughEdge hr p, fun hmode hne hdue hsp => ?_, fun h => ?_⟩
  · exact leads_onDev_of_clk rfl hr (Device.setpos_off hoff) rfl
      ⟨s.dev.fb_setposWaits k 1 false, fun j hj => s.dev.fb_setposWaits_other k 1 false hj, rfl⟩
  · exact leads_onDev_of_clk rfl hr (Device.setpos_refused hoff hidle hheld) rfl
      ⟨Device.has_raise _ (by simp only [AX_FB_EVENT_REFUSED]; decide) rfl, rfl, .put _ (AX_FB_EVENT_REFUSED k) 1 _ rfl⟩
  · obtain ⟨hevent, hrests, hstate⟩ := s.dev.rideEnd_shows k
    refine leads_onDev _ _ (·.rideEnd k) _ rfl hr ?_
    change (s.dev.rideEnd k).has _ = true ∧ ((s.dev.rideEnd k).ax k).rest = _ ∧ (s.dev.rideEnd k).axState k = _
    rw [Device.rideEnd_rests hride hrest hover]
    exact ⟨hevent, hrests, hstate.trans hride⟩
  · exact leads_onDev_of_clk rfl hr (Device.rideEnd_idle h) rfl rfl
  · have hedge := Device.emuEdge_due hmode hne hdue hsp
    refine leads_onDev_of_clk rfl hr rfl hedge.clk ⟨?_, ?_, ?_, hedge.others, hedge.rest⟩
    · rw [hedge.own, FbPort.emulated, sgn_toward hne]
    · rw [hedge.own]
      rfl
    · rw [hedge.own]
      rfl
  · exact leads_onDev_of_clk rfl hr (Device.emuEdge_idle h) rfl rfl

end Sys2Proof
end
